-- ==== Sys2Proof/Word.lean ====
section
/-! DEFINITION. The word types of the block: bytes, and station-time stamps as whole nanoseconds. -/

namespace Sys2Proof

/-- One byte of a message, a payload or a BLOB object. -/
abbrev Byte := BitVec 8

/-- A byte string, first byte first. -/
abbrev Bytes := List Byte

/-- An instant or a duration in nanoseconds. A TIME80 value (R25) with SECONDS s and NANOSECONDS n is
`s * 10^9 + n`; durations are differences of instants. -/
abbrev Stamp := Int

/-- Nanoseconds in one second. -/
def nsPerSec : Int := 1000000000

end Sys2Proof
end

