-- ==== Sys2Proof/Syntax.lean ====
section
/-! DEFINITION. The commands of the block: one constructor per row of spec/opcode_table.json, in the table's order,
and the types of what each command carries. No row of the table has an operand field: what a command carries is what
the outside world supplies with it (a received frame, a measured value, a message, the port it happens at). -/

namespace Sys2Proof

/-- A line port, 0 to 31 (Table 0.2). -/
abbrev Port := Fin 32
/-- A Porfani lane, 0 to 3 (R372). -/
abbrev Lane := Fin 4
/-- A device number of a cascade, 0 to 15 (R406). -/
abbrev DevNum := Fin 16
/-- An Izvas session: value k stands for session number k + 1 (R434). -/
abbrev SessionNo := Fin 8
/-- An element of FENCE_CTL: ports 0 to 31, sounding engines 32 to 35, hamper interface 36 (R505). -/
abbrev FenceElem := Fin 37
/-- An element of PERF_LEVEL: line engines 0 to 31, sounding engines 32 to 35, queue manager 36 (R485). -/
abbrev PerfUnit := Fin 37
/-- A heat path of the hamper (R531). -/
abbrev Path := Fin 2

/-- The two Porfani ports of a device (R372). -/
inductive Side where
  | up
  | down
  deriving DecidableEq, Repr

/-- The islands that apply committed changes (Table 1.11). The sounding island is named by the port whose
reflectometry objects it applies. -/
inductive Island where
  | lineEngine (p : Port)
  | sounding (p : Port)
  | queueManager
  | timeUnit
  | steward
  | powerController
  | porfani
  | houseFrame
  deriving DecidableEq, Repr

/-- A supply rail the digital die monitors, in the code order of Table 15.5. -/
inductive Rail where
  | vcore
  | vddr
  | vafe
  | vio
  | vld
  deriving DecidableEq, Repr

/-- A TIME payload (Table 9.12): ORIGIN in ns, CORRECTION in 2^-16 ns, QUALITY. -/
structure TimeParcel where
  origin : Stamp
  correction : Int
  quality : Nat
  deriving DecidableEq, Repr

/-- One Izvas request message (Table 10.4) as it arrives: its header fields, its data and its MAC. DATA_LEN and the
parcel's LENGTH are carried apart because R432 compares them. -/
structure IzReq where
  side : Side
  op : Nat
  session : Nat
  tag : Nat
  index : Nat
  sub : Nat
  element : Nat
  count : Nat
  dataLen : Nat
  parcelLength : Nat
  offset : Nat
  rIndex : Nat
  rSub : Nat
  rElement : Nat
  counter : Nat
  data : Bytes
  mac : Bytes
  deriving DecidableEq, Repr

/-- What a correlator measured of a sync run (R148, R151): the sync instant, the post-correlation SNR and the received
power, both in 0.1 dB. -/
structure SyncMeas where
  stamp : Stamp
  snr : Int
  power : Int
  deriving DecidableEq, Repr

/-- A sync run as the correlators found it, with the runs near it (R148, R152). -/
structure SyncRun where
  run : SyncMeas
  near : List SyncMeas
  deriving DecidableEq, Repr

/-- What the service loop finds at the start of a house frame (R17, R22, R460): whether it has work, whether the owner
of slot 0 has a request pending, and how many bytes bulk readout can take in a slot lent to it. -/
structure HouseWork where
  work : Bool
  pending : Bool
  bulk : Nat
  deriving DecidableEq, Repr

/-- A BEACON as a station receives it: its payload, and the SNR it measures on it in 0.25 dB (R225, R243). -/
structure BeaconRx where
  body : Bytes
  snr : Nat
  deriving DecidableEq, Repr

/-- A station and the access window whose slots it draws from, by the instant at which the window begins at the device
(R222). -/
structure StationWindow where
  station : Nat
  window : Stamp
  deriving DecidableEq, Repr

/-- Where an equaliser observation comes from (R184). -/
inductive EqSource where
  | sync
  | header
  | pilot
  | payload
  deriving DecidableEq, Repr

/-- One observation of a frame for its station's equaliser (R184, R185): its source, the point of the 256-point grid, the
known reference there and the value received there before stage 8, real and imaginary parts in one unit. -/
structure EqPoint where
  source : EqSource
  point : Nat
  ref : Int × Int
  y : Int × Int
  deriving DecidableEq, Repr

/-- A frame as the receiver of a port (or of a station) decodes it: sync instant, the 128 header bits and whether their
LDPC decoding converged, the payload with its CRC-32 and whether its LDPC decoding converged, the full-band level in
0.1 dB re 1 V RMS, the MER in 0.1 dB, the SNR of each allotment in 0.25 dB (R243), and what the frame shows of its
station's equaliser (R184). -/
structure LineRx where
  sync : Stamp
  word : Nat
  headerOk : Bool
  body : Bytes
  bodyOk : Bool
  level : Int
  mer : Int
  snr : List Nat
  obs : List EqPoint
  deriving DecidableEq, Repr

/-- The fields of a frame header (Table 3.1). -/
structure Header where
  ver : Nat
  dst : Nat
  src : Nat
  type : Nat
  pace : Nat
  length : Nat
  colour : Nat
  sa : Nat
  seed : Nat
  tag : Nat
  frag : Nat
  fragNo : Nat
  seq : Nat
  deriving DecidableEq, Repr

/-- A frame a station has to send: the header fields it is to carry, and its payload in plaintext (R217). -/
structure Unsent where
  header : Header
  body : Bytes
  deriving DecidableEq, Repr

/-- The samples of one block of the canceller, complex baseband in one unit (R164, R165): the L samples at the input of
stage 5, and the last 2L samples of the port's own transmitted stream, the reference s, which end with the block. -/
structure BlockMeas where
  input : List (Int × Int)
  ref : List (Int × Int)
  deriving DecidableEq, Repr

/-- One sweep record as the sweep path takes it from the ADC (R159, R160, R266): whether an ADC sample clipped, and the
samples of the sweep period before the sweep-path FFE. -/
structure SweepRecord where
  clipped : Bool
  samples : List Int
  deriving DecidableEq, Repr

/-- One insulation measurement (R307): the currents in pA at the positive and the negative polarity for wire A and for
wire B, whether the phases settled, and the capacitance estimated from the settling, in nF. -/
structure InsulationMeas where
  aPlus : Int
  aMinus : Int
  bPlus : Int
  bMinus : Int
  settled : Bool
  capacitance : Nat
  deriving DecidableEq, Repr

/-- What a probe of a station read through MGMT (R246): STN_DS_SNR, STN_DS_FRAMES and STN_DS_ERRORS. -/
structure StationProbe where
  snr : List Nat
  frames : Nat
  errors : Nat
  deriving DecidableEq, Repr

/-- The four moments of R246 at which a station's pace is evaluated. -/
inductive PaceTrigger where
  | periodic
  | upErrors
  | downErrors
  | ceiling
  deriving DecidableEq, Repr

/-- What an entry step observes outside the digital die: whether the 32.768 kHz oscillator runs, and its counter. -/
structure EntryMeas where
  xlfRunning : Bool
  counter : Nat
  deriving DecidableEq, Repr

/-- The detectors of Table 11.7. -/
inductive WakeSource where
  | wakeN
  | porfani (side : Side)
  | bell (p : Port)
  | activity (p : Port)
  deriving DecidableEq, Repr

/-- A fault as its unit reports it (R487, R489). -/
structure FaultReport where
  source : Nat
  cls : Nat
  code : Nat
  unit : Nat
  detail : Nat
  deriving DecidableEq, Repr

/-- The DRAM regions of Table 12.5, with what the page held of each. -/
inductive DramRegion where
  | frameBuffer (queue : Nat)
  | queueDescriptors (queue : Nat)
  | flowContext (flow : Nat)
  | cellMap (p : Port) (first count : Nat)
  | history (p : Port) (pos : Nat)
  | configuration
  | unused
  deriving DecidableEq, Repr

/-- What the check of the patch area found (R500, R577): loaded or not, its CRC-32 good or not, the CRC found, and the
version it carries. -/
structure PatchCheck where
  present : Bool
  crcOk : Bool
  crc : Nat
  version : Nat
  deriving DecidableEq, Repr

/-- The check of the hamper's mask ROM (R546): the CRC-32 recorded in it and the CRC-32 found. -/
structure RomCheck where
  recorded : Nat
  found : Nat
  deriving DecidableEq, Repr

/-- One RTD channel at a sample (R533): open, shorted, and its resistance ratio to the reference as measured. -/
structure RtdMeas where
  isOpen : Bool
  shorted : Bool
  raw : Nat
  deriving DecidableEq, Repr

/-- What the hamper measures at a sample (R533): HMP_HREF in mΩ against its own bandgap, and the four channels. -/
structure HamperMeas where
  href : Nat
  ch0 : RtdMeas
  ch1 : RtdMeas
  ch2 : RtdMeas
  ch3 : RtdMeas
  deriving DecidableEq, Repr

/-- The strap levels ROLE[1:0] and DEVNUM[3:0] (R406, R567). -/
structure Straps where
  role : Fin 4
  devnum : Fin 16
  deriving DecidableEq, Repr

/-- Two measurements of one item of a calibration run and what the run measured (Table 13.2): the items compared, and
the values the step produces. -/
structure CalRun where
  items : List Int
  deriving DecidableEq, Repr

/-- A command: one row of spec/opcode_table.json each, in the order of the table. -/
inductive Instr where
  /-- TIME_PARCEL_RECEIVED (R423). A TIME parcel arrives on the host side; the device adds its delays to CORRECTION
  when it forwards it, and disciplines station time from it when TIME_SOURCE is PORFANI. -/
  | timeParcelReceived (side : Side) (t : TimeParcel) (residence : Int)
  /-- TIME_ORIGINATE (R423). Every 125 ms, a head whose TIME_SOURCE is not PORFANI originates its own TIME parcel with
  CORRECTION 0. -/
  | timeOriginate
  /-- PPS_EDGE (R28). A rising edge on the TSYNC 1PPS input is measured, TSYNC_DELAY is subtracted, and the edge is
  compared with station time. -/
  | ppsEdge
  /-- STATION_TIME_WRITE (R27). A host write of STATION_TIME steps station time when TIME_SOURCE is HOST and is
  refused with STATE otherwise. -/
  | stationTimeWrite (r : IzReq)
  /-- TSYNC_TOD_WRITE (R29). A write of TSYNC_TOD names the SECONDS value of the first 1PPS edge at least 100 ms after
  the write. -/
  | tsyncTodWrite (r : IzReq)
  /-- TSYNC_TOD_NO_EDGE (R30). No 1PPS edge comes within 1.5 s of a TSYNC_TOD write; the value is discarded and a TIME
  fault of severity NOTICE is logged. -/
  | tsyncTodNoEdge
  /-- TIME_HOLDOVER_TIMEOUT (R33). No source update for 3 s while LOCKED moves TIME_QUALITY to HOLDOVER and logs
  SOURCE_LOST. -/
  | timeHoldoverTimeout
  /-- TSYNC_OUT_PULSE (R40). At each whole second of station time TSYNC is driven high for 100 ms when TSYNC_OUT is in
  force. -/
  | tsyncOutPulse
  /-- TSYNC_TIMER_PULSE (R40). At the stamp held in TSYNC_TIMER_AT, TSYNC is driven high for 1 µs when TSYNC_TIMER is
  in force. -/
  | tsyncTimerPulse
  /-- REPLICA_REALIGN (R36). An island whose clock restarted completes the realignment of its station-time replica and
  resumes stamping. -/
  | replicaRealign (source : Nat)
  /-- EVENT_RECORD_ARRIVES (R42). An event record reaches the merger; the merger sets CONCURRENT against other records
  and holds the record. -/
  | eventRecordArrives (source : Nat)
  /-- MERGE_RELEASE (R44). When station time reaches a held record's stamp plus 64 µs the record is delivered in stamp
  order in EVENT parcels. -/
  | mergeRelease
  /-- HOUSE_FRAME_START (R15). A new 1 ms house frame begins; house-frame owners apply committed changes and a new
  HOUSE_SLOT15 owner takes effect. -/
  | houseFrameStart (w : HouseWork)
  /-- HOUSE_SLOT_START (R15). A 62.5 µs slot begins and is served to its owner, or lent to bulk readout when the owner
  has nothing pending. -/
  | houseSlotStart (pending : Bool) (bulk : Nat)
  /-- SLOT_RECLAIM (R18). A request from the owner of a lent slot takes the slot back at the next transaction boundary. -/
  | slotReclaim
  /-- ISLAND_APPLY (R48). An island reaches its apply point and applies the committed change. -/
  | islandApply (i : Island)
  /-- DPD_TRAINING_START (R95). The pre-distorter enters TRAINING at power-up calibration, on a commit of LP_DPD /03 =
  1, or when a line-driver fence is cleared. -/
  | dpdTrainingStart (p : Port)
  /-- DPD_TRAINING_END (R99). After 80 ms of transmit time in TRAINING the coefficients are frozen, stamped and the
  request cleared. -/
  | dpdTrainingEnd (p : Port) (coefs : Bytes) (residual : Int)
  /-- DPD_TIMEOUT (R99). 10 s in TRAINING without 80 ms of transmit time ends training with the previous coefficients
  and a NOTICE fault. -/
  | dpdTimeout (p : Port)
  /-- SYNC_DETECT (R148). A correlator detects a sync run reaching the threshold and holds the frame at its sync instant. -/
  | syncDetect (p : Port) (y : SyncRun)
  /-- HEADER_DECISION (R111). The receiver decodes the header and checks it, discarding header errors and following
  the header's type and length. -/
  | headerDecision (p : Port) (word : Nat) (converged : Bool) (beacon : Option Bytes)
  /-- GRANT_FORM_DECODE (R118). At a granted instant the device searches ±P samples for grant-form headers, decodes
  them and measures arrival offsets. -/
  | grantFormDecode (p : Port) (sa : Nat) (at' : Stamp) (rx : List LineRx)
  /-- REASSEMBLY_TIMEOUT (R138). No last fragment arrives by the reassembly deadline; the reassembly is abandoned and
  counted. -/
  | reassemblyTimeout (p : Port) (src : Nat) (tag : Nat)
  /-- DATA_FRAME_RX (R345). An upstream DATA frame arrives and passes flow lookup, SA check, sequence check, metering
  and placement in a host-bound FIFO. -/
  | dataFrameRx (p : Port) (f : LineRx)
  /-- MGMT_RESPONSE_RX (R157). A management response matching the outstanding REQ_ID answers the proxy request when in
  time, or is counted as late. -/
  | mgmtResponseRx (p : Port) (f : LineRx)
  /-- MGMT_TIMEOUT (R157). A management request's deadline passes without a response; the request is repeated or the
  proxy answers TIMEOUT. -/
  | mgmtTimeout (p : Port) (a : Nat)
  /-- STATION_MGMT_REQUEST (R125). A station answers a READ or WRITE once, re-sending its kept response for a repeated
  REQ_ID. -/
  | stationMgmtRequest (u : Nat) (f : LineRx)
  /-- STATION_COMMISSIONING_BIND (R146). A station holding no association verifies a protected frame under its
  commissioning key and binds the SA. -/
  | stationCommissioningBind (u : Nat) (f : LineRx)
  /-- SA_KEY_WRITE (R145). A committed LP_SA key write takes effect at the line engine's apply point and resets the
  packet-number counters. -/
  | saKeyWrite (p : Port) (e : Nat)
  /-- BELL_DETECT (R135). A bell detector declares a bell after 12 of 16 alternating chirp intervals and counts it. -/
  | bellDetect (p : Port) (hits : List Bool)
  /-- EC_BLOCK (R169). At each 384 µs block boundary the canceller makes a normalised LMS update when R170 admits the
  block. -/
  | ecBlock (p : Port) (b : BlockMeas)
  /-- GUARD_RUN (R280). A run of guarded blocks reaches LR_EPM /04; an ECHO_ALERT of kind GUARD is issued and a
  whole-length focused sounding requested. -/
  | guardRun (p : Port)
  /-- ERLE_MEASUREMENT_COMPLETE (R178). After 26 admitted blocks an ERLE measurement completes and is stamped. -/
  | erleMeasurementComplete (p : Port)
  /-- EC_TRAIN_TIMEOUT (R172). 2 s of used blocks in TRAINING without convergence moves the canceller to TRACKING with
  a NOTICE fault. -/
  | ecTrainTimeout (p : Port)
  /-- EC_RETRAIN_REQUEST (R204). A commit of LP_EC /14 = 1 returns the canceller to TRAINING from its current taps and
  clears the object. -/
  | ecRetrainRequest (p : Port)
  /-- TAP_PUBLICATION (R175). At the publication period a tap set is published and passed to the echo-path monitor. -/
  | tapPublication (p : Port)
  /-- SOUND_FREEZE_END (R174). 384 µs after the last sweep sample the freeze ends and adaptation, ERLE and publication
  resume. -/
  | soundFreezeEnd (p : Port)
  /-- HYBRID_APPLY (R162). A committed hybrid setting takes effect at the next symbol boundary or idle window and the
  canceller retrains. -/
  | hybridApply (p : Port)
  /-- REFRESH_CYCLE_START (R191). In QUIET the device sends the downstream REFRESH of cycle j at T_j. -/
  | refreshCycleStart (p : Port)
  /-- QUIET_GATE_FAIL_COUNT (R202). Three consecutive refresh cycles failing a gate count as drift of the filter. -/
  | quietGateFailCount (p : Port) (a : Nat)
  /-- PORT_ENABLE (R207). LP_STATE /02 = 1 with converter clocks running moves a DOWN port to CHECK. -/
  | portEnable (p : Port)
  /-- PORT_DISABLE (R207). A commit of LP_STATE /02 = 0 moves the port to DOWN and flushes its queues. -/
  | portDisable (p : Port)
  /-- CHECK_RETRY (R208). 10 s after a failed check both DC checks are repeated. -/
  | checkRetry (p : Port)
  /-- LISTEN_END (R209). The listen time ends without a foreign frame; LP_SURVEY is written and the port enters DISCOVER. -/
  | listenEnd (p : Port) (energy : Bytes)
  /-- DISCOVER_END (R207). The discover time ends and the port enters SERVICE. -/
  | discoverEnd (p : Port)
  /-- QUIET_REQUEST (R212). A commit of LP_STATE /04 sets or clears the quiet request of the port. -/
  | quietRequest (p : Port)
  /-- QUIET_EXIT (R212). After the closing REFRESH with FLAGS[0] = 1, the port enters SERVICE when the cycle's
  upstream part ends. -/
  | quietExit (p : Port)
  /-- PORT_PARK (R207). LP_STATE /03 = 1 or power-state entry parks the port with its driver at high impedance. -/
  | portPark (p : Port)
  /-- PORT_UNPARK (R207). A port leaves PARKED for its former state with the canceller retraining from its held taps. -/
  | portUnpark (p : Port)
  /-- BAND_CHANGE (R213). A band change applies; registrations are released silently, filters clear and the port
  returns to LISTEN. -/
  | bandChange (p : Port)
  /-- BEACON_SEND (R224). The device sends a BEACON as the last frame of the last DOWN window before a DISCOVER or
  UP-CONTEND window, or counts it skipped. -/
  | beaconSend (p : Port)
  /-- REG_REQUEST_RX (R228). A REG REQUEST is received and answered by refusal, re-registration or the assignment of
  an address. -/
  | regRequestRx (p : Port) (f : LineRx)
  /-- REG_CONFIRM_RX (R234). A CONFIRM matching the registered identity is acknowledged by a GRANT entry and the
  element becomes ACTIVE. -/
  | regConfirmRx (p : Port) (f : LineRx)
  /-- ELEMENT_EXPIRE (R235). Six DISCOVER and UP-CONTEND windows pass without a frame from a RANGING or CONFIRMING
  station and its element is freed. -/
  | elementExpire (p : Port) (a : Nat)
  /-- HOST_RELEASE (R236). A commit of LP_STATION /12 = 1 sends RELEASE with reason 4, frees the element and fails
  queued proxies. -/
  | hostRelease (p : Port) (a : Nat)
  /-- STATION_RELEASE_RX (R236). A RELEASE from a station matching its identity frees the element and issues a STATION
  record. -/
  | stationReleaseRx (p : Port) (f : LineRx)
  /-- RANGE_RESP_RX (R237). A RANGE RESP is measured against AT and an ADJ with RESULT 0, 1 or 2 is scheduled. -/
  | rangeRespRx (p : Port) (f : LineRx)
  /-- RANGING_ATTEMPTS_EXHAUSTED (R237). The ranging attempts run out or RESULT 2 is given; the element is freed or
  the station released. -/
  | rangingAttemptsExhausted (p : Port) (a : Nat)
  /-- PACE_EVALUATION (R246). Every probe period the device reads station SNR and evaluates the pace of both directions. -/
  | paceEvaluation (p : Port) (a : Nat) (k : PaceTrigger) (probe : StationProbe)
  /-- STATION_ANCHOR (R216). A station receives an anchor and sets its estimate of device time to the named instant. -/
  | stationAnchor (u : Nat) (named : Stamp)
  /-- STATION_BEACON_RX (R249). A station in SEARCH receives a BEACON with registration open and enters JOIN. -/
  | stationBeaconRx (u : Nat) (f : BeaconRx)
  /-- STATION_REG_REQUEST_SEND (R226). A station in JOIN sends a REG REQUEST in a random access slot at a rising level. -/
  | stationRegRequestSend (u : Nat)
  /-- STATION_REQUEST_UNANSWERED (R232). A station deems its REQUEST unanswered and backs off a random number of
  DISCOVER windows. -/
  | stationRequestUnanswered (u : Nat) (txStamp : Stamp)
  /-- STATION_ASSIGN_RX (R233). A station takes over address, allotments, timing advance, pace and level and enters
  RANGING. -/
  | stationAssignRx (u : Nat) (body : Bytes)
  /-- STATION_REFUSE_RX (R249). A station receiving REFUSE waits the reason's time before returning to SEARCH. -/
  | stationRefuseRx (u : Nat) (body : Bytes)
  /-- STATION_REFUSE_WAIT_END (R249). The REFUSE wait ends and the station returns to SEARCH. -/
  | stationRefuseWaitEnd (u : Nat)
  /-- STATION_RANGE_REQ_RX (R237). A station answers a RANGE REQ with a RESP aimed at AT. -/
  | stationRangeReqRx (u : Nat) (body : Bytes)
  /-- STATION_ADJ_RX (R238). A station applies TA_DELTA and POWER_ADJ, enters CONFIRMING on RESULT 0 or SEARCH on
  RESULT 2. -/
  | stationAdjRx (u : Nat) (body : Bytes)
  /-- STATION_CONFIRM_SEND (R234). A CONFIRMING station sends REG CONFIRM in an access slot, at most four times. -/
  | stationConfirmSend (w : StationWindow)
  /-- STATION_CONFIRM_ACK (R234). A station enters ACTIVE on a GRANT entry or frame naming its address. -/
  | stationConfirmAck (u : Nat) (f : LineRx)
  /-- STATION_RELEASE_TO_SEARCH (R249). A station receiving RELEASE returns to SEARCH. -/
  | stationReleaseToSearch (u : Nat) (body : Bytes)
  /-- STATION_REFRESH_RX (R249). A station receiving a downstream REFRESH enters or leaves QUIET and schedules its
  upstream REFRESH. -/
  | stationRefreshRx (u : Nat) (body : Bytes) (airDown : Int)
  /-- STATION_ALIGNED_TX (R217). A station starts a transmission when its estimate reads the target instant minus TA/B. -/
  | stationAlignedTx (u : Nat) (w : Option Stamp) (f : Unsent)
  /-- STATION_T_LOST (R250). No downstream frame received for 150 s sends the station to SEARCH. -/
  | stationTLost (u : Nat)
  /-- STATION_RANGING_WAIT (R249). 130 s in RANGING without a RANGE REQ sends the station to SEARCH. -/
  | stationRangingWait (u : Nat)
  /-- STATION_BELL_SEND (R250). A station in QUIET or SEARCH with the bell enabled sends the bell at most once in 10 s. -/
  | stationBellSend (u : Nat)
  /-- WINDOW_START (R316). A window of the operating itinerary begins and the port does what its type and state allow. -/
  | windowStart (p : Port)
  /-- SWEEP_SETUP_END (R269). 10 ms of setup ends and sweeps of the band begin if a period fits the window. -/
  | sweepSetupEnd (p : Port)
  /-- SWEEP_RECORD_END (R266). A sweep period ends and its record is accepted or rejected for clipping or late energy. -/
  | sweepRecordEnd (p : Port) (r : SweepRecord)
  /-- BAND_COMPLETE (R267). A band reaches its accepted records, or completes or restarts after 2A sweeps, and
  compression begins. -/
  | bandComplete (p : Port)
  /-- CELL_UPDATE (R273). A completed band's profile is projected onto the cell map, updating CURRENT and TREND. -/
  | cellUpdate (p : Port)
  /-- CELL_STALE (R255). A cell not updated for the stale time is marked STALE. -/
  | cellStale (p : Port) (cell : Nat)
  /-- LOOP_MEASUREMENT (R307). Once per second the DC monitor measures loop resistance and updates the wire temperature. -/
  | loopMeasurement (p : Port) (mohm : Option Nat)
  /-- INSULATION_START (R310). Every LR_DC interval the DC monitor starts an insulation measurement. -/
  | insulationStart (p : Port)
  /-- INSULATION_RESULT (R307). An insulation measurement settles or times out at 60 s and its result is reported. -/
  | insulationResult (p : Port) (m : InsulationMeas)
  /-- FOCUS_REQUEST (R283). A host commit of LR_FOCUS /01 = 1 requests a focused sounding about a centre cell. -/
  | focusRequest (p : Port)
  /-- FOCUS_EXPIRE (R284). A focused sounding not begun within 10 s is dropped and counted. -/
  | focusExpire (p : Port)
  /-- FOCUS_COMPLETE (R287). A focused sounding updates CURRENT on its span, sets FOCUSED and runs the site rules. -/
  | focusComplete (p : Port)
  /-- LAST_CAPTURE_START (R288). A commit of LR_LAST /01 = 1 starts capturing the last over the next full refreshes. -/
  | lastCaptureStart (p : Port)
  /-- LAST_CAPTURE_END (R290). The capture's refreshes complete and the last is set or the capture fails, with a LAST
  record. -/
  | lastCaptureEnd (p : Port)
  /-- LAST_LOAD (R291). A commit of saved baseline cells loads the last and issues a LAST record. -/
  | lastLoad (p : Port)
  /-- LAST_INVALIDATE (R293). A committed change of impedance, wiring, FFE, mapped length or VF_ref invalidates the last. -/
  | lastInvalidate (p : Port)
  /-- READOUT_START (R313). A commit of LR_READOUT /05 = 1 starts streaming map content in BULK parcels. -/
  | readoutStart (p : Port)
  /-- READOUT_END (R314). A readout stream ends with its tail count. -/
  | readoutEnd (p : Port)
  /-- GRANT_SEND (R322). The device sends the GRANT for a granting window in the last DOWN window before it, built
  from its entries. -/
  | grantSend (p : Port)
  /-- DOWN_FREE_INSTANT (R325). The line falls free in a DOWN or DUPLEX window and the device begins the first due
  transmission that fits. -/
  | downFreeInstant (p : Port)
  /-- ITIN_ARM (R328). A commit arming the pending itinerary computes the switch instant. -/
  | itinArm (p : Port)
  /-- ITIN_SWITCH (R331). At the switch instant the pending itinerary becomes operating and its window 0 begins. -/
  | itinSwitch (p : Port)
  /-- DATA_PARCEL_DOWN (R344). A downstream DATA parcel is checked, looked up, metered and admitted to its queue. -/
  | dataParcelDown (side : Side) (payload : Bytes)
  /-- QUEUE_HEAD_CHECK (R359). A frame reaching the head of its queue is checked for age, reachability, association
  and oversize. -/
  | queueHeadCheck (q : Nat)
  /-- QUEUE_FLUSH (R360). A commit of QUEUE /09 = 1 discards every frame of the queue. -/
  | queueFlush (q : Nat)
  /-- FLOW_CONTROL_WRITE (R343). A committed flow control write applies at the next refill tick, clearing state on a
  VALID change to 1. -/
  | flowControlWrite (flow : Nat)
  /-- FLOW_CACHE_FILL (R349). A flow-cache miss is filled in slots 8 and 9 and the waiting frames proceed. -/
  | flowCacheFill (flow : Nat)
  /-- FLOW_WRITEBACK (R350). A modified context is written back on eviction or 10 s after its last write-back. -/
  | flowWriteback (flow : Nat)
  /-- REFILL_TICK (R363). Every 8 µs each enabled shaper's credit rises or falls by its slope. -/
  | refillTick
  /-- SAMPLES_CLEAR (R370). A commit of QM_CTL /02 = 1 restarts the sample statistics. -/
  | samplesClear
  /-- PF_DETECT_PULSE (R381). Every 12 ms in DETECT the port sends a common-mode step and senses the partner's
  termination. -/
  | pfDetectPulse (side : Side) (sensed : Nat)
  /-- PF_TRAIN_BLOCK (R382). A TRAIN block is received and its FFE requests and status are acted on. -/
  | pfTrainBlock (side : Side) (lane : Lane) (block : Bytes)
  /-- PF_TRAIN_TIMEOUT (R381). 500 ms in TRAIN at one rate steps down the rate or returns to DETECT. -/
  | pfTrainTimeout (side : Side)
  /-- PF_BLOCK_LOCK (R387). 64 consecutive valid sync headers give a lane block lock. -/
  | pfBlockLock (side : Side) (lane : Lane)
  /-- PF_LACING_DONE (R380). Lacing completes and the port enters EXCHANGE. -/
  | pfLacingDone (side : Side) (laced : Nat) (skews : List Nat)
  /-- PF_LOCK_TIMEOUT (R381). 1 ms in LOCK excludes unlaced lanes, or returns to DETECT with none. -/
  | pfLockTimeout (side : Side)
  /-- PF_CAPS_RX (R383). A CAPS block is received; compatibility and width are decided and the port enters ACTIVE. -/
  | pfCapsRx (side : Side) (block : Bytes)
  /-- PF_EXCHANGE_TIMEOUT (R381). 10 ms in EXCHANGE without agreement returns the port to DETECT after 100 ms. -/
  | pfExchangeTimeout (side : Side)
  /-- PF_EYELET_RX (R379). An eyelet is received and the lane's BIP8 errors counted. -/
  | pfEyeletRx (side : Side) (lane : Lane) (block : Bytes) (parity : Nat) (locked : Bool)
  /-- PF_LOCK_LOSS (R387). A lane loses block lock on invalid headers or bad eyelets. -/
  | pfLockLoss (side : Side) (lane : Lane)
  /-- WIDTH_PARCEL_RX (R394). The partner receives WIDTH, freezes credits, recomputes width and sends a fast-exit burst. -/
  | widthParcelRx (side : Side) (good : Nat)
  /-- PF_WIDTH_DROP_TIMEOUT (R395). A width drop not back in ACTIVE within 100 µs causes a full retrain and a DEGRADE
  fault. -/
  | pfWidthDropTimeout (side : Side)
  /-- PF_RETRAIN_REQUEST (R386). A commit of PF_PORT /09 = 1 or of the width or rate ceiling forces a full retrain. -/
  | pfRetrainRequest (side : Side)
  /-- PF_IDLE_ENTRY_SEND (R388). After the idle time with all parcels acknowledged the transmitter sends IDLE_ENTRY
  and turns off. -/
  | pfIdleEntrySend (side : Side)
  /-- PF_IDLE_ENTRY_RX (R388). A receiver seeing IDLE_ENTRY stops lock checking and arms its activity detector. -/
  | pfIdleEntryRx (side : Side)
  /-- PF_FAST_EXIT (R389). A transmitter in idle with a parcel to send sends a fast-exit burst and resumes. -/
  | pfFastExit (side : Side)
  /-- PF_BIP_CHECK (R390). Each second a lane whose BIP errors exceed the threshold logs a LINK NOTICE. -/
  | pfBipCheck (side : Side) (lane : Lane)
  /-- PF_TEST_START (R393). A commit of PF_PORT /08 non-zero puts the port into PRBS31 TEST. -/
  | pfTestStart (side : Side)
  /-- PF_TEST_END (R393). The test time ends or /08 is set to 0; the port retrains in full. -/
  | pfTestEnd (side : Side) (prbs : List Nat)
  /-- PARCEL_FORWARD (R412). A received non-local parcel is accepted by sequence and CRC and consumed or forwarded by
  device number. -/
  | parcelForward (side : Side) (raw : Bytes)
  /-- FLOW_CTRL_RX (R404). A FLOW parcel advances acknowledgement and credits, or triggers a resend on NAK. -/
  | flowCtrlRx (side : Side) (body : Bytes)
  /-- FLOW_CTRL_SEND (R403). A receiver sends FLOW every 1 µs with unacknowledged parcels and every 100 µs otherwise. -/
  | flowCtrlSend (side : Side)
  /-- REPLAY_TIMEOUT (R404). No ACK advance for 20 µs resends every unacknowledged parcel. -/
  | replayTimeout (side : Side)
  /-- DELAY_REQ_SEND (R421). Every 125 ms each end of an ACTIVE link sends DELAY_REQ. -/
  | delayReqSend (side : Side)
  /-- DELAY_REQ_RX (R421). The partner answers DELAY_REQ with DELAY_RESP carrying the turnaround. -/
  | delayReqRx (side : Side) (ident : Nat) (turnaround : Nat)
  /-- DELAY_RESP_RX (R421). The requester computes the ingress link delay from the exchange. -/
  | delayRespRx (side : Side) (ident : Nat) (turnaround : Nat)
  /-- PROBE_ORIGINATE (R408). Every 1 ms a head sends a PROBE with HOPS 0 out of its cascade port. -/
  | probeOriginate
  /-- PROBE_RX (R410). A device receiving a PROBE forwards it and adopts or keeps its head. -/
  | probeRx (side : Side) (body : Bytes)
  /-- HEAD_LOSS (R409). No PROBE from the head for 3 ms lets the device adopt another head. -/
  | headLoss (side : Side) (body : Bytes)
  /-- STATUS_SEND (R411). Every 1 ms each non-head device sends STATUS towards its head. -/
  | statusSend
  /-- STATUS_RX (R411). A head updates its topology from STATUS and logs duplicates. -/
  | statusRx (dev : DevNum) (body : Bytes)
  /-- TOPOLOGY_ENTRY_ABSENT (R411). No STATUS for an entry for 5 ms marks it absent. -/
  | topologyEntryAbsent (dev : DevNum)
  /-- STANDBY_TAKEOVER (R415). A standby manager with an active UP port and no manager PROBE for 3 ms becomes head. -/
  | standbyTakeover
  /-- FAILOVER (R415). A FAILOVER parcel is forwarded and makes a standby manager become head. -/
  | failover (side : Side) (body : Bytes)
  /-- HAND_OVER (R416). A commit of CASC /09 = 1 makes the manager send FAILOVER, or an acting standby send RELINQUISH. -/
  | handOver
  /-- RELINQUISH (R419). A RELINQUISH parcel lets devices re-adopt the manager at once and the standby become PASSIVE. -/
  | relinquish (side : Side)
  /-- WAIT (R463). A consumed WAIT parcel enters IDLE or begins power-state entry by POWER_TARGET. -/
  | waitParcel (side : Side) (bcast : Bool)
  /-- WAKE_PARCEL (R460). A consumed WAKE parcel returns the device from IDLE to RUN. -/
  | wakeParcel
  /-- IZVAS_READ (R439). A READ request returns the values in force, checked for role, session and address. -/
  | izvasRead (r : IzReq)
  /-- IZVAS_WRITE (R440). A WRITE to an object without its own row is checked in full and staged or applied. -/
  | izvasWrite (r : IzReq)
  /-- READ_STAGED (R432). A READ_STAGED returns the session's staged values. -/
  | readStaged (r : IzReq)
  /-- DISCARD (R432). A DISCARD empties the session's staged set. -/
  | discardStaged (r : IzReq)
  /-- OPEN (R434). An OPEN allots a session number and returns DEVICE_ID and a DEVICE_NONCE, or is refused. -/
  | openSession (r : IzReq)
  /-- AUTH (R434). An AUTH verifies HOST_PROOF, opens the session and derives the session key. -/
  | authSession (r : IzReq)
  /-- CLOSE (R435). A CLOSE closes the session and discards its staged set. -/
  | closeSession (r : IzReq)
  /-- AUTH_TIMEOUT (R435). No AUTH within 1 s of the OPEN frees the session number. -/
  | authTimeout (k : SessionNo)
  /-- AUTH_LOCKOUT_END (R435). 10 s after three AUTH failures OPENs are accepted again. -/
  | authLockoutEnd
  /-- SESSION_IDLE_TIMEOUT (R435). A session with no request within its idle time is closed. -/
  | sessionIdleTimeout (k : SessionNo)
  /-- COMMIT (R443). A write of 0x0000_C0DE to COMMIT queues the session's staged set for checking. -/
  | commit (r : IzReq)
  /-- COMMIT_CHECK_START (R444). The earlier commit is done and this commit's range and conflict checks run, accepting
  or refusing it. -/
  | commitCheckStart
  /-- PROXY_READ (R451). A proxy READ is checked and queued for the station. -/
  | proxyRead (r : IzReq)
  /-- PROXY_WRITE (R450). A proxy WRITE is checked and queued for the station, applying there without commit. -/
  | proxyWrite (r : IzReq)
  /-- PROXY_DISPATCH (R451). The next queued proxy request is sent as a MGMT frame once none is outstanding. -/
  | proxyDispatch (p : Port) (a : Nat)
  /-- PERF_LEVEL_CHANGE (R459). A committed performance level ramps supply and switches clock in order at the apply point. -/
  | perfLevelChange (unit : PerfUnit)
  /-- ENTRY_STEP_ADVANCE (R464). An entry step's condition is met and the next step of Table 11.4 begins. -/
  | entryStepAdvance (m : EntryMeas)
  /-- ENTRY_REFUSED (R464). An entry step's limit passes with its condition unmet and entry is refused. -/
  | entryRefused (m : EntryMeas)
  /-- WAKE_DETECT (R474). An armed wake detector fires, the wake cause is recorded and the regulator returns to normal
  mode. -/
  | wakeDetect (w : WakeSource)
  /-- WAKE_CLAMPS_RELEASE (R476). Clamps release, the steward starts and IRQ_N is asserted while the host port is not
  ACTIVE. -/
  | wakeClampsRelease
  /-- THERMOS_CHECK (R483). On wake each thermos bank is checked; failed banks are wiped, rebuilt and logged as
  RETENTION_LOSS. -/
  | thermosCheck (failed : List Nat) (counter : Nat)
  /-- CLOCK_SELECT (R479). A commit of CLOCK_SELECT /01 = 1 starts locking the REFCLK PLLs, or is refused without REFCLK. -/
  | clockSelect
  /-- CLOCK_SELECTED (R479). The PLLs lock, islands move to them, DRAM leaves self-refresh and ports leave PARKED. -/
  | clockSelected
  /-- RHO_MEASURE (R480). Each second in RUN the ratio of the 32.768 kHz period to station time is measured. -/
  | rhoMeasure (rho : Nat)
  /-- RHO_RECHECK (R482). 10 ms after clock selection a new ratio differing by more than 1 ppm corrects time and logs
  NOTICE. -/
  | rhoRecheck (rho : Nat)
  /-- AO_BROWNOUT (R473). The always-on regulator over 2.0 mA for 50 µs forces a cold reset. -/
  | aoBrownout
  /-- FAULT_RAISE (R487). A unit reports a catalogued fault to the collector with its stamp. -/
  | faultRaise (f : FaultReport)
  /-- FAULT_CYCLE_DECISION (R490). 2 µs after a 16 ns fault cycle the collector orders, numbers, logs and reacts to
  its faults. -/
  | faultCycleDecision
  /-- FAULT_RESET (R494). A fault logged at RESET waits up to 1 ms for its record's acknowledgement, then resets the
  device. -/
  | faultReset (acked : Bool)
  /-- FAULT_ACK (R496). A write of FAULT_ACK acknowledges faults by class mask up to a SEQ. -/
  | faultAck (r : IzReq)
  /-- WATCHDOG_EXPIRY (R489). The service loop completes no pass for 100 ms and a WATCHDOG fault is raised. -/
  | watchdogExpiry
  /-- ECC_WORD_CORRECTED (R498). A corrected DRAM word is counted per page and written back. -/
  | eccWordCorrected (page : Option Nat)
  /-- PAGE_RETIRE (R498). A page reaching the corrected-word threshold or holding an uncorrectable word begins copying
  to a spare. -/
  | pageRetire (page : Nat) (region : DramRegion)
  /-- PAGE_COPY_DONE (R498). A page copy ends and the page is remapped. -/
  | pageCopyDone (page : Nat)
  /-- FENCE_CLEAR (R499). A commit of FENCE_CTL /02 = 1 starts the self-test of a fenced unit. -/
  | fenceClear (e : FenceElem)
  /-- SELF_TEST_DONE (R499). A unit's self-test ends, returning it to service or re-logging its fault. -/
  | selfTestDone (e : FenceElem) (passed : Bool)
  /-- STEWARD_RESTART_DONE (R500). The steward resumes its service loop and issues STEWARD_RESTART. -/
  | stewardRestartDone (patch : PatchCheck)
  /-- FAULT_INJECT (R501). A write of FAULT_INJECT arms one injection. -/
  | faultInject (r : IzReq)
  /-- FAULT_INJECT_FIRE (R501). An armed injection produces its fault in the cycle that holds AT. -/
  | faultInjectFire
  /-- CONVERTER_GROUP_START (R507). A group of eight ports begins the converter phase when the previous group ends. -/
  | converterGroupStart
  /-- CAL_RUN_END (R509). A calibration run ends and its result is compared for agreement, starting a third run when
  needed. -/
  | calRunEnd (p : Port) (run : CalRun)
  /-- LINE_PHASE_START (R508). A port in CAL takes a free place of the line phase and begins its steps. -/
  | linePhaseStart (p : Port)
  /-- HYBRID_RUN_NOT_QUIET (R511). A sync or energy during a hybrid run discards the attempt and counts a postponement. -/
  | hybridRunNotQuiet (p : Port) (level : Option Int)
  /-- HYBRID_CAL_REQUEST (R511). A commit of LP_CAL_CTL /03 = 1 requests step 3 in the next eligible QUIET window. -/
  | hybridCalRequest (p : Port)
  /-- PERIODIC_RECAL_DUE (R515). A port's periodic recalibration falls due after its interval. -/
  | periodicRecalDue (p : Port)
  /-- PERIODIC_OVERDUE (R515). A due recalibration waiting a further full interval is counted overdue. -/
  | periodicOverdue (p : Port)
  /-- CAL_RESTORE (R518). A committed restore of calibration values sets source HOST and abandons any measurement of them. -/
  | calRestore (p : Port)
  /-- CORRECTION_EFFECT (R517). A correction or restored value takes effect at the first instant outside symbols and
  sweeps. -/
  | correctionEffect (p : Port)
  /-- REFRES_CHECK (R521). REFRES is measured before the converter phase and every 15 min, with a CALIBRATION record
  on change. -/
  | refresCheck (mohm : Nat)
  /-- REFCLK_CHECK (R522). REFCLK is checked at reset and every 1 s while absent, and the PLLs lock when it is accepted. -/
  | refclkCheck (hz : Nat)
  /-- HAMPER_START (R525). The hamper starts on VHMP, selects its fuse set, resumes its saves and checks its ROM. -/
  | hamperStart (href : Nat) (rom : RomCheck)
  /-- HAMPER_SAMPLE (R533). Every 2 s the hamper measures its channels, closes pulse counts and updates energy and volume. -/
  | hamperSample (m : HamperMeas)
  /-- FLOW_PULSE (R532). A volume pulse is counted on a flow input. -/
  | flowPulse (path : Path)
  /-- TAMPER (R545). HMP_TAMPER_N low for 20 ms increments the tamper count and logs TAMPER. -/
  | tamper
  /-- TAMPER_END (R545). HMP_TAMPER_N high for 20 ms clears TAMPER_ACTIVE and logs TAMPER_END. -/
  | tamperEnd
  /-- ROM_CHECK (R546). Every 24 h the hamper checks its ROM CRC and logs ROM_MISMATCH on a difference. -/
  | romCheck (rom : RomCheck)
  /-- READ_REGISTERS (R547). A READ_REGISTERS request makes the hamper form and send a signed snapshot. -/
  | readRegisters (frame : Bytes)
  /-- READ_LOG (R549). A READ_LOG request makes the hamper send up to 16 log entries. -/
  | readLog (frame : Bytes)
  /-- TIME_OFFER (R540). A time offer is agreed, accepted, refused or restored against the legal clock's 24 h budget. -/
  | timeOffer (frame : Bytes)
  /-- LOCAL_READ_ID (R551). The local port command READ_ID returns identity, seal, calibration set, flags and
  configuration. -/
  | localReadId (frame : Bytes)
  /-- LOCAL_READ_REGISTERS (R547). The local port command READ_REGISTERS returns a signed snapshot. -/
  | localReadRegisters (frame : Bytes)
  /-- LOCAL_READ_LOG (R551). The local port command READ_LOG returns log entries. -/
  | localReadLog (frame : Bytes)
  /-- LOCAL_TIME_OFFER (R540). The local port command TIME_OFFER is decided as a time offer. -/
  | localTimeOffer (frame : Bytes)
  /-- WRITE_CONFIG (R531). The local port command WRITE_CONFIG writes the configuration record while unsealed. -/
  | writeConfig (frame : Bytes)
  /-- PROGRAM_CAL (R524). The local port command PROGRAM_CAL programs the lowest unused fuse set with read-back. -/
  | programCal (frame : Bytes) (readback : Bytes)
  /-- SET_CLOCK (R539). The local port command SET_CLOCK sets the legal clock while unsealed. -/
  | setClock (frame : Bytes)
  /-- SEAL (R544). The local port command SEAL blows the seal fuse when all conditions hold. -/
  | sealHamper (frame : Bytes)
  /-- HMP_STATUS_RX (R550). A STATUS lane frame is copied into the mailbox and missing log entries are requested. -/
  | hmpStatusRx (frame : Bytes)
  /-- HMP_SNAPSHOT_RX (R550). A SNAPSHOT lane frame is copied into HMP_SNAPSHOT and HMP_REGISTERS. -/
  | hmpSnapshotRx (frame : Bytes)
  /-- HMP_LOG_RX (R550). A LOG lane frame's entries are copied into HMP_LOG. -/
  | hmpLogRx (frame : Bytes)
  /-- HMP_TIME_RESULT_RX (R554). A TIME_RESULT lane frame updates HMP_TIME and issues a HAMPER record. -/
  | hmpTimeResultRx (frame : Bytes)
  /-- HMP_POLL (R550). Every 10 s the device sends READ_REGISTERS with a fresh nonce. -/
  | hmpPoll
  /-- HMP_TIME_OFFER_SEND (R542). At each whole hour, or 10 s after first LOCKED, the device sends a TIME_OFFER when
  allowed. -/
  | hmpTimeOfferSend
  /-- REQUEST_TIMEOUT (R549). A hamper request unanswered by its send stamp plus 2 s logs REQUEST_TIMEOUT. -/
  | requestTimeout
  /-- LANE_SILENT (R489). No valid hamper lane data for 10 s raises LANE_SILENT. -/
  | laneSilent
  /-- PORST_N (R564). A low pulse on PORST_N gives a cold reset with cause POWER_ON. -/
  | porstN (width : Nat)
  /-- VIO_LOW (R561). VIO below 1.55 V holds the device in reset until it returns. -/
  | vioLow (mv : Nat)
  /-- RAIL_OUT_OF_RANGE (R560). A rail outside its operating range for 100 µs logs the POWER fault RAIL. -/
  | railOutOfRange (rail : Rail) (mv : Nat)
  /-- RAIL_UNDERVOLT (R561). VCORE, VDDR or VAFE below its reset threshold for 10 µs forces a cold reset with cause RAIL. -/
  | railUndervolt (rail : Rail) (mv : Nat)
  /-- RAIL_RESET_RELEASE (R561). The rails in range for 1 ms release the RAIL reset. -/
  | railResetRelease
  /-- VLD_OUT_OF_RANGE (R562). VLD outside 11.0 V to 13.2 V sets drivers to high impedance and stops transmissions and
  DC measurements. -/
  | vldOutOfRange (mv : Nat)
  /-- VLD_RESTORED (R562). VLD within range for 10 ms resumes service. -/
  | vldRestored (mv : Nat)
  /-- RESET_REQUEST (R568). A write of 0x0000_B007 to RESET_REQUEST is answered and schedules a cold reset 1 ms later. -/
  | resetRequest (r : IzReq)
  /-- HOST_RESET (R568). 1 ms after the RESET_REQUEST answer the device takes a cold reset with cause HOST. -/
  | hostReset
  /-- THERMAL_TRIP (R569). A junction of 130 °C forces a cold reset held until it falls below 100 °C. -/
  | thermalTrip (tj : Int)
  /-- JUNCTION_SAMPLE (R574). The junction temperature is measured, raising TJ_HIGH and TJ_LIMIT. -/
  | junctionSample (tj : Int)
  /-- FUSE_LOAD_DONE (R577). Fuses load, the steward boots from ROM and on-die memories are wiped. -/
  | fuseLoadDone (straps : Straps) (patch : PatchCheck)
  /-- DRAM_WIPE_DONE (R577). The DRAM wipe of all 2 GiB to zero with valid ECC completes. -/
  | dramWipeDone
  /-- LC_STATE_COMMIT (R581). A commit of LC_STATE /02 blows life-cycle fuses and takes a cold reset with cause
  LIFE_CYCLE. -/
  | lcStateCommit (readback : Bool)
  /-- EXTEST (R576). The TAP instruction EXTEST takes control of the balls for boundary test. -/
  | extest
  /-- IDCODE (R575). The TAP instruction IDCODE reads the device identification code. -/
  | idcode
  /-- SAMPLE_PRELOAD (R575). The TAP instruction SAMPLE/PRELOAD samples and preloads the boundary-scan chain. -/
  | samplePreload
  /-- EXTEST_PULSE (R576). The IEEE 1149.6 instruction EXTEST_PULSE takes the balls for AC test. -/
  | extestPulse
  /-- EXTEST_TRAIN (R576). The IEEE 1149.6 instruction EXTEST_TRAIN takes the balls for AC test. -/
  | extestTrain
  /-- HIGHZ (R576). The TAP instruction HIGHZ takes the balls and sets them to high impedance. -/
  | highz
  /-- CLAMP (R576). The TAP instruction CLAMP takes the balls and holds them at preloaded values. -/
  | clampBalls
  /-- KEY_LOAD (R580). The provisioning instruction KEY_LOAD shifts in a role code and key. -/
  | keyLoad (word : Nat)
  /-- KEY_PROG (R580). The provisioning instruction KEY_PROG blows a role key's fuses with read-back and commit field. -/
  | keyProg (readback : Nat)
  /-- LC_ADVANCE (R580). The provisioning instruction LC_ADVANCE blows the PROVISIONED fuse when the ENGINEER key is
  VALID. -/
  | lcAdvance
  /-- BYPASS (R575). The TAP instruction BYPASS selects the one-bit bypass register. -/
  | bypass
  /-- TRST_N (R576). TRST_N low holds the TAP in Test-Logic-Reset. -/
  | trstN
  /-- TAP_LEAVE_BALLS (R576). The TAP leaves an instruction that took the balls and the device takes a cold reset with
  cause JTAG. -/
  | tapLeaveBalls
  /-- PF_EXCHANGE_HOLDOFF_END (R381). The 100 ms wait after an EXCHANGE timeout or an incompatible partner ends and
  the Porfani port returns to DETECT. -/
  | pfExchangeHoldoffEnd (side : Side)
  /-- PF_RX_READY (R382). A lane receiver's equaliser converges in TRAIN; it sets RX_READY, and the port moves to LOCK
  when every sensed lane is ready in both directions. -/
  | pfRxReady (side : Side) (lane : Lane)
  /-- VHMP_LOSS (R552). VHMP leaves its range and the hamper stops metering and counting, losing at most the current 2
  s interval. -/
  | vhmpLoss
  /-- VIO_RESTORED (R561). VIO returns above 1.55 V and ends the POWER_ON reset hold, so that start-up can proceed. -/
  | vioRestored (mv : Nat)
  /-- PERF_LEVEL_RAMP_DONE (R459). A unit's supply and body-bias ramp of up to 40 µs ends; the clock and SRAM assist
  switch when raising, and the level commit completes. -/
  | perfLevelRampDone (unit : PerfUnit)
  deriving DecidableEq, Repr

end Sys2Proof
end

