-- ==== Sys2Proof/Config.lean ====
section
/-! DEFINITION. What the spec leaves open or takes from outside standards, as uninterpreted constants: nothing can be
proved of their values, so every statement holds whatever they are (log entry 6). -/

namespace Sys2Proof.Config

/-- The value of the n-th free choice: a random nonce, a random slot, a value the spec does not state. -/
opaque freeNat : Nat → Nat

/-- The running power estimates p[m] of the reference in the 2L bins after a block (R169), in a unit of the arithmetic's own:
the estimates before it, the 2L reference samples. EchoMath.lean says what they approximate; the format the device keeps them
in is not stated. -/
opaque lmsPower : List Nat → List (Int × Int) → List Nat

/-- The increments of the taps in 2⁻¹⁵ that one LMS update makes (R169): step exponent, power estimates, reference, error in
2⁻¹⁵. EchoMath.lean says what they approximate; how the device rounds its transforms is not stated. -/
opaque lmsIncrement : Nat → List Nat → List (Int × Int) → List (Int × Int) → List (Int × Int)

/-- |H|² on the 256-point grid of taps zero-padded or folded to it (R199), in a unit of the arithmetic's own. -/
opaque tapSpectrum : List (Int × Int) → List Nat

/-- pwr[p] + eps of R185, from what a frame showed at the point before: the spec defines neither. -/
opaque eqNorm : List (Int × Int) → Nat

/-- The transmit spectral density of R92 in 0.1 dBm/Hz into the output impedance, averaged over one symbol with a 10 kHz
resolution bandwidth, at a point of the 15.625 kHz grid: bandwidth, size, prefix and centre codes and impedance code, in
this order, requested level, FIR taps, point. The spec gives no formula for the spectrum of a transmission. -/
opaque density : List Nat → Int → Bytes → Nat → Rat

/-- The samples in µV that the driver would put across the terminals without its clipping, at 100 MS/s (R63, R86 to R94):
what is sent (a frame by its form, allotments and header word, a bell, a burst by its symbols) with the band codes, level,
payload, FIR taps, pre-distorter. The interpolation to 100 MS/s is the implementation's. -/
opaque driverSamples : List Nat → Int → Bytes → Bytes → Bytes → List Int

/-- The profile a completed band is compressed to (R270), in units of 2^-31 of a full reflection at 1.25 ns spacing: band, its
level in 0.1 V, records accepted, their sum. EchoMath.lean says what it approximates (`bandProfile`); how the device rounds its
transforms, and what a unit of the sweep path is in V, are not stated. -/
opaque compress : Nat → Nat → Nat → List Int → List Int

/-- Temperature of an RTD in m°C (R533): type, corrected resistance in Ω. Metering.lean gives the resistance of IEC 60751
that it inverts; how the hamper comes to the 0.001 K it resolves is not stated. -/
opaque rtdTemperature : Nat → Rat → Int

/-- A heat ΔE in the 1 mWh that the accumulators hold (R534): how the hamper rounds is not stated. -/
opaque milliwattHours : Rat → Int

/-- The allowed drift between the legal clock's crystal and true time, as ns to add over a span of ns (R538): the
trim of the fuse set in use. -/
opaque clockDrift : Int → Int → Int

/-- The manufacturer identity of IDCODE [11:1], which the BSDL description gives (R575). -/
opaque manufacturer : Nat

/-- The snapshot key fused into the hamper (R530, R547). -/
opaque snapshotKey : Bytes

end Sys2Proof.Config
end

