-- ==== Sys2Proof/Machine/Dict.lean ====
section
/-! DEFINITION. The object dictionary (R427 to R429, R448, R449): one `Obj` for each object the tables of the spec
print, with its address, its copies per port, its element range, its type, its access right, its default and the
check a write of it passes. The value of an object is kept in `State.regs` or `State.blobs` under its `key`. -/

namespace Sys2Proof.Machine

/-- The types of Table 10.1 that objects carry; a BLOB names its stated length, 0 when only the device writes it. -/
inductive Ty where
  | bool | u8 | u16 | u32 | u64 | i8 | i16 | i32 | i64 | time80 | dur64
  | blob (length : Nat)
  deriving DecidableEq, Repr

/-- The access rights of Table 10.2. -/
inductive Access where
  | ro | rw | wo | rwp | rws
  deriving DecidableEq, Repr

/-- The range a written value must lie in (R8, R440), beyond what its type admits. -/
inductive Check where
  | any
  | range (lo hi : Int)
  | pow2 (lo hi : Nat)
  | zeroOr (lo hi : Int)
  | zeroOrPow2 (hi : Nat)
  | hybrid
  | meterActions
  | wholeSecond
  | lcRequest
  | mask
  | reals
  deriving DecidableEq, Repr

/-- What a BLOB object reads before anything writes it. -/
inductive BlobDefault where
  | none
  | empty
  | zeros (n : Nat)
  | ff (n : Nat)
  | fir | mask | dpd | ffe | itin
  deriving DecidableEq, Repr

/-- An object of the dictionary. `step` is the distance in keys between the copies of an object that exists once per
port (R102, R449) or once per Porfani port (R425); `elemLo` and `elems` give the element range of a table object, and
`elems = 0` marks an object that is no table; `mask` has a bit for each writable bit where the object has reserved bits
(R6), and is 0 where it has none. -/
structure Obj where
  index : Nat
  sub : Nat
  step : Nat
  copies : Nat
  elemLo : Nat
  elems : Nat
  ty : Ty
  acc : Access
  dflt : Int
  chk : Check
  mask : Nat
  bd : BlobDefault
  deriving DecidableEq, Repr

/-- The key under which copy p, element e of an object is stored: its index, subindex and element read as one number
(R427), moved on by `step` for each copy. -/
def Obj.key (o : Obj) (p : Nat := 0) (e : Nat := 0) : Nat :=
  (o.index * 256 + o.sub) * 1048576 + e + p * o.step

end Sys2Proof.Machine

namespace Sys2Proof.Machine.Reg

/-- 0x1013 COMMIT_STAMP (Table 1.9): Commit-done stamp of the latest completed commit -/
def COMMIT_STAMP : Obj := ⟨0x1013, 0, 0, 1, 0, 0, .time80, .ro, 0, .any, 0, .none⟩
/-- 0x1020 HOUSE_SLOT15 (Table 1.9): Owner of slot 15, Table 1.5 -/
def HOUSE_SLOT15 : Obj := ⟨0x1020, 0, 0, 1, 0, 0, .u8, .rwp, 0, (.range 0 3), 0, .none⟩
/-- 0x1200 STATION_TIME (Table 1.9): Station time when read; a write steps time and is refused unless TIME_SOURCE = 2 -/
def STATION_TIME : Obj := ⟨0x1200, 0, 0, 1, 0, 0, .time80, .rw, 0, .any, 0, .none⟩
/-- 0x1201/01 TIME_QUALITY state (Table 1.9): Table 1.8 -/
def TIME_QUALITY_state : Obj := ⟨0x1201, 1, 0, 1, 0, 0, .u8, .ro, 0, .any, 0, .none⟩
/-- 0x1201/02 TIME_QUALITY bound (Table 1.9): Uncertainty bound, R34 -/
def TIME_QUALITY_bound : Obj := ⟨0x1201, 2, 0, 1, 0, 0, .dur64, .ro, 0, .any, 0, .none⟩
/-- 0x1201/03 TIME_QUALITY epoch (Table 1.9): Step count since reset; wraps from 65,535 to 0 -/
def TIME_QUALITY_epoch : Obj := ⟨0x1201, 3, 0, 1, 0, 0, .u16, .ro, 0, .any, 0, .none⟩
/-- 0x1201/04 TIME_QUALITY offset (Table 1.9): Last measured offset of the source from station time, in ns -/
def TIME_QUALITY_offset : Obj := ⟨0x1201, 4, 0, 1, 0, 0, .i64, .ro, 0, .any, 0, .none⟩
/-- 0x1202 TIME_SOURCE (Table 1.9): Table 1.7 -/
def TIME_SOURCE : Obj := ⟨0x1202, 0, 0, 1, 0, 0, .u8, .rwp, 0, (.range 0 2), 0, .none⟩
/-- 0x1203/01 TSYNC_PPS_IN (Table 1.9): TSYNC is a 1PPS input -/
def TSYNC_PPS_IN : Obj := ⟨0x1203, 1, 0, 1, 0, 0, .bool, .rwp, 0, .any, 0, .none⟩
/-- 0x1203/02 TSYNC_OUT (Table 1.9): TSYNC is a 1PPS output -/
def TSYNC_OUT : Obj := ⟨0x1203, 2, 0, 1, 0, 0, .bool, .rwp, 0, .any, 0, .none⟩
/-- 0x1203/03 TSYNC_TIMER (Table 1.9): TSYNC is a timer output -/
def TSYNC_TIMER : Obj := ⟨0x1203, 3, 0, 1, 0, 0, .bool, .rwp, 0, .any, 0, .none⟩
/-- 0x1204 TSYNC_TOD (Table 1.9): SECONDS of the next pulse; NANOSECONDS must be 0 -/
def TSYNC_TOD : Obj := ⟨0x1204, 0, 0, 1, 0, 0, .time80, .wo, 0, .wholeSecond, 0, .none⟩
/-- 0x1205 TSYNC_DELAY (Table 1.9): Cable and receiver delay of the 1PPS input -/
def TSYNC_DELAY : Obj := ⟨0x1205, 0, 0, 1, 0, 0, .dur64, .rwp, 0, .any, 0, .none⟩
/-- 0x1206 HOLDOVER_DRIFT (Table 1.9): Assumed reference drift, in parts per 10⁹ -/
def HOLDOVER_DRIFT : Obj := ⟨0x1206, 0, 0, 1, 0, 0, .u32, .rwp, 20000, .any, 0, .none⟩
/-- 0x1207/01 EVENTS_DELIVERED (Table 1.9): Event records delivered -/
def EVENTS_DELIVERED : Obj := ⟨0x1207, 1, 0, 1, 0, 0, .u64, .ro, 0, .any, 0, .none⟩
/-- 0x1207/02 EVENTS_LATE (Table 1.9): Records delivered with LATE -/
def EVENTS_LATE : Obj := ⟨0x1207, 2, 0, 1, 0, 0, .u64, .ro, 0, .any, 0, .none⟩
/-- 0x1207/03 EVENTS_CONCURRENT (Table 1.9): Records delivered with CONCURRENT -/
def EVENTS_CONCURRENT : Obj := ⟨0x1207, 3, 0, 1, 0, 0, .u64, .ro, 0, .any, 0, .none⟩
/-- 0x1208 TSYNC_TIMER_AT (Table 1.9): Stamp of the next timer pulse -/
def TSYNC_TIMER_AT : Obj := ⟨0x1208, 0, 0, 1, 0, 0, .time80, .rw, 0, .any, 0, .none⟩
/-- 0x2001 LP_BW (Table 2.9): Bandwidth code, Table 2.1 -/
def LP_BW : Obj := ⟨0x2001, 0, 17179869184, 32, 0, 0, .u8, .rwp, 0, (.range 0 4), 0, .none⟩
/-- 0x2002 LP_N (Table 2.9): Transform size code, Table 2.1 -/
def LP_N : Obj := ⟨0x2002, 0, 17179869184, 32, 0, 0, .u8, .rwp, 1, (.range 0 2), 0, .none⟩
/-- 0x2003 LP_PREFIX (Table 2.9): Prefix code, Table 2.1 -/
def LP_PREFIX : Obj := ⟨0x2003, 0, 17179869184, 32, 0, 0, .u8, .rwp, 2, (.range 0 2), 0, .none⟩
/-- 0x2004 LP_CENTRE (Table 2.9): Centre code, 15.625 kHz each (250 kHz) -/
def LP_CENTRE : Obj := ⟨0x2004, 0, 17179869184, 32, 0, 0, .u16, .rwp, 16, (.range 1 525), 0, .none⟩
/-- 0x2005/01 LP_TX level (Table 2.9): Requested level, 0.1 dB re 1 V RMS, R86 -/
def LP_TX_level : Obj := ⟨0x2005, 1, 17179869184, 32, 0, 0, .i16, .rwp, (-60), (.range (-400) (0)), 0, .none⟩
/-- 0x2005/02 LP_TX impedance (Table 2.9): Output impedance in 2 Ω steps, 10 to 100 (100 Ω), R88 -/
def LP_TX_impedance : Obj := ⟨0x2005, 2, 17179869184, 32, 0, 0, .u8, .rwp, 50, (.range 10 100), 0, .none⟩
/-- 0x2005/03 LP_TX effective (Table 2.9): Level in use after R92 and R96 -/
def LP_TX_effective : Obj := ⟨0x2005, 3, 17179869184, 32, 0, 0, .i16, .ro, (-60), .any, 0, .none⟩
/-- 0x2005/04 LP_TX clips (Table 2.9): Samples clipped, R87 -/
def LP_TX_clips : Obj := ⟨0x2005, 4, 17179869184, 32, 0, 0, .u64, .ro, 0, .any, 0, .none⟩
/-- 0x2005/05 LP_TX wiring (Table 2.9): 0 LPnA–LPnB, 1 LPnA–PGn, 2 LPnB–PGn; 3–255 reserved -/
def LP_TX_wiring : Obj := ⟨0x2005, 5, 17179869184, 32, 0, 0, .u8, .rwp, 0, (.range 0 2), 0, .none⟩
/-- 0x2006 LP_FIR (Table 2.9): 127 taps, 254 bytes, R89 -/
def LP_FIR : Obj := ⟨0x2006, 0, 17179869184, 32, 0, 0, (.blob 254), .rwp, 0, .any, 0, .fir⟩
/-- 0x2007 LP_MASK (Table 2.9): 64 breakpoints, 256 bytes, R90 -/
def LP_MASK : Obj := ⟨0x2007, 0, 17179869184, 32, 0, 0, (.blob 256), .rwp, 0, .mask, 0, .mask⟩
/-- 0x2008 LP_MASK_PRESET (Table 2.9): Table 2.8 -/
def LP_MASK_PRESET : Obj := ⟨0x2008, 0, 17179869184, 32, 0, 0, .u8, .rwp, 1, (.range 0 3), 0, .none⟩
/-- 0x2009/01 LP_DPD state (Table 2.9): 0 OFF, 1 TRAINING, 2 FROZEN; 3–255 reserved -/
def LP_DPD_state : Obj := ⟨0x2009, 1, 17179869184, 32, 0, 0, .u8, .ro, 0, .any, 0, .none⟩
/-- 0x2009/02 LP_DPD coefficients (Table 2.9): 20 REAL32, 80 bytes, R94 -/
def LP_DPD_coefficients : Obj := ⟨0x2009, 2, 17179869184, 32, 0, 0, (.blob 80), .rwp, 0, .reals, 0, .dpd⟩
/-- 0x2009/03 LP_DPD train (Table 2.9): 1 requests training, R95 -/
def LP_DPD_train : Obj := ⟨0x2009, 3, 17179869184, 32, 0, 0, .bool, .rwp, 0, .any, 0, .none⟩
/-- 0x2009/04 LP_DPD stamp (Table 2.9): End of the last training -/
def LP_DPD_stamp : Obj := ⟨0x2009, 4, 17179869184, 32, 0, 0, .time80, .ro, 0, .any, 0, .none⟩
/-- 0x2009/05 LP_DPD residual (Table 2.9): Residual distortion after training, 0.1 dB re carrier -/
def LP_DPD_residual : Obj := ⟨0x2009, 5, 17179869184, 32, 0, 0, .i16, .ro, 0, .any, 0, .none⟩
/-- 0x200A/01 LP_ACQ sync threshold (Table 3.15): Detection threshold, 0.5 dB units, 12 to 60 (6.0 dB to 30.0 dB), R148 -/
def LP_ACQ_sync_threshold : Obj := ⟨0x200A, 1, 17179869184, 32, 0, 0, .u8, .rwp, 24, (.range 12 60), 0, .none⟩
/-- 0x200A/02 LP_ACQ capture margin (Table 3.15): 0.5 dB units, 0 to 40 (0 dB to 20 dB), R151 -/
def LP_ACQ_capture_margin : Obj := ⟨0x200A, 2, 17179869184, 32, 0, 0, .u8, .rwp, 12, (.range 0 40), 0, .none⟩
/-- 0x200A/03 LP_ACQ management timeout (Table 3.15): 1 ms to 60 s, R157 -/
def LP_ACQ_management_timeout : Obj := ⟨0x200A, 3, 17179869184, 32, 0, 0, .dur64, .rwp, 2000000000, (.range 1000000 60000000000), 0, .none⟩
/-- 0x200A/04 LP_ACQ management retries (Table 3.15): 0 to 7, R157 -/
def LP_ACQ_management_retries : Obj := ⟨0x200A, 4, 17179869184, 32, 0, 0, .u8, .rwp, 2, (.range 0 7), 0, .none⟩
/-- 0x200A/05 LP_ACQ fragment timeout (Table 3.15): 1 ms to 120 s, R138 -/
def LP_ACQ_fragment_timeout : Obj := ⟨0x200A, 5, 17179869184, 32, 0, 0, .dur64, .rwp, 10000000000, (.range 1000000 120000000000), 0, .none⟩
/-- 0x200B/01 LP_RX SYNC_DETECTED (Table 3.15): Syncs detected -/
def LP_RX_SYNC_DETECTED : Obj := ⟨0x200B, 1, 17179869184, 32, 0, 0, .u64, .ro, 0, .any, 0, .none⟩
/-- 0x200B/02 LP_RX FALSE_SYNC (Table 3.15): Header checks failed, R150 -/
def LP_RX_FALSE_SYNC : Obj := ⟨0x200B, 2, 17179869184, 32, 0, 0, .u64, .ro, 0, .any, 0, .none⟩
/-- 0x200B/03 LP_RX HEADER_ERROR (Table 3.15): R111 -/
def LP_RX_HEADER_ERROR : Obj := ⟨0x200B, 3, 17179869184, 32, 0, 0, .u64, .ro, 0, .any, 0, .none⟩
/-- 0x200B/04 LP_RX FRAMES_OK (Table 3.15): Frames received without error, both forms -/
def LP_RX_FRAMES_OK : Obj := ⟨0x200B, 4, 17179869184, 32, 0, 0, .u64, .ro, 0, .any, 0, .none⟩
/-- 0x200B/05 LP_RX CRC_ERROR (Table 3.15): R114 -/
def LP_RX_CRC_ERROR : Obj := ⟨0x200B, 5, 17179869184, 32, 0, 0, .u64, .ro, 0, .any, 0, .none⟩
/-- 0x200B/06 LP_RX CAPTURED (Table 3.15): Frames abandoned, R151 -/
def LP_RX_CAPTURED : Obj := ⟨0x200B, 6, 17179869184, 32, 0, 0, .u64, .ro, 0, .any, 0, .none⟩
/-- 0x200B/07 LP_RX CAPTURING (Table 3.15): Frames taken by capture, R151 -/
def LP_RX_CAPTURING : Obj := ⟨0x200B, 7, 17179869184, 32, 0, 0, .u64, .ro, 0, .any, 0, .none⟩
/-- 0x200B/08 LP_RX IGNORED (Table 3.15): Weaker second frames lost, R151 -/
def LP_RX_IGNORED : Obj := ⟨0x200B, 8, 17179869184, 32, 0, 0, .u64, .ro, 0, .any, 0, .none⟩
/-- 0x200B/09 LP_RX MISPLACED (Table 3.15): R153 -/
def LP_RX_MISPLACED : Obj := ⟨0x200B, 9, 17179869184, 32, 0, 0, .u64, .ro, 0, .any, 0, .none⟩
/-- 0x200B/10 LP_RX GRANT_SILENT (Table 3.15): R118 -/
def LP_RX_GRANT_SILENT : Obj := ⟨0x200B, 10, 17179869184, 32, 0, 0, .u64, .ro, 0, .any, 0, .none⟩
/-- 0x200B/11 LP_RX FORMAT_ERROR (Table 3.15): R121 -/
def LP_RX_FORMAT_ERROR : Obj := ⟨0x200B, 11, 17179869184, 32, 0, 0, .u64, .ro, 0, .any, 0, .none⟩
/-- 0x200B/12 LP_RX FRAG_ABORT (Table 3.15): R138 -/
def LP_RX_FRAG_ABORT : Obj := ⟨0x200B, 12, 17179869184, 32, 0, 0, .u64, .ro, 0, .any, 0, .none⟩
/-- 0x200B/13 LP_RX AUTH_FAIL (Table 3.15): R143, steps 2 and 4 -/
def LP_RX_AUTH_FAIL : Obj := ⟨0x200B, 13, 17179869184, 32, 0, 0, .u64, .ro, 0, .any, 0, .none⟩
/-- 0x200B/14 LP_RX REPLAY (Table 3.15): R143, step 3 -/
def LP_RX_REPLAY : Obj := ⟨0x200B, 14, 17179869184, 32, 0, 0, .u64, .ro, 0, .any, 0, .none⟩
/-- 0x200B/15 LP_RX UNPROTECTED (Table 3.15): R144 -/
def LP_RX_UNPROTECTED : Obj := ⟨0x200B, 15, 17179869184, 32, 0, 0, .u64, .ro, 0, .any, 0, .none⟩
/-- 0x200B/16 LP_RX MGMT_LATE (Table 3.15): R157 -/
def LP_RX_MGMT_LATE : Obj := ⟨0x200B, 16, 17179869184, 32, 0, 0, .u64, .ro, 0, .any, 0, .none⟩
/-- 0x200B/17 LP_RX BELLS (Table 3.15): R135 -/
def LP_RX_BELLS : Obj := ⟨0x200B, 17, 17179869184, 32, 0, 0, .u64, .ro, 0, .any, 0, .none⟩
/-- 0x200C/01 LP_SA station (Table 3.15): Station bound to the association, 1 to 254; 0 unbound -/
def LP_SA_station : Obj := ⟨0x200C, 1, 17179869184, 32, 1, 255, .u8, .rwp, 0, (.range 0 254), 0, .none⟩
/-- 0x200C/02 LP_SA key (Table 3.15): 16-byte AES-128 key, R145 -/
def LP_SA_key : Obj := ⟨0x200C, 2, 17179869184, 32, 1, 255, (.blob 16), .wo, 0, .any, 0, .empty⟩
/-- 0x200C/03 LP_SA state (Table 3.15): 0 EMPTY, 1 ACTIVE; 2–255 reserved -/
def LP_SA_state : Obj := ⟨0x200C, 3, 17179869184, 32, 1, 255, .u8, .rwp, 0, (.range 0 1), 0, .none⟩
/-- 0x200C/04 LP_SA transmit PN (Table 3.15): Last PN sent downstream; 0 to 2⁴⁸ − 1, R146 -/
def LP_SA_transmit_PN : Obj := ⟨0x200C, 4, 17179869184, 32, 1, 255, .u64, .rwp, 0, (.range 0 281474976710655), 0, .none⟩
/-- 0x200C/05 LP_SA receive PN (Table 3.15): Highest PN accepted upstream; 0 to 2⁴⁸ − 1, R146 -/
def LP_SA_receive_PN : Obj := ⟨0x200C, 5, 17179869184, 32, 1, 255, .u64, .rwp, 0, (.range 0 281474976710655), 0, .none⟩
/-- 0x200D/01 LP_EC state (Table 4.7): Table 4.4 -/
def LP_EC_state : Obj := ⟨0x200D, 1, 17179869184, 32, 0, 0, .u8, .ro, 0, .any, 0, .none⟩
/-- 0x200D/02 LP_EC ERLE (Table 4.7): Latest measurement, 0.1 dB, R178 -/
def LP_EC_ERLE : Obj := ⟨0x200D, 2, 17179869184, 32, 0, 0, .i16, .ro, 0, .any, 0, .none⟩
/-- 0x200D/03 LP_EC ERLE stamp (Table 4.7): Stamp of that measurement -/
def LP_EC_ERLE_stamp : Obj := ⟨0x200D, 3, 17179869184, 32, 0, 0, .time80, .ro, 0, .any, 0, .none⟩
/-- 0x200D/04 LP_EC duplex threshold (Table 4.7): 0.5 dB units, 60 to 140 (30 dB to 70 dB), R179 -/
def LP_EC_duplex_threshold : Obj := ⟨0x200D, 4, 17179869184, 32, 0, 0, .u8, .rwp, 90, (.range 60 140), 0, .none⟩
/-- 0x200D/05 LP_EC duplex admitted (Table 4.7): First three conditions of R179 hold now -/
def LP_EC_duplex_admitted : Obj := ⟨0x200D, 5, 17179869184, 32, 0, 0, .bool, .ro, 0, .any, 0, .none⟩
/-- 0x200D/06 LP_EC training step (Table 4.7): Exponent, 2 to 12 -/
def LP_EC_training_step : Obj := ⟨0x200D, 6, 17179869184, 32, 0, 0, .u8, .rwp, 4, (.range 2 12), 0, .none⟩
/-- 0x200D/07 LP_EC tracking step (Table 4.7): Exponent, 4 to 16 -/
def LP_EC_tracking_step : Obj := ⟨0x200D, 7, 17179869184, 32, 0, 0, .u8, .rwp, 8, (.range 4 16), 0, .none⟩
/-- 0x200D/08 LP_EC quiet step (Table 4.7): Exponent, 6 to 20 -/
def LP_EC_quiet_step : Obj := ⟨0x200D, 8, 17179869184, 32, 0, 0, .u8, .rwp, 10, (.range 6 20), 0, .none⟩
/-- 0x200D/09 LP_EC quiet leakage (Table 4.7): Exponent, 8 to 24, R197 -/
def LP_EC_quiet_leakage : Obj := ⟨0x200D, 9, 17179869184, 32, 0, 0, .u8, .rwp, 14, (.range 8 24), 0, .none⟩
/-- 0x200D/10 LP_EC publication period (Table 4.7): ms, 50 to 1,000, R175 -/
def LP_EC_publication_period : Obj := ⟨0x200D, 10, 17179869184, 32, 0, 0, .u16, .rwp, 250, (.range 50 1000), 0, .none⟩
/-- 0x200D/11 LP_EC taps (Table 4.7): L, Table 4.3 -/
def LP_EC_taps : Obj := ⟨0x200D, 11, 17179869184, 32, 0, 0, .u16, .ro, 96, .any, 0, .none⟩
/-- 0x200D/12 LP_EC GUARDED (Table 4.7): Blocks refused by the impulse guard, R171 -/
def LP_EC_GUARDED : Obj := ⟨0x200D, 12, 17179869184, 32, 0, 0, .u64, .ro, 0, .any, 0, .none⟩
/-- 0x200D/13 LP_EC HALF_DUPLEX (Table 4.7): DUPLEX windows with downstream withheld, R180 -/
def LP_EC_HALF_DUPLEX : Obj := ⟨0x200D, 13, 17179869184, 32, 0, 0, .u64, .ro, 0, .any, 0, .none⟩
/-- 0x200D/14 LP_EC retrain (Table 4.7): 1 requests training, Table 4.6 -/
def LP_EC_retrain : Obj := ⟨0x200D, 14, 17179869184, 32, 0, 0, .bool, .rwp, 0, .any, 0, .none⟩
/-- 0x200D/15 LP_EC TRAIN_TIMEOUT (Table 4.7): R172 -/
def LP_EC_TRAIN_TIMEOUT : Obj := ⟨0x200D, 15, 17179869184, 32, 0, 0, .u64, .ro, 0, .any, 0, .none⟩
/-- 0x200E/01 LP_EC_TAPS live (Table 4.7): Tap at element d, R166 -/
def LP_EC_TAPS_live : Obj := ⟨0x200E, 1, 17179869184, 32, 0, 1536, .u32, .ro, 0, .any, 0, .none⟩
/-- 0x200E/02 LP_EC_TAPS snapshot (Table 4.7): Quiet snapshot tap at element d -/
def LP_EC_TAPS_snapshot : Obj := ⟨0x200E, 2, 17179869184, 32, 0, 1536, .u32, .ro, 0, .any, 0, .none⟩
/-- 0x200F/01 LP_EC_PUB stamp (Table 4.7): Table 4.5 -/
def LP_EC_PUB_stamp : Obj := ⟨0x200F, 1, 17179869184, 32, 0, 0, .time80, .ro, 0, .any, 0, .none⟩
/-- 0x200F/02 LP_EC_PUB generation (Table 4.7): R177 -/
def LP_EC_PUB_generation : Obj := ⟨0x200F, 2, 17179869184, 32, 0, 0, .u32, .ro, 0, .any, 0, .none⟩
/-- 0x200F/03 LP_EC_PUB flags (Table 4.7): Table 4.5 -/
def LP_EC_PUB_flags : Obj := ⟨0x200F, 3, 17179869184, 32, 0, 0, .u8, .ro, 0, .any, 0, .none⟩
/-- 0x200F/04 LP_EC_PUB state (Table 4.7): Table 4.4 -/
def LP_EC_PUB_state : Obj := ⟨0x200F, 4, 17179869184, 32, 0, 0, .u8, .ro, 0, .any, 0, .none⟩
/-- 0x200F/05 LP_EC_PUB ERLE (Table 4.7): 0.1 dB -/
def LP_EC_PUB_ERLE : Obj := ⟨0x200F, 5, 17179869184, 32, 0, 0, .i16, .ro, 0, .any, 0, .none⟩
/-- 0x200F/06 LP_EC_PUB taps (Table 4.7): 4 × L bytes, tap 0 first -/
def LP_EC_PUB_taps : Obj := ⟨0x200F, 6, 17179869184, 32, 0, 0, (.blob 0), .ro, 0, .any, 0, .empty⟩
/-- 0x2010/01 LP_QUIET interval (Table 4.7): Requested refresh interval, ms, 10 to 10,000 -/
def LP_QUIET_interval : Obj := ⟨0x2010, 1, 17179869184, 32, 0, 0, .u16, .rwp, 100, (.range 10 10000), 0, .none⟩
/-- 0x2010/02 LP_QUIET effective (Table 4.7): I of R192, ms -/
def LP_QUIET_effective : Obj := ⟨0x2010, 2, 17179869184, 32, 0, 0, .u16, .ro, 100, .any, 0, .none⟩
/-- 0x2010/03 LP_QUIET equaliser gate (Table 4.7): MER, 0.5 dB units, 0 to 80 (0 dB to 40 dB), R196 -/
def LP_QUIET_equaliser_gate : Obj := ⟨0x2010, 3, 17179869184, 32, 0, 0, .u8, .rwp, 36, (.range 0 80), 0, .none⟩
/-- 0x2010/04 LP_QUIET canceller gate (Table 4.7): ERLE, 0.5 dB units, 40 to 140 (20 dB to 70 dB), R195 -/
def LP_QUIET_canceller_gate : Obj := ⟨0x2010, 4, 17179869184, 32, 0, 0, .u8, .rwp, 80, (.range 40 140), 0, .none⟩
/-- 0x2010/05 LP_QUIET drift limit (Table 4.7): 0.1 dB units, 5 to 60, R199 -/
def LP_QUIET_drift_limit : Obj := ⟨0x2010, 5, 17179869184, 32, 0, 0, .u8, .rwp, 15, (.range 5 60), 0, .none⟩
/-- 0x2010/06 LP_QUIET snapshot stamp (Table 4.7): R198 -/
def LP_QUIET_snapshot_stamp : Obj := ⟨0x2010, 6, 17179869184, 32, 0, 0, .time80, .ro, 0, .any, 0, .none⟩
/-- 0x2010/07 LP_QUIET EC_DRIFT (Table 4.7): R200 -/
def LP_QUIET_EC_DRIFT : Obj := ⟨0x2010, 7, 17179869184, 32, 0, 0, .u64, .ro, 0, .any, 0, .none⟩
/-- 0x2010/08 LP_QUIET EQ_DRIFT (Table 4.7): R201 -/
def LP_QUIET_EQ_DRIFT : Obj := ⟨0x2010, 8, 17179869184, 32, 0, 0, .u64, .ro, 0, .any, 0, .none⟩
/-- 0x2010/09 LP_QUIET APPLIED (Table 4.7): R197 -/
def LP_QUIET_APPLIED : Obj := ⟨0x2010, 9, 17179869184, 32, 0, 0, .u64, .ro, 0, .any, 0, .none⟩
/-- 0x2010/10 LP_QUIET GATED_OUT (Table 4.7): R197 -/
def LP_QUIET_GATED_OUT : Obj := ⟨0x2010, 10, 17179869184, 32, 0, 0, .u64, .ro, 0, .any, 0, .none⟩
/-- 0x2010/11 LP_QUIET retrain pending (Table 4.7): R200 -/
def LP_QUIET_retrain_pending : Obj := ⟨0x2010, 11, 17179869184, 32, 0, 0, .bool, .ro, 0, .any, 0, .none⟩
/-- 0x2011/01 LP_EQ points (Table 4.7): 256 × U32, 1,024 bytes, R182 -/
def LP_EQ_points : Obj := ⟨0x2011, 1, 17179869184, 32, 1, 254, (.blob 0), .ro, 0, .any, 0, .empty⟩
/-- 0x2011/02 LP_EQ state (Table 4.7): R185 -/
def LP_EQ_state : Obj := ⟨0x2011, 2, 17179869184, 32, 1, 254, .u8, .ro, 0, .any, 0, .none⟩
/-- 0x2011/03 LP_EQ stamp (Table 4.7): Sync instant of the last frame that updated the equaliser -/
def LP_EQ_stamp : Obj := ⟨0x2011, 3, 17179869184, 32, 1, 254, .time80, .ro, 0, .any, 0, .none⟩
/-- 0x2011/04 LP_EQ MER (Table 4.7): 0.1 dB, R186 -/
def LP_EQ_MER : Obj := ⟨0x2011, 4, 17179869184, 32, 1, 254, .i16, .ro, 0, .any, 0, .none⟩
/-- 0x2011/05 LP_EQ allotment SNR (Table 4.7): 64 × U8, 0.25 dB units, allotment 0 first, R186 -/
def LP_EQ_allotment_SNR : Obj := ⟨0x2011, 5, 17179869184, 32, 1, 254, (.blob 64), .ro, 0, .any, 0, (.ff 64)⟩
/-- 0x2012/01 LP_EQ_CTL training step (Table 4.7): Exponent, 1 to 12 -/
def LP_EQ_CTL_training_step : Obj := ⟨0x2012, 1, 17179869184, 32, 0, 0, .u8, .rwp, 3, (.range 1 12), 0, .none⟩
/-- 0x2012/02 LP_EQ_CTL tracking step (Table 4.7): Exponent, 2 to 16 -/
def LP_EQ_CTL_tracking_step : Obj := ⟨0x2012, 2, 17179869184, 32, 0, 0, .u8, .rwp, 6, (.range 2 16), 0, .none⟩
/-- 0x2012/03 LP_EQ_CTL quiet step (Table 4.7): Exponent, 4 to 20 -/
def LP_EQ_CTL_quiet_step : Obj := ⟨0x2012, 3, 17179869184, 32, 0, 0, .u8, .rwp, 8, (.range 4 20), 0, .none⟩
/-- 0x2012/04 LP_EQ_CTL training frames (Table 4.7): 1 to 255, R185 -/
def LP_EQ_CTL_training_frames : Obj := ⟨0x2012, 4, 17179869184, 32, 0, 0, .u8, .rwp, 16, (.range 1 255), 0, .none⟩
/-- 0x2013/01 LP_HYBRID setting (Table 4.7): Table 4.2; RB = 100 Ω, CB and RP open -/
def LP_HYBRID_setting : Obj := ⟨0x2013, 1, 17179869184, 32, 0, 0, .u32, .rwp, 3276800, .hybrid, 16777215, .none⟩
/-- 0x2013/02 LP_HYBRID rejection (Table 4.7): Measured hybrid rejection, 0.1 dB -/
def LP_HYBRID_rejection : Obj := ⟨0x2013, 2, 17179869184, 32, 0, 0, .i16, .ro, 0, .any, 0, .none⟩
/-- 0x2013/03 LP_HYBRID source (Table 4.7): R163 -/
def LP_HYBRID_source : Obj := ⟨0x2013, 3, 17179869184, 32, 0, 0, .u8, .ro, 0, .any, 0, .none⟩
/-- 0x2014/01 LP_SWEEP_FFE taps (Table 4.7): 32 × I16, 64 bytes, R189 -/
def LP_SWEEP_FFE_taps : Obj := ⟨0x2014, 1, 17179869184, 32, 0, 0, (.blob 64), .rwp, 0, .any, 0, .ffe⟩
/-- 0x2014/02 LP_SWEEP_FFE stamp (Table 4.7): End of the last FFE training -/
def LP_SWEEP_FFE_stamp : Obj := ⟨0x2014, 2, 17179869184, 32, 0, 0, .time80, .ro, 0, .any, 0, .none⟩
/-- 0x2000/01 LP_STATE state (Table 5.8): Table 5.1 -/
def LP_STATE_state : Obj := ⟨0x2000, 1, 17179869184, 32, 0, 0, .u8, .ro, 0, .any, 0, .none⟩
/-- 0x2000/02 LP_STATE enable (Table 5.8): Table 5.2 -/
def LP_STATE_enable : Obj := ⟨0x2000, 2, 17179869184, 32, 0, 0, .bool, .rwp, 1, .any, 0, .none⟩
/-- 0x2000/03 LP_STATE park (Table 5.8): Table 5.2 -/
def LP_STATE_park : Obj := ⟨0x2000, 3, 17179869184, 32, 0, 0, .bool, .rwp, 0, .any, 0, .none⟩
/-- 0x2000/04 LP_STATE quiet (Table 5.8): R212 -/
def LP_STATE_quiet : Obj := ⟨0x2000, 4, 17179869184, 32, 0, 0, .bool, .rwp, 0, .any, 0, .none⟩
/-- 0x2000/05 LP_STATE stamp (Table 5.8): Last state change -/
def LP_STATE_stamp : Obj := ⟨0x2000, 5, 17179869184, 32, 0, 0, .time80, .ro, 0, .any, 0, .none⟩
/-- 0x2000/06 LP_STATE CHECK_FAILS (Table 5.8): R208 -/
def LP_STATE_CHECK_FAILS : Obj := ⟨0x2000, 6, 17179869184, 32, 0, 0, .u64, .ro, 0, .any, 0, .none⟩
/-- 0x2015/01 LP_ACCESS registration open (Table 5.8): R225 -/
def LP_ACCESS_registration_open : Obj := ⟨0x2015, 1, 17179869184, 32, 0, 0, .bool, .rwp, 1, .any, 0, .none⟩
/-- 0x2015/02 LP_ACCESS admission (Table 5.8): 0 open, 1 reserved identities only; 2–255 reserved -/
def LP_ACCESS_admission : Obj := ⟨0x2015, 2, 17179869184, 32, 0, 0, .u8, .rwp, 0, (.range 0 1), 0, .none⟩
/-- 0x2015/03 LP_ACCESS security required (Table 5.8): R228, R230 -/
def LP_ACCESS_security_required : Obj := ⟨0x2015, 3, 17179869184, 32, 0, 0, .bool, .rwp, 0, .any, 0, .none⟩
/-- 0x2015/04 LP_ACCESS duplex allowed (Table 5.8): R230 -/
def LP_ACCESS_duplex_allowed : Obj := ⟨0x2015, 4, 17179869184, 32, 0, 0, .bool, .rwp, 0, .any, 0, .none⟩
/-- 0x2015/05 LP_ACCESS bell in use (Table 5.8): R214, R230 -/
def LP_ACCESS_bell_in_use : Obj := ⟨0x2015, 5, 17179869184, 32, 0, 0, .bool, .rwp, 0, .any, 0, .none⟩
/-- 0x2015/06 LP_ACCESS target level (Table 5.8): Upstream full-band level at the device, 0.1 dB re 1 V RMS, −600 to −100 -/
def LP_ACCESS_target_level : Obj := ⟨0x2015, 6, 17179869184, 32, 0, 0, .i16, .rwp, (-400), (.range (-600) (-100)), 0, .none⟩
/-- 0x2015/07 LP_ACCESS margin (Table 5.8): 0.5 dB units, 0 to 40, R244 -/
def LP_ACCESS_margin : Obj := ⟨0x2015, 7, 17179869184, 32, 0, 0, .u8, .rwp, 6, (.range 0 40), 0, .none⟩
/-- 0x2015/08 LP_ACCESS hysteresis (Table 5.8): 0.5 dB units, 0 to 20, R247 -/
def LP_ACCESS_hysteresis : Obj := ⟨0x2015, 8, 17179869184, 32, 0, 0, .u8, .rwp, 2, (.range 0 20), 0, .none⟩
/-- 0x2015/09 LP_ACCESS probe period (Table 5.8): s, 10 to 3,600, R246 -/
def LP_ACCESS_probe_period : Obj := ⟨0x2015, 9, 17179869184, 32, 0, 0, .u16, .rwp, 60, (.range 10 3600), 0, .none⟩
/-- 0x2015/10 LP_ACCESS grant width (Table 5.8): Default G: 1, 2, 4, 8, 16, 32 or 64 -/
def LP_ACCESS_grant_width : Obj := ⟨0x2015, 10, 17179869184, 32, 0, 0, .u8, .rwp, 4, (.pow2 1 64), 0, .none⟩
/-- 0x2015/11 LP_ACCESS listen time (Table 5.8): ms, 100 to 60,000 -/
def LP_ACCESS_listen_time : Obj := ⟨0x2015, 11, 17179869184, 32, 0, 0, .u16, .rwp, 1000, (.range 100 60000), 0, .none⟩
/-- 0x2015/12 LP_ACCESS discover time (Table 5.8): s, 1 to 600 -/
def LP_ACCESS_discover_time : Obj := ⟨0x2015, 12, 17179869184, 32, 0, 0, .u16, .rwp, 10, (.range 1 600), 0, .none⟩
/-- 0x2015/13 LP_ACCESS insulation floor (Table 5.8): Ω, 10,000 to 200,000,000, R208 -/
def LP_ACCESS_insulation_floor : Obj := ⟨0x2015, 13, 17179869184, 32, 0, 0, .u32, .rwp, 100000, (.range 10000 200000000), 0, .none⟩
/-- 0x2015/14 LP_ACCESS ranging attempts (Table 5.8): 1 to 16, R237 -/
def LP_ACCESS_ranging_attempts : Obj := ⟨0x2015, 14, 17179869184, 32, 0, 0, .u8, .rwp, 4, (.range 1 16), 0, .none⟩
/-- 0x2015/15 LP_ACCESS PACE_CHANGES (Table 5.8): R247 -/
def LP_ACCESS_PACE_CHANGES : Obj := ⟨0x2015, 15, 17179869184, 32, 0, 0, .u64, .ro, 0, .any, 0, .none⟩
/-- 0x2015/16 LP_ACCESS RANGING_FAILS (Table 5.8): R237 -/
def LP_ACCESS_RANGING_FAILS : Obj := ⟨0x2015, 16, 17179869184, 32, 0, 0, .u64, .ro, 0, .any, 0, .none⟩
/-- 0x2015/17 LP_ACCESS REQ_UNSLOTTED (Table 5.8): R223 -/
def LP_ACCESS_REQ_UNSLOTTED : Obj := ⟨0x2015, 17, 17179869184, 32, 0, 0, .u64, .ro, 0, .any, 0, .none⟩
/-- 0x2015/18 LP_ACCESS BEACON_SKIPPED (Table 5.8): R224 -/
def LP_ACCESS_BEACON_SKIPPED : Obj := ⟨0x2015, 18, 17179869184, 32, 0, 0, .u64, .ro, 0, .any, 0, .none⟩
/-- 0x2015/19 LP_ACCESS FOREIGN (Table 5.8): R210 -/
def LP_ACCESS_FOREIGN : Obj := ⟨0x2015, 19, 17179869184, 32, 0, 0, .u64, .ro, 0, .any, 0, .none⟩
/-- 0x2016/01 LP_STATION state (Table 5.8): 0 FREE, 1 RANGING, 2 CONFIRMING, 3 ACTIVE, 4 MISALIGNED; 5–255 reserved -/
def LP_STATION_state : Obj := ⟨0x2016, 1, 17179869184, 32, 1, 254, .u8, .ro, 0, .any, 0, .none⟩
/-- 0x2016/02 LP_STATION identity (Table 5.8): STATION_UID registered -/
def LP_STATION_identity : Obj := ⟨0x2016, 2, 17179869184, 32, 1, 254, .u64, .ro, 0, .any, 0, .none⟩
/-- 0x2016/03 LP_STATION reserved identity (Table 5.8): 0 when none, R228 -/
def LP_STATION_reserved_identity : Obj := ⟨0x2016, 3, 17179869184, 32, 1, 254, .u64, .rwp, 0, .any, 0, .none⟩
/-- 0x2016/04 LP_STATION allotments (Table 5.8): ALLOT_MASK assigned -/
def LP_STATION_allotments : Obj := ⟨0x2016, 4, 17179869184, 32, 1, 254, .u64, .ro, 0, .any, 0, .none⟩
/-- 0x2016/05 LP_STATION timing advance (Table 5.8): Samples -/
def LP_STATION_timing_advance : Obj := ⟨0x2016, 5, 17179869184, 32, 1, 254, .u16, .ro, 0, .any, 0, .none⟩
/-- 0x2016/06 LP_STATION level used (Table 5.8): Last LEVEL_USED, 0.1 dB re 1 V RMS -/
def LP_STATION_level_used : Obj := ⟨0x2016, 6, 17179869184, 32, 1, 254, .i16, .ro, 0, .any, 0, .none⟩
/-- 0x2016/07 LP_STATION received level (Table 5.8): Mean full-band level, 0.1 dB re 1 V RMS -/
def LP_STATION_received_level : Obj := ⟨0x2016, 7, 17179869184, 32, 1, 254, .i16, .ro, 0, .any, 0, .none⟩
/-- 0x2016/08 LP_STATION downstream pace (Table 5.8): Table 2.6 -/
def LP_STATION_downstream_pace : Obj := ⟨0x2016, 8, 17179869184, 32, 1, 254, .u8, .ro, 0, .any, 0, .none⟩
/-- 0x2016/09 LP_STATION upstream pace (Table 5.8): Table 2.6 -/
def LP_STATION_upstream_pace : Obj := ⟨0x2016, 9, 17179869184, 32, 1, 254, .u8, .ro, 0, .any, 0, .none⟩
/-- 0x2016/10 LP_STATION downstream ceiling (Table 5.8): 0 to 23 -/
def LP_STATION_downstream_ceiling : Obj := ⟨0x2016, 10, 17179869184, 32, 1, 254, .u8, .rwp, 23, (.range 0 23), 0, .none⟩
/-- 0x2016/11 LP_STATION upstream ceiling (Table 5.8): 0 to 23 -/
def LP_STATION_upstream_ceiling : Obj := ⟨0x2016, 11, 17179869184, 32, 1, 254, .u8, .rwp, 23, (.range 0 23), 0, .none⟩
/-- 0x2016/12 LP_STATION release (Table 5.8): R236 -/
def LP_STATION_release : Obj := ⟨0x2016, 12, 17179869184, 32, 1, 254, .bool, .rwp, 0, .any, 0, .none⟩
/-- 0x2016/13 LP_STATION offset (Table 5.8): Mean e, samples, R240 -/
def LP_STATION_offset : Obj := ⟨0x2016, 13, 17179869184, 32, 1, 254, .i16, .ro, 0, .any, 0, .none⟩
/-- 0x2016/14 LP_STATION capabilities (Table 5.8): 20 bytes, Table 3.7 -/
def LP_STATION_capabilities : Obj := ⟨0x2016, 14, 17179869184, 32, 1, 254, (.blob 0), .ro, 0, .any, 0, .empty⟩
/-- 0x2016/15 LP_STATION registered (Table 5.8): Stamp of the CONFIRM acknowledged -/
def LP_STATION_registered : Obj := ⟨0x2016, 15, 17179869184, 32, 1, 254, .time80, .ro, 0, .any, 0, .none⟩
/-- 0x2016/16 LP_STATION grant width (Table 5.8): G; 0 takes LP_ACCESS 0x2015/10 -/
def LP_STATION_grant_width : Obj := ⟨0x2016, 16, 17179869184, 32, 1, 254, .u8, .rwp, 0, (.zeroOrPow2 64), 0, .none⟩
/-- 0x2017/01 LP_SURVEY energy (Table 5.8): 64 × U8, received level per allotment referred to the full band, in units
of −0.5 dB re 1 V RMS -/
def LP_SURVEY_energy : Obj := ⟨0x2017, 1, 17179869184, 32, 0, 0, (.blob 64), .ro, 0, .any, 0, (.ff 64)⟩
/-- 0x2017/02 LP_SURVEY stamp (Table 5.8): End of the last LISTEN -/
def LP_SURVEY_stamp : Obj := ⟨0x2017, 2, 17179869184, 32, 0, 0, .time80, .ro, 0, .any, 0, .none⟩
/-- 0x3000/01 LR_CTL enable (Table 6.7): Sounding enabled, R260 -/
def LR_CTL_enable : Obj := ⟨0x3000, 1, 17179869184, 32, 0, 0, .bool, .rwp, 1, .any, 0, .none⟩
/-- 0x3000/02 LR_CTL mapped length (Table 6.7): Cells, 1 to 163,840, R256 -/
def LR_CTL_mapped_length : Obj := ⟨0x3000, 2, 17179869184, 32, 0, 0, .u32, .rwp, 163840, (.range 1 163840), 0, .none⟩
/-- 0x3000/03 LR_CTL bands (Table 6.7): [0] Near, [1] Mid, [2] Far; [7:3] reserved -/
def LR_CTL_bands : Obj := ⟨0x3000, 3, 17179869184, 32, 0, 0, .u8, .rwp, 7, .any, 7, .none⟩
/-- 0x3000/04 LR_CTL averages (Table 6.7): A: 1, 2, 4 … 1,024, R267 -/
def LR_CTL_averages : Obj := ⟨0x3000, 4, 17179869184, 32, 0, 0, .u16, .rwp, 64, (.pow2 1 1024), 0, .none⟩
/-- 0x3000/05 LR_CTL Near level (Table 6.7): 0.1 V peak-to-peak, 5 to 80 -/
def LR_CTL_Near_level : Obj := ⟨0x3000, 5, 17179869184, 32, 0, 0, .u8, .rwp, 80, (.range 5 80), 0, .none⟩
/-- 0x3000/06 LR_CTL Mid level (Table 6.7): As /05 -/
def LR_CTL_Mid_level : Obj := ⟨0x3000, 6, 17179869184, 32, 0, 0, .u8, .rwp, 80, (.range 5 80), 0, .none⟩
/-- 0x3000/07 LR_CTL Far level (Table 6.7): As /05 -/
def LR_CTL_Far_level : Obj := ⟨0x3000, 7, 17179869184, 32, 0, 0, .u8, .rwp, 80, (.range 5 80), 0, .none⟩
/-- 0x3000/08 LR_CTL history period (Table 6.7): s, 600 to 2,592,000, R274 -/
def LR_CTL_history_period : Obj := ⟨0x3000, 8, 17179869184, 32, 0, 0, .u32, .rwp, 86400, (.range 600 2592000), 0, .none⟩
/-- 0x3000/09 LR_CTL stale time (Table 6.7): s, 60 to 65,535 -/
def LR_CTL_stale_time : Obj := ⟨0x3000, 9, 17179869184, 32, 0, 0, .u16, .rwp, 900, (.range 60 65535), 0, .none⟩
/-- 0x3001/01 LR_VELOCITY VF_ref (Table 6.7): Units of 0.000,1, 5,000 to 9,900 -/
def LR_VELOCITY_VF_ref : Obj := ⟨0x3001, 1, 17179869184, 32, 0, 0, .u16, .rwp, 8500, (.range 5000 9900), 0, .none⟩
/-- 0x3001/02 LR_VELOCITY κ (Table 6.7): ppm/K, −1,000 to 1,000 -/
def LR_VELOCITY_kappa : Obj := ⟨0x3001, 2, 17179869184, 32, 0, 0, .i16, .rwp, (-100), (.range (-1000) (1000)), 0, .none⟩
/-- 0x3001/03 LR_VELOCITY T_ref (Table 6.7): 0.01 °C, −4,000 to 15,000 -/
def LR_VELOCITY_T_ref : Obj := ⟨0x3001, 3, 17179869184, 32, 0, 0, .i16, .rwp, 5000, (.range (-4000) (15000)), 0, .none⟩
/-- 0x3001/04 LR_VELOCITY R_ref (Table 6.7): mΩ; 0 none; set by capture -/
def LR_VELOCITY_R_ref : Obj := ⟨0x3001, 4, 17179869184, 32, 0, 0, .u32, .rwp, 0, .any, 0, .none⟩
/-- 0x3001/05 LR_VELOCITY T_w (Table 6.7): 0.01 °C, R275 -/
def LR_VELOCITY_T_w : Obj := ⟨0x3001, 5, 17179869184, 32, 0, 0, .i16, .ro, 5000, .any, 0, .none⟩
/-- 0x3001/06 LR_VELOCITY velocity (Table 6.7): m/s, R276 -/
def LR_VELOCITY_velocity : Obj := ⟨0x3001, 6, 17179869184, 32, 0, 0, .u32, .ro, 254823589, .any, 0, .none⟩
/-- 0x3001/07 LR_VELOCITY held (Table 6.7): R275 -/
def LR_VELOCITY_held : Obj := ⟨0x3001, 7, 17179869184, 32, 0, 0, .bool, .ro, 0, .any, 0, .none⟩
/-- 0x3002/01 LR_STATUS engine (Table 6.7): Engine assigned, or 0xFF -/
def LR_STATUS_engine : Obj := ⟨0x3002, 1, 17179869184, 32, 0, 0, .u8, .ro, 255, .any, 0, .none⟩
/-- 0x3002/02 LR_STATUS band (Table 6.7): Band in progress -/
def LR_STATUS_band : Obj := ⟨0x3002, 2, 17179869184, 32, 0, 0, .u8, .ro, 0, .any, 0, .none⟩
/-- 0x3002/03 LR_STATUS accepted (Table 6.7): Records accepted in that band -/
def LR_STATUS_accepted : Obj := ⟨0x3002, 3, 17179869184, 32, 0, 0, .u16, .ro, 0, .any, 0, .none⟩
/-- 0x3002/04 LR_STATUS refresh stamp (Table 6.7): MEASURED of the last full refresh -/
def LR_STATUS_refresh_stamp : Obj := ⟨0x3002, 4, 17179869184, 32, 0, 0, .time80, .ro, 0, .any, 0, .none⟩
/-- 0x3002/05 LR_STATUS REFRESHES (Table 6.7): R274 -/
def LR_STATUS_REFRESHES : Obj := ⟨0x3002, 5, 17179869184, 32, 0, 0, .u64, .ro, 0, .any, 0, .none⟩
/-- 0x3002/06 LR_STATUS SWEEPS (Table 6.7): R266 -/
def LR_STATUS_SWEEPS : Obj := ⟨0x3002, 6, 17179869184, 32, 0, 0, .u64, .ro, 0, .any, 0, .none⟩
/-- 0x3002/07 LR_STATUS REJECTED (Table 6.7): R266 -/
def LR_STATUS_REJECTED : Obj := ⟨0x3002, 7, 17179869184, 32, 0, 0, .u64, .ro, 0, .any, 0, .none⟩
/-- 0x3002/08 LR_STATUS RESTARTED (Table 6.7): R268 -/
def LR_STATUS_RESTARTED : Obj := ⟨0x3002, 8, 17179869184, 32, 0, 0, .u64, .ro, 0, .any, 0, .none⟩
/-- 0x3002/09 LR_STATUS SKIPPED (Table 6.7): R259 -/
def LR_STATUS_SKIPPED : Obj := ⟨0x3002, 9, 17179869184, 32, 0, 0, .u64, .ro, 0, .any, 0, .none⟩
/-- 0x3002/10 LR_STATUS BLANKED (Table 6.7): R265 -/
def LR_STATUS_BLANKED : Obj := ⟨0x3002, 10, 17179869184, 32, 0, 0, .u64, .ro, 0, .any, 0, .none⟩
/-- 0x3003/01 LR_LAST capture (Table 6.7): R288 -/
def LR_LAST_capture : Obj := ⟨0x3003, 1, 17179869184, 32, 0, 0, .bool, .rwp, 0, .any, 0, .none⟩
/-- 0x3003/02 LR_LAST state (Table 6.7): 0 NONE, 1 CAPTURING, 2 VALID, 3 FAILED, 4 LOADED; 5–255 reserved -/
def LR_LAST_state : Obj := ⟨0x3003, 2, 17179869184, 32, 0, 0, .u8, .ro, 0, .any, 0, .none⟩
/-- 0x3003/03 LR_LAST stamp (Table 6.7): End of capture, or as loaded -/
def LR_LAST_stamp : Obj := ⟨0x3003, 3, 17179869184, 32, 0, 0, .time80, .rwp, 0, .any, 0, .none⟩
/-- 0x3003/04 LR_LAST refreshes (Table 6.7): 2 to 64 -/
def LR_LAST_refreshes : Obj := ⟨0x3003, 4, 17179869184, 32, 0, 0, .u8, .rwp, 8, (.range 2 64), 0, .none⟩
/-- 0x3003/05 LR_LAST stability limit (Table 6.7): σ in 2⁻¹⁵, 16 to 4,096 -/
def LR_LAST_stability_limit : Obj := ⟨0x3003, 5, 17179869184, 32, 0, 0, .u16, .rwp, 256, (.range 16 4096), 0, .none⟩
/-- 0x3003/06 LR_LAST threshold factor (Table 6.7): k in units of 0.1, 10 to 100 -/
def LR_LAST_threshold_factor : Obj := ⟨0x3003, 6, 17179869184, 32, 0, 0, .u8, .rwp, 40, (.range 10 100), 0, .none⟩
/-- 0x3003/07 LR_LAST threshold floor (Table 6.7): 1 to 255 -/
def LR_LAST_threshold_floor : Obj := ⟨0x3003, 7, 17179869184, 32, 0, 0, .u8, .rwp, 2, (.range 1 255), 0, .none⟩
/-- 0x3003/08 LR_LAST check (Table 6.7): R292 -/
def LR_LAST_check : Obj := ⟨0x3003, 8, 17179869184, 32, 0, 0, .u32, .ro, 0, .any, 0, .none⟩
/-- 0x3003/09 LR_LAST stable fraction (Table 6.7): 0.01 %, R289 -/
def LR_LAST_stable_fraction : Obj := ⟨0x3003, 9, 17179869184, 32, 0, 0, .u16, .ro, 0, .any, 0, .none⟩
/-- 0x3004/01 LR_SIG trend shift (Table 6.7): 0 to 6, R273 -/
def LR_SIG_trend_shift : Obj := ⟨0x3004, 1, 17179869184, 32, 0, 0, .u8, .rwp, 2, (.range 0 6), 0, .none⟩
/-- 0x3004/02 LR_SIG confirm count (Table 6.7): 1 to 16, R301 -/
def LR_SIG_confirm_count : Obj := ⟨0x3004, 2, 17179869184, 32, 0, 0, .u8, .rwp, 3, (.range 1 16), 0, .none⟩
/-- 0x3004/03 LR_SIG merge gap (Table 6.7): Cells, 0 to 64 -/
def LR_SIG_merge_gap : Obj := ⟨0x3004, 3, 17179869184, 32, 0, 0, .u8, .rwp, 8, (.range 0 64), 0, .none⟩
/-- 0x3004/04 LR_SIG maximum span (Table 6.7): Cells, 8 to 40,000 -/
def LR_SIG_maximum_span : Obj := ⟨0x3004, 4, 17179869184, 32, 0, 0, .u16, .rwp, 4000, (.range 8 40000), 0, .none⟩
/-- 0x3004/05 LR_SIG site factor (Table 6.7): 2 to 16, R299 -/
def LR_SIG_site_factor : Obj := ⟨0x3004, 5, 17179869184, 32, 0, 0, .u8, .rwp, 4, (.range 2 16), 0, .none⟩
/-- 0x3004/06 LR_SIG beyond drop (Table 6.7): 0.5 dB units, 6 to 60 -/
def LR_SIG_beyond_drop : Obj := ⟨0x3004, 6, 17179869184, 32, 0, 0, .u8, .rwp, 20, (.range 6 60), 0, .none⟩
/-- 0x3004/07 LR_SIG joint extent (Table 6.7): Cells, 2 to 64 -/
def LR_SIG_joint_extent : Obj := ⟨0x3004, 7, 17179869184, 32, 0, 0, .u8, .rwp, 16, (.range 2 64), 0, .none⟩
/-- 0x3004/08 LR_SIG active events (Table 6.7): Events not cleared -/
def LR_SIG_active_events : Obj := ⟨0x3004, 8, 17179869184, 32, 0, 0, .u16, .ro, 0, .any, 0, .none⟩
/-- 0x3005/01 LR_EPM enable (Table 6.7): Echo-path monitor enabled -/
def LR_EPM_enable : Obj := ⟨0x3005, 1, 17179869184, 32, 0, 0, .bool, .rwp, 1, .any, 0, .none⟩
/-- 0x3005/02 LR_EPM threshold (Table 6.7): δ in 2⁻¹⁵, 64 to 32,767 -/
def LR_EPM_threshold : Obj := ⟨0x3005, 2, 17179869184, 32, 0, 0, .u16, .rwp, 1024, (.range 64 32767), 0, .none⟩
/-- 0x3005/03 LR_EPM ERLE floor (Table 6.7): 0.5 dB units, 0 to 140 -/
def LR_EPM_ERLE_floor : Obj := ⟨0x3005, 3, 17179869184, 32, 0, 0, .u8, .rwp, 40, (.range 0 140), 0, .none⟩
/-- 0x3005/04 LR_EPM guard run (Table 6.7): Blocks, 8 to 4,096 -/
def LR_EPM_guard_run : Obj := ⟨0x3005, 4, 17179869184, 32, 0, 0, .u16, .rwp, 64, (.range 8 4096), 0, .none⟩
/-- 0x3005/05 LR_EPM reference stamp (Table 6.7): R277 -/
def LR_EPM_reference_stamp : Obj := ⟨0x3005, 5, 17179869184, 32, 0, 0, .time80, .ro, 0, .any, 0, .none⟩
/-- 0x3005/06 LR_EPM reference generation (Table 6.7): R277 -/
def LR_EPM_reference_generation : Obj := ⟨0x3005, 6, 17179869184, 32, 0, 0, .u32, .ro, 0, .any, 0, .none⟩
/-- 0x3005/07 LR_EPM profile (Table 6.7): L × U16 δ, tap 0 first -/
def LR_EPM_profile : Obj := ⟨0x3005, 7, 17179869184, 32, 0, 0, (.blob 0), .ro, 0, .any, 0, .empty⟩
/-- 0x3005/08 LR_EPM ALERTS (Table 6.7): R279, R280 -/
def LR_EPM_ALERTS : Obj := ⟨0x3005, 8, 17179869184, 32, 0, 0, .u64, .ro, 0, .any, 0, .none⟩
/-- 0x3005/09 LR_EPM IGNORED (Table 6.7): R278 -/
def LR_EPM_IGNORED : Obj := ⟨0x3005, 9, 17179869184, 32, 0, 0, .u64, .ro, 0, .any, 0, .none⟩
/-- 0x3006/01 LR_FOCUS request (Table 6.7): Cleared when begun, R283 -/
def LR_FOCUS_request : Obj := ⟨0x3006, 1, 17179869184, 32, 0, 0, .bool, .rwp, 0, .any, 0, .none⟩
/-- 0x3006/02 LR_FOCUS centre (Table 6.7): Cell -/
def LR_FOCUS_centre : Obj := ⟨0x3006, 2, 17179869184, 32, 0, 0, .u32, .rwp, 0, (.range 0 163839), 0, .none⟩
/-- 0x3006/03 LR_FOCUS half-span (Table 6.7): Cells, 16 to 40,000 -/
def LR_FOCUS_half_span : Obj := ⟨0x3006, 3, 17179869184, 32, 0, 0, .u16, .rwp, 800, (.range 16 40000), 0, .none⟩
/-- 0x3006/04 LR_FOCUS averages (Table 6.7): 1, 2, 4 … 256 -/
def LR_FOCUS_averages : Obj := ⟨0x3006, 4, 17179869184, 32, 0, 0, .u16, .rwp, 16, (.pow2 1 256), 0, .none⟩
/-- 0x3006/05 LR_FOCUS pending (Table 6.7): R284 -/
def LR_FOCUS_pending : Obj := ⟨0x3006, 5, 17179869184, 32, 0, 0, .bool, .ro, 0, .any, 0, .none⟩
/-- 0x3006/06 LR_FOCUS RUNS (Table 6.7): R287 -/
def LR_FOCUS_RUNS : Obj := ⟨0x3006, 6, 17179869184, 32, 0, 0, .u64, .ro, 0, .any, 0, .none⟩
/-- 0x3006/07 LR_FOCUS EXPIRED (Table 6.7): R284 -/
def LR_FOCUS_EXPIRED : Obj := ⟨0x3006, 7, 17179869184, 32, 0, 0, .u64, .ro, 0, .any, 0, .none⟩
/-- 0x3007/01 LR_DC enable (Table 6.7): R310 -/
def LR_DC_enable : Obj := ⟨0x3007, 1, 17179869184, 32, 0, 0, .bool, .rwp, 1, .any, 0, .none⟩
/-- 0x3007/02 LR_DC insulation A (Table 6.7): Ω, R309 -/
def LR_DC_insulation_A : Obj := ⟨0x3007, 2, 17179869184, 32, 0, 0, .u32, .ro, 0, .any, 0, .none⟩
/-- 0x3007/03 LR_DC insulation B (Table 6.7): Ω -/
def LR_DC_insulation_B : Obj := ⟨0x3007, 3, 17179869184, 32, 0, 0, .u32, .ro, 0, .any, 0, .none⟩
/-- 0x3007/04 LR_DC loop (Table 6.7): mΩ -/
def LR_DC_loop : Obj := ⟨0x3007, 4, 17179869184, 32, 0, 0, .u32, .ro, 0, .any, 0, .none⟩
/-- 0x3007/05 LR_DC insulation stamp (Table 6.7): End of the last insulation measurement -/
def LR_DC_insulation_stamp : Obj := ⟨0x3007, 5, 17179869184, 32, 0, 0, .time80, .ro, 0, .any, 0, .none⟩
/-- 0x3007/06 LR_DC loop stamp (Table 6.7): End of the last loop measurement -/
def LR_DC_loop_stamp : Obj := ⟨0x3007, 6, 17179869184, 32, 0, 0, .time80, .ro, 0, .any, 0, .none⟩
/-- 0x3007/07 LR_DC flags (Table 6.7): [0] COMMON, [1] BELOW_RANGE, [2] ABOVE_RANGE, [3] UNSETTLED, [4] OPEN; [7:5]
reserved -/
def LR_DC_flags : Obj := ⟨0x3007, 7, 17179869184, 32, 0, 0, .u8, .ro, 0, .any, 31, .none⟩
/-- 0x3007/08 LR_DC interval (Table 6.7): s, 10 to 3,600 -/
def LR_DC_interval : Obj := ⟨0x3007, 8, 17179869184, 32, 0, 0, .u16, .rwp, 60, (.range 10 3600), 0, .none⟩
/-- 0x3007/09 LR_DC alarm level (Table 6.7): Ω, 10,000 to 200,000,000 -/
def LR_DC_alarm_level : Obj := ⟨0x3007, 9, 17179869184, 32, 0, 0, .u32, .rwp, 1000000, (.range 10000 200000000), 0, .none⟩
/-- 0x3007/10 LR_DC capacitance (Table 6.7): nF -/
def LR_DC_capacitance : Obj := ⟨0x3007, 10, 17179869184, 32, 0, 0, .u32, .ro, 0, .any, 0, .none⟩
/-- 0x3008/01 LR_READOUT content (Table 6.7): R313 -/
def LR_READOUT_content : Obj := ⟨0x3008, 1, 17179869184, 32, 0, 0, .u8, .rwp, 0, (.range 0 4), 0, .none⟩
/-- 0x3008/02 LR_READOUT first cell (Table 6.7): 0 to 163,839 -/
def LR_READOUT_first_cell : Obj := ⟨0x3008, 2, 17179869184, 32, 0, 0, .u32, .rwp, 0, (.range 0 163839), 0, .none⟩
/-- 0x3008/03 LR_READOUT count (Table 6.7): 1 to 163,840 -/
def LR_READOUT_count : Obj := ⟨0x3008, 3, 17179869184, 32, 0, 0, .u32, .rwp, 163840, (.range 1 163840), 0, .none⟩
/-- 0x3008/04 LR_READOUT snapshot (Table 6.7): History position, 0 to 15 -/
def LR_READOUT_snapshot : Obj := ⟨0x3008, 4, 17179869184, 32, 0, 0, .u8, .rwp, 0, (.range 0 15), 0, .none⟩
/-- 0x3008/05 LR_READOUT start (Table 6.7): Cleared when the stream begins -/
def LR_READOUT_start : Obj := ⟨0x3008, 5, 17179869184, 32, 0, 0, .bool, .rwp, 0, .any, 0, .none⟩
/-- 0x3008/06 LR_READOUT state (Table 6.7): 0 IDLE, 1 STREAMING; 2–255 reserved -/
def LR_READOUT_state : Obj := ⟨0x3008, 6, 17179869184, 32, 0, 0, .u8, .ro, 0, .any, 0, .none⟩
/-- 0x3009/01 LR_HISTORY stamps (Table 6.7): 16 × TIME80, position 0 first; 0 when empty -/
def LR_HISTORY_stamps : Obj := ⟨0x3009, 1, 17179869184, 32, 0, 0, (.blob 160), .ro, 0, .any, 0, (.zeros 160)⟩
/-- 0x3009/02 LR_HISTORY newest (Table 6.7): Position written last, or 0xFF -/
def LR_HISTORY_newest : Obj := ⟨0x3009, 2, 17179869184, 32, 0, 0, .u8, .ro, 255, .any, 0, .none⟩
/-- 0x3800/01 CELL_MAP (Table 6.7): Element = cell, Table 6.1; subindex n + 1 for port n, in decimal as R586 states -/
def CELL_MAP : Obj := ⟨0x3800, 1, 1048576, 32, 0, 163840, .u64, .rwp, 0, .any, 0, .none⟩
/-- 0x4000/01 ITIN_OP windows (Table 7.5): Table 7.1 -/
def ITIN_OP_windows : Obj := ⟨0x4000, 1, 268435456, 32, 0, 256, .u64, .ro, 0, .any, 0, .itin⟩
/-- 0x4000/02 ITIN_OP grants (Table 7.5): Table 7.3 -/
def ITIN_OP_grants : Obj := ⟨0x4000, 2, 268435456, 32, 0, 1024, .u64, .ro, 0, .any, 0, .none⟩
/-- 0x4000/03 ITIN_OP count (Table 7.5): Windows -/
def ITIN_OP_count : Obj := ⟨0x4000, 3, 268435456, 32, 0, 0, .u16, .ro, 3, .any, 0, .none⟩
/-- 0x4000/04 ITIN_OP cycle (Table 7.5): R316 -/
def ITIN_OP_cycle : Obj := ⟨0x4000, 4, 268435456, 32, 0, 0, .dur64, .ro, 2000000000, .any, 0, .none⟩
/-- 0x4000/05 ITIN_OP base (Table 7.5): R316 -/
def ITIN_OP_base : Obj := ⟨0x4000, 5, 268435456, 32, 0, 0, .time80, .ro, 0, .any, 0, .none⟩
/-- 0x4040/01 ITIN_PEND windows (Table 7.5): Table 7.1 -/
def ITIN_PEND_windows : Obj := ⟨0x4040, 1, 268435456, 32, 0, 256, .u64, .rwp, 0, .any, 0xFFFFFFFF83FFFFFF, .itin⟩
/-- 0x4040/02 ITIN_PEND grants (Table 7.5): Table 7.3 -/
def ITIN_PEND_grants : Obj := ⟨0x4040, 2, 268435456, 32, 0, 1024, .u64, .rwp, 0, .any, 0xFF0FFFFFFFFFFFFF, .none⟩
/-- 0x4040/03 ITIN_PEND count (Table 7.5): 1 to 256 -/
def ITIN_PEND_count : Obj := ⟨0x4040, 3, 268435456, 32, 0, 0, .u16, .rwp, 3, (.range 1 256), 0, .none⟩
/-- 0x4040/04 ITIN_PEND cycle (Table 7.5): 1 ms to 60 s -/
def ITIN_PEND_cycle : Obj := ⟨0x4040, 4, 268435456, 32, 0, 0, .dur64, .rwp, 2000000000, (.range 1000000 60000000000), 0, .none⟩
/-- 0x4040/05 ITIN_PEND base (Table 7.5): R330 -/
def ITIN_PEND_base : Obj := ⟨0x4040, 5, 268435456, 32, 0, 0, .time80, .rwp, 0, .any, 0, .none⟩
/-- 0x4080/01 ITIN_CTL arm (Table 7.5): R328; cleared at the switch -/
def ITIN_CTL_arm : Obj := ⟨0x4080, 1, 268435456, 32, 0, 0, .bool, .rwp, 0, .any, 0, .none⟩
/-- 0x4080/02 ITIN_CTL state (Table 7.5): 0 RUNNING, 1 ARMED; 2–255 reserved -/
def ITIN_CTL_state : Obj := ⟨0x4080, 2, 268435456, 32, 0, 0, .u8, .ro, 0, .any, 0, .none⟩
/-- 0x4080/03 ITIN_CTL switch (Table 7.5): Switch instant, armed or last -/
def ITIN_CTL_switch : Obj := ⟨0x4080, 3, 268435456, 32, 0, 0, .time80, .ro, 0, .any, 0, .none⟩
/-- 0x4080/04 ITIN_CTL BASE_ADVANCED (Table 7.5): R330 -/
def ITIN_CTL_BASE_ADVANCED : Obj := ⟨0x4080, 4, 268435456, 32, 0, 0, .bool, .ro, 0, .any, 0, .none⟩
/-- 0x4080/05 ITIN_CTL advance (Table 7.5): k of R330 -/
def ITIN_CTL_advance : Obj := ⟨0x4080, 5, 268435456, 32, 0, 0, .u64, .ro, 0, .any, 0, .none⟩
/-- 0x4080/06 ITIN_CTL guard (Table 7.5): µs, 0 to 2,000, R324 -/
def ITIN_CTL_guard : Obj := ⟨0x4080, 6, 268435456, 32, 0, 0, .u16, .rwp, 450, (.range 0 2000), 0, .none⟩
/-- 0x4080/07 ITIN_CTL window (Table 7.5): Window in progress -/
def ITIN_CTL_window : Obj := ⟨0x4080, 7, 268435456, 32, 0, 0, .u8, .ro, 0, .any, 0, .none⟩
/-- 0x4080/08 ITIN_CTL CYCLES (Table 7.5): Cycles begun; a window 0 resumed part-way after a step of time is not
counted, R333 -/
def ITIN_CTL_CYCLES : Obj := ⟨0x4080, 8, 268435456, 32, 0, 0, .u64, .ro, 0, .any, 0, .none⟩
/-- 0x4080/09 ITIN_CTL OVERSIZE (Table 7.5): R327 -/
def ITIN_CTL_OVERSIZE : Obj := ⟨0x4080, 9, 268435456, 32, 0, 0, .u64, .ro, 0, .any, 0, .none⟩
/-- 0x4080/10 ITIN_CTL HELD (Table 7.5): R326 -/
def ITIN_CTL_HELD : Obj := ⟨0x4080, 10, 268435456, 32, 0, 0, .u64, .ro, 0, .any, 0, .none⟩
/-- 0x4080/11 ITIN_CTL FRAGMENTED (Table 7.5): R326 -/
def ITIN_CTL_FRAGMENTED : Obj := ⟨0x4080, 11, 268435456, 32, 0, 0, .u64, .ro, 0, .any, 0, .none⟩
/-- 0x4080/12 ITIN_CTL GRANT_OMITTED (Table 7.5): R321 -/
def ITIN_CTL_GRANT_OMITTED : Obj := ⟨0x4080, 12, 268435456, 32, 0, 0, .u64, .ro, 0, .any, 0, .none⟩
/-- 0x4080/13 ITIN_CTL GRANT_CARRIED (Table 7.5): R332 -/
def ITIN_CTL_GRANT_CARRIED : Obj := ⟨0x4080, 13, 268435456, 32, 0, 0, .u64, .ro, 0, .any, 0, .none⟩
/-- 0x4100/01 QUEUE enable (Table 8.3): R358, R360 -/
def QUEUE_enable : Obj := ⟨0x4100, 1, 0, 1, 0, 4096, .bool, .rwp, 1, .any, 0, .none⟩
/-- 0x4100/02 QUEUE class (Table 8.3): 0 to 7, R356 -/
def QUEUE_class : Obj := ⟨0x4100, 2, 0, 1, 0, 4096, .u8, .rwp, 0, (.range 0 7), 0, .none⟩
/-- 0x4100/03 QUEUE fragmentation (Table 8.3): R326 -/
def QUEUE_fragmentation : Obj := ⟨0x4100, 3, 0, 1, 0, 4096, .bool, .rwp, 0, .any, 0, .none⟩
/-- 0x4100/04 QUEUE quantum (Table 8.3): Bytes, 64 to 65,535, R362 -/
def QUEUE_quantum : Obj := ⟨0x4100, 4, 0, 1, 0, 4096, .u16, .rwp, 1536, (.range 64 65535), 0, .none⟩
/-- 0x4100/05 QUEUE green limit (Table 8.3): Bytes, 0 to 67,108,864, R358 -/
def QUEUE_green_limit : Obj := ⟨0x4100, 5, 0, 1, 0, 4096, .u32, .rwp, 262144, (.range 0 67108864), 0, .none⟩
/-- 0x4100/06 QUEUE yellow limit (Table 8.3): As /05 -/
def QUEUE_yellow_limit : Obj := ⟨0x4100, 6, 0, 1, 0, 4096, .u32, .rwp, 131072, (.range 0 67108864), 0, .none⟩
/-- 0x4100/07 QUEUE red limit (Table 8.3): As /05 -/
def QUEUE_red_limit : Obj := ⟨0x4100, 7, 0, 1, 0, 4096, .u32, .rwp, 32768, (.range 0 67108864), 0, .none⟩
/-- 0x4100/08 QUEUE maximum sojourn (Table 8.3): 0 none; 1 ms to 600 s, R359 -/
def QUEUE_maximum_sojourn : Obj := ⟨0x4100, 8, 0, 1, 0, 4096, .dur64, .rwp, 0, (.zeroOr 1000000 600000000000), 0, .none⟩
/-- 0x4100/09 QUEUE flush (Table 8.3): R360 -/
def QUEUE_flush : Obj := ⟨0x4100, 9, 0, 1, 0, 4096, .bool, .rwp, 0, .any, 0, .none⟩
/-- 0x4100/10 QUEUE depth (Table 8.3): Bytes -/
def QUEUE_depth : Obj := ⟨0x4100, 10, 0, 1, 0, 4096, .u32, .ro, 0, .any, 0, .none⟩
/-- 0x4100/11 QUEUE frames (Table 8.3): Frames held -/
def QUEUE_frames : Obj := ⟨0x4100, 11, 0, 1, 0, 4096, .u32, .ro, 0, .any, 0, .none⟩
/-- 0x4100/12 QUEUE deficit (Table 8.3): Bytes, R362 -/
def QUEUE_deficit : Obj := ⟨0x4100, 12, 0, 1, 0, 4096, .u32, .ro, 0, .any, 0, .none⟩
/-- 0x4100/13 QUEUE ENQUEUED (Table 8.3): Frames admitted -/
def QUEUE_ENQUEUED : Obj := ⟨0x4100, 13, 0, 1, 0, 4096, .u64, .ro, 0, .any, 0, .none⟩
/-- 0x4100/14 QUEUE SENT (Table 8.3): Frames whose transmission ended -/
def QUEUE_SENT : Obj := ⟨0x4100, 14, 0, 1, 0, 4096, .u64, .ro, 0, .any, 0, .none⟩
/-- 0x4100/15 QUEUE TAIL_DROPS (Table 8.3): R358 -/
def QUEUE_TAIL_DROPS : Obj := ⟨0x4100, 15, 0, 1, 0, 4096, .u64, .ro, 0, .any, 0, .none⟩
/-- 0x4100/16 QUEUE AGED (Table 8.3): R359 -/
def QUEUE_AGED : Obj := ⟨0x4100, 16, 0, 1, 0, 4096, .u64, .ro, 0, .any, 0, .none⟩
/-- 0x4100/17 QUEUE UNREACHABLE (Table 8.3): R359 -/
def QUEUE_UNREACHABLE : Obj := ⟨0x4100, 17, 0, 1, 0, 4096, .u64, .ro, 0, .any, 0, .none⟩
/-- 0x4100/18 QUEUE FLUSHED (Table 8.3): R360 -/
def QUEUE_FLUSHED : Obj := ⟨0x4100, 18, 0, 1, 0, 4096, .u64, .ro, 0, .any, 0, .none⟩
/-- 0x4200/01 SHAPER enable (Table 8.3): R366 -/
def SHAPER_enable : Obj := ⟨0x4200, 1, 0, 1, 0, 4096, .bool, .rwp, 0, .any, 0, .none⟩
/-- 0x4200/02 SHAPER idle slope (Table 8.3): kb/s, R363 -/
def SHAPER_idle_slope : Obj := ⟨0x4200, 2, 0, 1, 0, 4096, .u32, .rwp, 1000, (.range 1 1000000), 0, .none⟩
/-- 0x4200/03 SHAPER send slope (Table 8.3): kb/s, R363 -/
def SHAPER_send_slope : Obj := ⟨0x4200, 3, 0, 1, 0, 4096, .u32, .rwp, 1000000, (.range 1 1000000), 0, .none⟩
/-- 0x4200/04 SHAPER burst (Table 8.3): Bytes, 64 to 1,048,576 -/
def SHAPER_burst : Obj := ⟨0x4200, 4, 0, 1, 0, 4096, .u32, .rwp, 3072, (.range 64 1048576), 0, .none⟩
/-- 0x4200/05 SHAPER credit (Table 8.3): 2⁻¹⁶ byte, R363 -/
def SHAPER_credit : Obj := ⟨0x4200, 5, 0, 1, 0, 4096, .i64, .ro, 0, .any, 0, .none⟩
/-- 0x4300/01 METER mode (Table 8.4): 0 BLIND, 1 AWARE, 2 HYBRID; 3–255 reserved, R353 -/
def METER_mode : Obj := ⟨0x4300, 1, 0, 1, 0, 65536, .u8, .rwp, 0, (.range 0 2), 0, .none⟩
/-- 0x4300/02 METER CIR (Table 8.4): kb/s, R351 -/
def METER_CIR : Obj := ⟨0x4300, 2, 0, 1, 0, 65536, .u32, .rwp, 1000000, (.range 1 1000000), 0, .none⟩
/-- 0x4300/03 METER PIR (Table 8.4): kb/s, at least CIR, R355 -/
def METER_PIR : Obj := ⟨0x4300, 3, 0, 1, 0, 65536, .u32, .rwp, 1000000, (.range 1 1000000), 0, .none⟩
/-- 0x4300/04 METER CBS (Table 8.4): Bytes, 64 to 1,048,576 -/
def METER_CBS : Obj := ⟨0x4300, 4, 0, 1, 0, 65536, .u32, .rwp, 65536, (.range 64 1048576), 0, .none⟩
/-- 0x4300/05 METER PBS (Table 8.4): As /04 -/
def METER_PBS : Obj := ⟨0x4300, 5, 0, 1, 0, 65536, .u32, .rwp, 65536, (.range 64 1048576), 0, .none⟩
/-- 0x4300/06 METER actions (Table 8.4): [5:4] red, [3:2] yellow, [1:0] green: 0 FORWARD, 1 DROP, 2–3 reserved; [7:6]
reserved -/
def METER_actions : Obj := ⟨0x4300, 6, 0, 1, 0, 65536, .u8, .rwp, 16, .meterActions, 63, .none⟩
/-- 0x4300/07 METER Tc (Table 8.4): 2⁻¹⁶ byte -/
def METER_Tc : Obj := ⟨0x4300, 7, 0, 1, 0, 65536, .u64, .ro, 4294967296, .any, 0, .none⟩
/-- 0x4300/08 METER Tp (Table 8.4): 2⁻¹⁶ byte -/
def METER_Tp : Obj := ⟨0x4300, 8, 0, 1, 0, 65536, .u64, .ro, 4294967296, .any, 0, .none⟩
/-- 0x4300/09 METER GREEN (Table 8.4): Frames marked green -/
def METER_GREEN : Obj := ⟨0x4300, 9, 0, 1, 0, 65536, .u64, .ro, 0, .any, 0, .none⟩
/-- 0x4300/10 METER YELLOW (Table 8.4): Frames marked yellow -/
def METER_YELLOW : Obj := ⟨0x4300, 10, 0, 1, 0, 65536, .u64, .ro, 0, .any, 0, .none⟩
/-- 0x4300/11 METER RED (Table 8.4): Frames marked red -/
def METER_RED : Obj := ⟨0x4300, 11, 0, 1, 0, 65536, .u64, .ro, 0, .any, 0, .none⟩
/-- 0x4400/01 FLOW control (Table 8.4): Bytes 0–15 of Table 8.1, R342, R343 -/
def FLOW_control : Obj := ⟨0x4400, 1, 0, 1, 0, 1048576, (.blob 16), .rwp, 0, .any, 0, (.zeros 16)⟩
/-- 0x4400/02 FLOW state (Table 8.4): Bytes 16–63 of Table 8.1 -/
def FLOW_state : Obj := ⟨0x4400, 2, 0, 1, 0, 1048576, (.blob 48), .ro, 0, .any, 0, (.zeros 48)⟩
/-- 0x4500/01 QUEUE_SAMPLES depth minimum (Table 8.5): Bytes, R370 -/
def QUEUE_SAMPLES_depth_minimum : Obj := ⟨0x4500, 1, 0, 1, 0, 4096, .u32, .ro, 0, .any, 0, .none⟩
/-- 0x4500/02 QUEUE_SAMPLES depth maximum (Table 8.5): Bytes -/
def QUEUE_SAMPLES_depth_maximum : Obj := ⟨0x4500, 2, 0, 1, 0, 4096, .u32, .ro, 0, .any, 0, .none⟩
/-- 0x4500/03 QUEUE_SAMPLES depth average (Table 8.5): Bytes -/
def QUEUE_SAMPLES_depth_average : Obj := ⟨0x4500, 3, 0, 1, 0, 4096, .u32, .ro, 0, .any, 0, .none⟩
/-- 0x4500/04 QUEUE_SAMPLES sojourn minimum (Table 8.5): R369 -/
def QUEUE_SAMPLES_sojourn_minimum : Obj := ⟨0x4500, 4, 0, 1, 0, 4096, .dur64, .ro, 0, .any, 0, .none⟩
/-- 0x4500/05 QUEUE_SAMPLES sojourn maximum (Table 8.5):  -/
def QUEUE_SAMPLES_sojourn_maximum : Obj := ⟨0x4500, 5, 0, 1, 0, 4096, .dur64, .ro, 0, .any, 0, .none⟩
/-- 0x4500/06 QUEUE_SAMPLES sojourn average (Table 8.5):  -/
def QUEUE_SAMPLES_sojourn_average : Obj := ⟨0x4500, 6, 0, 1, 0, 4096, .dur64, .ro, 0, .any, 0, .none⟩
/-- 0x4500/07 QUEUE_SAMPLES stamp (Table 8.5): Latest sample -/
def QUEUE_SAMPLES_stamp : Obj := ⟨0x4500, 7, 0, 1, 0, 4096, .time80, .ro, 0, .any, 0, .none⟩
/-- 0x4500/08 QUEUE_SAMPLES SAMPLES (Table 8.5): Samples taken -/
def QUEUE_SAMPLES_SAMPLES : Obj := ⟨0x4500, 8, 0, 1, 0, 4096, .u64, .ro, 0, .any, 0, .none⟩
/-- 0x4600/01 QM_CTL average shift (Table 8.5): 0 to 10, R370 -/
def QM_CTL_average_shift : Obj := ⟨0x4600, 1, 0, 1, 0, 0, .u8, .rwp, 4, (.range 0 10), 0, .none⟩
/-- 0x4600/02 QM_CTL clear (Table 8.5): R370 -/
def QM_CTL_clear : Obj := ⟨0x4600, 2, 0, 1, 0, 0, .bool, .rwp, 0, .any, 0, .none⟩
/-- 0x4600/03 QM_CTL pool reserve (Table 8.5): Buffers, 0 to 131,072, R358 -/
def QM_CTL_pool_reserve : Obj := ⟨0x4600, 3, 0, 1, 0, 0, .u32, .rwp, 16384, (.range 0 131072), 0, .none⟩
/-- 0x4600/04 QM_CTL pool free (Table 8.5): Buffers, R357 -/
def QM_CTL_pool_free : Obj := ⟨0x4600, 4, 0, 1, 0, 0, .u32, .ro, 262144, .any, 0, .none⟩
/-- 0x4600/05 QM_CTL NO_FLOW (Table 8.5): R344, R345 -/
def QM_CTL_NO_FLOW : Obj := ⟨0x4600, 5, 0, 1, 0, 0, .u64, .ro, 0, .any, 0, .none⟩
/-- 0x4600/06 QM_CTL POOL_DROPS (Table 8.5): R358 -/
def QM_CTL_POOL_DROPS : Obj := ⟨0x4600, 6, 0, 1, 0, 0, .u64, .ro, 0, .any, 0, .none⟩
/-- 0x4600/07 QM_CTL SA_MISMATCH (Table 8.5): R345 -/
def QM_CTL_SA_MISMATCH : Obj := ⟨0x4600, 7, 0, 1, 0, 0, .u64, .ro, 0, .any, 0, .none⟩
/-- 0x4600/08 QM_CTL STALE (Table 8.5): Duplicates and stale frames, R347 -/
def QM_CTL_STALE : Obj := ⟨0x4600, 8, 0, 1, 0, 0, .u64, .ro, 0, .any, 0, .none⟩
/-- 0x4600/09 QM_CTL CACHE_HITS (Table 8.5): R349 -/
def QM_CTL_CACHE_HITS : Obj := ⟨0x4600, 9, 0, 1, 0, 0, .u64, .ro, 0, .any, 0, .none⟩
/-- 0x4600/10 QM_CTL CACHE_MISSES (Table 8.5): R349 -/
def QM_CTL_CACHE_MISSES : Obj := ⟨0x4600, 10, 0, 1, 0, 0, .u64, .ro, 0, .any, 0, .none⟩
/-- 0x4600/11 QM_CTL MALFORMED (Table 8.5): DATA parcels discarded at step 1 of R344 -/
def QM_CTL_MALFORMED : Obj := ⟨0x4600, 11, 0, 1, 0, 0, .u64, .ro, 0, .any, 0, .none⟩
/-- 0x4610/01 HB_VC UP fill (Table 8.5): Bytes in the FIFO of virtual channel 0 to 3 of the UP port -/
def HB_VC_UP_fill : Obj := ⟨0x4610, 1, 1048576, 4, 0, 0, .u32, .ro, 0, .any, 0, .none⟩
/-- 0x4610/05 HB_VC UP DROPPED (Table 8.5): R368, virtual channel 0 to 3 -/
def HB_VC_UP_DROPPED : Obj := ⟨0x4610, 5, 1048576, 4, 0, 0, .u64, .ro, 0, .any, 0, .none⟩
/-- 0x4611/01 HB_VC_DOWN fill (Table 8.5): Bytes in the FIFO of virtual channel 0 to 3 of the DOWN port -/
def HB_VC_DOWN_fill : Obj := ⟨0x4611, 1, 1048576, 4, 0, 0, .u32, .ro, 0, .any, 0, .none⟩
/-- 0x4611/05 HB_VC_DOWN DROPPED (Table 8.5): The same for the DOWN port -/
def HB_VC_DOWN_DROPPED : Obj := ⟨0x4611, 5, 1048576, 4, 0, 0, .u64, .ro, 0, .any, 0, .none⟩
/-- 0x1100/01 PF_CTL width ceiling (Table 9.13): 1, 2 or 4, R385 -/
def PF_CTL_width_ceiling : Obj := ⟨0x1100, 1, 0, 1, 0, 0, .u8, .rwp, 4, (.pow2 1 4), 0, .none⟩
/-- 0x1100/02 PF_CTL rate ceiling (Table 9.13): Table 9.1 -/
def PF_CTL_rate_ceiling : Obj := ⟨0x1100, 2, 0, 1, 0, 0, .u8, .rwp, 2, (.range 0 2), 0, .none⟩
/-- 0x1100/03 PF_CTL DOWN second host (Table 9.13): R407 -/
def PF_CTL_DOWN_second_host : Obj := ⟨0x1100, 3, 0, 1, 0, 0, .bool, .rwp, 0, .any, 0, .none⟩
/-- 0x1100/04 PF_CTL idle time (Table 9.13): µs, 0 or 1 to 1,000,000, R388 -/
def PF_CTL_idle_time : Obj := ⟨0x1100, 4, 0, 1, 0, 0, .u32, .rwp, 0, (.range 0 1000000), 0, .none⟩
/-- 0x1100/05 PF_CTL BIP threshold (Table 9.13): Errors per second, R390 -/
def PF_CTL_BIP_threshold : Obj := ⟨0x1100, 5, 0, 1, 0, 0, .u16, .rwp, 16, .any, 0, .none⟩
/-- 0x1110/01 PF_PORT state (Table 9.13): Table 9.4 -/
def PF_PORT_state : Obj := ⟨0x1110, 1, 8589934592, 2, 0, 0, .u8, .ro, 0, .any, 0, .none⟩
/-- 0x1110/02 PF_PORT width (Table 9.13): Lanes in use -/
def PF_PORT_width : Obj := ⟨0x1110, 2, 8589934592, 2, 0, 0, .u8, .ro, 0, .any, 0, .none⟩
/-- 0x1110/03 PF_PORT rate (Table 9.13): Table 9.1; 0xFF none -/
def PF_PORT_rate : Obj := ⟨0x1110, 3, 8589934592, 2, 0, 0, .u8, .ro, 255, .any, 0, .none⟩
/-- 0x1110/04 PF_PORT lane map (Table 9.13): Bits [2j+1:2j]: TX lane carrying logical lane j -/
def PF_PORT_lane_map : Obj := ⟨0x1110, 4, 8589934592, 2, 0, 0, .u8, .ro, 0, .any, 0, .none⟩
/-- 0x1110/05 PF_PORT partner (Table 9.13): Bytes 1–7 of the partner's last CAPS block -/
def PF_PORT_partner : Obj := ⟨0x1110, 5, 8589934592, 2, 0, 0, (.blob 0), .ro, 0, .any, 0, .empty⟩
/-- 0x1110/06 PF_PORT link delay (Table 9.13): R421 -/
def PF_PORT_link_delay : Obj := ⟨0x1110, 6, 8589934592, 2, 0, 0, .dur64, .ro, 0, .any, 0, .none⟩
/-- 0x1110/07 PF_PORT asymmetry (Table 9.13): ns, −1,000 to 1,000, R421 -/
def PF_PORT_asymmetry : Obj := ⟨0x1110, 7, 8589934592, 2, 0, 0, .i32, .rwp, 0, (.range (-1000) (1000)), 0, .none⟩
/-- 0x1110/08 PF_PORT test (Table 9.13): s, 0 to 86,400, R393 -/
def PF_PORT_test : Obj := ⟨0x1110, 8, 8589934592, 2, 0, 0, .u32, .rwp, 0, (.range 0 86400), 0, .none⟩
/-- 0x1110/09 PF_PORT retrain (Table 9.13): R386; cleared when the retrain begins -/
def PF_PORT_retrain : Obj := ⟨0x1110, 9, 8589934592, 2, 0, 0, .bool, .rwp, 0, .any, 0, .none⟩
/-- 0x1110/10 PF_PORT RETRAINS (Table 9.13): Full retrains -/
def PF_PORT_RETRAINS : Obj := ⟨0x1110, 10, 8589934592, 2, 0, 0, .u64, .ro, 0, .any, 0, .none⟩
/-- 0x1110/11 PF_PORT WIDTH_DROPS (Table 9.13): R394 -/
def PF_PORT_WIDTH_DROPS : Obj := ⟨0x1110, 11, 8589934592, 2, 0, 0, .u64, .ro, 0, .any, 0, .none⟩
/-- 0x1110/12 PF_PORT REPLAYS (Table 9.13): R404 -/
def PF_PORT_REPLAYS : Obj := ⟨0x1110, 12, 8589934592, 2, 0, 0, .u64, .ro, 0, .any, 0, .none⟩
/-- 0x1110/13 PF_PORT CRC_ERRORS (Table 9.13): R376, R392 -/
def PF_PORT_CRC_ERRORS : Obj := ⟨0x1110, 13, 8589934592, 2, 0, 0, .u64, .ro, 0, .any, 0, .none⟩
/-- 0x1110/14 PF_PORT FAST_EXIT_FAILS (Table 9.13): R389 -/
def PF_PORT_FAST_EXIT_FAILS : Obj := ⟨0x1110, 14, 8589934592, 2, 0, 0, .u64, .ro, 0, .any, 0, .none⟩
/-- 0x1110/15 PF_PORT IDLE_ENTRIES (Table 9.13): R388 -/
def PF_PORT_IDLE_ENTRIES : Obj := ⟨0x1110, 15, 8589934592, 2, 0, 0, .u64, .ro, 0, .any, 0, .none⟩
/-- 0x1110/16 PF_PORT CREDIT_STALLS (Table 9.13): R402, R405 -/
def PF_PORT_CREDIT_STALLS : Obj := ⟨0x1110, 16, 8589934592, 2, 0, 0, .u64, .ro, 0, .any, 0, .none⟩
/-- 0x1110/17 PF_PORT MISROUTED (Table 9.13): R412, R413 -/
def PF_PORT_MISROUTED : Obj := ⟨0x1110, 17, 8589934592, 2, 0, 0, .u64, .ro, 0, .any, 0, .none⟩
/-- 0x1110/18 PF_PORT REPLAY_LOST (Table 9.13): R386, R418 -/
def PF_PORT_REPLAY_LOST : Obj := ⟨0x1110, 18, 8589934592, 2, 0, 0, .u64, .ro, 0, .any, 0, .none⟩
/-- 0x1120/01 PF_LANE BIP_ERRORS (Table 9.13): R379 -/
def PF_LANE_BIP_ERRORS : Obj := ⟨0x1120, 1, 8589934592, 2, 0, 4, .u64, .ro, 0, .any, 0, .none⟩
/-- 0x1120/02 PF_LANE PRBS_ERRORS (Table 9.13): R393 -/
def PF_LANE_PRBS_ERRORS : Obj := ⟨0x1120, 2, 8589934592, 2, 0, 4, .u64, .ro, 0, .any, 0, .none⟩
/-- 0x1120/03 PF_LANE LOCK_LOSSES (Table 9.13): R387 -/
def PF_LANE_LOCK_LOSSES : Obj := ⟨0x1120, 3, 8589934592, 2, 0, 4, .u64, .ro, 0, .any, 0, .none⟩
/-- 0x1120/04 PF_LANE FFE (Table 9.13): [23:16] pre, [15:8] main, [7:0] post, step codes held after TRAIN -/
def PF_LANE_FFE : Obj := ⟨0x1120, 4, 8589934592, 2, 0, 4, .u32, .ro, 0, .any, 0, .none⟩
/-- 0x1120/05 PF_LANE skew (Table 9.13): Lacing delay applied to the lane -/
def PF_LANE_skew : Obj := ⟨0x1120, 5, 8589934592, 2, 0, 4, .dur64, .ro, 0, .any, 0, .none⟩
/-- 0x1180/01 CASC strap role (Table 9.13): ROLE[1:0] -/
def CASC_strap_role : Obj := ⟨0x1180, 1, 0, 1, 0, 0, .u8, .ro, 0, .any, 0, .none⟩
/-- 0x1180/02 CASC device number (Table 9.13): DEVNUM[3:0] -/
def CASC_device_number : Obj := ⟨0x1180, 2, 0, 1, 0, 0, .u8, .ro, 0, .any, 0, .none⟩
/-- 0x1180/03 CASC member (Table 9.13): DOWN port is a cascade port, R407 -/
def CASC_member : Obj := ⟨0x1180, 3, 0, 1, 0, 0, .bool, .rwp, 1, .any, 0, .none⟩
/-- 0x1180/04 CASC acting role (Table 9.13): 0 MEMBER, 1 HEAD, 2 PASSIVE; 3–255 reserved -/
def CASC_acting_role : Obj := ⟨0x1180, 4, 0, 1, 0, 0, .u8, .ro, 0, .any, 0, .none⟩
/-- 0x1180/05 CASC head (Table 9.13): DEVNUM of the head, or 0xFF -/
def CASC_head : Obj := ⟨0x1180, 5, 0, 1, 0, 0, .u8, .ro, 255, .any, 0, .none⟩
/-- 0x1180/06 CASC host side (Table 9.13): 0 UP, 1 DOWN, 0xFF none -/
def CASC_host_side : Obj := ⟨0x1180, 6, 0, 1, 0, 0, .u8, .ro, 255, .any, 0, .none⟩
/-- 0x1180/07 CASC hops (Table 9.13): HOPS of the latest PROBE -/
def CASC_hops : Obj := ⟨0x1180, 7, 0, 1, 0, 0, .u8, .ro, 255, .any, 0, .none⟩
/-- 0x1180/08 CASC ring (Table 9.13): At a head: 0 UNKNOWN, 1 CLOSED, 2 BROKEN, 3 OPEN (no standby) -/
def CASC_ring : Obj := ⟨0x1180, 8, 0, 1, 0, 0, .u8, .ro, 0, .any, 0, .none⟩
/-- 0x1180/09 CASC hand over (Table 9.13): R416 on the manager, R419 on an acting standby -/
def CASC_hand_over : Obj := ⟨0x1180, 9, 0, 1, 0, 0, .bool, .rwp, 0, .any, 0, .none⟩
/-- 0x1180/10 CASC topology (Table 9.13): 16 × 4 bytes for DEVNUM 0 to 15: 0 [7] present, [6] duplicate, [3:0] HOPS; 1
acting role; 2 severity; 3 reserved -/
def CASC_topology : Obj := ⟨0x1180, 10, 0, 1, 0, 0, (.blob 64), .ro, 0, .any, 0, (.zeros 64)⟩
/-- 0x1180/11 CASC TAKEOVERS (Table 9.13): R415 -/
def CASC_TAKEOVERS : Obj := ⟨0x1180, 11, 0, 1, 0, 0, .u64, .ro, 0, .any, 0, .none⟩
/-- 0x1180/12 CASC HEAD_CHANGES (Table 9.13): R409 -/
def CASC_HEAD_CHANGES : Obj := ⟨0x1180, 12, 0, 1, 0, 0, .u64, .ro, 0, .any, 0, .none⟩
/-- 0x1000 DEVICE_ID (Table 10.10): Identity of the device, from fuses -/
def DEVICE_ID : Obj := ⟨0x1000, 0, 0, 1, 0, 0, .u64, .ro, 0, .any, 0, .none⟩
/-- 0x1001 ORDER_CODE (Table 10.10): 0 MQ9160-32I, 1 MQ9160-32X; 2–255 reserved -/
def ORDER_CODE : Obj := ⟨0x1001, 0, 0, 1, 0, 0, .u8, .ro, 0, .any, 0, .none⟩
/-- 0x1002 DIE_REVISION (Table 10.10): [15:8] digital die, [7:0] line front-end dies -/
def DIE_REVISION : Obj := ⟨0x1002, 0, 0, 1, 0, 0, .u16, .ro, 0, .any, 0, .none⟩
/-- 0x1003 ROM_VERSION (Table 10.10): Steward ROM firmware -/
def ROM_VERSION : Obj := ⟨0x1003, 0, 0, 1, 0, 0, .u32, .ro, 0, .any, 0, .none⟩
/-- 0x1004 PATCH_VERSION (Table 10.10): Patch area; 0 when none is loaded -/
def PATCH_VERSION : Obj := ⟨0x1004, 0, 0, 1, 0, 0, .u32, .ro, 0, .any, 0, .none⟩
/-- 0x1005 IZVAS_VERSION (Table 10.10): Izvas version -/
def IZVAS_VERSION : Obj := ⟨0x1005, 0, 0, 1, 0, 0, .u8, .ro, 0, .any, 0, .none⟩
/-- 0x1010 COMMIT (Table 10.10): R443 -/
def COMMIT : Obj := ⟨0x1010, 0, 0, 1, 0, 0, .u32, .wo, 0, .any, 0, .none⟩
/-- 0x1011/01 COMMIT_STATUS state (Table 10.10): 0 IDLE, 1 QUEUED, 2 CHECKING, 3 FENCING, 4 DONE, 5 REFUSED; 6–255
reserved -/
def COMMIT_STATUS_state : Obj := ⟨0x1011, 1, 0, 1, 0, 0, .u8, .ro, 0, .any, 0, .none⟩
/-- 0x1011/02 COMMIT_STATUS number (Table 10.10): Count of commits whose check began -/
def COMMIT_STATUS_number : Obj := ⟨0x1011, 2, 0, 1, 0, 0, .u32, .ro, 0, .any, 0, .none⟩
/-- 0x1011/03 COMMIT_STATUS session (Table 10.10): Session of the latest commit -/
def COMMIT_STATUS_session : Obj := ⟨0x1011, 3, 0, 1, 0, 0, .u8, .ro, 0, .any, 0, .none⟩
/-- 0x1011/04 COMMIT_STATUS applied (Table 10.10): Staged values applied by the latest commit -/
def COMMIT_STATUS_applied : Obj := ⟨0x1011, 4, 0, 1, 0, 0, .u32, .ro, 0, .any, 0, .none⟩
/-- 0x1011/05 COMMIT_STATUS COMMITS (Table 10.10): Commits accepted -/
def COMMIT_STATUS_COMMITS : Obj := ⟨0x1011, 5, 0, 1, 0, 0, .u64, .ro, 0, .any, 0, .none⟩
/-- 0x1011/06 COMMIT_STATUS REFUSALS (Table 10.10): Commits refused -/
def COMMIT_STATUS_REFUSALS : Obj := ⟨0x1011, 6, 0, 1, 0, 0, .u64, .ro, 0, .any, 0, .none⟩
/-- 0x1012 CONFLICT_REPORT (Table 10.10): Table 10.9 -/
def CONFLICT_REPORT : Obj := ⟨0x1012, 0, 0, 1, 0, 0, (.blob 32), .ro, 0, .any, 0, (.zeros 32)⟩
/-- 0x1030/01 IZ_CTL idle time (Table 10.10): s, 10 to 86,400, R435 -/
def IZ_CTL_idle_time : Obj := ⟨0x1030, 1, 0, 1, 0, 0, .u32, .rwp, 600, (.range 10 86400), 0, .none⟩
/-- 0x1030/02 IZ_CTL sessions (Table 10.10): Sessions open -/
def IZ_CTL_sessions : Obj := ⟨0x1030, 2, 0, 1, 0, 0, .u8, .ro, 0, .any, 0, .none⟩
/-- 0x1030/03 IZ_CTL REQUESTS (Table 10.10): Requests accepted -/
def IZ_CTL_REQUESTS : Obj := ⟨0x1030, 3, 0, 1, 0, 0, .u64, .ro, 0, .any, 0, .none⟩
/-- 0x1030/04 IZ_CTL AUTH_FAILS (Table 10.10): R435 -/
def IZ_CTL_AUTH_FAILS : Obj := ⟨0x1030, 4, 0, 1, 0, 0, .u64, .ro, 0, .any, 0, .none⟩
/-- 0x1030/05 IZ_CTL MAC_FAILS (Table 10.10): R433 -/
def IZ_CTL_MAC_FAILS : Obj := ⟨0x1030, 5, 0, 1, 0, 0, .u64, .ro, 0, .any, 0, .none⟩
/-- 0x1030/06 IZ_CTL REPEATS (Table 10.10): R438 -/
def IZ_CTL_REPEATS : Obj := ⟨0x1030, 6, 0, 1, 0, 0, .u64, .ro, 0, .any, 0, .none⟩
/-- 0x1030/07 IZ_CTL WRITES_REFUSED (Table 10.10): R440 -/
def IZ_CTL_WRITES_REFUSED : Obj := ⟨0x1030, 7, 0, 1, 0, 0, .u64, .ro, 0, .any, 0, .none⟩
/-- 0x1031/01 IZ_SESSION role (Table 10.10): Table 10.3; 0 when free -/
def IZ_SESSION_role : Obj := ⟨0x1031, 1, 0, 1, 1, 8, .u8, .ro, 0, .any, 0, .none⟩
/-- 0x1031/02 IZ_SESSION opened (Table 10.10): Arrival of the AUTH -/
def IZ_SESSION_opened : Obj := ⟨0x1031, 2, 0, 1, 1, 8, .time80, .ro, 0, .any, 0, .none⟩
/-- 0x1031/03 IZ_SESSION last arrival (Table 10.10): R435 -/
def IZ_SESSION_last_arrival : Obj := ⟨0x1031, 3, 0, 1, 1, 8, .time80, .ro, 0, .any, 0, .none⟩
/-- 0x1031/04 IZ_SESSION staged (Table 10.10): Values staged -/
def IZ_SESSION_staged : Obj := ⟨0x1031, 4, 0, 1, 1, 8, .u32, .ro, 0, .any, 0, .none⟩
/-- 0x1031/05 IZ_SESSION staged bytes (Table 10.10): R442 -/
def IZ_SESSION_staged_bytes : Obj := ⟨0x1031, 5, 0, 1, 1, 8, .u32, .ro, 0, .any, 0, .none⟩
/-- 0x6100/01 PROXY_STATS SENT (Table 10.10): R452 -/
def PROXY_STATS_SENT : Obj := ⟨0x6100, 1, 268435456, 32, 0, 0, .u64, .ro, 0, .any, 0, .none⟩
/-- 0x6100/02 PROXY_STATS ANSWERED (Table 10.10): R452 -/
def PROXY_STATS_ANSWERED : Obj := ⟨0x6100, 2, 268435456, 32, 0, 0, .u64, .ro, 0, .any, 0, .none⟩
/-- 0x6100/03 PROXY_STATS TIMEOUTS (Table 10.10): R452 -/
def PROXY_STATS_TIMEOUTS : Obj := ⟨0x6100, 3, 268435456, 32, 0, 0, .u64, .ro, 0, .any, 0, .none⟩
/-- 0x6100/04 PROXY_STATS BUSY (Table 10.10): R452 -/
def PROXY_STATS_BUSY : Obj := ⟨0x6100, 4, 268435456, 32, 0, 0, .u64, .ro, 0, .any, 0, .none⟩
/-- 0x1300 POWER_TARGET (Table 11.11): 0 RUN, 1 IDLE, 2 SLEEP, 3 DEEP, 4 OFF; 5–255 reserved -/
def POWER_TARGET : Obj := ⟨0x1300, 0, 0, 1, 0, 0, .u8, .rwp, 0, (.range 0 4), 0, .none⟩
/-- 0x1301/01 WAKE_SOURCES WAKE_N (Table 11.11): R474 -/
def WAKE_SOURCES_WAKE_N : Obj := ⟨0x1301, 1, 0, 1, 0, 0, .bool, .rwp, 1, .any, 0, .none⟩
/-- 0x1301/02 WAKE_SOURCES Porfani (Table 11.11): Host-side activity detector -/
def WAKE_SOURCES_Porfani : Obj := ⟨0x1301, 2, 0, 1, 0, 0, .bool, .rwp, 0, .any, 0, .none⟩
/-- 0x1301/03 WAKE_SOURCES activity (Table 11.11): Bit n arms port n -/
def WAKE_SOURCES_activity : Obj := ⟨0x1301, 3, 0, 1, 0, 0, .u32, .rwp, 0, .any, 0, .none⟩
/-- 0x1301/04 WAKE_SOURCES bell (Table 11.11): Bit n arms port n -/
def WAKE_SOURCES_bell : Obj := ⟨0x1301, 4, 0, 1, 0, 0, .u32, .rwp, 0, .any, 0, .none⟩
/-- 0x1301/05 WAKE_SOURCES level (Table 11.11): 0.1 dB re 1 V RMS, −600 to −200 -/
def WAKE_SOURCES_level : Obj := ⟨0x1301, 5, 0, 1, 0, 0, .i16, .rwp, (-400), (.range (-600) (-200)), 0, .none⟩
/-- 0x1302 AO_BUDGET (Table 11.11): µA, R471 -/
def AO_BUDGET : Obj := ⟨0x1302, 0, 0, 1, 0, 0, .u32, .ro, 600, .any, 0, .none⟩
/-- 0x1303/01 POWER_STATE state (Table 11.11): 0 RUN, 1 IDLE, 5 ENTERING; 2–4 never read; 6–255 reserved -/
def POWER_STATE_state : Obj := ⟨0x1303, 1, 0, 1, 0, 0, .u8, .ro, 0, .any, 0, .none⟩
/-- 0x1303/02 POWER_STATE step (Table 11.11): Entry step, 0 outside entry -/
def POWER_STATE_step : Obj := ⟨0x1303, 2, 0, 1, 0, 0, .u8, .ro, 0, .any, 0, .none⟩
/-- 0x1303/03 POWER_STATE wake cause (Table 11.11): As LAST_REFUSER, Table 11.5 -/
def POWER_STATE_wake_cause : Obj := ⟨0x1303, 3, 0, 1, 0, 0, .u32, .ro, 0, .any, 0, .none⟩
/-- 0x1303/04 POWER_STATE wake ports (Table 11.11): R475 -/
def POWER_STATE_wake_ports : Obj := ⟨0x1303, 4, 0, 1, 0, 0, .u32, .ro, 0, .any, 0, .none⟩
/-- 0x1303/05 POWER_STATE entry stamp (Table 11.11): T_e -/
def POWER_STATE_entry_stamp : Obj := ⟨0x1303, 5, 0, 1, 0, 0, .time80, .ro, 0, .any, 0, .none⟩
/-- 0x1303/06 POWER_STATE wake stamp (Table 11.11): Detection of the cause -/
def POWER_STATE_wake_stamp : Obj := ⟨0x1303, 6, 0, 1, 0, 0, .time80, .ro, 0, .any, 0, .none⟩
/-- 0x1303/07 POWER_STATE ENTRIES (Table 11.11): Entries that reached step 6 -/
def POWER_STATE_ENTRIES : Obj := ⟨0x1303, 7, 0, 1, 0, 0, .u64, .ro, 0, .any, 0, .none⟩
/-- 0x1304 ENTRY_ABORTS (Table 11.11): R467 -/
def ENTRY_ABORTS : Obj := ⟨0x1304, 0, 0, 1, 0, 0, .u64, .ro, 0, .any, 0, .none⟩
/-- 0x1305 LAST_REFUSER (Table 11.11): R468 -/
def LAST_REFUSER : Obj := ⟨0x1305, 0, 0, 1, 0, 0, .u32, .ro, 0, .any, 0, .none⟩
/-- 0x1306/01 POWER_POLICY refuse queued (Table 11.11): Table 11.4 -/
def POWER_POLICY_refuse_queued : Obj := ⟨0x1306, 1, 0, 1, 0, 0, .bool, .rwp, 1, .any, 0, .none⟩
/-- 0x1310 XLF_DRIFT (Table 11.11): Parts per 10⁹, 0 to 200,000 -/
def XLF_DRIFT : Obj := ⟨0x1310, 0, 0, 1, 0, 0, .u32, .rwp, 20000, (.range 0 200000), 0, .none⟩
/-- 0x1311/01 XLF_RATIO ρ (Table 11.11): ns in units of 2⁻³², R480 -/
def XLF_RATIO_rho : Obj := ⟨0x1311, 1, 0, 1, 0, 0, .u64, .ro, 0, .any, 0, .none⟩
/-- 0x1311/02 XLF_RATIO stamp (Table 11.11): End of the latest measurement -/
def XLF_RATIO_stamp : Obj := ⟨0x1311, 2, 0, 1, 0, 0, .time80, .ro, 0, .any, 0, .none⟩
/-- 0x1320/01 CLOCK_SELECT request (Table 11.11): 0 RC, 1 REFCLK; 2–255 reserved; R479 -/
def CLOCK_SELECT_request : Obj := ⟨0x1320, 1, 0, 1, 0, 0, .u8, .rwp, 1, (.range 0 1), 0, .none⟩
/-- 0x1320/02 CLOCK_SELECT in force (Table 11.11): As /01 -/
def CLOCK_SELECT_in_force : Obj := ⟨0x1320, 2, 0, 1, 0, 0, .u8, .ro, 1, .any, 0, .none⟩
/-- 0x1330/01 PERF_LEVEL requested (Table 11.11): 0 to 3, PL0 to PL3 -/
def PERF_LEVEL_requested : Obj := ⟨0x1330, 1, 0, 1, 0, 37, .u8, .rwp, 0, (.range 0 3), 0, .none⟩
/-- 0x1330/02 PERF_LEVEL in force (Table 11.11): R459 -/
def PERF_LEVEL_in_force : Obj := ⟨0x1330, 2, 0, 1, 0, 37, .u8, .ro, 0, .any, 0, .none⟩
/-- 0x1340/01 THERMOS LOSSES (Table 11.11): R483 -/
def THERMOS_LOSSES : Obj := ⟨0x1340, 1, 0, 1, 0, 8, .u64, .ro, 0, .any, 0, .none⟩
/-- 0x1340/02 THERMOS signature (Table 11.11): CRC-32 at the last step 5 -/
def THERMOS_signature : Obj := ⟨0x1340, 2, 0, 1, 0, 8, .u32, .ro, 0, .any, 0, .none⟩
/-- 0x1400 FIRST_FAULT (Table 12.10): Header and payload of one FAULT record, R495 -/
def FIRST_FAULT : Obj := ⟨0x1400, 0, 0, 1, 0, 0, (.blob 32), .ro, 0, .any, 0, (.zeros 32)⟩
/-- 0x1401/01 FAULT_LOG entry (Table 12.10): FAULT record, 32 bytes -/
def FAULT_LOG_entry : Obj := ⟨0x1401, 1, 0, 1, 0, 256, (.blob 32), .ro, 0, .any, 0, (.zeros 32)⟩
/-- 0x1401/02 FAULT_LOG newest (Table 12.10): SEQ of the latest fault; SEQ starts at 1 after reset -/
def FAULT_LOG_newest : Obj := ⟨0x1401, 2, 0, 1, 0, 0, .u32, .ro, 0, .any, 0, .none⟩
/-- 0x1401/03 FAULT_LOG LOGGED (Table 12.10): Faults logged -/
def FAULT_LOG_LOGGED : Obj := ⟨0x1401, 3, 0, 1, 0, 0, .u64, .ro, 0, .any, 0, .none⟩
/-- 0x1401/04 FAULT_LOG OVERWRITTEN (Table 12.10): Entries overwritten while unacknowledged -/
def FAULT_LOG_OVERWRITTEN : Obj := ⟨0x1401, 4, 0, 1, 0, 0, .u64, .ro, 0, .any, 0, .none⟩
/-- 0x1402 FAULT_ACK (Table 12.10): [63:40] reserved, [39:32] class mask, [31:0] SEQ, R496 -/
def FAULT_ACK : Obj := ⟨0x1402, 0, 0, 1, 0, 0, .u64, .rw, 0, .any, 1099511627775, .none⟩
/-- 0x1403/01 FAULT_STATE classes (Table 12.10): Bit c: class c has an unacknowledged real fault -/
def FAULT_STATE_classes : Obj := ⟨0x1403, 1, 0, 1, 0, 0, .u8, .ro, 0, .any, 0, .none⟩
/-- 0x1403/02 FAULT_STATE severity (Table 12.10): Highest unacknowledged logged severity, 0 none; sent in STATUS -/
def FAULT_STATE_severity : Obj := ⟨0x1403, 2, 0, 1, 0, 0, .u8, .ro, 0, .any, 0, .none⟩
/-- 0x1403/03 FAULT_STATE ESCALATIONS (Table 12.10): R491 -/
def FAULT_STATE_ESCALATIONS : Obj := ⟨0x1403, 3, 0, 1, 0, 0, .u64, .ro, 0, .any, 0, .none⟩
/-- 0x1404/01 FAULT_POLICY reset (Table 12.10): 1 allows RESET, R491 -/
def FAULT_POLICY_reset : Obj := ⟨0x1404, 1, 0, 1, 0, 0, .bool, .rwp, 0, .any, 0, .none⟩
/-- 0x1404/02 FAULT_POLICY injected reactions (Table 12.10): R501 -/
def FAULT_POLICY_injected_reactions : Obj := ⟨0x1404, 2, 0, 1, 0, 0, .bool, .rwp, 0, .any, 0, .none⟩
/-- 0x1410 FAULT_INJECT (Table 12.10): Table 12.7 -/
def FAULT_INJECT : Obj := ⟨0x1410, 0, 0, 1, 0, 0, (.blob 16), .rw, 0, .any, 0, (.zeros 16)⟩
/-- 0x1411/01 FAULT_INJECT armed (Table 12.10): Cleared when injected -/
def FAULT_INJECT_armed : Obj := ⟨0x1411, 1, 0, 1, 0, 0, .bool, .ro, 0, .any, 0, .none⟩
/-- 0x1411/02 FAULT_INJECT INJECTED (Table 12.10): Injections made -/
def FAULT_INJECT_INJECTED : Obj := ⟨0x1411, 2, 0, 1, 0, 0, .u64, .ro, 0, .any, 0, .none⟩
/-- 0x1411/03 FAULT_INJECT SUPPRESSED (Table 12.10): R502 -/
def FAULT_INJECT_SUPPRESSED : Obj := ⟨0x1411, 3, 0, 1, 0, 0, .u64, .ro, 0, .any, 0, .none⟩
/-- 0x1420/01 FENCE_CTL state (Table 12.10): 0 IN_SERVICE, 1 FENCED, 2 SELF_TEST; 3–255 reserved -/
def FENCE_CTL_state : Obj := ⟨0x1420, 1, 0, 1, 0, 37, .u8, .ro, 0, .any, 0, .none⟩
/-- 0x1420/02 FENCE_CTL clear (Table 12.10): R499; cleared when the self-test begins -/
def FENCE_CTL_clear : Obj := ⟨0x1420, 2, 0, 1, 0, 37, .bool, .rwp, 0, .any, 0, .none⟩
/-- 0x1420/03 FENCE_CTL stamp (Table 12.10): Latest fence -/
def FENCE_CTL_stamp : Obj := ⟨0x1420, 3, 0, 1, 0, 37, .time80, .ro, 0, .any, 0, .none⟩
/-- 0x1420/04 FENCE_CTL SEQ (Table 12.10): Fault that fenced the unit -/
def FENCE_CTL_SEQ : Obj := ⟨0x1420, 4, 0, 1, 0, 37, .u32, .ro, 0, .any, 0, .none⟩
/-- 0x1420/05 FENCE_CTL FENCES (Table 12.10): Fences of the unit -/
def FENCE_CTL_FENCES : Obj := ⟨0x1420, 5, 0, 1, 0, 37, .u64, .ro, 0, .any, 0, .none⟩
/-- 0x1430/01 DRAM_PAGES RETIRED (Table 12.10): Pages retired since reset -/
def DRAM_PAGES_RETIRED : Obj := ⟨0x1430, 1, 0, 1, 0, 0, .u16, .ro, 0, .any, 0, .none⟩
/-- 0x1430/02 DRAM_PAGES spares (Table 12.10): Spare pages left -/
def DRAM_PAGES_spares : Obj := ⟨0x1430, 2, 0, 1, 0, 0, .u16, .ro, 32, .any, 0, .none⟩
/-- 0x1430/03 DRAM_PAGES list (Table 12.10): 32 × U16 retired page numbers, 0 to 2,047; 0xFFFF unused -/
def DRAM_PAGES_list : Obj := ⟨0x1430, 3, 0, 1, 0, 0, (.blob 64), .ro, 0, .any, 0, (.ff 64)⟩
/-- 0x1430/04 DRAM_PAGES threshold (Table 12.10): Corrected words per page in 24 h, 1 to 1,024, R498 -/
def DRAM_PAGES_threshold : Obj := ⟨0x1430, 4, 0, 1, 0, 0, .u16, .rwp, 4, (.range 1 1024), 0, .none⟩
/-- 0x1430/05 DRAM_PAGES CORRECTED (Table 12.10): Corrected DRAM words -/
def DRAM_PAGES_CORRECTED : Obj := ⟨0x1430, 5, 0, 1, 0, 0, .u64, .ro, 0, .any, 0, .none⟩
/-- 0x1430/06 DRAM_PAGES SRAM_CORRECTED (Table 12.10): Corrected SRAM words -/
def DRAM_PAGES_SRAM_CORRECTED : Obj := ⟨0x1430, 6, 0, 1, 0, 0, .u64, .ro, 0, .any, 0, .none⟩
/-- 0x1440/01 STEWARD RESTARTS (Table 12.10): R500 -/
def STEWARD_RESTARTS : Obj := ⟨0x1440, 1, 0, 1, 0, 0, .u64, .ro, 0, .any, 0, .none⟩
/-- 0x1440/02 STEWARD last restart (Table 12.10): End of the latest restart -/
def STEWARD_last_restart : Obj := ⟨0x1440, 2, 0, 1, 0, 0, .time80, .ro, 0, .any, 0, .none⟩
/-- 0x1500/01 CAL_REF REFRES state (Table 13.5): 0 UNCHECKED, 1 ACCEPTED, 2 ABSENT; 3–255 reserved -/
def CAL_REF_REFRES_state : Obj := ⟨0x1500, 1, 0, 1, 0, 0, .u8, .ro, 0, .any, 0, .none⟩
/-- 0x1500/02 CAL_REF REFRES value (Table 13.5): mΩ, latest measurement -/
def CAL_REF_REFRES_value : Obj := ⟨0x1500, 2, 0, 1, 0, 0, .u32, .ro, 0, .any, 0, .none⟩
/-- 0x1500/03 CAL_REF REFRES stamp (Table 13.5): Latest check -/
def CAL_REF_REFRES_stamp : Obj := ⟨0x1500, 3, 0, 1, 0, 0, .time80, .ro, 0, .any, 0, .none⟩
/-- 0x1500/04 CAL_REF REFCLK state (Table 13.5): As /01 -/
def CAL_REF_REFCLK_state : Obj := ⟨0x1500, 4, 0, 1, 0, 0, .u8, .ro, 0, .any, 0, .none⟩
/-- 0x1500/05 CAL_REF REFCLK value (Table 13.5): Hz, latest measurement -/
def CAL_REF_REFCLK_value : Obj := ⟨0x1500, 5, 0, 1, 0, 0, .u32, .ro, 0, .any, 0, .none⟩
/-- 0x1500/06 CAL_REF REFCLK stamp (Table 13.5): Latest check -/
def CAL_REF_REFCLK_stamp : Obj := ⟨0x1500, 6, 0, 1, 0, 0, .time80, .ro, 0, .any, 0, .none⟩
/-- 0x2018/01 LP_CAL phase (Table 13.5): 0 NONE, 1 WAITING, 2 CONVERTER, 3 HYBRID, 4 DPD, 5 DONE; 6–255 reserved -/
def LP_CAL_phase : Obj := ⟨0x2018, 1, 17179869184, 32, 0, 0, .u8, .ro, 0, .any, 0, .none⟩
/-- 0x2018/02 LP_CAL suspect (Table 13.5): [0] to [3] steps 1 to 4, [4] periodic; [7:5] reserved -/
def LP_CAL_suspect : Obj := ⟨0x2018, 2, 17179869184, 32, 0, 0, .u8, .ro, 0, .any, 0, .none⟩
/-- 0x2018/03 LP_CAL postponements (Table 13.5): In the current CAL, R511, R512 -/
def LP_CAL_postponements : Obj := ⟨0x2018, 3, 17179869184, 32, 0, 0, .u8, .ro, 0, .any, 0, .none⟩
/-- 0x2018/04 LP_CAL calibrated (Table 13.5): End of the latest power-up or CAL calibration -/
def LP_CAL_calibrated : Obj := ⟨0x2018, 4, 17179869184, 32, 0, 0, .time80, .ro, 0, .any, 0, .none⟩
/-- 0x2018/05 LP_CAL periodic stamp (Table 13.5): End of the latest periodic recalibration -/
def LP_CAL_periodic_stamp : Obj := ⟨0x2018, 5, 17179869184, 32, 0, 0, .time80, .ro, 0, .any, 0, .none⟩
/-- 0x2018/06 LP_CAL PERIODIC (Table 13.5): Periodic recalibrations completed -/
def LP_CAL_PERIODIC : Obj := ⟨0x2018, 6, 17179869184, 32, 0, 0, .u64, .ro, 0, .any, 0, .none⟩
/-- 0x2018/07 LP_CAL THIRD_RUNS (Table 13.5): R509 -/
def LP_CAL_THIRD_RUNS : Obj := ⟨0x2018, 7, 17179869184, 32, 0, 0, .u64, .ro, 0, .any, 0, .none⟩
/-- 0x2018/08 LP_CAL POSTPONED (Table 13.5): R511 -/
def LP_CAL_POSTPONED : Obj := ⟨0x2018, 8, 17179869184, 32, 0, 0, .u64, .ro, 0, .any, 0, .none⟩
/-- 0x2018/09 LP_CAL OVERDUE (Table 13.5): R515 -/
def LP_CAL_OVERDUE : Obj := ⟨0x2018, 9, 17179869184, 32, 0, 0, .u64, .ro, 0, .any, 0, .none⟩
/-- 0x2018/10 LP_CAL converter source (Table 13.5): LP_CAL_CONV /01 to /04; codes of R163 -/
def LP_CAL_converter_source : Obj := ⟨0x2018, 10, 17179869184, 32, 0, 0, .u8, .ro, 0, .any, 0, .none⟩
/-- 0x2018/11 LP_CAL linearity source (Table 13.5): LP_CAL_CONV /05; codes of R163 -/
def LP_CAL_linearity_source : Obj := ⟨0x2018, 11, 17179869184, 32, 0, 0, .u8, .ro, 0, .any, 0, .none⟩
/-- 0x2018/12 LP_CAL FFE source (Table 13.5): LP_SWEEP_FFE /01; codes of R163 -/
def LP_CAL_FFE_source : Obj := ⟨0x2018, 12, 17179869184, 32, 0, 0, .u8, .ro, 0, .any, 0, .none⟩
/-- 0x2019/01 LP_CAL_CONV ADC offset (Table 13.5): 1/16 LSB -/
def LP_CAL_CONV_ADC_offset : Obj := ⟨0x2019, 1, 17179869184, 32, 0, 0, .i16, .rwp, 0, .any, 0, .none⟩
/-- 0x2019/02 LP_CAL_CONV ADC gain (Table 13.5): Units of 2⁻³⁰; 0x4000_0000 is 1.0 -/
def LP_CAL_CONV_ADC_gain : Obj := ⟨0x2019, 2, 17179869184, 32, 0, 0, .u32, .rwp, 1073741824, .any, 0, .none⟩
/-- 0x2019/03 LP_CAL_CONV DAC offset (Table 13.5): 1/16 LSB -/
def LP_CAL_CONV_DAC_offset : Obj := ⟨0x2019, 3, 17179869184, 32, 0, 0, .i16, .rwp, 0, .any, 0, .none⟩
/-- 0x2019/04 LP_CAL_CONV DAC gain (Table 13.5): As /02 -/
def LP_CAL_CONV_DAC_gain : Obj := ⟨0x2019, 4, 17179869184, 32, 0, 0, .u32, .rwp, 1073741824, .any, 0, .none⟩
/-- 0x2019/05 LP_CAL_CONV DAC linearity (Table 13.5): 64 × I16 segment corrections, 1/16 LSB, segment 0 first -/
def LP_CAL_CONV_DAC_linearity : Obj := ⟨0x2019, 5, 17179869184, 32, 0, 0, (.blob 128), .rwp, 0, .any, 0, (.zeros 128)⟩
/-- 0x201A/01 LP_CAL_CTL periodic (Table 13.5): R515 -/
def LP_CAL_CTL_periodic : Obj := ⟨0x201A, 1, 17179869184, 32, 0, 0, .bool, .rwp, 1, .any, 0, .none⟩
/-- 0x201A/02 LP_CAL_CTL interval (Table 13.5): s, 60 to 36,000 -/
def LP_CAL_CTL_interval : Obj := ⟨0x201A, 2, 17179869184, 32, 0, 0, .u16, .rwp, 900, (.range 60 36000), 0, .none⟩
/-- 0x201A/03 LP_CAL_CTL request (Table 13.5): 1 runs step 3 in the next eligible QUIET window (R511); cleared when
the attempt begins; 2–255 reserved -/
def LP_CAL_CTL_request : Obj := ⟨0x201A, 3, 17179869184, 32, 0, 0, .u8, .rwp, 0, (.range 0 1), 0, .none⟩
/-- 0x201A/04 LP_CAL_CTL quiet level (Table 13.5): 0.1 dB re 1 V RMS, −800 to −400, R511 -/
def LP_CAL_CTL_quiet_level : Obj := ⟨0x201A, 4, 17179869184, 32, 0, 0, .i16, .rwp, (-600), (.range (-800) (-400)), 0, .none⟩
/-- 0x201A/05 LP_CAL_CTL full (Table 13.5): R508 -/
def LP_CAL_CTL_full : Obj := ⟨0x201A, 5, 17179869184, 32, 0, 0, .bool, .rwp, 0, .any, 0, .none⟩
/-- 0x201B LP_CAL_CRC (Table 13.5): R519 -/
def LP_CAL_CRC : Obj := ⟨0x201B, 0, 17179869184, 32, 0, 0, .u32, .ro, 0, .any, 0, .none⟩
/-- 0x5000/01 HMP_ID identity (Table 14.11): HAMPER_ID -/
def HMP_ID_identity : Obj := ⟨0x5000, 1, 0, 1, 0, 0, .u64, .ro, 0, .any, 0, .none⟩
/-- 0x5000/02 HMP_ID firmware (Table 14.11): FW_CRC, R546 -/
def HMP_ID_firmware : Obj := ⟨0x5000, 2, 0, 1, 0, 0, .u32, .ro, 0, .any, 0, .none⟩
/-- 0x5000/03 HMP_ID seal (Table 14.11): 0 UNSEALED, 1 SEALED, 0xFF unknown -/
def HMP_ID_seal : Obj := ⟨0x5000, 3, 0, 1, 0, 0, .u8, .ro, 255, .any, 0, .none⟩
/-- 0x5000/04 HMP_ID calibration set (Table 14.11): CAL_SET -/
def HMP_ID_calibration_set : Obj := ⟨0x5000, 4, 0, 1, 0, 0, .u8, .ro, 255, .any, 0, .none⟩
/-- 0x5000/05 HMP_ID configuration (Table 14.11): Table 14.2 -/
def HMP_ID_configuration : Obj := ⟨0x5000, 5, 0, 1, 0, 0, (.blob 32), .ro, 0, .any, 0, (.zeros 32)⟩
/-- 0x5001/01 HMP_STATUS interface (Table 14.11): 0 WAITING, 1 RECEIVING, 2 SILENT, 3 FENCED, 4 GATED; 5–255 reserved -/
def HMP_STATUS_interface : Obj := ⟨0x5001, 1, 0, 1, 0, 0, .u8, .ro, 0, .any, 0, .none⟩
/-- 0x5001/02 HMP_STATUS received (Table 14.11): Station time of the latest STATUS frame -/
def HMP_STATUS_received : Obj := ⟨0x5001, 2, 0, 1, 0, 0, .time80, .ro, 0, .any, 0, .none⟩
/-- 0x5001/03 HMP_STATUS legal time (Table 14.11): LEGAL_TIME of that frame -/
def HMP_STATUS_legal_time : Obj := ⟨0x5001, 3, 0, 1, 0, 0, .time80, .ro, 0, .any, 0, .none⟩
/-- 0x5001/04 HMP_STATUS flags (Table 14.11): Table 14.7 -/
def HMP_STATUS_flags : Obj := ⟨0x5001, 4, 0, 1, 0, 0, .u16, .ro, 0, .any, 0, .none⟩
/-- 0x5001/05 HMP_STATUS temperatures (Table 14.11): 4 × I32, m°C -/
def HMP_STATUS_temperatures : Obj := ⟨0x5001, 5, 0, 1, 0, 0, (.blob 16), .ro, 0, .any, 0, (.zeros 16)⟩
/-- 0x5001/06 HMP_STATUS tamper count (Table 14.11): R545 -/
def HMP_STATUS_tamper_count : Obj := ⟨0x5001, 6, 0, 1, 0, 0, .u16, .ro, 0, .any, 0, .none⟩
/-- 0x5001/07 HMP_STATUS log head (Table 14.11): SEQ -/
def HMP_STATUS_log_head : Obj := ⟨0x5001, 7, 0, 1, 0, 0, .u32, .ro, 0, .any, 0, .none⟩
/-- 0x5002 HMP_REGISTERS (Table 14.11): Table 14.3, from the latest snapshot -/
def HMP_REGISTERS : Obj := ⟨0x5002, 0, 0, 1, 0, 48, .u64, .ro, 0, .any, 0, .none⟩
/-- 0x5003/01 HMP_SNAPSHOT (Table 14.11): Table 14.6 -/
def HMP_SNAPSHOT : Obj := ⟨0x5003, 1, 0, 1, 0, 0, (.blob 0), .ro, 0, .any, 0, .empty⟩
/-- 0x5003/02 HMP_SNAPSHOT received (Table 14.11): Station time of reception -/
def HMP_SNAPSHOT_received : Obj := ⟨0x5003, 2, 0, 1, 0, 0, .time80, .ro, 0, .any, 0, .none⟩
/-- 0x5004 HMP_LOG (Table 14.11): Table 14.4 -/
def HMP_LOG : Obj := ⟨0x5004, 0, 0, 1, 0, 4096, (.blob 16), .ro, 0, .any, 0, (.zeros 16)⟩
/-- 0x5005/01 HMP_TIME OFFERS (Table 14.11): R542 -/
def HMP_TIME_OFFERS : Obj := ⟨0x5005, 1, 0, 1, 0, 0, .u64, .ro, 0, .any, 0, .none⟩
/-- 0x5005/02 HMP_TIME ACCEPTED (Table 14.11): Including RESTORED -/
def HMP_TIME_ACCEPTED : Obj := ⟨0x5005, 2, 0, 1, 0, 0, .u64, .ro, 0, .any, 0, .none⟩
/-- 0x5005/03 HMP_TIME AGREED (Table 14.11):  -/
def HMP_TIME_AGREED : Obj := ⟨0x5005, 3, 0, 1, 0, 0, .u64, .ro, 0, .any, 0, .none⟩
/-- 0x5005/04 HMP_TIME REFUSED (Table 14.11):  -/
def HMP_TIME_REFUSED : Obj := ⟨0x5005, 4, 0, 1, 0, 0, .u64, .ro, 0, .any, 0, .none⟩
/-- 0x5005/05 HMP_TIME last (Table 14.11): Payload of the latest TIME_RESULT -/
def HMP_TIME_last : Obj := ⟨0x5005, 5, 0, 1, 0, 0, (.blob 8), .ro, 0, .any, 0, (.zeros 8)⟩
/-- 0x5006/01 HMP_IF FRAMES (Table 14.11): Valid lane frames -/
def HMP_IF_FRAMES : Obj := ⟨0x5006, 1, 0, 1, 0, 0, .u64, .ro, 0, .any, 0, .none⟩
/-- 0x5006/02 HMP_IF CRC_ERRORS (Table 14.11): Lane frames discarded -/
def HMP_IF_CRC_ERRORS : Obj := ⟨0x5006, 2, 0, 1, 0, 0, .u64, .ro, 0, .any, 0, .none⟩
/-- 0x5006/03 HMP_IF REQUESTS (Table 14.11): Requests sent -/
def HMP_IF_REQUESTS : Obj := ⟨0x5006, 3, 0, 1, 0, 0, .u64, .ro, 0, .any, 0, .none⟩
/-- 0x5006/04 HMP_IF TIMEOUTS (Table 14.11): R549 -/
def HMP_IF_TIMEOUTS : Obj := ⟨0x5006, 4, 0, 1, 0, 0, .u64, .ro, 0, .any, 0, .none⟩
/-- 0x1600/01 LC_STATE state (Table 15.18): Table 15.15 -/
def LC_STATE_state : Obj := ⟨0x1600, 1, 0, 1, 0, 0, .u8, .ro, 0, .any, 0, .none⟩
/-- 0x1600/02 LC_STATE request (Table 15.18): 0 none, 2 SERVICE, 3 RETIRED; 1 and 4–255 reserved; R581 -/
def LC_STATE_request : Obj := ⟨0x1600, 2, 0, 1, 0, 0, .u8, .rwp, 0, .lcRequest, 0, .none⟩
/-- 0x1600/03 LC_STATE confirm (Table 15.18): DEVICE_ID [31:0], R581 -/
def LC_STATE_confirm : Obj := ⟨0x1600, 3, 0, 1, 0, 0, .u32, .rwp, 0, .any, 0, .none⟩
/-- 0x1600/04 LC_STATE RWS sets used (Table 15.18): 0 to 2 -/
def LC_STATE_RWS_sets_used : Obj := ⟨0x1600, 4, 0, 1, 0, 0, .u8, .ro, 0, .any, 0, .none⟩
/-- 0x1601 RESET_CAUSE (Table 15.18): 8 bytes: 0 cause; 1–5 as Table 15.7; 6–7 reserved -/
def RESET_CAUSE : Obj := ⟨0x1601, 0, 0, 1, 0, 0, (.blob 8), .ro, 0, .any, 0, (.zeros 8)⟩
/-- 0x1602/01 BOOT_STATE state (Table 15.18): 0 FUSES, 1 BOOT, 2 WAIT_REFCLK, 3 INIT, 4 READY; 5–255 reserved -/
def BOOT_STATE_state : Obj := ⟨0x1602, 1, 0, 1, 0, 0, .u8, .ro, 0, .any, 0, .none⟩
/-- 0x1602/02 BOOT_STATE ready time (Table 15.18): ms from the release to READY -/
def BOOT_STATE_ready_time : Obj := ⟨0x1602, 2, 0, 1, 0, 0, .u16, .ro, 0, .any, 0, .none⟩
/-- 0x1603 RESET_REQUEST (Table 15.18): R568 -/
def RESET_REQUEST : Obj := ⟨0x1603, 0, 0, 1, 0, 0, .u32, .wo, 0, .any, 0, .none⟩
/-- 0x1604/01 KEY_STATE (Table 15.18): 0 UNPROGRAMMED, 1 VALID, 2 FAILED, 3 DESTROYED; 4–255 reserved -/
def KEY_STATE : Obj := ⟨0x1604, 1, 1048576, 3, 0, 0, .u8, .ro, 0, .any, 0, .none⟩
/-- 0x1605 JTAG_POLICY (Table 15.18): 0 public instructions allowed, 1 only BYPASS and IDCODE from SERVICE onwards;
2–255 reserved -/
def JTAG_POLICY : Obj := ⟨0x1605, 0, 0, 1, 0, 0, .u8, .rws, 0, (.range 0 1), 0, .none⟩
/-- 0x1606 INSTALL_TAG (Table 15.18): 32 bytes chosen by the user, for example a station and cabinet identifier -/
def INSTALL_TAG : Obj := ⟨0x1606, 0, 0, 1, 0, 0, (.blob 32), .rws, 0, .any, 0, (.zeros 32)⟩
/-- 0x1610/01 SUPPLY_MON rails (Table 15.18): mV, latest reading per rail -/
def SUPPLY_MON_rails : Obj := ⟨0x1610, 1, 1048576, 5, 0, 0, .u16, .ro, 0, .any, 0, .none⟩
/-- 0x1610/06 SUPPLY_MON junction (Table 15.18): 0.1 °C, R574 -/
def SUPPLY_MON_junction : Obj := ⟨0x1610, 6, 0, 1, 0, 0, .i16, .ro, 0, .any, 0, .none⟩

end Sys2Proof.Machine.Reg

namespace Sys2Proof.Machine

/-- Part 1 of the dictionary. -/
def dictPart1 : List Obj :=
  [Reg.COMMIT_STAMP, Reg.HOUSE_SLOT15, Reg.STATION_TIME, Reg.TIME_QUALITY_state,
   Reg.TIME_QUALITY_bound, Reg.TIME_QUALITY_epoch, Reg.TIME_QUALITY_offset, Reg.TIME_SOURCE,
   Reg.TSYNC_PPS_IN, Reg.TSYNC_OUT, Reg.TSYNC_TIMER, Reg.TSYNC_TOD,
   Reg.TSYNC_DELAY, Reg.HOLDOVER_DRIFT, Reg.EVENTS_DELIVERED, Reg.EVENTS_LATE,
   Reg.EVENTS_CONCURRENT, Reg.TSYNC_TIMER_AT, Reg.LP_BW, Reg.LP_N,
   Reg.LP_PREFIX, Reg.LP_CENTRE, Reg.LP_TX_level, Reg.LP_TX_impedance,
   Reg.LP_TX_effective, Reg.LP_TX_clips, Reg.LP_TX_wiring, Reg.LP_FIR,
   Reg.LP_MASK, Reg.LP_MASK_PRESET, Reg.LP_DPD_state, Reg.LP_DPD_coefficients,
   Reg.LP_DPD_train, Reg.LP_DPD_stamp, Reg.LP_DPD_residual, Reg.LP_ACQ_sync_threshold,
   Reg.LP_ACQ_capture_margin, Reg.LP_ACQ_management_timeout, Reg.LP_ACQ_management_retries, Reg.LP_ACQ_fragment_timeout]

/-- Part 2 of the dictionary. -/
def dictPart2 : List Obj :=
  [Reg.LP_RX_SYNC_DETECTED, Reg.LP_RX_FALSE_SYNC, Reg.LP_RX_HEADER_ERROR, Reg.LP_RX_FRAMES_OK,
   Reg.LP_RX_CRC_ERROR, Reg.LP_RX_CAPTURED, Reg.LP_RX_CAPTURING, Reg.LP_RX_IGNORED,
   Reg.LP_RX_MISPLACED, Reg.LP_RX_GRANT_SILENT, Reg.LP_RX_FORMAT_ERROR, Reg.LP_RX_FRAG_ABORT,
   Reg.LP_RX_AUTH_FAIL, Reg.LP_RX_REPLAY, Reg.LP_RX_UNPROTECTED, Reg.LP_RX_MGMT_LATE,
   Reg.LP_RX_BELLS, Reg.LP_SA_station, Reg.LP_SA_key, Reg.LP_SA_state,
   Reg.LP_SA_transmit_PN, Reg.LP_SA_receive_PN, Reg.LP_EC_state, Reg.LP_EC_ERLE,
   Reg.LP_EC_ERLE_stamp, Reg.LP_EC_duplex_threshold, Reg.LP_EC_duplex_admitted, Reg.LP_EC_training_step,
   Reg.LP_EC_tracking_step, Reg.LP_EC_quiet_step, Reg.LP_EC_quiet_leakage, Reg.LP_EC_publication_period,
   Reg.LP_EC_taps, Reg.LP_EC_GUARDED, Reg.LP_EC_HALF_DUPLEX, Reg.LP_EC_retrain,
   Reg.LP_EC_TRAIN_TIMEOUT, Reg.LP_EC_TAPS_live, Reg.LP_EC_TAPS_snapshot, Reg.LP_EC_PUB_stamp]

/-- Part 3 of the dictionary. -/
def dictPart3 : List Obj :=
  [Reg.LP_EC_PUB_generation, Reg.LP_EC_PUB_flags, Reg.LP_EC_PUB_state, Reg.LP_EC_PUB_ERLE,
   Reg.LP_EC_PUB_taps, Reg.LP_QUIET_interval, Reg.LP_QUIET_effective, Reg.LP_QUIET_equaliser_gate,
   Reg.LP_QUIET_canceller_gate, Reg.LP_QUIET_drift_limit, Reg.LP_QUIET_snapshot_stamp, Reg.LP_QUIET_EC_DRIFT,
   Reg.LP_QUIET_EQ_DRIFT, Reg.LP_QUIET_APPLIED, Reg.LP_QUIET_GATED_OUT, Reg.LP_QUIET_retrain_pending,
   Reg.LP_EQ_points, Reg.LP_EQ_state, Reg.LP_EQ_stamp, Reg.LP_EQ_MER,
   Reg.LP_EQ_allotment_SNR, Reg.LP_EQ_CTL_training_step, Reg.LP_EQ_CTL_tracking_step, Reg.LP_EQ_CTL_quiet_step,
   Reg.LP_EQ_CTL_training_frames, Reg.LP_HYBRID_setting, Reg.LP_HYBRID_rejection, Reg.LP_HYBRID_source,
   Reg.LP_SWEEP_FFE_taps, Reg.LP_SWEEP_FFE_stamp, Reg.LP_STATE_state, Reg.LP_STATE_enable,
   Reg.LP_STATE_park, Reg.LP_STATE_quiet, Reg.LP_STATE_stamp, Reg.LP_STATE_CHECK_FAILS,
   Reg.LP_ACCESS_registration_open, Reg.LP_ACCESS_admission, Reg.LP_ACCESS_security_required, Reg.LP_ACCESS_duplex_allowed]

/-- Part 4 of the dictionary. -/
def dictPart4 : List Obj :=
  [Reg.LP_ACCESS_bell_in_use, Reg.LP_ACCESS_target_level, Reg.LP_ACCESS_margin, Reg.LP_ACCESS_hysteresis,
   Reg.LP_ACCESS_probe_period, Reg.LP_ACCESS_grant_width, Reg.LP_ACCESS_listen_time, Reg.LP_ACCESS_discover_time,
   Reg.LP_ACCESS_insulation_floor, Reg.LP_ACCESS_ranging_attempts, Reg.LP_ACCESS_PACE_CHANGES, Reg.LP_ACCESS_RANGING_FAILS,
   Reg.LP_ACCESS_REQ_UNSLOTTED, Reg.LP_ACCESS_BEACON_SKIPPED, Reg.LP_ACCESS_FOREIGN, Reg.LP_STATION_state,
   Reg.LP_STATION_identity, Reg.LP_STATION_reserved_identity, Reg.LP_STATION_allotments, Reg.LP_STATION_timing_advance,
   Reg.LP_STATION_level_used, Reg.LP_STATION_received_level, Reg.LP_STATION_downstream_pace, Reg.LP_STATION_upstream_pace,
   Reg.LP_STATION_downstream_ceiling, Reg.LP_STATION_upstream_ceiling, Reg.LP_STATION_release, Reg.LP_STATION_offset,
   Reg.LP_STATION_capabilities, Reg.LP_STATION_registered, Reg.LP_STATION_grant_width, Reg.LP_SURVEY_energy,
   Reg.LP_SURVEY_stamp, Reg.LR_CTL_enable, Reg.LR_CTL_mapped_length, Reg.LR_CTL_bands,
   Reg.LR_CTL_averages, Reg.LR_CTL_Near_level, Reg.LR_CTL_Mid_level, Reg.LR_CTL_Far_level]

/-- Part 5 of the dictionary. -/
def dictPart5 : List Obj :=
  [Reg.LR_CTL_history_period, Reg.LR_CTL_stale_time, Reg.LR_VELOCITY_VF_ref, Reg.LR_VELOCITY_kappa,
   Reg.LR_VELOCITY_T_ref, Reg.LR_VELOCITY_R_ref, Reg.LR_VELOCITY_T_w, Reg.LR_VELOCITY_velocity,
   Reg.LR_VELOCITY_held, Reg.LR_STATUS_engine, Reg.LR_STATUS_band, Reg.LR_STATUS_accepted,
   Reg.LR_STATUS_refresh_stamp, Reg.LR_STATUS_REFRESHES, Reg.LR_STATUS_SWEEPS, Reg.LR_STATUS_REJECTED,
   Reg.LR_STATUS_RESTARTED, Reg.LR_STATUS_SKIPPED, Reg.LR_STATUS_BLANKED, Reg.LR_LAST_capture,
   Reg.LR_LAST_state, Reg.LR_LAST_stamp, Reg.LR_LAST_refreshes, Reg.LR_LAST_stability_limit,
   Reg.LR_LAST_threshold_factor, Reg.LR_LAST_threshold_floor, Reg.LR_LAST_check, Reg.LR_LAST_stable_fraction,
   Reg.LR_SIG_trend_shift, Reg.LR_SIG_confirm_count, Reg.LR_SIG_merge_gap, Reg.LR_SIG_maximum_span,
   Reg.LR_SIG_site_factor, Reg.LR_SIG_beyond_drop, Reg.LR_SIG_joint_extent, Reg.LR_SIG_active_events,
   Reg.LR_EPM_enable, Reg.LR_EPM_threshold, Reg.LR_EPM_ERLE_floor, Reg.LR_EPM_guard_run]

/-- Part 6 of the dictionary. -/
def dictPart6 : List Obj :=
  [Reg.LR_EPM_reference_stamp, Reg.LR_EPM_reference_generation, Reg.LR_EPM_profile, Reg.LR_EPM_ALERTS,
   Reg.LR_EPM_IGNORED, Reg.LR_FOCUS_request, Reg.LR_FOCUS_centre, Reg.LR_FOCUS_half_span,
   Reg.LR_FOCUS_averages, Reg.LR_FOCUS_pending, Reg.LR_FOCUS_RUNS, Reg.LR_FOCUS_EXPIRED,
   Reg.LR_DC_enable, Reg.LR_DC_insulation_A, Reg.LR_DC_insulation_B, Reg.LR_DC_loop,
   Reg.LR_DC_insulation_stamp, Reg.LR_DC_loop_stamp, Reg.LR_DC_flags, Reg.LR_DC_interval,
   Reg.LR_DC_alarm_level, Reg.LR_DC_capacitance, Reg.LR_READOUT_content, Reg.LR_READOUT_first_cell,
   Reg.LR_READOUT_count, Reg.LR_READOUT_snapshot, Reg.LR_READOUT_start, Reg.LR_READOUT_state,
   Reg.LR_HISTORY_stamps, Reg.LR_HISTORY_newest, Reg.CELL_MAP, Reg.ITIN_OP_windows,
   Reg.ITIN_OP_grants, Reg.ITIN_OP_count, Reg.ITIN_OP_cycle, Reg.ITIN_OP_base,
   Reg.ITIN_PEND_windows, Reg.ITIN_PEND_grants, Reg.ITIN_PEND_count, Reg.ITIN_PEND_cycle]

/-- Part 7 of the dictionary. -/
def dictPart7 : List Obj :=
  [Reg.ITIN_PEND_base, Reg.ITIN_CTL_arm, Reg.ITIN_CTL_state, Reg.ITIN_CTL_switch,
   Reg.ITIN_CTL_BASE_ADVANCED, Reg.ITIN_CTL_advance, Reg.ITIN_CTL_guard, Reg.ITIN_CTL_window,
   Reg.ITIN_CTL_CYCLES, Reg.ITIN_CTL_OVERSIZE, Reg.ITIN_CTL_HELD, Reg.ITIN_CTL_FRAGMENTED,
   Reg.ITIN_CTL_GRANT_OMITTED, Reg.ITIN_CTL_GRANT_CARRIED, Reg.QUEUE_enable, Reg.QUEUE_class,
   Reg.QUEUE_fragmentation, Reg.QUEUE_quantum, Reg.QUEUE_green_limit, Reg.QUEUE_yellow_limit,
   Reg.QUEUE_red_limit, Reg.QUEUE_maximum_sojourn, Reg.QUEUE_flush, Reg.QUEUE_depth,
   Reg.QUEUE_frames, Reg.QUEUE_deficit, Reg.QUEUE_ENQUEUED, Reg.QUEUE_SENT,
   Reg.QUEUE_TAIL_DROPS, Reg.QUEUE_AGED, Reg.QUEUE_UNREACHABLE, Reg.QUEUE_FLUSHED,
   Reg.SHAPER_enable, Reg.SHAPER_idle_slope, Reg.SHAPER_send_slope, Reg.SHAPER_burst,
   Reg.SHAPER_credit, Reg.METER_mode, Reg.METER_CIR, Reg.METER_PIR]

/-- Part 8 of the dictionary. -/
def dictPart8 : List Obj :=
  [Reg.METER_CBS, Reg.METER_PBS, Reg.METER_actions, Reg.METER_Tc,
   Reg.METER_Tp, Reg.METER_GREEN, Reg.METER_YELLOW, Reg.METER_RED,
   Reg.FLOW_control, Reg.FLOW_state, Reg.QUEUE_SAMPLES_depth_minimum, Reg.QUEUE_SAMPLES_depth_maximum,
   Reg.QUEUE_SAMPLES_depth_average, Reg.QUEUE_SAMPLES_sojourn_minimum, Reg.QUEUE_SAMPLES_sojourn_maximum, Reg.QUEUE_SAMPLES_sojourn_average,
   Reg.QUEUE_SAMPLES_stamp, Reg.QUEUE_SAMPLES_SAMPLES, Reg.QM_CTL_average_shift, Reg.QM_CTL_clear,
   Reg.QM_CTL_pool_reserve, Reg.QM_CTL_pool_free, Reg.QM_CTL_NO_FLOW, Reg.QM_CTL_POOL_DROPS,
   Reg.QM_CTL_SA_MISMATCH, Reg.QM_CTL_STALE, Reg.QM_CTL_CACHE_HITS, Reg.QM_CTL_CACHE_MISSES,
   Reg.QM_CTL_MALFORMED, Reg.HB_VC_UP_fill, Reg.HB_VC_UP_DROPPED, Reg.HB_VC_DOWN_fill,
   Reg.HB_VC_DOWN_DROPPED, Reg.PF_CTL_width_ceiling, Reg.PF_CTL_rate_ceiling, Reg.PF_CTL_DOWN_second_host,
   Reg.PF_CTL_idle_time, Reg.PF_CTL_BIP_threshold, Reg.PF_PORT_state, Reg.PF_PORT_width]

/-- Part 9 of the dictionary. -/
def dictPart9 : List Obj :=
  [Reg.PF_PORT_rate, Reg.PF_PORT_lane_map, Reg.PF_PORT_partner, Reg.PF_PORT_link_delay,
   Reg.PF_PORT_asymmetry, Reg.PF_PORT_test, Reg.PF_PORT_retrain, Reg.PF_PORT_RETRAINS,
   Reg.PF_PORT_WIDTH_DROPS, Reg.PF_PORT_REPLAYS, Reg.PF_PORT_CRC_ERRORS, Reg.PF_PORT_FAST_EXIT_FAILS,
   Reg.PF_PORT_IDLE_ENTRIES, Reg.PF_PORT_CREDIT_STALLS, Reg.PF_PORT_MISROUTED, Reg.PF_PORT_REPLAY_LOST,
   Reg.PF_LANE_BIP_ERRORS, Reg.PF_LANE_PRBS_ERRORS, Reg.PF_LANE_LOCK_LOSSES, Reg.PF_LANE_FFE,
   Reg.PF_LANE_skew, Reg.CASC_strap_role, Reg.CASC_device_number, Reg.CASC_member,
   Reg.CASC_acting_role, Reg.CASC_head, Reg.CASC_host_side, Reg.CASC_hops,
   Reg.CASC_ring, Reg.CASC_hand_over, Reg.CASC_topology, Reg.CASC_TAKEOVERS,
   Reg.CASC_HEAD_CHANGES, Reg.DEVICE_ID, Reg.ORDER_CODE, Reg.DIE_REVISION,
   Reg.ROM_VERSION, Reg.PATCH_VERSION, Reg.IZVAS_VERSION, Reg.COMMIT]

/-- Part 10 of the dictionary. -/
def dictPart10 : List Obj :=
  [Reg.COMMIT_STATUS_state, Reg.COMMIT_STATUS_number, Reg.COMMIT_STATUS_session, Reg.COMMIT_STATUS_applied,
   Reg.COMMIT_STATUS_COMMITS, Reg.COMMIT_STATUS_REFUSALS, Reg.CONFLICT_REPORT, Reg.IZ_CTL_idle_time,
   Reg.IZ_CTL_sessions, Reg.IZ_CTL_REQUESTS, Reg.IZ_CTL_AUTH_FAILS, Reg.IZ_CTL_MAC_FAILS,
   Reg.IZ_CTL_REPEATS, Reg.IZ_CTL_WRITES_REFUSED, Reg.IZ_SESSION_role, Reg.IZ_SESSION_opened,
   Reg.IZ_SESSION_last_arrival, Reg.IZ_SESSION_staged, Reg.IZ_SESSION_staged_bytes, Reg.PROXY_STATS_SENT,
   Reg.PROXY_STATS_ANSWERED, Reg.PROXY_STATS_TIMEOUTS, Reg.PROXY_STATS_BUSY, Reg.POWER_TARGET,
   Reg.WAKE_SOURCES_WAKE_N, Reg.WAKE_SOURCES_Porfani, Reg.WAKE_SOURCES_activity, Reg.WAKE_SOURCES_bell,
   Reg.WAKE_SOURCES_level, Reg.AO_BUDGET, Reg.POWER_STATE_state, Reg.POWER_STATE_step,
   Reg.POWER_STATE_wake_cause, Reg.POWER_STATE_wake_ports, Reg.POWER_STATE_entry_stamp, Reg.POWER_STATE_wake_stamp,
   Reg.POWER_STATE_ENTRIES, Reg.ENTRY_ABORTS, Reg.LAST_REFUSER, Reg.POWER_POLICY_refuse_queued]

/-- Part 11 of the dictionary. -/
def dictPart11 : List Obj :=
  [Reg.XLF_DRIFT, Reg.XLF_RATIO_rho, Reg.XLF_RATIO_stamp, Reg.CLOCK_SELECT_request,
   Reg.CLOCK_SELECT_in_force, Reg.PERF_LEVEL_requested, Reg.PERF_LEVEL_in_force, Reg.THERMOS_LOSSES,
   Reg.THERMOS_signature, Reg.FIRST_FAULT, Reg.FAULT_LOG_entry, Reg.FAULT_LOG_newest,
   Reg.FAULT_LOG_LOGGED, Reg.FAULT_LOG_OVERWRITTEN, Reg.FAULT_ACK, Reg.FAULT_STATE_classes,
   Reg.FAULT_STATE_severity, Reg.FAULT_STATE_ESCALATIONS, Reg.FAULT_POLICY_reset, Reg.FAULT_POLICY_injected_reactions,
   Reg.FAULT_INJECT, Reg.FAULT_INJECT_armed, Reg.FAULT_INJECT_INJECTED, Reg.FAULT_INJECT_SUPPRESSED,
   Reg.FENCE_CTL_state, Reg.FENCE_CTL_clear, Reg.FENCE_CTL_stamp, Reg.FENCE_CTL_SEQ,
   Reg.FENCE_CTL_FENCES, Reg.DRAM_PAGES_RETIRED, Reg.DRAM_PAGES_spares, Reg.DRAM_PAGES_list,
   Reg.DRAM_PAGES_threshold, Reg.DRAM_PAGES_CORRECTED, Reg.DRAM_PAGES_SRAM_CORRECTED, Reg.STEWARD_RESTARTS,
   Reg.STEWARD_last_restart, Reg.CAL_REF_REFRES_state, Reg.CAL_REF_REFRES_value, Reg.CAL_REF_REFRES_stamp]

/-- Part 12 of the dictionary. -/
def dictPart12 : List Obj :=
  [Reg.CAL_REF_REFCLK_state, Reg.CAL_REF_REFCLK_value, Reg.CAL_REF_REFCLK_stamp, Reg.LP_CAL_phase,
   Reg.LP_CAL_suspect, Reg.LP_CAL_postponements, Reg.LP_CAL_calibrated, Reg.LP_CAL_periodic_stamp,
   Reg.LP_CAL_PERIODIC, Reg.LP_CAL_THIRD_RUNS, Reg.LP_CAL_POSTPONED, Reg.LP_CAL_OVERDUE,
   Reg.LP_CAL_converter_source, Reg.LP_CAL_linearity_source, Reg.LP_CAL_FFE_source, Reg.LP_CAL_CONV_ADC_offset,
   Reg.LP_CAL_CONV_ADC_gain, Reg.LP_CAL_CONV_DAC_offset, Reg.LP_CAL_CONV_DAC_gain, Reg.LP_CAL_CONV_DAC_linearity,
   Reg.LP_CAL_CTL_periodic, Reg.LP_CAL_CTL_interval, Reg.LP_CAL_CTL_request, Reg.LP_CAL_CTL_quiet_level,
   Reg.LP_CAL_CTL_full, Reg.LP_CAL_CRC, Reg.HMP_ID_identity, Reg.HMP_ID_firmware,
   Reg.HMP_ID_seal, Reg.HMP_ID_calibration_set, Reg.HMP_ID_configuration, Reg.HMP_STATUS_interface,
   Reg.HMP_STATUS_received, Reg.HMP_STATUS_legal_time, Reg.HMP_STATUS_flags, Reg.HMP_STATUS_temperatures,
   Reg.HMP_STATUS_tamper_count, Reg.HMP_STATUS_log_head, Reg.HMP_REGISTERS, Reg.HMP_SNAPSHOT]

/-- Part 13 of the dictionary. -/
def dictPart13 : List Obj :=
  [Reg.HMP_SNAPSHOT_received, Reg.HMP_LOG, Reg.HMP_TIME_OFFERS, Reg.HMP_TIME_ACCEPTED,
   Reg.HMP_TIME_AGREED, Reg.HMP_TIME_REFUSED, Reg.HMP_TIME_last, Reg.HMP_IF_FRAMES,
   Reg.HMP_IF_CRC_ERRORS, Reg.HMP_IF_REQUESTS, Reg.HMP_IF_TIMEOUTS, Reg.LC_STATE_state,
   Reg.LC_STATE_request, Reg.LC_STATE_confirm, Reg.LC_STATE_RWS_sets_used, Reg.RESET_CAUSE,
   Reg.BOOT_STATE_state, Reg.BOOT_STATE_ready_time, Reg.RESET_REQUEST, Reg.KEY_STATE,
   Reg.JTAG_POLICY, Reg.INSTALL_TAG, Reg.SUPPLY_MON_rails, Reg.SUPPLY_MON_junction]

/-- Every object of the dictionary but PROXY, which `Izvas` handles by its index (R448, R450). -/
def dictionary : List Obj :=
  dictPart1 ++ dictPart2 ++ dictPart3 ++ dictPart4 ++ dictPart5 ++ dictPart6 ++ dictPart7 ++ dictPart8 ++ dictPart9 ++ dictPart10 ++ dictPart11 ++ dictPart12 ++ dictPart13

end Sys2Proof.Machine
end

