-- ==== Sys2Proof/Machine/Codec.lean ====
section
/-! DEFINITION. Bytes, bit fields, rounding and the check sequences: everything that turns numbers into the bytes the
spec sends and back (R3, R4, R5, R25, R108, R113, R379, R398, R428, R585). -/

namespace Sys2Proof.Machine

/-- Bits [hi:lo] of w (R3). -/
def field (w hi lo : Nat) : Nat := (w >>> lo) % 2 ^ (hi + 1 - lo)

/-- Bit i of w. -/
def bit (w i : Nat) : Bool := w.testBit i

/-- 1 for true, 0 for false. -/
def b2n (b : Bool) : Nat := if b then 1 else 0

/-- 1 for true, 0 for false, as an integer. -/
def b2i (b : Bool) : Int := if b then 1 else 0

/-- The n bytes of v, most significant byte first (R4); bits above them are lost. -/
def be : Nat → Nat → Bytes
  | 0, _ => []
  | n + 1, v => BitVec.ofNat 8 (v / 256 ^ n) :: be n v

/-- The n bytes of an integer in two's complement, most significant byte first. -/
def beInt (n : Nat) (v : Int) : Bytes := be n (v % (256 ^ n : Int)).toNat

/-- The number whose bytes are b, most significant first. -/
def ofBe (b : Bytes) : Nat := b.foldl (fun a x => a * 256 + x.toNat) 0

/-- The two's-complement number of n bits that w spells. -/
def signed (n w : Nat) : Int := if w < 2 ^ (n - 1) then w else (w : Int) - 2 ^ n

/-- n bytes of b from byte i on. -/
def slice (b : Bytes) (i n : Nat) : Bytes := (b.drop i).take n

/-- The unsigned field of n bytes at byte i. -/
def uAt (b : Bytes) (i n : Nat) : Nat := ofBe (slice b i n)

/-- The signed field of n bytes at byte i. -/
def sAt (b : Bytes) (i n : Nat) : Int := signed (8 * n) (uAt b i n)

/-- TIME80 of a stamp (R25): 6 bytes of SECONDS, 4 bytes of NANOSECONDS. -/
def timeBytes (t : Stamp) : Bytes := beInt 6 (t / nsPerSec) ++ beInt 4 (t % nsPerSec)

/-- The stamp that a TIME80 field spells; `none` when its NANOSECONDS exceed 999,999,999 (R26). -/
def ofTime80 (b : Bytes) : Option Stamp :=
  if uAt b 6 4 < 1000000000 then some ((uAt b 0 6 : Int) * nsPerSec + uAt b 6 4) else none

/-- The stamp of a TIME80 field, whatever its NANOSECONDS. -/
def stampOf (b : Bytes) : Stamp := (uAt b 0 6 : Int) * nsPerSec + uAt b 6 4

/-- a / b rounded up, for naturals. -/
def ceilDiv (a b : Nat) : Nat := (a + b - 1) / b

/-- n / d rounded to the nearest whole number, a half rounding away from zero (R585). -/
def roundDiv (n : Int) (d : Nat) : Int :=
  if 0 ≤ n then (2 * n + d) / (2 * d) else -((2 * (-n) + d) / (2 * d))

/-- v limited to the range lo to hi. -/
def clamp (lo hi v : Int) : Int := max lo (min hi v)

/-- The arithmetic right shift of R273 and R370, rounding towards minus infinity. -/
def ashr (v : Int) (n : Nat) : Int := v / (2 ^ n : Int)

/-- The bytes in a type of Table 10.1. -/
def Ty.size : Ty → Nat
  | .bool | .u8 | .i8 => 1
  | .u16 | .i16 => 2
  | .u32 | .i32 => 4
  | .u64 | .i64 | .dur64 => 8
  | .time80 => 10
  | .blob n => n

/-- A value as the bytes its type gives (R428). -/
def Ty.encode (t : Ty) (v : Int) : Bytes :=
  match t with
  | .time80 => timeBytes v
  | .blob _ => []
  | t => beInt t.size v

/-- The value of n bytes of a type; a TIME80 with NANOSECONDS out of range has none (R26), nor has a BOOL that is
neither 0 nor 1 (R428). -/
def Ty.decode (t : Ty) (b : Bytes) : Option Int :=
  match t with
  | .bool => if ofBe b ≤ 1 then some (ofBe b : Int) else none
  | .i8 => some (signed 8 (ofBe b))
  | .i16 => some (signed 16 (ofBe b))
  | .i32 => some (signed 32 (ofBe b))
  | .i64 => some (signed 64 (ofBe b))
  | .time80 => ofTime80 b
  | .blob _ => none
  | _ => some (ofBe b : Int)

/-- One byte through a most-significant-bit-first CRC register of `width` bits with generator `poly`. -/
def crcMsbByte (width poly : Nat) (reg : Nat) (b : Byte) : Nat :=
  (List.range 8).foldl
    (fun r i => let top := bit r (width - 1) != bit b.toNat (7 - i)
                let r' := (r * 2) % 2 ^ width
                if top then r' ^^^ poly else r') reg

/-- The header check of R108: generator 0x1021, preset 0xFFFF, no reflection, no final inversion. -/
def crc16 (b : Bytes) : Nat := b.foldl (crcMsbByte 16 0x1021) 0xFFFF

/-- One byte through a reflected 32-bit CRC register with reflected generator `poly`. -/
def crcLsbByte (poly : Nat) (reg : Nat) (b : Byte) : Nat :=
  (List.range 8).foldl (fun r _ => if bit r 0 then (r >>> 1) ^^^ poly else r >>> 1) (reg ^^^ b.toNat)

/-- The CRC-32 of R113 (IEEE Std 802.3): reflected, preset and final exclusive-OR 0xFFFF_FFFF. -/
def crc32 (b : Bytes) : Nat := (b.foldl (crcLsbByte 0xEDB88320) 0xFFFFFFFF) ^^^ 0xFFFFFFFF

/-- The CRC-32C of R398. -/
def crc32c (b : Bytes) : Nat := (b.foldl (crcLsbByte 0x82F63B78) 0xFFFFFFFF) ^^^ 0xFFFFFFFF

/-- BIP8 over the scrambled payload bytes of a lane (R379): bit i is the even parity of bits i, i + 8, … of each
64-bit payload, which is the exclusive-OR of the payload's bytes. -/
def bip8 (b : Bytes) : Nat := b.foldl (fun a x => a ^^^ x.toNat) 0

/-- The number of bits set in the low n bits of w. -/
def popCount (n w : Nat) : Nat := ((List.range n).filter fun i => bit w i).length

/-- The lowest i below n with p i. -/
def lowest (n : Nat) (p : Nat → Bool) : Option Nat := (List.range n).find? p

/-- Replaces the n bytes of b from byte i on by v. -/
def patch (b : Bytes) (i : Nat) (v : Bytes) : Bytes := b.take i ++ v ++ b.drop (i + v.length)

/-- 10 · log10 (a / b) in 0.1 dB, rounded to the nearest (R585), for a ≥ 1 and b ≥ 1, limited to 0 … `cap`: the
number of k from 1 to `cap` with a^200 ≥ b^200 · 10^(2k − 1). A ratio below 1 gives 0. -/
def decibels (cap a b : Nat) : Nat :=
  ((List.range cap).filter fun k => b ^ 200 * 10 ^ (2 * k + 1) ≤ a ^ 200).length

/-- The integer square root of n, found bit by bit from bit 31 down. -/
def isqrt (n : Nat) : Nat :=
  (List.range 32).foldl (fun r i => let t := r + 2 ^ (31 - i); if t * t ≤ n then t else r) 0

end Sys2Proof.Machine
end

