-- ==== Sys2Proof/Machine/State.lean ====
section
/-! DEFINITION. The state of the MQ9160 as plain data: every object of the dictionary (`regs`, `blobs`), and what the
rules make the device, its stations and the hamper remember beside the objects. Field defaults are the values at reset;
where the spec states no value of a hidden field, the default is the model's (log entry 4). -/

namespace Sys2Proof.Machine

/-! ## Reasons a step can stop -/

/-- Why a command stops the machine. No rule of the spec stops the block, so no command raises one. -/
inductive Fault where
  /-- Never raised: the spec describes no command that stops the block. Safe. -/
  | none
  deriving DecidableEq, Repr

/-- Why a command has no meaning in the model. -/
inductive Refusal where
  /-- The command has no meaning yet. Safe: nothing is claimed of it. -/
  | notModelled (mnemonic : String)
  deriving DecidableEq, Repr

/-! ## Deadlines -/

/-- What a deadline belongs to (R154). Every running timeout of the device has one entry in `State.timers`, so that
a step of time can move them all (R155). -/
inductive Timer where
  | todEdge
  | sourceLost
  | reassembly (p src tag : Nat)
  | mgmt (p a : Nat)
  | check (p : Nat)
  | listen (p : Nat)
  | discover (p : Nat)
  | dpd (p : Nat)
  | focus (p : Nat)
  | loop (p : Nat)
  | insulation (p : Nat)
  | probe (p a : Nat)
  | noUp (p a : Nat)
  | noDownUp (p a : Nat)
  | recal (p : Nat)
  | auth (k : Nat)
  | session (k : Nat)
  | lockout
  | headProbe
  | otherProbe
  | statusEntry (d : Nat)
  | probeTx
  | statusTx
  | timeTx
  | entryStep
  | rhoNext
  | rhoRecheck
  | faultReset
  | hostReset
  | watchdog
  | selfTest (e : Nat)
  | hmpRequest
  | hmpPoll
  | hmpOffer
  | laneSilent
  | refclk
  | refres
  | pfDetect (s : Nat)
  | pfTrain (s : Nat)
  | pfLock (s : Nat)
  | pfExchange (s : Nat)
  | pfHoldoff (s : Nat)
  | pfIdle (s : Nat)
  | pfWidth (s : Nat)
  | pfTest (s : Nat)
  | pfReplay (s : Nat)
  | pfDelay (s : Nat)
  | pfBip (s : Nat)
  deriving DecidableEq, Repr

/-! ## Records, messages and what leaves the block -/

/-- An event record (Table 1.10). -/
structure Rec where
  stamp : Stamp
  source : Nat
  type : Nat
  flags : Nat
  payload : Bytes
  deriving DecidableEq, Repr

/-- An Izvas response (R431, Table 10.4): its status, the address fields it copies from its request, EXT, COUNTER, data
and MAC. `mac` is empty for a message of session 0. -/
structure IzResp where
  side : Side
  op : Nat
  status : Nat
  session : Nat
  tag : Nat
  index : Nat
  sub : Nat
  element : Nat
  count : Nat
  offset : Nat
  ext : Bytes
  counter : Nat
  data : Bytes
  mac : Bytes
  deriving DecidableEq, Repr

/-- A parcel (R397, Table 9.8) without its CRC-32C. -/
structure Parcel where
  type : Nat
  vc : Nat
  dir : Nat
  isLocal : Bool
  devnum : Nat
  bcast : Bool
  lseq : Nat
  payload : Bytes
  deriving DecidableEq, Repr

/-- The band of a port (Table 2.1), in codes. -/
structure Band where
  bw : Nat
  n : Nat
  prefixCode : Nat
  centre : Nat
  deriving DecidableEq, Repr

/-- How a port's driver shapes what it sends: the terminal pair of R85 (0 LPnA–LPnB, 1 LPnA–PGn, 2 LPnB–PGn), its output
impedance in 2 Ω steps (R88), the taps of its shaping FIR (R89) and the coefficients of its pre-distorter (R94). -/
structure Shaping where
  pair : Nat
  impedance : Nat
  fir : Bytes
  dpd : Bytes
  deriving DecidableEq, Repr

/-- What a port's driver presents to its line (Table 5.1): high impedance, at least 100 kΩ differential and to PGn;
isolated by the internal switch; the programmed impedance, in 2 Ω steps (R88). -/
inductive Termination where
  | highImpedance
  | isolated
  | programmed (impedance : Nat)
  deriving DecidableEq, Repr

/-- A frame on a line, as its sender puts it there: its first sample, its form, its band, the allotments of its payload
(all 64 for the long form), its header, the payload bytes before the CRC-32, its level, the end of its air time, and the
shaping of the port that sends it (none for a station, whose own the spec does not describe). -/
structure TxFrame where
  start : Stamp
  long : Bool
  band : Band
  allot : Nat
  header : Header
  payload : Bytes
  level : Int
  finish : Stamp
  shaping : Option Shaping := none
  deriving DecidableEq, Repr

/-- What a port has on its line: symbols are laid out by it (R97, R101, R133). -/
inductive TxKind where
  | frame
  | burst
  | bell
  deriving DecidableEq, Repr

/-- What the block puts on its channels. -/
inductive Out where
  /-- An event record delivered; its EVENT parcel goes to the host side's port (R44, R47). -/
  | event (r : Rec)
  /-- An Izvas response; its DICT parcel goes to the port its request came from (R431). -/
  | reply (r : IzResp)
  /-- A parcel sent on a Porfani port. -/
  | parcel (side : Side) (p : Parcel)
  /-- A control block other than those of a parcel, on lanes of a Porfani port: its type byte, the seven bytes after
  it, and how many times it is sent in a row. -/
  | block (side : Side) (lanes : Nat) (type : Nat) (bytes : Bytes) (times : Nat)
  /-- A common-mode step in DETECT (R381). -/
  | detectStep (side : Side)
  /-- A downstream frame on the line of a port. -/
  | frame (p : Port) (f : TxFrame)
  /-- A bell sent by a port (R133). -/
  | bell (p : Port) (start : Stamp) (level : Int) (shaping : Shaping)
  /-- A training burst of payload-style symbols (R97): its first sample, its band and how many symbols, its level. What its
  slots carry the spec does not say. -/
  | burst (p : Port) (start : Stamp) (band : Band) (symbols : Nat) (level : Int) (shaping : Shaping)
  /-- A sweep of a band by a port, at its level in 0.1 V peak-to-peak, by the driver as it is shaped but for the shaping FIR
  (R262 to R264). -/
  | sweep (p : Port) (band : Nat) (level : Nat) (shaping : Shaping)
  /-- TSYNC driven high from an instant for a duration (R40). -/
  | tsync (start duration : Stamp)
  /-- A frame, and the bell, sent by station u; start and level by its own estimate and setting (R133, R217). -/
  | stationFrame (u : Nat) (f : TxFrame)
  | stationBell (u : Nat) (start : Stamp) (level : Int)
  /-- A DATA frame that station u has received whole: its DST and TAG, which select its flow (R122), and its plaintext. -/
  | stationData (u : Nat) (dst tag : Nat) (plain : Bytes)
  /-- A request to the hamper, a lane frame of the hamper, a response of its local port (R548, R551). -/
  | hamperRequest (type : Nat) (payload : Bytes)
  | hamperLane (type : Nat) (payload : Bytes)
  | localPort (cmd status : Nat) (payload : Bytes)
  /-- What the TAP shifts out of TDO, least significant bit first (R575, R580). -/
  | tdo (bits : Nat) (width : Nat)
  deriving DecidableEq, Repr

/-! ## Station time, event merger, house frame -/

/-- The time unit (chapter 01, R480 to R482). -/
structure TimeState where
  /-- Station time, ns of TAI; its low two bits stay 0 (R37). -/
  now : Stamp := 0
  /-- Time since power-on that no discipline moves: REFCLK's own count, ns. -/
  mono : Stamp := 0
  /-- The offset still to be slewed away, ns (R31). -/
  slew : Int := 0
  /-- Ticks of 4 ns since the slew last moved station time. -/
  slewTicks : Nat := 0
  /-- SECONDS named by TSYNC_TOD and not yet used, with the instant of the write (R29). -/
  tod : Option (Int × Stamp) := none
  /-- SECONDS of the next 1PPS edge, once a first edge has been named (R29). -/
  nextSecond : Option Int := none
  /-- The latest offsets, newest first, at most four (R34). -/
  offsets : List Int := []
  /-- Consecutive updates within ±100 ns (R33). -/
  goodRun : Nat := 0
  /-- The uncertainty bound at `boundAt`, from which it grows (R34, R481). -/
  boundBase : Nat := 0
  boundAt : Stamp := 0
  /-- The bound grows at XLF_DRIFT until the clock selection of a wake (R481). -/
  onCounter : Bool := false
  /-- Station time at which the current second of ρ began, and the sleep duration of the latest wake (R480, R482). -/
  sleptFor : Stamp := 0
  /-- Rate correction of R482, parts per 10^9. -/
  rateCorr : Int := 0
  /-- Fractions of a ns that the correction has gathered, in 10^-9 ns. -/
  rateAcc : Int := 0
  /-- Sources whose replica waits for realignment (R36). -/
  unaligned : List Nat := []
  /-- TIME_QUALITY has been LOCKED since reset (R542). -/
  everLocked : Bool := false
  /-- Whole second of the latest TSYNC_OUT pulse and stamp of the latest timer pulse (R40). -/
  lastSecond : Int := -1
  timerFired : Option Stamp := none
  /-- What entry latched: T_e, C_e, ρ and B_e (R480). -/
  latchT : Stamp := 0
  latchC : Nat := 0
  latchRho : Nat := 0
  latchB : Nat := 0
  deriving DecidableEq, Repr

/-- The event merger (R42 to R47). -/
structure MergeState where
  /-- Records issued and still crossing to the merger, oldest first (R13). -/
  crossing : List Rec := []
  /-- Records of islands whose replica waits for realignment: not stamped yet (R36). -/
  unstamped : List Rec := []
  /-- Records held in the merge window, in order of arrival. -/
  held : List Rec := []
  /-- Stamp and source of every record delivered, newest first (R42's exception). -/
  delivered : List (Stamp × Nat) := []
  deriving DecidableEq, Repr

/-- The house frame (R15 to R24). -/
structure HouseState where
  /-- House frames begun since reset (R369). -/
  frames : Nat := 0
  slot : Nat := 0
  /-- The slot in progress is lent to bulk readout (R17). -/
  lent : Bool := false
  /-- HOUSE_SLOT15 as it governs the frame in progress (R24). -/
  slot15 : Nat := 0
  /-- REFCLK's count at the start of the slot in progress. -/
  slotAt : Stamp := 0
  /-- The steward's clock is stopped (R460). -/
  gated : Bool := false
  /-- The house frame of its 6 h that the DRAM patrol scrub has reached, and REFCLK's count at which the latest scrub of
  the SRAM and the thermos began (Table 1.4). -/
  patrol : Nat := 0
  sramAt : Stamp := 0
  deriving DecidableEq, Repr

/-! ## A line port -/

/-- A registered station as the port remembers it beside LP_STATION (R230, R234 to R247, R451). -/
structure Elem where
  security : Bool := false
  duplex : Bool := false
  bell : Bool := false
  /-- PACES of its capability block. -/
  paces : Nat := 1
  /-- The latest arrival offsets and received levels, newest first, at most four (R240, R241). -/
  offsets : List Int := []
  levels : List Int := []
  /-- The latest |e| exceeded P/4 (R241). -/
  lateOnce : Bool := false
  attempts : Nat := 0
  /-- DISCOVER and UP-CONTEND windows ended since the latest ASSIGN or ADJ, and whether a frame of the station has
  arrived since (R235). -/
  windows : Nat := 0
  arrived : Bool := false
  /-- AT of the RANGE REQ outstanding (R237). -/
  rangeAt : Option Stamp := none
  /-- The station is to be ranged before it is granted (R214, R237). -/
  toRange : Bool := false
  /-- A RANGE ended with RESULT 2 (R237). -/
  outOfRange : Bool := false
  reqId : Nat := 0
  /-- Whether each of the last 1,024 frames whose header passed failed the CRC-32, newest first (R246). -/
  failures : List Bool := []
  /-- The latest of them is a failure not evaluated yet (R246). -/
  failed : Bool := false
  probeFrames : Nat := 0
  probeErrors : Nat := 0
  /-- REFRESH frames of the station are excluded until SERVICE (R242). -/
  quietMis : Bool := false
  /-- The TA_DELTA of the ADJ deferred to SERVICE (R242). -/
  deferAdj : Option Int := none
  /-- STN_DS_SNR as last read, empty before; a ceiling committed and not yet evaluated (R246). -/
  dsSnr : List Nat := []
  ceilingSet : Bool := false
  /-- The REQ_IDs of requests that were answered TIMEOUT and have not been used again (R157). -/
  lateReqs : List Nat := []
  deriving DecidableEq, Repr

/-- A frame the device is to send from itself on a port: REG answers, RANGE, ADJ, RELEASE, MGMT (R325). -/
structure CtlFrame where
  dst : Nat
  type : Nat
  tag : Nat
  sa : Nat
  payload : Bytes
  /-- A REG answer must fit the first DOWN window after its DISCOVER window (R231). -/
  regAnswer : Bool := false
  deriving DecidableEq, Repr

/-- A proxy request queued for a station (R451). -/
structure Proxy where
  a : Nat
  write : Bool
  rIndex : Nat
  rSub : Nat
  rElement : Nat
  data : Bytes
  side : Side
  op : Nat
  session : Nat
  tag : Nat
  counter : Nat
  deriving DecidableEq, Repr

/-- The proxy request outstanding to a station (R157, R451). -/
structure Outstanding where
  proxy : Proxy
  reqId : Nat
  attempt : Nat
  deriving DecidableEq, Repr

/-- The long-form frame a port holds (R147, R151). -/
structure Held where
  sync : Stamp
  power : Int
  /-- The header once its check has passed. -/
  header : Option Header := none
  /-- The end of the frame under R101, once its header is known. -/
  finish : Stamp := 0
  deriving DecidableEq, Repr

/-- A frame whose header passed and whose payload the receiver awaits: sync instant, header word, form. -/
structure Awaited where
  sync : Stamp
  word : Nat
  long : Bool
  deriving DecidableEq, Repr

/-- A fragment reassembly (R138). `src` is the address that tells its frames apart beside TAG: SRC at the device, DST at a
station. -/
structure Reasm where
  src : Nat
  tag : Nat
  type : Nat
  sa : Nat
  colour : Nat
  seq : Nat
  next : Nat
  data : Bytes
  deriving DecidableEq, Repr

/-- A granted interval the device receives under (R118, R332). -/
structure Granted where
  a : Nat
  at' : Stamp
  finish : Stamp
  mask : Nat
  pace : Nat
  duplex : Bool
  /-- It was granted under an itinerary that has been replaced (R332). -/
  carried : Bool := false
  deriving DecidableEq, Repr

/-- An ERLE measurement whose 26 blocks are over (R178): powers at the input and the output of stage 5, P_n's blocks, and the
end of its last block. -/
structure ErleDone where
  pIn : Nat
  pRes : Nat
  noise : List Nat
  stamp : Stamp
  deriving DecidableEq, Repr

/-- The taps as a block used them, before the update at its end (R176): the mono time of that boundary, and whether an update
had been applied since the previous published set, whether they were those of a restore, and whether the block's own update
was applied. -/
structure UsedTaps where
  at' : Stamp
  taps : List (Int × Int)
  updated : Bool
  restored : Bool
  adapted : Bool
  deriving DecidableEq, Repr

/-- The echo canceller (R164 to R203) and the echo-path monitor (R277 to R280). -/
structure EcState where
  /-- The live taps, real and imaginary, tap 0 first; empty for all zero. -/
  taps : List (Int × Int) := []
  snap : Option (List (Int × Int)) := none
  generation : Nat := 0
  /-- Mono time of the first block boundary of the grid, while the grid runs (R164). -/
  grid : Option Stamp := none
  /-- The running power estimates of the reference (R169). -/
  power : List Nat := []
  /-- The taps as the latest block used them (R176). -/
  used : Option UsedTaps := none
  /-- Admitted blocks and summed powers of the ERLE measurement in progress, and those completed, oldest first (R178). -/
  blocks : Nat := 0
  pIn : Nat := 0
  pRes : Nat := 0
  erleDone : List ErleDone := []
  /-- P_n: output powers of the latest silent blocks, newest first, at most 26, and the station time of the latest
  (R178). -/
  noise : List Nat := []
  noiseAt : Option Stamp := none
  /-- The latest ERLE measurements in the present state, newest first, and the reference maximum (R172, R173). -/
  erles : List Int := []
  refMax : Option Int := none
  /-- Used blocks in TRAINING (R172). -/
  trainBlocks : Nat := 0
  /-- Residual powers of the last 16 used blocks, newest first; consecutive guarded blocks, and whether their run has
  been reported (R171, R280). -/
  residuals : List Nat := []
  guardRun : Nat := 0
  guardFired : Bool := false
  /-- Updates collected in QUIET and the powers over their blocks (R195); consecutive cycles that failed the gate, and the
  latest of them (R202). -/
  collected : List (List (Int × Int)) := []
  collIn : Nat := 0
  collRes : Nat := 0
  /-- Sound intervals freeze the canceller until this mono time; none when no freeze runs (R174). -/
  frozen : Bool := false
  freezeEnd : Stamp := 0
  gateFails : Nat := 0
  failedCycle : Nat := 0
  /-- An update was applied since the previous published set; the taps are those of a restore (Table 4.5). -/
  updatedSincePub : Bool := false
  restored : Bool := false
  /-- A retrain of R200 is scheduled; it has begun. -/
  retrainScheduled : Bool := false
  retraining : Bool := false
  /-- The monitor's reference set, and the taps that exceeded in the latest counted set (R277 to R279). -/
  refTaps : Option (List (Int × Int)) := none
  refGen : Nat := 0
  exceeded : List Nat := []
  deriving DecidableEq, Repr

/-- A station's upstream equaliser beside LP_EQ (R182 to R201). -/
structure EqState where
  points : List (Int × Int) := []
  snap : Option (List (Int × Int)) := none
  frames : Nat := 0
  gateFails : Nat := 0
  failedCycle : Nat := 0
  /-- The next REFRESH applies at the training step (R201). -/
  relearn : Bool := false
  deriving DecidableEq, Repr

/-- The refresh cycles of a port in QUIET (R191 to R194). -/
structure QuietState where
  next : Stamp := 0
  lastU : Stamp := 0
  lastEnd : Stamp := 0
  /-- Refresh cycles begun since quiet entry, and the span of the latest downstream REFRESH in mono time (R195, R202). -/
  cycle : Nat := 0
  refresh : Stamp × Stamp := (0, 0)
  /-- Quiet entry was asked for but not reached, and its notice is logged (R212). -/
  noticed : Bool := false
  /-- The next REFRESH closes QUIET; the closing cycle is running (R212). -/
  exiting : Bool := false
  closing : Bool := false
  /-- The port came back from PARKED to SERVICE: QUIET waits for its stations to be ranged (R212). -/
  resumed : Bool := false
  deriving DecidableEq, Repr

/-- One band's accumulation (R266 to R268). -/
structure BandAcc where
  accepted : Nat := 0
  swept : Nat := 0
  sum : List Int := []
  tails : List Nat := []
  /-- T_w at the first accepted record, 0.01 °C. -/
  tFirst : Int := 0
  /-- Stamp of the last sample of the last accepted record (R274). -/
  measured : Stamp := 0
  /-- The profile most recently compressed (R272), and the velocity in force when the band completed (R271). -/
  profile : Option (List Int) := none
  velocity : Int := 0
  deriving DecidableEq, Repr

/-- A focused sounding (R283 to R287): its span of cells, the bands still to be swept once it has begun, what the band
in progress has accumulated, and the profiles of the bands done. -/
structure Focus where
  lo : Nat
  hi : Nat
  bands : List Nat := []
  acc : BandAcc := {}
  profiles : List (Nat × List Int) := []
  deriving DecidableEq, Repr

/-- A capture of the last in progress (R288). -/
structure Capture where
  left : Nat
  /-- For each refresh taken: CURRENT of the cells, cell 0 first, and the mean loop resistance. -/
  columns : List (List Int) := []
  loops : List Nat := []
  opened : Bool := false
  deriving DecidableEq, Repr

/-- A finding, a candidate or an active event of the signature rules (R296 to R303). `kind` 0 is a wet span, 1 a new
joint, 2 BREAK, 3 SHORT_TO_PIPE, 4 WIRE_SHORT, 5 IMPEDANCE_STEP; `cell` is its START, joint cell or site cell, `start`
and `finish` the cells it covers. -/
structure SigEvent where
  kind : Nat
  cell : Nat
  start : Nat
  finish : Nat
  /-- The deviation it reports, and its confidence (R303). -/
  dev : Int
  conf : Nat
  openEnd : Bool := false
  /-- Consecutive findings while a candidate, consecutive misses while active. -/
  count : Nat := 0
  misses : Nat := 0
  /-- EVENT_ID once confirmed, 0 before; a site is active beyond which it lies (R302). -/
  id : Nat := 0
  beyond : Bool := false
  /-- What its latest record reported: cell, end, deviation, kind. -/
  rep : Nat × Nat × Int × Nat := (0, 0, 0, 0)
  deriving DecidableEq, Repr

/-- Sounding and signatures of a port (chapter 06). -/
structure SoundState where
  engine : Option (Fin 4) := none
  near : BandAcc := {}
  mid : BandAcc := {}
  far : BandAcc := {}
  /-- Band in setup or sweeping, with setup over or not; none between. -/
  band : Option Nat := none
  setup : Bool := false
  stepEnd : Stamp := 0
  /-- The last sample of the latest sweep; none in the sound interval so far. What is swept belongs to the focused
  sounding that runs. -/
  sweepEnd : Option Stamp := none
  focusOn : Bool := false
  lastBand : Nat := 2
  /-- Bands completed and waiting for projection, and bands completed since the latest full refresh. -/
  ready : List Nat := []
  done : Nat := 0
  blankUntil : Stamp := 0
  /-- The focused sounding pending, and the one running. -/
  focus : Option Focus := none
  focusRun : Option Focus := none
  capture : Option Capture := none
  lastHistory : Option Stamp := none
  /-- CURRENT columns of the history positions (R274). -/
  history : List (Nat × List Int) := []
  /-- Spans of cells updated by sweeps with their stamps, newest first (Table 6.2 STALE). -/
  updates : List (Nat × Nat × Stamp) := []
  /-- Spans of cells that the echo-path monitor has flagged and that wait for a cell-map slot (R176, R279). -/
  marks : List (Nat × Nat) := []
  cands : List SigEvent := []
  events : List SigEvent := []
  nextId : Nat := 1
  /-- Cells whose baseline the latest applied commit wrote (R291). -/
  loadCells : List Nat := []
  /-- What the last was taken with: impedance, wiring, mapped length, VF_ref and the FFE taps (R293). -/
  lastKey : Option (Int × Int × Int × Int × Bytes) := none
  /-- Bulk readout in progress: content, first cell, count, position, bytes sent (R313). -/
  readout : Option (Nat × Nat × Nat × Nat × Nat) := none
  /-- The history snapshot that the readout streams (R314). -/
  reading : List Int := []
  /-- Refreshes and focused soundings, with their spans, that completed while the steward restarted: their measurement
  stamps (Table 12.6). -/
  owed : List (Option (Nat × Nat) × Stamp) := []
  deriving DecidableEq, Repr

/-- A loop measurement (R300, R309): its stamp, loop open, reported value, and for a LOOP_STEP whether it was downward. -/
structure LoopSeen where
  stamp : Stamp
  opened : Bool
  value : Nat
  step : Option Bool
  deriving DecidableEq, Repr

/-- The DC monitor beside LR_DC (R306 to R311). -/
structure DcState where
  loops : List Nat := []
  isOpen : Option Bool := none
  low : Bool := false
  /-- The loop measurements and the insulation measurements with their stamps, newest first: BELOW_RANGE of either wire. -/
  seen : List LoopSeen := []
  insulSeen : List (Stamp × Bool) := []
  measuring : Bool := false
  measureStart : Stamp := 0
  /-- Loop, insulation below its range (R309); the flags of LR_DC /07 bring them together. -/
  loopBelow : Bool := false
  insulBelow : Bool := false
  loopResult : Option Bool := none
  insulResult : Option Bool := none
  failedOnce : Bool := false
  deriving DecidableEq, Repr

/-- The calibration values that act on a port's signals (R517), in the order of R519; the hybrid setting stands apart. -/
structure CalValues where
  adcOffset : Int
  adcGain : Int
  dacOffset : Int
  dacGain : Int
  linearity : Bytes
  coefficients : Bytes
  ffe : Bytes
  deriving DecidableEq, Repr

/-- A port's calibration in progress (chapter 13). -/
structure CalState where
  /-- Step in progress: 1 to 4, or 5 for the periodic recalibration; 0 for none. -/
  step : Nat := 0
  runs : List CalRun := []
  /-- The port holds a place of the line phase (R508); entry stamp of CAL. -/
  placed : Bool := false
  entered : Stamp := 0
  full : Bool := false
  /-- The converter phase of R507 has ended for the port. -/
  converterDone : Bool := false
  due : Bool := false
  dueAt : Stamp := 0
  /-- Step 3 is still wanted in service: after R512, or by request. -/
  wantHybrid : Bool := false
  requested : Bool := false
  /-- Values decided and waiting for the instant of R517. -/
  waiting : Bool := false
  /-- A calibration write of the latest applied commit, not yet acted on (R518): bits for /01 to /04, linearity,
  hybrid, coefficients, FFE. -/
  restored : Nat := 0
  /-- A run is in progress, until this instant. -/
  runBusy : Bool := false
  runEnd : Stamp := 0
  /-- Results of a run wait for slot 14 (R23, Table 1.4). -/
  toMove : Bool := false
  /-- The calibration values in force (R517); those of reset until a correction has taken effect. -/
  inForce : Option CalValues := none
  /-- After a fence was cleared the port runs steps 1 and 2 as well (R508). -/
  fenced : Bool := false
  deriving DecidableEq, Repr

/-- Pre-distortion training (R95 to R99). -/
structure DpdState where
  before : Nat := 0
  txTime : Stamp := 0
  /-- End of the latest transmission counted in `txTime`, which counts the whole of it. -/
  counted : Stamp := 0
  /-- Mono time at which TRAINING was last left (R170). -/
  endedAt : Stamp := 0
  wanted : Bool := false
  lineDriverCleared : Bool := false
  deriving DecidableEq, Repr

/-- One line port beside its objects. -/
structure PortState where
  /-- The band, hybrid setting and the port settings as the port works with them; a committed change reaches them at
  the row that applies it. -/
  band : Band := ⟨0, 1, 2, 16⟩
  hybrid : Int := 3276800
  /-- The state held before PARKED (Table 5.2), and why the port was parked (Table 5.9 CAUSE). -/
  heldBefore : Nat := 0
  parkCause : Nat := 0
  quietReq : Bool := false
  /-- CLOCK_SELECT or READY gave the port its converter clock (R207, R578). -/
  started : Bool := false
  elems : List (Nat × Elem) := []
  ctl : List CtlFrame := []
  proxies : List Proxy := []
  outstanding : List Outstanding := []
  confirms : List Nat := []
  mgmtSeq : List (Nat × Nat) := []
  beaconDue : Bool := false
  bellDue : Bool := false
  /-- After a step of time the device names no instant until it has sent a BEACON or GRANT (R333). -/
  lapsed : Bool := false
  held : Option Held := none
  waiting : List SyncMeas := []
  /-- Sync instants detected of late: a run less than 8 samples from one of them is the same sync (R152). -/
  detected : List Stamp := []
  /-- The end of the run the receiver resumed after last: a run that began within that run is not acquired (R150). -/
  resumedAt : Option Stamp := none
  awaited : List Awaited := []
  reasm : List Reasm := []
  /-- End of the transmission in progress, and start. -/
  txStart : Stamp := 0
  txEnd : Stamp := 0
  txKind : TxKind := .frame
  /-- Its transmissions of late in mono time, newest first; the upstream intervals it has granted of late; whether a sync was
  held at some time since the latest block boundary (R170, R178). -/
  txSpans : List (Stamp × Stamp) := []
  upSpans : List (Stamp × Stamp) := []
  syncSeen : Bool := false
  /-- The queue whose frame is crossing the terminals, and whether that transmission is its frame's last. -/
  txQueue : Option Nat := none
  txLast : Bool := false
  txBand : Option Nat := none
  /-- Window in progress. -/
  winIdx : Nat := 0
  winStart : Stamp := 0
  winEnd : Stamp := 0
  /-- The itinerary that the latest switch replaced: the switch, its base, its cycle and its window elements (R153). -/
  prior : Option (Stamp × Stamp × Stamp × List Nat) := none
  grants : List Granted := []
  /-- The station an open entry filled last (R321). -/
  openPtr : Nat := 0
  dwrr : Nat := 8
  credited : List Nat := []
  duplexBlocked : Bool := false
  armedAt : Option Stamp := none
  beaconFor : Option Stamp := none
  grantFor : List Stamp := []
  ec : EcState := {}
  eqs : List (Nat × EqState) := []
  quiet : QuietState := {}
  sound : SoundState := {}
  dc : DcState := {}
  cal : CalState := {}
  dpd : DpdState := {}
  deriving DecidableEq, Repr

/-! ## Queues, meters and flows -/

/-- A downstream frame in a queue (R344, R358). `left` counts the plaintext bytes not yet sent. -/
structure QFrame where
  flow : Nat
  colour : Nat
  data : Bytes
  enqueued : Stamp
  sent : Nat := 0
  fragNo : Nat := 0
  /-- SEQ and SA of its fragments, once it has begun (R137). -/
  seq : Nat := 0
  sa : Nat := 0
  begun : Bool := false
  /-- It was counted as held (R326), and its size was judged against the itinerary in force (R327). -/
  held : Bool := false
  judged : Bool := false
  deriving DecidableEq, Repr

/-- One line of the flow cache (R349, R350). -/
structure CacheLine where
  flow : Nat
  modified : Bool
  writtenBack : Stamp
  state : Bytes
  deriving DecidableEq, Repr

/-- A frame waiting for a flow-cache fill (R349), in its order of arrival. -/
inductive Waiter where
  | down (flow : Nat) (side : Side) (stamp : Stamp) (payload : Bytes)
  | upFrame (p : Port) (header : Header) (stamp : Stamp) (data : Bytes)
  deriving DecidableEq, Repr

/-- A frame in a host-bound FIFO (R367, Table 9.10). -/
structure HostFrame where
  flow : Nat
  colour : Nat
  stamp : Stamp
  data : Bytes
  deriving DecidableEq, Repr

/-- The queue manager and the flow and meter engine. -/
structure QmState where
  /-- Frames of each queue, head first, sparse by queue number. -/
  queues : List (Nat × List QFrame) := []
  /-- The host-bound FIFOs (R367), head first, keyed by side · 4 + VC. -/
  fifos : List (Nat × List HostFrame) := []
  /-- The flow cache, least recently used last. -/
  cache : List CacheLine := []
  waiters : List Waiter := []
  /-- Frames that reached the flow and meter engine in the refill tick in progress (R352), with whether their context
  has been filled for them. -/
  arrivals : List (Waiter × Bool) := []
  /-- Refill ticks since reset, and the tick of each meter's latest update. -/
  tick : Nat := 0
  /-- Multiple of 8 µs of REFCLK's count that the latest refill tick stands for (R363). -/
  tickAt : Nat := 0
  meterTick : List (Nat × Nat) := []
  /-- Buffers of the pool in use (R357). -/
  buffersUsed : Nat := 0
  /-- Queues sampled since reset or the latest clear (R370). -/
  sampled : List Nat := []
  clearing : Bool := false
  /-- Control parts of flows written by an applied commit, waiting for the refill tick (R343). -/
  flowWrites : List (Nat × Bytes) := []
  deriving DecidableEq, Repr

/-! ## Porfani and cascade -/

/-- One Porfani port beside PF_PORT and PF_LANE (chapter 09). -/
structure PfState where
  sensed : Nat := 0
  rate : Nat := 2
  rxReady : Nat := 0
  partnerReady : Nat := 0
  locked : Nat := 0
  laced : Nat := 0
  skews : List Nat := []
  /-- CAPS of the partner seen, and the ACK bits of both sides. -/
  caps : Option Bytes := none
  ackSent : Bool := false
  ackSeen : Bool := false
  incompatible : Bool := false
  /-- Width and lanes of each direction; good lanes as each receiver reports them. -/
  txWidth : Nat := 0
  rxWidth : Nat := 0
  partnerGood : Nat := 0
  /-- Sequence and replay (R402 to R404). -/
  txSeq : Nat := 0
  rxSeq : Nat := 0
  replay : List Parcel := []
  nakSent : Bool := false
  lastFlow : Stamp := 0
  unacked : Bool := false
  /-- Credits used and limits per VC (R405). -/
  used : List Nat := [0, 0, 0, 0]
  limits : List Nat := [0, 0, 0, 0]
  freed : List Nat := [0, 0, 0, 0]
  frozen : Bool := false
  /-- Parcels accepted for sending and not yet sent, oldest first, and the VCs whose first parcel waits for a credit or
  for room in the replay buffer (R402, R405). -/
  sendQ : List Parcel := []
  stalled : List Nat := []
  txIdle : Bool := false
  rxIdle : Bool := false
  /-- Lanes that have held at the eyelets of the partner's fast-exit burst (R389). -/
  burst : Nat := 0
  /-- Arrival of the latest non-local parcel (R469), end of the latest non-link-local sending (R388). -/
  lastRx : Option Stamp := none
  lastTx : Stamp := 0
  dropping : Bool := false
  /-- DELAY exchange: ID and egress stamp outstanding, latest values in 2^-16 ns (R421). -/
  delayId : Nat := 0
  delayT1 : Option Stamp := none
  delays : List Int := []
  bipBase : List Nat := [0, 0, 0, 0]
  bipRx : List Nat := [0, 0, 0, 0]
  /-- Ceilings as the port last trained with, and TEST seconds as last acted on. -/
  ceilWidth : Nat := 4
  ceilRate : Nat := 2
  /-- The partner's TX lane heard on each RX lane, from its TRAIN blocks (Table 9.5). -/
  laneOf : List Nat := [0, 1, 2, 3]
  deriving DecidableEq, Repr

/-- The cascade (R406 to R419) beside CASC. -/
structure CascState where
  probeSeq : Nat := 0
  /-- Another head heard: DEVNUM, side, hops, strap role. -/
  other : Option (Nat × Side × Nat × Nat) := none
  /-- The standby hears the manager's PROBEs on DOWN (R410). -/
  managerOnDown : Bool := false
  /-- A manager that has handed over does not originate PROBEs (R416). -/
  handedOver : Bool := false
  /-- Entries of the topology that report severity STATION. -/
  stationSev : List Nat := []
  /-- HOPS by which duplicates of a device number are known, and whether a duplicate is already logged. -/
  duplicates : List Nat := []
  /-- When the head was adopted, or the device became head; the latest PROBE of the manager, or the instant the UP port
  became ACTIVE (R409, R415). -/
  since : Stamp := 0
  managerAt : Stamp := 0
  deriving DecidableEq, Repr

/-! ## Izvas -/

/-- An address in the dictionary: index, subindex, element. -/
structure Addr where
  index : Nat
  sub : Nat
  element : Nat
  deriving DecidableEq, Repr

/-- An Izvas session (R433 to R438, R442). -/
structure Session where
  /-- 0 free, 1 opening, 2 open. -/
  phase : Nat := 0
  role : Nat := 0
  hostNonce : Bytes := []
  deviceNonce : Bytes := []
  key : Bytes := []
  counter : Nat := 0
  /-- The staged set: addresses with the bytes of their values, oldest first. -/
  staged : List (Addr × Bytes) := []
  /-- The responses to the last 16 TAG values, newest first. -/
  kept : List IzResp := []
  deriving DecidableEq, Repr

/-- A commit queued, checking or fencing (R443, R444). -/
structure Commit where
  session : Nat
  side : Side
  tag : Nat
  counter : Nat
  values : List (Addr × Bytes)
  /-- The arrival stamp of the COMMIT. -/
  at' : Stamp := 0
  deriving DecidableEq, Repr

/-- A write that applies without commit and waits for its island's apply point (R429). -/
structure Direct where
  island : Island
  values : List (Addr × Bytes)
  resp : IzResp
  deriving DecidableEq, Repr

/-- Izvas (chapter 10). -/
structure IzState where
  sessions : Vector Session 8 := Vector.replicate 8 {}
  authRun : Nat := 0
  locked : Bool := false
  queue : List Commit := []
  /-- The commit in FENCING and the islands that have still to apply it. -/
  active : Option Commit := none
  remaining : List Island := []
  ramping : List Nat := []
  acceptedAt : Stamp := 0
  /-- A refill tick has begun since the commit was accepted (Table 1.11). -/
  tickSeen : Bool := false
  direct : List Direct := []
  /-- Associations whose key was written and awaits the apply point, by port · 256 + element (R145), and those whose
  key write still lets the next commit set their counters (R146). -/
  keyWrites : List (Nat × Bytes) := []
  keyFresh : List Nat := []
  /-- The arrival stamp of the latest request that came in at the DOWN port (R437). -/
  downAt : Option Stamp := none
  deriving DecidableEq, Repr

/-! ## Power, faults, reset -/

/-- The power controller (chapter 11). `mode` 0 RUN, 1 IDLE, 2 SLEEP, 3 DEEP, 4 OFF, 5 ENTERING. -/
structure PowerState where
  mode : Nat := 0
  target : Nat := 0
  step : Nat := 0
  /-- The state before the WAIT, to which an abandoned entry returns (R467). -/
  before : Nat := 0
  /-- The first happening of R466 since entry began, refuser and detail, and its stamp. -/
  abandon : Option (Nat × Nat) := none
  abandonAt : Stamp := 0
  /-- The POWER record of a wake waits for the retention faults of that wake (R483). -/
  wakeOwed : Bool := false
  /-- Wake in progress: 0 none, 1 detected, 2 clamps released, 3 thermos checked and waiting for the clock. -/
  wake : Nat := 0
  wakeAt : Stamp := 0
  slept : Nat := 0
  /-- Begin of the entry step in progress. -/
  stepAt : Stamp := 0
  /-- IDLE_ENTRY has been sent on the host side (R470). -/
  idleSent : Bool := false
  parked : List Nat := []
  clamped : Bool := false
  selfRefresh : Bool := false
  detectors : Bool := false
  irqWake : Bool := false
  /-- PLLs locking after a clock selection (R479). -/
  locking : Bool := false
  /-- Supply ramps in progress, by unit (R459): target level. -/
  ramps : List (Nat × Nat) := []
  vldBad : Bool := false
  lowPower : Bool := false
  junction : Int := 250
  deriving DecidableEq, Repr

/-- A fault pending its cycle's decision (R490). -/
structure PendFault where
  stamp : Stamp
  report : FaultReport
  severity : Nat
  injected : Bool
  deriving DecidableEq, Repr

/-- A fault in the log with what its acknowledgement needs (R491, R492, R496). -/
structure LoggedFault where
  seq : Nat
  cls : Nat
  severity : Nat
  injected : Bool
  /-- Its reaction did not run (R501, R502). -/
  suppressed : Bool
  acked : Bool
  deriving DecidableEq, Repr

/-- The fault collector (chapter 12). -/
structure FaultState where
  pending : List PendFault := []
  /-- Faults of sources whose replica waits for realignment: not stamped yet (R36). -/
  unstamped : List PendFault := []
  logged : List LoggedFault := []
  seq : Nat := 0
  firstSeq : Option Nat := none
  inject : Option (FaultReport × Nat × Stamp) := none
  /-- The fault whose reset is waited for (R494). -/
  resetFault : Option FaultReport := none
  /-- What fenced each fenced element. -/
  fencedBy : List (Nat × FaultReport) := []
  stewardDown : Bool := false
  stewardCause : Nat := 0
  stewardSeq : Nat := 0
  stewardAt : Stamp := 0
  /-- Corrected words of each DRAM page with their stamps; pages being copied and retired; spares used. -/
  corrected : List (Nat × List Stamp) := []
  copying : List Nat := []
  retired : List Nat := []
  /-- Pages that hold an uncorrectable word and are to be retired (R498). -/
  lost : List Nat := []
  laneErrors : List Stamp := []
  deriving DecidableEq, Repr

/-- A role key in fuses (R580): 0 UNPROGRAMMED, 1 VALID, 2 FAILED, 3 DESTROYED. -/
structure RoleKey where
  status : Nat := 0
  key : Nat := 0
  blown : Nat := 0
  deriving DecidableEq, Repr

/-- An RWS fuse set: JTAG_POLICY and INSTALL_TAG with their CRC-32 (R581). -/
structure RwsSet where
  policy : Nat
  tag : Bytes
  crc : Nat
  deriving DecidableEq, Repr

/-- Fuses of the digital die (R577 to R582). -/
structure Fuses where
  deviceId : Nat := 0
  orderCode : Nat := 0
  dieRevision : Nat := 0
  romVersion : Nat := 0
  lifeCycle : Nat := 0
  operator : RoleKey := {}
  engineer : RoleKey := {}
  metrology : RoleKey := {}
  rws : List RwsSet := []
  deriving DecidableEq, Repr

/-- Reset, start-up, straps and the TAP (chapter 15). -/
structure ResetState where
  /-- Islands are held in reset: 0 not held, 1 until the 100 µs are over, 2 by VIO, 3 by the rails, 4 by the junction. -/
  hold : Nat := 0
  /-- Further holds of 2 to 4 that are to end before the reset can (R561, R569). -/
  alsoHeld : List Nat := []
  /-- Cause of the latest reset, bytes 0 to 5 (Table 15.7). -/
  cause : Bytes := []
  releasedAt : Stamp := 0
  patchPresent : Bool := false
  patchVersion : Nat := 0
  dramWiped : Bool := false
  convGroup : Nat := 0
  convDone : Bool := false
  pllLocked : Bool := false
  straps : Straps := ⟨1, 0⟩
  /-- Instruction in the TAP's instruction register (IDCODE in Test-Logic-Reset), the KEY_LOAD and the status register. -/
  instruction : Nat := 1
  keyWord : Option Nat := none
  tapStatus : Nat := 0
  /-- The block performs no function: a ball-taking instruction is loaded, and which (R576). -/
  ballsTaken : Bool := false
  ballsBy : Nat := 0
  deriving DecidableEq, Repr

/-! ## The hamper and its interface -/

/-- A fuse set of the hamper (Table 13.4). -/
structure CalSet where
  rows : Bytes := []
  row7 : Nat := 0
  commit : Nat := 0
  used : Bool := false
  deriving DecidableEq, Repr

/-- The registers and accumulators one save slot holds (R537). -/
structure Billing where
  /-- The 48 billing registers, register 0 first (Table 14.3). -/
  registers : List Nat := List.replicate 48 0
  /-- ENERGY, ENERGY_REVERSE in mWh and VOLUME in µL of each path. -/
  energy : Int × Int := (0, 0)
  reverse : Int × Int := (0, 0)
  volume : Nat × Nat := (0, 0)
  clock : Stamp := 0
  deriving DecidableEq, Repr

/-- The hamper (chapter 14). `clock` is the legal clock as it stood at `clockAt`, on the time scale of `TimeState.mono`
(R538). -/
structure Hamper where
  powered : Bool := false
  id : Nat := 0
  romCrc : Nat := 0
  /-- When the ROM was last checked, on the scale of `clockAt` (R546). -/
  romAt : Stamp := 0
  sealed : Bool := false
  configured : Bool := false
  clockSet : Bool := false
  config : Bytes := List.replicate 32 0
  /-- Local standard day-count boundary already closed (R536). -/
  closedTo : Option Int := none
  sets : List CalSet := [{}, {}, {}, {}]
  calSet : Nat := 255
  flags : Nat := 0
  clock : Stamp := 0
  clockAt : Stamp := 0
  clockInvalid : Bool := false
  /-- Steps of the legal clock with the instants they were applied at (R540). -/
  steps : List (Stamp × Int) := []
  billing : Billing := {}
  saves : List (Nat × Billing) := []
  saveCount : Nat := 0
  pulses : Nat × Nat := (0, 0)
  temps : List (Option Int) := [none, none, none, none]
  tamperCount : Nat := 0
  tampered : Bool := false
  logHead : Nat := 0
  log : List (Nat × Bytes) := []
  snapCount : Nat := 0
  sampleTime : Stamp := 0
  /-- The millisecond of the latest time offer on the request channel (R540). -/
  offeredAt : Option Int := none
  deriving DecidableEq, Repr

/-- The hamper interface on the digital die (R549, R550, R554). -/
structure HmpState where
  /-- Type of the request outstanding, 0 for none. -/
  request : Nat := 0
  /-- First SEQ still missing, while log entries are being read. -/
  wantFrom : Nat := 0
  wantTo : Nat := 0
  haveTo : Nat := 0
  rebuilding : Bool := true
  lastHour : Int := -1
  lastFlags : Nat := 0
  deriving DecidableEq, Repr

/-! ## Stations -/

/-- An association a station holds (R142, R146): its SA, its key, the highest packet number accepted, the last one
sent. -/
structure StnAssoc where
  sa : Nat
  key : Bytes
  rxPn : Nat
  txPn : Nat
  deriving DecidableEq, Repr

/-- A grant that a station holds (R131, R217): X of the next frame it sends under it, its end at the device, its
highest pace, its allotments. -/
structure StnGrant where
  next : Stamp
  stop : Stamp
  pace : Nat
  mask : Nat
  deriving DecidableEq, Repr

/-- A frame that a station is sending in fragments (R137): what its fragments have in common, the FRAG_NO of the next and the
plaintext bytes of those sent. -/
structure StnSet where
  tag : Nat
  type : Nat
  sa : Nat
  colour : Nat
  seq : Nat
  next : Nat
  total : Nat
  deriving DecidableEq, Repr

/-- A MGMT response that a station has still to send, or the rest of one whose first fragment has gone out: its association,
0 for none, and its bytes (R124). -/
structure StnAnswer where
  sa : Nat
  rest : Bytes
  begun : Bool
  deriving DecidableEq, Repr

/-- One remote station (chapters 03 to 05, R249, R250). `state` 0 SEARCH, 1 JOIN, 2 RANGING, 3 CONFIRMING, 4 ACTIVE,
5 QUIET. Its clock is `State.time.mono`. -/
structure Stn where
  state : Nat := 0
  /-- Its capability block, with STATION_UID and MAX_LEVEL (Table 3.7); PACES bit 0 is set (R128). -/
  caps : Bytes := List.replicate 13 0 ++ [1] ++ List.replicate 6 0
  band : Band := ⟨0, 1, 2, 16⟩
  level : Int := 0
  /-- Level of the latest REQUEST (R226, R233). -/
  reqLevel : Int := 0
  address : Nat := 0
  allot : Nat := 0
  ta : Int := 0
  upPace : Nat := 0
  security : Bool := false
  duplex : Bool := false
  bell : Bool := false
  /-- Latest anchor: the named instant and the clock reading at which it was received (R216). -/
  anchor : Option (Stamp × Stamp) := none
  /-- What the latest BEACON announced: registration open, start and length of its DISCOVER window at the device. -/
  regOpen : Bool := false
  discover : Option (Stamp × Stamp) := none
  /-- The UP-CONTEND windows announced to it that have not begun: start at the device and length (R588). -/
  contend : List (Stamp × Stamp) := []
  /-- Starts of the windows the station has sent in (R222, R234), as long as they lie ahead. -/
  usedWindows : List Stamp := []
  /-- Clock readings between which it sends, or is to send, what is not over yet (R134). -/
  sends : List (Stamp × Stamp) := []
  /-- The grants it holds (R131). -/
  grants : List StnGrant := []
  /-- The next SEQ of each TAG towards the device, and the frames it sends in fragments (R112, R137). -/
  seqs : List (Nat × Nat) := []
  sets : List StnSet := []
  /-- Its reassemblies, each with the clock reading of its deadline (R139). -/
  reasm : List (Reasm × Stamp) := []
  /-- The responses it has still to send, oldest first (R124). -/
  answers : List StnAnswer := []
  /-- Requests in a row without an answer and announced windows still to pass (R227); end of the window of the request
  not answered yet, and the clock reading at which it was sent (R232). -/
  unanswered : Nat := 0
  backoff : Nat := 0
  request : Option (Stamp × Stamp) := none
  /-- Clock reading at which the wait after a REFUSE ends. -/
  waitUntil : Option Stamp := none
  /-- AT of the RANGE REQ to be answered (R237). -/
  rangeAt : Option Stamp := none
  /-- Corrections of ADJs not applied yet, each with the first X it applies to: TA and level (R238). -/
  adjust : List (Stamp × Int × Int) := []
  confirms : Nat := 0
  /-- Clock readings: the latest frame without error, the latest RANGE REQ or the entry to RANGING, the latest bell. -/
  lastHeard : Stamp := 0
  rangingSince : Stamp := 0
  bellAt : Option Stamp := none
  /-- U of the refresh cycle to be answered, end of the latest answer, T of the cycle to come, the interval in ms, and
  whether QUIET ends with the answer (R191, R249). -/
  refreshAt : Option Stamp := none
  refreshEnd : Stamp := 0
  nextCycle : Stamp := 0
  interval : Nat := 0
  leaveQuiet : Bool := false
  /-- REQ_ID and response of the latest request answered (R125). -/
  kept : Option (Nat × Bytes) := none
  /-- The associations it holds and its commissioning key (R146). -/
  assocs : List StnAssoc := []
  commissioning : Bytes := []
  /-- STN_DS_FRAMES, STN_DS_ERRORS and STN_DS_SNR (Table 5.7). -/
  dsFrames : Nat := 0
  dsErrors : Nat := 0
  dsSnr : Bytes := List.replicate 64 0xFF
  deriving DecidableEq, Repr

/-! ## The machine -/

end Sys2Proof.Machine

namespace Sys2Proof.Machine

/-- The block: its waiting commands, its dictionary, and what it remembers beside it. -/
structure State where
  /-- The commands that wait, first in, first out. -/
  pending : List Instr
  /-- The numeric objects: for each key, the difference from the object's default; no entry is 0. -/
  regs : List (Nat × Int)
  /-- The BLOB objects that differ from their default; no entry is empty. -/
  blobs : List (Nat × Bytes)
  time : TimeState
  timers : List (Timer × Stamp)
  merge : MergeState
  house : HouseState
  ports : Vector PortState 32
  qm : QmState
  pf : Vector PfState 2
  casc : CascState
  iz : IzState
  power : PowerState
  faults : FaultState
  fuses : Fuses
  rst : ResetState
  hamper : Hamper
  hmp : HmpState
  /-- The remote stations by number; one not listed has just powered up. -/
  stations : List (Nat × Stn)
  /-- Everything the block has put on its channels, newest first. -/
  out : List Out
  /-- The model's own: how many free values have been taken. -/
  freeCount : Nat
  deriving DecidableEq, Repr

/-- The machine right after reset (R10, R566, R577): every object at its default, BOOT_STATE FUSES, every port DOWN, the
queue of commands empty. -/
def State.reset : State where
  pending := []
  regs := []
  blobs := []
  time := {}
  timers := []
  merge := {}
  house := {}
  ports := Vector.replicate 32 {}
  qm := {}
  pf := Vector.replicate 2 {}
  casc := {}
  iz := {}
  power := {}
  faults := {}
  fuses := {}
  rst := {}
  hamper := {}
  hmp := {}
  stations := []
  out := []
  freeCount := 0

end Sys2Proof.Machine
end

