-- ==== Sys2Proof/Machine/Ops.lean ====
section
/-! DEFINITION. The named operations over the state: sparse stores, objects, deadlines, ports, free values, event
records, faults raised, and what leaves the block. -/

namespace Sys2Proof

/-- The copy of an object that belongs to a Porfani port. -/
def Side.n : Side → Nat
  | .up => 0
  | .down => 1

/-- The other Porfani port. -/
def Side.other : Side → Side
  | .up => .down
  | .down => .up

/-- A Porfani port as an index. -/
def Side.fin : Side → Fin 2
  | .up => 0
  | .down => 1

end Sys2Proof

namespace Sys2Proof.Machine

/-- The outcome of a command. -/
abbrev Res := Host.Outcome State Fault Refusal

/-- A command that goes on in state s. -/
def ok (s : State) : Res := .next s

/-- What a command of the digital die leaves of s: the queue, the fuses and the hamper. -/
def State.keep (t s : State) : State := { t with pending := s.pending, fuses := s.fuses, hamper := s.hamper }

/-- What a command that blows fuses leaves of s: the queue and the hamper. -/
def State.keepHamper (t s : State) : State := { t with pending := s.pending, hamper := s.hamper }

/-- What a command of the hamper die leaves of s: the queue and the fuses. -/
def State.keepFuses (t s : State) : State := { t with pending := s.pending, fuses := s.fuses }

/-- The outcome of a command of the digital die: its effect where its condition holds, nothing where it does not (log
entry 2). No command touches the queue of waiting commands, and a command of the digital die reaches neither the fuses
nor the hamper die (R528, R580): the outcome keeps them. -/
def guarded (c : Prop) [Decidable c] (s t : State) : Res := ok (if c then t.keep s else s)

/-- The outcome of a command that blows or reads back fuses: it does not reach the hamper die. -/
def guardedFuse (c : Prop) [Decidable c] (s t : State) : Res := ok (if c then t.keepHamper s else s)

/-- The outcome of a command of the hamper die: of the digital die it changes the lane and the tallies only, never the
fuses. -/
def guardedHamper (c : Prop) [Decidable c] (s t : State) : Res := ok (if c then t.keepFuses s else s)

/-! ## Sparse stores: strictly rising keys, no entry equal to the default -/

/-- The value a store holds under a key. -/
def Store.get {β : Type} (d : β) : List (Nat × β) → Nat → β
  | [], _ => d
  | (k', v) :: l, k => if k = k' then v else Store.get d l k

/-- Puts an entry before the first one with a greater key. -/
def Store.place {β : Type} (k : Nat) (v : β) : List (Nat × β) → List (Nat × β)
  | [] => [(k, v)]
  | (k', v') :: l => if k < k' then (k, v) :: (k', v') :: l else (k', v') :: Store.place k v l

/-- Stores a value under a key; the default removes the entry, so that equal stores are equal lists. -/
def Store.put {β : Type} [DecidableEq β] (d : β) (l : List (Nat × β)) (k : Nat) (v : β) : List (Nat × β) :=
  let l := l.filter fun e => decide (e.1 ≠ k)
  if v = d then l else Store.place k v l

/-- The canonical form of a store: keys strictly rise and no entry equals the default. -/
def Store.wf {β : Type} [DecidableEq β] (d : β) (l : List (Nat × β)) : Bool :=
  decide (l.Pairwise fun a b => a.1 < b.1) && l.all fun e => decide (e.2 ≠ d)

/-! ## Objects -/

/-- Table 7.4: the window elements of the default itinerary. -/
def defaultWindow (e : Nat) : Int :=
  if e = 0 then 0x00FF0000000F4240
  else if e = 1 then 0x03FF00000007A120
  else if e = 2 then 0x02FF00000007A120
  else 0

/-- The default of an object at an element (R10). -/
def Obj.dfltAt (o : Obj) (e : Nat) : Int := if o.bd = .itin then defaultWindow e else o.dflt

/-- Table 2.9: tap 63 is 16,384, every other tap 0. -/
def defaultFir : Bytes := List.replicate 126 0 ++ [0x40, 0] ++ List.replicate 126 0

/-- Table 4.7: tap 8 is 16,384, every other tap 0. -/
def defaultFfe : Bytes := List.replicate 16 0 ++ [0x40, 0] ++ List.replicate 46 0

/-- Table 2.9: every FREQ is 0xFFFF. DESIGN CHOICE (log entry 195): the table gives these breakpoints no LIMIT; the model
puts 0. -/
def defaultMask : Bytes := (List.replicate 64 ([0xFF, 0xFF, 0, 0] : Bytes)).flatten

/-- R94: the identity setting, a[1][0] = 1.0 as binary32, every other coefficient 0. -/
def defaultDpd : Bytes := [0x3F, 0x80, 0, 0] ++ List.replicate 76 0

/-- What a BLOB object reads before anything writes it. -/
def BlobDefault.bytes : BlobDefault → Bytes
  | .zeros n => List.replicate n 0
  | .ff n => List.replicate n 0xFF
  | .fir => defaultFir
  | .mask => defaultMask
  | .dpd => defaultDpd
  | .ffe => defaultFfe
  | _ => []

/-- The value of a numeric object: copy p (a port, or a Porfani port), element e. -/
def State.rd (s : State) (o : Obj) (p : Nat := 0) (e : Nat := 0) : Int :=
  o.dfltAt e + Store.get 0 s.regs (o.key p e)

/-- The value of an object as a natural number. -/
def State.rdN (s : State) (o : Obj) (p : Nat := 0) (e : Nat := 0) : Nat := (s.rd o p e).toNat

/-- Whether a BOOL object reads 1. -/
def State.flag (s : State) (o : Obj) (p : Nat := 0) (e : Nat := 0) : Bool := decide (s.rd o p e = 1)

/-- Gives a numeric object a value. -/
def State.wr (s : State) (o : Obj) (p : Nat) (e : Nat) (v : Int) : State :=
  { s with regs := Store.put 0 s.regs (o.key p e) (v - o.dfltAt e) }

/-- Counts an event in a U64 object, which wraps to 0. -/
def State.inc (s : State) (o : Obj) (p : Nat := 0) (e : Nat := 0) (n : Int := 1) : State :=
  s.wr o p e ((s.rd o p e + n) % 18446744073709551616)

/-- The value of a BLOB object. -/
def State.rdB (s : State) (o : Obj) (p : Nat := 0) (e : Nat := 0) : Bytes :=
  let b := Store.get [] s.blobs (o.key p e)
  if b = [] then o.bd.bytes else b

/-- Gives a BLOB object a value; its default, and the empty BLOB, are stored as nothing. -/
def State.wrB (s : State) (o : Obj) (p : Nat) (e : Nat) (v : Bytes) : State :=
  { s with blobs := Store.put [] s.blobs (o.key p e) (if v = o.bd.bytes then [] else v) }

/-! ## Time and deadlines -/

/-- Station time at the granularity of R37. -/
def State.now (s : State) : Stamp := s.time.now - s.time.now % 4

/-- A stamp on the 4 ns grid of R37. -/
def onGrid (t : Stamp) : Stamp := t - t % 4

/-- Gives a timeout its deadline (R154). -/
def State.arm (s : State) (t : Timer) (deadline : Stamp) : State :=
  { s with timers := (t, deadline) :: s.timers.filter fun e => e.1 ≠ t }

/-- Ends a timeout. -/
def State.disarm (s : State) (t : Timer) : State :=
  { s with timers := s.timers.filter fun e => e.1 ≠ t }

/-- The deadline of a timeout that runs. -/
def State.deadline (s : State) (t : Timer) : Option Stamp := (s.timers.find? fun e => e.1 = t).map (·.2)

/-- The deadline of a running timeout has passed: an event awaited until it was in time on the deadline itself (R154). -/
def State.passed (s : State) (t : Timer) : Bool :=
  match s.deadline t with | some d => decide (d < s.now) | none => false

/-- A planned instant has come. -/
def State.reached (s : State) (t : Timer) : Bool :=
  match s.deadline t with | some d => decide (d ≤ s.now) | none => false

/-- A timeout runs. -/
def State.running (s : State) (t : Timer) : Bool := (s.deadline t).isSome

/-! ## Parts of the state -/

/-- Changes the time unit. -/
def State.setTime (s : State) (f : TimeState → TimeState) : State := { s with time := f s.time }

/-- Changes the event merger. -/
def State.setMerge (s : State) (f : MergeState → MergeState) : State := { s with merge := f s.merge }

/-- Changes the house frame. -/
def State.setHouse (s : State) (f : HouseState → HouseState) : State := { s with house := f s.house }

/-- Changes the queue manager. -/
def State.setQm (s : State) (f : QmState → QmState) : State := { s with qm := f s.qm }

/-- Changes the cascade. -/
def State.setCasc (s : State) (f : CascState → CascState) : State := { s with casc := f s.casc }

/-- Changes Izvas. -/
def State.setIz (s : State) (f : IzState → IzState) : State := { s with iz := f s.iz }

/-- Changes the power controller. -/
def State.setPower (s : State) (f : PowerState → PowerState) : State := { s with power := f s.power }

/-- Changes the fault collector. -/
def State.setFaults (s : State) (f : FaultState → FaultState) : State := { s with faults := f s.faults }

/-- Changes the fuses. -/
def State.setFuses (s : State) (f : Fuses → Fuses) : State := { s with fuses := f s.fuses }

/-- Changes reset, start-up and the TAP. -/
def State.setRst (s : State) (f : ResetState → ResetState) : State := { s with rst := f s.rst }

/-- Changes the hamper. -/
def State.setHamper (s : State) (f : Hamper → Hamper) : State := { s with hamper := f s.hamper }

/-- Changes the hamper interface. -/
def State.setHmp (s : State) (f : HmpState → HmpState) : State := { s with hmp := f s.hmp }

/-- The hidden state of a port. -/
def State.port (s : State) (p : Port) : PortState := s.ports[p]

/-- The calibration values that the objects of a port hold. -/
def State.calValues (s : State) (p : Port) : CalValues :=
  { adcOffset := s.rd Reg.LP_CAL_CONV_ADC_offset p, adcGain := s.rd Reg.LP_CAL_CONV_ADC_gain p
    dacOffset := s.rd Reg.LP_CAL_CONV_DAC_offset p, dacGain := s.rd Reg.LP_CAL_CONV_DAC_gain p
    linearity := s.rdB Reg.LP_CAL_CONV_DAC_linearity p, coefficients := s.rdB Reg.LP_DPD_coefficients p
    ffe := s.rdB Reg.LP_SWEEP_FFE_taps p }

/-- The calibration values of reset (R10). -/
def defaultCal : CalValues :=
  { adcOffset := 0, adcGain := 0x40000000, dacOffset := 0, dacGain := 0x40000000
    linearity := Reg.LP_CAL_CONV_DAC_linearity.bd.bytes, coefficients := Reg.LP_DPD_coefficients.bd.bytes, ffe := defaultFfe }

/-- The calibration values in force on a port (R517). -/
def State.calInForce (s : State) (p : Port) : CalValues := (s.port p).cal.inForce.getD defaultCal

/-- Changes the hidden state of a port. -/
def State.setPort (s : State) (p : Port) (f : PortState → PortState) : State :=
  { s with ports := s.ports.set p (f s.ports[p]) }

/-- Changes the canceller of a port. -/
def State.setEc (s : State) (p : Port) (f : EcState → EcState) : State := s.setPort p fun q => { q with ec := f q.ec }

/-- Changes the sounding state of a port. -/
def State.setSound (s : State) (p : Port) (f : SoundState → SoundState) : State :=
  s.setPort p fun q => { q with sound := f q.sound }

/-- Changes the DC monitor of a port. -/
def State.setDc (s : State) (p : Port) (f : DcState → DcState) : State := s.setPort p fun q => { q with dc := f q.dc }

/-- Changes the calibration of a port. -/
def State.setCal (s : State) (p : Port) (f : CalState → CalState) : State :=
  s.setPort p fun q => { q with cal := f q.cal }

/-- The registration of address a on a port. -/
def State.elem (s : State) (p : Port) (a : Nat) : Elem := Store.get {} (s.port p).elems a

/-- Changes the registration of address a on a port. -/
def State.setElem (s : State) (p : Port) (a : Nat) (f : Elem → Elem) : State :=
  s.setPort p fun q => { q with elems := Store.put {} q.elems a (f (Store.get {} q.elems a)) }

/-- The equaliser of address a on a port. -/
def State.eq (s : State) (p : Port) (a : Nat) : EqState := Store.get {} (s.port p).eqs a

/-- Changes the equaliser of address a on a port. -/
def State.setEq (s : State) (p : Port) (a : Nat) (f : EqState → EqState) : State :=
  s.setPort p fun q => { q with eqs := Store.put {} q.eqs a (f (Store.get {} q.eqs a)) }

/-- The hidden state of a Porfani port. -/
def State.link (s : State) (x : Side) : PfState := s.pf[x.fin]

/-- Changes the hidden state of a Porfani port. -/
def State.setLink (s : State) (x : Side) (f : PfState → PfState) : State :=
  { s with pf := s.pf.set x.fin (f s.pf[x.fin]) }

/-- The session of a number. -/
def State.session (s : State) (k : SessionNo) : Session := s.iz.sessions[k]

/-- Changes a session. -/
def State.setSession (s : State) (k : SessionNo) (f : Session → Session) : State :=
  { s with iz := { s.iz with sessions := s.iz.sessions.set k (f s.iz.sessions[k]) } }

/-- Station u. -/
def State.stn (s : State) (u : Nat) : Stn := Store.get {} s.stations u

/-- Changes station u. -/
def State.setStn (s : State) (u : Nat) (f : Stn → Stn) : State :=
  { s with stations := Store.put {} s.stations u (f (s.stn u)) }

/-- Puts something on a channel of the block. -/
def State.emit (s : State) (o : Out) : State := { s with out := o :: s.out }

/-- Takes the next free value: the value itself, below `bound` when `bound` is not 0, and the state that has taken it. -/
def State.free (s : State) (bound : Nat := 0) : Nat × State :=
  let v := Config.freeNat s.freeCount
  (if bound = 0 then v else v % bound, { s with freeCount := s.freeCount + 1 })

/-- n free bytes, each from a free value of its own. -/
def State.freeBytes (s : State) (n : Nat) : Bytes × State :=
  ((List.range n).map fun i => BitVec.ofNat 8 (Config.freeNat (s.freeCount + i)),
   { s with freeCount := s.freeCount + n })

/-! ## Sources, records and faults -/

/-- Source numbers of Table 1.2. -/
def srcTime : Nat := 0x0000
def srcSteward : Nat := 0x0001
def srcPower : Nat := 0x0002
def srcQueue : Nat := 0x0003
def srcFlow : Nat := 0x0004
def srcDram : Nat := 0x0005
def srcThermos : Nat := 0x0006
def srcHamper : Nat := 0x0040
/-- The source number of sounding engine k, of the line engine of port p, and of a Porfani port (Table 1.2). -/
def srcEngine (k : Nat) : Nat := 0x0008 + k
def srcLine (p : Port) : Nat := 0x0010 + p.val
def srcLink (x : Side) : Nat := 0x0030 + x.n

/-- The island a source belongs to (R12): the queue manager, the flow and meter engine and the hamper interface are
one. -/
def islandOfSource (src : Nat) : Nat := if src = srcFlow ∨ src = srcHamper then srcQueue else src

/-- Issues an event record stamped t: it starts its crossing to the merger (R13, R14, R41). An island whose replica
waits for realignment stamps nothing yet (R36). -/
def State.issueAt (s : State) (t : Stamp) (source type : Nat) (payload : Bytes) (flags : Nat := 0) : State :=
  let r : Rec := ⟨t, source, type, flags, payload⟩
  { s with merge := if s.time.unaligned.contains source then { s.merge with unstamped := s.merge.unstamped ++ [r] }
                    else { s.merge with crossing := s.merge.crossing ++ [r] } }

/-- Issues an event record stamped now. -/
def State.issue (s : State) (source type : Nat) (payload : Bytes) : State := s.issueAt s.now source type payload

/-- Fault classes of Table 12.1. -/
def clsLine : Nat := 0
def clsSounding : Nat := 1
def clsMemory : Nat := 2
def clsLink : Nat := 3
def clsTime : Nat := 4
def clsPower : Nat := 5
def clsControl : Nat := 6
def clsHamper : Nat := 7

/-- The catalogue severity of a fault (Table 12.3); `none` where the table lists no such fault. -/
def catalogueSeverity (cls code : Nat) : Option Nat :=
  match cls, code with
  | 0, 0x01 | 0, 0x03 | 0, 0x04 | 0, 0x05 | 0, 0x06 | 0, 0x07 | 0, 0x08 => some 1
  | 0, 0x02 => some 2
  | 0, 0x10 | 0, 0x11 | 0, 0x12 => some 3
  | 1, 0x01 => some 3
  | 1, 0x02 => some 2
  | 2, 0x01 | 2, 0x04 => some 2
  | 2, 0x02 => some 3
  | 2, 0x03 => some 4
  | 3, 0x01 => some 1
  | 3, 0x02 => some 3
  | 3, 0x03 | 3, 0x04 | 3, 0x05 => some 2
  | 4, 0x01 | 4, 0x02 | 4, 0x03 => some 1
  | 4, 0x04 => some 2
  | 5, 0x01 | 5, 0x02 => some 2
  | 5, 0x03 => some 1
  | 5, 0x04 => some 4
  | 6, 0x01 => some 1
  | 6, 0x02 | 6, 0x03 => some 3
  | 6, 0x04 => some 2
  | 7, 0x01 => some 2
  | 7, 0x02 => some 3
  | 7, 0x03 => some 1
  | _, _ => none

/-- The sources that may raise a fault of a class and code (Table 12.1). -/
def sourceOf (cls code source : Nat) : Bool :=
  match cls with
  | 0 => decide (0x10 ≤ source ∧ source ≤ 0x2F)
  | 1 => decide (0x08 ≤ source ∧ source ≤ 0x0B)
  | 2 => if code = 4 then
      decide (source ≤ 6 ∨ (0x08 ≤ source ∧ source ≤ 0x0B) ∨ (0x10 ≤ source ∧ source ≤ 0x31) ∨ source = 0x40)
    else decide (source = 5)
  | 3 => if code = 5 then decide (source = 1) else decide (source = 0x30 ∨ source = 0x31)
  | 4 => decide (source = 0)
  | 5 => decide (source = 2)
  | 6 => decide (source = 1)
  | 7 => decide (source = 0x40)
  | _ => false

/-- A unit reports a fault to the collector, stamped now; `sev` replaces the catalogue severity when it is not 0. A
report that names no catalogued fault of its source is no fault (R487). A source whose replica waits for realignment
stamps nothing yet (R36). -/
def State.raiseAs (s : State) (r : FaultReport) (sev : Nat) (injected : Bool) : State :=
  match catalogueSeverity r.cls r.code with
  | none => s
  | some c =>
    let f : PendFault := ⟨s.now, r, if sev = 0 then c else sev, injected⟩
    if sourceOf r.cls r.code r.source then
      { s with faults := if s.time.unaligned.contains r.source then
                           { s.faults with unstamped := s.faults.unstamped ++ [f] }
                         else { s.faults with pending := s.faults.pending ++ [f] } }
    else s

/-- A unit reports a fault at its catalogue severity. -/
def State.raise (s : State) (source cls code unit detail : Nat) : State :=
  s.raiseAs ⟨source, cls, code, unit, detail⟩ 0 false

/-- A LINE fault of a port (R487: its source is the port's line engine, its UNIT the port). -/
def State.raiseLine (s : State) (p : Port) (code detail : Nat) : State := s.raise (srcLine p) clsLine code p.val detail

/-! ## Device conditions that many rows ask for -/

/-- Port states of Table 5.1. -/
def stDown : Int := 0
def stCheck : Int := 1
def stCal : Int := 2
def stListen : Int := 3
def stDiscover : Int := 4
def stService : Int := 5
def stQuiet : Int := 6
def stParked : Int := 7
def stFenced : Int := 8

/-- The state of a line port (R206). -/
def State.portState (s : State) (p : Port) : Int := s.rd Reg.LP_STATE_state p

/-- The host side of the device (R409): 0 UP, 1 DOWN; UP while it has no head. -/
def State.hostSide (s : State) : Side := if s.rd Reg.CASC_host_side = 1 then .down else .up

/-- BOOT_STATE reads READY (R577). -/
def State.ready (s : State) : Bool := decide (s.rd Reg.BOOT_STATE_state = 4)

/-- No reset is held and no ball-taking TAP instruction stops the device (R561, R566, R576). -/
def State.live (s : State) : Bool := decide (s.rst.hold = 0) && !s.rst.ballsTaken

/-- The device is not in SLEEP, DEEP or OFF: its digital die runs (Table 11.3). -/
def State.awake (s : State) : Bool := decide (s.power.mode ≠ 2 ∧ s.power.mode ≠ 3 ∧ s.power.mode ≠ 4)

/-- The digital die runs: neither held in reset nor gated. -/
def State.runs (s : State) : Bool := s.live && s.awake

/-- Entry to a power state has stopped scheduling (Table 11.4 step 1). -/
def State.stopped (s : State) : Bool := decide (s.power.mode = 5)

/-- A happening of R466 during entry, at a stamp: the first is kept, of two with one stamp the one of lower code and detail
(R475). -/
def State.happens (s : State) (code detail : Nat) (at' : Stamp) : State :=
  let first : Bool := match s.power.abandon with
    | none => true
    | some (c, d) => decide (at' < s.power.abandonAt ∨ (at' = s.power.abandonAt ∧ (code < c ∨ (code = c ∧ detail < d))))
  if s.stopped ∧ first then s.setPower fun fld => { fld with abandon := some (code, detail), abandonAt := at' } else s

/-- The steward runs: not in the restart of R500. -/
def State.steward (s : State) : Bool := s.runs && !s.faults.stewardDown

/-- The converter clocks run from the REFCLK-derived PLLs (Table 5.2, R578): READY, and REFCLK in force. -/
def State.clocked (s : State) : Bool := s.ready && decide (s.rd Reg.CLOCK_SELECT_in_force = 1)

/-- The life-cycle state lets line ports operate (Table 15.15). -/
def State.operates (s : State) : Bool := decide (s.fuses.lifeCycle = 1 ∨ s.fuses.lifeCycle = 2)

end Sys2Proof.Machine
end

