-- ==== Sys2Proof/Machine/Operands.lean ====
section
/-! DEFINITION. The operand forms of the block: headers, addresses, window and grant elements, cells, bands, paces,
flow numbers and parcel headers, each read out of the words that carry it, and the air time of a frame. -/

namespace Sys2Proof

/-- The header fields of 128 header bits (Table 3.1). -/
def Header.ofWord (w : Nat) : Header where
  ver := Machine.field w 127 126
  dst := Machine.field w 125 118
  src := Machine.field w 117 110
  type := Machine.field w 109 106
  pace := Machine.field w 105 101
  length := Machine.field w 100 90
  colour := Machine.field w 89 88
  sa := Machine.field w 87 80
  seed := Machine.field w 79 57
  tag := Machine.field w 56 50
  frag := Machine.field w 49 48
  fragNo := Machine.field w 47 43
  seq := Machine.field w 42 31

/-- Bits [127:16] of a header, reserved bits 0 (R6, Table 3.1). -/
def Header.high (h : Header) : Nat :=
  h.ver % 4 * 2 ^ 110 + h.dst % 256 * 2 ^ 102 + h.src % 256 * 2 ^ 94 + h.type % 16 * 2 ^ 90 + h.pace % 32 * 2 ^ 85
    + h.length % 2048 * 2 ^ 74 + h.colour % 4 * 2 ^ 72 + h.sa % 256 * 2 ^ 64 + h.seed % 8388608 * 2 ^ 41
    + h.tag % 128 * 2 ^ 34 + h.frag % 4 * 2 ^ 32 + h.fragNo % 32 * 2 ^ 27 + h.seq % 4096 * 2 ^ 15

/-- The 128 header bits with their CHECK (R107, R108). -/
def Header.word (h : Header) : Nat := h.high * 65536 + Machine.crc16 (Machine.be 14 h.high)

end Sys2Proof

namespace Sys2Proof.Machine

/-- CHECK of a header word matches its bits [127:16] (R108). -/
def checkMatches (w : Nat) : Bool := crc16 (be 14 (w >>> 16)) == field w 15 0

/-! ## Bands (Table 2.1) -/

/-- Nanoseconds in one baseband sample: 1/B. -/
def Band.ns (b : Band) : Nat := 4000 / 2 ^ b.bw
/-- Transform size N. -/
def Band.size (b : Band) : Nat := 256 * 4 ^ b.n
/-- Cyclic prefix P in samples. -/
def Band.cp (b : Band) : Nat := b.size / 2 ^ (4 - b.prefixCode)
/-- Bandwidth B in kHz. -/
def Band.kHz (b : Band) : Nat := 250 * 2 ^ b.bw
/-- Taps L of the canceller (Table 4.3). -/
def Band.taps (b : Band) : Nat := 96 * 2 ^ b.bw
/-- Samples in a millionth of a second: B × 1 µs rounded up. -/
def Band.perUs (b : Band) : Nat := ceilDiv 1000 b.ns
/-- The band edges lie from 20 kHz to 8.2 MHz (R58), in Hz. -/
def Band.edgesOk (b : Band) : Bool :=
  decide (20000 ≤ (b.centre * 15625 : Int) - b.kHz * 500 ∧ (b.centre * 15625 : Int) + b.kHz * 500 ≤ 8200000)
/-- The largest timing advance: ⌊400 µs × B⌋ (R220). -/
def Band.maxTa (b : Band) : Nat := 400000 / b.ns
/-- 131,072/B in ns: the reach of an anchor (R218). -/
def Band.reach (b : Band) : Int := 131072 * b.ns

/-- The band the objects of a port set (R57). -/
def State.bandObj (s : State) (p : Port) : Band :=
  ⟨s.rdN Reg.LP_BW p, s.rdN Reg.LP_N p, s.rdN Reg.LP_PREFIX p, s.rdN Reg.LP_CENTRE p⟩

/-! ## Paces (Tables 2.6 and 5.4) -/

/-- log2 of D of a pace: its density is 1/D. -/
def paceLogD (p : Nat) : Nat := if p ≤ 2 then 6 else if p ≤ 5 then 4 else if p ≤ 8 then 2 else 0
/-- D of a pace. -/
def paceD (p : Nat) : Nat := 2 ^ paceLogD p
/-- Bits per point of a pace. -/
def paceBits (p : Nat) : Nat :=
  if p ≤ 8 then (if p % 3 = 0 then 1 else 2)
  else if p ≤ 10 then 1 else if p ≤ 13 then 2 else if p ≤ 17 then 4 else if p ≤ 20 then 6 else 8
/-- Information bits k per codeword of 1,944 of a pace's code rate. -/
def paceK (p : Nat) : Nat :=
  if p ≤ 8 then (if p % 3 = 2 then 1458 else 972)
  else ([972, 1458, 972, 1296, 1458, 972, 1296, 1458, 1620, 1296, 1458, 1620, 1296, 1458, 1620].getD (p - 9) 972)
/-- η of a pace, in units of 1/(64 · 1944) bit per slot. -/
def paceEta (p : Nat) : Nat := 64 / paceD p * paceBits p * paceK p
/-- The required per-slot SNR s_p in 0.25 dB (Table 5.4). -/
def paceSnr (p : Nat) : Int :=
  [4, 16, 28, 4, 16, 28, 4, 16, 28, 4, 14, 16, 24, 28, 38, 48, 54, 60, 72, 78, 84, 94, 102, 110].getD p 0

/-! ## Air time (R76, R80, R101, R116) -/

/-- The coded length C of a payload of `length` bytes at a pace (R76). -/
def codedBits (pace length : Nat) : Nat :=
  let k := paceK pace
  let bits := 8 * (length + 4)
  let words := ceilDiv bits k
  let last := bits - (words - 1) * k
  (words - 1) * 1944 + last + ceilDiv (last * (1944 - k)) k

/-- Data slots in payload symbol i with G allotments open (R69, Table 2.5). -/
def dataSlots (b : Band) (g d i : Nat) : Nat :=
  g / d * (b.size / 64 - (if i % 64 < b.size / 64 then 1 else 0))

/-- The fewest payload symbols that hold a payload (R80): whole runs of 64 symbols carry 63 N/64 points of each active
allotment, and the rest is found symbol by symbol. -/
def symbolCount (b : Band) (g pace length : Nat) : Nat :=
  let points := ceilDiv (codedBits pace length) (paceBits pace)
  let act := g / paceD pace
  let m := b.size / 64
  let run := act * m * 63
  let whole := (points - 1) / run
  let rest := points - whole * run
  whole * 64 + ((lowest 64 fun r => decide (rest ≤ act * (m * (r + 1) - min (r + 1) m))).getD 63 + 1)

/-- Air time in ns of a long-form frame (R101). -/
def airLong (b : Band) (pace length : Nat) : Int :=
  ((2560 + 1280 + symbolCount b 64 pace length * (b.size + b.cp)) * b.ns : Nat)

/-- Air time in ns of a grant-form frame under G allotments (R116). -/
def airGrant (b : Band) (g pace length : Nat) : Int :=
  ((320 * (64 / g) + symbolCount b g pace length * (b.size + b.cp)) * b.ns : Nat)

/-- The length RS of an access slot in ns (R221). -/
def slotLength (b : Band) : Int := 1000 * (-((-(airLong b 0 22 + 500000)) / 1000))

/-! ## Windows and grants (Tables 7.1 and 7.3) -/

/-- Fields of a window element. -/
def winType (w : Nat) : Nat := field w 63 56
def winMask (w : Nat) : Nat := field w 55 48
def winGrants (w : Nat) : Nat := field w 47 41
def winFirst (w : Nat) : Nat := field w 40 31
/-- DURATION of a window element, ns. -/
def winDuration (w : Nat) : Int := (field w 25 0 : Nat) * 1000

/-- Window types of Table 7.2. -/
def wDown : Nat := 0
def wUpAllot : Nat := 1
def wUpContend : Nat := 2
def wDiscover : Nat := 3
def wSound : Nat := 4
def wQuiet : Nat := 5
def wDuplex : Nat := 6

/-- A window type that carries allotment grants (Table 7.2). -/
def granting (t : Nat) : Bool := t == wUpAllot || t == wDuplex

/-- ADDRESS, OFFSET and DURATION of a grant element, the latter two in ns. -/
def grantAddress (w : Nat) : Nat := field w 63 56
def grantOffset (w : Nat) : Int := (field w 51 26 : Nat) * 1000
def grantDuration (w : Nat) : Int := (field w 25 0 : Nat) * 1000

/-- The windows of an itinerary list as (element, start from the cycle start, duration), window 0 first. -/
def layout : List Nat → Int → List (Nat × Int × Int)
  | [], _ => []
  | w :: ws, t => (w, t, winDuration w) :: layout ws (t + winDuration w)

/-- The windows of the operating itinerary of a port. -/
def State.opWindows (s : State) (p : Port) : List (Nat × Int × Int) :=
  layout ((List.range (s.rdN Reg.ITIN_OP_count p)).map fun e => s.rdN Reg.ITIN_OP_windows p e) 0

/-- The window of an itinerary that holds an instant, of its base, its cycle and its windows as `layout` gives them: its
number, its start, its end (R316). -/
def windowIn (base cycle : Stamp) (ws : List (Nat × Int × Int)) (t : Stamp) : Nat × Stamp × Stamp :=
  let cycle := max 1 cycle
  let start := t - (t - base) % cycle
  match ws.findIdx? fun w => decide (t < start + w.2.1 + w.2.2) with
  | some i =>
    let w := ws.getD i (0, 0, 0)
    (i, start + w.2.1, start + w.2.1 + w.2.2)
  | none => (0, start, start + cycle)

/-- The window of the operating itinerary in progress at an instant: its number, its start, its end (R316). -/
def State.windowAt (s : State) (p : Port) (t : Stamp) : Nat × Stamp × Stamp :=
  windowIn (s.rd Reg.ITIN_OP_base p) (s.rd Reg.ITIN_OP_cycle p) (s.opWindows p) t

/-- The window in force on a port at an instant (R153, R316): its element, its start, its end. Before the latest switch it is
one of the itinerary that the switch replaced, and ends with it. -/
def State.windowInForce (s : State) (p : Port) (t : Stamp) : Nat × Stamp × Stamp :=
  let now (_ : Unit) : Nat × Stamp × Stamp :=
    let x := s.windowAt p t
    (s.rdN Reg.ITIN_OP_windows p x.1, x.2.1, x.2.2)
  match (s.port p).prior with
  | none => now ()
  | some (at', base, cycle, elems) =>
    if t < at' then
      let x := windowIn base cycle (layout elems 0) t
      (elems.getD x.1 0, x.2.1, min x.2.2 at')
    else now ()

/-- The type of the window in force on a port at an instant. -/
def State.windowTypeAt (s : State) (p : Port) (t : Stamp) : Nat := winType (s.windowInForce p t).1

/-- The element of the window in progress on a port. -/
def State.curWindow (s : State) (p : Port) : Nat := s.rdN Reg.ITIN_OP_windows p (s.port p).winIdx

/-! ## Cells (Table 6.1) -/

/-- Fields of a cell. -/
def cellBaseline (c : Nat) : Int := signed 16 (field c 63 48)
def cellCurrent (c : Nat) : Int := signed 16 (field c 47 32)
def cellTrend (c : Nat) : Int := signed 16 (field c 31 16)
def cellThreshold (c : Nat) : Nat := field c 15 8
def cellFlags (c : Nat) : Nat := field c 7 0

/-- A cell of its fields; reflection values are clamped to ±32,767 (R255). -/
def cellOf (baseline current trend : Int) (threshold flags : Nat) : Nat :=
  let w (v : Int) : Nat := (clamp (-32767) 32767 v % 65536).toNat
  w baseline * 2 ^ 48 + w current * 2 ^ 32 + w trend * 2 ^ 16 + threshold % 256 * 256 + flags % 256

/-- Cell i of a port. -/
def State.cell (s : State) (p : Port) (i : Nat) : Nat := s.rdN Reg.CELL_MAP p i

/-! ## Flows (R340, Table 8.1) -/

/-- Port, station address and TAG of a flow number. -/
def flowPort (f : Nat) : Nat := field f 19 15
def flowStation (f : Nat) : Nat := field f 14 7
def flowTag (f : Nat) : Nat := field f 6 0
/-- The flow number of a port, a station address and a TAG. -/
def flowNumber (p a tag : Nat) : Nat := p % 32 * 32768 + a % 256 * 128 + tag % 128

/-- Fields of a control part. -/
def fcValid (c : Bytes) : Bool := bit (uAt c 0 1) 7
def fcDownEn (c : Bytes) : Bool := bit (uAt c 0 1) 6
def fcUpEn (c : Bytes) : Bool := bit (uAt c 0 1) 5
def fcDmeter (c : Bytes) : Bool := bit (uAt c 0 1) 4
def fcUmeter (c : Bytes) : Bool := bit (uAt c 0 1) 3
def fcUpVc (c : Bytes) : Nat := uAt c 1 1 % 4
def fcQueue (c : Bytes) : Nat := uAt c 2 2
def fcMeterDown (c : Bytes) : Nat := uAt c 4 2
def fcMeterUp (c : Bytes) : Nat := uAt c 6 2
def fcSa (c : Bytes) : Nat := uAt c 8 1

/-! ## Parcels (Table 9.8) -/

/-- A parcel header and payload of the raw bytes of a parcel, without its CRC-32C; `none` when it is shorter than a
header or its LENGTH is not that of its payload. -/
def Parcel.ofBytes (b : Bytes) : Option Parcel :=
  if b.length < 12 ∨ uAt b 4 2 % 4096 ≠ b.length - 12 then none
  else some {
    type := uAt b 0 1 / 16
    vc := uAt b 0 1 / 4 % 4
    dir := uAt b 0 1 / 2 % 2
    isLocal := bit (uAt b 0 1) 0
    devnum := uAt b 1 1 / 16
    bcast := bit (uAt b 1 1) 3
    lseq := uAt b 2 2 % 4096
    payload := slice b 8 (b.length - 12) }

/-- The header bytes of a parcel (Table 9.8). -/
def Parcel.header (p : Parcel) : Bytes :=
  be 1 (p.type * 16 + p.vc * 4 + p.dir * 2 + b2n p.isLocal) ++ be 1 (p.devnum * 16 + b2n p.bcast * 8)
    ++ be 2 p.lseq ++ be 2 p.payload.length ++ [0, 0]

/-- The bytes of a parcel with its CRC-32C (R397, R398). -/
def Parcel.bytes (p : Parcel) : Bytes :=
  let b := p.header ++ p.payload
  b ++ be 4 (crc32c b)

/-- CRC-32C of raw parcel bytes holds (R398). -/
def parcelCrcOk (b : Bytes) : Bool := crc32c (b.take (b.length - 4)) == uAt b (b.length - 4) 4

/-- The credits a parcel needs (R405). -/
def Parcel.credits (p : Parcel) : Nat := ceilDiv (12 + p.payload.length) 64

end Sys2Proof.Machine
end

