-- ==== Sys2Proof/Machine/Flags.lean ====
section
/-! DEFINITION. Flags and codes the spec packs into bits: event record flags, cell flags, DC flags, publication flags,
capability bits, hamper flags, the REACTION byte, the IRQ_N line. -/

namespace Sys2Proof.Machine

/-- Bit i of w set (b) or cleared. -/
def setBit (w i : Nat) (b : Bool) : Nat := if bit w i then (if b then w else w - 2 ^ i) else (if b then w + 2 ^ i else w)

/-! ## Event record flags (Table 1.10) -/
def evConcurrent : Nat := 128
def evLate : Nat := 64
def evInj : Nat := 32
def evCoincident : Nat := 16
def evSameCycle : Nat := 8

/-- Flags f with the flag m. -/
def withFlag (f m : Nat) : Nat := f ||| m
/-- Flags f carry the flag m. -/
def hasFlag (f m : Nat) : Bool := f &&& m != 0

/-! ## Timed conditions -/

/-- A planned instant that is not armed, or that has come. -/
def State.due (s : State) (t : Timer) : Bool := match s.deadline t with | some d => decide (d ≤ s.now) | none => true

/-! ## IRQ_N (R411, R477, R492) -/

/-- IRQ_N is asserted: an unacknowledged fault at STATION, a device of the head's topology that reports one, or a wake
whose host-side port is not yet ACTIVE; while the clamps hold, the power controller alone drives it (Table 11.10). -/
def State.irq (s : State) : Bool :=
  s.power.irqWake || (!s.power.clamped && (decide (s.casc.stationSev ≠ [])
    || s.faults.logged.any fun f => !f.acked && !f.suppressed && decide (4 ≤ f.severity)))

end Sys2Proof.Machine
end

