-- ==== Sys2Proof/Machine/Ldpc.lean ====
section
/-! DEFINITION. The LDPC codes of the line signal (R75): the systematic quasi-cyclic codes of IEEE Std 802.11. The spec
names the standard and gives n and k; the prototype matrices here are those of that standard as the model knows them
(PRESUMED, log entry 192). -/

namespace Sys2Proof.Machine

/-! ## Prototype matrices: one row of blocks a line, `blank` for the zero block, i for the identity with its columns
shifted i to the right. The parity columns are the dual diagonal, after one column whose shifts are 1, 0 and 1 in the
first, the middle and the last row. -/

/-- Information columns for n = 648, rate 1/2, blocks of 27; `blank` is the zero block. -/
def ldpc648 : List (List Nat) :=
  let blank := 255
  [[0, blank, blank, blank, 0, 0, blank, blank, 0, blank, blank, 0],
   [22, 0, blank, blank, 17, blank, 0, 0, 12, blank, blank, blank],
   [6, blank, 0, blank, 10, blank, blank, blank, 24, blank, 0, blank],
   [2, blank, blank, 0, 20, blank, blank, blank, 25, 0, blank, blank],
   [23, blank, blank, blank, 3, blank, blank, blank, 0, blank, 9, 11],
   [24, blank, 23, 1, 17, blank, 3, blank, 10, blank, blank, blank],
   [25, blank, blank, blank, 8, blank, blank, blank, 7, 18, blank, blank],
   [13, 24, blank, blank, 0, blank, 8, blank, 6, blank, blank, blank],
   [7, 20, blank, 16, 22, 10, blank, blank, 23, blank, blank, blank],
   [11, blank, blank, blank, 19, blank, blank, blank, 13, blank, 3, 17],
   [25, blank, 8, blank, 23, 18, blank, 14, 9, blank, blank, blank],
   [3, blank, blank, blank, 16, blank, blank, 2, 25, 5, blank, blank]]

/-- Information columns for n = 1944, rate 1/2, blocks of 81; `blank` is the zero block. -/
def ldpc1944r12 : List (List Nat) :=
  let blank := 255
  [[57, blank, blank, blank, 50, blank, 11, blank, 50, blank, 79, blank],
   [3, blank, 28, blank, 0, blank, blank, blank, 55, 7, blank, blank],
   [30, blank, blank, blank, 24, 37, blank, blank, 56, 14, blank, blank],
   [62, 53, blank, blank, 53, blank, blank, 3, 35, blank, blank, blank],
   [40, blank, blank, 20, 66, blank, blank, 22, 28, blank, blank, blank],
   [0, blank, blank, blank, 8, blank, 42, blank, 50, blank, blank, 8],
   [69, 79, 79, blank, blank, blank, 56, blank, 52, blank, blank, blank],
   [65, blank, blank, blank, 38, 57, blank, blank, 72, blank, 27, blank],
   [64, blank, blank, blank, 14, 52, blank, blank, 30, blank, blank, 32],
   [blank, 45, blank, 70, 0, blank, blank, blank, 77, 9, blank, blank],
   [2, 56, blank, 57, 35, blank, blank, blank, blank, blank, 12, blank],
   [24, blank, 61, blank, 60, blank, blank, 27, 51, blank, blank, 16]]

/-- Information columns for n = 1944, rate 2/3, blocks of 81; `blank` is the zero block. -/
def ldpc1944r23 : List (List Nat) :=
  let blank := 255
  [[61, 75, 4, 63, 56, blank, blank, blank, blank, blank, blank, 8, blank, 2, 17, 25],
   [56, 74, 77, 20, blank, blank, blank, 64, 24, 4, 67, blank, 7, blank, blank, blank],
   [28, 21, 68, 10, 7, 14, 65, blank, blank, blank, 23, blank, blank, blank, 75, blank],
   [48, 38, 43, 78, 76, blank, blank, blank, blank, 5, 36, blank, 15, 72, blank, blank],
   [40, 2, 53, 25, blank, 52, 62, blank, 20, blank, blank, 44, blank, blank, blank, blank],
   [69, 23, 64, 10, 22, blank, 21, blank, blank, blank, blank, blank, 68, 23, 29, blank],
   [12, 0, 68, 20, 55, 61, blank, 40, blank, blank, blank, 52, blank, blank, blank, 44],
   [58, 8, 34, 64, 78, blank, blank, 11, 78, 24, blank, blank, blank, blank, blank, 58]]

/-- Information columns for n = 1944, rate 3/4, blocks of 81; `blank` is the zero block. -/
def ldpc1944r34 : List (List Nat) :=
  let blank := 255
  [[48, 29, 28, 39, 9, 61, blank, blank, blank, 63, 45, 80, blank, blank, blank, 37, 32, 22],
   [4, 49, 42, 48, 11, 30, blank, blank, blank, 49, 17, 41, 37, 15, blank, 54, blank, blank],
   [35, 76, 78, 51, 37, 35, 21, blank, 17, 64, blank, blank, blank, 59, 7, blank, blank, 32],
   [9, 65, 44, 9, 54, 56, 73, 34, 42, blank, blank, blank, 35, blank, blank, blank, 46, 39],
   [3, 62, 7, 80, 68, 26, blank, 80, 55, blank, 36, blank, 26, blank, 9, blank, 72, blank],
   [26, 75, 33, 21, 69, 59, 3, 38, blank, blank, blank, 35, blank, 62, 36, 26, blank, blank]]

/-- Information columns for n = 1944, rate 5/6, blocks of 81; `blank` is the zero block. -/
def ldpc1944r56 : List (List Nat) :=
  let blank := 255
  [[13, 48, 80, 66, 4, 74, 7, 30, 76, 52, 37, 60, blank, 49, 73, 31, 74, 73, 23, blank],
   [69, 63, 74, 56, 64, 77, 57, 65, 6, 16, 51, blank, 64, blank, 68, 9, 48, 62, 54, 27],
   [51, 15, 0, 80, 24, 25, 42, 54, 44, 71, 71, 9, 67, 35, blank, 58, blank, 29, blank, blank],
   [16, 29, 36, 41, 44, 56, 59, 37, 50, 24, blank, 65, 4, 65, 52, blank, 4, blank, 73, 52]]

/-- The rows of the prototype matrix of the code of length n with k information bits (R75). -/
def ldpcRows (n k : Nat) : List (List Nat) :=
  if n = 648 then ldpc648
  else if k = 972 then ldpc1944r12
  else if k = 1296 then ldpc1944r23
  else if k = 1458 then ldpc1944r34
  else ldpc1944r56

/-- Bitwise sum of two blocks. -/
def xorBits (a b : List Bool) : List Bool := List.zipWith (fun x y => x != y) a b

/-- A block through the identity shifted i columns to the right: bit r of the result is bit r + i. -/
def shiftBlock (i : Nat) (x : List Bool) : List Bool := x.drop i ++ x.take i

/-- The bits cut into blocks of z. -/
def blocksOf (z : Nat) : Nat → List Bool → List (List Bool)
  | 0, _ => []
  | m + 1, l => l.take z :: blocksOf z m (l.drop z)

/-- What the information blocks contribute to the checks of one row of blocks. -/
def rowSum (z : Nat) (row : List Nat) (info : List (List Bool)) : List Bool :=
  (row.zip info).foldl (fun a x => if x.1 < z then xorBits a (shiftBlock x.1 x.2) else a) (List.replicate z false)

/-- The parity blocks after the first, by the dual diagonal: each is the row's sum, the block before it and, in the first
and the middle row, the first parity block. -/
def parityBlocks (first : List Bool) (middle : Nat) : Nat → List Bool → List (List Bool) → List (List Bool)
  | _, _, [] => []
  | _, _, [_] => []
  | r, prev, sum :: l =>
    let own := if r = 0 then shiftBlock 1 first else if r = middle then first else List.replicate first.length false
    let next := xorBits (xorBits sum own) prev
    next :: parityBlocks first middle (r + 1) next l

/-- The n − k parity bits of k information bits (R75), in order. -/
def ldpcParity (n k : Nat) (info : List Bool) : List Bool :=
  let z := n / 24
  let rows := ldpcRows n k
  let blocks := blocksOf z (k / z) info
  let sums := rows.map fun row => rowSum z row blocks
  let first := sums.foldl xorBits (List.replicate z false)
  first ++ (parityBlocks first (rows.length / 2) 0 (List.replicate z false) sums).flatten

/-- The checks of a word of information and parity bits: one block of z for each row, all false for a codeword. -/
def ldpcChecks (n k : Nat) (word : List Bool) : List Bool :=
  let z := n / 24
  let rows := ldpcRows n k
  let par := blocksOf z rows.length (word.drop k)
  let block (i : Nat) : List Bool := par.getD i (List.replicate z false)
  let sums := rows.map fun row => rowSum z row (blocksOf z (k / z) (word.take k))
  (sums.zipIdx.flatMap fun (s, r) =>
    let own := if r = 0 ∨ r + 1 = rows.length then shiftBlock 1 (block 0)
      else if r = rows.length / 2 then block 0 else List.replicate z false
    let a := xorBits s own
    let a := if r = 0 then a else xorBits a (block r)
    if r + 1 = rows.length then a else xorBits a (block (r + 1)))

end Sys2Proof.Machine
end

