-- ==== Sys2Proof/Machine/LineSignal.lean ====
section
/-! DEFINITION. The Voxfegor line signal (chapter 02): what a `TxFrame` puts on the line, from payload bytes to the
slots of its symbols, how a receiver undoes that, and the transmit level a port uses. Waveform.lean says what these
are as complex samples and volts. -/

namespace Sys2Proof.Machine

/-! ## Bits, scrambler, code (R72 to R77) -/

/-- The bits of a byte string, most significant bit of each byte first (R5). -/
def bitsOf (b : Bytes) : List Bool := b.flatMap fun x => (List.range 8).map fun i => bit x.toNat (7 - i)

/-- The bits of a number of n bits, most significant first. -/
def bitsBe (n w : Nat) : List Bool := (List.range n).map fun i => bit w (n - 1 - i)

/-- One step of an additive register of `width` bits with taps at its top bit and at bit `tap` (R73, R70): the output
bit and the register after it. -/
def shiftBit (width tap s : Nat) : Bool × Nat :=
  let c := bit s (width - 1) != bit s tap
  (c, (s * 2 + b2n c) % 2 ^ width)

/-- The first n output bits of such a register, and the register after them. -/
def shiftBits (width tap : Nat) : Nat → Nat → List Bool × Nat
  | 0, s => ([], s)
  | n + 1, s =>
    let (c, s') := shiftBit width tap s
    let (l, r) := shiftBits width tap n s'
    (c :: l, r)

/-- The scrambler of R73: the bits exclusive-ORed with its output, and its register afterwards. -/
def scramble (seed : Nat) (bits : List Bool) : List Bool × Nat :=
  let (c, s) := shiftBits 23 17 bits.length seed
  (List.zipWith (fun a b => a != b) bits c, s)

/-- One LDPC codeword of length n for at most k information bits (R75, R76): the bits in order, then the first
⌈K_last·(n − k)/k⌉ parity bits of the word shortened with zeros. -/
def codeword (n k : Nat) (info : List Bool) : List Bool :=
  let parity := ldpcParity n k (info ++ List.replicate (k - info.length) false)
  info ++ parity.take (ceilDiv (info.length * (n - k)) k)

/-- The codewords of a payload's information bits, `fuel` bounding their number (R76). -/
def codewords (k : Nat) : Nat → List Bool → List Bool
  | 0, _ => []
  | fuel + 1, l => if l = [] then [] else codeword 1944 k (l.take k) ++ codewords k fuel (l.drop k)

/-- The 256 coded bits of the header block (R77): 128 information bits and the first 128 parity bits of the rate 1/2
code with n = 648. -/
def headerBits (word : Nat) : List Bool :=
  let info := bitsBe 128 word
  info ++ (ldpcParity 648 324 (info ++ List.replicate 196 false)).take 128

/-- The coded bits of a frame's payload and the scrambler register after its last information bit: payload and CRC-32,
scrambled, then encoded (R72 steps 1 to 3). -/
def payloadBits (f : TxFrame) : List Bool × Nat :=
  let info := bitsOf (f.payload ++ be 4 (crc32 f.payload))
  let (x, s) := scramble f.header.seed info
  let k := paceK f.header.pace
  (codewords k (ceilDiv x.length k) x, s)

/-! ## Points (R78, R79) -/

/-- The level index whose Gray word is g, for words of m bits: the prefix exclusive-OR of its bits. -/
def grayIndex (g : List Bool) : Nat :=
  (g.foldl (fun (a : Nat × Bool) b => let x := a.2 != b; (a.1 * 2 + b2n x, x)) (0, false)).1

/-- The I and Q levels of a point of b bits (R78). The point is these divided by √(2(M² − 1)/3) for b > 1 (R79). -/
def pointOf (bits : List Bool) : Int × Int :=
  match bits with
  | [b] => (if b then 1 else -1, 0)
  | l =>
    let m := l.length / 2
    let level (g : List Bool) : Int := 2 * (grayIndex g : Int) - (2 ^ m - 1)
    (level (l.take m), level (l.drop m))

/-- The square of the divisor of R79: 2(M² − 1)/3 with M = 2^(b/2). -/
def pointNorm (b : Nat) : Nat := if b ≤ 1 then 1 else 2 * (2 ^ b - 1) / 3

/-- The bits cut into groups of b; a last group that is short is dropped. -/
def groups (b : Nat) : Nat → List Bool → List (List Bool)
  | 0, _ => []
  | fuel + 1, l => if l.length < b then [] else l.take b :: groups b fuel (l.drop b)

/-! ## Symbols (R64 to R71, R80, R81) -/

/-- What a chirp slot carries. -/
inductive Slot where
  | zero
  | pilot (minus : Bool)
  | point (i q : Int)
  deriving DecidableEq, Repr

/-- The allotments a frame may use: all 64 for the long form, the mask of the grant otherwise, in ascending order. -/
def TxFrame.open' (f : TxFrame) : List Nat :=
  (List.range 64).filter fun g => f.long || bit f.allot g

/-- The active allotments of payload symbol i: those at positions j with j mod D = i mod D (R65, R66). -/
def TxFrame.active (f : TxFrame) (i : Nat) : List Nat :=
  let d := paceD f.header.pace
  (f.open'.zipIdx.filter fun x => x.2 % d == i % d).map (·.1)

/-- Slot k is a pilot of symbol i: its position equals i mod 64 (R69). -/
def isPilot (k i : Nat) : Bool := k / 64 == i % 64

/-- The pilot values of the N slots: output bit k of the generator x¹¹ + x⁹ + 1 loaded with 0x07FF (R70). -/
def pilots (n : Nat) : List Bool := (shiftBits 11 8 n 0x07FF).1

/-- Where point j of symbol i goes among its Q data slots (R81). -/
def interleave (q i j : Nat) : Nat := (143 * j + 29 * i) % q

/-- The slots of a symbol with the given active allotments: pilots, then the points at their interleaved places. -/
def symbolSlots (n i : Nat) (active : List Nat) (usePilots : Bool) (pts : List (Int × Int)) : List Slot :=
  let isActive (k : Nat) : Bool := active.contains (k % 64)
  let data := (List.range n).filter fun k => isActive k && !(usePilots && isPilot k i)
  let q := data.length
  let placed := pts.zipIdx.map fun (x, j) => (interleave q i j, x)
  let pv := pilots n
  (List.range n).map fun k =>
    if !isActive k then .zero
    else if usePilots && isPilot k i then .pilot (pv.getD k false)
    else match placed.find? fun y => data.getD y.1 n == k with
      | some y => .point y.2.1 y.2.2
      | none => .zero

/-- The payload symbols of a frame: points fill their data slots in order, and pad bits are the scrambler output that
follows the last information bit (R80). -/
def TxFrame.symbols (f : TxFrame) : List (List Slot) :=
  let b := paceBits f.header.pace
  let g := if f.long then 64 else popCount 64 f.allot
  let d := paceD f.header.pace
  let count := symbolCount f.band g f.header.pace f.payload.length
  let sizes := (List.range count).map fun i => dataSlots f.band g d i
  let (bits, s) := payloadBits f
  let room := b * sizes.sum
  let padded := bits ++ (shiftBits 23 17 (room - bits.length) s).1
  let pts := (groups b (sizes.sum + 1) padded).map pointOf
  (sizes.zipIdx.foldl (fun (acc : List (List Slot) × List (Int × Int)) x =>
    (acc.1 ++ [symbolSlots f.band.size x.2 (f.active x.2) true (acc.2.take x.1)], acc.2.drop x.1)) ([], pts)).1

/-- The four header symbols of a header block: N = 256, allotments with g mod 4 = h, no pilots, 64 BPSK points (R71). -/
def headerSymbols (word : Nat) : List (List Slot) :=
  let pts := (headerBits word).map fun b => pointOf [b]
  (List.range 4).map fun h =>
    symbolSlots 256 h ((List.range 64).filter fun g => g % 4 == h) false ((pts.drop (64 * h)).take 64)

/-- The 64/G header symbols of a grant-form frame under G allotments: N = 256, all of them at density 1, no pilots, Q = 4G
BPSK points each (R115). -/
def grantHeaderSymbols (word : Nat) (allots : List Nat) : List (List Slot) :=
  let pts := (headerBits word).map fun b => pointOf [b]
  let q := 4 * allots.length
  (List.range (64 / allots.length)).map fun h => symbolSlots 256 h allots false ((pts.drop (q * h)).take q)

/-- The header block of a frame in its form (R71, R103, R115). -/
def TxFrame.headerBlock (f : TxFrame) : List (List Slot) :=
  if f.long then headerSymbols f.header.word else grantHeaderSymbols f.header.word f.open'

/-- The sample of s that transmitted sample n of a symbol repeats: u[n] = s[(n − P) mod N] (R62). -/
def prefixed (size cp n : Nat) : Nat := (n + size - cp) % size

/-! ## Sync run, bell, sweep and filters (R63, R84, R89, R94, R105, R133, R189, R262) -/

/-- The phase of sample m of a chirp of 256 samples, as a multiple of π/256 below 512 (R105): an up-chirp, or a
down-chirp. -/
def chirpPhase (up : Bool) (m : Nat) : Nat := if up then m * m % 512 else (512 - m * m % 512) % 512

/-- The phase of sample n of the sync run (R105): eight up-chirps, then two down-chirps. -/
def syncPhase (n : Nat) : Nat := chirpPhase (decide (n / 256 ≤ 7)) (n % 256)

/-- The phase of sample n of the bell (R133): 16 chirps in alternation, an up-chirp first. -/
def bellPhase (n : Nat) : Nat := chirpPhase (decide (n / 256 % 2 = 0)) (n % 256)

/-- The phase of the carrier n samples of 100 MS/s after the first sample of a transmission (R63), in cycles as numerator
and denominator, for a centre in units of 15.625 kHz. -/
def carrierPhase (centre n : Nat) : Nat × Nat := (centre * 15625 * n, 100000000)

/-- f₁ and f₂ in kHz and the length M of a band's sweep (Table 6.3). -/
def sweepBand (b : Nat) : Nat × Nat × Nat :=
  if b = 0 then (200, 40000, 2048) else if b = 1 then (200, 8000, 16384) else (50, 2000, 65536)

/-- The phase of sample n of a sweep in cycles, as numerator and denominator (R262). -/
def sweepPhase (b n : Nat) : Nat × Nat :=
  let (f1, f2, m) := sweepBand b
  (n * (2 * m * f1 + (f2 - f1) * n), 2 * m * 100000)

/-- The taper of sample n of a sweep (R262): `none` for 1, else x and d of the raised cosine (1 − cos(π·x/d))/2 over the
first and last 5 %. -/
def sweepTaper (b n : Nat) : Option (Nat × Nat) :=
  let (_, _, m) := sweepBand b
  let x := min n (m - 1 - n)
  if 20 * x < m then some (20 * x, m) else none

/-- A filter with taps in units of 2⁻¹⁴ at sample n of a stream (R89, R189), in units of 2⁻¹⁴ of the samples; samples
before the stream are 0. -/
def firAt (taps x : List Int) (n : Nat) : Int :=
  ((taps.zipIdx.filter fun t => decide (t.2 ≤ n)).map fun t => t.1 * x.getD (n - t.2) 0).sum

/-- The taps a BLOB of I16 holds, tap 0 first, in units of 2⁻¹⁴ (R89, R189). -/
def tapsIn (n : Nat) (b : Bytes) : List Int := (List.range n).map fun i => sAt b (2 * i) 2

/-- The exact value of a REAL32 (IEEE Std 754 binary32); infinities and NaN have none and count as 0 (log entry 193). -/
def real32 (w : Nat) : Rat :=
  let e := field w 30 23
  let m : Rat := if e = 0 then (field w 22 0 : Nat) * 2 else (field w 22 0 + 2 ^ 23 : Nat)
  if e = 255 then 0 else (if bit w 31 then -1 else 1) * m * (2 ^ e : Nat) / (2 ^ 150 : Nat)

/-- The 20 coefficients of LP_DPD /02 (R94): a[p][q] at place 4·(p − 1) + q. -/
def dpdCoefficients (b : Bytes) : List Rat := (List.range 20).map fun i => real32 (uAt b (4 * i) 4)

/-- The coded payload rate of a pace under G allotments in bit/s, as numerator and denominator (R84). -/
def codedRate (b : Band) (pace g : Nat) : Nat × Nat :=
  (b.kHz * 1000 * b.size * 63 * paceEta pace * g, (b.size + b.cp) * 64 * (64 * 1944) * 64)

/-- The factor in power by which each active slot stands above a slot of a full-density symbol (R68): D downstream,
64·D/G under G allotments. -/
def TxFrame.powerRaise (f : TxFrame) : Nat :=
  let g := if f.long then 64 else popCount 64 f.allot
  64 * paceD f.header.pace / g

/-! ## Mask and level (R85 to R93) -/

/-- A breakpoint table of the mask presets (Table 2.8): FREQ in 15.625 kHz, LIMIT in 0.1 dBm/Hz. -/
def maskPreset (code : Nat) : List (Nat × Int) :=
  match code with
  | 1 => [(0, -1000), (1, -1000), (2, -400), (128, -400), (525, -500), (576, -900), (800, -1000)]
  | 2 => [(0, -1000), (1, -1000), (2, -520), (525, -520), (576, -900), (800, -1000)]
  | 3 => [(0, -1000), (1, -1000), (2, -400), (64, -400), (96, -900), (800, -1000)]
  | _ => []

/-- The breakpoints of LP_MASK before the first FREQ of 0xFFFF (R90). -/
def maskOf (b : Bytes) : List (Nat × Int) :=
  ((List.range 64).map fun i => (uAt b (4 * i) 2, sAt b (4 * i + 2) 2)).takeWhile fun x => x.1 ≠ 0xFFFF

/-- A mask table holds at least two breakpoints, in strictly ascending FREQ (R90). -/
def maskLegal (b : Bytes) : Bool :=
  let l := maskOf b
  decide (2 ≤ l.length) && decide (l.Pairwise fun x y => x.1 < y.1)

/-- The limit of a mask at a frequency in 15.625 kHz, in 0.1 dBm/Hz (R90): linear between breakpoints, that of the nearest
one outside them. DESIGN CHOICE (log entry 194): LP_MASK at its default holds no breakpoint, and the spec does not say
what mask preset 0 selects then; the limit is 0 dBm/Hz at every frequency. -/
def maskLimit : List (Nat × Int) → Nat → Rat
  | [], _ => 0
  | [x], _ => x.2
  | x :: y :: l, f =>
    if f ≤ x.1 then x.2
    else if f ≤ y.1 then x.2 + (y.2 - x.2 : Int) * (f - x.1 : Nat) / (y.1 - x.1 : Nat)
    else maskLimit (y :: l) f

/-- The mask in force at a port (R91). -/
def State.maskInForce (s : State) (p : Port) : List (Nat × Int) :=
  if s.rdN Reg.LP_MASK_PRESET p = 0 then maskOf (s.rdB Reg.LP_MASK p) else maskPreset (s.rdN Reg.LP_MASK_PRESET p)

/-- The transmit spectral density of a port at a level and a point of the 15.625 kHz grid, in 0.1 dBm/Hz; above 12.5 MHz,
point 800, the communication path emits at most −100 dBm/Hz (R92). -/
def State.densityAt (s : State) (p : Port) (level : Int) (k : Nat) : Rat :=
  let b := (s.port p).band
  let d := Config.density [b.bw, b.n, b.prefixCode, b.centre, s.rdN Reg.LP_TX_impedance p] level (s.rdB Reg.LP_FIR p) k
  if 800 < k then min d (-1000) else d

/-- The mask that R92 is computed against at a port: the mask in force, 6 dB lower while the pre-distorter trains (R96). -/
def State.maskAt (s : State) (p : Port) (k : Nat) : Rat :=
  maskLimit (s.maskInForce p) k - (if s.rd Reg.LP_DPD_state p = 1 then 60 else 0)

/-- The level a port uses (R92): the requested level, less the largest excess of its density over the mask from 0 to
12.5 MHz, rounded up to 0.1 dB. -/
def State.levelInUse (s : State) (p : Port) : Int :=
  let level := s.rd Reg.LP_TX_level p
  let excess := (List.range 801).map fun k => (s.densityAt p level k - s.maskAt p k).ceil
  level - excess.foldl max 0

/-- TX_SPECTRUM_COMPUTE (R92): LP_TX /03 reports the level the port uses. -/
def State.computeLevel (s : State) (p : Port) : State := s.wr Reg.LP_TX_effective p 0 (s.levelInUse p)

end Sys2Proof.Machine
end

