-- ==== Sys2Proof/Machine/Blocks.lean ====
section
/-! DEFINITION. The block layer of a Porfani port (chapter 09): parcels in 66-bit blocks, striping over lanes, the lane
scrambler, eyelets and their parity, block lock. A parcel that the block sends goes out as these blocks. -/

namespace Sys2Proof.Machine

/-! ## Blocks and parcels (R373, R375, R376) -/

/-- A 66-bit block (R373): its sync header, and its payload of eight bytes, bits [63:56] first. -/
structure Block where
  sync : Nat
  payload : Bytes
  deriving DecidableEq, Repr

/-- A data block (R373). -/
def dataBlock (b : Bytes) : Block := ⟨1, b⟩

/-- A control block of a type of Table 9.2 with its bytes 1 to 7, filled with 0x00 (R375). -/
def controlBlock (type : Nat) (b : Bytes) : Block := ⟨2, be 1 type ++ b ++ List.replicate (7 - b.length) 0⟩

/-- The data blocks of whole groups of eight bytes, and the TERMINATE that carries what is left (R376); `fuel` bounds
the number of blocks. -/
def bodyBlocks : Nat → Bytes → List Block
  | 0, _ => []
  | fuel + 1, b =>
    if b.length < 8 then [controlBlock (0x80 + b.length) b] else dataBlock (b.take 8) :: bodyBlocks fuel (b.drop 8)

/-- The blocks of a parcel of at least seven bytes (R376): START, data, TERMINATE. -/
def parcelBlocks (b : Bytes) : List Block :=
  controlBlock 0x78 (b.take 7) :: bodyBlocks (b.length + 1) (b.drop 7)

/-- The blocks a parcel goes out in. -/
def Parcel.blocks (p : Parcel) : List Block := parcelBlocks p.bytes

/-- A TIME or DELAY parcel from block j of the aggregate stream on: IDLE until its START falls on logical lane 0 (R420). -/
def Parcel.timedBlocks (p : Parcel) (width j : Nat) : List Block :=
  List.replicate ((width - j % width) % width) (controlBlock 0x1E []) ++ p.blocks

/-- The 64 payload bits of a block in the order in which they enter the lane scrambler, bit [63] first: within a byte the
most significant bit (R5). The two bits of the sync header bypass it (R373). -/
def Block.bits (x : Block) : List Bool := x.payload.flatMap fun b => (List.range 8).map fun i => b.toNat.testBit (7 - i)

/-- Types of control blocks (Table 9.2). -/
def blockTypes : List Nat := [0x1E, 0x78, 0x2D, 0x33, 0x4B, 0x66] ++ (List.range 8).map fun n => 0x80 + n

/-- A block is invalid whatever surrounds it (R376): its sync header is neither 0b01 nor 0b10, or its type is reserved. -/
def Block.malformed (x : Block) : Bool :=
  !(x.sync == 1 || x.sync == 2) || (x.sync == 2 && !blockTypes.contains (uAt x.payload 0 1))

/-- What a receiver has of a parcel, and the parcels it has completed (R376). -/
structure BlockRx where
  part : Option Bytes := none
  parcels : List Bytes := []
  deriving DecidableEq, Repr

/-- One block of the aggregate stream (R376): an invalid block discards the parcel in which it falls. A START inside a
parcel begins none (log entry 191). -/
def BlockRx.take (r : BlockRx) (x : Block) : BlockRx :=
  if x.malformed then { r with part := none }
  else
    let type := uAt x.payload 0 1
    match r.part with
    | none => if x.sync = 2 ∧ type = 0x78 then { r with part := some (x.payload.drop 1) } else r
    | some b =>
      if x.sync = 1 then { r with part := some (b ++ x.payload) }
      else if type = 0x78 then { r with part := none }
      else if 0x80 ≤ type ∧ type ≤ 0x87 then
        { part := none, parcels := r.parcels ++ [b ++ (x.payload.drop 1).take (type - 0x80)] }
      else r

/-- The parcels in a stream of blocks. -/
def parcelsOf (l : List Block) : List Bytes := (l.foldl BlockRx.take {}).parcels

/-! ## Lanes (R373, R374, R377 to R379) -/

/-- The blocks of an aggregate stream that a logical lane carries at a width (R374). -/
def laneBlocks (width lane : Nat) (l : List Block) : List Block :=
  (l.zipIdx.filter fun x => x.2 % width == lane).map (·.1)

/-- One bit through the self-synchronising scrambler x⁵⁸ + x³⁹ + 1 (R373): the bit sent, and the register after it. -/
def laneScrambleBit (s : Nat) (b : Bool) : Bool × Nat :=
  let c := (b != bit s 57) != bit s 38
  (c, (s * 2 + b2n c) % 2 ^ 58)

/-- The bits of a lane scrambled, from a register on (R373). -/
def laneScramble : Nat → List Bool → List Bool
  | _, [] => []
  | s, b :: l => let x := laneScrambleBit s b; x.1 :: laneScramble x.2 l

/-- The scrambler's register after bits have gone through it. -/
def laneAdvance : Nat → List Bool → Nat
  | s, [] => s
  | s, b :: l => laneAdvance (laneScrambleBit s b).2 l

/-- The sync header of a block as it is serialised, most significant bit first (R5, R373). -/
def Block.head (x : Block) : List Bool := [x.sync.testBit 1, x.sync.testBit 0]

/-- The bits of a lane's blocks in the order in which they are serialised, from a register on: the sync header bypasses
the scrambler, and so does the whole of an eyelet (R5, R373). -/
def laneBits : Nat → List Block → List Bool
  | _, [] => []
  | s, x :: l =>
    if x.sync = 2 ∧ uAt x.payload 0 1 = 0x4B then x.head ++ x.bits ++ laneBits s l
    else x.head ++ laneScramble s x.bits ++ laneBits (laneAdvance s x.bits) l

/-- The bits of a lane descrambled (R373): the register takes what was received. -/
def laneDescramble : Nat → List Bool → List Bool
  | _, [] => []
  | s, c :: l => ((c != bit s 57) != bit s 38) :: laneDescramble ((s * 2 + b2n c) % 2 ^ 58) l

/-- An eyelet (R378, Table 9.3) of a logical lane at a width, with its BIP8 (R379). -/
def eyelet (lane width parity : Nat) : Bytes :=
  [0x4B] ++ be 1 lane ++ be 1 parity ++ be 1 width ++ [0xA5, 0x3C, 0x96] ++ be 1 (parity ^^^ 0xFF)

/-- An eyelet meets R378 in TYPE, FIXED and LANE, as R387 judges it. -/
def eyeletOk (lane : Nat) (b : Bytes) : Bool :=
  b.length == 8 && uAt b 0 1 == 0x4B && uAt b 1 1 % 4 == lane && slice b 4 3 == [0xA5, 0x3C, 0x96]

/-- The scrambled payloads of a lane with an eyelet after every 16,384 of them (R377), which carries the parity of those
since the eyelet before (R379). `n` and `par` are what has been sent since then. -/
def withEyelets (lane width : Nat) : Nat → Nat → List Bytes → List Bytes
  | _, _, [] => []
  | n, par, b :: l =>
    let par := par ^^^ bip8 b
    if n + 1 = 16384 then b :: eyelet lane width par :: withEyelets lane width 0 0 l
    else b :: withEyelets lane width (n + 1) par l

/-! ## Block lock (R387) -/

/-- A sync header is valid. -/
def syncValid (h : Nat) : Bool := h == 1 || h == 2

/-- A lane gains block lock (R387): its latest 64 sync headers, newest first, are valid. -/
def gainsLock (headers : List Nat) : Bool := decide (64 ≤ headers.length) && (headers.take 64).all syncValid

/-- A lane loses block lock by its sync headers, newest first (R387): 16 of the latest 64 are invalid. -/
def losesLock (headers : List Nat) : Bool := decide (16 ≤ ((headers.take 64).filter fun h => !syncValid h).length)

end Sys2Proof.Machine
end

