-- ==== Sys2Proof/Machine/CommitOps.lean ====
section
/-! DEFINITION. When a commit is done (R48 to R50, R56, R330, R459, R479): the islands that have applied it, and what its
values set going in them. -/

namespace Sys2Proof.Machine

/-- The address of copy n, element e of an object. -/
def Obj.addr (o : Obj) (n : Nat := 0) (e : Nat := 0) : Addr :=
  let k := o.key n e
  ⟨k / 268435456, k / 1048576 % 256, k % 1048576⟩

/-- A commit sets an object: a staged value has its address. -/
def sets (vs : List (Addr × Bytes)) (o : Obj) (n : Nat := 0) (e : Nat := 0) : Bool := vs.any fun v => v.1 == o.addr n e

/-- The ports in ascending order. -/
def allPorts : List Port := List.finRange 32

/-- LP_STATE /02 = 0 is in force on a port that is not DOWN yet (R207). -/
def State.disableOwed (s : State) (p : Port) : Bool :=
  !s.flag Reg.LP_STATE_enable p && decide (s.portState p ≠ stDown ∧ s.portState p ≠ stFenced)

/-- LP_STATE /03 = 1 is in force on a port that is not PARKED yet (R207). -/
def State.parkOwed (s : State) (p : Port) : Bool :=
  s.flag Reg.LP_STATE_park p && decide (stCheck ≤ s.portState p ∧ s.portState p ≤ stQuiet)

/-- A band is in force that the port does not work with yet (R213). -/
def State.bandOwed (s : State) (p : Port) : Bool := decide (s.bandObj p ≠ (s.port p).band)

/-- A committed pace ceiling of an ACTIVE station of a port in SERVICE is still to be evaluated (R246). -/
def State.ceilingOwed (s : State) (p : Port) : Bool :=
  decide (s.portState p = stService)
    && (s.port p).elems.any fun e => e.2.ceilingSet && decide (s.rd Reg.LP_STATION_state p e.1 = 3)

/-- A line engine has still to act on values that have reached its port (R48): frames would otherwise go out after the
commit-done stamp under the old configuration (R50, R56). -/
def State.lineOwes (s : State) (p : Port) : Bool :=
  s.disableOwed p || s.parkOwed p || s.bandOwed p || s.ceilingOwed p

/-- A unit whose level is still to change, or whose supply ramps, keeps a commit from being done (R459), as does the
selection of the clock (R479), a flow control part that waits for the refill tick (R343), and a line engine that has
still to act on what it was given (R50). A commit of an empty set waits for nothing (R443). -/
def State.commitWaits (s : State) (c : Commit) : Bool :=
  c.values != [] && (s.iz.remaining != [] || s.iz.ramping != [] || s.qm.flowWrites != []
    || (allPorts.any fun p => s.lineOwes p)
    || (sets c.values Reg.CLOCK_SELECT_request && decide (s.rd Reg.CLOCK_SELECT_request = 1)
        && decide (s.rd Reg.CLOCK_SELECT_in_force = 0)))

/-- What COMMIT_STATUS /01 reads once a commit has come to its end: QUEUED while another waits. -/
def State.afterCommit (s : State) (code : Int) : State :=
  s.wr Reg.COMMIT_STATUS_state 0 0 (if s.iz.queue = [] then code else 1)

/-- The commit whose check comes next asks for REFCLK, which has not been checked since it arrived (R522). -/
def State.refclkAsked (s : State) : Bool :=
  s.iz.active.isNone && match s.iz.queue with
    | [] => false
    | c :: _ => (c.values.any fun v => v.1 == Reg.CLOCK_SELECT_request.addr && v.2 == [1])
        && decide (s.rd Reg.CAL_REF_REFCLK_stamp < c.at')

/-- COMMIT_DONE (R49, R330): once every affected island has applied, COMMIT_STAMP is written and COMMIT_STATUS reads DONE;
the commit that arms an itinerary fixes D. -/
def State.commitDone (s : State) : State :=
  match s.iz.active with
  | none => s
  | some c =>
    if s.commitWaits c then s
    else
      let s := s.setIz fun fld => { fld with active := none }
      let s := (s.wr Reg.COMMIT_STAMP 0 0 s.now).wr Reg.COMMIT_STATUS_applied 0 0 c.values.length
      let s := s.afterCommit 4
      (allPorts.filter fun (p : Port) => sets c.values Reg.ITIN_CTL_arm p && s.flag Reg.ITIN_CTL_arm p).foldl
        (fun s p => s.setPort p fun q => { q with armedAt := some s.now }) s

end Sys2Proof.Machine
end

