-- ==== Sys2Proof/Machine/Crypto.lean ====
section
/-! DEFINITION. The ciphers and digests the spec names by their standards: SHA-256 (FIPS 180-4), HMAC (FIPS 198-1),
AES-128 (FIPS 197) and CCM (NIST SP 800-38C). Their arithmetic is PRESUMED from those standards (log entry 5). -/

namespace Sys2Proof.Machine

/-! ## SHA-256 and HMAC -/

/-- A 32-bit word turned right by n places. -/
def rotr32 (x n : Nat) : Nat := x >>> n ||| x <<< (32 - n) % 4294967296

/-- The sum of 32-bit words. -/
def add32 (l : List Nat) : Nat := l.sum % 4294967296

/-- The round constants of SHA-256. -/
def shaK : List Nat :=
  [0x428a2f98, 0x71374491, 0xb5c0fbcf, 0xe9b5dba5, 0x3956c25b, 0x59f111f1, 0x923f82a4, 0xab1c5ed5]
  ++ [0xd807aa98, 0x12835b01, 0x243185be, 0x550c7dc3, 0x72be5d74, 0x80deb1fe, 0x9bdc06a7, 0xc19bf174]
  ++ [0xe49b69c1, 0xefbe4786, 0x0fc19dc6, 0x240ca1cc, 0x2de92c6f, 0x4a7484aa, 0x5cb0a9dc, 0x76f988da]
  ++ [0x983e5152, 0xa831c66d, 0xb00327c8, 0xbf597fc7, 0xc6e00bf3, 0xd5a79147, 0x06ca6351, 0x14292967]
  ++ [0x27b70a85, 0x2e1b2138, 0x4d2c6dfc, 0x53380d13, 0x650a7354, 0x766a0abb, 0x81c2c92e, 0x92722c85]
  ++ [0xa2bfe8a1, 0xa81a664b, 0xc24b8b70, 0xc76c51a3, 0xd192e819, 0xd6990624, 0xf40e3585, 0x106aa070]
  ++ [0x19a4c116, 0x1e376c08, 0x2748774c, 0x34b0bcb5, 0x391c0cb3, 0x4ed8aa4a, 0x5b9cca4f, 0x682e6ff3]
  ++ [0x748f82ee, 0x78a5636f, 0x84c87814, 0x8cc70208, 0x90befffa, 0xa4506ceb, 0xbef9a3f7, 0xc67178f2]

/-- The eight working words of SHA-256, a to h. -/
structure ShaState where
  a : Nat
  b : Nat
  c : Nat
  d : Nat
  e : Nat
  f : Nat
  g : Nat
  h : Nat
  deriving DecidableEq, Repr

/-- The initial hash value. -/
def shaInit : ShaState :=
  ⟨0x6a09e667, 0xbb67ae85, 0x3c6ef372, 0xa54ff53a, 0x510e527f, 0x9b05688c, 0x1f83d9ab, 0x5be0cd19⟩

/-- The next word of the message schedule, which is held newest first. -/
def shaNext (w : List Nat) : Nat :=
  let x := w.getD 1 0
  let y := w.getD 14 0
  add32 [rotr32 x 17 ^^^ rotr32 x 19 ^^^ x >>> 10, w.getD 6 0, rotr32 y 7 ^^^ rotr32 y 18 ^^^ y >>> 3, w.getD 15 0]

/-- The 64 words of the message schedule of a block. -/
def shaSchedule (block : Bytes) : List Nat :=
  ((List.range 48).foldl (fun w _ => shaNext w :: w) ((List.range 16).map fun i => uAt block (4 * i) 4).reverse).reverse

/-- One round with its constant and its word of the schedule. -/
def shaRound (v : ShaState) (k : Nat × Nat) : ShaState :=
  let t := add32 [v.h, rotr32 v.e 6 ^^^ rotr32 v.e 11 ^^^ rotr32 v.e 25,
    (v.e &&& v.f) ^^^ ((v.e ^^^ 0xffffffff) &&& v.g), k.1, k.2]
  let u := add32 [rotr32 v.a 2 ^^^ rotr32 v.a 13 ^^^ rotr32 v.a 22, (v.a &&& v.b) ^^^ (v.a &&& v.c) ^^^ (v.b &&& v.c)]
  ⟨add32 [t, u], v.a, v.b, v.c, add32 [v.d, t], v.e, v.f, v.g⟩

/-- The hash value after a block of 64 bytes. -/
def shaBlock (v : ShaState) (block : Bytes) : ShaState :=
  let x := (shaK.zip (shaSchedule block)).foldl shaRound v
  ⟨add32 [v.a, x.a], add32 [v.b, x.b], add32 [v.c, x.c], add32 [v.d, x.d], add32 [v.e, x.e], add32 [v.f, x.f],
    add32 [v.g, x.g], add32 [v.h, x.h]⟩

/-- SHA-256. -/
def sha256 (m : Bytes) : Bytes :=
  let p := m ++ [0x80] ++ List.replicate ((119 - m.length % 64) % 64) 0 ++ be 8 (8 * m.length)
  let v := (List.range (p.length / 64)).foldl (fun v i => shaBlock v (slice p (64 * i) 64)) shaInit
  be 4 v.a ++ be 4 v.b ++ be 4 v.c ++ be 4 v.d ++ be 4 v.e ++ be 4 v.f ++ be 4 v.g ++ be 4 v.h

/-- HMAC-SHA-256 of a message under a key (R433, R434, R547). -/
@[irreducible] def hmacSha256 (key m : Bytes) : Bytes :=
  let k := if 64 < key.length then sha256 key else key
  let k := k ++ List.replicate (64 - k.length) 0
  sha256 ((k.map fun x => x ^^^ 0x5C) ++ sha256 ((k.map fun x => x ^^^ 0x36) ++ m))

/-! ## AES-128 and CCM -/

/-- A byte times x in the field of AES. -/
def xtime (b : Byte) : Byte := (b <<< 1) ^^^ (if b.msb then 0x1B else 0)

/-- The S-box of AES. -/
def aesSbox : List Nat :=
  [0x63, 0x7C, 0x77, 0x7B, 0xF2, 0x6B, 0x6F, 0xC5, 0x30, 0x01, 0x67, 0x2B, 0xFE, 0xD7, 0xAB, 0x76]
  ++ [0xCA, 0x82, 0xC9, 0x7D, 0xFA, 0x59, 0x47, 0xF0, 0xAD, 0xD4, 0xA2, 0xAF, 0x9C, 0xA4, 0x72, 0xC0]
  ++ [0xB7, 0xFD, 0x93, 0x26, 0x36, 0x3F, 0xF7, 0xCC, 0x34, 0xA5, 0xE5, 0xF1, 0x71, 0xD8, 0x31, 0x15]
  ++ [0x04, 0xC7, 0x23, 0xC3, 0x18, 0x96, 0x05, 0x9A, 0x07, 0x12, 0x80, 0xE2, 0xEB, 0x27, 0xB2, 0x75]
  ++ [0x09, 0x83, 0x2C, 0x1A, 0x1B, 0x6E, 0x5A, 0xA0, 0x52, 0x3B, 0xD6, 0xB3, 0x29, 0xE3, 0x2F, 0x84]
  ++ [0x53, 0xD1, 0x00, 0xED, 0x20, 0xFC, 0xB1, 0x5B, 0x6A, 0xCB, 0xBE, 0x39, 0x4A, 0x4C, 0x58, 0xCF]
  ++ [0xD0, 0xEF, 0xAA, 0xFB, 0x43, 0x4D, 0x33, 0x85, 0x45, 0xF9, 0x02, 0x7F, 0x50, 0x3C, 0x9F, 0xA8]
  ++ [0x51, 0xA3, 0x40, 0x8F, 0x92, 0x9D, 0x38, 0xF5, 0xBC, 0xB6, 0xDA, 0x21, 0x10, 0xFF, 0xF3, 0xD2]
  ++ [0xCD, 0x0C, 0x13, 0xEC, 0x5F, 0x97, 0x44, 0x17, 0xC4, 0xA7, 0x7E, 0x3D, 0x64, 0x5D, 0x19, 0x73]
  ++ [0x60, 0x81, 0x4F, 0xDC, 0x22, 0x2A, 0x90, 0x88, 0x46, 0xEE, 0xB8, 0x14, 0xDE, 0x5E, 0x0B, 0xDB]
  ++ [0xE0, 0x32, 0x3A, 0x0A, 0x49, 0x06, 0x24, 0x5C, 0xC2, 0xD3, 0xAC, 0x62, 0x91, 0x95, 0xE4, 0x79]
  ++ [0xE7, 0xC8, 0x37, 0x6D, 0x8D, 0xD5, 0x4E, 0xA9, 0x6C, 0x56, 0xF4, 0xEA, 0x65, 0x7A, 0xAE, 0x08]
  ++ [0xBA, 0x78, 0x25, 0x2E, 0x1C, 0xA6, 0xB4, 0xC6, 0xE8, 0xDD, 0x74, 0x1F, 0x4B, 0xBD, 0x8B, 0x8A]
  ++ [0x70, 0x3E, 0xB5, 0x66, 0x48, 0x03, 0xF6, 0x0E, 0x61, 0x35, 0x57, 0xB9, 0x86, 0xC1, 0x1D, 0x9E]
  ++ [0xE1, 0xF8, 0x98, 0x11, 0x69, 0xD9, 0x8E, 0x94, 0x9B, 0x1E, 0x87, 0xE9, 0xCE, 0x55, 0x28, 0xDF]
  ++ [0x8C, 0xA1, 0x89, 0x0D, 0xBF, 0xE6, 0x42, 0x68, 0x41, 0x99, 0x2D, 0x0F, 0xB0, 0x54, 0xBB, 0x16]

/-- The substitution of a byte. -/
def aesSub (b : Byte) : Byte := BitVec.ofNat 8 (aesSbox.getD b.toNat 0)

/-- Two byte strings added bit by bit, as long as the shorter. -/
def xorBytes (a b : Bytes) : Bytes := List.zipWith (· ^^^ ·) a b

/-- The next round key from a round key and its round constant. -/
def aesNextKey (k : Bytes) (rcon : Byte) : Bytes :=
  let w := fun i => slice k (4 * i) 4
  let t := ((w 3).drop 1 ++ (w 3).take 1).map aesSub
  let w0 := xorBytes (w 0) (xorBytes t [rcon, 0, 0, 0])
  let w1 := xorBytes (w 1) w0
  let w2 := xorBytes (w 2) w1
  w0 ++ w1 ++ w2 ++ xorBytes (w 3) w2

/-- SubBytes and ShiftRows of a state held column by column. -/
def aesShift (s : Bytes) : Bytes := (List.range 16).map fun i => aesSub (s.getD ((i + 4 * (i % 4)) % 16) 0)

/-- MixColumns. -/
def aesMix (s : Bytes) : Bytes :=
  (List.range 16).map fun i =>
    let at' := fun n => s.getD (4 * (i / 4) + (i + n) % 4) 0
    xtime (at' 0) ^^^ (xtime (at' 1) ^^^ at' 1) ^^^ at' 2 ^^^ at' 3

/-- AES-128 of a block of 16 bytes. -/
def aes128 (key block : Bytes) : Bytes :=
  let x := ([0x01, 0x02, 0x04, 0x08, 0x10, 0x20, 0x40, 0x80, 0x1B] : Bytes).foldl
    (fun x rcon => let k := aesNextKey x.2 rcon; (xorBytes (aesMix (aesShift x.1)) k, k)) (xorBytes block key, key)
  xorBytes (aesShift x.1) (aesNextKey x.2 0x36)

/-- Zeros that fill a string to whole blocks of 16 bytes. -/
def pad16 (b : Bytes) : Bytes := b ++ List.replicate ((16 - b.length % 16) % 16) 0

/-- Blocks of 16 bytes. -/
def blocks16 (b : Bytes) : List Bytes := (List.range ((b.length + 15) / 16)).map fun i => slice b (16 * i) 16

/-- The CBC-MAC of CCM with a tag of 8 bytes and a length field of 2 (R140). -/
def ccmMac (key nonce aad plain : Bytes) : Bytes :=
  let b0 := [(if aad = [] then 0x19 else 0x59 : Byte)] ++ nonce ++ be 2 plain.length
  let a := if aad = [] then [] else pad16 (be 2 aad.length ++ aad)
  (blocks16 (b0 ++ a ++ pad16 plain)).foldl (fun y b => aes128 key (xorBytes y b)) (List.replicate 16 0)

/-- The key stream block of a counter. -/
def ccmStream (key nonce : Bytes) (i : Nat) : Bytes := aes128 key ([0x01] ++ nonce ++ be 2 i)

/-- A text added to the key stream from counter 1. -/
def ccmCrypt (key nonce text : Bytes) : Bytes :=
  xorBytes text ((List.range ((text.length + 15) / 16)).flatMap fun i => ccmStream key nonce (i + 1))

/-- The 8-byte MIC of a plaintext (R140). -/
def ccmMic (key nonce aad plain : Bytes) : Bytes := (xorBytes (ccmMac key nonce aad plain) (ccmStream key nonce 0)).take 8

/-- AES-128 CCM under R140: key, nonce, associated data, plaintext; the ciphertext with its 8-byte MIC. -/
@[irreducible] def ccmEncrypt (key nonce aad plain : Bytes) : Bytes := ccmCrypt key nonce plain ++ ccmMic key nonce aad plain

/-- AES-128 CCM under R140: key, nonce, associated data, ciphertext with MIC; the plaintext when the MIC verifies. -/
@[irreducible] def ccmDecrypt (key nonce aad text : Bytes) : Option Bytes :=
  let plain := ccmCrypt key nonce (text.take (text.length - 8))
  if 8 ≤ text.length ∧ text.drop (text.length - 8) = ccmMic key nonce aad plain then some plain else none

end Sys2Proof.Machine
end

