-- ==== Sys2Proof/Machine/LinkOps.lean ====
section
/-! DEFINITION. Sending on a Porfani port (R397 to R405): states of a port, parcels queued and sent under credits and the
replay buffer, the host-bound FIFOs. -/

namespace Sys2Proof.Machine

/-- Port states of Table 9.4. -/
def pfDetect : Int := 0
def pfTrain : Int := 1
def pfLock : Int := 2
def pfExchange : Int := 3
def pfActive : Int := 4
def pfIdle : Int := 5
def pfTest : Int := 6
def pfOff : Int := 7

/-- The state of a Porfani port (R381). -/
def State.pfState (s : State) (x : Side) : Int := s.rd Reg.PF_PORT_state x.n

/-- The partner's lanes that a set of RX lanes hears, by the partner's numbers (R383). -/
def PfState.good (q : PfState) : Nat :=
  (List.range 4).foldl (fun m k => if bit q.laced k then m ||| 2 ^ (q.laneOf.getD k k) else m) 0

/-- A port changes state, with its LINK_STATE record (Table 9.14). -/
def State.pfTo (s : State) (x : Side) (new : Int) (cause : Nat) : State :=
  let old := s.pfState x
  (s.wr Reg.PF_PORT_state x.n 0 new).issue (srcLink x) 0x0901 (be 1 x.n ++ be 1 old.toNat ++ be 1 new.toNat
    ++ be 1 (s.rdN Reg.PF_PORT_width x.n) ++ be 1 (s.rdN Reg.PF_PORT_rate x.n) ++ be 1 cause
    ++ be 1 (s.link x).good ++ [0])

/-- Sends a link-local CTRL parcel: neither sequenced nor credited, sent while credits are frozen (R401, R405). -/
def State.sendLocal (s : State) (x : Side) (payload : Bytes) : State :=
  s.emit (.parcel x { type := 5, vc := 0, dir := 0, isLocal := true, devnum := 0, bcast := false, lseq := 0,
                      payload := payload })

/-- Bytes a list of parcels takes in the replay buffer (R402). -/
def replayBytes (l : List Parcel) : Nat := (l.map fun p => 12 + p.payload.length).sum

/-- A port may send a parcel now: fewer than 2,048 parcels and 64 KiB wait for acknowledgement, and its VC has the
credits (R402, R405). -/
def PfState.admits (q : PfState) (p : Parcel) : Bool :=
  decide (q.replay.length < 2048 ∧ replayBytes q.replay + 12 + p.payload.length ≤ 65536
    ∧ p.credits ≤ (q.limits.getD p.vc 0 + 65536 - q.used.getD p.vc 0 % 65536) % 65536)

/-- Sends a parcel for the first time: it takes the next LSEQ, a place in the replay buffer and its credits, and starts
the replay timer when nothing else was unacknowledged (R402, R404, R405). -/
def State.sendNow (s : State) (x : Side) (p : Parcel) : State :=
  let q := s.link x
  let p := { p with lseq := q.txSeq }
  let s := if q.replay = [] then s.arm (.pfReplay x.n) (s.now + 20000) else s
  (s.setLink x fun q => { q with
    txSeq := (q.txSeq + 1) % 4096, replay := q.replay ++ [p], lastTx := s.now,
    stalled := q.stalled.filter (· ≠ p.vc),
    used := q.used.set p.vc ((q.used.getD p.vc 0 + p.credits) % 65536) }).emit (.parcel x p)

/-- A parcel waits; each wait of its VC is counted once (R402). -/
def State.stall (s : State) (x : Side) (vc : Nat) : State :=
  if (s.link x).stalled.contains vc then s
  else (s.setLink x fun q => { q with stalled := vc :: q.stalled }).inc Reg.PF_PORT_CREDIT_STALLS x.n

/-- A queued parcel is sent, or waits behind those of its VC that wait (R53). -/
def State.trySend (s : State) (x : Side) (p : Parcel) : State :=
  let wait (s : State) : State := s.setLink x fun q => { q with sendQ := q.sendQ ++ [p] }
  if (s.link x).sendQ.any fun w => w.vc == p.vc then wait s
  else if (s.link x).admits p then s.sendNow x p
  else wait (s.stall x p.vc)

/-- The bytes of a host-bound DATA payload (Table 9.10). -/
def HostFrame.payload (f : HostFrame) : Bytes := be 3 f.flow ++ be 1 f.colour ++ timeBytes f.stamp ++ [0, 0] ++ f.data

/-- The frames of a host-bound FIFO (R367). -/
def State.fifo (s : State) (x : Side) (vc : Nat) : List HostFrame := Store.get [] s.qm.fifos (x.n * 4 + vc)

/-- Changes a host-bound FIFO. -/
def State.setFifo (s : State) (x : Side) (vc : Nat) (l : List HostFrame) : State :=
  (s.setQm fun fld => { fld with fifos := Store.put [] s.qm.fifos (x.n * 4 + vc) l })

/-- What a FIFO holds, in bytes (R367). -/
def State.fifoBytes (s : State) (x : Side) (vc : Nat) : Nat := ((s.fifo x vc).map fun f => f.data.length + 32).sum

/-- A parcel of the device towards the host: DIR 0, its own device number (R412). -/
def State.upParcel (s : State) (type vc : Nat) (payload : Bytes) : Parcel :=
  { type := type, vc := vc, dir := 0, isLocal := false, devnum := s.rst.straps.devnum.val, bcast := false, lseq := 0,
    payload := payload }

/-- The frames of a FIFO leave it in order while its VC admits them (R367). -/
def State.drainFifo (s : State) (x : Side) (vc : Nat) : State :=
  (s.fifo x vc).foldl (fun s f =>
    let p := s.upParcel 1 vc f.payload
    if (s.link x).sendQ.any fun w => w.vc == vc then s
    else if (s.fifo x vc).head? = some f ∧ (s.link x).admits p then
      (s.setFifo x vc ((s.fifo x vc).drop 1)).sendNow x p
    else s.stall x vc) s

/-- An ACTIVE port whose credits are not frozen sends what waits, as far as credits and the replay buffer allow (R394,
R402, R405). -/
def State.drain (s : State) (x : Side) : State :=
  if s.pfState x ≠ pfActive ∨ (s.link x).frozen then s
  else
    let q := (s.link x).sendQ
    let s := q.foldl (fun s p => s.trySend x p) (s.setLink x fun q => { q with sendQ := [] })
    (List.range 4).foldl (fun s vc => s.drainFifo x vc) s

/-- Gives a parcel to a port to send. -/
def State.send (s : State) (x : Side) (p : Parcel) : State :=
  (s.setLink x fun q => { q with sendQ := q.sendQ ++ [p] }).drain x

/-- Sends a parcel of the device towards the host (R412). -/
def State.sendHost (s : State) (x : Side) (type vc : Nat) (payload : Bytes) : State := s.send x (s.upParcel type vc payload)

/-- The bytes of an event record (Table 1.10). -/
def Rec.bytes (r : Rec) : Bytes :=
  timeBytes r.stamp ++ be 2 r.source ++ be 2 r.type ++ be 1 r.flags ++ be 1 r.payload.length ++ r.payload

end Sys2Proof.Machine
end

