-- ==== Sys2Proof/Machine/FlowOps.lean ====
section
/-! DEFINITION. Flow contexts, the flow cache and the queues as stores (R341, R346, R348 to R350, R356 to R360). -/

namespace Sys2Proof.Machine

/-! ## Flow contexts (Table 8.1). The state part is bytes 16 to 63: offsets below count from byte 16. -/

/-- The cached copy of a flow's context (R349). -/
def State.cached (s : State) (f : Nat) : Option CacheLine := s.qm.cache.find? fun l => l.flow == f

/-- The state part of a flow: the cached copy when there is one (R350). -/
def State.flowState (s : State) (f : Nat) : Bytes :=
  match s.cached f with
  | some l => l.state
  | none => s.rdB Reg.FLOW_state 0 f

/-- Changes the state part of a flow; a cached context becomes modified (R350). -/
def State.setFlowState (s : State) (f : Nat) (b : Bytes) : State :=
  match s.cached f with
  | some _ => (s.setQm fun fld => { fld with cache := s.qm.cache.map fun l =>
      if l.flow = f then { l with state := b, modified := true } else l })
  | none => s.wrB Reg.FLOW_state 0 f b

/-- Adds k to the counter of n bytes at an offset; it wraps to 0 (R341). -/
def bump (i n k : Nat) (b : Bytes) : Bytes := patch b i (be n (uAt b i n + k))

/-- Adds k to a counter of a flow. -/
def State.bumpFlow (s : State) (f i n k : Nat) : State := s.setFlowState f (bump i n k (s.flowState f))

/-- Offsets of the fields of the state part. -/
def fsDownSeq : Nat := 0
def fsUpSeq : Nat := 2
def fsLastSeen : Nat := 4
def fsUpGaps : Nat := 14
def fsDownFrames : Nat := 16
def fsDownDrops : Nat := 20
def fsUpFrames : Nat := 24
def fsUpDrops : Nat := 28
def fsDownBytes : Nat := 32
def fsUpBytes : Nat := 40

/-- A downstream frame of a flow is discarded (R344). -/
def State.downDrop (s : State) (f : Nat) : State := s.bumpFlow f fsDownDrops 4 1

/-- An upstream frame of a flow is discarded (R345). -/
def State.upDrop (s : State) (f : Nat) : State := s.bumpFlow f fsUpDrops 4 1

/-- DOWN_SEQ and UP_SEQ of the 128 flows of a station are cleared (R348). -/
def State.clearSeq (s : State) (p : Port) (a : Nat) : State :=
  (List.range 128).foldl (fun s tag =>
    let f := flowNumber p.val a tag
    let b := s.flowState f
    if slice b 0 4 = [0, 0, 0, 0] then s else s.setFlowState f (patch b 0 [0, 0, 0, 0])) s

/-- A modified context goes back to memory and stays cached (R350). -/
def State.writeBack (s : State) (l : CacheLine) : State :=
  let s := s.wrB Reg.FLOW_state 0 l.flow l.state
  (s.setQm fun fld => { fld with cache := s.qm.cache.map fun x =>
      if x.flow = l.flow then { x with modified := false, writtenBack := s.now } else x })

/-- Every modified context goes back to memory (R350, Table 11.4 step 3). -/
def State.writeBackAll (s : State) : State :=
  (s.qm.cache.filter fun l => l.modified).foldl State.writeBack s

/-- A cached context is used: it becomes the most recently used one. -/
def State.useLine (s : State) (l : CacheLine) : State :=
  (s.setQm fun fld => { fld with cache := l :: s.qm.cache.filter fun x => x.flow ≠ l.flow })

/-- A context comes into the cache (R349): the least recently used of the eight ways of its set gives way, and is
written back when it is modified. -/
def State.fill (s : State) (f : Nat) : State :=
  let ways := s.qm.cache.filter fun l => l.flow % 4096 == f % 4096
  let s := match (if ways.length < 8 then none else ways.getLast?) with
    | none => s
    | some l =>
      let s := if l.modified then s.writeBack l else s
      (s.setQm fun fld => { fld with cache := s.qm.cache.filter fun x => x.flow ≠ l.flow })
  s.useLine { flow := f, modified := false, writtenBack := s.now, state := s.rdB Reg.FLOW_state 0 f }

/-- The flow a waiting frame belongs to. -/
def Waiter.flow : Waiter → Nat
  | .down f _ _ _ => f
  | .upFrame p h _ _ => flowNumber p.val h.src h.tag

/-- The arrival stamp of a frame. -/
def Waiter.stamp : Waiter → Stamp
  | .down _ _ t _ => t
  | .upFrame _ _ t _ => t

/-- The source a frame comes from (R352, Table 1.2): a Porfani port, or a line engine. -/
def Waiter.source : Waiter → Nat
  | .down _ x _ _ => 0x30 + x.n
  | .upFrame p _ _ _ => srcLine p

/-! ## Queues (R356, R357, R360) -/

/-- The frames of a queue, head first. -/
def State.queue (s : State) (q : Nat) : List QFrame := Store.get [] s.qm.queues q

/-- Changes the frames of a queue; the deficit of a queue that becomes empty becomes 0 (R362). -/
def State.setQueue (s : State) (q : Nat) (l : List QFrame) : State :=
  let s := s.setQm fun fld => { fld with queues := Store.put [] s.qm.queues q l }
  if l = [] then s.wr Reg.QUEUE_deficit 0 q 0 else s

/-- Changes the head of a queue. -/
def State.setHead (s : State) (q : Nat) (f : QFrame → QFrame) : State :=
  match s.queue q with
  | [] => s
  | h :: l => s.setQueue q (f h :: l)

/-- Plaintext bytes of a frame not yet sent. -/
def QFrame.left (f : QFrame) : Nat := f.data.length - f.sent

/-- Depth of a queue in bytes (R358). -/
def State.depth (s : State) (q : Nat) : Nat := ((s.queue q).map QFrame.left).sum

/-- Frees n frame buffers (R357). -/
def State.freeBuffers (s : State) (n : Nat) : State :=
  (s.setQm fun fld => { fld with buffersUsed := s.qm.buffersUsed - n })

/-- Buffers of the pool that are free (R357). -/
def State.poolFree (s : State) : Nat := 262144 - s.qm.buffersUsed

/-- Discards every frame of a queue (R360). -/
def State.flushQueue (s : State) (q : Nat) : State :=
  let l := s.queue q
  let s := l.foldl (fun s f => s.downDrop f.flow) s
  ((s.setQueue q []).freeBuffers l.length).inc Reg.QUEUE_FLUSHED 0 q l.length

/-- Discards every frame of the 128 queues of a port (R360). -/
def State.flushPort (s : State) (p : Port) : State :=
  (List.range 128).foldl (fun s i => if s.queue (p.val * 128 + i) = [] then s else s.flushQueue (p.val * 128 + i)) s

/-- A transmission of a queue whose last sample has left the port is over (R357, Table 8.3): its frame's last one
counts as sent and frees the frame's buffer. -/
def State.settle (s : State) (p : Port) : State :=
  match (s.port p).txQueue with
  | none => s
  | some q =>
    if s.now < (s.port p).txEnd then s
    else
      let s' := s.setPort p fun q => { q with txQueue := none, txLast := false }
      if (s.port p).txLast then (s'.freeBuffers 1).inc Reg.QUEUE_SENT 0 q else s'

end Sys2Proof.Machine
end

