-- ==== Sys2Proof/Machine/Release.lean ====
section
/-! DEFINITION. What several chapters undo or answer alike: Izvas responses, proxy requests answered for a station that
went away, a sounding engine given back. -/

namespace Sys2Proof.Machine

/-! ## Izvas responses (R431 to R441) -/

/-- Status codes of Table 10.7. -/
def stOk : Nat := 0x00
def stNoObject : Nat := 0x01
def stAccess : Nat := 0x02
def stRole : Nat := 0x03
def stRange : Nat := 0x04
def stLength : Nat := 0x05
def stState : Nat := 0x06
def stConflict : Nat := 0x07
def stBusy : Nat := 0x08
def stAuth : Nat := 0x09
def stDeviceUnreachable : Nat := 0x0A
def stFormat : Nat := 0x0B
def stNotStaged : Nat := 0x0C
def stStationUnreachable : Nat := 0x0D
def stNoAssociation : Nat := 0x0E
def stTimeout : Nat := 0x0F

/-- The 32 header bytes of a response (Table 10.4). -/
def IzResp.header (r : IzResp) : Bytes :=
  be 1 r.op ++ be 1 r.status ++ be 2 r.session ++ be 2 r.tag ++ be 2 r.index ++ be 1 r.sub ++ be 3 r.element
    ++ be 2 r.count ++ be 2 r.data.length ++ be 4 r.offset ++ (r.ext ++ List.replicate (6 - r.ext.length) 0).take 6
    ++ be 4 r.counter ++ [0, 0]

/-- The session of a session number of a message, 1 to 8. -/
def sessionNo (n : Nat) : Option SessionNo := if h : 1 ≤ n ∧ n ≤ 8 then some ⟨n - 1, by omega⟩ else none

/-- Puts a response into its DICT parcel (R431). -/
def State.reply (s : State) (r : IzResp) : State := (s.emit (.reply r)).sendHost r.side 0 0 (r.header ++ r.data ++ r.mac)

/-- Sends a response: a message of a session carries the MAC under the session's key and is kept for repeats (R433,
R438). A session that is no longer there gets none. -/
def State.respond (s : State) (r : IzResp) : State :=
  match sessionNo r.session with
  | none => s.reply r
  | some k =>
    let z := s.session k
    if z.phase = 0 then s
    else if r.op = 0x90 then s.reply r
    else
      let r := { r with mac := (hmacSha256 z.key (r.header ++ r.data)).take 16 }
      let s := s.setSession k fun z =>
        { z with kept := (r :: z.kept.filter fun x => x.tag ≠ r.tag).take 16 }
      s.reply r

/-- Answers a proxy request (R451): the response repeats the address of the request and its EXT. -/
def State.answerProxy (s : State) (p : Port) (q : Proxy) (status : Nat) (data : Bytes := []) : State :=
  s.respond { side := q.side, op := q.op + 0x80, status := status, session := q.session, tag := q.tag,
              index := 0x6000 + p.val, sub := q.a, element := 0, count := 1, offset := 0,
              ext := be 2 q.rIndex ++ be 1 q.rSub ++ be 3 q.rElement, counter := q.counter, data := data, mac := [] }

/-- PROXY_UNREACHABLE (R451): every request queued for, or outstanding to, a station that `sel` picks is answered
STATION_UNREACHABLE. -/
def State.failProxies (s : State) (p : Port) (sel : Nat → Bool) : State :=
  let q := s.port p
  let outs := q.outstanding.filter fun o => sel o.proxy.a
  let waits := q.proxies.filter fun x => sel x.a
  let s := s.setPort p fun q =>
    { q with proxies := q.proxies.filter fun x => !sel x.a, outstanding := q.outstanding.filter fun o => !sel o.proxy.a }
  let s := outs.foldl (fun s o => (s.disarm (.mgmt p.val o.proxy.a)).answerProxy p o.proxy stStationUnreachable) s
  waits.foldl (fun s x => s.answerProxy p x stStationUnreachable) s

/-! ## Sounding (R258, R174) -/

/-- The engine that serves a port goes back to the free engines; what was being swept ends there. -/
def State.freeEngine (s : State) (p : Port) : State :=
  if (s.port p).sound.engine = none then s
  else
    let s := s.setSound p fun q => { q with engine := none, band := none, setup := false, focusOn := false }
    s.wr Reg.LR_STATUS_engine p 0 0xFF

end Sys2Proof.Machine
end

