-- ==== Sys2Proof/Machine/EchoOps.lean ====
section
/-! DEFINITION. The canceller, the equalisers, published tap sets and the echo-path monitor: the operations that the
commands of chapters 04 and 06 share (R164 to R205, R277 to R284). -/

namespace Sys2Proof.Machine

/-- Counts an event of a port's frame and echo counters: they count in SERVICE and QUIET only (Tables 3.15, 4.7). -/
def State.cntLine (s : State) (p : Port) (o : Obj) (n : Int := 1) : State :=
  if s.portState p = stService ∨ s.portState p = stQuiet then s.inc o p 0 n else s

/-- Counts an event of a port's sounding counters: DISCOVER, SERVICE and QUIET (Table 6.7). -/
def State.cntSound (s : State) (p : Port) (o : Obj) (n : Int := 1) : State :=
  if s.portState p = stDiscover ∨ s.portState p = stService ∨ s.portState p = stQuiet then s.inc o p 0 n else s

/-! ## The canceller (R164 to R173, Table 4.6) -/

/-- Canceller and equaliser states (Table 4.4, R185). -/
def ecCleared : Int := 0
def ecTraining : Int := 1
def ecTracking : Int := 2
def ecQuiet : Int := 3

/-- Nanoseconds of a canceller block (R164). -/
def blockNs : Stamp := 384000

/-- The canceller goes to TRAINING from its current taps; one that is CLEARED stays so until the port transmits (R168,
Table 4.6). -/
def State.ecTrain (s : State) (p : Port) : State :=
  if s.rd Reg.LP_EC_state p = ecCleared then s
  else (s.wr Reg.LP_EC_state p 0 ecTraining).setEc p fun q =>
    { q with erles := [], refMax := none, trainBlocks := 0, snap := none, collected := [], collIn := 0, collRes := 0 }

/-- The canceller enters CLEARED: its taps become 0, its grid ends, GENERATION increments (R164, R168, R177). DESIGN CHOICE
(log entry 197): a clearing event that finds it CLEARED already increments GENERATION as well; the spec does not say whether
it enters CLEARED then. -/
def State.ecClear (s : State) (p : Port) : State :=
  let s := (s.wr Reg.LP_EC_state p 0 ecCleared).wr Reg.LP_QUIET_retrain_pending p 0 0
  s.setEc p fun q => { generation := (q.generation + 1) % 4294967296, frozen := q.frozen, freezeEnd := q.freezeEnd,
                       refTaps := q.refTaps, refGen := q.refGen, noise := q.noise, noiseAt := q.noiseAt }

/-- EC_LEAVE_CLEARED (R168, R164): the first transmission of a port whose pre-distorter is not training takes a CLEARED
canceller to TRAINING and starts its block grid. -/
def State.ecLeaveCleared (s : State) (p : Port) : State :=
  if s.rd Reg.LP_EC_state p = ecCleared ∧ s.rd Reg.LP_DPD_state p ≠ 1 then
    (s.wr Reg.LP_EC_state p 0 ecTraining).setEc p fun q =>
      { q with grid := some s.time.mono, erles := [], refMax := none, trainBlocks := 0 }
  else s

/-- ERLE of n blocks in 0.1 dB (R178): input power, output power, with P_n over its own blocks taken as a mean power per
block; at most 70.0 dB. -/
def erleOf (pIn pRes n : Nat) (noise : List Nat) : Int :=
  let k := max 1 noise.length
  let a := pIn * k * 10000000
  let r := max ((pRes * k - noise.sum * n) * 10000000) (pIn * k)
  if r ≤ a then (decibels 700 a r : Nat) else -(decibels 700 r a : Nat)

/-- P_n of R178: the silent blocks, when the latest lies within the last 10 s. -/
def State.ecNoise (s : State) (p : Port) : List Nat :=
  let q := (s.port p).ec
  match q.noiseAt with
  | some t => if s.now - t ≤ 10000000000 then q.noise else []
  | none => []

/-- w − 2^−e · (w − w_snap), rounded to the nearest (R197). -/
def leak (e : Nat) (w snap : Int) : Int := w - roundDiv (w - snap) (2 ^ e)

/-- Leakage of a filter towards its snapshot (R197). -/
def leakAll (e : Nat) (w snap : List (Int × Int)) : List (Int × Int) :=
  w.zipIdx.map fun (x, i) => let y := snap.getD i (0, 0); (leak e x.1 y.1, leak e x.2 y.2)

/-- A filter value of 16 bits (R166, R182). -/
def clamp16 (v : Int) : Int := clamp (-32767) 32767 v

/-- The taps 0 to L − 1 of a filter held as a list. -/
def tapsOf (l : Nat) (w : List (Int × Int)) : List (Int × Int) := (List.range l).map fun i => w.getD i (0, 0)

/-- Taps with their increments, each part clamped to ±32,767 (R166, R169 step 4). -/
def addTaps (l : Nat) (w g : List (Int × Int)) : List (Int × Int) :=
  (List.range l).map fun i =>
    let x := w.getD i (0, 0)
    let y := g.getD i (0, 0)
    (clamp16 (x.1 + y.1), clamp16 (x.2 + y.2))

/-- A tap as a U32: real part in [31:16], imaginary part in [15:0] (Table 4.5, R182). -/
def tapWord (x : Int × Int) : Nat := (x.1 % 65536).toNat * 65536 + (x.2 % 65536).toNat

/-! ## Equalisers (R182 to R187, R198) -/

/-- EQ_CLEAR (R187): the equaliser of a station returns to CLEARED, its MER to 0 and its SNR to unknown. -/
def State.eqClear (s : State) (p : Port) (a : Nat) : State :=
  let s := ((s.wr Reg.LP_EQ_state p a ecCleared).wr Reg.LP_EQ_MER p a 0).wrB Reg.LP_EQ_allotment_SNR p a
    (List.replicate 64 0xFF)
  (s.wrB Reg.LP_EQ_points p a []).setEq p a fun _ => {}

/-- Gives a station's equaliser its points. -/
def State.setPoints (s : State) (p : Port) (a : Nat) (w : List (Int × Int)) : State :=
  (s.setEq p a fun q => { q with points := w }).wrB Reg.LP_EQ_points p a
    ((tapsOf 256 w).flatMap fun x => be 4 (tapWord x))

/-- The addresses whose LP_STATION element a predicate of its state picks, ascending. -/
def State.stationsBy (s : State) (p : Port) (f : Int → Bool) : List Nat :=
  ((List.range 255).drop 1).filter fun a => f (s.rd Reg.LP_STATION_state p a)

/-- The registered stations of a port (R590). -/
def State.registered (s : State) (p : Port) : List Nat := s.stationsBy p fun x => decide (x ≠ 0)

/-- One SNR byte folded in with weight 1/8 (R186); an unknown old value takes the new one. -/
def foldSnr (old new : Nat) : Nat :=
  if new = 255 then old else if old = 255 then new else (roundDiv (7 * (old : Int) + new) 8).toNat

/-- EQ_MER_UPDATE (R186): MER and per-allotment SNR of a frame whose CRC-32 holds. -/
def State.eqMer (s : State) (p : Port) (a : Nat) (mer : Int) (snr : List Nat) : State :=
  let old := s.rdB Reg.LP_EQ_allotment_SNR p a
  let new : Bytes := (List.range 64).map fun g => BitVec.ofNat 8 (foldSnr (uAt old g 1) (snr.getD g 255))
  (s.wr Reg.LP_EQ_MER p a mer).wrB Reg.LP_EQ_allotment_SNR p a new

/-- The observations of a frame that its station's equaliser learns from (R184): a frame whose CRC-32 fails contributes only
its sync run, header and pilots. -/
def learned (obs : List EqPoint) (crcOk : Bool) : List EqPoint := obs.filter fun x => crcOk || x.source != .payload

/-- x · conj(y). -/
def mulConj (x y : Int × Int) : Int × Int := (x.1 * y.1 + x.2 * y.2, x.2 * y.1 - x.1 * y.2)

/-- The points after the update of one frame (R185): e[p] += err · conj(y)/(pwr + eps) · 2^−step with err = ref − e[p]
· y, in units of 2⁻¹², each part rounded to the nearest. -/
def eqUpdate (step : Nat) (points : List (Int × Int)) (obs : List EqPoint) : List (Int × Int) :=
  obs.zipIdx.foldl (fun w (x, i) =>
    let e := w.getD x.point (0, 0)
    let ey : Int × Int := (e.1 * x.y.1 - e.2 * x.y.2, e.1 * x.y.2 + e.2 * x.y.1)
    let g := mulConj (4096 * x.ref.1 - ey.1, 4096 * x.ref.2 - ey.2) x.y
    let pwr := Config.eqNorm (((obs.take (i + 1)).filter fun z => z.point == x.point).map (·.y))
    w.set x.point (clamp16 (e.1 + roundDiv g.1 (pwr * 2 ^ step)),
        clamp16 (e.2 + roundDiv g.2 (pwr * 2 ^ step)))) (tapsOf 256 points)

/-- The points a first frame gives directly (R185), in units of 2⁻¹²: at each point the mean of its sync run's chirps in the
long form, of its header in the grant form (R184). A point it shows nothing of stays 0. -/
def eqDirect (long : Bool) (obs : List EqPoint) : List (Int × Int) :=
  (List.range 256).map fun p =>
    let seen := obs.filter fun x => x.point == p && x.source == (if long then .sync else .header)
    let num := seen.map fun x => mulConj x.ref x.y
    let pw (x : EqPoint) : Int := x.y.1 * x.y.1 + x.y.2 * x.y.2
    let den := (seen.map pw).sum.toNat
    (clamp16 (roundDiv (4096 * (num.map (·.1)).sum) den), clamp16 (roundDiv (4096 * (num.map (·.2)).sum) den))

/-- An equaliser in TRAINING that has its frames without error enters TRACKING (R185). On a port in QUIET it takes its
snapshot there (R198), and DESIGN CHOICE (log entry 198): it is in state QUIET from then on, where the spec says that
QUIET follows at quiet entry only. -/
def State.eqTrained (s : State) (p : Port) (a : Nat) : State :=
  if (s.eq p a).frames < s.rdN Reg.LP_EQ_CTL_training_frames p then s
  else if s.portState p = stQuiet then
    (s.setEq p a fun q => { q with snap := some q.points }).wr Reg.LP_EQ_state p a ecQuiet
  else s.wr Reg.LP_EQ_state p a ecTracking

/-- An equaliser takes points that a frame taught it, stamped with that frame (R185). -/
def State.eqTake (s : State) (p : Port) (a : Nat) (f : LineRx) (w : List (Int × Int)) : State :=
  (s.setPoints p a w).wr Reg.LP_EQ_stamp p a f.sync

/-- EQ_FRAME_UPDATE (R184, R185): what a frame of a registered station whose header passed teaches an equaliser that
is not in state QUIET; nothing during a freeze (R174). What it learns applies from the station's next frame on (R183). -/
def State.eqFrame (s : State) (p : Port) (a : Nat) (long : Bool) (f : LineRx) (crcOk : Bool) : State :=
  let st := s.rd Reg.LP_EQ_state p a
  let upd (o : Obj) := eqUpdate (s.rdN o p) (s.eq p a).points (learned f.obs crcOk)
  if (s.port p).ec.frozen ∨ s.rd Reg.LP_STATION_state p a = 0 then s
  else if st = ecCleared then
    (((s.eqTake p a f (eqDirect long f.obs)).setEq p a fun q => { q with frames := b2n crcOk }).wr
      Reg.LP_EQ_state p a ecTraining).eqTrained p a
  else if st = ecTraining then
    ((s.eqTake p a f (upd Reg.LP_EQ_CTL_training_step)).setEq p a fun q => { q with frames := q.frames + b2n crcOk }).eqTrained
      p a
  else if st = ecTracking then s.eqTake p a f (upd Reg.LP_EQ_CTL_tracking_step)
  else s

/-- A frame other than a REFRESH teaches its station's equaliser, but in QUIET none does (R196). -/
def State.eqHeard (s : State) (p : Port) (a : Nat) (long : Bool) (f : LineRx) (crcOk : Bool) : State :=
  if s.portState p = stQuiet then s else s.eqFrame p a long f crcOk

/-! ## The drift test (R199) -/

/-- A refresh cycle in which a gate failed: how many cycles in a row have (R202), given that of the latest before it. -/
def failRun (fails failed cycle : Nat) : Nat := if failed + 1 = cycle then fails + 1 else 1

/-- The octave of a band that point q of the 256-point grid lies in, q from −128 to 127 (R199, R182): octave j covers the
frequencies from f_lo · 2^j up to f_lo · 2^(j+1), f_lo = fc − B/2. Frequencies in units of 1/256 Hz. -/
def octaveOf (b : Band) (q : Int) : Option Nat :=
  let w : Int := (b.kHz * 1000 : Nat)
  let f : Int := (b.centre * 15625 * 256 : Nat) + q * w
  let lo : Int := (b.centre * 15625 * 256 : Nat) - 128 * w
  lowest 16 fun j => decide (lo * 2 ^ j ≤ f ∧ f < lo * 2 ^ (j + 1))

/-- The frequency of point p of the grid as a multiple of B/256 from fc (R182). -/
def gridOffset (p : Nat) : Int := if p < 128 then p else (p : Int) - 256

/-- The mean of |H|² over an octave as a sum; now and in the snapshot the octave has the same points (R199). -/
def octavePower (b : Band) (h : List Nat) (j : Nat) : Nat :=
  ((h.zipIdx.filter fun x => octaveOf b (gridOffset x.2) == some j).map (·.1)).sum

/-- |10·log10(now/snapshot)| exceeds a limit of 0.1 dB units (R199); equal to it, it does not. -/
def driftBeyond (limit now snap : Nat) : Bool :=
  decide (snap ^ 100 * 10 ^ limit < now ^ 100 ∨ now ^ 100 * 10 ^ limit < snap ^ 100)

/-- The lowest octave in which a filter has drifted: |H|² on the grid now, and in its snapshot (R199). -/
def driftOctave (b : Band) (limit : Nat) (now snap : List Nat) : Option Nat :=
  lowest 16 fun j => driftBeyond limit (octavePower b now j) (octavePower b snap j)

/-- |H|² of an equaliser: its 256 points (R199). -/
def pointPowers (w : List (Int × Int)) : List Nat := (tapsOf 256 w).map fun x => (x.1 * x.1 + x.2 * x.2).toNat

/-- The taps zero-padded or folded to the 256-point grid (R199): taps 256 apart fall together. -/
def foldTaps (w : List (Int × Int)) : List (Int × Int) :=
  (List.range 256).map fun r =>
    let l := (w.zipIdx.filter fun x => x.2 % 256 == r).map (·.1)
    ((l.map (·.1)).sum, (l.map (·.2)).sum)

/-- |H|² of the canceller: the 256-point DFT of its taps (R199). -/
def tapPowers (w : List (Int × Int)) : List Nat := Config.tapSpectrum (foldTaps w)

/-- QUIET_SNAPSHOT (R198): at quiet entry a TRACKING canceller and every TRACKING equaliser is snapshotted and enters
QUIET; one in CLEARED or TRAINING goes on until it has trained. DESIGN CHOICE (log entry 199): a canceller that is CLEARED
then takes no snapshot either, though R198 names only one in TRAINING; it trains first, like an equaliser in CLEARED. -/
def State.quietSnapshot (s : State) (p : Port) : State :=
  let s := s.wr Reg.LP_QUIET_snapshot_stamp p 0 s.now
  let s := if s.rd Reg.LP_EC_state p = ecTracking then
      (s.wr Reg.LP_EC_state p 0 ecQuiet).setEc p fun q => { q with snap := some q.taps, gateFails := 0 }
    else s
  (s.registered p).foldl (fun s a =>
    if s.rd Reg.LP_EQ_state p a = ecTracking then
      (s.wr Reg.LP_EQ_state p a ecQuiet).setEq p a fun q => { q with snap := some q.points, gateFails := 0 }
    else s) s

/-- The port leaves QUIET (R203): filters in QUIET enter TRACKING and the snapshots are discarded; a scheduled retrain
stays scheduled. -/
def State.leaveQuiet (s : State) (p : Port) : State :=
  let s := if s.rd Reg.LP_EC_state p = ecQuiet then s.wr Reg.LP_EC_state p 0 ecTracking else s
  let s := s.setEc p fun q => { q with snap := none, collected := [], collIn := 0, collRes := 0, gateFails := 0 }
  (s.registered p).foldl (fun s a =>
    let s := if s.rd Reg.LP_EQ_state p a = ecQuiet then s.wr Reg.LP_EQ_state p a ecTracking else s
    s.setEq p a fun q => { q with snap := none, gateFails := 0, relearn := false }) s

/-! ## The echo-path monitor and focused soundings (R277 to R284) -/

/-- The mapped length of a port in cells (R256). -/
def State.mapped (s : State) (p : Port) : Nat := s.rdN Reg.LR_CTL_mapped_length p

/-- Velocity times 1 m/s over the bandwidth: the cell in which 2 · position / B of a tap lies (R281); `half` counts
half taps, 2d − 1 or 2d + 1. -/
def State.tapCell (s : State) (p : Port) (half : Int) : Nat :=
  ((s.rd Reg.LR_VELOCITY_velocity p * half) / ((s.port p).band.kHz * 1000 : Nat)).toNat

/-- The cells of tap d (R281), limited to the mapped length. -/
def State.tapSpan (s : State) (p : Port) (d : Nat) : Nat × Nat :=
  let top := s.mapped p - 1
  (min top (s.tapCell p (2 * d - 1)), min top (s.tapCell p (2 * d + 1)))

/-- Sets or clears a flag bit of a cell, as a whole-cell write (R257). -/
def State.flagCell (s : State) (p : Port) (i b : Nat) (v : Bool) : State :=
  s.wr Reg.CELL_MAP p i (setBit (s.cell p i) b v : Nat)

/-- Sets or clears a flag bit on the cells lo to hi. -/
def State.flagCells (s : State) (p : Port) (lo hi b : Nat) (v : Bool) : State :=
  ((List.range (hi + 1)).drop lo).foldl (fun s i => s.flagCell p i b v) s

/-- A request for a focused sounding of the cells lo to hi (R283, R284): it widens the one pending, or becomes pending
until 10 s from now. -/
def State.requestFocus (s : State) (p : Port) (lo hi : Nat) : State :=
  match (s.port p).sound.focus with
  | some f => s.setSound p fun q => { q with focus := some { f with lo := min f.lo lo, hi := max f.hi hi } }
  | none => ((s.setSound p fun q => { q with focus := some { lo := lo, hi := hi } }).arm (.focus p.val)
      (s.now + 10000000000)).wr Reg.LR_FOCUS_pending p 0 1

/-- The span a centred request covers: the centre and the half-span of LR_FOCUS /03, widened to the alerting cells
(R283). -/
def State.focusAbout (s : State) (p : Port) (centre lo hi : Nat) : State :=
  let h := s.rdN Reg.LR_FOCUS_half_span p
  s.requestFocus p (min lo (centre - h)) (max hi (min (s.mapped p - 1) (centre + h)))

/-- An ECHO_ALERT record (Table 6.6). -/
def State.echoAlert (s : State) (p : Port) (kind tap lo hi delta : Nat) : State :=
  (s.issue (srcLine p) 0x0603 (be 1 p.val ++ be 1 kind ++ be 2 tap ++ be 4 lo ++ be 4 hi ++ be 2 delta ++ [0, 0]
    ++ be 4 (s.port p).ec.generation)).cntSound p Reg.LR_EPM_ALERTS

/-- δ of a tap against the reference (R279), in whole 2^−15, with the factor (2^l + 2^s)/2^l of Table 6.4 in QUIET. -/
def tapDelta (num den : Nat) (x y : Int × Int) : Nat :=
  let m := ((x.1 - y.1) * (x.1 - y.1) + (x.2 - y.2) * (x.2 - y.2)).toNat
  (isqrt (4 * m * num * num) / den + 1) / 2

/-- Runs of adjacent numbers of an ascending list, as first and last. -/
def runsOf : List Nat → List (Nat × Nat)
  | [] => []
  | d :: l =>
    match runsOf l with
    | (lo, hi) :: r => if d + 1 = lo then (d, hi) :: r else (d, d) :: (lo, hi) :: r
    | [] => [(d, d)]

/-- Takes the published taps as the monitor's reference (R277). -/
def State.takeReference (s : State) (p : Port) (w : List (Int × Int)) : State :=
  ((s.setEc p fun q => { q with refTaps := some w, refGen := q.generation, exceeded := [] }).wr
    Reg.LR_EPM_reference_stamp p 0 (s.rd Reg.LP_EC_PUB_stamp p)).wr Reg.LR_EPM_reference_generation p 0
      (s.rd Reg.LP_EC_PUB_generation p)

/-- The monitor drops its reference (R277): at each change of the last. -/
def State.dropReference (s : State) (p : Port) : State :=
  s.setEc p fun q => { q with refTaps := none, exceeded := [] }

/-- ECHO_ALERT (R279, R283): for each run of alerting taps a record that names its largest δ, the flag on its cells,
which reaches them in a cell-map slot (R176), and a focused sounding about the middle of the alerting tap's cells; the
set w becomes the reference. -/
def State.alertTaps (s : State) (p : Port) (w : List (Int × Int)) (deltas : List Nat) (taps : List Nat) : State :=
  let s := (runsOf taps).foldl (fun s (a, b) =>
    let worst := ((List.range (b + 1)).drop a).foldl (fun w d => if deltas.getD w 0 < deltas.getD d 0 then d else w) a
    let lo := (s.tapSpan p a).1
    let hi := (s.tapSpan p b).2
    let c := s.tapSpan p worst
    let s := s.echoAlert p 0 worst lo hi (deltas.getD worst 0)
    (s.setSound p fun q => { q with marks := q.marks ++ [(lo, hi)] }).focusAbout p ((c.1 + c.2) / 2) lo hi) s
  s.takeReference p w

/-- What published sets have flagged on the cell map reaches it, in a cell-map slot (R176, R257). -/
def State.markCells (s : State) (p : Port) : State :=
  let l := (s.port p).sound.marks
  l.foldl (fun s x => s.flagCells p x.1 x.2 5 true) (s.setSound p fun q => { q with marks := [] })

/-- EPM_COMPARE (R278, Table 6.4): the monitor treats the set w just published by the first row that applies. DEDUCED (log
entry 214): every set it does not compare counts, those without a reference too, and the one that becomes it. -/
def State.epmCompare (s : State) (p : Port) (w : List (Int × Int)) : State :=
  let flags := s.rdN Reg.LP_EC_PUB_flags p
  let clean := s.rd Reg.LP_EC_PUB_state p = ecTracking ∧ flags = 0
  let q := (s.port p).ec
  if !s.flag Reg.LR_EPM_enable p then s
  else match q.refTaps with
  | none =>
    let s := s.cntSound p Reg.LR_EPM_IGNORED
    if clean then s.takeReference p w else s
  | some ref =>
    if q.generation ≠ q.refGen then
      let s := (s.cntSound p Reg.LR_EPM_IGNORED).dropReference p
      if clean then s.takeReference p w else s
    else if bit flags 4 ∨ s.rd Reg.LP_EC_PUB_ERLE p < 5 * s.rd Reg.LR_EPM_ERLE_floor p then
      s.cntSound p Reg.LR_EPM_IGNORED
    else
      let l := (s.port p).band.taps
      let st := s.rdN Reg.LP_EC_quiet_step p
      let lk := s.rdN Reg.LP_EC_quiet_leakage p
      let f := if bit flags 3 ∨ bit flags 1 then (1, 1) else if bit flags 2 then (2 ^ lk + 2 ^ st, 2 ^ lk) else (1, 1)
      let deltas := (List.range l).map fun d => tapDelta f.1 f.2 (w.getD d (0, 0)) (ref.getD d (0, 0))
      let s := s.wrB Reg.LR_EPM_profile p 0 (deltas.flatMap fun d => be 2 (min d 65535))
      let above := ((List.range l).drop (s.port p).band.perUs).filter fun d =>
        decide (s.rdN Reg.LR_EPM_threshold p ≤ deltas.getD d 0)
      if bit flags 3 then
        if above = [] then s else s.alertTaps p w deltas above
      else if bit flags 1 then s
      else
        let hit := above.filter fun d => q.exceeded.contains d
        if hit = [] then s.setEc p fun q => { q with exceeded := above } else s.alertTaps p w deltas hit

/-! ## Publication (R175, R176) and restore (R200, R201) -/

/-- The taps that a set published now holds (R176): as they were used in the block that ends now, before its own update; the
drifted taps of R200 are the live ones. -/
def State.setTaps (s : State) (p : Port) (drift : Bool) : UsedTaps :=
  let q := (s.port p).ec
  let live : UsedTaps := ⟨s.time.mono, q.taps, q.updatedSincePub, q.restored, false⟩
  match q.used with
  | some u => if u.at' = s.time.mono ∧ !drift then u else live
  | none => live

/-- A tap set is published: Table 4.5 with the taps of R176; the monitor compares it. -/
def State.publish (s : State) (p : Port) (drift : Bool) : State :=
  let q := (s.port p).ec
  let u := s.setTaps p drift
  let st := s.rd Reg.LP_EC_state p
  let flags := b2n (st = ecTraining) + 2 * b2n (!u.updated) + 4 * b2n (st = ecQuiet) + 8 * b2n drift
    + 16 * b2n u.restored
  let s := s.wr Reg.LP_EC_PUB_stamp p 0 s.now
  let s := s.wr Reg.LP_EC_PUB_generation p 0 q.generation
  let s := s.wr Reg.LP_EC_PUB_flags p 0 flags
  let s := s.wr Reg.LP_EC_PUB_state p 0 st
  let s := s.wr Reg.LP_EC_PUB_ERLE p 0 (s.rd Reg.LP_EC_ERLE p)
  let s := s.wrB Reg.LP_EC_PUB_taps p 0 ((tapsOf (s.port p).band.taps u.taps).flatMap fun x => be 4 (tapWord x))
  (s.epmCompare p u.taps).setEc p fun q => { q with updatedSincePub := u.adapted }

/-- EC_DRIFT_RESTORE (R200): the drifted taps are published, the snapshot restored, a retrain scheduled, a NOTICE
logged. -/
def State.ecDriftRestore (s : State) (p : Port) (octave : Nat) : State :=
  let s := s.publish p true
  let s := s.setEc p fun q => { q with taps := q.snap.getD q.taps, restored := true, retrainScheduled := true,
                                       collected := [], collIn := 0, collRes := 0, gateFails := 0 }
  let s := s.wr Reg.LP_QUIET_retrain_pending p 0 1
  (s.raiseLine p 0x06 octave).cntLine p Reg.LP_QUIET_EC_DRIFT

/-- EQ_DRIFT_RESTORE (R201): the equaliser takes its snapshot back, and the station's next good REFRESH applies at the
training step. -/
def State.eqDriftRestore (s : State) (p : Port) (a : Nat) : State :=
  let w := (s.eq p a).snap.getD (s.eq p a).points
  ((s.setPoints p a w).setEq p a fun q => { q with relearn := true, gateFails := 0 }).cntLine p Reg.LP_QUIET_EQ_DRIFT

/-- Training ends (R172, R198, R200): in QUIET the canceller takes a snapshot and enters QUIET, elsewhere TRACKING; a
retrain that was scheduled is over, its flag clears, and a set is published. `best` is the measurement that ended it. -/
def State.ecTrainingEnds (s : State) (p : Port) (best : Option Int) : State :=
  let retrain := (s.port p).ec.retraining
  let quiet := decide (s.portState p = stQuiet)
  let s := s.wr Reg.LP_EC_state p 0 (if quiet then ecQuiet else ecTracking)
  let s := s.setEc p fun q => { q with erles := [], refMax := best, trainBlocks := 0, gateFails := 0,
                                       snap := if quiet then some q.taps else none,
                                       retrainScheduled := q.retrainScheduled && !retrain, retraining := false }
  if retrain then (s.wr Reg.LP_QUIET_retrain_pending p 0 0).publish p false else s

end Sys2Proof.Machine
end

