-- ==== Sys2Proof/Machine/Lines.lean ====
section
/-! DEFINITION. Operations of a line port that chapters 03, 05, 07, 12 and 13 share: port states, registrations, frames
built and sent, frames checked on reception, reassembly, protection. -/

namespace Sys2Proof.Machine

/-! ## Sending (R63, R101, R107, R112, R113, R142) -/

/-- The line of the port is free: none of its transmissions is on it. -/
def State.lineFree (s : State) (p : Port) : Bool := decide ((s.port p).txEnd ≤ s.now)

/-- The line engine's apply point of R48: the port is neither transmitting nor receiving a frame. -/
def State.atApplyPoint (s : State) (p : Port) : Bool := s.lineFree p && (s.port p).held.isNone

/-- Spans of mono time that reach into the block of the canceller that ends now, or later ones (R170). -/
def State.recent (s : State) (l : List (Stamp × Stamp)) : List (Stamp × Stamp) :=
  l.filter fun x => decide (s.time.mono - blockNs < x.2)

/-- The port puts a transmission on its line from now on for d ns: the canceller may leave CLEARED (R168), and training
of the pre-distorter counts it in a DOWN window and in QUIET (R97). -/
def State.occupy (s : State) (p : Port) (d : Stamp) (kind : TxKind := .frame) : State :=
  let s := (s.settle p).ecLeaveCleared p
  let counts := s.rd Reg.LP_DPD_state p = 1 ∧ (winType (s.curWindow p) = wDown ∨ winType (s.curWindow p) = wQuiet)
  s.setPort p fun q => { q with txStart := s.now, txEnd := s.now + d, txKind := kind, txQueue := none, txLast := false,
                                txSpans := (s.time.mono, s.time.mono + d) :: s.recent q.txSpans,
                                dpd := if counts then { q.dpd with txTime := q.dpd.txTime + d, counted := s.now + d }
                                  else q.dpd }

/-- How the driver of a port shapes what it sends now (R85, R88, R89, R94). -/
def State.shaping (s : State) (p : Port) : Shaping :=
  ⟨s.rdN Reg.LP_TX_wiring p, s.rdN Reg.LP_TX_impedance p, s.rdB Reg.LP_FIR p, (s.calInForce p).coefficients⟩

/-- The driver clips at 4.0 V peak, which is 8.0 V peak-to-peak (R87): a sample in µV as it leaves it. -/
def clipped (v : Int) : Int := clamp (-4000000) 4000000 v

/-- The samples of a transmission that the driver clips (R87): kind is what it is and, of a frame, its header word and
allotments, of a burst its symbols. -/
def State.clips (s : State) (p : Port) (kind : List Nat) (payload : Bytes) : Nat :=
  let b := (s.port p).band
  let x := s.shaping p
  ((Config.driverSamples (kind ++ [b.bw, b.n, b.prefixCode, b.centre]) (s.rd Reg.LP_TX_effective p) payload x.fir x.dpd).filter
    fun v => decide (clipped v ≠ v)).length

/-- The port sends something for d ns from now on: it goes out, and LP_TX /04 counts its clipped samples (R87). -/
def State.transmit (s : State) (p : Port) (d : Stamp) (k : TxKind) (o : Out) (kind : List Nat) (payload : Bytes) : State :=
  ((s.occupy p d k).emit o).inc Reg.LP_TX_clips p 0 (s.clips p kind payload : Nat)

/-- A scrambler seed: any value of 23 bits but 0 (R74); the spec does not say which, so it is a free value. -/
def State.seed (s : State) : Nat × State :=
  let (v, t) := s.free 8388607
  (v + 1, t)

/-- A long-form frame of a port that starts now, at the level in use (R86). -/
def State.longFrame (s : State) (p : Port) (h : Header) (payload : Bytes) : TxFrame :=
  let b := (s.port p).band
  { start := s.now, long := true, band := b, allot := 2 ^ 64 - 1, header := h, payload := payload,
    level := s.rd Reg.LP_TX_effective p, finish := s.now + airLong b h.pace payload.length, shaping := some (s.shaping p) }

/-- Sends a long-form frame from now on under a seed (R101, R107): its LENGTH is that of its payload. -/
def State.sendSeeded (s : State) (p : Port) (seed : Nat) (h : Header) (payload : Bytes) : State :=
  let f := s.longFrame p { h with seed := seed, length := payload.length } payload
  s.transmit p (f.finish - f.start) .frame (.frame p f) [0, f.header.word] payload

/-- Sends a long-form frame from now on, with a seed drawn for it (R73, R74). -/
def State.sendFrame (s : State) (p : Port) (h : Header) (payload : Bytes) : State :=
  let (seed, s) := s.seed
  s.sendSeeded p seed h payload

/-- A header of the device: SRC 0, green, unprotected, whole. -/
def downHeader (dst type pace : Nat) : Header :=
  { ver := 0, dst := dst, src := 0, type := type, pace := pace, length := 0, colour := 0, sa := 0, seed := 1, tag := 0,
    frag := 0, fragNo := 0, seq := 0 }

/-- Frame types of Table 3.3. -/
def tyData : Nat := 0
def tyMgmt : Nat := 1
def tyBeacon : Nat := 2
def tyReg : Nat := 3
def tyRange : Nat := 4
def tyGrant : Nat := 5
def tyRefresh : Nat := 6

/-- The next SEQ of a destination and TAG of a port, and the state that has taken it (R112). -/
def State.takeSeq (s : State) (p : Port) (dst tag : Nat) : Nat × State :=
  let v := Store.get 0 (s.port p).mgmtSeq (dst * 128 + tag)
  (v, s.setPort p fun q => { q with mgmtSeq := Store.put 0 q.mgmtSeq (dst * 128 + tag) ((v + 1) % 4096) })

/-! ## Protection (R140 to R145) -/

/-- The lowest-numbered ACTIVE association of a port bound to a station (R451). -/
def State.associationOf (s : State) (p : Port) (a : Nat) : Option Nat :=
  lowest 256 fun e => decide (1 ≤ e) && decide (s.rd Reg.LP_SA_state p e = 1 ∧ s.rd Reg.LP_SA_station p e = a)

/-- The nonce of Table 3.14. -/
def ccmNonce (up : Bool) (h : Header) (pn : Nat) : Bytes :=
  be 1 (b2n up) ++ be 1 h.src ++ be 1 h.dst ++ be 1 h.sa ++ be 6 pn ++ [0, 0, 0]

/-- An association can protect another frame: its packet numbers are not used up (R142). -/
def State.canProtect (s : State) (p : Port) (sa : Nat) : Bool := decide (s.rd Reg.LP_SA_transmit_PN p sa < 281474976710655)

/-- The payload of a protected downstream frame (R140): PN, ciphertext, MIC; the PN is used. -/
def State.protect (s : State) (p : Port) (h : Header) (plain : Bytes) : Bytes × State :=
  let pn := s.rdN Reg.LP_SA_transmit_PN p h.sa + 1
  let h := { h with length := plain.length + 14 }
  (be 6 pn ++ ccmEncrypt (s.rdB Reg.LP_SA_key p h.sa) (ccmNonce false h pn) (be 14 h.high) plain,
   s.wr Reg.LP_SA_transmit_PN p h.sa pn)

/-- Sends a frame of the device, protected when its header names an association. The seed is part of the associated
data, so it is drawn first. -/
def State.sendSecured (s : State) (p : Port) (h : Header) (plain : Bytes) : State :=
  if h.sa = 0 then s.sendFrame p h plain
  else
    let (seed, s) := s.seed
    let (payload, s) := s.protect p { h with seed := seed } plain
    s.sendSeeded p seed h payload

/-- PROTECTED_FRAME_CHECK (R143): association, packet number, MIC, in this order; the plaintext when all hold. A
payload too short for PN, one byte of ciphertext and MIC (R140) verifies under no key; DESIGN CHOICE (log entry 204):
the checks before the MIC apply to it all the same, and it counts under the first that fails. -/
def State.unprotect (s : State) (p : Port) (h : Header) (payload : Bytes) : Option Bytes × State :=
  let pn := uAt payload 0 6
  if s.rd Reg.LP_SA_state p h.sa ≠ 1 ∨ s.rd Reg.LP_SA_station p h.sa ≠ h.src then
    (none, s.cntLine p Reg.LP_RX_AUTH_FAIL)
  else if pn ≤ s.rdN Reg.LP_SA_receive_PN p h.sa then (none, s.cntLine p Reg.LP_RX_REPLAY)
  else
    match (if payload.length < 15 then none
      else ccmDecrypt (s.rdB Reg.LP_SA_key p h.sa) (ccmNonce true h pn) (be 14 h.high) (payload.drop 6)) with
    | some plain => (some plain, s.wr Reg.LP_SA_receive_PN p h.sa pn)
    | none => (none, s.cntLine p Reg.LP_RX_AUTH_FAIL)

/-! ## Receiving (R109 to R114, R121, R136 to R138) -/

/-- FRAG and FRAG_NO take a combination of Table 3.13 (R136). -/
def fragLegal (frag no : Nat) : Bool :=
  match frag with
  | 0 | 1 => no == 0
  | 2 => decide (1 ≤ no ∧ no ≤ 22)
  | _ => decide (1 ≤ no ∧ no ≤ 23)

/-- A header that passed its check is no header error (R111), but for its addresses; `g` bounds D in a grant-form
frame. -/
def headerFields (g : Nat) (h : Header) : Bool :=
  h.ver == 0 && decide (h.type ≤ 6) && decide (h.pace ≤ 23) && decide (1 ≤ h.length ∧ h.length ≤ 1536) && h.colour != 3
    && h.seed != 0 && (h.sa == 0 || (decide (h.type ≤ 1) && h.dst != 255))
    && fragLegal h.frag h.fragNo && (h.frag == 0 || decide (h.type ≤ 1)) && decide (paceD h.pace ≤ g)

/-- R111 for a frame the device receives: its addresses are upstream ones (Table 3.2). -/
def headerLegalUp (g : Nat) (h : Header) : Bool := headerFields g h && decide (1 ≤ h.src) && h.dst == 0

/-- R111 for a frame a station receives. -/
def headerLegalDown (h : Header) : Bool := headerFields 64 h && h.src == 0 && decide (1 ≤ h.dst)

/-- A TIME80 field with NANOSECONDS in range (R26, R121). -/
def time80Ok (b : Bytes) (i : Nat) : Bool := decide (uAt b (i + 6) 4 ≤ 999999999)

/-- A MGMT plaintext meets R123 and R124: its STATUS is 0 in a request and a code of Table 10.7 in a response. -/
def mgmtFormat (up : Bool) (b : Bytes) : Bool :=
  let op := uAt b 0 1
  decide (12 ≤ b.length) && uAt b 10 2 == b.length - 12
    && (if up then decide (uAt b 9 1 ≤ 15) else uAt b 9 1 == 0)
    && (if up then op == 0x81 || (op == 0x82 && uAt b 10 2 == 0) else (op == 0x01 && uAt b 10 2 == 0) || op == 0x02)

/-- A GRANT payload meets R82, R121, R131 and R588. -/
def grantFormat (b : Bytes) : Bool :=
  let n := uAt b 1 1
  uAt b 0 1 == 0 && decide (1 ≤ n ∧ n ≤ 64) && b.length == 12 + 20 * n && time80Ok b 2
    && (List.range n).all fun i => uAt b (12 + 20 * i + 8) 1 != 0 && decide (uAt b (12 + 20 * i + 9) 1 ≤ 23)

/-- A frame's type, subtype and payload break none of the conditions of R121; `up` says which way it travels. -/
def formatOk (up : Bool) (h : Header) (b : Bytes) : Bool :=
  let sub := uAt b 0 1
  let noSrc255 := !(up && h.src == 255)
  match h.type with
  | 0 => noSrc255
  | 1 => noSrc255 && mgmtFormat up b
  | 2 => !up && h.dst == 255 && b.length == 40 && sub == 0 && time80Ok b 11
  | 3 =>
    if sub == 1 then up && h.src == 255 && b.length == 22
    else if sub == 2 then !up && h.dst == 255 && b.length == 24 && decide (uAt b 21 1 ≤ 23)
    else if sub == 3 then up && noSrc255 && b.length == 10 && uAt b 1 1 == 0
    else if sub == 4 then noSrc255 && b.length == 10 && decide (uAt b 1 1 ≤ 4)
    else if sub == 5 then !up && h.dst == 255 && b.length == 10 && decide (uAt b 1 1 ≤ 4)
    else false
  | 4 =>
    if sub == 1 then !up && b.length == 12 && time80Ok b 2
    else if sub == 2 then up && noSrc255 && b.length == 8
    else if sub == 3 then !up && b.length == 8 && decide (uAt b 5 1 ≤ 2)
    else false
  | 5 => !up && grantFormat b
  | 6 => b.length == 16 && sub == 0 && time80Ok b 2 && (if up then noSrc255 else h.dst == 255)
  | _ => false

/-- The payload of a frame whose LDPC decoding converged and whose CRC-32 holds (R113, R114). -/
def rxPayload (f : LineRx) (h : Header) : Option Bytes :=
  if f.bodyOk ∧ f.body.length = h.length + 4 ∧ uAt f.body h.length 4 = crc32 (f.body.take h.length) then
    some (f.body.take h.length)
  else none

/-- The reassembly of a source and TAG (R138). -/
def State.reassembly (s : State) (p : Port) (src tag : Nat) : Option Reasm :=
  (s.port p).reasm.find? fun r => r.src == src && r.tag == tag

/-- Ends a reassembly. -/
def State.dropReasm (s : State) (p : Port) (src tag : Nat) : State :=
  (s.setPort p fun q => { q with reasm := q.reasm.filter fun r => !(r.src == src && r.tag == tag) }).disarm
    (.reassembly p.val src tag)

/-- What a whole frame or a fragment of plaintext does to the reassembly of its combination (R138), which `peer` and
TAG name: the reassembly it leaves, how often LP_RX /12 counts, the plaintext of the frame it completes. A fragment
later than the deadline finds its reassembly abandoned (R154). -/
def reassemble (peer : Nat) (held : Option Reasm) (h : Header) (plain : Bytes) (late : Bool) :
    Option Reasm × Nat × Option Bytes :=
  let gone := b2n (late && held.isSome)
  let old := if late then none else held
  if h.frag = 0 then (none, gone + b2n old.isSome, some plain)
  else if h.frag = 1 then
    (some { src := peer, tag := h.tag, type := h.type, sa := h.sa, colour := h.colour, seq := h.seq, next := 1, data := plain },
     gone + b2n old.isSome, none)
  else
    match old with
    | none => (none, gone + 1, none)
    | some r =>
      if r.next ≠ h.fragNo ∨ r.seq ≠ h.seq ∨ r.type ≠ h.type ∨ r.sa ≠ h.sa ∨ r.colour ≠ h.colour
          ∨ 1536 < r.data.length + plain.length then (none, gone + 1, none)
      else if h.frag = 3 then (none, gone, some (r.data ++ plain))
      else (some { r with next := r.next + 1, data := r.data ++ plain }, gone, none)

/-- FRAGMENT_RECEIVED (R138, R154): a whole frame or a fragment of plaintext arrives with its stamp; answers the plaintext of
the frame it completes. -/
def State.fragment (s : State) (p : Port) (h : Header) (stamp : Stamp) (plain : Bytes) : Option Bytes × State :=
  let t := Timer.reassembly p.val h.src h.tag
  let late := (s.deadline t).any fun d => decide (d < stamp)
  let (new, n, whole) := reassemble h.src (s.reassembly p h.src h.tag) h plain late
  let s := s.cntLine p Reg.LP_RX_FRAG_ABORT n
  match new with
  | none => (whole, s.dropReasm p h.src h.tag)
  | some r =>
    let s := s.setPort p fun q => { q with reasm := r :: q.reasm.filter fun x => !(x.src == h.src && x.tag == h.tag) }
    (whole, if h.frag = 1 then s.arm t (stamp + s.rd Reg.LP_ACQ_fragment_timeout p) else s)

/-- The port awaits the payload of a frame with this sync instant and header word (R111). -/
def State.awaits (s : State) (p : Port) (f : LineRx) : Bool :=
  (s.port p).awaited.any fun x => x.sync == f.sync && x.word == f.word

/-- The payload of an awaited frame has come: the port awaits it no more, and holds the frame no more (R147). -/
def State.resolve (s : State) (p : Port) (f : LineRx) : State :=
  s.setPort p fun q =>
    { q with awaited := q.awaited.filter fun x => !(x.sync == f.sync && x.word == f.word),
             held := q.held.bind fun x => if x.sync == f.sync then none else some x }

/-- The checks of a received payload in the order R114, R121, R143, R144, with their counts: the plaintext when the frame
is received without error. -/
def State.receive (s : State) (p : Port) (h : Header) (f : LineRx) : Option Bytes × State :=
  match rxPayload f h with
  | none => (none, s.cntLine p Reg.LP_RX_CRC_ERROR)
  | some b =>
    let (pt, s) := if h.sa = 0 then (some b, s) else s.unprotect p h b
    match pt with
    | none => (none, s)
    | some x =>
      if (h.frag = 0 ∧ !formatOk true h x) ∨ (h.frag ≠ 0 ∧ h.src = 255) then (none, s.cntLine p Reg.LP_RX_FORMAT_ERROR)
      else if h.sa = 0 ∧ h.type ≤ 1 ∧ (s.elem p h.src).security then (none, s.cntLine p Reg.LP_RX_UNPROTECTED)
      else (some x, s.cntLine p Reg.LP_RX_FRAMES_OK)

/-! ## Registrations (R192, R230, R235, R236, R239, R253) -/

/-- The port floor pace (R120): the lowest downstream pace of a registered station, 0 without one. -/
def State.floorPace (s : State) (p : Port) : Nat :=
  ((s.registered p).map fun a => s.rdN Reg.LP_STATION_downstream_pace p a).min?.getD 0

/-- Air time of the downstream REFRESH, and the longest of the upstream ones (R191, R192). -/
def State.airDown (s : State) (p : Port) : Int := airLong (s.port p).band (s.floorPace p) 16
def State.airUp (s : State) (p : Port) : Int :=
  ((s.registered p).map fun a => airGrant (s.port p).band (popCount 64 (s.rdN Reg.LP_STATION_allotments p a))
    (s.rdN Reg.LP_STATION_upstream_pace p a) 16).foldl max 0

/-- The device recomputes the effective refresh interval (R192), in ms. -/
def State.updateInterval (s : State) (p : Port) : State :=
  let c := -((-(s.airDown p + 5000000 + s.airUp p + 1000000)) / 1000000)
  s.wr Reg.LP_QUIET_effective p 0 (max (s.rd Reg.LP_QUIET_interval p) c)

/-- Two registered stations of the port share an allotment (R212): the lowest shared one. -/
def State.sharedAllotment (s : State) (p : Port) : Option Nat :=
  let masks := (s.registered p).map fun a => s.rdN Reg.LP_STATION_allotments p a
  lowest 64 fun g => decide (2 ≤ (masks.filter fun m => bit m g).length)

/-- A STATION record (Table 5.9). -/
def State.stationRecord (s : State) (p : Port) (a event reason : Nat) : State :=
  s.issue (srcLine p) 0x0502 (be 1 p.val ++ be 1 a ++ be 1 event ++ be 1 reason ++ be 8 (s.rdN Reg.LP_STATION_identity p a)
    ++ be 1 (s.rdN Reg.LP_STATION_downstream_pace p a) ++ be 1 (s.rdN Reg.LP_STATION_upstream_pace p a)
    ++ beInt 2 (s.rd Reg.LP_STATION_offset p a))

/-- POWER_ADJ of R230, in 0.5 dB steps of an I8. -/
def State.powerStep (s : State) (p : Port) (level : Int) : Int :=
  clamp (-128) 127 (roundDiv (s.rd Reg.LP_ACCESS_target_level p - level) 5)

/-- POWER_ADJ of an ADJ (R239). -/
def State.powerAdj (s : State) (p : Port) (level : Int) : Int :=
  if (s.rd Reg.LP_ACCESS_target_level p - level).natAbs ≤ 15 then 0 else s.powerStep p level

/-- Queues a frame the device sends of its own (R325). -/
def State.queueCtl (s : State) (p : Port) (f : CtlFrame) : State := s.setPort p fun q => { q with ctl := q.ctl ++ [f] }

/-- A REG frame of 10 bytes (Table 3.9). -/
def regShort (sub reason uid : Nat) : Bytes := be 1 sub ++ be 1 reason ++ be 8 uid

/-- An ADJ (Table 3.10). -/
def adjPayload (delta power : Int) (result : Nat) : Bytes := [3, 0] ++ beInt 2 delta ++ beInt 1 power ++ be 1 result ++ [0, 0]

/-- The element of a station is freed (R213, R235, R236): its record RELEASED, its fields at their defaults with the
reserved identity, the ceilings and the grant width kept, its equaliser cleared (R187), its proxies answered (R451), its
deadlines ended, the refresh interval recomputed (R192). -/
def State.freeStation (s : State) (p : Port) (a reason : Nat) : State :=
  if s.rd Reg.LP_STATION_state p a = 0 then s
  else
    let s := s.stationRecord p a 1 reason
    let s := [Reg.LP_STATION_state, Reg.LP_STATION_identity, Reg.LP_STATION_allotments, Reg.LP_STATION_timing_advance,
      Reg.LP_STATION_level_used, Reg.LP_STATION_received_level, Reg.LP_STATION_downstream_pace,
      Reg.LP_STATION_upstream_pace, Reg.LP_STATION_offset, Reg.LP_STATION_registered].foldl
        (fun s o => s.wr o p a 0) s
    let s := s.wrB Reg.LP_STATION_capabilities p a []
    let s := ((s.setElem p a fun _ => {}).eqClear p a).failProxies p fun x => x == a
    let s := s.setPort p fun q => { q with ctl := q.ctl.filter fun f => f.dst ≠ a, confirms := q.confirms.filter (· ≠ a) }
    let s := [Timer.mgmt p.val a, .probe p.val a, .noUp p.val a, .noDownUp p.val a].foldl State.disarm s
    s.updateInterval p

/-- Frees every registration of a port without sending RELEASE (R213, Table 12.4). -/
def State.freeAll (s : State) (p : Port) : State := (s.registered p).foldl (fun s a => s.freeStation p a 0) s

/-! ## Port states (R206, R207, R253, R360) -/

/-- What a port state ends: outside SERVICE queued proxies are answered; outside QUIET its filters track; DOWN and FENCED
flush the queues; only DISCOVER, SERVICE and QUIET sound; only LISTEN to QUIET receive. -/
def State.leaving (s : State) (p : Port) (old new : Int) : State :=
  let s := if old = stQuiet ∧ new ≠ stQuiet then s.leaveQuiet p else s
  let s := if old = stService ∧ new ≠ stService then s.failProxies p fun _ => true else s
  let s := if new = stDown ∨ new = stFenced then s.flushPort p else s
  let s := if new = stDiscover ∨ new = stService ∨ new = stQuiet then s else s.freeEngine p
  let s := if stListen ≤ new ∧ new ≤ stQuiet then s
    else s.setPort p fun q => { q with held := none, waiting := [], awaited := [], grants := [], ctl := [],
                                       beaconFor := none, grantFor := [], beaconDue := false, bellDue := false }
  let s := if new = stDown ∨ new = stFenced ∨ new = stParked then
      s.setCal p fun q => { q with step := 0, runs := [], placed := false, runBusy := false, requested := false } else s
  ((s.disarm (.listen p.val)).disarm (.discover p.val)).disarm (.check p.val)

/-- What a port state begins: its timer, its checks; CAL its wait for the line phase, in full after a fence was cleared or
on LP_CAL_CTL /05, which is cleared (R508). -/
def State.entering (s : State) (p : Port) (old new : Int) : State :=
  if new = stCheck then
    ((s.setDc p fun q => { q with loopResult := none, insulResult := none, failedOnce := false, measuring := false }).disarm
      (.loop p.val)).disarm (.insulation p.val)
  else if new = stCal then
    let full := s.flag Reg.LP_CAL_CTL_full p
    let s := ((s.wr Reg.LP_CAL_CTL_full p 0 0).wr Reg.LP_CAL_phase p 0 1).wr Reg.LP_CAL_postponements p 0 0
    s.setCal p fun q => { q with step := 0, runs := [], placed := false, entered := s.now, runBusy := false,
                                 full := full || q.fenced, fenced := false }
  else if new = stListen then
    (s.setPort p fun q => { q with held := none, waiting := [], awaited := [], grants := [] }).arm (.listen p.val)
      (s.now + s.rd Reg.LP_ACCESS_listen_time p * 1000000)
  else if new = stDiscover then s.arm (.discover p.val) (s.now + s.rd Reg.LP_ACCESS_discover_time p * nsPerSec)
  else if new = stParked then s.setPort p fun q => { q with heldBefore := old.toNat }
  else s

/-- A port changes state (R207): LP_STATE /01 and /05, and a PORT_STATE record with its cause (Table 5.9, R591). -/
def State.toState (s : State) (p : Port) (new : Int) (cause : Nat) : State :=
  let old := s.portState p
  let s := (s.wr Reg.LP_STATE_state p 0 new).wr Reg.LP_STATE_stamp p 0 s.now
  let s := s.issue (srcLine p) 0x0501 (be 1 p.val ++ be 1 old.toNat ++ be 1 new.toNat ++ be 1 cause)
  (s.leaving p old new).entering p old new

/-- PORT_FENCE (R207, Table 12.4): a LINE fault of severity FENCE takes the port to FENCED; its registrations are freed. -/
def State.fencePort (s : State) (p : Port) : State :=
  if s.portState p = stFenced then s else (s.freeAll p).toState p stFenced 5

/-- A port in CAL runs one of the isolated steps, 1 and 2 (Table 13.1). -/
def State.isolated (s : State) (p : Port) : Bool :=
  decide (s.portState p = stCal ∧ ((s.port p).cal.step = 1 ∨ (s.port p).cal.step = 2))

/-- What the driver of a port presents, whether it sends or not (R88, R206); at VLD out of its limits, and where
clamps hold its enable, high impedance (R484, R562). -/
def State.termination (s : State) (p : Port) : Termination :=
  let st := s.portState p
  if s.isolated p then .isolated
  else if s.power.vldBad ∨ s.power.clamped then .highImpedance
  else if st = stCal ∨ (stListen ≤ st ∧ st ≤ stQuiet) then .programmed (s.rdN Reg.LP_TX_impedance p)
  else .highImpedance

/-- DISCOVER or SERVICE: the states that send BEACON and GRANT (Table 5.1). -/
def State.accessState (s : State) (p : Port) : Bool := decide (s.portState p = stDiscover ∨ s.portState p = stService)

/-- The port hears frames on its line: LISTEN to QUIET (Table 5.1). -/
def State.hears (s : State) (p : Port) : Bool := decide (stListen ≤ s.portState p ∧ s.portState p ≤ stQuiet)

end Sys2Proof.Machine
end

