-- ==== Sys2Proof/Machine/ReflectOps.lean ====
section
/-! DEFINITION. Sounding and signatures (chapter 06): engines, sweeps, focused soundings, projection onto the cells, the
last, the findings and the events they become. -/

namespace Sys2Proof.Machine

/-! ## Bands and engines (Table 6.3, R258 to R261) -/

/-- Length of a band's sweep and of its period, ns. -/
def sweepLength (b : Nat) : Stamp := [20480, 163840, 655360].getD b 0
def sweepPeriod (b : Nat) : Stamp := [1310720, 2621440, 5242880].getD b 0
/-- First and last cell of a band, blend zones included. -/
def bandLo (b : Nat) : Nat := [0, 11800, 59800].getD b 0
def bandHi (b : Nat) : Nat := [12199, 60199, 163839].getD b 0
/-- Setup before a band is swept (R269). -/
def setupTime : Stamp := 10000000

/-- A band is enabled (LR_CTL /03). -/
def State.bandEnabled (s : State) (p : Port) (b : Nat) : Bool := bit (s.rdN Reg.LR_CTL_bands p) b

/-- What a band of a port has accumulated. -/
def SoundState.acc (q : SoundState) (b : Nat) : BandAcc := if b = 0 then q.near else if b = 1 then q.mid else q.far

/-- Changes what a band has accumulated. -/
def SoundState.setAcc (q : SoundState) (b : Nat) (f : BandAcc → BandAcc) : SoundState :=
  if b = 0 then { q with near := f q.near } else if b = 1 then { q with mid := f q.mid } else { q with far := f q.far }

/-- A state in which a port sounds (R260). -/
def State.soundingState (s : State) (p : Port) : Bool := decide (stDiscover ≤ s.portState p ∧ s.portState p ≤ stQuiet)

/-- The engines that are neither fenced nor assigned, nor stopped at PL3 (R258, R458). -/
def State.freeEngines (s : State) : List (Fin 4) :=
  (List.finRange 4).filter fun k =>
    decide (s.rd Reg.FENCE_CTL_state 0 (32 + k.val) = 0 ∧ s.rd Reg.PERF_LEVEL_in_force 0 (32 + k.val) ≠ 3)
      && s.ports.toList.all fun q => q.sound.engine != some k

/-- The end of what the port may do in the window in progress: its end, or an armed switch (R331). -/
def State.windowLimit (s : State) (p : Port) : Stamp :=
  let e := (s.port p).winEnd
  if s.rd Reg.ITIN_CTL_state p = 1 then min e (s.rd Reg.ITIN_CTL_switch p) else e

/-- A granted interval of an itinerary that has been replaced runs on (R332). -/
def State.carrying (s : State) (p : Port) : Bool :=
  (s.port p).grants.any fun g => g.carried && decide (s.now < g.finish)

/-- No sweep may begin: VLD is outside its limits (R562), a carried interval runs (R332), or scheduling has stopped
(Table 11.4). -/
def State.soundBarred (s : State) (p : Port) : Bool := s.power.vldBad || s.carrying p || s.stopped

/-- A sound interval begins (R265, R174): the receiver is blanked, a held frame abandoned, the filters freeze. -/
def State.blank (s : State) (p : Port) (finish : Stamp) : State :=
  let held := (s.port p).held
  let s := if held.isSome then s.cntSound p Reg.LR_STATUS_BLANKED else s
  let s := s.setPort p fun q => { q with held := none, waiting := [],
                                         awaited := q.awaited.filter fun x => held.all fun h => x.sync != h.sync }
  let s := s.setSound p fun q => { q with blankUntil := finish, sweepEnd := none }
  s.setEc p fun q => { q with frozen := true, freezeEnd := s.time.mono + (finish - s.now) }

/-- The last sweep of the sound interval has been begun (R174, R265): the interval and its freeze end 384 µs after the last
sweep sample; with no sweep, with their window. -/
def State.sweptLast (s : State) (p : Port) : State :=
  match (s.port p).sound.sweepEnd with
  | none => s
  | some t =>
    let s := s.setSound p fun q => { q with blankUntil := t + 384000 }
    s.setEc p fun q => { q with freezeEnd := s.time.mono + (t + 384000 - s.now) }

/-- Nothing more is swept in the sound interval (R265). -/
def State.soundIdle (s : State) (p : Port) : State :=
  (s.setSound p fun q => { q with band := none, setup := false, focusOn := false }).sweptLast p

/-- When setup may begin: now, or when the carried intervals that still run end (R332). -/
def State.setupFrom (s : State) (p : Port) : Stamp :=
  ((s.port p).grants.filter fun g => g.carried).foldl (fun t g => max t g.finish) s.now

/-- Setup of a band begins, if it ends within the window (R269). -/
def State.startBand (s : State) (p : Port) (b : Nat) : State :=
  let finish := s.setupFrom p + setupTime
  if finish ≤ s.windowLimit p ∧ !s.power.vldBad ∧ !s.stopped then
    let s := s.setSound p fun q => { q with band := some b, setup := true, stepEnd := finish, focusOn := false }
    let s := if s.windowLimit p < finish + sweepPeriod b then s.sweptLast p else s
    (s.wr Reg.LR_STATUS_band p 0 b).wr Reg.LR_STATUS_accepted p 0 ((s.port p).sound.acc b).accepted
  else s.soundIdle p

/-- The band an engine serves next: Near, Mid, Far in turn, enabled ones only (R269). -/
def State.nextBand (s : State) (p : Port) : Option Nat :=
  let l := (s.port p).sound.lastBand
  ([(l + 1) % 3, (l + 2) % 3, l].filter fun b => s.bandEnabled p b).head?

/-- The engine goes on with the port's bands, or has nothing to do. -/
def State.serveBands (s : State) (p : Port) : State :=
  match s.nextBand p with
  | some b => s.startBand p b
  | none => s.soundIdle p

/-- The peak-to-peak level of a band's sweeps in 0.1 V (R263). -/
def State.sweepLevel (s : State) (p : Port) (b : Nat) : Nat :=
  s.rdN (if b = 0 then Reg.LR_CTL_Near_level else if b = 1 then Reg.LR_CTL_Mid_level else Reg.LR_CTL_Far_level) p

/-- A sweep period begins, if it ends within the window (R262, R269). Where no other can follow it in the window, the sound
interval ends with it. -/
def State.startSweep (s : State) (p : Port) (b : Nat) : State :=
  if s.now + sweepPeriod b ≤ s.windowLimit p ∧ !s.soundBarred p then
    let next := s.now + sweepPeriod b + min (sweepPeriod b) (setupTime + sweepPeriod 0)
    let s := (s.setSound p fun q => { q with setup := false, stepEnd := s.now + sweepPeriod b,
                                             sweepEnd := some (s.now + sweepLength b) }).emit (.sweep p b (s.sweepLevel p b) (s.shaping p))
    if s.windowLimit p < next then s.sweptLast p else s
  else s.soundIdle p

/-! ## Focused soundings (R283 to R287) -/

/-- The enabled bands whose cells a span covers. -/
def State.bandsOver (s : State) (p : Port) (lo hi : Nat) : List Nat :=
  [0, 1, 2].filter fun b => s.bandEnabled p b && decide (bandLo b ≤ hi ∧ lo ≤ bandHi b)

/-- The time one band of a focused sounding takes: setup and its sweep periods (R285). -/
def State.focusTime (s : State) (p : Port) (b : Nat) : Stamp := setupTime + s.rd Reg.LR_FOCUS_averages p * sweepPeriod b

/-- The focused sounding that is to be swept next: one begun and split, else the one pending. -/
def State.focusNext (s : State) (p : Port) : Option Focus :=
  match (s.port p).sound.focusRun with
  | some f => some f
  | none => (s.port p).sound.focus.map fun f => { f with bands := s.bandsOver p f.lo f.hi }

/-- Setup of the next band of a focused sounding, when that band fits before an instant. -/
def State.focusBand (s : State) (p : Port) (f : Focus) (limit : Stamp) : Option State :=
  match f.bands with
  | [] => none
  | b :: _ =>
    if s.now + s.focusTime p b ≤ limit ∧ !s.soundBarred p then
      some ((s.setSound p fun q => { q with focusRun := some { f with acc := {} }, focusOn := true, band := some b,
                                            setup := true, stepEnd := s.now + setupTime }).wr Reg.LR_STATUS_band p 0 b)
    else none

/-- FOCUS_BEGIN (R284 to R286): the request is no longer pending. -/
def State.focusTaken (s : State) (p : Port) : State :=
  if (s.port p).sound.focusRun.isNone then s
  else if (s.port p).sound.focus.isSome ∧ s.flag Reg.LR_FOCUS_pending p then
    (((s.setSound p fun q => { q with focus := none }).disarm (.focus p.val)).wr Reg.LR_FOCUS_pending p 0 0).wr
      Reg.LR_FOCUS_request p 0 0
  else s

/-- Begins, or goes on with, a focused sounding within an instant; `none` where nothing of it fits. -/
def State.beginFocus (s : State) (p : Port) (limit : Stamp) : Option State :=
  match s.focusNext p with
  | none => none
  | some f =>
    let fresh := (s.port p).sound.focusRun.isNone
    (s.focusBand p f limit).map fun t => if fresh then t.focusTaken p else t

/-- SOUND windows of the operating itineraries of other ports that begin before an instant and have no engine yet
(R285). -/
def State.soundClaims (s : State) (p : Port) (limit : Stamp) : Nat :=
  ((List.finRange 32).filter fun q => q != p && s.soundingState q && s.flag Reg.LR_CTL_enable q
    && (s.port q).sound.engine.isNone
    && (s.opWindows q).any fun w =>
      let cycle := max 1 (s.rd Reg.ITIN_OP_cycle q)
      let start := s.now + (s.rd Reg.ITIN_OP_base q + w.2.1 - s.now) % cycle
      winType w.1 == wSound && decide (start < limit)).length

/-- A focused sounding may begin in the DOWN or QUIET window that starts now (R285). -/
def State.focusEligible (s : State) (p : Port) : Bool :=
  match s.focusNext p with
  | none => false
  | some f =>
    let run := (f.bands.map fun b => s.focusTime p b).sum
    let first := (f.bands.head?.map fun b => s.focusTime p b).getD run
    let finish := if s.now + run ≤ s.windowLimit p then s.now + run else s.now + first
    s.soundingState p && !s.soundBarred p && (s.port p).sound.engine.isNone && s.lineFree p
      && decide (finish ≤ s.windowLimit p) && decide (s.soundClaims p finish < s.freeEngines.length)
      && (s.portState p != stQuiet || decide ((s.port p).quiet.lastEnd ≤ s.now ∧ finish ≤ (s.port p).quiet.next))

/-- Gives a port an engine (R258). -/
def State.assignEngine (s : State) (p : Port) (k : Fin 4) : State :=
  (s.setSound p fun q => { q with engine := some k }).wr Reg.LR_STATUS_engine p 0 k.val

/-- FOCUS_BEGIN (R285): at the head of a DOWN or QUIET window. -/
def State.tryFocus (s : State) (p : Port) : State :=
  if s.focusEligible p then
    match s.freeEngines.head? with
    | none => s
    | some k => ((((s.blank p (s.windowLimit p)).assignEngine p k).beginFocus p (s.windowLimit p)).getD s)
  else s

/-- A SOUND window begins (R258 to R261, R286): it is skipped, or an engine serves the port, a focused sounding first. -/
def State.beginSound (s : State) (p : Port) : State :=
  let freeze (s : State) : State := s.setEc p fun q =>
    { q with frozen := true, freezeEnd := s.time.mono + ((s.port p).winEnd - s.now) }
  if s.soundingState p ∧ s.flag Reg.LR_CTL_enable p then
    match s.freeEngines.head? with
    | none => freeze (s.cntSound p Reg.LR_STATUS_SKIPPED)
    | some k =>
      let s := (s.blank p (s.port p).winEnd).assignEngine p k
      match s.beginFocus p (s.windowLimit p) with
      | some t => t
      | none => s.serveBands p
  else freeze (s.cntSound p Reg.LR_STATUS_SKIPPED)

/-- The band of a focused sounding has had its sweeps: its profile is kept; the next band follows where it fits, else
the rest waits for another window. In a SOUND window the port's own bands then follow (R285, R286). -/
def State.focusBandDone (s : State) (p : Port) (f : Focus) (b : Nat) : State :=
  let prof := if f.acc.accepted = 0 then f.profiles
    else (b, Config.compress b (s.sweepLevel p b) f.acc.accepted f.acc.sum) :: f.profiles
  let f := { f with bands := f.bands.drop 1, profiles := prof, acc := { measured := f.acc.measured } }
  let s := s.setSound p fun q => { q with focusRun := some f }
  match s.focusBand p f (s.windowLimit p) with
  | some t => t
  | none =>
    if winType (s.curWindow p) = wSound then s.serveBands p
    else (s.soundIdle p).freeEngine p

/-! ## Records (R266, R267) -/

/-- Twice the median of a list of energies, in ascending order. -/
def median2 (l : List Nat) : Nat :=
  let a := l.mergeSort (· ≤ ·)
  a.getD (a.length / 2) 0 + a.getD ((a.length - 1) / 2) 0

/-- A record: the sweep-path stream after the sweep-path FFE with these taps, in units of 2⁻¹⁴, beginning at the first sweep
sample (R160, R189, R266); tap 8 is the cursor, whose 8 samples of delay are taken out. -/
def sweepFiltered (r : SweepRecord) (taps : List Int) : List Int :=
  (List.range r.samples.length).map fun n => firAt taps r.samples (n + 8)

/-- The energy of the last quarter of a record (R266). -/
def tailEnergy (l : List Int) : Nat := ((l.drop (l.length * 3 / 4)).map fun x => (x * x).toNat).sum

/-- A record is rejected (R266): an ADC sample clipped, or its last quarter has more than four times the median energy
of that quarter over the records accepted, once four are. -/
def BandAcc.rejects (a : BandAcc) (r : SweepRecord) (taps : List Int) : Bool :=
  r.clipped || (decide (4 ≤ a.tails.length) && decide (2 * median2 a.tails < tailEnergy (sweepFiltered r taps)))

/-- A swept record enters a band's accumulation. -/
def BandAcc.add (a : BandAcc) (r : SweepRecord) (taps : List Int) (tw : Int) (stamp : Stamp) : BandAcc :=
  let a := { a with swept := a.swept + 1 }
  let y := sweepFiltered r taps
  if a.rejects r taps then a
  else { a with accepted := a.accepted + 1, tails := tailEnergy y :: a.tails, measured := stamp,
                tFirst := if a.accepted = 0 then tw else a.tFirst,
                sum := if a.sum = [] then y else List.zipWith (· + ·) a.sum y }

/-- A band has the records R267 asks for, or all the sweeps it allows. -/
def State.bandFull (s : State) (p : Port) (b : Nat) : Bool :=
  let a := (s.port p).sound.acc b
  let n := s.rdN Reg.LR_CTL_averages p
  decide (n ≤ a.accepted ∨ 2 * n ≤ a.swept)

/-- A band's accumulation starts again; its latest profile stays. -/
def BandAcc.restart (a : BandAcc) : BandAcc := { measured := a.measured, profile := a.profile, velocity := a.velocity }

/-! ## Velocity and temperature (R275, R276) -/

/-- Metres per second of a wire at T_w, from VF_ref and κ (R276). -/
def State.velocityAt (s : State) (p : Port) (tw : Int) : Int :=
  s.rd Reg.LR_VELOCITY_VF_ref p * 299792458 * (100000000 + s.rd Reg.LR_VELOCITY_kappa p * (tw - s.rd Reg.LR_VELOCITY_T_ref p))
    / 1000000000000

/-- The velocity in force: at T_ref while a capture runs (R276). -/
def State.velocity (s : State) (p : Port) : Int :=
  s.velocityAt p (if (s.port p).sound.capture.isSome then s.rd Reg.LR_VELOCITY_T_ref p else s.rd Reg.LR_VELOCITY_T_w p)

/-- Reports the velocity in force. -/
def State.updateVelocity (s : State) (p : Port) : State := s.wr Reg.LR_VELOCITY_velocity p 0 (s.velocity p)

/-- The mean of the last 16 loop measurements, mΩ as numerator and count (R275). -/
def State.loopMean (s : State) (p : Port) : Nat × Nat := let l := (s.port p).dc.loops.take 16; (l.sum, l.length)

/-- T_w is computed anew (R275), in 0.01 °C, or held. -/
def State.updateTw (s : State) (p : Port) : State :=
  let ref := s.rd Reg.LR_VELOCITY_R_ref p
  let (sum, n) := s.loopMean p
  let tref := s.rd Reg.LR_VELOCITY_T_ref p
  let d := (s.port p).dc
  let tw := tref + roundDiv (((sum : Int) - ref * n) * 10000000) ((ref * n * 393).toNat)
  let held := d.isOpen = some true ∨ d.seen.any fun x => x.step.isSome && decide (s.now - x.stamp < 600000000000)
  let s :=
    if ref = 0 then (s.wr Reg.LR_VELOCITY_T_w p 0 tref).wr Reg.LR_VELOCITY_held p 0 0
    else if n = 0 ∨ held ∨ tw < -4000 ∨ 15000 < tw then s.wr Reg.LR_VELOCITY_held p 0 1
    else (s.wr Reg.LR_VELOCITY_T_w p 0 tw).wr Reg.LR_VELOCITY_held p 0 0
  s.updateVelocity p

/-! ## From profiles to cells (R271 to R273) -/

/-- p(τ_i) of a profile in units of 2^−31, over v: the sum the linear interpolation gives, times v. -/
def profileAt (prof : List Int) (v : Int) (i : Nat) : Int :=
  let x : Int := (2 * i + 1) * 200000000
  let k := (x / v).toNat
  let r := x % v
  prof.getD k 0 * (v - r) + prof.getD (k + 1) 0 * r

/-- The start of the blend zone that holds a cell, with its nearer and farther band. -/
def blendOf (i : Nat) : Option (Nat × Nat × Nat) :=
  if 11800 ≤ i ∧ i < 12200 then some (11800, 0, 1) else if 59800 ≤ i ∧ i < 60200 then some (59800, 1, 2) else none

/-- The projected value of a cell in 2^−15 when band b completes (R272); `other` is the profile of the other band of its
blend zone, where it has one that counts. -/
def projected (b : Nat) (prof : List Int) (other : Option (List Int)) (v : Int) (i : Nat) : Int :=
  match blendOf i, other with
  | some (z, _, far), some o =>
    let wf : Int := 2 * (i - z : Nat) + 1
    let mine := profileAt prof v i
    let its := profileAt o v i
    let sum := if b = far then wf * mine + (800 - wf) * its else wf * its + (800 - wf) * mine
    clamp (-32767) 32767 (roundDiv sum (800 * v.toNat * 65536))
  | _, _ => clamp (-32767) 32767 (roundDiv (profileAt prof v i) (v.toNat * 65536))

/-- A cell as a reader sees it (Table 6.2, R256): STITCH in a blend zone, UNMAPPED beyond the mapped length or where only
disabled bands serve it. -/
def State.cellView (s : State) (p : Port) (i : Nat) : Nat :=
  let bands := match blendOf i with
    | some z => [z.2.1, z.2.2]
    | none => (List.range 3).filter fun b => decide (bandLo b ≤ i ∧ i ≤ bandHi b)
  let served := bands.any (s.bandEnabled p)
  setBit (setBit (s.cell p i) 2 (blendOf i).isSome) 1 (!(decide (i < s.mapped p) && served))

/-- The other band of the blend zone a cell lies in. -/
def otherBand (b i : Nat) : Option Nat := (blendOf i).map fun z => if b = z.2.1 then z.2.2 else z.2.1

/-- Updates a cell with its projected value (R273); `trend` is the trend shift, none for a focused sounding (R287). -/
def updatedCell (c : Nat) (value : Int) (trend : Option Nat) : Nat :=
  let dev := value - cellBaseline c
  let t := cellTrend c
  let flags := setBit (setBit (cellFlags c) 6 false) 5 false
  match trend with
  | some n => cellOf (cellBaseline c) value (if bit (cellFlags c) 7 then t + ashr (dev - t) n else t) (cellThreshold c)
      (setBit flags 0 false)
  | none => cellOf (cellBaseline c) value t (cellThreshold c) (setBit flags 0 true)

/-- The cells from lo to hi below the mapped length (R256). -/
def State.span (s : State) (p : Port) (lo hi : Nat) : List Nat := (List.range (min (hi + 1) (s.mapped p))).drop lo

/-- Projects the profile of band b onto its cells. -/
def State.project (s : State) (p : Port) (b : Nat) : State :=
  let a := (s.port p).sound.acc b
  match a.profile with
  | none => s
  | some prof =>
    let shift := s.rdN Reg.LR_SIG_trend_shift p
    let s := (s.span p (bandLo b) (bandHi b)).foldl (fun s i =>
      let other := (otherBand b i).bind fun o => if s.bandEnabled p o then ((s.port p).sound.acc o).profile else none
      s.wr Reg.CELL_MAP p i (updatedCell (s.cell p i) (projected b prof other a.velocity i) (some shift) : Nat)) s
    s.setSound p fun q => { q with updates :=
        (bandLo b, bandHi b, s.now) :: q.updates.filter fun u => u.1 ≠ bandLo b ∨ u.2.1 ≠ bandHi b }

/-! ## The last (R288 to R294) -/

/-- LR_LAST /08 (R292). -/
def State.lastCheck (s : State) (p : Port) : Nat :=
  crc32 ((List.range (s.mapped p)).flatMap (fun i => let c := s.cell p i; beInt 2 (cellBaseline c) ++ be 1 (cellThreshold c))
    ++ be 4 (s.rdN Reg.LR_VELOCITY_R_ref p))

/-- A LAST record (Table 6.6). -/
def State.lastRecord (s : State) (p : Port) (result fraction : Nat) : State :=
  s.issue (srcLine p) 0x0606 (be 1 p.val ++ be 1 result ++ be 2 fraction ++ be 4 (s.rdN Reg.LR_LAST_check p))

/-! ## Findings (R295 to R300) -/

/-- An eligible cell (R295): served, valid, not masked. -/
def State.eligible (s : State) (p : Port) (i : Nat) : Bool :=
  let f := cellFlags (s.cell p i)
  decide (i < s.mapped p) && bit f 7 && !bit f 3
    && [0, 1, 2].any fun b => s.bandEnabled p b && decide (bandLo b ≤ i ∧ i ≤ bandHi b)

/-- Thr_i. -/
def thr (c : Nat) : Int := 8 * (cellThreshold c : Int)

/-- A run: its first, last and peak cell, with TREND and Thr at the peak. -/
structure Run where
  first : Nat
  last : Nat
  peak : Nat
  value : Int
  thr : Int
  deriving DecidableEq, Repr

/-- Adds a cell over its threshold to the runs found so far, the latest first (R296). -/
def addRun (gap : Nat) (runs : List Run) (i : Nat) (t h : Int) : List Run :=
  match runs with
  | r :: l =>
    if i ≤ r.last + gap + 1 then
      (if r.value.natAbs < t.natAbs then { r with last := i, peak := i, value := t, thr := h } else { r with last := i }) :: l
    else ⟨i, i, i, t, h⟩ :: r :: l
  | [] => [⟨i, i, i, t, h⟩]

/-- The negative or the positive runs of a port, in ascending order (R296). -/
def State.runs' (s : State) (p : Port) (negative : Bool) : List Run :=
  ((List.range (s.mapped p)).foldl (fun runs i =>
    let c := s.cell p i
    let t := cellTrend c
    if s.eligible p i ∧ (if negative then t ≤ -thr c else thr c ≤ t) then
      addRun (s.rdN Reg.LR_SIG_merge_gap p) runs i t (thr c)
    else runs) []).reverse

/-- Confidence of a deviation at a threshold (R303); with a threshold of 0 the quotient has no bound and 100 is its
limit. -/
def confidence (value h : Int) : Nat := if h ≤ 0 then 100 else min 100 (25 * value.natAbs / h.toNat)

/-- NEW_JOINT candidates (R297), with the runs they leave. DEDUCED (log entry 213): a negative run that follows a positive
one follows it directly, with no other positive peak between. -/
def joints (extent : Nat) (pos neg : List Run) : List SigEvent × List Run × List Run :=
  pos.foldl (fun (acc : List SigEvent × List Run × List Run) r =>
    match acc.2.2.find? fun q => decide (r.peak < q.peak) with
    | some q =>
      if (pos.all fun x => !decide (r.peak < x.peak ∧ x.peak < q.peak)) ∧ q.peak - r.peak ≤ extent
          ∧ 2 * r.thr ≤ (r.value.natAbs : Int) ∧ 2 * q.thr ≤ (q.value.natAbs : Int) then
        let m := if r.value.natAbs ≤ q.value.natAbs then r else q
        (acc.1 ++ [{ kind := 1, cell := (r.peak + q.peak) / 2, start := r.peak, finish := q.peak, dev := m.value,
                     conf := confidence m.value m.thr }],
         acc.2.1.filter (· ≠ r), acc.2.2.filter (· ≠ q))
      else acc
    | none => acc) ([], pos, neg)

/-- Wet-span candidates from the runs that remain (R298). -/
def wetSpans (span : Nat) (pos neg : List Run) : List SigEvent :=
  neg.map fun r =>
    let hit := (pos.find? fun q => decide (r.peak < q.peak)).filter fun q =>
      decide (q.peak - r.peak ≤ span) && !neg.any fun x => decide (r.peak < x.peak ∧ x.peak < q.peak)
    { kind := 0, cell := r.peak, start := r.peak, finish := (hit.map (·.peak)).getD r.last, dev := r.value,
      conf := confidence r.value r.thr, openEnd := hit.isNone }

/-- Joints first, then wet spans (R296). -/
def State.findings (s : State) (p : Port) : List SigEvent :=
  let (j, pos, neg) := joints (s.rdN Reg.LR_SIG_joint_extent p) (s.runs' p false) (s.runs' p true)
  j ++ wetSpans (s.rdN Reg.LR_SIG_maximum_span p) pos neg

/-- The kind of a site by its deviation and the DC evidence (Table 6.5): the latest measurements stamped on or before the
refresh's MEASURED, and a downward step in the 600 s before it (R300). -/
def State.siteKind (s : State) (p : Port) (dev : Int) (measured : Stamp) : Nat :=
  let seen := (s.port p).dc.seen.filter fun x => decide (x.stamp ≤ measured)
  let ref := s.rd Reg.LR_VELOCITY_R_ref p
  let fell (x : LoopSeen) : Bool := x.step == some true && decide (measured - x.stamp ≤ 600000000000)
  if 0 < dev ∧ seen.head?.any (·.opened) then 2
  else if dev < 0 ∧ ((s.port p).dc.insulSeen.find? fun x => decide (x.1 ≤ measured)).any (·.2) then 3
  else if dev < 0 ∧ (seen.any fell ∨ seen.head?.any fun x => !x.opened && decide (10 * (x.value : Int) < 8 * ref)) then 4
  else 5

/-- The beyond test (R299): the RMS of CURRENT lies the beyond drop below that of BASELINE, and BASELINE stands above its
thresholds. Squared sums over the same cells stand for the RMS values. -/
def State.beyond (s : State) (p : Port) (c kind : Nat) : Bool :=
  let cells := ((List.range 400).map fun k => c + 16 + k).filter fun i => s.eligible p i
  let cur := (cells.map fun i => (cellCurrent (s.cell p i)).natAbs ^ 2).sum
  let base := (cells.map fun i => (cellBaseline (s.cell p i)).natAbs ^ 2).sum
  let h := (cells.map fun i => (thr (s.cell p i)).toNat).sum
  if cells.length < 100 then kind != 5
  else decide (cur ^ 20 * 10 ^ s.rdN Reg.LR_SIG_beyond_drop p ≤ base ^ 20 ∧ h * h ≤ base * cells.length)

/-- SITE_SEARCH (R299, R300) among the cells lo to hi. -/
def State.siteSearch (s : State) (p : Port) (lo hi : Nat) (measured : Stamp) : Option SigEvent :=
  ((s.span p lo hi).find? fun i =>
    let c := s.cell p i
    s.eligible p i && decide (s.rd Reg.LR_SIG_site_factor p * thr c ≤ ((cellCurrent c - cellBaseline c).natAbs : Int))).bind fun i =>
      let dev := cellCurrent (s.cell p i) - cellBaseline (s.cell p i)
      let kind := s.siteKind p dev measured
      if s.beyond p i kind then
        some { kind := kind, cell := i, start := i, finish := i, dev := dev, conf := if kind = 5 then 50 else 100 }
      else none

/-! ## Events (R301 to R304) -/

/-- The record of an event: WET_SPAN or SITE (Table 6.6). -/
def State.eventRecord (s : State) (p : Port) (e : SigEvent) (st : Nat) (measured : Stamp) (origin : Nat) : State :=
  let flags := b2n e.openEnd + 2 * b2n e.beyond
  let head := be 1 p.val ++ be 1 st ++ be 2 e.id
  if e.kind = 0 then
    s.issue (srcLine p) 0x0601 (head ++ be 4 e.cell ++ be 4 e.finish ++ be 4 e.cell ++ beInt 2 e.dev ++ be 1 e.conf
      ++ be 1 flags ++ timeBytes measured ++ [0, 0])
  else
    let kind := if e.kind = 1 then 3 else if e.kind = 5 then 4 else e.kind - 2
    s.issue (srcLine p) 0x0602 (head ++ be 1 kind ++ be 1 e.conf ++ beInt 2 (clamp (-32768) 32767 e.dev) ++ be 4 e.cell
      ++ timeBytes measured ++ be 1 origin ++ be 1 (2 * b2n e.beyond))

/-- The SITE flag is that of the cells of the active events (Table 6.2). -/
def State.siteFlags (s : State) (p : Port) (e : SigEvent) (v : Bool) : State := s.flagCells p e.start e.finish 4 v

/-- Puts the active events of a port in force: their SITE flags and LR_SIG /08. -/
def State.setEvents (s : State) (p : Port) (l : List SigEvent) : State :=
  let s := (s.port p).sound.events.foldl (fun s e => s.siteFlags p e false) s
  let s := s.setSound p fun q => { q with events := l }
  let s := l.foldl (fun s e => s.siteFlags p e true) s
  s.wr Reg.LR_SIG_active_events p 0 l.length

/-- What a record reports is remembered, and BEYOND_SITE goes with it (R301, R302). -/
def SigEvent.reported (e : SigEvent) : SigEvent := { e with rep := (e.cell, e.finish, e.dev, e.kind), beyond := false }

/-- An active event takes what a finding of it shows. -/
def SigEvent.follow (e f : SigEvent) : SigEvent :=
  { f with count := 0, misses := 0, id := e.id, beyond := e.beyond, rep := e.rep }

/-- A finding has moved away from what was last reported (R301). -/
def SigEvent.changed (e : SigEvent) : Bool :=
  decide (4 < ((e.cell : Int) - e.rep.1).natAbs ∨ (e.kind = 0 ∧ 4 < ((e.finish : Int) - e.rep.2.1).natAbs)
    ∨ e.rep.2.2.1.natAbs < 4 * (e.dev - e.rep.2.2.1).natAbs ∨ e.kind ≠ e.rep.2.2.2)

/-- A new event takes its EVENT_ID (R304). -/
def State.confirm (s : State) (p : Port) (e : SigEvent) : SigEvent × State :=
  let n := (s.port p).sound.nextId
  ({ e with id := n, count := 0 }, s.setSound p fun q => { q with nextId := n % 65535 + 1 })

/-- Outcome of a refresh for one event: what stays active, and the record it issues. -/
structure Verdict where
  event : SigEvent
  keep : Bool
  /-- STATE of its record; none without a record. -/
  report : Option Nat
  deriving DecidableEq, Repr

/-- Two cells lie within n of each other. -/
def within (n a b : Nat) : Bool := decide (((a : Int) - b).natAbs ≤ n)

/-- EVENT_CONFIRM for the site event (R301): what becomes of the active one, and of what was found. -/
def State.judgeSite (s : State) (p : Port) (found : Option SigEvent) (scheduled : Bool) : List Verdict × State :=
  let q := (s.port p).sound
  let same (e : SigEvent) : Bool := found.any fun f => within 8 f.cell e.cell
  let drop (s : State) : State := s.setSound p fun q => { q with cands := q.cands.filter fun c => c.kind < 2 }
  let fresh (s : State) : List Verdict × State :=
    match found with
    | none => ([], drop s)
    | some f =>
      if f.kind ≠ 5 ∨ q.cands.any (fun c => c.kind == 5 && within 8 c.cell f.cell) then
        let (e, s) := (drop s).confirm p f
        ([⟨e, true, some 0⟩], s)
      else ([], (drop s).setSound p fun q => { q with cands := { f with count := 1 } :: q.cands })
  match q.events.find? fun e => decide (2 ≤ e.kind) with
  | none => fresh s
  | some e =>
    if same e then
      let e := e.follow (found.getD e)
      ([⟨e, true, if e.changed then some 1 else none⟩], s)
    else if scheduled then
      let (l, s) := fresh s
      (⟨e, false, some 2⟩ :: l, s)
    else ([⟨e, true, none⟩], s)

/-- EVENT_CONFIRM for the active wet spans and joints (R301, R302): each is followed, kept, missed or cleared; answers the
verdicts and the findings left. -/
def judgeActive (confirm : Nat) (site : Option Nat) (act finds : List SigEvent) : List Verdict × List SigEvent :=
  act.foldl (fun (acc : List Verdict × List SigEvent) e =>
    let hit := acc.2.find? fun f => f.kind == e.kind && within 4 f.cell e.cell
    let rest := match hit with | some f => acc.2.erase f | none => acc.2
    if site.any fun c => decide (c < e.cell) then (acc.1 ++ [⟨{ e with beyond := true }, true, none⟩], rest)
    else
      match hit with
      | some f =>
        let e := e.follow f
        (acc.1 ++ [⟨e, true, if e.changed then some 1 else none⟩], rest)
      | none =>
        if confirm ≤ e.misses + 1 then (acc.1 ++ [⟨e, false, some 2⟩], rest)
        else (acc.1 ++ [⟨{ e with misses := e.misses + 1 }, true, none⟩], rest)) ([], finds)

/-- EVENT_CONFIRM for the findings that are no active event (R301, R302): confirmed, or kept as candidates. -/
def State.judgeNew (s : State) (p : Port) (site : Option Nat) (finds : List SigEvent) : List Verdict × State :=
  let old := (s.port p).sound.cands
  let need := s.rdN Reg.LR_SIG_confirm_count p
  let s := s.setSound p fun q => { q with cands := q.cands.filter fun c => 2 ≤ c.kind }
  finds.foldl (fun (acc : List Verdict × State) f =>
    let before := ((old.find? fun c => c.kind == f.kind && within 4 c.cell f.cell).map (·.count)).getD 0
    let f := { f with count := before + 1 }
    if need ≤ f.count ∧ !site.any fun c => decide (c < f.cell) then
      let (e, s) := acc.2.confirm p f
      (acc.1 ++ [⟨e, true, some 0⟩], s)
    else (acc.1, acc.2.setSound p fun q => { q with cands := q.cands ++ [f] })) ([], s)

/-- Issues the records of a set of verdicts, site first, then in ascending cell order (R304), and puts the events that
stay in force. -/
def State.applyVerdicts (s : State) (p : Port) (vs : List Verdict) (measured : Stamp) (origin : Nat) : State :=
  let isSite (v : Verdict) : Bool := decide (2 ≤ v.event.kind)
  let le (a b : Verdict) : Bool := (isSite a && !isSite b) || (isSite a == isSite b && decide (a.event.cell ≤ b.event.cell))
  let s := (vs.mergeSort le).foldl (fun s v =>
    match v.report with
    | some st => s.eventRecord p v.event st measured origin
    | none => s) s
  s.setEvents p ((vs.filter (·.keep)).map fun v => if v.report.isSome then v.event.reported else v.event)

/-- The signature rules of a full refresh (R296 to R304). -/
def State.signatures (s : State) (p : Port) (measured : Stamp) : State :=
  let (v1, s) := s.judgeSite p (s.siteSearch p 0 (s.mapped p - 1) measured) true
  let site := ((v1.find? fun v => v.keep && decide (2 ≤ v.event.kind)).map fun v => v.event.cell)
  let (v2, rest) := judgeActive (s.rdN Reg.LR_SIG_confirm_count p) site
    ((s.port p).sound.events.filter fun e => e.kind < 2) (s.findings p)
  let (v3, s) := s.judgeNew p site rest
  s.applyVerdicts p (v1 ++ v2 ++ v3) measured 0

/-- The site rules of a focused sounding (R287): wet spans and joints stay as they are. -/
def State.focusSignatures (s : State) (p : Port) (lo hi : Nat) (measured : Stamp) : State :=
  let (v1, s) := s.judgeSite p (s.siteSearch p lo hi measured) false
  let v2 := ((s.port p).sound.events.filter fun e => e.kind < 2).map fun e => ⟨e, true, none⟩
  s.applyVerdicts p (v1 ++ v2) measured 1

/-- The signature rules of a full refresh, or of a focused sounding's span. -/
def State.sign' (s : State) (p : Port) (x : Option (Nat × Nat) × Stamp) : State :=
  match x.1 with
  | none => s.signatures p x.2
  | some (lo, hi) => s.focusSignatures p lo hi x.2

/-- The signature rules run, or wait for the end of the steward's restart (Table 12.6). -/
def State.signOrOwe (s : State) (p : Port) (x : Option (Nat × Nat) × Stamp) : State :=
  if s.faults.stewardDown then s.setSound p fun q => { q with owed := q.owed ++ [x] } else s.sign' p x

/-- The signature rules run on what completed during the steward's restart, in its order, on the cells as they stand now.
DEDUCED (log entry 217): the cells of an earlier refresh are no longer there. -/
def State.signOwed (s : State) (p : Port) : State :=
  ((s.port p).sound.owed).foldl (fun s x => s.sign' p x) (s.setSound p fun q => { q with owed := [] })

/-- R294: every change of the last ends the active events with CLEARED records and every confirmation count; the echo-path
monitor takes a new reference (R277). -/
def State.endEvents (s : State) (p : Port) : State :=
  let vs := (s.port p).sound.events.map fun e => (⟨e, false, some 2⟩ : Verdict)
  ((s.applyVerdicts p vs (s.rd Reg.LR_STATUS_refresh_stamp p) 0).setSound p fun q => { q with cands := [] }).dropReference p

/-! ## Refreshes (R274, R288) -/

/-- CURRENT of the cells numbered below n. -/
def State.currentsBelow (s : State) (p : Port) (n : Nat) : List Int := (List.range n).map fun i => cellCurrent (s.cell p i)

/-- CURRENT of every mapped cell. -/
def State.currents (s : State) (p : Port) : List Int := s.currentsBelow p (s.mapped p)

/-- A history snapshot of every cell is due and taken (R274 step 2), and the stamp of the moment recorded (log entry
215): its position, or 255. -/
def State.historyStep (s : State) (p : Port) : Nat × State :=
  let q := (s.port p).sound
  if q.lastHistory.all fun t => decide (s.rd Reg.LR_CTL_history_period p * nsPerSec ≤ s.now - t) then
    let pos := (s.rdN Reg.LR_HISTORY_newest p + 1) % 256 % 16
    let s := s.setSound p fun q => { q with
      lastHistory := some s.now
      history := Store.put [] q.history pos (s.currentsBelow p 163840) }
    (pos, (s.wr Reg.LR_HISTORY_newest p 0 pos).wrB Reg.LR_HISTORY_stamps p 0
      (patch (s.rdB Reg.LR_HISTORY_stamps p) (10 * pos) (timeBytes s.now)))
  else (255, s)

/-- A capture of the last takes the refresh (R288). -/
def State.captureStep (s : State) (p : Port) : State :=
  let (sum, n) := s.loopMean p
  s.setSound p fun q => { q with capture := q.capture.map fun c =>
    { c with left := c.left - 1, columns := c.columns ++ [s.currents p],
             loops := c.loops ++ [(roundDiv (sum : Int) (max 1 n)).toNat],
             opened := c.opened || decide ((s.port p).dc.isOpen ≠ some false) || decide (n = 0) } }

/-- FULL_REFRESH_DONE (R274): counter, stamp, history, record; the signature rules; a capture's refresh. -/
def State.refreshDone (s : State) (p : Port) : State :=
  let bands := [0, 1, 2].filter fun b => s.bandEnabled p b
  let measured := (bands.map fun b => ((s.port p).sound.acc b).measured).foldl max 0
  let mask := (s.port p).sound.done
  let s := (s.cntSound p Reg.LR_STATUS_REFRESHES).wr Reg.LR_STATUS_refresh_stamp p 0 measured
  let (pos, s) := s.historyStep p
  let s := s.issue (srcLine p) 0x0605 (be 1 p.val ++ be 1 mask ++ [0] ++ be 1 pos ++ timeBytes measured ++ [0, 0])
  let s := s.setSound p fun q => { q with done := 0 }
  let s := if (s.port p).sound.capture.isSome then s.captureStep p else s
  s.signOrOwe p (none, measured)

/-! ## The DC monitor (R306 to R311) -/

/-- The DC monitor of a port runs (R310, R562). -/
def State.dcRuns (s : State) (p : Port) : Bool :=
  let st := s.portState p
  (decide (st = stCheck ∨ (stListen ≤ st ∧ st ≤ stQuiet)) || (decide (st = stCal) && !s.isolated p))
    && s.flag Reg.LR_DC_enable p && !s.power.vldBad

/-- A DC_ALARM record (Table 6.6). -/
def State.dcAlarm (s : State) (p : Port) (kind value : Nat) : State :=
  s.issue (srcLine p) 0x0604 (be 1 p.val ++ be 1 kind ++ [0, 0] ++ be 4 value)

/-- LR_DC /07 after a measurement: BELOW_RANGE is set by either. -/
def State.dcFlags (s : State) (p : Port) (f : Nat → Nat) : State :=
  let d := (s.port p).dc
  s.wr Reg.LR_DC_flags p 0 (setBit (f (s.rdN Reg.LR_DC_flags p)) 1 (d.loopBelow || d.insulBelow) : Nat)

/-- DC_CHECK_RESULT (R208): once both checks of CHECK have a result, the port goes to CAL, or the failure is counted, the
first one logged, and both checks are repeated 10 s later. -/
def State.dcCheck (s : State) (p : Port) : State :=
  if s.portState p ≠ stCheck ∨ s.running (.check p.val) then s
  else match (s.port p).dc.loopResult, (s.port p).dc.insulResult with
  | some a, some b =>
    if a ∧ b then s.toState p stCal 1
    else
      let kohm := min (s.rdN Reg.LR_DC_insulation_A p) (s.rdN Reg.LR_DC_insulation_B p) / 1000
      let s := s.inc Reg.LP_STATE_CHECK_FAILS p
      let s := if (s.port p).dc.failedOnce then s else s.raiseLine p 0x01 kohm
      (s.setDc p fun q => { q with failedOnce := true }).arm (.check p.val) (s.now + 10000000000)
  | _, _ => s

end Sys2Proof.Machine
end

