-- ==== Sys2Proof/Machine/CalOps.lean ====
section
/-! DEFINITION. Calibration runs and pre-distortion training: the operations that windows, port states and the commands
of chapter 13 share (R95 to R99, R506 to R515). -/

namespace Sys2Proof.Machine

/-! ## Pre-distortion training (R95 to R99) -/

/-- States of LP_DPD /01 (Table 2.9). -/
def dpdTraining : Int := 1
def dpdFrozen : Int := 2

/-- The pre-distorter enters TRAINING (R95): its 80 ms and its 10 s begin, and the level keeps 6 dB more of the mask
(R96). -/
def State.dpdStart (s : State) (p : Port) : State :=
  let old := s.rdN Reg.LP_DPD_state p
  let s := (s.wr Reg.LP_DPD_state p 0 dpdTraining).setPort p fun q =>
    { q with dpd := { q.dpd with before := if old = 1 then q.dpd.before else old, txTime := 0, counted := s.now, wanted := false,
                                 lineDriverCleared := false } }
  (s.arm (.dpd p.val) (s.now + 10000000000)).computeLevel p

/-- The port sends bursts for training (R97). -/
def State.dpdTrains (s : State) (p : Port) : Bool := decide (s.rd Reg.LP_DPD_state p = dpdTraining)

/-! ## Runs (R506, R511, R514, R515) -/

/-- Length of a run of step 1 to 3, and of a periodic run, step 5 (Table 13.1, R514). -/
def runLength (step : Nat) : Stamp :=
  if step = 1 then 20000000 else if step = 2 then 15000000 else if step = 3 then 30000000 else 4000000

/-- A run of a step begins. -/
def State.startRun (s : State) (p : Port) (step : Nat) : State :=
  s.setCal p fun q => { q with step := step, runBusy := true, runEnd := s.now + runLength step }

/-- A run of a connected step fits the window in progress, clear of every sound interval, focused sounding and
transmission, and in QUIET of every refresh-cycle span (R511, R515). -/
def State.runFits (s : State) (p : Port) (step : Nat) : Bool :=
  let q := s.port p
  let finish := s.now + runLength step
  s.lineFree p && decide (finish ≤ s.windowLimit p) && decide (q.sound.blankUntil ≤ s.now) && q.sound.engine.isNone
    && !s.carrying p && (s.portState p != stQuiet || decide (q.quiet.lastEnd ≤ s.now ∧ finish ≤ q.quiet.next))

/-- Step 3 is wanted in service: after R512, or by request (R511). -/
def State.wantsHybrid (s : State) (p : Port) : Bool :=
  (s.port p).cal.wantHybrid || (s.port p).cal.requested || decide (s.rd Reg.LP_CAL_CTL_request p = 1)

/-- A run begins where one is wanted and may begin: in CAL steps 1 and 2 at once, step 3 in a DOWN or QUIET window; in
service step 3, or the periodic recalibration that is due, in a QUIET window (R508, R511, R512, R515). None begins once
scheduling has stopped (Table 11.4). -/
def State.tryRun (s : State) (p : Port) : State :=
  let q := (s.port p).cal
  let w := winType (s.curWindow p)
  let st := s.portState p
  if q.runBusy ∨ s.stopped then s
  else if st = stCal then
    if q.step = 1 ∨ q.step = 2 then s.startRun p q.step
    else if q.step = 3 ∧ (w = wDown ∨ w = wQuiet) ∧ s.runFits p 3 then s.startRun p 3
    else s
  else if w ≠ wQuiet then s
  else if (st = stService ∨ st = stQuiet) ∧ s.wantsHybrid p then
    if s.runFits p 3 then
      let begun := decide (q.step = 3)
      let s := if begun then s
        else if s.rd Reg.LP_CAL_CTL_request p = 1 then
          (s.wr Reg.LP_CAL_CTL_request p 0 0).setCal p fun q => { q with requested := true, runs := [] }
        else s.setCal p fun q => { q with runs := [] }
      s.startRun p 3
    else s
  else if stDiscover ≤ st ∧ st ≤ stQuiet ∧ q.due ∧ s.flag Reg.LP_CAL_CTL_periodic p ∧ !q.wantHybrid ∧ s.runFits p 5 then
    let s := if q.step = 5 then s else s.setCal p fun q => { q with runs := [] }
    s.startRun p 5
  else s

/-- A CALIBRATION record of a port (Table 13.6); the source is that of the step's values (R163). -/
def State.calRecord (s : State) (p : Port) (step result runs : Nat) : State :=
  let source := if step = 1 ∨ step = 5 then s.rdN Reg.LP_CAL_converter_source p
    else if step = 2 then s.rdN Reg.LP_CAL_linearity_source p
    else if step = 3 then s.rdN Reg.LP_HYBRID_source p else 0
  s.issue (srcLine p) 0x0D01 (be 1 p.val ++ be 1 step ++ be 1 result ++ be 1 runs ++ be 1 source ++ [0, 0, 0])

end Sys2Proof.Machine
end

