-- ==== Sys2Proof/Machine/QueueOps.lean ====
section
/-! DEFINITION. Metering, admission, head checks, scheduling and fragmenting of downstream frames, upstream frames into
host-bound FIFOs (chapter 08, R326, R327). -/

namespace Sys2Proof.Machine

/-! ## Meters (R351 to R355) -/

/-- Units of 2^-16 byte that a rate in kb/s fills in one tick of 8 µs (R352, R363). -/
def perTick (rate : Int) : Int := rate * 8192 / 125

/-- A meter is brought up to the refill tick in progress: each tick fills each bucket, limited to its capacity (R352). -/
def State.meterFill (s : State) (m : Nat) : State :=
  let n : Int := (s.qm.tick - Store.get 0 s.qm.meterTick m : Nat)
  let up (bucket rate cap : Obj) (s : State) : State :=
    s.wr bucket 0 m (min (s.rd cap 0 m * 65536) (s.rd bucket 0 m + n * perTick (s.rd rate 0 m)))
  let s := up Reg.METER_Tp Reg.METER_PIR Reg.METER_PBS (up Reg.METER_Tc Reg.METER_CIR Reg.METER_CBS s)
  (s.setQm fun fld => { fld with meterTick := Store.put 0 s.qm.meterTick m s.qm.tick })

/-- The colour a meter gives a frame of b units whose pre-colour it may honour (R351). -/
def meterColour (aware : Bool) (pre : Nat) (tc tp b : Int) : Nat :=
  if (aware ∧ pre = 2) ∨ tp < b then 2 else if (aware ∧ pre = 1) ∨ tc < b then 1 else 0

/-- A frame of `length` bytes is metered (R351 to R354): its colour, whether the meter's action forwards it, the state
after it. `host` says that it came in on a Porfani port. -/
def State.meterFrame (s : State) (m : Nat) (host : Bool) (pre length : Nat) : Nat × Bool × State :=
  let s := s.meterFill m
  let mode := s.rd Reg.METER_mode 0 m
  let aware : Bool := decide (mode = 1) || (decide (mode = 2) && host)
  let b : Int := (length * 65536 : Nat)
  let tc := s.rd Reg.METER_Tc 0 m
  let tp := s.rd Reg.METER_Tp 0 m
  let col := meterColour aware pre tc tp b
  let s := if col = 2 then s else s.wr Reg.METER_Tp 0 m (tp - b)
  let s := if col = 0 then s.wr Reg.METER_Tc 0 m (tc - b) else s
  let s := s.inc (if col = 0 then Reg.METER_GREEN else if col = 1 then Reg.METER_YELLOW else Reg.METER_RED) 0 m
  (col, decide (field (s.rdN Reg.METER_actions 0 m) (2 * col + 1) (2 * col) ≠ 1), s)

/-! ## Downstream frames (R344, R358) -/

/-- The limit of a queue for a colour (R358). -/
def State.colourLimit (s : State) (q col : Nat) : Nat :=
  s.rdN (if col = 0 then Reg.QUEUE_green_limit else if col = 1 then Reg.QUEUE_yellow_limit else Reg.QUEUE_red_limit) 0 q

/-- Admission of a frame to a queue, stamped now, or its discard with the count of the condition that failed (R357,
R358). -/
def State.enqueue (s : State) (q : Nat) (f : QFrame) : State :=
  if !s.flag Reg.QUEUE_enable 0 q ∨ s.colourLimit q f.colour < s.depth q + f.data.length then
    (s.downDrop f.flow).inc Reg.QUEUE_TAIL_DROPS 0 q
  else if s.poolFree = 0 ∨ (f.colour ≠ 0 ∧ s.poolFree ≤ s.rdN Reg.QM_CTL_pool_reserve) then
    (s.downDrop f.flow).inc Reg.QM_CTL_POOL_DROPS
  else
    let s := s.setQm fun fld => { fld with buffersUsed := s.qm.buffersUsed + 1 }
    (s.setQueue q (s.queue q ++ [{ f with enqueued := s.now }])).inc Reg.QUEUE_ENQUEUED 0 q

/-- Steps 2 to 5 of R344, the flow's context being in the cache. -/
def State.downFrame (s : State) (f : Nat) (payload : Bytes) : State :=
  let c := s.rdB Reg.FLOW_control 0 f
  if !(fcValid c && fcDownEn c) then s.inc Reg.QM_CTL_NO_FLOW
  else
    let data := payload.drop 16
    let pre := uAt payload 3 1 % 4
    let (col, pass, s) := if fcDmeter c then s.meterFrame (fcMeterDown c) true pre data.length else (pre, true, s)
    if pass then s.enqueue (fcQueue c) { flow := f, colour := col, data := data, enqueued := s.now } else s.downDrop f

/-! ## Upstream frames (R345, R347, R367, R368) -/

/-- SEQ_CHECK (R347): UP_SEQ after it and the frames found missing, when the frame is accepted. -/
def seqCheck (upSeq seq : Nat) : Option (Nat × Nat) :=
  let d := (seq + 4096 - upSeq % 4096) % 4096
  if !bit upSeq 15 then some (32768 + seq, 0)
  else if d = 0 ∨ 2048 ≤ d then none
  else some (32768 + seq, d - 1)

/-- The counter of frames that did not fit a host-bound FIFO (Table 8.5). -/
def hbDropped (x : Side) : Obj := match x with | .up => Reg.HB_VC_UP_DROPPED | .down => Reg.HB_VC_DOWN_DROPPED

/-- Step 6 of R345: a frame enters the FIFO of its channel on the host side's port, or is discarded (R367, R368). -/
def State.toHost (s : State) (vc : Nat) (f : HostFrame) : State :=
  let x := s.hostSide
  if 262144 < s.fifoBytes x vc + f.data.length + 32 then (s.upDrop f.flow).inc (hbDropped x) vc
  else
    let s := (s.bumpFlow f.flow fsUpFrames 4 1).bumpFlow f.flow fsUpBytes 8 f.data.length
    (s.setFifo x vc (s.fifo x vc ++ [f])).drain x

/-- R345, the flow's context being in the cache. -/
def State.upFrame (s : State) (p : Port) (h : Header) (stamp : Stamp) (data : Bytes) : State :=
  let f := flowNumber p.val h.src h.tag
  let c := s.rdB Reg.FLOW_control 0 f
  if !(fcValid c && fcUpEn c) then s.inc Reg.QM_CTL_NO_FLOW
  else if fcSa c ≠ 0 ∧ h.sa ≠ fcSa c then (s.upDrop f).inc Reg.QM_CTL_SA_MISMATCH
  else
    match seqCheck (uAt (s.flowState f) fsUpSeq 2) h.seq with
    | none => (s.upDrop f).inc Reg.QM_CTL_STALE
    | some (up, gaps) =>
      let b := patch (s.flowState f) fsUpSeq (be 2 up ++ timeBytes stamp)
      let s := s.setFlowState f (bump fsUpGaps 2 gaps b)
      let (col, pass, s) := if fcUmeter c then s.meterFrame (fcMeterUp c) false h.colour data.length
        else (h.colour, true, s)
      if pass then s.toHost (fcUpVc c) { flow := f, colour := col, stamp := stamp, data := data } else s.upDrop f

/-! ## The flow cache (R349) -/

/-- A frame of a flow goes on. -/
def State.runWaiter (s : State) : Waiter → State
  | .down f _ _ b => s.downFrame f b
  | .upFrame p h t b => s.upFrame p h t b

/-- A frame is taken by the flow and meter engine (R349): it goes on with the cached context, or waits for the fill behind
the frames of its flow. -/
def State.toFlow (s : State) (w : Waiter) : State :=
  match s.cached w.flow with
  | some l => ((s.inc Reg.QM_CTL_CACHE_HITS).useLine l).runWaiter w
  | none =>
    let s := s.inc Reg.QM_CTL_CACHE_MISSES
    (s.setQm fun fld => { fld with waiters := s.qm.waiters ++ [w] })

/-- A frame reaches the flow and meter engine: it is taken with the others of its refill tick (R352). -/
def State.toEngine (s : State) (w : Waiter) : State :=
  s.setQm fun fld => { fld with arrivals := s.qm.arrivals ++ [(w, false)] }

/-- Of two frames of a refill tick the one with the lower arrival stamp goes first, then the one of the lower source number
(R352). -/
def arrivesBefore (x y : Waiter × Bool) : Bool :=
  decide (x.1.stamp < y.1.stamp ∨ (x.1.stamp = y.1.stamp ∧ x.1.source ≤ y.1.source))

/-- The refill tick in progress ends: the frames that reached the engine in it are taken in their order (R352). -/
def State.takeArrivals (s : State) : State :=
  (s.qm.arrivals.mergeSort arrivesBefore).foldl (fun s x => if x.2 then s.runWaiter x.1 else s.toFlow x.1)
    (s.setQm fun fld => { fld with arrivals := [] })

/-! ## The head of a queue (R326, R327, R359) -/

/-- The port of a queue (R356). -/
def queuePort (q : Nat) : Port := ⟨q / 128 % 32, Nat.mod_lt _ (by decide)⟩

/-- Association a flow's downstream frames are protected by; 0 for none. -/
def State.flowSa (s : State) (f : Nat) : Nat := fcSa (s.rdB Reg.FLOW_control 0 f)

/-- Association of a queued frame: that of its flow, and, once it has begun, that of its first fragment (R137). -/
def State.frameSa (s : State) (f : QFrame) : Nat := if f.begun then f.sa else s.flowSa f.flow

/-- The pace of a downstream frame (R120, R359). -/
def State.framePace (s : State) (p : Port) (f : Nat) : Nat :=
  if flowStation f = 255 then s.floorPace p else s.rdN Reg.LP_STATION_downstream_pace p (flowStation f)

/-- Air time of n plaintext bytes of a queued frame (R101, R140). -/
def State.frameAir (s : State) (p : Port) (f : QFrame) (n : Nat) : Int :=
  airLong (s.port p).band (s.framePace p f.flow) (if s.frameSa f = 0 then n else n + 14)

/-- The head of a queue may be sent in fragments (R326). -/
def State.fragments (s : State) (q : Nat) : Bool := s.flag Reg.QUEUE_fragmentation 0 q

/-- Oversize for the schedule (R327): no DOWN or DUPLEX window of the operating itinerary that opens the class is long
enough. -/
def State.oversize (s : State) (q : Nat) (f : QFrame) : Bool :=
  let p := queuePort q
  let air := s.frameAir p f (if s.fragments q then min 64 f.left else f.left)
  (s.opWindows p).all fun w =>
    !((winType w.1 == wDown || winType w.1 == wDuplex) && bit (winMask w.1) (s.rdN Reg.QUEUE_class 0 q))
      || decide (w.2.2 - s.rd Reg.ITIN_CTL_guard p * 1000 < air)

/-- The station of a frame cannot take it (R359): unreachable, its association unusable, or protection required. -/
def State.unreachable (s : State) (p : Port) (f : QFrame) : Bool :=
  let a := flowStation f.flow
  let sa := s.frameSa f
  if a = 255 then (s.stationsBy p fun x => decide (x = 3 ∨ x = 4)).isEmpty
  else decide (s.rd Reg.LP_STATION_state p a ≤ 2)
    || (if sa = 0 then (s.elem p a).security
        else decide (s.rd Reg.LP_SA_state p sa ≠ 1 ∨ s.rd Reg.LP_SA_station p sa ≠ a))

/-- The head of a queue is discarded and counted. -/
def State.dropHead (s : State) (q : Nat) (f : QFrame) (count : State → State) : State :=
  count (((s.setQueue q ((s.queue q).drop 1)).freeBuffers 1).downDrop f.flow)

/-- The check of the head frame of a queue (R359, R327); a frame judged too large for the schedule is dropped as well. -/
def State.headCheck (s : State) (q : Nat) : State :=
  let p := queuePort q
  match s.queue q with
  | [] => s
  | f :: _ =>
    let age := s.rd Reg.QUEUE_maximum_sojourn 0 q
    if age ≠ 0 ∧ !f.begun ∧ f.enqueued + age < s.now then s.dropHead q f (·.inc Reg.QUEUE_AGED 0 q)
    else if s.unreachable p f then s.dropHead q f (·.inc Reg.QUEUE_UNREACHABLE 0 q)
    else if !f.judged ∧ s.oversize q f then s.dropHead q f (·.inc Reg.ITIN_CTL_OVERSIZE p)
    else s.setHead q fun f => { f with judged := true }

/-- The frames of a queue are checked until one stays at its head. -/
def State.headChecks (s : State) (q : Nat) : State :=
  (s.queue q).foldl (fun t f => if (t.queue q).head? = some f then t.headCheck q else t) s

/-- What of a queue's head can be sent so as to end on or before the limit (R324, R326): its plaintext bytes, and whether
they end the frame. -/
def State.plan (s : State) (p : Port) (q : Nat) (limit : Stamp) : Option (Nat × Bool) :=
  match s.queue q with
  | [] => none
  | f :: _ =>
    let fitsN (n : Nat) : Bool := decide (s.now + s.frameAir p f n ≤ limit)
    if fitsN f.left then some (f.left, true)
    else if s.fragments q ∧ f.fragNo < 23 then
      ((List.range f.left).reverse.find? fun n => decide (64 ≤ n) && fitsN n).map fun n => (n, false)
    else none

/-! ## Picking a queue (R361, R362) -/

/-- A queue of a port is offered in a window of this class mask: enabled, not empty, open, its credit not negative
(R361, R365), its association able to protect another frame (R142). -/
def State.offered (s : State) (p : Port) (mask q : Nat) : Bool :=
  s.flag Reg.QUEUE_enable 0 q && bit mask (s.rdN Reg.QUEUE_class 0 q)
    && (!s.flag Reg.SHAPER_enable 0 q || decide (0 ≤ s.rd Reg.SHAPER_credit 0 q))
    && match s.queue q with
       | [] => false
       | f :: _ => decide (s.frameSa f = 0) || s.canProtect p (s.frameSa f)

/-- The weighted round robin of R362 over the eligible local queues with the bytes each would send: the queue picked,
the pointer, the deficits and the credited queues after it. -/
def dwrr (el : List (Nat × Nat)) (quantum : Nat → Nat) :
    Nat → Nat → List (Nat × Nat) → List Nat → Option Nat × Nat × List (Nat × Nat) × List Nat
  | 0, ptr, d, c => (none, ptr, d, c)
  | fuel + 1, ptr, d, c =>
    let next := if ptr = 127 then 8 else ptr + 1
    match el.find? fun e => e.1 == ptr with
    | none => dwrr el quantum fuel next d (c.filter (· ≠ ptr))
    | some e =>
      let have' := Store.get 0 d ptr + (if c.contains ptr then 0 else quantum ptr)
      if e.2 ≤ have' then (some ptr, ptr, Store.put 0 d ptr (have' - e.2), if c.contains ptr then c else ptr :: c)
      else dwrr el quantum fuel next (Store.put 0 d ptr have') (c.filter (· ≠ ptr))

/-- The queues of a port that hold frames, local numbers ascending. -/
def State.backlogged (s : State) (p : Port) : List Nat :=
  (s.qm.queues.filter fun e => e.1 / 128 == p.val).map fun e => e.1 % 128

/-- The device picks a queue of the port (R361, R362): heads are checked, heads that neither fit nor fragment count as
held once (R326), and the queue picked is answered with what it sends. -/
def State.pick (s : State) (p : Port) (mask : Nat) (limit : Stamp) : Option (Nat × Nat × Bool) × State :=
  let base := p.val * 128
  let s := (s.backlogged p).foldl (fun s i => s.headChecks (base + i)) s
  let off := (s.backlogged p).filter fun i => s.offered p mask (base + i)
  let plans := off.filterMap fun i => (s.plan p (base + i) limit).map fun x => (i, x)
  let s := off.foldl (fun s i =>
    if plans.any fun x => x.1 == i then s
    else if (s.queue (base + i)).head?.any fun f => f.held then s
    else (s.setHead (base + i) fun f => { f with held := true }).inc Reg.ITIN_CTL_HELD p) s
  match plans.find? fun x => decide (x.1 < 8) with
  | some (i, n, last) => (some (base + i, n, last), s)
  | none =>
    if plans = [] then (none, s)
    else
      let q := s.port p
      let deficits := plans.filterMap fun x =>
        let v := s.rdN Reg.QUEUE_deficit 0 (base + x.1)
        if v = 0 then none else some (x.1, v)
      let (pick, ptr, d, c) := dwrr (plans.map fun x => (x.1, x.2.1)) (fun i => s.rdN Reg.QUEUE_quantum 0 (base + i)) 3200
        q.dwrr deficits q.credited
      let s := s.setPort p fun q => { q with dwrr := ptr, credited := c }
      let s := plans.foldl (fun s x => s.wr Reg.QUEUE_deficit 0 (base + x.1) (Store.get 0 d x.1 : Nat)) s
      match pick.bind fun i => plans.find? fun x => x.1 == i with
      | some (i, n, last) => (some (base + i, n, last), s)
      | none => (none, s)

/-- The head of a queue, or a fragment of it, begins transmission (R326, R346). -/
def State.sendQueued (s : State) (p : Port) (q n : Nat) (last : Bool) : State :=
  match s.queue q with
  | [] => s
  | f :: rest =>
    let sa := s.frameSa f
    let seq := if f.begun then f.seq else uAt (s.flowState f.flow) fsDownSeq 2 % 4096
    let s := if f.begun then s
      else
        let b := patch (s.flowState f.flow) fsDownSeq (be 2 ((seq + 1) % 4096))
        s.setFlowState f.flow (bump fsDownBytes 8 f.data.length (bump fsDownFrames 4 1 b))
    let frag := if f.begun then (if last then 3 else 2) else (if last then 0 else 1)
    let h : Header := { downHeader (flowStation f.flow) tyData (s.framePace p f.flow) with
      colour := f.colour, sa := sa, tag := flowTag f.flow, frag := frag, fragNo := f.fragNo, seq := seq }
    let s := s.sendSecured p h (slice f.data f.sent n)
    let s := s.setPort p fun x => { x with txQueue := some q, txLast := last }
    let s := if f.begun ∨ last then s else s.inc Reg.ITIN_CTL_FRAGMENTED p
    if last then s.setQueue q rest
    else s.setQueue q ({ f with sent := f.sent + n, fragNo := f.fragNo + 1, begun := true, seq := seq, sa := sa } :: rest)

end Sys2Proof.Machine
end

