-- ==== Sys2Proof/Machine/ItinOps.lean ====
section
/-! DEFINITION. Windows and what the device sends in them: BEACON and GRANT planned and built, the transmissions of a
free instant, the beginning of a window, the switch to a new itinerary (chapters 05 and 07). -/

namespace Sys2Proof.Machine

/-! ## The windows to come (R316, R330, R331) -/

/-- A window to come: its element, start and end, and whether it belongs to the pending itinerary. -/
structure Win where
  elem : Nat
  start : Stamp
  finish : Stamp
  pending : Bool
  deriving DecidableEq, Repr

/-- The switch instant of an armed itinerary. -/
def State.switchAt (s : State) (p : Port) : Option Stamp :=
  if s.rd Reg.ITIN_CTL_state p = 1 then some (s.rd Reg.ITIN_CTL_switch p) else none

/-- One cycle of windows after the one in progress; an armed switch ends the old ones, and a cycle of the pending
itinerary follows. -/
def State.schedule (s : State) (p : Port) : List Win :=
  let q := s.port p
  let n := max 1 (s.rdN Reg.ITIN_OP_count p)
  let old := layout ((List.range n).map fun i => s.rdN Reg.ITIN_OP_windows p ((q.winIdx + 1 + i) % n)) q.winEnd
  match s.switchAt p with
  | none => old.map fun w => ⟨w.1, w.2.1, w.2.1 + w.2.2, false⟩
  | some x =>
    ((old.filter fun w => decide (w.2.1 < x)).map fun w => ⟨w.1, w.2.1, min (w.2.1 + w.2.2) x, false⟩)
      ++ (layout ((List.range (s.rdN Reg.ITIN_PEND_count p)).map fun i => s.rdN Reg.ITIN_PEND_windows p i) x).map fun w =>
        ⟨w.1, w.2.1, w.2.1 + w.2.2, true⟩

/-- The windows between the one in progress and the next DOWN window. -/
def State.ahead (s : State) (p : Port) : List Win := (s.schedule p).takeWhile fun w => winType w.elem != wDown

/-- A window type with access slots (R221). -/
def slotted (w : Nat) : Bool := winType w == wDiscover || winType w == wUpContend

/-- The guard before the end of a window, in ns (R324). -/
def State.guardTime (s : State) (p : Port) : Stamp := s.rd Reg.ITIN_CTL_guard p * 1000

/-- The window end minus the guard, or an armed switch if that is earlier (R324). -/
def State.hardLimit (s : State) (p : Port) : Stamp :=
  let e := (s.port p).winEnd - s.guardTime p
  match s.switchAt p with | none => e | some x => min e x

/-- The port's transmitter may be used: its state sends frames, VLD is in range (R562), the line is free and no sound
interval runs. -/
def State.mayTransmit (s : State) (p : Port) : Bool :=
  !s.power.vldBad && s.lineFree p && decide ((s.port p).sound.blankUntil ≤ s.now) && !(s.port p).cal.runBusy

/-! ## BEACON (R126, R214, R224, R225) -/

/-- The bell or the first BEACON after PARKED is still to be sent (R214). -/
def State.owes (s : State) (p : Port) : Bool := (s.port p).bellDue || (s.port p).beaconDue

/-- The DOWN window in progress closes with a BEACON (R224), not sent or counted yet. Nothing goes before the bell and
the first BEACON that the port owes (R214), so no span is reserved while it does. -/
def State.beaconWanted (s : State) (p : Port) : Bool :=
  let n := s.rdN Reg.ITIN_OP_count p
  let elem (i : Nat) : Nat := s.rdN Reg.ITIN_OP_windows p i
  s.accessState p && !s.owes p && winType (s.curWindow p) == wDown && decide ((s.port p).beaconFor ≠ some (s.port p).winStart)
    && ((s.ahead p).any (fun w => slotted w.elem)
      || ((List.range n).all (fun i => !slotted (elem i))
          && decide (lowest n (fun i => winType (elem i) == wDown) = some (s.port p).winIdx)))

/-- Where that BEACON goes: last in its window (R224, R324). -/
def State.beaconStart (s : State) (p : Port) : Stamp := s.hardLimit p - airLong (s.port p).band 0 40

/-- The next DISCOVER window after an instant: µs to its start and its length in µs; 0 when registration is closed or it
begins more than 10 s later (R225). -/
def State.nextDiscover (s : State) (p : Port) : Nat × Nat :=
  match (s.schedule p).find? fun w => winType w.elem == wDiscover && decide (s.now < w.start) with
  | some w =>
    if s.flag Reg.LP_ACCESS_registration_open p ∧ w.start - s.now ≤ 10000000000 then
      (((w.start - s.now) / 1000).toNat, ((w.finish - w.start) / 1000).toNat)
    else (0, 0)
  | none => (0, 0)

/-- The BEACON payload of now (Table 3.5, R225). -/
def State.beaconPayload (s : State) (p : Port) : Bytes :=
  let b := (s.port p).band
  let d := s.nextDiscover p
  let flag (o : Obj) (i : Nat) : Nat := b2n (s.flag o p) * 2 ^ i
  [0] ++ be 1 s.rst.straps.devnum.val ++ be 1 p.val ++ be 8 s.fuses.deviceId ++ timeBytes s.now ++ be 1 b.bw ++ be 1 b.n
    ++ be 1 b.prefixCode ++ be 2 b.centre ++ be 4 d.1 ++ be 4 d.2 ++ be 2 (s.rdN Reg.LP_QUIET_effective p)
    ++ be 1 (flag Reg.LP_ACCESS_security_required 0 + flag Reg.LP_ACCESS_duplex_allowed 1 + flag Reg.LP_ACCESS_bell_in_use 2
        + flag Reg.LP_ACCESS_registration_open 3)
    ++ be 1 (s.registered p).length ++ [0, 0]

/-- Sends a BEACON now; after a step of time the device names instants again (R333). -/
def State.sendBeacon (s : State) (p : Port) : State :=
  (s.sendFrame p (downHeader 255 tyBeacon 0) (s.beaconPayload p)).setPort p fun q => { q with lapsed := false }

/-! ## GRANT (R321 to R323, R588) -/

/-- A kept grant entry: grantee, start and length of its interval, its mask, whether it is DUPLEX. -/
structure Entry where
  a : Nat
  start : Stamp
  dur : Stamp
  mask : Nat
  duplex : Bool
  deriving DecidableEq, Repr

/-- Two intervals overlap in time. -/
def overlaps (s1 d1 s2 d2 : Int) : Bool := decide (s1 < s2 + d2 ∧ s2 < s1 + d1)

/-- The next ACTIVE station after one, wrapping after 254, that is not in a list (R321 step 2). -/
def State.nextActive (s : State) (p : Port) (after : Nat) (skip : List Nat) : Option Nat :=
  let act := (s.stationsBy p fun x => decide (x = 3)).filter fun a => !skip.contains a && !(s.elem p a).toRange
  match act.find? fun a => decide (after < a) with
  | some a => some a
  | none => act.head?

/-- Steps 1 to 3 of R321 for a granting window: the entries kept in list order, how many step 3 omitted, and the
station an open entry filled last. A station that is to be ranged again is not granted (R214); a GRANT of the old
itinerary that would name an instant at or after an armed switch has none (R331). -/
def State.entries (s : State) (p : Port) (w : Win) (openPtr : Nat) : List Entry × Nat × Nat :=
  let list := (List.range (winGrants w.elem)).map fun i =>
    s.rdN (if w.pending then Reg.ITIN_PEND_grants else Reg.ITIN_OP_grants) p (winFirst w.elem + i)
  let named := (list.map grantAddress).filter (· ≠ 0)
  let (kept, om, ptr, _) := list.foldl (fun (acc : List Entry × Nat × Nat × List Nat) g =>
    let (kept, om, ptr, named) := acc
    let a := if grantAddress g = 0 then (s.nextActive p ptr named).getD 0 else grantAddress g
    let (ptr, named) := if grantAddress g = 0 ∧ a ≠ 0 then (a, a :: named) else (ptr, named)
    if s.rd Reg.LP_STATION_state p a ≠ 3 ∨ (s.elem p a).toRange then (kept, om, ptr, named)
    else
      let mask := s.rdN Reg.LP_STATION_allotments p a
      let st := w.start + grantOffset g
      if kept.any fun k => overlaps k.start k.dur st (grantDuration g) && k.mask &&& mask != 0 then
        (kept, om + 1, ptr, named)
      else (kept ++ [⟨a, st, grantDuration g, mask, winType w.elem == wDuplex⟩], om, ptr, named))
    ([], 0, openPtr, named)
  let kept := match s.switchAt p with
    | some x => if !w.pending ∧ kept.any fun k => decide (x ≤ k.start) then [] else kept
    | none => kept
  (kept, om, ptr)

/-- A GRANT planned in the DOWN window in progress: the window it is for, its BASE, its payload, what it grants, what it
omits, the stations it acknowledges, the pointer of open entries after it. -/
structure GrantPlan where
  key : Stamp
  base : Stamp
  payload : Bytes
  count : Nat
  grants : List Granted
  omitted : Nat
  confirmed : List Nat
  openPtr : Nat
  deriving DecidableEq, Repr

/-- One 20-byte entry (Table 3.11). -/
def entryBytes (offset dur : Int) (a pace flags mask : Nat) : Bytes :=
  be 4 (offset / 1000).toNat ++ be 4 (dur / 1000).toNat ++ be 1 a ++ be 1 pace ++ be 1 flags ++ [0] ++ be 8 mask

/-- A GRANT for a window (R322, R323): placed as late as its limits allow from the entries kept by steps 1 to 3, the
announcements and the confirmations it carries; step 4 of R321 then shortens it, and a station whose CONFIRM awaits its entry
(`owed`) gets one of DURATION 0 where step 4 leaves it none (R323). DESIGN CHOICE (log entry 210): OFFSET is cut down
to whole µs, and the device awaits the instant that the entry names. -/
def State.planGrant (s : State) (p : Port) (limit key : Stamp) (es : List Entry) (om ptr : Nat) (announce : List Win)
    (confirms owed : List Nat) : GrantPlan :=
  let b := (s.port p).band
  let announce := announce.take (64 - es.length)
  let confirms := confirms.take (64 - es.length - announce.length)
  let n := es.length + announce.length + confirms.length
  let first := ((es.map fun e => e.start) ++ announce.map fun w => w.start).min?
  let finish := match first with | none => limit | some t => min limit (t - 5000000)
  let base := finish - airLong b (s.floorPace p) (12 + 20 * n)
  let kept := es.filter fun e => decide (e.start + e.dur ≤ base + b.reach)
  let kept' := kept.map fun e => e.a
  let confirms := confirms ++ owed.filter fun a => (es.any fun e => e.a == a) && !kept'.contains a
  let earliest := finish + 5000000
  let confirmAt := match (s.ahead p).find? fun w =>
      granting (winType w.elem) && decide (earliest ≤ w.start ∧ w.start ≤ base + b.reach) with
    | some w => w.start
    | none => earliest
  let pace (a : Nat) : Nat := s.rdN Reg.LP_STATION_upstream_pace p a
  let body := (kept.flatMap fun e => entryBytes (e.start - base) e.dur e.a (pace e.a) (b2n e.duplex) e.mask)
    ++ (announce.flatMap fun w => entryBytes (w.start - base) (w.finish - w.start) 255 0 0 0)
    ++ confirms.flatMap fun a => entryBytes (confirmAt - base + 999) 0 a (pace a) 0 (s.rdN Reg.LP_STATION_allotments p a)
  let m := kept.length + announce.length + confirms.length
  { key := key, base := base, payload := [0] ++ be 1 m ++ timeBytes base ++ body, count := m,
    grants := (kept.filter fun e => decide (0 < e.dur)).map fun e =>
      { a := e.a, at' := base + (e.start - base) / 1000 * 1000, finish := e.start + e.dur, mask := e.mask,
        pace := pace e.a, duplex := e.duplex },
    omitted := om + (es.length - kept.length), confirmed := confirms, openPtr := ptr }

/-- The GRANTs still to be sent in the DOWN window in progress, earliest first (R322, R323): those of the windows ahead,
placed from the last one backwards, the last carrying announcements and confirmations; or one GRANT of only such. -/
def State.grantPlans (s : State) (p : Port) : List GrantPlan :=
  let q := s.port p
  if s.stopped || s.owes p || !(s.accessState p && winType (s.curWindow p) == wDown) then []
  else
    let limit := if s.beaconWanted p then s.beaconStart p else s.hardLimit p
    let wins := (s.ahead p).filter fun w => granting (winType w.elem) && !q.grantFor.contains w.start
    let (sets, _) := wins.foldl (fun (acc : List (Win × List Entry × Nat × Nat) × Nat) w =>
      let (es, om, ptr) := s.entries p w acc.2
      (if es = [] then acc.1 else acc.1 ++ [(w, es, om, ptr)], ptr)) ([], q.openPtr)
    let announce := (s.ahead p).filter fun w => winType w.elem == wUpContend && !w.pending && !q.grantFor.contains w.start
    let named := sets.flatMap fun x => x.2.1.map fun e => e.a
    let confirms := q.confirms.filter fun a => !named.contains a
    if sets = [] then
      if (announce = [] ∧ confirms = []) ∨ q.grantFor.contains q.winStart then []
      else [s.planGrant p limit q.winStart [] 0 q.openPtr announce confirms []]
    else
      let n := sets.length
      (sets.zipIdx.reverse.foldl (fun (acc : List GrantPlan × Stamp) x =>
        let (w, es, om, ptr) := x.1
        let g := if x.2 + 1 = n then s.planGrant p acc.2 w.start es om ptr announce confirms q.confirms
          else s.planGrant p acc.2 w.start es om ptr [] [] q.confirms
        (g :: acc.1, g.base)) ([], limit)).1

/-- Stations that a GRANT names with a CONFIRM awaiting its acknowledgement become ACTIVE (R234, R348). -/
def State.confirmStation (s : State) (p : Port) (a : Nat) : State :=
  let s := s.setPort p fun q => { q with confirms := q.confirms.filter (· ≠ a) }
  if s.rd Reg.LP_STATION_state p a = 2 then
    ((s.wr Reg.LP_STATION_state p a 3).stationRecord p a 0 0).clearSeq p a
  else s

/-- The instants of a GRANT plan have passed, or it is being sent: its window is not planned for again. -/
def State.grantHandled (s : State) (p : Port) (g : GrantPlan) : State :=
  let last := (s.grantPlans p).getLast?.map (·.key) = some g.key
  let announced := if last then ((s.ahead p).filter fun w => winType w.elem == wUpContend).map (·.start) else []
  s.setPort p fun q => { q with grantFor := g.key :: announced ++ q.grantFor, openPtr := g.openPtr }

/-- Upstream signal is expected in the intervals granted (R170). -/
def State.expectUp (s : State) (p : Port) (l : List Granted) : State :=
  let mono (t : Stamp) : Stamp := s.time.mono + (t - s.now)
  s.setPort p fun q => { q with upSpans := l.map (fun g => (mono g.at', mono g.finish)) ++ s.recent q.upSpans }

/-- Sends a GRANT now, its BASE (R215, R322): it grants its intervals, counts its omissions, acknowledges CONFIRMs. -/
def State.sendGrant (s : State) (p : Port) (g : GrantPlan) : State :=
  let s := (s.grantHandled p g).inc Reg.ITIN_CTL_GRANT_OMITTED p 0 g.omitted
  if g.count = 0 then s
  else
    let named := g.confirmed ++ (s.port p).confirms.filter fun a => g.grants.any fun x => x.a == a
    let s := s.sendFrame p (downHeader 255 tyGrant (s.floorPace p)) g.payload
    let s := (s.setPort p fun q => { q with lapsed := false, grants := q.grants ++ g.grants }).expectUp p g.grants
    named.foldl (fun s a => s.confirmStation p a) s

/-! ## A free instant (R324, R325, R179, R180) -/

/-- The end a transmission of a DOWN window must keep: the hard limit, or the next reserved span (R324). -/
def State.downLimit (s : State) (p : Port) : Stamp :=
  let spans := (if s.beaconWanted p then [s.beaconStart p] else []) ++ (s.grantPlans p).map fun g => g.base
  (spans.filter fun t => decide (s.now ≤ t)).foldl min (s.hardLimit p)

/-- Stations with an access slot or instant of their own in a window (R237). -/
def State.takenSlots (s : State) (p : Port) : List Stamp :=
  (s.registered p).filterMap fun a => (s.elem p a).rangeAt

/-- AT of a RANGE REQ sent now (R219, R237): the first access slot in a DISCOVER or UP-CONTEND window ahead that no other
station was given, at least 5 ms after the REQ ends and within reach of the BEACON that closes the DOWN window. -/
def State.rangeSlot (s : State) (p : Port) : Option Stamp :=
  let b := (s.port p).band
  let ready := s.now + airLong b 0 12 + 5000000
  let taken := s.takenSlots p
  ((s.ahead p).filter fun w => slotted w.elem).findSome? fun w =>
    let n := ((w.finish - w.start) / slotLength b).toNat
    ((List.range n).map fun k => w.start + k * slotLength b).find? fun t =>
      decide (ready ≤ t ∧ t ≤ s.beaconStart p + b.reach) && !taken.contains t

/-- The rank of a control frame at a free instant: REG answers, RANGE REQ (rank 1, made on the spot), ADJ, RELEASE, MGMT
(R325). -/
def CtlFrame.rank (f : CtlFrame) : Nat :=
  if f.regAnswer then 0 else if f.type = tyRange then 2 else if f.type = tyReg then 3 else 4

/-- Pace of a control frame (R120): MGMT at the station's pace, the rest at pace 0. -/
def State.ctlPace (s : State) (p : Port) (f : CtlFrame) : Nat :=
  if f.type = tyMgmt then s.rdN Reg.LP_STATION_downstream_pace p f.dst else 0

/-- Air time of a control frame. -/
def State.ctlAir (s : State) (p : Port) (f : CtlFrame) : Int :=
  airLong (s.port p).band (s.ctlPace p f) (f.payload.length + if f.sa = 0 then 0 else 14)

/-- Sends a control frame now: a MGMT request takes its SEQ (R112) and its deadline (R157), an ASSIGN or ADJ starts its
station's windows anew (R235), a REFUSE is recorded (Table 5.9). -/
def State.sendCtl (s : State) (p : Port) (f : CtlFrame) : State :=
  let s := s.setPort p fun q => { q with ctl := q.ctl.erase f }
  let (seq, s) := if f.type = tyMgmt then s.takeSeq p f.dst f.tag else (0, s)
  let h := { downHeader f.dst f.type (s.ctlPace p f) with sa := f.sa, tag := f.tag, seq := seq }
  let s := s.sendSecured p h f.payload
  if f.type = tyMgmt then s.arm (.mgmt p.val f.dst) (s.now + s.rd Reg.LP_ACQ_management_timeout p)
  else if f.type = tyRange then s.setElem p f.dst fun e => { e with windows := 0, arrived := false }
  else if f.regAnswer ∧ uAt f.payload 0 1 = 2 then
    s.setElem p (uAt f.payload 9 1) fun e => { e with windows := 0, arrived := false, toRange := true }
  else if f.regAnswer then
    s.issue (srcLine p) 0x0502 (be 1 p.val ++ [0, 5] ++ slice f.payload 1 1 ++ slice f.payload 2 8 ++ [0, 0, 0, 0])
  else s

/-- Sends a RANGE REQ for an instant; it counts as an attempt (R237). -/
def State.sendRange (s : State) (p : Port) (a : Nat) (t : Stamp) : State :=
  (s.sendFrame p (downHeader a tyRange 0) ([1, 0] ++ timeBytes t)).setElem p a fun e =>
    { e with rangeAt := some t, attempts := e.attempts + 1 }

/-- Stations whose RANGE REQ is due, but in a restart of the steward (Table 12.6): to be ranged, attempts left, none
outstanding or its RESP overdue by 1.8 ms (R237). -/
def State.rangeDue (s : State) (p : Port) : List Nat :=
  (s.registered p).filter fun a =>
    let e := s.elem p a
    s.steward && e.toRange && !e.outOfRange && decide (e.attempts < s.rdN Reg.LP_ACCESS_ranging_attempts p)
      && e.rangeAt.all (fun t => decide (t + airLong (s.port p).band 0 8 + 1800000 < s.now))
      && !(s.port p).ctl.any fun f => f.dst == a && f.type == tyRange

/-- A training burst of up to eight symbols that end on or before the limit (R97). -/
def State.sendBurst (s : State) (p : Port) (limit : Stamp) : State :=
  let b := (s.port p).band
  let sym : Int := ((b.size + b.cp) * b.ns : Nat)
  let fits (k : Nat) : Bool := decide (s.now + (k : Int) * sym ≤ limit)
  match ([8, 7, 6, 5, 4, 3, 2, 1] : List Nat).find? fits with
  | none => s
  | some n =>
    s.transmit p (n * sym) .burst (.burst p s.now b n (s.rd Reg.LP_TX_effective p) (s.shaping p)) [2, n] []

/-- A training burst that ends on or before an instant (R97, R200). On a port in QUIET it lies between refresh cycles, which
take precedence (R191, R194). -/
def State.trainingBurst (s : State) (p : Port) (limit : Stamp) : State :=
  let q := (s.port p).quiet
  if s.portState p ≠ stQuiet then s.sendBurst p limit
  else if q.lastEnd ≤ s.now ∧ s.now < q.next then s.sendBurst p (min limit q.next)
  else s

/-- R179 but for the frame's destination. -/
def State.duplexAdmitted (s : State) (p : Port) : Bool :=
  decide (5 * s.rd Reg.LP_EC_duplex_threshold p ≤ s.rd Reg.LP_EC_ERLE p ∧ s.rd Reg.LP_EC_ERLE_stamp p ≤ s.now
    ∧ s.rd Reg.LP_EC_ERLE_stamp p ≠ 0 ∧ s.rd Reg.LP_EC_state p = ecTracking ∧ 1 ≤ s.rd Reg.LP_HYBRID_source p)

/-- A queued frame is picked and begins, as far as one is eligible (R325 item 3). -/
def State.sendPicked (s : State) (p : Port) (limit : Stamp) : Option State × State :=
  if s.stopped then (none, s)
  else
  let (x, t) := s.pick p (winMask (s.curWindow p)) limit
  match x with
  | some (q, n, last) => (some (t.sendQueued p q n last), t)
  | none => (none, t)

/-- What a free instant of a DOWN window begins (R214, R325, R337). -/
def State.downInstant (s : State) (p : Port) : State :=
  let limit := s.downLimit p
  let fits (d : Int) : Bool := decide (s.now + d ≤ limit)
  let q := s.port p
  let training := s.dpdTrains p || q.ec.retraining
  if s.portState p = stCal then (if s.dpdTrains p then s.trainingBurst p limit else s)
  else if s.portState p = stQuiet then (if q.ec.retraining then s.trainingBurst p limit else s)
  else if !s.accessState p then s
  else if q.bellDue then
    if fits 16384000 then
      (s.transmit p 16384000 .bell (.bell p s.now (s.rd Reg.LP_TX_effective p) (s.shaping p)) [1] []).setPort p fun q =>
        { q with bellDue := false }
    else s
  else if q.beaconDue then
    if fits (airLong q.band 0 40) then (s.sendBeacon p).setPort p fun q => { q with beaconDue := false } else s
  else
    let due := q.ctl.filter fun f => fits (s.ctlAir p f) && (f.sa == 0 || s.canProtect p f.sa)
    let range := if q.lapsed ∨ !fits (airLong q.band 0 12) then none
      else (s.rangeDue p).head?.bind fun a => (s.rangeSlot p).map fun t => (a, t)
    match due.find? fun f => f.rank == 0 with
    | some f => s.sendCtl p f
    | none =>
      match range with
      | some (a, t) => s.sendRange p a t
      | none =>
        match ([2, 3, 4] : List Nat).findSome? fun r => due.find? fun f => f.rank == r with
        | some f => s.sendCtl p f
        | none =>
          if s.portState p = stService then
            match s.sendPicked p limit with
            | (some t, _) => t
            | (none, t) => if training ∧ (t.backlogged p) = [] then t.sendBurst p limit else t
          else if training ∧ s.backlogged p = [] then s.sendBurst p limit else s

/-- What a free instant of a DUPLEX window begins: frames admitted by R179; a failure ends downstream frames in the window
and counts it (R180). -/
def State.duplexInstant (s : State) (p : Port) : State :=
  if s.portState p ≠ stService ∨ (s.port p).duplexBlocked ∨ s.stopped then s
  else
    match s.pick p (winMask (s.curWindow p)) (s.hardLimit p) with
    | (none, t) => t
    | (some (q, n, last), t) =>
      let a := ((t.queue q).head?.map fun f => flowStation f.flow).getD 255
      if s.duplexAdmitted p ∧ a ≠ 255 ∧ (s.elem p a).duplex ∧ s.flag Reg.LP_ACCESS_duplex_allowed p then
        t.sendQueued p q n last
      else (t.setPort p fun x => { x with duplexBlocked := true }).cntLine p Reg.LP_EC_HALF_DUPLEX

/-! ## Windows begin (R200, R203, R212, R285, R316, R331) -/

/-- Quiet entry at the start of a DOWN window (R212): at once while allotments are disjoint, else one notice; after
PARKED once every station has been ranged again or released. -/
def State.quietEntry (s : State) (p : Port) : State :=
  let q := s.port p
  if s.portState p ≠ stService ∨ !q.quietReq ∨ (q.quiet.resumed && (s.registered p).any fun a => (s.elem p a).toRange) then s
  else
    match s.sharedAllotment p with
    | some g =>
      if q.quiet.noticed then s
      else (s.raiseLine p 0x05 g).setPort p fun q => { q with quiet := { q.quiet with noticed := true } }
    | none =>
      let s := (s.toState p stQuiet 0).setPort p fun q =>
        { q with quiet := { next := q.winStart, lastU := q.winStart, lastEnd := q.winStart } }
      (s.quietSnapshot p).updateInterval p

/-- A scheduled retrain begins at the start of a DOWN window (R200, R203): the canceller enters TRAINING. -/
def State.retrainBegin (s : State) (p : Port) : State :=
  let q := (s.port p).ec
  if q.retrainScheduled ∧ !q.retraining ∧ (s.portState p = stQuiet ∨ s.portState p = stService) then
    (s.ecTrain p).setEc p fun q => { q with retraining := true, restored := false }
  else s

/-- Answers to REQUESTs that did not fit the DOWN window that ends are given up (R231); the element of an ASSIGN is
freed. -/
def State.dropAnswers (s : State) (p : Port) : State :=
  let late := (s.port p).ctl.filter fun f => f.regAnswer
  let s := s.setPort p fun q => { q with ctl := q.ctl.filter fun f => !f.regAnswer }
  late.foldl (fun s f => if uAt f.payload 0 1 = 2 then s.freeStation p (uAt f.payload 9 1) 0 else s) s

/-- The window in progress ends: its engine is free, its slots have passed (R235), its intervals are over. -/
def State.endWindow (s : State) (p : Port) : State :=
  let w := s.curWindow p
  let s := s.freeEngine p
  let s := if winType w = wDown then s.dropAnswers p else s
  let s := if slotted w then (s.registered p).foldl (fun s a => s.setElem p a fun e => { e with windows := e.windows + 1 }) s
    else s
  s.setPort p fun q => { q with grants := q.grants.filter fun g => decide (s.now < g.finish), duplexBlocked := false,
                                grantFor := [], beaconFor := none }

/-- What a window's type begins on the port. -/
def State.openWindow (s : State) (p : Port) : State :=
  let t := winType (s.curWindow p)
  if t = wSound then s.beginSound p
  else if t = wDown then (((s.quietEntry p).retrainBegin p).tryFocus p).tryRun p
  else if t = wQuiet then (s.tryFocus p).tryRun p
  else s

/-- A window of the operating itinerary begins (R316); `counts` says that a cycle begins with it (R333). -/
def State.beginWindow (s : State) (p : Port) (i : Nat) (start finish : Stamp) (counts : Bool) : State :=
  let s := s.endWindow p
  let s := s.setPort p fun q => { q with winIdx := i, winStart := start, winEnd := finish }
  let s := s.wr Reg.ITIN_CTL_window p 0 i
  (if counts then s.inc Reg.ITIN_CTL_CYCLES p else s).openWindow p

/-- The window that an instant falls in begins, whole or part-way (R333). -/
def State.resumeWindow (s : State) (p : Port) : State :=
  let (i, start, finish) := s.windowAt p s.now
  s.beginWindow p i start finish (decide (i = 0 ∧ start = s.now))

/-- ITIN_SWITCH (R331, R332): the pending itinerary becomes the operating one, granted intervals that outlast the old
one are carried, heads are judged for size again (R327), and a window begins. `resumed` says that a step of time made it
begin part-way (R333). -/
def State.itinSwitch (s : State) (p : Port) (resumed : Bool) : State :=
  let old := (s.rd Reg.ITIN_CTL_switch p, s.rd Reg.ITIN_OP_base p, s.rd Reg.ITIN_OP_cycle p,
    (s.opWindows p).map fun w => w.1)
  let s := s.setPort p fun q => { q with prior := if resumed then none else some old }
  let s := (List.range 256).foldl (fun s e => s.wr Reg.ITIN_OP_windows p e (s.rd Reg.ITIN_PEND_windows p e)) s
  let s := (List.range 1024).foldl (fun s e => s.wr Reg.ITIN_OP_grants p e (s.rd Reg.ITIN_PEND_grants p e)) s
  let start := s.rd Reg.ITIN_CTL_switch p
  let s := ((s.wr Reg.ITIN_OP_count p 0 (s.rd Reg.ITIN_PEND_count p)).wr Reg.ITIN_OP_cycle p 0
    (s.rd Reg.ITIN_PEND_cycle p)).wr Reg.ITIN_OP_base p 0 (s.rd Reg.ITIN_PEND_base p)
  let s := (s.wr Reg.ITIN_CTL_arm p 0 0).wr Reg.ITIN_CTL_state p 0 0
  let longer := (s.port p).grants.filter fun g => decide (s.now < g.finish) && !g.carried
  let s := s.inc Reg.ITIN_CTL_GRANT_CARRIED p 0 longer.length
  let s := s.setPort p fun q => { q with armedAt := none, grants := q.grants.map fun g =>
    if s.now < g.finish then { g with carried := true } else g }
  let s := (s.backlogged p).foldl (fun s i => s.setHead (p.val * 128 + i) fun f => { f with judged := false }) s
  let s := (s.backlogged p).foldl (fun s i => s.headCheck (p.val * 128 + i)) s
  if resumed then s.resumeWindow p
  else s.beginWindow p 0 start (start + winDuration (s.rdN Reg.ITIN_OP_windows p 0)) true

end Sys2Proof.Machine
end

