-- ==== Sys2Proof/Machine/Merger.lean ====
section
/-! DEFINITION. The event merger (R42 to R47): records cross to it, are held for 64 µs, and leave in stamp order. -/

namespace Sys2Proof.Machine

/-- Two stamps closer than 16 ns from different islands (R42). -/
def concurrentWith (r : Rec) (stamp : Stamp) (source : Nat) : Bool :=
  decide ((r.stamp - stamp).natAbs < 16 ∧ islandOfSource r.source ≠ islandOfSource source)

/-- r goes before x: the lower stamp, then the lower source (R44, R45). -/
def Rec.before (r x : Rec) : Bool :=
  decide (r.stamp < x.stamp ∨ (r.stamp = x.stamp ∧ r.source < x.source))

/-- Puts r into a list in delivery order, behind the records it does not go before. -/
def insertRec (r : Rec) : List Rec → List Rec
  | [] => [r]
  | x :: l => if r.before x then r :: x :: l else x :: insertRec r l

/-- Records in delivery order; records equal in stamp and source keep their order (R45). -/
def sortRecs (l : List Rec) : List Rec := l.foldl (fun acc r => insertRec r acc) []

/-- Delivers one record in an EVENT parcel and counts it (R44, R47, Table 1.9). -/
def State.deliver (s : State) (r : Rec) : State :=
  let s := s.setMerge fun fld => { fld with delivered := (r.stamp, r.source) :: s.merge.delivered }
  let s := s.inc Reg.EVENTS_DELIVERED
  let s := if hasFlag r.flags evLate then s.inc Reg.EVENTS_LATE else s
  let s := if hasFlag r.flags evConcurrent then s.inc Reg.EVENTS_CONCURRENT else s
  (s.emit (.event r)).sendHost s.hostSide 2 1 r.bytes

/-- A record reaches the merger: CONCURRENT is set on it and on every record held that it is concurrent with; a record
already delivered keeps none (R42). The record is held. -/
def State.reach (s : State) (r : Rec) : State :=
  let hit := s.merge.held.any (fun x => concurrentWith x r.stamp r.source)
    || s.merge.delivered.any fun d => concurrentWith r d.1 d.2
  let held := s.merge.held.map fun x =>
    if concurrentWith x r.stamp r.source then { x with flags := withFlag x.flags evConcurrent } else x
  let r := if hit then { r with flags := withFlag r.flags evConcurrent } else r
  (s.setMerge fun fld => { fld with held := held ++ [r] })

/-- The oldest record of a source's island still crossing leaves the crossing: an island's records keep their order (R12,
R13, R43). -/
def takeFirst (source : Nat) : List Rec → Option (Rec × List Rec)
  | [] => none
  | r :: l => if islandOfSource r.source = islandOfSource source then some (r, l)
    else (takeFirst source l).map fun (x, rest) => (x, r :: rest)

/-- Delivers the records of a list in order. -/
def State.deliverAll (s : State) (l : List Rec) : State := l.foldl State.deliver s

/-- Delivers every record held or crossing at once, without LATE (R32 step 1). -/
def State.deliverEvery (s : State) : State :=
  let s := s.merge.crossing.foldl State.reach (s.setMerge fun fld => { fld with crossing := [] })
  let held := sortRecs s.merge.held
  (s.setMerge fun fld => { fld with held := [] }).deliverAll held

/-- EVENT_RECORD_ARRIVES (R42, R46): the oldest crossing record of a source's island reaches the merger, and is held, or is
delivered at once with LATE when more than 64 µs have passed since its stamp. -/
def execEventRecordArrives (source : Nat) (s : State) : Res :=
  match takeFirst source s.merge.crossing with
  | none => ok s
  | some (r, rest) =>
    let t := s.setMerge fun fld => { fld with crossing := rest }
    let u := t.reach r
    guarded s.runs s <|
      if s.now ≤ r.stamp + 64000 then u
      else
        match u.merge.held.getLast? with
        | some x => (u.setMerge fun fld => { fld with held := u.merge.held.dropLast }).deliver
            { x with flags := withFlag x.flags evLate }
        | none => u

/-- The records whose hold is over (R44). -/
def State.releasable (s : State) : List Rec := s.merge.held.filter fun r => decide (r.stamp + 64000 ≤ s.now)

/-- MERGE_RELEASE (R44, R45): station time has reached the stamp of a held record plus 64 µs; every such record is
delivered, by stamp, then by source. -/
def execMergeRelease (s : State) : Res :=
  guarded (s.runs ∧ s.releasable ≠ []) s
    ((s.setMerge fun fld => { fld with held := s.merge.held.filter fun r => decide (s.now < r.stamp + 64000) }).deliverAll
      (sortRecs s.releasable))

end Sys2Proof.Machine
end

