-- ==== Sys2Proof/Machine/TimeOps.lean ====
section
/-! DEFINITION. Station time: its bound, its discipline, a step of time and all that a step moves (R31 to R34, R155,
R333). -/

namespace Sys2Proof.Machine

/-- States of TIME_QUALITY /01 (Table 1.8). -/
def tqUnset : Int := 0
def tqLocked : Int := 1
def tqHoldover : Int := 2
def tqFreerun : Int := 3

/-- TIME_QUALITY /02 (R34, R481): nothing in UNSET, the largest of the last four offsets plus 8 ns in LOCKED, growing
from its base elsewhere. -/
def State.bound (s : State) : Int :=
  let q := s.rd Reg.TIME_QUALITY_state
  if q = tqUnset then 0
  else if q = tqLocked then ((s.time.offsets.map Int.natAbs).foldl max 0 : Nat) + 8
  else s.time.boundBase
    + s.rd (if s.time.onCounter then Reg.XLF_DRIFT else Reg.HOLDOVER_DRIFT) * (s.now - s.time.boundAt) / 1000000000

/-- The bound grows anew from its value now. -/
def State.rebound (s : State) : State :=
  (s.setTime fun fld => { fld with boundBase := s.bound.toNat, boundAt := s.now })

/-- TIME_QUALITY changes its state; the bound goes on from its last value (R34). -/
def State.quality (s : State) (q : Int) : State := s.rebound.wr Reg.TIME_QUALITY_state 0 0 q

/-! ## A step of time (R32, R155, R333) -/

/-- What a step of d moves on a port: start stamps and ends of what runs (R155); intervals and slots named before the
step lapse (R333). DESIGN CHOICE (log entry 202): the sync stamps of frames held or awaited across the step stay as they are,
though the deadlines they are compared with move; R155 moves deadlines and says nothing of stamps already taken. -/
def PortState.shift (q : PortState) (d : Int) : PortState :=
  { q with
    txStart := q.txStart + d, txEnd := q.txEnd + d, grants := [], lapsed := true, prior := none,
    detected := [], resumedAt := none, dpd := { q.dpd with counted := q.dpd.counted + d },
    elems := (q.elems.map fun e => (e.1, { e.2 with rangeAt := none })).filter fun e => decide (e.2 ≠ {}),
    ec := { q.ec with noiseAt := q.ec.noiseAt.map (· + d) },
    quiet := { q.quiet with next := q.quiet.next + d, lastU := q.quiet.lastU + d, lastEnd := q.quiet.lastEnd + d },
    sound := { q.sound with
      stepEnd := q.sound.stepEnd + d, sweepEnd := q.sound.sweepEnd.map (· + d), blankUntil := q.sound.blankUntil + d,
      lastHistory := q.sound.lastHistory.map (· + d),
      updates := q.sound.updates.map fun u => (u.1, u.2.1, u.2.2 + d) },
    dc := { q.dc with seen := q.dc.seen.map fun x => { x with stamp := x.stamp + d },
                      insulSeen := q.dc.insulSeen.map fun x => (x.1 + d, x.2), measureStart := q.dc.measureStart + d },
    cal := { q.cal with entered := q.cal.entered + d, dueAt := q.cal.dueAt + d, runEnd := q.cal.runEnd + d } }

/-- What a step of d moves on a Porfani port. -/
def PfState.shift (q : PfState) (d : Int) : PfState :=
  { q with lastFlow := q.lastFlow + d, lastRx := q.lastRx.map (· + d), lastTx := q.lastTx + d,
           delayT1 := q.delayT1.map (· + d) }

/-- DEADLINE_SHIFT (R155): the deadlines that have not passed, and the start stamps of what is being timed, move with
station time. Seconds and timer stamps that come again after the step drive TSYNC again (R40). -/
def State.shift (s : State) (old d : Int) : State :=
  { s with
    timers := s.timers.map fun t => if old ≤ t.2 then (t.1, t.2 + d) else t
    time := { s.time with boundAt := s.time.boundAt + d, tod := s.time.tod.map fun x => (x.1, x.2 + d),
                          lastSecond := -1, timerFired := none }
    ports := s.ports.map fun q => q.shift d
    pf := s.pf.map fun q => q.shift d
    qm := { s.qm with
      queues := s.qm.queues.map fun e => (e.1, e.2.map fun f => { f with enqueued := f.enqueued + d }),
      cache := s.qm.cache.map fun l => { l with writtenBack := l.writtenBack + d } }
    iz := { s.iz with acceptedAt := s.iz.acceptedAt + d }
    power := { s.power with wakeAt := s.power.wakeAt + d, stepAt := s.power.stepAt + d }
    casc := { s.casc with since := s.casc.since + d, managerAt := s.casc.managerAt + d }
    faults := { s.faults with
      pending := s.faults.pending.map fun f => { f with stamp := onGrid (f.stamp + d) },
      stewardAt := s.faults.stewardAt + d,
      corrected := s.faults.corrected.map fun e => (e.1, e.2.map (· + d)),
      laneErrors := s.faults.laneErrors.map (· + d) }
    rst := { s.rst with releasedAt := s.rst.releasedAt + d } }

/-- ITINERARY_TIME_STEP (R333): an armed switch that is due takes place, and the window that the new time falls in
begins part-way. -/
def State.portStep (s : State) (p : Port) : State :=
  match s.switchAt p with
  | some x => if x ≤ s.now then s.itinSwitch p true else s.resumeWindow p
  | none => s.resumeWindow p

/-- TIME_STEP (R32, R587): held and crossing records are delivered, the new time applies, the epoch increments, the
TIME_STEP record is issued. `source` is its SOURCE, `after` the state of TIME_QUALITY after the step. -/
def State.timeStep (s : State) (new : Stamp) (source : Nat) (after : Int) : State :=
  let old := s.time.now
  let s := s.deliverEvery
  let s := if s.rd Reg.TIME_QUALITY_state = after then s else s.quality after
  let s := (s.setTime fun fld => { fld with now := new, slew := 0, slewTicks := 0 }).shift old (new - old)
  let s := s.wr Reg.TIME_QUALITY_epoch 0 0 ((s.rd Reg.TIME_QUALITY_epoch + 1) % 65536)
  let s := s.issue srcTime 0x0101 (be 2 (s.rdN Reg.TIME_QUALITY_epoch) ++ beInt 8 (new - old) ++ be 1 source
    ++ beInt 1 after ++ [0, 0, 0, 0])
  (List.finRange 32).foldl State.portStep s

/-- Station time is compared with its source (R31, R33, R34): `offset` is the source less station time. -/
def State.discipline (s : State) (offset : Int) : State :=
  let st := s.rd Reg.TIME_QUALITY_state
  let big := decide (1000000 < offset.natAbs)
  let s := s.wr Reg.TIME_QUALITY_offset 0 0 offset
  let run := if offset.natAbs ≤ 100 then s.time.goodRun + 1 else 0
  let s := s.setTime fun fld => { fld with offsets := (offset :: s.time.offsets).take 4, goodRun := run }
  let s :=
    if st = tqUnset ∨ big then
      s.timeStep (s.time.now + offset) (s.rdN Reg.TIME_SOURCE) (if st = tqUnset ∨ st = tqLocked then tqFreerun else st)
    else
      let s := s.setTime fun fld => { fld with slew := offset, slewTicks := 0 }
      if st = tqLocked ∧ 1000 < offset.natAbs then s.quality tqFreerun
      else if st ≠ tqLocked ∧ 4 ≤ run ∧ s.rd Reg.TIME_SOURCE ≠ 2 then
        let s := s.quality tqLocked
        if s.time.everLocked then s
        else (s.setTime fun fld => { fld with everLocked := true }).arm .hmpOffer (s.now + 10000000000)
      else s
  s.arm .sourceLost (s.now + 3000000000)

end Sys2Proof.Machine
end

