-- ==== Sys2Proof/Machine/PfOps.lean ====
section
/-! DEFINITION. Operations of the Porfani ports and the cascade (chapter 09): full retrains, CAPS, entry to ACTIVE, heads
and host sides, link-local parcels; and the POWER record, which the entry to ACTIVE may issue. -/

namespace Sys2Proof.Machine

/-! ## Ports -/

/-- An ACTIVE link, a direction of which may be in electrical idle (R388). -/
def State.linkUp (s : State) (x : Side) : Bool := decide (s.pfState x = pfActive ∨ s.pfState x = pfIdle)

/-- ROLE and DEVNUM of the partner's latest CAPS block (Table 9.6). -/
def State.partnerRole (s : State) (x : Side) : Nat := field (uAt (s.rdB Reg.PF_PORT_partner x.n) 0 1) 2 1
def State.partnerDev (s : State) (x : Side) : Nat := field (uAt (s.rdB Reg.PF_PORT_partner x.n) 1 1) 7 4

/-- The port is ACTIVE to a host adapter (R408). -/
def State.toAdapter (s : State) (x : Side) : Bool := s.linkUp x && s.partnerRole x == 3

/-- The DOWN port is in use (R381). -/
def State.downUsed (s : State) : Bool := s.flag Reg.CASC_member || s.flag Reg.PF_CTL_DOWN_second_host

/-- The device runs far enough for its Porfani ports to be brought up (R577). -/
def State.pfRuns (s : State) : Bool := s.runs && s.rst.pllLocked && decide (s.power.wake ≠ 2)

/-- Every timeout of a Porfani port ends. -/
def State.pfQuietTimers (s : State) (x : Side) : State :=
  ((List.range 4).map fun k => Timer.pfBip (x.n * 4 + k)).foldl State.disarm
    ([Timer.pfDetect x.n, .pfTrain x.n, .pfLock x.n, .pfExchange x.n, .pfHoldoff x.n, .pfIdle x.n, .pfWidth x.n,
      .pfTest x.n, .pfReplay x.n, .pfDelay x.n].foldl State.disarm s)

/-- What of a Porfani port a new start in DETECT, or OFF, ends: its timeouts, its width and lanes, its sequences. What waits
to be sent goes on waiting. -/
def State.pfReset (s : State) (x : Side) : State :=
  let s := s.pfQuietTimers x
  let s := ((s.wr Reg.PF_PORT_width x.n 0 0).wr Reg.PF_PORT_rate x.n 0 255).wr Reg.PF_PORT_lane_map x.n 0 0
  s.setLink x fun q =>
    { q with sensed := 0, rate := s.rdN Reg.PF_CTL_rate_ceiling, rxReady := 0, partnerReady := 0, locked := 0, laced := 0,
             skews := [], caps := none, ackSent := false, ackSeen := false, incompatible := false, txWidth := 0,
             rxWidth := 0, partnerGood := 0, replay := [], nakSent := false, unacked := false, frozen := false,
             stalled := [], txIdle := false, rxIdle := false, burst := 0, dropping := false, delayT1 := none, delays := [],
             ceilWidth := s.rdN Reg.PF_CTL_width_ceiling, ceilRate := s.rdN Reg.PF_CTL_rate_ceiling,
             laneOf := [0, 1, 2, 3] }

/-- The port goes to DETECT with the ceilings in force (R381). -/
def State.pfToDetect (s : State) (x : Side) (cause : Nat) : State := (s.pfReset x).pfTo x pfDetect cause

/-! ## Heads (R408, R409, R415, R418) -/

/-- HOST_SIDE_CHANGE (R418): the frames of the old port's FIFOs, and what else waits there towards the host, move to the
new port; the old replay buffer is lost and counted; parcels away from the host that wait are lost. -/
def State.moveHostSide (s : State) (old new : Side) : State :=
  if old = new then s
  else
    let s := s.inc Reg.PF_PORT_REPLAY_LOST old.n 0 (s.link old).replay.length
    let up := (s.link old).sendQ.filter fun p => p.dir == 0
    let s := (s.setLink old fun q => { q with replay := [], sendQ := [], stalled := [] }).disarm (.pfReplay old.n)
    let s := s.setLink new fun q => { q with sendQ := (q.sendQ.filter fun p => p.dir == 0) ++ up }
    ((List.range 4).foldl (fun s vc =>
      (s.setFifo new vc (s.fifo new vc ++ s.fifo old vc)).setFifo old vc []) s).drain new

/-- Gives the device a host side. -/
def State.setHostSide (s : State) (x : Side) : State :=
  let old := s.hostSide
  (s.wr Reg.CASC_host_side 0 0 x.n).moveHostSide old x

/-- A HEAD record (Table 9.14). -/
def State.headRecord (s : State) (old cause : Nat) : State :=
  s.issue srcSteward 0x0902 (be 1 old ++ be 1 (s.rdN Reg.CASC_head) ++ be 1 (s.rdN Reg.CASC_host_side)
    ++ be 1 (s.rdN Reg.CASC_hops) ++ be 1 cause ++ be 1 (s.rdN Reg.CASC_ring) ++ [0, 0])

/-- HEAD_ADOPT (R409): the device takes a head whose PROBEs arrive on a port. -/
def State.adopt (s : State) (dev : Nat) (x : Side) (hops cause : Nat) : State :=
  let old := s.rdN Reg.CASC_head
  let s := (s.wr Reg.CASC_head 0 0 dev).wr Reg.CASC_hops 0 0 hops
  let s := s.setCasc fun fld => { fld with since := s.now, other := none }
  ((((s.setHostSide x).inc Reg.CASC_HEAD_CHANGES).headRecord old cause).disarm .otherProbe).arm .headProbe (s.now + 3000000)

/-- Acting roles of CASC /04. -/
def roleMember : Int := 0
def roleHead : Int := 1
def rolePassive : Int := 2

/-- The device acts as a head (R408). -/
def State.isHead (s : State) : Bool := decide (s.rd Reg.CASC_acting_role = roleHead)

/-- The highest logged severity of a fault that is not acknowledged, 0 for none (Tables 9.11 and 12.10). -/
def State.severity (s : State) : Nat :=
  (s.faults.logged.filter fun f => !f.acked).foldl (fun m f => max m f.severity) 0

/-- Writes a device's entry of the topology (Table 9.13). The head's own faults assert IRQ_N by R492, not by its own
entry. -/
def State.setTopology (s : State) (dev : Nat) (e : Bytes) : State :=
  let s := s.wrB Reg.CASC_topology 0 0 (patch (s.rdB Reg.CASC_topology) (4 * dev) e)
  (s.setCasc fun fld => { fld with
    stationSev := if 4 ≤ uAt e 2 1 ∧ dev ≠ s.rst.straps.devnum.val then dev :: s.casc.stationSev.filter (· ≠ dev)
                                               else s.casc.stationSev.filter (· ≠ dev) })

/-- A head's own entry (R411). -/
def State.ownTopology (s : State) : State := s.setTopology s.rst.straps.devnum.val ([0x80, 1] ++ be 1 s.severity ++ [0])

/-- The device becomes a head: its host side is its UP port (R409), its topology begins anew. -/
def State.becomeHead (s : State) : State :=
  let s := ((s.wr Reg.CASC_acting_role 0 0 roleHead).wr Reg.CASC_head 0 0 s.rst.straps.devnum.val).wr Reg.CASC_hops 0 0 0
  let s := (s.wr Reg.CASC_ring 0 0 0).wrB Reg.CASC_topology 0 0 []
  let s := s.setCasc fun fld => { fld with since := s.now, stationSev := [], duplicates := [] }
  ((((s.disarm .headProbe).arm .probeTx s.now).arm .timeTx s.now).setHostSide .up).ownTopology

/-- The device is a head no longer: a standby manager becomes PASSIVE, any other a MEMBER, without a head yet. -/
def State.leaveHead (s : State) : State :=
  let role := if s.rst.straps.role.val = 2 then rolePassive else roleMember
  let s := ((s.wr Reg.CASC_acting_role 0 0 role).wr Reg.CASC_head 0 0 255).wr Reg.CASC_hops 0 0 255
  let s := ((s.wr Reg.CASC_ring 0 0 0).wrB Reg.CASC_topology 0 0 []).wr Reg.CASC_host_side 0 0 255
  let s := s.setCasc fun fld => { fld with stationSev := [], duplicates := [] }
  (((List.range 16).map Timer.statusEntry).foldl State.disarm (((s.disarm .probeTx).disarm .timeTx).disarm .headProbe)).arm
    .statusTx s.now

/-- R408 after a change of the UP port or of the manager's part: a manager is a head while its UP port is ACTIVE to a host
adapter and it has not handed over; a standby manager that acts as head stays one while its UP port is. -/
def State.headRefresh (s : State) : State :=
  let up := s.toAdapter .up
  let manager := decide (s.rst.straps.role.val = 1) && !s.casc.handedOver
  if s.isHead then (if up ∧ (manager ∨ s.rst.straps.role.val = 2) then s else s.leaveHead)
  else if up ∧ manager then s.becomeHead else s

/-! ## Full retrain (R386) -/

/-- PF_FULL_RETRAIN (R386): the replay buffer is lost and counted, and the port begins anew in DETECT. -/
def State.fullRetrain (s : State) (x : Side) (cause : Nat) : State :=
  if s.pfState x = pfOff then s
  else
    (((s.inc Reg.PF_PORT_REPLAY_LOST x.n 0 (s.link x).replay.length).inc Reg.PF_PORT_RETRAINS x.n).pfToDetect x
      cause).headRefresh

/-! ## POWER record (R486) -/

/-- Issues a POWER record. -/
def State.powerRecord (s : State) (event target step code ports : Nat) : State :=
  s.issue srcPower 0x0B01 (be 1 event ++ be 1 target ++ be 1 step ++ [0] ++ be 4 code ++ be 4 ports ++ [0, 0, 0, 0])

/-- The POWER record of a wake that is owed (R476, R483): issued once no fault waits to be logged, so that it follows the
retention faults of the wake. -/
def State.wakeReport (s : State) : State :=
  if s.power.wakeOwed ∧ s.faults.pending = [] then
    (s.setPower fun fld => { fld with wakeOwed := false }).powerRecord 2 s.power.slept 0
      (s.rdN Reg.POWER_STATE_wake_cause) (s.rdN Reg.POWER_STATE_wake_ports)
  else s

/-- WAKE_HOST_ACTIVE (R477): the host-side port is ACTIVE after a wake; IRQ_N is released, and a wake from SLEEP or DEEP
is reported. -/
def State.hostActive (s : State) (x : Side) : State :=
  if s.power.irqWake ∧ x = s.hostSide then
    (s.setPower fun fld => { fld with irqWake := false, wakeOwed := true }).wakeReport
  else s

/-! ## CAPS and entry to ACTIVE (R383 to R385) -/

/-- The CAPS block a port sends, bytes 1 to 7 (Table 9.6). -/
def State.capsBytes (s : State) (x : Side) : Bytes :=
  let q := s.link x
  let role := if s.rst.straps.role.val = 3 then 0 else s.rst.straps.role.val
  let rate := s.rdN Reg.PF_CTL_rate_ceiling
  let width := s.rdN Reg.PF_CTL_width_ceiling
  be 1 (x.n * 8 + role * 2 + b2n (s.flag Reg.PF_CTL_DOWN_second_host))
    ++ be 1 (s.rst.straps.devnum.val * 16 + q.good)
    ++ be 1 (b2n (decide (2 ≤ rate)) * 128 + b2n (decide (1 ≤ rate)) * 64 + 32
        + b2n (decide (4 ≤ width)) * 16 + b2n (decide (2 ≤ width)) * 8 + 4)
    ++ be 1 (b2n q.ackSent * 128) ++ [0, 0, 0]

/-- Sends a CAPS block on every laced lane. -/
def State.sendCaps (s : State) (x : Side) : State := s.emit (.block x (s.link x).laced 0x33 (s.capsBytes x) 1)

/-- The ends of a link are compatible (Table 9.7). -/
def State.compatible (s : State) (x : Side) (caps : Bytes) : Bool :=
  let role := field (uAt caps 0 1) 2 1
  let down := bit (uAt caps 0 1) 3
  let differ := field (uAt caps 1 1) 7 4 != s.rst.straps.devnum.val
  if role = 3 then
    match x with
    | .up => true
    | .down => s.flag Reg.PF_CTL_DOWN_second_host && !s.flag Reg.CASC_member
  else
    match x, down with
    | .up, true => differ
    | .down, false => differ
    | .down, true => differ && (decide (s.rst.straps.role.val = 2) != (role == 2))
    | .up, false => false

/-- The largest width of 4, 2, 1 that both ends allow and the lanes reported good carry; 0 for none (R385). -/
def widthOf (ceil : Nat) (caps : Bytes) (good : Nat) : Nat :=
  ([(4, 4), (2, 3), (1, 2)].find? fun w =>
    decide (w.1 ≤ ceil) && bit (uAt caps 2 1) w.2 && decide (w.1 ≤ popCount 4 good)).elim 0 (·.1)

/-- The TX lanes of logical lanes 0 to width − 1: the lowest-numbered good ones (R385). -/
def lanesOf (width good : Nat) : List Nat := ((List.range 4).filter fun k => bit good k).take width

/-- The lane map of a width on the lowest-numbered good lanes (R385). -/
def laneMap (width good : Nat) : Nat := ((lanesOf width good).zipIdx.map fun x => x.1 * 4 ^ x.2).sum

/-- The lanes a port transmits on, in logical order, at its width and lane map. -/
def State.txLanes (s : State) (x : Side) : List Nat :=
  (List.range (s.link x).txWidth).map fun j => field (s.rdN Reg.PF_PORT_lane_map x.n) (2 * j + 1) (2 * j)

/-- Bytes 1 to 7 of a TRAIN block (Table 9.5): requests, RX_READY and status of a lane, its number, the rate code. -/
def trainBytes (requests : Nat) (ready : Bool) (status lane rate : Nat) : Bytes :=
  be 1 (requests * 4 + b2n ready * 2) ++ be 1 (status * 4) ++ be 1 lane ++ be 1 rate ++ [0, 0, 0]

/-- Sends FLOW (R403, Table 9.11): the last LSEQ accepted, the credit limits. -/
def State.sendFlow (s : State) (x : Side) (nak : Bool) : State :=
  let q := s.link x
  let s := s.sendLocal x ([1] ++ be 1 (b2n nak * 128) ++ be 2 ((q.rxSeq + 4095) % 4096)
    ++ (List.range 4).flatMap fun v => be 2 (q.freed.getD v 0 + 512))
  s.setLink x fun q => { q with lastFlow := s.now, unacked := false }

/-- The port enters ACTIVE (R385, R394, R402, R405): from bring-up its sequence, credits and replay buffer begin anew;
after a width drop they go on, and FLOW with NAK names what was accepted. -/
def State.enterActive (s : State) (x : Side) (tx rx : Nat) : State :=
  let q := s.link x
  let drop := q.dropping
  let s := s.setLink x fun q =>
    let q := { q with txWidth := tx, rxWidth := rx, frozen := false, dropping := false, txIdle := false,
                      rxIdle := false, burst := 0,
                      lastTx := s.now }
    if drop then q
    else { q with txSeq := 0, rxSeq := 0, replay := [], used := [0, 0, 0, 0], limits := [0, 0, 0, 0],
                  freed := [0, 0, 0, 0], stalled := [], nakSent := false, unacked := false, lastFlow := s.now, delays := [],
                  bipBase := (List.range 4).map fun k => s.rdN Reg.PF_LANE_BIP_ERRORS x.n k }
  let s := (s.wr Reg.PF_PORT_width x.n 0 tx).wr Reg.PF_PORT_lane_map x.n 0 (laneMap tx q.partnerGood)
  let s := (s.disarm (.pfExchange x.n)).disarm (.pfWidth x.n)
  let s := s.pfTo x pfActive (if drop then 1 else 0)
  let s := if drop then s.sendFlow x true
    else ((List.range 4).map fun k => Timer.pfBip (x.n * 4 + k)).foldl (fun s t => s.arm t (s.now + nsPerSec))
      (s.arm (.pfDelay x.n) s.now)
  let s : State := if x = .up then (s.setCasc fun fld => { fld with managerAt := s.now }) else s
  ((s.headRefresh).hostActive x).drain x

/-- EXCHANGE begins (R381): 10 ms for the CAPS exchange. -/
def State.toExchange (s : State) (x : Side) : State :=
  let s := (s.setLink x fun q => { q with caps := none, ackSent := false, ackSeen := false }).disarm (.pfLock x.n)
  ((s.pfTo x pfExchange 0).arm (.pfExchange x.n) (s.now + 10000000)).sendCaps x

/-- The fast-exit burst of R389: 128 TRAIN blocks and one eyelet on each lane of the transmit direction, given in
logical order. The parity an eyelet carries is over what the lane sent since the one before (R379), which the state
does not hold: a free value (log entry 216). -/
def State.fastBurst (s : State) (x : Side) (lanes : List Nat) : State :=
  lanes.zipIdx.foldl (fun s (k, j) =>
    let q := s.link x
    let (parity, s) := s.free 256
    (s.emit (.block x (2 ^ k) 0x2D (trainBytes 0 (bit q.rxReady k) 0 k q.rate) 128)).emit
      (.block x (2 ^ k) 0x4B ((eyelet j lanes.length parity).drop 1) 1)) s

/-- A width drop begins (R394, R395): credits freeze, the ends exchange CAPS again after a burst at the width of the
own transmit direction that R385 gives now, 100 µs are left. -/
def State.beginDrop (s : State) (x : Side) : State :=
  let s := s.setLink x fun q => { q with frozen := true, dropping := true, caps := none, ackSent := false, ackSeen := false }
  let s := (s.pfTo x pfExchange 1).arm (.pfWidth x.n) (s.now + 100000)
  let good := (s.link x).partnerGood
  (s.fastBurst x (lanesOf (widthOf (s.rdN Reg.PF_CTL_width_ceiling) (s.rdB Reg.PF_PORT_partner x.n) good) good)).sendCaps x

/-- Resends every unacknowledged parcel in LSEQ order, counted once (R404). -/
def State.resend (s : State) (x : Side) : State :=
  let l := (s.link x).replay
  if l = [] then s
  else ((l.foldl (fun s p => s.emit (.parcel x p)) s).inc Reg.PF_PORT_REPLAYS x.n).arm (.pfReplay x.n) (s.now + 20000)

/-! ## Forwarding (R410, R412, R464) -/

/-- The device originates and forwards PROBE and STATUS parcels: not from entry step 2 on (Table 11.4). -/
def State.cascRuns (s : State) : Bool := s.runs && !(decide (s.power.mode = 5) && decide (2 ≤ s.power.step))

/-- Sends a parcel on, out of a port that is in use; a port that is OFF takes none. -/
def State.forward (s : State) (x : Side) (p : Parcel) : State :=
  if s.pfState x = pfOff ∨ (x = .down ∧ !s.downUsed) then s else s.send x { p with lseq := 0 }

/-- A routed CTRL parcel away from the host that every device consumes (Table 9.11). -/
def bcastCtrl (payload : Bytes) : Parcel :=
  { type := 5, vc := 0, dir := 1, isLocal := false, devnum := 0, bcast := true, lseq := 0, payload := payload }

end Sys2Proof.Machine
end

