-- ==== Sys2Proof/Machine/PortOps.lean ====
section
/-! DEFINITION. Parking, resuming and changing the band of a port, for the commands of chapter 05 and for the power states
of chapter 11. -/

namespace Sys2Proof.Machine

/-- The state a port leaves PARKED for (Table 5.2). -/
def resumed (held : Nat) : Int :=
  if held = 1 ∨ held = 2 then stCheck else if held = 6 then stService else held

/-- What QUIET deferred for a station (R242): a misaligned one is MISALIGNED and is ranged again, a correction is sent. -/
def State.afterQuiet (s : State) (p : Port) (a : Nat) : State :=
  let e := s.elem p a
  let s := match e.deferAdj with
    | some d =>
      let power := s.powerAdj p (s.rd Reg.LP_STATION_received_level p a)
      s.queueCtl p { dst := a, type := tyRange, tag := 0, sa := 0, payload := adjPayload d power 0 }
    | none => s
  let s := if e.quietMis ∧ s.rd Reg.LP_STATION_state p a = 3 then s.wr Reg.LP_STATION_state p a 4 else s
  s.setElem p a fun x => { x with deferAdj := none, quietMis := false, toRange := x.toRange || e.quietMis,
                                  attempts := if e.quietMis then 0 else x.attempts }

/-- PORT_UNPARK (R207, R214, Table 4.6): the port leaves PARKED with its canceller training from the taps it holds; in
DISCOVER and SERVICE it sends the bell when it is in use, then a BEACON, and ranges every station again; what QUIET deferred
follows, and QUIET is entered again when they are ranged (R212). -/
def State.unpark (s : State) (p : Port) (cause : Nat) : State :=
  let new := resumed (s.port p).heldBefore
  let s := (s.ecTrain p).toState p new cause
  if new = stDiscover ∨ new = stService then
    let s := s.setPort p fun q => { q with bellDue := s.flag Reg.LP_ACCESS_bell_in_use p, beaconDue := true,
                                           quiet := { resumed := decide (new = stService) } }
    (s.registered p).foldl (fun s a =>
      (s.afterQuiet p a).setElem p a fun e => { e with toRange := true, rangeAt := none, attempts := 0, outOfRange := false }) s
  else s

/-- The port is parked (R207). -/
def State.park (s : State) (p : Port) (cause : Nat) : State := s.toState p stParked cause

/-- A port that entry to a power state parks: neither DOWN nor FENCED nor PARKED already (Table 11.4 step 2). -/
def State.parkable (s : State) (p : Port) : Bool :=
  decide (s.portState p ≠ stDown ∧ s.portState p ≠ stFenced ∧ s.portState p ≠ stParked)

/-- BAND_CHANGE (R187, R207, R213, Table 4.6): the registrations are released without a frame, every filter is CLEARED,
and a port that listens or serves listens again. -/
def State.changeBand (s : State) (p : Port) : State :=
  let st := s.portState p
  let s := (s.freeAll p).ecClear p
  let s := (s.setPort p fun q => { q with band := s.bandObj p, held := none, waiting := [], awaited := [],
                                          reasm := [], grants := [] }).computeLevel p
  if stListen ≤ st ∧ st ≤ stQuiet then s.toState p stListen 3
  else if st = stParked ∧ 4 ≤ (s.port p).heldBefore ∧ (s.port p).heldBefore ≤ 6 then
    s.setPort p fun q => { q with heldBefore := 3 }
  else s

/-- What a line engine has still to do about values that have reached its port (R48): the port goes DOWN, or is parked,
and takes its band. -/
def State.lineFollows (s : State) (p : Port) : State :=
  let s := if s.disableOwed p then s.toState p stDown 0 else s
  let s := if s.parkOwed p then s.park p 0 else s
  if s.bandOwed p then s.changeBand p else s

end Sys2Proof.Machine
end

