-- ==== Sys2Proof/Machine/AccessOps.lean ====
section
/-! DEFINITION. Station access at the device (R184 to R202, R223, R228 to R230, R240 to R247): frames of stations taken
in, registration, alignment, paces. -/

namespace Sys2Proof.Machine

/-! ## Frames taken in -/

/-- Whether a frame's payload holds its CRC-32 counts for its station (R246), and one that does arrives from it (R235,
R156). -/
def State.heard (s : State) (p : Port) (a : Nat) (crcOk : Bool) : State :=
  if s.rd Reg.LP_STATION_state p a = 0 then s
  else s.setElem p a fun e => { e with arrived := e.arrived || crcOk, failed := e.failed || !crcOk,
                                        failures := ((!crcOk) :: e.failures).take 1024 }

/-- The payload of an awaited frame is taken in: the equaliser learns from a long-form frame (R184, R186; a grant-form one
has taught it already), then the checks of R114, R121, R143, R144 follow. -/
def State.takeRx (s : State) (p : Port) (f : LineRx) : Option Bytes × State :=
  let h := Header.ofWord f.word
  let long := (s.port p).awaited.any fun x => x.sync == f.sync && x.word == f.word && x.long
  let good := (rxPayload f h).isSome
  let s := (s.resolve p f).heard p h.src good
  let s := if long then
      let s := s.eqHeard p h.src true f good
      if good ∧ s.rd Reg.LP_STATION_state p h.src ≠ 0 then s.eqMer p h.src f.mer f.snr else s
    else s
  s.receive p h f

/-- The port awaits this frame, and its header names a type. -/
def State.awaitsType (s : State) (p : Port) (f : LineRx) (ty : Nat) : Bool :=
  s.awaits p f && decide ((Header.ofWord f.word).type = ty)

/-! ## Paces (R243 to R247) -/

/-- S of R244 in 0.25 dB: the lowest of the known reference SNRs over the allotments of a mask; `none` with none known.
An unknown one counts as the mean of the known, which is no lower than their lowest. -/
def lowestSnr (mask : Nat) (snr : List Nat) : Option Nat :=
  (((List.range 64).filter fun g => bit mask g).map fun g => snr.getD g 255).filter (fun v => v != 255) |>.min?

/-- The raise a pace receives with G allotments, in 0.25 dB (R243): 3.0 dB for each doubling of 64·D/G. -/
def paceRaise (g pace : Nat) : Int := 12 * ((paceLogD pace : Int) + (6 - (Nat.log2 g : Int)))

/-- A pace qualifies (R244): S − 18 dB + r ≥ s_p + M, M in 0.5 dB. -/
def paceQualifies (snr : Option Nat) (g : Nat) (m : Int) (pace : Nat) : Bool :=
  match snr with
  | none => false
  | some v => decide (paceSnr pace + 2 * m ≤ (v : Int) - 72 + paceRaise g pace)

/-- The candidates of R244: advertised, at or below the ceiling, D within G. -/
def paceCandidates (paces ceiling g : Nat) : List Nat :=
  (List.range 24).filter fun p => bit paces p && decide (p ≤ ceiling ∧ paceD p ≤ g)

/-- The pace of a list with the largest η, the lower code on a tie; `none` of an empty list (R244). -/
def bestPace (l : List Nat) : Option Nat :=
  l.foldl (fun b p => match b with | some x => if paceEta x < paceEta p then some p else b | none => some p) none

/-- The lowest pace that G allotments allow: its D does not exceed G (R67). -/
def lowestPace (g : Nat) : Nat := (lowest 24 fun p => decide (paceD p ≤ g)).getD 0

/-- The pace where no candidate qualifies: pace 0 (R244); upstream R67 never lets D exceed G, so there it is the lowest
pace that G allows, the lowest candidate where there is one (DEDUCED, log entry 196). -/
def fallbackPace (g : Nat) (cands : List Nat) : Nat := if g = 64 then 0 else cands.headD (lowestPace g)

/-- The pace R244 chooses. -/
def choosePace (snr : Option Nat) (g : Nat) (m : Int) (cands : List Nat) : Nat :=
  (bestPace (cands.filter fun p => paceQualifies snr g m p)).getD (fallbackPace g cands)

/-- R247 for one direction but for frame errors: up when a larger η qualifies with the hysteresis and upward moves are not
refused, down when the present pace no longer qualifies. -/
def evaluatedPace (snr : Option Nat) (g : Nat) (m hyst : Int) (cands : List Nat) (noUp : Bool) (cur : Nat) : Nat :=
  let up := (bestPace (cands.filter fun p => paceQualifies snr g (m + hyst) p && decide (paceEta cur < paceEta p))).getD cur
  if paceEta cur < paceEta up ∧ !noUp then up
  else if cands.contains cur ∧ paceQualifies snr g m cur then cur
  else
    let low := choosePace snr g m cands
    if paceEta low < paceEta cur ∨ !cands.contains cur then low else cur

/-- R247 for one direction: a frame-error trigger that leaves the evaluation at the present pace moves one step down,
as far as a candidate lies below it. -/
def movePace (snr : Option Nat) (g : Nat) (m hyst : Int) (cands : List Nat) (errors noUp : Bool) (cur : Nat) : Nat :=
  let next := evaluatedPace snr g m hyst cands noUp cur
  if errors ∧ next = cur then (bestPace (cands.filter fun p => decide (paceEta p < paceEta cur))).getD cur else next

/-- A pace changes: its record and count (R247), the refresh interval (R192). -/
def State.setPace (s : State) (p : Port) (a : Nat) (o : Obj) (pace : Nat) : State :=
  if s.rdN o p a = pace then s
  else (((s.wr o p a pace).stationRecord p a 4 0).inc Reg.LP_ACCESS_PACE_CHANGES p).updateInterval p

/-- PACES and ceilings of a station's element. -/
def State.candidates (s : State) (p : Port) (a : Nat) (ceiling : Obj) (g : Nat) : List Nat :=
  paceCandidates (s.elem p a).paces (s.rdN ceiling p a) g

/-- The reference SNRs of LP_EQ /05 as numbers. -/
def State.upSnr (s : State) (p : Port) (a : Nat) : List Nat := (s.rdB Reg.LP_EQ_allotment_SNR p a).map fun b => b.toNat

/-- One direction of a station is evaluatedPace from its reference SNRs (R246 to R248): `g` its allotments, `o` and
`ceiling` the objects of its pace and ceiling, `t` the timer of refused upward moves, which runs for ten probe periods
from a frame-error trigger that leaves the evaluation at the present pace (R247). -/
def State.evalPace (s : State) (p : Port) (a : Nat) (snr : Option Nat) (g : Nat) (o ceiling : Obj) (t : Timer) (errors : Bool) :
    State :=
  let noUp := s.running t && !s.reached t
  let cur := s.rdN o p a
  let m := s.rd Reg.LP_ACCESS_margin p
  let hyst := s.rd Reg.LP_ACCESS_hysteresis p
  let cands := s.candidates p a ceiling g
  let s := if errors ∧ evaluatedPace snr g m hyst cands noUp cur = cur then
      s.arm t (s.now + 10 * s.rd Reg.LP_ACCESS_probe_period p * nsPerSec) else s
  s.setPace p a o (movePace snr g m hyst cands errors noUp cur)

/-- The upstream pace is evaluatedPace (R246 to R248). -/
def State.evalUp (s : State) (p : Port) (a : Nat) (errors : Bool) : State :=
  let mask := s.rdN Reg.LP_STATION_allotments p a
  s.evalPace p a (lowestSnr mask (s.upSnr p a)) (max 1 (popCount 64 mask)) Reg.LP_STATION_upstream_pace
    Reg.LP_STATION_upstream_ceiling (.noUp p.val a) errors

/-- The downstream pace is evaluatedPace (R246 to R248). -/
def State.evalDown (s : State) (p : Port) (a : Nat) (errors : Bool) : State :=
  s.evalPace p a (lowestSnr (2 ^ 64 - 1) (s.elem p a).dsSnr) 64 Reg.LP_STATION_downstream_pace
    Reg.LP_STATION_downstream_ceiling (.noDownUp p.val a) errors

/-! ## Registration (R223, R228 to R230) -/

/-- The access slot of a DISCOVER window that a REQUEST belongs to (R223): its start. -/
def State.requestSlot (s : State) (p : Port) (arrival : Stamp) : Option Stamp :=
  let t := arrival + 50000
  let (w, start, finish) := s.windowInForce p t
  let rs := slotLength (s.port p).band
  let k := (t - start) / rs
  if winType w = wDiscover ∧ k < (finish - start) / rs ∧ t - (start + k * rs) ≤ 500000 then
    some (start + k * rs)
  else none

/-- The comb of R229: G allotments, those with g mod (64/G) = r. -/
def combMask (g r : Nat) : Nat := ((List.range g).map fun k => 2 ^ (k * (64 / g) + r)).sum

/-- r of R229: the lowest whose allotments belong to nobody else, else the one held by the fewest, the lowest on a tie. -/
def chooseComb (g : Nat) (others : List Nat) : Nat :=
  let held (r : Nat) : Nat := (others.filter fun m => m &&& combMask g r != 0).length
  ((List.range (64 / g)).foldl (fun b r => if held r < held b then r else b) 0)

/-- What R228 answers a REQUEST: a refusal with its reason, or an address. -/
def State.registration (s : State) (p : Port) (caps : Bytes) : Except Nat Nat :=
  let uid := uAt caps 0 8
  let addrs := (List.range 255).drop 1
  let reserved := if uid = 0 then none
    else addrs.find? fun a => decide (s.rdN Reg.LP_STATION_reserved_identity p a = uid)
  if s.rd Reg.LP_ACCESS_admission p = 1 ∧ reserved = none then .error 3
  else if uAt caps 8 1 ≠ 0 ∨ uAt caps 9 1 < s.rdN Reg.LP_N p
      ∨ (s.flag Reg.LP_ACCESS_security_required p ∧ !bit (uAt caps 14 1) 1) then .error 2
  else
    match (s.registered p).find? fun a => decide (s.rdN Reg.LP_STATION_identity p a = uid) with
    | some a => .ok a
    | none =>
      match reserved with
      | some a => .ok a
      | none =>
        match addrs.find? fun a => decide (s.rd Reg.LP_STATION_state p a = 0
            ∧ s.rd Reg.LP_STATION_reserved_identity p a = 0) with
        | some a => .ok a
        | none => .error 1

/-- The registration of a REQUEST at an address (R187, R229, R230, R244): the element becomes RANGING and its ASSIGN is
queued. A REQ_ID counter begins at a random value (R451). -/
def State.assign (s : State) (p : Port) (a : Nat) (caps : Bytes) (f : LineRx) (slot : Stamp) : State :=
  let s := s.freeStation p a 0
  let b := (s.port p).band
  let own := s.rdN Reg.LP_STATION_grant_width p a
  let g := if own = 0 then s.rdN Reg.LP_ACCESS_grant_width p else own
  let others := (s.registered p).map fun x => s.rdN Reg.LP_STATION_allotments p x
  let mask := combMask g (chooseComb g others)
  let ta : Int := min b.maxTa (max 0 (roundDiv (f.sync - slot) b.ns))
  let paces := uAt caps 10 4
  let m := s.rd Reg.LP_ACCESS_margin p + 6
  let up := choosePace (lowestSnr mask f.snr) g m (paceCandidates paces (s.rdN Reg.LP_STATION_upstream_ceiling p a) g)
  let rx := uAt caps 17 1
  let down := choosePace (if rx = 255 then none else some rx) 64 m
    (paceCandidates paces (s.rdN Reg.LP_STATION_downstream_ceiling p a) 64)
  let fl := uAt caps 14 1
  let sec := s.flag Reg.LP_ACCESS_security_required p
  let dup := bit fl 0 && s.flag Reg.LP_ACCESS_duplex_allowed p
  let bell := bit fl 2 && s.flag Reg.LP_ACCESS_bell_in_use p
  let (req, s) := s.free 65536
  let s := [(Reg.LP_STATION_state, (1 : Int)), (Reg.LP_STATION_identity, (uAt caps 0 8 : Nat)),
    (Reg.LP_STATION_allotments, (mask : Nat)), (Reg.LP_STATION_timing_advance, ta),
    (Reg.LP_STATION_received_level, f.level), (Reg.LP_STATION_downstream_pace, (down : Nat)),
    (Reg.LP_STATION_upstream_pace, (up : Nat))].foldl (fun s x => s.wr x.1 p a x.2) s
  let s := (s.wrB Reg.LP_STATION_capabilities p a caps).eqClear p a
  let s := s.setElem p a fun _ => { security := sec, duplex := dup, bell := bell, paces := paces, reqId := req }
  let s := (s.updateInterval p).arm (.probe p.val a) (s.now + s.rd Reg.LP_ACCESS_probe_period p * nsPerSec)
  let payload := [2] ++ slice caps 0 8 ++ be 1 a ++ be 8 mask ++ be 2 ta.toNat ++ beInt 1 (s.powerStep p f.level) ++ be 1 up
    ++ be 1 (b2n sec + 2 * b2n dup + 4 * b2n bell) ++ [0]
  s.queueCtl p { dst := 255, type := tyReg, tag := 0, sa := 0, payload := payload, regAnswer := true }

/-! ## Alignment (R240 to R242) -/

/-- Queues an ADJ for a station. -/
def State.queueAdj (s : State) (p : Port) (a : Nat) (delta power : Int) (result : Nat) : State :=
  s.queueCtl p { dst := a, type := tyRange, tag := 0, sa := 0, payload := adjPayload delta power result }

/-- A correction: sent in the next DOWN window, deferred in QUIET (R241, R242); TA follows it. -/
def State.correct (s : State) (p : Port) (a : Nat) (delta power : Int) : State :=
  if s.portState p = stQuiet then s.setElem p a fun e => { e with deferAdj := some delta }
  else
    let ta := clamp 0 (s.port p).band.maxTa (s.rd Reg.LP_STATION_timing_advance p a + delta)
    (s.wr Reg.LP_STATION_timing_advance p a ta).queueAdj p a delta power 0

/-- A station is misaligned (R241), or so in QUIET (R242). -/
def State.misalign (s : State) (p : Port) (a : Nat) : State :=
  if s.portState p = stQuiet then
    if (s.elem p a).quietMis then s
    else ((s.setElem p a fun e => { e with quietMis := true }).stationRecord p a 2 0).raiseLine p 0x07 a
  else
    ((s.wr Reg.LP_STATION_state p a 4).stationRecord p a 2 0).setElem p a fun e =>
      { e with toRange := true, attempts := 0, rangeAt := none, outOfRange := false, offsets := [], lateOnce := false }

/-- The measurement of an aligned transmission is kept (R240, R241): e in samples against its instant, its level, and
whether e lies beyond P/4. -/
def State.measured (s : State) (p : Port) (a : Nat) (e level : Int) : State :=
  let x := s.elem p a
  let es := (e :: x.offsets).take 4
  let ls := (level :: x.levels).take 4
  let s := (s.wr Reg.LP_STATION_offset p a (roundDiv es.sum es.length)).wr Reg.LP_STATION_received_level p a
    (roundDiv ls.sum ls.length)
  s.setElem p a fun x =>
    { x with offsets := es, levels := ls, lateOnce := decide (((s.port p).band.cp : Int) < 4 * (e.natAbs : Int)) }

/-- An aligned transmission under a grant, or a REFRESH, is measured (R240, R241), and then the station is checked while it
is ACTIVE. -/
def State.aligned (s : State) (p : Port) (a : Nat) (e level : Int) : State :=
  let x := s.elem p a
  let es := (e :: x.offsets).take 4
  let ls := (level :: x.levels).take 4
  let s := s.measured p a e level
  let cp : Int := (s.port p).band.cp
  let late := decide (cp < 4 * (e.natAbs : Int))
  if s.rd Reg.LP_STATION_state p a ≠ 3 then s
  else if late ∧ x.lateOnce then s.misalign p a
  else
    let mean := decide (es.length = 4 ∧ 8 ≤ es.sum.natAbs ∧ (es.sum.natAbs : Int) ≤ cp)
    let off := decide (ls.length = 4 ∧ 60 < (4 * s.rd Reg.LP_ACCESS_target_level p - ls.sum).natAbs)
    let level' := roundDiv ls.sum ls.length
    let s := if mean then s.setElem p a fun x => { x with offsets := [] } else s
    let s := if off then s.setElem p a fun x => { x with levels := [] } else s
    if mean ∨ off then
      s.correct p a (if mean then roundDiv es.sum 4 else 0) (if off then s.powerStep p level' else s.powerAdj p level')
    else s

/-! ## Equalisers in QUIET (R196, R197, R199, R201, R202) -/

/-- A REFRESH of a station whose CRC-32 holds (R196): applied at the quiet step behind the gate, with leakage and the drift
test; at the training step after a restore. -/
def State.eqRefresh (s : State) (p : Port) (a : Nat) (f : LineRx) : State :=
  let q := s.eq p a
  let snap := q.snap.getD q.points
  let next (o : Obj) := leakAll (s.rdN Reg.LP_EC_quiet_leakage p) (eqUpdate (s.rdN o p) q.points f.obs) snap
  if (s.elem p a).quietMis ∨ (s.port p).ec.frozen then s
  else if s.rd Reg.LP_EQ_state p a ≠ ecQuiet then s.eqFrame p a false f true
  else if q.relearn then
    let w := next Reg.LP_EQ_CTL_training_step
    ((s.eqTake p a f w).setEq p a fun q => { q with snap := some w, relearn := false, gateFails := 0 }).cntLine p
      Reg.LP_QUIET_APPLIED
  else if f.mer < 5 * s.rd Reg.LP_QUIET_equaliser_gate p then
    let cycle := (s.port p).quiet.cycle
    (s.setEq p a fun q => { q with gateFails := failRun q.gateFails q.failedCycle cycle, failedCycle := cycle }).cntLine p
      Reg.LP_QUIET_GATED_OUT
  else
    let w := next Reg.LP_EQ_CTL_quiet_step
    let s := ((s.eqTake p a f w).setEq p a fun q => { q with gateFails := 0 }).cntLine p Reg.LP_QUIET_APPLIED
    if (driftOctave (s.port p).band (s.rdN Reg.LP_QUIET_drift_limit p) (pointPowers w) (pointPowers snap)).isSome then
      s.eqDriftRestore p a
    else s

/-! ## Grants (R115 to R118, R240) -/

/-- One grant-form frame found and measured under a grant: its payload is awaited, or, a REFRESH, taken in. -/
def State.grantFrame (s : State) (p : Port) (a : Nat) (f : LineRx) : State :=
  let h := Header.ofWord f.word
  let good := (rxPayload f h).isSome
  if h.type = tyRefresh then
    if s.portState p ≠ stQuiet then s
    else
      let s := if good then (s.eqMer p a f.mer f.snr).eqRefresh p a f else s
      ((s.heard p a good).receive p h f).2
  else
    let s := s.eqHeard p a false f good
    let s := if good then s.eqMer p a f.mer f.snr else s
    s.setPort p fun q => { q with awaited := q.awaited ++ [⟨f.sync, f.word, false⟩] }

/-- The frames of a grant in their order (R117, R118): each is awaited at the end of the one before it, and found
within ±P samples; the first whose header is not found or fails ends the search. Answers how many headers passed; each
of them is measured (R118, R240), a header error too (R111), which ends the search: what follows it has no known
place. DESIGN CHOICE (log entry 203): a header whose SRC is not the grantee is a header error as well. -/
def State.grantFrames (s : State) (p : Port) (g : Granted) : List LineRx → Stamp → Nat → Nat × State
  | [], _, n => (n, s)
  | f :: l, target, n =>
    let b := (s.port p).band
    let h := Header.ofWord f.word
    let width := popCount 64 g.mask
    if b.cp * b.ns < (f.sync - target).natAbs ∨ !f.headerOk ∨ !checkMatches f.word then (n, s)
    else
      let s := s.aligned p g.a (roundDiv (f.sync - target) b.ns) f.level
      if !headerLegalUp width h ∨ h.src ≠ g.a then (n + 1, s.cntLine p Reg.LP_RX_HEADER_ERROR)
      else State.grantFrames (s.grantFrame p g.a f) p g l (target + airGrant b width h.pace h.length) (n + 1)

end Sys2Proof.Machine
end

