-- ==== Sys2Proof/Machine/Frames.lean ====
section
/-! DEFINITION. Acquisition (chapter 03): syncs, captures, header decisions, reassembly deadlines, keys, bells. -/

namespace Sys2Proof.Machine

/-- Syncs waiting on the header decision of the held frame are lost (R151). -/
def State.loseWaiting (s : State) (p : Port) : State :=
  let n := (s.port p).waiting.length
  (s.setPort p fun q => { q with waiting := [] }).cntLine p Reg.LP_RX_IGNORED n

/-- SYNC_CAPTURE (R147, R151): the port acquires a sync: it is held when no frame is; one stronger by the capture margin
captures the held frame; any other waits on the held frame's header decision, or is lost once that has been taken. -/
def State.acquire (s : State) (p : Port) (y : SyncMeas) : State :=
  let ns : Int := (s.port p).band.ns
  let take (s : State) : State :=
    s.setPort p fun q => { q with held := some { sync := y.stamp, power := y.power }, syncSeen := true }
  match (s.port p).held with
  | none => take s
  | some h =>
    if h.header.isSome ∧ h.finish < y.stamp + 2560 * ns then take s
    else if h.power + 5 * s.rd Reg.LP_ACQ_capture_margin p ≤ y.power then
      let s := ((s.cntLine p Reg.LP_RX_CAPTURED).cntLine p Reg.LP_RX_CAPTURING).loseWaiting p
      take (s.setPort p fun q => { q with awaited := q.awaited.filter fun x => x.sync ≠ h.sync })
    else if h.header.isNone then
      s.setPort p fun q => { q with waiting := q.waiting ++ [y] }
    else s.cntLine p Reg.LP_RX_IGNORED

/-- The port stops holding its frame and re-examines its look-back buffer of 5,120 samples from the first sample after that
frame's sync run (R150, R153): a sync that began there or later is acquired, an earlier one is lost. -/
def State.reexamine (s : State) (p : Port) (h : Held) : State :=
  let ns : Int := (s.port p).band.ns
  let start := h.sync + 2560 * ns
  let later := (s.port p).waiting.filter fun y => decide (start ≤ y.stamp ∧ s.now - 5120 * ns ≤ y.stamp)
  let lost := (s.port p).waiting.length - later.length
  let s := (s.setPort p fun q => { q with held := none, waiting := [], resumedAt := some start }).cntLine p
    Reg.LP_RX_IGNORED lost
  later.foldl (fun s y => s.acquire p y) s

/-- Of the runs detected as one sync the stronger, of equal powers the earlier (R152). -/
def strongest (y : SyncMeas) (l : List SyncMeas) : SyncMeas :=
  l.foldl (fun b x => if b.power < x.power ∨ (b.power = x.power ∧ x.stamp < b.stamp) then x else b) y

/-- The sync that a run and the runs less than 8 samples from it are, as far as they reach a threshold in 0.1 dB (R148,
R152). -/
def oneSync (b : Band) (threshold : Int) (y : SyncRun) : SyncMeas :=
  strongest y.run (y.near.filter fun x => decide ((x.stamp - y.run.stamp).natAbs < 8 * b.ns ∧ threshold ≤ x.snr))

/-- SYNC_DETECT (R148, R150 to R152): a correlator detects a sync run at or above the threshold, on a port that hears
its line and whose receiver no sound interval blanks (R265) and no calibration run uses (R511, R514). With the runs
less than 8 samples from it, it is one sync. A run less than 8 samples from a sync already detected is that sync;
DEDUCED (log entry 205): one that began within a run the receiver has resumed after is detected and lost. -/
def execSyncDetect (p : Port) (y : SyncRun) (s : State) : Res :=
  let b := (s.port p).band
  let y := oneSync b (5 * s.rd Reg.LP_ACQ_sync_threshold p) y
  guarded (s.runs ∧ s.hears p ∧ !(s.port p).cal.runBusy ∧ 5 * s.rd Reg.LP_ACQ_sync_threshold p ≤ y.snr
      ∧ (s.port p).sound.blankUntil ≤ y.stamp
      ∧ (s.port p).detected.all fun t => decide (8 * b.ns ≤ (y.stamp - t).natAbs)) s <|
    let s := (s.cntLine p Reg.LP_RX_SYNC_DETECTED).setPort p fun q =>
      { q with detected := y.stamp :: q.detected.filter fun t => decide (y.stamp - 5120 * (b.ns : Int) ≤ t) }
    if (s.port p).resumedAt.any fun t => decide (t - 2560 * (b.ns : Int) ≤ y.stamp ∧ y.stamp < t) then
      s.cntLine p Reg.LP_RX_IGNORED
    else s.acquire p y

/-- FOREIGN_FRAME (R210): a frame with SRC 0 was heard; its record, its count, and in LISTEN a DEGRADE fault and a full
listen time again. The record's stamp is the frame's sync instant at the balls (R38). `beacon` is the payload when the
frame is a BEACON received without error. -/
def State.foreign (s : State) (p : Port) (sync : Stamp) (beacon : Option Bytes) : State :=
  let dev := (beacon.map fun b => uAt b 1 1).getD 0xFF
  let ident := (beacon.map fun b => uAt b 3 8).getD 0
  let s := s.issueAt (onGrid sync) (srcLine p) 0x0503 (be 1 p.val ++ be 1 dev ++ be 8 ident ++ [0, 0])
  let s := s.inc Reg.LP_ACCESS_FOREIGN p
  if s.portState p = stListen then
    (s.raiseLine p 0x02 dev).arm (.listen p.val) (s.now + s.rd Reg.LP_ACCESS_listen_time p * 1000000)
  else s

/-- HEADER_DECISION (R109, R111, R150, R153, R210): the receiver decodes the header of the frame it holds. A failed
check is a false sync; a frame in a granting window is misplaced; a header that breaks R111 is a header error; any
other goes on being held, and in DISCOVER and SERVICE, which receive frames of stations in long form (Table 5.1), its
payload is awaited. -/
def execHeaderDecision (p : Port) (word : Nat) (converged : Bool) (beacon : Option Bytes) (s : State) : Res :=
  match (s.port p).held with
  | none => ok s
  | some h =>
    guarded (s.runs ∧ s.hears p ∧ h.header = none) s <|
      if !converged ∨ !checkMatches word then (s.cntLine p Reg.LP_RX_FALSE_SYNC).reexamine p h
      else
        let hd := Header.ofWord word
        let isForeign := hd.src = 0
        let s := if isForeign then s.foreign p h.sync (if hd.type = tyBeacon then beacon else none) else s
        if granting (s.windowTypeAt p h.sync) then (s.cntLine p Reg.LP_RX_MISPLACED).reexamine p h
        else if !(if isForeign then headerLegalDown hd else headerLegalUp 64 hd) then
          (s.cntLine p Reg.LP_RX_HEADER_ERROR).reexamine p h
        else
          let fin := h.sync + airLong (s.port p).band hd.pace hd.length
          let s := s.loseWaiting p
          s.setPort p fun q => { q with
            held := some { h with header := some hd, finish := fin },
            awaited := if isForeign ∨ !s.accessState p then q.awaited else q.awaited ++ [⟨h.sync, word, true⟩] }

/-- Every frame of the port whose sync instant lies on or before a stamp is resolved (R156): a sync run that began by
then has been declared (R148), no such frame is held, waits or is awaited, and the grants whose frames may have begun
by then have been decoded (R118). -/
def State.resolvedTo (s : State) (p : Port) (t : Stamp) : Bool :=
  let q := s.port p
  decide (t + 2624 * (q.band.ns : Int) ≤ s.now)
    && (q.held.all fun h => decide (t < h.sync ∨ (h.header.isSome ∧ !q.awaited.any fun x => x.sync == h.sync)))
    && (q.waiting.all fun y => decide (t < y.stamp)) && (q.awaited.all fun x => decide (t < x.sync))
    && q.grants.all fun g => decide (t < g.at' - (q.band.cp * q.band.ns : Nat))

/-- REASSEMBLY_TIMEOUT (R138, R154, R156): no last fragment came in time; the reassembly is abandoned and counted. -/
def execReassemblyTimeout (p : Port) (src tag : Nat) (s : State) : Res :=
  let t := Timer.reassembly p.val src tag
  guarded (s.runs ∧ s.passed t ∧ (s.deadline t).any (s.resolvedTo p)) s
    ((s.dropReasm p src tag).cntLine p Reg.LP_RX_FRAG_ABORT)

/-- BELL_DETECT (R135, R265): 12 of 16 chirp intervals in alternation; the bell is counted in SERVICE, QUIET and
PARKED, in SLEEP too (R474), where the device runs nothing but its detectors; in DEEP it shows as line activity only.
A periodic recalibration run receives nothing (R514). -/
def execBellDetect (p : Port) (hits : List Bool) (s : State) : Res :=
  let st := s.portState p
  guarded ((s.runs ∨ (s.live ∧ s.power.mode = 2 ∧ s.power.detectors)) ∧ hits.length = 16
      ∧ 12 ≤ (hits.filter id).length ∧ (st = stService ∨ st = stQuiet ∨ st = stParked)
      ∧ (s.port p).sound.blankUntil ≤ s.now ∧ !((s.port p).cal.runBusy && (s.port p).cal.step == 5)) s
    (s.inc Reg.LP_RX_BELLS p)

/-- A key written to element e of LP_SA takes effect (R145, R146): both packet-number counters return to 0, and the next
commit may set them. -/
def State.applyKey (s : State) (p : Port) (e : Nat) (key : Bytes) : State :=
  let k := p.val * 256 + e
  let s := s.setIz fun fld => { fld with keyWrites := s.iz.keyWrites.filter fun y => y.1 ≠ k,
                                         keyFresh := k :: s.iz.keyFresh.filter (· ≠ k) }
  ((s.wrB Reg.LP_SA_key p e key).wr Reg.LP_SA_transmit_PN p e 0).wr Reg.LP_SA_receive_PN p e 0

/-- The WRITEs of keys of a port that have taken effect in full are answered (R429). -/
def State.answerKeys (s : State) (p : Port) : State :=
  let waits (d : Direct) : Bool :=
    decide (d.island ≠ .lineEngine p) || d.values.any fun v => s.iz.keyWrites.any fun k => k.1 == p.val * 256 + v.1.element
  let done := s.iz.direct.filter fun d => !waits d
  let s := s.setIz fun fld => { fld with direct := s.iz.direct.filter waits }
  done.foldl (fun s d => s.respond d.resp) s

/-- SA_KEY_WRITE (R145, R146, R429): a key written to element e of LP_SA takes effect at the line engine's apply point. -/
def execSaKeyWrite (p : Port) (e : Nat) (s : State) : Res :=
  match s.iz.keyWrites.find? fun x => x.1 = p.val * 256 + e with
  | none => ok s
  | some x => guarded (s.runs ∧ s.atApplyPoint p) s ((s.applyKey p e x.2).answerKeys p)

end Sys2Proof.Machine
end

