-- ==== Sys2Proof/Machine/Access.lean ====
section
/-! DEFINITION. Station access at the device (chapters 03 and 05): grants decoded, DATA and MGMT received, registration,
ranging, release, pace. -/

namespace Sys2Proof.Machine

/-! ## Frames of stations (R115 to R118, R211, R345, R157) -/

/-- GRANT_FORM_DECODE (R115 to R118, R240 to R242): the frames of station a under its grant at an instant. A grant without
a header that passes is counted. -/
def execGrantFormDecode (p : Port) (a : Nat) (at' : Stamp) (rx : List LineRx) (s : State) : Res :=
  match (s.port p).grants.find? fun g => g.a == a && decide (g.at' = at') with
  | none => ok s
  | some g =>
    guarded (s.runs ∧ s.hears p ∧ at' ≤ s.now) s <|
      let s := s.setPort p fun q => { q with grants := q.grants.erase g }
      let (n, s) := s.grantFrames p g rx at' 0
      if n = 0 then s.cntLine p Reg.LP_RX_GRANT_SILENT else s

/-- DATA_FRAME_RX (R136 to R144, R211, R345): an upstream DATA frame; a whole one, or the one its last fragment completes,
goes to its flow. DISCOVER accepts none. -/
def execDataFrameRx (p : Port) (f : LineRx) (s : State) : Res :=
  let h := Header.ofWord f.word
  guarded (s.runs ∧ s.hears p ∧ s.awaitsType p f tyData) s <|
    let (x, s) := s.takeRx p f
    match x with
    | none => s
    | some plain =>
      if s.portState p ≠ stService then s
      else
        let (whole, s) := s.fragment p h f.sync plain
        match whole with
        | some data => s.toEngine (.upFrame p h f.sync data)
        | none => s

/-- MGMT_RESPONSE_RX (R124, R157, R451): a response that matches the request outstanding and is in time answers the proxy
request; one late against the last attempt is counted. DESIGN CHOICE (log entry 206): the stamp of a response that comes in
fragments is that of its last one. -/
def execMgmtResponseRx (p : Port) (f : LineRx) (s : State) : Res :=
  let h := Header.ofWord f.word
  guarded (s.runs ∧ s.hears p ∧ s.awaitsType p f tyMgmt) s <|
    let (x, s) := s.takeRx p f
    let (whole, s) := match x with
      | some plain => s.fragment p h f.sync plain
      | none => (none, s)
    match whole with
    | none => s
    | some b =>
      let req := uAt b 1 2
      let t := Timer.mgmt p.val h.src
      if h.frag ≠ 0 ∧ !mgmtFormat true b then s.cntLine p Reg.LP_RX_FORMAT_ERROR
      else
        match (s.port p).outstanding.find? fun o => o.proxy.a == h.src && o.reqId == req with
        | some o =>
          if (s.deadline t).any fun d => decide (f.sync ≤ d) then
            let s := (s.setPort p fun q => { q with outstanding := q.outstanding.erase o }).disarm t
            (s.inc Reg.PROXY_STATS_ANSWERED p).answerProxy p o.proxy (uAt b 9 1) (b.drop 12)
          else if s.running t ∧ o.attempt = s.rdN Reg.LP_ACQ_management_retries p then s.cntLine p Reg.LP_RX_MGMT_LATE
          else s
        | none => if (s.elem p h.src).lateReqs.contains req then s.cntLine p Reg.LP_RX_MGMT_LATE else s

/-- The MGMT frame of a proxy request (Table 3.4, R451): protected under the lowest-numbered ACTIVE association bound to
the station, where there is one. -/
def State.mgmtFrame (s : State) (p : Port) (o : Outstanding) : CtlFrame :=
  let x := o.proxy
  { dst := x.a, type := tyMgmt, tag := 127, sa := (s.associationOf p x.a).getD 0,
    payload := be 1 (if x.write then 2 else 1) ++ be 2 o.reqId ++ be 2 x.rIndex ++ be 1 x.rSub ++ be 3 x.rElement ++ [0]
      ++ be 2 x.data.length ++ x.data }

/-- MGMT_TIMEOUT (R154, R156, R157, R451): no response in time; the request is repeated, or the proxy answers TIMEOUT. -/
def execMgmtTimeout (p : Port) (a : Nat) (s : State) : Res :=
  let t := Timer.mgmt p.val a
  match (s.port p).outstanding.find? fun o => o.proxy.a == a with
  | none => ok s
  | some o =>
    guarded (s.runs ∧ s.passed t ∧ (s.deadline t).any (s.resolvedTo p)) s <|
      let s := s.disarm t
      if o.attempt < s.rdN Reg.LP_ACQ_management_retries p then
        let o' := { o with attempt := o.attempt + 1 }
        (s.setPort p fun q => { q with outstanding := q.outstanding.map fun x => if x = o then o' else x }).queueCtl p
          (s.mgmtFrame p o')
      else
        let s := (s.setPort p fun q => { q with outstanding := q.outstanding.erase o }).setElem p a fun e =>
          { e with lateReqs := o.reqId :: e.lateReqs }
        (s.inc Reg.PROXY_STATS_TIMEOUTS p).answerProxy p o.proxy stTimeout

/-- PROXY_DISPATCH (R451): the station's next queued request is sent once none is outstanding. -/
def execProxyDispatch (p : Port) (a : Nat) (s : State) : Res :=
  match (s.port p).proxies.find? fun x => x.a == a with
  | none => ok s
  | some x =>
    guarded (s.runs ∧ s.portState p = stService ∧ !(s.port p).outstanding.any fun o => o.proxy.a == a) s <|
      let o : Outstanding := { proxy := x, reqId := ((s.elem p a).reqId + 1) % 65536, attempt := 0 }
      let s := s.setElem p a fun e => { e with reqId := o.reqId, lateReqs := e.lateReqs.filter (· ≠ o.reqId) }
      let s := s.setPort p fun q => { q with proxies := q.proxies.erase x, outstanding := q.outstanding ++ [o] }
      (s.inc Reg.PROXY_STATS_SENT p).queueCtl p (s.mgmtFrame p o)

/-! ## Registration (R223, R228 to R236) -/

/-- The payload of an awaited REG or RANGE frame whose checks all pass, and its first byte. -/
def State.subtypeIs (_ : State) (f : LineRx) (sub : Nat) : Bool :=
  let h := Header.ofWord f.word
  match rxPayload f h with
  | some b => !formatOk true h b || decide (uAt b 0 1 = sub)
  | none => true

/-- REG_REQUEST_RX (R223, R228 to R231): a REQUEST in an access slot of a DISCOVER window is answered in the DOWN window
after it; one that fits no slot is counted. During a restart of the steward none is answered (Table 12.6). -/
def execRegRequestRx (p : Port) (f : LineRx) (s : State) : Res :=
  guarded (s.runs ∧ s.accessState p ∧ s.awaitsType p f tyReg ∧ (Header.ofWord f.word).src = 255) s <|
    let (x, s) := s.takeRx p f
    match x with
    | none => s
    | some b =>
      let caps := slice b 2 20
      match s.requestSlot p f.sync with
      | none => s.inc Reg.LP_ACCESS_REQ_UNSLOTTED p
      | some slot =>
        if !s.steward then s
        else match s.registration p caps with
        | .error reason =>
          s.queueCtl p { dst := 255, type := tyReg, tag := 0, sa := 0, payload := regShort 5 reason (uAt caps 0 8),
                         regAnswer := true }
        | .ok a => s.assign p a caps f slot

/-- REG_CONFIRM_RX (R234): a CONFIRM that names the identity registered at its SRC is acknowledged by a GRANT entry; any
other is discarded, and every one during a restart of the steward (Table 12.6). -/
def execRegConfirmRx (p : Port) (f : LineRx) (s : State) : Res :=
  let a := (Header.ofWord f.word).src
  guarded (s.runs ∧ s.accessState p ∧ s.awaitsType p f tyReg ∧ a ≠ 255 ∧ s.subtypeIs f 3) s <|
    let (x, s) := s.takeRx p f
    match x with
    | none => s
    | some b =>
      if !s.steward ∨ s.rd Reg.LP_STATION_state p a = 0 ∨ s.rdN Reg.LP_STATION_identity p a ≠ uAt b 2 8 then s
      else
        let s := if s.rd Reg.LP_STATION_state p a = 2 then s.wr Reg.LP_STATION_registered p a f.sync else s
        if (s.port p).confirms.contains a then s else s.setPort p fun q => { q with confirms := q.confirms ++ [a] }

/-- STATION_RELEASE_RX (R236): a RELEASE that names the identity registered at its SRC frees the element. -/
def execStationReleaseRx (p : Port) (f : LineRx) (s : State) : Res :=
  let a := (Header.ofWord f.word).src
  guarded (s.runs ∧ s.accessState p ∧ s.awaitsType p f tyReg ∧ a ≠ 255 ∧ s.subtypeIs f 4) s <|
    let (x, s) := s.takeRx p f
    match x with
    | none => s
    | some b => if s.rdN Reg.LP_STATION_identity p a = uAt b 2 8 then s.freeStation p a (uAt b 1 1) else s

/-- ELEMENT_EXPIRE (R235): six DISCOVER and UP-CONTEND windows without a frame from a station that is RANGING or
CONFIRMING. -/
def execElementExpire (p : Port) (a : Nat) (s : State) : Res :=
  let st := s.rd Reg.LP_STATION_state p a
  guarded (s.runs ∧ (st = 1 ∨ st = 2) ∧ 6 ≤ (s.elem p a).windows ∧ !(s.elem p a).arrived) s (s.freeStation p a 0)

/-- The element is freed and a RELEASE goes to the station (R236, R237). -/
def State.release (s : State) (p : Port) (a reason : Nat) : State :=
  let uid := s.rdN Reg.LP_STATION_identity p a
  (s.freeStation p a reason).queueCtl p { dst := a, type := tyReg, tag := 0, sa := 0, payload := regShort 4 reason uid }

/-- HOST_RELEASE (R236): LP_STATION /12 = 1 in force; the object is cleared. -/
def execHostRelease (p : Port) (a : Nat) (s : State) : Res :=
  guarded (s.runs ∧ s.flag Reg.LP_STATION_release p a ∧ s.atApplyPoint p) s <|
    let s := s.wr Reg.LP_STATION_release p a 0
    if s.rd Reg.LP_STATION_state p a = 0 then s else s.release p a 4

/-! ## Ranging (R237 to R239, R241) -/

/-- RANGE_RESP_RX (R237, R239 to R241): e of the RESP against AT is measured; the ADJ with its RESULT goes out in the first
DOWN window after it, and what was measured before it is kept no longer. Ranging pauses while the steward restarts
(Table 12.6). -/
def execRangeRespRx (p : Port) (f : LineRx) (s : State) : Res :=
  let a := (Header.ofWord f.word).src
  guarded (s.runs ∧ s.accessState p ∧ s.awaitsType p f tyRange) s <|
    let (x, s) := s.takeRx p f
    match if s.steward then (s.elem p a).rangeAt else none with
    | none => s
    | some t =>
      let band := (s.port p).band
      let e := roundDiv (f.sync - t) band.ns
      let again := (s.elem p a).lateOnce
      let s := s.measured p a e f.level
      let s := if s.rd Reg.LP_STATION_state p a = 3 ∧ again ∧ (s.elem p a).lateOnce then s.misalign p a else s
      match x with
      | none => s
      | some b =>
        let s := s.wr Reg.LP_STATION_level_used p a (sAt b 4 2)
        let ta : Int := uAt b 2 2 + e
        let result := if e.natAbs ≤ 1 then 0 else if ta < 0 ∨ (band.maxTa : Int) < ta then 2 else 1
        let s := if result = 2 then s else s.wr Reg.LP_STATION_timing_advance p a (max 0 ta)
        let st := s.rd Reg.LP_STATION_state p a
        let s := s.setElem p a fun x =>
          { x with rangeAt := none, outOfRange := decide (result = 2), toRange := decide (result ≠ 0),
                   attempts := if result = 0 then 0 else x.attempts, offsets := [], levels := [] }
        let s := if result = 0 ∧ st = 1 then s.wr Reg.LP_STATION_state p a 2
          else if result = 0 ∧ st = 4 then (s.wr Reg.LP_STATION_state p a 3).stationRecord p a 3 0 else s
        s.queueAdj p a e (s.powerAdj p f.level) result

/-- RANGING_ATTEMPTS_EXHAUSTED (R235, R237): the attempts are used up, or an ADJ gave RESULT 2; a RANGING element is freed,
any other station is released. -/
def execRangingAttemptsExhausted (p : Port) (a : Nat) (s : State) : Res :=
  let e := s.elem p a
  let st := s.rd Reg.LP_STATION_state p a
  let late := e.rangeAt.all fun t => decide (t + airLong (s.port p).band 0 8 + 1800000 < s.now)
  guarded (s.steward ∧ st ≠ 0 ∧ e.toRange ∧ (e.outOfRange ∨ (s.rdN Reg.LP_ACCESS_ranging_attempts p ≤ e.attempts ∧ late))
      ∧ !(s.port p).ctl.any fun f => f.dst == a && f.type == tyRange) s <|
    let s := s.inc Reg.LP_ACCESS_RANGING_FAILS p
    if st = 1 then s.freeStation p a 0 else s.release p a 0

/-! ## Pace (R246, R247) -/

/-- A probe finds the downstream errors of a station grown by more than 10⁻³ of its frames (R246). -/
def Elem.errorsGrown (e : Elem) (x : StationProbe) : Bool :=
  decide (x.frames - e.probeFrames < 1000 * (x.errors - e.probeErrors))

/-- PACE_EVALUATION (R244 to R248): both directions at the probe period and on a ceiling, upstream on two failures in the
last 1,024 frames, downstream on errors a probe found. DEDUCED (log entry 212): a failure triggers one evaluation. -/
def execPaceEvaluation (p : Port) (a : Nat) (k : PaceTrigger) (probe : StationProbe) (s : State) : Res :=
  let e := s.elem p a
  let read (s : State) : State :=
    s.setElem p a fun e => { e with dsSnr := probe.snr, probeFrames := probe.frames, probeErrors := probe.errors }
  let active : Prop := s.steward ∧ s.portState p = stService ∧ s.rd Reg.LP_STATION_state p a = 3
  match k with
  | .periodic =>
    guarded (active ∧ s.reached (.probe p.val a)) s <|
      let s := (read s).arm (.probe p.val a) (s.now + s.rd Reg.LP_ACCESS_probe_period p * nsPerSec)
      (s.evalUp p a false).evalDown p a (e.errorsGrown probe)
  | .upErrors => guarded (active ∧ e.failed ∧ 2 ≤ (e.failures.filter id).length) s
      ((s.setElem p a fun e => { e with failed := false }).evalUp p a true)
  | .downErrors => guarded (active ∧ e.errorsGrown probe) s ((read s).evalDown p a true)
  | .ceiling =>
    guarded (active ∧ e.ceilingSet) s
      (((s.setElem p a fun e => { e with ceilingSet := false }).evalUp p a false).evalDown p a false).commitDone

end Sys2Proof.Machine
end

