-- ==== Sys2Proof/Machine/Itin.lean ====
section
/-! DEFINITION. Itineraries at work (chapters 05 and 07): windows, BEACON and GRANT, free instants, arming, the switch. -/

namespace Sys2Proof.Machine

/-- An armed switch instant has come. -/
def State.switchDue (s : State) (p : Port) : Bool := (s.switchAt p).any fun t => decide (t ≤ s.now)

/-- The window's BEACON is sent, or counted as skipped. -/
def State.beaconHandled (s : State) (p : Port) : State :=
  s.setPort p fun q => { q with beaconFor := some q.winStart }

/-- BEACON_SEND (R224, R225): the BEACON that closes the DOWN window in progress is sent at its instant; one whose instant
is past, or at whose instant the line is not the port's, does not fit and is counted. -/
def execBeaconSend (p : Port) (s : State) : Res :=
  guarded (s.runs ∧ s.beaconWanted p ∧ s.beaconStart p ≤ s.now) s <|
    if s.now = s.beaconStart p ∧ (s.port p).winStart ≤ s.now ∧ s.mayTransmit p ∧ !s.carrying p then
      (s.sendBeacon p).beaconHandled p
    else (s.beaconHandled p).inc Reg.LP_ACCESS_BEACON_SKIPPED p

/-- GRANT_SEND (R321 to R323): the earliest GRANT of the DOWN window in progress is sent at its instant; one whose instant
is past, or at whose instant the line is not the port's, is not sent. -/
def execGrantSend (p : Port) (s : State) : Res :=
  match (s.grantPlans p).head? with
  | none => ok s
  | some g =>
    guarded (s.runs ∧ g.base ≤ s.now) s <|
      if s.now = g.base ∧ (s.port p).winStart ≤ s.now ∧ s.mayTransmit p ∧ !s.carrying p then s.sendGrant p g
      else s.grantHandled p g

/-- DOWN_FREE_INSTANT (R97, R179, R180, R214, R324 to R326, R332, R337): the line is free: the first transmission due that
fits begins. In a QUIET window only training of the pre-distorter sends, in the port states that use it (R337). -/
def execDownFreeInstant (p : Port) (s : State) : Res :=
  let t := winType (s.curWindow p)
  guarded (s.runs ∧ s.now < (s.port p).winEnd ∧ s.mayTransmit p ∧ (t = wDuplex ∨ !s.carrying p)) s <|
    if t = wDown then s.downInstant p
    else if t = wDuplex then s.duplexInstant p
    else if t = wQuiet ∧ s.dpdTrains p ∧ (s.portState p = stCal ∨ (stDiscover ≤ s.portState p ∧ s.portState p ≤ stQuiet))
      then s.trainingBurst p (s.windowLimit p)
    else s

/-- The smallest k of R330: that for which the base and k cycles lie at least 1 ms after D; 0 when the base does. -/
def advance (base cycle d : Int) : Int :=
  if d + 1000000 ≤ base then 0 else (d + 1000000 - base + cycle - 1) / cycle

/-- ITIN_ARM (R328 to R330): the arming commit was done at D; the switch instant is computed, anew for a later arming. -/
def execItinArm (p : Port) (s : State) : Res :=
  match (s.port p).armedAt with
  | none => ok s
  | some d =>
    guarded (s.runs ∧ s.flag Reg.ITIN_CTL_arm p) s <|
      let base := s.rd Reg.ITIN_PEND_base p
      let cycle := max 1 (s.rd Reg.ITIN_PEND_cycle p)
      let k := advance base cycle d
      let s := s.setPort p fun q => { q with armedAt := none }
      (((s.wr Reg.ITIN_CTL_switch p 0 (base + k * cycle)).wr Reg.ITIN_CTL_BASE_ADVANCED p 0 (b2i (decide (k ≠ 0)))).wr
        Reg.ITIN_CTL_advance p 0 k).wr Reg.ITIN_CTL_state p 0 1

end Sys2Proof.Machine
end

