-- ==== Sys2Proof/Machine/SlotOps.lean ====
section
/-! DEFINITION. The house frame's slots (R15 to R24): their owners, when an owner may begin a DRAM transaction, what waits
for each owner, and the staging buffers that keep the slots off the lines. -/

namespace Sys2Proof.Machine

/-- Length of a slot in ns (R15). -/
def slotNs : Stamp := 62500

/-- Owners of slots (Table 1.3). -/
def ownFrames : Nat := 0
def ownFlows : Nat := 1
def ownCells : Nat := 2
def ownScrub : Nat := 3
def ownTelemetry : Nat := 4
def ownCalibration : Nat := 5
def ownBulk : Nat := 6

/-- The owner of a slot under a HOUSE_SLOT15 code (Tables 1.3 and 1.5). -/
def slotOwner (slot slot15 : Nat) : Nat :=
  if slot ≤ 7 then ownFrames
  else if slot ≤ 9 then ownFlows
  else if slot ≤ 11 then ownCells
  else if slot = 12 then ownScrub
  else if slot = 13 then ownTelemetry
  else if slot = 14 then ownCalibration
  else if slot15 = 1 then ownFrames
  else if slot15 = 2 then ownFlows
  else if slot15 = 3 then ownCells
  else ownBulk

/-- DRAM bytes an owner has at least in its own slot (R16). -/
def slotBytes : Nat := 500000

/-- An owner may begin a DRAM transaction: the slot in progress is its own and not lent, and more than its last 200 ns are
left (R15, R18 to R20); the DRAM is not in self-refresh (R479). -/
def State.inSlot (s : State) (owner : Nat) : Bool :=
  decide (0 < s.house.frames ∧ slotOwner s.house.slot s.house.slot15 = owner ∧ s.time.mono + 200 < s.house.slotAt + slotNs)
    && !s.house.lent && !s.power.selfRefresh

/-- Bulk readout may stream: in a slot of its own or one lent to it (R17, R313). -/
def State.inBulk (s : State) : Bool :=
  decide (0 < s.house.frames ∧ s.time.mono + 200 < s.house.slotAt + slotNs)
    && (s.house.lent || decide (slotOwner s.house.slot s.house.slot15 = ownBulk)) && !s.power.selfRefresh

/-- Requests of an owner that the state shows waiting: frames that wait for a flow context, bands that wait for their
projection and flags that wait for their cells, pages that wait to be copied or remapped, results of a calibration
run. The scrub and the telemetry have work in every slot of theirs (Table 1.4). -/
def State.ownerWaits (s : State) (owner : Nat) : Bool :=
  if owner = ownFlows then !s.qm.waiters.isEmpty
  else if owner = ownCells then s.ports.toList.any fun q => !q.sound.ready.isEmpty || !q.sound.marks.isEmpty
  else if owner = ownCalibration then s.ports.toList.any fun q => q.cal.toMove
  else decide (owner = ownScrub ∨ owner = ownTelemetry)

/-- House frames in which the patrol scrub goes once through the 2 GiB of DRAM: 6 h of them (Table 1.4). -/
def patrolFrames : Nat := 21600000

/-- The DRAM address the patrol scrub has reached (Table 1.4). -/
def State.patrolAt (s : State) : Nat := s.house.patrol * 2147483648 / patrolFrames

/-- Slot 12 (R23, Table 1.4): the DRAM patrol goes on by a house frame's share; the scrub of the on-die SRAM and the
thermos begins anew every 10 min. -/
def State.scrubSlot (s : State) : State :=
  s.setHouse fun fld => { fld with
    patrol := (fld.patrol + 1) % patrolFrames
    sramAt := if fld.sramAt + 600000000000 ≤ s.time.mono then s.time.mono else fld.sramAt }

/-- Slot 14 (R23, Table 1.4): the data of the measurements that completed move; in no other slot do they. -/
def State.calibrationSlot (s : State) : State :=
  { s with ports := s.ports.map fun q => { q with cal := { q.cal with toMove := false } } }

/-- What a line engine's staging buffer holds of a port's traffic in each direction (R21). -/
def stagingNs : Stamp := 500000

/-- The span of a transmission that the staging buffer of its port holds at an instant (R21): what crosses the terminals
in the next 500 µs. Slots 8 to 15 take at most 500 µs, so the line never waits for DRAM. -/
def PortState.stagedTx (q : PortState) (now : Stamp) : Stamp × Stamp :=
  (max now q.txStart, min q.txEnd (max now q.txStart + stagingNs))

/-- The span of a frame being received that the staging buffer holds (R21): what crossed the terminals in the last
500 µs. -/
def PortState.stagedRx (q : PortState) (now : Stamp) : Option (Stamp × Stamp) :=
  q.held.map fun h => (max h.sync (now - stagingNs), now)

/-- A source's clock is stopped: the steward gated in IDLE (R460), a line engine, a sounding engine or the queue manager at
PL3 (R454). -/
def State.stoppedSource (s : State) (source : Nat) : Bool :=
  (s.house.gated && source == srcSteward)
    || (decide (0x10 ≤ source ∧ source ≤ 0x2F) && decide (s.rd Reg.PERF_LEVEL_in_force 0 (source - 0x10) = 3))
    || (decide (0x08 ≤ source ∧ source ≤ 0x0B) && decide (s.rd Reg.PERF_LEVEL_in_force 0 (source - 0x08 + 32) = 3))
    || (decide (islandOfSource source = srcQueue) && decide (s.rd Reg.PERF_LEVEL_in_force 0 36 = 3))

end Sys2Proof.Machine
end

