-- ==== Sys2Proof/Machine/Queues.lean ====
section
/-! DEFINITION. Queues, shapers, flows (chapter 08): DATA parcels taken in, heads checked, queues flushed, the flow cache,
refill ticks. -/

namespace Sys2Proof.Machine

/-- The queue manager's clock runs: it is not at PL3 (R454). -/
def State.queuesRun (s : State) : Bool := s.runs && decide (s.rd Reg.PERF_LEVEL_in_force 0 36 ≠ 3)

/-- A non-local parcel that the device consumes arrives on its host side during entry to a power state: entry is abandoned
at the next boundary (R466). -/
def State.hostParcel (s : State) (x : Side) (type : Nat) : State :=
  if x = s.hostSide then s.happens 5 type s.now else s

/-- Work for the steward arrives (R460): in IDLE its clock runs again, and with it its watchdog. -/
def State.ungate (s : State) : State :=
  if s.house.gated then (s.setHouse fun fld => { fld with gated := false }).arm .watchdog (s.now + 100000000) else s

/-- DATA_PARCEL_DOWN (R344, R457): a DATA parcel addressed to the device; a malformed payload is counted, a queue manager at
PL3 discards every one, any other reaches the flow and meter engine. -/
def execDataParcelDown (side : Side) (payload : Bytes) (s : State) : Res :=
  guarded s.runs s <|
    let s := s.hostParcel side 1
    if !s.queuesRun then s.inc Reg.QM_CTL_NO_FLOW
    else if payload.length < 17 ∨ 1552 < payload.length ∨ uAt payload 3 1 % 4 = 3 then s.inc Reg.QM_CTL_MALFORMED
    else s.toEngine (.down (uAt payload 0 3 % 1048576) side s.now payload)

/-- QUEUE_HEAD_CHECK (R327, R359): the frame at the head of a queue is checked, and the one that follows a discarded one. -/
def execQueueHeadCheck (q : Nat) (s : State) : Res := guarded (s.queuesRun ∧ q < 4096) s (s.headChecks q)

/-- QUEUE_FLUSH (R360): the commit of /09 = 1, or of /01 = 0, applies: every frame of the queue is discarded. -/
def execQueueFlush (q : Nat) (s : State) : Res :=
  guarded (s.queuesRun ∧ q < 4096 ∧ (s.flag Reg.QUEUE_flush 0 q ∨ !s.flag Reg.QUEUE_enable 0 q)) s
    ((s.flushQueue q).wr Reg.QUEUE_flush 0 q 0)

/-- FLOW_CONTROL_WRITE (R343, R48): the control part committed applies at the refill tick at which its island applied the
commit; VALID from 0 to 1 clears the state part. The commit is done with the last. -/
def execFlowControlWrite (flow : Nat) (s : State) : Res :=
  match s.qm.flowWrites.find? fun w => w.1 = flow with
  | none => ok s
  | some w =>
    guarded s.queuesRun s <|
      let fresh := !fcValid (s.rdB Reg.FLOW_control 0 flow) && fcValid w.2
      let s := s.setQm fun fld => { fld with flowWrites := s.qm.flowWrites.filter fun x => x.1 ≠ flow }
      let s := s.wrB Reg.FLOW_control 0 flow w.2
      (if fresh then s.setFlowState flow (List.replicate 48 0) else s).commitDone

/-- A slot of the flow table lets a DRAM transaction begin (R15, R19, R20). -/
def State.flowSlot (s : State) : Bool := s.inSlot ownFlows

/-- FLOW_CACHE_FILL (R349): a miss is filled in a slot of the flow table, and the frames of the flow go on in their
order, with the refill tick in progress. -/
def execFlowCacheFill (flow : Nat) (s : State) : Res :=
  guarded (s.queuesRun ∧ s.flowSlot ∧ s.qm.waiters.any fun w => w.flow == flow) s <|
    let mine := s.qm.waiters.filter fun w => w.flow == flow
    (s.setQm fun fld => { fld with waiters := s.qm.waiters.filter fun w => w.flow != flow
                                   arrivals := s.qm.arrivals ++ mine.map fun w => (w, true) }).fill flow

/-- FLOW_WRITEBACK (R15, R20, R350): 10 s after a modified context was last written back it is written back again, in a
slot of the flow table. -/
def execFlowWriteback (flow : Nat) (s : State) : Res :=
  match s.cached flow with
  | none => ok s
  | some l => guarded (s.queuesRun ∧ s.flowSlot ∧ l.modified ∧ l.writtenBack + 10000000000 ≤ s.now) s (s.writeBack l)

/-- A frame of the queue is crossing its port's terminals (R363): from its sync instant, included, to its end, excluded. -/
def State.crossing (s : State) (q : Nat) : Bool :=
  let x := s.port (queuePort q)
  x.txQueue == some q && decide (x.txStart ≤ s.now ∧ s.now < x.txEnd)

/-- The credit of an enabled shaper at a refill tick (R363). -/
def State.shape (s : State) (q : Nat) : State :=
  let c := s.rd Reg.SHAPER_credit 0 q
  s.wr Reg.SHAPER_credit 0 q <|
    if s.crossing q then c - perTick (s.rd Reg.SHAPER_send_slope 0 q)
    else min (s.rd Reg.SHAPER_burst 0 q * 65536) (c + perTick (s.rd Reg.SHAPER_idle_slope 0 q))

/-- The queues whose shaper is enabled. -/
def State.shaped (s : State) : List Nat :=
  let lo := Reg.SHAPER_enable.key 0 0
  (s.regs.filter fun e => decide (lo ≤ e.1 ∧ e.1 < lo + 4096)).map fun e => e.1 - lo

/-- REFILL_TICK (R351, R352, R363): 8 µs have passed; the frames of the tick that ends are taken, every enabled
shaper's credit moves, and the meters have one more tick to add. -/
def execRefillTick (s : State) : Res :=
  let t := (s.time.mono / 8000).toNat
  guarded (s.queuesRun ∧ s.qm.tickAt < t) s <|
    let s := s.takeArrivals
    let s := s.setQm fun fld => { fld with tick := s.qm.tick + 1, tickAt := t }
    let s := s.setIz fun fld => { fld with tickSeen := true }
    s.shaped.foldl State.shape s

/-- SAMPLES_CLEAR (R370): QM_CTL /02 = 1 applies: every queue is sampled afresh. -/
def execSamplesClear (s : State) : Res :=
  guarded (s.queuesRun ∧ s.flag Reg.QM_CTL_clear ∧ !s.qm.clearing) s
    (s.setQm fun fld => { fld with sampled := [], clearing := true })

/-- One sample of a queue (R369, R370). -/
def State.sampleQueue (s : State) (q : Nat) : State :=
  let depth : Int := (s.depth q : Nat)
  let sojourn : Int := match s.queue q with
    | [] => 0
    | f :: _ => s.now - f.enqueued
  let shift := s.rdN Reg.QM_CTL_average_shift
  let first := !s.qm.sampled.contains q
  let upd (lo hi avg : Obj) (x : Int) (s : State) : State :=
    if first then ((s.wr lo 0 q x).wr hi 0 q x).wr avg 0 q x
    else ((s.wr lo 0 q (min (s.rd lo 0 q) x)).wr hi 0 q (max (s.rd hi 0 q) x)).wr avg 0 q
      (s.rd avg 0 q + ashr (x - s.rd avg 0 q) shift)
  let s := upd Reg.QUEUE_SAMPLES_depth_minimum Reg.QUEUE_SAMPLES_depth_maximum Reg.QUEUE_SAMPLES_depth_average depth s
  let s := upd Reg.QUEUE_SAMPLES_sojourn_minimum Reg.QUEUE_SAMPLES_sojourn_maximum Reg.QUEUE_SAMPLES_sojourn_average
    sojourn s
  let s := (s.wr Reg.QUEUE_SAMPLES_stamp 0 q s.now).inc Reg.QUEUE_SAMPLES_SAMPLES 0 q
  if first then (s.setQm fun fld => { fld with sampled := q :: s.qm.sampled }) else s

/-- Slot 13 samples a quarter of the queues (R369); once every queue has been sampled afresh the clear is over (R370). -/
def State.sampleSlot (s : State) : State :=
  let lo := 1024 * ((s.house.frames - 1) % 4)
  let s := (List.range 1024).foldl (fun s i => s.sampleQueue (lo + i)) s
  if s.qm.clearing ∧ s.qm.sampled.length = 4096 then
    (s.setQm fun fld => { fld with clearing := false }).wr Reg.QM_CTL_clear 0 0 0
  else s

end Sys2Proof.Machine
end

