-- ==== Sys2Proof/Machine/Reflect.lean ====
section
/-! DEFINITION. Reading the pipe (chapter 06): sweeps, bands, cells, the DC monitor, focused soundings, the last, bulk
readout. -/

namespace Sys2Proof.Machine

/-! ## Sweeps -/

/-- SWEEP_SETUP_END (R269): setup is over; sweeping begins when a period fits the window. -/
def execSweepSetupEnd (p : Port) (s : State) : Res :=
  let q := (s.port p).sound
  match q.band with
  | none => ok s
  | some b => guarded (s.runs ∧ q.engine.isSome ∧ q.setup ∧ q.stepEnd ≤ s.now) s (s.startSweep p b)

/-- SWEEP_RECORD_END (R266, R267, R269): a sweep period ends; its record is counted and accepted or rejected; the next
sweep follows where the band goes on. A band of a focused sounding ends with its sweeps (R285). -/
def execSweepRecordEnd (p : Port) (r : SweepRecord) (s : State) : Res :=
  let q := (s.port p).sound
  match q.band with
  | none => ok s
  | some b =>
    let tw := s.rd Reg.LR_VELOCITY_T_w p
    let taps := tapsIn 32 (s.calInForce p).ffe
    let counted (a : BandAcc) : State :=
      let s := s.cntSound p Reg.LR_STATUS_SWEEPS
      if a.rejects r taps then s.cntSound p Reg.LR_STATUS_REJECTED else s
    if q.focusOn then
      match q.focusRun with
      | none => ok s
      | some f =>
        guarded (s.runs ∧ q.engine.isSome ∧ !q.setup ∧ q.stepEnd ≤ s.now) s <|
          let s := counted f.acc
          let f := { f with acc := f.acc.add r taps tw q.stepEnd }
          let s := (s.setSound p fun q => { q with focusRun := some f }).wr Reg.LR_STATUS_accepted p 0 f.acc.accepted
          if s.rdN Reg.LR_FOCUS_averages p ≤ f.acc.swept then s.focusBandDone p f b else s.startSweep p b
    else
      guarded (s.runs ∧ q.engine.isSome ∧ !q.setup ∧ q.stepEnd ≤ s.now ∧ !s.bandFull p b) s <|
        let a := (q.acc b).add r taps tw q.stepEnd
        let s := counted (q.acc b)
        let s := (s.setSound p fun q => q.setAcc b fun _ => a).wr Reg.LR_STATUS_accepted p 0 a.accepted
        if s.bandFull p b then s else s.startSweep p b

/-- BAND_COMPLETE (R267, R269, R270, R276): the band has its records, or enough of them after 2A sweeps: it is compressed
at the velocity in force and the next band begins; with fewer, its sum is discarded and the band starts again. -/
def execBandComplete (p : Port) (s : State) : Res :=
  let q := (s.port p).sound
  match q.band with
  | none => ok s
  | some b =>
    guarded (s.runs ∧ !q.focusOn ∧ !q.setup ∧ s.bandFull p b) s <|
      let a := q.acc b
      if s.rdN Reg.LR_CTL_averages p ≤ 2 * a.accepted then
        let a : BandAcc := { measured := a.measured, profile := some (Config.compress b (s.sweepLevel p b) a.accepted a.sum),
                             velocity := s.velocity p }
        (s.setSound p fun q => { q.setAcc b fun _ => a with ready := q.ready ++ [b], lastBand := b }).serveBands p
      else (s.setSound p fun q => q.setAcc b BandAcc.restart).startBand p b

/-! ## Cells -/

/-- A slot that the cell map owns (Table 1.3, R24, R257). -/
def State.cellSlot (s : State) : Bool := s.inSlot ownCells

/-- CELL_UPDATE (R257, R271 to R274, R296 to R304): in a cell-map slot the profile of a completed band is projected onto
the map; when every enabled band has completed, the refresh is done. -/
def execCellUpdate (p : Port) (s : State) : Res :=
  match (s.port p).sound.ready with
  | [] => ok s
  | b :: rest =>
    guarded (s.runs ∧ s.cellSlot) s <|
      let s := (s.project p b).setSound p fun q => { q with ready := rest, done := q.done ||| 2 ^ b }
      if [0, 1, 2].all fun b => !s.bandEnabled p b || bit (s.port p).sound.done b then s.refreshDone p else s

/-- The stamp from which a cell's age counts: its latest sweep update, or the release of the latest reset. -/
def State.cellStamp (s : State) (p : Port) (i : Nat) : Stamp :=
  (((s.port p).sound.updates.filter fun u => decide (u.1 ≤ i ∧ i ≤ u.2.1)).map (·.2.2)).foldl max s.rst.releasedAt

/-- CELL_STALE (Table 6.2): no sweep has updated a mapped cell for the stale time. -/
def execCellStale (p : Port) (cell : Nat) (s : State) : Res :=
  guarded (s.runs ∧ s.cellSlot ∧ cell < s.mapped p ∧ !bit (cellFlags (s.cell p cell)) 6
      ∧ s.rd Reg.LR_CTL_stale_time p * nsPerSec ≤ s.now - s.cellStamp p cell) s
    (s.flagCell p cell 6 true)

/-! ## The DC monitor -/

/-- The measurements of the last 20 min, newest first, and the one before them: what a refresh may look back on (R300). -/
def recent {α : Type} (now : Stamp) (stamp : α → Stamp) (l : List α) : List α :=
  l.take ((l.takeWhile fun x => decide (now - stamp x < 1200000000000)).length + 1)

/-- BAND_RESTART_TEMP (R268): T_w has moved by more than 1.00 K since a band's first accepted record. -/
def State.tempRestart (s : State) (p : Port) : State :=
  let tw := s.rd Reg.LR_VELOCITY_T_w p
  [0, 1, 2].foldl (fun s b =>
    let a := (s.port p).sound.acc b
    if 0 < a.accepted ∧ 100 < (tw - a.tFirst).natAbs then
      let s := (s.setSound p fun q => q.setAcc b BandAcc.restart).cntSound p Reg.LR_STATUS_RESTARTED
      if (s.port p).sound.band = some b ∧ !(s.port p).sound.focusOn then s.startBand p b else s
    else s) s

/-- A loop reading in mΩ, its reported value and whether the loop is open (R309). -/
def loopReading (mohm : Option Nat) : Nat × Bool :=
  match mohm with
  | none => (0xFFFFFFFF, true)
  | some v => if 2000000 < v then (0xFFFFFFFF, true) else if v < 1000 then (0, false) else (v, false)

/-- LOOP_MEASUREMENT (R275, R307, R309, R311): once per second the loop resistance is measured; LOOP_OPEN, LOOP_CLOSED and
LOOP_STEP alarms, the wire temperature and the velocity follow. -/
def execLoopMeasurement (p : Port) (mohm : Option Nat) (s : State) : Res :=
  guarded (s.runs ∧ s.dcRuns p ∧ s.due (.loop p.val)) s <|
    let (value, isOpen) := loopReading mohm
    let d := (s.port p).dc
    let s := s.arm (.loop p.val) (s.now + nsPerSec)
    let s := (s.wr Reg.LR_DC_loop p 0 value).wr Reg.LR_DC_loop_stamp p 0 s.now
    let prev := d.loops.take 16
    let step := !isOpen && decide (prev.length = 16) && decide (prev.sum < 20 * ((value : Int) * 16 - prev.sum).natAbs)
    let seen : LoopSeen := ⟨s.now, isOpen, value, if step then some (decide (value * 16 < prev.sum)) else none⟩
    let s := s.setDc p fun q => { q with
      isOpen := some isOpen, loopBelow := !isOpen && decide (value = 0), loopResult := some (!isOpen),
      loops := if isOpen then q.loops else (value :: q.loops).take 17,
      seen := recent s.now (·.stamp) (seen :: q.seen) }
    let s := s.dcFlags p fun f => setBit f 4 isOpen
    let s := if d.isOpen = some (!isOpen) then s.dcAlarm p (if isOpen then 2 else 3) value else s
    let s := if step then s.dcAlarm p 4 value else s
    let s := if isOpen then s.setSound p fun q => { q with capture := q.capture.map fun c => { c with opened := true } }
      else s
    ((s.updateTw p).tempRestart p).dcCheck p

/-- INSULATION_START (R310): the interval has passed; an insulation measurement begins. -/
def execInsulationStart (p : Port) (s : State) : Res :=
  guarded (s.runs ∧ s.dcRuns p ∧ !(s.port p).dc.measuring ∧ s.due (.insulation p.val)) s
    ((s.setDc p fun q => { q with measuring := true, measureStart := s.now }).arm (.insulation p.val)
      (s.now + s.rd Reg.LR_DC_interval p * nsPerSec))

/-- Insulation in Ω from the currents at both polarities in pA (R307, R309): 20 V / (I₊ − I₋), as reported. -/
def insulation (plus minus : Int) : Nat :=
  let i := plus - minus
  if i ≤ 0 then 0xFFFFFFFF
  else
    let r := (roundDiv 20000000000000 i.toNat).toNat
    if r < 10000 then 0 else if 200000000 < r then 0xFFFFFFFF else r

/-- INSULATION_RESULT (R307 to R309, R311, R208): an insulation measurement has settled, or 60 s are over; while the loop is
closed the wires are one node. -/
def execInsulationResult (p : Port) (m : InsulationMeas) (s : State) : Res :=
  let d := (s.port p).dc
  let age := s.now - d.measureStart
  guarded (s.runs ∧ s.dcRuns p ∧ d.measuring ∧ 2 * nsPerSec ≤ age ∧ (m.settled ∨ 60 * nsPerSec ≤ age)) s <|
    let common := decide (d.isOpen ≠ some true)
    let a := insulation m.aPlus m.aMinus
    let b := if common then a else insulation m.bPlus m.bMinus
    let low := min a b
    let level := s.rdN Reg.LR_DC_alarm_level p
    let s := (s.wr Reg.LR_DC_insulation_A p 0 a).wr Reg.LR_DC_insulation_B p 0 b
    let s := (s.wr Reg.LR_DC_insulation_stamp p 0 s.now).wr Reg.LR_DC_capacitance p 0 m.capacitance
    let falls := !d.low && decide (low < level)
    let rises := d.low && decide (11 * level < 10 * low)
    let s := s.setDc p fun q => { q with
      measuring := false, insulBelow := decide (a = 0 ∨ b = 0),
      insulSeen := recent s.now (·.1) ((s.now, decide (a = 0 ∨ b = 0)) :: q.insulSeen), low := (q.low || falls) && !rises,
      insulResult := some (decide (s.rdN Reg.LP_ACCESS_insulation_floor p ≤ low)) }
    let s := s.dcFlags p fun f =>
      setBit (setBit (setBit f 0 common) 2 (decide (a = 0xFFFFFFFF ∨ b = 0xFFFFFFFF))) 3 (!m.settled)
    let s := if falls then s.dcAlarm p 0 low else if rises then s.dcAlarm p 1 low else s
    s.dcCheck p

/-! ## Focused soundings -/

/-- FOCUS_REQUEST (R283, R284): LR_FOCUS /01 = 1 in force requests a focused sounding about the centre cell. -/
def execFocusRequest (p : Port) (s : State) : Res :=
  let c := s.rdN Reg.LR_FOCUS_centre p
  guarded (s.runs ∧ s.flag Reg.LR_FOCUS_request p) s (s.focusAbout p c c c)

/-- FOCUS_EXPIRE (R284): a request not begun within 10 s is dropped and counted. -/
def execFocusExpire (p : Port) (s : State) : Res :=
  guarded (s.runs ∧ (s.port p).sound.focus.isSome ∧ s.passed (.focus p.val)) s <|
    let s := (s.setSound p fun q => { q with focus := none }).disarm (.focus p.val)
    ((s.wr Reg.LR_FOCUS_pending p 0 0).wr Reg.LR_FOCUS_request p 0 0).cntSound p Reg.LR_FOCUS_EXPIRED

/-- The profile a focused sounding, or else the port's own sounding, holds of a band. -/
def State.focusProfile (s : State) (p : Port) (f : Focus) (b : Nat) : Option (List Int) :=
  ((f.profiles.find? fun x => x.1 == b).map (·.2)).or ((s.port p).sound.acc b).profile

/-- FOCUS_COMPLETE (R257, R287): every band of the focused sounding is swept: CURRENT of its span is updated and FOCUSED
set, and the site rules run on the span. -/
def execFocusComplete (p : Port) (s : State) : Res :=
  match (s.port p).sound.focusRun with
  | none => ok s
  | some f =>
    guarded (s.runs ∧ s.cellSlot ∧ f.bands = [] ∧ !(s.port p).sound.focusOn) s <|
      let v := s.velocity p
      let s := (s.span p f.lo f.hi).foldl (fun s i =>
        match f.profiles.find? fun x => decide (bandLo x.1 ≤ i ∧ i ≤ bandHi x.1) with
        | none => s
        | some (b, prof) =>
          let other := (otherBand b i).bind fun o => if s.bandEnabled p o then s.focusProfile p f o else none
          s.wr Reg.CELL_MAP p i (updatedCell (s.cell p i) (projected b prof other v i) none : Nat)) s
      let s := s.setSound p fun q => { q with focusRun := none, updates := q.updates ++ [(f.lo, f.hi, s.now)] }
      let s := s.cntSound p Reg.LR_FOCUS_RUNS
      s.signOrOwe p (some (f.lo, f.hi), f.acc.measured)

/-! ## The last -/

/-- What invalidates the last when it changes (R293): impedance, wiring, mapped length, VF_ref, FFE taps. -/
def State.lastKeyNow (s : State) (p : Port) : Int × Int × Int × Int × Bytes :=
  (s.rd Reg.LP_TX_impedance p, s.rd Reg.LP_TX_wiring p, s.rd Reg.LR_CTL_mapped_length p, s.rd Reg.LR_VELOCITY_VF_ref p,
   s.rdB Reg.LP_SWEEP_FFE_taps p)

/-- The values the last stands for; those of reset until one of them changes. -/
def State.lastKeyHeld (s : State) (p : Port) : Int × Int × Int × Int × Bytes :=
  (s.port p).sound.lastKey.getD (50, 0, 163840, 8500, defaultFfe)

/-- LAST_CAPTURE_START (R288): LR_LAST /01 = 1 in force starts a capture, or starts it again. -/
def execLastCaptureStart (p : Port) (s : State) : Res :=
  guarded (s.runs ∧ s.flag Reg.LR_LAST_capture p) s <|
    let s := (s.wr Reg.LR_LAST_state p 0 1).wr Reg.LR_LAST_capture p 0 0
    (s.setSound p fun q => { q with capture := some { left := s.rdN Reg.LR_LAST_refreshes p } }).updateVelocity p

/-- Sum and sum of squares of CURRENT of cell i over the columns of a capture. -/
def Capture.sums (c : Capture) (i : Nat) : Int × Int :=
  ((c.columns.map fun col => col.getD i 0).sum, (c.columns.map fun col => col.getD i 0 * col.getD i 0).sum)

/-- n² times the variance of n values with this sum and sum of squares. -/
def spread (n : Nat) (x : Int × Int) : Nat := ((n : Int) * x.2 - x.1 * x.1).toNat

/-- The smallest whole number that is at least the root of x. -/
def rootUp (x : Nat) : Nat := let r := isqrt x; if r * r < x then r + 1 else r

/-- LAST_CAPTURE_END (R289, R290, R294): the capture has its refreshes; the last is set, or the capture fails. -/
def execLastCaptureEnd (p : Port) (s : State) : Res :=
  match (s.port p).sound.capture with
  | none => ok s
  | some c =>
    guarded (s.runs ∧ c.left = 0 ∧ c.columns ≠ []) s <|
      let n := c.columns.length
      let limit := s.rdN Reg.LR_LAST_stability_limit p
      let served := (List.range (s.mapped p)).filter fun i =>
        [0, 1, 2].any fun b => s.bandEnabled p b && decide (bandLo b ≤ i ∧ i ≤ bandHi b)
      let stable := served.filter fun i => decide (spread n (c.sums i) ≤ limit * limit * n * n)
      let fraction := if served = [] then 0 else stable.length * 10000 / served.length
      let total := c.loops.sum
      let loopOk := !c.opened && c.loops.all fun x => decide (((x * n : Nat) - (total : Int)).natAbs * 1000 ≤ 8 * total)
      let s := (s.setSound p fun q => { q with capture := none }).wr Reg.LR_LAST_stable_fraction p 0 fraction
      if !loopOk then ((s.wr Reg.LR_LAST_state p 0 3).lastRecord p 2 fraction).updateVelocity p
      else if stable.length * 10000 < 9900 * served.length then
        ((s.wr Reg.LR_LAST_state p 0 3).lastRecord p 1 fraction).updateVelocity p
      else
        let k := s.rdN Reg.LR_LAST_threshold_factor p
        let floor := s.rdN Reg.LR_LAST_threshold_floor p
        let s := (List.range (s.mapped p)).foldl (fun s i =>
          let x := c.sums i
          let t := min 255 (max floor (ceilDiv (rootUp (k * k * spread n x)) (80 * n)))
          let cell := s.cell p i
          s.wr Reg.CELL_MAP p i
            (cellOf (roundDiv x.1 n) (cellCurrent cell) 0 t (setBit (cellFlags cell) 7 true) : Nat)) s
        let s := (s.wr Reg.LR_VELOCITY_R_ref p 0 (roundDiv total n)).wr Reg.LR_LAST_stamp p 0 s.now
        let s := (s.wr Reg.LR_LAST_check p 0 (s.lastCheck p)).wr Reg.LR_LAST_state p 0 2
        (((s.lastRecord p 0 fraction).endEvents p).updateTw p).tempRestart p

/-- LAST_LOAD (R291, R294): the latest commit wrote baseline cells; they become the last. An invalidation by the same
commit comes first (R293). -/
def execLastLoad (p : Port) (s : State) : Res :=
  let cells := (s.port p).sound.loadCells
  guarded (s.runs ∧ cells ≠ [] ∧ s.lastKeyNow p = s.lastKeyHeld p) s <|
    let s := cells.foldl (fun s i =>
      let c := s.cell p i
      s.wr Reg.CELL_MAP p i
        (cellOf (cellBaseline c) (cellCurrent c) 0 (cellThreshold c) (setBit (cellFlags c) 7 true) : Nat)) s
    let s := s.setSound p fun q => { q with loadCells := [], capture := none }
    let s := (s.wr Reg.LR_LAST_state p 0 4).wr Reg.LR_LAST_check p 0 (s.lastCheck p)
    (((s.lastRecord p 3 0).endEvents p).updateTw p).tempRestart p

/-- LAST_INVALIDATE (R293, R294): a committed change of what the last stands for invalidates it. -/
def execLastInvalidate (p : Port) (s : State) : Res :=
  guarded (s.runs ∧ s.lastKeyNow p ≠ s.lastKeyHeld p) s <|
    let s := s.flagCells p 0 163839 7 false
    let s := (s.wr Reg.LR_VELOCITY_R_ref p 0 0).wr Reg.LR_LAST_state p 0 0
    let s := s.setSound p fun q => { q with lastKey := some (s.lastKeyNow p) }
    (((s.lastRecord p 4 0).endEvents p).updateTw p).tempRestart p

/-! ## Bulk readout (R313, R314) -/

/-- Bytes of one item of a readout content. -/
def readoutUnit (content : Nat) : Nat := [8, 2, 2, 3, 2].getD content 8

/-- Items of a readout. -/
def State.readoutItems (s : State) (p : Port) (content first count : Nat) : Nat :=
  if content = 4 then (s.rdB Reg.LR_EPM_profile p).length / 2 else min count (163840 - first)

/-- Item k of a readout, as the map holds it now; a history snapshot as it was when the readout began (R314). -/
def State.readoutItem (s : State) (p : Port) (content first k : Nat) : Bytes :=
  let c := s.cell p (first + k)
  match content with
  | 0 => be 8 (s.cellView p (first + k))
  | 1 => beInt 2 (cellCurrent c)
  | 2 => beInt 2 ((s.port p).sound.reading.getD (first + k) 0)
  | 3 => beInt 2 (cellBaseline c) ++ be 1 (cellThreshold c)
  | _ => slice (s.rdB Reg.LR_EPM_profile p) (2 * k) 2

/-- Sends stream bytes in a BULK parcel (Table 9.9). -/
def State.sendBulk (s : State) (p : Port) (offset : Nat) (last : Bool) (b : Bytes) : State :=
  s.sendHost s.hostSide 3 3 ([0] ++ be 1 p.val ++ be 4 offset ++ be 1 (b2n last) ++ [0] ++ b)

/-- The low 32 bits of REFRESHES, as head and tail of a stream carry them. -/
def State.refreshCount (s : State) (p : Port) : Bytes := be 4 (s.rdN Reg.LR_STATUS_REFRESHES p)

/-- Streams items of a readout, as many as fit n bytes, at most 2,040 bytes a parcel; with the bytes that are left. -/
def State.streamItems (s : State) (p : Port) (n : Nat) : State × Nat :=
  match (s.port p).sound.readout with
  | none => (s, n)
  | some (content, first, count, pos, sent) =>
    let u := readoutUnit content
    let per := 2040 / u
    let go := min (n / u) (s.readoutItems p content first count - sent)
    let t := (List.range (ceilDiv go per)).foldl (fun t j =>
      let items := (List.range (min per (go - j * per))).flatMap fun k => s.readoutItem p content first (sent + j * per + k)
      t.sendBulk p (16 + (sent + j * per) * u) false items) s
    (t.setSound p fun q => { q with readout := some (content, first, count, pos, sent + go) }, n - go * u)

/-- The tail of a readout: the refresh count again, with LAST (R313). -/
def State.readoutTail (s : State) (p : Port) : State :=
  match (s.port p).sound.readout with
  | none => s
  | some (content, _, _, _, sent) =>
    ((s.sendBulk p (16 + sent * readoutUnit content) true (s.refreshCount p)).setSound p fun q =>
      { q with readout := none }).wr Reg.LR_READOUT_state p 0 0

/-- READOUT_START (R313, R314): LR_READOUT /05 = 1 in force; a readout in progress ends with its tail, and the new one
begins with its head. The stream runs in slot 15 and in lent slots. -/
def execReadoutStart (p : Port) (s : State) : Res :=
  guarded (s.runs ∧ s.flag Reg.LR_READOUT_start p ∧ s.inBulk) s <|
    let s := s.readoutTail p
    let content := s.rdN Reg.LR_READOUT_content p
    let first := s.rdN Reg.LR_READOUT_first_cell p
    let count := s.rdN Reg.LR_READOUT_count p
    let pos := s.rdN Reg.LR_READOUT_snapshot p
    let s := (s.wr Reg.LR_READOUT_start p 0 0).wr Reg.LR_READOUT_state p 0 1
    let s := s.setSound p fun q => { q with readout := some (content, first, count, pos, 0),
                                            reading := Store.get [] q.history pos }
    s.sendBulk p 0 false (be 1 p.val ++ be 1 content ++ be 1 pos ++ [0] ++ be 4 first ++ be 4 count ++ s.refreshCount p)

/-- READOUT_END (R313, R314): every item is streamed; the tail ends the stream. -/
def execReadoutEnd (p : Port) (s : State) : Res :=
  match (s.port p).sound.readout with
  | none => ok s
  | some (content, first, count, _, sent) =>
    guarded (s.runs ∧ s.inBulk ∧ s.readoutItems p content first count ≤ sent) s (s.readoutTail p)

end Sys2Proof.Machine
end

