-- ==== Sys2Proof/Machine/IzOps.lean ====
section
/-! DEFINITION. Izvas messages and the dictionary (R427 to R441): addresses found, values read and checked, requests
admitted, roles. -/

namespace Sys2Proof.Machine

/-! ## Addresses (R427, R448, R449) -/

/-- The copy of an object that an index and subindex address. -/
def Obj.copyAt (o : Obj) (index sub : Nat) : Option Nat :=
  let a := index * 256 + sub
  let base := o.index * 256 + o.sub
  if a < base then none
  else
    let unit := o.step / 1048576
    let d := a - base
    if unit = 0 then (if d = 0 then some 0 else none)
    else if d % unit = 0 ∧ d / unit < o.copies then some (d / unit) else none

/-- The object at an index and subindex, and its copy. -/
def lookup (index sub : Nat) : Option (Obj × Nat) := dictionary.findSome? fun o => (o.copyAt index sub).map fun n => (o, n)

/-- An address of the remote-proxy range (R450). -/
def proxyIndex (index : Nat) : Bool := decide (0x6000 ≤ index ∧ index ≤ 0x601F)

/-- The highest subindex an object has at an index (R427). -/
def Obj.topSub (o : Obj) (index : Nat) : Option Nat :=
  let unit := o.step / 1048576
  if unit % 256 = 0 then (o.copyAt index o.sub).map fun _ => o.sub
  else if index = o.index then some (o.sub + (o.copies - 1) * unit) else none

/-- The highest subindex that exists at an index; `none` for an index that has no subindices. -/
def highestSub (index : Nat) : Option Nat :=
  if proxyIndex index then some 254
  else
    let m := (dictionary.filterMap fun o => o.topSub index).foldl max 0
    if m = 0 then none else some m

/-- The number of elements of an object that exist, counted from its first (R205, R427). -/
def State.elements (s : State) (o : Obj) (n : Nat) : Nat :=
  if o = Reg.LP_EC_TAPS_live ∨ o = Reg.LP_EC_TAPS_snapshot then (s.port (Fin.ofNat 32 n)).band.taps else o.elems

/-- An element exists. -/
def State.elementOk (s : State) (o : Obj) (n e : Nat) : Bool :=
  if o.elems = 0 then e == 0 else decide (o.elemLo ≤ e ∧ e < o.elemLo + s.elements o n)

/-! ## Values in force (R428, R429) -/

/-- The calibration set of a port (R519): the 288 bytes of the values in force. -/
def State.calSet (s : State) (p : Port) : Bytes :=
  let c := s.calInForce p
  beInt 2 c.adcOffset ++ be 4 c.adcGain.toNat ++ beInt 2 c.dacOffset ++ be 4 c.dacGain.toNat ++ c.linearity
    ++ be 4 (s.port p).hybrid.toNat ++ c.coefficients ++ c.ffe

/-- AO_BUDGET of wake sources (R471), µA. -/
def budget (activity bell : Nat) (porfani : Bool) : Nat := 600 + 45 * popCount 32 (activity ||| bell) + 120 * b2n porfani

/-- The RWS values of the fuse set that governs SERVICE and RETIRED: the higher-numbered one whose CRC holds (R581). -/
def Fuses.rwsSet (f : Fuses) : Option RwsSet :=
  if f.lifeCycle < 2 then none else f.rws.reverse.find? fun x => crc32 (be 1 x.policy ++ x.tag) == x.crc

/-- A role key's status (R580, R581). -/
def Fuses.roleKey (f : Fuses) (role : Nat) : RoleKey :=
  if role = 1 then f.operator else if role = 2 then f.engineer else f.metrology

/-- Numbers the device computes when they are read, rather than keeping them: `none` for every other object. -/
def State.computed (s : State) (o : Obj) (n e : Nat) : Option Int :=
  let p : Port := Fin.ofNat 32 n
  let num (x : Nat) : Option Int := some x
  if o = Reg.STATION_TIME then some s.now
  else if o = Reg.TIME_QUALITY_bound then some s.bound
  else if o = Reg.DEVICE_ID then num s.fuses.deviceId
  else if o = Reg.ORDER_CODE then num s.fuses.orderCode
  else if o = Reg.DIE_REVISION then num s.fuses.dieRevision
  else if o = Reg.ROM_VERSION then num s.fuses.romVersion
  else if o = Reg.PATCH_VERSION then num (if s.rst.patchPresent then s.rst.patchVersion else 0)
  else if o = Reg.LC_STATE_state then num s.fuses.lifeCycle
  else if o = Reg.LC_STATE_RWS_sets_used then num s.fuses.rws.length
  else if o = Reg.KEY_STATE then num (s.fuses.roleKey (n + 1)).status
  else if o = Reg.JTAG_POLICY then s.fuses.rwsSet.map fun x => x.policy
  else if o = Reg.AO_BUDGET then
    num (budget (s.rdN Reg.WAKE_SOURCES_activity) (s.rdN Reg.WAKE_SOURCES_bell) (s.flag Reg.WAKE_SOURCES_Porfani))
  else if o = Reg.CASC_strap_role then num s.rst.straps.role.val
  else if o = Reg.CASC_device_number then num s.rst.straps.devnum.val
  else if o = Reg.IZ_CTL_sessions then num (s.iz.sessions.toList.filter fun z => z.phase == 2).length
  else if o = Reg.IZ_SESSION_staged then num ((sessionNo e).elim 0 fun k => (s.session k).staged.length)
  else if o = Reg.IZ_SESSION_staged_bytes then
    num ((sessionNo e).elim 0 fun k => ((s.session k).staged.map fun v => v.2.length).sum)
  else if o = Reg.QUEUE_depth then num (s.depth e)
  else if o = Reg.QUEUE_frames then num (s.queue e).length
  else if o = Reg.QM_CTL_pool_free then num s.poolFree
  else if o = Reg.METER_Tc ∨ o = Reg.METER_Tp then some ((s.meterFill e).rd o 0 e)
  else if o = Reg.HB_VC_UP_fill then num (s.fifoBytes .up n)
  else if o = Reg.HB_VC_DOWN_fill then num (s.fifoBytes .down n)
  else if o = Reg.LP_EC_taps then num (s.port p).band.taps
  else if o = Reg.LP_EC_TAPS_live then num (tapWord ((s.port p).ec.taps.getD e (0, 0)))
  else if o = Reg.LP_EC_TAPS_snapshot then num (tapWord (((s.port p).ec.snap.getD []).getD e (0, 0)))
  else if o = Reg.LP_EC_duplex_admitted then some (b2i (s.duplexAdmitted p))
  else if o = Reg.LP_CAL_CRC then num (crc32 (s.calSet p))
  else if o = Reg.LP_CAL_CONV_ADC_offset then some (s.calInForce p).adcOffset
  else if o = Reg.LP_CAL_CONV_ADC_gain then some (s.calInForce p).adcGain
  else if o = Reg.LP_CAL_CONV_DAC_offset then some (s.calInForce p).dacOffset
  else if o = Reg.LP_CAL_CONV_DAC_gain then some (s.calInForce p).dacGain
  else if o = Reg.LP_HYBRID_setting then some (s.port p).hybrid
  else if o = Reg.LR_FOCUS_pending then some (b2i (s.port p).sound.focus.isSome)
  else if o = Reg.CELL_MAP then num (s.cellView p e)
  else none

/-- The bytes of an object in force. -/
def State.readObject (s : State) (o : Obj) (n e : Nat) : Bytes :=
  match o.ty with
  | .blob _ =>
    if o = Reg.FLOW_state then s.flowState e
    else if o = Reg.RESET_CAUSE then (s.rst.cause ++ List.replicate 8 0).take 8
    else if o = Reg.LP_CAL_CONV_DAC_linearity then (s.calInForce (Fin.ofNat 32 n)).linearity
    else if o = Reg.LP_DPD_coefficients then (s.calInForce (Fin.ofNat 32 n)).coefficients
    else if o = Reg.LP_SWEEP_FFE_taps then (s.calInForce (Fin.ofNat 32 n)).ffe
    else if o = Reg.INSTALL_TAG then (s.fuses.rwsSet.map fun x => x.tag).getD (s.rdB o n e)
    else s.rdB o n e
  | t => t.encode ((s.computed o n e).getD (s.rd o n e))

/-! ## Checks of a written value (R6, R8, R440) -/

/-- n is a power of two. -/
def isPow2 (n : Nat) : Bool := (List.range 32).any fun k => 2 ^ k == n

/-- Table 4.2: the code of RB lies from 10 to 100, in steps of 2 Ω. -/
def hybridOk (v : Nat) : Bool := decide (10 ≤ field v 23 16 ∧ field v 23 16 ≤ 100)

/-- A value passes the check its row states. -/
def Check.passes (c : Check) (v : Int) : Bool :=
  match c with
  | .any | .mask | .reals => true
  | .range lo hi => decide (lo ≤ v ∧ v ≤ hi)
  | .pow2 lo hi => decide ((lo : Int) ≤ v ∧ v ≤ hi) && isPow2 v.toNat
  | .zeroOr lo hi => decide (v = 0 ∨ (lo ≤ v ∧ v ≤ hi))
  | .zeroOrPow2 hi => decide (v = 0) || (decide (v ≤ hi) && isPow2 v.toNat)
  | .hybrid => hybridOk v.toNat
  | .meterActions => (List.range 3).all fun i => decide (field v.toNat (2 * i + 1) (2 * i) ≤ 1)
  | .wholeSecond => decide (v % nsPerSec = 0)
  | .lcRequest => decide (v = 0 ∨ v = 2 ∨ v = 3)

/-- A window element within Tables 7.1 and 7.2, a grant element within Table 7.3. -/
def windowOk (w : Nat) : Bool := decide (winType w ≤ 6 ∧ winGrants w ≤ 64 ∧ 100 ≤ field w 25 0 ∧ field w 25 0 ≤ 60000000)
def grantOk (w : Nat) : Bool := decide (grantAddress w ≤ 254 ∧ 1 ≤ field w 25 0)

/-- A binary32 value is a number: neither infinite nor NaN. -/
def real32Ok (w : Nat) : Bool := field w 30 23 != 255

/-- A number may be written to an object. -/
def Obj.numberOk (o : Obj) (v : Int) : Bool :=
  if o = Reg.ITIN_PEND_windows then windowOk v.toNat
  else if o = Reg.ITIN_PEND_grants then grantOk v.toNat
  else o.chk.passes v

/-- Bytes may be written to a BLOB object (R440): a mask follows R90, coefficients are numbers. -/
def Obj.blobOk (o : Obj) (b : Bytes) : Bool :=
  match o.chk with
  | .mask => maskLegal b
  | .reals => (List.range 20).all fun i => real32Ok (uAt b (4 * i) 4)
  | _ => true

/-- The range check of one value of an object (R8, R440). -/
def Obj.valueOk (o : Obj) (b : Bytes) : Bool :=
  match o.ty with
  | .blob _ => o.blobOk b
  | t => (t.decode b).any o.numberOk

/-- The value with its reserved bits cleared (R6). -/
def Obj.masked (o : Obj) (v : Int) : Int := if o.mask = 0 then v else (v.toNat &&& o.mask : Nat)

/-- A FLOW control part with its reserved bits cleared (Table 8.1). -/
def flowControlBits (b : Bytes) : Bytes :=
  be 1 (uAt b 0 1 &&& 0xF8) ++ be 1 (uAt b 1 1 &&& 3) ++ slice b 2 7 ++ List.replicate (b.length - 9) 0

/-- The bytes of a written value with its reserved bits cleared (R6). -/
def Obj.cleared (o : Obj) (b : Bytes) : Bytes :=
  match o.ty with
  | .blob _ => if o = Reg.FLOW_control then flowControlBits b else if o = Reg.FAULT_INJECT then patch b 5 [0] else b
  | t => if o.mask = 0 then b else t.encode (o.masked ((t.decode b).getD 0))

/-- Writes bytes to an object, its reserved bits cleared. -/
def State.putObject (s : State) (o : Obj) (n e : Nat) (b : Bytes) : State :=
  match o.ty with
  | .blob _ => s.wrB o n e (o.cleared b)
  | t => s.wr o n e (o.masked ((t.decode b).getD 0))

/-! ## Roles (R430, Table 10.3) -/

/-- The objects an OPERATOR writes. -/
def operatorObjects : List Obj :=
  [Reg.COMMIT, Reg.POWER_TARGET, Reg.WAKE_SOURCES_WAKE_N, Reg.WAKE_SOURCES_Porfani, Reg.WAKE_SOURCES_activity,
   Reg.WAKE_SOURCES_bell, Reg.WAKE_SOURCES_level, Reg.CLOCK_SELECT_request, Reg.FAULT_ACK, Reg.LP_STATE_enable,
   Reg.LP_STATE_park, Reg.LP_STATE_quiet, Reg.LP_EC_retrain, Reg.LP_STATION_reserved_identity,
   Reg.LP_STATION_downstream_ceiling, Reg.LP_STATION_upstream_ceiling, Reg.LP_STATION_release, Reg.LR_LAST_capture,
   Reg.LR_FOCUS_request, Reg.LR_FOCUS_centre, Reg.LR_FOCUS_half_span, Reg.LR_READOUT_content, Reg.LR_READOUT_first_cell,
   Reg.LR_READOUT_count, Reg.LR_READOUT_snapshot, Reg.LR_READOUT_start, Reg.QUEUE_flush, Reg.QM_CTL_clear]

/-- A role writes an object. -/
def roleWrites (role : Nat) (o : Obj) : Bool := role == 2 || (role == 1 && operatorObjects.contains o)

/-! ## Requests and responses (R431 to R438) -/

/-- Operations of Table 10.6. -/
def opRead : Nat := 0x01
def opWrite : Nat := 0x02
def opReadStaged : Nat := 0x03
def opDiscard : Nat := 0x04
def opOpen : Nat := 0x10
def opAuth : Nat := 0x11
def opClose : Nat := 0x12

/-- An operation Table 10.6 reserves. -/
def opReserved (op : Nat) : Bool := !([opRead, opWrite, opReadStaged, opDiscard, opOpen, opAuth, opClose].contains op)

end Sys2Proof.Machine

namespace Sys2Proof

/-- The header bytes of a request (Table 10.4). -/
def IzReq.header (r : IzReq) : Bytes :=
  Machine.be 1 r.op ++ [0] ++ Machine.be 2 r.session ++ Machine.be 2 r.tag ++ Machine.be 2 r.index
      ++ Machine.be 1 r.sub ++ Machine.be 3 r.element ++ Machine.be 2 r.count
    ++ Machine.be 2 r.dataLen ++ Machine.be 4 r.offset ++ Machine.be 2 r.rIndex ++ Machine.be 1 r.rSub
        ++ Machine.be 3 r.rElement ++ Machine.be 4 r.counter ++ [0, 0]

/-- DATA_LEN agrees with the parcel's LENGTH, and is at most 2,000 (R431, R432). -/
def IzReq.lengthOk (r : IzReq) : Bool :=
  decide (r.dataLen ≤ 2000 ∧ r.data.length = r.dataLen
    ∧ r.parcelLength = 32 + r.dataLen + (if r.session ≠ 0 ∧ r.op ≠ Machine.opAuth then 16 else 0))

/-- A response to a request. -/
def IzReq.answer (r : IzReq) (status : Nat) (data : Bytes := []) (ext : Bytes := []) : Machine.IzResp :=
  { side := r.side, op := r.op + 0x80, status := status, session := r.session, tag := r.tag, index := r.index, sub := r.sub,
    element := r.element, count := r.count, offset := r.offset, ext := ext, counter := r.counter, data := data, mac := [] }

end Sys2Proof

namespace Sys2Proof.Machine

/-- The steward takes a request in its turn (R437): of two with equal arrival stamps the one on the UP port goes first. -/
def State.takes (s : State) (r : IzReq) : Bool := s.steward && !(r.side == .up && decide (s.iz.downAt = some s.now))

/-- A request crosses the balls (R436): the buffers of its parcel are freed, the steward is awake, and a request on the
DOWN port leaves its arrival stamp (R437). -/
def State.arrives (s : State) (r : IzReq) : State :=
  let s := (s.hostParcel r.side 0).ungate
  match r.side with
  | .up => s
  | .down => s.setIz fun fld => { fld with downAt := some s.now }

/-- MAC_FAIL (R433): the request is discarded and counted. -/
def State.macFail (s : State) : State := s.inc Reg.IZ_CTL_MAC_FAILS

/-- The role of a session number; NONE without session. -/
def State.roleOf (s : State) (n : Nat) : Nat := (sessionNo n).elim 0 fun k => (s.session k).role

/-- What becomes of a request that R433 judges. -/
inductive Admission where
  /-- Discarded without a response. -/
  | discarded (s : State)
  /-- Answered already: a repeat (R438) or a malformed message (R432). -/
  | answered (s : State)
  /-- To be executed. -/
  | accepted (s : State)

/-- The state a request leaves when it is not executed, or what executing it leaves. -/
def Admission.run (a : Admission) (f : State → State) : State :=
  match a with
  | .discarded s | .answered s => s
  | .accepted s => f s

/-- A request is admitted (R432, R433, R435, R438, R578): MAC, COUNTER and session; then its TAG against the responses
kept; then the form of the message; then what the device answers before READY. A session whose idle deadline has
passed admits nothing (R154). -/
def State.admitReq (s : State) (r : IzReq) : Admission :=
  let s := s.arrives r
  let form (s : State) (a : State → Admission) : Admission :=
    if opReserved r.op ∨ !r.lengthOk then .answered (s.respond (r.answer stFormat))
    else if !s.ready ∧ !(r.op = opOpen ∨ r.op = opAuth ∨ r.op = opClose
        ∨ (r.op = opRead ∧ 0x1000 ≤ r.index ∧ r.index ≤ 0x16FF)) then .answered (s.respond (r.answer stState))
    else a s
  if r.session = 0 then
    if r.op = opOpen ∨ (r.op = opRead ∧ 0x1000 ≤ r.index ∧ r.index ≤ 0x100F) then
      form (s.inc Reg.IZ_CTL_REQUESTS) .accepted
    else .discarded s.macFail
  else
    match sessionNo r.session with
    | none => .discarded s.macFail
    | some k =>
      let z := s.session k
      if z.phase = 2 ∧ !s.passed (.session k.val) ∧ r.op ≠ opAuth ∧ r.mac = (hmacSha256 z.key (r.header ++ r.data)).take 16
          ∧ z.counter < r.counter then
        let s := (s.setSession k fun z => { z with counter := r.counter }).inc Reg.IZ_CTL_REQUESTS
        let s := (s.wr Reg.IZ_SESSION_last_arrival 0 r.session s.now).arm (.session k.val)
          (s.now + s.rd Reg.IZ_CTL_idle_time * nsPerSec)
        match z.kept.find? fun x => x.tag == r.tag with
        | some x => .answered ((s.inc Reg.IZ_CTL_REPEATS).respond { x with side := r.side, counter := r.counter })
        | none => form s .accepted
      else .discarded s.macFail

/-! ## READ and WRITE (R439, R440) -/

/-- A READ of an existing address: the status, the data, the EXT field. -/
def State.readAt (s : State) (o : Obj) (n : Nat) (r : IzReq) : Nat × Bytes × Bytes :=
  if o.acc = .wo then (stAccess, [], [])
  else if 0x5000 ≤ r.index ∧ r.index ≤ 0x50FF ∧ s.rd Reg.FENCE_CTL_state 0 36 ≠ 0 then (stState, [], [])
  else if !s.elementOk o n r.element then (stNoObject, [], [])
  else if r.count = 0 ∨ (o.elems = 0 ∧ r.count ≠ 1) ∨ (o.elems ≠ 0 ∧ o.elemLo + s.elements o n < r.element + r.count) then
    (stFormat, [], [])
  else
    match o.ty with
    | .blob _ =>
      if r.count = 1 then
        let b := s.readObject o n r.element
        if b.length ≤ r.offset then (stFormat, [], []) else (stOk, (b.drop r.offset).take 2000, be 4 b.length)
      else
        let b := (List.range r.count).flatMap fun i => s.readObject o n (r.element + i)
        if 2000 < b.length then (stFormat, [], []) else (stOk, b, [])
    | t =>
      if 2000 < r.count * t.size then (stFormat, [], [])
      else (stOk, (List.range r.count).flatMap fun i => s.readObject o n (r.element + i), [])

/-- A READ (R427, R439). -/
def State.readReq (s : State) (r : IzReq) : State :=
  let (status, data, ext) :=
    match lookup r.index r.sub with
    | some (o, n) => s.readAt o n r
    | none =>
      match (if r.sub = 0 then highestSub r.index else none) with
      | some m => if r.element ≠ 0 then (stNoObject, [], []) else if r.count ≠ 1 then (stFormat, [], []) else (stOk, be 1 m, [])
      | none => (stNoObject, [], [])
  s.respond (r.answer status data ext)

/-- The values of a WRITE, element by element. -/
def Obj.chunks (o : Obj) (r : IzReq) : List (Nat × Bytes) :=
  let size := match o.ty with | .blob n => n | t => t.size
  (List.range r.count).map fun i => (r.element + i, slice r.data (i * size) size)

/-- The check of a WRITE in full (R429, R430, R440): the status that refuses it, or its values, reserved bits cleared (R6).
Existence, access, role, state, length and range are taken in this order. -/
def State.checkWrite (s : State) (r : IzReq) : Except Nat (Obj × Nat × List (Nat × Bytes)) :=
  match lookup r.index r.sub with
  | none => .error (if r.sub = 0 ∧ (highestSub r.index).isSome then stAccess else stNoObject)
  | some (o, n) =>
    let size := match o.ty with | .blob n => n | t => t.size
    if !s.elementOk o n r.element ∨ (o.elems ≠ 0 ∧ o.elemLo + s.elements o n < r.element + r.count) then .error stNoObject
    else if o.acc = .ro then .error stAccess
    else if !roleWrites (s.roleOf r.session) o then .error stRole
    else if o.acc = .rws ∧ 2 ≤ s.fuses.lifeCycle then .error stState
    else if r.count = 0 ∨ (o.elems = 0 ∧ r.count ≠ 1) ∨ r.offset ≠ 0 then .error stFormat
    else if r.data.length ≠ r.count * size then .error stLength
    else
      let vs := o.chunks r
      if vs.all fun v => o.valueOk v.2 then .ok (o, n, vs.map fun v => (v.1, o.cleared v.2)) else .error stRange

/-- A refused WRITE is answered and counted. -/
def State.refuseWrite (s : State) (r : IzReq) (status : Nat) : State :=
  (s.inc Reg.IZ_CTL_WRITES_REFUSED).respond (r.answer status)

/-! ## Staging (R440, R442) -/

/-- Bytes all sessions stage together. -/
def State.stagedBytes (s : State) : Nat := (s.iz.sessions.toList.map fun z => (z.staged.map fun v => v.2.length).sum).sum

/-- Puts a value into a staged set, in the place of any value for the same address. -/
def stageValue (l : List (Addr × Bytes)) (v : Addr × Bytes) : List (Addr × Bytes) := (l.filter fun x => x.1 ≠ v.1) ++ [v]

/-- Stages the values of a WRITE, unless the staging area cannot hold them. -/
def State.stage (s : State) (r : IzReq) (k : SessionNo) (vs : List (Nat × Bytes)) : State :=
  let l := vs.foldl (fun l v => stageValue l (⟨r.index, r.sub, v.1⟩, v.2)) (s.session k).staged
  let t := s.setSession k fun z => { z with staged := l }
  if 67108864 < t.stagedBytes then s.refuseWrite r stBusy else t.respond (r.answer stOk)

/-! ## Islands (R12, R48) -/

/-- The island that applies an object's writes. -/
def islandOf (o : Obj) (n : Nat) : Island :=
  let p : Port := Fin.ofNat 32 n
  if 0x2000 ≤ o.index ∧ o.index < 0x2800 then .lineEngine p
  else if 0x3000 ≤ o.index ∧ o.index ≤ 0x3800 then .sounding p
  else if 0x4000 ≤ o.index ∧ o.index < 0x4100 then .lineEngine p
  else if 0x4100 ≤ o.index ∧ o.index < 0x5000 then .queueManager
  else if o.index = 0x1020 then .houseFrame
  else if 0x1200 ≤ o.index ∧ o.index < 0x1300 then .timeUnit
  else if 0x1300 ≤ o.index ∧ o.index < 0x1400 then .powerController
  else if 0x1100 ≤ o.index ∧ o.index < 0x1200 then .porfani
  else .steward

/-- The island of an address, where it exists. -/
def Addr.island (a : Addr) : Option Island := (lookup a.index a.sub).map fun x => islandOf x.1 x.2

end Sys2Proof.Machine
end

