-- ==== Sys2Proof/Machine/IzCheck.lean ====
section
/-! DEFINITION. The checks of a commit (R444 to R446): range checks that depend on other objects, and the conflicts of
Table 10.8. Each is made of the configuration that would be in force. -/

namespace Sys2Proof.Machine

/-- The configuration that staged values give over the values in force (R444 step 1). -/
def State.config (s : State) (vs : List (Addr × Bytes)) : State :=
  vs.foldl (fun c v => match lookup v.1.index v.1.sub with
    | some (o, n) => c.putObject o n v.1.element v.2
    | none => c) s

/-! ## Range checks (R444 step 2) -/

/-- R59: a band whose edges break R58. -/
def bandCheck (c : State) : Option Addr :=
  (allPorts.find? fun (p : Port) => !(c.bandObj p).edgesOk).map fun p => Reg.LP_CENTRE.addr p

/-- R146: a packet-number counter lowered by a commit that does not follow a write of the association's key. -/
def counterCheck (s c : State) (vs : List (Addr × Bytes)) : Option Addr :=
  (vs.find? fun v => match lookup v.1.index v.1.sub with
    | some (o, p) =>
      let k := p * 256 + v.1.element
      (o == Reg.LP_SA_transmit_PN || o == Reg.LP_SA_receive_PN) && decide (c.rd o p v.1.element < s.rd o p v.1.element)
        && !s.iz.keyFresh.contains k && !s.iz.keyWrites.any fun x => x.1 == k
    | none => false).map fun v => v.1

/-- The pending itinerary of a port as the windows of one cycle. -/
def State.pendWindows (c : State) (p : Port) : List (Nat × Int × Int) :=
  layout ((List.range (c.rdN Reg.ITIN_PEND_count p)).map fun e => c.rdN Reg.ITIN_PEND_windows p e) 0

/-- A commit makes the pending check of a port (R328): the port is armed by it, or it changes an armed itinerary. -/
def pendChecked (c : State) (vs : List (Addr × Bytes)) (p : Port) : Bool :=
  c.flag Reg.ITIN_CTL_arm p && (sets vs Reg.ITIN_CTL_arm p || vs.any fun v => v.1.index == 0x4040 + p.val)

/-- Two grant elements name one station with overlapping intervals. -/
def grantsClash (g h : Nat) : Bool :=
  grantAddress g != 0 && grantAddress g == grantAddress h
    && overlaps (grantOffset g) (grantDuration g) (grantOffset h) (grantDuration h)

/-- R334 for the grant entries of a window. -/
def entryCheck (c : State) (p : Port) (w : Nat) : Option Addr :=
  let es := List.range' (winFirst w) (winGrants w)
  let g (e : Nat) : Nat := c.rdN Reg.ITIN_PEND_grants p e
  (es.find? fun e => decide (1024 ≤ e ∨ winDuration w < grantOffset (g e) + grantDuration (g e))
      || es.any fun f => decide (f < e) && grantsClash (g f) (g e)).map fun e => Reg.ITIN_PEND_grants.addr p (min e 1023)

/-- The tail of R335. -/
def tailNs : Int := 384000

/-- The SOUND window whose tail, taken cyclically, holds an instant of the cycle. -/
def tailOf (ws : List (Nat × Int × Int)) (cycle t : Int) : Option Nat :=
  (ws.zipIdx.find? fun x => winType x.1.1 == wSound && decide ((t - x.1.2.1 - x.1.2.2) % max 1 cycle < tailNs)).map (·.2)

/-- R334 and R335 for the pending itinerary of a port. -/
def pendCheck (c : State) (p : Port) : Option Addr :=
  let n := c.rdN Reg.ITIN_PEND_count p
  let cycle := c.rd Reg.ITIN_PEND_cycle p
  let ws := c.pendWindows p
  if n = 0 ∨ 256 < n then some (Reg.ITIN_PEND_count.addr p)
  else if cycle < 1000000 ∨ 60000000000 < cycle ∨ cycle ≠ (ws.map fun w => w.2.2).sum then some (Reg.ITIN_PEND_cycle.addr p)
  else
    ws.zipIdx.findSome? fun x =>
      let w := x.1.1
      let t := winType w
      if 6 < t ∨ (!granting t ∧ winGrants w ≠ 0)
          ∨ ((t = wUpAllot ∨ t = wUpContend ∨ t = wDiscover) ∧ (tailOf ws cycle x.1.2.1).isSome) then
        some (Reg.ITIN_PEND_windows.addr p x.2)
      else entryCheck c p w

/-- R342: a control part with VALID = 1 that names a wrong station, queue or association. -/
def flowCheck (vs : List (Addr × Bytes)) : Option Addr :=
  (vs.find? fun v =>
    let f := v.1.element
    v.1.index == 0x4400 && v.1.sub == 1 && fcValid v.2
      && (flowStation f == 0 || decide (fcQueue v.2 / 128 ≠ flowPort f)
          || (fcSa v.2 != 0 && flowStation f == 255))).map fun v => v.1

/-- R355: a PIR below the CIR of a meter that the commit sets. -/
def meterCheck (c : State) (vs : List (Addr × Bytes)) : Option Addr :=
  (vs.find? fun v => v.1.index == 0x4300 && (v.1.sub == 2 || v.1.sub == 3)
    && decide (c.rd Reg.METER_PIR 0 v.1.element < c.rd Reg.METER_CIR 0 v.1.element)).map fun v =>
      Reg.METER_PIR.addr 0 v.1.element

/-- A port that is, or by this commit goes, DOWN, PARKED or FENCED (R456). -/
def portGone (s c : State) (p : Port) : Bool :=
  decide (s.portState p = stFenced) || !c.flag Reg.LP_STATE_enable p || c.flag Reg.LP_STATE_park p
    || (decide (s.portState p = stParked) && s.power.parked.contains p.val)

/-- Table 11.2: a line engine at a level with a band. -/
def lineLevelOk (gone : Bool) (level : Int) (kHz : Nat) : Bool :=
  level == 0 || gone || (level == 1 && decide (kHz ≤ 2000)) || (level == 2 && decide (kHz ≤ 1000))

/-- R456: a unit left at a level whose conditions the configuration breaks. -/
def levelCheck (s c : State) : Option Addr :=
  let level (u : Nat) : Int := c.rd Reg.PERF_LEVEL_requested 0 u
  let gone := allPorts.map fun p => portGone s c p
  let total := (allPorts.map fun p => if gone.getD p.val true then 0 else (c.bandObj p).kHz).sum
  let queueOk := if level 36 = 3 then gone.all id else decide (total ≤ 128000 / 2 ^ (level 36).toNat)
  let bad := (allPorts.find? fun (p : Port) => !lineLevelOk (gone.getD p.val true) (level p.val) (c.bandObj p).kHz).map fun p => p.val
  (bad <|> if queueOk then none else some 36).map fun u => Reg.PERF_LEVEL_requested.addr 0 u

/-- R479: CLOCK_SELECT /01 = 1 without an accepted REFCLK. -/
def clockCheck (s c : State) (vs : List (Addr × Bytes)) : Option Addr :=
  if sets vs Reg.CLOCK_SELECT_request ∧ c.rd Reg.CLOCK_SELECT_request = 1 ∧ s.rd Reg.CAL_REF_REFCLK_state ≠ 1 then
    some (Reg.CLOCK_SELECT_request.addr)
  else none

/-- The fault that fenced an element waits for its acknowledgement. -/
def State.fenceUnacked (s : State) (e : Nat) : Bool :=
  s.faults.logged.any fun f => f.seq == s.rdN Reg.FENCE_CTL_SEQ 0 e && !f.acked

/-- R499: a fence cleared on an element that is not FENCED, or whose fault is not acknowledged. -/
def fenceCheck (s c : State) (vs : List (Addr × Bytes)) : Option Addr :=
  (vs.find? fun v => v.1.index == 0x1420 && v.1.sub == 2 && c.flag Reg.FENCE_CTL_clear 0 v.1.element
    && (decide (s.rd Reg.FENCE_CTL_state 0 v.1.element ≠ 1) || s.fenceUnacked v.1.element)).map fun v => v.1

/-- R581: a life-cycle request without its confirmation, not upwards, or without a fuse set left. -/
def lifeCheck (s c : State) (vs : List (Addr × Bytes)) : Option Addr :=
  let want := c.rdN Reg.LC_STATE_request
  if sets vs Reg.LC_STATE_request ∧ want ≠ 0
      ∧ (c.rdN Reg.LC_STATE_confirm ≠ s.fuses.deviceId % 4294967296 ∨ want ≤ s.fuses.lifeCycle
          ∨ (want = 2 ∧ 2 ≤ s.fuses.rws.length)) then
    some (Reg.LC_STATE_request.addr)
  else none

/-- The checks that depend on other objects, in the order of their rules (R444 step 2): the first object refused. -/
def rangeCheck (s c : State) (vs : List (Addr × Bytes)) : Option Addr :=
  bandCheck c <|> counterCheck s c vs <|> (allPorts.filter fun (p : Port) => pendChecked c vs p).findSome? (fun p => pendCheck c p)
    <|> flowCheck vs <|> meterCheck c vs <|> levelCheck s c <|> clockCheck s c vs <|> fenceCheck s c vs <|> lifeCheck s c vs

/-! ## Conflicts (R336, R445) -/

/-- A conflict: its code, its contenders, AT and VALUE (Table 10.9). -/
structure Conflict where
  kind : Nat
  a : Addr
  b : Addr
  at' : Stamp := 0
  value : Nat := 0
  deriving DecidableEq, Repr

/-- A SOUND window as R336 counts it: where it stands, one of its starts, its length, its cycle. -/
structure SoundWin where
  port : Nat
  elem : Nat
  addr : Addr
  start : Stamp
  dur : Int
  cycle : Int
  deriving DecidableEq, Repr

/-- The SOUND windows of an itinerary. -/
def soundWins (p : Port) (o : Obj) (ws : List (Nat × Int × Int)) (base cycle : Int) : List SoundWin :=
  (ws.zipIdx.filter fun x => winType x.1.1 == wSound).map fun x =>
    { port := p.val, elem := x.2, addr := o.addr p x.2, start := base + x.1.2.1, dur := x.1.2.2, cycle := max 1 cycle }

/-- The start of the window in progress, or of the last one, at an instant. -/
def SoundWin.lastStart (w : SoundWin) (t : Stamp) : Stamp := t - (t - w.start) % w.cycle

/-- An instant lies in a window: its start included, its end excluded. -/
def SoundWin.holds (w : SoundWin) (t : Stamp) : Bool := decide (t - w.lastStart t < w.dur)

/-- The starts of a window in a span that is a multiple of its cycle. -/
def SoundWin.starts (w : SoundWin) (t len : Int) : List Stamp :=
  (List.range (len / w.cycle).toNat).map fun k => t + (w.start - t) % w.cycle + (k : Int) * w.cycle

/-- R336 where the windows are evaluated, from an instant over the least common multiple of the cycles. -/
def evaluated (limit : Nat) (t len : Int) (ws : List SoundWin) : Option Conflict :=
  if ws.length ≤ limit then none
  else
    let hot := (t :: ws.flatMap fun w => w.starts t len).filter fun x =>
      decide (limit < (ws.filter fun w => w.holds x).length)
    hot.min?.bind fun x =>
      let act := ws.filter fun w => w.holds x
      let late := act.mergeSort fun v w =>
        decide (v.lastStart x < w.lastStart x ∨ (v.lastStart x = w.lastStart x ∧ v.port ≤ w.port))
      act.head?.bind fun a => late[limit]?.map fun b =>
        { kind := 2, a := a.addr, b := b.addr, at' := x, value := act.length }

/-- Two windows of different ports that R336 treats as overlapping without evaluation, or that overlap with equal
cycles. -/
def SoundWin.treated (v w : SoundWin) : Bool :=
  v.port != w.port && (v.cycle != w.cycle
    || decide ((w.start - v.start) % v.cycle < v.dur ∨ (v.start - w.start) % v.cycle < w.dur))

/-- R336 where the multiple exceeds 3,600 s. -/
def counted (limit : Nat) (ws : List SoundWin) : Option Conflict :=
  ws.findSome? fun w =>
    let l := w :: ws.filter fun v => w.treated v
    l[limit]?.map fun b => { kind := 2, a := w.addr, b := b.addr, value := l.length }

/-- R336 for one combination of itineraries, from an instant on. -/
def overlapsOf (limit : Nat) (t : Stamp) (ws : List SoundWin) : Option Conflict :=
  let len := (ws.map fun w => w.cycle.toNat).foldl Nat.lcm 1
  if len ≤ 3600000000000 then evaluated limit t len ws else counted limit ws

/-- The switch instant of an armed itinerary if the commit is done now: computed anew where the commit arms it (R329,
R330). -/
def State.switchIf (s c : State) (vs : List (Addr × Bytes)) (p : Port) : Option Stamp :=
  let from' (d : Stamp) : Stamp :=
    let base := c.rd Reg.ITIN_PEND_base p
    let cycle := max 1 (c.rd Reg.ITIN_PEND_cycle p)
    base + advance base cycle d * cycle
  if sets vs Reg.ITIN_CTL_arm p ∧ c.flag Reg.ITIN_CTL_arm p then some (from' s.now)
  else match (s.port p).armedAt with
    | some d => some (from' d)
    | none => s.switchAt p

/-- The SOUND windows of every port in the combination that runs at an instant. -/
def State.combination (c : State) (sw : List (Port × Option Stamp)) (t : Stamp) : List SoundWin :=
  sw.flatMap fun x =>
    if x.2.any fun y => decide (y ≤ t) then
      soundWins x.1 Reg.ITIN_PEND_windows (c.pendWindows x.1) (c.rd Reg.ITIN_PEND_base x.1) (c.rd Reg.ITIN_PEND_cycle x.1)
    else soundWins x.1 Reg.ITIN_OP_windows (c.opWindows x.1) (c.rd Reg.ITIN_OP_base x.1) (c.rd Reg.ITIN_OP_cycle x.1)

/-- Conflict 2 (R336, R458): the earliest over the combinations that run from now on. -/
def soundConflict (s c : State) (vs : List (Addr × Bytes)) : Option Conflict :=
  let limit := 4 - ((List.range' 32 4).filter fun e => decide (c.rd Reg.PERF_LEVEL_requested 0 e = 3)).length
  let sw := allPorts.map fun p => (p, s.switchIf c vs p)
  let from' := s.now :: (sw.filterMap fun x => x.2).filter fun t => decide (s.now < t)
  let found := from'.filterMap fun t => overlapsOf limit t (c.combination sw t)
  (found.map fun x => x.at').min?.bind fun t => found.find? fun x => x.at' == t

/-- Conflict 3 (R335): a DUPLEX window of an armed itinerary that begins in the tail of a SOUND window. -/
def duplexConflict (s c : State) (vs : List (Addr × Bytes)) : Option Conflict :=
  (allPorts.filter fun (p : Port) => pendChecked c vs p).findSome? fun (p : Port) =>
    let ws := c.pendWindows p
    let cycle := c.rd Reg.ITIN_PEND_cycle p
    ws.zipIdx.findSome? fun x =>
      if winType x.1.1 = wDuplex then
        (tailOf ws cycle x.1.2.1).map fun i =>
          { kind := 3, a := Reg.ITIN_PEND_windows.addr p i, b := Reg.ITIN_PEND_windows.addr p x.2,
            at' := (s.switchIf c vs p).getD s.now + x.1.2.1 + (if x.2 < i then cycle else 0) }
      else none

/-- Conflict 4 (R98): training of the pre-distorter asked for while the operating or an armed itinerary holds a DUPLEX
window. -/
def trainConflict (s c : State) (vs : List (Addr × Bytes)) : Option Conflict :=
  (allPorts.filter fun (p : Port) => c.flag Reg.LP_DPD_train p.val).findSome? fun (p : Port) =>
    let duplex (o : Obj) (ws : List (Nat × Int × Int)) : Option Conflict :=
      (ws.findIdx? fun w => winType w.1 == wDuplex).map fun i =>
        { kind := 4, a := Reg.LP_DPD_train.addr p, b := o.addr p i }
    duplex Reg.ITIN_OP_windows (c.opWindows p)
      <|> if (s.switchIf c vs p).isSome then duplex Reg.ITIN_PEND_windows (c.pendWindows p) else none

/-- Conflict 5 (R40). -/
def tsyncConflict (c : State) : Option Conflict :=
  if c.flag Reg.TSYNC_PPS_IN ∧ (c.flag Reg.TSYNC_OUT ∨ c.flag Reg.TSYNC_TIMER) then
    some { kind := 5, a := Reg.TSYNC_PPS_IN.addr,
           b := if c.flag Reg.TSYNC_OUT then Reg.TSYNC_OUT.addr else Reg.TSYNC_TIMER.addr }
  else none

/-- Conflict 6 (R407). -/
def downConflict (c : State) : Option Conflict :=
  if c.flag Reg.CASC_member ∧ c.flag Reg.PF_CTL_DOWN_second_host then
    some { kind := 6, a := Reg.CASC_member.addr, b := Reg.PF_CTL_DOWN_second_host.addr }
  else none

/-- AO_BUDGET of a configuration (R471). -/
def State.aoBudget (c : State) : Nat :=
  budget (c.rdN Reg.WAKE_SOURCES_activity) (c.rdN Reg.WAKE_SOURCES_bell) (c.flag Reg.WAKE_SOURCES_Porfani)

/-- Conflict 7 (R472); the contender is the subindex of WAKE_SOURCES that holds ports, /03 where it does. -/
def budgetConflict (c : State) : Option Conflict :=
  if 1800 < c.aoBudget then
    some { kind := 7, a := Reg.AO_BUDGET.addr, value := c.aoBudget,
           b := if c.rd Reg.WAKE_SOURCES_activity = 0 then Reg.WAKE_SOURCES_bell.addr else Reg.WAKE_SOURCES_activity.addr }
  else none

/-- The conflicts of Table 10.8 in table order (R444 step 3): the first found. -/
def conflictOf (s c : State) (vs : List (Addr × Bytes)) : Option Conflict :=
  soundConflict s c vs <|> duplexConflict s c vs <|> trainConflict s c vs <|> tsyncConflict c <|> downConflict c
    <|> budgetConflict c

/-! ## The report (R446) -/

/-- An address in CONFLICT_REPORT. -/
def Addr.bytes (a : Addr) : Bytes := be 2 a.index ++ be 1 a.sub ++ be 3 a.element

/-- CONFLICT_REPORT of a conflict (Table 10.9). -/
def Conflict.report (x : Conflict) : Bytes :=
  be 1 x.kind ++ [0] ++ x.a.bytes ++ x.b.bytes ++ timeBytes x.at' ++ be 4 x.value ++ [0, 0, 0, 0]

/-- What becomes of a commit's check: refused with a status and a report, or accepted. -/
def State.commitRefusal (s : State) (vs : List (Addr × Bytes)) : Option (Nat × Bytes) :=
  let c := s.config vs
  match rangeCheck s c vs with
  | some a => some (stRange, Conflict.report { kind := 1, a := a, b := ⟨0, 0, 0⟩ })
  | none => (conflictOf s c vs).map fun x => (stConflict, x.report)

end Sys2Proof.Machine
end

