-- ==== Sys2Proof/Machine/Izvas.lean ====
section
/-! DEFINITION. Izvas at work (chapter 10): reads, writes, sessions, proxies, commits taken in and checked; and the writes
of station time (R27, R29). -/

namespace Sys2Proof.Machine

/-! ## Reads and writes (R427 to R440) -/

/-- A proxy address (R450). -/
def isProxy (r : IzReq) : Bool := proxyIndex r.index && decide (1 ≤ r.sub ∧ r.sub ≤ 254)

/-- The objects whose WRITE is a command of its own: COMMIT, STATION_TIME, TSYNC_TOD, FAULT_ACK, FAULT_INJECT,
RESET_REQUEST. -/
def ownRows : List Nat := [0x1010, 0x1200, 0x1204, 0x1402, 0x1410, 0x1603]

/-- A WRITE of the object at an index without subindices. -/
def writes (r : IzReq) (index : Nat) : Bool := decide (r.op = opWrite ∧ r.index = index ∧ r.sub = 0)

/-- IZVAS_READ (R427, R433, R438, R439): a READ, or a message with a reserved OP. -/
def execIzvasRead (r : IzReq) (s : State) : Res :=
  guarded (s.takes r ∧ ((r.op = opRead ∧ !isProxy r) ∨ opReserved r.op)) s ((s.admitReq r).run fun s => s.readReq r)

/-- A write that applies without commit waits for its island's apply point (R429): TSYNC_TIMER_AT, or a key of LP_SA. -/
def State.writeDirect (s : State) (r : IzReq) (o : Obj) (n : Nat) (vs : List (Nat × Bytes)) : State :=
  let d : Direct := { island := islandOf o n, values := vs.map fun v => (⟨r.index, r.sub, v.1⟩, v.2), resp := r.answer stOk }
  let keys := if o = Reg.LP_SA_key then vs.map fun v => (n * 256 + v.1, v.2) else []
  let fresh (k : Nat × Bytes) : Bool := !keys.any fun x => x.1 == k.1
  (s.setIz fun fld => { fld with direct := s.iz.direct ++ [d], keyWrites := s.iz.keyWrites.filter fresh ++ keys })

/-- A WRITE that passed its check or was refused by it (R440): staged, or on its way to its island. -/
def State.writeReq (s : State) (r : IzReq) : State :=
  match s.checkWrite r, sessionNo r.session with
  | .ok (o, n, vs), some k => if o.acc = .rwp ∨ o.acc = .rws then s.stage r k vs else s.writeDirect r o n vs
  | .error e, _ => s.refuseWrite r e
  | _, none => s

/-- IZVAS_WRITE (R429, R430, R440, R442). -/
def execIzvasWrite (r : IzReq) (s : State) : Res :=
  guarded (s.takes r ∧ r.op = opWrite ∧ !isProxy r ∧ !ownRows.any (writes r)) s
    ((s.admitReq r).run fun s => s.writeReq r)

/-- The staged values that a READ_STAGED names (Table 10.6); `none` when one of them is not staged. -/
def Session.find (z : Session) (r : IzReq) : Option (List Bytes) :=
  ((List.range r.count).map fun i => (z.staged.find? fun v => v.1 == ⟨r.index, r.sub, r.element + i⟩).map (·.2)).allSome

/-- READ_STAGED (R432, R439): the session's staged values of an address, as a READ returns values in force. -/
def execReadStaged (r : IzReq) (s : State) : Res :=
  guarded (s.takes r ∧ r.op = opReadStaged) s <| (s.admitReq r).run fun s =>
    match lookup r.index r.sub, sessionNo r.session with
    | some (o, _), some k =>
      if r.count = 0 ∨ (o.elems = 0 ∧ r.count ≠ 1) then s.respond (r.answer stFormat)
      else
        match (s.session k).find r with
        | none => s.respond (r.answer stNotStaged)
        | some l =>
          let b := l.flatten
          match o.ty with
          | .blob _ =>
            if r.count = 1 then
              (if b.length ≤ r.offset then s.respond (r.answer stFormat)
               else s.respond (r.answer stOk ((b.drop r.offset).take 2000) (be 4 b.length)))
            else if 2000 < b.length then s.respond (r.answer stFormat) else s.respond (r.answer stOk b)
          | _ => if 2000 < b.length then s.respond (r.answer stFormat) else s.respond (r.answer stOk b)
    | _, _ => s.respond (r.answer stNoObject)

/-- DISCARD (R432): the session's staged set is emptied. -/
def execDiscardStaged (r : IzReq) (s : State) : Res :=
  guarded (s.takes r ∧ r.op = opDiscard) s <| (s.admitReq r).run fun s =>
    match sessionNo r.session with
    | some k => (s.setSession k fun z => { z with staged := [] }).respond (r.answer stOk)
    | none => s

/-! ## Sessions (R434, R435) -/

/-- A session number becomes free (R435): its staged set is discarded, and so are its commits that have not begun. -/
def State.freeSession (s : State) (k : SessionNo) : State :=
  let n := k.val + 1
  let queue := s.iz.queue.filter fun c => c.session ≠ n
  let s := if queue = [] ∧ s.iz.queue ≠ [] ∧ s.rd Reg.COMMIT_STATUS_state = 1 then
      s.wr Reg.COMMIT_STATUS_state 0 0 (if s.iz.active.isSome then 3 else 0) else s
  let s := s.setIz fun fld => { fld with queue := queue }
  let s := (s.setSession k fun _ => {}).disarm (.auth k.val)
  (((s.disarm (.session k.val)).wr Reg.IZ_SESSION_role 0 n 0).wr Reg.IZ_SESSION_opened 0 n 0).wr
    Reg.IZ_SESSION_last_arrival 0 n 0

/-- Every session closes (R435). -/
def State.freeSessions (s : State) : State := (List.finRange 8).foldl State.freeSession s

/-- The bytes that both proofs of R434 cover after their string. -/
def State.proofText (s : State) (z : Session) : Bytes := be 8 s.fuses.deviceId ++ z.deviceNonce ++ z.hostNonce ++ be 1 z.role

/-- The 32 bytes of a role's key (R434, R580). -/
def State.roleKeyBytes (s : State) (role : Nat) : Bytes := be 32 (s.fuses.roleKey role).key

/-- OPEN (R434, R435): the lowest free session number is allotted, with a fresh DEVICE_NONCE, a free value; or the OPEN is
refused. -/
def execOpenSession (r : IzReq) (s : State) : Res :=
  guarded (s.takes r ∧ r.op = opOpen) s <| (s.admitReq r).run fun s =>
    let role := uAt r.data 0 1
    let free := (List.finRange 8).find? fun k => decide ((s.session k).phase = 0)
    if r.data.length ≠ 17 then s.respond (r.answer stFormat)
    else if role = 0 ∨ 3 < role then s.respond (r.answer stRange)
    else
      match free with
      | none => s.respond (r.answer stBusy)
      | some k =>
        if (s.fuses.roleKey role).status ≠ 1 ∨ s.iz.locked then s.respond (r.answer stAuth)
        else
          let (nonce, s) := s.freeBytes 16
          let s := (s.setSession k fun _ =>
            { phase := 1, role := role, hostNonce := slice r.data 1 16, deviceNonce := nonce }).arm
            (.auth k.val) (s.now + nsPerSec)
          s.respond { r.answer stOk (be 8 s.fuses.deviceId ++ nonce) with session := k.val + 1 }

/-- An AUTH that failed, or did not come (R435): counted, the number freed; the third in a row refuses OPENs for 10 s. -/
def State.authFailed (s : State) (k : SessionNo) : State :=
  let s := (s.freeSession k).inc Reg.IZ_CTL_AUTH_FAILS
  let s := s.setIz fun fld => { fld with authRun := s.iz.authRun + 1 }
  if 3 ≤ s.iz.authRun then (s.setIz fun fld => { fld with locked := true }).arm .lockout (s.now + 10 * nsPerSec) else s

/-- AUTH (R433 to R435): HOST_PROOF is verified and the session opens; or it fails, and the number is freed. -/
def execAuthSession (r : IzReq) (s : State) : Res :=
  guarded (s.takes r ∧ r.op = opAuth) s <|
    let s := s.arrives r
    match sessionNo r.session with
    | none => s.macFail
    | some k =>
      let z := s.session k
      if z.phase ≠ 1 ∨ r.counter ≠ 0 ∨ r.mac ≠ [] ∨ s.passed (.auth k.val) then s.macFail
      else
        let s := s.inc Reg.IZ_CTL_REQUESTS
        let key := s.roleKeyBytes z.role
        if !r.lengthOk then s.reply (r.answer stFormat)
        else if r.data ≠ hmacSha256 key ([0x49, 0x5A, 0x56, 0x31] ++ s.proofText z) then
          (s.authFailed k).reply (r.answer stAuth)
        else
          let n := k.val + 1
          let ks := hmacSha256 key ([0x49, 0x5A, 0x56, 0x4B] ++ z.deviceNonce ++ z.hostNonce)
          let s : State := (s.setIz fun fld => { fld with authRun := 0 }).disarm (.auth k.val)
          let s := (s.setSession k fun z => { z with phase := 2, key := ks, counter := 0 }).arm (.session k.val)
            (s.now + s.rd Reg.IZ_CTL_idle_time * nsPerSec)
          let s := ((s.wr Reg.IZ_SESSION_role 0 n z.role).wr Reg.IZ_SESSION_opened 0 n s.now).wr
            Reg.IZ_SESSION_last_arrival 0 n s.now
          s.respond (r.answer stOk (hmacSha256 key ([0x49, 0x5A, 0x56, 0x32] ++ s.proofText z)))

/-- CLOSE (R435): answered; the session closes. -/
def execCloseSession (r : IzReq) (s : State) : Res :=
  guarded (s.takes r ∧ r.op = opClose) s <| (s.admitReq r).run fun s =>
    match sessionNo r.session with
    | some k => (s.respond (r.answer stOk)).freeSession k
    | none => s

/-- AUTH_TIMEOUT (R435): no AUTH came in time. -/
def execAuthTimeout (k : SessionNo) (s : State) : Res :=
  guarded (s.runs ∧ (s.session k).phase = 1 ∧ s.passed (.auth k.val)) s (s.authFailed k)

/-- AUTH_LOCKOUT_END (R435): 10 s after the third failure OPENs are accepted again. -/
def execAuthLockoutEnd (s : State) : Res :=
  guarded (s.runs ∧ s.iz.locked ∧ s.reached .lockout) s
    ((s.setIz fun fld => { fld with locked := false, authRun := 0 }).disarm .lockout)

/-- SESSION_IDLE_TIMEOUT (R435): no request came in the idle time; the session closes. -/
def execSessionIdleTimeout (k : SessionNo) (s : State) : Res :=
  guarded (s.runs ∧ (s.session k).phase = 2 ∧ s.passed (.session k.val)) s (s.freeSession k)

/-! ## Proxies (R450 to R452) -/

/-- The status that refuses a proxy request for the address and the role (R427, R430, R450). -/
def State.proxyRefused (s : State) (r : IzReq) (write : Bool) : Option Nat :=
  let role := s.roleOf r.session
  if r.element ≠ 0 then some stNoObject
  else if role = 3 ∨ (write ∧ role ≠ 2) then some stRole
  else if r.count ≠ 1 then some stFormat
  else if write ∧ 1510 < r.data.length then some stLength
  else none

/-- The status that refuses it for the port and the station (R451 step 1). -/
def State.stationRefused (s : State) (p : Port) (a : Nat) : Option Nat :=
  let st := s.rd Reg.LP_STATION_state p a
  if s.portState p ≠ stService then some stState
  else if st ≠ 3 ∧ st ≠ 4 then some stStationUnreachable
  else if (s.elem p a).security ∧ s.associationOf p a = none then some stNoAssociation
  else none

/-- A proxy request is checked and queued (R450, R451). -/
def State.proxyReq (s : State) (r : IzReq) (write : Bool) : State :=
  let p : Port := Fin.ofNat 32 (r.index - 0x6000)
  let a := r.sub
  let ext := be 2 r.rIndex ++ be 1 r.rSub ++ be 3 r.rElement
  match s.proxyRefused r write with
  | some e => if write then s.refuseWrite r e else s.respond (r.answer e [] ext)
  | none =>
    match s.stationRefused p a with
    | some e => s.respond (r.answer e [] ext)
    | none =>
      let q := s.port p
      if 8 ≤ (q.proxies.filter fun x => x.a == a).length + (q.outstanding.filter fun o => o.proxy.a == a).length then
        (s.inc Reg.PROXY_STATS_BUSY p).respond (r.answer stBusy [] ext)
      else
        let x : Proxy := { a := a, write := write, rIndex := r.rIndex, rSub := r.rSub, rElement := r.rElement, data := r.data,
                           side := r.side, op := r.op, session := r.session, tag := r.tag, counter := r.counter }
        s.setPort p fun q => { q with proxies := q.proxies ++ [x] }

/-- PROXY_READ (R450, R451). -/
def execProxyRead (r : IzReq) (s : State) : Res :=
  guarded (s.takes r ∧ r.op = opRead ∧ isProxy r) s ((s.admitReq r).run fun s => s.proxyReq r false)

/-- PROXY_WRITE (R450, R451): it applies at the station, without commit. -/
def execProxyWrite (r : IzReq) (s : State) : Res :=
  guarded (s.takes r ∧ r.op = opWrite ∧ isProxy r) s ((s.admitReq r).run fun s => s.proxyReq r true)

/-! ## Commits (R443 to R446) -/

/-- COMMIT (R443, R444): a write of 0x0000_C0DE queues the session's staged set; later writes join the next one. -/
def execCommit (r : IzReq) (s : State) : Res :=
  guarded (s.takes r ∧ writes r 0x1010) s <| (s.admitReq r).run fun s =>
    match s.checkWrite r, sessionNo r.session with
    | .error e, _ => s.refuseWrite r e
    | .ok _, none => s
    | .ok _, some k =>
      if uAt r.data 0 4 ≠ 0xC0DE then s.refuseWrite r stRange
      else
        let c : Commit := { session := r.session, side := r.side, tag := r.tag, counter := r.counter,
                            values := (s.session k).staged, at' := s.now }
        let s := s.setSession k fun z => { z with staged := [] }
        let s := s.setIz fun fld => { fld with queue := s.iz.queue ++ [c] }
        (s.wr Reg.COMMIT_STATUS_state 0 0 1).wr Reg.COMMIT_STATUS_session 0 0 r.session

/-- The response to a COMMIT. -/
def Commit.answer (c : Commit) (status : Nat) : IzResp :=
  { side := c.side, op := opWrite + 0x80, status := status, session := c.session, tag := c.tag, index := 0x1010, sub := 0,
    element := 0, count := 1, offset := 0, ext := [], counter := c.counter, data := [], mac := [] }

/-- A refused commit (R444, R446): answered, reported and counted; its values are staged again, under those that have been
staged since. -/
def State.refuseCommit (s : State) (c : Commit) (status : Nat) (report : Bytes) : State :=
  let s := ((s.wrB Reg.CONFLICT_REPORT 0 0 report).inc Reg.COMMIT_STATUS_REFUSALS).afterCommit 5
  match sessionNo c.session with
  | none => s
  | some k =>
    (s.setSession k fun z => if z.phase = 2 then { z with staged := z.staged.foldl stageValue c.values } else z).respond
      (c.answer status)

/-- An accepted commit (R444, R48): answered, and fenced until every affected island has applied it. -/
def State.acceptCommit (s : State) (c : Commit) : State :=
  let islands := (c.values.filterMap fun v => v.1.island).eraseDups
  let s := (s.inc Reg.COMMIT_STATUS_COMMITS).respond (c.answer stOk)
  let s := s.setIz fun fld => { fld with active := some c, remaining := islands, ramping := [], acceptedAt := s.now,
                                         tickSeen := false }
  (s.wr Reg.COMMIT_STATUS_state 0 0 3).commitDone

/-- COMMIT_CHECK_START (R52, R444 to R446): the commit before is done, and the next in the queue is checked; REFCLK is
checked before one that asks for it (R522). -/
def execCommitCheckStart (s : State) : Res :=
  match s.iz.queue with
  | [] => ok s
  | c :: rest =>
    guarded (s.steward ∧ s.iz.active = none ∧ !s.refclkAsked) s <|
      let s := s.setIz fun fld => { fld with queue := rest }
      let s := s.wr Reg.COMMIT_STATUS_number 0 0 ((s.rd Reg.COMMIT_STATUS_number + 1) % 4294967296)
      match s.commitRefusal c.values with
      | some (status, report) => s.refuseCommit c status report
      | none => s.acceptCommit c

/-! ## Writes of station time (R27, R29) -/

/-- STATION_TIME_WRITE (R27, R31, R33): refused with STATE unless TIME_SOURCE is HOST; else an update from the host: an
offset above 1 ms, or the first since reset, is stepped, a smaller one slewed. -/
def execStationTimeWrite (r : IzReq) (s : State) : Res :=
  guarded (s.takes r ∧ writes r 0x1200) s <| (s.admitReq r).run fun s =>
    match s.checkWrite r with
    | .error e => s.refuseWrite r e
    | .ok _ =>
      if s.rd Reg.TIME_SOURCE ≠ 2 then s.refuseWrite r stState
      else (s.discipline (stampOf r.data - s.time.now)).respond (r.answer stOk)

/-- TSYNC_TOD_WRITE (R29, R30): names the SECONDS of the first 1PPS edge at least 100 ms later; 1.5 s without an edge
discards it. -/
def execTsyncTodWrite (r : IzReq) (s : State) : Res :=
  guarded (s.takes r ∧ writes r 0x1204) s <| (s.admitReq r).run fun s =>
    match s.checkWrite r with
    | .error e => s.refuseWrite r e
    | .ok _ =>
      let s := s.setTime fun fld => { fld with tod := some ((uAt r.data 0 6 : Nat), s.now) }
      (s.arm .todEdge (s.now + 1500000000)).respond (r.answer stOk)

end Sys2Proof.Machine
end

