-- ==== Sys2Proof/Machine/House.lean ====
section
/-! DEFINITION. The house frame and the apply points (R15 to R24, R48 to R52): slots, the service loop's pass, and what an
island does when it applies a committed change. -/

namespace Sys2Proof.Machine

/-! ## Applying a commit (R48) -/

/-- What a commit of CELL_MAP writes of a cell: BASELINE, THRESHOLD and MASKED (R315). -/
def State.loadCell (s : State) (p : Port) (i : Nat) (w : Nat) : State :=
  let c := s.cell p i
  let c' := cellOf (cellBaseline w) (cellCurrent c) (cellTrend c) (cellThreshold w) (setBit (cellFlags c) 3 (bit (cellFlags w) 3))
  (s.wr Reg.CELL_MAP p i c').setSound p fun q => { q with loadCells := q.loadCells ++ [i] }

/-- One committed value comes into force. A flow's control part waits for the refill tick (R343). -/
def State.applyValue (s : State) (v : Addr × Bytes) : State :=
  match lookup v.1.index v.1.sub with
  | none => s
  | some (o, n) =>
    if o = Reg.CELL_MAP then s.loadCell (Fin.ofNat 32 n) v.1.element (uAt v.2 0 8)
    else if o = Reg.FLOW_control then
      (s.setQm fun fld => { fld with flowWrites := (s.qm.flowWrites.filter fun x => x.1 ≠ v.1.element) ++ [(v.1.element, v.2)] })
    else s.putObject o n v.1.element v.2

/-- The values of the commit in force that an island applies. -/
def State.valuesOf (s : State) (i : Island) : List (Addr × Bytes) :=
  match s.iz.active with
  | some c => if i ∈ s.iz.remaining then c.values.filter fun v => v.1.island == some i else []
  | none => []

/-- A commit of calibration values of a port restores them (R518): one bit for each measurement. -/
def restoreBits (vs : List (Addr × Bytes)) (p : Port) : Nat :=
  let any (l : List Obj) : Nat := b2n (l.any fun o => sets vs o p)
  any [Reg.LP_CAL_CONV_ADC_offset, Reg.LP_CAL_CONV_ADC_gain, Reg.LP_CAL_CONV_DAC_offset, Reg.LP_CAL_CONV_DAC_gain]
    + 2 * any [Reg.LP_CAL_CONV_DAC_linearity] + 4 * any [Reg.LP_HYBRID_setting] + 8 * any [Reg.LP_DPD_coefficients]
    + 16 * any [Reg.LP_SWEEP_FFE_taps]

/-- A line engine applies values: keys first; then what follows a change of impedance or wiring (Table 4.6), of what the
transmit level depends on (R92), of the refresh interval (R192), of a pace ceiling (R246), of calibration values (R518). -/
def State.applyLine (s : State) (p : Port) (vs : List (Addr × Bytes)) : State :=
  let s := s.iz.keyWrites.foldl (fun s k => if k.1 / 256 = p.val then s.applyKey p (k.1 % 256) k.2 else s) s
  let old := s
  let s := vs.foldl State.applyValue s
  let changed (o : Obj) : Bool := decide (old.rd o p ≠ s.rd o p)
  let s := if changed Reg.LP_TX_impedance then s.ecTrain p else s
  let s := if changed Reg.LP_TX_wiring then (s.registered p).foldl (fun s a => s.eqClear p a) (s.ecClear p) else s
  let s := if [Reg.LP_TX_level, Reg.LP_FIR, Reg.LP_MASK, Reg.LP_MASK_PRESET].any fun o => sets vs o p then s.computeLevel p
    else s
  let s := if sets vs Reg.LP_QUIET_interval p then s.updateInterval p else s
  let s := (s.registered p).foldl (fun s a =>
    if sets vs Reg.LP_STATION_downstream_ceiling p a || sets vs Reg.LP_STATION_upstream_ceiling p a then
      s.setElem p a fun e => { e with ceilingSet := true }
    else s) s
  let s := s.setCal p fun q => { q with restored := q.restored ||| restoreBits vs p }
  if vs = [] then s else (s.setIz fun fld => { fld with keyFresh := s.iz.keyFresh.filter fun k => k / 256 ≠ p.val })

/-- A sounding engine applies values; the velocity follows its parameters (R275, R276). -/
def State.applySounding (s : State) (p : Port) (vs : List (Addr × Bytes)) : State :=
  let s := vs.foldl State.applyValue s
  if vs.any fun v => v.1.index == 0x3001 + 64 * p.val then s.updateTw p else s

/-- The queue manager applies values: a meter's buckets are filled under its old settings and limited to the new
capacities (R355), a shaper that becomes enabled starts at credit 0, and no credit exceeds its burst (R363). -/
def State.applyQueues (s : State) (vs : List (Addr × Bytes)) : State :=
  let of' (index : Nat) : List Nat := ((vs.filter fun v => v.1.index == index).map fun v => v.1.element).eraseDups
  let s := (of' 0x4300).foldl (fun s m => s.meterFill m) s
  let off := (of' 0x4200).filter fun q => !s.flag Reg.SHAPER_enable 0 q
  let s := vs.foldl State.applyValue s
  let s := (of' 0x4300).foldl (fun s m =>
    (s.wr Reg.METER_Tc 0 m (min (s.rd Reg.METER_Tc 0 m) (s.rd Reg.METER_CBS 0 m * 65536))).wr Reg.METER_Tp 0 m
      (min (s.rd Reg.METER_Tp 0 m) (s.rd Reg.METER_PBS 0 m * 65536))) s
  (of' 0x4200).foldl (fun s q =>
    let c := if off.contains q then 0 else s.rd Reg.SHAPER_credit 0 q
    s.wr Reg.SHAPER_credit 0 q (min c (s.rd Reg.SHAPER_burst 0 q * 65536))) s

/-- The time unit applies values: the bound grows on from its value at a new drift (R34); HOST as source ends LOCKED and
HOLDOVER (Table 1.8). -/
def State.applyTime (s : State) (vs : List (Addr × Bytes)) : State :=
  let s := vs.foldl State.applyValue (if sets vs Reg.HOLDOVER_DRIFT then s.rebound else s)
  let q := s.rd Reg.TIME_QUALITY_state
  if sets vs Reg.TIME_SOURCE ∧ s.rd Reg.TIME_SOURCE = 2 ∧ (q = tqLocked ∨ q = tqHoldover) then s.quality tqFreerun else s

/-- The power controller applies values: a unit whose requested level differs from the one in force is to change (R459);
a request for the RC oscillator is in force at once (Table 11.11), one for REFCLK takes the PLLs (R479). -/
def State.applyPower (s : State) (vs : List (Addr × Bytes)) : State :=
  let s := vs.foldl State.applyValue (if sets vs Reg.XLF_DRIFT ∧ s.time.onCounter then s.rebound else s)
  let s : State := if sets vs Reg.CLOCK_SELECT_request ∧ s.rd Reg.CLOCK_SELECT_request = 0 then
      (s.setPower fun fld => { fld with locking := false }).wr Reg.CLOCK_SELECT_in_force 0 0 0 else s
  let units := (List.range 37).filter fun u =>
    sets vs Reg.PERF_LEVEL_requested 0 u && decide (s.rd Reg.PERF_LEVEL_requested 0 u ≠ s.rd Reg.PERF_LEVEL_in_force 0 u)
  (s.setIz fun fld => { fld with ramping := s.iz.ramping ++ units })

/-- The Porfani ports apply values: the DOWN port goes OFF when it is not in use, and from OFF to DETECT when it is
(R381). -/
def State.applyLinks (s : State) (vs : List (Addr × Bytes)) : State :=
  let s := vs.foldl State.applyValue s
  if !s.downUsed ∧ s.pfState .down ≠ pfOff then (s.pfReset .down).pfTo .down pfOff 3
  else if s.downUsed ∧ s.pfState .down = pfOff ∧ s.rst.pllLocked then s.pfToDetect .down 3
  else s

/-- The writes without commit that an island applies, and their answers (R429). -/
def State.applyDirect (s : State) (i : Island) : State :=
  match i with
  | .lineEngine p => s.answerKeys p
  | _ =>
    let mine := s.iz.direct.filter fun d => d.island == i
    let s := s.setIz fun fld => { fld with direct := s.iz.direct.filter fun d => d.island != i }
    mine.foldl (fun s d => (d.values.foldl State.applyValue s).respond d.resp) s

/-- An island applies what waits for it; the commit is done with the last (R48, R49). -/
def State.applyIsland (s : State) (i : Island) : State :=
  let vs := s.valuesOf i
  let s := match i with
    | .lineEngine p => s.applyLine p vs
    | .sounding p => s.applySounding p vs
    | .queueManager => s.applyQueues vs
    | .timeUnit => s.applyTime vs
    | .powerController => s.applyPower vs
    | .porfani => s.applyLinks vs
    | .steward | .houseFrame => vs.foldl State.applyValue s
  let s := s.applyDirect i
  (s.setIz fun fld => { fld with remaining := s.iz.remaining.filter fun x => x != i }).commitDone

/-- Something waits for an island's apply point. -/
def State.applyWanted (s : State) (i : Island) : Bool :=
  (s.iz.active.isSome && s.iz.remaining.contains i) || s.iz.direct.any fun d => d.island == i

/-- The apply points of Table 1.11. -/
def State.applyPoint (s : State) (i : Island) : Bool :=
  match i with
  | .lineEngine p => s.atApplyPoint p
  | .sounding p => (s.port p).sound.sweepEnd.all fun t => decide (t ≤ s.now)
  | .queueManager => s.iz.tickSeen || decide (s.rd Reg.PERF_LEVEL_in_force 0 36 = 3)
  | .timeUnit => !s.iz.remaining.contains i || decide (s.iz.acceptedAt + 4 ≤ s.now)
  | .powerController | .porfani => true
  | .steward => s.steward
  | .houseFrame => decide (s.house.slot = 0 ∧ s.house.slotAt = s.time.mono ∧ 0 < s.house.frames)

/-- ISLAND_APPLY (R48, R49, R429): an island at its apply point applies the committed change, and writes without commit. -/
def execIslandApply (i : Island) (s : State) : Res :=
  guarded (s.runs ∧ s.applyWanted i ∧ s.applyPoint i) s (s.applyIsland i)

/-! ## The house frame (R15 to R24, R460) -/

/-- Bulk readout takes a slot that is its own or lent to it (R17, R313): the ports stream in ascending order, of what the
slot moves together. -/
def State.bulkSlot (s : State) (bulk : Nat) : State :=
  ((List.finRange 32).foldl (fun x p => x.1.streamItems p x.2) (s, bulk)).1

/-- A slot begins (R16, R17, R20, R23, R369): for its owner, or lent to bulk readout when the owner has nothing pending.
The scrub, the telemetry and the calibration data have their slots; bulk readout moves at least 500,000 bytes in a slot
of its own. `pending` is a request that the state does not show; `bulk` is what bulk readout can move. -/
def State.beginSlot (s : State) (slot : Nat) (pending : Bool) (bulk : Nat) : State :=
  let owner := slotOwner slot s.house.slot15
  let lent := decide (owner ≠ ownBulk) && !pending && !s.ownerWaits owner
  let s := s.setHouse fun fld => { fld with slot := slot, lent := lent, slotAt := s.time.mono }
  let s :=
    if owner = ownScrub then s.scrubSlot
    else if owner = ownTelemetry then s.sampleSlot
    else if owner = ownCalibration then s.calibrationSlot
    else if owner = ownCells then allPorts.foldl State.markCells s
    else s
  if owner = ownBulk then s.bulkSlot (max bulk slotBytes) else if lent then s.bulkSlot bulk else s

/-- HOUSE_FRAME_START (R15, R17, R22, R24, R460): a frame begins with its slot 0, under the slot-15 owner in force;
house-frame owners apply what is committed; the service loop makes its pass, which starts the watchdog anew, or finds no
work in IDLE and lets the steward's clock stop, after which it stamps nothing until its replica is realigned (R36). -/
def execHouseFrameStart (w : HouseWork) (s : State) : Res :=
  guarded (s.runs ∧ (s.house.frames = 0 ∨ (s.house.slot = 15 ∧ s.house.slotAt + slotNs ≤ s.time.mono))) s <|
    let s := if s.applyWanted .houseFrame then s.applyIsland .houseFrame else s
    let gated := decide (s.power.mode = 1) && !w.work
    let s := s.setHouse fun fld => { fld with
      frames := s.house.frames + 1, slot15 := s.rdN Reg.HOUSE_SLOT15, gated := gated }
    let s := s.setTime fun fld => { fld with unaligned :=
      if gated ∧ srcSteward ∉ fld.unaligned then fld.unaligned ++ [srcSteward] else fld.unaligned }
    let s := s.beginSlot 0 w.pending w.bulk
    if gated ∨ s.faults.stewardDown then s.disarm .watchdog else s.arm .watchdog (s.now + 100000000)

/-- HOUSE_SLOT_START (R15, R17): the next slot of the frame begins. -/
def execHouseSlotStart (pending : Bool) (bulk : Nat) (s : State) : Res :=
  guarded (s.runs ∧ 0 < s.house.frames ∧ s.house.slot < 15 ∧ s.house.slotAt + slotNs ≤ s.time.mono) s
    (s.beginSlot (s.house.slot + 1) pending bulk)

/-- SLOT_RECLAIM (R18): the owner's request takes a lent slot back. -/
def execSlotReclaim (s : State) : Res :=
  guarded (s.runs ∧ s.house.lent) s (s.setHouse fun fld => { fld with lent := false })

end Sys2Proof.Machine
end

