-- ==== Sys2Proof/Machine/Boundaries.lean ====
section
/-! DEFINITION. Window boundaries (R51, R316, R331): what waits for its apply point applies before the window begins. -/

namespace Sys2Proof.Machine

/-- An island whose apply point has come applies what waits for it. -/
def State.applyDue (s : State) (i : Island) : State := if s.applyWanted i ∧ s.applyPoint i then s.applyIsland i else s

/-- R51: the islands of a port whose apply point falls on the stamp of a window boundary apply before the window begins,
and the port follows. -/
def State.applyAtBoundary (s : State) (p : Port) : State :=
  let s := (s.applyDue (.lineEngine p)).applyDue (.sounding p)
  if s.atApplyPoint p then (s.lineFollows p).commitDone else s

/-- The stamp at which a port's next window begins, where that has come and the window is a SOUND window (R258, R331). -/
def State.soundStart (s : State) (p : Port) : Option Stamp :=
  let q := s.port p
  if s.switchDue p then
    if winType (s.rdN Reg.ITIN_PEND_windows p) = wSound then s.switchAt p else none
  else if q.winEnd ≤ s.now ∧ winType (s.rdN Reg.ITIN_OP_windows p ((q.winIdx + 1) % max 1 (s.rdN Reg.ITIN_OP_count p))) = wSound
    then some q.winEnd
  else none

/-- When several SOUND windows begin at one stamp the lower port number is served first (R258). -/
def State.soundTurn (s : State) (p : Port) : Bool :=
  match s.soundStart p with
  | none => true
  | some t => allPorts.all fun q => decide (p ≤ q) || s.soundStart q != some t

/-- WINDOW_START (R51, R258, R316): the window in progress is over, and the next of the operating itinerary begins
where it ended. -/
def execWindowStart (p : Port) (s : State) : Res :=
  let q := s.port p
  guarded (s.runs ∧ s.ready ∧ q.winEnd ≤ s.now ∧ !s.switchDue p ∧ s.soundTurn p) s <|
    let s := s.applyAtBoundary p
    let i := (q.winIdx + 1) % max 1 (s.rdN Reg.ITIN_OP_count p)
    s.beginWindow p i q.winEnd (q.winEnd + winDuration (s.rdN Reg.ITIN_OP_windows p i)) (decide (i = 0))

/-- ITIN_SWITCH (R51, R327, R331, R332): the switch instant has come: the pending itinerary operates, from its window
0 on. -/
def execItinSwitch (p : Port) (s : State) : Res :=
  guarded (s.runs ∧ s.ready ∧ s.switchDue p ∧ s.soundTurn p) s ((s.applyAtBoundary p).itinSwitch p false)

end Sys2Proof.Machine
end

