-- ==== Sys2Proof/Machine/Echo.lean ====
section
/-! DEFINITION. The canceller's own commands (chapter 04): blocks, ERLE measurements, training, publication, the freeze,
the hybrid. -/

namespace Sys2Proof.Machine

/-- Mono time stands on a block boundary of the canceller's grid, after its first block (R164). -/
def State.onBoundary (s : State) (p : Port) : Bool :=
  match (s.port p).ec.grid with
  | some g => decide (g + blockNs ≤ s.time.mono ∧ (s.time.mono - g) % blockNs = 0)
  | none => false

/-- How much of the block that ends now a span of mono time takes, ns. -/
def State.inBlock (s : State) (x : Stamp × Stamp) : Stamp :=
  max 0 (min x.2 s.time.mono - max x.1 (s.time.mono - blockNs))

/-- How long the port transmitted in the block that ends now. -/
def State.sentInBlock (s : State) (p : Port) : Stamp := ((s.port p).txSpans.map s.inBlock).sum

/-- Upstream signal was expected in the block that ends now (R170): it lay in part in an UP-ALLOT, UP-CONTEND or
DISCOVER window or in a granted interval. Windows last 100 µs at least (R318), so instants 96 µs apart meet each of
them. -/
def State.upstreamInBlock (s : State) (p : Port) : Bool :=
  ([384000, 288000, 192000, 96000, 1] : List Int).any (fun d =>
      let t := s.windowTypeAt p (s.now - d)
      t == wUpAllot || t == wUpContend || t == wDiscover)
    || (s.port p).upSpans.any fun x => decide (0 < s.inBlock x)

/-- A sync was held in the block that ends now (R170). -/
def State.syncInBlock (s : State) (p : Port) : Bool := (s.port p).syncSeen || (s.port p).held.isSome

/-- The block that ends now would be admitted by R170 but for the impulse guard. -/
def State.admissible (s : State) (p : Port) : Bool :=
  let q := s.port p
  decide (blockNs ≤ 2 * s.sentInBlock p) && !s.syncInBlock p && !s.upstreamInBlock p
    && !q.ec.frozen && decide (q.ec.freezeEnd ≤ s.time.mono - blockNs)
    && decide (s.rd Reg.LP_DPD_state p ≠ 1 ∧ q.dpd.endedAt ≤ s.time.mono - blockNs)

/-- The echo estimate at sample i of a block in units of 2⁻¹⁵ (R164): e[n] = Σ h[d]·s[n − d] over the L taps, the reference
ending with the block. -/
def echoAt (l : Nat) (taps ref : List (Int × Int)) (i : Nat) : Int × Int :=
  (List.range l).foldl (fun a d =>
    let h := taps.getD d (0, 0)
    let x := ref.getD (l + i - d) (0, 0)
    (a.1 + h.1 * x.1 - h.2 * x.2, a.2 + h.1 * x.2 + h.2 * x.1)) (0, 0)

/-- What stage 5 puts out for a block, in units of 2⁻¹⁵: its input less the echo estimate with the taps it holds, in every
state (R164, R168). -/
def residualOf (l : Nat) (taps : List (Int × Int)) (b : BlockMeas) : List (Int × Int) :=
  (List.range l).map fun i =>
    let x := b.input.getD i (0, 0)
    let e := echoAt l taps b.ref i
    (32768 * x.1 - e.1, 32768 * x.2 - e.2)

/-- The power of samples. -/
def powerOf (x : List (Int × Int)) : Nat := (x.map fun v => (v.1 * v.1 + v.2 * v.2).toNat).sum

/-- What a block shows of stage 5: its error, and the powers at the input and the output in one unit (R178). -/
structure BlockUse where
  ref : List (Int × Int)
  error : List (Int × Int)
  pIn : Nat
  pRes : Nat
  deriving DecidableEq, Repr

/-- A block as stage 5 of a port treats it. -/
def State.blockUse (s : State) (p : Port) (b : BlockMeas) : BlockUse :=
  let l := (s.port p).band.taps
  let r := residualOf l (s.port p).ec.taps b
  ⟨b.ref, r, powerOf (b.input.take l) * 2 ^ 30, powerOf r⟩

/-- The impulse guard of R171 passes: the residual does not exceed the mean of the last 16 used blocks by more than
12 dB, that is by a factor of 10^1.2. -/
def guardPasses (residuals : List Nat) (pRes : Nat) : Bool :=
  residuals.isEmpty || decide ((pRes * residuals.length) ^ 5 ≤ residuals.sum ^ 5 * 1000000)

/-- A block of a silent port adds to P_n (R178): the port neither transmitted, held a frame nor expected upstream
signal in it. DESIGN CHOICE (log entry 200): P_n is the mean over the latest silent blocks, at most 26 (10 ms of
blocks), as long as the latest of them is at most 10 s old; the spec does not say what it is when fewer have been seen
or when earlier ones of the 26 are older. -/
def State.ecSilent (s : State) (p : Port) (b : BlockUse) : State :=
  if s.sentInBlock p = 0 ∧ !s.syncInBlock p ∧ !s.upstreamInBlock p then
    s.setEc p fun q => { q with noise := (b.pRes :: q.noise).take 26, noiseAt := some s.now }
  else s

/-- The block that ends now belongs to the device's own downstream REFRESH (R195): half of it or more does. -/
def State.refreshBlock (s : State) (p : Port) : Bool := decide (blockNs ≤ 2 * s.inBlock (s.port p).quiet.refresh)

/-- The update of an admitted block (R169): in TRAINING and TRACKING at that state's step; in QUIET it is collected
from the blocks of a REFRESH, and none while a restored canceller waits for its retrain (R195, R200). A canceller that was in
TRAINING at quiet entry goes on with the blocks of the REFRESH (R198). -/
def State.ecAdapt (s : State) (p : Port) (b : BlockUse) : State :=
  let q := (s.port p).ec
  let st := s.rd Reg.LP_EC_state p
  let power := Config.lmsPower q.power b.ref
  let step (o : Obj) : EcState → EcState := fun q =>
    { q with taps := addTaps (s.port p).band.taps q.taps (Config.lmsIncrement (s.rdN o p) power b.ref b.error),
             power := power, updatedSincePub := true, restored := false }
  let quiet := decide (s.portState p = stQuiet)
  if st = ecTraining then
    if quiet ∧ !q.retraining ∧ !s.refreshBlock p then s
    else s.setEc p fun q => { step Reg.LP_EC_training_step q with trainBlocks := q.trainBlocks + 1 }
  else if st = ecTracking then s.setEc p (step Reg.LP_EC_tracking_step)
  else if st = ecQuiet ∧ quiet ∧ !q.retrainScheduled ∧ s.refreshBlock p then
    s.setEc p fun q => { q with
      collected := q.collected ++ [Config.lmsIncrement (s.rdN Reg.LP_EC_quiet_step p) power b.ref b.error], power := power,
      collIn := q.collIn + b.pIn, collRes := q.collRes + b.pRes }
  else s

/-- An admitted block enters the guard's mean (R171) and the ERLE measurement in progress, which completes with 26 of them
(R178). -/
def State.ecUse (s : State) (p : Port) (b : BlockUse) : State :=
  let noise := s.ecNoise p
  s.setEc p fun q =>
    let q := { q with residuals := (b.pRes :: q.residuals).take 16, guardRun := 0, guardFired := false,
                      blocks := q.blocks + 1, pIn := q.pIn + b.pIn, pRes := q.pRes + b.pRes }
    if q.blocks < 26 then q
    else { q with blocks := 0, pIn := 0, pRes := 0, erleDone := q.erleDone ++ [⟨q.pIn, q.pRes, noise, s.now⟩] }

/-- QUIET_EC_APPLY (R195, R197, R199): at the first block boundary after the REFRESH has ended the collected updates
apply together when the gate passes, with leakage towards the snapshot, and the drift test runs; a gate that fails
counts them and the cycle. DESIGN CHOICE (log entry 201): LP_QUIET /09 and /10 count one for each collected block,
whose update it is, not one for the REFRESH; R197 does not say which. -/
def State.quietApply (s : State) (p : Port) : State :=
  let q := (s.port p).ec
  let n := q.collected.length
  if n = 0 ∨ s.rd Reg.LP_EC_state p ≠ ecQuiet ∨ s.time.mono < (s.port p).quiet.refresh.2 then s
  else if erleOf q.collIn q.collRes n (s.ecNoise p) < 5 * s.rd Reg.LP_QUIET_canceller_gate p then
    let cycle := (s.port p).quiet.cycle
    (s.setEc p fun q => { q with collected := [], collIn := 0, collRes := 0,
                                 gateFails := failRun q.gateFails q.failedCycle cycle, failedCycle := cycle }).cntLine p
      Reg.LP_QUIET_GATED_OUT n
  else
    let lk := s.rdN Reg.LP_EC_quiet_leakage p
    let snap := q.snap.getD []
    let taps := q.collected.foldl (fun w g => leakAll lk (addTaps (s.port p).band.taps w g) snap) q.taps
    let s := (s.setEc p fun q => { q with taps := taps, collected := [], collIn := 0, collRes := 0, gateFails := 0,
                                          updatedSincePub := true, restored := false }).cntLine p
      Reg.LP_QUIET_APPLIED n
    match q.snap with
    | none => s
    | some w =>
      match driftOctave (s.port p).band (s.rdN Reg.LP_QUIET_drift_limit p) (tapPowers taps) (tapPowers w) with
      | some o => s.ecDriftRestore p o
      | none => s

/-- An admitted block is used, or refused by the impulse guard (R171); any other breaks a run of guarded blocks. -/
def State.ecTake (s : State) (p : Port) (b : BlockUse) : State :=
  if s.admissible p then
    if guardPasses (s.port p).ec.residuals b.pRes then (s.ecAdapt p b).ecUse p b
    else (s.cntLine p Reg.LP_EC_GUARDED).setEc p fun q => { q with guardRun := q.guardRun + 1 }
  else s.setEc p fun q => { q with guardRun := 0, guardFired := false }

/-- The block is over: the taps as it used them are kept for a publication at its end (R176), and the next block's syncs are
those held from now on. -/
def State.blockOver (s old : State) (p : Port) : State :=
  let q := (old.port p).ec
  let u : UsedTaps := ⟨s.time.mono, q.taps, q.updatedSincePub, q.restored, decide ((s.port p).ec.taps ≠ q.taps)⟩
  (s.setEc p fun q => { q with used := some u }).setPort p fun q => { q with syncSeen := q.held.isSome }

/-- EC_BLOCK (R164, R169 to R171, R178, R195, R199): at a block boundary the canceller uses the block, refuses it, or applies
what it collected in QUIET. -/
def execEcBlock (p : Port) (b : BlockMeas) (s : State) : Res :=
  guarded (s.runs ∧ s.onBoundary p) s <|
    let x := s.blockUse p b
    ((((s.ecSilent p x).ecTake p x).blockOver s p).quietApply p)

/-- GUARD_RUN (R280): LR_EPM /04 consecutive guarded blocks; an ECHO_ALERT of kind GUARD and a focused sounding of the
whole mapped length. -/
def execGuardRun (p : Port) (s : State) : Res :=
  let q := (s.port p).ec
  guarded (s.runs ∧ s.flag Reg.LR_EPM_enable p ∧ !q.guardFired ∧ s.rdN Reg.LR_EPM_guard_run p ≤ q.guardRun) s <|
    let top := s.mapped p - 1
    let s := s.setEc p fun q => { q with guardFired := true }
    (s.echoAlert p 1 0xFFFF 0 top 0).requestFocus p 0 top

/-- A completed measurement v of a canceller in state st (R172, R173): two in a row of 40 dB end TRAINING; the reference
maximum takes in those completed since; two in a row more than 10 dB below it return TRACKING to TRAINING. -/
def State.erleTaken (s : State) (p : Port) (v : Int) : State :=
  let st := s.rd Reg.LP_EC_state p
  let last := (s.port p).ec.erles.head?
  let s := s.setEc p fun q => { q with erles := (v :: q.erles).take 2 }
  if st = ecTraining then
    if 400 ≤ v ∧ last.any (fun x => decide (400 ≤ x)) then s.ecTrainingEnds p (some v) else s
  else if st = ecTracking ∨ st = ecQuiet then
    let top := max v ((s.port p).ec.refMax.getD v)
    let s := s.setEc p fun q => { q with refMax := some top }
    if st = ecTracking ∧ v < top - 100 ∧ last.any (fun x => decide (x < top - 100)) then s.ecTrain p else s
  else s

/-- ERLE_MEASUREMENT_COMPLETE (R178, R172, R173): 26 admitted blocks have given a measurement, stamped with the end of the
last of them. Where no power entered stage 5 the quotient has no value: the measurement is a free value (log entry 6). -/
def execErleMeasurementComplete (p : Port) (s : State) : Res :=
  match (s.port p).ec.erleDone with
  | [] => ok s
  | d :: l =>
    guarded (s.runs) s <|
      let (v, s) := if d.pIn = 0 then let (f, t) := s.free 701; ((f : Int), t)
        else (erleOf d.pIn d.pRes 26 d.noise, s)
      let s := (s.wr Reg.LP_EC_ERLE p 0 v).wr Reg.LP_EC_ERLE_stamp p 0 d.stamp
      (s.setEc p fun q => { q with erleDone := l }).erleTaken p v

/-- EC_TRAIN_TIMEOUT (R172): 2 s of used blocks in TRAINING without convergence; TRACKING, counted, with a NOTICE
fault. -/
def execEcTrainTimeout (p : Port) (s : State) : Res :=
  let q := (s.port p).ec
  guarded (s.runs ∧ s.rd Reg.LP_EC_state p = ecTraining ∧ 2000000000 ≤ (q.trainBlocks : Int) * blockNs) s <|
    let s := s.cntLine p Reg.LP_EC_TRAIN_TIMEOUT
    let s := s.raiseLine p 0x04 (s.rd Reg.LP_EC_ERLE p % 4294967296).toNat
    s.ecTrainingEnds p q.erles.head?

/-- EC_RETRAIN_REQUEST (R204): LP_EC /14 = 1 in force returns the canceller to TRAINING from its taps; the object
clears. -/
def execEcRetrainRequest (p : Port) (s : State) : Res :=
  guarded (s.runs ∧ s.flag Reg.LP_EC_retrain p) s ((s.ecTrain p).wr Reg.LP_EC_retrain p 0 0)

/-- A publication instant P₀ + j · period lies in the block that ends now (R175). -/
def State.pubDue (s : State) (p : Port) : Bool :=
  match (s.port p).ec.grid with
  | some g =>
    let t := s.time.mono - (g + blockNs)
    decide (0 ≤ t ∧ t % (s.rd Reg.LP_EC_publication_period p * 1000000) < blockNs)
  | none => false

/-- TAP_PUBLICATION (R175, R176, R278): at the first block boundary on or after a publication instant the taps are
published; none is while the canceller is CLEARED or a freeze runs. -/
def execTapPublication (p : Port) (s : State) : Res :=
  guarded (s.runs ∧ s.onBoundary p ∧ s.pubDue p ∧ !(s.port p).ec.frozen ∧ s.rd Reg.LP_EC_state p ≠ ecCleared) s
    (s.publish p false)

/-- SOUND_FREEZE_END (R174): 384 µs after the last sweep sample the freeze ends; that of a window in which nothing is
swept ends with the window (R259). -/
def execSoundFreezeEnd (p : Port) (s : State) : Res :=
  let q := (s.port p).ec
  guarded (s.runs ∧ q.frozen ∧ q.freezeEnd ≤ s.time.mono) s (s.setEc p fun q => { q with frozen := false })

/-- The line is at a symbol boundary, or idle: no frame of the port is part-way through a chirp of its sync run, a header
symbol or a payload symbol, no burst through a symbol and no bell through a chirp (R162). -/
def State.symbolBoundary (s : State) (p : Port) : Bool :=
  let q := s.port p
  let e := s.now - q.txStart
  let n := e / (q.band.ns : Int)
  let sym : Int := (q.band.size + q.band.cp : Nat)
  decide (q.txEnd ≤ s.now) || (if q.txKind = .bell then decide (e % 1024000 = 0) else
    decide (e % (q.band.ns : Int) = 0 ∧
      (if q.txKind = .burst then n % sym = 0
       else if n < 2560 then n % 256 = 0 else if n < 3840 then (n - 2560) % 320 = 0 else (n - 3840) % sym = 0)))

/-- HYBRID_APPLY (R162, Table 4.6): the hybrid setting in force takes effect at a symbol boundary or on an idle line,
and the canceller trains again. -/
def execHybridApply (p : Port) (s : State) : Res :=
  guarded (s.runs ∧ s.rd Reg.LP_HYBRID_setting p ≠ (s.port p).hybrid ∧ s.symbolBoundary p) s
    ((s.setPort p fun q => { q with hybrid := s.rd Reg.LP_HYBRID_setting p }).ecTrain p)

/-- QUIET_GATE_FAIL_COUNT (R202): three refresh cycles in a row failed a gate, the canceller's for address 0, a
station's otherwise; that filter has drifted. What R200 does happens at a block boundary. The octave its fault names is not
stated here: a free value. -/
def execQuietGateFailCount (p : Port) (a : Nat) (s : State) : Res :=
  if a = 0 then
    guarded (s.runs ∧ s.portState p = stQuiet ∧ s.rd Reg.LP_EC_state p = ecQuiet ∧ s.onBoundary p
        ∧ 3 ≤ (s.port p).ec.gateFails) s
      (let (o, s) := s.free 8
       s.ecDriftRestore p o)
  else
    guarded (s.runs ∧ s.portState p = stQuiet ∧ s.rd Reg.LP_EQ_state p a = ecQuiet ∧ 3 ≤ (s.eq p a).gateFails) s
      (s.eqDriftRestore p a)

end Sys2Proof.Machine
end

