-- ==== Sys2Proof/Machine/Cascade.lean ====
section
/-! DEFINITION. The cascade and station time over the link (chapter 09): parcels accepted and forwarded, PROBE and
STATUS, heads and hand-over, TIME parcels. -/

namespace Sys2Proof.Machine

/-! ## Parcels (R392, R397 to R403, R412, R413) -/

/-- PARCEL_NAK (R403): the parcel is discarded and counted; one FLOW with NAK names the last one accepted. -/
def State.nak (s : State) (x : Side) : State :=
  let s := s.inc Reg.PF_PORT_CRC_ERRORS x.n
  if (s.link x).nakSent then s else (s.sendFlow x true).setLink x fun q => { q with nakSent := true }

/-- A parcel's type and VC are those of Table 9.9 (R399). -/
def Parcel.legal (p : Parcel) : Bool :=
  match p.type with
  | 0 | 4 | 5 => p.vc == 0
  | 1 => true
  | 2 => p.vc == 1
  | 3 => p.vc == 3
  | _ => false

/-- Host traffic comes in on the host side, and on a DOWN port that serves as second host port (R407, R412). -/
def State.hostPort (s : State) (x : Side) : Bool :=
  decide (x = s.hostSide) || (s.flag Reg.PF_CTL_DOWN_second_host && !s.flag Reg.CASC_member)

/-- DEVICE_UNREACHABLE (R413): the answer of a head to a DICT parcel for a device it cannot reach, without MAC. -/
def State.unreachableReply (s : State) (x : Side) (b : Bytes) : State :=
  if b.length < 32 then s
  else
    s.reply { side := x, op := (uAt b 0 1 + 0x80) % 256, status := stDeviceUnreachable, session := uAt b 2 2, tag := uAt b 4 2,
              index := uAt b 6 2, sub := uAt b 8 1, element := uAt b 9 3, count := uAt b 12 2, offset := uAt b 16 4,
              ext := slice b 20 6, counter := uAt b 26 4, data := [], mac := [] }

/-- The rows that act on these parcels forward them as well: PROBE, FAILOVER, RELINQUISH, a broadcast WAIT, TIME (R410,
R414, R423). -/
def Parcel.ownRow (p : Parcel) : Bool :=
  let sub := uAt p.payload 0 1
  p.type == 4 || (p.type == 5 && (sub == 5 || sub == 9 || sub == 10 || (sub == 7 && p.bcast)))

/-- A parcel accepted from a link is consumed, by the row that acts on it, or goes on by device number (R412, R413). A
parcel consumed on the host side abandons the entry to a power state (R466), a WAIT excepted (R463). -/
def State.route (s : State) (x : Side) (p : Parcel) : State :=
  let host := s.hostPort x
  let sub := uAt p.payload 0 1
  let own := decide (p.devnum = s.rst.straps.devnum.val)
  if p.type = 5 ∧ sub = 5 then s
  else if p.dir = 0 then
    if decide (x = s.hostSide) then s.inc Reg.PF_PORT_MISROUTED x.n
    else if p.type = 5 ∧ sub = 6 ∧ (s.isHead ∨ !s.cascRuns) then s
    else s.forward s.hostSide p
  else if !host then s.inc Reg.PF_PORT_MISROUTED x.n
  else
    let s := if (own ∨ p.bcast) ∧ !(p.type = 5 ∧ sub = 7) then s.happens 5 p.type s.now else s
    if (own ∧ !p.bcast) ∨ p.ownRow then s
    else if !p.bcast ∧ s.isHead ∧ s.toAdapter x ∧ !bit (uAt (s.rdB Reg.CASC_topology) (4 * p.devnum) 1) 7 then
      let s := s.inc Reg.PF_PORT_MISROUTED x.n
      if p.type = 0 then s.unreachableReply x p.payload else s
    else s.forward s.hostSide.other p

/-- PARCEL_FORWARD (R392, R398 to R403, R405, R412, R413): a non-local parcel arrives; it is accepted when its CRC-32C
holds and its LSEQ is the next, and is then consumed or forwarded. A LOCAL parcel with a bad CRC-32C, or of a type other
than CTRL, is discarded and counted; any other is left to its own row. -/
def execParcelForward (x : Side) (raw : Bytes) (s : State) : Res :=
  guarded (s.pfRuns ∧ s.linkUp x) s <|
    match (if parcelCrcOk raw then Parcel.ofBytes raw else none) with
    | none => s.nak x
    | some p =>
      if p.isLocal then (if p.type = 5 then s else s.inc Reg.PF_PORT_CRC_ERRORS x.n)
      else if p.lseq ≠ (s.link x).rxSeq then s.nak x
      else
        let s := s.setLink x fun q =>
          { q with rxSeq := (q.rxSeq + 1) % 4096, unacked := true, nakSent := false, lastRx := some s.now,
                   freed := q.freed.set p.vc ((q.freed.getD p.vc 0 + p.credits) % 65536) }
        if !p.legal then s.inc Reg.PF_PORT_CRC_ERRORS x.n else s.route x p

/-! ## PROBE (R408 to R410, R415) -/

/-- PROBE_ORIGINATE (R408): every 1 ms a head sends a PROBE with HOPS 0 out of its cascade port, and keeps its own entry
of the topology. With no standby manager in it the ring reads OPEN. -/
def execProbeOriginate (s : State) : Res :=
  guarded (s.pfRuns ∧ s.cascRuns ∧ s.isHead ∧ s.due .probeTx) s <|
    let seq := s.casc.probeSeq
    let s := s.arm .probeTx (s.now + 1000000)
    let s := if s.flag Reg.CASC_member ∧ s.linkUp .down ∧ s.partnerRole .down ≠ 3 then
        s.send .down (bcastCtrl ([5] ++ be 1 s.rst.straps.devnum.val ++ be 1 s.rst.straps.role.val ++ [0] ++ be 2 seq ++ [0, 0]))
      else s
    let s := s.setCasc fun fld => { fld with probeSeq := (seq + 1) % 65536 }
    let s := s.ownTopology
    let standby := (List.range 16).any fun d =>
      let b := slice (s.rdB Reg.CASC_topology) (4 * d) 4
      bit (uAt b 0 1) 7 && decide (uAt b 1 1 = 2)
    if s.rd Reg.CASC_ring = 0 ∧ s.casc.since + 5000000 ≤ s.now ∧ !standby then s.wr Reg.CASC_ring 0 0 3 else s

/-- The device hears a PROBE (R408 to R410): it keeps or takes its head, and forwards the PROBE unless it is a head. -/
def State.probe (s : State) (x : Side) (body : Bytes) : State :=
  let dev := field (uAt body 1 1) 3 0
  let role := uAt body 2 1
  let hops := uAt body 3 1
  let s := if role = 1 then
      s.setCasc fun fld => { fld with managerAt := s.now, managerOnDown := decide (x = .down) }
    else s
  if dev = s.rst.straps.devnum.val then s
  else
    let hear (s : State) : State := ((s.setCasc fun fld => { fld with other := some (dev, x, hops, role) })).arm .otherProbe
      (s.now + 3000000)
    if s.isHead then hear s
    else
      let head := s.rdN Reg.CASC_head
      let s :=
        if head = 255 then s.adopt dev x hops 0
        else if head = dev then
          let s := (s.wr Reg.CASC_hops 0 0 hops).arm .headProbe (s.now + 3000000)
          if x = s.hostSide then s else s.setHostSide x
        else if s.passed .headProbe then s.adopt dev x hops 1
        else if role = 1 ∧ s.now < s.casc.since + 1000000 then s.adopt dev x hops 0
        else hear s
      if s.linkUp x.other ∧ !(x.other = .up ∧ s.rst.straps.role.val = 2) ∧ s.partnerRole x.other ≠ 3 then
        s.forward x.other (bcastCtrl (patch body 3 (be 1 (hops + 1))))
      else s

/-- A PROBE payload (Table 9.11). -/
def probeOk (body : Bytes) : Bool := decide (body.length = 8 ∧ uAt body 0 1 = 5 ∧ (uAt body 2 1 = 1 ∨ uAt body 2 1 = 2))

/-- PROBE_RX (R409, R410). -/
def execProbeRx (x : Side) (body : Bytes) (s : State) : Res :=
  guarded (s.pfRuns ∧ s.cascRuns ∧ s.linkUp x ∧ probeOk body) s (s.probe x body)

/-- HEAD_LOSS (R409): no PROBE of the head for 3 ms; the device adopts another head as it hears it. -/
def execHeadLoss (x : Side) (body : Bytes) (s : State) : Res :=
  guarded (s.pfRuns ∧ s.cascRuns ∧ s.linkUp x ∧ probeOk body ∧ !s.isHead ∧ s.passed .headProbe
      ∧ s.rdN Reg.CASC_head ≠ field (uAt body 1 1) 3 0) s (s.probe x body)

/-- A standby manager becomes head (R415), with its HEAD record. -/
def State.takeOver (s : State) (cause : Nat) : State :=
  let old := s.rdN Reg.CASC_head
  (s.inc Reg.CASC_TAKEOVERS).becomeHead.headRecord old cause

/-- A standby manager may become head: not one yet, its UP port ACTIVE to a host adapter (R415). -/
def State.mayTakeOver (s : State) : Bool := decide (s.rst.straps.role.val = 2) && !s.isHead && s.toAdapter .up

/-- STANDBY_TAKEOVER (R415): no PROBE of the manager for 3 ms. -/
def execStandbyTakeover (s : State) : Res :=
  guarded (s.pfRuns ∧ s.cascRuns ∧ s.mayTakeOver ∧ s.casc.managerAt + 3000000 < s.now) s (s.takeOver 1)

/-- FAILOVER (R414 to R416): forwarded, then a standby manager becomes head. -/
def execFailover (x : Side) (body : Bytes) (s : State) : Res :=
  guarded (s.pfRuns ∧ s.linkUp x ∧ body.length = 4 ∧ uAt body 0 1 = 9) s <|
    let s := if s.linkUp x.other then s.forward x.other (bcastCtrl body) else s
    if s.mayTakeOver then s.takeOver 2 else s

/-- MANAGER_FAILOVER (R416): the manager sends FAILOVER, stops originating PROBEs, and is a member. -/
def State.failoverSend (s : State) (reason : Nat) : State :=
  let s := s.send .down (bcastCtrl ([9] ++ be 1 reason ++ [0, 0]))
  (s.setCasc fun fld => { fld with handedOver := true }).headRefresh

/-- The device adopts the manager it hears, as it would after 3 ms (R419). -/
def State.handBack (s : State) : State :=
  match s.casc.other with
  | some (dev, x, hops, role) => if role = 1 ∧ s.running .otherProbe then s.adopt dev x hops 3 else s
  | none => s

/-- HAND_OVER (R416, R419): a commit of CASC /09 = 1 on the acting manager sends FAILOVER; on an acting standby manager it
sends RELINQUISH, and the standby becomes PASSIVE. The object is cleared. -/
def execHandOver (s : State) : Res :=
  guarded (s.pfRuns ∧ s.flag Reg.CASC_hand_over ∧ s.isHead) s <|
    let s := s.wr Reg.CASC_hand_over 0 0 0
    if s.rst.straps.role.val = 2 then ((s.send .down (bcastCtrl [10, 0, 0, 0])).leaveHead).handBack else s.failoverSend 0

/-- RELINQUISH (R414, R419): forwarded; the device adopts the manager at once; the manager originates PROBEs again. -/
def execRelinquish (x : Side) (s : State) : Res :=
  guarded (s.pfRuns ∧ s.linkUp x) s <|
    let s := if s.linkUp x.other ∧ s.partnerRole x.other ≠ 3 then s.forward x.other (bcastCtrl [10, 0, 0, 0]) else s
    if s.rst.straps.role.val = 1 then (s.setCasc fun fld => { fld with handedOver := false }).headRefresh
    else if s.isHead then s else s.handBack

/-! ## STATUS (R411) -/

/-- STATUS_SEND (R411): every 1 ms a device that is not a head reports to its head. -/
def execStatusSend (s : State) : Res :=
  guarded (s.pfRuns ∧ s.cascRuns ∧ !s.isHead ∧ s.rd Reg.CASC_head ≠ 255 ∧ s.due .statusTx) s <|
    let passive := decide (s.rd Reg.CASC_acting_role = rolePassive)
    let other := decide (s.running .otherProbe) && !s.passed .otherProbe
    let flags := b2n (passive && s.casc.managerOnDown && s.running .headProbe && !s.passed .headProbe) + 2 * b2n other
    let s := s.arm .statusTx (s.now + 1000000)
    if s.linkUp s.hostSide then
      s.sendHost s.hostSide 5 0 ([6] ++ be 1 (s.rdN Reg.CASC_hops) ++ be 1 (s.rdN Reg.CASC_acting_role) ++ be 1 s.severity
        ++ be 1 flags ++ [0, 0, 0])
    else s

/-- STATUS_RX (R410, R411): a head updates the entry of a device; one device number with two HOPS is a duplicate, logged
once; a passive standby manager tells whether the ring is closed. -/
def execStatusRx (dev : DevNum) (body : Bytes) (s : State) : Res :=
  guarded (s.pfRuns ∧ s.isHead ∧ body.length = 8 ∧ uAt body 0 1 = 6) s <|
    let d := dev.val
    let old := slice (s.rdB Reg.CASC_topology) (4 * d) 4
    let hops := uAt body 1 1
    let present := bit (uAt old 0 1) 7
    let dup := present && (bit (uAt old 0 1) 6 || decide (field (uAt old 0 1) 3 0 ≠ hops % 16))
    let s := if dup ∧ !s.casc.duplicates.contains d then
        (s.setCasc fun fld => { fld with duplicates := d :: s.casc.duplicates }).raise srcSteward clsLink 0x05 d
          (field (uAt old 0 1) 3 0 * 256 + hops)
      else s
    let keep := if dup then field (uAt old 0 1) 3 0 else hops % 16
    let s := s.setTopology d (be 1 (128 + 64 * b2n dup + keep) ++ be 1 (uAt body 2 1) ++ be 1 (uAt body 3 1) ++ [0])
    let s := s.arm (.statusEntry d) (s.now + 5000000)
    if uAt body 2 1 = 2 then s.wr Reg.CASC_ring 0 0 (if bit (uAt body 4 1) 0 then 1 else 2) else s

/-- TOPOLOGY_ENTRY_ABSENT (R411): no STATUS for 5 ms. A ring whose passive standby manager is gone is BROKEN. -/
def execTopologyEntryAbsent (dev : DevNum) (s : State) : Res :=
  let d := dev.val
  guarded (s.pfRuns ∧ s.isHead ∧ s.passed (.statusEntry d)) s <|
    let standby := decide (uAt (s.rdB Reg.CASC_topology) (4 * d + 1) 1 = 2)
    let s := s.setCasc fun fld => { fld with duplicates := s.casc.duplicates.filter (· ≠ d) }
    let s := (s.setTopology d [0, 0, 0, 0]).disarm (.statusEntry d)
    if standby then s.wr Reg.CASC_ring 0 0 2 else s

/-! ## TIME parcels (R422, R423) -/

/-- A TIME payload (Table 9.12). -/
def timePayload (origin : Stamp) (correction : Int) (quality : Nat) : Bytes :=
  timeBytes origin ++ beInt 8 correction ++ be 1 quality ++ [0]

/-- TIME_PARCEL_RECEIVED (R31, R423): on the host side. A head with another source discards it; any other device forwards
it with its link delay and its residence, in 2^-16 ns, added, and disciplines station time when its source is PORFANI. -/
def execTimeParcelReceived (x : Side) (t : TimeParcel) (residence : Int) (s : State) : Res :=
  let source := s.rd Reg.TIME_SOURCE
  let delay := s.rd Reg.PF_PORT_link_delay x.n
  let out := s.hostSide.other
  guarded (s.pfRuns ∧ s.linkUp x ∧ x = s.hostSide ∧ !(s.isHead ∧ source ≠ 0)) s <|
    let s := if s.linkUp out ∧ s.partnerRole out ≠ 3 then
        s.forward out { bcastCtrl (timePayload t.origin (t.correction + delay * 65536 + residence) t.quality) with type := 4 }
      else s
    if source = 0 then s.discipline (t.origin + roundDiv (t.correction + delay * 65536) 65536 - s.time.now) else s

/-- TIME_ORIGINATE (R423): every 125 ms a head with another source sends TIME of its own. -/
def execTimeOriginate (s : State) : Res :=
  guarded (s.pfRuns ∧ s.isHead ∧ s.rd Reg.TIME_SOURCE ≠ 0 ∧ s.due .timeTx) s <|
    let s := s.arm .timeTx (s.now + 125000000)
    if s.linkUp .down ∧ s.partnerRole .down ≠ 3 then
      s.send .down { bcastCtrl (timePayload s.now 0 (s.rdN Reg.TIME_QUALITY_state)) with type := 4 }
    else s

end Sys2Proof.Machine
end

