-- ==== Sys2Proof/Machine/ResetOps.lean ====
section
/-! DEFINITION. What resets and wakes share: the cold reset (R10, R566, R582), and the hamper interface as it starts or
changes its state (R550, R554). -/

namespace Sys2Proof.Machine

/-! ## Reset causes and holds (Table 15.7, R561, R566, R569) -/

def causePowerOn : Nat := 0
def causeRail : Nat := 1
def causeBrownout : Nat := 2
def causeFault : Nat := 3
def causeWake : Nat := 4
def causeLifeCycle : Nat := 5
def causeHost : Nat := 6
def causeThermal : Nat := 7
def causeJtag : Nat := 8

/-- Why the islands are held in reset (`ResetState.hold`): for the 100 µs of R566, by VIO, by the rails, by the junction. -/
def holdShort : Nat := 1
def holdVio : Nat := 2
def holdRails : Nat := 3
def holdJunction : Nat := 4

/-- A cold reset (R10, R566, R582): every island is as State.reset has it. The fuses, the hamper, the stations, what has
left the block and the commands that wait stay; so do the levels at the balls and the state of the TAP. The cause is
recorded (R566), and the islands are held. -/
def State.coldReset (s : State) (cause : Nat) (detail : Bytes) (hold : Nat) : State :=
  let holds := ((hold :: s.rst.hold :: s.rst.alsoHeld).filter fun (k : Nat) => decide (holdVio ≤ k)).eraseDups
  { State.reset with
    pending := s.pending, fuses := s.fuses, hamper := s.hamper, stations := s.stations, out := s.out,
    freeCount := s.freeCount,
    time := { State.reset.time with mono := s.time.mono }
    power := { State.reset.power with vldBad := s.power.vldBad, junction := s.power.junction }
    rst := { State.reset.rst with
      hold := holds.headD holdShort, alsoHeld := holds.tail, cause := be 1 cause ++ detail,
      releasedAt := if holds = [] then 100000 else 0,
      instruction := s.rst.instruction, keyWord := s.rst.keyWord, tapStatus := s.rst.tapStatus,
      ballsTaken := s.rst.ballsTaken, ballsBy := s.rst.ballsBy } }

/-- A hold ends: with the last of them the start-up sequence runs from here (R577). -/
def State.releaseHold (s : State) (k : Nat) : State :=
  let holds := (s.rst.hold :: s.rst.alsoHeld).filter fun (x : Nat) => decide (holdVio ≤ x ∧ x ≠ k)
  (s.setRst fun fld => { fld with hold := holds.headD holdShort, alsoHeld := holds.tail, releasedAt := s.now })

/-- A hold is in force. -/
def State.heldBy (s : State) (k : Nat) : Bool := s.rst.hold == k || s.rst.alsoHeld.contains k

/-! ## The hamper interface (R550, R554) -/

/-- States of HMP_STATUS /01 (Table 14.11). -/
def hmpWaiting : Int := 0
def hmpReceiving : Int := 1
def hmpSilent : Int := 2
def hmpFenced : Int := 3
def hmpGated : Int := 4

/-- A HAMPER record (Table 14.12). -/
def State.hmpRecord (s : State) (event : Nat) (result : Nat := 255) (o : Int := 0) : State :=
  s.issue srcHamper 0x0E01 (be 1 event ++ be 1 (s.rdN Reg.HMP_STATUS_interface) ++ be 2 (s.rdN Reg.HMP_STATUS_flags)
    ++ be 4 (s.rdN Reg.HMP_STATUS_log_head) ++ be 1 result ++ [0, 0, 0] ++ beInt 4 o)

/-- The interface changes its state, with its record (R554). -/
def State.hmpTo (s : State) (new : Int) : State :=
  if s.rd Reg.HMP_STATUS_interface = new then s else (s.wr Reg.HMP_STATUS_interface 0 0 new).hmpRecord 2

/-- The interface starts anew after a reset or a wake (R550): it holds nothing of the log, the registers are polled at
once, and the lane has 10 s to be heard. A fenced interface stays fenced. -/
def State.rebuildMailbox (s : State) : State :=
  let s := s.setHmp fun fld => { fld with request := 0, wantFrom := 0, wantTo := 0, haveTo := 0, rebuilding := true }
  let s := s.disarm .hmpRequest
  if s.rd Reg.FENCE_CTL_state 0 36 ≠ 0 then s.hmpTo hmpFenced
  else ((s.hmpTo hmpWaiting).arm .hmpPoll s.now).arm .laneSilent (s.now + 10000000000)

end Sys2Proof.Machine
end

