-- ==== Sys2Proof/Machine/Power.lean ====
section
/-! DEFINITION. Power states and wake (chapter 11): performance levels, entry step by step, wake, station time across
sleep, the thermos. -/

namespace Sys2Proof.Machine

/-! ## Device states and codes (Tables 11.3 and 11.5) -/

def pmRun : Nat := 0
def pmIdle : Nat := 1
def pmSleep : Nat := 2
def pmDeep : Nat := 3
def pmOff : Nat := 4
def pmEntering : Nat := 5

/-- A refuser or wake cause as R468 packs it: code, step, detail. -/
def refuser (code step detail : Nat) : Nat := code * 16777216 + step * 65536 + detail % 65536

/-- The device goes to a state, as POWER_STATE /01 and /02 read it; while it sleeps nothing can read them. -/
def State.powerTo (s : State) (mode step : Nat) : State :=
  let s := s.setPower fun fld => { fld with mode := mode, step := step, stepAt := s.now }
  if mode = pmRun ∨ mode = pmIdle ∨ mode = pmEntering then
    (s.wr Reg.POWER_STATE_state 0 0 mode).wr Reg.POWER_STATE_step 0 0 step
  else s.wr Reg.POWER_STATE_step 0 0 0

/-- A cause of a wake is recorded, with its stamp (R475). -/
def State.wakeCause (s : State) (code detail : Nat) : State :=
  let s := s.setPower fun fld => { fld with wakeAt := s.now }
  ((s.wr Reg.POWER_STATE_wake_cause 0 0 (refuser code 0 detail)).wr Reg.POWER_STATE_wake_stamp 0 0 s.now).wr
    Reg.POWER_STATE_wake_ports 0 0 (if code = 3 ∨ code = 4 then 2 ^ detail else 0)

/-- The device leaves IDLE for RUN with a cause (R460). -/
def State.leaveIdle (s : State) (code detail : Nat) : State := ((s.powerTo pmRun 0).wakeCause code detail).ungate

/-- A wake from SLEEP or DEEP begins: the regulator returns to normal mode (Table 11.8). -/
def State.startWake (s : State) (code detail : Nat) : State :=
  let s := s.wakeCause code detail
  (s.setPower fun fld => { fld with wake := 1, lowPower := false })

/-! ## Entry (R463 to R467) -/

/-- A frame is on a port's line, a granted interval is still to come, or a sweep runs (Table 11.4 step 1). -/
def State.lineBusy (s : State) (p : Port) : Bool :=
  let q := s.port p
  !s.lineFree p || q.held.isSome || q.grants.any (fun g => decide (s.now < g.finish))
    || (q.sound.engine.isSome && q.sound.sweepEnd.any fun t => decide (s.now < t))

/-- The lowest port with a busy line. -/
def State.busyPort (s : State) : Option Port := allPorts.find? fun (p : Port) => s.lineBusy p

/-- The lowest queue that is not empty, when POWER_POLICY lets it refuse entry. -/
def State.fullQueue (s : State) : Option Nat :=
  if s.flag Reg.POWER_POLICY_refuse_queued then (s.qm.queues.head?).map (·.1) else none

/-- The far side is quiet (R469). -/
def State.farQuiet (s : State) : Bool :=
  let x := s.hostSide.other
  !s.linkUp x || s.partnerRole x == 3 || (s.link x).lastRx.all fun t => decide (t + 10000000 ≤ s.now)

/-- The host side is idle (R470): IDLE_ENTRY is sent, and the partner's received when Porfani activity is armed. -/
def State.hostIdle (s : State) : Bool :=
  let x := s.hostSide
  !s.linkUp x || ((s.power.idleSent || (s.link x).txIdle) && (!s.flag Reg.WAKE_SOURCES_Porfani || (s.link x).rxIdle))

/-- The condition of the entry step in progress (Table 11.4); steps 3, 4 and 6 have none. -/
def State.stepMet (s : State) (m : EntryMeas) : Bool :=
  if s.power.step = 1 then s.ready && s.busyPort.isNone && s.hmp.request == 0 && s.fullQueue.isNone
  else if s.power.step = 2 then s.farQuiet && s.hostIdle
  else if s.power.step = 5 then m.xlfRunning || decide (s.power.target = pmOff)
  else true

/-- Who refuses the entry step in progress, with its detail (Table 11.4). -/
def State.stepRefuser (s : State) (m : EntryMeas) : Option (Nat × Nat) :=
  let past (limit : Stamp) : Bool := decide (s.power.stepAt + limit < s.now)
  if s.power.step = 1 then
    if !s.ready then some (13, 0)
    else if s.hmp.request ≠ 0 ∧ past 2000000000 then some (9, 0)
    else match s.busyPort with
      | some p => if past 10000000000 then some (7, p.val) else none
      | none => if s.hmp.request ≠ 0 then none else s.fullQueue.map fun q => (8, q)
  else if s.power.step = 2 then
    if !s.hostIdle ∧ past 10000000 then some (11, s.hostSide.n)
    else if !s.farQuiet ∧ past 12000000000 then some (10, s.hostSide.other.n)
    else none
  else if s.power.step = 5 ∧ !m.xlfRunning ∧ s.power.target ≠ pmOff ∧ past 3000000 then some (12, 0)
  else none

/-- Entry begins (R463): step 1 stops scheduling. -/
def State.beginEntry (s : State) (target : Nat) : State :=
  let s := s.setPower fun fld => { fld with
    before := s.power.mode, target := target, abandon := none, idleSent := false, parked := [], detectors := false }
  (s.powerTo pmEntering 1).powerRecord 0 target 1 (s.rdN Reg.LAST_REFUSER) (s.rdN Reg.POWER_STATE_wake_ports)

/-- WAIT (R463, R414): a broadcast one is forwarded first; then POWER_TARGET says what the device does. During entry, and
during a steward restart (Table 12.6), it has no effect. -/
def execWaitParcel (side : Side) (bcast : Bool) (s : State) : Res :=
  guarded (s.runs ∧ s.linkUp side ∧ s.hostPort side) s <|
    let s := if bcast then s.forward s.hostSide.other (bcastCtrl [7, 0, 0, 0]) else s
    let target := s.rdN Reg.POWER_TARGET
    if !s.steward ∨ s.stopped ∨ target = pmRun then s
    else if target = pmIdle then s.powerTo pmIdle 0
    else s.ungate.beginEntry target

/-- WAKE_PARCEL (R460): consumed in IDLE, it returns the device to RUN. -/
def execWakeParcel (s : State) : Res :=
  guarded (s.runs ∧ s.power.mode = pmIdle) s (s.leaveIdle 14 0)

/-- The action of an entry step as it begins (Table 11.4). -/
def State.stepAction (s : State) : State :=
  if s.power.step = 2 then
    let s := (sortRecs s.merge.held).foldl State.deliver (s.setMerge fun fld => { fld with held := [] })
    let ports := allPorts.filter fun (p : Port) => s.parkable p
    let s := ports.foldl (fun s p => s.park p 4) s
    (s.setPower fun fld => { fld with parked := ports.map (·.val), detectors := true })
  else if s.power.step = 3 then s.writeBackAll
  else if s.power.step = 4 then (s.setPower fun fld => { fld with selfRefresh := true })
  else s

/-- CRC-32 values of the eight banks: what the banks hold is not laid out by the spec, so each is a free value. -/
def State.sign (s : State) : State :=
  (List.range 8).foldl (fun s e =>
    let (v, s) := s.free 4294967296
    s.wr Reg.THERMOS_signature 0 e v) s

/-- Step 5 ends (R480, R484): station time, the counter, ρ and the bound are latched, the banks signed, the clamps
engaged; for OFF the clamps only. -/
def State.signThermos (s : State) (m : EntryMeas) : State :=
  let s := s.setPower fun fld => { fld with clamped := true }
  if s.power.target = pmOff then s
  else
    let s := s.setTime fun fld => { fld with
      latchT := s.now, latchC := m.counter, latchRho := s.rdN Reg.XLF_RATIO_rho, latchB := s.bound.toNat }
    s.sign.wr Reg.POWER_STATE_entry_stamp 0 0 s.now

/-- The ports that entry parked leave PARKED, but those that LP_STATE /03 holds there (Table 5.2). -/
def State.unparkParked (s : State) (cause : Nat) : State :=
  let ports := allPorts.filter fun (p : Port) => s.power.parked.contains p.val && decide (s.portState p = stParked)
    && !s.flag Reg.LP_STATE_park p
  ports.foldl (fun s p => s.unpark p cause) (s.setPower fun fld => { fld with parked := [] })

/-- ENTRY_UNDO (R467, R468): the completed steps are undone, the abort counted, its refuser kept and reported. -/
def State.undoEntry (s : State) (code detail : Nat) : State :=
  let step := s.power.step
  let s := s.setPower fun fld => { fld with clamped := false, selfRefresh := false, detectors := false }
  let s := (s.powerTo s.power.before 0).unparkParked 4
  let s := s.setPower fun fld => { fld with abandon := none }
  let s := (s.inc Reg.ENTRY_ABORTS).wr Reg.LAST_REFUSER 0 0 (refuser code step detail)
  s.powerRecord 1 s.power.target step (refuser code step detail) (s.rdN Reg.POWER_STATE_wake_ports)

/-- Step 6 ends: the device is in its target. A happening whose stamp lies after the begin of step 6 now starts an ordinary
wake (R466). -/
def State.gate (s : State) : State :=
  let target := s.power.target
  let late := s.power.abandon
  let s := ((s.inc Reg.POWER_STATE_ENTRIES).hmpTo hmpGated).powerTo target 0
  let s := s.setPower fun fld => { fld with slept := target, lowPower := decide (3 ≤ target), wake := 0, abandon := none }
  match late with
  | none => s
  | some (code, detail) => if target = pmOff then s.coldReset causeWake [] holdShort else s.startWake code detail

/-- The step that follows the one in progress; OFF skips steps 3 and 4. -/
def State.nextStep (s : State) : Nat := if s.power.step = 2 ∧ s.power.target = pmOff then 5 else s.power.step + 1

/-- ENTRY_STEP_ADVANCE (R464, R466): the condition of the step in progress is met. A happening of R466 whose stamp does not
lie after the begin of step 6 abandons entry here; else the next step begins, or after step 6 the device is gated. -/
def execEntryStepAdvance (m : EntryMeas) (s : State) : Res :=
  guarded (s.runs ∧ s.stopped ∧ s.stepMet m) s <|
    let late := decide (s.power.step = 6 ∧ s.power.stepAt < s.power.abandonAt)
    match if late then none else s.power.abandon with
    | some (code, detail) => s.undoEntry code detail
    | none =>
      if s.power.step = 6 then s.gate
      else
        let s := if s.power.step = 5 then s.signThermos m else s
        (s.powerTo pmEntering s.nextStep).stepAction

/-- ENTRY_REFUSED (R464, R465): the limit of the step in progress has passed with its condition unmet. -/
def execEntryRefused (m : EntryMeas) (s : State) : Res :=
  match s.stepRefuser m with
  | none => ok s
  | some (code, detail) => guarded (s.runs ∧ s.stopped) s (s.undoEntry code detail)

/-! ## Wake (R474 to R479) -/

/-- The detector of a port acts: in IDLE at once, elsewhere while the port is PARKED, and during entry once step 2 has armed
it (R474). -/
def State.portDetects (s : State) (p : Port) : Bool :=
  decide (s.power.mode ≤ pmIdle)
    || (decide (s.portState p = stParked) && (!s.stopped || s.power.detectors))

/-- A wake source is armed and acts in the state the device is in (Table 11.7). -/
def State.armedSource (s : State) (w : WakeSource) : Bool :=
  let off := decide (s.power.mode = pmOff)
  match w with
  | .wakeN => s.flag Reg.WAKE_SOURCES_WAKE_N || off
  | .porfani x => s.flag Reg.WAKE_SOURCES_Porfani && x == s.hostSide && !off
  | .activity p => bit (s.rdN Reg.WAKE_SOURCES_activity) p.val && !off && s.portDetects p
  | .bell p => bit (s.rdN Reg.WAKE_SOURCES_bell) p.val && !off && s.portDetects p

/-- Code and detail of a wake source (Table 11.5); in DEEP the bell acts as line activity (R474). -/
def State.wakeCode (s : State) (w : WakeSource) : Nat × Nat :=
  match w with
  | .wakeN => (1, 0)
  | .porfani x => (2, x.n)
  | .activity p => (4, p.val)
  | .bell p => (if s.power.mode = pmDeep ∨ (s.stopped ∧ s.power.target = pmDeep) then 4 else 3, p.val)

/-- A further source within 1 ms of a wake (R475): its port is recorded; at the same stamp the lower code, then the lower
port, is the cause. -/
def State.alsoWoke (s : State) (code detail : Nat) : State :=
  if s.power.wakeAt + 1000000 < s.now ∨ s.rd Reg.POWER_STATE_wake_cause = 0 then s
  else
    let ports := s.rdN Reg.POWER_STATE_wake_ports
    let s := if code = 3 ∨ code = 4 then s.wr Reg.POWER_STATE_wake_ports 0 0 (ports ||| 2 ^ detail : Nat) else s
    if s.power.wakeAt = s.now ∧ (refuser code 0 detail : Int) < s.rd Reg.POWER_STATE_wake_cause then
      s.wr Reg.POWER_STATE_wake_cause 0 0 (refuser code 0 detail)
    else s

/-- WAKE_DETECT (R474, R475, R460, R462, R466): an armed detector fires. -/
def execWakeDetect (w : WakeSource) (s : State) : Res :=
  let code := (s.wakeCode w).1
  let detail := (s.wakeCode w).2
  guarded (s.live ∧ s.armedSource w) s <|
    if s.power.mode = pmRun then s.alsoWoke code detail
    else if s.power.mode = pmIdle then s.leaveIdle code detail
    else if s.power.mode = pmEntering then
      s.happens code detail s.now
    else if s.power.mode = pmOff then s.coldReset causeWake [] holdShort
    else if s.power.wake = 0 then s.startWake code detail
    else s.alsoWoke code detail

/-- The sources whose islands restart their clocks at a wake: every one but the time unit and the power controller (R36). -/
def wokenSources : List Nat := [1, 3, 4, 5, 6, 8, 9, 10, 11] ++ (List.range 32).map (· + 0x10) ++ [0x30, 0x31, 0x40]

/-- Every meter's buckets are full (Table 11.9). -/
def State.fillBuckets (s : State) : State :=
  let n : Nat := 65536
  let listed (o : Obj) : List Nat :=
    (s.regs.filter fun e => decide (o.key 0 0 ≤ e.1 ∧ e.1 < o.key 0 0 + n)).map fun e => e.1 - o.key 0 0
  let ms := ([Reg.METER_Tc, Reg.METER_Tp, Reg.METER_CBS, Reg.METER_PBS].flatMap listed).eraseDups
  ms.foldl (fun s m =>
    (s.wr Reg.METER_Tc 0 m (s.rd Reg.METER_CBS 0 m * 65536)).wr Reg.METER_Tp 0 m (s.rd Reg.METER_PBS 0 m * 65536)) s

/-- Every band accumulation restarts (Table 11.9). -/
def State.restartBands (s : State) : State :=
  allPorts.foldl (fun s (p : Port) => s.setSound p fun q =>
    { q with near := q.near.restart, mid := q.mid.restart, far := q.far.restart, ready := [] }) s

/-- What DEEP loses of the on-die state outside the thermos (R483, Table 15.17): the meter buckets, the flow cache, the
band accumulations, the merge window. -/
def State.deepLosses (s : State) : State :=
  let s := s.setQm fun fld => { fld with cache := [] }
  let s := s.setMerge fun fld => { fld with crossing := [], unstamped := [], held := [] }
  s.fillBuckets.restartBands

/-- WAKE_CLAMPS_RELEASE (R476, R477, R479): the clamps are released, the steward runs on the RC oscillator, IRQ_N is
asserted while the host-side port is not ACTIVE; every replica is to be realigned. -/
def execWakeClampsRelease (s : State) : Res :=
  let after : Stamp := if s.power.mode = pmDeep then 250000 else 30000
  guarded (s.live ∧ s.power.wake = 1 ∧ (s.power.mode = pmSleep ∨ s.power.mode = pmDeep) ∧ s.power.wakeAt + after ≤ s.now) s <|
    let s := if s.power.mode = pmDeep then s.deepLosses else s
    let s := s.powerTo pmRun 0
    let s := s.setPower fun fld => { fld with
      wake := 2, clamped := false, detectors := false, irqWake := true, locking := false }
    let s := s.setTime fun fld => { fld with unaligned := wokenSources }
    let s := s.setHouse fun fld => { fld with gated := false }
    let s := s.setQm fun fld => { fld with tickAt := (s.time.mono / 8000).toNat }
    let s := (s.wr Reg.CLOCK_SELECT_request 0 0 0).wr Reg.CLOCK_SELECT_in_force 0 0 0
    s.arm .watchdog (s.now + 100000000)

/-- TIME_RESTORE (R481): station time from the latched values and the counter, in HOLDOVER; the epoch stays. -/
def State.timeRestore (s : State) (counter : Nat) : State :=
  let t := s.time
  let slept : Int := ((counter : Int) - t.latchC) * t.latchRho / 4294967296
  let s := s.setTime fun _ => { t with
    now := t.latchT + slept, sleptFor := slept, onCounter := true, boundAt := t.latchT + slept, slew := 0, slewTicks := 0,
    boundBase := (t.latchB + slept * s.rd Reg.XLF_DRIFT / 1000000000 + 40).toNat, goodRun := 0 }
  s.wr Reg.TIME_QUALITY_state 0 0 tqHoldover

/-- Table 11.9: what the owner of a bank that failed rebuilds. Banks 0, 2 and 3 come back from their mirrors. With bank 1
station time is FREERUN, its value a free one. -/
def State.bankLost (s : State) (b : Nat) : State :=
  if b = 1 then
    let (v, s) := s.free
    let s := s.setTime fun fld => { fld with now := 4 * (v : Int), boundBase := 1000000000, boundAt := 4 * (v : Int) }
    (s.wr Reg.TIME_QUALITY_state 0 0 tqFreerun).wr Reg.TIME_QUALITY_epoch 0 0 ((s.rd Reg.TIME_QUALITY_epoch + 1) % 65536)
  else if b = 4 then s.shaped.foldl (fun s q => s.wr Reg.SHAPER_credit 0 q 0) s
  else if b = 5 then s.fillBuckets
  else if b = 6 then s.restartBands
  else if b = 7 then
    [Reg.PF_CTL_width_ceiling, Reg.PF_CTL_rate_ceiling, Reg.PF_CTL_DOWN_second_host, Reg.PF_CTL_idle_time,
      Reg.PF_CTL_BIP_threshold, Reg.PF_PORT_asymmetry, Reg.PF_PORT_test].foldl (fun s o =>
        (s.wr o 0 0 (o.dfltAt 0)).wr o (if o.index = 0x1110 then 1 else 0) 0 (o.dfltAt 0)) s.freeSessions
  else s

/-- THERMOS_CHECK (R478, R481, R483, R550): station time is restored; each failed bank is counted, logged and rebuilt; both
Porfani ports retrain; the mailbox is rebuilt. -/
def execThermosCheck (failed : List Nat) (counter : Nat) (s : State) : Res :=
  let after : Stamp := if s.power.slept = pmDeep then 1050000 else 830000
  guarded (s.runs ∧ s.power.wake = 2 ∧ s.power.wakeAt + after ≤ s.now) s <|
    let s := s.timeRestore counter
    let s := ((List.range 8).filter fun b => failed.contains b).foldl (fun s b =>
      ((s.bankLost b).inc Reg.THERMOS_LOSSES 0 b).raise srcPower clsPower 0x01 b 0) s
    let s := s.setPower fun fld => { fld with wake := 3 }
    ((s.fullRetrain .up 0).fullRetrain .down 0).rebuildMailbox

/-- CLOCK_SELECT (R479): a commit of CLOCK_SELECT /01 = 1 has applied: the PLLs begin to lock. -/
def execClockSelect (s : State) : Res :=
  guarded (s.runs ∧ s.rd Reg.CLOCK_SELECT_request = 1 ∧ s.rd Reg.CLOCK_SELECT_in_force = 0 ∧ !s.power.locking
      ∧ s.power.wake ≠ 2 ∧ s.rd Reg.CAL_REF_REFCLK_state = 1) s
    (s.setPower fun fld => { fld with locking := true })

/-- CLOCK_SELECTED (R479, R481, R482): the islands run on REFCLK again, the DRAM leaves self-refresh, the commit is done,
itineraries take the window of the present time and the ports leave PARKED; ρ is measured afresh over 10 ms. -/
def execClockSelected (s : State) : Res :=
  guarded (s.runs ∧ s.power.locking) s <|
    let woke := decide (s.power.wake = 3)
    let s := if s.time.onCounter then s.rebound else s
    let s := s.setPower fun fld => { fld with locking := false, selfRefresh := false, wake := 0 }
    let s := s.setTime fun fld => { fld with onCounter := false }
    let s := (s.wr Reg.CLOCK_SELECT_in_force 0 0 1).commitDone
    let s := s.powerRecord 3 s.power.slept 0 (s.rdN Reg.POWER_STATE_wake_cause) (s.rdN Reg.POWER_STATE_wake_ports)
    if woke then
      let s := allPorts.foldl (fun s (p : Port) => (s.setPort p fun q => { q with lapsed := true }).portStep p) s
      (s.unparkParked 6).arm .rhoRecheck (s.now + 10000000)
    else s

/-! ## The 32.768 kHz counter (R480, R482) -/

/-- RHO_MEASURE (R480): each second in RUN, ρ is measured. -/
def execRhoMeasure (rho : Nat) (s : State) : Res :=
  guarded (s.runs ∧ s.power.mode = pmRun ∧ s.due .rhoNext) s <|
    ((s.wr Reg.XLF_RATIO_rho 0 0 rho).wr Reg.XLF_RATIO_stamp 0 0 s.now).arm .rhoNext (s.now + nsPerSec)

/-- RHO_RECHECK (R482): ρ measured afresh against REFCLK; a difference of more than 1 ppm corrects the rate of station
time, widens the bound and is logged. -/
def execRhoRecheck (rho : Nat) (s : State) : Res :=
  let old : Int := s.time.latchRho
  let d : Int := rho - old
  guarded (s.runs ∧ s.reached .rhoRecheck) s <|
    let s := s.disarm .rhoRecheck
    if d.natAbs * 1000000 ≤ s.time.latchRho then s
    else
      let parts : Int := (d.natAbs : Int) * 1000000000 / old
      let s := s.rebound
      let s := s.setTime fun fld => { fld with
        rateCorr := s.time.rateCorr - (if d < 0 then -parts else parts),
        boundBase := (s.time.boundBase + parts * s.time.sleptFor / 1000000000).toNat }
      s.raise srcTime clsTime 0x02 0xFF parts.toNat

/-- AO_BROWNOUT (R473): the always-on regulator in low-power mode draws too much. -/
def execAoBrownout (s : State) : Res :=
  guarded (s.live ∧ s.power.lowPower) s (s.coldReset causeBrownout [] holdShort)

/-! ## Performance levels (R454 to R459) -/

/-- SRAM assist (Table 11.1). -/
inductive Assist where
  | none
  | wordLineUnderdrive
  | negativeBitLine
  deriving DecidableEq, Repr

/-- What a level sets (Table 11.1): supply and forward body bias in mV, the clock in thirds of full, the SRAM assist. -/
structure Supply where
  millivolts : Nat
  thirds : Nat
  bias : Int
  assist : Assist
  deriving DecidableEq, Repr

/-- Table 11.1. -/
def levelSupply (level : Int) : Supply :=
  if level = 0 then ⟨850, 3, 200, .wordLineUnderdrive⟩
  else if level = 1 then ⟨750, 2, 0, .none⟩
  else if level = 2 then ⟨650, 1, 0, .negativeBitLine⟩
  else ⟨600, 0, 0, .negativeBitLine⟩

/-- What a unit runs on (R454, R459): clock and assist of the level in force, supply and body bias of the level they ramp
to; in SLEEP and DEEP every clock is stopped and the body is biased 0.3 V in reverse. -/
def State.supply (s : State) (u : Nat) : Supply :=
  let level := s.rd Reg.PERF_LEVEL_in_force 0 u
  let target : Int := match s.power.ramps.find? fun r => r.1 == u with
    | some r => (r.2 : Int)
    | none => level
  let now := levelSupply level
  let next := levelSupply target
  if s.power.mode = pmSleep ∨ s.power.mode = pmDeep then ⟨next.millivolts, 0, -300, now.assist⟩
  else ⟨next.millivolts, now.thirds, next.bias, now.assist⟩

/-- The time within which a completed band's projection ends at a sounding engine's level (Table 11.2), ns; none at PL3. -/
def projectionLimit (level : Int) : Option Stamp :=
  if level = 0 then some 50000000 else if level = 1 then some 75000000 else if level = 2 then some 150000000 else none

/-- The time within which the queue manager picks at its level (R361, Table 11.2), ns; none at PL3. -/
def pickLimit (level : Int) : Option Stamp :=
  if level = 0 then some 1000 else if level = 1 then some 1500 else if level = 2 then some 3000 else none

/-! ## Isolation clamps (R484) -/

/-- The signals that isolation cells hold (Table 11.10). -/
inductive ClampSignal where
  | driverEnable
  | dacCode
  | dcTestSource
  | calibrationIsolation
  | sweepEnable
  | cke
  | dramReset
  | dramCommand
  | txElectricalIdle
  | thermosSelect
  | hamperRequest
  | balls
  deriving DecidableEq, Repr

/-- What a clamp holds a signal at: a code, no request, or high impedance. -/
inductive ClampLevel where
  | code (value : Nat)
  | idle
  | highImpedance
  deriving DecidableEq, Repr

/-- Table 11.10. -/
def clampLevel : ClampSignal → ClampLevel
  | .driverEnable | .dcTestSource | .calibrationIsolation | .sweepEnable | .cke | .dramCommand | .thermosSelect => .code 0
  | .dacCode => .code 0x2000
  | .dramReset | .txElectricalIdle => .code 1
  | .hamperRequest => .idle
  | .balls => .highImpedance

/-- What holds a signal while its domain is gated (R484): `none` once the clamps are released. -/
def State.clampOf (s : State) (x : ClampSignal) : Option ClampLevel := if s.power.clamped then some (clampLevel x) else none

/-- The sources of a unit (Table 1.2): a stopped clock stops the stamps of each. -/
def unitSources (u : Nat) : List Nat :=
  if u < 32 then [0x10 + u] else if u < 36 then [0x08 + (u - 32)] else [srcQueue, srcFlow, srcHamper]

/-- The port is DOWN, PARKED or FENCED. -/
def State.offLine (s : State) (p : Port) : Bool :=
  decide (s.portState p = stDown ∨ s.portState p = stParked ∨ s.portState p = stFenced)

/-- The unit's apply point of R48; a line engine goes to PL3, and the queue manager, once the ports it serves have left the
line (Table 11.2, R456). -/
def State.levelPoint (s : State) (u : Nat) (new : Int) : Bool :=
  if h : u < 32 then
    let p : Port := ⟨u, h⟩
    s.atApplyPoint p && (decide (new ≠ 3) || s.offLine p)
  else if u < 36 then
    allPorts.all fun (p : Port) => decide ((s.port p).sound.engine ≠ some (Fin.ofNat 4 (u - 32)))
      || (s.port p).sound.sweepEnd.all fun t => decide (t ≤ s.now)
  else s.applyPoint .queueManager && (decide (new ≠ 3) || allPorts.all fun (p : Port) => s.offLine p)

/-- The sources of a unit at PL3 stamp nothing from the stop of its clock to the realignment of its replica (R36). -/
def State.stopStamps (s : State) (u : Nat) : State :=
  s.setTime fun fld => { fld with unaligned := fld.unaligned ++ (unitSources u).filter fun x => decide (x ∉ fld.unaligned) }

/-- PERF_LEVEL_CHANGE (R459, R36): at the unit's apply point a level begins to change: a lower clock at once, a higher one
after the ramp. -/
def execPerfLevelChange (u : PerfUnit) (s : State) : Res :=
  let new := s.rd Reg.PERF_LEVEL_requested 0 u.val
  guarded (s.runs ∧ u.val ∈ s.iz.ramping ∧ (s.power.ramps.all fun r => r.1 != u.val) ∧ s.levelPoint u.val new) s <|
    let s := s.setPower fun fld => { fld with ramps := s.power.ramps ++ [(u.val, new.toNat)] }
    if s.rd Reg.PERF_LEVEL_in_force 0 u.val < new then
      let s := s.wr Reg.PERF_LEVEL_in_force 0 u.val new
      if new = 3 then s.stopStamps u.val else s
    else s

/-- PERF_LEVEL_RAMP_DONE (R459): supply and body bias have settled, a raised clock switches; a unit that leaves PL3 has its
replica still to be realigned (R36); the commit is done with the last ramp. -/
def execPerfLevelRampDone (u : PerfUnit) (s : State) : Res :=
  match s.power.ramps.find? fun r => r.1 == u.val with
  | none => ok s
  | some r =>
    guarded s.runs s <|
      let s := s.setPower fun fld => { fld with ramps := s.power.ramps.filter fun x => x.1 != u.val }
      let s := s.setIz fun fld => { fld with ramping := s.iz.ramping.filter fun x => x != u.val }
      (s.wr Reg.PERF_LEVEL_in_force 0 u.val r.2).commitDone

end Sys2Proof.Machine
end

