-- ==== Sys2Proof/Machine/Faults.lean ====
section
/-! DEFINITION. Faults and fencing (chapter 12): the fault collector and its cycles, fence actions and their clearing, DRAM
pages, the steward's restart, injection. -/

namespace Sys2Proof.Machine

/-- Severities of Table 12.2. -/
def svNotice : Nat := 1
def svDegrade : Nat := 2
def svFence : Nat := 3
def svStation : Nat := 4
def svReset : Nat := 5

/-- FAULT_STATE follows the log (Table 12.10), and with it a head's own entry of its topology (R411). -/
def State.faultState (s : State) : State :=
  let classes : Nat := (List.range 8).foldl (fun (m : Nat) c =>
    if s.faults.logged.any fun f => f.cls == c && !f.acked && !f.injected then m ||| 2 ^ c else m) 0
  let s := (s.wr Reg.FAULT_STATE_classes 0 0 classes).wr Reg.FAULT_STATE_severity 0 0 s.severity
  if s.isHead then s.ownTopology else s

/-! ## Raising (R487, R489) -/

/-- What a fault does in its unit beside its report: an uncorrectable word marks its page for retirement (R498), one in
sounding scratch restarts the band its engine works on (Table 12.3). -/
def State.faultInUnit (s : State) (f : FaultReport) : State :=
  if f.cls = clsMemory ∧ f.code = 0x01 ∧ f.source = srcDram then
    (s.setFaults fun fld => { fld with lost := f.unit :: s.faults.lost.filter fun x => x != f.unit })
  else if f.cls = clsSounding ∧ f.code = 0x02 then
    allPorts.foldl (fun s (p : Port) =>
      match (s.port p).sound.engine, (s.port p).sound.band with
      | some k, some b =>
        if srcEngine k.val = f.source then
          (s.setSound p fun q => q.setAcc b BandAcc.restart).cntSound p Reg.LR_STATUS_RESTARTED
        else s
      | _, _ => s) s
  else s

/-- FAULT_RAISE (R487, R489): a unit reports a catalogued fault of its own to the collector, which runs in every device
state. -/
def execFaultRaise (f : FaultReport) (s : State) : Res :=
  guarded (s.live ∧ (catalogueSeverity f.cls f.code).isSome ∧ sourceOf f.cls f.code f.source) s
    ((s.faultInUnit f).raiseAs f 0 false)

/-! ## Fence actions (R497, R500) -/

/-- An element of FENCE_CTL is fenced by a fault of a SEQ (Table 12.10). -/
def State.fenceElem (s : State) (e : Nat) (f : PendFault) (seq : Nat) : State :=
  let s := (s.disarm (.selfTest e)).wr Reg.FENCE_CTL_state 0 e 1
  let s := ((s.wr Reg.FENCE_CTL_stamp 0 e f.stamp).wr Reg.FENCE_CTL_SEQ 0 e seq).inc Reg.FENCE_CTL_FENCES 0 e
  (s.setFaults fun fld => { fld with fencedBy := Store.put ⟨0, 0, 0, 0, 0⟩ s.faults.fencedBy e f.report })

/-- A sounding engine is fenced (Table 12.4): its band sums are discarded, and the port it served has none. -/
def State.fenceEngine (s : State) (k : Fin 4) : State :=
  allPorts.foldl (fun s (p : Port) =>
    if (s.port p).sound.engine = some k then
      (s.setSound p fun q => { q with near := q.near.restart, mid := q.mid.restart, far := q.far.restart,
                                      focusRun := q.focusRun.map fun f => { f with acc := {} } }).freeEngine p
    else s) s

/-- The hamper interface is fenced (Table 12.4): it receives nothing and requests nothing. -/
def State.fenceHamper (s : State) : State :=
  let s := s.setHmp fun fld => { fld with request := 0 }
  ((([Timer.hmpRequest, .hmpPoll, .laneSilent].foldl State.disarm s)).hmpTo hmpFenced)

/-- STEWARD_RESTART (R500, Table 12.6): the steward stops: commits that are not FENCING are dropped, staged sets lost, proxy
requests in progress not answered. -/
def State.restartSteward (s : State) (f : PendFault) (seq : Nat) : State :=
  if s.faults.stewardDown then s
  else
    let s := s.setFaults fun fld => { fld with
      stewardDown := true, stewardCause := f.report.code, stewardSeq := seq, stewardAt := f.stamp }
    let s := if s.iz.queue ≠ [] ∧ s.iz.active = none then s.wr Reg.COMMIT_STATUS_state 0 0 0 else s
    let s := s.setIz fun fld => { fld with queue := [], sessions := s.iz.sessions.map fun z => { z with staged := [] } }
    let s := s.setHouse fun fld => { fld with gated := false }
    let s := allPorts.foldl (fun s (p : Port) =>
      let outs := (s.port p).outstanding
      let s := s.setPort p fun q => { q with proxies := [], outstanding := [] }
      outs.foldl (fun s o => s.disarm (.mgmt p.val o.proxy.a)) s) s
    s.disarm .watchdog

/-- The fence action that a fault at FENCE runs: that of the unit whose source number it carries (R497, R503); `none` where
the unit has none (R493). -/
def State.fenceAction (s : State) (f : PendFault) (seq : Nat) : Option State :=
  let src := f.report.source
  if h : 0x10 ≤ src ∧ src ≤ 0x2F then
    let p : Port := ⟨src - 0x10, by omega⟩
    some ((s.fencePort p).fenceElem p.val f seq)
  else if h : 0x08 ≤ src ∧ src ≤ 0x0B then
    let k : Fin 4 := ⟨src - 0x08, by omega⟩
    some ((s.fenceEngine k).fenceElem (32 + k.val) f seq)
  else if src = srcHamper then some (s.fenceHamper.fenceElem 36 f seq)
  else if src = srcSteward then some (s.restartSteward f seq)
  else if src = srcDram ∧ f.report.cls = clsMemory ∧ (f.report.code = 0x01 ∨ f.report.code = 0x02) ∧ !f.injected then some s
  else if src = srcLink .up ∨ src = srcLink .down then
    let x : Side := if src = srcLink .up then .up else .down
    if f.report.code = 0x02 ∧ !f.injected then some s
    else if s.pfState x = pfActive ∧ !(s.link x).dropping then some ((s.inc Reg.PF_PORT_WIDTH_DROPS x.n).beginDrop x)
    else none
  else none

/-! ## The fault cycle (R490 to R495, R501, R502) -/

/-- A fault of a cycle as the collector judges it: catalogue severity, logged severity, escalated or not. -/
structure Judged where
  fault : PendFault
  catalogue : Nat
  logged : Nat
  escalated : Bool

/-- FAULT_ESCALATE (R491): a fault is judged against the unacknowledged faults of earlier cycles of its class, real against
real and injected against injected. -/
def State.judge (s : State) (f : PendFault) : Judged :=
  let cat := if f.injected then f.severity else (catalogueSeverity f.report.cls f.report.code).getD f.severity
  let cap := if s.flag Reg.FAULT_POLICY_reset then svReset else svStation
  let esc := s.faults.logged.any fun l => !l.acked && l.cls == f.report.cls && l.injected == f.injected
  { fault := f, catalogue := cat, logged := if esc then max f.severity (min (cat + 1) cap) else f.severity, escalated := esc }

/-- The order of R490: real before injected, higher logged severity, lower source; then the order they happened in. -/
def Judged.before (a b : Judged) : Bool :=
  if a.fault.injected ≠ b.fault.injected then b.fault.injected
  else if a.logged ≠ b.logged then decide (b.logged < a.logged)
  else decide (a.fault.report.source < b.fault.report.source)

/-- Puts a fault into its place, behind those it does not go before. -/
def insertJudged (f : Judged) : List Judged → List Judged
  | [] => [f]
  | x :: l => if f.before x then f :: x :: l else x :: insertJudged f l

/-- The faults of a cycle in the order of R490. -/
def orderFaults (l : List Judged) : List Judged := l.foldl (fun acc f => insertJudged f acc) []

/-- Logs one fault of a cycle and runs its reaction (R488 to R494, R501 to R503, R505). `all` are the faults of its cycle,
`first` says that it is the first of them. -/
def State.logFault (s : State) (all : List Judged) (first : Bool) (j : Judged) : State :=
  let f := j.fault
  let r := f.report
  let seq := (s.faults.seq + 1) % 4294967296
  let level := if f.injected then min j.logged svStation else j.logged
  let same (b : Bool) : Bool := all.any fun x => x.fault.injected == b && x.fault.report.source == r.source
  let allowed := !f.injected || s.flag Reg.FAULT_POLICY_injected_reactions
  let suppressed := allowed && f.injected
    && all.any fun x => !x.fault.injected && x.fault.report.source == r.source && decide (level ≤ x.logged)
  let runs := allowed && !suppressed
  let fence := if runs ∧ svFence ≤ level then s.fenceAction f seq else none
  let reaction := b2n fence.isSome + 2 * b2n (runs && decide (svStation ≤ level))
    + 4 * b2n (runs && decide (svReset ≤ level)) + 8 * b2n suppressed + 16 * b2n j.escalated
  let flags := b2n f.injected * evInj + b2n (same true && same false) * evCoincident + b2n (!first) * evSameCycle
  let rec' : Rec := { stamp := f.stamp, source := r.source, type := 0x0C01, flags := flags,
                      payload := be 1 r.cls ++ be 1 r.code ++ be 1 j.logged ++ be 1 j.catalogue ++ be 4 seq ++ be 4 r.detail
                        ++ be 1 r.unit ++ be 1 reaction ++ [0, 0] }
  -- the log (R505), the first-fault slot (R495), the record (R503)
  let old := s.faults.logged.any fun l => decide ((l.seq + 256) % 4294967296 = seq) && !l.acked
  let s := if old then s.inc Reg.FAULT_LOG_OVERWRITTEN else s
  let s := (((s.wrB Reg.FAULT_LOG_entry 0 (seq % 256) rec'.bytes).wr Reg.FAULT_LOG_newest 0 0 seq).inc Reg.FAULT_LOG_LOGGED)
  let s := if j.escalated then s.inc Reg.FAULT_STATE_ESCALATIONS else s
  let s := if suppressed then s.inc Reg.FAULT_INJECT_SUPPRESSED else s
  let entry : LoggedFault := ⟨seq, r.cls, j.logged, f.injected, !runs, false⟩
  let s := s.setFaults fun fld => { fld with
    seq := seq
    logged := (s.faults.logged.filter fun l => !(l.acked && decide ((l.seq + 256) % 4294967296 = seq))) ++ [entry] }
  let s := s.setMerge fun fld => { fld with crossing := s.merge.crossing ++ [rec'] }
  let s := if first ∧ s.faults.firstSeq = none then
      (s.setFaults fun fld => { fld with firstSeq := some seq }).wrB Reg.FIRST_FAULT 0 0 rec'.bytes else s
  -- the reaction (Table 12.2)
  if !runs then s
  else
    let s := if svDegrade ≤ level then s.happens 6 r.source f.stamp else s
    let s := if svFence ≤ level ∧ s.power.mode = pmIdle then (s.powerTo pmRun 0).ungate else s
    let s := if svFence ≤ level then (s.fenceAction f seq).getD s else s
    let s := if svStation ≤ level ∧ s.rst.straps.role.val = 1 ∧ s.isHead then s.failoverSend 1 else s
    if svReset ≤ level ∧ s.faults.resetFault = none then
      (s.setFaults fun fld => { fld with resetFault := some r }).arm .faultReset (s.now + 1000000)
    else s

/-- The earliest cycle with a fault that waits for its decision. -/
def State.faultCycle (s : State) : Option Int := match s.faults.pending with
  | [] => none
  | f :: l => some (l.foldl (fun m f => min m (f.stamp / 16)) (f.stamp / 16))

/-- FAULT_CYCLE_DECISION (R490): 2 µs after the end of a 16 ns cycle its faults, the one an injection armed for it among
them (R501), are judged, ordered, numbered and logged, and their reactions run. -/
def execFaultCycleDecision (s : State) : Res :=
  match s.faultCycle with
  | none => ok s
  | some c =>
    guarded (s.live ∧ (c + 1) * 16 + 2000 ≤ s.now ∧ s.faults.inject.all fun x => decide (c < x.2.2 / 16)) s <|
      let mine := s.faults.pending.filter fun f => decide (f.stamp / 16 = c)
      let s := s.setFaults fun fld => { fld with pending := s.faults.pending.filter fun f => decide (f.stamp / 16 ≠ c) }
      let l := orderFaults (mine.map s.judge)
      (l.zipIdx.foldl (fun s x => s.logFault l (x.2 == 0) x.1) s).faultState.wakeReport

/-- The bytes of an event record are those of a FAULT record of a fault. -/
def faultRecord (f : FaultReport) (b : Bytes) : Bool :=
  decide (uAt b 10 2 = f.source ∧ uAt b 12 2 = 0x0C01 ∧ uAt b 16 1 = f.cls ∧ uAt b 17 1 = f.code)

/-- The FAULT record of a fault is still on its way to the merger, held there, or in an EVENT parcel that waits for its
acknowledgement on the host-side link (R44, R402). -/
def State.recordWaits (s : State) (f : FaultReport) : Bool :=
  let l := s.link s.hostSide
  (s.merge.crossing ++ s.merge.held).any (fun r => faultRecord f r.bytes)
    || (l.sendQ ++ l.replay).any fun p => p.type == 2 && faultRecord f p.payload

/-- FAULT_RESET (R494): the record's EVENT parcel is acknowledged, or 1 ms has passed: a cold reset that names the fault. -/
def execFaultReset (acked : Bool) (s : State) : Res :=
  match s.faults.resetFault with
  | none => ok s
  | some f =>
    guarded (s.live ∧ ((acked ∧ !s.recordWaits f) ∨ s.reached .faultReset)) s
      (s.coldReset causeFault (be 1 f.cls ++ be 1 f.code ++ [0] ++ be 2 f.source) holdShort)

/-! ## Acknowledgement (R496) -/

/-- s precedes or equals a in serial-number arithmetic (R496). -/
def serialLe (s a : Nat) : Bool := decide ((a + 4294967296 - s % 4294967296) % 4294967296 < 2147483648)

/-- FAULT_ACK (R496, R492, R495): acknowledges the logged faults of the classes of a mask up to a SEQ; FIRST_FAULT is emptied
when its fault is among them. -/
def execFaultAck (r : IzReq) (s : State) : Res :=
  guarded (s.takes r ∧ writes r 0x1402) s <| (s.admitReq r).run fun s =>
    match s.checkWrite r with
    | .error e => s.refuseWrite r e
    | .ok _ =>
      let mask := uAt r.data 3 1
      let upTo := uAt r.data 4 4
      let logged := s.faults.logged.map fun f => if bit mask f.cls && serialLe f.seq upTo then { f with acked := true } else f
      let covered := logged.any fun f => f.acked && s.faults.firstSeq == some f.seq
      let s := s.setFaults fun fld => { fld with logged := logged }
      let s := if covered then (s.setFaults fun fld => { fld with firstSeq := none }).wrB Reg.FIRST_FAULT 0 0 [] else s
      ((s.wr Reg.FAULT_ACK 0 0 (Reg.FAULT_ACK.masked (uAt r.data 0 8))).faultState).respond (r.answer stOk)

/-! ## Watchdog, steward restart (R489, R500) -/

/-- WATCHDOG_EXPIRY (R489): the service loop has completed no pass for 100 ms. -/
def execWatchdogExpiry (s : State) : Res :=
  guarded (s.runs ∧ s.passed .watchdog) s
    ((s.disarm .watchdog).raise srcSteward clsControl 0x03 0xFF s.house.slot)

/-- The check of the patch area (R500, R577): a bad CRC-32 is a fault, and the steward runs from ROM alone. -/
def State.patchCheck (s : State) (c : PatchCheck) : State :=
  let s := s.setRst fun fld => { fld with patchPresent := c.present && c.crcOk, patchVersion := c.version }
  if c.present ∧ !c.crcOk then s.raise srcSteward clsControl 0x04 0xFF c.crc else s

/-- STEWARD_RESTART_DONE (R500): the service loop goes on, the signature rules run on the refreshes completed meanwhile
(Table 12.6), and the restart is reported. -/
def execStewardRestartDone (patch : PatchCheck) (s : State) : Res :=
  guarded (s.runs ∧ s.faults.stewardDown) s <|
    let ms := ((s.now - s.faults.stewardAt) / 1000000).toNat
    let s := s.setFaults fun fld => { fld with stewardDown := false }
    let s := allPorts.foldl (fun s (p : Port) => s.signOwed p) s
    let s := ((s.patchCheck patch).inc Reg.STEWARD_RESTARTS).wr Reg.STEWARD_last_restart 0 0 s.now
    let s := s.issue srcPower 0x0C03 (be 1 s.faults.stewardCause ++ [0] ++ be 2 ms ++ be 4 s.faults.stewardSeq)
    s.arm .watchdog (s.now + 100000000)

/-! ## DRAM pages (R498) -/

/-- 24 h in ns. -/
def dayNs : Stamp := 86400000000000

/-- ECC_WORD_CORRECTED (R498): a corrected word is counted, and in DRAM its page remembers it. -/
def execEccWordCorrected (page : Option Nat) (s : State) : Res :=
  guarded s.runs s <|
    match page with
    | none => s.inc Reg.DRAM_PAGES_SRAM_CORRECTED
    | some n =>
      let l := s.now :: (Store.get [] s.faults.corrected n).filter fun t => decide (s.now - t ≤ dayNs)
      (s.setFaults fun fld => { fld with corrected := Store.put [] s.faults.corrected n l }).inc Reg.DRAM_PAGES_CORRECTED

/-- A page is to be retired: it holds an uncorrectable word, or its corrected words within 24 h reach the threshold. -/
def State.pageDue (s : State) (page : Nat) : Bool :=
  s.faults.lost.contains page
    || decide (s.rd Reg.DRAM_PAGES_threshold ≤ ((Store.get [] s.faults.corrected page).filter fun t =>
        decide (s.now - t ≤ dayNs)).length)

/-- Table 12.5: what the owner of a region does about the words it lost. -/
def State.regionLost (s : State) (page : Nat) (region : DramRegion) : State :=
  let pend (g : PendFault → PendFault) (s : State) : State :=
    s.setFaults fun fld => { fld with
      pending := s.faults.pending.map fun f =>
        if f.report.cls = clsMemory ∧ f.report.code = 0x01 ∧ f.report.unit = page then g f else f }
  match region with
  | .frameBuffer q => match s.queue q with
    | [] => s
    | f :: _ => s.dropHead q f id
  | .queueDescriptors q => s.flushQueue q
  | .flowContext f =>
    let s := (s.wrB Reg.FLOW_control 0 f []).wrB Reg.FLOW_state 0 f []
    let s := s.setQm fun fld => { fld with cache := s.qm.cache.filter fun l => l.flow != f }
    pend (fun x => { x with report := { x.report with detail := f } }) s
  | .cellMap p first count =>
    ((List.range count).map (· + first)).foldl (fun s i =>
      if i < 163840 then
        let c := s.cell p i
        s.wr Reg.CELL_MAP p i
          (cellOf (cellBaseline c) (cellCurrent c) (cellTrend c) (cellThreshold c) (setBit (setBit (cellFlags c) 7 false) 6 true) : Nat)
      else s) s
  | .history p pos =>
    s.wrB Reg.LR_HISTORY_stamps p 0 (patch (s.rdB Reg.LR_HISTORY_stamps p) (10 * (pos % 16)) (List.replicate 10 0))
  | .configuration => pend (fun x => { x with severity := svStation }) s
  | .unused => s

/-- PAGE_RETIRE (R498, Table 12.5): in slot 12 the page is copied to a spare one and retired; with no spare left
SPARES_EXHAUSTED is logged in its place. Words lost are lost in either case. -/
def execPageRetire (page : Nat) (region : DramRegion) (s : State) : Res :=
  guarded (s.runs ∧ s.inSlot ownScrub ∧ page < 2048 ∧ !s.faults.retired.contains page ∧ s.pageDue page) s <|
    let lost := s.faults.lost.contains page
    let s := if lost then s.regionLost page region else s
    let spares := s.rdN Reg.DRAM_PAGES_spares
    let n := s.faults.retired.length
    let s := s.setFaults fun fld => { fld with
      lost := s.faults.lost.filter fun x => x != page, corrected := Store.put [] s.faults.corrected page [] }
    if spares = 0 then s.raise srcDram clsMemory 0x03 page 0
    else
      let s := s.setFaults fun fld => { fld with retired := s.faults.retired ++ [page], copying := s.faults.copying ++ [page] }
      let s := (s.wr Reg.DRAM_PAGES_spares 0 0 (spares - 1 : Nat)).wr Reg.DRAM_PAGES_RETIRED 0 0 (s.rd Reg.DRAM_PAGES_RETIRED + 1)
      let s := s.wrB Reg.DRAM_PAGES_list 0 0 (patch (s.rdB Reg.DRAM_PAGES_list) (2 * n) (be 2 page))
      s.raiseAs ⟨srcDram, clsMemory, 0x02, page, n⟩ (if lost ∧ region = .configuration then svStation else 0) false

/-- PAGE_COPY_DONE (R20, R498): the copy ends in slot 12, and the page is remapped. -/
def execPageCopyDone (page : Nat) (s : State) : Res :=
  guarded (s.runs ∧ s.inSlot ownScrub ∧ page ∈ s.faults.copying) s
    (s.setFaults fun fld => { fld with copying := s.faults.copying.filter fun x => x != page })

/-! ## Clearing a fence (R499) -/

/-- The length of an element's self-test. -/
def selfTestTime (e : Nat) : Stamp := if e < 32 then 40000000 else if e < 36 then 10000000 else 100000000

/-- FENCE_CLEAR (R499): FENCE_CTL /02 = 1 has applied: the self-test begins and the object is cleared. -/
def execFenceClear (e : FenceElem) (s : State) : Res :=
  guarded (s.runs ∧ s.flag Reg.FENCE_CTL_clear 0 e.val ∧ s.rd Reg.FENCE_CTL_state 0 e.val = 1) s
    (((s.wr Reg.FENCE_CTL_clear 0 e.val 0).wr Reg.FENCE_CTL_state 0 e.val 2).arm (.selfTest e.val) (s.now + selfTestTime e.val))

/-- A unit returns to service (R499, Table 12.4): a port goes to DOWN, with its calibration in full and pre-distortion
training to follow (R508, R95); an engine can be assigned again; the hamper interface receives again. -/
def State.unfence (s : State) (e : Nat) : State :=
  let s := s.wr Reg.FENCE_CTL_state 0 e 0
  if h : e < 32 then
    let p : Port := ⟨e, h⟩
    (((s.setPort p fun q => { q with dpd := { q.dpd with lineDriverCleared := true } }).setCal p fun q =>
      { q with fenced := true }).ecClear p).toState p stDown 0
  else if e < 36 then s
  else ((s.hmpTo hmpWaiting).arm .hmpPoll s.now).arm .laneSilent (s.now + 10000000000)

/-- SELF_TEST_DONE (R499): passed, the unit returns to service; failed, it stays fenced and its fault is logged again. The
resynchronisation of the hamper's lane passes as soon as it is done. -/
def execSelfTestDone (e : FenceElem) (passed : Bool) (s : State) : Res :=
  guarded (s.runs ∧ s.rd Reg.FENCE_CTL_state 0 e.val = 2 ∧ (s.reached (.selfTest e.val) ∨ (e.val = 36 ∧ passed))) s <|
    let s := s.disarm (.selfTest e.val)
    let f := Store.get ⟨0, 0, 0, 0, 0⟩ s.faults.fencedBy e.val
    let s := if passed then s.unfence e.val else s.wr Reg.FENCE_CTL_state 0 e.val 1
    let s := s.issue srcPower 0x0C02 (be 1 e.val ++ be 1 (b2n (!passed)) ++ be 4 (s.rdN Reg.FENCE_CTL_SEQ 0 e.val) ++ [0, 0])
    if passed then s else s.raiseAs f 0 false

/-! ## Availability (R504) -/

/-- An event of the outage budget: outage per event in µs, events in 100 years (Table 12.9). -/
structure Outage where
  micros : Nat
  perCentury : Nat
  deriving DecidableEq, Repr

/-- Table 12.9: steward restart and page retirement, lane width drop, failover or ring break, a cold reset unrelated to
faults (1.2 s to READY, 60 s of restore, 600 s of re-registration). -/
def outageBudget : List Outage := [⟨0, 0⟩, ⟨100, 2000⟩, ⟨50000, 600⟩, ⟨661200000, 4⟩]

/-- Outage predicted in a year, µs (R504). -/
def outagePerYear : Nat := (outageBudget.map fun x => x.micros * x.perCentury).sum / 100

/-- A port that carries DATA counts towards availability: in SERVICE or QUIET and not fenced (R504). -/
def State.counts (s : State) (p : Port) : Bool := decide (s.portState p = stService ∨ s.portState p = stQuiet)

/-! ## Injection (R501) -/

/-- UNIT of an injected fault: the port or engine of its source. -/
def injectUnit (source : Nat) : Nat :=
  if 0x10 ≤ source ∧ source ≤ 0x2F then source - 0x10 else if 0x08 ≤ source ∧ source ≤ 0x0B then source - 0x08 else 0xFF

/-- FAULT_INJECT (R501, Table 12.7): arms one injection in the place of any other, for the cycle that holds AT, or the next
one. -/
def execFaultInject (r : IzReq) (s : State) : Res :=
  guarded (s.takes r ∧ writes r 0x1410) s <| (s.admitReq r).run fun s =>
    match s.checkWrite r with
    | .error e => s.refuseWrite r e
    | .ok _ =>
      let b := r.data
      let source := uAt b 0 2
      let sev := uAt b 4 1
      if (catalogueSeverity (uAt b 2 1) (uAt b 3 1)).isNone || !sourceOf (uAt b 2 1) (uAt b 3 1) source
          || decide (sev < 1 ∨ 4 < sev) || !time80Ok b 6 then s.refuseWrite r stRange
      else
        let at' := stampOf (slice b 6 10)
        let when := if at' ≤ s.now then (s.now / 16 + 1) * 16 else onGrid at'
        let f : FaultReport := ⟨source, uAt b 2 1, uAt b 3 1, injectUnit source, 0⟩
        let s := s.setFaults fun fld => { fld with inject := some (f, sev, when) }
        ((s.wrB Reg.FAULT_INJECT 0 0 (Reg.FAULT_INJECT.cleared b)).wr Reg.FAULT_INJECT_armed 0 0 1).respond (r.answer stOk)

/-- FAULT_INJECT_FIRE (R501): the armed injection produces its fault in its cycle. -/
def execFaultInjectFire (s : State) : Res :=
  match s.faults.inject with
  | none => ok s
  | some (f, sev, when) =>
    guarded (s.live ∧ when ≤ s.now) s <|
      let s := s.setFaults fun fld => { fld with
        inject := none, pending := s.faults.pending ++ [⟨when, f, sev, true⟩] }
      (s.wr Reg.FAULT_INJECT_armed 0 0 0).inc Reg.FAULT_INJECT_INJECTED

end Sys2Proof.Machine
end

