-- ==== Sys2Proof/Machine/Calib.lean ====
section
/-! DEFINITION. Calibration (chapter 13): the converter phase, the line phase, agreement of runs, lines that are not quiet,
periodic recalibration, restored values, the references; pre-distortion training (R95 to R99). -/

namespace Sys2Proof

/-- Item i of a run. -/
def CalRun.item (r : CalRun) (i : Nat) : Int := r.items.getD i 0

end Sys2Proof

namespace Sys2Proof.Machine

/-! ## Agreement of runs (R509, Table 13.2) -/

/-- The items a run of a step compares, or produces: two offsets and gains; 64 segments and 32 taps; three codes and the
rejection. -/
def runItems (step : Nat) : Nat := if step = 2 then 96 else 4

/-- Item i of two runs of a step lies within the tolerance of Table 13.2. -/
def itemAgrees (step i : Nat) (x y : Int) : Bool :=
  let d := (x - y).natAbs
  if step = 2 then decide (d ≤ if i < 64 then 16 else 32)
  else if step = 3 then decide (d ≤ if i < 3 then 1 else 5)
  else if i = 0 ∨ i = 2 then decide (d ≤ 64)
  else decide (d * 2000 ≤ x.natAbs)

/-- Two runs of a step agree: every item does. -/
def runsAgree (step : Nat) (a b : CalRun) : Bool :=
  (List.range (runItems step)).all fun i => itemAgrees step i (a.item i) (b.item i)

/-- The result of an agreeing pair: the mean of each item, or of a hybrid pair the run with the higher rejection. -/
def pairResult (step : Nat) (a b : CalRun) : CalRun :=
  if step = 3 then (if a.item 3 < b.item 3 then b else a)
  else ⟨(List.range (runItems step)).map fun i => roundDiv (a.item i + b.item i) 2⟩

/-- What the runs of a measurement give: the agreed result, `none` when it is suspect. -/
inductive RunVerdict where
  | more
  | agreed (r : CalRun)
  | suspect

/-- Agreement over two or three runs (R509). -/
def verdict (step : Nat) : List CalRun → RunVerdict
  | [a, b] => if runsAgree step a b then .agreed (pairResult step a b) else .more
  | [a, b, c] => if runsAgree step a c then .agreed (pairResult step a c)
    else if runsAgree step b c then .agreed (pairResult step b c) else .suspect
  | _ => .more

/-! ## Values (R506, R510, R517) -/

/-- Sources of R163. -/
def calDefault : Int := 0
def calMeasured : Int := 1
def calHost : Int := 2

/-- A step's bit of LP_CAL /02. -/
def State.suspectBit (s : State) (p : Port) (step : Nat) (b : Bool) : State :=
  s.wr Reg.LP_CAL_suspect p 0 (setBit (s.rdN Reg.LP_CAL_suspect p) (step - 1) b : Nat)

/-- I16 values, each most significant byte first. -/
def words16 (l : List Int) : Bytes := l.flatMap fun x => beInt 2 x

/-- Taps that calibration gives the sweep path: no committed change, so the last stays valid (R293). -/
def State.setFfe (s : State) (p : Port) (taps : Bytes) (source : Int) : State :=
  let held := s.lastKeyHeld p
  let s := ((s.wrB Reg.LP_SWEEP_FFE_taps p 0 taps).wr Reg.LP_SWEEP_FFE_stamp p 0 s.now).wr Reg.LP_CAL_FFE_source p 0 source
  s.setSound p fun q => { q with lastKey := some (held.1, held.2.1, held.2.2.1, held.2.2.2.1, taps) }

/-- The values a step measured come into force, with source MEASURED, at the instant of R517. -/
def State.putMeasured (s : State) (p : Port) (step : Nat) (r : CalRun) : State :=
  let s := s.setCal p fun q => { q with waiting := true }
  if step = 1 ∨ step = 5 then
    let s := (s.wr Reg.LP_CAL_CONV_ADC_offset p 0 (r.item 0)).wr Reg.LP_CAL_CONV_ADC_gain p 0 (r.item 1)
    ((s.wr Reg.LP_CAL_CONV_DAC_offset p 0 (r.item 2)).wr Reg.LP_CAL_CONV_DAC_gain p 0 (r.item 3)).wr
      Reg.LP_CAL_converter_source p 0 calMeasured
  else if step = 2 then
    let s := s.wrB Reg.LP_CAL_CONV_DAC_linearity p 0 (words16 (r.items.take 64))
    (s.wr Reg.LP_CAL_linearity_source p 0 calMeasured).setFfe p (words16 ((r.items.drop 64).take 32)) calMeasured
  else
    let code (i : Nat) : Int := r.item i % 256
    ((s.wr Reg.LP_HYBRID_setting p 0 (code 0 * 65536 + code 1 * 256 + code 2)).wr Reg.LP_HYBRID_rejection p 0 (r.item 3)).wr
      Reg.LP_HYBRID_source p 0 calMeasured

/-- CAL_STEP_SUSPECT (R510): each value of the step that the host restored stays, every other takes its default. -/
def State.putDefaults (s : State) (p : Port) (step : Nat) : State :=
  let s := s.setCal p fun q => { q with waiting := true }
  if step = 1 then
    if s.rd Reg.LP_CAL_converter_source p = calHost then s
    else ([Reg.LP_CAL_CONV_ADC_offset, Reg.LP_CAL_CONV_ADC_gain, Reg.LP_CAL_CONV_DAC_offset, Reg.LP_CAL_CONV_DAC_gain].foldl
      (fun s o => s.wr o p 0 (o.dfltAt 0)) s).wr Reg.LP_CAL_converter_source p 0 calDefault
  else if step = 2 then
    let s := if s.rd Reg.LP_CAL_linearity_source p = calHost then s
      else (s.wrB Reg.LP_CAL_CONV_DAC_linearity p 0 []).wr Reg.LP_CAL_linearity_source p 0 calDefault
    if s.rd Reg.LP_CAL_FFE_source p = calHost then s else s.setFfe p defaultFfe calDefault
  else if s.rd Reg.LP_HYBRID_source p = calHost then s
  else ((s.wr Reg.LP_HYBRID_setting p 0 (Reg.LP_HYBRID_setting.dfltAt 0)).wr Reg.LP_HYBRID_rejection p 0 0).wr
    Reg.LP_HYBRID_source p 0 calDefault

/-! ## Phases (R507, R508, R513) -/

/-- The next periodic recalibration falls due one interval from now (R515). -/
def State.armRecal (s : State) (p : Port) : State :=
  (s.setCal p fun q => { q with due := false }).arm (.recal p.val) (s.now + s.rd Reg.LP_CAL_CTL_interval p * nsPerSec)

/-- A calibration of a port has ended: LP_CAL reads DONE, and its recalibration falls due after the interval (R515). -/
def State.calEnd (s : State) (p : Port) : State :=
  let s := s.setCal p fun q => { q with step := 0, runs := [], placed := false, full := false }
  (((s.wr Reg.LP_CAL_phase p 0 5).wr Reg.LP_CAL_calibrated p 0 s.now)).armRecal p

/-- LINE_PHASE_END (R508, R513): the port leaves CAL for LISTEN. -/
def State.linePhaseEnd (s : State) (p : Port) : State := (s.calEnd p).toState p stListen 8

/-- A step of the converter phase or of CAL begins; a step 4 waits for its training to begin. -/
def State.beginStep (s : State) (p : Port) (step : Nat) : State :=
  let s := s.setCal p fun q => { q with step := step, runs := [] }
  let s := s.wr Reg.LP_CAL_phase p 0 (if step ≤ 2 then 2 else (step : Nat))
  if s.portState p = stDown then s.startRun p step else s.tryRun p

/-- The START record (Table 15.19): what reset the device, and what the start-up found. -/
def State.startRecord (s : State) : State :=
  let suspect := allPorts.any fun (p : Port) => decide (s.rdN Reg.LP_CAL_suspect p % 4 ≠ 0)
  let flags := b2n (decide (s.rd Reg.CAL_REF_REFRES_state = 2)) + 2 * b2n s.rst.patchPresent + 4 * b2n suspect
  s.issue srcSteward 0x0F01 ((s.rst.cause ++ List.replicate 8 0).take 8 ++ be 1 s.fuses.lifeCycle ++ be 1 flags
    ++ be 2 (s.rdN Reg.BOOT_STATE_ready_time) ++ be 1 s.rst.straps.role.val ++ be 1 s.rst.straps.devnum.val ++ [0, 0])

/-- BOOT_READY (R577, R578): with the DRAM wipe and the converter phase both ended, BOOT_STATE reads READY and a START record
is issued; every port's default itinerary runs, a port disabled now is no longer at start-up (R591), and the mailbox is
rebuilt (R550). -/
def State.tryReady (s : State) : State :=
  if s.rst.dramWiped ∧ s.rst.convDone ∧ s.rd Reg.BOOT_STATE_state = 3 then
    let ms : Int := (s.now - s.rst.releasedAt) / 1000000
    let s := ((s.wr Reg.BOOT_STATE_state 0 0 4).wr Reg.BOOT_STATE_ready_time 0 0 (ms % 65536)).startRecord
    let s := allPorts.foldl (fun s (p : Port) =>
      (s.setPort p fun q => { q with started := !s.flag Reg.LP_STATE_enable p }).resumeWindow p) s
    s.rebuildMailbox
  else s

/-- The converter phase of R507 has ended for a port: it ends for the device with its last port. -/
def State.converterEnd (s : State) (p : Port) : State :=
  let s := (s.setCal p fun q => { q with converterDone := true }).calEnd p
  if allPorts.all fun (p : Port) => (s.port p).cal.converterDone then
    (s.setRst fun fld => { fld with convDone := true }).tryReady
  else s

/-- A step of the power-up or CAL calibration is done, and the next begins. -/
def State.stepDone (s : State) (p : Port) (step : Nat) : State :=
  let s := s.setCal p fun q => { q with runs := [] }
  if s.portState p = stCal then s.beginStep p (step + 1)
  else if step = 1 then s.beginStep p 2
  else s.converterEnd p

/-- CONVERTER_GROUP_START (R507): the group before has ended; eight ports begin the converter phase, once REFRES has been
checked (R521). -/
def execConverterGroupStart (s : State) : Res :=
  let g := s.rst.convGroup
  guarded (s.runs ∧ s.rst.pllLocked ∧ s.rd Reg.BOOT_STATE_state = 3 ∧ g < 4 ∧ s.rd Reg.CAL_REF_REFRES_state ≠ 0
      ∧ allPorts.all fun (p : Port) => decide (8 * g ≤ p.val) || (s.port p).cal.converterDone) s <|
    let s := s.setRst fun fld => { fld with convGroup := g + 1 }
    (allPorts.filter fun (p : Port) => decide (p.val / 8 = g)).foldl (fun s p => s.beginStep p 1) s

/-- The ports of the device in the line phase. -/
def State.inLinePhase (s : State) : Nat :=
  (allPorts.filter fun (p : Port) => (s.port p).cal.placed && decide (s.portState p = stCal)).length

/-- The port that takes the next free place: the earliest entry stamp, the lower number on a tie (R508). -/
def State.nextForLine (s : State) : Option Port :=
  (allPorts.filter fun (p : Port) => decide (s.portState p = stCal) && !(s.port p).cal.placed).foldl (fun m p =>
    match m with
    | none => some p
    | some b => if (s.port p).cal.entered < (s.port b).cal.entered then some p else some b) none

/-- LINE_PHASE_START (R508): a port in CAL takes a free one of the eight places. -/
def execLinePhaseStart (p : Port) (s : State) : Res :=
  guarded (s.runs ∧ !s.stopped ∧ s.inLinePhase < 8 ∧ s.nextForLine = some p) s <|
    let s := s.setCal p fun q => { q with placed := true }
    s.beginStep p (if (s.port p).cal.full then 1 else 3)

/-! ## The end of a run -/

/-- A measurement of step 1, 2 or 3 in the converter phase or in CAL has its verdict. -/
def State.stepVerdict (s : State) (p : Port) (step : Nat) (r : Option CalRun) (runs : Nat) : State :=
  match r with
  | some r =>
    let s := (s.putMeasured p step r).suspectBit p step false
    (s.calRecord p step (if runs = 3 then 1 else 0) runs).stepDone p step
  | none =>
    let s := ((s.putDefaults p step).suspectBit p step true).raiseLine p 0x08 step
    (s.calRecord p step 2 runs).stepDone p step

/-- Step 3 in service has its verdict (R511, R512): after three postponements attempts go on until runs agree. -/
def State.hybridVerdict (s : State) (p : Port) (r : Option CalRun) (runs : Nat) : State :=
  let s := s.setCal p fun q => { q with step := 0, runs := [], requested := false, wantHybrid := q.wantHybrid && r.isNone }
  match r with
  | some r => ((s.putMeasured p 3 r).suspectBit p 3 false).calRecord p 3 (if runs = 3 then 1 else 0) runs
  | none => (s.suspectBit p 3 true).calRecord p 3 2 runs

/-- A periodic recalibration has its verdict (R515, R516). -/
def State.periodicVerdict (s : State) (p : Port) (r : Option CalRun) (runs : Nat) : State :=
  let s := (s.setCal p fun q => { q with step := 0, runs := [] }).armRecal p
  match r with
  | some r =>
    let s := ((s.putMeasured p 5 r).suspectBit p 5 false).inc Reg.LP_CAL_PERIODIC p
    (s.wr Reg.LP_CAL_periodic_stamp p 0 s.now).calRecord p 5 (if runs = 3 then 1 else 0) runs
  | none => ((s.suspectBit p 5 true).raiseLine p 0x08 5).calRecord p 5 2 runs

/-- The measurement of the step in progress has its verdict. -/
def State.calVerdict (s : State) (p : Port) (step : Nat) (r : Option CalRun) (runs : Nat) : State :=
  if step = 5 then s.periodicVerdict p r runs
  else if s.portState p = stCal ∨ s.portState p = stDown then s.stepVerdict p step r runs
  else s.hybridVerdict p r runs

/-- The next run of a measurement begins, where it may. -/
def State.nextRun (s : State) (p : Port) (step : Nat) : State :=
  if s.portState p = stDown then s.startRun p step else s.tryRun p

/-- CAL_RUN_END (R506, R509, R521): a run has ended. Without an accepted REFRES step 1 is suspect after its two runs. -/
def execCalRunEnd (p : Port) (run : CalRun) (s : State) : Res :=
  let q := (s.port p).cal
  let step := q.step
  guarded (s.runs ∧ q.runBusy ∧ q.runEnd ≤ s.now ∧ run.items.length = runItems step) s <|
    let runs := q.runs ++ [run]
    let s := s.setCal p fun q => { q with runs := runs, runBusy := false, toMove := true }
    if step = 1 ∧ runs.length = 2 ∧ s.rd Reg.CAL_REF_REFRES_state = 2 then s.calVerdict p step none 2
    else match verdict step runs with
      | .agreed r => s.calVerdict p step (some r) runs.length
      | .suspect => s.calVerdict p step none runs.length
      | .more => (if runs.length = 2 then s.inc Reg.LP_CAL_THIRD_RUNS p else s).nextRun p step

/-! ## Lines that are not quiet (R511, R512) -/

/-- HYBRID_DEFAULTED (R512): three postponements in CAL; the setting stays at its default, step 4 follows, and attempts go
on in service. -/
def State.hybridDefaulted (s : State) (p : Port) : State :=
  let s := s.setCal p fun q => { q with waiting := true, wantHybrid := true }
  let s := ((s.wr Reg.LP_HYBRID_setting p 0 (Reg.LP_HYBRID_setting.dfltAt 0)).wr Reg.LP_HYBRID_rejection p 0 0).wr
    Reg.LP_HYBRID_source p 0 calDefault
  (s.calRecord p 3 5 0).stepDone p 3

/-- HYBRID_RUN_NOT_QUIET (R511, R512): a sync, or energy above LP_CAL_CTL /04 in a gap, during a run of step 3: the attempt
is discarded and the postponement counted. -/
def execHybridRunNotQuiet (p : Port) (level : Option Int) (s : State) : Res :=
  let q := (s.port p).cal
  guarded (s.runs ∧ q.runBusy ∧ q.step = 3 ∧ (level.all fun v => decide (s.rd Reg.LP_CAL_CTL_quiet_level p < v))) s <|
    let runs := q.runs.length + 1
    let cal := decide (s.portState p = stCal)
    let s := s.setCal p fun q => { q with runs := [], runBusy := false, step := if cal then 3 else 0 }
    let n := min 255 (s.rd Reg.LP_CAL_postponements p + 1)
    let s := ((s.wr Reg.LP_CAL_postponements p 0 n).inc Reg.LP_CAL_POSTPONED p).calRecord p 3 3 runs
    if cal ∧ 3 ≤ n then s.hybridDefaulted p else s

/-- HYBRID_CAL_REQUEST (R511): LP_CAL_CTL /03 = 1 is in force: step 3 is wanted in the next eligible QUIET window; the object
is cleared when the attempt begins. -/
def execHybridCalRequest (p : Port) (s : State) : Res :=
  guarded (s.runs ∧ s.rd Reg.LP_CAL_CTL_request p = 1 ∧ !(s.port p).cal.requested) s
    (s.setCal p fun q => { q with requested := true })

/-! ## Periodic recalibration (R515) -/

/-- PERIODIC_RECAL_DUE (R515): the interval has passed. -/
def execPeriodicRecalDue (p : Port) (s : State) : Res :=
  guarded (s.runs ∧ s.reached (.recal p.val) ∧ !(s.port p).cal.due) s <|
    (s.setCal p fun q => { q with due := true, dueAt := s.now }).arm (.recal p.val)
      (s.now + s.rd Reg.LP_CAL_CTL_interval p * nsPerSec)

/-- PERIODIC_OVERDUE (R515): a due recalibration has waited for a further full interval. -/
def execPeriodicOverdue (p : Port) (s : State) : Res :=
  guarded (s.runs ∧ s.reached (.recal p.val) ∧ (s.port p).cal.due) s <|
    (s.inc Reg.LP_CAL_OVERDUE p).arm (.recal p.val) (s.now + s.rd Reg.LP_CAL_CTL_interval p * nsPerSec)

/-! ## Restored values (R517, R518) -/

/-- The step that measures the values a bit of `CalState.restored` stands for is in progress. -/
def State.restoreHits (s : State) (p : Port) (bits : Nat) : Bool :=
  let step := (s.port p).cal.step
  (bit bits 0 && (step == 1 || step == 5)) || ((bit bits 1 || bit bits 4) && step == 2) || (bit bits 2 && step == 3)

/-- The step in progress is abandoned and counts as done (R518). -/
def State.abandonStep (s : State) (p : Port) : State :=
  let q := (s.port p).cal
  let runs := q.runs.length + b2n q.runBusy
  let s := (s.setCal p fun q => { q with runs := [], runBusy := false }).calRecord p q.step 4 runs
  if q.step = 5 then (s.setCal p fun q => { q with step := 0 }).armRecal p
  else if s.portState p = stCal ∨ s.portState p = stDown then s.stepDone p q.step
  else s.setCal p fun q => { q with step := 0, requested := false, wantHybrid := false }

/-- The pre-distorter leaves TRAINING (R99): its time limit ends, and blocks from now on may be admitted (R170). -/
def State.dpdEnd (s : State) (p : Port) : State :=
  (s.disarm (.dpd p.val)).setPort p fun q => { q with dpd := { q.dpd with endedAt := s.time.mono } }

/-- Training of the pre-distorter is abandoned by restored coefficients, which are FROZEN (R518). -/
def State.abandonTraining (s : State) (p : Port) : State :=
  let training := s.dpdTrains p
  let s := ((s.wr Reg.LP_DPD_state p 0 dpdFrozen).wr Reg.LP_DPD_train p 0 0).disarm (.dpd p.val)
  if training then
    let s := ((s.dpdEnd p).computeLevel p).calRecord p 4 4 0
    if s.portState p = stCal ∧ (s.port p).cal.step = 4 then s.linePhaseEnd p else s
  else s

/-- CAL_RESTORE (R204, R518): values the host restored have HOST as their source; a measurement of the same values is
abandoned; with restored coefficients of the pre-distorter the canceller trains again. -/
def execCalRestore (p : Port) (s : State) : Res :=
  let bits := (s.port p).cal.restored
  guarded (s.runs ∧ bits ≠ 0) s <|
    let s := s.setCal p fun q => { q with restored := 0, waiting := true }
    let s := [(0, Reg.LP_CAL_converter_source), (1, Reg.LP_CAL_linearity_source), (2, Reg.LP_HYBRID_source),
      (4, Reg.LP_CAL_FFE_source)].foldl (fun s x => if bit bits x.1 then s.wr x.2 p 0 calHost else s) s
    let s := if s.restoreHits p bits then s.abandonStep p else s
    if bit bits 3 then (s.abandonTraining p).ecTrain p else s

/-- The port is inside no symbol, sync run or header block that it transmits or holds, nor inside a sweep period (R517). -/
def State.between (s : State) (p : Port) : Bool :=
  let q := s.port p
  s.symbolBoundary p && q.held.isNone && (q.sound.band.isNone || q.sound.setup || decide (q.sound.stepEnd ≤ s.now))

/-- CORRECTION_EFFECT (R517, R162): what waits takes effect; with a new hybrid setting the canceller trains again. Until
then the values in force, which reads and LP_CAL_CRC show (R429, R519), are those of before. -/
def execCorrectionEffect (p : Port) (s : State) : Res :=
  guarded (s.runs ∧ (s.port p).cal.waiting ∧ s.between p) s <|
    let s := s.setCal p fun q => { q with waiting := false, inForce := some (s.calValues p) }
    let v := s.rd Reg.LP_HYBRID_setting p
    if v = (s.port p).hybrid then s else (s.setPort p fun q => { q with hybrid := v }).ecTrain p

/-! ## References (R520 to R522) -/

/-- REFRES_CHECK (R521): REFRES is measured; the state and its changes are reported, and the next check follows in 15 min. -/
def execRefresCheck (mohm : Nat) (s : State) : Res :=
  guarded (s.runs ∧ 2 ≤ s.rd Reg.BOOT_STATE_state ∧ s.due .refres) s <|
    let new : Int := if 1960000 ≤ mohm ∧ mohm ≤ 2040000 then 1 else 2
    let changed := decide (s.rd Reg.CAL_REF_REFRES_state ≠ new)
    let s := ((s.wr Reg.CAL_REF_REFRES_state 0 0 new).wr Reg.CAL_REF_REFRES_value 0 0 mohm).wr Reg.CAL_REF_REFRES_stamp 0 0 s.now
    let s := if changed then
        s.issue srcSteward 0x0D01 ([0xFF, 0] ++ be 1 (if new = 1 then 6 else 2) ++ [0, 0, 0, 0, 0]) else s
    s.arm .refres (s.now + 900000000000)

/-- REFCLK_CHECK (R522, R570, R577): REFCLK is measured. Refused, it is checked again in 1 s. Accepted at start-up, the PLLs
lock, REFCLK is selected, and the DRAM wipe, the converter phase and the Porfani ports begin. -/
def execRefclkCheck (hz : Nat) (s : State) : Res :=
  guarded (s.runs ∧ 2 ≤ s.rd Reg.BOOT_STATE_state ∧ (s.due .refclk ∨ s.refclkAsked)) s <|
    let fine := decide (24500000 ≤ hz ∧ hz ≤ 25500000)
    let s := ((s.wr Reg.CAL_REF_REFCLK_state 0 0 (if fine then 1 else 2)).wr Reg.CAL_REF_REFCLK_value 0 0 hz).wr
      Reg.CAL_REF_REFCLK_stamp 0 0 s.now
    if !fine then s.arm .refclk (s.now + nsPerSec)
    else
      let s := s.disarm .refclk
      if s.rd Reg.BOOT_STATE_state ≠ 2 then s
      else
        let s := s.setRst fun fld => { fld with pllLocked := true }
        let s := ((s.wr Reg.BOOT_STATE_state 0 0 3).wr Reg.CLOCK_SELECT_request 0 0 1).wr Reg.CLOCK_SELECT_in_force 0 0 1
        let s := s.pfReset .up
        if s.downUsed then s.pfReset .down else s.pfTo .down pfOff 0

/-! ## Pre-distortion training (R95 to R99, R513) -/

/-- The port's step 4 in CAL. -/
def State.inStep4 (s : State) (p : Port) : Bool := decide (s.portState p = stCal ∧ (s.port p).cal.step = 4)

/-- DPD_TRAINING_START (R95): training is asked for, follows a cleared fence, or is step 4 of a calibration. -/
def execDpdTrainingStart (p : Port) (s : State) : Res :=
  guarded (s.runs ∧ !s.dpdTrains p ∧ (s.flag Reg.LP_DPD_train p ∨ (s.port p).dpd.lineDriverCleared ∨ s.inStep4 p)) s
    (s.dpdStart p)

/-- How long the port has transmitted in TRAINING (R97, R99): what is still to come of a transmission does not count yet. -/
def State.dpdTime (s : State) (p : Port) : Stamp := (s.port p).dpd.txTime - max 0 ((s.port p).dpd.counted - s.now)

/-- DPD_TRAINING_END (R99, R204, R513): 80 ms of transmit time: the coefficients are frozen and stamped, the request cleared,
the margin normal again, and the canceller trains again; in CAL the line phase ends. -/
def execDpdTrainingEnd (p : Port) (coefs : Bytes) (residual : Int) (s : State) : Res :=
  guarded (s.runs ∧ s.dpdTrains p ∧ 80000000 ≤ s.dpdTime p ∧ coefs.length = 80) s <|
    let s := (s.wr Reg.LP_DPD_state p 0 dpdFrozen).wrB Reg.LP_DPD_coefficients p 0 coefs
    let s := ((s.wr Reg.LP_DPD_stamp p 0 s.now).wr Reg.LP_DPD_residual p 0 residual).wr Reg.LP_DPD_train p 0 0
    let s := (s.setCal p fun q => { q with waiting := true }).computeLevel p
    let s := ((s.dpdEnd p).suspectBit p 4 false).ecTrain p
    if s.inStep4 p then (s.calRecord p 4 0 0).linePhaseEnd p else s

/-- DPD_TIMEOUT (R99, R513): 10 s without 80 ms of transmit time: the state of before, the coefficients in force, a NOTICE;
in CAL step 4 is marked suspect and the line phase ends. -/
def execDpdTimeout (p : Port) (s : State) : Res :=
  guarded (s.runs ∧ s.dpdTrains p ∧ s.passed (.dpd p.val) ∧ s.dpdTime p < 80000000) s <|
    let s := (s.wr Reg.LP_DPD_state p 0 (s.port p).dpd.before).wr Reg.LP_DPD_train p 0 0
    let s := ((s.dpdEnd p).computeLevel p).raiseLine p 0x03 0
    if s.inStep4 p then ((s.suspectBit p 4 true).calRecord p 4 2 0).linePhaseEnd p else s

end Sys2Proof.Machine
end

