-- ==== Sys2Proof/Machine/Metering.lean ====
section
/-! DEFINITION. The standards behind the hamper's measurements (R533, R534): the resistance of IEC 60751 thermometers and
the heat coefficient of EN 1434-1 for water. PRESUMED (log entry 218): the spec names the standards; their equations and
constants are theirs. -/

namespace Sys2Proof.Machine

/-! ## RTD channels (R531, R533, Table 13.4) -/

/-- The resistance of an RTD of a type at t °C, in Ω (IEC 60751): 100, 500 or 1,000 Ω at 0 °C. -/
def iecResistance (type : Nat) (t : Rat) : Rat :=
  let r0 : Rat := if type = 0 then 100 else if type = 1 then 500 else 1000
  let quartic : Rat := if t < 0 then -4183 / 1000000000000000 * (t - 100) * t * t * t else 0
  r0 * (1 + 39083 / 10000000 * t - 5775 / 10000000000 * t * t + quartic)

/-- The corrected resistance of a channel in Ω: the ratio measured in units of 2⁻³⁰, times HMP_HREF with its deviation in
µΩ, the gain correction in 2⁻²⁰ and then the offset correction in 0.1 mΩ (Table 13.4). -/
def rtdResistance (raw : Nat) (deviation gain offset : Int) : Rat :=
  (raw : Rat) / 1073741824 * (1000 + (deviation : Rat) / 1000000) * (1 + (gain : Rat) / 1048576) + (offset : Rat) / 10000

/-! ## Heat (R534) -/

/-- A term of the free energy of water: exponents, and a coefficient n · 10⁻ᵉ. -/
structure GibbsTerm where
  i : Nat
  j : Int
  n : Int
  e : Nat
  deriving DecidableEq, Repr

/-- The first half of the terms of region 1. -/
def gibbsLow : List GibbsTerm :=
  [⟨0, -2, 14632971213167, 14⟩, ⟨0, -1, -84548187169114, 14⟩, ⟨0, 0, -37563603672040, 13⟩, ⟨0, 1, 33855169168385, 13⟩,
   ⟨0, 2, -95791963387872, 14⟩, ⟨0, 3, 15772038513228, 14⟩, ⟨0, 4, -16616417199501, 15⟩, ⟨0, 5, 81214629983568, 17⟩,
   ⟨1, -9, 28319080123804, 17⟩, ⟨1, -7, -60706301565874, 17⟩, ⟨1, -1, -18990068218419, 15⟩, ⟨1, 0, -32529748770505, 15⟩,
   ⟨1, 1, -21841717175414, 15⟩, ⟨1, 3, -52838357969930, 18⟩, ⟨2, -3, -47184321073267, 17⟩, ⟨2, 0, -30001780793026, 17⟩,
   ⟨2, 1, 47661393906987, 18⟩]

/-- The second half. -/
def gibbsHigh : List GibbsTerm :=
  [⟨2, 3, -44141845330846, 19⟩, ⟨2, 17, -72694996297594, 29⟩, ⟨3, -4, -31679644845054, 18⟩, ⟨3, 0, -28270797985312, 19⟩,
   ⟨3, 6, -85205128120103, 23⟩, ⟨4, -5, -22425281908000, 19⟩, ⟨4, -2, -65171222895601, 20⟩, ⟨4, 10, -14341729937924, 26⟩,
   ⟨5, -8, -40516996860117, 20⟩, ⟨8, -11, -12734301741641, 22⟩, ⟨8, -6, -17424871230634, 23⟩, ⟨21, -29, -68762131295531, 32⟩,
   ⟨23, -31, 14478307828521, 33⟩, ⟨29, -38, 26335781662795, 36⟩, ⟨30, -39, -11947622640071, 36⟩, ⟨31, -40, 18228094581404, 37⟩,
   ⟨32, -41, -93537087292458, 39⟩]

/-- x to an integer power. -/
def ratPow (x : Rat) (k : Int) : Rat := if 0 ≤ k then x ^ k.toNat else 1 / x ^ k.natAbs

/-- The specific gas constant of water, kJ/(kg K). -/
def gasConstant : Rat := 461526 / 1000000

/-- The absolute temperature of θ m°C, K. -/
def kelvin (θ : Int) : Rat := (θ : Rat) / 1000 + 27315 / 100

/-- π of 1.6 MPa, the pressure EN 1434-1 computes at. -/
def waterPi : Rat := 160 / 1653

/-- The coefficient of a term. -/
def GibbsTerm.value (g : GibbsTerm) : Rat := (g.n : Rat) / 10 ^ g.e

/-- The specific volume of water at θ m°C, m³/kg. -/
def waterVolume (θ : Int) : Rat :=
  let tau := 1386 / kelvin θ
  let slope := ((gibbsLow ++ gibbsHigh).map fun g =>
    if g.i = 0 then 0 else -g.value * g.i * (71 / 10 - waterPi) ^ (g.i - 1) * ratPow (tau - 1222 / 1000) g.j).sum
  waterPi * slope * gasConstant * kelvin θ / 1600

/-- The specific enthalpy of water at θ m°C, kJ/kg. -/
def waterEnthalpy (θ : Int) : Rat :=
  let tau := 1386 / kelvin θ
  let slope := ((gibbsLow ++ gibbsHigh).map fun g =>
    g.value * (71 / 10 - waterPi) ^ g.i * g.j * ratPow (tau - 1222 / 1000) (g.j - 1)).sum
  tau * slope * gasConstant * kelvin θ

/-- k of R534 in kJ/(m³ K): flow and return temperature in m°C, POSITION of the flow meter. -/
def heatCoefficient (θf θr : Int) (position : Nat) : Rat :=
  (waterEnthalpy θf - waterEnthalpy θr) / (waterVolume (if position = 0 then θf else θr) * (((θf - θr : Int) : Rat) / 1000))

/-- ΔE of R534 in mWh, exactly: ΔV in µL. -/
def exactHeat (volume : Nat) (θf θr : Int) (position : Nat) : Rat :=
  if θf = θr then 0
  else (volume : Rat) / 1000000000 * heatCoefficient θf θr position * (((θf - θr : Int) : Rat) / 1000) * 2500 / 9

end Sys2Proof.Machine
end

