-- ==== Sys2Proof/Machine/Hamper.lean ====
section
/-! DEFINITION. The hamper die (chapter 14): samples and billing, the legal clock and time offers, the event log, seal,
tamper and ROM, fuse sets, signed snapshots, the answers to requests and to its local port. -/

namespace Sys2Proof.Machine

/-! ## Parts of the hamper -/

/-- Element p of a pair kept for the two paths. -/
def ofPath {α : Type} (x : α × α) (p : Nat) : α := if p = 0 then x.1 else x.2

/-- Changes element p of a pair. -/
def setPath {α : Type} (x : α × α) (p : Nat) (v : α) : α × α := if p = 0 then (v, x.2) else (x.1, v)

/-- Fields of the configuration record (Table 14.2). -/
def Hamper.rtdType (h : Hamper) (ch : Nat) : Nat := uAt h.config ch 1
def Hamper.cooling (h : Hamper) (p : Nat) : Bool := uAt h.config (4 + 8 * p) 1 == 1
def Hamper.position (h : Hamper) (p : Nat) : Nat := uAt h.config (5 + 8 * p) 1
def Hamper.reed (h : Hamper) (p : Nat) : Bool := uAt h.config (6 + 8 * p) 1 == 1
def Hamper.pulseValue (h : Hamper) (p : Nat) : Nat := uAt h.config (8 + 8 * p) 4
def Hamper.legalOffset (h : Hamper) : Int := sAt h.config 20 4
def Hamper.periodDay (h : Hamper) : Nat := uAt h.config 24 1

/-- A configuration record with its reserved bytes 0 (R6). -/
def cleanConfig (b : Bytes) : Bytes := patch (patch (patch b 7 [0]) 15 [0]) 25 (List.replicate 7 0)

/-- A configuration record holds no reserved code and no value out of its range (Table 14.2). -/
def configOk (b : Bytes) : Bool :=
  let off := sAt b 20 4
  b.length == 32 && (List.range 4).all (fun i => decide (uAt b i 1 ≤ 2))
    && (List.range 2).all (fun p => decide (uAt b (4 + 8 * p) 1 ≤ 1 ∧ uAt b (5 + 8 * p) 1 ≤ 1 ∧ uAt b (6 + 8 * p) 1 ≤ 1
        ∧ 1 ≤ uAt b (8 + 8 * p) 4 ∧ uAt b (8 + 8 * p) 4 ≤ 1000000000))
    && decide (-86400 ≤ off ∧ off ≤ 86400 ∧ 1 ≤ uAt b 24 1 ∧ uAt b 24 1 ≤ 28)

/-! ## Fuse sets (R523 to R525) -/

/-- A set is valid: committed, and row 7 matches rows 0 to 6. -/
def CalSet.valid (c : CalSet) : Bool := c.commit == 0xA5 && c.row7 == crc32 c.rows

/-- The first valid set from 3 down to 0; 255 for none. -/
def Hamper.chooseSet (h : Hamper) : Nat :=
  (([3, 2, 1, 0] : List Nat).find? fun i => (h.sets.getD i {}).valid).getD 255

/-- Row r of the fuse set in use; 0 with none. -/
def Hamper.row (h : Hamper) (r : Nat) : Nat :=
  if h.calSet = 255 then 0 else uAt (h.sets.getD h.calSet {}).rows (4 * r) 4

/-! ## The legal clock (R538) -/

/-- The drift of the legal clock's crystal over a span: with the trim of a fuse set in use it is within 5 ppm; the spec
states no more of it. -/
def Hamper.drift (h : Hamper) (span : Stamp) : Int :=
  let d := Config.clockDrift (signed 32 (h.row 5)) span
  if h.calSet = 255 then d else clamp (-(span * 5 / 1000000)) (span * 5 / 1000000) d

/-- The legal clock at an instant of `TimeState.mono`: what has passed since it was last set or stepped, with the drift of
the crystal. -/
def Hamper.exact (h : Hamper) (mono : Stamp) : Stamp := h.clock + (mono - h.clockAt) + h.drift (mono - h.clockAt)

/-- The legal clock as it counts: to 1 ms. -/
def Hamper.legal (h : Hamper) (mono : Stamp) : Stamp := h.exact mono - h.exact mono % 1000000

/-- Gives the legal clock a value now. -/
def Hamper.setLegal (h : Hamper) (mono : Stamp) (t : Stamp) : Hamper := { h with clock := t, clockAt := mono }

/-! ## Event log (R543) -/

/-- Logs an entry at the legal clock's present second. -/
def Hamper.logEntry (h : Hamper) (mono : Stamp) (code : Nat) (data : Int) : Hamper :=
  let seq := h.logHead + 1
  { h with logHead := seq
           log := ((seq, be 4 seq ++ beInt 6 (h.legal mono / nsPerSec) ++ be 2 code ++ beInt 4 data) :: h.log).take 4096 }

/-- Sets a status flag, and logs its change: `on` when it becomes set, `off` when it is cleared. -/
def Hamper.flag (h : Hamper) (mono : Stamp) (i : Nat) (b : Bool) (on off : Nat) (data : Int) : Hamper :=
  if bit h.flags i = b then h
  else { h with flags := setBit h.flags i b }.logEntry mono (if b then on else off) data

/-- The status flags (Table 14.7). -/
def Hamper.flagWord (h : Hamper) : Nat := setBit (setBit h.flags 6 h.tampered) 10 h.clockInvalid

/-- The entries of the ring from a SEQ on, at most count of them, those that no longer exist left out (R549). -/
def Hamper.entries (h : Hamper) (first count : Nat) : Bytes :=
  ((List.range count).filterMap fun i => (h.log.find? fun e => e.1 == first + i).map (·.2)).flatten

/-! ## Billing periods (R536) -/

/-- Month and day of a day number since 1970-01-01 in the proleptic Gregorian calendar; months are counted from March of
year 0. -/
def monthDay (days : Int) : Int × Int :=
  let z := days + 719468
  let era := z / 146097
  let doe := z % 146097
  let yoe := (doe - doe / 1460 + doe / 36524 - doe / 146096) / 365
  let doy := doe - (365 * yoe + yoe / 4 - yoe / 100)
  let mp := (5 * doy + 2) / 153
  ((yoe + era * 400) * 12 + mp, doy - (153 * mp + 2) / 5 + 1)

/-- The month whose boundary is the latest that local standard time has reached. -/
def Hamper.boundary (h : Hamper) (mono : Stamp) : Int :=
  let md := monthDay ((h.legal mono / nsPerSec - h.legalOffset) / 86400)
  if (h.periodDay : Int) ≤ md.2 then md.1 else md.1 - 1

/-- Register r of path p. -/
def Billing.reg (b : Billing) (p r : Nat) : Nat := b.registers.getD (24 * p + r) 0

/-- Writes register r of path p. -/
def Billing.setReg (b : Billing) (p r v : Nat) : Billing := { b with registers := b.registers.set (24 * p + r) v }

/-- A period closes on a path: the values at the close move on, the largest means begin anew. -/
def Billing.close (b : Billing) (p : Nat) : Billing :=
  let shift (first : Nat) (now : Nat) (b : Billing) : Billing :=
    ((List.range 7).foldl (fun b i => b.setReg p (first + 7 - i) (b.reg p (first + 6 - i))) b).setReg p first now
  let b := shift 16 (b.reg p 1) (shift 8 (b.reg p 0) b)
  ((b.setReg p 4 0).setReg p 5 0).setReg p 7 (b.reg p 7 + 1)

/-- One billing period closes. -/
def Hamper.closeOne (h : Hamper) (mono : Stamp) : Hamper :=
  let h := { h with billing := (h.billing.close 0).close 1 }
  h.logEntry mono 0x0040 (h.billing.reg 0 7)

/-- PERIOD_CLOSE (R536): each boundary that local standard time has reached and that is not closed yet closes once. -/
def Hamper.closePeriods (h : Hamper) (mono : Stamp) : Hamper :=
  if !h.configured then h
  else match h.closedTo with
    | none => { h with closedTo := some (h.boundary mono) }
    | some c =>
      let n := (h.boundary mono - c).toNat
      if n = 0 then h
      else { (List.range n).foldl (fun h _ => h.closeOne mono) h with closedTo := some (c + n) }

/-! ## Samples (R533, R534, R537) -/

/-- The temperature of a channel in m°C, when the channel is valid (R533). -/
def Hamper.temperature (h : Hamper) (hrefOk : Bool) (ch : Nat) (m : RtdMeas) : Option Int :=
  let row := h.row ch
  let t := Config.rtdTemperature (h.rtdType ch)
    (rtdResistance m.raw (signed 32 (h.row 4)) (signed 16 (field row 31 16)) (signed 16 (field row 15 0)))
  if hrefOk && !m.isOpen && !m.shorted && decide (-20000 ≤ t ∧ t ≤ 190000) then some t else none

/-- Energy in mWh added to the accumulators of a path: to ENERGY or ENERGY_REVERSE, by its sign and the mode (R534). -/
def Hamper.addEnergy (h : Hamper) (p : Nat) (e : Int) : Hamper :=
  let b := h.billing
  let forward := if h.cooling p then decide (e < 0) else decide (0 < e)
  let m : Int := e.natAbs
  if forward then { h with billing := { b with energy := setPath b.energy p (ofPath b.energy p + m) } }
  else { h with billing := { b with reverse := setPath b.reverse p (ofPath b.reverse p + m) } }

/-- A sample of a path (R532, R534, R535): volume, energy or error time, the largest means, the flow fault. -/
def Hamper.samplePath (h : Hamper) (mono : Stamp) (p : Nat) : Hamper :=
  let n := ofPath h.pulses p
  let h := h.flag mono (7 + p) (!h.reed p && decide (4400 < n)) 0x0034 0x0035 p
  let dv := n * h.pulseValue p
  let h := { h with billing := { h.billing with volume := setPath h.billing.volume p (ofPath h.billing.volume p + dv) } }
  let before := ofPath h.billing.energy p
  let valid := (h.temps.getD (2 * p) none).isSome && (h.temps.getD (2 * p + 1) none).isSome
  let h := match h.temps.getD (2 * p) none, h.temps.getD (2 * p + 1) none with
    | some f, some r => h.addEnergy p (Config.milliwattHours (exactHeat dv f r (h.position p)))
    | _, _ => h
  let b := h.billing
  let power := ((ofPath b.energy p - before) * 9 / 5).toNat
  let b := ((b.setReg p 0 (ofPath b.energy p / 1000).toNat).setReg p 1 (ofPath b.volume p / 1000)).setReg p 6
    (ofPath b.reverse p / 1000).toNat
  let b := (b.setReg p 2 (b.reg p 2 + 2)).setReg p 3 (b.reg p 3 + (if valid then 0 else 2))
  let b := (b.setReg p 4 (max (b.reg p 4) power)).setReg p 5 (max (b.reg p 5) (dv * 9 / 5000))
  { h with billing := b, pulses := setPath h.pulses p 0 }

/-- HAMPER_SAVE (R537): the registers and accumulators go to the next of 64 slots. -/
def Hamper.save (h : Hamper) (mono : Stamp) : Hamper :=
  let b := { h.billing with clock := h.legal mono }
  { h with billing := b, saveCount := h.saveCount + 1, saves := ((h.saveCount + 1, b) :: h.saves).take 64 }

/-- The channels and the reference of a sample (R533): temperatures, with the faults they set and clear. -/
def Hamper.measure (h : Hamper) (mono : Stamp) (m : HamperMeas) : Hamper :=
  let okRef := decide (980000 ≤ m.href ∧ m.href ≤ 1020000)
  let h := h.flag mono 4 (!okRef) 0x0032 0x0033 m.href
  let temps := [h.temperature okRef 0 m.ch0, h.temperature okRef 1 m.ch1, h.temperature okRef 2 m.ch2,
    h.temperature okRef 3 m.ch3]
  (List.range 4).foldl (fun h i => h.flag mono i (temps.getD i none).isNone 0x0030 0x0031 i) { h with temps := temps }

/-- The payload of a STATUS frame (Table 14.9). -/
def Hamper.status (h : Hamper) : Bytes :=
  timeBytes h.sampleTime ++ be 2 h.flagWord ++ be 4 h.logHead ++ be 4 h.snapCount ++ be 1 (b2n h.sealed) ++ be 1 h.calSet
    ++ be 2 h.tamperCount ++ h.temps.flatMap fun t => beInt 4 (t.getD (-2147483648))

/-- HAMPER_SAMPLE (R533 to R537, R548): each 2 s of legal time the channels are measured, the pulse counts closed, the
registers brought up to date and saved; STATUS goes out on the lane. -/
def execHamperSample (m : HamperMeas) (s : State) : Res :=
  let mono := s.time.mono
  let h := s.hamper
  guardedHamper (h.powered ∧ h.legal mono / 2000000000 ≠ h.sampleTime / 2000000000) s <|
    let h := h.measure mono m
    let h := (h.samplePath mono 0).samplePath mono 1
    let h := (h.closePeriods mono).save mono
    let h := { h with sampleTime := h.legal mono }
    (s.setHamper fun _ => h).emit (.hamperLane 0x01 h.status)

/-- FLOW_PULSE (R532): a pulse is counted. -/
def execFlowPulse (p : Path) (s : State) : Res :=
  guardedHamper s.hamper.powered s
    (s.setHamper fun h => { h with pulses := setPath h.pulses p.val (ofPath h.pulses p.val + 1) })

/-! ## Start, supply, ROM, tamper (R525, R537, R541, R545, R546, R552) -/

/-- The ROM is checked: FW_CRC, and ROM_MISMATCH when it is not the recorded value (R546). -/
def Hamper.checkRom (h : Hamper) (mono : Stamp) (rom : RomCheck) : Hamper :=
  let bad := decide (rom.recorded ≠ rom.found)
  let h := { h with romCrc := rom.found, romAt := mono, flags := setBit h.flags 11 bad }
  if bad then h.logEntry mono 0x0050 rom.found else h

/-- HAMPER_START (R525, R537, R541, R546, R521): VHMP is in its range: the hamper chooses its fuse set, resumes the save with
the highest counter, restarts the legal clock from it with CLOCK_INVALID, and checks its reference and its ROM. -/
def execHamperStart (href : Nat) (rom : RomCheck) (s : State) : Res :=
  let mono := s.time.mono
  guardedHamper (!s.hamper.powered) s <|
    s.setHamper fun h =>
      let last : Option (Nat × Billing) := h.saves.head?
      let b : Billing := (last.map fun (e : Nat × Billing) => e.2).getD {}
      let set := h.chooseSet
      let flags := setBit (setBit 0 5 (set == 255)) 9 last.isNone
      let h := { h with
        powered := true, calSet := set, flags := flags, billing := b
        saveCount := (last.map fun (e : Nat × Billing) => e.1).getD 0
        clock := b.clock, clockAt := mono, clockInvalid := true, pulses := (0, 0), sampleTime := b.clock
        temps := [none, none, none, none] }
      let h := h.logEntry mono 0x0001 h.saveCount
      (h.flag mono 4 (!decide (980000 ≤ href ∧ href ≤ 1020000)) 0x0032 0x0033 href).checkRom mono rom

/-- VHMP_LOSS (R537, R541): the hamper stops; what it has not saved is lost. -/
def execVhmpLoss (s : State) : Res :=
  guardedHamper s.hamper.powered s (s.setHamper fun h => { h with powered := false, pulses := (0, 0) })

/-- ROM_CHECK (R546): every 24 h. -/
def execRomCheck (rom : RomCheck) (s : State) : Res :=
  guardedHamper (s.hamper.powered ∧ s.hamper.romAt + 86400000000000 ≤ s.time.mono) s
    (s.setHamper fun h => h.checkRom s.time.mono rom)

/-- TAMPER (R545): HMP_TAMPER_N has been low for 20 ms. -/
def execTamper (s : State) : Res :=
  guardedHamper (s.hamper.powered ∧ !s.hamper.tampered) s <|
    s.setHamper fun h =>
      let n := (h.tamperCount + 1) % 65536
      { h with tamperCount := n, tampered := true }.logEntry s.time.mono 0x0010 n

/-- TAMPER_END (R545): HMP_TAMPER_N has been high for 20 ms. -/
def execTamperEnd (s : State) : Res :=
  guardedHamper (s.hamper.powered ∧ s.hamper.tampered) s <|
    s.setHamper fun h => { h with tampered := false }.logEntry s.time.mono 0x0011 h.tamperCount

/-! ## Snapshots and time offers (R539 to R541, R547) -/

/-- Forms a snapshot with a nonce (Table 14.6). -/
def Hamper.snapshot (h : Hamper) (nonce : Bytes) : Bytes × Hamper :=
  let h := { h with snapCount := (h.snapCount + 1) % 4294967296 }
  let b := be 8 h.id ++ be 4 h.romCrc ++ be 1 (b2n h.sealed) ++ be 1 h.calSet ++ be 2 h.flagWord ++ be 4 h.snapCount
    ++ timeBytes h.sampleTime ++ (nonce ++ List.replicate 8 0).take 8 ++ [0, 0] ++ h.billing.registers.flatMap fun r => be 8 r
  (b ++ hmacSha256 Config.snapshotKey b, h)

/-- u: the sum of |o| over the steps applied in the 24 h up to c (R540), ns. -/
def Hamper.used (h : Hamper) (c : Stamp) : Nat :=
  ((h.steps.filter fun x => decide (c - 86400000000000 < x.1 ∧ x.1 ≤ c)).map fun x => x.2.natAbs).sum

/-- I32 within its limits. -/
def i32 (v : Int) : Int := clamp (-2147483647) 2147483647 v

/-- A time offer of t is decided (R539 to R541): its RESULT, the offset o in ns, and the hamper after it. -/
def Hamper.offer (h : Hamper) (mono : Stamp) (t : Stamp) : Nat × Int × Hamper :=
  let c := h.legal mono
  let o := t - c
  let ms := roundDiv o 1000000
  let stepped := h.setLegal mono (h.exact mono + o)
  if !h.sealed then (4, o, h)
  else if h.clockInvalid then
    let h := { stepped with clockInvalid := false, steps := [] }
    (3, o, (h.logEntry mono 0x0022 (i32 (roundDiv o 1000000000))).closePeriods mono)
  else if o.natAbs < 10000000 then (0, o, h)
  else if h.used c + o.natAbs ≤ 2000000000 then
    let h := { stepped with steps := (c, o) :: h.steps.filter fun x => decide (c - 172800000000000 < x.1) }
    (1, o, (h.logEntry mono 0x0020 ms).closePeriods mono)
  else (2, o, h.logEntry mono 0x0021 (i32 ms))

/-- The payload of a TIME_RESULT (Table 14.9). -/
def timeResult (result : Nat) (o : Int) : Bytes := be 1 result ++ [0, 0, 0] ++ beInt 4 (i32 (roundDiv o 1000000))

/-! ## Requests from the digital die (R529, R548, R549) -/

/-- The payload of a lane frame or request of a type, when LENGTH and CRC-32 hold (R548). -/
def framePayload (frame : Bytes) (type : Nat) : Option Bytes :=
  let n := frame.length - 8
  if 8 ≤ frame.length ∧ uAt frame 0 1 = type ∧ uAt frame 2 2 = n ∧ crc32 (frame.take (n + 4)) = uAt frame (n + 4) 4 then
    some (slice frame 4 n)
  else none

/-- READ_REGISTERS (R529, R547, R549): a snapshot with the request's nonce goes out on the lane. -/
def execReadRegisters (frame : Bytes) (s : State) : Res :=
  match framePayload frame 0x81 with
  | none => ok s
  | some b =>
    guardedHamper (s.hamper.powered ∧ b.length = 8) s <|
      let (snap, h) := s.hamper.snapshot b
      (s.setHamper fun _ => h).emit (.hamperLane 0x02 snap)

/-- READ_LOG (R529, R543, R549): up to 16 entries go out on the lane. -/
def execReadLog (frame : Bytes) (s : State) : Res :=
  match framePayload frame 0x82 with
  | none => ok s
  | some b =>
    guardedHamper (s.hamper.powered ∧ b.length = 5 ∧ 1 ≤ uAt b 4 1 ∧ uAt b 4 1 ≤ 16) s
      (s.emit (.hamperLane 0x03 (s.hamper.entries (uAt b 0 4) (uAt b 4 1))))

/-- TIME_OFFER (R529, R539 to R541): the offer is decided, and TIME_RESULT goes out on the lane. -/
def execTimeOffer (frame : Bytes) (s : State) : Res :=
  match framePayload frame 0x83 with
  | none => ok s
  | some b =>
    guardedHamper (s.hamper.powered ∧ b.length = 10 ∧ (ofTime80 b).isSome) s <|
      let r := s.hamper.offer s.time.mono (stampOf b)
      (s.setHamper fun _ => { r.2.2 with offeredAt := some (s.time.mono / 1000000) }).emit (.hamperLane 0x04 (timeResult r.1 r.2.1))

/-! ## The local port (R551, Table 14.8) -/

/-- Status codes of the local port. -/
def lpOk : Nat := 0
def lpSealed : Nat := 1
def lpFormat : Nat := 2
def lpNoSet : Nat := 3
def lpReadback : Nat := 4
def lpNotReady : Nat := 5

/-- The payload of a local-port frame of a command, when SYNC and CRC-32 hold: LENGTH that is not that of the payload is the
frame's form, left to the command. -/
def localPayload (frame : Bytes) (cmd : Nat) : Option Bytes :=
  let n := frame.length - 10
  if 10 ≤ frame.length ∧ uAt frame 0 2 = 0x7E81 ∧ uAt frame 2 1 = cmd
      ∧ crc32 (slice frame 2 (n + 4)) = uAt frame (n + 6) 4 then
    some (if uAt frame 4 2 = n then slice frame 6 n else slice frame 6 n ++ [0xFF])
  else none

/-- A command of the local port: what the hamper answers and becomes. -/
def State.localCommand (s : State) (frame : Bytes) (cmd : Nat) (f : Bytes → Hamper → Nat × Bytes × Hamper) : Res :=
  match localPayload frame cmd with
  | none => ok s
  | some b =>
    guardedHamper s.hamper.powered s <|
      let r := f b s.hamper
      (s.setHamper fun _ => r.2.2).emit (.localPort (cmd + 0x80) r.1 r.2.1)

/-- A command that only an UNSEALED hamper takes. -/
def unsealedOnly (f : Bytes → Hamper → Nat × Bytes × Hamper) (b : Bytes) (h : Hamper) : Nat × Bytes × Hamper :=
  if h.sealed then (lpSealed, [], h) else f b h

/-- LOCAL_READ_ID (R551). -/
def execLocalReadId (frame : Bytes) (s : State) : Res :=
  s.localCommand frame 0x01 fun b h =>
    if b ≠ [] then (lpFormat, [], h)
    else (lpOk, be 8 h.id ++ be 4 h.romCrc ++ be 1 (b2n h.sealed) ++ be 1 h.calSet ++ be 2 h.flagWord ++ h.config, h)

/-- LOCAL_READ_REGISTERS (R547, R551). -/
def execLocalReadRegisters (frame : Bytes) (s : State) : Res :=
  s.localCommand frame 0x02 fun b h =>
    if b.length ≠ 8 then (lpFormat, [], h)
    else
      let (snap, h) := h.snapshot b
      (lpOk, snap, h)

/-- LOCAL_READ_LOG (R543, R551). -/
def execLocalReadLog (frame : Bytes) (s : State) : Res :=
  s.localCommand frame 0x03 fun b h =>
    if b.length ≠ 5 ∨ uAt b 4 1 < 1 ∨ 16 < uAt b 4 1 then (lpFormat, [], h)
    else (lpOk, h.entries (uAt b 0 4) (uAt b 4 1), h)

/-- LOCAL_TIME_OFFER (R539 to R541, R551). It goes before an offer of the request channel that completes in the same
millisecond (R540), so none completes after that one within it. -/
def execLocalTimeOffer (frame : Bytes) (s : State) : Res :=
  if s.hamper.offeredAt = some (s.time.mono / 1000000) then ok s else
  s.localCommand frame 0x04 fun b h =>
    if b.length ≠ 10 ∨ (ofTime80 b).isNone then (lpFormat, [], h)
    else
      let r := h.offer s.time.mono (stampOf b)
      (lpOk, timeResult r.1 r.2.1, r.2.2)

/-- WRITE_CONFIG (R531, R551): the configuration record, while unsealed. -/
def execWriteConfig (frame : Bytes) (s : State) : Res :=
  s.localCommand frame 0x10 <| unsealedOnly fun b h =>
    if !configOk b then (lpFormat, [], h)
    else
      let h := { h with config := cleanConfig b, configured := true }
      let h := { h with closedTo := some (h.boundary s.time.mono) }
      (lpOk, [], h.logEntry s.time.mono 0x0005 (crc32 h.config))

/-- PROGRAM_CAL (R524, R525): the lowest unused set; its commit field is blown only when the rows read back as requested. -/
def execProgramCal (frame : Bytes) (readback : Bytes) (s : State) : Res :=
  s.localCommand frame 0x11 <| unsealedOnly fun b h =>
    if b.length ≠ 28 then (lpFormat, [], h)
    else match ([0, 1, 2, 3] : List Nat).find? fun i => !(h.sets.getD i {}).used with
      | none => (lpNoSet, [], h)
      | some i =>
        let fine := decide (readback = b ++ be 4 (crc32 b))
        let c : CalSet :=
          { rows := readback.take 28, row7 := uAt readback 28 4, commit := if fine then 0xA5 else 0, used := true }
        let h := { h with sets := h.sets.set i c }
        if fine then (lpOk, be 1 i, h.logEntry s.time.mono 0x0003 i)
        else (lpReadback, [], h.logEntry s.time.mono 0x0004 i)

/-- SET_CLOCK (R539, R541): the legal clock is set while unsealed; no period closes by it. -/
def execSetClock (frame : Bytes) (s : State) : Res :=
  s.localCommand frame 0x12 <| unsealedOnly fun b h =>
    if b.length ≠ 10 ∨ (ofTime80 b).isNone then (lpFormat, [], h)
    else
      let h := { h.setLegal s.time.mono (stampOf b) with clockSet := true, clockInvalid := false }
      let h := { h with closedTo := if h.configured then some (h.boundary s.time.mono) else none }
      (lpOk, [], h.logEntry s.time.mono 0x0006 (stampOf b / nsPerSec % 4294967296))

/-- SEAL (R544): the seal fuse is blown when every condition holds. -/
def execSealHamper (frame : Bytes) (s : State) : Res :=
  s.localCommand frame 0x13 <| unsealedOnly fun b h =>
    if b.length ≠ 4 then (lpFormat, [], h)
    else if (h.sets.any fun c => c.valid) && h.configured && h.clockSet && uAt b 0 4 == crc32 h.config then
      (lpOk, [], { h with sealed := true }.logEntry s.time.mono 0x0002 (crc32 h.config))
    else (lpNotReady, [], h)

end Sys2Proof.Machine
end

