-- ==== Sys2Proof/Machine/HamperIf.lean ====
section
/-! DEFINITION. The hamper interface of the digital die (R542, R548 to R550, R553, R554): what it copies from the lane, what
it requests, what it judges. -/

namespace Sys2Proof.Machine

/-- The interface receives the lane: its clock runs, no clamp holds its channel (Table 11.10), and it is neither
fenced nor gated (Table 14.10). -/
def State.hmpHears (s : State) : Bool :=
  s.queuesRun && !s.power.clamped && decide (s.rd Reg.HMP_STATUS_interface ≠ hmpFenced ∧ s.rd Reg.HMP_STATUS_interface ≠ hmpGated)

/-- The interface may send a request: none is outstanding, the steward runs, scheduling has not stopped (R549, Table
14.10). -/
def State.hmpMayRequest (s : State) : Bool := s.hmpHears && s.steward && !s.stopped && s.hmp.request == 0

/-- Sends a request; its answer is awaited for 2 s (R549). -/
def State.hmpSend (s : State) (type : Nat) (payload : Bytes) : State :=
  let s := s.setHmp fun fld => { fld with request := type }
  ((s.inc Reg.HMP_IF_REQUESTS).arm .hmpRequest (s.now + 2000000000)).emit (.hamperRequest type payload)

/-- An answer of a type ends the request it belongs to. -/
def State.hmpAnswered (s : State) (type : Nat) : State :=
  if s.hmp.request = type then (s.setHmp fun fld => { fld with request := 0 }).disarm .hmpRequest else s

/-- The next entries the device does not hold are requested (R550): oldest SEQ first, at most 16, from the ring's oldest. -/
def State.hmpNextLog (s : State) : State :=
  let head := s.rdN Reg.HMP_STATUS_log_head
  if s.hmpMayRequest ∧ s.hmp.haveTo < head then
    let first := max (s.hmp.haveTo + 1) (head - 4095)
    let count := min 16 (head + 1 - first)
    (s.setHmp fun fld => { fld with wantFrom := first, wantTo := first + count - 1 }).hmpSend 0x82 (be 4 first ++ be 1 count)
  else (s.setHmp fun fld => { fld with rebuilding := s.hmp.rebuilding && decide (s.hmp.haveTo < head) })

/-- A lane frame that fails its check is counted; more than 16 in a second are a fault (Table 12.3). -/
def State.hmpBad (s : State) : State :=
  let l := s.now :: s.faults.laneErrors.filter fun t => decide (s.now - t < nsPerSec)
  let s := s.inc Reg.HMP_IF_CRC_ERRORS
  if 16 < l.length then
    (s.setFaults fun fld => { fld with laneErrors := [] }).raise srcHamper clsHamper 0x01 0xFF l.length
  else (s.setFaults fun fld => { fld with laneErrors := l })

/-- A valid lane frame: it is counted, the lane is not silent, the interface receives. -/
def State.hmpGood (s : State) : State :=
  ((s.inc Reg.HMP_IF_FRAMES).arm .laneSilent (s.now + 10000000000)).hmpTo hmpReceiving

/-- A frame of the lane: its check, its type, then what its payload does. -/
def State.laneFrame (s : State) (frame : Bytes) (type : Nat) (f : Bytes → State → State) : Res :=
  guarded s.hmpHears s <|
    let n := frame.length - 8
    if frame.length < 8 ∨ uAt frame 2 2 ≠ n ∨ crc32 (frame.take (n + 4)) ≠ uAt frame (n + 4) 4 then s.hmpBad
    else match framePayload frame type with
      | none => s
      | some b => f b s

/-- HMP_STATUS_RX (R550, R554): a STATUS frame is copied; a change of flags is reported; entries the log has gained are
requested. -/
def execHmpStatusRx (frame : Bytes) (s : State) : Res :=
  s.laneFrame frame 0x01 fun b s =>
    if b.length ≠ 40 then s
    else
      let old := s.rd Reg.HMP_STATUS_flags
      let s := (s.wr Reg.HMP_STATUS_received 0 0 s.now).wr Reg.HMP_STATUS_legal_time 0 0 (stampOf b)
      let s := (s.wr Reg.HMP_STATUS_flags 0 0 (uAt b 10 2)).wr Reg.HMP_STATUS_log_head 0 0 (uAt b 12 4)
      let s := (s.wr Reg.HMP_STATUS_tamper_count 0 0 (uAt b 22 2)).wrB Reg.HMP_STATUS_temperatures 0 0 (slice b 24 16)
      let s := (s.wr Reg.HMP_ID_seal 0 0 (uAt b 20 1)).wr Reg.HMP_ID_calibration_set 0 0 (uAt b 21 1)
      let s := s.hmpGood
      let s := s.setHmp fun fld => { fld with lastFlags := uAt b 10 2 }
      (if old = s.rd Reg.HMP_STATUS_flags then s else s.hmpRecord 0).hmpNextLog

/-- HMP_SNAPSHOT_RX (R530, R550): a snapshot is copied as it is; the device cannot verify it. -/
def execHmpSnapshotRx (frame : Bytes) (s : State) : Res :=
  s.laneFrame frame 0x02 fun b s =>
    if b.length ≠ 456 then s
    else
      let s := (s.hmpGood.wrB Reg.HMP_SNAPSHOT 0 0 b).wr Reg.HMP_SNAPSHOT_received 0 0 s.now
      let s := (List.range 48).foldl (fun s i => s.wr Reg.HMP_REGISTERS 0 i (uAt b (40 + 8 * i) 8)) s
      let s := (s.wr Reg.HMP_ID_identity 0 0 (uAt b 0 8)).wr Reg.HMP_ID_firmware 0 0 (uAt b 8 4)
      let s := (s.wr Reg.HMP_ID_seal 0 0 (uAt b 12 1)).wr Reg.HMP_ID_calibration_set 0 0 (uAt b 13 1)
      (s.hmpAnswered 0x81).hmpNextLog

/-- HMP_LOG_RX (R550, R553): the entries are copied, each to the element of its SEQ; the device holds the log up to the last
SEQ it asked for. -/
def execHmpLogRx (frame : Bytes) (s : State) : Res :=
  s.laneFrame frame 0x03 fun b s =>
    if b.length % 16 ≠ 0 ∨ 256 < b.length then s
    else
      let s := (List.range (b.length / 16)).foldl (fun s i =>
        s.wrB Reg.HMP_LOG 0 (uAt b (16 * i) 4 % 4096) (slice b (16 * i) 16)) s.hmpGood
      let s : State := if s.hmp.request = 0x82 then (s.setHmp fun fld => { fld with haveTo := s.hmp.wantTo }) else s
      (s.hmpAnswered 0x82).hmpNextLog

/-- HMP_TIME_RESULT_RX (R554, Table 14.11): the result is counted and reported. -/
def execHmpTimeResultRx (frame : Bytes) (s : State) : Res :=
  s.laneFrame frame 0x04 fun b s =>
    if b.length ≠ 8 then s
    else
      let result := uAt b 0 1
      let s := s.hmpGood.wrB Reg.HMP_TIME_last 0 0 b
      let s := if result = 0 then s.inc Reg.HMP_TIME_AGREED
        else if result = 1 ∨ result = 3 then s.inc Reg.HMP_TIME_ACCEPTED
        else if result = 2 then s.inc Reg.HMP_TIME_REFUSED
        else s
      ((s.hmpRecord 1 result (sAt b 4 4)).hmpAnswered 0x83).hmpNextLog

/-- HMP_POLL (R550): every 10 s READ_REGISTERS is sent with a fresh random nonce, a free value. -/
def execHmpPoll (s : State) : Res :=
  guarded (s.hmpMayRequest ∧ s.reached .hmpPoll) s <|
    let (nonce, s) := s.freeBytes 8
    (s.hmpSend 0x81 nonce).arm .hmpPoll (s.now + 10000000000)

/-- HMP_TIME_OFFER_SEND (R542): an offer of station time at each whole hour, and 10 s after TIME_QUALITY was first LOCKED;
only while LOCKED, RECEIVING and the hamper SEALED. -/
def execHmpTimeOfferSend (s : State) : Res :=
  let sec := s.now / nsPerSec
  let hour : Bool := decide (sec % 3600 = 0 ∧ sec / 3600 ≠ s.hmp.lastHour)
  let first : Bool := match s.deadline .hmpOffer with | some d => decide (d ≤ s.now ∧ s.now < d + nsPerSec) | none => false
  guarded (s.hmpMayRequest ∧ s.rd Reg.TIME_QUALITY_state = tqLocked ∧ s.rd Reg.HMP_STATUS_interface = hmpReceiving
      ∧ s.rd Reg.HMP_ID_seal = 1 ∧ (hour ∨ first)) s <|
    let s : State := if hour then (s.setHmp fun fld => { fld with lastHour := sec / 3600 }) else s.disarm .hmpOffer
    (s.hmpSend 0x83 (timeBytes s.now)).inc Reg.HMP_TIME_OFFERS

/-- REQUEST_TIMEOUT (R549): no answer by the send stamp plus 2 s. -/
def execRequestTimeout (s : State) : Res :=
  guarded (s.runs ∧ s.hmp.request ≠ 0 ∧ s.passed .hmpRequest) s <|
    let type := s.hmp.request
    let s : State := (s.setHmp fun fld => { fld with request := 0 }).disarm .hmpRequest
    (s.inc Reg.HMP_IF_TIMEOUTS).raise srcHamper clsHamper 0x03 0xFF type

/-- LANE_SILENT (Table 12.3): no valid lane data for 10 s. -/
def execLaneSilent (s : State) : Res :=
  guarded (s.hmpHears ∧ s.passed .laneSilent) s
    (((s.disarm .laneSilent).hmpTo hmpSilent).raise srcHamper clsHamper 0x02 0xFF 0)

end Sys2Proof.Machine
end

