-- ==== Sys2Proof/Machine/Package.lean ====
section
/-! DEFINITION. Package, supplies, reset and life cycle (chapter 15): PORST_N, the rails, VLD, the junction, start-up,
life-cycle transitions, the TAP and provisioning. -/

namespace Sys2Proof

/-- The code of a rail (Table 15.5). -/
def Rail.code : Rail → Nat
  | .vcore => 0
  | .vddr => 1
  | .vafe => 2
  | .vio => 3
  | .vld => 4

/-- The operating range of a rail in mV (Table 15.5). -/
def Rail.range : Rail → Nat × Nat
  | .vcore => (873, 927)
  | .vddr => (1067, 1133)
  | .vafe => (1746, 1854)
  | .vio => (1710, 1890)
  | .vld => (11400, 12600)

/-- A voltage lies within the operating range of a rail. -/
def Rail.inRange (r : Rail) (mv : Nat) : Bool := decide (r.range.1 ≤ mv ∧ mv ≤ r.range.2)

/-- The reset threshold of a rail in mV, for the rails whose loss gives a RAIL reset (Table 15.5, R561). -/
def Rail.threshold : Rail → Option Nat
  | .vcore => some 800
  | .vddr => some 950
  | .vafe => some 1600
  | _ => none

end Sys2Proof

namespace Sys2Proof.Machine

/-! ## PORST_N and the rails (R560 to R564) -/

/-- A reading of a rail, as SUPPLY_MON shows it. -/
def State.railRead (s : State) (r : Rail) (mv : Nat) : State := s.wr Reg.SUPPLY_MON_rails r.code 0 mv

/-- The device monitors its rails (R560): neither in reset nor in OFF, where the board may remove them (R461). -/
def State.monitors (s : State) : Bool := s.live && decide (s.power.mode ≠ pmOff)

/-- PORST_N (R564): a low pulse of at least 10 µs, its width in ns. -/
def execPorstN (width : Nat) (s : State) : Res :=
  guarded (10000 ≤ width) s (s.coldReset causePowerOn [] holdShort)

/-- VIO_LOW (R561): below 1.55 V the device is held in reset. -/
def execVioLow (mv : Nat) (s : State) : Res :=
  guarded (mv < 1550 ∧ !s.heldBy holdVio) s (s.coldReset causePowerOn [] holdVio)

/-- VIO_RESTORED (R561): VIO has returned. -/
def execVioRestored (mv : Nat) (s : State) : Res :=
  guarded (1550 ≤ mv ∧ s.heldBy holdVio) s (s.releaseHold holdVio)

/-- RAIL_OUT_OF_RANGE (R560): a rail has been outside its operating range for 100 µs. -/
def execRailOutOfRange (r : Rail) (mv : Nat) (s : State) : Res :=
  guarded (s.monitors ∧ !r.inRange mv) s ((s.railRead r mv).raise srcPower clsPower 0x02 r.code mv)

/-- RAIL_UNDERVOLT (R561): VCORE, VDDR or VAFE has been below its reset threshold for 10 µs. -/
def execRailUndervolt (r : Rail) (mv : Nat) (s : State) : Res :=
  guarded (s.power.mode ≠ pmOff ∧ !s.heldBy holdRails ∧ r.threshold.any fun t => decide (mv < t)) s
    (s.coldReset causeRail (be 1 r.code) holdRails)

/-- RAIL_RESET_RELEASE (R561): the three rails have been within their operating ranges for 1 ms. -/
def execRailResetRelease (s : State) : Res := guarded (s.heldBy holdRails) s (s.releaseHold holdRails)

/-- A port stops what it transmits, sweeps or measures as VLD leaves its limits (R562). The sums of its bands stay. -/
def State.stopDriver (s : State) (p : Port) : State :=
  let s := s.setPort p fun q => { q with txEnd := min q.txEnd s.now }
  let s := if (s.port p).dc.measuring then (s.setDc p fun q => { q with measuring := false }).disarm (.insulation p.val) else s
  match (s.port p).sound.sweepEnd with
  | some t => if s.now < t then (s.setSound p fun q => { q with sweepEnd := some s.now }).soundIdle p else s
  | none => s

/-- VLD_OUT_OF_RANGE (R562): below 11.0 V or above 13.2 V the drivers are at high impedance. -/
def execVldOutOfRange (mv : Nat) (s : State) : Res :=
  guarded (s.monitors ∧ (mv < 11000 ∨ 13200 < mv)) s <|
    let s := s.setPower fun fld => { fld with vldBad := true }
    allPorts.foldl (fun s (p : Port) => s.stopDriver p) (s.railRead .vld mv)

/-- VLD_RESTORED (R562): VLD has been within its operating range for 10 ms. -/
def execVldRestored (mv : Nat) (s : State) : Res :=
  guarded (s.monitors ∧ s.power.vldBad ∧ Rail.vld.inRange mv) s
    ((s.setPower fun fld => { fld with vldBad := false }).railRead .vld mv)

/-! ## Reset on request and by temperature (R568, R569, R574) -/

/-- RESET_REQUEST (R568): a write of 0x0000_B007 is answered OK, and the cold reset follows 1 ms later; any other value is
refused with RANGE. -/
def execResetRequest (r : IzReq) (s : State) : Res :=
  guarded (s.takes r ∧ writes r 0x1603) s <| (s.admitReq r).run fun s =>
    match s.checkWrite r with
    | .error e => s.refuseWrite r e
    | .ok _ =>
      if uAt r.data 0 4 ≠ 0xB007 then s.refuseWrite r stRange
      else (s.respond (r.answer stOk)).arm .hostReset (s.now + 1000000)

/-- HOST_RESET (R568): 1 ms after the answer. -/
def execHostReset (s : State) : Res :=
  guarded (s.live ∧ s.reached .hostReset) s (s.coldReset causeHost [] holdShort)

/-- A measurement of the junction, in 0.1 °C (R574). -/
def State.junctionRead (s : State) (tj : Int) : State :=
  (s.setPower fun fld => { fld with junction := tj }).wr Reg.SUPPLY_MON_junction 0 0 tj

/-- THERMAL_TRIP (R569): the junction has reached 130 °C. -/
def execThermalTrip (tj : Int) (s : State) : Res :=
  guarded (1300 ≤ tj ∧ !s.heldBy holdJunction) s ((s.junctionRead tj).coldReset causeThermal [] holdJunction)

/-- JUNCTION_SAMPLE (R574, R569): the junction is measured: TJ_HIGH above 110 °C and TJ_LIMIT above 118 °C, once each time
the limit is passed; below 100 °C a thermal reset is released. -/
def execJunctionSample (tj : Int) (s : State) : Res :=
  guarded (s.runs ∨ s.heldBy holdJunction) s <|
    if s.heldBy holdJunction then
      let s := s.setPower fun fld => { fld with junction := tj }
      if tj < 1000 then s.releaseHold holdJunction else s
    else
      let was := s.power.junction
      let s := s.junctionRead tj
      let rises (limit : Int) : Bool := decide (was ≤ limit ∧ limit < tj)
      let s := if rises 1100 then s.raise srcPower clsPower 0x03 0xFF (tj / 10).toNat else s
      if rises 1180 then s.raise srcPower clsPower 0x04 0xFF (tj / 10).toNat else s

/-! ## Start-up (R577) -/

/-- A key that RETIRED destroys (R581): every data fuse is blown and the commit field reads 0xFF. -/
def destroyedKey : RoleKey := { status := 3, key := 0, blown := 2 ^ 256 - 1 }

/-- Every key is destroyed (R581). -/
def Fuses.destroyKeys (f : Fuses) : Fuses :=
  { f with operator := destroyedKey, engineer := destroyedKey, metrology := destroyedKey }

/-- FUSE_LOAD_DONE (R577, R567, R581, R406): 5 ms after the release the fuses are loaded and the straps sampled; in RETIRED
every key is destroyed first. The steward boots and checks the patch area; the start-up waits for REFCLK. -/
def execFuseLoadDone (straps : Straps) (patch : PatchCheck) (s : State) : Res :=
  guardedFuse (s.rst.hold ≤ holdShort ∧ !s.rst.ballsTaken ∧ s.rd Reg.BOOT_STATE_state = 0
      ∧ s.rst.releasedAt + 5000000 ≤ s.now) s <|
    let s := s.setFuses fun _ => if s.fuses.lifeCycle = 3 then s.fuses.destroyKeys else s.fuses
    let s := s.setRst fun fld => { fld with hold := 0, straps := straps }
    let s := s.wr Reg.BOOT_STATE_state 0 0 2
    let s := if straps.role.val = 2 then s.wr Reg.CASC_acting_role 0 0 rolePassive else s
    let s := if straps.role.val = 3 then
        s.raise srcSteward clsControl 0x01 0xFF (straps.role.val * 16 + straps.devnum.val) else s
    (s.patchCheck patch).arm .watchdog (s.now + 100000000)

/-- DRAM_WIPE_DONE (R577): all of DRAM is zero, with valid ECC. -/
def execDramWipeDone (s : State) : Res :=
  guarded (s.runs ∧ s.rst.pllLocked ∧ !s.rst.dramWiped) s ((s.setRst fun fld => { fld with dramWiped := true }).tryReady)

/-! ## Life cycle (R579 to R581) -/

/-- The fuse work of a transition (Table 15.16): the RWS values in force go to the next fuse set with their CRC, and the
SERVICE fuse is blown once the set reads back; or every key is destroyed. What the CRC of a set that did not read back
holds is a free value. -/
def State.transition (s : State) (new : Nat) (readback : Bool) : State :=
  if new = 2 then
    let policy := s.rdN Reg.JTAG_POLICY
    let tag := s.rdB Reg.INSTALL_TAG
    let (crc, s) := if readback then (crc32 (be 1 policy ++ tag), s) else s.free 4294967296
    (s.setFuses fun fld => { fld with rws := s.fuses.rws ++ [⟨policy, tag, crc⟩],
                                      lifeCycle := if readback then 2 else s.fuses.lifeCycle })
  else (s.setFuses fun _ => { s.fuses.destroyKeys with lifeCycle := 3 })

/-- LC_STATE_COMMIT (R581): a commit that set LC_STATE /02 is done: every session closes, the fuses are blown, and the
device takes a cold reset that names the state it is in now. -/
def execLcStateCommit (readback : Bool) (s : State) : Res :=
  let new := s.rdN Reg.LC_STATE_request
  guardedFuse (s.runs ∧ s.iz.active = none ∧ s.fuses.lifeCycle < new) s <|
    let s := s.freeSessions.transition new readback
    s.coldReset causeLifeCycle (be 1 s.fuses.lifeCycle) holdShort

/-! ## Test access (R575, R576, R580) -/

/-- TAP instruction codes (Table 15.14). -/
def tapExtest : Nat := 0x00
def tapIdcode : Nat := 0x01
def tapSample : Nat := 0x02
def tapPulse : Nat := 0x03
def tapTrain : Nat := 0x04
def tapHighz : Nat := 0x05
def tapClamp : Nat := 0x06
def tapKeyLoad : Nat := 0x40
def tapKeyProg : Nat := 0x41
def tapAdvance : Nat := 0x42
def tapBypass : Nat := 0xFF

/-- The instructions that take the balls. -/
def takesBalls (code : Nat) : Bool := [tapExtest, tapPulse, tapTrain, tapHighz, tapClamp].contains code

/-- JTAG_POLICY in force: from SERVICE on the fused value, before it the object's. -/
def State.jtagPolicy (s : State) : Nat := (s.fuses.rwsSet.map fun x => x.policy).getD (s.rdN Reg.JTAG_POLICY)

/-- An instruction is available in the present life-cycle state (Table 15.14). -/
def State.tapAvailable (s : State) (code : Nat) : Bool :=
  if code = tapIdcode ∨ code = tapBypass then true
  else if code ≤ tapClamp then decide (s.fuses.lifeCycle ≤ 1 ∨ s.jtagPolicy = 0)
  else decide (s.fuses.lifeCycle = 0)

/-- The TAP leaves an instruction that took the balls: a cold reset that names it (R576). -/
def State.leaveBalls (s : State) : State :=
  if s.rst.ballsTaken then
    let s := s.coldReset causeJtag (be 1 s.rst.ballsBy) holdShort
    (s.setRst fun fld => { fld with ballsTaken := false, ballsBy := 0 })
  else s

/-- An instruction is loaded (R575, R576): one that is not available acts as BYPASS, another than the present one is left
first, and one that takes the balls takes them. -/
def State.tapLoad (s : State) (code : Nat) : State :=
  let code := if s.tapAvailable code then code else tapBypass
  let s := if s.rst.instruction = code then s else s.leaveBalls
  (s.setRst fun fld => { fld with instruction := code, ballsTaken := takesBalls code,
                                  ballsBy := if takesBalls code then code else 0 })

/-- EXTEST (R576). -/
def execExtest (s : State) : Res := guarded True s (s.tapLoad tapExtest)

/-- SAMPLE/PRELOAD (R575). -/
def execSamplePreload (s : State) : Res := guarded True s (s.tapLoad tapSample)

/-- EXTEST_PULSE (R576). -/
def execExtestPulse (s : State) : Res := guarded True s (s.tapLoad tapPulse)

/-- EXTEST_TRAIN (R576). -/
def execExtestTrain (s : State) : Res := guarded True s (s.tapLoad tapTrain)

/-- HIGHZ (R576). -/
def execHighz (s : State) : Res := guarded True s (s.tapLoad tapHighz)

/-- CLAMP (R576). -/
def execClampBalls (s : State) : Res := guarded True s (s.tapLoad tapClamp)

/-- BYPASS (R575). -/
def execBypass (s : State) : Res := guarded True s (s.tapLoad tapBypass)

/-- The identification code of R575. -/
def State.idcode (s : State) : Nat :=
  s.fuses.dieRevision % 16 * 2 ^ 28 + 0x9160 * 2 ^ 12 + Config.manufacturer % 2048 * 2 + 1

/-- IDCODE (R575): TDO shifts the identification code out. -/
def execIdcode (s : State) : Res := guarded True s ((s.tapLoad tapIdcode).emit (.tdo s.idcode 32))

/-- TRST_N (R576): the TAP is in Test-Logic-Reset, where its instruction is IDCODE. -/
def execTrstN (s : State) : Res := guarded True s (s.tapLoad tapIdcode)

/-- TAP_LEAVE_BALLS (R576): the TAP has left the instruction that took the balls. -/
def execTapLeaveBalls (s : State) : Res := guarded s.rst.ballsTaken s (s.tapLoad tapIdcode)

/-- KEY_LOAD (R580): 264 bits, the role code above the key; in BLANK only. -/
def execKeyLoad (word : Nat) (s : State) : Res :=
  guarded True s <|
    let blank := s.tapAvailable tapKeyLoad
    let s := s.tapLoad tapKeyLoad
    if blank then (s.setRst fun fld => { fld with keyWord := some (word % 2 ^ 264) }) else s

/-- Gives a role a key. -/
def Fuses.setKey (f : Fuses) (role : Nat) (k : RoleKey) : Fuses :=
  if role = 1 then { f with operator := k } else if role = 2 then { f with engineer := k } else { f with metrology := k }

/-- What KEY_PROG makes of the key register (R580): the status it reports, and the key its fuses hold then. -/
def Fuses.program (f : Fuses) (word : Option Nat) (readback : Nat) : Nat × Fuses :=
  match word with
  | none => (1, f)
  | some w =>
    let role := w / 2 ^ 256
    let key := w % 2 ^ 256
    if role = 0 ∨ 3 < role then (1, f)
    else if (f.roleKey role).status ≠ 0 then (2, f)
    else if key = 0 then (4, f)
    else if readback = key then (0, f.setKey role { status := 1, key := key, blown := key })
    else (3, f.setKey role { status := 2, key := 0, blown := readback })

/-- KEY_PROG (R580): blows the fuses of the key register's role and reads them back; the status register tells how it went,
NOT_BLANK outside BLANK. -/
def execKeyProg (readback : Nat) (s : State) : Res :=
  guardedFuse True s <|
    let r := if s.fuses.lifeCycle ≠ 0 then (5, s.fuses) else s.fuses.program s.rst.keyWord readback
    let s := s.tapLoad tapKeyProg
    ((s.setFuses fun _ => r.2).setRst fun fld => { fld with tapStatus := r.1 }).emit (.tdo r.1 8)

/-- LC_ADVANCE (R580): blows the PROVISIONED fuse when the ENGINEER key is VALID. Like every life-cycle change it leaves the
objects at their defaults (R10) by a cold reset that names the new state (R582; DEDUCED, log entry 211). -/
def execLcAdvance (s : State) : Res :=
  guardedFuse True s <|
    let s := s.tapLoad tapAdvance
    if s.fuses.lifeCycle = 0 ∧ s.fuses.engineer.status = 1 then
      (s.setFuses fun fld => { fld with lifeCycle := 1 }).coldReset causeLifeCycle (be 1 1) holdShort
    else s

end Sys2Proof.Machine
end

