-- ==== Sys2Proof/Machine/Porfani.lean ====
section
/-! DEFINITION. The Porfani ports (chapter 09): bring-up, electrical idle, width drops, tests, sequence and replay, link
delay. -/

namespace Sys2Proof.Machine

/-! ## Bring-up (R381 to R385) -/

/-- PF_DETECT_PULSE (R381): every 12 ms in DETECT a common-mode step; a termination sensed begins TRAIN at the highest
rate allowed. `sensed` has a bit for each lane. -/
def execPfDetectPulse (x : Side) (sensed : Nat) (s : State) : Res :=
  let mask := sensed % 16
  guarded (s.pfRuns ∧ s.pfState x = pfDetect ∧ (x = .up ∨ s.downUsed) ∧ s.due (.pfDetect x.n)) s <|
    let s := (s.emit (.detectStep x)).arm (.pfDetect x.n) (s.now + 12000000)
    if mask = 0 then s
    else
      let s := (s.setLink x fun q => { q with sensed := mask, rate := s.rdN Reg.PF_CTL_rate_ceiling,
                                              ceilWidth := s.rdN Reg.PF_CTL_width_ceiling,
                                              ceilRate := s.rdN Reg.PF_CTL_rate_ceiling }).disarm (.pfDetect x.n)
      (s.pfTo x pfTrain 0).arm (.pfTrain x.n) (s.now + 500000000)

/-- Every sensed lane is RX_READY in both directions: the port goes to LOCK (R381). -/
def State.trained (s : State) (x : Side) : State :=
  let q := s.link x
  if q.sensed ≠ 0 ∧ q.rxReady &&& q.partnerReady &&& q.sensed = q.sensed then
    let s := (s.wr Reg.PF_PORT_rate x.n 0 q.rate).disarm (.pfTrain x.n)
    (s.pfTo x pfLock 0).arm (.pfLock x.n) (s.now + 1000000)
  else s

/-- One tap of the FFE after a request (Table 9.5): its step code, and the status reported. A preset takes the code that
`preset` gives. -/
def ffeStep (req code preset : Nat) : Nat × Nat :=
  match req with
  | 1 => if 255 ≤ code then (code, 3) else (code + 1, 1)
  | 2 => if code = 0 then (code, 2) else (code - 1, 1)
  | 3 => (preset % 256, 1)
  | _ => (code, 0)

/-- PF_TRAIN_BLOCK (R382): a TRAIN block moves the taps of the lane's FFE as it asks and is answered with their
status; its RX_READY counts for the lane. The spec gives no code for a preset, and not how a receiver adapts its
partner's FFE: the codes after a preset and the requests sent back are free values (log entry 95). -/
def execPfTrainBlock (x : Side) (lane : Lane) (block : Bytes) (s : State) : Res :=
  guarded (s.pfRuns ∧ s.pfState x = pfTrain ∧ bit (s.link x).sensed lane.val ∧ block.length = 8 ∧ uAt block 0 1 = 0x2D) s <|
    let b1 := uAt block 1 1
    let ffe := s.rdN Reg.PF_LANE_FFE x.n lane.val
    let (fresh, s) := if field b1 7 6 = 3 ∨ field b1 5 4 = 3 ∨ field b1 3 2 = 3 then s.free 16777216 else (0, s)
    let pre := ffeStep (field b1 7 6) (field ffe 23 16) (fresh / 65536)
    let main := ffeStep (field b1 5 4) (field ffe 15 8) (fresh / 256)
    let post := ffeStep (field b1 3 2) (field ffe 7 0) fresh
    let s := s.wr Reg.PF_LANE_FFE x.n lane.val (pre.1 * 65536 + main.1 * 256 + post.1 : Nat)
    let s := s.setLink x fun q =>
      { q with partnerReady := setBit q.partnerReady lane.val (bit b1 1),
               laneOf := q.laneOf.set lane.val (field (uAt block 3 1) 1 0) }
    let q := s.link x
    let (requests, s) := s.free 64
    let s := s.emit (.block x (2 ^ lane.val) 0x2D
      (trainBytes requests (bit q.rxReady lane.val) (pre.2 * 16 + main.2 * 4 + post.2) lane.val q.rate) 1)
    s.trained x

/-- PF_RX_READY (R382): a lane's equaliser has converged. -/
def execPfRxReady (x : Side) (lane : Lane) (s : State) : Res :=
  guarded (s.pfRuns ∧ s.pfState x = pfTrain ∧ bit (s.link x).sensed lane.val) s
    ((s.setLink x fun q => { q with rxReady := setBit q.rxReady lane.val true }).trained x)

/-- PF_TRAIN_TIMEOUT (R381): 500 ms at one rate; the next lower rate, or DETECT after code 0. -/
def execPfTrainTimeout (x : Side) (s : State) : Res :=
  guarded (s.pfRuns ∧ s.pfState x = pfTrain ∧ s.passed (.pfTrain x.n)) s <|
    if (s.link x).rate = 0 then s.pfToDetect x 4
    else
      (s.setLink x fun q => { q with rate := q.rate - 1, rxReady := 0, partnerReady := 0 }).arm (.pfTrain x.n)
        (s.now + 500000000)

/-- PF_BLOCK_LOCK (R387): 64 valid sync headers in a row give a lane block lock. -/
def execPfBlockLock (x : Side) (lane : Lane) (s : State) : Res :=
  guarded (s.pfRuns ∧ s.pfState x = pfLock ∧ bit (s.link x).sensed lane.val) s
    (s.setLink x fun q => { q with locked := setBit q.locked lane.val true })

/-- The skews of the lanes in a mask lie within 48 ns (R380). -/
def skewsOk (laced : Nat) (skews : List Nat) : Bool :=
  let l := ((List.range 4).filter fun k => bit laced k).map fun k => skews.getD k 0
  decide (l.foldl max 0 ≤ (l.min?.getD 0) + 48)

/-- PF_LACING_DONE (R380, R381): lanes laced, with the delay of each in ns; the port enters EXCHANGE once every sensed
lane is laced, and otherwise waits for the rest of its 1 ms. -/
def execPfLacingDone (x : Side) (laced : Nat) (skews : List Nat) (s : State) : Res :=
  let mask := laced % 16
  guarded (s.pfRuns ∧ s.pfState x = pfLock ∧ mask ≠ 0 ∧ mask &&& (s.link x).locked = mask ∧ skewsOk mask skews) s <|
    let late := (((List.range 4).filter fun k => bit mask k).map fun k => skews.getD k 0).foldl max 0
    let s := (List.range 4).foldl (fun s k =>
      if bit mask k then s.wr Reg.PF_LANE_skew x.n k (late - skews.getD k 0 : Nat) else s) s
    let s := s.setLink x fun q => { q with laced := mask, skews := skews }
    if mask = (s.link x).sensed then s.toExchange x else s

/-- PF_LOCK_TIMEOUT (R381): 1 ms in LOCK; lanes not laced are excluded, and with none laced the port returns to
DETECT. -/
def execPfLockTimeout (x : Side) (s : State) : Res :=
  guarded (s.pfRuns ∧ s.pfState x = pfLock ∧ s.passed (.pfLock x.n)) s <|
    if (s.link x).laced = 0 then s.pfToDetect x 4 else s.toExchange x

/-- PF_CAPS_RX (R383 to R385, R394, R402, R477): a CAPS block of the partner. An incompatible partner logs a DEGRADE fault
and the port waits 100 ms for DETECT; with ACK set by both ends the port enters ACTIVE. -/
def execPfCapsRx (x : Side) (block : Bytes) (s : State) : Res :=
  let caps := block.drop 1
  guarded (s.pfRuns ∧ s.pfState x = pfExchange ∧ !(s.link x).incompatible ∧ !s.running (.pfHoldoff x.n) ∧ block.length = 8
      ∧ uAt block 0 1 = 0x33) s <|
    let s := s.wrB Reg.PF_PORT_partner x.n 0 caps
    if !s.compatible x caps then
      let s := (s.setLink x fun q => { q with incompatible := true, caps := some caps }).raise (srcLink x) clsLink 0x04 x.n
        (s.partnerRole x * 16 + s.partnerDev x)
      let s := s.pfTo x pfExchange 5
      ((s.disarm (.pfExchange x.n)).disarm (.pfWidth x.n)).arm (.pfHoldoff x.n) (s.now + 100000000)
    else
      let s := s.setLink x fun q => { q with caps := some caps, ackSent := true, ackSeen := bit (uAt caps 3 1) 7,
                                             partnerGood := field (uAt caps 1 1) 3 0 }
      let s := s.sendCaps x
      let q := s.link x
      let ceil := s.rdN Reg.PF_CTL_width_ceiling
      let tx := widthOf ceil caps q.partnerGood
      let rx := widthOf ceil caps q.good
      if q.ackSeen ∧ 0 < tx ∧ 0 < rx then s.enterActive x tx rx else s

/-- PF_EXCHANGE_TIMEOUT (R381): 10 ms without agreement; the port returns to DETECT after 100 ms. -/
def execPfExchangeTimeout (x : Side) (s : State) : Res :=
  guarded (s.pfRuns ∧ s.pfState x = pfExchange ∧ s.passed (.pfExchange x.n)) s
    ((s.disarm (.pfExchange x.n)).arm (.pfHoldoff x.n) (s.now + 100000000))

/-- PF_EXCHANGE_HOLDOFF_END (R381): the 100 ms are over. -/
def execPfExchangeHoldoffEnd (x : Side) (s : State) : Res :=
  guarded (s.pfRuns ∧ s.pfState x = pfExchange ∧ s.reached (.pfHoldoff x.n)) s
    (s.pfToDetect x (if (s.link x).incompatible then 5 else 4))

/-! ## Lanes in service (R379, R387, R390, R391, R394 to R396) -/

/-- PF_EYELET_RX (R379, R389): an eyelet on a lane with the parity the receiver computed. In ACTIVE each differing bit
counts; at the end of a fast-exit burst a receiver that holds lock and lacing on every active lane goes on, and one without
them counts the failure and retrains in full. -/
def execPfEyeletRx (x : Side) (lane : Lane) (block : Bytes) (parity : Nat) (locked : Bool) (s : State) : Res :=
  guarded (s.pfRuns ∧ s.linkUp x ∧ bit (s.link x).laced lane.val ∧ block.length = 8 ∧ uAt block 0 1 = 0x4B
      ∧ slice block 4 3 = [0xA5, 0x3C, 0x96]) s <|
    if (s.link x).rxIdle then
      if locked then s.setLink x fun q =>
        let seen := setBit q.burst lane.val true
        if seen &&& q.laced = q.laced then { q with rxIdle := false, burst := 0 } else { q with burst := seen }
      else (s.inc Reg.PF_PORT_FAST_EXIT_FAILS x.n).fullRetrain x 2
    else s.inc Reg.PF_LANE_BIP_ERRORS x.n lane.val (popCount 8 (uAt block 2 1 ^^^ parity) : Nat)

/-- PF_LOCK_LOSS (R386, R387, R390, R394): a lane in service loses block lock. With another lane left the width drops:
credits freeze, WIDTH names the lanes left, a FENCE fault is logged; else the link retrains in full. -/
def execPfLockLoss (x : Side) (lane : Lane) (s : State) : Res :=
  guarded (s.pfRuns ∧ s.linkUp x ∧ !(s.link x).rxIdle ∧ bit (s.link x).laced lane.val) s <|
    let s := s.inc Reg.PF_LANE_LOCK_LOSSES x.n lane.val
    let s := s.setLink x fun q => { q with locked := setBit q.locked lane.val false, laced := setBit q.laced lane.val false }
    if (s.link x).rxWidth = 1 ∨ (s.link x).laced = 0 then s.fullRetrain x 6
    else
      let good := (s.link x).good
      let s := s.sendLocal x ([2] ++ be 1 good ++ [0, 0])
      let s := (s.raise (srcLink x) clsLink 0x02 lane.val good).inc Reg.PF_PORT_WIDTH_DROPS x.n
      s.beginDrop x

/-- WIDTH_PARCEL_RX (R394): the partner has lost a lane; credits freeze and the port exchanges CAPS anew. -/
def execWidthParcelRx (x : Side) (good : Nat) (s : State) : Res :=
  guarded (s.pfRuns ∧ (s.linkUp x ∨ (s.link x).dropping)) s <|
    let s := s.setLink x fun q => { q with partnerGood := good % 16 }
    if (s.link x).dropping then s else s.beginDrop x

/-- PF_WIDTH_DROP_TIMEOUT (R395): a width drop not back in ACTIVE within 100 µs; a DEGRADE fault that names the lane lost,
and a full retrain. -/
def execPfWidthDropTimeout (x : Side) (s : State) : Res :=
  guarded (s.pfRuns ∧ (s.link x).dropping ∧ s.passed (.pfWidth x.n)) s <|
    let q := s.link x
    let lane := (lowest 4 fun k => bit q.sensed k && !bit q.laced k).getD 0
    (s.raise (srcLink x) clsLink 0x03 lane 0).fullRetrain x 4

/-- PF_BIP_CHECK (R390): a second has passed; more new BIP errors than the threshold log a NOTICE. -/
def execPfBipCheck (x : Side) (lane : Lane) (s : State) : Res :=
  let t := Timer.pfBip (x.n * 4 + lane.val)
  guarded (s.pfRuns ∧ s.linkUp x ∧ s.reached t) s <|
    let errors := s.rdN Reg.PF_LANE_BIP_ERRORS x.n lane.val
    let grown := errors - (s.link x).bipBase.getD lane.val 0
    let s := (s.setLink x fun q => { q with bipBase := q.bipBase.set lane.val errors }).arm t (s.now + nsPerSec)
    if s.rdN Reg.PF_CTL_BIP_threshold < grown then s.raise (srcLink x) clsLink 0x01 lane.val grown else s

/-- PF_RETRAIN_REQUEST (R386): a commit of PF_PORT /09 = 1 or of a ceiling; the request is cleared as the retrain
begins. -/
def execPfRetrainRequest (x : Side) (s : State) : Res :=
  let q := s.link x
  guarded (s.pfRuns ∧ s.linkUp x ∧ (s.flag Reg.PF_PORT_retrain x.n ∨ s.rdN Reg.PF_CTL_width_ceiling ≠ q.ceilWidth
      ∨ s.rdN Reg.PF_CTL_rate_ceiling ≠ q.ceilRate)) s
    ((s.wr Reg.PF_PORT_retrain x.n 0 0).fullRetrain x 3)

/-! ## Electrical idle (R388, R389, R403, R470) -/

/-- Nothing waits to be sent and nothing sent waits for its acknowledgement. -/
def State.linkQuiet (s : State) (x : Side) : Bool :=
  decide ((s.link x).sendQ = [] ∧ (s.link x).replay = []) && (List.range 4).all fun vc => decide (s.fifo x vc = [])

/-- The transmitter of a port enters electrical idle now: after the idle time of R388, in answer to the partner's
IDLE_ENTRY, or at entry step 2 on the host side (R470). -/
def State.idleWanted (s : State) (x : Side) : Bool :=
  let idle := s.rd Reg.PF_CTL_idle_time * 1000
  s.linkQuiet x && (decide (idle ≠ 0 ∧ (s.link x).lastTx + idle ≤ s.now) || (s.link x).rxIdle
    || (decide (s.power.mode = 5 ∧ s.power.step = 2) && decide (x = s.hostSide)))

/-- PF_IDLE_ENTRY_SEND (R388, R470): the transmitter sends 16 IDLE_ENTRY blocks and turns off. -/
def execPfIdleEntrySend (x : Side) (s : State) : Res :=
  guarded (s.pfRuns ∧ s.pfState x = pfActive ∧ !(s.link x).txIdle ∧ s.idleWanted x) s <|
    let lanes := (s.txLanes x).foldl (fun m k => m ||| 2 ^ k) 0
    let s := (s.emit (.block x lanes 0x66 (List.replicate 7 0) 16)).inc Reg.PF_PORT_IDLE_ENTRIES x.n
    let s := s.setLink x fun q => { q with txIdle := true }
    let s : State := if s.power.mode = 5 ∧ s.power.step = 2 ∧ x = s.hostSide then
        (s.setPower fun fld => { fld with idleSent := true }) else s
    s.pfTo x pfIdle 4

/-- PF_IDLE_ENTRY_RX (R388): the partner's transmitter turns off; the receiver stops checking block lock and arms its
activity detector. -/
def execPfIdleEntryRx (x : Side) (s : State) : Res :=
  guarded (s.pfRuns ∧ s.linkUp x) s (s.setLink x fun q => { q with rxIdle := true, burst := 0 })

/-- PF_FAST_EXIT (R389, R403): a transmitter in idle with a parcel to send, or with accepted parcels to acknowledge, sends
a fast-exit burst and resumes. -/
def execPfFastExit (x : Side) (s : State) : Res :=
  guarded (s.pfRuns ∧ s.pfState x = pfIdle ∧ (!s.linkQuiet x ∨ (s.link x).unacked)) s <|
    let s := s.fastBurst x (s.txLanes x)
    let s := (s.setLink x fun q => { q with txIdle := false, lastTx := s.now }).pfTo x pfActive 0
    let s := if (s.link x).unacked then s.sendFlow x false else s
    (s.hostActive x).drain x

/-! ## Test (R393) -/

/-- PF_TEST_START (R393): a commit of PF_PORT /08 other than 0; the port sends PRBS31 for that many seconds. -/
def execPfTestStart (x : Side) (s : State) : Res :=
  let secs := s.rd Reg.PF_PORT_test x.n
  guarded (s.pfRuns ∧ secs ≠ 0 ∧ s.pfState x ≠ pfTest ∧ s.pfState x ≠ pfOff) s <|
    let s := s.pfQuietTimers x
    ((s.pfTo x pfTest 3).arm (.pfTest x.n) (s.now + secs * nsPerSec)).headRefresh

/-- PF_TEST_END (R393): the time ends or /08 is 0; the bit errors of each lane are counted, /08 is cleared, the port
retrains in full. -/
def execPfTestEnd (x : Side) (prbs : List Nat) (s : State) : Res :=
  guarded (s.pfRuns ∧ s.pfState x = pfTest ∧ (s.reached (.pfTest x.n) ∨ s.rd Reg.PF_PORT_test x.n = 0)) s <|
    let cause := if s.rd Reg.PF_PORT_test x.n = 0 then 3 else 4
    let s := (List.range 4).foldl (fun s k => s.inc Reg.PF_LANE_PRBS_ERRORS x.n k (prbs.getD k 0 : Nat)) s
    (s.wr Reg.PF_PORT_test x.n 0 0).fullRetrain x cause

/-! ## Sequence, acknowledgement, replay (R402 to R405) -/

/-- The parcels of a replay buffer after an acknowledgement; `none` when it names none of them. -/
def acked (ack : Nat) : List Parcel → Option (List Parcel)
  | [] => none
  | p :: l => if p.lseq = ack then some l else acked ack l

/-- FLOW_CTRL_RX (R402 to R405): FLOW of the partner: what it acknowledges leaves the replay buffer, its credits are the
new limits, NAK makes the port resend. -/
def execFlowCtrlRx (x : Side) (body : Bytes) (s : State) : Res :=
  guarded (s.pfRuns ∧ s.linkUp x ∧ body.length = 12 ∧ uAt body 0 1 = 1) s <|
    let limits := (List.range 4).map fun v => uAt body (4 + 2 * v) 2
    let s := s.setLink x fun q => { q with limits := limits }
    let s := match acked (uAt body 2 2 % 4096) (s.link x).replay with
      | some l =>
        let s := s.setLink x fun q => { q with replay := l }
        if l = [] then s.disarm (.pfReplay x.n) else s.arm (.pfReplay x.n) (s.now + 20000)
      | none => s
    let s := if bit (uAt body 1 1) 7 then s.resend x else s
    s.drain x

/-- FLOW_CTRL_SEND (R403): FLOW every 1 µs while accepted parcels are not acknowledged, every 100 µs otherwise; not while
its direction is in electrical idle. -/
def execFlowCtrlSend (x : Side) (s : State) : Res :=
  let q := s.link x
  guarded (s.pfRuns ∧ s.pfState x = pfActive
      ∧ ((q.unacked ∧ q.lastFlow + 1000 ≤ s.now) ∨ q.lastFlow + 100000 ≤ s.now)) s (s.sendFlow x false)

/-- REPLAY_TIMEOUT (R404): 20 µs without an advance of ACK; every unacknowledged parcel is resent. -/
def execReplayTimeout (x : Side) (s : State) : Res :=
  guarded (s.pfRuns ∧ s.pfState x = pfActive ∧ !(s.link x).frozen ∧ (s.link x).replay ≠ [] ∧ s.passed (.pfReplay x.n)) s
    (s.resend x)

/-! ## Link delay (R421) -/

/-- DELAY_REQ_SEND (R421): every 125 ms; t1 is its egress. -/
def execDelayReqSend (x : Side) (s : State) : Res :=
  guarded (s.pfRuns ∧ s.pfState x = pfActive ∧ s.due (.pfDelay x.n)) s <|
    let ident := ((s.link x).delayId + 1) % 65536
    let s := s.sendLocal x ([3, 0] ++ be 2 ident)
    (s.setLink x fun q => { q with delayId := ident, delayT1 := some s.now }).arm (.pfDelay x.n) (s.now + 125000000)

/-- DELAY_REQ_RX (R421): answered with the turnaround, in 2^-16 ns, that the port puts in as it sends. -/
def execDelayReqRx (x : Side) (ident turnaround : Nat) (s : State) : Res :=
  guarded (s.pfRuns ∧ s.linkUp x) s (s.sendLocal x ([4, 0] ++ be 2 ident ++ be 8 turnaround))

/-- DELAY_RESP_RX (R421): the link delay is the mean of the last eight values and half the asymmetry. -/
def execDelayRespRx (x : Side) (ident turnaround : Nat) (s : State) : Res :=
  match (s.link x).delayT1 with
  | none => ok s
  | some t1 =>
    guarded (s.pfRuns ∧ s.linkUp x ∧ ident = (s.link x).delayId) s <|
      let v := ((s.now - t1) * 65536 - turnaround) / 2
      let s := s.setLink x fun q => { q with delayT1 := none, delays := (v :: q.delays).take 8 }
      let l := (s.link x).delays
      let twice := roundDiv (2 * l.sum + s.rd Reg.PF_PORT_asymmetry x.n * 65536 * l.length) (2 * 65536 * l.length)
      s.wr Reg.PF_PORT_link_delay x.n 0 (max 0 twice)

end Sys2Proof.Machine
end

