-- ==== Sys2Proof/Machine/Ports.lean ====
section
/-! DEFINITION. The states of a line port (R206 to R214) and the refresh cycles of QUIET (R191 to R194, R212). -/

namespace Sys2Proof.Machine

/-- PORT_ENABLE (R207, R591): LP_STATE /02 is 1 and the converter clocks run; a DOWN port goes to CHECK. The cause is
start-up where the port was enabled before the clocks first ran. -/
def execPortEnable (p : Port) (s : State) : Res :=
  guarded (s.runs ∧ s.clocked ∧ s.operates ∧ s.portState p = stDown ∧ s.flag Reg.LP_STATE_enable p) s
    ((s.toState p stCheck (if (s.port p).started then 0 else 7)).setPort p fun q => { q with started := true })

/-- PORT_DISABLE (R207): LP_STATE /02 = 0 applies; the port goes DOWN and its queues are flushed. -/
def execPortDisable (p : Port) (s : State) : Res :=
  guarded (s.runs ∧ !s.flag Reg.LP_STATE_enable p ∧ s.portState p ≠ stDown ∧ s.portState p ≠ stFenced
      ∧ s.atApplyPoint p) s (s.toState p stDown 0).commitDone

/-- CHECK_RETRY (R208): 10 s after a failed check both checks are made again. -/
def execCheckRetry (p : Port) (s : State) : Res :=
  guarded (s.runs ∧ s.portState p = stCheck ∧ s.reached (.check p.val)) s
    ((((s.setDc p fun q => { q with loopResult := none, insulResult := none, measuring := false }).disarm
      (.check p.val)).disarm (.loop p.val)).disarm (.insulation p.val))

/-- LISTEN_END (R207, R209): the listen time has passed with no foreign frame; the survey is written, the port goes to
DISCOVER. -/
def execListenEnd (p : Port) (energy : Bytes) (s : State) : Res :=
  guarded (s.runs ∧ s.portState p = stListen ∧ s.reached (.listen p.val)) s
    (((s.wrB Reg.LP_SURVEY_energy p 0 ((energy ++ List.replicate 64 0xFF).take 64)).wr Reg.LP_SURVEY_stamp p 0
      s.now).toState p stDiscover 2)

/-- DISCOVER_END (R207): the discover time has passed; the port goes to SERVICE. -/
def execDiscoverEnd (p : Port) (s : State) : Res :=
  guarded (s.runs ∧ s.portState p = stDiscover ∧ s.reached (.discover p.val)) s (s.toState p stService 2)

/-- QUIET_REQUEST (R212): LP_STATE /04 applies: the quiet request is set or cleared; cleared in QUIET, the next downstream
REFRESH closes it. -/
def execQuietRequest (p : Port) (s : State) : Res :=
  let req := s.flag Reg.LP_STATE_quiet p
  guarded (s.runs ∧ (s.port p).quietReq ≠ req ∧ s.atApplyPoint p) s
    (s.setPort p fun q => { q with quietReq := req, quiet := { q.quiet with
      noticed := false, resumed := false, exiting := !req && decide (s.portState p = stQuiet) } })

/-- The end of the last SOUND window that overlaps the span from now to an instant (R193). -/
def State.soundOver (s : State) (p : Port) (finish : Stamp) : Option Stamp :=
  let cur := if winType (s.curWindow p) = wSound ∧ s.now < (s.port p).winEnd then [(s.port p).winEnd] else []
  let next := (s.schedule p).filterMap fun w => if winType w.elem = wSound ∧ w.start < finish then some w.finish else none
  (cur ++ next).getLast?

/-- REFRESH_CYCLE_START (R191 to R194, R200, R212): the cycle due begins: the downstream REFRESH is sent, and the stations'
answers are awaited at U; a cycle that a SOUND window overlaps is deferred to 1 ms after it. -/
def execRefreshCycleStart (p : Port) (s : State) : Res :=
  let q := (s.port p).quiet
  guarded (s.runs ∧ s.portState p = stQuiet ∧ q.next ≤ s.now ∧ !q.closing ∧ s.mayTransmit p) s <|
    let u := s.now + s.airDown p + 5000000
    let finish := u + s.airUp p
    match s.soundOver p finish with
    | some t => s.setPort p fun x => { x with quiet := { x.quiet with next := t + 1000000 } }
    | none =>
      let period := s.rd Reg.LP_QUIET_effective p
      let flags := b2n q.exiting + 2 * b2n (s.port p).ec.retrainScheduled
      let span := (s.time.mono, s.time.mono + s.airDown p)
      let s := s.sendFrame p (downHeader 255 tyRefresh (s.floorPace p))
        ([0] ++ be 1 flags ++ timeBytes s.now ++ be 2 period.toNat ++ [0, 0])
      let awaited : List Granted := (s.registered p).map fun a =>
        { a := a, at' := u, finish := finish, mask := s.rdN Reg.LP_STATION_allotments p a,
          pace := s.rdN Reg.LP_STATION_upstream_pace p a, duplex := false }
      let sent (y : QuietState) : QuietState :=
        { y with cycle := y.cycle + 1, refresh := span, next := y.next + period * 1000000, lastU := u, lastEnd := finish,
                 closing := y.exiting }
      (s.expectUp p awaited).setPort p fun x => { x with grants := awaited, quiet := sent x.quiet }

/-- QUIET_EXIT (R203, R212, R242): the upstream part of the closing cycle is over; the port enters SERVICE, and what QUIET
deferred follows. -/
def execQuietExit (p : Port) (s : State) : Res :=
  let q := (s.port p).quiet
  guarded (s.runs ∧ s.portState p = stQuiet ∧ q.closing ∧ q.lastEnd ≤ s.now) s <|
    let s := (s.toState p stService 0).setPort p fun q => { q with quiet := {}, grants := [] }
    (s.registered p).foldl (fun s a => s.afterQuiet p a) s

/-- PORT_PARK (R207): LP_STATE /03 = 1 applies. The parking of entry step 2 is ENTRY_STEP_ADVANCE's. -/
def execPortPark (p : Port) (s : State) : Res :=
  guarded (s.runs ∧ s.flag Reg.LP_STATE_park p ∧ stCheck ≤ s.portState p ∧ s.portState p ≤ stQuiet ∧ s.atApplyPoint p) s
    (s.park p 0).commitDone

/-- PORT_UNPARK (R207, R214): LP_STATE /03 is 0 and the converter clocks run. A port that entry to a power state parked
resumes with the wake or the abandoned entry. -/
def execPortUnpark (p : Port) (s : State) : Res :=
  guarded (s.runs ∧ s.clocked ∧ s.portState p = stParked ∧ !s.flag Reg.LP_STATE_park p ∧ p.val ∉ s.power.parked) s
    (s.unpark p 0)

/-- BAND_CHANGE (R207, R213): a committed change of the band applies. -/
def execBandChange (p : Port) (s : State) : Res :=
  guarded (s.runs ∧ s.bandObj p ≠ (s.port p).band ∧ s.atApplyPoint p) s (s.changeBand p).commitDone

end Sys2Proof.Machine
end

