-- ==== Sys2Proof/Machine/Station.lean ====
section
/-! DEFINITION. The remote stations (R125, R146, R216 to R227, R232 to R234, R238, R249, R250). A station's clock is
`State.time.mono`; its number names it, whatever its address. -/

namespace Sys2Proof.Machine

/-! ## What a station knows -/

/-- States of Table 5.5. -/
def snSearch : Nat := 0
def snJoin : Nat := 1
def snRanging : Nat := 2
def snConfirming : Nat := 3
def snActive : Nat := 4
def snQuiet : Nat := 5

/-- The capability block it sends (Table 3.7, R128): CAP_VER 0, PACES bit 0 set, reserved bits 0. -/
def Stn.block (x : Stn) : Bytes :=
  slice x.caps 0 8 ++ [0] ++ be 1 (min 2 (uAt x.caps 9 1)) ++ be 4 (uAt x.caps 10 4 % 2 ^ 24 ||| 1) ++ be 1 (uAt x.caps 14 1 % 8)
    ++ slice x.caps 15 3 ++ [0, 0]

/-- It advertises a pace, and supports it at every band with a transform size up to MAX_N (R128). -/
def Stn.supports (x : Stn) (pace : Nat) : Bool :=
  decide (pace ≤ 23 ∧ x.band.n ≤ uAt x.block 9 1) && bit (uAt x.block 10 4) pace

/-- STATION_UID and MAX_LEVEL of its capability block (Table 3.7). -/
def Stn.uid (x : Stn) : Nat := uAt x.caps 0 8
def Stn.maxLevel (x : Stn) : Int := sAt x.caps 15 2

/-- The estimate of device time at a clock reading (R216). -/
def Stn.estimate (x : Stn) (clock : Stamp) : Option Stamp := x.anchor.map fun a => a.1 + (clock - a.2)

/-- The instant at which it puts a transmission aimed at X on its terminals, by its estimate (R217). -/
def Stn.startFor (x : Stn) (target : Stamp) : Stamp := target - x.ta * (x.band.ns : Int)

/-- Its clock's reading when its estimate reads e (R216). -/
def Stn.reading (x : Stn) (e : Stamp) : Stamp := x.anchor.elim e fun a => a.2 + (e - a.1)

/-- It may make a slotted transmission that starts when its estimate reads e (R218): its anchor is no older than 10 s
then. -/
def Stn.slotted (x : Stn) (e : Stamp) : Bool := x.anchor.any fun a => decide (e - a.1 ≤ 10000000000)

/-- It sends nothing else between two readings of its clock (R134). -/
def Stn.silent (x : Stn) (start finish : Stamp) : Bool := x.sends.all fun t => decide (t.2 ≤ start ∨ finish ≤ t.1)

/-- The station enters SEARCH (Table 5.5): it gives up its address and what was under way. -/
def Stn.search (x : Stn) : Stn :=
  { x with state := snSearch, address := 0, allot := 0, ta := 0, request := none, waitUntil := none, rangeAt := none,
           adjust := [], confirms := 0, refreshAt := none, leaveQuiet := false, grants := [], contend := [], sets := [],
           reasm := [], answers := [] }

/-- A downstream frame is received without error (Table 5.6). -/
def Stn.hear (x : Stn) (clock : Stamp) : Stn := { x with lastHeard := clock }

/-- CONFIRMING and QUIET become ACTIVE (R234, Table 5.5). -/
def Stn.toActive (x : Stn) : Stn :=
  { x with refreshAt := if x.state = snQuiet then none else x.refreshAt,
           state := if x.state = snConfirming ∨ x.state = snQuiet then snActive else x.state }

/-- STN_DS_FRAMES and STN_DS_ERRORS count a frame to its address whose header passed (Table 5.7). -/
def Stn.tally (x : Stn) (h : Header) (ok : Bool) : Stn :=
  if h.dst = 255 then x else { x with dsFrames := x.dsFrames + 1, dsErrors := x.dsErrors + b2n !ok }

/-- A frame addressed to it is received without error (Table 5.7). -/
def Stn.hearOwn (x : Stn) (clock : Stamp) : Stn := ({ x with dsFrames := x.dsFrames + 1 }.hear clock).toActive

/-- The corrections that apply to a transmission aimed at X (R238). -/
def Stn.adjusted (x : Stn) (target : Stamp) : Stn :=
  let now := x.adjust.filter fun a => decide (a.1 ≤ target)
  now.foldl (fun x a => { x with ta := clamp 0 x.band.maxTa (x.ta + a.2.1),
                                 level := clamp (-400) x.maxLevel (x.level + a.2.2) })
    { x with adjust := x.adjust.filter fun a => decide (target < a.1) }

/-- Its level after POWER_ADJ (R233, R238). -/
def Stn.raised (x : Stn) (level : Int) (steps : Int) : Int := clamp (-400) x.maxLevel (level + 5 * steps)

/-! ## Sending -/

/-- The header of an upstream frame. -/
def upHeader (x : Stn) (type pace : Nat) : Header :=
  { ver := 0, dst := 0, src := x.address, type := type, pace := pace, length := 0, colour := 0, sa := 0, seed := 1,
    tag := 0, frag := 0, fragNo := 0, seq := 0 }

/-- An association it can protect another frame under (R142); 0 needs none. -/
def Stn.canProtect (x : Stn) (sa : Nat) : Bool :=
  sa == 0 || x.assocs.any fun a => a.sa == sa && decide (a.txPn < 281474976710655)

/-- The payload of a frame of a station, protected when its header names an association, and the station that has used the PN
(R140, R142). -/
def Stn.protect (x : Stn) (h : Header) (plain : Bytes) : Bytes × Stn :=
  match x.assocs.find? fun a => a.sa == h.sa with
  | none => (plain, x)
  | some a =>
    (be 6 (a.txPn + 1) ++ ccmEncrypt a.key (ccmNonce true h (a.txPn + 1)) (be 14 h.high) plain,
     { x with assocs := x.assocs.map fun y => if y.sa = h.sa then { y with txPn := y.txPn + 1 } else y })

/-- Bytes that protection adds to a payload (R140). -/
def securityBytes (sa : Nat) : Nat := if sa = 0 then 0 else 14

/-- Station u puts a frame on its line when its estimate reads an instant (R217), with a seed of its choice (R74): in
long form, or in grant form in the allotments of a mask. -/
def State.sendStation (s : State) (u : Nat) (mask : Option Nat) (h : Header) (plain : Bytes) (start : Stamp) (level : Int) :
    State :=
  let (seed, s) := s.seed
  let h := { h with seed := seed, length := plain.length + securityBytes h.sa }
  let (body, x) := if h.sa = 0 then (plain, s.stn u) else (s.stn u).protect h plain
  let air := mask.elim (airLong x.band h.pace h.length) fun m => airGrant x.band (max 1 (popCount 64 m)) h.pace h.length
  let f : TxFrame := { start := start, long := mask.isNone, band := x.band, allot := mask.getD (2 ^ 64 - 1), header := h,
                       payload := body, level := level, finish := start + air }
  let sent := (x.reading start, x.reading start + air)
  (s.emit (.stationFrame u f)).setStn u fun _ =>
    { x with sends := sent :: x.sends.filter fun t => decide (s.time.mono < t.2) }

/-- A slot of a window of a length, drawn among those that a frame fits (R221, R222): its start at the device. The
window must lie ahead and not have been used by the station, and the frame must keep the slotted class (R218) and
overlap nothing else the station sends (R134); no slot otherwise. -/
def State.drawSlot (s : State) (x : Stn) (w len air : Stamp) : Option Stamp × State :=
  let rs := slotLength x.band
  let slots : List Nat := (List.range (len / rs).toNat).filter fun k => decide ((k : Int) * rs + air + 500000 ≤ len)
  if x.reading (x.startFor w) < s.time.mono ∨ x.usedWindows.contains w ∨ slots = [] then (none, s)
  else
    let (k, s) := s.free slots.length
    let t := w + (slots.getD k 0 : Nat) * rs
    let at' := x.reading (x.startFor t)
    (if x.slotted (x.startFor t) && x.silent at' (at' + air) then some t else none, s)

/-- The station has used a window (R222). -/
def Stn.uses (x : Stn) (w clock : Stamp) : Stn :=
  { x with usedWindows := w :: x.usedWindows.filter fun t => decide (clock ≤ x.reading t) }

/-! ## SEARCH and JOIN (R226, R227, R232, R233, R249) -/

/-- STATION_ANCHOR (R216): the estimate takes the instant the anchor names. -/
def execStationAnchor (u : Nat) (named : Stamp) (s : State) : Res :=
  guarded True s (s.setStn u fun x => { x with anchor := some (named, s.time.mono) })

/-- STATION_BEACON_RX (R225, R227, R249): the station takes over what the BEACON announces; SEARCH becomes JOIN when
registration is open, QUIET becomes ACTIVE, and a window announced anew counts as passed for the backoff. RX_SNR of its
capability block is what it measures on the BEACON (R243). -/
def execStationBeaconRx (u : Nat) (f : BeaconRx) (s : State) : Res :=
  let body := f.body
  guarded (body.length = 40 ∧ uAt body 0 1 = 0 ∧ time80Ok body 11) s <|
    s.setStn u fun x =>
      let next := uAt body 26 4
      let open' := bit (uAt body 36 1) 3
      let d := if next = 0 then none
        else some (stampOf (slice body 11 10) + (next : Int) * 1000, (uAt body 30 4 : Int) * 1000)
      let fresh := d.isSome && decide (d.map (·.1) ≠ x.discover.map (·.1))
      { x.hear s.time.mono with
        band := ⟨uAt body 21 1, uAt body 22 1, uAt body 23 1, uAt body 24 2⟩
        regOpen := open', discover := d, caps := patch x.caps 17 (be 1 f.snr)
        backoff := if x.state = snJoin ∧ fresh ∧ x.discover.isSome then x.backoff - 1 else x.backoff
        refreshAt := if x.state = snQuiet then none else x.refreshAt
        state := if x.state = snSearch ∧ open' then snJoin else if x.state = snQuiet then snActive else x.state }

/-- STATION_REG_REQUEST_SEND (R222, R226): one REQUEST in a slot of the announced DISCOVER window, 3.0 dB louder after
each one that was not answered. -/
def execStationRegRequestSend (u : Nat) (s : State) : Res :=
  let x := s.stn u
  guarded (x.state = snJoin ∧ x.waitUntil = none ∧ x.request = none ∧ x.backoff = 0 ∧ x.regOpen) s <|
    match x.discover with
    | none => s
    | some (w, len) =>
      let (slot, s) := s.drawSlot x w len (airLong x.band 0 22)
      match slot with
      | none => s
      | some t =>
        let level := min x.maxLevel (x.maxLevel - 120 + 30 * (x.unanswered : Int))
        let s := s.sendStation u none { upHeader x tyReg 0 with src := 255 } ([1, 0] ++ x.block) (x.startFor t) level
        s.setStn u fun x => { x.uses w s.time.mono with reqLevel := level, request := some (w + len, s.time.mono) }

/-- STATION_REQUEST_UNANSWERED (R227, R232): a BEACON stamped after the end of the window, or 130 s; the station lets a
random number of announced windows pass. -/
def execStationRequestUnanswered (u : Nat) (txStamp : Stamp) (s : State) : Res :=
  let x := s.stn u
  guarded (x.state = snJoin ∧ x.request.any fun r => decide (r.1 < txStamp ∨ r.2 + 130000000000 ≤ s.time.mono)) s <|
    let n := x.unanswered + 1
    let (k, s) := s.free (2 ^ min n 5)
    s.setStn u fun x => { x with request := none, unanswered := n, backoff := k }

/-- STATION_ASSIGN_RX (R125, R233): the ASSIGN that carries its identity; the station is RANGING under it. -/
def execStationAssignRx (u : Nat) (body : Bytes) (s : State) : Res :=
  let x := s.stn u
  guarded (body.length = 24 ∧ uAt body 0 1 = 2 ∧ uAt body 21 1 ≤ 23 ∧ x.state = snJoin ∧ uAt body 1 8 = x.uid) s <|
    s.setStn u fun x =>
      let fl := uAt body 22 1
      { x.hear s.time.mono with
        state := snRanging, address := uAt body 9 1, allot := uAt body 10 8, ta := (uAt body 18 2 : Nat),
        level := x.raised x.reqLevel (sAt body 20 1), upPace := uAt body 21 1,
        security := bit fl 0, duplex := bit fl 1, bell := bit fl 2, request := none, unanswered := 0, backoff := 0,
        waitUntil := none, adjust := [], confirms := 0, rangeAt := none, rangingSince := s.time.mono, kept := none,
        answers := [] }

/-- The wait after a REFUSE (Table 5.6). -/
def refuseWait (reason : Nat) : Stamp := (if reason = 0 then 60 else if reason = 1 then 600 else 3600) * nsPerSec

/-- STATION_REFUSE_RX (R249): the REFUSE that carries its identity; no REQUEST before its reason's wait is over. -/
def execStationRefuseRx (u : Nat) (body : Bytes) (s : State) : Res :=
  let x := s.stn u
  guarded (body.length = 10 ∧ uAt body 0 1 = 5 ∧ uAt body 1 1 ≤ 4 ∧ x.state = snJoin ∧ uAt body 2 8 = x.uid) s
    (s.setStn u fun x => { x.hear s.time.mono with
      request := none, unanswered := 0, backoff := 0, waitUntil := some (s.time.mono + refuseWait (uAt body 1 1)) })

/-- STATION_REFUSE_WAIT_END (R249): the wait is over; the station searches. -/
def execStationRefuseWaitEnd (u : Nat) (s : State) : Res :=
  guarded ((s.stn u).waitUntil.any fun t => decide (t ≤ s.time.mono)) s (s.setStn u Stn.search)

/-! ## Ranging and confirming (R234, R237, R238) -/

/-- A station has an address of its own. -/
def Stn.joined (x : Stn) : Bool := decide (snRanging ≤ x.state)

/-- STATION_RANGE_REQ_RX (R222, R237): a RANGE REQ to its address; its RESP is aimed at AT. -/
def execStationRangeReqRx (u : Nat) (body : Bytes) (s : State) : Res :=
  let x := s.stn u
  guarded (body.length = 12 ∧ uAt body 0 1 = 1 ∧ time80Ok body 2 ∧ x.joined) s
    (s.setStn u fun x => { x.hearOwn s.time.mono with rangeAt := some (stampOf (slice body 2 10)),
                                                      rangingSince := s.time.mono })

/-- STATION_ADJ_RX (R238, R249): an ADJ to its address; its corrections apply to what is aimed 1 ms later or more;
RESULT 0 makes RANGING CONFIRMING, RESULT 2 ends the registration. -/
def execStationAdjRx (u : Nat) (body : Bytes) (s : State) : Res :=
  let x := s.stn u
  guarded (body.length = 8 ∧ uAt body 0 1 = 3 ∧ uAt body 5 1 ≤ 2 ∧ x.joined) s <|
    s.setStn u fun x =>
      let y := x.hearOwn s.time.mono
      if uAt body 5 1 = 2 then y.search
      else
        let at' := (x.estimate s.time.mono).getD 0 + 1000000
        { y with adjust := y.adjust ++ [(at', sAt body 2 2, 5 * sAt body 4 1)],
                 confirms := if x.state = snRanging ∧ uAt body 5 1 = 0 then 0 else y.confirms,
                 state := if x.state = snRanging ∧ uAt body 5 1 = 0 then snConfirming else y.state }

/-- The length of a window that begins at w at the device and that the station may use (R222): the announced DISCOVER
window, or an UP-CONTEND window announced to it. -/
def Stn.window (x : Stn) (w : Stamp) : Option Stamp :=
  match x.contend.find? fun c => c.1 == w with
  | some c => some c.2
  | none => x.discover.bind fun d => if d.1 = w then some d.2 else none

/-- STATION_CONFIRM_SEND (R222, R234, R249): a CONFIRM in a slot of a DISCOVER or UP-CONTEND window that begins at w, once a
window and four times in all; after four without an acknowledgement the station searches. -/
def execStationConfirmSend (w : StationWindow) (s : State) : Res :=
  let u := w.station
  let x := s.stn u
  guarded (x.state = snConfirming) s <|
    if 4 ≤ x.confirms then s.setStn u Stn.search
    else
      match x.window w.window with
      | none => s
      | some len =>
        let (slot, s) := s.drawSlot x w.window len (airLong x.band 0 10)
        match slot with
        | none => s
        | some t =>
          let y := x.adjusted t
          let s := (s.setStn u fun _ => y).sendStation u none (upHeader y tyReg 0) (regShort 3 0 y.uid) (y.startFor t) y.level
          s.setStn u fun x => { x.uses w.window s.time.mono with confirms := x.confirms + 1 }

/-- STATION_RELEASE_TO_SEARCH (R249): a RELEASE that carries its identity. -/
def execStationReleaseToSearch (u : Nat) (body : Bytes) (s : State) : Res :=
  let x := s.stn u
  guarded (body.length = 10 ∧ uAt body 0 1 = 4 ∧ uAt body 1 1 ≤ 4 ∧ x.joined ∧ uAt body 2 8 = x.uid) s
    (s.setStn u fun x => (x.hear s.time.mono).search)

/-! ## QUIET and aligned transmissions (R191, R217, R218, R249) -/

/-- STATION_REFRESH_RX (R191, R249): a downstream REFRESH of this air time; the station is quiet, or leaves QUIET with
this cycle's answer, which is aimed 5 ms after the REFRESH ends. -/
def execStationRefreshRx (u : Nat) (body : Bytes) (airDown : Int) (s : State) : Res :=
  let x := s.stn u
  guarded (body.length = 16 ∧ uAt body 0 1 = 0 ∧ time80Ok body 2 ∧ (x.state = snActive ∨ x.state = snQuiet)) s <|
    s.setStn u fun x =>
      let t := stampOf (slice body 2 10)
      let ends := bit (uAt body 1 1) 0
      { x.hear s.time.mono with
        refreshAt := some (t + airDown + 5000000), interval := uAt body 12 2, nextCycle := t + (uAt body 12 2 : Int) * 1000000,
        leaveQuiet := ends && decide (x.state = snQuiet), state := if ends then x.state else snQuiet }

/-- A RANGE RESP (R237) starts: a long-form frame aimed at AT. -/
def State.stationResp (s : State) (u : Nat) (e t : Stamp) : State :=
  let y := (s.stn u).adjusted t
  let s := s.setStn u fun _ => { y with rangeAt := none }
  s.sendStation u none (upHeader y tyRange 0) ([2, 0] ++ be 2 y.ta.toNat ++ beInt 2 y.level ++ [0, 0]) e y.level

/-- An upstream REFRESH (R120, R191) starts: in all assigned allotments, at the assigned upstream pace. -/
def State.stationRefresh (s : State) (u : Nat) (e t : Stamp) : State :=
  let y := (s.stn u).adjusted t
  let s := s.setStn u fun _ =>
    { y with refreshAt := none, leaveQuiet := false,
             refreshEnd := e + airGrant y.band (max 1 (popCount 64 y.allot)) y.upPace 16,
             state := if y.leaveQuiet then snActive else y.state }
  s.sendStation u (some y.allot) (upHeader y tyRefresh y.upPace) ([0, 0] ++ timeBytes e ++ be 2 y.interval ++ [0, 0]) e y.level

/-- What a DATA or MGMT frame of the station is to be (R112, R124, R137): its header and plaintext, and the station
that has taken its SEQ and its place in its set of fragments. A MGMT frame carries the oldest response that waits, or
the next piece of it, of the body's length; FRAG_NO, SEQ, and the association of a response are the station's. `none`
where a rule forbids the frame. -/
def Stn.compose (x : Stn) (h : Header) (body : Bytes) : Option (Header × Bytes × Stn) :=
  let sets := x.sets.filter fun r => r.tag ≠ h.tag
  let seq := Store.get 0 x.seqs h.tag
  let send (sa : Nat) (plain : Bytes) (y : Stn) : Option (Header × Bytes × Stn) :=
    let n := plain.length + securityBytes sa
    let h' : Header := { upHeader y h.type h.pace with sa := sa, colour := h.colour, tag := h.tag, frag := h.frag }
    if plain = [] ∨ 1536 < n ∨ !y.canProtect sa ∨ ((h.frag = 1 ∨ h.frag = 2) ∧ n < 64) then none
    else if h.frag ≤ 1 then
      some ({ h' with seq := seq }, plain,
        { y with seqs := Store.put 0 y.seqs h.tag ((seq + 1) % 4096),
                 sets := if h.frag = 0 then sets else ⟨h.tag, h.type, sa, h.colour, seq, 1, plain.length⟩ :: sets })
    else
      match x.sets.find? fun r => r.tag == h.tag with
      | none => none
      | some r =>
        if r.type ≠ h.type ∨ r.sa ≠ sa ∨ r.colour ≠ h.colour ∨ 1536 < r.total + plain.length
            ∨ !fragLegal h.frag r.next then none
        else some ({ h' with seq := r.seq, fragNo := r.next }, plain,
          { y with sets := if h.frag = 3 then sets
                     else { r with next := r.next + 1, total := r.total + plain.length } :: sets })
  if h.colour = 3 ∨ !x.supports h.pace then none
  else if h.type = tyData then send h.sa body x
  else
    match x.answers with
    | [] => none
    | r :: l =>
      let whole := decide (r.rest.length ≤ body.length)
      if r.begun ≠ decide (2 ≤ h.frag) ∨ whole ≠ decide (h.frag = 0 ∨ h.frag = 3) then none
      else send r.sa (r.rest.take body.length)
        { x with answers := if whole then l else { r with rest := r.rest.drop body.length, begun := true } :: l }

/-- A DATA or MGMT frame under a grant the station holds (R117, R217, R219): it starts when the estimate reads X −
TA/B for the grant's next X, at no higher pace than UP_PACE, where it fits the rest of the grant and the reach of the
anchor. -/
def State.stationGranted (s : State) (u : Nat) (a : Stamp × Stamp) (e : Stamp) (h : Header) (body : Bytes) : State :=
  let x := s.stn u
  let fits' (g : StnGrant) : Bool :=
    let y := x.adjusted g.next
    decide ((e - y.startFor g.next).natAbs ≤ x.band.ns ∧ g.next - a.1 ≤ x.band.reach ∧ h.pace ≤ g.pace
      ∧ paceD h.pace ≤ popCount 64 g.mask)
  match x.grants.find? fits' with
  | none => s
  | some g =>
    match (x.adjusted g.next).compose h body with
    | none => s
    | some (h, plain, y) =>
      let air := airGrant x.band (max 1 (popCount 64 g.mask)) h.pace (plain.length + securityBytes h.sa)
      if g.stop < g.next + air ∨ !x.silent (x.reading e) (x.reading e + air) then s
      else
        let y := { y with grants := y.grants.map fun r => if r = g then { g with next := g.next + air } else r }
        (s.setStn u fun _ => y).sendStation u (some g.mask) h plain e y.level

/-- A frame in an access slot of the window that begins at w (R217, R222): a RELEASE of the station, after which it searches
(DEDUCED, log entry 207), or, in an UP-CONTEND window, a DATA or MGMT frame in long form. -/
def State.stationSlotted (s : State) (u : Nat) (w : Stamp) (h : Header) (body : Bytes) : State :=
  let x := s.stn u
  match x.window w, (if h.type = tyReg then some (upHeader x tyReg 0, regShort 4 (uAt body 1 1 % 5) x.uid, x)
      else x.compose h body) with
  | some len, some (h, plain, y) =>
    let (slot, s) := s.drawSlot x w len (airLong x.band h.pace (plain.length + securityBytes h.sa))
    if h.type ≠ tyReg ∧ !x.contend.any fun c => c.1 == w then s
    else
      match slot with
      | none => s
      | some t =>
        let y := y.adjusted t
        let s := (s.setStn u fun _ => y).sendStation u none h plain (y.startFor t) y.level
        s.setStn u fun x => let x := x.uses w s.time.mono; if h.type = tyReg then x.search else x
  | _, _ => s

/-- STATION_ALIGNED_TX (R191, R217, R218, R238): a transmission of a joined station starts. A RANGE RESP, an upstream
REFRESH and a frame under a grant start when the estimate reads X − TA/B, to one sample, where X lies within reach of
the latest anchor; a frame of a window w takes a slot of it (R222). A station that is neither CONFIRMING nor ACTIVE
sends nothing but its RESP and its REFRESH (R233, Table 5.5), and nothing while it sends something else (R134). -/
def execStationAlignedTx (u : Nat) (w : Option Stamp) (f : Unsent) (s : State) : Res :=
  let h := f.header
  let x := s.stn u
  match x.anchor with
  | none => ok s
  | some a =>
    let e := a.1 + (s.time.mono - a.2)
    let onTime (t air : Stamp) : Bool :=
      decide ((e - (x.adjusted t).startFor t).natAbs ≤ x.band.ns ∧ t - a.1 ≤ x.band.reach)
        && x.silent s.time.mono (s.time.mono + air)
    let serving := x.state = snConfirming ∨ x.state = snActive
    if h.type = tyRange then
      match x.rangeAt with
      | none => ok s
      | some t => guarded (x.joined ∧ onTime t (airLong x.band 0 8)) s (s.stationResp u e t)
    else if h.type = tyRefresh then
      match x.refreshAt with
      | none => ok s
      | some t => guarded (x.joined ∧ onTime t (airGrant x.band (max 1 (popCount 64 x.allot)) x.upPace 16)) s
          (s.stationRefresh u e t)
    else
      match w with
      | some w => guarded (serving ∧ (h.type ≤ tyMgmt ∨ h.type = tyReg)) s (s.stationSlotted u w h f.body)
      | none => guarded (x.state = snActive ∧ h.type ≤ tyMgmt) s (s.stationGranted u a e h f.body)

/-! ## Timers and the bell (R250, Table 5.6) -/

/-- STATION_T_LOST (R250): 150 s without a downstream frame. -/
def execStationTLost (u : Nat) (s : State) : Res :=
  let x := s.stn u
  guarded (x.state ≠ snSearch ∧ x.lastHeard + 150000000000 ≤ s.time.mono) s (s.setStn u Stn.search)

/-- STATION_RANGING_WAIT (R249): 130 s in RANGING without a RANGE REQ. -/
def execStationRangingWait (u : Nat) (s : State) : Res :=
  let x := s.stn u
  guarded (x.state = snRanging ∧ x.rangingSince + 130000000000 ≤ s.time.mono) s (s.setStn u Stn.search)

/-- STATION_BELL_SEND (R133, R134, R250): the bell at the station's own level, at most once in 10 s, while it sends
nothing else; in QUIET between the station's REFRESH and the next cycle. -/
def execStationBellSend (u : Nat) (s : State) : Res :=
  let x := s.stn u
  let e := (x.estimate s.time.mono).getD 0
  guarded ((x.state = snQuiet ∨ x.state = snSearch) ∧ x.bell ∧ bit (uAt x.caps 14 1) 2
      ∧ x.bellAt.all (fun t => decide (t + 10000000000 ≤ s.time.mono)) ∧ x.silent s.time.mono (s.time.mono + 16384000)
      ∧ (x.state = snQuiet → x.refreshEnd ≤ e ∧ x.refreshAt = none ∧ e + x.ta * (x.band.ns : Int) + 16384000 < x.nextCycle))
    s ((s.emit (.stationBell u e x.level)).setStn u fun x =>
      { x with bellAt := some s.time.mono,
               sends := (s.time.mono, s.time.mono + 16384000) :: x.sends.filter fun t => decide (s.time.mono < t.2) })

/-! ## MGMT (R124, R125, R144, R146, R251) -/

/-- A request of the device to an object of Table 5.7: the status and the value (R251). -/
def Stn.serve (x : Stn) (write : Bool) (index sub element : Nat) : Nat × Bytes :=
  let value : Option Bytes :=
    if element ≠ 0 then none
    else if index = 0x1000 ∧ sub = 0 then some (be 8 x.uid)
    else if index = 0x1001 ∧ sub = 0 then some x.caps
    else if index = 0x1100 ∧ sub = 0 then some x.dsSnr
    else if index = 0x1101 ∧ sub = 1 then some (be 8 x.dsFrames)
    else if index = 0x1101 ∧ sub = 2 then some (be 8 x.dsErrors)
    else if index = 0x1102 ∧ sub = 0 then some (beInt 2 x.level)
    else if index = 0x1103 ∧ sub = 0 then some (be 2 x.ta.toNat)
    else none
  match value with
  | none => (stNoObject, [])
  | some v => if write then (stAccess, []) else (stOk, v)

/-- The station answers a MGMT request once (R124, R125): a repeated REQ_ID gets the response kept. The response waits
for a grant or an access slot of the station, under the association of its request (R146). -/
def State.stationAnswer (s : State) (u : Nat) (sa : Nat) (b : Bytes) : State :=
  let x := s.stn u
  let req := uAt b 1 2
  let write := decide (uAt b 0 1 = 2)
  let (status, v) := x.serve write (uAt b 3 2) (uAt b 5 1) (uAt b 6 3 % 1048576)
  let r := be 1 (uAt b 0 1 + 0x80) ++ slice b 1 8 ++ be 1 status ++ be 2 v.length ++ v
  let r := ((x.kept.filter fun k => k.1 == req).map (·.2)).getD r
  s.setStn u fun x => { x with kept := some (req, r), answers := x.answers ++ [⟨sa, r, false⟩] }

/-! ## Frames of a station (R109 to R111, R121, R138, R139, R143, R144) -/

/-- A frame to the station's own address, or to all, whose header stands (R109 to R111). -/
def Stn.takes (x : Stn) (f : LineRx) : Bool :=
  let h := Header.ofWord f.word
  f.headerOk && checkMatches f.word && headerLegalDown h && x.joined
    && decide (h.dst = 255 ∨ (h.dst = x.address ∧ x.address ≠ 0))

/-- A GRANT is received (R131, R217, R234, R248, R588): its entries for the station are grants it holds, the latest
UP_PACE among them is its assigned pace, an entry acknowledges its CONFIRM; in CONFIRMING and ACTIVE it learns the
announced windows. -/
def Stn.granted (x : Stn) (clock : Stamp) (b : Bytes) : Stn :=
  let base := stampOf (slice b 2 10)
  let es := (List.range (uAt b 1 1)).map fun i => slice b (12 + 20 * i) 20
  let begins (y : Bytes) : Stamp := base + (uAt y 0 4 : Int) * 1000
  let own := es.filter fun y => decide (uAt y 8 1 = x.address ∧ snConfirming ≤ x.state)
  let x := if own = [] then x else x.toActive
  let ahead (t : Stamp) : Bool := decide (clock ≤ x.reading t)
  { x with
    grants := x.grants.filter (fun g => ahead g.stop) ++ own.map fun y =>
      ⟨begins y, begins y + (uAt y 4 4 : Int) * 1000, uAt y 9 1, uAt y 12 8⟩
    upPace := own.foldl (fun _ y => uAt y 9 1) x.upPace
    contend := if x.state = snConfirming ∨ x.state = snActive then
        x.contend.filter (fun c => ahead (c.1 + c.2))
          ++ (es.filter fun y => decide (uAt y 8 1 = 255)).map fun y => (begins y, (uAt y 4 4 : Int) * 1000)
      else x.contend }

/-- A fragment, or a whole frame, reaches a station (R138, R139): the plaintext it completes. DESIGN CHOICE (log entry
208): the fragment timeout is 10 s, the least the spec allows. -/
def State.stationFragment (s : State) (u : Nat) (h : Header) (plain : Bytes) : Option Bytes × State :=
  let is (r : Reasm × Stamp) : Bool := r.1.src == h.dst && r.1.tag == h.tag
  let old := (s.stn u).reasm.find? is
  let (new, _, whole) := reassemble h.dst (old.map (·.1)) h plain (old.any fun r => decide (r.2 < s.time.mono))
  let due := if h.frag = 1 then s.time.mono + 10000000000 else (old.map (·.2)).getD 0
  (whole, s.setStn u fun x => { x with reasm := (new.map fun r => (r, due)).toList ++ x.reasm.filter fun r => !is r })

/-- The plaintext of a frame that the station receives without error (R121): it has heard the frame; a GRANT it obeys,
a whole MGMT request it answers, a whole DATA frame it delivers. STN_DS_SNR is what it measures on its latest frame
(DESIGN CHOICE, log entry 209). -/
def State.stationTake (s : State) (u : Nat) (f : LineRx) (plain : Bytes) : State :=
  let h := Header.ofWord f.word
  if h.frag = 0 ∧ !formatOk false h plain then s
  else
    let s := s.setStn u fun x =>
      let x := x.hear s.time.mono
      { (if h.dst = 255 then x else x.toActive) with dsSnr := (List.range 64).map fun g => BitVec.ofNat 8 (f.snr.getD g 255) }
    if h.type = tyGrant then s.setStn u fun x => x.granted s.time.mono plain
    else
      match s.stationFragment u h plain with
      | (some b, s) =>
        if h.type = tyData then s.emit (.stationData u h.dst h.tag b)
        else if mgmtFormat false b then s.stationAnswer u h.sa b else s
      | (none, s) => s

/-- A frame is received as far as its CRC-32 and its protection go (R114, R143, R144), in this order: association,
packet number, MIC; and what it carries is taken in. Unprotected DATA and MGMT frames are discarded where the ASSIGN
set security required. -/
def State.stationReceive (s : State) (u : Nat) (f : LineRx) : State :=
  let x := s.stn u
  let h := Header.ofWord f.word
  let s := s.setStn u fun x => x.tally h (rxPayload f h).isSome
  match rxPayload f h with
  | none => s
  | some b =>
    if h.sa = 0 then (if x.security ∧ h.type ≤ tyMgmt then s else s.stationTake u f b)
    else
      let pn := uAt b 0 6
      match x.assocs.find? fun a => a.sa == h.sa with
      | none => s
      | some a =>
        if pn ≤ a.rxPn ∨ b.length < 15 then s
        else
          match ccmDecrypt a.key (ccmNonce false h pn) (be 14 h.high) (b.drop 6) with
          | none => s
          | some plain =>
            let s := s.setStn u fun x =>
              { x with assocs := x.assocs.map fun y => if y.sa = h.sa then { y with rxPn := pn } else y }
            s.stationTake u f plain

/-- A frame is protected under an association the station does not hold. -/
def Stn.unbound (x : Stn) (h : Header) : Bool := h.sa != 0 && !x.assocs.any fun a => a.sa == h.sa

/-- STATION_CONFIRM_ACK (R131, R234, R249): a GRANT, or a DATA frame to the station: one that names its address makes
CONFIRMING, and QUIET, ACTIVE; the grants and announcements of a GRANT are the station's from now on. -/
def execStationConfirmAck (u : Nat) (f : LineRx) (s : State) : Res :=
  let h := Header.ofWord f.word
  guarded ((s.stn u).takes f ∧ (h.type = tyGrant ∨ h.type = tyData) ∧ !(s.stn u).unbound h) s (s.stationReceive u f)

/-- STATION_MGMT_REQUEST (R124, R125, R139, R143, R144): a MGMT frame, or a fragment of one, under an association the station
holds or, where security is not required, unprotected. A frame that fails is discarded. -/
def execStationMgmtRequest (u : Nat) (f : LineRx) (s : State) : Res :=
  let h := Header.ofWord f.word
  guarded ((s.stn u).takes f ∧ h.type = tyMgmt ∧ !(s.stn u).unbound h) s (s.stationReceive u f)

/-- STATION_COMMISSIONING_BIND (R146): a protected frame under an association the station does not hold verifies under its
commissioning key: the association is bound to that key, and the frame is taken in. -/
def execStationCommissioningBind (u : Nat) (f : LineRx) (s : State) : Res :=
  let x := s.stn u
  let h := Header.ofWord f.word
  guarded (x.takes f ∧ x.unbound h ∧ bit (uAt x.caps 14 1) 1) s <|
    let s := s.setStn u fun x => x.tally h (rxPayload f h).isSome
    match rxPayload f h with
    | none => s
    | some b =>
      let pn := uAt b 0 6
      match (if b.length < 15 then none
        else ccmDecrypt x.commissioning (ccmNonce false h pn) (be 14 h.high) (b.drop 6)) with
      | none => s
      | some plain =>
        (s.setStn u fun x =>
          { x with assocs := { sa := h.sa, key := x.commissioning, rxPn := pn, txPn := 0 } :: x.assocs }).stationTake u f plain

end Sys2Proof.Machine
end

