-- ==== Sys2Proof/Machine/TimeUnit.lean ====
section
/-! DEFINITION. The time unit (chapter 01): the 1PPS input, holdover, the TSYNC outputs, the realignment of replicas. -/

namespace Sys2Proof.Machine

/-- PPS_EDGE (R28, R29, R31): a rising edge at the 1PPS input, TSYNC_DELAY earlier; it takes the second that TSYNC_TOD
named at least 100 ms before, or one more than the edge before it, and disciplines station time when TSYNC is the
source. -/
def execPpsEdge (s : State) : Res :=
  let edge := s.now - s.rd Reg.TSYNC_DELAY
  let second : Option Int := match s.time.tod with
    | some (sec, at') => if at' + 100000000 ≤ s.now then some sec else s.time.nextSecond
    | none => s.time.nextSecond
  guarded (s.runs ∧ s.flag Reg.TSYNC_PPS_IN) s <|
    match second with
    | none => s
    | some n =>
      let named := s.time.tod.any fun x => decide (x.2 + 100000000 ≤ s.now)
      let s : State := if named then (s.setTime fun fld => { fld with tod := none }).disarm .todEdge else s
      let s := s.setTime fun fld => { fld with nextSecond := some (n + 1) }
      if s.rd Reg.TIME_SOURCE = 1 then s.discipline (n * nsPerSec - edge) else s

/-- TSYNC_TOD_NO_EDGE (R30): 1.5 s without an edge; the value is discarded and a NOTICE logged. -/
def execTsyncTodNoEdge (s : State) : Res :=
  guarded (s.runs ∧ s.passed .todEdge) s <|
    ((s.setTime fun fld => { fld with tod := none }).disarm .todEdge).raise srcTime clsTime 0x01 0xFF 0

/-- TIME_HOLDOVER_TIMEOUT (R33): 3 s without an update while LOCKED; TIME_QUALITY becomes HOLDOVER, with the fault
SOURCE_LOST. -/
def execTimeHoldoverTimeout (s : State) : Res :=
  guarded (s.runs ∧ s.passed .sourceLost ∧ s.rd Reg.TIME_QUALITY_state = tqLocked) s <|
    (((s.setTime fun fld => { fld with goodRun := 0 }).disarm .sourceLost).quality tqHoldover).raise srcTime clsTime 0x03
      0xFF (s.rdN Reg.TIME_SOURCE)

/-- TSYNC_OUT_PULSE (R40): at a whole second of station time TSYNC is driven high for 100 ms. -/
def execTsyncOutPulse (s : State) : Res :=
  let sec := s.now / nsPerSec
  guarded (s.runs ∧ s.flag Reg.TSYNC_OUT ∧ s.now % nsPerSec ≤ 8 ∧ s.time.lastSecond ≠ sec) s
    ((s.setTime fun fld => { fld with lastSecond := sec }).emit (.tsync (sec * nsPerSec) 100000000))

/-- TSYNC_TIMER_PULSE (R40): at the stamp of TSYNC_TIMER_AT TSYNC is driven high for 1 µs. -/
def execTsyncTimerPulse (s : State) : Res :=
  let t := s.rd Reg.TSYNC_TIMER_AT
  guarded (s.runs ∧ s.flag Reg.TSYNC_TIMER ∧ t ≤ s.now ∧ s.now ≤ t + 8 ∧ s.time.timerFired ≠ some t) s
    ((s.setTime fun fld => { fld with timerFired := some t }).emit (.tsync t 1000))

/-- REPLICA_REALIGN (R36): the replica of an island whose clock restarted is realigned, and the island stamps what it had
to hold back, records and faults. -/
def execReplicaRealign (source : Nat) (s : State) : Res :=
  guarded (s.runs ∧ source ∈ s.time.unaligned ∧ !s.stoppedSource source) s <|
    let mine := s.merge.unstamped.filter fun r => r.source == source
    let s := s.setTime fun fld => { fld with unaligned := s.time.unaligned.filter (· ≠ source) }
    let s := s.setMerge fun fld => { fld with unstamped := s.merge.unstamped.filter fun r => r.source != source }
    let late := s.faults.unstamped.filter fun f => f.report.source == source
    let s := s.setFaults fun fld => { fld with
      pending := s.faults.pending ++ late.map (fun f => { f with stamp := s.now }),
      unstamped := s.faults.unstamped.filter fun f => f.report.source != source }
    mine.foldl (fun s r => s.issueAt s.now r.source r.type r.payload r.flags) s

end Sys2Proof.Machine
end

