-- ==== Sys2Proof/Machine/Dispatch.lean ====
section
/-! DEFINITION. The dispatch: one arm per command of the table, each one direct call of its meaning. -/

namespace Sys2Proof.Machine

/-- What command i does to state s, the queue of waiting commands apart (R1). -/
def exec (i : Instr) (s : State) : Host.Outcome State Fault Refusal :=
  match i with
  | .timeParcelReceived side t residence => Sys2Proof.Machine.execTimeParcelReceived side t residence s
  | .timeOriginate => Sys2Proof.Machine.execTimeOriginate s
  | .ppsEdge => Sys2Proof.Machine.execPpsEdge s
  | .stationTimeWrite r => Sys2Proof.Machine.execStationTimeWrite r s
  | .tsyncTodWrite r => Sys2Proof.Machine.execTsyncTodWrite r s
  | .tsyncTodNoEdge => Sys2Proof.Machine.execTsyncTodNoEdge s
  | .timeHoldoverTimeout => Sys2Proof.Machine.execTimeHoldoverTimeout s
  | .tsyncOutPulse => Sys2Proof.Machine.execTsyncOutPulse s
  | .tsyncTimerPulse => Sys2Proof.Machine.execTsyncTimerPulse s
  | .replicaRealign source => Sys2Proof.Machine.execReplicaRealign source s
  | .eventRecordArrives source => Sys2Proof.Machine.execEventRecordArrives source s
  | .mergeRelease => Sys2Proof.Machine.execMergeRelease s
  | .houseFrameStart w => Sys2Proof.Machine.execHouseFrameStart w s
  | .houseSlotStart pending bulk => Sys2Proof.Machine.execHouseSlotStart pending bulk s
  | .slotReclaim => Sys2Proof.Machine.execSlotReclaim s
  | .islandApply isl => Sys2Proof.Machine.execIslandApply isl s
  | .dpdTrainingStart p => Sys2Proof.Machine.execDpdTrainingStart p s
  | .dpdTrainingEnd p coefs residual => Sys2Proof.Machine.execDpdTrainingEnd p coefs residual s
  | .dpdTimeout p => Sys2Proof.Machine.execDpdTimeout p s
  | .syncDetect p y => Sys2Proof.Machine.execSyncDetect p y s
  | .headerDecision p word converged beacon => Sys2Proof.Machine.execHeaderDecision p word converged beacon s
  | .grantFormDecode p sa at' rx => Sys2Proof.Machine.execGrantFormDecode p sa at' rx s
  | .reassemblyTimeout p src tag => Sys2Proof.Machine.execReassemblyTimeout p src tag s
  | .dataFrameRx p f => Sys2Proof.Machine.execDataFrameRx p f s
  | .mgmtResponseRx p f => Sys2Proof.Machine.execMgmtResponseRx p f s
  | .mgmtTimeout p a => Sys2Proof.Machine.execMgmtTimeout p a s
  | .stationMgmtRequest u f => Sys2Proof.Machine.execStationMgmtRequest u f s
  | .stationCommissioningBind u f => Sys2Proof.Machine.execStationCommissioningBind u f s
  | .saKeyWrite p e => Sys2Proof.Machine.execSaKeyWrite p e s
  | .bellDetect p hits => Sys2Proof.Machine.execBellDetect p hits s
  | .ecBlock p b => Sys2Proof.Machine.execEcBlock p b s
  | .guardRun p => Sys2Proof.Machine.execGuardRun p s
  | .erleMeasurementComplete p => Sys2Proof.Machine.execErleMeasurementComplete p s
  | .ecTrainTimeout p => Sys2Proof.Machine.execEcTrainTimeout p s
  | .ecRetrainRequest p => Sys2Proof.Machine.execEcRetrainRequest p s
  | .tapPublication p => Sys2Proof.Machine.execTapPublication p s
  | .soundFreezeEnd p => Sys2Proof.Machine.execSoundFreezeEnd p s
  | .hybridApply p => Sys2Proof.Machine.execHybridApply p s
  | .refreshCycleStart p => Sys2Proof.Machine.execRefreshCycleStart p s
  | .quietGateFailCount p a => Sys2Proof.Machine.execQuietGateFailCount p a s
  | .portEnable p => Sys2Proof.Machine.execPortEnable p s
  | .portDisable p => Sys2Proof.Machine.execPortDisable p s
  | .checkRetry p => Sys2Proof.Machine.execCheckRetry p s
  | .listenEnd p energy => Sys2Proof.Machine.execListenEnd p energy s
  | .discoverEnd p => Sys2Proof.Machine.execDiscoverEnd p s
  | .quietRequest p => Sys2Proof.Machine.execQuietRequest p s
  | .quietExit p => Sys2Proof.Machine.execQuietExit p s
  | .portPark p => Sys2Proof.Machine.execPortPark p s
  | .portUnpark p => Sys2Proof.Machine.execPortUnpark p s
  | .bandChange p => Sys2Proof.Machine.execBandChange p s
  | .beaconSend p => Sys2Proof.Machine.execBeaconSend p s
  | .regRequestRx p f => Sys2Proof.Machine.execRegRequestRx p f s
  | .regConfirmRx p f => Sys2Proof.Machine.execRegConfirmRx p f s
  | .elementExpire p a => Sys2Proof.Machine.execElementExpire p a s
  | .hostRelease p a => Sys2Proof.Machine.execHostRelease p a s
  | .stationReleaseRx p f => Sys2Proof.Machine.execStationReleaseRx p f s
  | .rangeRespRx p f => Sys2Proof.Machine.execRangeRespRx p f s
  | .rangingAttemptsExhausted p a => Sys2Proof.Machine.execRangingAttemptsExhausted p a s
  | .paceEvaluation p a k probe => Sys2Proof.Machine.execPaceEvaluation p a k probe s
  | .stationAnchor u named => Sys2Proof.Machine.execStationAnchor u named s
  | .stationBeaconRx u f => Sys2Proof.Machine.execStationBeaconRx u f s
  | .stationRegRequestSend u => Sys2Proof.Machine.execStationRegRequestSend u s
  | .stationRequestUnanswered u txStamp => Sys2Proof.Machine.execStationRequestUnanswered u txStamp s
  | .stationAssignRx u body => Sys2Proof.Machine.execStationAssignRx u body s
  | .stationRefuseRx u body => Sys2Proof.Machine.execStationRefuseRx u body s
  | .stationRefuseWaitEnd u => Sys2Proof.Machine.execStationRefuseWaitEnd u s
  | .stationRangeReqRx u body => Sys2Proof.Machine.execStationRangeReqRx u body s
  | .stationAdjRx u body => Sys2Proof.Machine.execStationAdjRx u body s
  | .stationConfirmSend w => Sys2Proof.Machine.execStationConfirmSend w s
  | .stationConfirmAck u f => Sys2Proof.Machine.execStationConfirmAck u f s
  | .stationReleaseToSearch u body => Sys2Proof.Machine.execStationReleaseToSearch u body s
  | .stationRefreshRx u body airDown => Sys2Proof.Machine.execStationRefreshRx u body airDown s
  | .stationAlignedTx u w f => Sys2Proof.Machine.execStationAlignedTx u w f s
  | .stationTLost u => Sys2Proof.Machine.execStationTLost u s
  | .stationRangingWait u => Sys2Proof.Machine.execStationRangingWait u s
  | .stationBellSend u => Sys2Proof.Machine.execStationBellSend u s
  | .windowStart p => Sys2Proof.Machine.execWindowStart p s
  | .sweepSetupEnd p => Sys2Proof.Machine.execSweepSetupEnd p s
  | .sweepRecordEnd p r => Sys2Proof.Machine.execSweepRecordEnd p r s
  | .bandComplete p => Sys2Proof.Machine.execBandComplete p s
  | .cellUpdate p => Sys2Proof.Machine.execCellUpdate p s
  | .cellStale p cell => Sys2Proof.Machine.execCellStale p cell s
  | .loopMeasurement p mohm => Sys2Proof.Machine.execLoopMeasurement p mohm s
  | .insulationStart p => Sys2Proof.Machine.execInsulationStart p s
  | .insulationResult p m => Sys2Proof.Machine.execInsulationResult p m s
  | .focusRequest p => Sys2Proof.Machine.execFocusRequest p s
  | .focusExpire p => Sys2Proof.Machine.execFocusExpire p s
  | .focusComplete p => Sys2Proof.Machine.execFocusComplete p s
  | .lastCaptureStart p => Sys2Proof.Machine.execLastCaptureStart p s
  | .lastCaptureEnd p => Sys2Proof.Machine.execLastCaptureEnd p s
  | .lastLoad p => Sys2Proof.Machine.execLastLoad p s
  | .lastInvalidate p => Sys2Proof.Machine.execLastInvalidate p s
  | .readoutStart p => Sys2Proof.Machine.execReadoutStart p s
  | .readoutEnd p => Sys2Proof.Machine.execReadoutEnd p s
  | .grantSend p => Sys2Proof.Machine.execGrantSend p s
  | .downFreeInstant p => Sys2Proof.Machine.execDownFreeInstant p s
  | .itinArm p => Sys2Proof.Machine.execItinArm p s
  | .itinSwitch p => Sys2Proof.Machine.execItinSwitch p s
  | .dataParcelDown side payload => Sys2Proof.Machine.execDataParcelDown side payload s
  | .queueHeadCheck q => Sys2Proof.Machine.execQueueHeadCheck q s
  | .queueFlush q => Sys2Proof.Machine.execQueueFlush q s
  | .flowControlWrite flow => Sys2Proof.Machine.execFlowControlWrite flow s
  | .flowCacheFill flow => Sys2Proof.Machine.execFlowCacheFill flow s
  | .flowWriteback flow => Sys2Proof.Machine.execFlowWriteback flow s
  | .refillTick => Sys2Proof.Machine.execRefillTick s
  | .samplesClear => Sys2Proof.Machine.execSamplesClear s
  | .pfDetectPulse side sensed => Sys2Proof.Machine.execPfDetectPulse side sensed s
  | .pfTrainBlock side lane block => Sys2Proof.Machine.execPfTrainBlock side lane block s
  | .pfTrainTimeout side => Sys2Proof.Machine.execPfTrainTimeout side s
  | .pfBlockLock side lane => Sys2Proof.Machine.execPfBlockLock side lane s
  | .pfLacingDone side laced skews => Sys2Proof.Machine.execPfLacingDone side laced skews s
  | .pfLockTimeout side => Sys2Proof.Machine.execPfLockTimeout side s
  | .pfCapsRx side block => Sys2Proof.Machine.execPfCapsRx side block s
  | .pfExchangeTimeout side => Sys2Proof.Machine.execPfExchangeTimeout side s
  | .pfEyeletRx side lane block parity locked => Sys2Proof.Machine.execPfEyeletRx side lane block parity locked s
  | .pfLockLoss side lane => Sys2Proof.Machine.execPfLockLoss side lane s
  | .widthParcelRx side good => Sys2Proof.Machine.execWidthParcelRx side good s
  | .pfWidthDropTimeout side => Sys2Proof.Machine.execPfWidthDropTimeout side s
  | .pfRetrainRequest side => Sys2Proof.Machine.execPfRetrainRequest side s
  | .pfIdleEntrySend side => Sys2Proof.Machine.execPfIdleEntrySend side s
  | .pfIdleEntryRx side => Sys2Proof.Machine.execPfIdleEntryRx side s
  | .pfFastExit side => Sys2Proof.Machine.execPfFastExit side s
  | .pfBipCheck side lane => Sys2Proof.Machine.execPfBipCheck side lane s
  | .pfTestStart side => Sys2Proof.Machine.execPfTestStart side s
  | .pfTestEnd side prbs => Sys2Proof.Machine.execPfTestEnd side prbs s
  | .parcelForward side raw => Sys2Proof.Machine.execParcelForward side raw s
  | .flowCtrlRx side body => Sys2Proof.Machine.execFlowCtrlRx side body s
  | .flowCtrlSend side => Sys2Proof.Machine.execFlowCtrlSend side s
  | .replayTimeout side => Sys2Proof.Machine.execReplayTimeout side s
  | .delayReqSend side => Sys2Proof.Machine.execDelayReqSend side s
  | .delayReqRx side ident turnaround => Sys2Proof.Machine.execDelayReqRx side ident turnaround s
  | .delayRespRx side ident turnaround => Sys2Proof.Machine.execDelayRespRx side ident turnaround s
  | .probeOriginate => Sys2Proof.Machine.execProbeOriginate s
  | .probeRx side body => Sys2Proof.Machine.execProbeRx side body s
  | .headLoss side body => Sys2Proof.Machine.execHeadLoss side body s
  | .statusSend => Sys2Proof.Machine.execStatusSend s
  | .statusRx dev body => Sys2Proof.Machine.execStatusRx dev body s
  | .topologyEntryAbsent dev => Sys2Proof.Machine.execTopologyEntryAbsent dev s
  | .standbyTakeover => Sys2Proof.Machine.execStandbyTakeover s
  | .failover side body => Sys2Proof.Machine.execFailover side body s
  | .handOver => Sys2Proof.Machine.execHandOver s
  | .relinquish side => Sys2Proof.Machine.execRelinquish side s
  | .waitParcel side bcast => Sys2Proof.Machine.execWaitParcel side bcast s
  | .wakeParcel => Sys2Proof.Machine.execWakeParcel s
  | .izvasRead r => Sys2Proof.Machine.execIzvasRead r s
  | .izvasWrite r => Sys2Proof.Machine.execIzvasWrite r s
  | .readStaged r => Sys2Proof.Machine.execReadStaged r s
  | .discardStaged r => Sys2Proof.Machine.execDiscardStaged r s
  | .openSession r => Sys2Proof.Machine.execOpenSession r s
  | .authSession r => Sys2Proof.Machine.execAuthSession r s
  | .closeSession r => Sys2Proof.Machine.execCloseSession r s
  | .authTimeout k => Sys2Proof.Machine.execAuthTimeout k s
  | .authLockoutEnd => Sys2Proof.Machine.execAuthLockoutEnd s
  | .sessionIdleTimeout k => Sys2Proof.Machine.execSessionIdleTimeout k s
  | .commit r => Sys2Proof.Machine.execCommit r s
  | .commitCheckStart => Sys2Proof.Machine.execCommitCheckStart s
  | .proxyRead r => Sys2Proof.Machine.execProxyRead r s
  | .proxyWrite r => Sys2Proof.Machine.execProxyWrite r s
  | .proxyDispatch p a => Sys2Proof.Machine.execProxyDispatch p a s
  | .perfLevelChange unit => Sys2Proof.Machine.execPerfLevelChange unit s
  | .entryStepAdvance m => Sys2Proof.Machine.execEntryStepAdvance m s
  | .entryRefused m => Sys2Proof.Machine.execEntryRefused m s
  | .wakeDetect w => Sys2Proof.Machine.execWakeDetect w s
  | .wakeClampsRelease => Sys2Proof.Machine.execWakeClampsRelease s
  | .thermosCheck failed counter => Sys2Proof.Machine.execThermosCheck failed counter s
  | .clockSelect => Sys2Proof.Machine.execClockSelect s
  | .clockSelected => Sys2Proof.Machine.execClockSelected s
  | .rhoMeasure rho => Sys2Proof.Machine.execRhoMeasure rho s
  | .rhoRecheck rho => Sys2Proof.Machine.execRhoRecheck rho s
  | .aoBrownout => Sys2Proof.Machine.execAoBrownout s
  | .faultRaise f => Sys2Proof.Machine.execFaultRaise f s
  | .faultCycleDecision => Sys2Proof.Machine.execFaultCycleDecision s
  | .faultReset acked => Sys2Proof.Machine.execFaultReset acked s
  | .faultAck r => Sys2Proof.Machine.execFaultAck r s
  | .watchdogExpiry => Sys2Proof.Machine.execWatchdogExpiry s
  | .eccWordCorrected page => Sys2Proof.Machine.execEccWordCorrected page s
  | .pageRetire page region => Sys2Proof.Machine.execPageRetire page region s
  | .pageCopyDone page => Sys2Proof.Machine.execPageCopyDone page s
  | .fenceClear e => Sys2Proof.Machine.execFenceClear e s
  | .selfTestDone e passed => Sys2Proof.Machine.execSelfTestDone e passed s
  | .stewardRestartDone patch => Sys2Proof.Machine.execStewardRestartDone patch s
  | .faultInject r => Sys2Proof.Machine.execFaultInject r s
  | .faultInjectFire => Sys2Proof.Machine.execFaultInjectFire s
  | .converterGroupStart => Sys2Proof.Machine.execConverterGroupStart s
  | .calRunEnd p run => Sys2Proof.Machine.execCalRunEnd p run s
  | .linePhaseStart p => Sys2Proof.Machine.execLinePhaseStart p s
  | .hybridRunNotQuiet p level => Sys2Proof.Machine.execHybridRunNotQuiet p level s
  | .hybridCalRequest p => Sys2Proof.Machine.execHybridCalRequest p s
  | .periodicRecalDue p => Sys2Proof.Machine.execPeriodicRecalDue p s
  | .periodicOverdue p => Sys2Proof.Machine.execPeriodicOverdue p s
  | .calRestore p => Sys2Proof.Machine.execCalRestore p s
  | .correctionEffect p => Sys2Proof.Machine.execCorrectionEffect p s
  | .refresCheck mohm => Sys2Proof.Machine.execRefresCheck mohm s
  | .refclkCheck hz => Sys2Proof.Machine.execRefclkCheck hz s
  | .hamperStart href rom => Sys2Proof.Machine.execHamperStart href rom s
  | .hamperSample m => Sys2Proof.Machine.execHamperSample m s
  | .flowPulse path => Sys2Proof.Machine.execFlowPulse path s
  | .tamper => Sys2Proof.Machine.execTamper s
  | .tamperEnd => Sys2Proof.Machine.execTamperEnd s
  | .romCheck rom => Sys2Proof.Machine.execRomCheck rom s
  | .readRegisters frame => Sys2Proof.Machine.execReadRegisters frame s
  | .readLog frame => Sys2Proof.Machine.execReadLog frame s
  | .timeOffer frame => Sys2Proof.Machine.execTimeOffer frame s
  | .localReadId frame => Sys2Proof.Machine.execLocalReadId frame s
  | .localReadRegisters frame => Sys2Proof.Machine.execLocalReadRegisters frame s
  | .localReadLog frame => Sys2Proof.Machine.execLocalReadLog frame s
  | .localTimeOffer frame => Sys2Proof.Machine.execLocalTimeOffer frame s
  | .writeConfig frame => Sys2Proof.Machine.execWriteConfig frame s
  | .programCal frame readback => Sys2Proof.Machine.execProgramCal frame readback s
  | .setClock frame => Sys2Proof.Machine.execSetClock frame s
  | .sealHamper frame => Sys2Proof.Machine.execSealHamper frame s
  | .hmpStatusRx frame => Sys2Proof.Machine.execHmpStatusRx frame s
  | .hmpSnapshotRx frame => Sys2Proof.Machine.execHmpSnapshotRx frame s
  | .hmpLogRx frame => Sys2Proof.Machine.execHmpLogRx frame s
  | .hmpTimeResultRx frame => Sys2Proof.Machine.execHmpTimeResultRx frame s
  | .hmpPoll => Sys2Proof.Machine.execHmpPoll s
  | .hmpTimeOfferSend => Sys2Proof.Machine.execHmpTimeOfferSend s
  | .requestTimeout => Sys2Proof.Machine.execRequestTimeout s
  | .laneSilent => Sys2Proof.Machine.execLaneSilent s
  | .porstN width => Sys2Proof.Machine.execPorstN width s
  | .vioLow mv => Sys2Proof.Machine.execVioLow mv s
  | .railOutOfRange rail mv => Sys2Proof.Machine.execRailOutOfRange rail mv s
  | .railUndervolt rail mv => Sys2Proof.Machine.execRailUndervolt rail mv s
  | .railResetRelease => Sys2Proof.Machine.execRailResetRelease s
  | .vldOutOfRange mv => Sys2Proof.Machine.execVldOutOfRange mv s
  | .vldRestored mv => Sys2Proof.Machine.execVldRestored mv s
  | .resetRequest r => Sys2Proof.Machine.execResetRequest r s
  | .hostReset => Sys2Proof.Machine.execHostReset s
  | .thermalTrip tj => Sys2Proof.Machine.execThermalTrip tj s
  | .junctionSample tj => Sys2Proof.Machine.execJunctionSample tj s
  | .fuseLoadDone straps patch => Sys2Proof.Machine.execFuseLoadDone straps patch s
  | .dramWipeDone => Sys2Proof.Machine.execDramWipeDone s
  | .lcStateCommit readback => Sys2Proof.Machine.execLcStateCommit readback s
  | .extest => Sys2Proof.Machine.execExtest s
  | .idcode => Sys2Proof.Machine.execIdcode s
  | .samplePreload => Sys2Proof.Machine.execSamplePreload s
  | .extestPulse => Sys2Proof.Machine.execExtestPulse s
  | .extestTrain => Sys2Proof.Machine.execExtestTrain s
  | .highz => Sys2Proof.Machine.execHighz s
  | .clampBalls => Sys2Proof.Machine.execClampBalls s
  | .keyLoad word => Sys2Proof.Machine.execKeyLoad word s
  | .keyProg readback => Sys2Proof.Machine.execKeyProg readback s
  | .lcAdvance => Sys2Proof.Machine.execLcAdvance s
  | .bypass => Sys2Proof.Machine.execBypass s
  | .trstN => Sys2Proof.Machine.execTrstN s
  | .tapLeaveBalls => Sys2Proof.Machine.execTapLeaveBalls s
  | .pfExchangeHoldoffEnd side => Sys2Proof.Machine.execPfExchangeHoldoffEnd side s
  | .pfRxReady side lane => Sys2Proof.Machine.execPfRxReady side lane s
  | .vhmpLoss => Sys2Proof.Machine.execVhmpLoss s
  | .vioRestored mv => Sys2Proof.Machine.execVioRestored mv s
  | .perfLevelRampDone unit => Sys2Proof.Machine.execPerfLevelRampDone unit s

end Sys2Proof.Machine
end

