-- ==== Sys2Proof/Machine/Tick.lean ====
section
/-! DEFINITION. What 4 ns of station time bring with no command waiting (log entry 1). -/

namespace Sys2Proof.Machine

/-- The ns by which the slew moves station time in a tick: 1 ns in 5,000 ticks of 4 ns is 50 ppm (R31). -/
def TimeState.slewStep (t : TimeState) : Int :=
  if t.slewTicks + 1 < 5000 then 0 else if 0 < t.slew then 1 else if t.slew < 0 then -1 else 0

/-- The time unit after a tick: 4 ns more, the slew, the rate correction of R482. -/
def TimeState.tick (t : TimeState) : TimeState :=
  let d := t.slewStep
  let acc := t.rateAcc + 4 * t.rateCorr
  { t with now := t.now + 4 + d + acc / 1000000000, mono := t.mono + 4, slew := t.slew - d,
           slewTicks := if t.slew = 0 then 0 else (t.slewTicks + 1) % 5000, rateAcc := acc % 1000000000 }

/-- A tick: station time advances, and transmissions that have ended are settled (R357). -/
def State.tick (s : State) : State :=
  (List.finRange 32).foldl State.settle (s.setTime fun _ => s.time.tick)

end Sys2Proof.Machine
end

