-- ==== Sys2Proof/Safety.lean ====
section
/-! DEFINITION. What the claims are made of: a command that completes, a safe step, which commands belong to the hamper die,
which blow fuses, the records the block has delivered, the faults it has raised, and the conditions that every step keeps. -/

namespace Sys2Proof.Machine

/-- Command i completes in s: it answers a next state, of which P holds. -/
def Completes (i : Instr) (s : State) (P : State → Prop) : Prop := ∃ t, exec i s = .next t ∧ P t

/-- A step that ends in a next state: neither a fault nor a refusal. -/
def Safe (s : State) : Prop := ∃ t, step s = .next t

/-- The event records delivered, newest first (R44). -/
def eventsOf (l : List Out) : List Rec := l.filterMap fun o => match o with | .event r => some r | _ => none

/-- A fault as it waits for its decision, stamped in s: source, class, code, UNIT, DETAIL, severity (R487, R489). -/
def State.faultNow (s : State) (src c k u d sev : Nat) : PendFault := ⟨s.now, ⟨src, c, k, u, d⟩, sev, false⟩

/-- The faults of s with one more that waits: for its decision, or for its stamp where its source's replica is not aligned
(R36). -/
def State.reported (s : State) (src c k u d sev : Nat) : FaultState :=
  if src ∈ s.time.unaligned then { s.faults with unstamped := s.faults.unstamped ++ [s.faultNow src c k u d sev] }
  else { s.faults with pending := s.faults.pending ++ [s.faultNow src c k u d sev] }

/-- t is s after a cold reset with RESET_CAUSE as given (R10, R566): every object at its default, every port and timer as at
reset, the islands held; fuses, hamper, stations, what has left the block and what waits stay. -/
abbrev ColdReset (s : State) (cause : Bytes) (t : State) : Prop :=
  t.regs = [] ∧ t.blobs = [] ∧ t.ports = State.reset.ports ∧ t.timers = State.reset.timers ∧ t.iz = State.reset.iz
    ∧ t.faults = State.reset.faults ∧ t.rst.cause = cause ∧ t.rst.hold ≠ 0 ∧ t.fuses = s.fuses ∧ t.hamper = s.hamper
    ∧ t.stations = s.stations ∧ t.out = s.out ∧ t.pending = s.pending

/-- The commands whose effect is on the hamper die (Table 14.9, Table 14.8, chapter 14). -/
def hamperDie : Instr → Bool
  | .hamperStart _ _ | .hamperSample _ | .flowPulse _ | .tamper | .tamperEnd | .romCheck _ | .readRegisters _ | .readLog _
  | .timeOffer _ | .localReadId _ | .localReadRegisters _ | .localReadLog _ | .localTimeOffer _ | .writeConfig _
  | .programCal _ _ | .setClock _ | .sealHamper _ | .vhmpLoss => true
  | _ => false

/-- The commands that may blow fuses of the digital die (R580, R581). -/
def blowsFuses : Instr → Bool
  | .fuseLoadDone _ _ | .lcStateCommit _ | .keyProg _ | .lcAdvance => true
  | _ => false

/-- The life-cycle state is one of Table 15.15. -/
def State.lifeCycleOk (s : State) : Bool := decide (s.fuses.lifeCycle ≤ 3)

end Sys2Proof.Machine
end

