-- ==== Sys2Proof/WellFormed.lean ====
section
/-! DEFINITION. Which commands the hardware can deliver: every operand within the range the spec gives what it stands
for. The meanings are total; a command that is not well-formed is one that nothing outside can send. -/

namespace Sys2Proof

/-- n fits in w bits. -/
def fits (w n : Nat) : Bool := decide (n < 2 ^ w)
/-- n lies below a bound. -/
def below (m n : Nat) : Bool := decide (n < m)
/-- A byte string of a stated length. -/
def sized (n : Nat) (b : Bytes) : Bool := decide (b.length = n)
/-- A stamp with the granularity of R37. -/
def tick (t : Stamp) : Bool := decide (t % 4 = 0)

/-- Table 3.1: every field within its width. -/
def Header.wf (h : Header) : Bool :=
  fits 2 h.ver && fits 8 h.dst && fits 8 h.src && fits 4 h.type && fits 5 h.pace && fits 11 h.length && fits 2 h.colour
    && fits 8 h.sa && fits 23 h.seed && fits 7 h.tag && fits 2 h.frag && fits 5 h.fragNo && fits 12 h.seq
/-- A received frame: its header is 128 bits, and it has one SNR byte for each allotment. -/
def LineRx.wf (f : LineRx) : Bool := tick f.sync && fits 128 f.word && decide (f.snr.length = 64) && f.snr.all (fits 8)
/-- A detected sync is stamped to 4 ns (R37). -/
def SyncMeas.wf (y : SyncMeas) : Bool := tick y.stamp
/-- Table 9.12: QUALITY is one byte and CORRECTION an I64. -/
def TimeParcel.wf (t : TimeParcel) : Bool :=
  fits 8 t.quality && decide (-9223372036854775808 ≤ t.correction ∧ t.correction ≤ 9223372036854775807)
/-- Table 10.4: every field of a request within its width. -/
def IzReq.wf (r : IzReq) : Bool :=
  fits 8 r.op && fits 8 r.session && fits 16 r.tag && fits 16 r.index && fits 8 r.sub && fits 16 r.count
    && fits 16 r.dataLen && fits 32 r.offset && fits 16 r.rIndex && fits 8 r.rSub && fits 64 r.counter
    && decide (r.data.length < 4096)
/-- Table 12.2: every field of a fault record within its width. -/
def FaultReport.wf (f : FaultReport) : Bool :=
  fits 16 f.source && fits 8 f.cls && fits 8 f.code && fits 8 f.unit && fits 32 f.detail
/-- Table 5.7: STN_DS_SNR has 64 bytes, the counters are U64. -/
def StationProbe.wf (x : StationProbe) : Bool :=
  decide (x.snr.length = 64) && x.snr.all (fits 8) && fits 64 x.frames && fits 64 x.errors
/-- The CRC and the version are U32. -/
def PatchCheck.wf (x : PatchCheck) : Bool := fits 32 x.crc && fits 32 x.version
/-- CRC-32 values. -/
def RomCheck.wf (x : RomCheck) : Bool := fits 32 x.recorded && fits 32 x.found

/-- A command the hardware can deliver. -/
def Instr.wf (i : Instr) : Bool :=
  match i with
  | .timeParcelReceived _ t _ => t.wf
  | .timeOriginate => true
  | .ppsEdge => true
  | .stationTimeWrite r => r.wf
  | .tsyncTodWrite r => r.wf
  | .tsyncTodNoEdge => true
  | .timeHoldoverTimeout => true
  | .tsyncOutPulse => true
  | .tsyncTimerPulse => true
  | .replicaRealign source => fits 16 source
  | .eventRecordArrives source => fits 16 source
  | .mergeRelease => true
  | .houseFrameStart _ => true
  | .houseSlotStart _ _ => true
  | .slotReclaim => true
  | .islandApply _ => true
  | .dpdTrainingStart _ => true
  | .dpdTrainingEnd _ coefs _ => sized 80 coefs
  | .dpdTimeout _ => true
  | .syncDetect _ y => y.run.wf && y.near.all SyncMeas.wf
  | .headerDecision _ word _ _ => fits 128 word
  | .grantFormDecode _ sa at' rx => fits 8 sa && tick at' && rx.all LineRx.wf
  | .reassemblyTimeout _ src tag => fits 8 src && fits 7 tag
  | .dataFrameRx _ f => f.wf
  | .mgmtResponseRx _ f => f.wf
  | .mgmtTimeout _ a => fits 8 a
  | .stationMgmtRequest _ f => f.wf
  | .stationCommissioningBind _ f => f.wf
  | .saKeyWrite _ e => fits 8 e
  | .bellDetect _ hits => decide (hits.length = 16)
  | .ecBlock _ _ => true
  | .guardRun _ => true
  | .erleMeasurementComplete _ => true
  | .ecTrainTimeout _ => true
  | .ecRetrainRequest _ => true
  | .tapPublication _ => true
  | .soundFreezeEnd _ => true
  | .hybridApply _ => true
  | .refreshCycleStart _ => true
  | .quietGateFailCount _ a => fits 8 a
  | .portEnable _ => true
  | .portDisable _ => true
  | .checkRetry _ => true
  | .listenEnd _ energy => sized 64 energy
  | .discoverEnd _ => true
  | .quietRequest _ => true
  | .quietExit _ => true
  | .portPark _ => true
  | .portUnpark _ => true
  | .bandChange _ => true
  | .beaconSend _ => true
  | .regRequestRx _ f => f.wf
  | .regConfirmRx _ f => f.wf
  | .elementExpire _ a => fits 8 a
  | .hostRelease _ a => fits 8 a
  | .stationReleaseRx _ f => f.wf
  | .rangeRespRx _ f => f.wf
  | .rangingAttemptsExhausted _ a => fits 8 a
  | .paceEvaluation _ a _ probe => fits 8 a && probe.wf
  | .stationAnchor _ _ => true
  | .stationBeaconRx _ f => fits 8 f.snr
  | .stationRegRequestSend _ => true
  | .stationRequestUnanswered _ _ => true
  | .stationAssignRx _ _ => true
  | .stationRefuseRx _ _ => true
  | .stationRefuseWaitEnd _ => true
  | .stationRangeReqRx _ _ => true
  | .stationAdjRx _ _ => true
  | .stationConfirmSend _ => true
  | .stationConfirmAck _ f => f.wf
  | .stationReleaseToSearch _ _ => true
  | .stationRefreshRx _ _ _ => true
  | .stationAlignedTx _ _ f => f.header.wf
  | .stationTLost _ => true
  | .stationRangingWait _ => true
  | .stationBellSend _ => true
  | .windowStart _ => true
  | .sweepSetupEnd _ => true
  | .sweepRecordEnd _ _ => true
  | .bandComplete _ => true
  | .cellUpdate _ => true
  | .cellStale _ cell => below 163840 cell
  | .loopMeasurement _ _ => true
  | .insulationStart _ => true
  | .insulationResult _ _ => true
  | .focusRequest _ => true
  | .focusExpire _ => true
  | .focusComplete _ => true
  | .lastCaptureStart _ => true
  | .lastCaptureEnd _ => true
  | .lastLoad _ => true
  | .lastInvalidate _ => true
  | .readoutStart _ => true
  | .readoutEnd _ => true
  | .grantSend _ => true
  | .downFreeInstant _ => true
  | .itinArm _ => true
  | .itinSwitch _ => true
  | .dataParcelDown _ _ => true
  | .queueHeadCheck q => fits 12 q
  | .queueFlush q => fits 12 q
  | .flowControlWrite flow => fits 20 flow
  | .flowCacheFill flow => fits 20 flow
  | .flowWriteback flow => fits 20 flow
  | .refillTick => true
  | .samplesClear => true
  | .pfDetectPulse _ sensed => fits 4 sensed
  | .pfTrainBlock _ _ block => sized 8 block
  | .pfTrainTimeout _ => true
  | .pfBlockLock _ _ => true
  | .pfLacingDone _ laced skews => fits 4 laced && skews.all (fits 64)
  | .pfLockTimeout _ => true
  | .pfCapsRx _ block => sized 8 block
  | .pfExchangeTimeout _ => true
  | .pfEyeletRx _ _ block parity _ => sized 8 block && fits 8 parity
  | .pfLockLoss _ _ => true
  | .widthParcelRx _ good => fits 4 good
  | .pfWidthDropTimeout _ => true
  | .pfRetrainRequest _ => true
  | .pfIdleEntrySend _ => true
  | .pfIdleEntryRx _ => true
  | .pfFastExit _ => true
  | .pfBipCheck _ _ => true
  | .pfTestStart _ => true
  | .pfTestEnd _ prbs => prbs.all (fits 64)
  | .parcelForward _ _ => true
  | .flowCtrlRx _ _ => true
  | .flowCtrlSend _ => true
  | .replayTimeout _ => true
  | .delayReqSend _ => true
  | .delayReqRx _ ident _ => fits 8 ident
  | .delayRespRx _ ident _ => fits 8 ident
  | .probeOriginate => true
  | .probeRx _ _ => true
  | .headLoss _ _ => true
  | .statusSend => true
  | .statusRx _ _ => true
  | .topologyEntryAbsent _ => true
  | .standbyTakeover => true
  | .failover _ _ => true
  | .handOver => true
  | .relinquish _ => true
  | .waitParcel _ _ => true
  | .wakeParcel => true
  | .izvasRead r => r.wf
  | .izvasWrite r => r.wf
  | .readStaged r => r.wf
  | .discardStaged r => r.wf
  | .openSession r => r.wf
  | .authSession r => r.wf
  | .closeSession r => r.wf
  | .authTimeout _ => true
  | .authLockoutEnd => true
  | .sessionIdleTimeout _ => true
  | .commit r => r.wf
  | .commitCheckStart => true
  | .proxyRead r => r.wf
  | .proxyWrite r => r.wf
  | .proxyDispatch _ a => fits 8 a
  | .perfLevelChange _ => true
  | .entryStepAdvance _ => true
  | .entryRefused _ => true
  | .wakeDetect _ => true
  | .wakeClampsRelease => true
  | .thermosCheck failed _ => failed.all (below 8)
  | .clockSelect => true
  | .clockSelected => true
  | .rhoMeasure _ => true
  | .rhoRecheck _ => true
  | .aoBrownout => true
  | .faultRaise f => f.wf
  | .faultCycleDecision => true
  | .faultReset _ => true
  | .faultAck r => r.wf
  | .watchdogExpiry => true
  | .eccWordCorrected page => page.all (below 2048)
  | .pageRetire page _ => below 2048 page
  | .pageCopyDone page => below 2048 page
  | .fenceClear _ => true
  | .selfTestDone _ _ => true
  | .stewardRestartDone patch => patch.wf
  | .faultInject r => r.wf
  | .faultInjectFire => true
  | .converterGroupStart => true
  | .calRunEnd _ _ => true
  | .linePhaseStart _ => true
  | .hybridRunNotQuiet _ _ => true
  | .hybridCalRequest _ => true
  | .periodicRecalDue _ => true
  | .periodicOverdue _ => true
  | .calRestore _ => true
  | .correctionEffect _ => true
  | .refresCheck _ => true
  | .refclkCheck _ => true
  | .hamperStart _ rom => rom.wf
  | .hamperSample _ => true
  | .flowPulse _ => true
  | .tamper => true
  | .tamperEnd => true
  | .romCheck rom => rom.wf
  | .readRegisters _ => true
  | .readLog _ => true
  | .timeOffer _ => true
  | .localReadId _ => true
  | .localReadRegisters _ => true
  | .localReadLog _ => true
  | .localTimeOffer _ => true
  | .writeConfig _ => true
  | .programCal _ _ => true
  | .setClock _ => true
  | .sealHamper _ => true
  | .hmpStatusRx _ => true
  | .hmpSnapshotRx _ => true
  | .hmpLogRx _ => true
  | .hmpTimeResultRx _ => true
  | .hmpPoll => true
  | .hmpTimeOfferSend => true
  | .requestTimeout => true
  | .laneSilent => true
  | .porstN _ => true
  | .vioLow _ => true
  | .railOutOfRange _ _ => true
  | .railUndervolt _ _ => true
  | .railResetRelease => true
  | .vldOutOfRange _ => true
  | .vldRestored _ => true
  | .resetRequest r => r.wf
  | .hostReset => true
  | .thermalTrip _ => true
  | .junctionSample _ => true
  | .fuseLoadDone _ patch => patch.wf
  | .dramWipeDone => true
  | .lcStateCommit _ => true
  | .extest => true
  | .idcode => true
  | .samplePreload => true
  | .extestPulse => true
  | .extestTrain => true
  | .highz => true
  | .clampBalls => true
  | .keyLoad word => fits 264 word
  | .keyProg readback => fits 256 readback
  | .lcAdvance => true
  | .bypass => true
  | .trstN => true
  | .tapLeaveBalls => true
  | .pfExchangeHoldoffEnd _ => true
  | .pfRxReady _ _ => true
  | .vhmpLoss => true
  | .vioRestored _ => true
  | .perfLevelRampDone _ => true

end Sys2Proof
end

