-- ==== Sys2Proof/Certificates/Slice0/Obligations.lean ====
section
/-! DEFINITION. The statements about the model, for the provers. -/

open Sys2Proof Sys2Proof.Machine

/-! ## Steps, queue, isolation (block interface, R528, R544, R579) -/

/-- A step with a command at the front of the queue is exec of that command with the queue's rest. -/
def Obligations.StepRunsFront : Prop :=
  ∀ (i : Instr) (s : State), step (s.push i) = exec i s

/-- On an empty queue a step is 4 ns of station time (log entry 1, the model's choice). -/
def Obligations.EmptyQueueTicks : Prop :=
  ∀ s : State, s.pending = [] → step s = .next s.tick ∧ s.tick.time.mono = s.time.mono + 4
    ∧ s.tick.fuses = s.fuses ∧ s.tick.hamper = s.hamper ∧ s.tick.stations = s.stations ∧ s.tick.out = s.out

/-- Every step takes exactly the command at the front of the queue: commands run first in, first out. -/
def Obligations.QueueFirstInFirstOut : Prop :=
  ∀ s t : State, step s = .next t → t.pending = s.pending.tail

/-- No step ends in a fault or a refusal. Clauses of it rest on readings and choices of the model: log entry 2. -/
def Obligations.EveryStepCompletes : Prop :=
  ∀ s : State, Safe s

/-- R528: no command but those of the hamper die changes the hamper, and no time that passes. -/
def Obligations.HamperIsolated : Prop :=
  ∀ s t : State, step s = .next t → (∀ i, s.pending.head? = some i → hamperDie i = false) → t.hamper = s.hamper

/-- No command but those that blow fuses changes a fuse of the digital die, nor does time that passes. R580: a role
key that is VALID, FAILED or DESTROYED is never UNPROGRAMMED again, and one that is FAILED or DESTROYED is never
VALID. -/
def Obligations.FusesHold : Prop :=
  (∀ s t : State, step s = .next t → (∀ i, s.pending.head? = some i → blowsFuses i = false) → t.fuses = s.fuses)
  ∧ (∀ (s t : State) (role : Nat), step s = .next t → (s.fuses.roleKey role).status ≠ 0 →
    (t.fuses.roleKey role = s.fuses.roleKey role ∨ (t.fuses.roleKey role).status = 3))

/-- R579: the life-cycle state is held in fuses and is what LC_STATE /01 reads; from a state of Table 15.15 every step
ends in one, of the same or a higher code. -/
def Obligations.LifeCycleAscends : Prop :=
  (∀ s : State, s.readObject Reg.LC_STATE_state 0 0 = be 1 s.fuses.lifeCycle)
  ∧ (∀ s t : State, s.lifeCycleOk = true → step s = .next t →
      t.lifeCycleOk = true ∧ s.fuses.lifeCycle ≤ t.fuses.lifeCycle)

/-- R544: a SEALED hamper stays SEALED, with its configuration record and its fuse sets, whatever step is taken. R543,
R547: the hamper's log SEQ never goes back, nor does its SNAP_COUNT below its largest value. -/
def Obligations.HamperSealAndCountsHold : Prop :=
  (∀ s t : State, step s = .next t → s.hamper.sealed = true →
    t.hamper.sealed = true ∧ t.hamper.config = s.hamper.config ∧ t.hamper.sets = s.hamper.sets)
  ∧ (∀ s t : State, step s = .next t → s.hamper.logHead ≤ t.hamper.logHead
    ∧ (s.hamper.snapCount < 4294967295 → s.hamper.snapCount ≤ t.hamper.snapCount))

/-- The registers and the BLOB objects keep their canonical form, keys rising and nothing stored that reads as its
default, whatever step is taken. -/
def Obligations.ObjectsKeepForm : Prop :=
  ∀ s t : State, Store.wf 0 s.regs = true → Store.wf [] s.blobs = true → step s = .next t →
    Store.wf 0 t.regs = true ∧ Store.wf [] t.blobs = true

/-- R10 and the state after reset: every object reads its default, whatever its copy and element, in canonical form;
no command waits; every port is DOWN; the device is in RUN and in a life-cycle state; no session is open, nothing is
queued, logged or armed. What the spec gives no default for is the model's choice (log entries 4 and 7). -/
def Obligations.ResetState : Prop :=
  (∀ (o : Obj) (p e : Nat), State.reset.rd o p e = o.dfltAt e ∧ State.reset.rdB o p e = o.bd.bytes)
  ∧ (Store.wf 0 State.reset.regs = true ∧ Store.wf [] State.reset.blobs = true ∧ State.reset.pending = []
    ∧ State.reset.out = [] ∧ State.reset.power.mode = 0 ∧ State.reset.lifeCycleOk = true
    ∧ State.reset.faults.logged = [])
  ∧ (∀ p : Port, State.reset.portState p = stDown)
  ∧ (∀ x : Side, State.reset.pfState x = pfDetect ∨ State.reset.pfState x = pfOff)
  ∧ (∀ k : SessionNo, (State.reset.session k).phase = 0)
  ∧ (∀ q, State.reset.queue q = [])

/-- Encoders and decoders agree: the header of a line frame (Table 3.1, R107, R108), a parcel with its CRC-32C (Table
9.8, R397, R398), a TIME80 (R25), a payload protected with AES-128 CCM under a 16-byte key (R140), the blocks of a
parcel (R376) and the scrambled bits of a lane (R373); no field is dropped. Clauses of it rest on readings and choices
of the model: log entry 5. -/
def Obligations.MessagesRoundTrip : Prop :=
  (∀ h : Header, h.wf = true → Header.ofWord h.word = h ∧ checkMatches h.word = true ∧ h.word < 2 ^ 128)
  ∧ (∀ p : Parcel, p.type < 16 → p.vc < 4 → p.dir < 2 → p.devnum < 16 → p.lseq < 4096 → p.payload.length < 4096 →
    Parcel.ofBytes p.bytes = some p ∧ parcelCrcOk p.bytes = true ∧ p.bytes.length = 12 + p.payload.length)
  ∧ (∀ t : Stamp, 0 ≤ t → t < 281474976710656 * nsPerSec → ofTime80 (timeBytes t) = some t ∧ (timeBytes t).length = 10)
  ∧ (∀ key nonce aad plain : Bytes, key.length = 16 →
    ccmDecrypt key nonce aad (ccmEncrypt key nonce aad plain) = some plain
      ∧ (ccmEncrypt key nonce aad plain).length = plain.length + 8)
  ∧ (∀ a b : Bytes, 7 ≤ a.length → 7 ≤ b.length → parcelsOf (parcelBlocks a ++ parcelBlocks b) = [a, b])
  ∧ (∀ (s : Nat) (l : List Bool), laneDescramble s (laneScramble s l) = l)

/-! ## Station time, event records, the house frame (chapter 01) -/

/-- The time unit's own commands complete: an edge at the 1PPS input takes the second named for it and, for another
source, no more; TSYNC_TOD lapses; LOCKED becomes HOLDOVER; TSYNC is driven; a replica is realigned. R31: an update of
station time whose offset is at most 1 ms, the first since reset apart, is slewed and not stepped: an edge at the 1PPS
input when TSYNC is the source. Writes of station time (R27, R29, R31): STATION_TIME is refused unless TIME_SOURCE is
HOST, and a small offset is slewed; TSYNC_TOD names the seconds of the next edge, and lapses 1.5 s later. TIME parcels
(R31, R423): a device whose source is the link slews by the instant the parcel names with the link delay; with another
source it leaves its time alone; a head with another source sends TIME of its own every 125 ms. Clauses of it rest on
readings and choices of the model: log entries 9 to 11. -/
def Obligations.StationTimeCompletes : Prop :=
  (∀ (s : State) (sec : Int) (named : Stamp), s.runs = true → s.flag Reg.TSYNC_PPS_IN = true →
    s.time.tod = some (sec, named) → named + 100000000 ≤ s.now → s.rd Reg.TIME_SOURCE ≠ 1 →
    Completes .ppsEdge s fun t => t.time.nextSecond = some (sec + 1) ∧ t.time.tod = none ∧ t.time.now = s.time.now
      ∧ t.deadline .todEdge = none ∧ t.regs = s.regs)
  ∧ (∀ s : State, s.runs = true → s.passed .todEdge = true →
    Completes .tsyncTodNoEdge s fun t => t.time.tod = none ∧ t.deadline .todEdge = none ∧ t.regs = s.regs
      ∧ t.faults = s.reported srcTime clsTime 0x01 0xFF 0 1)
  ∧ (∀ s : State, s.runs = true → s.passed .sourceLost = true → s.rd Reg.TIME_QUALITY_state = tqLocked →
    Completes .timeHoldoverTimeout s fun t => t.rd Reg.TIME_QUALITY_state = tqHoldover ∧ t.bound = s.bound
      ∧ t.faults = s.reported srcTime clsTime 0x03 0xFF (s.rdN Reg.TIME_SOURCE) 1)
  ∧ (∀ s : State, s.runs = true → s.flag Reg.TSYNC_OUT = true → s.now % nsPerSec ≤ 8 → s.time.lastSecond ≠ s.now / nsPerSec →
    Completes .tsyncOutPulse s fun t => t.out = .tsync (s.now / nsPerSec * nsPerSec) 100000000 :: s.out ∧ t.regs = s.regs)
  ∧ (∀ s : State, s.runs = true → s.flag Reg.TSYNC_TIMER = true → s.rd Reg.TSYNC_TIMER_AT ≤ s.now →
    s.now ≤ s.rd Reg.TSYNC_TIMER_AT + 8 → s.time.timerFired ≠ some (s.rd Reg.TSYNC_TIMER_AT) →
    Completes .tsyncTimerPulse s fun t => t.out = .tsync (s.rd Reg.TSYNC_TIMER_AT) 1000 :: s.out ∧ t.regs = s.regs)
  ∧ (∀ (s : State) (src : Nat), s.runs = true → src ∈ s.time.unaligned → s.stoppedSource src = false →
    Completes (.replicaRealign src) s fun t => src ∉ t.time.unaligned ∧ t.regs = s.regs
      ∧ (t.merge.unstamped = s.merge.unstamped.filter fun r => r.source != src))
  ∧ (∀ (s : State) (sec : Int) (named : Stamp), s.runs = true → s.flag Reg.TSYNC_PPS_IN = true →
    s.time.tod = some (sec, named) → named + 100000000 ≤ s.now → s.rd Reg.TIME_SOURCE = 1 →
    s.rd Reg.TIME_QUALITY_state ≠ tqUnset →
    (sec * nsPerSec - (s.now - s.rd Reg.TSYNC_DELAY)).natAbs ≤ 1000000 →
    Completes .ppsEdge s fun t => t.time.slew = sec * nsPerSec - (s.now - s.rd Reg.TSYNC_DELAY)
      ∧ t.time.now = s.time.now ∧ t.rd Reg.TIME_QUALITY_offset = sec * nsPerSec - (s.now - s.rd Reg.TSYNC_DELAY))
  ∧ (∀ (s u : State) (r : IzReq) (x : Obj × Nat × List (Nat × Bytes)), s.takes r = true → writes r 0x1200 = true →
    s.admitReq r = .accepted u → u.checkWrite r = .ok x → s.rd Reg.TIME_SOURCE ≠ 2 →
    Completes (.stationTimeWrite r) s fun t => t.time = s.time
      ∧ t.rd Reg.IZ_CTL_WRITES_REFUSED = (u.rd Reg.IZ_CTL_WRITES_REFUSED + 1) % 18446744073709551616
      ∧ ∃ y, Out.reply y ∈ t.out ∧ y.status = stState ∧ y.tag = r.tag)
  ∧ (∀ (s u : State) (r : IzReq) (x : Obj × Nat × List (Nat × Bytes)), s.takes r = true → writes r 0x1200 = true →
    s.admitReq r = .accepted u → u.checkWrite r = .ok x → s.rd Reg.TIME_SOURCE = 2 →
    s.rd Reg.TIME_QUALITY_state ≠ tqUnset → (stampOf r.data - s.time.now).natAbs ≤ 1000000 →
    Completes (.stationTimeWrite r) s fun t => t.time.slew = stampOf r.data - s.time.now ∧ t.time.now = s.time.now
      ∧ t.rd Reg.TIME_QUALITY_offset = stampOf r.data - s.time.now
      ∧ ∃ y, Out.reply y ∈ t.out ∧ y.status = stOk ∧ y.tag = r.tag)
  ∧ (∀ (s u : State) (r : IzReq) (x : Obj × Nat × List (Nat × Bytes)), s.takes r = true → writes r 0x1204 = true →
    s.admitReq r = .accepted u → u.checkWrite r = .ok x →
    Completes (.tsyncTodWrite r) s fun t => t.time.tod = some (((uAt r.data 0 6 : Nat) : Int), s.now)
      ∧ t.deadline .todEdge = some (s.now + 1500000000) ∧ t.time.now = s.time.now
      ∧ ∃ y, Out.reply y ∈ t.out ∧ y.status = stOk ∧ y.tag = r.tag)
  ∧ (∀ (s : State) (p : TimeParcel) (residence off : Int), s.pfRuns = true → s.linkUp s.hostSide = true →
    s.rd Reg.TIME_SOURCE = 0 → s.rd Reg.TIME_QUALITY_state ≠ tqUnset →
    off = p.origin + roundDiv (p.correction + s.rd Reg.PF_PORT_link_delay s.hostSide.n * 65536) 65536 - s.time.now →
    off.natAbs ≤ 1000000 →
    Completes (.timeParcelReceived s.hostSide p residence) s fun t => t.time.slew = off ∧ t.time.now = s.time.now
      ∧ t.rd Reg.TIME_QUALITY_offset = off ∧ t.deadline .sourceLost = some (s.now + 3000000000))
  ∧ (∀ (s : State) (p : TimeParcel) (residence : Int), s.pfRuns = true → s.linkUp s.hostSide = true →
    s.rd Reg.TIME_SOURCE ≠ 0 → s.isHead = false →
    Completes (.timeParcelReceived s.hostSide p residence) s fun t => t.time = s.time
      ∧ t.rd Reg.TIME_QUALITY_offset = s.rd Reg.TIME_QUALITY_offset)
  ∧ (∀ s : State, s.pfRuns = true → s.isHead = true → s.rd Reg.TIME_SOURCE ≠ 0 → s.due .timeTx = true →
    s.pfState .down = pfActive → s.partnerRole .down ≠ 3 → (s.link .down).frozen = false → (s.link .down).sendQ = [] →
    (∀ vc < 4, s.fifo .down vc = []) →
    (s.link .down).admits { bcastCtrl (timePayload s.now 0 (s.rdN Reg.TIME_QUALITY_state)) with type := 4 } = true →
    Completes .timeOriginate s fun t => t.deadline .timeTx = some (s.now + 125000000) ∧ t.time = s.time
      ∧ ∃ q, t.out = .parcel .down q :: s.out ∧ q.type = 4 ∧ q.bcast = true
          ∧ q.payload = timePayload s.now 0 (s.rdN Reg.TIME_QUALITY_state))

/-- R42, R46: the oldest crossing record of an island reaches the merger. Within 64 µs of its stamp it is held; a
record held or delivered that is closer than 16 ns to it and of another island makes it CONCURRENT, as it makes those
held. Later it is delivered at once with LATE, and counted. R15, R17, R22, R24: a house frame begins with its slot 0,
under the committed slot-15 owner, and starts the watchdog anew unless the service loop stops; the next slot follows
62.5 µs later; a slot is lent to bulk readout where its owner has nothing to do. R18: a lent slot is taken back. R48,
R49: an island at its apply point waits for nothing more; a committed idle time of IZ_CTL reads as committed, and with
the last island the commit is done and stamped. Clauses of it rest on readings and choices of the model: log entries
13, 15, 16. -/
def Obligations.RecordsAndHouseFrameComplete : Prop :=
  (∀ (s : State) (src : Nat) (r : Rec) (rest : List Rec), s.runs = true → takeFirst src s.merge.crossing = some (r, rest) →
    s.now ≤ r.stamp + 64000 →
    exec (.eventRecordArrives src) s = .next { s with merge := { s.merge with
      crossing := rest,
      held := (s.merge.held.map fun x =>
          if concurrentWith x r.stamp r.source then { x with flags := withFlag x.flags evConcurrent } else x)
        ++ [if (s.merge.held.any fun x => concurrentWith x r.stamp r.source)
              || s.merge.delivered.any (fun d => concurrentWith r d.1 d.2)
            then { r with flags := withFlag r.flags evConcurrent } else r] } })
  ∧ (∀ (s : State) (src : Nat) (r : Rec) (rest : List Rec), s.runs = true → takeFirst src s.merge.crossing = some (r, rest) →
    r.stamp + 64000 < s.now →
    Completes (.eventRecordArrives src) s fun t => t.merge.crossing = rest
      ∧ t.merge.held.map (fun x => (x.stamp, x.source, x.type, x.payload))
          = s.merge.held.map (fun x => (x.stamp, x.source, x.type, x.payload))
      ∧ (∃ x, eventsOf t.out = x :: eventsOf s.out ∧ x.stamp = r.stamp ∧ x.source = r.source ∧ x.type = r.type
          ∧ x.payload = r.payload ∧ hasFlag x.flags evLate = true)
      ∧ t.rd Reg.EVENTS_DELIVERED = (s.rd Reg.EVENTS_DELIVERED + 1) % 18446744073709551616
      ∧ t.rd Reg.EVENTS_LATE = (s.rd Reg.EVENTS_LATE + 1) % 18446744073709551616)
  ∧ (∀ (s u : State) (work pending : Bool) (bulk : Nat), s.runs = true →
    s.house.frames = 0 ∨ (s.house.slot = 15 ∧ s.house.slotAt + slotNs ≤ s.time.mono) →
    u = (if s.applyWanted .houseFrame = true then s.applyIsland .houseFrame else s) →
    Completes (.houseFrameStart ⟨work, pending, bulk⟩) s fun t =>
      t.house = { s.house with frames := s.house.frames + 1, slot := 0, slotAt := s.time.mono, lent := !pending,
                               slot15 := u.rdN Reg.HOUSE_SLOT15, gated := decide (s.power.mode = 1) && !work }
      ∧ t.deadline .watchdog = (if (s.power.mode = 1 ∧ work = false) ∨ s.faults.stewardDown = true then none
                                else some (s.now + 100000000))
      ∧ (pending = true → t.regs = u.regs ∧ t.ports = u.ports ∧ t.out = u.out))
  ∧ (∀ (s : State) (pending : Bool) (bulk : Nat), s.runs = true → 0 < s.house.frames → s.house.slot < 15 →
    s.house.slotAt + slotNs ≤ s.time.mono →
    Completes (.houseSlotStart pending bulk) s fun t => t.house.slot = s.house.slot + 1 ∧ t.house.slotAt = s.time.mono
      ∧ t.house.frames = s.house.frames
      ∧ t.house.lent = (decide (slotOwner (s.house.slot + 1) s.house.slot15 ≠ ownBulk) && !pending
          && !s.ownerWaits (slotOwner (s.house.slot + 1) s.house.slot15)))
  ∧ (∀ (s : State) (bulk : Nat), s.runs = true → 0 < s.house.frames → s.house.slot < 9 →
    s.house.slotAt + slotNs ≤ s.time.mono →
    exec (.houseSlotStart true bulk) s = .next { s with house := { s.house with
      slot := s.house.slot + 1, slotAt := s.time.mono, lent := false } })
  ∧ (∀ s : State, s.runs = true → s.house.lent = true →
    exec .slotReclaim s = .next { s with house := { s.house with lent := false } })
  ∧ (∀ (s : State) (i : Island), s.runs = true → s.applyWanted i = true → s.applyPoint i = true →
    Completes (.islandApply i) s fun t => i ∉ t.iz.remaining ∧ (∀ d ∈ t.iz.direct, d.island ≠ i) ∧ t.applyWanted i = false)
  ∧ (∀ (s : State) (c : Commit) (b : Bytes), s.runs = true → s.steward = true →
    s.iz.active = some c → s.iz.remaining = [.steward] → s.iz.direct = [] → s.iz.queue = [] →
    c.values = [(Reg.IZ_CTL_idle_time.addr, b)] → s.iz.ramping = [] → s.qm.flowWrites = [] → (∀ p, s.lineOwes p = false) →
    Completes (.islandApply .steward) s fun t => t.iz.active = none ∧ t.iz.remaining = []
      ∧ t.rd Reg.IZ_CTL_idle_time = (uAt b 0 4 : Nat) ∧ t.rd Reg.COMMIT_STAMP = s.now ∧ t.rd Reg.COMMIT_STATUS_state = 4
      ∧ t.rd Reg.COMMIT_STATUS_applied = 1 ∧ t.ports = s.ports ∧ t.blobs = s.blobs)

/-- R44, R45: a release delivers exactly the records held whose stamp lies 64 µs back, by stamp, records of one stamp
by source, records of one stamp and source as they came; the others stay held. -/
def Obligations.ReleaseInStampOrder : Prop :=
  ∀ s : State, s.runs = true → s.releasable ≠ [] →
    Completes .mergeRelease s fun t =>
      (t.merge.held = s.merge.held.filter fun r => decide (s.now < r.stamp + 64000))
      ∧ ∃ l : List Rec, eventsOf t.out = l.reverse ++ eventsOf s.out
        ∧ l.Perm (s.merge.held.filter fun r => decide (r.stamp + 64000 ≤ s.now))
        ∧ (l.Pairwise fun a b => a.stamp < b.stamp ∨ (a.stamp = b.stamp ∧ a.source ≤ b.source))
        ∧ ∀ (stamp : Stamp) (source : Nat), l.filter (fun r => r.stamp == stamp && r.source == source)
            = (s.merge.held.filter fun r => decide (r.stamp + 64000 ≤ s.now)).filter
                fun r => r.stamp == stamp && r.source == source

/-! ## The pre-distorter, frames received (chapters 02, 03) -/

/-- Training of the pre-distorter (R95, R99, R204, R513): asked for, after a cleared fence, or in step 4 of a
calibration it starts with no transmit time and 10 s before it; 80 ms of transmit time freeze and stamp the
coefficients measured, clear the request and train the canceller again; after 10 s without them the state of before
stands again, the coefficients stay, and a NOTICE is raised; in step 4 either ends the line phase, and the port
listens. Recalibration (R515): its interval passing makes it due, or, due already, is counted. Restored values (R517,
R518): their sources read HOST, restored coefficients are FROZEN. What waits takes effect between symbols; with a new
hybrid setting the canceller trains again. References (R521, R522): REFRES is accepted from 1.96 to 2.04 kΩ, REFCLK
from 24.5 to 25.5 MHz, measured and stamped; REFCLK refused is checked again in 1 s, accepted at start-up it locks the
PLLs. Clauses of it rest on readings and choices of the model: log entries 19, 20, 153, 157. -/
def Obligations.TrainingAndRecalibrationComplete : Prop :=
  (∀ (s : State) (p : Port), s.runs = true → s.rd Reg.LP_DPD_state p ≠ 1 →
    s.flag Reg.LP_DPD_train p = true ∨ (s.port p).dpd.lineDriverCleared = true ∨ s.inStep4 p = true →
    Completes (.dpdTrainingStart p) s fun t => t.rd Reg.LP_DPD_state p = 1 ∧ (t.port p).dpd.txTime = 0
      ∧ (t.port p).dpd.before = s.rdN Reg.LP_DPD_state p
      ∧ t.deadline (.dpd p.val) = some (s.now + 10000000000) ∧ t.blobs = s.blobs ∧ t.out = s.out ∧ t.merge = s.merge)
  ∧ (∀ (s : State) (p : Port) (coefs : Bytes) (residual : Int), s.runs = true → s.rd Reg.LP_DPD_state p = 1 →
    80000000 ≤ s.dpdTime p → coefs.length = 80 →
    Completes (.dpdTrainingEnd p coefs residual) s fun t => t.rd Reg.LP_DPD_state p = 2
      ∧ t.rdB Reg.LP_DPD_coefficients p = coefs ∧ t.rd Reg.LP_DPD_stamp p = s.now ∧ t.rd Reg.LP_DPD_residual p = residual
      ∧ t.rd Reg.LP_DPD_train p = 0 ∧ t.deadline (.dpd p.val) = none
      ∧ (s.rd Reg.LP_EC_state p ≠ ecCleared → t.rd Reg.LP_EC_state p = ecTraining)
      ∧ t.portState p = (if s.inStep4 p = true then stListen else s.portState p))
  ∧ (∀ (s : State) (p : Port), s.runs = true → s.rd Reg.LP_DPD_state p = 1 → s.passed (.dpd p.val) = true →
    s.dpdTime p < 80000000 →
    Completes (.dpdTimeout p) s fun t => t.rd Reg.LP_DPD_state p = (s.port p).dpd.before ∧ t.rd Reg.LP_DPD_train p = 0
      ∧ t.rdB Reg.LP_DPD_coefficients p = s.rdB Reg.LP_DPD_coefficients p ∧ t.deadline (.dpd p.val) = none
      ∧ t.faults = s.reported (srcLine p) clsLine 0x03 p.val 0 1
      ∧ t.portState p = (if s.inStep4 p = true then stListen else s.portState p))
  ∧ (∀ (s : State) (p : Port), s.runs = true → s.reached (.recal p.val) = true → (s.port p).cal.due = false →
    Completes (.periodicRecalDue p) s fun t => t = { s with ports := t.ports, timers := t.timers }
      ∧ (t.port p).cal = { (s.port p).cal with due := true, dueAt := s.now }
      ∧ t.deadline (.recal p.val) = some (s.now + s.rd Reg.LP_CAL_CTL_interval p * 1000000000))
  ∧ (∀ (s : State) (p : Port), s.runs = true → s.reached (.recal p.val) = true → (s.port p).cal.due = true →
    Completes (.periodicOverdue p) s fun t => t = { s with regs := t.regs, timers := t.timers }
      ∧ t.rd Reg.LP_CAL_OVERDUE p = (s.rd Reg.LP_CAL_OVERDUE p + 1) % 18446744073709551616
      ∧ t.deadline (.recal p.val) = some (s.now + s.rd Reg.LP_CAL_CTL_interval p * 1000000000))
  ∧ (∀ (s : State) (p : Port), s.runs = true → (s.port p).cal.restored ≠ 0 →
    Completes (.calRestore p) s fun t => (t.port p).cal.restored = 0
      ∧ t.rd Reg.LP_CAL_converter_source p
          = (if bit (s.port p).cal.restored 0 then calHost else s.rd Reg.LP_CAL_converter_source p)
      ∧ t.rd Reg.LP_CAL_linearity_source p
          = (if bit (s.port p).cal.restored 1 then calHost else s.rd Reg.LP_CAL_linearity_source p)
      ∧ t.rd Reg.LP_HYBRID_source p = (if bit (s.port p).cal.restored 2 then calHost else s.rd Reg.LP_HYBRID_source p)
      ∧ t.rd Reg.LP_CAL_FFE_source p = (if bit (s.port p).cal.restored 4 then calHost else s.rd Reg.LP_CAL_FFE_source p)
      ∧ t.rd Reg.LP_DPD_state p = (if bit (s.port p).cal.restored 3 then 2 else s.rd Reg.LP_DPD_state p)
      ∧ t.rd Reg.LP_DPD_train p = (if bit (s.port p).cal.restored 3 then 0 else s.rd Reg.LP_DPD_train p))
  ∧ (∀ (s : State) (p : Port), s.runs = true → (s.port p).cal.waiting = true → s.between p = true →
    s.rd Reg.LP_HYBRID_setting p = (s.port p).hybrid →
    exec (.correctionEffect p) s = .next (s.setCal p fun q => { q with waiting := false, inForce := some (s.calValues p) }))
  ∧ (∀ (s : State) (p : Port), s.runs = true → (s.port p).cal.waiting = true → s.between p = true →
    s.rd Reg.LP_HYBRID_setting p ≠ (s.port p).hybrid →
    Completes (.correctionEffect p) s fun t => (t.port p).cal.waiting = false ∧ (t.port p).cal.inForce = some (s.calValues p)
      ∧ (t.port p).hybrid = s.rd Reg.LP_HYBRID_setting p ∧ (t.port p).ec.taps = (s.port p).ec.taps
      ∧ t.rd Reg.LP_EC_state p = (if s.rd Reg.LP_EC_state p = ecCleared then ecCleared else ecTraining))
  ∧ (∀ (s : State) (mohm : Nat), s.runs = true → 2 ≤ s.rd Reg.BOOT_STATE_state → s.due .refres = true →
    Completes (.refresCheck mohm) s fun t => t.rd Reg.CAL_REF_REFRES_value = mohm ∧ t.rd Reg.CAL_REF_REFRES_stamp = s.now
      ∧ t.rd Reg.CAL_REF_REFRES_state = (if 1960000 ≤ mohm ∧ mohm ≤ 2040000 then 1 else 2)
      ∧ t.deadline .refres = some (s.now + 900000000000) ∧ t.ports = s.ports ∧ t.out = s.out)
  ∧ (∀ (s : State) (hz : Nat), s.runs = true → 2 ≤ s.rd Reg.BOOT_STATE_state →
    s.due .refclk = true ∨ s.refclkAsked = true → hz < 24500000 ∨ 25500000 < hz →
    Completes (.refclkCheck hz) s fun t => t = { s with regs := t.regs, timers := t.timers }
      ∧ t.rd Reg.CAL_REF_REFCLK_state = 2 ∧ t.rd Reg.CAL_REF_REFCLK_value = hz ∧ t.rd Reg.CAL_REF_REFCLK_stamp = s.now
      ∧ t.deadline .refclk = some (s.now + 1000000000) ∧ t.rd Reg.BOOT_STATE_state = s.rd Reg.BOOT_STATE_state)
  ∧ (∀ (s : State) (hz : Nat), s.runs = true → s.rd Reg.BOOT_STATE_state = 2 →
    s.due .refclk = true ∨ s.refclkAsked = true → 24500000 ≤ hz → hz ≤ 25500000 →
    Completes (.refclkCheck hz) s fun t => t.rd Reg.CAL_REF_REFCLK_state = 1 ∧ t.rd Reg.CAL_REF_REFCLK_value = hz
      ∧ t.rd Reg.CAL_REF_REFCLK_stamp = s.now ∧ t.rst.pllLocked = true
      ∧ t.rd Reg.BOOT_STATE_state = 3 ∧ t.rd Reg.CLOCK_SELECT_in_force = 1 ∧ t.deadline .refclk = none)
  ∧ (∀ (s : State) (hz : Nat), s.runs = true → 2 < s.rd Reg.BOOT_STATE_state →
    s.due .refclk = true ∨ s.refclkAsked = true → 24500000 ≤ hz → hz ≤ 25500000 →
    Completes (.refclkCheck hz) s fun t => t = { s with regs := t.regs, timers := t.timers }
      ∧ t.rd Reg.CAL_REF_REFCLK_state = 1 ∧ t.rd Reg.CAL_REF_REFCLK_value = hz ∧ t.rd Reg.CAL_REF_REFCLK_stamp = s.now
      ∧ t.deadline .refclk = none ∧ t.rd Reg.BOOT_STATE_state = s.rd Reg.BOOT_STATE_state)

/-- Acquisition (R147 to R153): a sync run at the threshold, one with the runs less than 8 samples from it, is
detected and counted; the port holds it when it holds no frame, captures with it a weaker held frame, lets it wait for
the held frame's header, or loses it. A header that fails its check is a false sync; one in a granting window is
misplaced; one that breaks R111 is a header error; each is counted and the frame held no more. Any other stays held to
its end, and the payload of a station's frame is awaited where the port receives frames; a frame of another device is
foreign and recorded (R210). Of a grant the frames are searched in order (R117, R118); without a header that passes it
is counted. A reassembly whose deadline passes is abandoned and counted (R138, R156). A bell of 12 chirp intervals is
counted (R135). Clauses of it rest on readings and choices of the model: log entries 30, 32, 33, 203, 205, 223. -/
def Obligations.AcquisitionCompletes : Prop :=
  (∀ (s : State) (p : Port) (r : SyncRun) (y : SyncMeas), s.runs = true → s.hears p = true →
    (s.port p).cal.runBusy = false → oneSync (s.port p).band (5 * s.rd Reg.LP_ACQ_sync_threshold p) r = y →
    5 * s.rd Reg.LP_ACQ_sync_threshold p ≤ y.snr → (s.port p).sound.blankUntil ≤ y.stamp → (s.port p).detected = [] →
    (s.port p).resumedAt = none → (s.port p).held = none →
    Completes (.syncDetect p r) s fun t => (t.port p).held = some { sync := y.stamp, power := y.power }
      ∧ (t.port p).detected = [y.stamp] ∧ t.regs = (s.cntLine p Reg.LP_RX_SYNC_DETECTED).regs
      ∧ t = { s with regs := t.regs, ports := t.ports })
  ∧ (∀ (s : State) (p : Port) (r : SyncRun) (y : SyncMeas) (h : Held), s.runs = true → s.hears p = true →
    (s.port p).cal.runBusy = false → oneSync (s.port p).band (5 * s.rd Reg.LP_ACQ_sync_threshold p) r = y →
    5 * s.rd Reg.LP_ACQ_sync_threshold p ≤ y.snr → (s.port p).sound.blankUntil ≤ y.stamp → (s.port p).detected = [] →
    (s.port p).resumedAt = none → (s.port p).held = some h → h.header = none →
    y.power < h.power + 5 * s.rd Reg.LP_ACQ_capture_margin p →
    Completes (.syncDetect p r) s fun t => (t.port p).held = some h ∧ (t.port p).waiting = (s.port p).waiting ++ [y]
      ∧ t.regs = (s.cntLine p Reg.LP_RX_SYNC_DETECTED).regs ∧ t = { s with regs := t.regs, ports := t.ports })
  ∧ (∀ (s : State) (p : Port) (r : SyncRun) (y : SyncMeas) (h : Held), s.runs = true → s.hears p = true →
    (s.port p).cal.runBusy = false → oneSync (s.port p).band (5 * s.rd Reg.LP_ACQ_sync_threshold p) r = y →
    5 * s.rd Reg.LP_ACQ_sync_threshold p ≤ y.snr → (s.port p).sound.blankUntil ≤ y.stamp → (s.port p).detected = [] →
    (s.port p).resumedAt = none → (s.port p).held = some h → (s.port p).waiting = [] →
    h.header = none ∨ y.stamp + 2560 * (s.port p).band.ns ≤ h.finish →
    h.power + 5 * s.rd Reg.LP_ACQ_capture_margin p ≤ y.power →
    Completes (.syncDetect p r) s fun t => (t.port p).held = some { sync := y.stamp, power := y.power }
      ∧ (t.port p).awaited = (s.port p).awaited.filter (fun x => x.sync ≠ h.sync)
      ∧ t.rd Reg.LP_RX_CAPTURED p = (s.cntLine p Reg.LP_RX_CAPTURED).rd Reg.LP_RX_CAPTURED p
      ∧ t.rd Reg.LP_RX_CAPTURING p = (s.cntLine p Reg.LP_RX_CAPTURING).rd Reg.LP_RX_CAPTURING p)
  ∧ (∀ (s : State) (p : Port) (word : Nat) (b : Option Bytes) (h : Held), s.runs = true → s.hears p = true →
    (s.port p).held = some h → h.header = none → checkMatches word = true → (Header.ofWord word).src ≠ 0 →
    granting (s.windowTypeAt p h.sync) = false → headerLegalUp 64 (Header.ofWord word) = true →
    Completes (.headerDecision p word true b) s fun t =>
      (t.port p).held = some { h with
        header := some (Header.ofWord word),
        finish := h.sync + airLong (s.port p).band (Header.ofWord word).pace (Header.ofWord word).length }
      ∧ (t.port p).awaited = (s.port p).awaited ++ (if s.accessState p = true then [⟨h.sync, word, true⟩] else [])
      ∧ (t.port p).waiting = [] ∧ t.regs = (s.cntLine p Reg.LP_RX_IGNORED (s.port p).waiting.length).regs)
  ∧ (∀ (s : State) (p : Port) (word : Nat) (b : Option Bytes) (h : Held), s.runs = true → s.hears p = true →
    (s.port p).held = some h → h.header = none → checkMatches word = true → (Header.ofWord word).src = 0 →
    granting (s.windowTypeAt p h.sync) = false → headerLegalDown (Header.ofWord word) = true →
    Completes (.headerDecision p word true b) s fun t =>
      (t.port p).held = some { h with
        header := some (Header.ofWord word),
        finish := h.sync + airLong (s.port p).band (Header.ofWord word).pace (Header.ofWord word).length }
      ∧ (t.port p).awaited = (s.port p).awaited
      ∧ t.merge = (s.foreign p h.sync (if (Header.ofWord word).type = tyBeacon then b else none)).merge
      ∧ t.faults = (s.foreign p h.sync (if (Header.ofWord word).type = tyBeacon then b else none)).faults
      ∧ t.rd Reg.LP_ACCESS_FOREIGN p = (s.rd Reg.LP_ACCESS_FOREIGN p + 1) % 18446744073709551616)
  ∧ (∀ (s : State) (p : Port) (word : Nat) (converged : Bool) (b : Option Bytes) (h : Held), s.runs = true →
    s.hears p = true → (s.port p).held = some h → h.header = none → (s.port p).waiting = [] →
    converged = false ∨ checkMatches word = false →
    Completes (.headerDecision p word converged b) s fun t => (t.port p).held = none
      ∧ (t.port p).awaited = (s.port p).awaited ∧ t.regs = (s.cntLine p Reg.LP_RX_FALSE_SYNC).regs
      ∧ t = { s with regs := t.regs, ports := t.ports })
  ∧ (∀ (s : State) (p : Port) (word : Nat) (b : Option Bytes) (h : Held), s.runs = true →
    s.hears p = true → (s.port p).held = some h → h.header = none → (s.port p).waiting = [] →
    checkMatches word = true → (Header.ofWord word).src ≠ 0 → granting (s.windowTypeAt p h.sync) = true →
    Completes (.headerDecision p word true b) s fun t => (t.port p).held = none
      ∧ (t.port p).awaited = (s.port p).awaited ∧ t.regs = (s.cntLine p Reg.LP_RX_MISPLACED).regs
      ∧ t = { s with regs := t.regs, ports := t.ports })
  ∧ (∀ (s : State) (p : Port) (word : Nat) (b : Option Bytes) (h : Held), s.runs = true →
    s.hears p = true → (s.port p).held = some h → h.header = none → (s.port p).waiting = [] →
    checkMatches word = true → (Header.ofWord word).src ≠ 0 → granting (s.windowTypeAt p h.sync) = false →
    headerLegalUp 64 (Header.ofWord word) = false →
    Completes (.headerDecision p word true b) s fun t => (t.port p).held = none
      ∧ (t.port p).awaited = (s.port p).awaited ∧ t.regs = (s.cntLine p Reg.LP_RX_HEADER_ERROR).regs
      ∧ t = { s with regs := t.regs, ports := t.ports })
  ∧ (∀ (s u : State) (p : Port) (a : Nat) (at' : Stamp) (rx : List LineRx) (g : Granted) (n : Nat), s.runs = true →
    s.hears p = true → at' ≤ s.now → ((s.port p).grants.find? fun g => g.a == a && decide (g.at' = at')) = some g →
    (s.setPort p fun q => { q with grants := q.grants.erase g }).grantFrames p g rx at' 0 = (n, u) →
    exec (.grantFormDecode p a at' rx) s = .next ((if n = 0 then u.cntLine p Reg.LP_RX_GRANT_SILENT else u).keep s))
  ∧ (∀ (s : State) (p : Port) (a : Nat) (at' : Stamp) (rx : List LineRx) (g : Granted), s.runs = true → s.hears p = true →
    at' ≤ s.now → ((s.port p).grants.find? fun g => g.a == a && decide (g.at' = at')) = some g →
    (∀ f, rx.head? = some f → f.headerOk = false ∨ checkMatches f.word = false
      ∨ (s.port p).band.cp * (s.port p).band.ns < (f.sync - at').natAbs) →
    Completes (.grantFormDecode p a at' rx) s fun t => (t.port p).grants = (s.port p).grants.erase g
      ∧ t.regs = (s.cntLine p Reg.LP_RX_GRANT_SILENT).regs ∧ t = { s with regs := t.regs, ports := t.ports })
  ∧ (∀ (s : State) (p : Port) (src tag : Nat) (d : Stamp), s.runs = true →
    s.deadline (.reassembly p.val src tag) = some d → d < s.now → s.resolvedTo p d = true →
    Completes (.reassemblyTimeout p src tag) s fun t => t.reassembly p src tag = none
      ∧ t.deadline (.reassembly p.val src tag) = none ∧ t.regs = (s.cntLine p Reg.LP_RX_FRAG_ABORT).regs
      ∧ t = { s with regs := t.regs, ports := t.ports, timers := t.timers })
  ∧ (∀ (s : State) (p : Port) (hits : List Bool),
    s.runs = true ∨ (s.live = true ∧ s.power.mode = 2 ∧ s.power.detectors = true) → hits.length = 16 →
    12 ≤ (hits.filter id).length → s.portState p = stService ∨ s.portState p = stQuiet ∨ s.portState p = stParked →
    (s.port p).sound.blankUntil ≤ s.now → (s.port p).cal.runBusy = false ∨ (s.port p).cal.step ≠ 5 →
    exec (.bellDetect p hits) s = .next (s.inc Reg.LP_RX_BELLS p))

/-- A frame the port awaits is taken in when its checks pass (R114, R121, R143, R144): an upstream DATA frame, whole
or with its last fragment, goes to its flow; a management response in time answers the proxy request outstanding, one
late against the last attempt is counted; a request without response is repeated, and the last one answered TIMEOUT
(R345, R157, R451); the next request queued for a station is sent once none is outstanding. A frame that fails a check
is awaited no more. A key written for an association takes effect at the line engine's apply point, with both
packet-number counters 0 (R145). Clauses of it rest on readings and choices of the model: log entries 23, 26, 27, 31,
57, 204, 206, 223. -/
def Obligations.UpstreamFramesAndKeysComplete : Prop :=
  (∀ (s u v : State) (p : Port) (f : LineRx) (plain data : Bytes), s.runs = true → s.hears p = true →
    s.awaitsType p f tyData = true → s.takeRx p f = (some plain, u) → u.portState p = stService →
    u.fragment p (Header.ofWord f.word) f.sync plain = (some data, v) →
    exec (.dataFrameRx p f) s = .next ((v.toEngine (.upFrame p (Header.ofWord f.word) f.sync data)).keep s))
  ∧ (∀ (s u v : State) (p : Port) (f : LineRx) (plain : Bytes), s.runs = true → s.hears p = true →
    s.awaitsType p f tyData = true → s.takeRx p f = (some plain, u) → u.portState p = stService →
    u.fragment p (Header.ofWord f.word) f.sync plain = (none, v) → exec (.dataFrameRx p f) s = .next (v.keep s))
  ∧ (∀ (s u : State) (p : Port) (f : LineRx), s.runs = true → s.hears p = true →
    s.awaitsType p f tyData = true → s.takeRx p f = (none, u) → exec (.dataFrameRx p f) s = .next (u.keep s))
  ∧ (∀ (s u v : State) (p : Port) (f : LineRx) (plain b : Bytes) (o : Outstanding) (d : Stamp), s.runs = true →
    s.hears p = true → s.awaitsType p f tyMgmt = true → s.takeRx p f = (some plain, u) →
    u.fragment p (Header.ofWord f.word) f.sync plain = (some b, v) →
    (Header.ofWord f.word).frag = 0 ∨ mgmtFormat true b = true →
    (v.port p).outstanding.find? (fun x => x.proxy.a == (Header.ofWord f.word).src && x.reqId == uAt b 1 2) = some o →
    v.deadline (.mgmt p.val (Header.ofWord f.word).src) = some d → f.sync ≤ d →
    exec (.mgmtResponseRx p f) s = .next
      (((((v.setPort p fun q => { q with outstanding := q.outstanding.erase o }).disarm
        (.mgmt p.val (Header.ofWord f.word).src)).inc Reg.PROXY_STATS_ANSWERED p).answerProxy p o.proxy (uAt b 9 1)
          (b.drop 12)).keep s))
  ∧ (∀ (s u v : State) (p : Port) (f : LineRx) (plain b : Bytes) (o : Outstanding) (d : Stamp), s.runs = true →
    s.hears p = true → s.awaitsType p f tyMgmt = true → s.takeRx p f = (some plain, u) →
    u.fragment p (Header.ofWord f.word) f.sync plain = (some b, v) →
    (Header.ofWord f.word).frag = 0 ∨ mgmtFormat true b = true →
    (v.port p).outstanding.find? (fun x => x.proxy.a == (Header.ofWord f.word).src && x.reqId == uAt b 1 2) = some o →
    v.deadline (.mgmt p.val (Header.ofWord f.word).src) = some d → d < f.sync →
    o.attempt = v.rdN Reg.LP_ACQ_management_retries p →
    exec (.mgmtResponseRx p f) s = .next ((v.cntLine p Reg.LP_RX_MGMT_LATE).keep s))
  ∧ (∀ (s : State) (p : Port) (a : Nat) (o : Outstanding) (d : Stamp), s.runs = true →
    ((s.port p).outstanding.find? fun x => x.proxy.a == a) = some o → s.deadline (.mgmt p.val a) = some d → d < s.now →
    s.resolvedTo p d = true → o.attempt < s.rdN Reg.LP_ACQ_management_retries p →
    Completes (.mgmtTimeout p a) s fun t =>
      (t.port p).ctl = (s.port p).ctl ++ [s.mgmtFrame p { o with attempt := o.attempt + 1 }]
      ∧ { o with attempt := o.attempt + 1 } ∈ (t.port p).outstanding ∧ t.deadline (.mgmt p.val a) = none
      ∧ t = { s with ports := t.ports, timers := t.timers })
  ∧ (∀ (s : State) (p : Port) (a : Nat) (o : Outstanding) (d : Stamp), s.runs = true →
    ((s.port p).outstanding.find? fun x => x.proxy.a == a) = some o → s.deadline (.mgmt p.val a) = some d → d < s.now →
    s.resolvedTo p d = true → s.rdN Reg.LP_ACQ_management_retries p ≤ o.attempt →
    (∀ k, sessionNo o.proxy.session = some k → (s.session k).phase ≠ 0) →
    Completes (.mgmtTimeout p a) s fun t =>
      t.rd Reg.PROXY_STATS_TIMEOUTS p = (s.rd Reg.PROXY_STATS_TIMEOUTS p + 1) % 18446744073709551616
      ∧ (t.port p).outstanding = (s.port p).outstanding.erase o ∧ t.deadline (.mgmt p.val a) = none
      ∧ ∃ x, Out.reply x ∈ t.out ∧ x.status = stTimeout ∧ x.tag = o.proxy.tag ∧ x.session = o.proxy.session)
  ∧ (∀ (s : State) (p : Port) (a : Nat) (x : Proxy), s.runs = true → s.portState p = stService →
    ((s.port p).proxies.find? fun y => y.a == a) = some x → (∀ o ∈ (s.port p).outstanding, o.proxy.a ≠ a) →
    Completes (.proxyDispatch p a) s fun t => (t.port p).proxies = (s.port p).proxies.erase x
      ∧ (∃ o, o.proxy = x ∧ o.attempt = 0 ∧ o.reqId = ((s.elem p a).reqId + 1) % 65536
          ∧ (t.port p).outstanding = (s.port p).outstanding ++ [o])
      ∧ (t.port p).ctl = (s.port p).ctl ++ [s.mgmtFrame p ⟨x, ((s.elem p a).reqId + 1) % 65536, 0⟩]
      ∧ t.rd Reg.PROXY_STATS_SENT p = (s.rd Reg.PROXY_STATS_SENT p + 1) % 18446744073709551616)
  ∧ (∀ (s : State) (p : Port) (e : Nat) (key : Bytes), s.runs = true → s.atApplyPoint p = true → e < 256 → key ≠ [] →
    (s.iz.keyWrites.find? fun x => x.1 = p.val * 256 + e) = some (p.val * 256 + e, key) →
    Completes (.saKeyWrite p e) s fun t => t.rdB Reg.LP_SA_key p e = key ∧ t.rd Reg.LP_SA_transmit_PN p e = 0
      ∧ t.rd Reg.LP_SA_receive_PN p e = 0 ∧ t.ports = s.ports)

/-! ## Echo cancelling (chapter 04) -/

/-- A block of the canceller at its boundary (R164, R168 to R171, R178, R195 to R197). An admitted block that passes
the guard updates the taps at the step of the state, TRAINING or TRACKING, and enters the ERLE measurement, which
completes with its 26th block; in QUIET an update of the device's REFRESH is collected. One that the guard stops
changes no tap, lengthens the run and is counted; one not admitted changes no tap and ends the run; one of a silent
port adds its power to the noise. At the first boundary after the REFRESH the collected updates apply together, with
leakage, when the gate passes and nothing has drifted, and are counted as gated out when it fails. Clauses of it rest
on readings and choices of the model: log entries 34, 39, 200, 201. -/
def Obligations.CancellerBlockCompletes : Prop :=
  (∀ (s : State) (p : Port) (b : BlockMeas), s.runs = true → s.onBoundary p = true → s.admissible p = true →
    guardPasses (s.port p).ec.residuals (s.blockUse p b).pRes = true → s.rd Reg.LP_EC_state p = ecTracking →
    (s.port p).ec.blocks < 25 →
    Completes (.ecBlock p b) s fun t => t = { s with ports := t.ports }
      ∧ (t.port p).ec.taps = addTaps (s.port p).band.taps (s.port p).ec.taps
          (Config.lmsIncrement (s.rdN Reg.LP_EC_tracking_step p) (Config.lmsPower (s.port p).ec.power b.ref) b.ref
            (s.blockUse p b).error)
      ∧ (t.port p).ec.blocks = (s.port p).ec.blocks + 1 ∧ (t.port p).ec.pIn = (s.port p).ec.pIn + (s.blockUse p b).pIn
      ∧ (t.port p).ec.pRes = (s.port p).ec.pRes + (s.blockUse p b).pRes
      ∧ (t.port p).ec.residuals = ((s.blockUse p b).pRes :: (s.port p).ec.residuals).take 16
      ∧ (t.port p).ec.guardRun = 0 ∧ (t.port p).ec.trainBlocks = (s.port p).ec.trainBlocks)
  ∧ (∀ (s : State) (p : Port) (b : BlockMeas), s.runs = true → s.onBoundary p = true → s.admissible p = true →
    guardPasses (s.port p).ec.residuals (s.blockUse p b).pRes = true → s.rd Reg.LP_EC_state p = ecTraining →
    s.portState p ≠ stQuiet →
    Completes (.ecBlock p b) s fun t => t = { s with ports := t.ports }
      ∧ (t.port p).ec.taps = addTaps (s.port p).band.taps (s.port p).ec.taps
          (Config.lmsIncrement (s.rdN Reg.LP_EC_training_step p) (Config.lmsPower (s.port p).ec.power b.ref) b.ref
            (s.blockUse p b).error)
      ∧ (t.port p).ec.trainBlocks = (s.port p).ec.trainBlocks + 1)
  ∧ (∀ (s : State) (p : Port) (b : BlockMeas), s.runs = true → s.onBoundary p = true → s.admissible p = true →
    guardPasses (s.port p).ec.residuals (s.blockUse p b).pRes = true → s.rd Reg.LP_EC_state p ≠ ecQuiet →
    25 ≤ (s.port p).ec.blocks →
    Completes (.ecBlock p b) s fun t => (t.port p).ec.blocks = 0 ∧ (t.port p).ec.pIn = 0 ∧ (t.port p).ec.pRes = 0
      ∧ (t.port p).ec.erleDone = (s.port p).ec.erleDone ++
          [⟨(s.port p).ec.pIn + (s.blockUse p b).pIn, (s.port p).ec.pRes + (s.blockUse p b).pRes, s.ecNoise p, s.now⟩])
  ∧ (∀ (s : State) (p : Port) (b : BlockMeas), s.runs = true → s.onBoundary p = true → s.admissible p = true →
    guardPasses (s.port p).ec.residuals (s.blockUse p b).pRes = false → s.rd Reg.LP_EC_state p ≠ ecQuiet →
    Completes (.ecBlock p b) s fun t => t = { s with regs := t.regs, ports := t.ports }
      ∧ (t.port p).ec.taps = (s.port p).ec.taps ∧ (t.port p).ec.guardRun = (s.port p).ec.guardRun + 1
      ∧ (t.port p).ec.blocks = (s.port p).ec.blocks ∧ (t.port p).ec.residuals = (s.port p).ec.residuals
      ∧ t.regs = (s.cntLine p Reg.LP_EC_GUARDED).regs)
  ∧ (∀ (s : State) (p : Port) (b : BlockMeas), s.runs = true → s.onBoundary p = true → s.admissible p = false →
    s.rd Reg.LP_EC_state p ≠ ecQuiet →
    Completes (.ecBlock p b) s fun t => t = { s with ports := t.ports } ∧ (t.port p).ec.taps = (s.port p).ec.taps
      ∧ (t.port p).ec.guardRun = 0 ∧ (t.port p).ec.guardFired = false ∧ (t.port p).ec.blocks = (s.port p).ec.blocks
      ∧ (t.port p).ec.noise = (if s.sentInBlock p = 0 ∧ s.syncInBlock p = false ∧ s.upstreamInBlock p = false
          then ((s.blockUse p b).pRes :: (s.port p).ec.noise).take 26 else (s.port p).ec.noise))
  ∧ (∀ (s : State) (p : Port) (b : BlockMeas), s.runs = true → s.onBoundary p = true → s.admissible p = true →
    guardPasses (s.port p).ec.residuals (s.blockUse p b).pRes = true → s.rd Reg.LP_EC_state p = ecQuiet →
    s.portState p = stQuiet → (s.port p).ec.retrainScheduled = false → s.refreshBlock p = true →
    s.time.mono < (s.port p).quiet.refresh.2 →
    Completes (.ecBlock p b) s fun t => t = { s with ports := t.ports } ∧ (t.port p).ec.taps = (s.port p).ec.taps
      ∧ (t.port p).ec.collected = (s.port p).ec.collected ++
          [Config.lmsIncrement (s.rdN Reg.LP_EC_quiet_step p) (Config.lmsPower (s.port p).ec.power b.ref) b.ref
            (s.blockUse p b).error]
      ∧ (t.port p).ec.collIn = (s.port p).ec.collIn + (s.blockUse p b).pIn
      ∧ (t.port p).ec.collRes = (s.port p).ec.collRes + (s.blockUse p b).pRes)
  ∧ (∀ (s : State) (p : Port) (b : BlockMeas) (w : List (Int × Int)), s.runs = true → s.onBoundary p = true →
    s.admissible p = false → s.rd Reg.LP_EC_state p = ecQuiet → (s.port p).quiet.refresh.2 ≤ s.time.mono →
    (s.port p).ec.collected ≠ [] → (s.port p).ec.noiseAt = none → 0 < s.sentInBlock p →
    5 * s.rd Reg.LP_QUIET_canceller_gate p ≤ erleOf (s.port p).ec.collIn (s.port p).ec.collRes (s.port p).ec.collected.length [] →
    w = (s.port p).ec.collected.foldl (fun w g => leakAll (s.rdN Reg.LP_EC_quiet_leakage p)
      (addTaps (s.port p).band.taps w g) ((s.port p).ec.snap.getD [])) (s.port p).ec.taps →
    (∀ x, (s.port p).ec.snap = some x →
      driftOctave (s.port p).band (s.rdN Reg.LP_QUIET_drift_limit p) (tapPowers w) (tapPowers x) = none) →
    Completes (.ecBlock p b) s fun t => t = { s with regs := t.regs, ports := t.ports } ∧ (t.port p).ec.taps = w
      ∧ (t.port p).ec.collected = [] ∧ (t.port p).ec.gateFails = 0
      ∧ t.regs = (s.cntLine p Reg.LP_QUIET_APPLIED (s.port p).ec.collected.length).regs)
  ∧ (∀ (s : State) (p : Port) (b : BlockMeas), s.runs = true → s.onBoundary p = true →
    s.admissible p = false → s.rd Reg.LP_EC_state p = ecQuiet → (s.port p).quiet.refresh.2 ≤ s.time.mono →
    (s.port p).ec.collected ≠ [] → (s.port p).ec.noiseAt = none → 0 < s.sentInBlock p →
    erleOf (s.port p).ec.collIn (s.port p).ec.collRes (s.port p).ec.collected.length [] < 5 * s.rd Reg.LP_QUIET_canceller_gate p →
    Completes (.ecBlock p b) s fun t => t = { s with regs := t.regs, ports := t.ports }
      ∧ (t.port p).ec.taps = (s.port p).ec.taps ∧ (t.port p).ec.collected = []
      ∧ (t.port p).ec.gateFails = failRun (s.port p).ec.gateFails (s.port p).ec.failedCycle (s.port p).quiet.cycle
      ∧ t.regs = (s.cntLine p Reg.LP_QUIET_GATED_OUT (s.port p).ec.collected.length).regs)

/-- What the canceller measures and decides. R280: a run of guarded blocks is alerted with a focused sounding of the
mapped length. R178: 26 admitted blocks give ERLE and its stamp, a free value of at most 70.0 dB where no power
entered. R172: two of 40 dB in a row end TRAINING; 2 s of used blocks end it with a NOTICE. R173: two in a row more
than 10 dB below the reference maximum return TRACKING to TRAINING. R204: a request brings training back from the taps
held and clears. R175, R176: a publication stores the taps as the block that ends used them, with stamp, generation,
state and ERLE. R174: the freeze ends. R162: a new hybrid setting takes effect and training begins again. R200 to
R202: three failed gates stand for drift: the snapshot comes back, a retrain is scheduled and a NOTICE raised, or a
station's equaliser takes its snapshot back. Clauses of it rest on readings and choices of the model: log entries 6,
34 to 36, 38, 197, 200, 214. -/
def Obligations.CancellerDecidesAndPublishes : Prop :=
  (∀ (s : State) (p : Port), s.runs = true → s.flag Reg.LR_EPM_enable p = true → (s.port p).ec.guardFired = false →
    s.rdN Reg.LR_EPM_guard_run p ≤ (s.port p).ec.guardRun → (s.port p).sound.focus = none →
    Completes (.guardRun p) s fun t => t.merge = (s.echoAlert p 1 0xFFFF 0 (s.mapped p - 1) 0).merge
      ∧ t.rd Reg.LR_EPM_ALERTS p = (s.cntSound p Reg.LR_EPM_ALERTS).rd Reg.LR_EPM_ALERTS p
      ∧ (t.port p).ec.guardFired = true ∧ (∃ f, (t.port p).sound.focus = some f ∧ f.lo = 0 ∧ f.hi = s.mapped p - 1)
      ∧ t.rd Reg.LR_FOCUS_pending p = 1 ∧ t.deadline (.focus p.val) = some (s.now + 10000000000))
  ∧ (∀ (s : State) (p : Port) (g : Focus), s.runs = true → s.flag Reg.LR_EPM_enable p = true →
    (s.port p).ec.guardFired = false → s.rdN Reg.LR_EPM_guard_run p ≤ (s.port p).ec.guardRun →
    (s.port p).sound.focus = some g →
    Completes (.guardRun p) s fun t => t.merge = (s.echoAlert p 1 0xFFFF 0 (s.mapped p - 1) 0).merge
      ∧ (t.port p).ec.guardFired = true ∧ t.timers = s.timers
      ∧ (∃ f, (t.port p).sound.focus = some f ∧ f.lo = 0 ∧ f.hi = max g.hi (s.mapped p - 1)))
  ∧ (∀ (s : State) (p : Port) (d : ErleDone) (l : List ErleDone), s.runs = true → (s.port p).ec.erleDone = d :: l →
    d.pIn ≠ 0 → (s.port p).ec.erles = [] →
    Completes (.erleMeasurementComplete p) s fun t =>
      t.rd Reg.LP_EC_ERLE p = erleOf d.pIn d.pRes 26 d.noise ∧ t.rd Reg.LP_EC_ERLE_stamp p = d.stamp
      ∧ (t.port p).ec.erleDone = l ∧ (t.port p).ec.erles = [erleOf d.pIn d.pRes 26 d.noise]
      ∧ t.rd Reg.LP_EC_state p = s.rd Reg.LP_EC_state p ∧ (t.port p).ec.taps = (s.port p).ec.taps
      ∧ t = { s with regs := t.regs, ports := t.ports })
  ∧ (∀ (s : State) (p : Port) (d : ErleDone) (l : List ErleDone), s.runs = true → (s.port p).ec.erleDone = d :: l →
    d.pIn = 0 → (s.port p).ec.erles = [] →
    Completes (.erleMeasurementComplete p) s fun t => 0 ≤ t.rd Reg.LP_EC_ERLE p ∧ t.rd Reg.LP_EC_ERLE p ≤ 700
      ∧ t.rd Reg.LP_EC_ERLE_stamp p = d.stamp ∧ (t.port p).ec.erleDone = l
      ∧ t.rd Reg.LP_EC_state p = s.rd Reg.LP_EC_state p ∧ (t.port p).ec.taps = (s.port p).ec.taps)
  ∧ (∀ (s : State) (p : Port) (d : ErleDone) (l : List ErleDone) (last : Int) (rest : List Int), s.runs = true →
    (s.port p).ec.erleDone = d :: l → d.pIn ≠ 0 → s.rd Reg.LP_EC_state p = ecTraining → (s.port p).ec.retraining = false →
    (s.port p).ec.erles = last :: rest → 400 ≤ last → 400 ≤ erleOf d.pIn d.pRes 26 d.noise →
    Completes (.erleMeasurementComplete p) s fun t =>
      t.rd Reg.LP_EC_state p = (if s.portState p = stQuiet then ecQuiet else ecTracking)
      ∧ t.rd Reg.LP_EC_ERLE p = erleOf d.pIn d.pRes 26 d.noise ∧ (t.port p).ec.taps = (s.port p).ec.taps
      ∧ (t.port p).ec.refMax = some (erleOf d.pIn d.pRes 26 d.noise))
  ∧ (∀ (s : State) (p : Port) (d : ErleDone) (l : List ErleDone) (last top : Int) (rest : List Int), s.runs = true →
    (s.port p).ec.erleDone = d :: l → d.pIn ≠ 0 → s.rd Reg.LP_EC_state p = ecTracking →
    (s.port p).ec.refMax = some top → (s.port p).ec.erles = last :: rest → last < top - 100 →
    erleOf d.pIn d.pRes 26 d.noise < top - 100 →
    Completes (.erleMeasurementComplete p) s fun t => t.rd Reg.LP_EC_state p = ecTraining
      ∧ t.rd Reg.LP_EC_ERLE p = erleOf d.pIn d.pRes 26 d.noise ∧ (t.port p).ec.taps = (s.port p).ec.taps)
  ∧ (∀ (s : State) (p : Port), s.runs = true → s.rd Reg.LP_EC_state p = ecTraining →
    (s.port p).ec.retraining = false → 2000000000 ≤ ((s.port p).ec.trainBlocks : Int) * blockNs →
    Completes (.ecTrainTimeout p) s fun t =>
      t.rd Reg.LP_EC_state p = (if s.portState p = stQuiet then ecQuiet else ecTracking)
      ∧ (t.port p).ec.taps = (s.port p).ec.taps
      ∧ t.rd Reg.LP_EC_TRAIN_TIMEOUT p = (s.cntLine p Reg.LP_EC_TRAIN_TIMEOUT).rd Reg.LP_EC_TRAIN_TIMEOUT p
      ∧ t.faults = s.reported (srcLine p) clsLine 0x04 p.val (s.rd Reg.LP_EC_ERLE p % 4294967296).toNat 1)
  ∧ (∀ (s : State) (p : Port), s.runs = true → s.flag Reg.LP_EC_retrain p = true →
    Completes (.ecRetrainRequest p) s fun t =>
      t.rd Reg.LP_EC_state p = (if s.rd Reg.LP_EC_state p = ecCleared then ecCleared else ecTraining)
      ∧ t.rd Reg.LP_EC_retrain p = 0 ∧ (t.port p).ec.taps = (s.port p).ec.taps
      ∧ t = { s with regs := t.regs, ports := t.ports })
  ∧ (∀ (s : State) (p : Port) (x : UsedTaps), s.runs = true → s.onBoundary p = true → s.pubDue p = true →
    (s.port p).ec.frozen = false → s.rd Reg.LP_EC_state p ≠ ecCleared → (s.port p).ec.used = some x → x.at' = s.time.mono →
    Completes (.tapPublication p) s fun t => t.rd Reg.LP_EC_PUB_stamp p = s.now
      ∧ t.rd Reg.LP_EC_PUB_generation p = (s.port p).ec.generation ∧ t.rd Reg.LP_EC_PUB_state p = s.rd Reg.LP_EC_state p
      ∧ t.rd Reg.LP_EC_PUB_ERLE p = s.rd Reg.LP_EC_ERLE p
      ∧ t.rdB Reg.LP_EC_PUB_taps p = (tapsOf (s.port p).band.taps x.taps).flatMap (fun y => be 4 (tapWord y))
      ∧ (t.port p).ec.taps = (s.port p).ec.taps)
  ∧ (∀ (s : State) (p : Port), s.runs = true → s.onBoundary p = true → s.pubDue p = true →
    (s.port p).ec.frozen = false → s.rd Reg.LP_EC_state p ≠ ecCleared → (∀ x, (s.port p).ec.used = some x → x.at' ≠ s.time.mono) →
    Completes (.tapPublication p) s fun t => t.rd Reg.LP_EC_PUB_stamp p = s.now
      ∧ t.rd Reg.LP_EC_PUB_generation p = (s.port p).ec.generation ∧ t.rd Reg.LP_EC_PUB_state p = s.rd Reg.LP_EC_state p
      ∧ t.rd Reg.LP_EC_PUB_ERLE p = s.rd Reg.LP_EC_ERLE p
      ∧ t.rdB Reg.LP_EC_PUB_taps p = (tapsOf (s.port p).band.taps (s.port p).ec.taps).flatMap (fun y => be 4 (tapWord y)))
  ∧ (∀ (s : State) (p : Port), s.runs = true → (s.port p).ec.frozen = true → (s.port p).ec.freezeEnd ≤ s.time.mono →
    exec (.soundFreezeEnd p) s = .next (s.setEc p fun q => { q with frozen := false }))
  ∧ (∀ (s : State) (p : Port), s.runs = true → s.rd Reg.LP_HYBRID_setting p ≠ (s.port p).hybrid →
    s.symbolBoundary p = true →
    Completes (.hybridApply p) s fun t => (t.port p).hybrid = s.rd Reg.LP_HYBRID_setting p
      ∧ t.rd Reg.LP_EC_state p = (if s.rd Reg.LP_EC_state p = ecCleared then ecCleared else ecTraining)
      ∧ (t.port p).ec.taps = (s.port p).ec.taps ∧ t = { s with regs := t.regs, ports := t.ports })
  ∧ (∀ (s : State) (p : Port), s.runs = true → s.portState p = stQuiet →
    s.rd Reg.LP_EC_state p = ecQuiet → s.onBoundary p = true → 3 ≤ (s.port p).ec.gateFails →
    Completes (.quietGateFailCount p 0) s fun t => (t.port p).ec.taps = (s.port p).ec.snap.getD (s.port p).ec.taps
      ∧ (t.port p).ec.retrainScheduled = true ∧ (t.port p).ec.gateFails = 0
      ∧ t.rd Reg.LP_QUIET_retrain_pending p = 1 ∧ t.rd Reg.LP_EC_PUB_stamp p = s.now
      ∧ t.rd Reg.LP_QUIET_EC_DRIFT p = (s.rd Reg.LP_QUIET_EC_DRIFT p + 1) % 18446744073709551616
      ∧ ∃ d, d < 8 ∧ t.faults = s.reported (srcLine p) clsLine 0x06 p.val d 1)
  ∧ (∀ (s : State) (p : Port) (a : Nat), s.runs = true → s.portState p = stQuiet → 1 ≤ a → a < 255 →
    s.rd Reg.LP_EQ_state p a = ecQuiet → 3 ≤ (s.eq p a).gateFails →
    Completes (.quietGateFailCount p a) s fun t => (t.eq p a).points = (s.eq p a).snap.getD (s.eq p a).points
      ∧ (t.eq p a).relearn = true ∧ (t.eq p a).gateFails = 0
      ∧ t.rd Reg.LP_QUIET_EQ_DRIFT p = (s.rd Reg.LP_QUIET_EQ_DRIFT p + 1) % 18446744073709551616)

/-! ## Port states (chapter 05) -/

/-- Table 5.2 (R206, R207): each command that moves a port moves it to the state the table gives, stamps it, and
issues a PORT_STATE record of the state before, the state after and the cause the table gives. A port that goes DOWN
has its queues flushed; one that is PARKED keeps what it comes back to; one that leaves LISTEN writes its survey
(R209); one that leaves QUIET ends its schedule and its grants (R203). Clauses of it rest on readings and choices of
the model: log entry 40. -/
def Obligations.PortStatesFollowTable : Prop :=
  (∀ (s : State) (p : Port), s.runs = true → s.clocked = true → s.operates = true → s.portState p = stDown →
    s.flag Reg.LP_STATE_enable p = true →
    Completes (.portEnable p) s fun t => t.portState p = stCheck ∧ t.rd Reg.LP_STATE_stamp p = s.now
      ∧ t.merge = (s.issue (srcLine p) 0x0501 [BitVec.ofNat 8 p.val, 0, 1, if (s.port p).started then 0 else 7]).merge)
  ∧ (∀ (s : State) (p : Port), s.runs = true → s.flag Reg.LP_STATE_enable p = false → s.portState p ≠ stDown →
    s.portState p ≠ stFenced → s.atApplyPoint p = true →
    Completes (.portDisable p) s fun t => t.portState p = stDown ∧ (∀ i, i < 128 → t.queue (p.val * 128 + i) = [])
      ∧ t.merge = (s.issue (srcLine p) 0x0501
          (be 1 p.val ++ be 1 (s.portState p).toNat ++ [0, 0])).merge)
  ∧ (∀ (s : State) (p : Port) (energy : Bytes), s.runs = true → s.portState p = stListen →
    s.reached (.listen p.val) = true → energy.length = 64 →
    Completes (.listenEnd p energy) s fun t => t.portState p = stDiscover ∧ t.rd Reg.LP_STATE_stamp p = s.now
      ∧ t.deadline (.discover p.val) = some (s.now + s.rd Reg.LP_ACCESS_discover_time p * 1000000000)
      ∧ t.rdB Reg.LP_SURVEY_energy p = energy ∧ t.rd Reg.LP_SURVEY_stamp p = s.now
      ∧ t.merge = (s.issue (srcLine p) 0x0501 [BitVec.ofNat 8 p.val, 3, 4, 2]).merge)
  ∧ (∀ (s : State) (p : Port), s.runs = true → s.portState p = stDiscover → s.reached (.discover p.val) = true →
    Completes (.discoverEnd p) s fun t => t.portState p = stService ∧ t.rd Reg.LP_STATE_stamp p = s.now
      ∧ t.merge = (s.issue (srcLine p) 0x0501 [BitVec.ofNat 8 p.val, 4, 5, 2]).merge)
  ∧ (∀ (s : State) (p : Port), s.runs = true → s.flag Reg.LP_STATE_park p = true → stCheck ≤ s.portState p →
    s.portState p ≤ stQuiet → s.atApplyPoint p = true →
    Completes (.portPark p) s fun t => t.portState p = stParked ∧ (t.port p).heldBefore = (s.portState p).toNat
      ∧ t.merge = (s.issue (srcLine p) 0x0501
          (be 1 p.val ++ be 1 (s.portState p).toNat ++ [7, 0])).merge)
  ∧ (∀ (s : State) (p : Port), s.runs = true → s.clocked = true → s.portState p = stParked →
    s.flag Reg.LP_STATE_park p = false → p.val ∉ s.power.parked →
    Completes (.portUnpark p) s fun t => t.portState p = resumed (s.port p).heldBefore ∧ t.rd Reg.LP_STATE_stamp p = s.now
      ∧ (s.registered p = [] → t.merge = (s.issue (srcLine p) 0x0501
          (be 1 p.val ++ [7] ++ be 1 (resumed (s.port p).heldBefore).toNat ++ [0])).merge))
  ∧ (∀ (s : State) (p : Port), s.runs = true → s.portState p = stQuiet → (s.port p).quiet.closing = true →
    (s.port p).quiet.lastEnd ≤ s.now →
    Completes (.quietExit p) s fun t => t.portState p = stService ∧ (t.port p).quiet = {} ∧ (t.port p).grants = []
      ∧ t.rd Reg.LP_STATE_stamp p = s.now
      ∧ (s.registered p = [] → t.merge = (s.issue (srcLine p) 0x0501 [BitVec.ofNat 8 p.val, 6, 5, 0]).merge))

/-- The port commands that keep the state of the port, and those of QUIET (R208, R212, R191 to R193, R213): 10 s after
a failed check both are made again; the quiet request is the one committed, and cleared in QUIET it asks for the
closing cycle; the REFRESH of a cycle goes out at its time, to all, at the level in use, with its interval, the
answers of every registered station are awaited 5 ms after it, and the next cycle is one interval on; a cycle that a
SOUND window overlaps waits until 1 ms after it; a band change frees every registration without a frame, clears the
canceller, and a port that listens or serves listens again. -/
def Obligations.PortCommandsComplete : Prop :=
  (∀ (s : State) (p : Port), s.runs = true → s.portState p = stCheck → s.reached (.check p.val) = true →
    Completes (.checkRetry p) s fun t => t = { s with ports := t.ports, timers := t.timers }
      ∧ (t.port p).dc = { (s.port p).dc with loopResult := none, insulResult := none, measuring := false }
      ∧ t.deadline (.check p.val) = none ∧ t.deadline (.loop p.val) = none ∧ t.deadline (.insulation p.val) = none)
  ∧ (∀ (s : State) (p : Port), s.runs = true → (s.port p).quietReq ≠ s.flag Reg.LP_STATE_quiet p →
    s.atApplyPoint p = true →
    Completes (.quietRequest p) s fun t => t = { s with ports := t.ports }
      ∧ (t.port p).quietReq = s.flag Reg.LP_STATE_quiet p
      ∧ (t.port p).quiet.exiting = (!s.flag Reg.LP_STATE_quiet p && decide (s.portState p = stQuiet)))
  ∧ (∀ (s : State) (p : Port), s.runs = true → s.portState p = stQuiet → (s.port p).quiet.next ≤ s.now →
    (s.port p).quiet.closing = false → s.mayTransmit p = true →
    s.soundOver p (s.now + s.airDown p + 5000000 + s.airUp p) = none →
    Completes (.refreshCycleStart p) s fun t =>
      (∃ f, t.out = .frame p f :: s.out ∧ f.start = s.now ∧ f.long = true ∧ f.header.type = tyRefresh
        ∧ f.header.dst = 255 ∧ f.header.src = 0 ∧ f.level = s.rd Reg.LP_TX_effective p
        ∧ f.payload = [0] ++ be 1 (b2n (s.port p).quiet.exiting + 2 * b2n (s.port p).ec.retrainScheduled) ++ timeBytes s.now
            ++ be 2 (s.rd Reg.LP_QUIET_effective p).toNat ++ [0, 0])
      ∧ (t.port p).quiet.next = (s.port p).quiet.next + s.rd Reg.LP_QUIET_effective p * 1000000
      ∧ (t.port p).quiet.lastU = s.now + s.airDown p + 5000000 ∧ (t.port p).quiet.closing = (s.port p).quiet.exiting
      ∧ (t.port p).grants.map (fun g => (g.a, g.at')) = (s.registered p).map fun a => (a, s.now + s.airDown p + 5000000))
  ∧ (∀ (s : State) (p : Port) (u : Stamp), s.runs = true → s.portState p = stQuiet → (s.port p).quiet.next ≤ s.now →
    (s.port p).quiet.closing = false → s.mayTransmit p = true →
    s.soundOver p (s.now + s.airDown p + 5000000 + s.airUp p) = some u →
    Completes (.refreshCycleStart p) s fun t => t = { s with ports := t.ports }
      ∧ (t.port p).quiet = { (s.port p).quiet with next := u + 1000000 })
  ∧ (∀ (s : State) (p : Port), s.runs = true → s.bandObj p ≠ (s.port p).band → s.atApplyPoint p = true →
    stListen ≤ s.portState p → s.portState p ≤ stQuiet →
    Completes (.bandChange p) s fun t => t.portState p = stListen ∧ (t.port p).band = s.bandObj p
      ∧ t.rd Reg.LP_EC_state p = ecCleared ∧ (∀ a, 1 ≤ a → a < 255 → t.rd Reg.LP_STATION_state p a = 0)
      ∧ (∀ q f, Out.frame q f ∈ t.out → Out.frame q f ∈ s.out))
  ∧ (∀ (s : State) (p : Port), s.runs = true → s.bandObj p ≠ (s.port p).band → s.atApplyPoint p = true →
    s.portState p < stListen ∨ stQuiet < s.portState p →
    Completes (.bandChange p) s fun t => t.portState p = s.portState p ∧ (t.port p).band = s.bandObj p
      ∧ t.rd Reg.LP_EC_state p = ecCleared ∧ (∀ a, 1 ≤ a → a < 255 → t.rd Reg.LP_STATION_state p a = 0))

/-- What a request over Izvas leaves alone, whatever becomes of it: the line ports, the BLOB objects, the stations,
the cascade, the fault log, the fuses, the hamper, station time. What the commands of one Porfani port leave alone:
the state of the other port and what it remembers, the line ports, the queues, station time, the house frame, the
dictionary's sessions, the stations, the fuses and the hamper. What the commands of a station leave alone: every other
station, and of the device everything but the count of free values taken: its objects, its ports, its queues, its
links, its log. What the commands that move one port leave alone: the state of every other port, station time, the
house frame, the cascade, the power controller, the fault collector, the hamper interface and the stations. -/
def Obligations.CommandsKeepTheRest : Prop :=
  (∀ (s t : State) (r : IzReq) (i : Instr), exec i s = .next t →
    (i = .izvasRead r ∨ i = .izvasWrite r ∨ i = .readStaged r ∨ i = .discardStaged r ∨ i = .openSession r
      ∨ i = .authSession r ∨ i = .closeSession r ∨ i = .commit r) →
    t.ports = s.ports ∧ t.blobs = s.blobs ∧ t.stations = s.stations ∧ t.casc = s.casc ∧ t.faults = s.faults
      ∧ t.fuses = s.fuses ∧ t.hamper = s.hamper ∧ t.hmp = s.hmp ∧ t.rst = s.rst ∧ t.time = s.time ∧ t.merge = s.merge
      ∧ t.pending = s.pending)
  ∧ (∀ (i : Instr) (s t : State) (x : Side), exec i s = .next t →
    ((∃ n, i = .pfDetectPulse x n) ∨ (∃ l b, i = .pfTrainBlock x l b) ∨ (∃ l, i = .pfRxReady x l) ∨ i = .pfTrainTimeout x
      ∨ (∃ l, i = .pfBlockLock x l) ∨ (∃ l k, i = .pfLacingDone x l k) ∨ i = .pfLockTimeout x ∨ i = .pfExchangeTimeout x
      ∨ i = .pfExchangeHoldoffEnd x ∨ (∃ l, i = .pfBipCheck x l) ∨ i = .pfIdleEntrySend x ∨ i = .pfIdleEntryRx x
      ∨ i = .flowCtrlSend x ∨ i = .replayTimeout x ∨ i = .delayReqSend x ∨ (∃ a b, i = .delayReqRx x a b)
      ∨ ∃ a b, i = .delayRespRx x a b) →
    t.pfState x.other = s.pfState x.other ∧ t.link x.other = s.link x.other ∧ t.blobs = s.blobs ∧ t.ports = s.ports
      ∧ t.qm = s.qm ∧ t.casc = s.casc ∧ t.time = s.time ∧ t.house = s.house ∧ t.iz = s.iz ∧ t.rst = s.rst
      ∧ t.fuses = s.fuses ∧ t.hamper = s.hamper ∧ t.hmp = s.hmp ∧ t.stations = s.stations ∧ t.pending = s.pending)
  ∧ (∀ (i : Instr) (s t : State) (u : Nat), exec i s = .next t →
    ((∃ n, i = .stationAnchor u n) ∨ (∃ f, i = .stationBeaconRx u f) ∨ i = .stationRegRequestSend u
      ∨ (∃ n, i = .stationRequestUnanswered u n) ∨ (∃ b, i = .stationAssignRx u b) ∨ (∃ b, i = .stationRefuseRx u b)
      ∨ i = .stationRefuseWaitEnd u ∨ (∃ b, i = .stationRangeReqRx u b) ∨ (∃ b, i = .stationAdjRx u b)
      ∨ (∃ w, i = .stationConfirmSend ⟨u, w⟩) ∨ (∃ f, i = .stationConfirmAck u f) ∨ (∃ b, i = .stationReleaseToSearch u b)
      ∨ (∃ b a, i = .stationRefreshRx u b a) ∨ (∃ w f, i = .stationAlignedTx u w f) ∨ i = .stationTLost u
      ∨ i = .stationRangingWait u ∨ i = .stationBellSend u ∨ (∃ f, i = .stationMgmtRequest u f)
      ∨ ∃ f, i = .stationCommissioningBind u f) →
    (∀ v, v ≠ u → t.stn v = s.stn v) ∧ t.pending = s.pending ∧ t.regs = s.regs ∧ t.blobs = s.blobs ∧ t.time = s.time
      ∧ t.timers = s.timers ∧ t.merge = s.merge ∧ t.house = s.house ∧ t.ports = s.ports ∧ t.qm = s.qm ∧ t.pf = s.pf
      ∧ t.casc = s.casc ∧ t.iz = s.iz ∧ t.power = s.power ∧ t.faults = s.faults ∧ t.fuses = s.fuses ∧ t.rst = s.rst
      ∧ t.hamper = s.hamper ∧ t.hmp = s.hmp)
  ∧ (∀ (i : Instr) (s t : State) (p : Port), exec i s = .next t →
    (i = .portEnable p ∨ i = .portDisable p ∨ i = .discoverEnd p ∨ i = .portPark p ∨ (∃ e, i = .listenEnd p e)
      ∨ i = .checkRetry p ∨ i = .quietRequest p) →
    (∀ q, q ≠ p → t.portState q = s.portState q) ∧ t.time = s.time ∧ t.house = s.house ∧ t.casc = s.casc
      ∧ t.power = s.power ∧ t.faults = s.faults ∧ t.fuses = s.fuses ∧ t.rst = s.rst ∧ t.hamper = s.hamper
      ∧ t.hmp = s.hmp ∧ t.stations = s.stations)

/-! ## Station access at the device (chapter 05) -/

/-- Registration and release (R223, R228, R229, R230, R234 to R237). A REQUEST in an access slot is answered: by an
ASSIGN that carries the address, the allotments, the timing advance, the power step and the pace written to the
element, which becomes RANGING; or by a REFUSE with its reason; one that fits no slot is counted and not answered. A
CONFIRM of the registered identity is acknowledged, a first one stamps the registration; one of another identity
changes nothing. An element is freed by a RELEASE of its station that names the identity registered, by six windows
without a frame while RANGING or CONFIRMING, by the host, and when ranging fails; each with its STATION record, the
last but for a RANGING element and that of the host with a RELEASE to the station. Clauses of it rest on readings and
choices of the model: log entries 29, 54 to 56; a device whose steward restarts answers none (Table 12.6). -/
def Obligations.RegistrationAndReleaseComplete : Prop :=
  (∀ (s u : State) (p : Port) (f : LineRx) (b : Bytes) (slot : Stamp) (a : Nat), s.runs = true → s.accessState p = true →
    s.awaitsType p f tyReg = true → (Header.ofWord f.word).src = 255 → s.takeRx p f = (some b, u) → u.steward = true →
    u.requestSlot p f.sync = some slot → u.registration p (slice b 2 20) = .ok a → 1 ≤ a → a < 255 →
    Completes (.regRequestRx p f) s fun t => t.rd Reg.LP_STATION_state p a = 1
      ∧ t.rd Reg.LP_STATION_identity p a = (uAt b 2 8 : Nat)
      ∧ t.rdB Reg.LP_STATION_capabilities p a = slice b 2 20
      ∧ t.rd Reg.LP_STATION_timing_advance p a
          = min ((u.port p).band.maxTa : Int) (max 0 (roundDiv (f.sync - slot) (u.port p).band.ns))
      ∧ t.rd Reg.LP_STATION_received_level p a = f.level ∧ t.rd Reg.LP_EQ_state p a = ecCleared
      ∧ (u.rd Reg.LP_STATION_state p a = 0 → t.merge = u.merge)
      ∧ (u.rd Reg.LP_STATION_state p a ≠ 0 → t.merge = (u.stationRecord p a 1 0).merge)
      ∧ (t.port p).ctl.getLast? = some ⟨255, tyReg, 0, 0, [2] ++ slice (slice b 2 20) 0 8 ++ be 1 a
          ++ be 8 (t.rdN Reg.LP_STATION_allotments p a) ++ be 2 (t.rdN Reg.LP_STATION_timing_advance p a)
          ++ beInt 1 (clamp (-128) 127 (roundDiv (u.rd Reg.LP_ACCESS_target_level p - f.level) 5))
          ++ be 1 (t.rdN Reg.LP_STATION_upstream_pace p a)
          ++ be 1 (b2n (u.flag Reg.LP_ACCESS_security_required p)
              + 2 * b2n (bit (uAt b 16 1) 0 && u.flag Reg.LP_ACCESS_duplex_allowed p)
              + 4 * b2n (bit (uAt b 16 1) 2 && u.flag Reg.LP_ACCESS_bell_in_use p)) ++ [0], true⟩
      ∧ (∀ a', a' ≠ a → t.rd Reg.LP_STATION_state p a' = u.rd Reg.LP_STATION_state p a')
      ∧ t.time = u.time ∧ t.iz = u.iz ∧ t.faults = u.faults)
  ∧ (∀ (s u : State) (p : Port) (f : LineRx) (b : Bytes) (slot : Stamp) (reason : Nat), s.runs = true →
    s.accessState p = true → s.awaitsType p f tyReg = true → (Header.ofWord f.word).src = 255 →
    s.takeRx p f = (some b, u) → u.steward = true → u.requestSlot p f.sync = some slot →
    u.registration p (slice b 2 20) = .error reason →
    exec (.regRequestRx p f) s = .next (u.setPort p fun q => { q with ctl := q.ctl ++
      [⟨255, tyReg, 0, 0, regShort 5 reason (uAt (slice b 2 20) 0 8), true⟩] }))
  ∧ (∀ (s u : State) (p : Port) (f : LineRx) (b : Bytes), s.runs = true →
    s.accessState p = true → s.awaitsType p f tyReg = true → (Header.ofWord f.word).src = 255 →
    s.takeRx p f = (some b, u) → u.requestSlot p f.sync = none →
    exec (.regRequestRx p f) s = .next (u.wr Reg.LP_ACCESS_REQ_UNSLOTTED p 0
      ((u.rd Reg.LP_ACCESS_REQ_UNSLOTTED p + 1) % 18446744073709551616)))
  ∧ (∀ (s u : State) (p : Port) (f : LineRx) (b : Bytes), s.runs = true → s.accessState p = true →
    s.awaitsType p f tyReg = true → (Header.ofWord f.word).src ≠ 255 → s.subtypeIs f 3 = true →
    s.takeRx p f = (some b, u) → u.steward = true → u.rd Reg.LP_STATION_state p (Header.ofWord f.word).src ≠ 0 →
    u.rdN Reg.LP_STATION_identity p (Header.ofWord f.word).src = uAt b 2 8 →
    Completes (.regConfirmRx p f) s fun t => t = { u with regs := t.regs, ports := t.ports }
      ∧ (t.port p).confirms = (if (u.port p).confirms.contains (Header.ofWord f.word).src then (u.port p).confirms
          else (u.port p).confirms ++ [(Header.ofWord f.word).src])
      ∧ t.rd Reg.LP_STATION_registered p (Header.ofWord f.word).src
          = (if u.rd Reg.LP_STATION_state p (Header.ofWord f.word).src = 2 then f.sync
             else u.rd Reg.LP_STATION_registered p (Header.ofWord f.word).src))
  ∧ (∀ (s u : State) (p : Port) (f : LineRx) (b : Bytes), s.runs = true → s.accessState p = true →
    s.awaitsType p f tyReg = true → (Header.ofWord f.word).src ≠ 255 → s.subtypeIs f 3 = true →
    s.takeRx p f = (some b, u) → u.rdN Reg.LP_STATION_identity p (Header.ofWord f.word).src ≠ uAt b 2 8 →
    exec (.regConfirmRx p f) s = .next u)
  ∧ (∀ (s u : State) (p : Port) (f : LineRx) (b : Bytes), s.runs = true → s.accessState p = true →
    s.awaitsType p f tyReg = true → (Header.ofWord f.word).src < 255 → s.subtypeIs f 4 = true →
    s.takeRx p f = (some b, u) → u.rd Reg.LP_STATION_state p (Header.ofWord f.word).src ≠ 0 →
    u.rdN Reg.LP_STATION_identity p (Header.ofWord f.word).src = uAt b 2 8 →
    Completes (.stationReleaseRx p f) s fun t => t.rd Reg.LP_STATION_state p (Header.ofWord f.word).src = 0
      ∧ t.rd Reg.LP_STATION_identity p (Header.ofWord f.word).src = 0
      ∧ t.merge = (u.stationRecord p (Header.ofWord f.word).src 1 (uAt b 1 1)).merge
      ∧ (t.port p).ctl = (u.port p).ctl.filter fun c => c.dst ≠ (Header.ofWord f.word).src)
  ∧ (∀ (s u : State) (p : Port) (f : LineRx) (b : Bytes), s.runs = true → s.accessState p = true →
    s.awaitsType p f tyReg = true → (Header.ofWord f.word).src ≠ 255 → s.subtypeIs f 4 = true →
    s.takeRx p f = (some b, u) → u.rdN Reg.LP_STATION_identity p (Header.ofWord f.word).src ≠ uAt b 2 8 →
    exec (.stationReleaseRx p f) s = .next u)
  ∧ (∀ (s : State) (p : Port) (a : Nat), s.runs = true → a < 255 →
    s.rd Reg.LP_STATION_state p a = 1 ∨ s.rd Reg.LP_STATION_state p a = 2 → 6 ≤ (s.elem p a).windows →
    (s.elem p a).arrived = false →
    Completes (.elementExpire p a) s fun t => t.rd Reg.LP_STATION_state p a = 0 ∧ t.rd Reg.LP_STATION_identity p a = 0
      ∧ t.merge = (s.stationRecord p a 1 0).merge ∧ (t.port p).ctl = ((s.port p).ctl.filter fun c => c.dst ≠ a))
  ∧ (∀ (s : State) (p : Port) (a : Nat), s.runs = true → a < 255 → s.flag Reg.LP_STATION_release p a = true →
    s.atApplyPoint p = true → s.rd Reg.LP_STATION_state p a ≠ 0 →
    Completes (.hostRelease p a) s fun t => t.rd Reg.LP_STATION_state p a = 0 ∧ t.rd Reg.LP_STATION_release p a = 0
      ∧ t.rd Reg.LP_STATION_identity p a = 0 ∧ t.merge = (s.stationRecord p a 1 4).merge
      ∧ (t.port p).ctl = ((s.port p).ctl.filter fun c => c.dst ≠ a) ++ [⟨a, tyReg, 0, 0,
          regShort 4 4 (s.rdN Reg.LP_STATION_identity p a), false⟩])
  ∧ (∀ (s : State) (p : Port) (a : Nat), s.runs = true → a < 255 → s.flag Reg.LP_STATION_release p a = true →
    s.atApplyPoint p = true → s.rd Reg.LP_STATION_state p a = 0 →
    exec (.hostRelease p a) s = .next (s.wr Reg.LP_STATION_release p a 0))
  ∧ (∀ (s : State) (p : Port) (a : Nat), s.steward = true → a < 255 → s.rd Reg.LP_STATION_state p a ≠ 0 →
    (s.elem p a).toRange = true → (s.elem p a).outOfRange = true → (∀ f ∈ (s.port p).ctl, f.dst = a → f.type ≠ tyRange) →
    Completes (.rangingAttemptsExhausted p a) s fun t => t.rd Reg.LP_STATION_state p a = 0
      ∧ t.rd Reg.LP_ACCESS_RANGING_FAILS p = (s.rd Reg.LP_ACCESS_RANGING_FAILS p + 1) % 18446744073709551616
      ∧ t.merge = (s.stationRecord p a 1 0).merge
      ∧ (t.port p).ctl = ((s.port p).ctl.filter fun c => c.dst ≠ a) ++ (if s.rd Reg.LP_STATION_state p a = 1 then [] else
          [⟨a, tyReg, 0, 0, regShort 4 0 (s.rdN Reg.LP_STATION_identity p a), false⟩]))
  ∧ (∀ (s : State) (p : Port) (a : Nat) (at' : Stamp), s.steward = true → a < 255 → s.rd Reg.LP_STATION_state p a ≠ 0 →
    (s.elem p a).toRange = true → s.rdN Reg.LP_ACCESS_ranging_attempts p ≤ (s.elem p a).attempts →
    (s.elem p a).rangeAt = some at' → at' + airLong (s.port p).band 0 8 + 1800000 < s.now →
    (∀ f ∈ (s.port p).ctl, f.dst = a → f.type ≠ tyRange) →
    Completes (.rangingAttemptsExhausted p a) s fun t => t.rd Reg.LP_STATION_state p a = 0
      ∧ t.rd Reg.LP_ACCESS_RANGING_FAILS p = (s.rd Reg.LP_ACCESS_RANGING_FAILS p + 1) % 18446744073709551616
      ∧ t.merge = (s.stationRecord p a 1 0).merge
      ∧ (t.port p).ctl = ((s.port p).ctl.filter fun c => c.dst ≠ a) ++ (if s.rd Reg.LP_STATION_state p a = 1 then [] else
          [⟨a, tyReg, 0, 0, regShort 4 0 (s.rdN Reg.LP_STATION_identity p a), false⟩]))

/-- A RANGE RESP (R237 to R241): e, its arrival against AT in samples, its level and the level and TA it states are
taken up, and an ADJ answers it: RESULT 0 within one sample, which ends ranging and moves RANGING to CONFIRMING and
MISALIGNED back to ACTIVE; RESULT 2 when TA_USED + e leaves the range of R220; RESULT 1 otherwise. A station's paces
are evaluated (R244 to R248): both at the probe period, which runs on, and on a new ceiling; the upstream one after
two failures in the last 1,024 frames; the downstream one after errors a probe found; no other port's or station's
pace moves. Clauses of it rest on readings and choices of the model: log entries 41 to 43, 59, 212. -/
def Obligations.RangingAndPaceComplete : Prop :=
  (∀ (s u : State) (p : Port) (f : LineRx) (b : Bytes) (at' e : Int) (result : Nat), s.runs = true → s.accessState p = true →
    s.awaitsType p f tyRange = true → (Header.ofWord f.word).src < 255 → s.takeRx p f = (some b, u) → u.steward = true →
    (u.elem p (Header.ofWord f.word).src).rangeAt = some at' → e = roundDiv (f.sync - at') (u.port p).band.ns →
    result = (if e.natAbs ≤ 1 then 0
      else if (uAt b 2 2 : Int) + e < 0 ∨ ((u.port p).band.maxTa : Int) < uAt b 2 2 + e then 2 else 1) →
    u.rd Reg.LP_STATION_state p (Header.ofWord f.word).src = 1 →
    Completes (.rangeRespRx p f) s fun t =>
      t.rd Reg.LP_STATION_state p (Header.ofWord f.word).src = (if result = 0 then 2 else 1)
      ∧ t.rd Reg.LP_STATION_received_level p (Header.ofWord f.word).src
          = (let ls := (f.level :: (u.elem p (Header.ofWord f.word).src).levels).take 4; roundDiv ls.sum ls.length)
      ∧ t.rd Reg.LP_STATION_offset p (Header.ofWord f.word).src
          = (let es := (e :: (u.elem p (Header.ofWord f.word).src).offsets).take 4; roundDiv es.sum es.length)
      ∧ t.rd Reg.LP_STATION_level_used p (Header.ofWord f.word).src = sAt b 4 2
      ∧ t.rd Reg.LP_STATION_timing_advance p (Header.ofWord f.word).src
          = (if result = 2 then u.rd Reg.LP_STATION_timing_advance p (Header.ofWord f.word).src else max 0 (uAt b 2 2 + e))
      ∧ (t.elem p (Header.ofWord f.word).src).rangeAt = none
      ∧ (t.elem p (Header.ofWord f.word).src).toRange = decide (result ≠ 0)
      ∧ (t.elem p (Header.ofWord f.word).src).outOfRange = decide (result = 2)
      ∧ (t.port p).ctl = (u.port p).ctl ++ [⟨(Header.ofWord f.word).src, tyRange, 0, 0,
          adjPayload e (u.powerAdj p f.level) result, false⟩]
      ∧ t = { u with regs := t.regs, ports := t.ports })
  ∧ (∀ (s u : State) (p : Port) (f : LineRx) (b : Bytes) (at' e : Int), s.runs = true → s.accessState p = true →
    s.awaitsType p f tyRange = true → (Header.ofWord f.word).src < 255 → s.takeRx p f = (some b, u) → u.steward = true →
    (u.elem p (Header.ofWord f.word).src).rangeAt = some at' → e = roundDiv (f.sync - at') (u.port p).band.ns →
    e.natAbs ≤ 1 → u.rd Reg.LP_STATION_state p (Header.ofWord f.word).src = 4 →
    Completes (.rangeRespRx p f) s fun t => t.rd Reg.LP_STATION_state p (Header.ofWord f.word).src = 3
      ∧ (t.elem p (Header.ofWord f.word).src).toRange = false ∧ (t.elem p (Header.ofWord f.word).src).attempts = 0
      ∧ t.rd Reg.LP_STATION_timing_advance p (Header.ofWord f.word).src = max 0 (uAt b 2 2 + e)
      ∧ (t.port p).ctl = (u.port p).ctl ++ [⟨(Header.ofWord f.word).src, tyRange, 0, 0,
          adjPayload e (u.powerAdj p f.level) 0, false⟩]
      ∧ t.merge = (State.stationRecord { t with merge := u.merge } p (Header.ofWord f.word).src 3 0).merge)
  ∧ (∀ (s : State) (p : Port) (a : Nat) (probe : StationProbe), s.steward = true → s.portState p = stService → a < 255 →
    s.rd Reg.LP_STATION_state p a = 3 → s.reached (.probe p.val a) = true →
    Completes (.paceEvaluation p a .periodic probe) s fun t =>
      t.deadline (.probe p.val a) = some (s.now + s.rd Reg.LP_ACCESS_probe_period p * nsPerSec)
      ∧ (t.elem p a).dsSnr = probe.snr ∧ (t.elem p a).probeFrames = probe.frames ∧ (t.elem p a).probeErrors = probe.errors
      ∧ t.rdN Reg.LP_STATION_upstream_pace p a
          = movePace (lowestSnr (s.rdN Reg.LP_STATION_allotments p a) (s.upSnr p a))
              (max 1 (popCount 64 (s.rdN Reg.LP_STATION_allotments p a))) (s.rd Reg.LP_ACCESS_margin p)
              (s.rd Reg.LP_ACCESS_hysteresis p) (s.candidates p a Reg.LP_STATION_upstream_ceiling
                (max 1 (popCount 64 (s.rdN Reg.LP_STATION_allotments p a)))) false
              (s.running (.noUp p.val a) && !s.reached (.noUp p.val a)) (s.rdN Reg.LP_STATION_upstream_pace p a)
      ∧ t.rdN Reg.LP_STATION_downstream_pace p a
          = movePace (lowestSnr (2 ^ 64 - 1) probe.snr) 64 (s.rd Reg.LP_ACCESS_margin p)
              (s.rd Reg.LP_ACCESS_hysteresis p) (s.candidates p a Reg.LP_STATION_downstream_ceiling 64)
              ((s.elem p a).errorsGrown probe)
              (s.running (.noDownUp p.val a) && !s.reached (.noDownUp p.val a)) (s.rdN Reg.LP_STATION_downstream_pace p a)
      ∧ (∀ a', a' ≠ a → t.rd Reg.LP_STATION_upstream_pace p a' = s.rd Reg.LP_STATION_upstream_pace p a')
      ∧ t = { s with regs := t.regs, ports := t.ports, timers := t.timers, merge := t.merge })
  ∧ (∀ (s : State) (p : Port) (a : Nat) (probe : StationProbe), s.steward = true → s.portState p = stService → a < 255 →
    s.rd Reg.LP_STATION_state p a = 3 → (s.elem p a).failed = true → 2 ≤ ((s.elem p a).failures.filter id).length →
    Completes (.paceEvaluation p a .upErrors probe) s fun t => (t.elem p a).failed = false
      ∧ t.rdN Reg.LP_STATION_upstream_pace p a
          = movePace (lowestSnr (s.rdN Reg.LP_STATION_allotments p a) (s.upSnr p a))
              (max 1 (popCount 64 (s.rdN Reg.LP_STATION_allotments p a))) (s.rd Reg.LP_ACCESS_margin p)
              (s.rd Reg.LP_ACCESS_hysteresis p) (s.candidates p a Reg.LP_STATION_upstream_ceiling
                (max 1 (popCount 64 (s.rdN Reg.LP_STATION_allotments p a)))) true
              (s.running (.noUp p.val a) && !s.reached (.noUp p.val a)) (s.rdN Reg.LP_STATION_upstream_pace p a)
      ∧ (∀ a', t.rd Reg.LP_STATION_downstream_pace p a' = s.rd Reg.LP_STATION_downstream_pace p a')
      ∧ t = { s with regs := t.regs, ports := t.ports, timers := t.timers, merge := t.merge })
  ∧ (∀ (s : State) (p : Port) (a : Nat) (probe : StationProbe), s.steward = true → s.portState p = stService → a < 255 →
    s.rd Reg.LP_STATION_state p a = 3 → (s.elem p a).errorsGrown probe = true →
    Completes (.paceEvaluation p a .downErrors probe) s fun t => (t.elem p a).dsSnr = probe.snr
      ∧ (t.elem p a).probeFrames = probe.frames ∧ (t.elem p a).probeErrors = probe.errors
      ∧ t.rdN Reg.LP_STATION_downstream_pace p a
          = movePace (lowestSnr (2 ^ 64 - 1) probe.snr) 64 (s.rd Reg.LP_ACCESS_margin p)
              (s.rd Reg.LP_ACCESS_hysteresis p) (s.candidates p a Reg.LP_STATION_downstream_ceiling 64) true
              (s.running (.noDownUp p.val a) && !s.reached (.noDownUp p.val a)) (s.rdN Reg.LP_STATION_downstream_pace p a)
      ∧ (∀ a', t.rd Reg.LP_STATION_upstream_pace p a' = s.rd Reg.LP_STATION_upstream_pace p a')
      ∧ t = { s with regs := t.regs, ports := t.ports, timers := t.timers, merge := t.merge })
  ∧ (∀ (s : State) (p : Port) (a : Nat) (probe : StationProbe), s.steward = true → s.portState p = stService → a < 255 →
    s.rd Reg.LP_STATION_state p a = 3 → (s.elem p a).ceilingSet = true →
    Completes (.paceEvaluation p a .ceiling probe) s fun t => (t.elem p a).ceilingSet = false
      ∧ t.rdN Reg.LP_STATION_upstream_pace p a
          = movePace (lowestSnr (s.rdN Reg.LP_STATION_allotments p a) (s.upSnr p a))
              (max 1 (popCount 64 (s.rdN Reg.LP_STATION_allotments p a))) (s.rd Reg.LP_ACCESS_margin p)
              (s.rd Reg.LP_ACCESS_hysteresis p) (s.candidates p a Reg.LP_STATION_upstream_ceiling
                (max 1 (popCount 64 (s.rdN Reg.LP_STATION_allotments p a)))) false
              (s.running (.noUp p.val a) && !s.reached (.noUp p.val a)) (s.rdN Reg.LP_STATION_upstream_pace p a)
      ∧ t.rdN Reg.LP_STATION_downstream_pace p a
          = movePace (lowestSnr (2 ^ 64 - 1) (s.elem p a).dsSnr) 64 (s.rd Reg.LP_ACCESS_margin p)
              (s.rd Reg.LP_ACCESS_hysteresis p) (s.candidates p a Reg.LP_STATION_downstream_ceiling 64) false
              (s.running (.noDownUp p.val a) && !s.reached (.noDownUp p.val a)) (s.rdN Reg.LP_STATION_downstream_pace p a))

/-- R67, R244: the pace chosen is one that qualifies with the largest spectral efficiency, the lowest code on a tie.
Where none qualifies it is pace 0 downstream; upstream it is the lowest candidate, as R67 lets no pace of a larger D
than the allotments go out, and with no candidate the lowest pace they allow (a reading of the model, log entries 59
and 196). -/
def Obligations.ChosenPaceIsBest : Prop :=
  ∀ (snr : Option Nat) (g : Nat) (m : Int) (paces ceiling : Nat),
    let cands := paceCandidates paces ceiling g
    let r := choosePace snr g m cands
    ((∀ q ∈ cands, paceQualifies snr g m q = false) → (g = 64 → r = 0) ∧ (g ≠ 64 → ∀ q ∈ cands, r ∈ cands ∧ r ≤ q)
      ∧ (g ≠ 64 → 1 ≤ g → paceD r ≤ g))
    ∧ ((∃ q ∈ cands, paceQualifies snr g m q = true) → r ∈ cands ∧ paceQualifies snr g m r = true)
    ∧ ∀ q ∈ cands, paceQualifies snr g m q = true → paceEta q < paceEta r ∨ (paceEta q = paceEta r ∧ r ≤ q)

/-! ## Stations (chapter 05) -/

/-- A station that searches and joins (R216, R217, R222, R226, R227, R232 to R234, R237, R238, R249, Table 5.6). It
takes an anchor; a BEACON gives it the band, the DISCOVER window and whether registration is open, which takes SEARCH
to JOIN; its REQUEST goes out in an access slot of that window, 3.0 dB louder after each that was not answered, and a
window it has used is not used again; after the n-th one unanswered it backs off below 2^min(n, 5) windows; an ASSIGN
takes it to RANGING with what it assigns, a REFUSE makes it wait for the reason's time, after which it searches. A
RANGE REQ gives it the instant of its RESP; an ADJ of RESULT 0 takes RANGING to CONFIRMING, one of RESULT 0 or 1 is
applied from 1 ms later on, one of RESULT 2 and a RELEASE send it to SEARCH; it confirms in slots, at most four times,
then searches. A frame to it is taken in: a GRANT entry or a DATA frame acknowledges its CONFIRM. Clauses of it rest
on readings and choices of the model: log entries 22, 44 to 47, 53, 208, 209. -/
def Obligations.StationsJoinAndConfirm : Prop :=
  (∀ (s : State) (u : Nat) (named : Stamp),
    Completes (.stationAnchor u named) s fun t => t.stn u = { s.stn u with anchor := some (named, s.time.mono) }
      ∧ (t.stn u).estimate s.time.mono = some named ∧ t = { s with stations := t.stations })
  ∧ (∀ (s : State) (u : Nat) (body : Bytes) (snr : Nat), body.length = 40 → uAt body 0 1 = 0 → time80Ok body 11 = true →
    Completes (.stationBeaconRx u ⟨body, snr⟩) s fun t => t = { s with stations := t.stations }
      ∧ (t.stn u).state = (if (s.stn u).state = snSearch ∧ bit (uAt body 36 1) 3 = true then snJoin
          else if (s.stn u).state = snQuiet then snActive else (s.stn u).state)
      ∧ (t.stn u).regOpen = bit (uAt body 36 1) 3 ∧ (t.stn u).lastHeard = s.time.mono
      ∧ (t.stn u).band = ⟨uAt body 21 1, uAt body 22 1, uAt body 23 1, uAt body 24 2⟩
      ∧ (t.stn u).discover = (if uAt body 26 4 = 0 then none else
          some (stampOf (slice body 11 10) + (uAt body 26 4 : Int) * 1000, (uAt body 30 4 : Int) * 1000))
      ∧ (t.stn u).address = (s.stn u).address ∧ (t.stn u).request = (s.stn u).request)
  ∧ (∀ (s : State) (u : Nat) (w len : Stamp), (s.stn u).state = snJoin → (s.stn u).waitUntil = none →
    (s.stn u).request = none → (s.stn u).backoff = 0 → (s.stn u).regOpen = true → (s.stn u).discover = some (w, len) →
    s.time.mono ≤ (s.stn u).reading ((s.stn u).startFor w) → w ∉ (s.stn u).usedWindows →
    airLong (s.stn u).band 0 22 + 500000 ≤ len → slotLength (s.stn u).band ≤ len →
    (∀ k ∈ List.range (len / slotLength (s.stn u).band).toNat,
      (s.stn u).slotted ((s.stn u).startFor (w + k * slotLength (s.stn u).band)) = true
      ∧ (s.stn u).silent ((s.stn u).reading ((s.stn u).startFor (w + k * slotLength (s.stn u).band)))
          ((s.stn u).reading ((s.stn u).startFor (w + k * slotLength (s.stn u).band)) + airLong (s.stn u).band 0 22) = true) →
    Completes (.stationRegRequestSend u) s fun t =>
      (∃ f, t.out = .stationFrame u f :: s.out ∧ f.long = true ∧ f.header.type = tyReg
        ∧ f.header.src = 255 ∧ f.header.dst = 0 ∧ f.header.length = 22 ∧ f.payload = [1, 0] ++ (s.stn u).block
        ∧ f.level = min (s.stn u).maxLevel ((s.stn u).maxLevel - 120 + 30 * ((s.stn u).unanswered : Int))
        ∧ ∃ k ∈ List.range (len / slotLength (s.stn u).band).toNat,
            f.start = (s.stn u).startFor (w + k * slotLength (s.stn u).band)
            ∧ (k : Int) * slotLength (s.stn u).band + airLong (s.stn u).band 0 22 + 500000 ≤ len)
      ∧ (t.stn u).request = some (w + len, s.time.mono) ∧ w ∈ (t.stn u).usedWindows ∧ (t.stn u).state = snJoin
      ∧ t = { s with stations := t.stations, out := t.out, freeCount := t.freeCount })
  ∧ (∀ (s : State) (u : Nat) (stamp : Stamp) (r : Stamp × Stamp), (s.stn u).state = snJoin →
    (s.stn u).request = some r → r.1 < stamp ∨ r.2 + 130000000000 ≤ s.time.mono →
    Completes (.stationRequestUnanswered u stamp) s fun t =>
      (∃ k, k < 2 ^ min ((s.stn u).unanswered + 1) 5 ∧ t.stn u =
        { s.stn u with request := none, unanswered := (s.stn u).unanswered + 1, backoff := k })
      ∧ t = { s with stations := t.stations, freeCount := t.freeCount })
  ∧ (∀ (s : State) (u : Nat) (body : Bytes), body.length = 24 → uAt body 0 1 = 2 → uAt body 21 1 ≤ 23 →
    (s.stn u).state = snJoin → uAt body 1 8 = (s.stn u).uid →
    Completes (.stationAssignRx u body) s fun t => (t.stn u).state = snRanging ∧ (t.stn u).address = uAt body 9 1
      ∧ (t.stn u).allot = uAt body 10 8 ∧ (t.stn u).ta = (uAt body 18 2 : Nat) ∧ (t.stn u).upPace = uAt body 21 1
      ∧ (t.stn u).level = clamp (-400) (s.stn u).maxLevel ((s.stn u).reqLevel + 5 * sAt body 20 1)
      ∧ (t.stn u).security = bit (uAt body 22 1) 0 ∧ (t.stn u).duplex = bit (uAt body 22 1) 1
      ∧ (t.stn u).bell = bit (uAt body 22 1) 2 ∧ (t.stn u).kept = none ∧ (t.stn u).request = none
      ∧ (t.stn u).rangingSince = s.time.mono ∧ t = { s with stations := t.stations })
  ∧ (∀ (s : State) (u : Nat) (body : Bytes), body.length = 10 → uAt body 0 1 = 5 → uAt body 1 1 ≤ 4 →
    (s.stn u).state = snJoin → uAt body 2 8 = (s.stn u).uid →
    Completes (.stationRefuseRx u body) s fun t => t = { s with stations := t.stations }
      ∧ (t.stn u).waitUntil = some (s.time.mono + 1000000000 *
          (if uAt body 1 1 = 0 then 60 else if uAt body 1 1 = 1 then 600 else 3600))
      ∧ (t.stn u).request = none ∧ (t.stn u).state = snJoin)
  ∧ (∀ (s : State) (u : Nat) (w : Stamp), (s.stn u).waitUntil = some w → w ≤ s.time.mono →
    exec (.stationRefuseWaitEnd u) s = .next (s.setStn u Stn.search)
      ∧ ((s.setStn u Stn.search).stn u).state = snSearch ∧ ((s.setStn u Stn.search).stn u).waitUntil = none
      ∧ ((s.setStn u Stn.search).stn u).address = 0)
  ∧ (∀ (s : State) (u : Nat) (body : Bytes), body.length = 12 → uAt body 0 1 = 1 → time80Ok body 2 = true →
    snRanging ≤ (s.stn u).state →
    Completes (.stationRangeReqRx u body) s fun t => t = { s with stations := t.stations }
      ∧ (t.stn u).rangeAt = some (stampOf (slice body 2 10)) ∧ (t.stn u).rangingSince = s.time.mono
      ∧ (t.stn u).state = (if (s.stn u).state = snConfirming ∨ (s.stn u).state = snQuiet then snActive else (s.stn u).state))
  ∧ (∀ (s : State) (u : Nat) (body : Bytes) (e : Stamp), body.length = 8 → uAt body 0 1 = 3 → uAt body 5 1 ≤ 1 →
    snRanging ≤ (s.stn u).state → (s.stn u).estimate s.time.mono = some e →
    Completes (.stationAdjRx u body) s fun t => t = { s with stations := t.stations }
      ∧ (t.stn u).adjust = (s.stn u).adjust ++ [(e + 1000000, sAt body 2 2, 5 * sAt body 4 1)]
      ∧ (t.stn u).ta = (s.stn u).ta ∧ (t.stn u).level = (s.stn u).level
      ∧ ((s.stn u).state = snRanging → uAt body 5 1 = 0 → (t.stn u).state = snConfirming ∧ (t.stn u).confirms = 0)
      ∧ ((s.stn u).state = snRanging → uAt body 5 1 = 1 → (t.stn u).state = snRanging)
      ∧ ((s.stn u).state ≠ snRanging → (t.stn u).state = snActive ∨ (t.stn u).state = (s.stn u).state))
  ∧ (∀ (s : State) (u : Nat) (body : Bytes), body.length = 8 → uAt body 0 1 = 3 → uAt body 5 1 = 2 →
    snRanging ≤ (s.stn u).state →
    Completes (.stationAdjRx u body) s fun t => (t.stn u).state = snSearch ∧ (t.stn u).address = 0
      ∧ t = { s with stations := t.stations })
  ∧ (∀ (s : State) (u : Nat) (w len : Stamp), (s.stn u).state = snConfirming → (s.stn u).confirms < 4 →
    (s.stn u).window w = some len → s.time.mono ≤ (s.stn u).reading ((s.stn u).startFor w) → w ∉ (s.stn u).usedWindows →
    airLong (s.stn u).band 0 10 + 500000 ≤ len → slotLength (s.stn u).band ≤ len →
    (∀ k ∈ List.range (len / slotLength (s.stn u).band).toNat,
      (s.stn u).slotted ((s.stn u).startFor (w + k * slotLength (s.stn u).band)) = true
      ∧ (s.stn u).silent ((s.stn u).reading ((s.stn u).startFor (w + k * slotLength (s.stn u).band)))
          ((s.stn u).reading ((s.stn u).startFor (w + k * slotLength (s.stn u).band)) + airLong (s.stn u).band 0 10) = true) →
    Completes (.stationConfirmSend ⟨u, w⟩) s fun t =>
      (∃ f, t.out = .stationFrame u f :: s.out ∧ f.long = true ∧ f.header.type = tyReg
        ∧ f.header.src = (s.stn u).address ∧ f.header.dst = 0 ∧ f.payload = [3, 0] ++ be 8 (s.stn u).uid
        ∧ ∃ k ∈ List.range (len / slotLength (s.stn u).band).toNat,
            f.start = ((s.stn u).adjusted (w + k * slotLength (s.stn u).band)).startFor
              (w + k * slotLength (s.stn u).band)
            ∧ f.level = ((s.stn u).adjusted (w + k * slotLength (s.stn u).band)).level
            ∧ (k : Int) * slotLength (s.stn u).band + airLong (s.stn u).band 0 10 + 500000 ≤ len)
      ∧ (t.stn u).confirms = (s.stn u).confirms + 1 ∧ w ∈ (t.stn u).usedWindows ∧ (t.stn u).state = snConfirming
      ∧ t = { s with stations := t.stations, out := t.out, freeCount := t.freeCount })
  ∧ (∀ (s : State) (u : Nat) (w : Stamp), (s.stn u).state = snConfirming → 4 ≤ (s.stn u).confirms →
    exec (.stationConfirmSend ⟨u, w⟩) s = .next (s.setStn u Stn.search))
  ∧ (∀ (s : State) (u : Nat) (f : LineRx) (b : Bytes) (i : Nat), (s.stn u).takes f = true →
    (Header.ofWord f.word).type = tyGrant → (Header.ofWord f.word).sa = 0 → rxPayload f (Header.ofWord f.word) = some b →
    (Header.ofWord f.word).frag = 0 → formatOk false (Header.ofWord f.word) b = true → snConfirming ≤ (s.stn u).state →
    i < uAt b 1 1 → uAt b (20 + 20 * i) 1 = (s.stn u).address →
    Completes (.stationConfirmAck u f) s fun t => (t.stn u).state = snActive ∧ (t.stn u).lastHeard = s.time.mono
      ∧ (⟨stampOf (slice b 2 10) + (uAt b (12 + 20 * i) 4 : Int) * 1000,
          stampOf (slice b 2 10) + (uAt b (12 + 20 * i) 4 : Int) * 1000 + (uAt b (16 + 20 * i) 4 : Int) * 1000,
          uAt b (21 + 20 * i) 1, uAt b (24 + 20 * i) 8⟩ : StnGrant) ∈ (t.stn u).grants
      ∧ t = { s with stations := t.stations })
  ∧ (∀ (s : State) (u : Nat) (f : LineRx) (b : Bytes), (s.stn u).takes f = true → (s.stn u).state = snConfirming →
    (Header.ofWord f.word).type = tyData → (Header.ofWord f.word).sa = 0 → (s.stn u).security = false →
    rxPayload f (Header.ofWord f.word) = some b → (Header.ofWord f.word).frag = 0 → (Header.ofWord f.word).dst ≠ 255 →
    Completes (.stationConfirmAck u f) s fun t => (t.stn u).state = snActive
      ∧ t.out = .stationData u (Header.ofWord f.word).dst (Header.ofWord f.word).tag b :: s.out
      ∧ (t.stn u).dsFrames = (s.stn u).dsFrames + 1 ∧ t = { s with stations := t.stations, out := t.out })
  ∧ (∀ (s : State) (u : Nat) (body : Bytes), body.length = 10 → uAt body 0 1 = 4 → uAt body 1 1 ≤ 4 →
    snRanging ≤ (s.stn u).state → uAt body 2 8 = (s.stn u).uid →
    Completes (.stationReleaseToSearch u body) s fun t => (t.stn u).state = snSearch ∧ (t.stn u).address = 0
      ∧ (t.stn u).ta = 0 ∧ (t.stn u).lastHeard = s.time.mono ∧ t = { s with stations := t.stations })

/-- A station that is registered (R117, R124, R125, R134, R143, R146, R191, R217, R219, R222, R249, R250). A REFRESH
makes it quiet, its answer due 5 ms after the REFRESH ends. Its transmissions start when its estimate reads the target
less its timing advance: a RANGE RESP with the TA and level it uses, an upstream REFRESH, which ends QUIET when the
cycle was the last, the next frame of a grant, after which the grant goes on at the frame's end; a RELEASE goes out in
an access slot, and it searches. 150 s of silence and 130 s of RANGING send it to SEARCH; its bell goes out at its
level, at most once in 10 s. A MGMT request is answered once: a repeated REQ_ID gets the response kept; a protected
one is taken in when its association, packet number and MIC stand, in that order, and discarded else. A frame that
verifies under its commissioning key binds the association; one that does not binds none. Clauses of it rest on
readings and choices of the model: log entries 48, 51 to 53, 207 to 209. -/
def Obligations.StationServes : Prop :=
  (∀ (s : State) (u : Nat) (body : Bytes) (air : Int), body.length = 16 → uAt body 0 1 = 0 → time80Ok body 2 = true →
    (s.stn u).state = snActive ∨ (s.stn u).state = snQuiet →
    exec (.stationRefreshRx u body air) s = .next (s.setStn u fun x => { x with
      lastHeard := s.time.mono, refreshAt := some (stampOf (slice body 2 10) + air + 5000000), interval := uAt body 12 2,
      nextCycle := stampOf (slice body 2 10) + (uAt body 12 2 : Int) * 1000000,
      leaveQuiet := bit (uAt body 1 1) 0 && decide (x.state = snQuiet),
      state := if bit (uAt body 1 1) 0 = true then x.state else snQuiet }))
  ∧ (∀ (s : State) (u : Nat) (w : Option Stamp) (h : Header) (body : Bytes) (a : Stamp × Stamp) (target : Stamp),
    h.type = tyRange → snRanging ≤ (s.stn u).state → (s.stn u).anchor = some a → (s.stn u).rangeAt = some target →
    (a.1 + (s.time.mono - a.2) - ((s.stn u).adjusted target).startFor target).natAbs ≤ (s.stn u).band.ns →
    target - a.1 ≤ (s.stn u).band.reach →
    (s.stn u).silent s.time.mono (s.time.mono + airLong (s.stn u).band 0 8) = true →
    Completes (.stationAlignedTx u w ⟨h, body⟩) s fun t =>
      (∃ f, t.out = .stationFrame u f :: s.out ∧ f.long = true ∧ f.start = a.1 + (s.time.mono - a.2)
        ∧ f.header.type = tyRange ∧ f.header.src = (s.stn u).address ∧ f.header.dst = 0
        ∧ f.payload = [2, 0] ++ be 2 ((s.stn u).adjusted target).ta.toNat
            ++ beInt 2 ((s.stn u).adjusted target).level ++ [0, 0]
        ∧ f.level = ((s.stn u).adjusted target).level)
      ∧ (t.stn u).rangeAt = none ∧ (t.stn u).state = (s.stn u).state
      ∧ t = { s with stations := t.stations, out := t.out, freeCount := t.freeCount })
  ∧ (∀ (s : State) (u : Nat) (w : Option Stamp) (h : Header) (body : Bytes) (a : Stamp × Stamp) (target : Stamp),
    h.type = tyRefresh → snRanging ≤ (s.stn u).state → (s.stn u).anchor = some a → (s.stn u).refreshAt = some target →
    (a.1 + (s.time.mono - a.2) - ((s.stn u).adjusted target).startFor target).natAbs ≤ (s.stn u).band.ns →
    target - a.1 ≤ (s.stn u).band.reach →
    (s.stn u).silent s.time.mono (s.time.mono
      + airGrant (s.stn u).band (max 1 (popCount 64 (s.stn u).allot)) (s.stn u).upPace 16) = true →
    Completes (.stationAlignedTx u w ⟨h, body⟩) s fun t =>
      (∃ f, t.out = .stationFrame u f :: s.out ∧ f.long = false ∧ f.allot = (s.stn u).allot
        ∧ f.start = a.1 + (s.time.mono - a.2) ∧ f.header.type = tyRefresh ∧ f.header.pace = (s.stn u).upPace
        ∧ f.header.src = (s.stn u).address ∧ f.header.dst = 0
        ∧ f.payload = [0, 0] ++ timeBytes (a.1 + (s.time.mono - a.2)) ++ be 2 (s.stn u).interval ++ [0, 0]
        ∧ f.level = ((s.stn u).adjusted target).level)
      ∧ (t.stn u).refreshAt = none
      ∧ (t.stn u).state = (if (s.stn u).leaveQuiet = true then snActive else (s.stn u).state)
      ∧ t = { s with stations := t.stations, out := t.out, freeCount := t.freeCount })
  ∧ (∀ (s : State) (u : Nat) (h h' : Header) (body plain : Bytes) (y : Stn) (a : Stamp × Stamp) (g : StnGrant),
    h.type ≤ tyMgmt → (s.stn u).state = snActive → (s.stn u).anchor = some a →
    ((s.stn u).grants.find? fun g => decide ((a.1 + (s.time.mono - a.2) - ((s.stn u).adjusted g.next).startFor g.next).natAbs
      ≤ (s.stn u).band.ns ∧ g.next - a.1 ≤ (s.stn u).band.reach ∧ h.pace ≤ g.pace
      ∧ paceD h.pace ≤ popCount 64 g.mask)) = some g →
    ((s.stn u).adjusted g.next).compose h body = some (h', plain, y) →
    g.next + airGrant (s.stn u).band (max 1 (popCount 64 g.mask)) h'.pace (plain.length + securityBytes h'.sa) ≤ g.stop →
    (s.stn u).silent s.time.mono (s.time.mono
      + airGrant (s.stn u).band (max 1 (popCount 64 g.mask)) h'.pace (plain.length + securityBytes h'.sa)) = true →
    Completes (.stationAlignedTx u none ⟨h, body⟩) s fun t =>
      (∃ f, t.out = .stationFrame u f :: s.out ∧ f.long = false ∧ f.allot = g.mask ∧ f.start = a.1 + (s.time.mono - a.2)
        ∧ f.header = { h' with seed := f.header.seed, length := plain.length + securityBytes h'.sa }
        ∧ f.level = y.level ∧ (h'.sa = 0 → f.payload = plain)
        ∧ (h'.sa ≠ 0 → f.payload = (y.protect f.header plain).1))
      ∧ StnGrant.mk (g.next + airGrant (s.stn u).band (max 1 (popCount 64 g.mask)) h'.pace
            (plain.length + securityBytes h'.sa)) g.stop g.pace g.mask ∈ (t.stn u).grants
      ∧ t = { s with stations := t.stations, out := t.out, freeCount := t.freeCount })
  ∧ (∀ (s : State) (u : Nat) (w len : Stamp) (h : Header) (body : Bytes) (a : Stamp × Stamp), h.type = tyReg →
    (s.stn u).state = snConfirming ∨ (s.stn u).state = snActive → (s.stn u).anchor = some a → (s.stn u).window w = some len →
    s.time.mono ≤ (s.stn u).reading ((s.stn u).startFor w) → w ∉ (s.stn u).usedWindows →
    airLong (s.stn u).band 0 10 + 500000 ≤ len → slotLength (s.stn u).band ≤ len →
    (∀ k ∈ List.range (len / slotLength (s.stn u).band).toNat,
      (s.stn u).slotted ((s.stn u).startFor (w + k * slotLength (s.stn u).band)) = true
      ∧ (s.stn u).silent ((s.stn u).reading ((s.stn u).startFor (w + k * slotLength (s.stn u).band)))
          ((s.stn u).reading ((s.stn u).startFor (w + k * slotLength (s.stn u).band)) + airLong (s.stn u).band 0 10) = true) →
    Completes (.stationAlignedTx u (some w) ⟨h, body⟩) s fun t =>
      (∃ f, t.out = .stationFrame u f :: s.out ∧ f.long = true ∧ f.header.type = tyReg
        ∧ f.header.src = (s.stn u).address ∧ f.payload = [4] ++ be 1 (uAt body 1 1 % 5) ++ be 8 (s.stn u).uid
        ∧ ∃ k ∈ List.range (len / slotLength (s.stn u).band).toNat,
            f.start = ((s.stn u).adjusted (w + k * slotLength (s.stn u).band)).startFor
              (w + k * slotLength (s.stn u).band)
            ∧ f.level = ((s.stn u).adjusted (w + k * slotLength (s.stn u).band)).level
            ∧ (k : Int) * slotLength (s.stn u).band + airLong (s.stn u).band 0 10 + 500000 ≤ len)
      ∧ (t.stn u).state = snSearch ∧ (t.stn u).address = 0
      ∧ t = { s with stations := t.stations, out := t.out, freeCount := t.freeCount })
  ∧ (∀ (s : State) (u : Nat), (s.stn u).state ≠ snSearch → (s.stn u).lastHeard + 150000000000 ≤ s.time.mono →
    exec (.stationTLost u) s = .next (s.setStn u Stn.search))
  ∧ (∀ (s : State) (u : Nat), (s.stn u).state = snRanging → (s.stn u).rangingSince + 130000000000 ≤ s.time.mono →
    exec (.stationRangingWait u) s = .next (s.setStn u Stn.search))
  ∧ (∀ (s : State) (u : Nat) (a : Stamp × Stamp), (s.stn u).anchor = some a → (s.stn u).bell = true →
    bit (uAt (s.stn u).caps 14 1) 2 = true → (∀ b, (s.stn u).bellAt = some b → b + 10000000000 ≤ s.time.mono) →
    (s.stn u).silent s.time.mono (s.time.mono + 16384000) = true →
    (s.stn u).state = snSearch ∨ ((s.stn u).state = snQuiet ∧ (s.stn u).refreshAt = none
      ∧ (s.stn u).refreshEnd ≤ a.1 + (s.time.mono - a.2)
      ∧ a.1 + (s.time.mono - a.2) + (s.stn u).ta * ((s.stn u).band.ns : Int) + 16384000 < (s.stn u).nextCycle) →
    Completes (.stationBellSend u) s fun t =>
      t.out = .stationBell u (a.1 + (s.time.mono - a.2)) (s.stn u).level :: s.out
      ∧ (t.stn u).bellAt = some s.time.mono ∧ (t.stn u).state = (s.stn u).state
      ∧ (s.time.mono, s.time.mono + 16384000) ∈ (t.stn u).sends
      ∧ t = { s with stations := t.stations, out := t.out })
  ∧ (∀ (s : State) (u : Nat) (f : LineRx) (b r : Bytes), (s.stn u).takes f = true → (Header.ofWord f.word).type = tyMgmt →
    (Header.ofWord f.word).frag = 0 → (Header.ofWord f.word).sa = 0 → (s.stn u).security = false →
    rxPayload f (Header.ofWord f.word) = some b → formatOk false (Header.ofWord f.word) b = true →
    mgmtFormat false b = true → (s.stn u).kept = some (uAt b 1 2, r) →
    Completes (.stationMgmtRequest u f) s fun t => (t.stn u).answers = (s.stn u).answers ++ [⟨0, r, false⟩]
      ∧ (t.stn u).kept = (s.stn u).kept ∧ (t.stn u).lastHeard = s.time.mono ∧ t = { s with stations := t.stations })
  ∧ (∀ (s : State) (u : Nat) (f : LineRx) (b v : Bytes) (status : Nat), (s.stn u).takes f = true →
    (Header.ofWord f.word).type = tyMgmt → (Header.ofWord f.word).frag = 0 → (Header.ofWord f.word).sa = 0 →
    (s.stn u).security = false → rxPayload f (Header.ofWord f.word) = some b →
    formatOk false (Header.ofWord f.word) b = true → mgmtFormat false b = true →
    (∀ k, (s.stn u).kept = some k → k.1 ≠ uAt b 1 2) →
    Stn.serve { (s.stn u).tally (Header.ofWord f.word) true with
      dsSnr := (List.range 64).map fun g => BitVec.ofNat 8 (f.snr.getD g 255) }
      (decide (uAt b 0 1 = 2)) (uAt b 3 2) (uAt b 5 1) (uAt b 6 3 % 1048576) = (status, v) →
    Completes (.stationMgmtRequest u f) s fun t =>
      (t.stn u).answers = (s.stn u).answers
        ++ [⟨0, be 1 (uAt b 0 1 + 0x80) ++ slice b 1 8 ++ be 1 status ++ be 2 v.length ++ v, false⟩]
      ∧ (t.stn u).kept
          = some (uAt b 1 2, be 1 (uAt b 0 1 + 0x80) ++ slice b 1 8 ++ be 1 status ++ be 2 v.length ++ v)
      ∧ t = { s with stations := t.stations })
  ∧ (∀ (s : State) (u : Nat) (f : LineRx) (b plain : Bytes) (a : StnAssoc), (s.stn u).takes f = true →
    (Header.ofWord f.word).type = tyMgmt → rxPayload f (Header.ofWord f.word) = some b → (Header.ofWord f.word).sa ≠ 0 →
    ((s.stn u).assocs.find? fun x => x.sa == (Header.ofWord f.word).sa) = some a → a.rxPn < uAt b 0 6 → 15 ≤ b.length →
    ccmDecrypt a.key (ccmNonce false (Header.ofWord f.word) (uAt b 0 6)) (be 14 (Header.ofWord f.word).high) (b.drop 6)
      = some plain →
    exec (.stationMgmtRequest u f) s = .next (((s.setStn u fun x => x.tally (Header.ofWord f.word) true).setStn u fun x =>
      { x with assocs := x.assocs.map fun y => if y.sa = a.sa then { y with rxPn := uAt b 0 6 } else y }).stationTake
        u f plain))
  ∧ (∀ (s : State) (u : Nat) (f : LineRx) (b : Bytes) (a : StnAssoc), (s.stn u).takes f = true →
    (Header.ofWord f.word).type = tyMgmt → rxPayload f (Header.ofWord f.word) = some b → (Header.ofWord f.word).sa ≠ 0 →
    ((s.stn u).assocs.find? fun x => x.sa == (Header.ofWord f.word).sa) = some a → uAt b 0 6 ≤ a.rxPn →
    exec (.stationMgmtRequest u f) s = .next (s.setStn u fun x => x.tally (Header.ofWord f.word) true))
  ∧ (∀ (s : State) (u : Nat) (f : LineRx) (b plain : Bytes), (s.stn u).takes f = true → (Header.ofWord f.word).sa ≠ 0 →
    bit (uAt (s.stn u).caps 14 1) 1 = true → (∀ a ∈ (s.stn u).assocs, a.sa ≠ (Header.ofWord f.word).sa) →
    rxPayload f (Header.ofWord f.word) = some b → 15 ≤ b.length →
    ccmDecrypt (s.stn u).commissioning (ccmNonce false (Header.ofWord f.word) (uAt b 0 6))
      (be 14 (Header.ofWord f.word).high) (b.drop 6) = some plain →
    Completes (.stationCommissioningBind u f) s fun t =>
      (t.stn u).assocs = ⟨(Header.ofWord f.word).sa, (s.stn u).commissioning, uAt b 0 6, 0⟩ :: (s.stn u).assocs
      ∧ t = ((s.setStn u fun x => x.tally (Header.ofWord f.word) true).setStn u fun x =>
          { x with assocs := ⟨(Header.ofWord f.word).sa, x.commissioning, uAt b 0 6, 0⟩ :: x.assocs }).stationTake u f plain)
  ∧ (∀ (s : State) (u : Nat) (f : LineRx) (b : Bytes), (s.stn u).takes f = true → (Header.ofWord f.word).sa ≠ 0 →
    bit (uAt (s.stn u).caps 14 1) 1 = true → (∀ a ∈ (s.stn u).assocs, a.sa ≠ (Header.ofWord f.word).sa) →
    rxPayload f (Header.ofWord f.word) = some b →
    b.length < 15 ∨ ccmDecrypt (s.stn u).commissioning (ccmNonce false (Header.ofWord f.word) (uAt b 0 6))
      (be 14 (Header.ofWord f.word).high) (b.drop 6) = none →
    exec (.stationCommissioningBind u f) s = .next (s.setStn u fun x => x.tally (Header.ofWord f.word) true))

/-! ## Reading the pipe (chapter 06) -/

/-- Sweeps and bands (R255, R262, R266 to R274). After setup the sweep of the band goes out at its level when its
period ends within the window, and else the engine idles; a record enters the band's accumulation, or is rejected, and
is counted; the next sweep follows while the band is not complete. A band with its records, or with half of them after
twice as many sweeps, is compressed at the velocity in force and waits for projection; one with fewer starts again. In
a slot of the cell map the profile that waits is projected; with the last enabled band the refresh is done, counted
and recorded. A cell no sweep has updated for the stale time is marked, and no other changes. Clauses of it rest on
readings and choices of the model: log entries 73, 74, 220, 222. -/
def Obligations.SweepsComplete : Prop :=
  (∀ (s : State) (p : Port) (b : Nat), s.runs = true → (s.port p).sound.band = some b → (s.port p).sound.engine.isSome = true →
    (s.port p).sound.setup = true → (s.port p).sound.stepEnd ≤ s.now → s.now + sweepPeriod b ≤ s.windowLimit p →
    s.soundBarred p = false →
    Completes (.sweepSetupEnd p) s fun t => t.out = .sweep p b (s.sweepLevel p b) (s.shaping p) :: s.out
      ∧ (t.port p).sound.setup = false ∧ (t.port p).sound.stepEnd = s.now + sweepPeriod b
      ∧ (t.port p).sound.sweepEnd = some (s.now + sweepLength b) ∧ t = { s with ports := t.ports, out := t.out })
  ∧ (∀ (s : State) (p : Port) (b : Nat), s.runs = true → (s.port p).sound.band = some b → (s.port p).sound.engine.isSome = true →
    (s.port p).sound.setup = true → (s.port p).sound.stepEnd ≤ s.now →
    s.windowLimit p < s.now + sweepPeriod b ∨ s.soundBarred p = true →
    Completes (.sweepSetupEnd p) s fun t => (t.port p).sound.band = none ∧ (t.port p).sound.setup = false
      ∧ t = { s with ports := t.ports })
  ∧ (∀ (s : State) (p : Port) (r : SweepRecord) (b : Nat), s.runs = true → s.portState p = stService →
    (s.port p).sound.band = some b → (s.port p).sound.focusOn = false → (s.port p).sound.engine.isSome = true →
    (s.port p).sound.setup = false → (s.port p).sound.stepEnd ≤ s.now → s.bandFull p b = false →
    ((s.port p).sound.acc b).rejects r (tapsIn 32 (s.calInForce p).ffe) = false →
    Completes (.sweepRecordEnd p r) s fun t =>
      ((t.port p).sound.acc b).accepted = ((s.port p).sound.acc b).accepted + 1
      ∧ ((t.port p).sound.acc b).swept = ((s.port p).sound.acc b).swept + 1
      ∧ ((t.port p).sound.acc b).sum = (if ((s.port p).sound.acc b).sum = [] then sweepFiltered r (tapsIn 32 (s.calInForce p).ffe)
          else List.zipWith (· + ·) ((s.port p).sound.acc b).sum (sweepFiltered r (tapsIn 32 (s.calInForce p).ffe)))
      ∧ t.rd Reg.LR_STATUS_SWEEPS p = (s.rd Reg.LR_STATUS_SWEEPS p + 1) % 18446744073709551616
      ∧ t.rd Reg.LR_STATUS_REJECTED p = s.rd Reg.LR_STATUS_REJECTED p
      ∧ t.rd Reg.LR_STATUS_accepted p = (((s.port p).sound.acc b).accepted + 1 : Nat)
      ∧ t = { s with regs := t.regs, ports := t.ports, out := t.out })
  ∧ (∀ (s : State) (p : Port) (r : SweepRecord) (b : Nat), s.runs = true → s.portState p = stService →
    (s.port p).sound.band = some b → (s.port p).sound.focusOn = false → (s.port p).sound.engine.isSome = true →
    (s.port p).sound.setup = false → (s.port p).sound.stepEnd ≤ s.now → s.bandFull p b = false →
    ((s.port p).sound.acc b).rejects r (tapsIn 32 (s.calInForce p).ffe) = true →
    Completes (.sweepRecordEnd p r) s fun t =>
      (t.port p).sound.acc b = { (s.port p).sound.acc b with swept := ((s.port p).sound.acc b).swept + 1 }
      ∧ t.rd Reg.LR_STATUS_SWEEPS p = (s.rd Reg.LR_STATUS_SWEEPS p + 1) % 18446744073709551616
      ∧ t.rd Reg.LR_STATUS_REJECTED p = (s.rd Reg.LR_STATUS_REJECTED p + 1) % 18446744073709551616
      ∧ t = { s with regs := t.regs, ports := t.ports, out := t.out })
  ∧ (∀ (s : State) (p : Port) (b : Nat), s.runs = true → (s.port p).sound.band = some b →
    (s.port p).sound.focusOn = false → (s.port p).sound.setup = false → s.bandFull p b = true →
    s.rdN Reg.LR_CTL_averages p ≤ 2 * ((s.port p).sound.acc b).accepted →
    Completes (.bandComplete p) s fun t => (t.port p).sound.ready = (s.port p).sound.ready ++ [b]
      ∧ ((t.port p).sound.acc b).profile
          = some (Config.compress b (s.sweepLevel p b) ((s.port p).sound.acc b).accepted ((s.port p).sound.acc b).sum)
      ∧ ((t.port p).sound.acc b).accepted = 0 ∧ ((t.port p).sound.acc b).velocity = s.velocity p
      ∧ (t.port p).sound.lastBand = b ∧ t = { s with regs := t.regs, ports := t.ports })
  ∧ (∀ (s : State) (p : Port) (b : Nat), s.runs = true → (s.port p).sound.band = some b →
    (s.port p).sound.focusOn = false → (s.port p).sound.setup = false → s.bandFull p b = true →
    2 * ((s.port p).sound.acc b).accepted < s.rdN Reg.LR_CTL_averages p →
    Completes (.bandComplete p) s fun t => (t.port p).sound.ready = (s.port p).sound.ready
      ∧ (t.port p).sound.acc b = ((s.port p).sound.acc b).restart ∧ t = { s with regs := t.regs, ports := t.ports })
  ∧ (∀ (s : State) (p : Port) (b : Nat) (rest : List Nat), s.runs = true → (s.port p).sound.ready = b :: rest →
    s.cellSlot = true →
    (∃ x < 3, s.bandEnabled p x = true ∧ bit ((s.port p).sound.done ||| 2 ^ b) x = false) →
    Completes (.cellUpdate p) s fun t => t.regs = (s.project p b).regs ∧ (t.port p).sound.ready = rest
      ∧ (t.port p).sound.done = (s.port p).sound.done ||| 2 ^ b ∧ t = { s with regs := t.regs, ports := t.ports })
  ∧ (∀ (s : State) (p : Port) (b : Nat) (rest : List Nat), s.runs = true → (s.port p).sound.ready = b :: rest →
    s.cellSlot = true → s.portState p = stService → (s.port p).sound.capture = none →
    (∀ x < 3, s.bandEnabled p x = true → bit ((s.port p).sound.done ||| 2 ^ b) x = true) →
    Completes (.cellUpdate p) s fun t => (t.port p).sound.ready = rest ∧ (t.port p).sound.done = 0
      ∧ t.rd Reg.LR_STATUS_REFRESHES p = (s.rd Reg.LR_STATUS_REFRESHES p + 1) % 18446744073709551616
      ∧ t.rd Reg.LR_STATUS_refresh_stamp p
          = (([0, 1, 2].filter fun x => s.bandEnabled p x).map fun x => ((s.port p).sound.acc x).measured).foldl max 0)
  ∧ (∀ (s : State) (p : Port) (cell : Nat), s.runs = true → s.cellSlot = true → cell < s.mapped p →
    bit (cellFlags (s.cell p cell)) 6 = false →
    s.rd Reg.LR_CTL_stale_time p * nsPerSec ≤ s.now - s.cellStamp p cell →
    exec (.cellStale p cell) s = .next (s.wr Reg.CELL_MAP p cell (setBit (s.cell p cell) 6 true : Nat)))

/-- The DC monitor (R208, R307 to R311). Once a second a loop measurement is reported with its stamp: in mΩ from 1 Ω
to 2,000 Ω, 0 below, 0xFFFF_FFFF above or with an open loop; the loop opening, closing, and a step of more than 5 %
from the mean of the 16 before raise their alarms. An insulation measurement begins at its interval and ends once
settled after 2 s, or at 60 s; over a closed loop both wires read the same, over an open one each its own; falling
below the alarm level raises INSULATION_LOW. The readings of CHECK: two good results take the port to CAL, a bad one
is counted and both are made again 10 s later. The insulation reading is 20 V over the difference of the currents, 0
below 10 kΩ and 0xFFFF_FFFF above 200 MΩ or without a current that flows. Clauses of it rest on readings and choices
of the model: log entries 65, 66, 224. -/
def Obligations.DcMonitorCompletes : Prop :=
  (∀ (s : State) (p : Port) (mohm : Option Nat), s.runs = true → s.dcRuns p = true → s.due (.loop p.val) = true →
    s.portState p ≠ stCheck →
    Completes (.loopMeasurement p mohm) s fun t =>
      t.rd Reg.LR_DC_loop p = (match mohm with
        | none => 0xFFFFFFFF
        | some v => if 2000000 < v then 0xFFFFFFFF else if v < 1000 then 0 else (v : Int))
      ∧ t.rd Reg.LR_DC_loop_stamp p = s.now
      ∧ (t.port p).dc.isOpen = some (mohm.all fun v => decide (2000000 < v))
      ∧ t.deadline (.loop p.val) = some (s.now + nsPerSec) ∧ t.portState p = s.portState p
      ∧ ((s.port p).dc.isOpen = none → ((s.port p).dc.loops.take 16).length < 16 → t.merge = s.merge)
      ∧ t = { s with regs := t.regs, ports := t.ports, timers := t.timers, merge := t.merge, out := t.out })
  ∧ (∀ (s : State) (p : Port), s.runs = true → s.dcRuns p = true → s.due (.loop p.val) = true →
    s.portState p ≠ stCheck → (s.port p).dc.isOpen = some false →
    Completes (.loopMeasurement p none) s fun t => t.rd Reg.LR_DC_loop p = 0xFFFFFFFF ∧ (t.port p).dc.isOpen = some true
      ∧ t.merge = (s.dcAlarm p 2 0xFFFFFFFF).merge)
  ∧ (∀ (s : State) (p : Port) (v : Nat), s.runs = true → s.dcRuns p = true → s.due (.loop p.val) = true →
    s.portState p ≠ stCheck → (s.port p).dc.isOpen = some false → 1000 ≤ v → v ≤ 2000000 →
    ((s.port p).dc.loops.take 16).length = 16 →
    ((s.port p).dc.loops.take 16).sum < 20 * ((v : Int) * 16 - ((s.port p).dc.loops.take 16).sum).natAbs →
    Completes (.loopMeasurement p (some v)) s fun t => t.rd Reg.LR_DC_loop p = v
      ∧ t.merge = (s.dcAlarm p 4 v).merge)
  ∧ (∀ (s : State) (p : Port) (v : Nat), s.runs = true → s.dcRuns p = true → s.due (.loop p.val) = true →
    s.portState p = stCheck → s.running (.check p.val) = false → (s.port p).dc.insulResult = some true → v ≤ 2000000 →
    Completes (.loopMeasurement p (some v)) s fun t => t.portState p = stCal ∧ t.rd Reg.LR_DC_loop_stamp p = s.now)
  ∧ (∀ (s : State) (p : Port) (x : Bool), s.runs = true → s.dcRuns p = true → s.due (.loop p.val) = true →
    s.portState p = stCheck → s.running (.check p.val) = false → (s.port p).dc.insulResult = some x →
    Completes (.loopMeasurement p none) s fun t => t.portState p = stCheck
      ∧ t.rd Reg.LP_STATE_CHECK_FAILS p = (s.rd Reg.LP_STATE_CHECK_FAILS p + 1) % 18446744073709551616
      ∧ t.deadline (.check p.val) = some (s.now + 10000000000) ∧ (t.port p).dc.failedOnce = true
      ∧ ((s.port p).dc.failedOnce = true → t.faults = s.faults)
      ∧ ((s.port p).dc.failedOnce = false → t.faults = s.reported (srcLine p) clsLine 0x01 p.val
          (min (s.rdN Reg.LR_DC_insulation_A p) (s.rdN Reg.LR_DC_insulation_B p) / 1000) 1))
  ∧ (∀ (s : State) (p : Port), s.runs = true → s.dcRuns p = true → (s.port p).dc.measuring = false →
    s.due (.insulation p.val) = true →
    exec (.insulationStart p) s = .next ((s.setPort p fun q => { q with dc := { q.dc with
      measuring := true, measureStart := s.now } }).arm (.insulation p.val) (s.now + s.rd Reg.LR_DC_interval p * nsPerSec)))
  ∧ (∀ (s : State) (p : Port) (m : InsulationMeas), s.runs = true → s.dcRuns p = true → s.portState p ≠ stCheck →
    (s.port p).dc.measuring = true → 2 * nsPerSec ≤ s.now - (s.port p).dc.measureStart →
    m.settled = true ∨ 60 * nsPerSec ≤ s.now - (s.port p).dc.measureStart →
    Completes (.insulationResult p m) s fun t => t.rd Reg.LR_DC_insulation_A p = insulation m.aPlus m.aMinus
      ∧ t.rd Reg.LR_DC_insulation_B p = (if (s.port p).dc.isOpen = some true then insulation m.bPlus m.bMinus
          else insulation m.aPlus m.aMinus)
      ∧ t.rd Reg.LR_DC_insulation_stamp p = s.now ∧ t.rd Reg.LR_DC_capacitance p = m.capacitance
      ∧ (t.port p).dc.measuring = false ∧ bit (t.rdN Reg.LR_DC_flags p) 3 = !m.settled
      ∧ bit (t.rdN Reg.LR_DC_flags p) 0 = decide ((s.port p).dc.isOpen ≠ some true)
      ∧ t = { s with regs := t.regs, ports := t.ports, merge := t.merge })
  ∧ (∀ (s : State) (p : Port) (m : InsulationMeas), s.runs = true → s.dcRuns p = true → s.portState p ≠ stCheck →
    (s.port p).dc.measuring = true → (s.port p).dc.isOpen = some false → m.settled = true →
    2 * nsPerSec ≤ s.now - (s.port p).dc.measureStart → (s.port p).dc.low = false →
    insulation m.aPlus m.aMinus < s.rdN Reg.LR_DC_alarm_level p →
    Completes (.insulationResult p m) s fun t => (t.port p).dc.low = true
      ∧ t.merge = (s.dcAlarm p 0 (insulation m.aPlus m.aMinus)).merge)
  ∧ (∀ (s : State) (p : Port) (m : InsulationMeas), s.runs = true → s.dcRuns p = true → s.portState p = stCheck →
    (s.port p).dc.measuring = true → (s.port p).dc.isOpen = some false → m.settled = true →
    2 * nsPerSec ≤ s.now - (s.port p).dc.measureStart → (s.port p).dc.loopResult = some true →
    s.running (.check p.val) = false → s.rdN Reg.LP_ACCESS_insulation_floor p ≤ insulation m.aPlus m.aMinus →
    Completes (.insulationResult p m) s fun t => t.portState p = stCal ∧ t.rd Reg.LR_DC_insulation_stamp p = s.now)
  ∧ (∀ plus minus : Int,
    (plus ≤ minus → insulation plus minus = 0xFFFFFFFF)
    ∧ (minus < plus → insulation plus minus = 0 ∨ insulation plus minus = 0xFFFFFFFF
      ∨ (10000 ≤ insulation plus minus ∧ insulation plus minus ≤ 200000000
        ∧ (2 * ((insulation plus minus : Int) * (plus - minus) - 20000000000000)).natAbs ≤ (plus - minus).natAbs))
    ∧ (∀ i : Int, minus < plus → plus ≤ i → insulation i minus ≤ insulation plus minus))

/-- Focused soundings (R283 to R285, R287): a request covers its centre and its half-span within the mapped length and
waits at most 10 s, widening one that waits; one not begun by then is dropped and counted; one swept completely
updates its span in a slot of the cell map and is counted. Bulk readout (R313, R314): in its slots a readout starts
with its head; it ends, once every item is streamed, with its tail. Clauses of it rest on readings and choices of the
model: log entries 63, 64, 68, 69. -/
def Obligations.FocusAndReadoutComplete : Prop :=
  (∀ (s : State) (p : Port), s.runs = true → s.flag Reg.LR_FOCUS_request p = true → (s.port p).sound.focus = none →
    Completes (.focusRequest p) s fun t => t.rd Reg.LR_FOCUS_pending p = 1
      ∧ t.deadline (.focus p.val) = some (s.now + 10000000000)
      ∧ (t.port p).sound.focus = some {
          lo := s.rdN Reg.LR_FOCUS_centre p - s.rdN Reg.LR_FOCUS_half_span p,
          hi := max (s.rdN Reg.LR_FOCUS_centre p)
            (min (s.mapped p - 1) (s.rdN Reg.LR_FOCUS_centre p + s.rdN Reg.LR_FOCUS_half_span p)) }
      ∧ t = { s with regs := t.regs, ports := t.ports, timers := t.timers })
  ∧ (∀ (s : State) (p : Port) (f : Focus), s.runs = true → s.flag Reg.LR_FOCUS_request p = true →
    (s.port p).sound.focus = some f →
    Completes (.focusRequest p) s fun t => t.deadline (.focus p.val) = s.deadline (.focus p.val)
      ∧ (∃ g, (t.port p).sound.focus = some g ∧ g.lo ≤ f.lo ∧ f.hi ≤ g.hi ∧ g.lo ≤ s.rdN Reg.LR_FOCUS_centre p
          ∧ s.rdN Reg.LR_FOCUS_centre p ≤ g.hi)
      ∧ t = { s with regs := t.regs, ports := t.ports })
  ∧ (∀ (s : State) (p : Port), s.runs = true → (s.port p).sound.focus.isSome = true → s.passed (.focus p.val) = true →
    Completes (.focusExpire p) s fun t => (t.port p).sound.focus = none ∧ t.rd Reg.LR_FOCUS_pending p = 0
      ∧ t.rd Reg.LR_FOCUS_request p = 0 ∧ t.deadline (.focus p.val) = none
      ∧ t.regs = (((s.wr Reg.LR_FOCUS_pending p 0 0).wr Reg.LR_FOCUS_request p 0 0).cntSound p Reg.LR_FOCUS_EXPIRED).regs
      ∧ t = { s with regs := t.regs, ports := t.ports, timers := t.timers })
  ∧ (∀ (s : State) (p : Port) (f : Focus), s.runs = true → s.cellSlot = true → (s.port p).sound.focusRun = some f →
    f.bands = [] → (s.port p).sound.focusOn = false →
    Completes (.focusComplete p) s fun t => (t.port p).sound.focusRun = none
      ∧ (t.port p).sound.updates = (s.port p).sound.updates ++ [(f.lo, f.hi, s.now)]
      ∧ t.rd Reg.LR_FOCUS_RUNS p = (s.cntSound p Reg.LR_FOCUS_RUNS).rd Reg.LR_FOCUS_RUNS p
      ∧ (∀ i, i < f.lo ∨ f.hi < i → i < 163840 → cellCurrent (t.cell p i) = cellCurrent (s.cell p i)))
  ∧ (∀ (s : State) (p : Port), s.runs = true → s.flag Reg.LR_READOUT_start p = true → s.inBulk = true →
    (s.port p).sound.readout = none →
    Completes (.readoutStart p) s fun t => t.rd Reg.LR_READOUT_state p = 1 ∧ t.rd Reg.LR_READOUT_start p = 0
      ∧ (t.port p).sound.readout = some (s.rdN Reg.LR_READOUT_content p, s.rdN Reg.LR_READOUT_first_cell p,
          s.rdN Reg.LR_READOUT_count p, s.rdN Reg.LR_READOUT_snapshot p, 0)
      ∧ t.pf = (s.sendBulk p 0 false (be 1 p.val ++ be 1 (s.rdN Reg.LR_READOUT_content p)
          ++ be 1 (s.rdN Reg.LR_READOUT_snapshot p) ++ [0] ++ be 4 (s.rdN Reg.LR_READOUT_first_cell p)
          ++ be 4 (s.rdN Reg.LR_READOUT_count p) ++ be 4 (s.rdN Reg.LR_STATUS_REFRESHES p))).pf)
  ∧ (∀ (s : State) (p : Port) (content first count pos sent : Nat), s.runs = true → s.inBulk = true →
    (s.port p).sound.readout = some (content, first, count, pos, sent) → s.readoutItems p content first count ≤ sent →
    Completes (.readoutEnd p) s fun t => t.rd Reg.LR_READOUT_state p = 0 ∧ (t.port p).sound.readout = none
      ∧ t.pf = (s.sendBulk p (16 + sent * readoutUnit content) true (be 4 (s.rdN Reg.LR_STATUS_REFRESHES p))).pf)

/-- The last (R288 to R291, R293, R294): a capture starts; with an open loop it fails with FAILED, with every served
cell and every loop measurement steady it becomes the last, with the mean loop resistance as R_ref; baseline cells
that were written are loaded, their TREND 0, and any capture is abandoned; a change of what it stands for invalidates
it: no cell keeps BASELINE_VALID. Each but the start is recorded. Clauses of it rest on readings and choices of the
model: log entries 70 to 72. -/
def Obligations.LastCompletes : Prop :=
  (∀ (s : State) (p : Port), s.runs = true → s.flag Reg.LR_LAST_capture p = true →
    Completes (.lastCaptureStart p) s fun t => t.rd Reg.LR_LAST_state p = 1 ∧ t.rd Reg.LR_LAST_capture p = 0
      ∧ (t.port p).sound.capture = some { left := s.rdN Reg.LR_LAST_refreshes p }
      ∧ t.rd Reg.LR_LAST_stamp p = s.rd Reg.LR_LAST_stamp p ∧ t = { s with regs := t.regs, ports := t.ports })
  ∧ (∀ (s : State) (p : Port) (c : Capture), s.runs = true → (s.port p).sound.capture = some c → c.left = 0 →
    c.columns ≠ [] → c.opened = true →
    Completes (.lastCaptureEnd p) s fun t => t.rd Reg.LR_LAST_state p = 3 ∧ (t.port p).sound.capture = none
      ∧ t.rd Reg.LR_LAST_stamp p = s.rd Reg.LR_LAST_stamp p ∧ t.rd Reg.LR_VELOCITY_R_ref p = s.rd Reg.LR_VELOCITY_R_ref p
      ∧ t.merge = (s.lastRecord p 2 (t.rdN Reg.LR_LAST_stable_fraction p)).merge
      ∧ t = { s with regs := t.regs, ports := t.ports, merge := t.merge })
  ∧ (∀ (s : State) (p : Port) (c : Capture), s.runs = true → (s.port p).sound.capture = some c → c.left = 0 →
    c.columns ≠ [] → c.opened = false → s.mapped p ≤ 163840 →
    (∀ x ∈ c.loops, ((x * c.columns.length : Nat) - (c.loops.sum : Int)).natAbs * 1000 ≤ 8 * c.loops.sum) →
    (∀ i < s.mapped p, spread c.columns.length (c.sums i)
      ≤ s.rdN Reg.LR_LAST_stability_limit p * s.rdN Reg.LR_LAST_stability_limit p * c.columns.length * c.columns.length) →
    (∃ x < 3, s.bandEnabled p x = true ∧ bandLo x < s.mapped p) →
    Completes (.lastCaptureEnd p) s fun t => t.rd Reg.LR_LAST_state p = 2 ∧ t.rd Reg.LR_LAST_stamp p = s.now
      ∧ (t.port p).sound.capture = none ∧ t.rd Reg.LR_VELOCITY_R_ref p = roundDiv c.loops.sum c.columns.length
      ∧ t.rd Reg.LR_LAST_stable_fraction p = 10000 ∧ (t.port p).sound.cands = [])
  ∧ (∀ (s : State) (p : Port), s.runs = true → (s.port p).sound.loadCells ≠ [] →
    (∀ i ∈ (s.port p).sound.loadCells, i < 163840) → s.lastKeyNow p = s.lastKeyHeld p →
    Completes (.lastLoad p) s fun t => t.rd Reg.LR_LAST_state p = 4 ∧ (t.port p).sound.loadCells = []
      ∧ (t.port p).sound.capture = none ∧ (t.port p).sound.events = [] ∧ (t.port p).sound.cands = []
      ∧ (∀ i ∈ (s.port p).sound.loadCells, bit (cellFlags (t.cell p i)) 7 = true ∧ cellTrend (t.cell p i) = 0
          ∧ cellBaseline (t.cell p i) = cellBaseline (s.cell p i)))
  ∧ (∀ (s : State) (p : Port), s.runs = true → s.lastKeyNow p ≠ s.lastKeyHeld p →
    Completes (.lastInvalidate p) s fun t => t.rd Reg.LR_LAST_state p = 0 ∧ t.rd Reg.LR_VELOCITY_R_ref p = 0
      ∧ t.lastKeyHeld p = s.lastKeyNow p ∧ (t.port p).sound.events = [] ∧ (t.port p).sound.cands = []
      ∧ (∀ i, i < 163840 → bit (cellFlags (t.cell p i)) 7 = false) ∧ t.rd Reg.LR_LAST_stamp p = s.rd Reg.LR_LAST_stamp p)

/-! ## Itineraries (chapter 07) -/

/-- Windows and switches (R51, R258, R316, R331): when a window is over, what waits for the boundary applies and the
next window of the operating itinerary begins where it ended, in turn where SOUND windows begin together; at an armed
switch instant the pending itinerary becomes the operating one, and its window 0 begins at that instant. What a port
sends in its DOWN windows (R97, R214, R224, R322, R325): the BEACON at its instant, last, one whose instant has passed
is counted as skipped; the earliest GRANT at its BASE, whose intervals the port then listens in, or, past its BASE,
none; at a free instant the bell it owes, then the BEACON it owes, then a REG answer, then a RANGE REQ, else with
nothing of its own due the queue picked. In a DUPLEX window a frame admitted by R179 goes out, and one that is not
closes the window to such frames and is counted (R180); in a QUIET window a training burst of eight symbols. Clauses
of it rest on readings and choices of the model: log entries 18, 79 to 82, 185, 210. -/
def Obligations.ItinerariesRunAndSend : Prop :=
  (∀ (s : State) (p : Port), s.runs = true → s.ready = true → (s.port p).winEnd ≤ s.now → s.switchDue p = false →
    s.soundTurn p = true →
    exec (.windowStart p) s = .next (((s.applyAtBoundary p).beginWindow p
      (((s.port p).winIdx + 1) % max 1 ((s.applyAtBoundary p).rdN Reg.ITIN_OP_count p)) (s.port p).winEnd
      ((s.port p).winEnd + winDuration ((s.applyAtBoundary p).rdN Reg.ITIN_OP_windows p
        (((s.port p).winIdx + 1) % max 1 ((s.applyAtBoundary p).rdN Reg.ITIN_OP_count p))))
      (decide (((s.port p).winIdx + 1) % max 1 ((s.applyAtBoundary p).rdN Reg.ITIN_OP_count p) = 0))).keep s))
  ∧ (∀ (s : State) (p : Port) (i : Nat) (start finish : Stamp) (counts : Bool), i < 256 →
    ((s.beginWindow p i start finish counts).port p).winIdx = i
    ∧ ((s.beginWindow p i start finish counts).port p).winStart = start
    ∧ ((s.beginWindow p i start finish counts).port p).winEnd = finish
    ∧ (s.beginWindow p i start finish counts).rd Reg.ITIN_CTL_window p = i
    ∧ (counts = true → (s.beginWindow p i start finish counts).rd Reg.ITIN_CTL_CYCLES p
        = (s.rd Reg.ITIN_CTL_CYCLES p + 1) % 18446744073709551616))
  ∧ (∀ (s : State) (p : Port), s.runs = true → s.ready = true → s.switchDue p = true → s.soundTurn p = true →
    Completes (.itinSwitch p) s fun t => t.rd Reg.ITIN_CTL_state p = 0 ∧ t.rd Reg.ITIN_CTL_arm p = 0
      ∧ t.rd Reg.ITIN_OP_count p = (s.applyAtBoundary p).rd Reg.ITIN_PEND_count p
      ∧ t.rd Reg.ITIN_OP_cycle p = (s.applyAtBoundary p).rd Reg.ITIN_PEND_cycle p
      ∧ t.rd Reg.ITIN_OP_base p = (s.applyAtBoundary p).rd Reg.ITIN_PEND_base p
      ∧ (∀ e, e < 256 → t.rd Reg.ITIN_OP_windows p e = (s.applyAtBoundary p).rd Reg.ITIN_PEND_windows p e)
      ∧ (∀ e, e < 1024 → t.rd Reg.ITIN_OP_grants p e = (s.applyAtBoundary p).rd Reg.ITIN_PEND_grants p e)
      ∧ (t.port p).winIdx = 0 ∧ (t.port p).winStart = (s.applyAtBoundary p).rd Reg.ITIN_CTL_switch p
      ∧ (t.port p).winEnd = (s.applyAtBoundary p).rd Reg.ITIN_CTL_switch p
          + winDuration ((s.applyAtBoundary p).rdN Reg.ITIN_PEND_windows p 0))
  ∧ (∀ (s : State) (p : Port), s.runs = true → s.beaconWanted p = true → s.now = s.beaconStart p →
    (s.port p).winStart ≤ s.now → s.mayTransmit p = true → s.carrying p = false →
    Completes (.beaconSend p) s fun t => (∃ f, t.out = .frame p f :: s.out ∧ f.start = s.beaconStart p ∧ f.long = true
        ∧ f.header.type = tyBeacon ∧ f.header.dst = 255 ∧ f.header.src = 0 ∧ f.header.pace = 0
        ∧ f.payload = s.beaconPayload p ∧ f.level = s.rd Reg.LP_TX_effective p)
      ∧ (t.port p).beaconFor = some (s.port p).winStart ∧ (t.port p).txEnd = s.now + airLong (s.port p).band 0 40)
  ∧ (∀ (s : State) (p : Port), s.runs = true → s.beaconWanted p = true →
    s.beaconStart p < s.now ∨ (s.beaconStart p = s.now ∧ (s.mayTransmit p = false ∨ s.carrying p = true)) →
    exec (.beaconSend p) s = .next ((s.setPort p fun q => { q with beaconFor := some q.winStart }).wr
      Reg.LP_ACCESS_BEACON_SKIPPED p 0 ((s.rd Reg.LP_ACCESS_BEACON_SKIPPED p + 1) % 18446744073709551616)))
  ∧ (∀ (s : State) (p : Port) (g : GrantPlan), s.runs = true → (s.grantPlans p).head? = some g → s.now = g.base →
    (s.port p).winStart ≤ s.now → s.mayTransmit p = true → s.carrying p = false → g.count ≠ 0 →
    Completes (.grantSend p) s fun t => (∃ f, t.out = .frame p f :: s.out ∧ f.start = g.base ∧ f.long = true
        ∧ f.header.type = tyGrant ∧ f.header.dst = 255 ∧ f.header.src = 0 ∧ f.header.pace = s.floorPace p
        ∧ f.payload = g.payload)
      ∧ (t.port p).grants = (s.port p).grants ++ g.grants ∧ g.key ∈ (t.port p).grantFor
      ∧ t.rd Reg.ITIN_CTL_GRANT_OMITTED p = (s.rd Reg.ITIN_CTL_GRANT_OMITTED p + g.omitted) % 18446744073709551616)
  ∧ (∀ (s : State) (p : Port) (g : GrantPlan), s.runs = true → (s.grantPlans p).head? = some g → g.base < s.now →
    exec (.grantSend p) s = .next (s.grantHandled p g) ∧ g.key ∈ ((s.grantHandled p g).port p).grantFor
      ∧ (s.grantHandled p g).out = s.out)
  ∧ (∀ (s : State) (p : Port), s.runs = true → s.now < (s.port p).winEnd → s.mayTransmit p = true →
    winType (s.curWindow p) = wDown → s.carrying p = false → s.accessState p = true → (s.port p).bellDue = true →
    s.now + 16384000 ≤ s.downLimit p →
    Completes (.downFreeInstant p) s fun t =>
      t.out = .bell p s.now (s.rd Reg.LP_TX_effective p) (s.shaping p) :: s.out
      ∧ (t.port p).bellDue = false ∧ (t.port p).txEnd = s.now + 16384000)
  ∧ (∀ (s : State) (p : Port), s.runs = true → s.now < (s.port p).winEnd → s.mayTransmit p = true →
    winType (s.curWindow p) = wDown → s.carrying p = false → s.accessState p = true → (s.port p).bellDue = false →
    (s.port p).beaconDue = true → s.now + airLong (s.port p).band 0 40 ≤ s.downLimit p →
    Completes (.downFreeInstant p) s fun t => (∃ f, t.out = .frame p f :: s.out ∧ f.start = s.now
        ∧ f.header.type = tyBeacon ∧ f.header.dst = 255 ∧ f.header.pace = 0 ∧ f.payload = s.beaconPayload p)
      ∧ (t.port p).beaconDue = false)
  ∧ (∀ (s : State) (p : Port) (c : CtlFrame), s.runs = true → s.now < (s.port p).winEnd → s.mayTransmit p = true →
    winType (s.curWindow p) = wDown → s.carrying p = false → s.accessState p = true → (s.port p).bellDue = false →
    (s.port p).beaconDue = false →
    (((s.port p).ctl.filter fun f => decide (s.now + s.ctlAir p f ≤ s.downLimit p) && (f.sa == 0 || s.canProtect p f.sa)).find?
      fun f => f.rank == 0) = some c → c.sa = 0 → c.type = tyReg →
    Completes (.downFreeInstant p) s fun t => (∃ f, t.out = .frame p f :: s.out ∧ f.start = s.now
        ∧ f.header.type = tyReg ∧ f.header.dst = c.dst ∧ f.header.pace = 0 ∧ f.payload = c.payload)
      ∧ (t.port p).ctl = (s.port p).ctl.erase c)
  ∧ (∀ (s : State) (p : Port) (a : Nat) (at' : Stamp), s.runs = true → s.now < (s.port p).winEnd → s.mayTransmit p = true →
    winType (s.curWindow p) = wDown → s.carrying p = false → s.accessState p = true → (s.port p).bellDue = false →
    (s.port p).beaconDue = false → (∀ f ∈ (s.port p).ctl, f.rank ≠ 0) → (s.port p).lapsed = false →
    s.now + airLong (s.port p).band 0 12 ≤ s.downLimit p → (s.rangeDue p).head? = some a → s.rangeSlot p = some at' →
    Completes (.downFreeInstant p) s fun t => (∃ f, t.out = .frame p f :: s.out ∧ f.start = s.now
        ∧ f.header.type = tyRange ∧ f.header.dst = a ∧ f.header.pace = 0 ∧ f.payload = [1, 0] ++ timeBytes at')
      ∧ (t.elem p a).rangeAt = some at' ∧ (t.elem p a).attempts = (s.elem p a).attempts + 1)
  ∧ (∀ (s u : State) (p : Port) (q n : Nat) (last : Bool), s.runs = true → s.now < (s.port p).winEnd →
    s.mayTransmit p = true → winType (s.curWindow p) = wDown → s.carrying p = false → s.portState p = stService →
    (s.port p).bellDue = false → (s.port p).beaconDue = false → (s.port p).ctl = [] → s.rangeDue p = [] →
    s.stopped = false → s.pick p (winMask (s.curWindow p)) (s.downLimit p) = (some (q, n, last), u) → u.queue q ≠ [] →
    exec (.downFreeInstant p) s = .next ((u.sendQueued p q n last).keep s)
      ∧ ∃ f, (u.sendQueued p q n last).out = .frame p f :: u.out ∧ f.header.type = tyData)
  ∧ (∀ (s u : State) (p : Port) (q n : Nat) (last : Bool) (f : QFrame), s.runs = true → s.now < (s.port p).winEnd →
    s.mayTransmit p = true → winType (s.curWindow p) = wDuplex → s.portState p = stService →
    (s.port p).duplexBlocked = false → s.stopped = false →
    s.pick p (winMask (s.curWindow p)) (s.hardLimit p) = (some (q, n, last), u) → (u.queue q).head? = some f →
    s.duplexAdmitted p = true → flowStation f.flow ≠ 255 → (s.elem p (flowStation f.flow)).duplex = true →
    s.flag Reg.LP_ACCESS_duplex_allowed p = true →
    exec (.downFreeInstant p) s = .next ((u.sendQueued p q n last).keep s))
  ∧ (∀ (s u : State) (p : Port) (q n : Nat) (last : Bool), s.runs = true → s.now < (s.port p).winEnd →
    s.mayTransmit p = true → winType (s.curWindow p) = wDuplex → s.portState p = stService →
    (s.port p).duplexBlocked = false → s.stopped = false →
    s.pick p (winMask (s.curWindow p)) (s.hardLimit p) = (some (q, n, last), u) → s.duplexAdmitted p = false →
    Completes (.downFreeInstant p) s fun t => t.out = u.out ∧ (t.port p).duplexBlocked = true
      ∧ t.rd Reg.LP_EC_HALF_DUPLEX p = (u.rd Reg.LP_EC_HALF_DUPLEX p + 1) % 18446744073709551616)
  ∧ (∀ (s : State) (p : Port), s.runs = true → s.now < (s.port p).winEnd → s.mayTransmit p = true →
    winType (s.curWindow p) = wQuiet → s.carrying p = false → s.dpdTrains p = true →
    s.portState p = stCal ∨ s.portState p = stDiscover ∨ s.portState p = stService →
    s.now + 8 * ((((s.port p).band.size + (s.port p).band.cp) * (s.port p).band.ns : Nat) : Int) ≤ s.windowLimit p →
    Completes (.downFreeInstant p) s fun t =>
      t.out = .burst p s.now (s.port p).band 8 (s.rd Reg.LP_TX_effective p) (s.shaping p) :: s.out
      ∧ (t.port p).txEnd = s.now + 8 * ((((s.port p).band.size + (s.port p).band.cp) * (s.port p).band.ns : Nat) : Int))

/-- R330: the switch instant is the first instant a whole number of cycles after the base that lies at least 1 ms
after the commit was done, the base itself where it does. -/
def Obligations.SwitchInstant : Prop :=
  ∀ (s : State) (p : Port) (d : Stamp), s.runs = true → s.flag Reg.ITIN_CTL_arm p = true → (s.port p).armedAt = some d →
    1 ≤ s.rd Reg.ITIN_PEND_cycle p →
    Completes (.itinArm p) s fun t => t.rd Reg.ITIN_CTL_state p = 1 ∧ (t.port p).armedAt = none
      ∧ t.rd Reg.ITIN_CTL_switch p = s.rd Reg.ITIN_PEND_base p + t.rd Reg.ITIN_CTL_advance p * s.rd Reg.ITIN_PEND_cycle p
      ∧ 0 ≤ t.rd Reg.ITIN_CTL_advance p ∧ d + 1000000 ≤ t.rd Reg.ITIN_CTL_switch p
      ∧ (t.rd Reg.ITIN_CTL_advance p = 0
          ∨ t.rd Reg.ITIN_CTL_switch p - s.rd Reg.ITIN_PEND_cycle p < d + 1000000)
      ∧ t.rd Reg.ITIN_CTL_BASE_ADVANCED p = (if t.rd Reg.ITIN_CTL_advance p = 0 then 0 else 1)

/-! ## Queues and flows (chapter 08) -/

/-- Flow contexts, refill ticks and samples (R343, R344, R349, R350, R352, R369, R370): a control part committed is in
force at the tick, and a flow that becomes VALID starts from a cleared state part; in a slot of the flow table a fill
brings the context in and lets the frames that waited go on, and a modified context goes back to memory; a tick
counts, takes the frames that reached the engine in it, by arrival stamp, and one without a cached context waits for
the fill; a clear starts the samples afresh. Frames into and out of queues (R344, R359, R360): a DATA parcel that is
malformed is counted and changes nothing else, any other reaches the engine with its arrival stamp; a head older than
the queue allows, and one whose station cannot take it, are discarded and counted; a flush empties the queue and frees
its buffers. Clauses of it rest on readings and choices of the model: log entries 17, 91 to 93, 225. -/
def Obligations.QueuesAndFlowsComplete : Prop :=
  (∀ (s : State) (flow : Nat) (b : Bytes), s.queuesRun = true → flow < 1048576 → b ≠ [] →
    s.qm.flowWrites.find? (fun w => w.1 = flow) = some (flow, b) →
    Completes (.flowControlWrite flow) s fun t => t.rdB Reg.FLOW_control 0 flow = b
      ∧ (∀ w ∈ t.qm.flowWrites, w.1 ≠ flow)
      ∧ (fcValid (s.rdB Reg.FLOW_control 0 flow) = false → fcValid b = true → t.flowState flow = List.replicate 48 0)
      ∧ (fcValid (s.rdB Reg.FLOW_control 0 flow) = true ∨ fcValid b = false → t.flowState flow = s.flowState flow))
  ∧ (∀ (s : State) (flow : Nat), s.queuesRun = true → s.flowSlot = true → (∃ w ∈ s.qm.waiters, w.flow = flow) →
    Completes (.flowCacheFill flow) s fun t => t.qm.waiters = s.qm.waiters.filter (fun w => w.flow != flow)
      ∧ t.qm.arrivals = s.qm.arrivals ++ (s.qm.waiters.filter fun w => w.flow == flow).map (fun w => (w, true))
      ∧ t.cached flow = some ⟨flow, false, s.now, t.rdB Reg.FLOW_state 0 flow⟩
      ∧ t = { s with regs := t.regs, blobs := t.blobs, qm := t.qm })
  ∧ (∀ (s : State) (flow : Nat) (l : CacheLine), s.queuesRun = true → s.flowSlot = true → s.cached flow = some l →
    l.modified = true → l.writtenBack + 10000000000 ≤ s.now → l.state ≠ [] →
    Completes (.flowWriteback flow) s fun t => t.rdB Reg.FLOW_state 0 flow = l.state
      ∧ t.cached flow = some { l with modified := false, writtenBack := s.now } ∧ t.flowState flow = s.flowState flow
      ∧ t = { s with blobs := t.blobs, qm := t.qm })
  ∧ (∀ s : State, s.queuesRun = true → s.qm.tickAt < (s.time.mono / 8000).toNat →
    Completes .refillTick s fun t => t.qm.tick = s.qm.tick + 1 ∧ t.qm.tickAt = (s.time.mono / 8000).toNat
      ∧ t.qm.arrivals = [] ∧ t.qm = { s.takeArrivals.qm with tick := t.qm.tick, tickAt := t.qm.tickAt }
      ∧ t.ports = s.takeArrivals.ports ∧ t.out = s.takeArrivals.out ∧ t.blobs = s.takeArrivals.blobs ∧ t.time = s.time)
  ∧ (∀ (s : State) (w : Waiter), s.queuesRun = true → s.qm.tickAt < (s.time.mono / 8000).toNat →
    s.qm.arrivals = [(w, false)] → s.cached w.flow = none →
    Completes .refillTick s fun t => t.qm.waiters = s.qm.waiters ++ [w]
      ∧ t.rd Reg.QM_CTL_CACHE_MISSES = (s.rd Reg.QM_CTL_CACHE_MISSES + 1) % 18446744073709551616)
  ∧ (∀ (s : State) (w : Waiter) (l : CacheLine), s.queuesRun = true → s.qm.tickAt < (s.time.mono / 8000).toNat →
    s.qm.arrivals = [(w, false)] → s.cached w.flow = some l →
    Completes .refillTick s fun t => t.qm.waiters = s.qm.waiters
      ∧ t.rd Reg.QM_CTL_CACHE_HITS = (s.rd Reg.QM_CTL_CACHE_HITS + 1) % 18446744073709551616
      ∧ t.qm.queues = (State.runWaiter (((s.setQm fun m => { m with arrivals := [] }).inc Reg.QM_CTL_CACHE_HITS).useLine l)
          w).qm.queues)
  ∧ (∀ s : State, s.queuesRun = true → s.flag Reg.QM_CTL_clear = true → s.qm.clearing = false →
    exec .samplesClear s = .next (s.setQm fun m => { m with sampled := [], clearing := true }))
  ∧ (∀ (s : State) (x : Side) (b : Bytes), s.queuesRun = true →
    b.length < 17 ∨ 1552 < b.length ∨ uAt b 3 1 % 4 = 3 →
    exec (.dataParcelDown x b) s = .next ((s.hostParcel x 1).inc Reg.QM_CTL_MALFORMED)
      ∧ ((s.hostParcel x 1).inc Reg.QM_CTL_MALFORMED).qm = s.qm)
  ∧ (∀ (s : State) (x : Side) (b : Bytes), s.queuesRun = true →
    17 ≤ b.length → b.length ≤ 1552 → uAt b 3 1 % 4 ≠ 3 →
    exec (.dataParcelDown x b) s = .next ((s.hostParcel x 1).setQm fun m =>
      { m with arrivals := s.qm.arrivals ++ [(.down (uAt b 0 3 % 1048576) x s.now b, false)] }))
  ∧ (∀ (s : State) (q : Nat) (f : QFrame), s.queuesRun = true → q < 4096 → s.queue q = [f] →
    s.rd Reg.QUEUE_maximum_sojourn 0 q ≠ 0 → f.begun = false → f.enqueued + s.rd Reg.QUEUE_maximum_sojourn 0 q < s.now →
    Completes (.queueHeadCheck q) s fun t => t.queue q = []
      ∧ t.rd Reg.QUEUE_AGED 0 q = (s.rd Reg.QUEUE_AGED 0 q + 1) % 18446744073709551616
      ∧ t.qm.buffersUsed = s.qm.buffersUsed - 1 ∧ t = { s with regs := t.regs, blobs := t.blobs, qm := t.qm })
  ∧ (∀ (s : State) (q : Nat) (f : QFrame), s.queuesRun = true → q < 4096 → s.queue q = [f] →
    f.begun = true ∨ s.rd Reg.QUEUE_maximum_sojourn 0 q = 0 ∨ s.now ≤ f.enqueued + s.rd Reg.QUEUE_maximum_sojourn 0 q →
    s.unreachable (queuePort q) f = true →
    Completes (.queueHeadCheck q) s fun t => t.queue q = []
      ∧ t.rd Reg.QUEUE_UNREACHABLE 0 q = (s.rd Reg.QUEUE_UNREACHABLE 0 q + 1) % 18446744073709551616
      ∧ t.qm.buffersUsed = s.qm.buffersUsed - 1 ∧ t = { s with regs := t.regs, blobs := t.blobs, qm := t.qm })
  ∧ (∀ (s : State) (q : Nat), s.queuesRun = true → q < 4096 →
    s.flag Reg.QUEUE_flush 0 q = true ∨ s.flag Reg.QUEUE_enable 0 q = false →
    Completes (.queueFlush q) s fun t => t.queue q = [] ∧ t.rd Reg.QUEUE_flush 0 q = 0
      ∧ t.rd Reg.QUEUE_FLUSHED 0 q = (s.rd Reg.QUEUE_FLUSHED 0 q + (s.queue q).length) % 18446744073709551616
      ∧ t.qm.buffersUsed = s.qm.buffersUsed - (s.queue q).length
      ∧ t = { s with regs := t.regs, blobs := t.blobs, qm := t.qm })

/-- R363: at a refill tick the credit of an enabled shaper falls by the send slope when a frame of its queue crosses
the port's terminals, from its sync instant to before its end, and otherwise rises by the idle slope, to no more than
the burst; whatever the port's state and the window. -/
def Obligations.ShaperCreditMoves : Prop :=
  ∀ (s : State) (q : Nat), s.queuesRun = true → s.qm.tickAt < (s.time.mono / 8000).toNat → Store.wf 0 s.regs = true →
    q < 4096 → s.flag Reg.SHAPER_enable 0 q = true →
    Completes .refillTick s fun t => t.rd Reg.SHAPER_credit 0 q =
      if (s.port (queuePort q)).txQueue = some q ∧ (s.port (queuePort q)).txStart ≤ s.now
          ∧ s.now < (s.port (queuePort q)).txEnd then
        s.rd Reg.SHAPER_credit 0 q - s.rd Reg.SHAPER_send_slope 0 q * 8192 / 125
      else min (s.rd Reg.SHAPER_burst 0 q * 65536)
        (s.rd Reg.SHAPER_credit 0 q + s.rd Reg.SHAPER_idle_slope 0 q * 8192 / 125)

/-- R457: while the queue manager is at PL3, a DATA parcel is discarded and counted. -/
def Obligations.QueueManagerAtPL3Discards : Prop :=
  ∀ (s : State) (x : Side) (b : Bytes), s.runs = true → s.rd Reg.PERF_LEVEL_in_force 0 36 = 3 →
    exec (.dataParcelDown x b) s = .next ((s.hostParcel x 1).inc Reg.QM_CTL_NO_FLOW)
      ∧ ((s.hostParcel x 1).inc Reg.QM_CTL_NO_FLOW).qm = s.qm

/-- R351, R353: what a meter takes from a frame: the colour it gives is never brighter than a pre-colour it honours, a
frame it marks red takes nothing, and one it marks green takes its bytes from both buckets. -/
def Obligations.MeterColours : Prop :=
  ∀ (s : State) (m : Nat) (host : Bool) (pre length : Nat), m < 65536 →
    let r := s.meterFrame m host pre length
    let u := s.meterFill m
    let aware : Bool := decide (u.rd Reg.METER_mode 0 m = 1) || (decide (u.rd Reg.METER_mode 0 m = 2) && host)
    (r.1 = 0 ∨ r.1 = 1 ∨ r.1 = 2)
    ∧ (aware = true → pre ≤ 2 → pre ≤ r.1)
    ∧ (r.1 = 2 → r.2.2.rd Reg.METER_Tc 0 m = u.rd Reg.METER_Tc 0 m ∧ r.2.2.rd Reg.METER_Tp 0 m = u.rd Reg.METER_Tp 0 m)
    ∧ (r.1 ≠ 2 → (length : Int) * 65536 ≤ u.rd Reg.METER_Tp 0 m
        ∧ r.2.2.rd Reg.METER_Tp 0 m = u.rd Reg.METER_Tp 0 m - length * 65536)
    ∧ (r.1 = 0 → (length : Int) * 65536 ≤ u.rd Reg.METER_Tc 0 m
        ∧ r.2.2.rd Reg.METER_Tc 0 m = u.rd Reg.METER_Tc 0 m - length * 65536)

/-! ## Porfani links (chapter 09) -/

/-- Bring-up of a Porfani port (R380 to R382, R387): a detect step every 12 ms, TRAIN at the highest rate allowed once
a termination is sensed; a TRAIN block moves the taps of the lane's FFE as asked and is answered with their status;
LOCK once every sensed lane is ready both ways; lanes lock and are laced, EXCHANGE once every sensed lane is; DETECT,
a lower rate or EXCHANGE with the lanes laced when the time of a state runs out. The CAPS exchange (R381, R383 to
R385): an incompatible partner is a DEGRADE fault and 100 ms of waiting; the agreed width is the largest that both
allow and the good lanes carry, and with ACK from both ends the port is ACTIVE; without it the port answers with ACK;
without agreement in 10 ms it waits 100 ms and begins anew. Clauses of it rest on readings and choices of the model:
log entries 95, 96, 110. -/
def Obligations.LinkBringUpCompletes : Prop :=
  (∀ (s : State) (x : Side) (sensed : Nat), s.pfRuns = true → s.pfState x = pfDetect → (x = .up ∨ s.downUsed = true) →
    s.due (.pfDetect x.n) = true → sensed % 16 ≠ 0 →
    Completes (.pfDetectPulse x sensed) s fun t => t.pfState x = pfTrain ∧ (t.link x).sensed = sensed % 16
      ∧ (t.link x).rate = s.rdN Reg.PF_CTL_rate_ceiling ∧ t.deadline (.pfTrain x.n) = some (s.now + 500000000)
      ∧ t.out = .detectStep x :: s.out
      ∧ (t.link x).ceilRate = s.rdN Reg.PF_CTL_rate_ceiling
      ∧ t = { s with regs := t.regs, pf := t.pf, timers := t.timers, merge := t.merge, out := t.out })
  ∧ (∀ (s : State) (x : Side) (sensed : Nat), s.pfRuns = true → s.pfState x = pfDetect → (x = .up ∨ s.downUsed = true) →
    s.due (.pfDetect x.n) = true → sensed % 16 = 0 →
    exec (.pfDetectPulse x sensed) s = .next ((s.emit (.detectStep x)).arm (.pfDetect x.n) (s.now + 12000000)))
  ∧ (∀ (s : State) (x : Side) (lane : Lane) (block : Bytes) (b1 ffe v ready : Nat), s.pfRuns = true → s.pfState x = pfTrain →
    bit (s.link x).sensed lane.val = true → block.length = 8 → uAt block 0 1 = 0x2D → b1 = uAt block 1 1 →
    ffe = s.rdN Reg.PF_LANE_FFE x.n lane.val → v = (s.free 16777216).1 →
    ready = setBit (s.link x).partnerReady lane.val (bit b1 1) →
    Completes (.pfTrainBlock x lane block) s fun t =>
      t.rdN Reg.PF_LANE_FFE x.n lane.val = (ffeStep (field b1 7 6) (field ffe 23 16) (v / 65536)).1 * 65536
        + (ffeStep (field b1 5 4) (field ffe 15 8) (v / 256)).1 * 256 + (ffeStep (field b1 3 2) (field ffe 7 0) v).1
      ∧ (t.link x).partnerReady = ready
      ∧ (∃ b, t.out = .block x (2 ^ lane.val) 0x2D b 1 :: s.out ∧ b.length = 7 ∧ uAt b 2 1 = lane.val
          ∧ uAt b 1 1 = 4 * ((ffeStep (field b1 7 6) (field ffe 23 16) (v / 65536)).2 * 16
              + (ffeStep (field b1 5 4) (field ffe 15 8) (v / 256)).2 * 4 + (ffeStep (field b1 3 2) (field ffe 7 0) v).2)
          ∧ bit (uAt b 0 1) 1 = bit (s.link x).rxReady lane.val)
      ∧ t.pfState x = (if (s.link x).rxReady &&& ready &&& (s.link x).sensed = (s.link x).sensed then pfLock else pfTrain))
  ∧ (∀ (s : State) (x : Side) (lane : Lane), s.pfRuns = true → s.pfState x = pfTrain →
    bit (s.link x).sensed lane.val = true → (s.link x).sensed ≠ 0 →
    Completes (.pfRxReady x lane) s fun t => (t.link x).rxReady = setBit (s.link x).rxReady lane.val true
      ∧ (setBit (s.link x).rxReady lane.val true &&& (s.link x).partnerReady &&& (s.link x).sensed = (s.link x).sensed →
          t.pfState x = pfLock ∧ t.rd Reg.PF_PORT_rate x.n = (s.link x).rate
          ∧ t.deadline (.pfLock x.n) = some (s.now + 1000000) ∧ t.deadline (.pfTrain x.n) = none)
      ∧ (setBit (s.link x).rxReady lane.val true &&& (s.link x).partnerReady &&& (s.link x).sensed ≠ (s.link x).sensed →
          t.pfState x = pfTrain))
  ∧ (∀ (s : State) (x : Side), s.pfRuns = true → s.pfState x = pfTrain → s.passed (.pfTrain x.n) = true →
    Completes (.pfTrainTimeout x) s fun t =>
      ((s.link x).rate = 0 → t.pfState x = pfDetect ∧ t.deadline (.pfTrain x.n) = none)
      ∧ ((s.link x).rate ≠ 0 → t.pfState x = pfTrain ∧ (t.link x).rate = (s.link x).rate - 1 ∧ (t.link x).rxReady = 0
          ∧ t.deadline (.pfTrain x.n) = some (s.now + 500000000)))
  ∧ (∀ (s : State) (x : Side) (lane : Lane), s.pfRuns = true → s.pfState x = pfLock → bit (s.link x).sensed lane.val = true →
    exec (.pfBlockLock x lane) s = .next (s.setLink x fun q => { q with locked := setBit q.locked lane.val true }))
  ∧ (∀ (s : State) (x : Side) (laced : Nat) (skews : List Nat), s.pfRuns = true → s.pfState x = pfLock → laced % 16 ≠ 0 →
    laced % 16 &&& (s.link x).locked = laced % 16 → skewsOk (laced % 16) skews = true →
    Completes (.pfLacingDone x laced skews) s fun t => (t.link x).laced = laced % 16
      ∧ (laced % 16 = (s.link x).sensed → t.pfState x = pfExchange ∧ t.deadline (.pfExchange x.n) = some (s.now + 10000000))
      ∧ (laced % 16 ≠ (s.link x).sensed → t.pfState x = pfLock ∧ t.out = s.out)
      ∧ (∀ k < 4, bit laced k = true → t.rdN Reg.PF_LANE_skew x.n k
          = (((List.range 4).filter fun j => bit (laced % 16) j).map fun j => skews.getD j 0).foldl max 0 - skews.getD k 0))
  ∧ (∀ (s : State) (x : Side), s.pfRuns = true → s.pfState x = pfLock → s.passed (.pfLock x.n) = true →
    Completes (.pfLockTimeout x) s fun t =>
      ((s.link x).laced = 0 → t.pfState x = pfDetect ∧ t.out = s.out)
      ∧ ((s.link x).laced ≠ 0 → t.pfState x = pfExchange ∧ t.deadline (.pfExchange x.n) = some (s.now + 10000000)
          ∧ ∃ b, t.out = .block x (s.link x).laced 0x33 b 1 :: s.out ∧ b.length = 7 ∧ bit (uAt b 3 1) 7 = false)
      ∧ t.deadline (.pfLock x.n) = none)
  ∧ (∀ (s : State) (x : Side) (block : Bytes), s.pfRuns = true → s.pfState x = pfExchange → (s.link x).incompatible = false →
    s.running (.pfHoldoff x.n) = false → block.length = 8 → uAt block 0 1 = 0x33 → s.compatible x (block.drop 1) = false →
    Completes (.pfCapsRx x block) s fun t => t.pfState x = pfExchange ∧ (t.link x).incompatible = true
      ∧ t.deadline (.pfHoldoff x.n) = some (s.now + 100000000) ∧ t.deadline (.pfExchange x.n) = none
      ∧ t.rdB Reg.PF_PORT_partner x.n = block.drop 1
      ∧ t.faults = s.reported (srcLink x) clsLink 0x04 x.n
          (field (uAt block 1 1) 2 1 * 16 + field (uAt block 2 1) 7 4) 2)
  ∧ (∀ (s : State) (x : Side) (block : Bytes), s.pfRuns = true → s.pfState x = pfExchange → (s.link x).incompatible = false →
    s.running (.pfHoldoff x.n) = false → block.length = 8 → uAt block 0 1 = 0x33 → s.compatible x (block.drop 1) = true →
    bit (uAt block 4 1) 7 = true →
    0 < widthOf (s.rdN Reg.PF_CTL_width_ceiling) (block.drop 1) (field (uAt block 2 1) 3 0) →
    0 < widthOf (s.rdN Reg.PF_CTL_width_ceiling) (block.drop 1) (s.link x).good →
    Completes (.pfCapsRx x block) s fun t => t.pfState x = pfActive
      ∧ t.rd Reg.PF_PORT_width x.n
          = (widthOf (s.rdN Reg.PF_CTL_width_ceiling) (block.drop 1) (field (uAt block 2 1) 3 0) : Nat)
      ∧ (t.link x).frozen = false ∧ (t.link x).dropping = false ∧ t.deadline (.pfExchange x.n) = none)
  ∧ (∀ (s : State) (x : Side) (block : Bytes), s.pfRuns = true → s.pfState x = pfExchange → (s.link x).incompatible = false →
    s.running (.pfHoldoff x.n) = false → block.length = 8 → uAt block 0 1 = 0x33 → s.compatible x (block.drop 1) = true →
    bit (uAt block 4 1) 7 = false ∨ widthOf (s.rdN Reg.PF_CTL_width_ceiling) (block.drop 1) (field (uAt block 2 1) 3 0) = 0
      ∨ widthOf (s.rdN Reg.PF_CTL_width_ceiling) (block.drop 1) (s.link x).good = 0 →
    Completes (.pfCapsRx x block) s fun t => t.pfState x = pfExchange ∧ (t.link x).ackSent = true
      ∧ (∃ b, t.out = .block x (s.link x).laced 0x33 b 1 :: s.out ∧ b.length = 7 ∧ bit (uAt b 3 1) 7 = true)
      ∧ t = { s with blobs := t.blobs, pf := t.pf, out := t.out })
  ∧ (∀ (s : State) (x : Side), s.pfRuns = true → s.pfState x = pfExchange → s.passed (.pfExchange x.n) = true →
    exec (.pfExchangeTimeout x) s = .next ((s.disarm (.pfExchange x.n)).arm (.pfHoldoff x.n) (s.now + 100000000)))
  ∧ (∀ (s : State) (x : Side), s.pfRuns = true → s.pfState x = pfExchange → s.reached (.pfHoldoff x.n) = true →
    Completes (.pfExchangeHoldoffEnd x) s fun t => t.pfState x = pfDetect ∧ t.deadline (.pfHoldoff x.n) = none
      ∧ (t.link x).incompatible = false)

/-- A link in service (R379, R386, R387, R390, R394, R395): parity errors are counted, and reported beyond the
threshold of a second; a lane lost with others left drops the width, with a FENCE fault, and so does the partner's
WIDTH; the last one lost, a drop that takes too long, which is a DEGRADE fault, and a request retrain in full.
Electrical idle and TEST (R388, R389, R393): a quiet transmitter sends 16 IDLE_ENTRY blocks and turns off, the
receiver of one arms its detector, and goes on once the burst has brought an eyelet on every lane; a parcel to send
ends the idle with a fast-exit burst on each lane; a test runs for its seconds, counts its errors and retrains.
Clauses of it rest on readings and choices of the model: log entries 97, 99, 100, 216. -/
def Obligations.LinkServiceIdleAndTest : Prop :=
  (∀ (s : State) (x : Side) (lane : Lane) (block : Bytes) (parity : Nat) (locked : Bool), s.pfRuns = true →
    s.linkUp x = true → bit (s.link x).laced lane.val = true → block.length = 8 → uAt block 0 1 = 0x4B →
    slice block 4 3 = [0xA5, 0x3C, 0x96] →
    Completes (.pfEyeletRx x lane block parity locked) s fun t =>
      ((s.link x).rxIdle = false → t.rd Reg.PF_LANE_BIP_ERRORS x.n lane.val
          = (s.rd Reg.PF_LANE_BIP_ERRORS x.n lane.val + (popCount 8 (uAt block 2 1 ^^^ parity) : Nat)) % 18446744073709551616
          ∧ t.out = s.out)
      ∧ ((s.link x).rxIdle = true → locked = true →
          (t.link x).rxIdle = !decide (setBit (s.link x).burst lane.val true &&& (s.link x).laced = (s.link x).laced)
          ∧ t = { s with pf := t.pf })
      ∧ ((s.link x).rxIdle = true → locked = false → t.pfState x = pfDetect
          ∧ t.rd Reg.PF_PORT_FAST_EXIT_FAILS x.n = (s.rd Reg.PF_PORT_FAST_EXIT_FAILS x.n + 1) % 18446744073709551616))
  ∧ (∀ (s : State) (x : Side) (lane : Lane), s.pfRuns = true → s.linkUp x = true → (s.link x).rxIdle = false →
    bit (s.link x).laced lane.val = true → (s.link x).rxWidth = 1 ∨ setBit (s.link x).laced lane.val false = 0 →
    Completes (.pfLockLoss x lane) s fun t => t.pfState x = pfDetect
      ∧ t.rd Reg.PF_LANE_LOCK_LOSSES x.n lane.val = (s.rd Reg.PF_LANE_LOCK_LOSSES x.n lane.val + 1) % 18446744073709551616
      ∧ t.rd Reg.PF_PORT_RETRAINS x.n = (s.rd Reg.PF_PORT_RETRAINS x.n + 1) % 18446744073709551616)
  ∧ (∀ (s : State) (x : Side) (lane : Lane), s.pfRuns = true → s.linkUp x = true → (s.link x).rxIdle = false →
    bit (s.link x).laced lane.val = true → (s.link x).rxWidth ≠ 1 → setBit (s.link x).laced lane.val false ≠ 0 →
    Completes (.pfLockLoss x lane) s fun t => t.pfState x = pfExchange ∧ (t.link x).dropping = true
      ∧ (t.link x).frozen = true ∧ t.deadline (.pfWidth x.n) = some (s.now + 100000)
      ∧ t.rd Reg.PF_PORT_WIDTH_DROPS x.n = (s.rd Reg.PF_PORT_WIDTH_DROPS x.n + 1) % 18446744073709551616
      ∧ t.faults = s.reported (srcLink x) clsLink 0x02 lane.val
          (PfState.good { s.link x with laced := setBit (s.link x).laced lane.val false }) 3)
  ∧ (∀ (s : State) (x : Side) (good : Nat), s.pfRuns = true → s.linkUp x = true → (s.link x).dropping = false →
    Completes (.widthParcelRx x good) s fun t => t.pfState x = pfExchange ∧ (t.link x).dropping = true
      ∧ (t.link x).frozen = true
      ∧ (t.link x).partnerGood = good % 16 ∧ t.deadline (.pfWidth x.n) = some (s.now + 100000))
  ∧ (∀ (s : State) (x : Side) (good : Nat), s.pfRuns = true → (s.link x).dropping = true →
    exec (.widthParcelRx x good) s = .next (s.setLink x fun q => { q with partnerGood := good % 16 }))
  ∧ (∀ (s : State) (x : Side), s.pfRuns = true → (s.link x).dropping = true → s.passed (.pfWidth x.n) = true →
    s.pfState x ≠ pfOff →
    Completes (.pfWidthDropTimeout x) s fun t => t.pfState x = pfDetect
      ∧ t.rd Reg.PF_PORT_RETRAINS x.n = (s.rd Reg.PF_PORT_RETRAINS x.n + 1) % 18446744073709551616
      ∧ t.faults = s.reported (srcLink x) clsLink 0x03
          ((lowest 4 fun k => bit (s.link x).sensed k && !bit (s.link x).laced k).getD 0) 0 2)
  ∧ (∀ (s : State) (x : Side) (lane : Lane), s.pfRuns = true → s.linkUp x = true →
    s.reached (.pfBip (x.n * 4 + lane.val)) = true →
    Completes (.pfBipCheck x lane) s fun t => t.deadline (.pfBip (x.n * 4 + lane.val)) = some (s.now + 1000000000)
      ∧ t.regs = s.regs
      ∧ t.faults = (if s.rdN Reg.PF_CTL_BIP_threshold
            < s.rdN Reg.PF_LANE_BIP_ERRORS x.n lane.val - (s.link x).bipBase.getD lane.val 0 then
          s.reported (srcLink x) clsLink 0x01 lane.val
            (s.rdN Reg.PF_LANE_BIP_ERRORS x.n lane.val - (s.link x).bipBase.getD lane.val 0) 1
        else s.faults)
      ∧ (t.link x).bipBase = (s.link x).bipBase.set lane.val (s.rdN Reg.PF_LANE_BIP_ERRORS x.n lane.val)
      ∧ t = { s with pf := t.pf, timers := t.timers, faults := t.faults })
  ∧ (∀ (s : State) (x : Side), s.pfRuns = true → s.linkUp x = true →
    (s.flag Reg.PF_PORT_retrain x.n = true ∨ s.rdN Reg.PF_CTL_width_ceiling ≠ (s.link x).ceilWidth
      ∨ s.rdN Reg.PF_CTL_rate_ceiling ≠ (s.link x).ceilRate) →
    Completes (.pfRetrainRequest x) s fun t => t.pfState x = pfDetect ∧ t.rd Reg.PF_PORT_retrain x.n = 0
      ∧ t.rd Reg.PF_PORT_RETRAINS x.n = (s.rd Reg.PF_PORT_RETRAINS x.n + 1) % 18446744073709551616)
  ∧ (∀ (s : State) (x : Side), s.pfRuns = true → s.pfState x = pfActive → (s.link x).txIdle = false → s.idleWanted x = true →
    Completes (.pfIdleEntrySend x) s fun t => t.pfState x = pfIdle ∧ (t.link x).txIdle = true
      ∧ t.rd Reg.PF_PORT_IDLE_ENTRIES x.n = (s.rd Reg.PF_PORT_IDLE_ENTRIES x.n + 1) % 18446744073709551616
      ∧ t.out = .block x ((s.txLanes x).foldl (fun m k => m ||| 2 ^ k) 0) 0x66 (List.replicate 7 0) 16 :: s.out)
  ∧ (∀ (s : State) (x : Side), s.pfRuns = true → s.linkUp x = true →
    exec (.pfIdleEntryRx x) s = .next (s.setLink x fun q => { q with rxIdle := true, burst := 0 }))
  ∧ (∀ (s : State) (x : Side), s.pfRuns = true → s.pfState x = pfIdle →
    (s.linkQuiet x = false ∨ (s.link x).unacked = true) →
    Completes (.pfFastExit x) s fun t => t.pfState x = pfActive ∧ (t.link x).txIdle = false
      ∧ (t.link x).unacked = false
      ∧ (∃ l, t.out = l ++ (s.fastBurst x (s.txLanes x)).out)
      ∧ (s.fastBurst x (s.txLanes x)).out.length = s.out.length + 2 * (s.txLanes x).length)
  ∧ (∀ (s : State) (x : Side), s.pfRuns = true → s.rd Reg.PF_PORT_test x.n ≠ 0 → s.pfState x ≠ pfTest →
    s.pfState x ≠ pfOff →
    Completes (.pfTestStart x) s fun t => t.pfState x = pfTest
      ∧ t.deadline (.pfTest x.n) = some (s.now + s.rd Reg.PF_PORT_test x.n * 1000000000) ∧ t.link x = s.link x)
  ∧ (∀ (s : State) (x : Side) (prbs : List Nat), s.pfRuns = true → s.pfState x = pfTest →
    (s.reached (.pfTest x.n) = true ∨ s.rd Reg.PF_PORT_test x.n = 0) →
    Completes (.pfTestEnd x prbs) s fun t => t.pfState x = pfDetect ∧ t.rd Reg.PF_PORT_test x.n = 0
      ∧ ∀ k < 4, t.rd Reg.PF_LANE_PRBS_ERRORS x.n k
          = (s.rd Reg.PF_LANE_PRBS_ERRORS x.n k + (prbs.getD k 0 : Nat)) % 18446744073709551616)

/-- Acknowledgement, replay and link delay (R402 to R405, R421): FLOW sets the credit limits and frees what it
acknowledges, with NAK every parcel left is sent again, and what waits is then sent as far as credits go; FLOW is sent
while something is to be acknowledged and every 100 µs; after 20 µs every parcel not acknowledged is sent again, in
order; the delay exchange gives the link delay as the mean of eight with half the asymmetry. Parcels (R399 to R403,
R412, R413): one with a bad CRC-32C is counted and answered with one NAK; the next in sequence is accepted, its
credits freed; one away from the host for another device goes out of the port away from the host. Clauses of it rest
on readings and choices of the model: log entries 90, 101 to 104, 227. -/
def Obligations.SequenceDelayAndParcels : Prop :=
  (∀ (s : State) (x : Side) (body : Bytes) (l : List Parcel), s.pfRuns = true → s.linkUp x = true → body.length = 12 →
    uAt body 0 1 = 1 → bit (uAt body 1 1) 7 = false → (s.link x).sendQ = [] → (∀ vc < 4, s.fifo x vc = []) →
    acked (uAt body 2 2 % 4096) (s.link x).replay = some l →
    Completes (.flowCtrlRx x body) s fun t =>
      (t.link x).limits = [uAt body 4 2, uAt body 6 2, uAt body 8 2, uAt body 10 2] ∧ (t.link x).replay = l
      ∧ t.deadline (.pfReplay x.n) = (if l = [] then none else some (s.now + 20000)) ∧ t.regs = s.regs ∧ t.out = s.out)
  ∧ (∀ (s u : State) (x : Side) (body : Bytes), s.pfRuns = true → s.linkUp x = true → body.length = 12 →
    uAt body 0 1 = 1 → acked (uAt body 2 2 % 4096) (s.link x).replay = none →
    u = s.setLink x (fun q => { q with limits := [uAt body 4 2, uAt body 6 2, uAt body 8 2, uAt body 10 2] }) →
    exec (.flowCtrlRx x body) s = .next ((if bit (uAt body 1 1) 7 = true then u.resend x else u).drain x))
  ∧ (∀ (s : State) (x : Side) (l : List Parcel), (s.link x).replay = l → l ≠ [] →
    (s.resend x).out = (l.map fun q => Out.parcel x q).reverse ++ s.out ∧ (s.resend x).link x = s.link x
      ∧ (s.resend x).deadline (.pfReplay x.n) = some (s.now + 20000)
      ∧ (s.resend x).rd Reg.PF_PORT_REPLAYS x.n = (s.rd Reg.PF_PORT_REPLAYS x.n + 1) % 18446744073709551616)
  ∧ (∀ (s : State) (x : Side), s.pfRuns = true → s.pfState x = pfActive →
    ((s.link x).unacked = true ∧ (s.link x).lastFlow + 1000 ≤ s.now ∨ (s.link x).lastFlow + 100000 ≤ s.now) →
    Completes (.flowCtrlSend x) s fun t => (t.link x).unacked = false ∧ (t.link x).lastFlow = s.now ∧ t.regs = s.regs
      ∧ ∃ q, t.out = .parcel x q :: s.out ∧ q.type = 5 ∧ q.isLocal = true
          ∧ q.payload = [1, 0] ++ be 2 (((s.link x).rxSeq + 4095) % 4096)
              ++ (List.range 4).flatMap fun v => be 2 ((s.link x).freed.getD v 0 + 512))
  ∧ (∀ (s : State) (x : Side), s.pfRuns = true → s.pfState x = pfActive → (s.link x).frozen = false →
    (s.link x).replay ≠ [] → s.passed (.pfReplay x.n) = true →
    Completes (.replayTimeout x) s fun t =>
      t.out = ((s.link x).replay.map fun q => Out.parcel x q).reverse ++ s.out ∧ (t.link x) = s.link x
      ∧ t.deadline (.pfReplay x.n) = some (s.now + 20000)
      ∧ t.rd Reg.PF_PORT_REPLAYS x.n = (s.rd Reg.PF_PORT_REPLAYS x.n + 1) % 18446744073709551616
      ∧ t = { s with regs := t.regs, timers := t.timers, out := t.out })
  ∧ (∀ (s : State) (x : Side), s.pfRuns = true → s.pfState x = pfActive → s.due (.pfDelay x.n) = true →
    Completes (.delayReqSend x) s fun t => (t.link x).delayT1 = some s.now
      ∧ (t.link x).delayId = ((s.link x).delayId + 1) % 65536 ∧ t.deadline (.pfDelay x.n) = some (s.now + 125000000)
      ∧ ∃ q, t.out = .parcel x q :: s.out ∧ q.isLocal = true
          ∧ q.payload = [3, 0] ++ be 2 (((s.link x).delayId + 1) % 65536))
  ∧ (∀ (s : State) (x : Side) (ident turnaround : Nat), s.pfRuns = true → s.linkUp x = true →
    Completes (.delayReqRx x ident turnaround) s fun t => t = { s with out := t.out }
      ∧ ∃ q, t.out = .parcel x q :: s.out ∧ q.isLocal = true ∧ q.payload = [4, 0] ++ be 2 ident ++ be 8 turnaround)
  ∧ (∀ (s : State) (x : Side) (ident turnaround : Nat) (t1 : Stamp) (l : List Int), s.pfRuns = true → s.linkUp x = true →
    (s.link x).delayT1 = some t1 → ident = (s.link x).delayId →
    (((s.now - t1) * 65536 - turnaround) / 2 :: (s.link x).delays).take 8 = l →
    Completes (.delayRespRx x ident turnaround) s fun t => (t.link x).delays = l ∧ (t.link x).delayT1 = none
      ∧ t.rd Reg.PF_PORT_link_delay x.n
          = max 0 (roundDiv (2 * l.sum + s.rd Reg.PF_PORT_asymmetry x.n * 65536 * l.length) (2 * 65536 * l.length))
      ∧ t = { s with regs := t.regs, pf := t.pf })
  ∧ (∀ (s : State) (x : Side) (raw : Bytes), s.pfRuns = true → s.linkUp x = true → parcelCrcOk raw = false →
    Completes (.parcelForward x raw) s fun t =>
      t.rd Reg.PF_PORT_CRC_ERRORS x.n = (s.rd Reg.PF_PORT_CRC_ERRORS x.n + 1) % 18446744073709551616
      ∧ (t.link x).rxSeq = (s.link x).rxSeq ∧ (t.link x).nakSent = true
      ∧ ((s.link x).nakSent = true → t.out = s.out)
      ∧ ((s.link x).nakSent = false → ∃ q, t.out = .parcel x q :: s.out ∧ q.isLocal = true
          ∧ q.payload.take 4 = [1, 0x80] ++ be 2 (((s.link x).rxSeq + 4095) % 4096)))
  ∧ (∀ (s : State) (x : Side) (raw : Bytes) (q : Parcel), s.pfRuns = true → s.linkUp x = true → parcelCrcOk raw = true →
    Parcel.ofBytes raw = some q → q.isLocal = false → q.lseq = (s.link x).rxSeq →
    Completes (.parcelForward x raw) s fun t => (t.link x).rxSeq = ((s.link x).rxSeq + 1) % 4096
      ∧ (t.link x).unacked = true ∧ (t.link x).nakSent = false
      ∧ (t.link x).freed = (s.link x).freed.set q.vc (((s.link x).freed.getD q.vc 0 + q.credits) % 65536))
  ∧ (∀ (s : State) (raw : Bytes) (q : Parcel), s.pfRuns = true → s.linkUp s.hostSide = true → parcelCrcOk raw = true →
    Parcel.ofBytes raw = some q → q.isLocal = false → q.lseq = (s.link s.hostSide).rxSeq → q.legal = true → q.dir = 1 →
    q.bcast = false → q.devnum ≠ s.rst.straps.devnum.val → q.ownRow = false → s.isHead = false →
    s.pfState s.hostSide.other = pfIdle → (s.hostSide.other = .down → s.downUsed = true) →
    Completes (.parcelForward s.hostSide raw) s fun t =>
      (t.link s.hostSide.other).sendQ = (s.link s.hostSide.other).sendQ ++ [{ q with lseq := 0 }]
      ∧ t.rd Reg.PF_PORT_MISROUTED s.hostSide.n = s.rd Reg.PF_PORT_MISROUTED s.hostSide.n)

/-! ## The cascade, time over the link (chapter 09) -/

/-- Heads (R408 to R410): a head sends a PROBE with HOPS 0 every 1 ms out of its cascade port; a device without a head
takes the one it hears, on the port it hears it, and sends the PROBE on with HOPS one more; it keeps its head; one
whose head has been silent for 3 ms takes another; a head notes the other head and forwards nothing. Standby managers
and hand-over (R414 to R416, R419): a standby manager with an adapter on UP becomes head when the manager's PROBEs
stop, and on FAILOVER, which is forwarded; an acting manager told to hand over sends FAILOVER and is a MEMBER, an
acting standby manager is PASSIVE; on RELINQUISH the manager is head again, and a device that hears it adopts it.
STATUS and the topology (R410, R411): a device reports every 1 ms; a head notes the device for 5 ms, logs one device
number with two HOPS as a DEGRADE fault, once, and reads the ring from a passive standby manager; an entry that is not
renewed is absent. Clauses of it rest on readings and choices of the model: log entries 106 to 109. -/
def Obligations.CascadeCompletes : Prop :=
  (∀ s : State, s.pfRuns = true → s.cascRuns = true → s.isHead = true → s.due .probeTx = true →
    Completes .probeOriginate s fun t => t.deadline .probeTx = some (s.now + 1000000)
      ∧ t.casc.probeSeq = (s.casc.probeSeq + 1) % 65536 ∧ t.isHead = true
      ∧ (s.flag Reg.CASC_member = true → s.pfState .down = pfIdle → s.downUsed = true → s.partnerRole .down ≠ 3 →
          (t.link .down).sendQ = (s.link .down).sendQ ++ [bcastCtrl ([5] ++ be 1 s.rst.straps.devnum.val
            ++ be 1 s.rst.straps.role.val ++ [0] ++ be 2 s.casc.probeSeq ++ [0, 0])])
      ∧ t = { s with regs := t.regs, blobs := t.blobs, pf := t.pf, timers := t.timers, casc := t.casc, out := t.out })
  ∧ (∀ (s : State) (x : Side) (body : Bytes), s.pfRuns = true → s.cascRuns = true → s.linkUp x = true →
    probeOk body = true → s.isHead = false → s.rd Reg.CASC_head = 255 →
    field (uAt body 1 1) 3 0 ≠ s.rst.straps.devnum.val →
    Completes (.probeRx x body) s fun t => t.rd Reg.CASC_head = (field (uAt body 1 1) 3 0 : Nat)
      ∧ t.rd Reg.CASC_hops = (uAt body 3 1 : Nat) ∧ t.hostSide = x ∧ t.deadline .headProbe = some (s.now + 3000000)
      ∧ t.rd Reg.CASC_HEAD_CHANGES = (s.rd Reg.CASC_HEAD_CHANGES + 1) % 18446744073709551616)
  ∧ (∀ (s : State) (x : Side) (body : Bytes), s.pfRuns = true → s.cascRuns = true → s.linkUp x = true →
    probeOk body = true → s.isHead = false → s.rd Reg.CASC_head = (field (uAt body 1 1) 3 0 : Nat) →
    field (uAt body 1 1) 3 0 ≠ s.rst.straps.devnum.val →
    Completes (.probeRx x body) s fun t => t.rd Reg.CASC_head = s.rd Reg.CASC_head
      ∧ t.rd Reg.CASC_hops = (uAt body 3 1 : Nat) ∧ t.hostSide = x ∧ t.deadline .headProbe = some (s.now + 3000000)
      ∧ (x = s.hostSide → s.pfState x.other = pfIdle → (x.other = .down → s.downUsed = true) →
          (x.other = .up → s.rst.straps.role.val ≠ 2) → s.partnerRole x.other ≠ 3 →
          (t.link x.other).sendQ = (s.link x.other).sendQ ++ [bcastCtrl (patch body 3 (be 1 (uAt body 3 1 + 1)))]))
  ∧ (∀ (s : State) (x : Side) (body : Bytes), s.pfRuns = true → s.cascRuns = true → s.linkUp x = true →
    probeOk body = true → s.isHead = true → field (uAt body 1 1) 3 0 ≠ s.rst.straps.devnum.val →
    Completes (.probeRx x body) s fun t =>
      t.casc.other = some (field (uAt body 1 1) 3 0, x, uAt body 3 1, uAt body 2 1)
      ∧ t.deadline .otherProbe = some (s.now + 3000000) ∧ t = { s with casc := t.casc, timers := t.timers })
  ∧ (∀ (s : State) (x : Side) (body : Bytes), s.pfRuns = true → s.cascRuns = true → s.linkUp x = true →
    probeOk body = true → s.isHead = false → s.passed .headProbe = true →
    s.rdN Reg.CASC_head ≠ field (uAt body 1 1) 3 0 → field (uAt body 1 1) 3 0 ≠ s.rst.straps.devnum.val →
    Completes (.headLoss x body) s fun t => t.rd Reg.CASC_head = (field (uAt body 1 1) 3 0 : Nat) ∧ t.hostSide = x
      ∧ t.rd Reg.CASC_HEAD_CHANGES = (s.rd Reg.CASC_HEAD_CHANGES + 1) % 18446744073709551616)
  ∧ (∀ s : State, s.pfRuns = true → s.cascRuns = true → s.mayTakeOver = true → s.casc.managerAt + 3000000 < s.now →
    Completes .standbyTakeover s fun t => t.isHead = true ∧ t.rd Reg.CASC_head = (s.rst.straps.devnum.val : Nat)
      ∧ t.hostSide = .up ∧ t.rd Reg.CASC_TAKEOVERS = (s.rd Reg.CASC_TAKEOVERS + 1) % 18446744073709551616)
  ∧ (∀ (s : State) (x : Side) (body : Bytes), s.pfRuns = true → s.linkUp x = true → body.length = 4 → uAt body 0 1 = 9 →
    Completes (.failover x body) s fun t => t.isHead = (s.isHead || s.mayTakeOver)
      ∧ (s.mayTakeOver = true → t.hostSide = .up
          ∧ t.rd Reg.CASC_TAKEOVERS = (s.rd Reg.CASC_TAKEOVERS + 1) % 18446744073709551616)
      ∧ (s.mayTakeOver = false → s.pfState x.other = pfIdle → (x.other = .down → s.downUsed = true) →
          (t.link x.other).sendQ = (s.link x.other).sendQ ++ [bcastCtrl body] ∧ t = { s with pf := t.pf })
      ∧ (s.mayTakeOver = false → s.linkUp x.other = false → t = s))
  ∧ (∀ s : State, s.pfRuns = true → s.flag Reg.CASC_hand_over = true → s.isHead = true → s.rst.straps.role.val = 1 →
    Completes .handOver s fun t => t.rd Reg.CASC_hand_over = 0 ∧ t.rd Reg.CASC_acting_role = roleMember
      ∧ t.casc.handedOver = true
      ∧ (s.pfState .down = pfIdle → (t.link .down).sendQ = (s.link .down).sendQ ++ [bcastCtrl [9, 0, 0, 0]]))
  ∧ (∀ s : State, s.pfRuns = true → s.flag Reg.CASC_hand_over = true → s.isHead = true → s.rst.straps.role.val = 2 →
    Completes .handOver s fun t => t.rd Reg.CASC_hand_over = 0 ∧ t.rd Reg.CASC_acting_role = rolePassive)
  ∧ (∀ (s : State) (x : Side), s.pfRuns = true → s.linkUp x = true → s.rst.straps.role.val = 1 → s.toAdapter .up = true →
    Completes (.relinquish x) s fun t => t.isHead = true ∧ t.casc.handedOver = false)
  ∧ (∀ (s : State) (x y : Side) (dev hops : Nat), s.pfRuns = true → s.linkUp x = true → s.rst.straps.role.val ≠ 1 →
    s.isHead = false → s.casc.other = some (dev, y, hops, 1) → s.running .otherProbe = true →
    Completes (.relinquish x) s fun t => t.rd Reg.CASC_head = dev ∧ t.rd Reg.CASC_hops = hops ∧ t.hostSide = y
      ∧ t.rd Reg.CASC_HEAD_CHANGES = (s.rd Reg.CASC_HEAD_CHANGES + 1) % 18446744073709551616)
  ∧ (∀ (s : State) (x : Side), s.pfRuns = true → s.linkUp x = true → s.rst.straps.role.val ≠ 1 →
    (s.isHead = true ∨ s.casc.other = none) → s.linkUp x.other = false → exec (.relinquish x) s = .next s)
  ∧ (∀ s : State, s.pfRuns = true → s.cascRuns = true → s.isHead = false → s.rd Reg.CASC_head ≠ 255 →
    s.due .statusTx = true → s.pfState s.hostSide = pfActive → (s.link s.hostSide).frozen = false →
    (s.link s.hostSide).sendQ = [] → (∀ vc < 4, s.fifo s.hostSide vc = []) →
    (s.link s.hostSide).admits (s.upParcel 5 0 (List.replicate 8 0)) = true →
    Completes .statusSend s fun t => t.deadline .statusTx = some (s.now + 1000000)
      ∧ ∃ q, t.out = .parcel s.hostSide q :: s.out ∧ q.type = 5 ∧ q.dir = 0 ∧ q.devnum = s.rst.straps.devnum.val
          ∧ q.payload.take 4 = [6] ++ be 1 (s.rdN Reg.CASC_hops) ++ be 1 (s.rdN Reg.CASC_acting_role) ++ be 1 s.severity)
  ∧ (∀ s : State, s.pfRuns = true → s.cascRuns = true → s.isHead = false → s.rd Reg.CASC_head ≠ 255 →
    s.due .statusTx = true → s.linkUp s.hostSide = false →
    exec .statusSend s = .next (s.arm .statusTx (s.now + 1000000)))
  ∧ (∀ (s : State) (dev : DevNum) (body : Bytes), s.pfRuns = true → s.isHead = true → body.length = 8 →
    uAt body 0 1 = 6 →
    bit (uAt (s.rdB Reg.CASC_topology) (4 * dev.val) 1) 7 = true →
    field (uAt (s.rdB Reg.CASC_topology) (4 * dev.val) 1) 3 0 ≠ uAt body 1 1 % 16 →
    s.casc.duplicates.contains dev.val = false →
    Completes (.statusRx dev body) s fun t => t.deadline (.statusEntry dev.val) = some (s.now + 5000000)
      ∧ dev.val ∈ t.casc.duplicates
      ∧ t.faults = s.reported srcSteward clsLink 0x05 dev.val
          (field (uAt (s.rdB Reg.CASC_topology) (4 * dev.val) 1) 3 0 * 256 + uAt body 1 1) 2)
  ∧ (∀ (s : State) (dev : DevNum) (body : Bytes), s.pfRuns = true → s.isHead = true → body.length = 8 →
    uAt body 0 1 = 6 →
    Completes (.statusRx dev body) s fun t => t.deadline (.statusEntry dev.val) = some (s.now + 5000000)
      ∧ t.rd Reg.CASC_ring = (if uAt body 2 1 = 2 then if bit (uAt body 4 1) 0 then 1 else 2 else s.rd Reg.CASC_ring)
      ∧ (bit (uAt (s.rdB Reg.CASC_topology) (4 * dev.val) 1) 7 = false →
          t.rdB Reg.CASC_topology = patch (s.rdB Reg.CASC_topology) (4 * dev.val)
            (be 1 (128 + uAt body 1 1 % 16) ++ be 1 (uAt body 2 1) ++ be 1 (uAt body 3 1) ++ [0])
          ∧ t = { s with regs := t.regs, blobs := t.blobs, casc := t.casc, timers := t.timers }))
  ∧ (∀ (s : State) (dev : DevNum), s.pfRuns = true → s.isHead = true → s.passed (.statusEntry dev.val) = true →
    Completes (.topologyEntryAbsent dev) s fun t => t.deadline (.statusEntry dev.val) = none
      ∧ dev.val ∉ t.casc.duplicates ∧ t.rdB Reg.CASC_topology = patch (s.rdB Reg.CASC_topology) (4 * dev.val) [0, 0, 0, 0]
      ∧ (uAt (s.rdB Reg.CASC_topology) (4 * dev.val + 1) 1 = 2 → t.rd Reg.CASC_ring = 2)
      ∧ (uAt (s.rdB Reg.CASC_topology) (4 * dev.val + 1) 1 ≠ 2 → t.rd Reg.CASC_ring = s.rd Reg.CASC_ring))

/-! ## Izvas (chapter 10) -/

/-- R433, R435, R154: a request of a session that the device accepts is of an open session whose idle time has not
passed, its MAC is the session's and its COUNTER is above the last accepted, which it becomes; any other is discarded:
whatever it asks, nothing is answered, no session changes, and IZ_CTL/05 counts it. Clauses of it rest on readings and
choices of the model: log entries 5, 113. -/
def Obligations.OnlyAuthenticRequestsExecuted : Prop :=
  (∀ (s u : State) (r : IzReq), s.admitReq r = .accepted u → r.session ≠ 0 →
    ∃ k, sessionNo r.session = some k ∧ (s.session k).phase = 2 ∧ (s.session k).counter < r.counter
      ∧ s.passed (.session k.val) = false ∧ r.mac = (hmacSha256 (s.session k).key (r.header ++ r.data)).take 16
      ∧ (u.session k).counter = r.counter ∧ u.out = s.out)
  ∧ (∀ (s : State) (r : IzReq) (k : SessionNo), r.session ≠ 0 → r.op ≠ opAuth → sessionNo r.session = some k →
    ((s.session k).phase ≠ 2 ∨ r.counter ≤ (s.session k).counter ∨ s.passed (.session k.val) = true
      ∨ r.mac ≠ (hmacSha256 (s.session k).key (r.header ++ r.data)).take 16) →
    s.admitReq r = .discarded ((s.arrives r).inc Reg.IZ_CTL_MAC_FAILS))
  ∧ (∀ (s u : State) (r : IzReq), s.takes r = true → r.op = opRead → isProxy r = false → s.admitReq r = .discarded u →
    Completes (.izvasRead r) s fun t => t = u ∧ t.out = s.out ∧ t.iz.sessions = s.iz.sessions
      ∧ t.rd Reg.IZ_CTL_MAC_FAILS = (s.rd Reg.IZ_CTL_MAC_FAILS + 1) % 18446744073709551616)

/-- Reads, staged values and their discarding (R438 to R440, R442): an admitted READ is answered with what the address
holds; a repeat of a TAG is answered with the response kept; a WRITE that passes its check is staged and answered OK,
unless the staging area is full, which is answered BUSY; one that does not pass is refused, answered and counted;
READ_STAGED returns what is staged; DISCARD empties the staged set. Clauses of it rest on readings and choices of the
model: log entries 111, 112, 117, 123. -/
def Obligations.ReadsAndWritesComplete : Prop :=
  (∀ (s u : State) (r : IzReq) (o : Obj) (n : Nat), s.takes r = true → r.op = opRead → isProxy r = false →
    s.admitReq r = .accepted u → lookup r.index r.sub = some (o, n) →
    Completes (.izvasRead r) s fun t => ∃ x, Out.reply x ∈ t.out ∧ x.status = (u.readAt o n r).1
      ∧ x.data = (u.readAt o n r).2.1 ∧ x.ext = (u.readAt o n r).2.2 ∧ x.op = 0x81 ∧ x.session = r.session ∧ x.tag = r.tag
      ∧ t = u.respond (r.answer (u.readAt o n r).1 (u.readAt o n r).2.1 (u.readAt o n r).2.2))
  ∧ (∀ (s u : State) (r : IzReq) (o : Obj) (n : Nat) (k : SessionNo) (vs : List (Nat × Bytes)) (l : List (Addr × Bytes)),
    s.takes r = true → r.op = opWrite → isProxy r = false → (ownRows.any (writes r)) = false → s.admitReq r = .accepted u →
    sessionNo r.session = some k → u.checkWrite r = .ok (o, n, vs) → (o.acc = .rwp ∨ o.acc = .rws) →
    l = vs.foldl (fun l v => stageValue l (⟨r.index, r.sub, v.1⟩, v.2)) (s.session k).staged →
    (u.setSession k fun z => { z with staged := l }).stagedBytes ≤ 67108864 →
    Completes (.izvasWrite r) s fun t => (t.session k).staged = l ∧ t.ports = s.ports ∧ t.blobs = s.blobs
      ∧ t = (u.setSession k fun z => { z with staged := l }).respond (r.answer stOk)
      ∧ ∃ x, Out.reply x ∈ t.out ∧ x.status = stOk ∧ x.tag = r.tag)
  ∧ (∀ (s u : State) (r : IzReq) (o : Obj) (n : Nat) (k : SessionNo) (vs : List (Nat × Bytes)) (l : List (Addr × Bytes)),
    s.takes r = true → r.op = opWrite → isProxy r = false → (ownRows.any (writes r)) = false → s.admitReq r = .accepted u →
    sessionNo r.session = some k → u.checkWrite r = .ok (o, n, vs) → (o.acc = .rwp ∨ o.acc = .rws) →
    l = vs.foldl (fun l v => stageValue l (⟨r.index, r.sub, v.1⟩, v.2)) (s.session k).staged →
    67108864 < (u.setSession k fun z => { z with staged := l }).stagedBytes →
    exec (.izvasWrite r) s = .next (u.refuseWrite r stBusy))
  ∧ (∀ (s : State) (r : IzReq) (k : SessionNo) (x : IzResp), s.takes r = true → r.op = opRead → isProxy r = false →
    sessionNo r.session = some k → (s.session k).phase = 2 → s.passed (.session k.val) = false →
    r.mac = (hmacSha256 (s.session k).key (r.header ++ r.data)).take 16 → (s.session k).counter < r.counter →
    ((s.session k).kept.find? fun y => y.tag == r.tag) = some x → x.session = r.session → x.op ≠ 0x90 →
    Completes (.izvasRead r) s fun t =>
      t.rd Reg.IZ_CTL_REPEATS = (s.rd Reg.IZ_CTL_REPEATS + 1) % 18446744073709551616
      ∧ ∃ y, Out.reply y ∈ t.out ∧ y.tag = r.tag ∧ y.counter = r.counter ∧ y.status = x.status ∧ y.data = x.data)
  ∧ (∀ (s u : State) (r : IzReq) (e : Nat), s.takes r = true → r.op = opWrite → isProxy r = false →
    (ownRows.any (writes r)) = false → s.admitReq r = .accepted u → u.checkWrite r = .error e →
    Completes (.izvasWrite r) s fun t =>
      t.rd Reg.IZ_CTL_WRITES_REFUSED = (u.rd Reg.IZ_CTL_WRITES_REFUSED + 1) % 18446744073709551616
      ∧ (∀ k : SessionNo, (t.session k).staged = (s.session k).staged) ∧ t = u.refuseWrite r e
      ∧ ∃ x, Out.reply x ∈ t.out ∧ x.status = e ∧ x.tag = r.tag)
  ∧ (∀ (s u : State) (r : IzReq) (o : Obj) (n : Nat) (k : SessionNo) (l : List Bytes), s.takes r = true →
    r.op = opReadStaged → s.admitReq r = .accepted u → lookup r.index r.sub = some (o, n) → sessionNo r.session = some k →
    1 ≤ r.count → (o.elems = 0 → r.count = 1) → (∀ b, o.ty ≠ .blob b) → (u.session k).find r = some l →
    l.flatten.length ≤ 2000 →
    Completes (.readStaged r) s fun t => (t.session k).staged = (u.session k).staged
      ∧ t = u.respond (r.answer stOk l.flatten)
      ∧ ∃ x, Out.reply x ∈ t.out ∧ x.status = stOk ∧ x.data = l.flatten ∧ x.tag = r.tag)
  ∧ (∀ (s u : State) (r : IzReq) (k : SessionNo), s.takes r = true → r.op = opDiscard → s.admitReq r = .accepted u →
    sessionNo r.session = some k →
    Completes (.discardStaged r) s fun t => (t.session k).staged = []
      ∧ t = (u.setSession k fun z => { z with staged := [] }).respond (r.answer stOk)
      ∧ ∃ x, Out.reply x ∈ t.out ∧ x.status = stOk ∧ x.tag = r.tag)

/-- Sessions (R434, R435): OPEN allots the lowest free number with a fresh nonce and 1 s for AUTH, and is refused BUSY
without a free number, AUTH without the role's key and for 10 s after three failures; AUTH with the proof of the
role's key opens the session and is answered with the device's proof, any other frees the number and is counted, and
the third in a row refuses OPENs for 10 s; CLOSE, the idle time and a missing AUTH free the number with what it
staged. Proxies (R450, R451): a proxy request for a station that serves is queued for it, a ninth is refused BUSY and
counted, one that the role, the port or the station refuses is answered with why. Clauses of it rest on readings and
choices of the model: log entries 5, 28, 114 to 119. -/
def Obligations.SessionsAndProxiesComplete : Prop :=
  (∀ (s u : State) (r : IzReq) (k : SessionNo), s.takes r = true → r.op = opOpen → s.admitReq r = .accepted u →
    r.data.length = 17 → 1 ≤ uAt r.data 0 1 → uAt r.data 0 1 ≤ 3 →
    ((List.finRange 8).find? fun k => decide ((u.session k).phase = 0)) = some k →
    (u.fuses.roleKey (uAt r.data 0 1)).status = 1 → u.iz.locked = false →
    Completes (.openSession r) s fun t => (t.session k).phase = 1 ∧ (t.session k).role = uAt r.data 0 1
      ∧ (t.session k).hostNonce = slice r.data 1 16 ∧ (t.session k).deviceNonce.length = 16
      ∧ t.deadline (.auth k.val) = some (s.now + 1000000000)
      ∧ ∃ x, Out.reply x ∈ t.out ∧ x.status = stOk ∧ x.session = k.val + 1
          ∧ x.data = be 8 s.fuses.deviceId ++ (t.session k).deviceNonce)
  ∧ (∀ (s u : State) (r : IzReq), s.takes r = true → r.op = opOpen → s.admitReq r = .accepted u →
    r.data.length = 17 → 1 ≤ uAt r.data 0 1 → uAt r.data 0 1 ≤ 3 → (∀ k : SessionNo, (u.session k).phase ≠ 0) →
    exec (.openSession r) s = .next (u.respond (r.answer stBusy)))
  ∧ (∀ (s u : State) (r : IzReq) (k : SessionNo), s.takes r = true → r.op = opOpen → s.admitReq r = .accepted u →
    r.data.length = 17 → 1 ≤ uAt r.data 0 1 → uAt r.data 0 1 ≤ 3 → (u.session k).phase = 0 →
    ((u.fuses.roleKey (uAt r.data 0 1)).status ≠ 1 ∨ u.iz.locked = true) →
    exec (.openSession r) s = .next (u.respond (r.answer stAuth)))
  ∧ (∀ (s : State) (r : IzReq) (k : SessionNo), s.takes r = true → r.op = opAuth → sessionNo r.session = some k →
    (s.session k).phase = 1 → r.counter = 0 → r.mac = [] → s.passed (.auth k.val) = false → r.lengthOk = true →
    r.data = hmacSha256 (s.roleKeyBytes (s.session k).role) ([0x49, 0x5A, 0x56, 0x31] ++ s.proofText (s.session k)) →
    Completes (.authSession r) s fun t => (t.session k).phase = 2 ∧ (t.session k).counter = 0 ∧ t.iz.authRun = 0
      ∧ (t.session k).key = hmacSha256 (s.roleKeyBytes (s.session k).role)
          ([0x49, 0x5A, 0x56, 0x4B] ++ (s.session k).deviceNonce ++ (s.session k).hostNonce)
      ∧ t.deadline (.session k.val) = some (s.now + s.rd Reg.IZ_CTL_idle_time * 1000000000)
      ∧ t.deadline (.auth k.val) = none
      ∧ ∃ x, Out.reply x ∈ t.out ∧ x.status = stOk ∧ x.tag = r.tag
          ∧ x.data = hmacSha256 (s.roleKeyBytes (s.session k).role) ([0x49, 0x5A, 0x56, 0x32] ++ s.proofText (s.session k)))
  ∧ (∀ (s : State) (r : IzReq) (k : SessionNo), s.takes r = true → r.op = opAuth → sessionNo r.session = some k →
    (s.session k).phase = 1 → r.counter = 0 → r.mac = [] → s.passed (.auth k.val) = false → r.lengthOk = true →
    r.data ≠ hmacSha256 (s.roleKeyBytes (s.session k).role) ([0x49, 0x5A, 0x56, 0x31] ++ s.proofText (s.session k)) →
    Completes (.authSession r) s fun t => (t.session k).phase = 0 ∧ t.iz.authRun = s.iz.authRun + 1
      ∧ t.rd Reg.IZ_CTL_AUTH_FAILS = (s.rd Reg.IZ_CTL_AUTH_FAILS + 1) % 18446744073709551616
      ∧ (2 ≤ s.iz.authRun → t.iz.locked = true ∧ t.deadline .lockout = some (s.now + 10000000000))
      ∧ ∃ x, Out.reply x ∈ t.out ∧ x.status = stAuth ∧ x.tag = r.tag)
  ∧ (∀ (s u : State) (r : IzReq) (k : SessionNo), s.takes r = true → r.op = opClose → s.admitReq r = .accepted u →
    sessionNo r.session = some k →
    Completes (.closeSession r) s fun t => (t.session k).phase = 0 ∧ (t.session k).staged = []
      ∧ t = (u.respond (r.answer stOk)).freeSession k
      ∧ t.deadline (.session k.val) = none ∧ ∃ x, Out.reply x ∈ t.out ∧ x.status = stOk ∧ x.tag = r.tag)
  ∧ (∀ (s : State) (k : SessionNo), s.runs = true → (s.session k).phase = 1 → s.passed (.auth k.val) = true →
    Completes (.authTimeout k) s fun t => (t.session k).phase = 0 ∧ t.iz.authRun = s.iz.authRun + 1
      ∧ t.rd Reg.IZ_CTL_AUTH_FAILS = (s.rd Reg.IZ_CTL_AUTH_FAILS + 1) % 18446744073709551616
      ∧ (2 ≤ s.iz.authRun → t.iz.locked = true ∧ t.deadline .lockout = some (s.now + 10000000000)) ∧ t.out = s.out)
  ∧ (∀ s : State, s.runs = true → s.iz.locked = true → s.reached .lockout = true →
    Completes .authLockoutEnd s fun t => t.iz = { s.iz with locked := false, authRun := 0 } ∧ t.deadline .lockout = none
      ∧ t = { s with iz := t.iz, timers := t.timers })
  ∧ (∀ (s : State) (k : SessionNo), s.runs = true → (s.session k).phase = 2 → s.passed (.session k.val) = true →
    Completes (.sessionIdleTimeout k) s fun t => (t.session k).phase = 0 ∧ (t.session k).staged = []
      ∧ (∀ c ∈ t.iz.queue, c.session ≠ k.val + 1) ∧ t.out = s.out)
  ∧ (∀ (s u : State) (r : IzReq), s.takes r = true → r.op = opRead → isProxy r = true → s.admitReq r = .accepted u →
    u.proxyRefused r false = none → u.stationRefused (Fin.ofNat 32 (r.index - 0x6000)) r.sub = none →
    (((u.port (Fin.ofNat 32 (r.index - 0x6000))).proxies.filter fun x => x.a == r.sub).length
      + ((u.port (Fin.ofNat 32 (r.index - 0x6000))).outstanding.filter fun o => o.proxy.a == r.sub).length < 8) →
    Completes (.proxyRead r) s fun t => t.out = s.out
      ∧ ∃ x : Proxy, (t.port (Fin.ofNat 32 (r.index - 0x6000))).proxies
          = (s.port (Fin.ofNat 32 (r.index - 0x6000))).proxies ++ [x]
        ∧ x.a = r.sub ∧ x.write = false ∧ x.data = r.data ∧ x.tag = r.tag ∧ x.rIndex = r.rIndex ∧ x.rSub = r.rSub
        ∧ x.rElement = r.rElement ∧ x.session = r.session)
  ∧ (∀ (s u : State) (r : IzReq), s.takes r = true → r.op = opWrite → isProxy r = true → s.admitReq r = .accepted u →
    u.proxyRefused r true = none → u.stationRefused (Fin.ofNat 32 (r.index - 0x6000)) r.sub = none →
    (((u.port (Fin.ofNat 32 (r.index - 0x6000))).proxies.filter fun x => x.a == r.sub).length
      + ((u.port (Fin.ofNat 32 (r.index - 0x6000))).outstanding.filter fun o => o.proxy.a == r.sub).length < 8) →
    Completes (.proxyWrite r) s fun t => t.out = s.out
      ∧ ∃ x : Proxy, (t.port (Fin.ofNat 32 (r.index - 0x6000))).proxies
          = (s.port (Fin.ofNat 32 (r.index - 0x6000))).proxies ++ [x]
        ∧ x.a = r.sub ∧ x.write = true ∧ x.data = r.data ∧ x.tag = r.tag ∧ x.rIndex = r.rIndex ∧ x.rSub = r.rSub
        ∧ x.rElement = r.rElement ∧ x.session = r.session)
  ∧ (∀ (s u : State) (r : IzReq), s.takes r = true → r.op = opRead → isProxy r = true → s.admitReq r = .accepted u →
    u.proxyRefused r false = none → u.stationRefused (Fin.ofNat 32 (r.index - 0x6000)) r.sub = none →
    (8 ≤ ((u.port (Fin.ofNat 32 (r.index - 0x6000))).proxies.filter fun x => x.a == r.sub).length
      + ((u.port (Fin.ofNat 32 (r.index - 0x6000))).outstanding.filter fun o => o.proxy.a == r.sub).length) →
    Completes (.proxyRead r) s fun t =>
      t.rd Reg.PROXY_STATS_BUSY (Fin.ofNat 32 (r.index - 0x6000))
        = (u.rd Reg.PROXY_STATS_BUSY (Fin.ofNat 32 (r.index - 0x6000)) + 1) % 18446744073709551616
      ∧ ∃ x, Out.reply x ∈ t.out ∧ x.status = stBusy ∧ x.tag = r.tag)
  ∧ (∀ (s u : State) (r : IzReq) (e : Nat), s.takes r = true → r.op = opRead → isProxy r = true →
    s.admitReq r = .accepted u → u.proxyRefused r false = none →
    u.stationRefused (Fin.ofNat 32 (r.index - 0x6000)) r.sub = some e →
    Completes (.proxyRead r) s fun t => t.ports = s.ports
      ∧ ∃ x, Out.reply x ∈ t.out ∧ x.status = e ∧ x.tag = r.tag
          ∧ x.ext = be 2 r.rIndex ++ be 1 r.rSub ++ be 3 r.rElement)
  ∧ (∀ (s u : State) (r : IzReq) (e : Nat), s.takes r = true → r.op = opWrite → isProxy r = true →
    s.admitReq r = .accepted u → u.proxyRefused r true = some e →
    exec (.proxyWrite r) s = .next (u.refuseWrite r e))

/-- Commits (R443, R444, R446): COMMIT with 0x0000_C0DE queues the staged set and empties it, and with any other value
is refused RANGE; the front of the queue is checked when no commit is fencing: refused it is reported, counted,
answered and staged again, and no line engine changes; accepted it is answered, counted, and awaits the apply point of
each island it touches; an empty one is done at once. Clauses of it rest on readings and choices of the model: log
entries 14, 120 to 122, 124. -/
def Obligations.CommitsComplete : Prop :=
  (∀ (s u : State) (r : IzReq) (k : SessionNo) (x : Obj × Nat × List (Nat × Bytes)), s.takes r = true →
    writes r 0x1010 = true → s.admitReq r = .accepted u → u.checkWrite r = .ok x → sessionNo r.session = some k →
    uAt r.data 0 4 = 0xC0DE →
    Completes (.commit r) s fun t =>
      t.iz.queue = s.iz.queue ++ [⟨r.session, r.side, r.tag, r.counter, (s.session k).staged, s.now⟩]
      ∧ (t.session k).staged = [] ∧ t.rd Reg.COMMIT_STATUS_state = 1 ∧ t.rd Reg.COMMIT_STATUS_session = r.session
      ∧ t.out = s.out)
  ∧ (∀ (s u : State) (r : IzReq) (k : SessionNo) (x : Obj × Nat × List (Nat × Bytes)), s.takes r = true →
    writes r 0x1010 = true → s.admitReq r = .accepted u → u.checkWrite r = .ok x → sessionNo r.session = some k →
    uAt r.data 0 4 ≠ 0xC0DE → exec (.commit r) s = .next (u.refuseWrite r stRange))
  ∧ (∀ (s : State) (c : Commit) (rest : List Commit) (status : Nat) (report : Bytes) (k : SessionNo), s.steward = true →
    s.refclkAsked = false →
    s.iz.queue = c :: rest → s.iz.active = none → s.commitRefusal c.values = some (status, report) →
    sessionNo c.session = some k → (s.session k).phase = 2 →
    Completes .commitCheckStart s fun t => t.iz.queue = rest ∧ t.iz.active = none
      ∧ t.rdB Reg.CONFLICT_REPORT = report
      ∧ t.rd Reg.COMMIT_STATUS_REFUSALS = (s.rd Reg.COMMIT_STATUS_REFUSALS + 1) % 18446744073709551616
      ∧ t.rd Reg.COMMIT_STATUS_state = (if rest = [] then 5 else 1)
      ∧ (t.session k).staged = (s.session k).staged.foldl stageValue c.values
      ∧ t.ports = s.ports ∧ ∃ x, Out.reply x ∈ t.out ∧ x.status = status ∧ x.tag = c.tag)
  ∧ (∀ (s : State) (c : Commit) (rest : List Commit) (k : SessionNo), s.steward = true → s.refclkAsked = false →
    s.iz.queue = c :: rest → s.iz.active = none → s.commitRefusal c.values = none → sessionNo c.session = some k →
    (s.session k).phase = 2 → (c.values.filterMap fun v => v.1.island).eraseDups ≠ [] →
    Completes .commitCheckStart s fun t => t.iz.queue = rest ∧ t.iz.active = some c
      ∧ t.iz.remaining = (c.values.filterMap fun v => v.1.island).eraseDups ∧ t.iz.acceptedAt = s.now
      ∧ t.rd Reg.COMMIT_STATUS_state = 3
      ∧ t.rd Reg.COMMIT_STATUS_COMMITS = (s.rd Reg.COMMIT_STATUS_COMMITS + 1) % 18446744073709551616
      ∧ ∃ x, Out.reply x ∈ t.out ∧ x.status = stOk ∧ x.tag = c.tag)
  ∧ (∀ (s : State) (c : Commit) (rest : List Commit), s.steward = true → s.refclkAsked = false →
    s.iz.queue = c :: rest → s.iz.active = none →
    s.commitRefusal c.values = none → c.values = [] →
    Completes .commitCheckStart s fun t => t.iz.active = none ∧ t.rd Reg.COMMIT_STAMP = s.now
      ∧ t.rd Reg.COMMIT_STATUS_applied = 0 ∧ t.rd Reg.COMMIT_STATUS_state = (if rest = [] then 4 else 1)
      ∧ t.iz.queue = rest ∧ t.ports = s.ports)

/-! ## Power states and wake (chapter 11) -/

/-- Entry (R460, R463 to R468): WAIT with POWER_TARGET IDLE takes the device to IDLE, with RUN it does nothing, with
SLEEP, DEEP or OFF it begins step 1; a WAKE parcel takes IDLE to RUN; each step whose condition is met is followed by
the next, OFF skipping steps 3 and 4, step 5 latching station time and the counter and engaging the clamps; after the
sixth the device is in its target; a happening that lies no later than the begin of step 6 abandons entry, a limit
that passes refuses it, and either returns the device to where it was, counts the abort and keeps its refuser; a
happening after the begin of step 6 starts a wake from SLEEP and DEEP. Performance levels (R459, R36): at the unit's
apply point a level begins to change, a lower clock at once, and a unit that goes to PL3 is to realign; with the
supply settled the level is in force. Clauses of it rest on readings and choices of the model: log entries 14, 126 to
128, 131, 132. -/
def Obligations.PowerEntryAndLevels : Prop :=
  (∀ (s : State) (x : Side) (bcast : Bool), s.runs = true → s.linkUp x = true → s.hostPort x = true → s.steward = true →
    s.stopped = false → s.rd Reg.POWER_TARGET = 1 →
    Completes (.waitParcel x bcast) s fun t => t.power.mode = pmIdle ∧ t.rd Reg.POWER_STATE_state = 1
      ∧ (bcast = false → t = { s with power := t.power, regs := t.regs }))
  ∧ (∀ (s : State) (x : Side), s.runs = true → s.linkUp x = true → s.hostPort x = true →
    (s.steward = false ∨ s.stopped = true ∨ s.rd Reg.POWER_TARGET = 0) → exec (.waitParcel x false) s = .next s)
  ∧ (∀ (s : State) (x : Side) (bcast : Bool), s.runs = true → s.linkUp x = true → s.hostPort x = true → s.steward = true →
    s.stopped = false → 2 ≤ s.rd Reg.POWER_TARGET →
    Completes (.waitParcel x bcast) s fun t => t.power.mode = pmEntering ∧ t.power.step = 1
      ∧ t.power.target = s.rdN Reg.POWER_TARGET ∧ t.power.before = s.power.mode
      ∧ t.rd Reg.POWER_STATE_state = 5 ∧ t.rd Reg.POWER_STATE_step = 1 ∧ t.ports = s.ports)
  ∧ (∀ s : State, s.runs = true → s.power.mode = pmIdle →
    Completes .wakeParcel s fun t => t.power.mode = pmRun ∧ t.rd Reg.POWER_STATE_state = 0
      ∧ t.rd Reg.POWER_STATE_wake_cause = 14 * 16777216 ∧ t.rd Reg.POWER_STATE_wake_stamp = s.now
      ∧ t = { s with power := t.power, regs := t.regs, house := t.house, timers := t.timers })
  ∧ (∀ (s : State) (m : EntryMeas), s.runs = true → s.stopped = true → s.stepMet m = true → s.power.step ≠ 6 →
    s.power.abandon = none →
    Completes (.entryStepAdvance m) s fun t => t.power.mode = pmEntering
      ∧ t.power.step = (if s.power.step = 2 ∧ s.power.target = pmOff then 5 else s.power.step + 1)
      ∧ t.power.target = s.power.target ∧ (s.power.step = 5 → t.power.clamped = true)
      ∧ (s.power.step = 5 → s.power.target ≠ pmOff → t.time.latchT = s.now ∧ t.time.latchC = m.counter
          ∧ t.time.latchRho = s.rdN Reg.XLF_RATIO_rho ∧ t.rd Reg.POWER_STATE_entry_stamp = s.now)
      ∧ (s.power.step = 3 → t.power.selfRefresh = true))
  ∧ (∀ (s : State) (m : EntryMeas), s.runs = true → s.stopped = true → s.power.step = 6 → s.power.abandon = none →
    s.power.target = 2 ∨ s.power.target = 3 ∨ s.power.target = 4 →
    Completes (.entryStepAdvance m) s fun t => t.power.mode = s.power.target ∧ t.power.slept = s.power.target
      ∧ t.power.lowPower = decide (3 ≤ s.power.target) ∧ t.power.wake = 0 ∧ t.ports = s.ports
      ∧ t.rd Reg.POWER_STATE_ENTRIES = (s.rd Reg.POWER_STATE_ENTRIES + 1) % 18446744073709551616)
  ∧ (∀ (s : State) (m : EntryMeas) (code detail : Nat), s.runs = true → s.stopped = true → s.power.step = 6 →
    s.power.abandon = some (code, detail) → s.power.stepAt < s.power.abandonAt →
    s.power.target = 2 ∨ s.power.target = 3 →
    Completes (.entryStepAdvance m) s fun t => t.power.mode = s.power.target ∧ t.power.slept = s.power.target
      ∧ t.power.wake = 1 ∧ t.power.wakeAt = s.now ∧ t.power.lowPower = false ∧ t.power.abandon = none
      ∧ t.rd Reg.POWER_STATE_wake_cause = (refuser code 0 detail : Nat))
  ∧ (∀ (s : State) (m : EntryMeas) (code detail : Nat), s.runs = true → s.stopped = true → s.stepMet m = true →
    s.power.step ≠ 6 ∨ s.power.abandonAt ≤ s.power.stepAt → s.power.abandon = some (code, detail) →
    Completes (.entryStepAdvance m) s fun t => t.power.mode = s.power.before ∧ t.power.clamped = false
      ∧ t.power.selfRefresh = false ∧ t.power.parked = [] ∧ t.rd Reg.LAST_REFUSER = (refuser code s.power.step detail : Nat)
      ∧ t.rd Reg.ENTRY_ABORTS = (s.rd Reg.ENTRY_ABORTS + 1) % 18446744073709551616)
  ∧ (∀ (s : State) (m : EntryMeas) (code detail : Nat), s.runs = true → s.stopped = true →
    s.stepRefuser m = some (code, detail) →
    Completes (.entryRefused m) s fun t => t.power.mode = s.power.before ∧ t.power.selfRefresh = false
      ∧ t.power.clamped = false ∧ t.power.parked = []
      ∧ t.rd Reg.LAST_REFUSER = (refuser code s.power.step detail : Nat)
      ∧ t.rd Reg.ENTRY_ABORTS = (s.rd Reg.ENTRY_ABORTS + 1) % 18446744073709551616)
  ∧ (∀ (s : State) (u : PerfUnit), s.runs = true → u.val ∈ s.iz.ramping → (s.power.ramps.all fun r => r.1 != u.val) = true →
    s.levelPoint u.val (s.rd Reg.PERF_LEVEL_requested 0 u.val) = true →
    Completes (.perfLevelChange u) s fun t =>
      t.power.ramps = s.power.ramps ++ [(u.val, s.rdN Reg.PERF_LEVEL_requested 0 u.val)]
      ∧ t.rd Reg.PERF_LEVEL_in_force 0 u.val
          = max (s.rd Reg.PERF_LEVEL_in_force 0 u.val) (s.rd Reg.PERF_LEVEL_requested 0 u.val)
      ∧ (s.rd Reg.PERF_LEVEL_in_force 0 u.val < 3 → s.rd Reg.PERF_LEVEL_requested 0 u.val = 3 →
          ∀ src ∈ unitSources u.val, src ∈ t.time.unaligned)
      ∧ t = { s with power := t.power, regs := t.regs, time := t.time })
  ∧ (∀ (s : State) (u : PerfUnit) (r : Nat × Nat), s.runs = true → (s.power.ramps.find? fun r => r.1 == u.val) = some r →
    Completes (.perfLevelRampDone u) s fun t => t.rd Reg.PERF_LEVEL_in_force 0 u.val = r.2
      ∧ u.val ∉ t.iz.ramping ∧ (∀ x ∈ t.power.ramps, x.1 ≠ u.val) ∧ t.time = s.time)

/-- Wake (R460, R466, R473 to R483): an armed source takes IDLE to RUN, abandons an entry, starts a wake from SLEEP
and DEEP with its cause and from OFF a cold reset; in RUN one within 1 ms of the wake adds its port; the clamps are
released into RUN on the RC oscillator; the thermos gives station time back in HOLDOVER, a bank that failed is counted
and logged; the clock is selected; ρ is measured each second, and again after the selection, where more than 1 ppm is
logged; a brown-out is a cold reset. Clauses of it rest on readings and choices of the model: log entries 12, 129,
130, 133 to 138. -/
def Obligations.WakeStepByStep : Prop :=
  (∀ (s : State) (w : WakeSource), s.live = true → s.armedSource w = true → s.power.mode = pmIdle →
    Completes (.wakeDetect w) s fun t => t.power.mode = pmRun ∧ t.rd Reg.POWER_STATE_state = 0
      ∧ t.rd Reg.POWER_STATE_wake_cause = (refuser (s.wakeCode w).1 0 (s.wakeCode w).2 : Nat)
      ∧ t.rd Reg.POWER_STATE_wake_stamp = s.now)
  ∧ (∀ (s : State) (w : WakeSource), s.live = true → s.armedSource w = true → s.power.mode = pmRun →
    Completes (.wakeDetect w) s fun t => t.rdN Reg.POWER_STATE_wake_ports
        = (if s.now ≤ s.power.wakeAt + 1000000 ∧ s.rd Reg.POWER_STATE_wake_cause ≠ 0
              ∧ ((s.wakeCode w).1 = 3 ∨ (s.wakeCode w).1 = 4) then
            s.rdN Reg.POWER_STATE_wake_ports ||| 2 ^ (s.wakeCode w).2
          else s.rdN Reg.POWER_STATE_wake_ports)
      ∧ t = { s with regs := t.regs })
  ∧ (∀ (s : State) (w : WakeSource), s.live = true → s.armedSource w = true → s.power.mode = pmEntering →
    s.power.abandon = none →
    exec (.wakeDetect w) s
      = .next { s with power := { s.power with abandon := some (s.wakeCode w), abandonAt := s.now } })
  ∧ (∀ (s : State) (w : WakeSource), s.live = true → s.armedSource w = true → s.power.mode = pmSleep ∨ s.power.mode = pmDeep →
    s.power.wake = 0 →
    Completes (.wakeDetect w) s fun t => t.power.wake = 1 ∧ t.power.mode = s.power.mode ∧ t.power.lowPower = false
      ∧ t.power.wakeAt = s.now ∧ t.rd Reg.POWER_STATE_wake_cause = (refuser (s.wakeCode w).1 0 (s.wakeCode w).2 : Nat)
      ∧ t = { s with power := t.power, regs := t.regs })
  ∧ (∀ (s : State) (w : WakeSource), s.live = true → s.armedSource w = true → s.power.mode = pmOff →
    Completes (.wakeDetect w) s fun t => t.regs = [] ∧ t.blobs = [] ∧ t.rst.cause = [4] ∧ t.power.mode = pmRun
      ∧ t.hamper = s.hamper ∧ t.fuses = s.fuses ∧ t.stations = s.stations)
  ∧ (∀ s : State, s.live = true → s.power.wake = 1 → s.power.mode = pmSleep → s.power.wakeAt + 30000 ≤ s.now →
    Completes .wakeClampsRelease s fun t => t.power.mode = pmRun ∧ t.power.wake = 2 ∧ t.power.clamped = false
      ∧ t.power.irqWake = true ∧ t.rd Reg.CLOCK_SELECT_in_force = 0 ∧ t.rd Reg.CLOCK_SELECT_request = 0
      ∧ t.time.unaligned = wokenSources ∧ t.deadline .watchdog = some (s.now + 100000000) ∧ t.ports = s.ports)
  ∧ (∀ s : State, s.live = true → s.power.wake = 1 → s.power.mode = pmDeep → s.power.wakeAt + 250000 ≤ s.now →
    Completes .wakeClampsRelease s fun t => t.power.mode = pmRun ∧ t.power.wake = 2 ∧ t.qm.cache = []
      ∧ t.merge.held = [] ∧ t.merge.crossing = [] ∧ t.time.unaligned = wokenSources)
  ∧ (∀ (s : State) (failed : List Nat) (counter : Nat), s.runs = true → s.power.wake = 2 → s.power.slept = pmSleep →
    s.power.wakeAt + 830000 ≤ s.now → (∀ b < 8, b ∉ failed) →
    Completes (.thermosCheck failed counter) s fun t => t.power.wake = 3
      ∧ t.time.now = s.time.latchT + ((counter : Int) - s.time.latchC) * s.time.latchRho / 4294967296
      ∧ t.rd Reg.TIME_QUALITY_state = tqHoldover ∧ t.rd Reg.TIME_QUALITY_epoch = s.rd Reg.TIME_QUALITY_epoch
      ∧ t.faults = s.faults ∧ (s.pfState .up ≠ pfOff → t.pfState .up = pfDetect)
      ∧ (s.pfState .down ≠ pfOff → t.pfState .down = pfDetect))
  ∧ (∀ (s : State) (counter b : Nat), s.runs = true → s.power.wake = 2 → s.power.slept = pmSleep →
    s.power.wakeAt + 830000 ≤ s.now → b = 0 ∨ b = 2 ∨ b = 3 →
    Completes (.thermosCheck [b] counter) s fun t => t.power.wake = 3
      ∧ t.rd Reg.THERMOS_LOSSES 0 b = (s.rd Reg.THERMOS_LOSSES 0 b + 1) % 18446744073709551616
      ∧ ∃ f, t.faults.pending = s.faults.pending ++ [f] ∧ f.report = ⟨srcPower, clsPower, 0x01, b, 0⟩ ∧ f.severity = 2)
  ∧ (∀ s : State, s.runs = true → s.rd Reg.CLOCK_SELECT_request = 1 → s.rd Reg.CLOCK_SELECT_in_force = 0 →
    s.power.locking = false → s.power.wake ≠ 2 → s.rd Reg.CAL_REF_REFCLK_state = 1 →
    exec .clockSelect s = .next { s with power := { s.power with locking := true } })
  ∧ (∀ s : State, s.runs = true → s.power.locking = true → s.power.wake ≠ 3 →
    Completes .clockSelected s fun t => t.rd Reg.CLOCK_SELECT_in_force = 1 ∧ t.power.locking = false ∧ t.power.wake = 0
      ∧ t.power.selfRefresh = false ∧ t.time.onCounter = false ∧ t.time.now = s.time.now
      ∧ (s.iz.active = none → t.ports = s.ports))
  ∧ (∀ s : State, s.runs = true → s.power.locking = true → s.power.wake = 3 →
    Completes .clockSelected s fun t => t.rd Reg.CLOCK_SELECT_in_force = 1 ∧ t.power.locking = false ∧ t.power.wake = 0
      ∧ t.power.selfRefresh = false ∧ t.power.parked = [] ∧ t.time.onCounter = false
      ∧ t.deadline .rhoRecheck = some (s.now + 10000000))
  ∧ (∀ (s : State) (rho : Nat), s.runs = true → s.power.mode = pmRun → s.due .rhoNext = true →
    Completes (.rhoMeasure rho) s fun t => t.rd Reg.XLF_RATIO_rho = rho ∧ t.rd Reg.XLF_RATIO_stamp = s.now
      ∧ t.deadline .rhoNext = some (s.now + 1000000000) ∧ t = { s with regs := t.regs, timers := t.timers })
  ∧ (∀ (s : State) (rho : Nat), s.runs = true → s.reached .rhoRecheck = true →
    ((rho : Int) - s.time.latchRho).natAbs * 1000000 ≤ s.time.latchRho →
    exec (.rhoRecheck rho) s = .next (s.disarm .rhoRecheck))
  ∧ (∀ (s : State) (rho : Nat), s.runs = true → s.reached .rhoRecheck = true →
    s.time.latchRho < ((rho : Int) - s.time.latchRho).natAbs * 1000000 →
    Completes (.rhoRecheck rho) s fun t => t.deadline .rhoRecheck = none ∧ t.time.now = s.time.now
      ∧ t.time.rateCorr = s.time.rateCorr - (if (rho : Int) < s.time.latchRho then
            -((((rho : Int) - s.time.latchRho).natAbs : Int) * 1000000000 / s.time.latchRho)
          else (((rho : Int) - s.time.latchRho).natAbs : Int) * 1000000000 / s.time.latchRho)
      ∧ t.faults = s.reported srcTime clsTime 0x02 0xFF
          ((((rho : Int) - s.time.latchRho).natAbs : Int) * 1000000000 / s.time.latchRho).toNat 1)
  ∧ (∀ s : State, s.live = true → s.power.lowPower = true →
    Completes .aoBrownout s fun t => t.regs = [] ∧ t.blobs = [] ∧ t.rst.cause = [2] ∧ t.power.lowPower = false
      ∧ t.hamper = s.hamper ∧ t.fuses = s.fuses)

/-! ## Faults and fencing (chapter 12) -/

/-- R490: the faults of a cycle are judged together, none lost, in an order in which none stands behind one that it
goes before: real before injected, higher severity first, then the lower source. -/
def Obligations.FaultsOfACycleInOrder : Prop :=
  ∀ l : List Judged, (orderFaults l).Perm l ∧ (orderFaults l).Pairwise fun a b => b.before a = false

/-- The collector (R487 to R497): a catalogued fault of its source waits for its cycle's decision, or for its stamp
where its island's time is not aligned, and an uncorrectable word of DRAM marks its page; a NOTICE is logged with the
next SEQ and its record, and nothing reacts; a FENCE of a line engine fences its port, one of a sounding engine takes
it from its port; a fault at RESET ends in a cold reset that names it, once its record is acknowledged or 1 ms has
passed; an acknowledgement covers its classes up to its SEQ, and empties FIRST_FAULT when it covers it. The steward,
DRAM and injection (R489, R498, R500, R501): a missed service pass is a FENCE of the steward; its restart ends with a
new watchdog; corrected words are counted; a page that is due is retired to a spare in slot 12, its lost cells
flagged, or reported when no spare is left; an injection is armed, and fires at its time. Clearing a fence (R499): the
self-test begins; passed, an engine can be assigned again, a port goes to DOWN with calibration and pre-distortion
training to follow, the hamper interface waits; failed, the element stays fenced and its fault is raised again.
Clauses of it rest on readings and choices of the model: log entries 139 to 149. -/
def Obligations.FaultsStewardAndFencesComplete : Prop :=
  (∀ (s : State) (f : FaultReport) (c : Nat), s.live = true → catalogueSeverity f.cls f.code = some c →
    sourceOf f.cls f.code f.source = true →
    Completes (.faultRaise f) s fun t =>
      t.faults = { s.reported f.source f.cls f.code f.unit f.detail c with lost := t.faults.lost }
      ∧ t.faults.lost = (if f.cls = clsMemory ∧ f.code = 0x01 ∧ f.source = srcDram then
            f.unit :: s.faults.lost.filter fun x => x != f.unit
          else s.faults.lost)
      ∧ (f.cls ≠ clsSounding → t = { s with faults := t.faults }))
  ∧ (∀ (s : State) (f : PendFault), s.live = true → s.faults.pending = [f] → f.injected = false → f.severity = svNotice →
    (f.stamp / 16 + 1) * 16 + 2000 ≤ s.now → (s.faults.inject.all fun x => decide (f.stamp / 16 < x.2.2 / 16)) = true →
    (∀ l ∈ s.faults.logged, l.cls ≠ f.report.cls) → s.isHead = false → s.power.wakeOwed = false →
    Completes .faultCycleDecision s fun t => t.faults.pending = [] ∧ t.faults.seq = (s.faults.seq + 1) % 4294967296
      ∧ t.rd Reg.FAULT_LOG_newest = ((s.faults.seq + 1) % 4294967296 : Nat)
      ∧ t.faults.logged.getLast? = some ⟨(s.faults.seq + 1) % 4294967296, f.report.cls, svNotice, false, false, false⟩
      ∧ (∃ r : Rec, t.merge.crossing = s.merge.crossing ++ [r] ∧ r.stamp = f.stamp ∧ r.source = f.report.source
          ∧ r.type = 0x0C01 ∧ r.payload.take 4 = be 1 f.report.cls ++ be 1 f.report.code ++ [1] ++
              be 1 ((catalogueSeverity f.report.cls f.report.code).getD 1))
      ∧ t.ports = s.ports ∧ t.power = s.power)
  ∧ (∀ (s : State) (f : PendFault) (p : Port), s.live = true → s.faults.pending = [f] → f.injected = false →
    f.severity = svFence → f.report.source = srcLine p → f.report.cls = clsLine →
    (f.stamp / 16 + 1) * 16 + 2000 ≤ s.now → (s.faults.inject.all fun x => decide (f.stamp / 16 < x.2.2 / 16)) = true →
    (∀ l ∈ s.faults.logged, l.cls ≠ clsLine) →
    Completes .faultCycleDecision s fun t => t.portState p = stFenced ∧ t.rd Reg.FENCE_CTL_state 0 p.val = 1
      ∧ t.rd Reg.FENCE_CTL_stamp 0 p.val = f.stamp
      ∧ t.rd Reg.FENCE_CTL_SEQ 0 p.val = ((s.faults.seq + 1) % 4294967296 : Nat))
  ∧ (∀ (s : State) (f : PendFault) (k : Fin 4), s.live = true → s.faults.pending = [f] → f.injected = false →
    f.severity = svFence → f.report.source = srcEngine k.val → f.report.cls = clsSounding →
    (f.stamp / 16 + 1) * 16 + 2000 ≤ s.now → (s.faults.inject.all fun x => decide (f.stamp / 16 < x.2.2 / 16)) = true →
    (∀ l ∈ s.faults.logged, l.cls ≠ clsSounding) →
    Completes .faultCycleDecision s fun t => t.rd Reg.FENCE_CTL_state 0 (32 + k.val) = 1
      ∧ t.rd Reg.FENCE_CTL_stamp 0 (32 + k.val) = f.stamp
      ∧ t.rd Reg.FENCE_CTL_SEQ 0 (32 + k.val) = ((s.faults.seq + 1) % 4294967296 : Nat)
      ∧ ∀ p : Port, (t.port p).sound.engine ≠ some k)
  ∧ (∀ (s : State) (f : FaultReport) (acked : Bool), s.live = true → s.faults.resetFault = some f →
    (acked = true ∧ s.recordWaits f = false) ∨ s.reached .faultReset = true →
    Completes (.faultReset acked) s fun t => t.regs = [] ∧ t.blobs = [] ∧ t.faults = {} ∧ t.fuses = s.fuses
      ∧ t.hamper = s.hamper ∧ t.rst.cause = [3] ++ be 1 f.cls ++ be 1 f.code ++ [0] ++ be 2 f.source)
  ∧ (∀ (s u : State) (r : IzReq) (x : Obj × Nat × List (Nat × Bytes)), s.takes r = true → writes r 0x1402 = true →
    s.admitReq r = .accepted u → u.checkWrite r = .ok x →
    Completes (.faultAck r) s fun t =>
      (∀ l ∈ t.faults.logged, bit (uAt r.data 3 1) l.cls = true → serialLe l.seq (uAt r.data 4 4) = true → l.acked = true)
      ∧ t.faults.logged.map (fun l => (l.seq, l.cls, l.severity, l.injected))
          = s.faults.logged.map (fun l => (l.seq, l.cls, l.severity, l.injected))
      ∧ (∀ l ∈ s.faults.logged, bit (uAt r.data 3 1) l.cls = false ∨ serialLe l.seq (uAt r.data 4 4) = false →
          l ∈ t.faults.logged)
      ∧ t.faults.firstSeq = (if t.faults.logged.any fun l => l.acked && s.faults.firstSeq == some l.seq then none
          else s.faults.firstSeq)
      ∧ t.faults.pending = s.faults.pending
      ∧ ∃ y, Out.reply y ∈ t.out ∧ y.status = stOk ∧ y.tag = r.tag)
  ∧ (∀ s : State, s.runs = true → s.passed .watchdog = true →
    Completes .watchdogExpiry s fun t => t.deadline .watchdog = none
      ∧ t.faults = s.reported srcSteward clsControl 0x03 0xFF s.house.slot 3
      ∧ t = { s with faults := t.faults, timers := t.timers })
  ∧ (∀ (s : State) (c : PatchCheck), s.runs = true → s.faults.stewardDown = true →
    Completes (.stewardRestartDone c) s fun t => t.faults.stewardDown = false
      ∧ t.rst.patchPresent = (c.present && c.crcOk)
      ∧ t.rd Reg.STEWARD_RESTARTS = (s.rd Reg.STEWARD_RESTARTS + 1) % 18446744073709551616
      ∧ t.rd Reg.STEWARD_last_restart = s.now ∧ t.deadline .watchdog = some (s.now + 100000000))
  ∧ (∀ s : State, s.runs = true →
    Completes (.eccWordCorrected none) s fun t => t = { s with regs := t.regs }
      ∧ t.rd Reg.DRAM_PAGES_SRAM_CORRECTED = (s.rd Reg.DRAM_PAGES_SRAM_CORRECTED + 1) % 18446744073709551616)
  ∧ (∀ (s : State) (n : Nat), s.runs = true →
    Completes (.eccWordCorrected (some n)) s fun t => s.now ∈ Store.get [] t.faults.corrected n
      ∧ t.rd Reg.DRAM_PAGES_CORRECTED = (s.rd Reg.DRAM_PAGES_CORRECTED + 1) % 18446744073709551616
      ∧ t = { s with regs := t.regs, faults := t.faults })
  ∧ (∀ (s : State) (page : Nat) (region : DramRegion), s.runs = true → s.inSlot ownScrub = true → page < 2048 →
    s.faults.retired.contains page = false → s.pageDue page = true → s.faults.lost.contains page = false →
    0 < s.rd Reg.DRAM_PAGES_spares →
    Completes (.pageRetire page region) s fun t => t.faults.retired = s.faults.retired ++ [page]
      ∧ page ∈ t.faults.copying ∧ t.rd Reg.DRAM_PAGES_spares = s.rd Reg.DRAM_PAGES_spares - 1
      ∧ t.rd Reg.DRAM_PAGES_RETIRED = s.rd Reg.DRAM_PAGES_RETIRED + 1
      ∧ t.rdB Reg.DRAM_PAGES_list = patch (s.rdB Reg.DRAM_PAGES_list) (2 * s.faults.retired.length) (be 2 page)
      ∧ t.faults.pending = (s.reported srcDram clsMemory 0x02 page s.faults.retired.length 3).pending
      ∧ t = { s with regs := t.regs, blobs := t.blobs, faults := t.faults })
  ∧ (∀ (s : State) (page : Nat) (region : DramRegion), s.runs = true → s.inSlot ownScrub = true → page < 2048 →
    s.faults.retired.contains page = false → s.pageDue page = true → s.faults.lost.contains page = false →
    s.rd Reg.DRAM_PAGES_spares = 0 →
    Completes (.pageRetire page region) s fun t => t.faults.retired = s.faults.retired
      ∧ t.faults.pending = (s.reported srcDram clsMemory 0x03 page 0 4).pending ∧ t = { s with faults := t.faults })
  ∧ (∀ (s : State) (page first count : Nat) (p : Port), s.runs = true → s.inSlot ownScrub = true → page < 2048 →
    s.faults.retired.contains page = false → s.faults.lost.contains page = true →
    0 < s.rd Reg.DRAM_PAGES_spares →
    Completes (.pageRetire page (.cellMap p first count)) s fun t => t.faults.retired = s.faults.retired ++ [page]
      ∧ t.faults.lost.contains page = false
      ∧ ∀ i < first + count, first ≤ i → i < 163840 →
          bit (cellFlags (t.cell p i)) 6 = true ∧ bit (cellFlags (t.cell p i)) 7 = false)
  ∧ (∀ (s : State) (page : Nat), s.runs = true → s.inSlot ownScrub = true → page ∈ s.faults.copying →
    Completes (.pageCopyDone page) s fun t => page ∉ t.faults.copying ∧ t.faults.retired = s.faults.retired
      ∧ t = { s with faults := t.faults })
  ∧ (∀ (s u : State) (r : IzReq) (x : Obj × Nat × List (Nat × Bytes)), s.takes r = true → writes r 0x1410 = true →
    s.admitReq r = .accepted u → u.checkWrite r = .ok x →
    (catalogueSeverity (uAt r.data 2 1) (uAt r.data 3 1)).isSome = true →
    sourceOf (uAt r.data 2 1) (uAt r.data 3 1) (uAt r.data 0 2) = true → 1 ≤ uAt r.data 4 1 → uAt r.data 4 1 ≤ 4 →
    time80Ok r.data 6 = true →
    Completes (.faultInject r) s fun t => t.rd Reg.FAULT_INJECT_armed = 1
      ∧ (∃ f w, t.faults.inject = some (f, uAt r.data 4 1, w) ∧ f.source = uAt r.data 0 2 ∧ f.cls = uAt r.data 2 1
          ∧ f.code = uAt r.data 3 1
          ∧ w = (if stampOf (slice r.data 6 10) ≤ s.now then (s.now / 16 + 1) * 16 else onGrid (stampOf (slice r.data 6 10))))
      ∧ ∃ y, Out.reply y ∈ t.out ∧ y.status = stOk)
  ∧ (∀ (s : State) (f : FaultReport) (sev : Nat) (w : Stamp), s.live = true → s.faults.inject = some (f, sev, w) → w ≤ s.now →
    Completes .faultInjectFire s fun t => t.faults.inject = none ∧ t.rd Reg.FAULT_INJECT_armed = 0
      ∧ t.faults.pending = s.faults.pending ++ [⟨w, f, sev, true⟩]
      ∧ t.rd Reg.FAULT_INJECT_INJECTED = (s.rd Reg.FAULT_INJECT_INJECTED + 1) % 18446744073709551616
      ∧ t = { s with regs := t.regs, faults := t.faults })
  ∧ (∀ (s : State) (e : FenceElem), s.runs = true → s.flag Reg.FENCE_CTL_clear 0 e.val = true →
    s.rd Reg.FENCE_CTL_state 0 e.val = 1 →
    Completes (.fenceClear e) s fun t => t.rd Reg.FENCE_CTL_state 0 e.val = 2 ∧ t.rd Reg.FENCE_CTL_clear 0 e.val = 0
      ∧ t.deadline (.selfTest e.val) = some (s.now + selfTestTime e.val) ∧ t = { s with regs := t.regs, timers := t.timers })
  ∧ (∀ (s : State) (e : FenceElem), s.runs = true → s.rd Reg.FENCE_CTL_state 0 e.val = 2 → 32 ≤ e.val → e.val < 36 →
    s.reached (.selfTest e.val) = true →
    Completes (.selfTestDone e true) s fun t => t.rd Reg.FENCE_CTL_state 0 e.val = 0 ∧ t.ports = s.ports
      ∧ t.deadline (.selfTest e.val) = none)
  ∧ (∀ (s : State) (e : FenceElem) (p : Port), s.runs = true → s.rd Reg.FENCE_CTL_state 0 e.val = 2 → e.val = p.val →
    s.reached (.selfTest e.val) = true →
    Completes (.selfTestDone e true) s fun t => t.portState p = stDown ∧ t.rd Reg.FENCE_CTL_state 0 e.val = 0
      ∧ (t.port p).dpd.lineDriverCleared = true ∧ (t.port p).cal.fenced = true)
  ∧ (∀ (s : State) (e : FenceElem), s.runs = true → s.rd Reg.FENCE_CTL_state 0 e.val = 2 → e.val = 36 →
    Completes (.selfTestDone e true) s fun t => t.rd Reg.HMP_STATUS_interface = hmpWaiting
      ∧ t.rd Reg.FENCE_CTL_state 0 e.val = 0 ∧ t.deadline .laneSilent = some (s.now + 10000000000) ∧ t.ports = s.ports)
  ∧ (∀ (s : State) (e : FenceElem) (f : FaultReport) (c : Nat), s.runs = true → s.rd Reg.FENCE_CTL_state 0 e.val = 2 →
    s.reached (.selfTest e.val) = true → Store.get ⟨0, 0, 0, 0, 0⟩ s.faults.fencedBy e.val = f →
    catalogueSeverity f.cls f.code = some c → sourceOf f.cls f.code f.source = true →
    Completes (.selfTestDone e false) s fun t => t.rd Reg.FENCE_CTL_state 0 e.val = 1 ∧ t.ports = s.ports
      ∧ t.deadline (.selfTest e.val) = none ∧ t.faults = s.reported f.source f.cls f.code f.unit f.detail c)

/-- R491: a fault is escalated when the log of earlier cycles holds an unacknowledged fault of its class, real for a
real one, injected for an injected one; it is then logged one severity higher, though above STATION only where
FAULT_POLICY /01 is 1. -/
def Obligations.EscalationOneStep : Prop :=
  ∀ (s : State) (f : PendFault), f.severity ≤ svStation →
    (f.injected = false → catalogueSeverity f.report.cls f.report.code = some f.severity) →
    ((s.judge f).escalated = true ↔ ∃ l ∈ s.faults.logged, l.acked = false ∧ l.cls = f.report.cls ∧ l.injected = f.injected)
    ∧ ((s.judge f).escalated = false → (s.judge f).logged = f.severity)
    ∧ ((s.judge f).escalated = true →
        (s.judge f).logged = if s.flag Reg.FAULT_POLICY_reset then f.severity + 1 else min (f.severity + 1) svStation)

/-! ## Calibration (chapter 13) -/

/-- Runs and their agreement (R507 to R512, R515): a group of eight begins together, once the group before has ended;
a port takes a place of the line phase, at most eight at a time; two runs that agree give the mean, of a hybrid pair
the setting of the higher rejection, with source MEASURED; two that do not are followed by a third, which may agree
with either; three that do not leave the step suspect with a NOTICE, and without an accepted REFRES the first step is
suspect after two; a periodic pair is counted and stamped; an attempt on a line that is not quiet is discarded, and in
CAL the third leaves the default; a request of the hybrid step is noted. What is measured waits to take effect (R517).
Clauses of it rest on readings and choices of the model: log entries 150 to 156. -/
def Obligations.CalibrationRuns : Prop :=
  (∀ s : State, s.runs = true → s.rst.pllLocked = true → s.rd Reg.BOOT_STATE_state = 3 → s.rst.convGroup < 4 →
    s.rd Reg.CAL_REF_REFRES_state ≠ 0 →
    (∀ p : Port, 8 * s.rst.convGroup ≤ p.val ∨ (s.port p).cal.converterDone = true) →
    Completes .converterGroupStart s fun t => t.rst.convGroup = s.rst.convGroup + 1
      ∧ ∀ p : Port, p.val / 8 = s.rst.convGroup → s.portState p = stDown →
          (t.port p).cal.step = 1 ∧ (t.port p).cal.runBusy = true ∧ (t.port p).cal.runEnd = s.now + 20000000)
  ∧ (∀ (s : State) (p : Port), s.runs = true → s.stopped = false → s.inLinePhase < 8 → s.nextForLine = some p →
    Completes (.linePhaseStart p) s fun t => (t.port p).cal.placed = true
      ∧ t.rd Reg.LP_CAL_phase p = if (s.port p).cal.full then 2 else 3)
  ∧ (∀ (s : State) (p : Port) (a run : CalRun), s.runs = true → (s.port p).cal.runBusy = true →
    (s.port p).cal.runEnd ≤ s.now → (s.port p).cal.step = 1 → run.items.length = 4 → (s.port p).cal.runs = [a] →
    s.portState p = stCal → s.rd Reg.CAL_REF_REFRES_state ≠ 2 → runsAgree 1 a run = true →
    Completes (.calRunEnd p run) s fun t =>
      t.rd Reg.LP_CAL_CONV_ADC_offset p = roundDiv (a.item 0 + run.item 0) 2
      ∧ t.rd Reg.LP_CAL_CONV_ADC_gain p = roundDiv (a.item 1 + run.item 1) 2
      ∧ t.rd Reg.LP_CAL_converter_source p = calMeasured ∧ (t.port p).cal.step = 2 ∧ (t.port p).cal.runs = []
      ∧ (t.port p).cal.waiting = true ∧ bit (t.rdN Reg.LP_CAL_suspect p) 0 = false ∧ t.faults = s.faults)
  ∧ (∀ (s : State) (p : Port) (a b c run : CalRun), s.runs = true → (s.port p).cal.runBusy = true →
    (s.port p).cal.runEnd ≤ s.now → (s.port p).cal.step = 1 → run.items.length = 4 → (s.port p).cal.runs = [a, b] →
    s.portState p = stCal → (runsAgree 1 a run = true ∧ c = a ∨ runsAgree 1 a run = false ∧ runsAgree 1 b run = true ∧ c = b) →
    Completes (.calRunEnd p run) s fun t =>
      t.rd Reg.LP_CAL_CONV_DAC_offset p = roundDiv (c.item 2 + run.item 2) 2
      ∧ t.rd Reg.LP_CAL_CONV_DAC_gain p = roundDiv (c.item 3 + run.item 3) 2
      ∧ t.rd Reg.LP_CAL_converter_source p = calMeasured ∧ (t.port p).cal.step = 2 ∧ t.faults = s.faults)
  ∧ (∀ (s : State) (p : Port) (a run : CalRun), s.runs = true → (s.port p).cal.runBusy = true →
    (s.port p).cal.runEnd ≤ s.now → (s.port p).cal.step = 3 → run.items.length = 4 → (s.port p).cal.runs = [a] →
    runsAgree 3 a run = true →
    Completes (.calRunEnd p run) s fun t =>
      t.rd Reg.LP_HYBRID_rejection p = max (a.item 3) (run.item 3)
      ∧ (a.item 3 < run.item 3 → t.rd Reg.LP_HYBRID_setting p
          = run.item 0 % 256 * 65536 + run.item 1 % 256 * 256 + run.item 2 % 256)
      ∧ (run.item 3 ≤ a.item 3 → t.rd Reg.LP_HYBRID_setting p = a.item 0 % 256 * 65536 + a.item 1 % 256 * 256 + a.item 2 % 256)
      ∧ t.rd Reg.LP_HYBRID_source p = calMeasured ∧ (t.port p).cal.waiting = true)
  ∧ (∀ (s : State) (p : Port) (a run : CalRun), s.runs = true → (s.port p).cal.runBusy = true →
    (s.port p).cal.runEnd ≤ s.now → (s.port p).cal.step = 5 → run.items.length = 4 → (s.port p).cal.runs = [a] →
    runsAgree 5 a run = true →
    Completes (.calRunEnd p run) s fun t =>
      t.rd Reg.LP_CAL_CONV_ADC_gain p = roundDiv (a.item 1 + run.item 1) 2
      ∧ t.rd Reg.LP_CAL_PERIODIC p = (s.rd Reg.LP_CAL_PERIODIC p + 1) % 18446744073709551616
      ∧ t.rd Reg.LP_CAL_periodic_stamp p = s.now ∧ (t.port p).cal.step = 0 ∧ (t.port p).cal.due = false
      ∧ t.deadline (.recal p.val) = some (s.now + s.rd Reg.LP_CAL_CTL_interval p * 1000000000))
  ∧ (∀ (s : State) (p : Port) (a run : CalRun), s.runs = true → (s.port p).cal.runBusy = true →
    (s.port p).cal.runEnd ≤ s.now → (s.port p).cal.step = 1 → run.items.length = 4 → (s.port p).cal.runs = [a] →
    s.portState p = stCal → s.rd Reg.CAL_REF_REFRES_state ≠ 2 → runsAgree 1 a run = false →
    Completes (.calRunEnd p run) s fun t => (t.port p).cal.runs = [a, run] ∧ (t.port p).cal.step = 1
      ∧ t.rd Reg.LP_CAL_THIRD_RUNS p = (s.rd Reg.LP_CAL_THIRD_RUNS p + 1) % 18446744073709551616)
  ∧ (∀ (s : State) (p : Port) (a b run : CalRun), s.runs = true → (s.port p).cal.runBusy = true →
    (s.port p).cal.runEnd ≤ s.now → (s.port p).cal.step = 1 → run.items.length = 4 → (s.port p).cal.runs = [a, b] →
    s.portState p = stCal → runsAgree 1 a run = false → runsAgree 1 b run = false →
    Completes (.calRunEnd p run) s fun t => bit (t.rdN Reg.LP_CAL_suspect p) 0 = true ∧ (t.port p).cal.step = 2
      ∧ (s.rd Reg.LP_CAL_converter_source p ≠ calHost →
          t.rd Reg.LP_CAL_CONV_ADC_gain p = Reg.LP_CAL_CONV_ADC_gain.dfltAt 0 ∧ t.rd Reg.LP_CAL_converter_source p = calDefault)
      ∧ (s.rd Reg.LP_CAL_converter_source p = calHost →
          t.rd Reg.LP_CAL_CONV_ADC_gain p = s.rd Reg.LP_CAL_CONV_ADC_gain p ∧ t.rd Reg.LP_CAL_converter_source p = calHost)
      ∧ t.faults = s.reported (srcLine p) clsLine 0x08 p.val 1 1)
  ∧ (∀ (s : State) (p : Port) (a run : CalRun), s.runs = true → (s.port p).cal.runBusy = true →
    (s.port p).cal.runEnd ≤ s.now → (s.port p).cal.step = 1 → run.items.length = 4 → (s.port p).cal.runs = [a] →
    s.portState p = stCal → s.rd Reg.CAL_REF_REFRES_state = 2 →
    Completes (.calRunEnd p run) s fun t => bit (t.rdN Reg.LP_CAL_suspect p) 0 = true ∧ (t.port p).cal.step = 2
      ∧ t.faults = s.reported (srcLine p) clsLine 0x08 p.val 1 1)
  ∧ (∀ (s : State) (p : Port) (level : Option Int), s.runs = true → (s.port p).cal.runBusy = true →
    (s.port p).cal.step = 3 → (level.all fun v => decide (s.rd Reg.LP_CAL_CTL_quiet_level p < v)) = true →
    s.portState p ≠ stCal →
    Completes (.hybridRunNotQuiet p level) s fun t => (t.port p).cal.runs = [] ∧ (t.port p).cal.runBusy = false
      ∧ t.rd Reg.LP_CAL_postponements p = min 255 (s.rd Reg.LP_CAL_postponements p + 1)
      ∧ t.rd Reg.LP_CAL_POSTPONED p = (s.rd Reg.LP_CAL_POSTPONED p + 1) % 18446744073709551616
      ∧ (t.port p).cal.step = 0 ∧ (t.port p).cal.wantHybrid = (s.port p).cal.wantHybrid
      ∧ t.rd Reg.LP_HYBRID_setting p = s.rd Reg.LP_HYBRID_setting p)
  ∧ (∀ (s : State) (p : Port) (level : Option Int), s.runs = true → (s.port p).cal.runBusy = true →
    (s.port p).cal.step = 3 → (level.all fun v => decide (s.rd Reg.LP_CAL_CTL_quiet_level p < v)) = true → s.portState p = stCal →
    Completes (.hybridRunNotQuiet p level) s fun t => (t.port p).cal.runs = []
      ∧ t.rd Reg.LP_CAL_postponements p = min 255 (s.rd Reg.LP_CAL_postponements p + 1)
      ∧ t.rd Reg.LP_CAL_POSTPONED p = (s.rd Reg.LP_CAL_POSTPONED p + 1) % 18446744073709551616
      ∧ (s.rd Reg.LP_CAL_postponements p < 2 → (t.port p).cal.step = 3)
      ∧ (2 ≤ s.rd Reg.LP_CAL_postponements p → (t.port p).cal.step = 4 ∧ t.rd Reg.LP_CAL_phase p = 4
          ∧ (t.port p).cal.wantHybrid = true
          ∧ t.rd Reg.LP_HYBRID_setting p = Reg.LP_HYBRID_setting.dflt ∧ t.rd Reg.LP_HYBRID_source p = calDefault))
  ∧ (∀ (s : State) (p : Port), s.runs = true → s.rd Reg.LP_CAL_CTL_request p = 1 → (s.port p).cal.requested = false →
    exec (.hybridCalRequest p) s = .next (s.setCal p fun q => { q with requested := true }))

/-! ## The hamper (chapter 14) -/

/-- The hamper at work (R525, R532 to R537, R541, R545, R546): it starts from the save with the highest counter, with
the highest valid fuse set and CLOCK_INVALID; a sample closes the pulse counts into the volume, counts 2 s of
operating time, saves the registers and sends STATUS; a pulse is counted; the supply's loss stops it; the ROM is
checked. Requests to the hamper (R529, R539 to R541, R547, R549): a snapshot counts and goes out with the nonce, the
log goes out and nothing changes, an offer is decided and its result goes out; the billing never changes by a read.
The local port (R544, R551, Table 14.8): reads answer OK and change no register; a payload of the wrong length is
answered FORMAT; a sealed hamper answers SEALED to every command that would configure it; an unsealed one takes its
configuration, its clock and its fuse set, the lowest unused one, refuses a set that reads back differently or when
none is left, and seals itself when configuration, clock and a valid set stand. Clauses of it rest on readings and
choices of the model: log entries 5, 158 to 168. -/
def Obligations.HamperWorksAndAnswers : Prop :=
  (∀ (s : State) (href : Nat) (rom : RomCheck), s.hamper.powered = false →
    Completes (.hamperStart href rom) s fun t => t.hamper.powered = true ∧ t.hamper.clockInvalid = true
      ∧ t.hamper.calSet = s.hamper.chooseSet ∧ t.hamper.billing = (s.hamper.saves.head?.map (·.2)).getD {}
      ∧ t.hamper.clock = t.hamper.billing.clock ∧ t.hamper.romCrc = rom.found
      ∧ t.hamper.sealed = s.hamper.sealed ∧ t.hamper.config = s.hamper.config ∧ s.hamper.logHead < t.hamper.logHead)
  ∧ (∀ (s : State) (m : HamperMeas), s.hamper.powered = true →
    s.hamper.legal s.time.mono / 2000000000 ≠ s.hamper.sampleTime / 2000000000 →
    Completes (.hamperSample m) s fun t => t.hamper.pulses = (0, 0)
      ∧ t.hamper.sampleTime = s.hamper.legal s.time.mono ∧ t.hamper.saveCount = s.hamper.saveCount + 1
      ∧ t.hamper.billing.volume.1 = s.hamper.billing.volume.1 + s.hamper.pulses.1 * s.hamper.pulseValue 0
      ∧ t.hamper.billing.volume.2 = s.hamper.billing.volume.2 + s.hamper.pulses.2 * s.hamper.pulseValue 1
      ∧ (∃ b, t.hamper.saves.head? = some (s.hamper.saveCount + 1, b) ∧ b = t.hamper.billing)
      ∧ (s.hamper.billing.registers.length = 48 → ∀ p < 2, t.hamper.billing.reg p 2 = s.hamper.billing.reg p 2 + 2)
      ∧ ∃ b, t.out = .hamperLane 0x01 b :: s.out)
  ∧ (∀ (s : State) (p : Path), s.hamper.powered = true →
    Completes (.flowPulse p) s fun t => ofPath t.hamper.pulses p.val = ofPath s.hamper.pulses p.val + 1
      ∧ ofPath t.hamper.pulses (1 - p.val) = ofPath s.hamper.pulses (1 - p.val)
      ∧ t = { s with hamper := { s.hamper with pulses := t.hamper.pulses } })
  ∧ (∀ s : State, s.hamper.powered = true →
    exec .vhmpLoss s = .next { s with hamper := { s.hamper with powered := false, pulses := (0, 0) } })
  ∧ (∀ (s : State) (rom : RomCheck), s.hamper.powered = true → s.hamper.romAt + 86400000000000 ≤ s.time.mono →
    Completes (.romCheck rom) s fun t => t.hamper.romCrc = rom.found ∧ t.hamper.romAt = s.time.mono
      ∧ bit t.hamper.flags 11 = decide (rom.recorded ≠ rom.found)
      ∧ t.hamper.logHead = s.hamper.logHead + (if rom.recorded = rom.found then 0 else 1))
  ∧ (∀ (s : State) (frame b : Bytes), s.hamper.powered = true → framePayload frame 0x81 = some b → b.length = 8 →
    Completes (.readRegisters frame) s fun t => t.hamper.snapCount = (s.hamper.snapCount + 1) % 4294967296
      ∧ t.hamper = { s.hamper with snapCount := t.hamper.snapCount }
      ∧ ∃ x, t.out = .hamperLane 0x02 x :: s.out ∧ x.take 8 = be 8 s.hamper.id ∧ slice x 30 8 = b)
  ∧ (∀ (s : State) (frame b : Bytes), s.hamper.powered = true → framePayload frame 0x82 = some b → b.length = 5 →
    1 ≤ uAt b 4 1 → uAt b 4 1 ≤ 16 →
    Completes (.readLog frame) s fun t => t.hamper = s.hamper
      ∧ t.out = .hamperLane 0x03 (s.hamper.entries (uAt b 0 4) (uAt b 4 1)) :: s.out)
  ∧ (∀ (s : State) (frame b : Bytes), s.hamper.powered = true → framePayload frame 0x83 = some b → b.length = 10 →
    (ofTime80 b).isSome = true →
    Completes (.timeOffer frame) s fun t =>
      t.hamper = { (s.hamper.offer s.time.mono (stampOf b)).2.2 with offeredAt := some (s.time.mono / 1000000) }
      ∧ t.out = .hamperLane 0x04 (timeResult (s.hamper.offer s.time.mono (stampOf b)).1
          (s.hamper.offer s.time.mono (stampOf b)).2.1) :: s.out)
  ∧ (∀ (s : State) (frame : Bytes), s.hamper.powered = true → localPayload frame 0x01 = some [] →
    Completes (.localReadId frame) s fun t => t.hamper = s.hamper
      ∧ t.out = .localPort 0x81 lpOk (be 8 s.hamper.id ++ be 4 s.hamper.romCrc ++ be 1 (b2n s.hamper.sealed)
          ++ be 1 s.hamper.calSet ++ be 2 s.hamper.flagWord ++ s.hamper.config) :: s.out)
  ∧ (∀ (s : State) (frame b : Bytes), s.hamper.powered = true → localPayload frame 0x02 = some b → b.length = 8 →
    Completes (.localReadRegisters frame) s fun t => t.hamper.snapCount = (s.hamper.snapCount + 1) % 4294967296
      ∧ t.hamper = { s.hamper with snapCount := t.hamper.snapCount }
      ∧ ∃ x, t.out = .localPort 0x82 lpOk x :: s.out ∧ x.take 8 = be 8 s.hamper.id ∧ slice x 30 8 = b)
  ∧ (∀ (s : State) (frame b : Bytes), s.hamper.powered = true → localPayload frame 0x03 = some b → b.length = 5 →
    1 ≤ uAt b 4 1 → uAt b 4 1 ≤ 16 →
    Completes (.localReadLog frame) s fun t => t.hamper = s.hamper
      ∧ t.out = .localPort 0x83 lpOk (s.hamper.entries (uAt b 0 4) (uAt b 4 1)) :: s.out)
  ∧ (∀ (s : State) (frame b : Bytes), s.hamper.powered = true → localPayload frame 0x04 = some b → b.length = 10 →
    (ofTime80 b).isSome = true → s.hamper.offeredAt ≠ some (s.time.mono / 1000000) →
    Completes (.localTimeOffer frame) s fun t => t.hamper = (s.hamper.offer s.time.mono (stampOf b)).2.2
      ∧ t.out = .localPort 0x84 lpOk (timeResult (s.hamper.offer s.time.mono (stampOf b)).1
          (s.hamper.offer s.time.mono (stampOf b)).2.1) :: s.out)
  ∧ (∀ (s : State) (frame b readback : Bytes) (i : Instr) (cmd n : Nat), s.hamper.powered = true →
    s.hamper.sealed = false ∨ cmd < 16 → s.hamper.offeredAt ≠ some (s.time.mono / 1000000) →
    (i = .localReadId frame ∧ cmd = 1 ∧ n = 0 ∨ i = .localReadRegisters frame ∧ cmd = 2 ∧ n = 8
      ∨ i = .localReadLog frame ∧ cmd = 3 ∧ n = 5 ∨ i = .localTimeOffer frame ∧ cmd = 4 ∧ n = 10
      ∨ i = .writeConfig frame ∧ cmd = 0x10 ∧ n = 32 ∨ i = .programCal frame readback ∧ cmd = 0x11 ∧ n = 28
      ∨ i = .setClock frame ∧ cmd = 0x12 ∧ n = 10 ∨ i = .sealHamper frame ∧ cmd = 0x13 ∧ n = 4) →
    localPayload frame cmd = some b → b.length ≠ n →
    exec i s = .next (s.emit (.localPort (cmd + 0x80) lpFormat [])))
  ∧ (∀ (s : State) (frame b readback : Bytes) (i : Instr) (cmd : Nat), s.hamper.powered = true → s.hamper.sealed = true →
    (i = .writeConfig frame ∧ cmd = 0x10 ∨ i = .programCal frame readback ∧ cmd = 0x11 ∨ i = .setClock frame ∧ cmd = 0x12
      ∨ i = .sealHamper frame ∧ cmd = 0x13) → localPayload frame cmd = some b →
    Completes i s fun t => t.hamper = s.hamper ∧ t.out = .localPort (cmd + 0x80) lpSealed [] :: s.out)
  ∧ (∀ (s : State) (frame b : Bytes), s.hamper.powered = true → s.hamper.sealed = false →
    localPayload frame 0x10 = some b → configOk b = true →
    Completes (.writeConfig frame) s fun t => t.hamper.configured = true ∧ t.hamper.config = cleanConfig b
      ∧ t.hamper.logHead = s.hamper.logHead + 1 ∧ t.out = .localPort 0x90 lpOk [] :: s.out)
  ∧ (∀ (s : State) (frame b : Bytes) (i : Nat), s.hamper.powered = true → s.hamper.sealed = false →
    localPayload frame 0x11 = some b → b.length = 28 →
    (([0, 1, 2, 3] : List Nat).find? fun i => !(s.hamper.sets.getD i {}).used) = some i → s.hamper.sets.length = 4 →
    Completes (.programCal frame (b ++ be 4 (crc32 b))) s fun t => (t.hamper.sets.getD i {}).valid = true
      ∧ (t.hamper.sets.getD i {}).rows = b ∧ t.out = .localPort 0x91 lpOk (be 1 i) :: s.out)
  ∧ (∀ (s : State) (frame b readback : Bytes) (i : Nat), s.hamper.powered = true → s.hamper.sealed = false →
    localPayload frame 0x11 = some b → b.length = 28 → readback ≠ b ++ be 4 (crc32 b) →
    (([0, 1, 2, 3] : List Nat).find? fun i => !(s.hamper.sets.getD i {}).used) = some i → s.hamper.sets.length = 4 →
    Completes (.programCal frame readback) s fun t => (t.hamper.sets.getD i {}).valid = false
      ∧ (t.hamper.sets.getD i {}).used = true ∧ t.out = .localPort 0x91 lpReadback [] :: s.out)
  ∧ (∀ (s : State) (frame b readback : Bytes), s.hamper.powered = true → s.hamper.sealed = false →
    localPayload frame 0x11 = some b → b.length = 28 → (∀ i < 4, (s.hamper.sets.getD i {}).used = true) →
    exec (.programCal frame readback) s = .next (s.emit (.localPort 0x91 lpNoSet [])))
  ∧ (∀ (s : State) (frame b : Bytes), s.hamper.powered = true → s.hamper.sealed = false →
    localPayload frame 0x12 = some b → b.length = 10 → (ofTime80 b).isSome = true →
    Completes (.setClock frame) s fun t => t.hamper.clock = stampOf b ∧ t.hamper.clockAt = s.time.mono
      ∧ t.hamper.clockSet = true ∧ t.hamper.clockInvalid = false ∧ t.hamper.billing = s.hamper.billing
      ∧ t.hamper.logHead = s.hamper.logHead + 1 ∧ t.out = .localPort 0x92 lpOk [] :: s.out)
  ∧ (∀ (s : State) (frame b : Bytes), s.hamper.powered = true → s.hamper.sealed = false →
    localPayload frame 0x13 = some b → b.length = 4 →
    Completes (.sealHamper frame) s fun t =>
      (t.hamper.sealed = true ↔ (∃ c ∈ s.hamper.sets, c.valid = true) ∧ s.hamper.configured = true
        ∧ s.hamper.clockSet = true ∧ uAt b 0 4 = crc32 s.hamper.config)
      ∧ t.out = .localPort 0x93 (if t.hamper.sealed then lpOk else lpNotReady) [] :: s.out
      ∧ (t.hamper.sealed = false → t.hamper = s.hamper))

/-- R545: HMP_TAMPER_N low for 20 ms increments the tamper count, sets TAMPER_ACTIVE and logs TAMPER; high for 20 ms
it clears TAMPER_ACTIVE and logs TAMPER_END; sealed or not, and metering goes on. -/
def Obligations.TamperIsLogged : Prop :=
  (∀ s : State, s.hamper.powered = true → s.hamper.tampered = false →
    Completes .tamper s fun t => t.hamper.tamperCount = (s.hamper.tamperCount + 1) % 65536
      ∧ bit t.hamper.flagWord 6 = true ∧ t.hamper.logHead = s.hamper.logHead + 1
      ∧ (t.hamper.log.head?.map fun e => uAt e.2 10 2) = some 0x0010 ∧ t.hamper.sealed = s.hamper.sealed
      ∧ t.hamper.billing = s.hamper.billing ∧ t.hamper.pulses = s.hamper.pulses ∧ t.hamper.powered = true)
  ∧ (∀ s : State, s.hamper.powered = true → s.hamper.tampered = true →
    Completes .tamperEnd s fun t => t.hamper.tamperCount = s.hamper.tamperCount
      ∧ bit t.hamper.flagWord 6 = false ∧ t.hamper.logHead = s.hamper.logHead + 1
      ∧ (t.hamper.log.head?.map fun e => uAt e.2 10 2) = some 0x0011 ∧ t.hamper.sealed = s.hamper.sealed
      ∧ t.hamper.billing = s.hamper.billing ∧ t.hamper.pulses = s.hamper.pulses ∧ t.hamper.powered = true)

/-- R539 to R541: what an offer does to the legal clock of a sealed hamper: the first after a start sets it; an offset
below 10 ms leaves it; a larger one is applied while the steps of 24 h stay within 2 s, and refused and logged beyond;
an unsealed hamper takes none. Clauses of it rest on readings and choices of the model: log entries 161, 162. -/
def Obligations.OffersBounded : Prop :=
  (∀ (h : Hamper) (mono t : Stamp), h.sealed = false → (h.offer mono t).1 = 4 ∧ (h.offer mono t).2.2 = h)
  ∧ (∀ (h : Hamper) (mono t : Stamp), h.sealed = true → h.clockInvalid = true →
    (h.offer mono t).1 = 3 ∧ (h.offer mono t).2.2.clock = h.exact mono + (t - h.legal mono)
      ∧ (h.offer mono t).2.2.clockInvalid = false)
  ∧ (∀ (h : Hamper) (mono t : Stamp), h.sealed = true → h.clockInvalid = false → (t - h.legal mono).natAbs < 10000000 →
    (h.offer mono t).1 = 0 ∧ (h.offer mono t).2.2 = h)
  ∧ (∀ (h : Hamper) (mono t : Stamp), h.sealed = true → h.clockInvalid = false → 10000000 ≤ (t - h.legal mono).natAbs →
    h.used (h.legal mono) + (t - h.legal mono).natAbs ≤ 2000000000 →
    (h.offer mono t).1 = 1 ∧ (h.offer mono t).2.2.clock = h.exact mono + (t - h.legal mono)
      ∧ h.logHead < (h.offer mono t).2.2.logHead)
  ∧ (∀ (h : Hamper) (mono t : Stamp), h.sealed = true → h.clockInvalid = false → 10000000 ≤ (t - h.legal mono).natAbs →
    2000000000 < h.used (h.legal mono) + (t - h.legal mono).natAbs →
    (h.offer mono t).1 = 2 ∧ (h.offer mono t).2.2.clock = h.clock
          ∧ (h.offer mono t).2.2.logHead = h.logHead + 1)

/-- The interface (R549, R550, R554, Table 12.3): STATUS, snapshots, log entries and results are copied as they come,
entries the log has gained are requested, at most 16 at a time; a bad frame is counted and changes nothing else;
registers are polled every 10 s, station time offered each hour; a request without answer in 2 s and a lane silent for
10 s are faults. Clauses of it rest on readings and choices of the model: log entries 169 to 172. -/
def Obligations.HamperInterfaceCompletes : Prop :=
  (∀ (s : State) (frame b : Bytes), s.hmpHears = true → framePayload frame 0x01 = some b → b.length = 40 →
    Completes (.hmpStatusRx frame) s fun t => t.rd Reg.HMP_STATUS_interface = hmpReceiving
      ∧ t.rd Reg.HMP_STATUS_received = s.now ∧ t.rd Reg.HMP_STATUS_legal_time = stampOf b
      ∧ t.rd Reg.HMP_STATUS_flags = (uAt b 10 2 : Nat) ∧ t.rd Reg.HMP_STATUS_log_head = (uAt b 12 4 : Nat)
      ∧ t.rd Reg.HMP_ID_seal = (uAt b 20 1 : Nat)
      ∧ t.rd Reg.HMP_IF_FRAMES = (s.rd Reg.HMP_IF_FRAMES + 1) % 18446744073709551616
      ∧ t.deadline .laneSilent = some (s.now + 10000000000)
      ∧ (s.hmpMayRequest = true → s.hmp.haveTo < uAt b 12 4 → t.hmp.request = 0x82
          ∧ t.hmp.wantFrom = max (s.hmp.haveTo + 1) (uAt b 12 4 - 4095)
          ∧ t.hmp.wantTo = t.hmp.wantFrom + min 16 (uAt b 12 4 + 1 - t.hmp.wantFrom) - 1
          ∧ .hamperRequest 0x82 (be 4 t.hmp.wantFrom ++ be 1 (min 16 (uAt b 12 4 + 1 - t.hmp.wantFrom))) ∈ t.out))
  ∧ (∀ (s : State) (frame b : Bytes), s.hmpHears = true → framePayload frame 0x02 = some b → b.length = 456 →
    Completes (.hmpSnapshotRx frame) s fun t => t.rdB Reg.HMP_SNAPSHOT = b ∧ t.rd Reg.HMP_SNAPSHOT_received = s.now
      ∧ (∀ i < 48, t.rd Reg.HMP_REGISTERS 0 i = (uAt b (40 + 8 * i) 8 : Nat))
      ∧ t.rd Reg.HMP_ID_identity = (uAt b 0 8 : Nat) ∧ t.rd Reg.HMP_ID_firmware = (uAt b 8 4 : Nat)
      ∧ t.hmp.request ≠ 0x81)
  ∧ (∀ (s : State) (frame b : Bytes), s.hmpHears = true → framePayload frame 0x03 = some b → b.length = 16 →
    Completes (.hmpLogRx frame) s fun t => t.rdB Reg.HMP_LOG 0 (uAt b 0 4 % 4096) = b
      ∧ t.rd Reg.HMP_STATUS_interface = hmpReceiving
      ∧ (s.hmp.request = 0x82 → t.hmp.haveTo = s.hmp.wantTo))
  ∧ (∀ (s : State) (frame b : Bytes), s.hmpHears = true → framePayload frame 0x04 = some b → b.length = 8 →
    Completes (.hmpTimeResultRx frame) s fun t => t.rdB Reg.HMP_TIME_last = b ∧ t.hmp.request ≠ 0x83
      ∧ (uAt b 0 1 = 0 → t.rd Reg.HMP_TIME_AGREED = (s.rd Reg.HMP_TIME_AGREED + 1) % 18446744073709551616)
      ∧ (uAt b 0 1 ≠ 0 → t.rd Reg.HMP_TIME_AGREED = s.rd Reg.HMP_TIME_AGREED)
      ∧ (uAt b 0 1 = 1 ∨ uAt b 0 1 = 3 →
          t.rd Reg.HMP_TIME_ACCEPTED = (s.rd Reg.HMP_TIME_ACCEPTED + 1) % 18446744073709551616)
      ∧ (uAt b 0 1 ≠ 1 → uAt b 0 1 ≠ 3 → t.rd Reg.HMP_TIME_ACCEPTED = s.rd Reg.HMP_TIME_ACCEPTED)
      ∧ (uAt b 0 1 = 2 → t.rd Reg.HMP_TIME_REFUSED = (s.rd Reg.HMP_TIME_REFUSED + 1) % 18446744073709551616)
      ∧ (uAt b 0 1 ≠ 2 → t.rd Reg.HMP_TIME_REFUSED = s.rd Reg.HMP_TIME_REFUSED))
  ∧ (∀ (s : State) (frame : Bytes) (i : Instr), s.hmpHears = true →
    frame.length < 8 ∨ crc32 (frame.take (frame.length - 4)) ≠ uAt frame (frame.length - 4) 4 →
    (s.faults.laneErrors.filter fun x => decide (s.now - x < 1000000000)).length < 16 →
    (i = .hmpStatusRx frame ∨ i = .hmpSnapshotRx frame ∨ i = .hmpLogRx frame ∨ i = .hmpTimeResultRx frame) →
    Completes i s fun t =>
      t.rd Reg.HMP_IF_CRC_ERRORS = (s.rd Reg.HMP_IF_CRC_ERRORS + 1) % 18446744073709551616
      ∧ t.faults.pending = s.faults.pending ∧ t = { s with regs := t.regs, faults := t.faults })
  ∧ (∀ (s : State) (frame : Bytes), s.hmpHears = true → frame.length < 8 →
    16 ≤ (s.faults.laneErrors.filter fun x => decide (s.now - x < 1000000000)).length →
    Completes (.hmpStatusRx frame) s fun t =>
      t.faults = { s.reported srcHamper clsHamper 0x01 0xFF
          ((s.faults.laneErrors.filter fun x => decide (s.now - x < 1000000000)).length + 1) 2 with laneErrors := [] })
  ∧ (∀ s : State, s.hmpMayRequest = true → s.reached .hmpPoll = true →
    Completes .hmpPoll s fun t => t.hmp.request = 0x81 ∧ t.deadline .hmpPoll = some (s.now + 10000000000)
      ∧ t.deadline .hmpRequest = some (s.now + 2000000000)
      ∧ t.rd Reg.HMP_IF_REQUESTS = (s.rd Reg.HMP_IF_REQUESTS + 1) % 18446744073709551616
      ∧ ∃ n, t.out = .hamperRequest 0x81 n :: s.out ∧ n.length = 8)
  ∧ (∀ s : State, s.hmpMayRequest = true → s.rd Reg.TIME_QUALITY_state = tqLocked →
    s.rd Reg.HMP_STATUS_interface = hmpReceiving → s.rd Reg.HMP_ID_seal = 1 → s.now / 1000000000 % 3600 = 0 →
    s.now / 1000000000 / 3600 ≠ s.hmp.lastHour →
    Completes .hmpTimeOfferSend s fun t => t.out = .hamperRequest 0x83 (timeBytes s.now) :: s.out
      ∧ t.hmp.request = 0x83 ∧ t.hmp.lastHour = s.now / 1000000000 / 3600
      ∧ t.rd Reg.HMP_TIME_OFFERS = (s.rd Reg.HMP_TIME_OFFERS + 1) % 18446744073709551616)
  ∧ (∀ s : State, s.runs = true → s.hmp.request ≠ 0 → s.passed .hmpRequest = true →
    Completes .requestTimeout s fun t => t.hmp.request = 0 ∧ t.deadline .hmpRequest = none
      ∧ t.rd Reg.HMP_IF_TIMEOUTS = (s.rd Reg.HMP_IF_TIMEOUTS + 1) % 18446744073709551616
      ∧ t.faults = s.reported srcHamper clsHamper 0x03 0xFF s.hmp.request 1
      ∧ t = { s with regs := t.regs, hmp := t.hmp, timers := t.timers, faults := t.faults })
  ∧ (∀ s : State, s.hmpHears = true → s.passed .laneSilent = true →
    Completes .laneSilent s fun t => t.rd Reg.HMP_STATUS_interface = hmpSilent ∧ t.deadline .laneSilent = none
      ∧ t.faults = s.reported srcHamper clsHamper 0x02 0xFF 0 3)

/-- What the hamper's commands leave of the digital die: every object, its ports, queues, links, station time, fault
log, fuses, its interface and the stations. -/
def Obligations.HamperLeavesTheDie : Prop :=
  ∀ (i : Instr) (s t : State), hamperDie i = true → exec i s = .next t →
    t.regs = s.regs ∧ t.blobs = s.blobs ∧ t.time = s.time ∧ t.timers = s.timers ∧ t.merge = s.merge ∧ t.house = s.house
      ∧ t.ports = s.ports ∧ t.qm = s.qm ∧ t.pf = s.pf ∧ t.casc = s.casc ∧ t.iz = s.iz ∧ t.power = s.power
      ∧ t.faults = s.faults ∧ t.fuses = s.fuses ∧ t.rst = s.rst ∧ t.hmp = s.hmp ∧ t.stations = s.stations
      ∧ t.pending = s.pending

/-! ## Package, supplies, reset, life cycle (chapter 15) -/

/-- R10, R561, R564, R566, R568, R569, R473: PORST_N low for 10 µs, VIO below 1.55 V, a core rail below its threshold,
a reset request come due, a junction of 130 °C and a brown-out of the always-on regulator each are a cold reset that
names its cause: every object is at its default, and the fuses, the hamper and the stations stay. A shorter pulse, a
higher voltage or a cooler junction does nothing. Clauses of it rest on readings and choices of the model: log entries
3, 4, 174, 184. -/
def Obligations.ColdResetsNameTheirCause : Prop :=
  (∀ (s : State) (w : Nat), 10000 ≤ w → Completes (.porstN w) s (ColdReset s [0]))
  ∧ (∀ (s : State) (mv : Nat), mv < 1550 → s.heldBy holdVio = false → Completes (.vioLow mv) s (ColdReset s [0]))
  ∧ (∀ (s : State) (r : Rail) (mv limit : Nat), (r = .vcore ∧ limit = 800 ∨ r = .vddr ∧ limit = 950 ∨ r = .vafe ∧ limit = 1600) →
    mv < limit → s.power.mode ≠ pmOff → s.heldBy holdRails = false →
    Completes (.railUndervolt r mv) s (ColdReset s ([1] ++ be 1 r.code)))
  ∧ (∀ s : State, s.live = true → s.reached .hostReset = true → Completes .hostReset s (ColdReset s [6]))
  ∧ (∀ (s : State) (tj : Int), 1300 ≤ tj → s.heldBy holdJunction = false →
    Completes (.thermalTrip tj) s fun t => ColdReset s [7] t ∧ t.heldBy holdJunction = true ∧ t.power.junction = tj)
  ∧ (∀ s : State, s.live = true → s.power.lowPower = true → Completes .aoBrownout s (ColdReset s [2]))
  ∧ (∀ (s : State) (w mv limit : Nat) (tj : Int) (r : Rail) (i : Instr), w < 10000 → 1550 ≤ mv → tj < 1300 →
    (r.threshold = none ∨ r.threshold = some limit ∧ limit ≤ mv) →
    (i = .porstN w ∨ i = .vioLow mv ∨ i = .thermalTrip tj ∨ i = .railUndervolt r mv) → exec i s = .next s)

/-- Start-up (R577, R578, R581): the fuses load and the straps are sampled 5 ms after the release, in RETIRED every
key is destroyed; the DRAM wipe and the converter phase make the device READY, whichever ends last. Holds and supplies
(R560 to R562, R569, R574): a hold ends, and the start-up runs from there; a rail out of range is measured and
reported; VLD outside its limits stops every driver until it has returned; the junction is measured, and reported once
each time it passes 110 °C and 118 °C. Clauses of it rest on readings and choices of the model: log entries 173 to
178. -/
def Obligations.StartUpAndSuppliesComplete : Prop :=
  (∀ (s : State) (straps : Straps) (patch : PatchCheck), s.rst.hold ≤ holdShort → s.rst.ballsTaken = false →
    s.rd Reg.BOOT_STATE_state = 0 → s.rst.releasedAt + 5000000 ≤ s.now →
    Completes (.fuseLoadDone straps patch) s fun t => t.rd Reg.BOOT_STATE_state = 2 ∧ t.rst.straps = straps
      ∧ t.rst.hold = 0 ∧ t.rst.patchPresent = (patch.present && patch.crcOk)
      ∧ t.deadline .watchdog = some (s.now + 100000000)
      ∧ (straps.role.val = 2 → t.rd Reg.CASC_acting_role = rolePassive)
      ∧ (s.fuses.lifeCycle ≠ 3 → t.fuses = s.fuses)
      ∧ (s.fuses.lifeCycle = 3 → ∀ r, t.fuses.roleKey r = destroyedKey)
      ∧ (straps.role.val ≠ 3 → (patch.present && !patch.crcOk) = false → t.faults = s.faults))
  ∧ (∀ s : State, s.runs = true → s.rst.pllLocked = true → s.rst.dramWiped = false → s.rst.convDone = false →
    exec .dramWipeDone s = .next { s with rst := { s.rst with dramWiped := true } })
  ∧ (∀ s : State, s.runs = true → s.rst.pllLocked = true → s.rst.dramWiped = false → s.rst.convDone = true →
    s.rd Reg.BOOT_STATE_state = 3 →
    Completes .dramWipeDone s fun t => t.rst.dramWiped = true ∧ t.rd Reg.BOOT_STATE_state = 4
      ∧ t.rd Reg.BOOT_STATE_ready_time = (s.now - s.rst.releasedAt) / 1000000 % 65536)
  ∧ (∀ (s : State) (mv : Nat), 1550 ≤ mv → s.heldBy holdVio = true →
    Completes (.vioRestored mv) s fun t => t.heldBy holdVio = false ∧ t.rst.releasedAt = s.now ∧ t = { s with rst := t.rst })
  ∧ (∀ s : State, s.heldBy holdRails = true →
    Completes .railResetRelease s fun t => t.heldBy holdRails = false ∧ t.rst.releasedAt = s.now ∧ t = { s with rst := t.rst })
  ∧ (∀ (s : State) (r : Rail) (mv : Nat), s.monitors = true → r.inRange mv = false →
    Completes (.railOutOfRange r mv) s fun t => t.rd Reg.SUPPLY_MON_rails r.code = mv
      ∧ t.faults = s.reported srcPower clsPower 0x02 r.code mv 2 ∧ t = { s with regs := t.regs, faults := t.faults })
  ∧ (∀ (s : State) (mv : Nat), s.monitors = true → mv < 11000 ∨ 13200 < mv →
    Completes (.vldOutOfRange mv) s fun t => t.power.vldBad = true ∧ t.rd Reg.SUPPLY_MON_rails 4 = mv
      ∧ ∀ p : Port, t.mayTransmit p = false ∧ t.portState p = s.portState p ∧ (t.port p).dc.measuring = false
          ∧ (t.port p).txEnd ≤ s.now)
  ∧ (∀ (s : State) (mv : Nat), s.monitors = true → s.power.vldBad = true → 11400 ≤ mv → mv ≤ 12600 →
    Completes (.vldRestored mv) s fun t => t.power = { s.power with vldBad := false } ∧ t.rd Reg.SUPPLY_MON_rails 4 = mv
      ∧ t = { s with power := t.power, regs := t.regs })
  ∧ (∀ (s : State) (tj : Int), s.runs = true → s.heldBy holdJunction = false → s.power.junction ≤ 1180 → 1180 < tj →
    s.power.junction > 1100 →
    Completes (.junctionSample tj) s fun t => t.power.junction = tj ∧ t.rd Reg.SUPPLY_MON_junction = tj
      ∧ t.faults = s.reported srcPower clsPower 0x04 0xFF (tj / 10).toNat 4
      ∧ t = { s with regs := t.regs, power := t.power, faults := t.faults })
  ∧ (∀ (s : State) (tj : Int), s.runs = true → s.heldBy holdJunction = false → s.power.junction ≤ 1100 → 1100 < tj →
    tj ≤ 1180 →
    Completes (.junctionSample tj) s fun t => t.power.junction = tj ∧ t.rd Reg.SUPPLY_MON_junction = tj
      ∧ t.faults = s.reported srcPower clsPower 0x03 0xFF (tj / 10).toNat 1
      ∧ t = { s with regs := t.regs, power := t.power, faults := t.faults })
  ∧ (∀ (s : State) (tj : Int), s.runs = true → s.heldBy holdJunction = false → tj ≤ 1100 →
    Completes (.junctionSample tj) s fun t => t.power.junction = tj ∧ t.rd Reg.SUPPLY_MON_junction = tj
      ∧ t.faults = s.faults)
  ∧ (∀ (s : State) (tj : Int), s.heldBy holdJunction = true → tj < 1000 →
    Completes (.junctionSample tj) s fun t => t.heldBy holdJunction = false ∧ t.rst.releasedAt = s.now)

/-- R568: RESET_REQUEST with its key is answered OK and the device takes a cold reset of cause HOST 1 ms later; any
other value is refused with RANGE. -/
def Obligations.ResetRequestHonoured : Prop :=
  (∀ (s u : State) (r : IzReq) (x : Obj × Nat × List (Nat × Bytes)), s.takes r = true → writes r 0x1603 = true →
    s.admitReq r = .accepted u → u.checkWrite r = .ok x → uAt r.data 0 4 = 0xB007 →
    Completes (.resetRequest r) s fun t => t.deadline .hostReset = some (s.now + 1000000)
      ∧ t = (u.respond (r.answer stOk)).arm .hostReset (s.now + 1000000)
      ∧ ∃ y, Out.reply y ∈ t.out ∧ y.status = stOk ∧ y.tag = r.tag)
  ∧ (∀ (s u : State) (r : IzReq) (x : Obj × Nat × List (Nat × Bytes)), s.takes r = true → writes r 0x1603 = true →
    s.admitReq r = .accepted u → u.checkWrite r = .ok x → uAt r.data 0 4 ≠ 0xB007 →
    Completes (.resetRequest r) s fun t => t.deadline .hostReset = s.deadline .hostReset ∧ t = u.refuseWrite r stRange
      ∧ ∃ y, Out.reply y ∈ t.out ∧ y.status = stRange ∧ y.tag = r.tag)
  ∧ (∀ s : State, s.live = true → s.reached .hostReset = true →
    Completes .hostReset s fun t => t.rst.cause = [6] ∧ ColdReset s [6] t)

/-- Life cycle and keys (R579 to R582): a transition to SERVICE or RETIRED blows its fuses and resets the device;
KEY_LOAD shifts a key in; KEY_PROG makes a loaded key VALID when it reads back, FAILED when it does not, and its
status says why it did nothing; LC_ADVANCE needs the ENGINEER key. The TAP (R575, R576): an available instruction is
loaded, any other acts as BYPASS; while one that takes the balls is loaded the device does not run, and leaving it is
a cold reset of cause JTAG; IDCODE shifts the identification code out. Clauses of it rest on readings and choices of
the model: log entries 179 to 183, 211. -/
def Obligations.LifeCycleAndTapComplete : Prop :=
  (∀ s : State, s.runs = true → s.iz.active = none → s.fuses.lifeCycle < 2 → s.rd Reg.LC_STATE_request = 2 →
    Completes (.lcStateCommit true) s fun t => t.fuses.lifeCycle = 2 ∧ t.rst.cause = [5, 2] ∧ t.regs = []
      ∧ t.fuses.rws = s.fuses.rws ++ [⟨s.rdN Reg.JTAG_POLICY, s.rdB Reg.INSTALL_TAG,
          crc32 (be 1 (s.rdN Reg.JTAG_POLICY) ++ s.rdB Reg.INSTALL_TAG)⟩])
  ∧ (∀ s : State, s.runs = true → s.iz.active = none → s.fuses.lifeCycle < 2 → s.rd Reg.LC_STATE_request = 2 →
    Completes (.lcStateCommit false) s fun t => t.fuses.lifeCycle = s.fuses.lifeCycle ∧ t.regs = []
      ∧ t.rst.cause = [5] ++ be 1 s.fuses.lifeCycle ∧ t.fuses.rws.length = s.fuses.rws.length + 1)
  ∧ (∀ (s : State) (readback : Bool), s.runs = true → s.iz.active = none → s.fuses.lifeCycle < 3 →
    s.rd Reg.LC_STATE_request = 3 →
    Completes (.lcStateCommit readback) s fun t => t.fuses.lifeCycle = 3 ∧ t.rst.cause = [5, 3]
      ∧ ∀ r, t.fuses.roleKey r = destroyedKey)
  ∧ (∀ (s : State) (word : Nat), s.fuses.lifeCycle = 0 →
    Completes (.keyLoad word) s fun t => t.rst.keyWord = some (word % 2 ^ 264) ∧ t.rst.instruction = tapKeyLoad
      ∧ t.fuses = s.fuses)
  ∧ (∀ (s : State) (word : Nat), s.fuses.lifeCycle ≠ 0 → s.rst.ballsTaken = false →
    exec (.keyLoad word) s
      = .next (s.setRst fun r => { r with instruction := tapBypass, ballsTaken := false, ballsBy := 0 }))
  ∧ (∀ (s : State) (readback : Nat), s.fuses.lifeCycle = 0 →
    (s.rst.keyWord = none ∨ s.rst.keyWord.any (fun w => w / 2 ^ 256 == 0 || decide (3 < w / 2 ^ 256)) = true) →
    Completes (.keyProg readback) s fun t => t.fuses = s.fuses ∧ t.rst.tapStatus = 1)
  ∧ (∀ (s : State) (w readback : Nat), s.fuses.lifeCycle = 0 → s.rst.keyWord = some w → 1 ≤ w / 2 ^ 256 → w / 2 ^ 256 ≤ 3 →
    (s.fuses.roleKey (w / 2 ^ 256)).status = 0 → w % 2 ^ 256 = 0 →
    Completes (.keyProg readback) s fun t => t.fuses = s.fuses ∧ t.rst.tapStatus = 4)
  ∧ (∀ (s : State) (w readback role : Nat), s.fuses.lifeCycle = 0 → s.rst.keyWord = some w → w / 2 ^ 256 = role →
    1 ≤ role → role ≤ 3 → (s.fuses.roleKey role).status = 0 → w % 2 ^ 256 ≠ 0 →
    Completes (.keyProg readback) s fun t =>
      (t.fuses.roleKey role).status = (if readback = w % 2 ^ 256 then 1 else 2)
      ∧ (readback = w % 2 ^ 256 → (t.fuses.roleKey role).key = w % 2 ^ 256)
      ∧ t.rst.tapStatus = (if readback = w % 2 ^ 256 then 0 else 3) ∧ t.fuses.lifeCycle = 0
      ∧ t.out = .tdo t.rst.tapStatus 8 :: s.out)
  ∧ (∀ (s : State) (w readback : Nat), s.fuses.lifeCycle = 0 → s.rst.keyWord = some w → 1 ≤ w / 2 ^ 256 → w / 2 ^ 256 ≤ 3 →
    (s.fuses.roleKey (w / 2 ^ 256)).status ≠ 0 →
    Completes (.keyProg readback) s fun t => t.fuses = s.fuses ∧ t.rst.tapStatus = 2)
  ∧ (∀ (s : State) (readback : Nat), s.fuses.lifeCycle ≠ 0 →
    Completes (.keyProg readback) s fun t => t.fuses = s.fuses ∧ t.rst.tapStatus = 5)
  ∧ (∀ s : State, s.fuses.lifeCycle = 0 → s.fuses.engineer.status = 1 →
    Completes .lcAdvance s fun t => t.fuses = { s.fuses with lifeCycle := 1 } ∧ t.rst.cause = [5, 1] ∧ t.regs = [])
  ∧ (∀ s : State, s.fuses.engineer.status ≠ 1 ∨ s.fuses.lifeCycle ≠ 0 →
    Completes .lcAdvance s fun t => t.fuses = s.fuses
      ∧ (s.rst.ballsTaken = false → t.regs = s.regs ∧ t.blobs = s.blobs ∧ t.ports = s.ports))
  ∧ (∀ (i : Instr) (s : State) (code : Nat),
    (i = .extest ∧ code = tapExtest ∨ i = .samplePreload ∧ code = tapSample ∨ i = .extestPulse ∧ code = tapPulse
      ∨ i = .extestTrain ∧ code = tapTrain ∨ i = .highz ∧ code = tapHighz ∨ i = .clampBalls ∧ code = tapClamp
      ∨ i = .bypass ∧ code = tapBypass) →
    s.rst.ballsTaken = false → s.tapAvailable code = true →
    exec i s = .next (s.setRst fun r =>
      { r with instruction := code, ballsTaken := takesBalls code, ballsBy := if takesBalls code then code else 0 }))
  ∧ (∀ (i : Instr) (s : State) (code : Nat),
    (i = .extest ∧ code = tapExtest ∨ i = .samplePreload ∧ code = tapSample ∨ i = .extestPulse ∧ code = tapPulse
      ∨ i = .extestTrain ∧ code = tapTrain ∨ i = .highz ∧ code = tapHighz ∨ i = .clampBalls ∧ code = tapClamp
      ∨ i = .bypass ∧ code = tapBypass) →
    s.rst.ballsTaken = false → s.tapAvailable code = false →
    exec i s = .next (s.setRst fun r => { r with instruction := tapBypass, ballsTaken := false, ballsBy := 0 }))
  ∧ (∀ (i : Instr) (s : State) (code : Nat),
    (i = .extest ∧ code = tapExtest ∨ i = .samplePreload ∧ code = tapSample ∨ i = .extestPulse ∧ code = tapPulse
      ∨ i = .extestTrain ∧ code = tapTrain ∨ i = .highz ∧ code = tapHighz ∨ i = .clampBalls ∧ code = tapClamp
      ∨ i = .bypass ∧ code = tapBypass) →
    s.rst.ballsTaken = true → s.rst.instruction ≠ (if s.tapAvailable code then code else tapBypass) →
    Completes i s fun t => ColdReset s ([8] ++ be 1 s.rst.ballsBy) t
      ∧ t.rst.instruction = (if s.tapAvailable code then code else tapBypass)
      ∧ t.rst.ballsTaken = (s.tapAvailable code && takesBalls code))
  ∧ (∀ s : State, s.rst.ballsTaken = true → s.live = false ∧ s.runs = false ∧ s.steward = false)
  ∧ (∀ s : State, s.rst.ballsTaken = false →
    Completes .idcode s fun t => t.out = .tdo s.idcode 32 :: s.out ∧ t.rst.instruction = tapIdcode
      ∧ s.idcode % 2 = 1 ∧ s.idcode / 2 ^ 12 % 2 ^ 16 = 0x9160 ∧ s.idcode / 2 ^ 28 = s.fuses.dieRevision % 16
      ∧ t = { s with out := t.out, rst := t.rst })
  ∧ (∀ s : State, s.rst.ballsTaken = false →
    Completes .trstN s fun t => t.rst.instruction = tapIdcode ∧ t.rst.ballsTaken = false ∧ t = { s with rst := t.rst })
  ∧ (∀ s : State, s.rst.ballsTaken = true → s.rst.instruction ≠ tapIdcode →
    Completes .tapLeaveBalls s fun t => t.rst.ballsTaken = false ∧ t.rst.instruction = tapIdcode
      ∧ ColdReset s ([8] ++ be 1 s.rst.ballsBy) t)
end

