-- ==== Sys2Proof/Laws/Crypto.lean ====
section
/-! SUPPORT. Lengths of encoded numbers, digests and protected texts. -/

namespace Sys2Proof.Machine

@[simp] theorem length_be (n v : Nat) : (be n v).length = n := by
  induction n with
  | zero => rfl
  | succ n ih => simp [be, ih]

@[simp] theorem length_sha256 (m : Bytes) : (sha256 m).length = 32 := by simp [sha256]

@[simp] theorem length_hmacSha256 (key m : Bytes) : (hmacSha256 key m).length = 32 := by simp [hmacSha256]

@[simp] theorem length_xorBytes (a b : Bytes) : (xorBytes a b).length = min a.length b.length := by simp [xorBytes]

@[simp] theorem length_aesMix (s : Bytes) : (aesMix s).length = 16 := by simp [aesMix]

@[simp] theorem length_aesShift (s : Bytes) : (aesShift s).length = 16 := by simp [aesShift]

/-- Adding one string twice to another that it covers gives it back. -/
theorem xorBytes_cancel (a b : Bytes) (h : a.length ≤ b.length) : xorBytes (xorBytes a b) b = a := by
  induction a generalizing b with
  | nil => simp [xorBytes]
  | cons x a ih =>
    cases b with
    | nil => simp at h
    | cons y b =>
      have : (x ^^^ y) ^^^ y = x := by rw [BitVec.xor_assoc, BitVec.xor_self, BitVec.xor_zero]
      simpa [xorBytes, this] using ih b (by simpa using h)

end Sys2Proof.Machine
end

