-- ==== Sys2Proof/Laws/Store.lean ====
section
/-! SUPPORT. Laws of the sparse stores: what is read after a write, and that a write keeps the canonical form. -/

namespace Sys2Proof.Machine

variable {β : Type}

theorem Store.get_filter_other (d : β) (l : List (Nat × β)) {k j : Nat} (h : j ≠ k) :
    Store.get d (l.filter fun e => decide (e.1 ≠ k)) j = Store.get d l j := by
  induction l with
  | nil => rfl
  | cons e l ih =>
    by_cases hk : e.1 = k
    · have : j ≠ e.1 := fun hj => h (hj.trans hk)
      rw [List.filter_cons_of_neg (by simp [hk]), ih, Store.get, if_neg this]
    · rw [List.filter_cons_of_pos (by simp [hk]), Store.get, Store.get, ih]

theorem Store.get_filter_same (d : β) (l : List (Nat × β)) (k : Nat) :
    Store.get d (l.filter fun e => decide (e.1 ≠ k)) k = d := by
  induction l with
  | nil => rfl
  | cons e l ih =>
    by_cases hk : e.1 = k
    · rw [List.filter_cons_of_neg (by simp [hk]), ih]
    · rw [List.filter_cons_of_pos (by simp [hk]), Store.get, if_neg (fun h => hk h.symm), ih]

theorem Store.get_place_other (d : β) (l : List (Nat × β)) {k j : Nat} (v : β) (h : j ≠ k) :
    Store.get d (Store.place k v l) j = Store.get d l j := by
  induction l with
  | nil => simp [Store.place, Store.get, h]
  | cons e l ih =>
    unfold Store.place
    split
    · simp [Store.get, h]
    · simp [Store.get, ih]

theorem Store.get_place_same (d : β) (l : List (Nat × β)) (k : Nat) (v : β) (h : ∀ e ∈ l, e.1 ≠ k) :
    Store.get d (Store.place k v l) k = v := by
  induction l with
  | nil => simp [Store.place, Store.get]
  | cons e l ih =>
    have he : k ≠ e.1 := fun hk => h e List.mem_cons_self hk.symm
    unfold Store.place
    split
    · simp [Store.get]
    · simp [Store.get, he, ih fun x hx => h x (List.mem_cons_of_mem _ hx)]

/-- Reading a store where it was written gives what was written. -/
@[simp] theorem Store.get_put_same [DecidableEq β] (d : β) (l : List (Nat × β)) (k : Nat) (v : β) :
    Store.get d (Store.put d l k v) k = v := by
  unfold Store.put
  dsimp only
  split
  · rename_i h
    rw [Store.get_filter_same, h]
  · exact Store.get_place_same d _ k v fun e he => by simpa using (List.mem_filter.mp he).2

/-- Reading a store elsewhere gives what was there. -/
theorem Store.get_put_other [DecidableEq β] (d : β) (l : List (Nat × β)) {k j : Nat} (v : β) (h : j ≠ k) :
    Store.get d (Store.put d l k v) j = Store.get d l j := by
  unfold Store.put
  dsimp only
  split
  · exact Store.get_filter_other d l h
  · rw [Store.get_place_other d _ v h, Store.get_filter_other d l h]

theorem Store.place_mem {k : Nat} {v : β} {l : List (Nat × β)} {e : Nat × β} :
    e ∈ Store.place k v l ↔ e = (k, v) ∨ e ∈ l := by
  induction l with
  | nil => simp [Store.place]
  | cons x l ih =>
    unfold Store.place
    split
    · simp
    · simp only [List.mem_cons, ih]; tauto

theorem Store.place_sorted {k : Nat} {v : β} {l : List (Nat × β)} (h : l.Pairwise fun a b => a.1 < b.1)
    (hk : ∀ e ∈ l, e.1 ≠ k) : (Store.place k v l).Pairwise fun a b => a.1 < b.1 := by
  induction l with
  | nil => simp [Store.place]
  | cons x l ih =>
    have hx := List.pairwise_cons.mp h
    unfold Store.place
    split
    · rename_i hlt
      refine List.pairwise_cons.mpr ⟨fun e he => ?_, h⟩
      rcases List.mem_cons.mp he with rfl | he
      · exact hlt
      · exact lt_trans hlt (hx.1 e he)
    · rename_i hge
      refine List.pairwise_cons.mpr ⟨fun e he => ?_, ih hx.2 fun e he => hk e (List.mem_cons_of_mem _ he)⟩
      rcases Store.place_mem.mp he with rfl | he
      · exact lt_of_le_of_ne (not_lt.mp hge) (hk x List.mem_cons_self)
      · exact hx.1 e he

/-- A write keeps the canonical form of a store. -/
theorem Store.put_wf [DecidableEq β] (d : β) (l : List (Nat × β)) (k : Nat) (v : β) (h : Store.wf d l = true) :
    Store.wf d (Store.put d l k v) = true := by
  simp only [Store.wf, Bool.and_eq_true, decide_eq_true_eq, List.all_eq_true] at h ⊢
  obtain ⟨hs, hd⟩ := h
  have hs' := hs.sublist (List.filter_sublist (p := fun e : Nat × β => decide (e.1 ≠ k)))
  have hd' : ∀ e ∈ l.filter fun e => decide (e.1 ≠ k), e.2 ≠ d := fun e he => hd e (List.mem_filter.mp he).1
  unfold Store.put
  dsimp only
  split
  · exact ⟨hs', hd'⟩
  · rename_i hv
    refine ⟨Store.place_sorted hs' fun e he => by simpa using (List.mem_filter.mp he).2, fun e he => ?_⟩
    rcases Store.place_mem.mp he with rfl | he
    · exact hv
    · exact hd' e he

end Sys2Proof.Machine
end

