-- ==== Sys2Proof/Laws/State.lean ====
section
/-! SUPPORT. What each named operation over the state leaves alone, field by field, and what is read after it. -/

namespace Sys2Proof.Machine

variable (s : State)

/-! ## wr -/

@[simp] theorem State.wr_pending (o : Obj) (p e : Nat) (v : Int) : (s.wr o p e v).pending = s.pending := (rfl)
@[simp] theorem State.wr_blobs (o : Obj) (p e : Nat) (v : Int) : (s.wr o p e v).blobs = s.blobs := (rfl)
@[simp] theorem State.wr_time (o : Obj) (p e : Nat) (v : Int) : (s.wr o p e v).time = s.time := (rfl)
@[simp] theorem State.wr_timers (o : Obj) (p e : Nat) (v : Int) : (s.wr o p e v).timers = s.timers := (rfl)
@[simp] theorem State.wr_merge (o : Obj) (p e : Nat) (v : Int) : (s.wr o p e v).merge = s.merge := (rfl)
@[simp] theorem State.wr_house (o : Obj) (p e : Nat) (v : Int) : (s.wr o p e v).house = s.house := (rfl)
@[simp] theorem State.wr_ports (o : Obj) (p e : Nat) (v : Int) : (s.wr o p e v).ports = s.ports := (rfl)
@[simp] theorem State.wr_qm (o : Obj) (p e : Nat) (v : Int) : (s.wr o p e v).qm = s.qm := (rfl)
@[simp] theorem State.wr_pf (o : Obj) (p e : Nat) (v : Int) : (s.wr o p e v).pf = s.pf := (rfl)
@[simp] theorem State.wr_casc (o : Obj) (p e : Nat) (v : Int) : (s.wr o p e v).casc = s.casc := (rfl)
@[simp] theorem State.wr_iz (o : Obj) (p e : Nat) (v : Int) : (s.wr o p e v).iz = s.iz := (rfl)
@[simp] theorem State.wr_power (o : Obj) (p e : Nat) (v : Int) : (s.wr o p e v).power = s.power := (rfl)
@[simp] theorem State.wr_faults (o : Obj) (p e : Nat) (v : Int) : (s.wr o p e v).faults = s.faults := (rfl)
@[simp] theorem State.wr_fuses (o : Obj) (p e : Nat) (v : Int) : (s.wr o p e v).fuses = s.fuses := (rfl)
@[simp] theorem State.wr_rst (o : Obj) (p e : Nat) (v : Int) : (s.wr o p e v).rst = s.rst := (rfl)
@[simp] theorem State.wr_hamper (o : Obj) (p e : Nat) (v : Int) : (s.wr o p e v).hamper = s.hamper := (rfl)
@[simp] theorem State.wr_hmp (o : Obj) (p e : Nat) (v : Int) : (s.wr o p e v).hmp = s.hmp := (rfl)
@[simp] theorem State.wr_stations (o : Obj) (p e : Nat) (v : Int) : (s.wr o p e v).stations = s.stations := (rfl)
@[simp] theorem State.wr_out (o : Obj) (p e : Nat) (v : Int) : (s.wr o p e v).out = s.out := (rfl)
@[simp] theorem State.wr_freeCount (o : Obj) (p e : Nat) (v : Int) : (s.wr o p e v).freeCount = s.freeCount := (rfl)

/-! ## wrB -/

@[simp] theorem State.wrB_pending (o : Obj) (p e : Nat) (v : Bytes) : (s.wrB o p e v).pending = s.pending := (rfl)
@[simp] theorem State.wrB_regs (o : Obj) (p e : Nat) (v : Bytes) : (s.wrB o p e v).regs = s.regs := (rfl)
@[simp] theorem State.wrB_time (o : Obj) (p e : Nat) (v : Bytes) : (s.wrB o p e v).time = s.time := (rfl)
@[simp] theorem State.wrB_timers (o : Obj) (p e : Nat) (v : Bytes) : (s.wrB o p e v).timers = s.timers := (rfl)
@[simp] theorem State.wrB_merge (o : Obj) (p e : Nat) (v : Bytes) : (s.wrB o p e v).merge = s.merge := (rfl)
@[simp] theorem State.wrB_house (o : Obj) (p e : Nat) (v : Bytes) : (s.wrB o p e v).house = s.house := (rfl)
@[simp] theorem State.wrB_ports (o : Obj) (p e : Nat) (v : Bytes) : (s.wrB o p e v).ports = s.ports := (rfl)
@[simp] theorem State.wrB_qm (o : Obj) (p e : Nat) (v : Bytes) : (s.wrB o p e v).qm = s.qm := (rfl)
@[simp] theorem State.wrB_pf (o : Obj) (p e : Nat) (v : Bytes) : (s.wrB o p e v).pf = s.pf := (rfl)
@[simp] theorem State.wrB_casc (o : Obj) (p e : Nat) (v : Bytes) : (s.wrB o p e v).casc = s.casc := (rfl)
@[simp] theorem State.wrB_iz (o : Obj) (p e : Nat) (v : Bytes) : (s.wrB o p e v).iz = s.iz := (rfl)
@[simp] theorem State.wrB_power (o : Obj) (p e : Nat) (v : Bytes) : (s.wrB o p e v).power = s.power := (rfl)
@[simp] theorem State.wrB_faults (o : Obj) (p e : Nat) (v : Bytes) : (s.wrB o p e v).faults = s.faults := (rfl)
@[simp] theorem State.wrB_fuses (o : Obj) (p e : Nat) (v : Bytes) : (s.wrB o p e v).fuses = s.fuses := (rfl)
@[simp] theorem State.wrB_rst (o : Obj) (p e : Nat) (v : Bytes) : (s.wrB o p e v).rst = s.rst := (rfl)
@[simp] theorem State.wrB_hamper (o : Obj) (p e : Nat) (v : Bytes) : (s.wrB o p e v).hamper = s.hamper := (rfl)
@[simp] theorem State.wrB_hmp (o : Obj) (p e : Nat) (v : Bytes) : (s.wrB o p e v).hmp = s.hmp := (rfl)
@[simp] theorem State.wrB_stations (o : Obj) (p e : Nat) (v : Bytes) : (s.wrB o p e v).stations = s.stations := (rfl)
@[simp] theorem State.wrB_out (o : Obj) (p e : Nat) (v : Bytes) : (s.wrB o p e v).out = s.out := (rfl)
@[simp] theorem State.wrB_freeCount (o : Obj) (p e : Nat) (v : Bytes) : (s.wrB o p e v).freeCount = s.freeCount := (rfl)

/-! ## inc -/

@[simp] theorem State.inc_pending (o : Obj) (p e : Nat) (n : Int) : (s.inc o p e n).pending = s.pending := (rfl)
@[simp] theorem State.inc_blobs (o : Obj) (p e : Nat) (n : Int) : (s.inc o p e n).blobs = s.blobs := (rfl)
@[simp] theorem State.inc_time (o : Obj) (p e : Nat) (n : Int) : (s.inc o p e n).time = s.time := (rfl)
@[simp] theorem State.inc_timers (o : Obj) (p e : Nat) (n : Int) : (s.inc o p e n).timers = s.timers := (rfl)
@[simp] theorem State.inc_merge (o : Obj) (p e : Nat) (n : Int) : (s.inc o p e n).merge = s.merge := (rfl)
@[simp] theorem State.inc_house (o : Obj) (p e : Nat) (n : Int) : (s.inc o p e n).house = s.house := (rfl)
@[simp] theorem State.inc_ports (o : Obj) (p e : Nat) (n : Int) : (s.inc o p e n).ports = s.ports := (rfl)
@[simp] theorem State.inc_qm (o : Obj) (p e : Nat) (n : Int) : (s.inc o p e n).qm = s.qm := (rfl)
@[simp] theorem State.inc_pf (o : Obj) (p e : Nat) (n : Int) : (s.inc o p e n).pf = s.pf := (rfl)
@[simp] theorem State.inc_casc (o : Obj) (p e : Nat) (n : Int) : (s.inc o p e n).casc = s.casc := (rfl)
@[simp] theorem State.inc_iz (o : Obj) (p e : Nat) (n : Int) : (s.inc o p e n).iz = s.iz := (rfl)
@[simp] theorem State.inc_power (o : Obj) (p e : Nat) (n : Int) : (s.inc o p e n).power = s.power := (rfl)
@[simp] theorem State.inc_faults (o : Obj) (p e : Nat) (n : Int) : (s.inc o p e n).faults = s.faults := (rfl)
@[simp] theorem State.inc_fuses (o : Obj) (p e : Nat) (n : Int) : (s.inc o p e n).fuses = s.fuses := (rfl)
@[simp] theorem State.inc_rst (o : Obj) (p e : Nat) (n : Int) : (s.inc o p e n).rst = s.rst := (rfl)
@[simp] theorem State.inc_hamper (o : Obj) (p e : Nat) (n : Int) : (s.inc o p e n).hamper = s.hamper := (rfl)
@[simp] theorem State.inc_hmp (o : Obj) (p e : Nat) (n : Int) : (s.inc o p e n).hmp = s.hmp := (rfl)
@[simp] theorem State.inc_stations (o : Obj) (p e : Nat) (n : Int) : (s.inc o p e n).stations = s.stations := (rfl)
@[simp] theorem State.inc_out (o : Obj) (p e : Nat) (n : Int) : (s.inc o p e n).out = s.out := (rfl)
@[simp] theorem State.inc_freeCount (o : Obj) (p e : Nat) (n : Int) : (s.inc o p e n).freeCount = s.freeCount := (rfl)

/-! ## arm -/

@[simp] theorem State.arm_pending (t : Timer) (d : Stamp) : (s.arm t d).pending = s.pending := (rfl)
@[simp] theorem State.arm_regs (t : Timer) (d : Stamp) : (s.arm t d).regs = s.regs := (rfl)
@[simp] theorem State.arm_blobs (t : Timer) (d : Stamp) : (s.arm t d).blobs = s.blobs := (rfl)
@[simp] theorem State.arm_time (t : Timer) (d : Stamp) : (s.arm t d).time = s.time := (rfl)
@[simp] theorem State.arm_merge (t : Timer) (d : Stamp) : (s.arm t d).merge = s.merge := (rfl)
@[simp] theorem State.arm_house (t : Timer) (d : Stamp) : (s.arm t d).house = s.house := (rfl)
@[simp] theorem State.arm_ports (t : Timer) (d : Stamp) : (s.arm t d).ports = s.ports := (rfl)
@[simp] theorem State.arm_qm (t : Timer) (d : Stamp) : (s.arm t d).qm = s.qm := (rfl)
@[simp] theorem State.arm_pf (t : Timer) (d : Stamp) : (s.arm t d).pf = s.pf := (rfl)
@[simp] theorem State.arm_casc (t : Timer) (d : Stamp) : (s.arm t d).casc = s.casc := (rfl)
@[simp] theorem State.arm_iz (t : Timer) (d : Stamp) : (s.arm t d).iz = s.iz := (rfl)
@[simp] theorem State.arm_power (t : Timer) (d : Stamp) : (s.arm t d).power = s.power := (rfl)
@[simp] theorem State.arm_faults (t : Timer) (d : Stamp) : (s.arm t d).faults = s.faults := (rfl)
@[simp] theorem State.arm_fuses (t : Timer) (d : Stamp) : (s.arm t d).fuses = s.fuses := (rfl)
@[simp] theorem State.arm_rst (t : Timer) (d : Stamp) : (s.arm t d).rst = s.rst := (rfl)
@[simp] theorem State.arm_hamper (t : Timer) (d : Stamp) : (s.arm t d).hamper = s.hamper := (rfl)
@[simp] theorem State.arm_hmp (t : Timer) (d : Stamp) : (s.arm t d).hmp = s.hmp := (rfl)
@[simp] theorem State.arm_stations (t : Timer) (d : Stamp) : (s.arm t d).stations = s.stations := (rfl)
@[simp] theorem State.arm_out (t : Timer) (d : Stamp) : (s.arm t d).out = s.out := (rfl)
@[simp] theorem State.arm_freeCount (t : Timer) (d : Stamp) : (s.arm t d).freeCount = s.freeCount := (rfl)

/-! ## disarm -/

@[simp] theorem State.disarm_pending (t : Timer) : (s.disarm t).pending = s.pending := (rfl)
@[simp] theorem State.disarm_regs (t : Timer) : (s.disarm t).regs = s.regs := (rfl)
@[simp] theorem State.disarm_blobs (t : Timer) : (s.disarm t).blobs = s.blobs := (rfl)
@[simp] theorem State.disarm_time (t : Timer) : (s.disarm t).time = s.time := (rfl)
@[simp] theorem State.disarm_merge (t : Timer) : (s.disarm t).merge = s.merge := (rfl)
@[simp] theorem State.disarm_house (t : Timer) : (s.disarm t).house = s.house := (rfl)
@[simp] theorem State.disarm_ports (t : Timer) : (s.disarm t).ports = s.ports := (rfl)
@[simp] theorem State.disarm_qm (t : Timer) : (s.disarm t).qm = s.qm := (rfl)
@[simp] theorem State.disarm_pf (t : Timer) : (s.disarm t).pf = s.pf := (rfl)
@[simp] theorem State.disarm_casc (t : Timer) : (s.disarm t).casc = s.casc := (rfl)
@[simp] theorem State.disarm_iz (t : Timer) : (s.disarm t).iz = s.iz := (rfl)
@[simp] theorem State.disarm_power (t : Timer) : (s.disarm t).power = s.power := (rfl)
@[simp] theorem State.disarm_faults (t : Timer) : (s.disarm t).faults = s.faults := (rfl)
@[simp] theorem State.disarm_fuses (t : Timer) : (s.disarm t).fuses = s.fuses := (rfl)
@[simp] theorem State.disarm_rst (t : Timer) : (s.disarm t).rst = s.rst := (rfl)
@[simp] theorem State.disarm_hamper (t : Timer) : (s.disarm t).hamper = s.hamper := (rfl)
@[simp] theorem State.disarm_hmp (t : Timer) : (s.disarm t).hmp = s.hmp := (rfl)
@[simp] theorem State.disarm_stations (t : Timer) : (s.disarm t).stations = s.stations := (rfl)
@[simp] theorem State.disarm_out (t : Timer) : (s.disarm t).out = s.out := (rfl)
@[simp] theorem State.disarm_freeCount (t : Timer) : (s.disarm t).freeCount = s.freeCount := (rfl)

/-! ## setPort -/

@[simp] theorem State.setPort_pending (p : Port) (f : PortState → PortState) : (s.setPort p f).pending = s.pending := (rfl)
@[simp] theorem State.setPort_regs (p : Port) (f : PortState → PortState) : (s.setPort p f).regs = s.regs := (rfl)
@[simp] theorem State.setPort_blobs (p : Port) (f : PortState → PortState) : (s.setPort p f).blobs = s.blobs := (rfl)
@[simp] theorem State.setPort_time (p : Port) (f : PortState → PortState) : (s.setPort p f).time = s.time := (rfl)
@[simp] theorem State.setPort_timers (p : Port) (f : PortState → PortState) : (s.setPort p f).timers = s.timers := (rfl)
@[simp] theorem State.setPort_merge (p : Port) (f : PortState → PortState) : (s.setPort p f).merge = s.merge := (rfl)
@[simp] theorem State.setPort_house (p : Port) (f : PortState → PortState) : (s.setPort p f).house = s.house := (rfl)
@[simp] theorem State.setPort_qm (p : Port) (f : PortState → PortState) : (s.setPort p f).qm = s.qm := (rfl)
@[simp] theorem State.setPort_pf (p : Port) (f : PortState → PortState) : (s.setPort p f).pf = s.pf := (rfl)
@[simp] theorem State.setPort_casc (p : Port) (f : PortState → PortState) : (s.setPort p f).casc = s.casc := (rfl)
@[simp] theorem State.setPort_iz (p : Port) (f : PortState → PortState) : (s.setPort p f).iz = s.iz := (rfl)
@[simp] theorem State.setPort_power (p : Port) (f : PortState → PortState) : (s.setPort p f).power = s.power := (rfl)
@[simp] theorem State.setPort_faults (p : Port) (f : PortState → PortState) : (s.setPort p f).faults = s.faults := (rfl)
@[simp] theorem State.setPort_fuses (p : Port) (f : PortState → PortState) : (s.setPort p f).fuses = s.fuses := (rfl)
@[simp] theorem State.setPort_rst (p : Port) (f : PortState → PortState) : (s.setPort p f).rst = s.rst := (rfl)
@[simp] theorem State.setPort_hamper (p : Port) (f : PortState → PortState) : (s.setPort p f).hamper = s.hamper := (rfl)
@[simp] theorem State.setPort_hmp (p : Port) (f : PortState → PortState) : (s.setPort p f).hmp = s.hmp := (rfl)
@[simp] theorem State.setPort_stations (p : Port) (f : PortState → PortState) : (s.setPort p f).stations = s.stations := (rfl)
@[simp] theorem State.setPort_out (p : Port) (f : PortState → PortState) : (s.setPort p f).out = s.out := (rfl)
@[simp] theorem State.setPort_freeCount (p : Port) (f : PortState → PortState) : (s.setPort p f).freeCount = s.freeCount := (rfl)

/-! ## setEc -/

@[simp] theorem State.setEc_pending (p : Port) (f : EcState → EcState) : (s.setEc p f).pending = s.pending := (rfl)
@[simp] theorem State.setEc_regs (p : Port) (f : EcState → EcState) : (s.setEc p f).regs = s.regs := (rfl)
@[simp] theorem State.setEc_blobs (p : Port) (f : EcState → EcState) : (s.setEc p f).blobs = s.blobs := (rfl)
@[simp] theorem State.setEc_time (p : Port) (f : EcState → EcState) : (s.setEc p f).time = s.time := (rfl)
@[simp] theorem State.setEc_timers (p : Port) (f : EcState → EcState) : (s.setEc p f).timers = s.timers := (rfl)
@[simp] theorem State.setEc_merge (p : Port) (f : EcState → EcState) : (s.setEc p f).merge = s.merge := (rfl)
@[simp] theorem State.setEc_house (p : Port) (f : EcState → EcState) : (s.setEc p f).house = s.house := (rfl)
@[simp] theorem State.setEc_qm (p : Port) (f : EcState → EcState) : (s.setEc p f).qm = s.qm := (rfl)
@[simp] theorem State.setEc_pf (p : Port) (f : EcState → EcState) : (s.setEc p f).pf = s.pf := (rfl)
@[simp] theorem State.setEc_casc (p : Port) (f : EcState → EcState) : (s.setEc p f).casc = s.casc := (rfl)
@[simp] theorem State.setEc_iz (p : Port) (f : EcState → EcState) : (s.setEc p f).iz = s.iz := (rfl)
@[simp] theorem State.setEc_power (p : Port) (f : EcState → EcState) : (s.setEc p f).power = s.power := (rfl)
@[simp] theorem State.setEc_faults (p : Port) (f : EcState → EcState) : (s.setEc p f).faults = s.faults := (rfl)
@[simp] theorem State.setEc_fuses (p : Port) (f : EcState → EcState) : (s.setEc p f).fuses = s.fuses := (rfl)
@[simp] theorem State.setEc_rst (p : Port) (f : EcState → EcState) : (s.setEc p f).rst = s.rst := (rfl)
@[simp] theorem State.setEc_hamper (p : Port) (f : EcState → EcState) : (s.setEc p f).hamper = s.hamper := (rfl)
@[simp] theorem State.setEc_hmp (p : Port) (f : EcState → EcState) : (s.setEc p f).hmp = s.hmp := (rfl)
@[simp] theorem State.setEc_stations (p : Port) (f : EcState → EcState) : (s.setEc p f).stations = s.stations := (rfl)
@[simp] theorem State.setEc_out (p : Port) (f : EcState → EcState) : (s.setEc p f).out = s.out := (rfl)
@[simp] theorem State.setEc_freeCount (p : Port) (f : EcState → EcState) : (s.setEc p f).freeCount = s.freeCount := (rfl)

/-! ## setSound -/

@[simp] theorem State.setSound_pending (p : Port) (f : SoundState → SoundState) : (s.setSound p f).pending = s.pending := (rfl)
@[simp] theorem State.setSound_regs (p : Port) (f : SoundState → SoundState) : (s.setSound p f).regs = s.regs := (rfl)
@[simp] theorem State.setSound_blobs (p : Port) (f : SoundState → SoundState) : (s.setSound p f).blobs = s.blobs := (rfl)
@[simp] theorem State.setSound_time (p : Port) (f : SoundState → SoundState) : (s.setSound p f).time = s.time := (rfl)
@[simp] theorem State.setSound_timers (p : Port) (f : SoundState → SoundState) : (s.setSound p f).timers = s.timers := (rfl)
@[simp] theorem State.setSound_merge (p : Port) (f : SoundState → SoundState) : (s.setSound p f).merge = s.merge := (rfl)
@[simp] theorem State.setSound_house (p : Port) (f : SoundState → SoundState) : (s.setSound p f).house = s.house := (rfl)
@[simp] theorem State.setSound_qm (p : Port) (f : SoundState → SoundState) : (s.setSound p f).qm = s.qm := (rfl)
@[simp] theorem State.setSound_pf (p : Port) (f : SoundState → SoundState) : (s.setSound p f).pf = s.pf := (rfl)
@[simp] theorem State.setSound_casc (p : Port) (f : SoundState → SoundState) : (s.setSound p f).casc = s.casc := (rfl)
@[simp] theorem State.setSound_iz (p : Port) (f : SoundState → SoundState) : (s.setSound p f).iz = s.iz := (rfl)
@[simp] theorem State.setSound_power (p : Port) (f : SoundState → SoundState) : (s.setSound p f).power = s.power := (rfl)
@[simp] theorem State.setSound_faults (p : Port) (f : SoundState → SoundState) : (s.setSound p f).faults = s.faults := (rfl)
@[simp] theorem State.setSound_fuses (p : Port) (f : SoundState → SoundState) : (s.setSound p f).fuses = s.fuses := (rfl)
@[simp] theorem State.setSound_rst (p : Port) (f : SoundState → SoundState) : (s.setSound p f).rst = s.rst := (rfl)
@[simp] theorem State.setSound_hamper (p : Port) (f : SoundState → SoundState) : (s.setSound p f).hamper = s.hamper := (rfl)
@[simp] theorem State.setSound_hmp (p : Port) (f : SoundState → SoundState) : (s.setSound p f).hmp = s.hmp := (rfl)
@[simp] theorem State.setSound_stations (p : Port) (f : SoundState → SoundState) : (s.setSound p f).stations = s.stations := (rfl)
@[simp] theorem State.setSound_out (p : Port) (f : SoundState → SoundState) : (s.setSound p f).out = s.out := (rfl)
@[simp] theorem State.setSound_freeCount (p : Port) (f : SoundState → SoundState) : (s.setSound p f).freeCount = s.freeCount := (rfl)

/-! ## setDc -/

@[simp] theorem State.setDc_pending (p : Port) (f : DcState → DcState) : (s.setDc p f).pending = s.pending := (rfl)
@[simp] theorem State.setDc_regs (p : Port) (f : DcState → DcState) : (s.setDc p f).regs = s.regs := (rfl)
@[simp] theorem State.setDc_blobs (p : Port) (f : DcState → DcState) : (s.setDc p f).blobs = s.blobs := (rfl)
@[simp] theorem State.setDc_time (p : Port) (f : DcState → DcState) : (s.setDc p f).time = s.time := (rfl)
@[simp] theorem State.setDc_timers (p : Port) (f : DcState → DcState) : (s.setDc p f).timers = s.timers := (rfl)
@[simp] theorem State.setDc_merge (p : Port) (f : DcState → DcState) : (s.setDc p f).merge = s.merge := (rfl)
@[simp] theorem State.setDc_house (p : Port) (f : DcState → DcState) : (s.setDc p f).house = s.house := (rfl)
@[simp] theorem State.setDc_qm (p : Port) (f : DcState → DcState) : (s.setDc p f).qm = s.qm := (rfl)
@[simp] theorem State.setDc_pf (p : Port) (f : DcState → DcState) : (s.setDc p f).pf = s.pf := (rfl)
@[simp] theorem State.setDc_casc (p : Port) (f : DcState → DcState) : (s.setDc p f).casc = s.casc := (rfl)
@[simp] theorem State.setDc_iz (p : Port) (f : DcState → DcState) : (s.setDc p f).iz = s.iz := (rfl)
@[simp] theorem State.setDc_power (p : Port) (f : DcState → DcState) : (s.setDc p f).power = s.power := (rfl)
@[simp] theorem State.setDc_faults (p : Port) (f : DcState → DcState) : (s.setDc p f).faults = s.faults := (rfl)
@[simp] theorem State.setDc_fuses (p : Port) (f : DcState → DcState) : (s.setDc p f).fuses = s.fuses := (rfl)
@[simp] theorem State.setDc_rst (p : Port) (f : DcState → DcState) : (s.setDc p f).rst = s.rst := (rfl)
@[simp] theorem State.setDc_hamper (p : Port) (f : DcState → DcState) : (s.setDc p f).hamper = s.hamper := (rfl)
@[simp] theorem State.setDc_hmp (p : Port) (f : DcState → DcState) : (s.setDc p f).hmp = s.hmp := (rfl)
@[simp] theorem State.setDc_stations (p : Port) (f : DcState → DcState) : (s.setDc p f).stations = s.stations := (rfl)
@[simp] theorem State.setDc_out (p : Port) (f : DcState → DcState) : (s.setDc p f).out = s.out := (rfl)
@[simp] theorem State.setDc_freeCount (p : Port) (f : DcState → DcState) : (s.setDc p f).freeCount = s.freeCount := (rfl)

/-! ## setCal -/

@[simp] theorem State.setCal_pending (p : Port) (f : CalState → CalState) : (s.setCal p f).pending = s.pending := (rfl)
@[simp] theorem State.setCal_regs (p : Port) (f : CalState → CalState) : (s.setCal p f).regs = s.regs := (rfl)
@[simp] theorem State.setCal_blobs (p : Port) (f : CalState → CalState) : (s.setCal p f).blobs = s.blobs := (rfl)
@[simp] theorem State.setCal_time (p : Port) (f : CalState → CalState) : (s.setCal p f).time = s.time := (rfl)
@[simp] theorem State.setCal_timers (p : Port) (f : CalState → CalState) : (s.setCal p f).timers = s.timers := (rfl)
@[simp] theorem State.setCal_merge (p : Port) (f : CalState → CalState) : (s.setCal p f).merge = s.merge := (rfl)
@[simp] theorem State.setCal_house (p : Port) (f : CalState → CalState) : (s.setCal p f).house = s.house := (rfl)
@[simp] theorem State.setCal_qm (p : Port) (f : CalState → CalState) : (s.setCal p f).qm = s.qm := (rfl)
@[simp] theorem State.setCal_pf (p : Port) (f : CalState → CalState) : (s.setCal p f).pf = s.pf := (rfl)
@[simp] theorem State.setCal_casc (p : Port) (f : CalState → CalState) : (s.setCal p f).casc = s.casc := (rfl)
@[simp] theorem State.setCal_iz (p : Port) (f : CalState → CalState) : (s.setCal p f).iz = s.iz := (rfl)
@[simp] theorem State.setCal_power (p : Port) (f : CalState → CalState) : (s.setCal p f).power = s.power := (rfl)
@[simp] theorem State.setCal_faults (p : Port) (f : CalState → CalState) : (s.setCal p f).faults = s.faults := (rfl)
@[simp] theorem State.setCal_fuses (p : Port) (f : CalState → CalState) : (s.setCal p f).fuses = s.fuses := (rfl)
@[simp] theorem State.setCal_rst (p : Port) (f : CalState → CalState) : (s.setCal p f).rst = s.rst := (rfl)
@[simp] theorem State.setCal_hamper (p : Port) (f : CalState → CalState) : (s.setCal p f).hamper = s.hamper := (rfl)
@[simp] theorem State.setCal_hmp (p : Port) (f : CalState → CalState) : (s.setCal p f).hmp = s.hmp := (rfl)
@[simp] theorem State.setCal_stations (p : Port) (f : CalState → CalState) : (s.setCal p f).stations = s.stations := (rfl)
@[simp] theorem State.setCal_out (p : Port) (f : CalState → CalState) : (s.setCal p f).out = s.out := (rfl)
@[simp] theorem State.setCal_freeCount (p : Port) (f : CalState → CalState) : (s.setCal p f).freeCount = s.freeCount := (rfl)

/-! ## setElem -/

@[simp] theorem State.setElem_pending (p : Port) (a : Nat) (f : Elem → Elem) : (s.setElem p a f).pending = s.pending := (rfl)
@[simp] theorem State.setElem_regs (p : Port) (a : Nat) (f : Elem → Elem) : (s.setElem p a f).regs = s.regs := (rfl)
@[simp] theorem State.setElem_blobs (p : Port) (a : Nat) (f : Elem → Elem) : (s.setElem p a f).blobs = s.blobs := (rfl)
@[simp] theorem State.setElem_time (p : Port) (a : Nat) (f : Elem → Elem) : (s.setElem p a f).time = s.time := (rfl)
@[simp] theorem State.setElem_timers (p : Port) (a : Nat) (f : Elem → Elem) : (s.setElem p a f).timers = s.timers := (rfl)
@[simp] theorem State.setElem_merge (p : Port) (a : Nat) (f : Elem → Elem) : (s.setElem p a f).merge = s.merge := (rfl)
@[simp] theorem State.setElem_house (p : Port) (a : Nat) (f : Elem → Elem) : (s.setElem p a f).house = s.house := (rfl)
@[simp] theorem State.setElem_qm (p : Port) (a : Nat) (f : Elem → Elem) : (s.setElem p a f).qm = s.qm := (rfl)
@[simp] theorem State.setElem_pf (p : Port) (a : Nat) (f : Elem → Elem) : (s.setElem p a f).pf = s.pf := (rfl)
@[simp] theorem State.setElem_casc (p : Port) (a : Nat) (f : Elem → Elem) : (s.setElem p a f).casc = s.casc := (rfl)
@[simp] theorem State.setElem_iz (p : Port) (a : Nat) (f : Elem → Elem) : (s.setElem p a f).iz = s.iz := (rfl)
@[simp] theorem State.setElem_power (p : Port) (a : Nat) (f : Elem → Elem) : (s.setElem p a f).power = s.power := (rfl)
@[simp] theorem State.setElem_faults (p : Port) (a : Nat) (f : Elem → Elem) : (s.setElem p a f).faults = s.faults := (rfl)
@[simp] theorem State.setElem_fuses (p : Port) (a : Nat) (f : Elem → Elem) : (s.setElem p a f).fuses = s.fuses := (rfl)
@[simp] theorem State.setElem_rst (p : Port) (a : Nat) (f : Elem → Elem) : (s.setElem p a f).rst = s.rst := (rfl)
@[simp] theorem State.setElem_hamper (p : Port) (a : Nat) (f : Elem → Elem) : (s.setElem p a f).hamper = s.hamper := (rfl)
@[simp] theorem State.setElem_hmp (p : Port) (a : Nat) (f : Elem → Elem) : (s.setElem p a f).hmp = s.hmp := (rfl)
@[simp] theorem State.setElem_stations (p : Port) (a : Nat) (f : Elem → Elem) : (s.setElem p a f).stations = s.stations := (rfl)
@[simp] theorem State.setElem_out (p : Port) (a : Nat) (f : Elem → Elem) : (s.setElem p a f).out = s.out := (rfl)
@[simp] theorem State.setElem_freeCount (p : Port) (a : Nat) (f : Elem → Elem) : (s.setElem p a f).freeCount = s.freeCount := (rfl)

/-! ## setEq -/

@[simp] theorem State.setEq_pending (p : Port) (a : Nat) (f : EqState → EqState) : (s.setEq p a f).pending = s.pending := (rfl)
@[simp] theorem State.setEq_regs (p : Port) (a : Nat) (f : EqState → EqState) : (s.setEq p a f).regs = s.regs := (rfl)
@[simp] theorem State.setEq_blobs (p : Port) (a : Nat) (f : EqState → EqState) : (s.setEq p a f).blobs = s.blobs := (rfl)
@[simp] theorem State.setEq_time (p : Port) (a : Nat) (f : EqState → EqState) : (s.setEq p a f).time = s.time := (rfl)
@[simp] theorem State.setEq_timers (p : Port) (a : Nat) (f : EqState → EqState) : (s.setEq p a f).timers = s.timers := (rfl)
@[simp] theorem State.setEq_merge (p : Port) (a : Nat) (f : EqState → EqState) : (s.setEq p a f).merge = s.merge := (rfl)
@[simp] theorem State.setEq_house (p : Port) (a : Nat) (f : EqState → EqState) : (s.setEq p a f).house = s.house := (rfl)
@[simp] theorem State.setEq_qm (p : Port) (a : Nat) (f : EqState → EqState) : (s.setEq p a f).qm = s.qm := (rfl)
@[simp] theorem State.setEq_pf (p : Port) (a : Nat) (f : EqState → EqState) : (s.setEq p a f).pf = s.pf := (rfl)
@[simp] theorem State.setEq_casc (p : Port) (a : Nat) (f : EqState → EqState) : (s.setEq p a f).casc = s.casc := (rfl)
@[simp] theorem State.setEq_iz (p : Port) (a : Nat) (f : EqState → EqState) : (s.setEq p a f).iz = s.iz := (rfl)
@[simp] theorem State.setEq_power (p : Port) (a : Nat) (f : EqState → EqState) : (s.setEq p a f).power = s.power := (rfl)
@[simp] theorem State.setEq_faults (p : Port) (a : Nat) (f : EqState → EqState) : (s.setEq p a f).faults = s.faults := (rfl)
@[simp] theorem State.setEq_fuses (p : Port) (a : Nat) (f : EqState → EqState) : (s.setEq p a f).fuses = s.fuses := (rfl)
@[simp] theorem State.setEq_rst (p : Port) (a : Nat) (f : EqState → EqState) : (s.setEq p a f).rst = s.rst := (rfl)
@[simp] theorem State.setEq_hamper (p : Port) (a : Nat) (f : EqState → EqState) : (s.setEq p a f).hamper = s.hamper := (rfl)
@[simp] theorem State.setEq_hmp (p : Port) (a : Nat) (f : EqState → EqState) : (s.setEq p a f).hmp = s.hmp := (rfl)
@[simp] theorem State.setEq_stations (p : Port) (a : Nat) (f : EqState → EqState) : (s.setEq p a f).stations = s.stations := (rfl)
@[simp] theorem State.setEq_out (p : Port) (a : Nat) (f : EqState → EqState) : (s.setEq p a f).out = s.out := (rfl)
@[simp] theorem State.setEq_freeCount (p : Port) (a : Nat) (f : EqState → EqState) : (s.setEq p a f).freeCount = s.freeCount := (rfl)

/-! ## setLink -/

@[simp] theorem State.setLink_pending (x : Side) (f : PfState → PfState) : (s.setLink x f).pending = s.pending := (rfl)
@[simp] theorem State.setLink_regs (x : Side) (f : PfState → PfState) : (s.setLink x f).regs = s.regs := (rfl)
@[simp] theorem State.setLink_blobs (x : Side) (f : PfState → PfState) : (s.setLink x f).blobs = s.blobs := (rfl)
@[simp] theorem State.setLink_time (x : Side) (f : PfState → PfState) : (s.setLink x f).time = s.time := (rfl)
@[simp] theorem State.setLink_timers (x : Side) (f : PfState → PfState) : (s.setLink x f).timers = s.timers := (rfl)
@[simp] theorem State.setLink_merge (x : Side) (f : PfState → PfState) : (s.setLink x f).merge = s.merge := (rfl)
@[simp] theorem State.setLink_house (x : Side) (f : PfState → PfState) : (s.setLink x f).house = s.house := (rfl)
@[simp] theorem State.setLink_ports (x : Side) (f : PfState → PfState) : (s.setLink x f).ports = s.ports := (rfl)
@[simp] theorem State.setLink_qm (x : Side) (f : PfState → PfState) : (s.setLink x f).qm = s.qm := (rfl)
@[simp] theorem State.setLink_casc (x : Side) (f : PfState → PfState) : (s.setLink x f).casc = s.casc := (rfl)
@[simp] theorem State.setLink_iz (x : Side) (f : PfState → PfState) : (s.setLink x f).iz = s.iz := (rfl)
@[simp] theorem State.setLink_power (x : Side) (f : PfState → PfState) : (s.setLink x f).power = s.power := (rfl)
@[simp] theorem State.setLink_faults (x : Side) (f : PfState → PfState) : (s.setLink x f).faults = s.faults := (rfl)
@[simp] theorem State.setLink_fuses (x : Side) (f : PfState → PfState) : (s.setLink x f).fuses = s.fuses := (rfl)
@[simp] theorem State.setLink_rst (x : Side) (f : PfState → PfState) : (s.setLink x f).rst = s.rst := (rfl)
@[simp] theorem State.setLink_hamper (x : Side) (f : PfState → PfState) : (s.setLink x f).hamper = s.hamper := (rfl)
@[simp] theorem State.setLink_hmp (x : Side) (f : PfState → PfState) : (s.setLink x f).hmp = s.hmp := (rfl)
@[simp] theorem State.setLink_stations (x : Side) (f : PfState → PfState) : (s.setLink x f).stations = s.stations := (rfl)
@[simp] theorem State.setLink_out (x : Side) (f : PfState → PfState) : (s.setLink x f).out = s.out := (rfl)
@[simp] theorem State.setLink_freeCount (x : Side) (f : PfState → PfState) : (s.setLink x f).freeCount = s.freeCount := (rfl)

/-! ## setSession -/

@[simp] theorem State.setSession_pending (k : SessionNo) (f : Session → Session) : (s.setSession k f).pending = s.pending := (rfl)
@[simp] theorem State.setSession_regs (k : SessionNo) (f : Session → Session) : (s.setSession k f).regs = s.regs := (rfl)
@[simp] theorem State.setSession_blobs (k : SessionNo) (f : Session → Session) : (s.setSession k f).blobs = s.blobs := (rfl)
@[simp] theorem State.setSession_time (k : SessionNo) (f : Session → Session) : (s.setSession k f).time = s.time := (rfl)
@[simp] theorem State.setSession_timers (k : SessionNo) (f : Session → Session) : (s.setSession k f).timers = s.timers := (rfl)
@[simp] theorem State.setSession_merge (k : SessionNo) (f : Session → Session) : (s.setSession k f).merge = s.merge := (rfl)
@[simp] theorem State.setSession_house (k : SessionNo) (f : Session → Session) : (s.setSession k f).house = s.house := (rfl)
@[simp] theorem State.setSession_ports (k : SessionNo) (f : Session → Session) : (s.setSession k f).ports = s.ports := (rfl)
@[simp] theorem State.setSession_qm (k : SessionNo) (f : Session → Session) : (s.setSession k f).qm = s.qm := (rfl)
@[simp] theorem State.setSession_pf (k : SessionNo) (f : Session → Session) : (s.setSession k f).pf = s.pf := (rfl)
@[simp] theorem State.setSession_casc (k : SessionNo) (f : Session → Session) : (s.setSession k f).casc = s.casc := (rfl)
@[simp] theorem State.setSession_power (k : SessionNo) (f : Session → Session) : (s.setSession k f).power = s.power := (rfl)
@[simp] theorem State.setSession_faults (k : SessionNo) (f : Session → Session) : (s.setSession k f).faults = s.faults := (rfl)
@[simp] theorem State.setSession_fuses (k : SessionNo) (f : Session → Session) : (s.setSession k f).fuses = s.fuses := (rfl)
@[simp] theorem State.setSession_rst (k : SessionNo) (f : Session → Session) : (s.setSession k f).rst = s.rst := (rfl)
@[simp] theorem State.setSession_hamper (k : SessionNo) (f : Session → Session) : (s.setSession k f).hamper = s.hamper := (rfl)
@[simp] theorem State.setSession_hmp (k : SessionNo) (f : Session → Session) : (s.setSession k f).hmp = s.hmp := (rfl)
@[simp] theorem State.setSession_stations (k : SessionNo) (f : Session → Session) : (s.setSession k f).stations = s.stations := (rfl)
@[simp] theorem State.setSession_out (k : SessionNo) (f : Session → Session) : (s.setSession k f).out = s.out := (rfl)
@[simp] theorem State.setSession_freeCount (k : SessionNo) (f : Session → Session) : (s.setSession k f).freeCount = s.freeCount := (rfl)

/-! ## setStn -/

@[simp] theorem State.setStn_pending (u : Nat) (f : Stn → Stn) : (s.setStn u f).pending = s.pending := (rfl)
@[simp] theorem State.setStn_regs (u : Nat) (f : Stn → Stn) : (s.setStn u f).regs = s.regs := (rfl)
@[simp] theorem State.setStn_blobs (u : Nat) (f : Stn → Stn) : (s.setStn u f).blobs = s.blobs := (rfl)
@[simp] theorem State.setStn_time (u : Nat) (f : Stn → Stn) : (s.setStn u f).time = s.time := (rfl)
@[simp] theorem State.setStn_timers (u : Nat) (f : Stn → Stn) : (s.setStn u f).timers = s.timers := (rfl)
@[simp] theorem State.setStn_merge (u : Nat) (f : Stn → Stn) : (s.setStn u f).merge = s.merge := (rfl)
@[simp] theorem State.setStn_house (u : Nat) (f : Stn → Stn) : (s.setStn u f).house = s.house := (rfl)
@[simp] theorem State.setStn_ports (u : Nat) (f : Stn → Stn) : (s.setStn u f).ports = s.ports := (rfl)
@[simp] theorem State.setStn_qm (u : Nat) (f : Stn → Stn) : (s.setStn u f).qm = s.qm := (rfl)
@[simp] theorem State.setStn_pf (u : Nat) (f : Stn → Stn) : (s.setStn u f).pf = s.pf := (rfl)
@[simp] theorem State.setStn_casc (u : Nat) (f : Stn → Stn) : (s.setStn u f).casc = s.casc := (rfl)
@[simp] theorem State.setStn_iz (u : Nat) (f : Stn → Stn) : (s.setStn u f).iz = s.iz := (rfl)
@[simp] theorem State.setStn_power (u : Nat) (f : Stn → Stn) : (s.setStn u f).power = s.power := (rfl)
@[simp] theorem State.setStn_faults (u : Nat) (f : Stn → Stn) : (s.setStn u f).faults = s.faults := (rfl)
@[simp] theorem State.setStn_fuses (u : Nat) (f : Stn → Stn) : (s.setStn u f).fuses = s.fuses := (rfl)
@[simp] theorem State.setStn_rst (u : Nat) (f : Stn → Stn) : (s.setStn u f).rst = s.rst := (rfl)
@[simp] theorem State.setStn_hamper (u : Nat) (f : Stn → Stn) : (s.setStn u f).hamper = s.hamper := (rfl)
@[simp] theorem State.setStn_hmp (u : Nat) (f : Stn → Stn) : (s.setStn u f).hmp = s.hmp := (rfl)
@[simp] theorem State.setStn_out (u : Nat) (f : Stn → Stn) : (s.setStn u f).out = s.out := (rfl)
@[simp] theorem State.setStn_freeCount (u : Nat) (f : Stn → Stn) : (s.setStn u f).freeCount = s.freeCount := (rfl)

/-! ## emit -/

@[simp] theorem State.emit_pending (o : Out) : (s.emit o).pending = s.pending := (rfl)
@[simp] theorem State.emit_regs (o : Out) : (s.emit o).regs = s.regs := (rfl)
@[simp] theorem State.emit_blobs (o : Out) : (s.emit o).blobs = s.blobs := (rfl)
@[simp] theorem State.emit_time (o : Out) : (s.emit o).time = s.time := (rfl)
@[simp] theorem State.emit_timers (o : Out) : (s.emit o).timers = s.timers := (rfl)
@[simp] theorem State.emit_merge (o : Out) : (s.emit o).merge = s.merge := (rfl)
@[simp] theorem State.emit_house (o : Out) : (s.emit o).house = s.house := (rfl)
@[simp] theorem State.emit_ports (o : Out) : (s.emit o).ports = s.ports := (rfl)
@[simp] theorem State.emit_qm (o : Out) : (s.emit o).qm = s.qm := (rfl)
@[simp] theorem State.emit_pf (o : Out) : (s.emit o).pf = s.pf := (rfl)
@[simp] theorem State.emit_casc (o : Out) : (s.emit o).casc = s.casc := (rfl)
@[simp] theorem State.emit_iz (o : Out) : (s.emit o).iz = s.iz := (rfl)
@[simp] theorem State.emit_power (o : Out) : (s.emit o).power = s.power := (rfl)
@[simp] theorem State.emit_faults (o : Out) : (s.emit o).faults = s.faults := (rfl)
@[simp] theorem State.emit_fuses (o : Out) : (s.emit o).fuses = s.fuses := (rfl)
@[simp] theorem State.emit_rst (o : Out) : (s.emit o).rst = s.rst := (rfl)
@[simp] theorem State.emit_hamper (o : Out) : (s.emit o).hamper = s.hamper := (rfl)
@[simp] theorem State.emit_hmp (o : Out) : (s.emit o).hmp = s.hmp := (rfl)
@[simp] theorem State.emit_stations (o : Out) : (s.emit o).stations = s.stations := (rfl)
@[simp] theorem State.emit_freeCount (o : Out) : (s.emit o).freeCount = s.freeCount := (rfl)

/-! ## setTime -/

@[simp] theorem State.setTime_pending (f : TimeState → TimeState) : (s.setTime f).pending = s.pending := (rfl)
@[simp] theorem State.setTime_regs (f : TimeState → TimeState) : (s.setTime f).regs = s.regs := (rfl)
@[simp] theorem State.setTime_blobs (f : TimeState → TimeState) : (s.setTime f).blobs = s.blobs := (rfl)
@[simp] theorem State.setTime_timers (f : TimeState → TimeState) : (s.setTime f).timers = s.timers := (rfl)
@[simp] theorem State.setTime_merge (f : TimeState → TimeState) : (s.setTime f).merge = s.merge := (rfl)
@[simp] theorem State.setTime_house (f : TimeState → TimeState) : (s.setTime f).house = s.house := (rfl)
@[simp] theorem State.setTime_ports (f : TimeState → TimeState) : (s.setTime f).ports = s.ports := (rfl)
@[simp] theorem State.setTime_qm (f : TimeState → TimeState) : (s.setTime f).qm = s.qm := (rfl)
@[simp] theorem State.setTime_pf (f : TimeState → TimeState) : (s.setTime f).pf = s.pf := (rfl)
@[simp] theorem State.setTime_casc (f : TimeState → TimeState) : (s.setTime f).casc = s.casc := (rfl)
@[simp] theorem State.setTime_iz (f : TimeState → TimeState) : (s.setTime f).iz = s.iz := (rfl)
@[simp] theorem State.setTime_power (f : TimeState → TimeState) : (s.setTime f).power = s.power := (rfl)
@[simp] theorem State.setTime_faults (f : TimeState → TimeState) : (s.setTime f).faults = s.faults := (rfl)
@[simp] theorem State.setTime_fuses (f : TimeState → TimeState) : (s.setTime f).fuses = s.fuses := (rfl)
@[simp] theorem State.setTime_rst (f : TimeState → TimeState) : (s.setTime f).rst = s.rst := (rfl)
@[simp] theorem State.setTime_hamper (f : TimeState → TimeState) : (s.setTime f).hamper = s.hamper := (rfl)
@[simp] theorem State.setTime_hmp (f : TimeState → TimeState) : (s.setTime f).hmp = s.hmp := (rfl)
@[simp] theorem State.setTime_stations (f : TimeState → TimeState) : (s.setTime f).stations = s.stations := (rfl)
@[simp] theorem State.setTime_out (f : TimeState → TimeState) : (s.setTime f).out = s.out := (rfl)
@[simp] theorem State.setTime_freeCount (f : TimeState → TimeState) : (s.setTime f).freeCount = s.freeCount := (rfl)

/-! ## setMerge -/

@[simp] theorem State.setMerge_pending (f : MergeState → MergeState) : (s.setMerge f).pending = s.pending := (rfl)
@[simp] theorem State.setMerge_regs (f : MergeState → MergeState) : (s.setMerge f).regs = s.regs := (rfl)
@[simp] theorem State.setMerge_blobs (f : MergeState → MergeState) : (s.setMerge f).blobs = s.blobs := (rfl)
@[simp] theorem State.setMerge_time (f : MergeState → MergeState) : (s.setMerge f).time = s.time := (rfl)
@[simp] theorem State.setMerge_timers (f : MergeState → MergeState) : (s.setMerge f).timers = s.timers := (rfl)
@[simp] theorem State.setMerge_house (f : MergeState → MergeState) : (s.setMerge f).house = s.house := (rfl)
@[simp] theorem State.setMerge_ports (f : MergeState → MergeState) : (s.setMerge f).ports = s.ports := (rfl)
@[simp] theorem State.setMerge_qm (f : MergeState → MergeState) : (s.setMerge f).qm = s.qm := (rfl)
@[simp] theorem State.setMerge_pf (f : MergeState → MergeState) : (s.setMerge f).pf = s.pf := (rfl)
@[simp] theorem State.setMerge_casc (f : MergeState → MergeState) : (s.setMerge f).casc = s.casc := (rfl)
@[simp] theorem State.setMerge_iz (f : MergeState → MergeState) : (s.setMerge f).iz = s.iz := (rfl)
@[simp] theorem State.setMerge_power (f : MergeState → MergeState) : (s.setMerge f).power = s.power := (rfl)
@[simp] theorem State.setMerge_faults (f : MergeState → MergeState) : (s.setMerge f).faults = s.faults := (rfl)
@[simp] theorem State.setMerge_fuses (f : MergeState → MergeState) : (s.setMerge f).fuses = s.fuses := (rfl)
@[simp] theorem State.setMerge_rst (f : MergeState → MergeState) : (s.setMerge f).rst = s.rst := (rfl)
@[simp] theorem State.setMerge_hamper (f : MergeState → MergeState) : (s.setMerge f).hamper = s.hamper := (rfl)
@[simp] theorem State.setMerge_hmp (f : MergeState → MergeState) : (s.setMerge f).hmp = s.hmp := (rfl)
@[simp] theorem State.setMerge_stations (f : MergeState → MergeState) : (s.setMerge f).stations = s.stations := (rfl)
@[simp] theorem State.setMerge_out (f : MergeState → MergeState) : (s.setMerge f).out = s.out := (rfl)
@[simp] theorem State.setMerge_freeCount (f : MergeState → MergeState) : (s.setMerge f).freeCount = s.freeCount := (rfl)

/-! ## setHouse -/

@[simp] theorem State.setHouse_pending (f : HouseState → HouseState) : (s.setHouse f).pending = s.pending := (rfl)
@[simp] theorem State.setHouse_regs (f : HouseState → HouseState) : (s.setHouse f).regs = s.regs := (rfl)
@[simp] theorem State.setHouse_blobs (f : HouseState → HouseState) : (s.setHouse f).blobs = s.blobs := (rfl)
@[simp] theorem State.setHouse_time (f : HouseState → HouseState) : (s.setHouse f).time = s.time := (rfl)
@[simp] theorem State.setHouse_timers (f : HouseState → HouseState) : (s.setHouse f).timers = s.timers := (rfl)
@[simp] theorem State.setHouse_merge (f : HouseState → HouseState) : (s.setHouse f).merge = s.merge := (rfl)
@[simp] theorem State.setHouse_ports (f : HouseState → HouseState) : (s.setHouse f).ports = s.ports := (rfl)
@[simp] theorem State.setHouse_qm (f : HouseState → HouseState) : (s.setHouse f).qm = s.qm := (rfl)
@[simp] theorem State.setHouse_pf (f : HouseState → HouseState) : (s.setHouse f).pf = s.pf := (rfl)
@[simp] theorem State.setHouse_casc (f : HouseState → HouseState) : (s.setHouse f).casc = s.casc := (rfl)
@[simp] theorem State.setHouse_iz (f : HouseState → HouseState) : (s.setHouse f).iz = s.iz := (rfl)
@[simp] theorem State.setHouse_power (f : HouseState → HouseState) : (s.setHouse f).power = s.power := (rfl)
@[simp] theorem State.setHouse_faults (f : HouseState → HouseState) : (s.setHouse f).faults = s.faults := (rfl)
@[simp] theorem State.setHouse_fuses (f : HouseState → HouseState) : (s.setHouse f).fuses = s.fuses := (rfl)
@[simp] theorem State.setHouse_rst (f : HouseState → HouseState) : (s.setHouse f).rst = s.rst := (rfl)
@[simp] theorem State.setHouse_hamper (f : HouseState → HouseState) : (s.setHouse f).hamper = s.hamper := (rfl)
@[simp] theorem State.setHouse_hmp (f : HouseState → HouseState) : (s.setHouse f).hmp = s.hmp := (rfl)
@[simp] theorem State.setHouse_stations (f : HouseState → HouseState) : (s.setHouse f).stations = s.stations := (rfl)
@[simp] theorem State.setHouse_out (f : HouseState → HouseState) : (s.setHouse f).out = s.out := (rfl)
@[simp] theorem State.setHouse_freeCount (f : HouseState → HouseState) : (s.setHouse f).freeCount = s.freeCount := (rfl)

/-! ## setQm -/

@[simp] theorem State.setQm_pending (f : QmState → QmState) : (s.setQm f).pending = s.pending := (rfl)
@[simp] theorem State.setQm_regs (f : QmState → QmState) : (s.setQm f).regs = s.regs := (rfl)
@[simp] theorem State.setQm_blobs (f : QmState → QmState) : (s.setQm f).blobs = s.blobs := (rfl)
@[simp] theorem State.setQm_time (f : QmState → QmState) : (s.setQm f).time = s.time := (rfl)
@[simp] theorem State.setQm_timers (f : QmState → QmState) : (s.setQm f).timers = s.timers := (rfl)
@[simp] theorem State.setQm_merge (f : QmState → QmState) : (s.setQm f).merge = s.merge := (rfl)
@[simp] theorem State.setQm_house (f : QmState → QmState) : (s.setQm f).house = s.house := (rfl)
@[simp] theorem State.setQm_ports (f : QmState → QmState) : (s.setQm f).ports = s.ports := (rfl)
@[simp] theorem State.setQm_pf (f : QmState → QmState) : (s.setQm f).pf = s.pf := (rfl)
@[simp] theorem State.setQm_casc (f : QmState → QmState) : (s.setQm f).casc = s.casc := (rfl)
@[simp] theorem State.setQm_iz (f : QmState → QmState) : (s.setQm f).iz = s.iz := (rfl)
@[simp] theorem State.setQm_power (f : QmState → QmState) : (s.setQm f).power = s.power := (rfl)
@[simp] theorem State.setQm_faults (f : QmState → QmState) : (s.setQm f).faults = s.faults := (rfl)
@[simp] theorem State.setQm_fuses (f : QmState → QmState) : (s.setQm f).fuses = s.fuses := (rfl)
@[simp] theorem State.setQm_rst (f : QmState → QmState) : (s.setQm f).rst = s.rst := (rfl)
@[simp] theorem State.setQm_hamper (f : QmState → QmState) : (s.setQm f).hamper = s.hamper := (rfl)
@[simp] theorem State.setQm_hmp (f : QmState → QmState) : (s.setQm f).hmp = s.hmp := (rfl)
@[simp] theorem State.setQm_stations (f : QmState → QmState) : (s.setQm f).stations = s.stations := (rfl)
@[simp] theorem State.setQm_out (f : QmState → QmState) : (s.setQm f).out = s.out := (rfl)
@[simp] theorem State.setQm_freeCount (f : QmState → QmState) : (s.setQm f).freeCount = s.freeCount := (rfl)

/-! ## setCasc -/

@[simp] theorem State.setCasc_pending (f : CascState → CascState) : (s.setCasc f).pending = s.pending := (rfl)
@[simp] theorem State.setCasc_regs (f : CascState → CascState) : (s.setCasc f).regs = s.regs := (rfl)
@[simp] theorem State.setCasc_blobs (f : CascState → CascState) : (s.setCasc f).blobs = s.blobs := (rfl)
@[simp] theorem State.setCasc_time (f : CascState → CascState) : (s.setCasc f).time = s.time := (rfl)
@[simp] theorem State.setCasc_timers (f : CascState → CascState) : (s.setCasc f).timers = s.timers := (rfl)
@[simp] theorem State.setCasc_merge (f : CascState → CascState) : (s.setCasc f).merge = s.merge := (rfl)
@[simp] theorem State.setCasc_house (f : CascState → CascState) : (s.setCasc f).house = s.house := (rfl)
@[simp] theorem State.setCasc_ports (f : CascState → CascState) : (s.setCasc f).ports = s.ports := (rfl)
@[simp] theorem State.setCasc_qm (f : CascState → CascState) : (s.setCasc f).qm = s.qm := (rfl)
@[simp] theorem State.setCasc_pf (f : CascState → CascState) : (s.setCasc f).pf = s.pf := (rfl)
@[simp] theorem State.setCasc_iz (f : CascState → CascState) : (s.setCasc f).iz = s.iz := (rfl)
@[simp] theorem State.setCasc_power (f : CascState → CascState) : (s.setCasc f).power = s.power := (rfl)
@[simp] theorem State.setCasc_faults (f : CascState → CascState) : (s.setCasc f).faults = s.faults := (rfl)
@[simp] theorem State.setCasc_fuses (f : CascState → CascState) : (s.setCasc f).fuses = s.fuses := (rfl)
@[simp] theorem State.setCasc_rst (f : CascState → CascState) : (s.setCasc f).rst = s.rst := (rfl)
@[simp] theorem State.setCasc_hamper (f : CascState → CascState) : (s.setCasc f).hamper = s.hamper := (rfl)
@[simp] theorem State.setCasc_hmp (f : CascState → CascState) : (s.setCasc f).hmp = s.hmp := (rfl)
@[simp] theorem State.setCasc_stations (f : CascState → CascState) : (s.setCasc f).stations = s.stations := (rfl)
@[simp] theorem State.setCasc_out (f : CascState → CascState) : (s.setCasc f).out = s.out := (rfl)
@[simp] theorem State.setCasc_freeCount (f : CascState → CascState) : (s.setCasc f).freeCount = s.freeCount := (rfl)

/-! ## setIz -/

@[simp] theorem State.setIz_pending (f : IzState → IzState) : (s.setIz f).pending = s.pending := (rfl)
@[simp] theorem State.setIz_regs (f : IzState → IzState) : (s.setIz f).regs = s.regs := (rfl)
@[simp] theorem State.setIz_blobs (f : IzState → IzState) : (s.setIz f).blobs = s.blobs := (rfl)
@[simp] theorem State.setIz_time (f : IzState → IzState) : (s.setIz f).time = s.time := (rfl)
@[simp] theorem State.setIz_timers (f : IzState → IzState) : (s.setIz f).timers = s.timers := (rfl)
@[simp] theorem State.setIz_merge (f : IzState → IzState) : (s.setIz f).merge = s.merge := (rfl)
@[simp] theorem State.setIz_house (f : IzState → IzState) : (s.setIz f).house = s.house := (rfl)
@[simp] theorem State.setIz_ports (f : IzState → IzState) : (s.setIz f).ports = s.ports := (rfl)
@[simp] theorem State.setIz_qm (f : IzState → IzState) : (s.setIz f).qm = s.qm := (rfl)
@[simp] theorem State.setIz_pf (f : IzState → IzState) : (s.setIz f).pf = s.pf := (rfl)
@[simp] theorem State.setIz_casc (f : IzState → IzState) : (s.setIz f).casc = s.casc := (rfl)
@[simp] theorem State.setIz_power (f : IzState → IzState) : (s.setIz f).power = s.power := (rfl)
@[simp] theorem State.setIz_faults (f : IzState → IzState) : (s.setIz f).faults = s.faults := (rfl)
@[simp] theorem State.setIz_fuses (f : IzState → IzState) : (s.setIz f).fuses = s.fuses := (rfl)
@[simp] theorem State.setIz_rst (f : IzState → IzState) : (s.setIz f).rst = s.rst := (rfl)
@[simp] theorem State.setIz_hamper (f : IzState → IzState) : (s.setIz f).hamper = s.hamper := (rfl)
@[simp] theorem State.setIz_hmp (f : IzState → IzState) : (s.setIz f).hmp = s.hmp := (rfl)
@[simp] theorem State.setIz_stations (f : IzState → IzState) : (s.setIz f).stations = s.stations := (rfl)
@[simp] theorem State.setIz_out (f : IzState → IzState) : (s.setIz f).out = s.out := (rfl)
@[simp] theorem State.setIz_freeCount (f : IzState → IzState) : (s.setIz f).freeCount = s.freeCount := (rfl)

/-! ## setPower -/

@[simp] theorem State.setPower_pending (f : PowerState → PowerState) : (s.setPower f).pending = s.pending := (rfl)
@[simp] theorem State.setPower_regs (f : PowerState → PowerState) : (s.setPower f).regs = s.regs := (rfl)
@[simp] theorem State.setPower_blobs (f : PowerState → PowerState) : (s.setPower f).blobs = s.blobs := (rfl)
@[simp] theorem State.setPower_time (f : PowerState → PowerState) : (s.setPower f).time = s.time := (rfl)
@[simp] theorem State.setPower_timers (f : PowerState → PowerState) : (s.setPower f).timers = s.timers := (rfl)
@[simp] theorem State.setPower_merge (f : PowerState → PowerState) : (s.setPower f).merge = s.merge := (rfl)
@[simp] theorem State.setPower_house (f : PowerState → PowerState) : (s.setPower f).house = s.house := (rfl)
@[simp] theorem State.setPower_ports (f : PowerState → PowerState) : (s.setPower f).ports = s.ports := (rfl)
@[simp] theorem State.setPower_qm (f : PowerState → PowerState) : (s.setPower f).qm = s.qm := (rfl)
@[simp] theorem State.setPower_pf (f : PowerState → PowerState) : (s.setPower f).pf = s.pf := (rfl)
@[simp] theorem State.setPower_casc (f : PowerState → PowerState) : (s.setPower f).casc = s.casc := (rfl)
@[simp] theorem State.setPower_iz (f : PowerState → PowerState) : (s.setPower f).iz = s.iz := (rfl)
@[simp] theorem State.setPower_faults (f : PowerState → PowerState) : (s.setPower f).faults = s.faults := (rfl)
@[simp] theorem State.setPower_fuses (f : PowerState → PowerState) : (s.setPower f).fuses = s.fuses := (rfl)
@[simp] theorem State.setPower_rst (f : PowerState → PowerState) : (s.setPower f).rst = s.rst := (rfl)
@[simp] theorem State.setPower_hamper (f : PowerState → PowerState) : (s.setPower f).hamper = s.hamper := (rfl)
@[simp] theorem State.setPower_hmp (f : PowerState → PowerState) : (s.setPower f).hmp = s.hmp := (rfl)
@[simp] theorem State.setPower_stations (f : PowerState → PowerState) : (s.setPower f).stations = s.stations := (rfl)
@[simp] theorem State.setPower_out (f : PowerState → PowerState) : (s.setPower f).out = s.out := (rfl)
@[simp] theorem State.setPower_freeCount (f : PowerState → PowerState) : (s.setPower f).freeCount = s.freeCount := (rfl)

/-! ## setFaults -/

@[simp] theorem State.setFaults_pending (f : FaultState → FaultState) : (s.setFaults f).pending = s.pending := (rfl)
@[simp] theorem State.setFaults_regs (f : FaultState → FaultState) : (s.setFaults f).regs = s.regs := (rfl)
@[simp] theorem State.setFaults_blobs (f : FaultState → FaultState) : (s.setFaults f).blobs = s.blobs := (rfl)
@[simp] theorem State.setFaults_time (f : FaultState → FaultState) : (s.setFaults f).time = s.time := (rfl)
@[simp] theorem State.setFaults_timers (f : FaultState → FaultState) : (s.setFaults f).timers = s.timers := (rfl)
@[simp] theorem State.setFaults_merge (f : FaultState → FaultState) : (s.setFaults f).merge = s.merge := (rfl)
@[simp] theorem State.setFaults_house (f : FaultState → FaultState) : (s.setFaults f).house = s.house := (rfl)
@[simp] theorem State.setFaults_ports (f : FaultState → FaultState) : (s.setFaults f).ports = s.ports := (rfl)
@[simp] theorem State.setFaults_qm (f : FaultState → FaultState) : (s.setFaults f).qm = s.qm := (rfl)
@[simp] theorem State.setFaults_pf (f : FaultState → FaultState) : (s.setFaults f).pf = s.pf := (rfl)
@[simp] theorem State.setFaults_casc (f : FaultState → FaultState) : (s.setFaults f).casc = s.casc := (rfl)
@[simp] theorem State.setFaults_iz (f : FaultState → FaultState) : (s.setFaults f).iz = s.iz := (rfl)
@[simp] theorem State.setFaults_power (f : FaultState → FaultState) : (s.setFaults f).power = s.power := (rfl)
@[simp] theorem State.setFaults_fuses (f : FaultState → FaultState) : (s.setFaults f).fuses = s.fuses := (rfl)
@[simp] theorem State.setFaults_rst (f : FaultState → FaultState) : (s.setFaults f).rst = s.rst := (rfl)
@[simp] theorem State.setFaults_hamper (f : FaultState → FaultState) : (s.setFaults f).hamper = s.hamper := (rfl)
@[simp] theorem State.setFaults_hmp (f : FaultState → FaultState) : (s.setFaults f).hmp = s.hmp := (rfl)
@[simp] theorem State.setFaults_stations (f : FaultState → FaultState) : (s.setFaults f).stations = s.stations := (rfl)
@[simp] theorem State.setFaults_out (f : FaultState → FaultState) : (s.setFaults f).out = s.out := (rfl)
@[simp] theorem State.setFaults_freeCount (f : FaultState → FaultState) : (s.setFaults f).freeCount = s.freeCount := (rfl)

/-! ## setFuses -/

@[simp] theorem State.setFuses_pending (f : Fuses → Fuses) : (s.setFuses f).pending = s.pending := (rfl)
@[simp] theorem State.setFuses_regs (f : Fuses → Fuses) : (s.setFuses f).regs = s.regs := (rfl)
@[simp] theorem State.setFuses_blobs (f : Fuses → Fuses) : (s.setFuses f).blobs = s.blobs := (rfl)
@[simp] theorem State.setFuses_time (f : Fuses → Fuses) : (s.setFuses f).time = s.time := (rfl)
@[simp] theorem State.setFuses_timers (f : Fuses → Fuses) : (s.setFuses f).timers = s.timers := (rfl)
@[simp] theorem State.setFuses_merge (f : Fuses → Fuses) : (s.setFuses f).merge = s.merge := (rfl)
@[simp] theorem State.setFuses_house (f : Fuses → Fuses) : (s.setFuses f).house = s.house := (rfl)
@[simp] theorem State.setFuses_ports (f : Fuses → Fuses) : (s.setFuses f).ports = s.ports := (rfl)
@[simp] theorem State.setFuses_qm (f : Fuses → Fuses) : (s.setFuses f).qm = s.qm := (rfl)
@[simp] theorem State.setFuses_pf (f : Fuses → Fuses) : (s.setFuses f).pf = s.pf := (rfl)
@[simp] theorem State.setFuses_casc (f : Fuses → Fuses) : (s.setFuses f).casc = s.casc := (rfl)
@[simp] theorem State.setFuses_iz (f : Fuses → Fuses) : (s.setFuses f).iz = s.iz := (rfl)
@[simp] theorem State.setFuses_power (f : Fuses → Fuses) : (s.setFuses f).power = s.power := (rfl)
@[simp] theorem State.setFuses_faults (f : Fuses → Fuses) : (s.setFuses f).faults = s.faults := (rfl)
@[simp] theorem State.setFuses_rst (f : Fuses → Fuses) : (s.setFuses f).rst = s.rst := (rfl)
@[simp] theorem State.setFuses_hamper (f : Fuses → Fuses) : (s.setFuses f).hamper = s.hamper := (rfl)
@[simp] theorem State.setFuses_hmp (f : Fuses → Fuses) : (s.setFuses f).hmp = s.hmp := (rfl)
@[simp] theorem State.setFuses_stations (f : Fuses → Fuses) : (s.setFuses f).stations = s.stations := (rfl)
@[simp] theorem State.setFuses_out (f : Fuses → Fuses) : (s.setFuses f).out = s.out := (rfl)
@[simp] theorem State.setFuses_freeCount (f : Fuses → Fuses) : (s.setFuses f).freeCount = s.freeCount := (rfl)

/-! ## setRst -/

@[simp] theorem State.setRst_pending (f : ResetState → ResetState) : (s.setRst f).pending = s.pending := (rfl)
@[simp] theorem State.setRst_regs (f : ResetState → ResetState) : (s.setRst f).regs = s.regs := (rfl)
@[simp] theorem State.setRst_blobs (f : ResetState → ResetState) : (s.setRst f).blobs = s.blobs := (rfl)
@[simp] theorem State.setRst_time (f : ResetState → ResetState) : (s.setRst f).time = s.time := (rfl)
@[simp] theorem State.setRst_timers (f : ResetState → ResetState) : (s.setRst f).timers = s.timers := (rfl)
@[simp] theorem State.setRst_merge (f : ResetState → ResetState) : (s.setRst f).merge = s.merge := (rfl)
@[simp] theorem State.setRst_house (f : ResetState → ResetState) : (s.setRst f).house = s.house := (rfl)
@[simp] theorem State.setRst_ports (f : ResetState → ResetState) : (s.setRst f).ports = s.ports := (rfl)
@[simp] theorem State.setRst_qm (f : ResetState → ResetState) : (s.setRst f).qm = s.qm := (rfl)
@[simp] theorem State.setRst_pf (f : ResetState → ResetState) : (s.setRst f).pf = s.pf := (rfl)
@[simp] theorem State.setRst_casc (f : ResetState → ResetState) : (s.setRst f).casc = s.casc := (rfl)
@[simp] theorem State.setRst_iz (f : ResetState → ResetState) : (s.setRst f).iz = s.iz := (rfl)
@[simp] theorem State.setRst_power (f : ResetState → ResetState) : (s.setRst f).power = s.power := (rfl)
@[simp] theorem State.setRst_faults (f : ResetState → ResetState) : (s.setRst f).faults = s.faults := (rfl)
@[simp] theorem State.setRst_fuses (f : ResetState → ResetState) : (s.setRst f).fuses = s.fuses := (rfl)
@[simp] theorem State.setRst_hamper (f : ResetState → ResetState) : (s.setRst f).hamper = s.hamper := (rfl)
@[simp] theorem State.setRst_hmp (f : ResetState → ResetState) : (s.setRst f).hmp = s.hmp := (rfl)
@[simp] theorem State.setRst_stations (f : ResetState → ResetState) : (s.setRst f).stations = s.stations := (rfl)
@[simp] theorem State.setRst_out (f : ResetState → ResetState) : (s.setRst f).out = s.out := (rfl)
@[simp] theorem State.setRst_freeCount (f : ResetState → ResetState) : (s.setRst f).freeCount = s.freeCount := (rfl)

/-! ## setHamper -/

@[simp] theorem State.setHamper_pending (f : Hamper → Hamper) : (s.setHamper f).pending = s.pending := (rfl)
@[simp] theorem State.setHamper_regs (f : Hamper → Hamper) : (s.setHamper f).regs = s.regs := (rfl)
@[simp] theorem State.setHamper_blobs (f : Hamper → Hamper) : (s.setHamper f).blobs = s.blobs := (rfl)
@[simp] theorem State.setHamper_time (f : Hamper → Hamper) : (s.setHamper f).time = s.time := (rfl)
@[simp] theorem State.setHamper_timers (f : Hamper → Hamper) : (s.setHamper f).timers = s.timers := (rfl)
@[simp] theorem State.setHamper_merge (f : Hamper → Hamper) : (s.setHamper f).merge = s.merge := (rfl)
@[simp] theorem State.setHamper_house (f : Hamper → Hamper) : (s.setHamper f).house = s.house := (rfl)
@[simp] theorem State.setHamper_ports (f : Hamper → Hamper) : (s.setHamper f).ports = s.ports := (rfl)
@[simp] theorem State.setHamper_qm (f : Hamper → Hamper) : (s.setHamper f).qm = s.qm := (rfl)
@[simp] theorem State.setHamper_pf (f : Hamper → Hamper) : (s.setHamper f).pf = s.pf := (rfl)
@[simp] theorem State.setHamper_casc (f : Hamper → Hamper) : (s.setHamper f).casc = s.casc := (rfl)
@[simp] theorem State.setHamper_iz (f : Hamper → Hamper) : (s.setHamper f).iz = s.iz := (rfl)
@[simp] theorem State.setHamper_power (f : Hamper → Hamper) : (s.setHamper f).power = s.power := (rfl)
@[simp] theorem State.setHamper_faults (f : Hamper → Hamper) : (s.setHamper f).faults = s.faults := (rfl)
@[simp] theorem State.setHamper_fuses (f : Hamper → Hamper) : (s.setHamper f).fuses = s.fuses := (rfl)
@[simp] theorem State.setHamper_rst (f : Hamper → Hamper) : (s.setHamper f).rst = s.rst := (rfl)
@[simp] theorem State.setHamper_hmp (f : Hamper → Hamper) : (s.setHamper f).hmp = s.hmp := (rfl)
@[simp] theorem State.setHamper_stations (f : Hamper → Hamper) : (s.setHamper f).stations = s.stations := (rfl)
@[simp] theorem State.setHamper_out (f : Hamper → Hamper) : (s.setHamper f).out = s.out := (rfl)
@[simp] theorem State.setHamper_freeCount (f : Hamper → Hamper) : (s.setHamper f).freeCount = s.freeCount := (rfl)

/-! ## setHmp -/

@[simp] theorem State.setHmp_pending (f : HmpState → HmpState) : (s.setHmp f).pending = s.pending := (rfl)
@[simp] theorem State.setHmp_regs (f : HmpState → HmpState) : (s.setHmp f).regs = s.regs := (rfl)
@[simp] theorem State.setHmp_blobs (f : HmpState → HmpState) : (s.setHmp f).blobs = s.blobs := (rfl)
@[simp] theorem State.setHmp_time (f : HmpState → HmpState) : (s.setHmp f).time = s.time := (rfl)
@[simp] theorem State.setHmp_timers (f : HmpState → HmpState) : (s.setHmp f).timers = s.timers := (rfl)
@[simp] theorem State.setHmp_merge (f : HmpState → HmpState) : (s.setHmp f).merge = s.merge := (rfl)
@[simp] theorem State.setHmp_house (f : HmpState → HmpState) : (s.setHmp f).house = s.house := (rfl)
@[simp] theorem State.setHmp_ports (f : HmpState → HmpState) : (s.setHmp f).ports = s.ports := (rfl)
@[simp] theorem State.setHmp_qm (f : HmpState → HmpState) : (s.setHmp f).qm = s.qm := (rfl)
@[simp] theorem State.setHmp_pf (f : HmpState → HmpState) : (s.setHmp f).pf = s.pf := (rfl)
@[simp] theorem State.setHmp_casc (f : HmpState → HmpState) : (s.setHmp f).casc = s.casc := (rfl)
@[simp] theorem State.setHmp_iz (f : HmpState → HmpState) : (s.setHmp f).iz = s.iz := (rfl)
@[simp] theorem State.setHmp_power (f : HmpState → HmpState) : (s.setHmp f).power = s.power := (rfl)
@[simp] theorem State.setHmp_faults (f : HmpState → HmpState) : (s.setHmp f).faults = s.faults := (rfl)
@[simp] theorem State.setHmp_fuses (f : HmpState → HmpState) : (s.setHmp f).fuses = s.fuses := (rfl)
@[simp] theorem State.setHmp_rst (f : HmpState → HmpState) : (s.setHmp f).rst = s.rst := (rfl)
@[simp] theorem State.setHmp_hamper (f : HmpState → HmpState) : (s.setHmp f).hamper = s.hamper := (rfl)
@[simp] theorem State.setHmp_stations (f : HmpState → HmpState) : (s.setHmp f).stations = s.stations := (rfl)
@[simp] theorem State.setHmp_out (f : HmpState → HmpState) : (s.setHmp f).out = s.out := (rfl)
@[simp] theorem State.setHmp_freeCount (f : HmpState → HmpState) : (s.setHmp f).freeCount = s.freeCount := (rfl)

/-! ## issueAt -/

@[simp] theorem State.issueAt_pending (t : Stamp) (src ty : Nat) (b : Bytes) (fl : Nat) : (s.issueAt t src ty b fl).pending = s.pending := (rfl)
@[simp] theorem State.issueAt_regs (t : Stamp) (src ty : Nat) (b : Bytes) (fl : Nat) : (s.issueAt t src ty b fl).regs = s.regs := (rfl)
@[simp] theorem State.issueAt_blobs (t : Stamp) (src ty : Nat) (b : Bytes) (fl : Nat) : (s.issueAt t src ty b fl).blobs = s.blobs := (rfl)
@[simp] theorem State.issueAt_time (t : Stamp) (src ty : Nat) (b : Bytes) (fl : Nat) : (s.issueAt t src ty b fl).time = s.time := (rfl)
@[simp] theorem State.issueAt_timers (t : Stamp) (src ty : Nat) (b : Bytes) (fl : Nat) : (s.issueAt t src ty b fl).timers = s.timers := (rfl)
@[simp] theorem State.issueAt_house (t : Stamp) (src ty : Nat) (b : Bytes) (fl : Nat) : (s.issueAt t src ty b fl).house = s.house := (rfl)
@[simp] theorem State.issueAt_ports (t : Stamp) (src ty : Nat) (b : Bytes) (fl : Nat) : (s.issueAt t src ty b fl).ports = s.ports := (rfl)
@[simp] theorem State.issueAt_qm (t : Stamp) (src ty : Nat) (b : Bytes) (fl : Nat) : (s.issueAt t src ty b fl).qm = s.qm := (rfl)
@[simp] theorem State.issueAt_pf (t : Stamp) (src ty : Nat) (b : Bytes) (fl : Nat) : (s.issueAt t src ty b fl).pf = s.pf := (rfl)
@[simp] theorem State.issueAt_casc (t : Stamp) (src ty : Nat) (b : Bytes) (fl : Nat) : (s.issueAt t src ty b fl).casc = s.casc := (rfl)
@[simp] theorem State.issueAt_iz (t : Stamp) (src ty : Nat) (b : Bytes) (fl : Nat) : (s.issueAt t src ty b fl).iz = s.iz := (rfl)
@[simp] theorem State.issueAt_power (t : Stamp) (src ty : Nat) (b : Bytes) (fl : Nat) : (s.issueAt t src ty b fl).power = s.power := (rfl)
@[simp] theorem State.issueAt_faults (t : Stamp) (src ty : Nat) (b : Bytes) (fl : Nat) : (s.issueAt t src ty b fl).faults = s.faults := (rfl)
@[simp] theorem State.issueAt_fuses (t : Stamp) (src ty : Nat) (b : Bytes) (fl : Nat) : (s.issueAt t src ty b fl).fuses = s.fuses := (rfl)
@[simp] theorem State.issueAt_rst (t : Stamp) (src ty : Nat) (b : Bytes) (fl : Nat) : (s.issueAt t src ty b fl).rst = s.rst := (rfl)
@[simp] theorem State.issueAt_hamper (t : Stamp) (src ty : Nat) (b : Bytes) (fl : Nat) : (s.issueAt t src ty b fl).hamper = s.hamper := (rfl)
@[simp] theorem State.issueAt_hmp (t : Stamp) (src ty : Nat) (b : Bytes) (fl : Nat) : (s.issueAt t src ty b fl).hmp = s.hmp := (rfl)
@[simp] theorem State.issueAt_stations (t : Stamp) (src ty : Nat) (b : Bytes) (fl : Nat) : (s.issueAt t src ty b fl).stations = s.stations := (rfl)
@[simp] theorem State.issueAt_out (t : Stamp) (src ty : Nat) (b : Bytes) (fl : Nat) : (s.issueAt t src ty b fl).out = s.out := (rfl)
@[simp] theorem State.issueAt_freeCount (t : Stamp) (src ty : Nat) (b : Bytes) (fl : Nat) : (s.issueAt t src ty b fl).freeCount = s.freeCount := (rfl)

/-! ## issue -/

@[simp] theorem State.issue_pending (src ty : Nat) (b : Bytes) : (s.issue src ty b).pending = s.pending := (rfl)
@[simp] theorem State.issue_regs (src ty : Nat) (b : Bytes) : (s.issue src ty b).regs = s.regs := (rfl)
@[simp] theorem State.issue_blobs (src ty : Nat) (b : Bytes) : (s.issue src ty b).blobs = s.blobs := (rfl)
@[simp] theorem State.issue_time (src ty : Nat) (b : Bytes) : (s.issue src ty b).time = s.time := (rfl)
@[simp] theorem State.issue_timers (src ty : Nat) (b : Bytes) : (s.issue src ty b).timers = s.timers := (rfl)
@[simp] theorem State.issue_house (src ty : Nat) (b : Bytes) : (s.issue src ty b).house = s.house := (rfl)
@[simp] theorem State.issue_ports (src ty : Nat) (b : Bytes) : (s.issue src ty b).ports = s.ports := (rfl)
@[simp] theorem State.issue_qm (src ty : Nat) (b : Bytes) : (s.issue src ty b).qm = s.qm := (rfl)
@[simp] theorem State.issue_pf (src ty : Nat) (b : Bytes) : (s.issue src ty b).pf = s.pf := (rfl)
@[simp] theorem State.issue_casc (src ty : Nat) (b : Bytes) : (s.issue src ty b).casc = s.casc := (rfl)
@[simp] theorem State.issue_iz (src ty : Nat) (b : Bytes) : (s.issue src ty b).iz = s.iz := (rfl)
@[simp] theorem State.issue_power (src ty : Nat) (b : Bytes) : (s.issue src ty b).power = s.power := (rfl)
@[simp] theorem State.issue_faults (src ty : Nat) (b : Bytes) : (s.issue src ty b).faults = s.faults := (rfl)
@[simp] theorem State.issue_fuses (src ty : Nat) (b : Bytes) : (s.issue src ty b).fuses = s.fuses := (rfl)
@[simp] theorem State.issue_rst (src ty : Nat) (b : Bytes) : (s.issue src ty b).rst = s.rst := (rfl)
@[simp] theorem State.issue_hamper (src ty : Nat) (b : Bytes) : (s.issue src ty b).hamper = s.hamper := (rfl)
@[simp] theorem State.issue_hmp (src ty : Nat) (b : Bytes) : (s.issue src ty b).hmp = s.hmp := (rfl)
@[simp] theorem State.issue_stations (src ty : Nat) (b : Bytes) : (s.issue src ty b).stations = s.stations := (rfl)
@[simp] theorem State.issue_out (src ty : Nat) (b : Bytes) : (s.issue src ty b).out = s.out := (rfl)
@[simp] theorem State.issue_freeCount (src ty : Nat) (b : Bytes) : (s.issue src ty b).freeCount = s.freeCount := (rfl)

/-! ## What a change of a part gives -/

@[simp] theorem State.setTime_time (f : TimeState → TimeState) : (s.setTime f).time = f s.time := (rfl)
@[simp] theorem State.setMerge_merge (f : MergeState → MergeState) : (s.setMerge f).merge = f s.merge := (rfl)
@[simp] theorem State.setHouse_house (f : HouseState → HouseState) : (s.setHouse f).house = f s.house := (rfl)
@[simp] theorem State.setQm_qm (f : QmState → QmState) : (s.setQm f).qm = f s.qm := (rfl)
@[simp] theorem State.setCasc_casc (f : CascState → CascState) : (s.setCasc f).casc = f s.casc := (rfl)
@[simp] theorem State.setIz_iz (f : IzState → IzState) : (s.setIz f).iz = f s.iz := (rfl)
@[simp] theorem State.setPower_power (f : PowerState → PowerState) : (s.setPower f).power = f s.power := (rfl)
@[simp] theorem State.setFaults_faults (f : FaultState → FaultState) : (s.setFaults f).faults = f s.faults := (rfl)
@[simp] theorem State.setFuses_fuses (f : Fuses → Fuses) : (s.setFuses f).fuses = f s.fuses := (rfl)
@[simp] theorem State.setRst_rst (f : ResetState → ResetState) : (s.setRst f).rst = f s.rst := (rfl)
@[simp] theorem State.setHamper_hamper (f : Hamper → Hamper) : (s.setHamper f).hamper = f s.hamper := (rfl)
@[simp] theorem State.setHmp_hmp (f : HmpState → HmpState) : (s.setHmp f).hmp = f s.hmp := (rfl)

/-! ## What a command leaves of the state it found -/

@[simp] theorem State.keep_pending (t : State) : (t.keep s).pending = s.pending := (rfl)
@[simp] theorem State.keep_regs (t : State) : (t.keep s).regs = t.regs := (rfl)
@[simp] theorem State.keep_blobs (t : State) : (t.keep s).blobs = t.blobs := (rfl)
@[simp] theorem State.keep_time (t : State) : (t.keep s).time = t.time := (rfl)
@[simp] theorem State.keep_timers (t : State) : (t.keep s).timers = t.timers := (rfl)
@[simp] theorem State.keep_merge (t : State) : (t.keep s).merge = t.merge := (rfl)
@[simp] theorem State.keep_house (t : State) : (t.keep s).house = t.house := (rfl)
@[simp] theorem State.keep_ports (t : State) : (t.keep s).ports = t.ports := (rfl)
@[simp] theorem State.keep_qm (t : State) : (t.keep s).qm = t.qm := (rfl)
@[simp] theorem State.keep_pf (t : State) : (t.keep s).pf = t.pf := (rfl)
@[simp] theorem State.keep_casc (t : State) : (t.keep s).casc = t.casc := (rfl)
@[simp] theorem State.keep_iz (t : State) : (t.keep s).iz = t.iz := (rfl)
@[simp] theorem State.keep_power (t : State) : (t.keep s).power = t.power := (rfl)
@[simp] theorem State.keep_faults (t : State) : (t.keep s).faults = t.faults := (rfl)
@[simp] theorem State.keep_fuses (t : State) : (t.keep s).fuses = s.fuses := (rfl)
@[simp] theorem State.keep_rst (t : State) : (t.keep s).rst = t.rst := (rfl)
@[simp] theorem State.keep_hamper (t : State) : (t.keep s).hamper = s.hamper := (rfl)
@[simp] theorem State.keep_hmp (t : State) : (t.keep s).hmp = t.hmp := (rfl)
@[simp] theorem State.keep_stations (t : State) : (t.keep s).stations = t.stations := (rfl)
@[simp] theorem State.keep_out (t : State) : (t.keep s).out = t.out := (rfl)
@[simp] theorem State.keep_freeCount (t : State) : (t.keep s).freeCount = t.freeCount := (rfl)
@[simp] theorem State.keepHamper_pending (t : State) : (t.keepHamper s).pending = s.pending := (rfl)
@[simp] theorem State.keepHamper_regs (t : State) : (t.keepHamper s).regs = t.regs := (rfl)
@[simp] theorem State.keepHamper_blobs (t : State) : (t.keepHamper s).blobs = t.blobs := (rfl)
@[simp] theorem State.keepHamper_time (t : State) : (t.keepHamper s).time = t.time := (rfl)
@[simp] theorem State.keepHamper_timers (t : State) : (t.keepHamper s).timers = t.timers := (rfl)
@[simp] theorem State.keepHamper_merge (t : State) : (t.keepHamper s).merge = t.merge := (rfl)
@[simp] theorem State.keepHamper_house (t : State) : (t.keepHamper s).house = t.house := (rfl)
@[simp] theorem State.keepHamper_ports (t : State) : (t.keepHamper s).ports = t.ports := (rfl)
@[simp] theorem State.keepHamper_qm (t : State) : (t.keepHamper s).qm = t.qm := (rfl)
@[simp] theorem State.keepHamper_pf (t : State) : (t.keepHamper s).pf = t.pf := (rfl)
@[simp] theorem State.keepHamper_casc (t : State) : (t.keepHamper s).casc = t.casc := (rfl)
@[simp] theorem State.keepHamper_iz (t : State) : (t.keepHamper s).iz = t.iz := (rfl)
@[simp] theorem State.keepHamper_power (t : State) : (t.keepHamper s).power = t.power := (rfl)
@[simp] theorem State.keepHamper_faults (t : State) : (t.keepHamper s).faults = t.faults := (rfl)
@[simp] theorem State.keepHamper_fuses (t : State) : (t.keepHamper s).fuses = t.fuses := (rfl)
@[simp] theorem State.keepHamper_rst (t : State) : (t.keepHamper s).rst = t.rst := (rfl)
@[simp] theorem State.keepHamper_hamper (t : State) : (t.keepHamper s).hamper = s.hamper := (rfl)
@[simp] theorem State.keepHamper_hmp (t : State) : (t.keepHamper s).hmp = t.hmp := (rfl)
@[simp] theorem State.keepHamper_stations (t : State) : (t.keepHamper s).stations = t.stations := (rfl)
@[simp] theorem State.keepHamper_out (t : State) : (t.keepHamper s).out = t.out := (rfl)
@[simp] theorem State.keepHamper_freeCount (t : State) : (t.keepHamper s).freeCount = t.freeCount := (rfl)
@[simp] theorem State.keepFuses_pending (t : State) : (t.keepFuses s).pending = s.pending := (rfl)
@[simp] theorem State.keepFuses_regs (t : State) : (t.keepFuses s).regs = t.regs := (rfl)
@[simp] theorem State.keepFuses_blobs (t : State) : (t.keepFuses s).blobs = t.blobs := (rfl)
@[simp] theorem State.keepFuses_time (t : State) : (t.keepFuses s).time = t.time := (rfl)
@[simp] theorem State.keepFuses_timers (t : State) : (t.keepFuses s).timers = t.timers := (rfl)
@[simp] theorem State.keepFuses_merge (t : State) : (t.keepFuses s).merge = t.merge := (rfl)
@[simp] theorem State.keepFuses_house (t : State) : (t.keepFuses s).house = t.house := (rfl)
@[simp] theorem State.keepFuses_ports (t : State) : (t.keepFuses s).ports = t.ports := (rfl)
@[simp] theorem State.keepFuses_qm (t : State) : (t.keepFuses s).qm = t.qm := (rfl)
@[simp] theorem State.keepFuses_pf (t : State) : (t.keepFuses s).pf = t.pf := (rfl)
@[simp] theorem State.keepFuses_casc (t : State) : (t.keepFuses s).casc = t.casc := (rfl)
@[simp] theorem State.keepFuses_iz (t : State) : (t.keepFuses s).iz = t.iz := (rfl)
@[simp] theorem State.keepFuses_power (t : State) : (t.keepFuses s).power = t.power := (rfl)
@[simp] theorem State.keepFuses_faults (t : State) : (t.keepFuses s).faults = t.faults := (rfl)
@[simp] theorem State.keepFuses_fuses (t : State) : (t.keepFuses s).fuses = s.fuses := (rfl)
@[simp] theorem State.keepFuses_rst (t : State) : (t.keepFuses s).rst = t.rst := (rfl)
@[simp] theorem State.keepFuses_hamper (t : State) : (t.keepFuses s).hamper = t.hamper := (rfl)
@[simp] theorem State.keepFuses_hmp (t : State) : (t.keepFuses s).hmp = t.hmp := (rfl)
@[simp] theorem State.keepFuses_stations (t : State) : (t.keepFuses s).stations = t.stations := (rfl)
@[simp] theorem State.keepFuses_out (t : State) : (t.keepFuses s).out = t.out := (rfl)
@[simp] theorem State.keepFuses_freeCount (t : State) : (t.keepFuses s).freeCount = t.freeCount := (rfl)
/-! ## Free values -/

@[simp] theorem State.free_pending (m : Nat) : (s.free m).2.pending = s.pending := (rfl)
@[simp] theorem State.free_regs (m : Nat) : (s.free m).2.regs = s.regs := (rfl)
@[simp] theorem State.free_blobs (m : Nat) : (s.free m).2.blobs = s.blobs := (rfl)
@[simp] theorem State.free_time (m : Nat) : (s.free m).2.time = s.time := (rfl)
@[simp] theorem State.free_timers (m : Nat) : (s.free m).2.timers = s.timers := (rfl)
@[simp] theorem State.free_merge (m : Nat) : (s.free m).2.merge = s.merge := (rfl)
@[simp] theorem State.free_house (m : Nat) : (s.free m).2.house = s.house := (rfl)
@[simp] theorem State.free_ports (m : Nat) : (s.free m).2.ports = s.ports := (rfl)
@[simp] theorem State.free_qm (m : Nat) : (s.free m).2.qm = s.qm := (rfl)
@[simp] theorem State.free_pf (m : Nat) : (s.free m).2.pf = s.pf := (rfl)
@[simp] theorem State.free_casc (m : Nat) : (s.free m).2.casc = s.casc := (rfl)
@[simp] theorem State.free_iz (m : Nat) : (s.free m).2.iz = s.iz := (rfl)
@[simp] theorem State.free_power (m : Nat) : (s.free m).2.power = s.power := (rfl)
@[simp] theorem State.free_faults (m : Nat) : (s.free m).2.faults = s.faults := (rfl)
@[simp] theorem State.free_fuses (m : Nat) : (s.free m).2.fuses = s.fuses := (rfl)
@[simp] theorem State.free_rst (m : Nat) : (s.free m).2.rst = s.rst := (rfl)
@[simp] theorem State.free_hamper (m : Nat) : (s.free m).2.hamper = s.hamper := (rfl)
@[simp] theorem State.free_hmp (m : Nat) : (s.free m).2.hmp = s.hmp := (rfl)
@[simp] theorem State.free_stations (m : Nat) : (s.free m).2.stations = s.stations := (rfl)
@[simp] theorem State.free_out (m : Nat) : (s.free m).2.out = s.out := (rfl)
@[simp] theorem State.freeBytes_pending (n : Nat) : (s.freeBytes n).2.pending = s.pending := (rfl)
@[simp] theorem State.freeBytes_regs (n : Nat) : (s.freeBytes n).2.regs = s.regs := (rfl)
@[simp] theorem State.freeBytes_blobs (n : Nat) : (s.freeBytes n).2.blobs = s.blobs := (rfl)
@[simp] theorem State.freeBytes_time (n : Nat) : (s.freeBytes n).2.time = s.time := (rfl)
@[simp] theorem State.freeBytes_timers (n : Nat) : (s.freeBytes n).2.timers = s.timers := (rfl)
@[simp] theorem State.freeBytes_merge (n : Nat) : (s.freeBytes n).2.merge = s.merge := (rfl)
@[simp] theorem State.freeBytes_house (n : Nat) : (s.freeBytes n).2.house = s.house := (rfl)
@[simp] theorem State.freeBytes_ports (n : Nat) : (s.freeBytes n).2.ports = s.ports := (rfl)
@[simp] theorem State.freeBytes_qm (n : Nat) : (s.freeBytes n).2.qm = s.qm := (rfl)
@[simp] theorem State.freeBytes_pf (n : Nat) : (s.freeBytes n).2.pf = s.pf := (rfl)
@[simp] theorem State.freeBytes_casc (n : Nat) : (s.freeBytes n).2.casc = s.casc := (rfl)
@[simp] theorem State.freeBytes_iz (n : Nat) : (s.freeBytes n).2.iz = s.iz := (rfl)
@[simp] theorem State.freeBytes_power (n : Nat) : (s.freeBytes n).2.power = s.power := (rfl)
@[simp] theorem State.freeBytes_faults (n : Nat) : (s.freeBytes n).2.faults = s.faults := (rfl)
@[simp] theorem State.freeBytes_fuses (n : Nat) : (s.freeBytes n).2.fuses = s.fuses := (rfl)
@[simp] theorem State.freeBytes_rst (n : Nat) : (s.freeBytes n).2.rst = s.rst := (rfl)
@[simp] theorem State.freeBytes_hamper (n : Nat) : (s.freeBytes n).2.hamper = s.hamper := (rfl)
@[simp] theorem State.freeBytes_hmp (n : Nat) : (s.freeBytes n).2.hmp = s.hmp := (rfl)
@[simp] theorem State.freeBytes_stations (n : Nat) : (s.freeBytes n).2.stations = s.stations := (rfl)
@[simp] theorem State.freeBytes_out (n : Nat) : (s.freeBytes n).2.out = s.out := (rfl)
@[simp] theorem State.free_freeCount (m : Nat) : (s.free m).2.freeCount = s.freeCount + 1 := (rfl)

/-! ## Faults raised -/

@[simp] theorem State.raiseAs_pending (r : FaultReport) (v : Nat) (b : Bool) : (s.raiseAs r v b).pending = s.pending := by
  unfold State.raiseAs; dsimp only; split <;> [rfl; (split <;> rfl)]
@[simp] theorem State.raiseAs_regs (r : FaultReport) (v : Nat) (b : Bool) : (s.raiseAs r v b).regs = s.regs := by
  unfold State.raiseAs; dsimp only; split <;> [rfl; (split <;> rfl)]
@[simp] theorem State.raiseAs_blobs (r : FaultReport) (v : Nat) (b : Bool) : (s.raiseAs r v b).blobs = s.blobs := by
  unfold State.raiseAs; dsimp only; split <;> [rfl; (split <;> rfl)]
@[simp] theorem State.raiseAs_time (r : FaultReport) (v : Nat) (b : Bool) : (s.raiseAs r v b).time = s.time := by
  unfold State.raiseAs; dsimp only; split <;> [rfl; (split <;> rfl)]
@[simp] theorem State.raiseAs_timers (r : FaultReport) (v : Nat) (b : Bool) : (s.raiseAs r v b).timers = s.timers := by
  unfold State.raiseAs; dsimp only; split <;> [rfl; (split <;> rfl)]
@[simp] theorem State.raiseAs_merge (r : FaultReport) (v : Nat) (b : Bool) : (s.raiseAs r v b).merge = s.merge := by
  unfold State.raiseAs; dsimp only; split <;> [rfl; (split <;> rfl)]
@[simp] theorem State.raiseAs_house (r : FaultReport) (v : Nat) (b : Bool) : (s.raiseAs r v b).house = s.house := by
  unfold State.raiseAs; dsimp only; split <;> [rfl; (split <;> rfl)]
@[simp] theorem State.raiseAs_ports (r : FaultReport) (v : Nat) (b : Bool) : (s.raiseAs r v b).ports = s.ports := by
  unfold State.raiseAs; dsimp only; split <;> [rfl; (split <;> rfl)]
@[simp] theorem State.raiseAs_qm (r : FaultReport) (v : Nat) (b : Bool) : (s.raiseAs r v b).qm = s.qm := by
  unfold State.raiseAs; dsimp only; split <;> [rfl; (split <;> rfl)]
@[simp] theorem State.raiseAs_pf (r : FaultReport) (v : Nat) (b : Bool) : (s.raiseAs r v b).pf = s.pf := by
  unfold State.raiseAs; dsimp only; split <;> [rfl; (split <;> rfl)]
@[simp] theorem State.raiseAs_casc (r : FaultReport) (v : Nat) (b : Bool) : (s.raiseAs r v b).casc = s.casc := by
  unfold State.raiseAs; dsimp only; split <;> [rfl; (split <;> rfl)]
@[simp] theorem State.raiseAs_iz (r : FaultReport) (v : Nat) (b : Bool) : (s.raiseAs r v b).iz = s.iz := by
  unfold State.raiseAs; dsimp only; split <;> [rfl; (split <;> rfl)]
@[simp] theorem State.raiseAs_power (r : FaultReport) (v : Nat) (b : Bool) : (s.raiseAs r v b).power = s.power := by
  unfold State.raiseAs; dsimp only; split <;> [rfl; (split <;> rfl)]
@[simp] theorem State.raiseAs_fuses (r : FaultReport) (v : Nat) (b : Bool) : (s.raiseAs r v b).fuses = s.fuses := by
  unfold State.raiseAs; dsimp only; split <;> [rfl; (split <;> rfl)]
@[simp] theorem State.raiseAs_rst (r : FaultReport) (v : Nat) (b : Bool) : (s.raiseAs r v b).rst = s.rst := by
  unfold State.raiseAs; dsimp only; split <;> [rfl; (split <;> rfl)]
@[simp] theorem State.raiseAs_hamper (r : FaultReport) (v : Nat) (b : Bool) : (s.raiseAs r v b).hamper = s.hamper := by
  unfold State.raiseAs; dsimp only; split <;> [rfl; (split <;> rfl)]
@[simp] theorem State.raiseAs_hmp (r : FaultReport) (v : Nat) (b : Bool) : (s.raiseAs r v b).hmp = s.hmp := by
  unfold State.raiseAs; dsimp only; split <;> [rfl; (split <;> rfl)]
@[simp] theorem State.raiseAs_stations (r : FaultReport) (v : Nat) (b : Bool) : (s.raiseAs r v b).stations = s.stations := by
  unfold State.raiseAs; dsimp only; split <;> [rfl; (split <;> rfl)]
@[simp] theorem State.raiseAs_out (r : FaultReport) (v : Nat) (b : Bool) : (s.raiseAs r v b).out = s.out := by
  unfold State.raiseAs; dsimp only; split <;> [rfl; (split <;> rfl)]
@[simp] theorem State.raiseAs_freeCount (r : FaultReport) (v : Nat) (b : Bool) : (s.raiseAs r v b).freeCount = s.freeCount := by
  unfold State.raiseAs; dsimp only; split <;> [rfl; (split <;> rfl)]
@[simp] theorem State.raise_pending (src c k u d : Nat) : (s.raise src c k u d).pending = s.pending := State.raiseAs_pending s _ _ _
@[simp] theorem State.raise_regs (src c k u d : Nat) : (s.raise src c k u d).regs = s.regs := State.raiseAs_regs s _ _ _
@[simp] theorem State.raise_blobs (src c k u d : Nat) : (s.raise src c k u d).blobs = s.blobs := State.raiseAs_blobs s _ _ _
@[simp] theorem State.raise_time (src c k u d : Nat) : (s.raise src c k u d).time = s.time := State.raiseAs_time s _ _ _
@[simp] theorem State.raise_timers (src c k u d : Nat) : (s.raise src c k u d).timers = s.timers := State.raiseAs_timers s _ _ _
@[simp] theorem State.raise_merge (src c k u d : Nat) : (s.raise src c k u d).merge = s.merge := State.raiseAs_merge s _ _ _
@[simp] theorem State.raise_house (src c k u d : Nat) : (s.raise src c k u d).house = s.house := State.raiseAs_house s _ _ _
@[simp] theorem State.raise_ports (src c k u d : Nat) : (s.raise src c k u d).ports = s.ports := State.raiseAs_ports s _ _ _
@[simp] theorem State.raise_qm (src c k u d : Nat) : (s.raise src c k u d).qm = s.qm := State.raiseAs_qm s _ _ _
@[simp] theorem State.raise_pf (src c k u d : Nat) : (s.raise src c k u d).pf = s.pf := State.raiseAs_pf s _ _ _
@[simp] theorem State.raise_casc (src c k u d : Nat) : (s.raise src c k u d).casc = s.casc := State.raiseAs_casc s _ _ _
@[simp] theorem State.raise_iz (src c k u d : Nat) : (s.raise src c k u d).iz = s.iz := State.raiseAs_iz s _ _ _
@[simp] theorem State.raise_power (src c k u d : Nat) : (s.raise src c k u d).power = s.power := State.raiseAs_power s _ _ _
@[simp] theorem State.raise_fuses (src c k u d : Nat) : (s.raise src c k u d).fuses = s.fuses := State.raiseAs_fuses s _ _ _
@[simp] theorem State.raise_rst (src c k u d : Nat) : (s.raise src c k u d).rst = s.rst := State.raiseAs_rst s _ _ _
@[simp] theorem State.raise_hamper (src c k u d : Nat) : (s.raise src c k u d).hamper = s.hamper := State.raiseAs_hamper s _ _ _
@[simp] theorem State.raise_hmp (src c k u d : Nat) : (s.raise src c k u d).hmp = s.hmp := State.raiseAs_hmp s _ _ _
@[simp] theorem State.raise_stations (src c k u d : Nat) : (s.raise src c k u d).stations = s.stations := State.raiseAs_stations s _ _ _
@[simp] theorem State.raise_out (src c k u d : Nat) : (s.raise src c k u d).out = s.out := State.raiseAs_out s _ _ _
@[simp] theorem State.raise_freeCount (src c k u d : Nat) : (s.raise src c k u d).freeCount = s.freeCount := State.raiseAs_freeCount s _ _ _
@[simp] theorem State.raiseLine_pending (p : Port) (k d : Nat) : (s.raiseLine p k d).pending = s.pending := State.raiseAs_pending s _ _ _
@[simp] theorem State.raiseLine_regs (p : Port) (k d : Nat) : (s.raiseLine p k d).regs = s.regs := State.raiseAs_regs s _ _ _
@[simp] theorem State.raiseLine_blobs (p : Port) (k d : Nat) : (s.raiseLine p k d).blobs = s.blobs := State.raiseAs_blobs s _ _ _
@[simp] theorem State.raiseLine_time (p : Port) (k d : Nat) : (s.raiseLine p k d).time = s.time := State.raiseAs_time s _ _ _
@[simp] theorem State.raiseLine_timers (p : Port) (k d : Nat) : (s.raiseLine p k d).timers = s.timers := State.raiseAs_timers s _ _ _
@[simp] theorem State.raiseLine_merge (p : Port) (k d : Nat) : (s.raiseLine p k d).merge = s.merge := State.raiseAs_merge s _ _ _
@[simp] theorem State.raiseLine_house (p : Port) (k d : Nat) : (s.raiseLine p k d).house = s.house := State.raiseAs_house s _ _ _
@[simp] theorem State.raiseLine_ports (p : Port) (k d : Nat) : (s.raiseLine p k d).ports = s.ports := State.raiseAs_ports s _ _ _
@[simp] theorem State.raiseLine_qm (p : Port) (k d : Nat) : (s.raiseLine p k d).qm = s.qm := State.raiseAs_qm s _ _ _
@[simp] theorem State.raiseLine_pf (p : Port) (k d : Nat) : (s.raiseLine p k d).pf = s.pf := State.raiseAs_pf s _ _ _
@[simp] theorem State.raiseLine_casc (p : Port) (k d : Nat) : (s.raiseLine p k d).casc = s.casc := State.raiseAs_casc s _ _ _
@[simp] theorem State.raiseLine_iz (p : Port) (k d : Nat) : (s.raiseLine p k d).iz = s.iz := State.raiseAs_iz s _ _ _
@[simp] theorem State.raiseLine_power (p : Port) (k d : Nat) : (s.raiseLine p k d).power = s.power := State.raiseAs_power s _ _ _
@[simp] theorem State.raiseLine_fuses (p : Port) (k d : Nat) : (s.raiseLine p k d).fuses = s.fuses := State.raiseAs_fuses s _ _ _
@[simp] theorem State.raiseLine_rst (p : Port) (k d : Nat) : (s.raiseLine p k d).rst = s.rst := State.raiseAs_rst s _ _ _
@[simp] theorem State.raiseLine_hamper (p : Port) (k d : Nat) : (s.raiseLine p k d).hamper = s.hamper := State.raiseAs_hamper s _ _ _
@[simp] theorem State.raiseLine_hmp (p : Port) (k d : Nat) : (s.raiseLine p k d).hmp = s.hmp := State.raiseAs_hmp s _ _ _
@[simp] theorem State.raiseLine_stations (p : Port) (k d : Nat) : (s.raiseLine p k d).stations = s.stations := State.raiseAs_stations s _ _ _
@[simp] theorem State.raiseLine_out (p : Port) (k d : Nat) : (s.raiseLine p k d).out = s.out := State.raiseAs_out s _ _ _
@[simp] theorem State.raiseLine_freeCount (p : Port) (k d : Nat) : (s.raiseLine p k d).freeCount = s.freeCount := State.raiseAs_freeCount s _ _ _

/-- A catalogued fault of one of its sources whose replica is aligned (R36) waits for its decision, stamped now, behind
those that wait already. -/
theorem State.raise_waits {src c k u d sev : Nat} (h : catalogueSeverity c k = some sev) (hs : sourceOf c k src = true)
    (ha : src ∉ s.time.unaligned) :
    (s.raise src c k u d).faults.pending = s.faults.pending ++ [⟨s.now, ⟨src, c, k, u, d⟩, sev, false⟩] := by
  simp [State.raise, State.raiseAs, h, hs, ha]

/-- A fault of a source whose replica is not aligned waits for its stamp (R36). -/
theorem State.raise_unstamped {src c k u d sev : Nat} (h : catalogueSeverity c k = some sev) (hs : sourceOf c k src = true)
    (ha : src ∈ s.time.unaligned) :
    (s.raise src c k u d).faults.unstamped = s.faults.unstamped ++ [⟨s.now, ⟨src, c, k, u, d⟩, sev, false⟩]
      ∧ (s.raise src c k u d).faults.pending = s.faults.pending := by
  simp [State.raise, State.raiseAs, h, hs, ha]

/-- The same of a LINE fault of a port. -/
theorem State.raiseLine_waits {p : Port} {k d sev : Nat} (h : catalogueSeverity clsLine k = some sev)
    (hs : sourceOf clsLine k (srcLine p) = true) (ha : srcLine p ∉ s.time.unaligned) :
    (s.raiseLine p k d).faults.pending = s.faults.pending ++ [⟨s.now, ⟨srcLine p, clsLine, k, p.val, d⟩, sev, false⟩] :=
  State.raise_waits s h hs ha

/-! ## Reading objects -/

/-- The value of a number reads the registers only. -/
theorem State.rd_congr {s t : State} (h : t.regs = s.regs) (o : Obj) (p e : Nat) : t.rd o p e = s.rd o p e := by
  simp [State.rd, h]

/-- The value of a BLOB reads the blobs only. -/
theorem State.rdB_congr {s t : State} (h : t.blobs = s.blobs) (o : Obj) (p e : Nat) : t.rdB o p e = s.rdB o p e := by
  simp [State.rdB, h]

@[simp] theorem State.rd_wr_self (o : Obj) (p e : Nat) (v : Int) : (s.wr o p e v).rd o p e = v := by
  simp [State.rd, State.wr]

theorem State.rd_wr_other {o q : Obj} {p e i j : Nat} (v : Int) (h : q.key i j ≠ o.key p e) :
    (s.wr o p e v).rd q i j = s.rd q i j := by
  simp [State.rd, State.wr, Store.get_put_other 0 s.regs _ h]

@[simp] theorem State.rd_inc_self (o : Obj) (p e : Nat) (n : Int) :
    (s.inc o p e n).rd o p e = (s.rd o p e + n) % 18446744073709551616 := State.rd_wr_self s o p e _

theorem State.rd_inc_other {o q : Obj} {p e i j : Nat} (n : Int) (h : q.key i j ≠ o.key p e) :
    (s.inc o p e n).rd q i j = s.rd q i j := State.rd_wr_other s _ h

theorem State.rdB_wrB_other {o q : Obj} {p e i j : Nat} (v : Bytes) (h : q.key i j ≠ o.key p e) :
    (s.wrB o p e v).rdB q i j = s.rdB q i j := by
  simp [State.rdB, State.wrB, Store.get_put_other [] s.blobs _ h]

/-- A BLOB reads as it was written; the empty one reads as the default. -/
theorem State.rdB_wrB_self (o : Obj) (p e : Nat) (v : Bytes) (h : v ≠ []) : (s.wrB o p e v).rdB o p e = v := by
  unfold State.rdB State.wrB
  by_cases hv : v = o.bd.bytes
  · rw [if_pos hv, Store.get_put_same, if_pos rfl, hv]
  · rw [if_neg hv, Store.get_put_same, if_neg h]

@[simp] theorem State.rd_wrB (o : Obj) (p e : Nat) (v : Bytes) (q : Obj) (i j : Nat) : (s.wrB o p e v).rd q i j = s.rd q i j := (rfl)
@[simp] theorem State.rd_arm (t : Timer) (d : Stamp) (q : Obj) (i j : Nat) : (s.arm t d).rd q i j = s.rd q i j := (rfl)
@[simp] theorem State.rd_disarm (t : Timer) (q : Obj) (i j : Nat) : (s.disarm t).rd q i j = s.rd q i j := (rfl)
@[simp] theorem State.rd_setPort (p : Port) (f : PortState → PortState) (q : Obj) (i j : Nat) : (s.setPort p f).rd q i j = s.rd q i j := (rfl)
@[simp] theorem State.rd_setEc (p : Port) (f : EcState → EcState) (q : Obj) (i j : Nat) : (s.setEc p f).rd q i j = s.rd q i j := (rfl)
@[simp] theorem State.rd_setSound (p : Port) (f : SoundState → SoundState) (q : Obj) (i j : Nat) : (s.setSound p f).rd q i j = s.rd q i j := (rfl)
@[simp] theorem State.rd_setDc (p : Port) (f : DcState → DcState) (q : Obj) (i j : Nat) : (s.setDc p f).rd q i j = s.rd q i j := (rfl)
@[simp] theorem State.rd_setCal (p : Port) (f : CalState → CalState) (q : Obj) (i j : Nat) : (s.setCal p f).rd q i j = s.rd q i j := (rfl)
@[simp] theorem State.rd_setElem (p : Port) (a : Nat) (f : Elem → Elem) (q : Obj) (i j : Nat) : (s.setElem p a f).rd q i j = s.rd q i j := (rfl)
@[simp] theorem State.rd_setEq (p : Port) (a : Nat) (f : EqState → EqState) (q : Obj) (i j : Nat) : (s.setEq p a f).rd q i j = s.rd q i j := (rfl)
@[simp] theorem State.rd_setLink (x : Side) (f : PfState → PfState) (q : Obj) (i j : Nat) : (s.setLink x f).rd q i j = s.rd q i j := (rfl)
@[simp] theorem State.rd_setSession (k : SessionNo) (f : Session → Session) (q : Obj) (i j : Nat) : (s.setSession k f).rd q i j = s.rd q i j := (rfl)
@[simp] theorem State.rd_setStn (u : Nat) (f : Stn → Stn) (q : Obj) (i j : Nat) : (s.setStn u f).rd q i j = s.rd q i j := (rfl)
@[simp] theorem State.rd_emit (o : Out) (q : Obj) (i j : Nat) : (s.emit o).rd q i j = s.rd q i j := (rfl)
@[simp] theorem State.rd_setTime (f : TimeState → TimeState) (q : Obj) (i j : Nat) : (s.setTime f).rd q i j = s.rd q i j := (rfl)
@[simp] theorem State.rd_setMerge (f : MergeState → MergeState) (q : Obj) (i j : Nat) : (s.setMerge f).rd q i j = s.rd q i j := (rfl)
@[simp] theorem State.rd_setHouse (f : HouseState → HouseState) (q : Obj) (i j : Nat) : (s.setHouse f).rd q i j = s.rd q i j := (rfl)
@[simp] theorem State.rd_setQm (f : QmState → QmState) (q : Obj) (i j : Nat) : (s.setQm f).rd q i j = s.rd q i j := (rfl)
@[simp] theorem State.rd_setCasc (f : CascState → CascState) (q : Obj) (i j : Nat) : (s.setCasc f).rd q i j = s.rd q i j := (rfl)
@[simp] theorem State.rd_setIz (f : IzState → IzState) (q : Obj) (i j : Nat) : (s.setIz f).rd q i j = s.rd q i j := (rfl)
@[simp] theorem State.rd_setPower (f : PowerState → PowerState) (q : Obj) (i j : Nat) : (s.setPower f).rd q i j = s.rd q i j := (rfl)
@[simp] theorem State.rd_setFaults (f : FaultState → FaultState) (q : Obj) (i j : Nat) : (s.setFaults f).rd q i j = s.rd q i j := (rfl)
@[simp] theorem State.rd_setFuses (f : Fuses → Fuses) (q : Obj) (i j : Nat) : (s.setFuses f).rd q i j = s.rd q i j := (rfl)
@[simp] theorem State.rd_setRst (f : ResetState → ResetState) (q : Obj) (i j : Nat) : (s.setRst f).rd q i j = s.rd q i j := (rfl)
@[simp] theorem State.rd_setHamper (f : Hamper → Hamper) (q : Obj) (i j : Nat) : (s.setHamper f).rd q i j = s.rd q i j := (rfl)
@[simp] theorem State.rd_setHmp (f : HmpState → HmpState) (q : Obj) (i j : Nat) : (s.setHmp f).rd q i j = s.rd q i j := (rfl)
@[simp] theorem State.rd_issueAt (t : Stamp) (src ty : Nat) (b : Bytes) (fl : Nat) (q : Obj) (i j : Nat) : (s.issueAt t src ty b fl).rd q i j = s.rd q i j := (rfl)
@[simp] theorem State.rd_issue (src ty : Nat) (b : Bytes) (q : Obj) (i j : Nat) : (s.issue src ty b).rd q i j = s.rd q i j := (rfl)
@[simp] theorem State.rdB_wr (o : Obj) (p e : Nat) (v : Int) (q : Obj) (i j : Nat) : (s.wr o p e v).rdB q i j = s.rdB q i j := (rfl)
@[simp] theorem State.rdB_inc (o : Obj) (p e : Nat) (n : Int) (q : Obj) (i j : Nat) : (s.inc o p e n).rdB q i j = s.rdB q i j := (rfl)
@[simp] theorem State.rdB_arm (t : Timer) (d : Stamp) (q : Obj) (i j : Nat) : (s.arm t d).rdB q i j = s.rdB q i j := (rfl)
@[simp] theorem State.rdB_disarm (t : Timer) (q : Obj) (i j : Nat) : (s.disarm t).rdB q i j = s.rdB q i j := (rfl)
@[simp] theorem State.rdB_setPort (p : Port) (f : PortState → PortState) (q : Obj) (i j : Nat) : (s.setPort p f).rdB q i j = s.rdB q i j := (rfl)
@[simp] theorem State.rdB_setEc (p : Port) (f : EcState → EcState) (q : Obj) (i j : Nat) : (s.setEc p f).rdB q i j = s.rdB q i j := (rfl)
@[simp] theorem State.rdB_setSound (p : Port) (f : SoundState → SoundState) (q : Obj) (i j : Nat) : (s.setSound p f).rdB q i j = s.rdB q i j := (rfl)
@[simp] theorem State.rdB_setDc (p : Port) (f : DcState → DcState) (q : Obj) (i j : Nat) : (s.setDc p f).rdB q i j = s.rdB q i j := (rfl)
@[simp] theorem State.rdB_setCal (p : Port) (f : CalState → CalState) (q : Obj) (i j : Nat) : (s.setCal p f).rdB q i j = s.rdB q i j := (rfl)
@[simp] theorem State.rdB_setElem (p : Port) (a : Nat) (f : Elem → Elem) (q : Obj) (i j : Nat) : (s.setElem p a f).rdB q i j = s.rdB q i j := (rfl)
@[simp] theorem State.rdB_setEq (p : Port) (a : Nat) (f : EqState → EqState) (q : Obj) (i j : Nat) : (s.setEq p a f).rdB q i j = s.rdB q i j := (rfl)
@[simp] theorem State.rdB_setLink (x : Side) (f : PfState → PfState) (q : Obj) (i j : Nat) : (s.setLink x f).rdB q i j = s.rdB q i j := (rfl)
@[simp] theorem State.rdB_setSession (k : SessionNo) (f : Session → Session) (q : Obj) (i j : Nat) : (s.setSession k f).rdB q i j = s.rdB q i j := (rfl)
@[simp] theorem State.rdB_setStn (u : Nat) (f : Stn → Stn) (q : Obj) (i j : Nat) : (s.setStn u f).rdB q i j = s.rdB q i j := (rfl)
@[simp] theorem State.rdB_emit (o : Out) (q : Obj) (i j : Nat) : (s.emit o).rdB q i j = s.rdB q i j := (rfl)
@[simp] theorem State.rdB_setTime (f : TimeState → TimeState) (q : Obj) (i j : Nat) : (s.setTime f).rdB q i j = s.rdB q i j := (rfl)
@[simp] theorem State.rdB_setMerge (f : MergeState → MergeState) (q : Obj) (i j : Nat) : (s.setMerge f).rdB q i j = s.rdB q i j := (rfl)
@[simp] theorem State.rdB_setHouse (f : HouseState → HouseState) (q : Obj) (i j : Nat) : (s.setHouse f).rdB q i j = s.rdB q i j := (rfl)
@[simp] theorem State.rdB_setQm (f : QmState → QmState) (q : Obj) (i j : Nat) : (s.setQm f).rdB q i j = s.rdB q i j := (rfl)
@[simp] theorem State.rdB_setCasc (f : CascState → CascState) (q : Obj) (i j : Nat) : (s.setCasc f).rdB q i j = s.rdB q i j := (rfl)
@[simp] theorem State.rdB_setIz (f : IzState → IzState) (q : Obj) (i j : Nat) : (s.setIz f).rdB q i j = s.rdB q i j := (rfl)
@[simp] theorem State.rdB_setPower (f : PowerState → PowerState) (q : Obj) (i j : Nat) : (s.setPower f).rdB q i j = s.rdB q i j := (rfl)
@[simp] theorem State.rdB_setFaults (f : FaultState → FaultState) (q : Obj) (i j : Nat) : (s.setFaults f).rdB q i j = s.rdB q i j := (rfl)
@[simp] theorem State.rdB_setFuses (f : Fuses → Fuses) (q : Obj) (i j : Nat) : (s.setFuses f).rdB q i j = s.rdB q i j := (rfl)
@[simp] theorem State.rdB_setRst (f : ResetState → ResetState) (q : Obj) (i j : Nat) : (s.setRst f).rdB q i j = s.rdB q i j := (rfl)
@[simp] theorem State.rdB_setHamper (f : Hamper → Hamper) (q : Obj) (i j : Nat) : (s.setHamper f).rdB q i j = s.rdB q i j := (rfl)
@[simp] theorem State.rdB_setHmp (f : HmpState → HmpState) (q : Obj) (i j : Nat) : (s.setHmp f).rdB q i j = s.rdB q i j := (rfl)
@[simp] theorem State.rdB_issueAt (t : Stamp) (src ty : Nat) (b : Bytes) (fl : Nat) (q : Obj) (i j : Nat) : (s.issueAt t src ty b fl).rdB q i j = s.rdB q i j := (rfl)
@[simp] theorem State.rdB_issue (src ty : Nat) (b : Bytes) (q : Obj) (i j : Nat) : (s.issue src ty b).rdB q i j = s.rdB q i j := (rfl)
@[simp] theorem State.rd_keep (t : State) (q : Obj) (i j : Nat) : (t.keep s).rd q i j = t.rd q i j := (rfl)
@[simp] theorem State.rdB_keep (t : State) (q : Obj) (i j : Nat) : (t.keep s).rdB q i j = t.rdB q i j := (rfl)
@[simp] theorem State.deadline_keep (t : State) (q : Timer) : (t.keep s).deadline q = t.deadline q := (rfl)
@[simp] theorem State.rd_keepHamper (t : State) (q : Obj) (i j : Nat) : (t.keepHamper s).rd q i j = t.rd q i j := (rfl)
@[simp] theorem State.rdB_keepHamper (t : State) (q : Obj) (i j : Nat) : (t.keepHamper s).rdB q i j = t.rdB q i j := (rfl)
@[simp] theorem State.deadline_keepHamper (t : State) (q : Timer) : (t.keepHamper s).deadline q = t.deadline q := (rfl)
@[simp] theorem State.rd_keepFuses (t : State) (q : Obj) (i j : Nat) : (t.keepFuses s).rd q i j = t.rd q i j := (rfl)
@[simp] theorem State.rdB_keepFuses (t : State) (q : Obj) (i j : Nat) : (t.keepFuses s).rdB q i j = t.rdB q i j := (rfl)
@[simp] theorem State.deadline_keepFuses (t : State) (q : Timer) : (t.keepFuses s).deadline q = t.deadline q := (rfl)
@[simp] theorem State.deadline_wr (o : Obj) (p e : Nat) (v : Int) (q : Timer) : (s.wr o p e v).deadline q = s.deadline q := (rfl)
@[simp] theorem State.deadline_wrB (o : Obj) (p e : Nat) (v : Bytes) (q : Timer) : (s.wrB o p e v).deadline q = s.deadline q := (rfl)
@[simp] theorem State.deadline_inc (o : Obj) (p e : Nat) (n : Int) (q : Timer) : (s.inc o p e n).deadline q = s.deadline q := (rfl)
@[simp] theorem State.deadline_setPort (p : Port) (f : PortState → PortState) (q : Timer) : (s.setPort p f).deadline q = s.deadline q := (rfl)
@[simp] theorem State.deadline_setEc (p : Port) (f : EcState → EcState) (q : Timer) : (s.setEc p f).deadline q = s.deadline q := (rfl)
@[simp] theorem State.deadline_setSound (p : Port) (f : SoundState → SoundState) (q : Timer) : (s.setSound p f).deadline q = s.deadline q := (rfl)
@[simp] theorem State.deadline_setDc (p : Port) (f : DcState → DcState) (q : Timer) : (s.setDc p f).deadline q = s.deadline q := (rfl)
@[simp] theorem State.deadline_setCal (p : Port) (f : CalState → CalState) (q : Timer) : (s.setCal p f).deadline q = s.deadline q := (rfl)
@[simp] theorem State.deadline_setElem (p : Port) (a : Nat) (f : Elem → Elem) (q : Timer) : (s.setElem p a f).deadline q = s.deadline q := (rfl)
@[simp] theorem State.deadline_setEq (p : Port) (a : Nat) (f : EqState → EqState) (q : Timer) : (s.setEq p a f).deadline q = s.deadline q := (rfl)
@[simp] theorem State.deadline_setLink (x : Side) (f : PfState → PfState) (q : Timer) : (s.setLink x f).deadline q = s.deadline q := (rfl)
@[simp] theorem State.deadline_setSession (k : SessionNo) (f : Session → Session) (q : Timer) : (s.setSession k f).deadline q = s.deadline q := (rfl)
@[simp] theorem State.deadline_setStn (u : Nat) (f : Stn → Stn) (q : Timer) : (s.setStn u f).deadline q = s.deadline q := (rfl)
@[simp] theorem State.deadline_emit (o : Out) (q : Timer) : (s.emit o).deadline q = s.deadline q := (rfl)
@[simp] theorem State.deadline_setTime (f : TimeState → TimeState) (q : Timer) : (s.setTime f).deadline q = s.deadline q := (rfl)
@[simp] theorem State.deadline_setMerge (f : MergeState → MergeState) (q : Timer) : (s.setMerge f).deadline q = s.deadline q := (rfl)
@[simp] theorem State.deadline_setHouse (f : HouseState → HouseState) (q : Timer) : (s.setHouse f).deadline q = s.deadline q := (rfl)
@[simp] theorem State.deadline_setQm (f : QmState → QmState) (q : Timer) : (s.setQm f).deadline q = s.deadline q := (rfl)
@[simp] theorem State.deadline_setCasc (f : CascState → CascState) (q : Timer) : (s.setCasc f).deadline q = s.deadline q := (rfl)
@[simp] theorem State.deadline_setIz (f : IzState → IzState) (q : Timer) : (s.setIz f).deadline q = s.deadline q := (rfl)
@[simp] theorem State.deadline_setPower (f : PowerState → PowerState) (q : Timer) : (s.setPower f).deadline q = s.deadline q := (rfl)
@[simp] theorem State.deadline_setFaults (f : FaultState → FaultState) (q : Timer) : (s.setFaults f).deadline q = s.deadline q := (rfl)
@[simp] theorem State.deadline_setFuses (f : Fuses → Fuses) (q : Timer) : (s.setFuses f).deadline q = s.deadline q := (rfl)
@[simp] theorem State.deadline_setRst (f : ResetState → ResetState) (q : Timer) : (s.setRst f).deadline q = s.deadline q := (rfl)
@[simp] theorem State.deadline_setHamper (f : Hamper → Hamper) (q : Timer) : (s.setHamper f).deadline q = s.deadline q := (rfl)
@[simp] theorem State.deadline_setHmp (f : HmpState → HmpState) (q : Timer) : (s.setHmp f).deadline q = s.deadline q := (rfl)
@[simp] theorem State.deadline_issueAt (t : Stamp) (src ty : Nat) (b : Bytes) (fl : Nat) (q : Timer) : (s.issueAt t src ty b fl).deadline q = s.deadline q := (rfl)
@[simp] theorem State.deadline_issue (src ty : Nat) (b : Bytes) (q : Timer) : (s.issue src ty b).deadline q = s.deadline q := (rfl)
@[simp] theorem State.rd_free (m : Nat) (q : Obj) (i j : Nat) : (s.free m).2.rd q i j = s.rd q i j := (rfl)
@[simp] theorem State.rd_freeBytes (m : Nat) (q : Obj) (i j : Nat) : (s.freeBytes m).2.rd q i j = s.rd q i j := (rfl)
@[simp] theorem State.rd_raiseAs (r : FaultReport) (v : Nat) (b : Bool) (q : Obj) (i j : Nat) : (s.raiseAs r v b).rd q i j = s.rd q i j := State.rd_congr (State.raiseAs_regs s r v b) q i j
@[simp] theorem State.rdB_raiseAs (r : FaultReport) (v : Nat) (b : Bool) (q : Obj) (i j : Nat) : (s.raiseAs r v b).rdB q i j = s.rdB q i j := State.rdB_congr (State.raiseAs_blobs s r v b) q i j
@[simp] theorem State.rd_raise (src c k u d : Nat) (q : Obj) (i j : Nat) : (s.raise src c k u d).rd q i j = s.rd q i j := State.rd_congr (State.raise_regs s src c k u d) q i j
@[simp] theorem State.rdB_raise (src c k u d : Nat) (q : Obj) (i j : Nat) : (s.raise src c k u d).rdB q i j = s.rdB q i j := State.rdB_congr (State.raise_blobs s src c k u d) q i j
@[simp] theorem State.rd_raiseLine (p : Port) (k d : Nat) (q : Obj) (i j : Nat) : (s.raiseLine p k d).rd q i j = s.rd q i j := State.rd_congr (State.raiseLine_regs s p k d) q i j
@[simp] theorem State.rdB_raiseLine (p : Port) (k d : Nat) (q : Obj) (i j : Nat) : (s.raiseLine p k d).rdB q i j = s.rdB q i j := State.rdB_congr (State.raiseLine_blobs s p k d) q i j

/-! ## Station time -/

/-- Station time reads the time unit only. -/
theorem State.now_congr {s t : State} (h : t.time = s.time) : t.now = s.now := by simp [State.now, h]

@[simp] theorem State.now_keep (t : State) : (t.keep s).now = t.now := (rfl)
@[simp] theorem State.now_keepHamper (t : State) : (t.keepHamper s).now = t.now := (rfl)
@[simp] theorem State.now_keepFuses (t : State) : (t.keepFuses s).now = t.now := (rfl)
@[simp] theorem State.now_wr (o : Obj) (p e : Nat) (v : Int) : (s.wr o p e v).now = s.now := (rfl)
@[simp] theorem State.now_wrB (o : Obj) (p e : Nat) (v : Bytes) : (s.wrB o p e v).now = s.now := (rfl)
@[simp] theorem State.now_inc (o : Obj) (p e : Nat) (n : Int) : (s.inc o p e n).now = s.now := (rfl)
@[simp] theorem State.now_arm (t : Timer) (d : Stamp) : (s.arm t d).now = s.now := (rfl)
@[simp] theorem State.now_disarm (t : Timer) : (s.disarm t).now = s.now := (rfl)
@[simp] theorem State.now_setPort (p : Port) (f : PortState → PortState) : (s.setPort p f).now = s.now := (rfl)
@[simp] theorem State.now_setEc (p : Port) (f : EcState → EcState) : (s.setEc p f).now = s.now := (rfl)
@[simp] theorem State.now_setSound (p : Port) (f : SoundState → SoundState) : (s.setSound p f).now = s.now := (rfl)
@[simp] theorem State.now_setDc (p : Port) (f : DcState → DcState) : (s.setDc p f).now = s.now := (rfl)
@[simp] theorem State.now_setCal (p : Port) (f : CalState → CalState) : (s.setCal p f).now = s.now := (rfl)
@[simp] theorem State.now_setElem (p : Port) (a : Nat) (f : Elem → Elem) : (s.setElem p a f).now = s.now := (rfl)
@[simp] theorem State.now_setEq (p : Port) (a : Nat) (f : EqState → EqState) : (s.setEq p a f).now = s.now := (rfl)
@[simp] theorem State.now_setLink (x : Side) (f : PfState → PfState) : (s.setLink x f).now = s.now := (rfl)
@[simp] theorem State.now_setSession (k : SessionNo) (f : Session → Session) : (s.setSession k f).now = s.now := (rfl)
@[simp] theorem State.now_setStn (u : Nat) (f : Stn → Stn) : (s.setStn u f).now = s.now := (rfl)
@[simp] theorem State.now_emit (o : Out) : (s.emit o).now = s.now := (rfl)
@[simp] theorem State.now_setMerge (f : MergeState → MergeState) : (s.setMerge f).now = s.now := (rfl)
@[simp] theorem State.now_setHouse (f : HouseState → HouseState) : (s.setHouse f).now = s.now := (rfl)
@[simp] theorem State.now_setQm (f : QmState → QmState) : (s.setQm f).now = s.now := (rfl)
@[simp] theorem State.now_setCasc (f : CascState → CascState) : (s.setCasc f).now = s.now := (rfl)
@[simp] theorem State.now_setIz (f : IzState → IzState) : (s.setIz f).now = s.now := (rfl)
@[simp] theorem State.now_setPower (f : PowerState → PowerState) : (s.setPower f).now = s.now := (rfl)
@[simp] theorem State.now_setFaults (f : FaultState → FaultState) : (s.setFaults f).now = s.now := (rfl)
@[simp] theorem State.now_setFuses (f : Fuses → Fuses) : (s.setFuses f).now = s.now := (rfl)
@[simp] theorem State.now_setRst (f : ResetState → ResetState) : (s.setRst f).now = s.now := (rfl)
@[simp] theorem State.now_setHamper (f : Hamper → Hamper) : (s.setHamper f).now = s.now := (rfl)
@[simp] theorem State.now_setHmp (f : HmpState → HmpState) : (s.setHmp f).now = s.now := (rfl)
@[simp] theorem State.now_issueAt (t : Stamp) (src ty : Nat) (b : Bytes) (fl : Nat) : (s.issueAt t src ty b fl).now = s.now := (rfl)
@[simp] theorem State.now_issue (src ty : Nat) (b : Bytes) : (s.issue src ty b).now = s.now := (rfl)
@[simp] theorem State.now_raise (src c k u d : Nat) : (s.raise src c k u d).now = s.now := State.now_congr (State.raise_time s src c k u d)

/-! ## Parts of the state -/

@[simp] theorem State.port_setPort_self (p : Port) (f : PortState → PortState) : (s.setPort p f).port p = f (s.port p) := by
  simp [State.port, State.setPort]

theorem State.port_setPort_other {p q : Port} (f : PortState → PortState) (h : q ≠ p) : (s.setPort p f).port q = s.port q := by
  simp [State.port, State.setPort, Vector.getElem_set_ne (h := fun e => h (Fin.ext e).symm)]

/-- The hidden state of a port reads the ports only. -/
theorem State.port_congr {s t : State} (h : t.ports = s.ports) (p : Port) : t.port p = s.port p := by simp [State.port, h]

@[simp] theorem State.port_keep (t : State) (i : Port) : (t.keep s).port i = t.port i := (rfl)
@[simp] theorem State.port_keepHamper (t : State) (i : Port) : (t.keepHamper s).port i = t.port i := (rfl)
@[simp] theorem State.port_keepFuses (t : State) (i : Port) : (t.keepFuses s).port i = t.port i := (rfl)
@[simp] theorem State.port_wr (o : Obj) (p e : Nat) (v : Int) (i : Port) : (s.wr o p e v).port i = s.port i := (rfl)
@[simp] theorem State.port_wrB (o : Obj) (p e : Nat) (v : Bytes) (i : Port) : (s.wrB o p e v).port i = s.port i := (rfl)
@[simp] theorem State.port_inc (o : Obj) (p e : Nat) (n : Int) (i : Port) : (s.inc o p e n).port i = s.port i := (rfl)
@[simp] theorem State.port_arm (t : Timer) (d : Stamp) (i : Port) : (s.arm t d).port i = s.port i := (rfl)
@[simp] theorem State.port_disarm (t : Timer) (i : Port) : (s.disarm t).port i = s.port i := (rfl)
@[simp] theorem State.port_setLink (x : Side) (f : PfState → PfState) (i : Port) : (s.setLink x f).port i = s.port i := (rfl)
@[simp] theorem State.port_setSession (k : SessionNo) (f : Session → Session) (i : Port) : (s.setSession k f).port i = s.port i := (rfl)
@[simp] theorem State.port_setStn (u : Nat) (f : Stn → Stn) (i : Port) : (s.setStn u f).port i = s.port i := (rfl)
@[simp] theorem State.port_emit (o : Out) (i : Port) : (s.emit o).port i = s.port i := (rfl)
@[simp] theorem State.port_setTime (f : TimeState → TimeState) (i : Port) : (s.setTime f).port i = s.port i := (rfl)
@[simp] theorem State.port_setMerge (f : MergeState → MergeState) (i : Port) : (s.setMerge f).port i = s.port i := (rfl)
@[simp] theorem State.port_setHouse (f : HouseState → HouseState) (i : Port) : (s.setHouse f).port i = s.port i := (rfl)
@[simp] theorem State.port_setQm (f : QmState → QmState) (i : Port) : (s.setQm f).port i = s.port i := (rfl)
@[simp] theorem State.port_setCasc (f : CascState → CascState) (i : Port) : (s.setCasc f).port i = s.port i := (rfl)
@[simp] theorem State.port_setIz (f : IzState → IzState) (i : Port) : (s.setIz f).port i = s.port i := (rfl)
@[simp] theorem State.port_setPower (f : PowerState → PowerState) (i : Port) : (s.setPower f).port i = s.port i := (rfl)
@[simp] theorem State.port_setFaults (f : FaultState → FaultState) (i : Port) : (s.setFaults f).port i = s.port i := (rfl)
@[simp] theorem State.port_setFuses (f : Fuses → Fuses) (i : Port) : (s.setFuses f).port i = s.port i := (rfl)
@[simp] theorem State.port_setRst (f : ResetState → ResetState) (i : Port) : (s.setRst f).port i = s.port i := (rfl)
@[simp] theorem State.port_setHamper (f : Hamper → Hamper) (i : Port) : (s.setHamper f).port i = s.port i := (rfl)
@[simp] theorem State.port_setHmp (f : HmpState → HmpState) (i : Port) : (s.setHmp f).port i = s.port i := (rfl)
@[simp] theorem State.port_issueAt (t : Stamp) (src ty : Nat) (b : Bytes) (fl : Nat) (i : Port) : (s.issueAt t src ty b fl).port i = s.port i := (rfl)
@[simp] theorem State.port_issue (src ty : Nat) (b : Bytes) (i : Port) : (s.issue src ty b).port i = s.port i := (rfl)

@[simp] theorem State.stn_setStn_self (u : Nat) (f : Stn → Stn) : (s.setStn u f).stn u = f (s.stn u) := by
  simp [State.stn, State.setStn]

theorem State.stn_setStn_other {u v : Nat} (f : Stn → Stn) (h : v ≠ u) : (s.setStn u f).stn v = s.stn v := by
  simp [State.stn, State.setStn, Store.get_put_other _ _ _ h]

@[simp] theorem State.session_setSession_self (k : SessionNo) (f : Session → Session) :
    (s.setSession k f).session k = f (s.session k) := by
  simp [State.session, State.setSession]

theorem State.session_setSession_other {k j : SessionNo} (f : Session → Session) (h : j ≠ k) :
    (s.setSession k f).session j = s.session j := by
  simp [State.session, State.setSession, Vector.getElem_set_ne (h := fun e => h (Fin.ext e).symm)]

/-! ## Deadlines -/

@[simp] theorem State.deadline_arm_self (t : Timer) (d : Stamp) : (s.arm t d).deadline t = some d := by
  simp [State.deadline, State.arm]

theorem State.deadline_arm_other {t u : Timer} (d : Stamp) (h : u ≠ t) : (s.arm t d).deadline u = s.deadline u := by
  simp only [State.deadline, State.arm]
  rw [List.find?_cons_of_neg (by simpa using fun e => h e.symm)]
  congr 1
  induction s.timers with
  | nil => rfl
  | cons x l ih =>
    by_cases hx : x.1 = t
    · have hu : ¬ x.1 = u := fun e => h (e.symm.trans hx)
      rw [List.filter_cons_of_neg (by simp [hx]), List.find?_cons_of_neg (by simp [hu]), ih]
    · rw [List.filter_cons_of_pos (by simp [hx]), List.find?_cons, List.find?_cons, ih]

@[simp] theorem State.deadline_disarm_self (t : Timer) : (s.disarm t).deadline t = none := by
  simp only [State.deadline, State.disarm, Option.map_eq_none_iff, List.find?_eq_none]
  intro x hx
  simpa using (List.mem_filter.mp hx).2

/-- A deadline reads the timers only. -/
theorem State.deadline_congr {s t : State} (h : t.timers = s.timers) (u : Timer) : t.deadline u = s.deadline u := by
  simp [State.deadline, h]

@[simp] theorem State.deadline_raise (src c k u d : Nat) (q : Timer) : (s.raise src c k u d).deadline q = s.deadline q :=
  State.deadline_congr (State.raise_timers s src c k u d) q

@[simp] theorem State.deadline_raiseLine (p : Port) (k d : Nat) (q : Timer) : (s.raiseLine p k d).deadline q = s.deadline q :=
  State.deadline_congr (State.raiseLine_timers s p k d) q

theorem State.deadline_disarm_other {t u : Timer} (h : u ≠ t) : (s.disarm t).deadline u = s.deadline u := by
  simp only [State.deadline, State.disarm]
  congr 1
  induction s.timers with
  | nil => rfl
  | cons x l ih =>
    by_cases hx : x.1 = t
    · have hu : ¬ x.1 = u := fun e => h (e.symm.trans hx)
      rw [List.filter_cons_of_neg (by simp [hx]), List.find?_cons_of_neg (by simp [hu]), ih]
    · rw [List.filter_cons_of_pos (by simp [hx]), List.find?_cons, List.find?_cons, ih]

/-! ## Folds over the state -/

/-- What every step of a fold leaves alone, the fold leaves alone. -/
theorem foldl_keeps {α β : Type} (g : State → α) {f : State → β → State} (h : ∀ s x, g (f s x) = g s) (l : List β) (s : State) :
    g (l.foldl f s) = g s := by
  induction l generalizing s with
  | nil => rfl
  | cons x l ih => rw [List.foldl_cons, ih, h]

/-! ## The outcome of a command -/

theorem guarded_pos {c : Prop} [Decidable c] {t : State} (h : c) :
    guarded c s t = .next (t.keep s) := by
  simp [guarded, ok, h]

theorem guarded_neg {c : Prop} [Decidable c] {t : State} (h : ¬ c) : guarded c s t = .next s := by
  simp [guarded, ok, h]

/-- A command of the digital die answers a next state that keeps the queue, the fuses and the hamper. -/
theorem guarded_keeps {c : Prop} [Decidable c] {t u : State} (h : guarded c s t = .next u) :
    u.pending = s.pending ∧ u.fuses = s.fuses ∧ u.hamper = s.hamper := by
  by_cases hc : c
  · rw [guarded_pos s hc] at h; cases h; exact ⟨rfl, rfl, rfl⟩
  · rw [guarded_neg s hc] at h; cases h; exact ⟨rfl, rfl, rfl⟩

theorem guardedFuse_pos {c : Prop} [Decidable c] {t : State} (h : c) :
    guardedFuse c s t = .next (t.keepHamper s) := by
  simp [guardedFuse, ok, h]

theorem guardedFuse_neg {c : Prop} [Decidable c] {t : State} (h : ¬ c) : guardedFuse c s t = .next s := by
  simp [guardedFuse, ok, h]

/-- A command that blows fuses answers a next state that keeps the queue and the hamper. -/
theorem guardedFuse_keeps {c : Prop} [Decidable c] {t u : State} (h : guardedFuse c s t = .next u) :
    u.pending = s.pending ∧ u.hamper = s.hamper := by
  by_cases hc : c
  · rw [guardedFuse_pos s hc] at h; cases h; exact ⟨rfl, rfl⟩
  · rw [guardedFuse_neg s hc] at h; cases h; exact ⟨rfl, rfl⟩

theorem guardedHamper_pos {c : Prop} [Decidable c] {t : State} (h : c) :
    guardedHamper c s t = .next (t.keepFuses s) := by
  simp [guardedHamper, ok, h]

theorem guardedHamper_neg {c : Prop} [Decidable c] {t : State} (h : ¬ c) : guardedHamper c s t = .next s := by
  simp [guardedHamper, ok, h]

/-- A command of the hamper die answers a next state that keeps the queue and the fuses of the digital die. -/
theorem guardedHamper_keeps {c : Prop} [Decidable c] {t u : State} (h : guardedHamper c s t = .next u) :
    u.pending = s.pending ∧ u.fuses = s.fuses := by
  by_cases hc : c
  · rw [guardedHamper_pos s hc] at h; cases h; exact ⟨rfl, rfl⟩
  · rw [guardedHamper_neg s hc] at h; cases h; exact ⟨rfl, rfl⟩

end Sys2Proof.Machine
end

