-- ==== Sys2Proof/Laws/Link.lean ====
section
/-! SUPPORT. Sending on a Porfani port, answers and delivered records: what each leaves alone. -/

namespace Sys2Proof.Machine

variable (s : State)

/-! ## Parcels given to a port to send (R402, R404, R405) -/

@[simp] theorem State.sendNow_pending (x : Side) (p : Parcel) : (s.sendNow x p).pending = s.pending := by
  unfold State.sendNow; dsimp only; split <;> rfl
@[simp] theorem State.sendNow_blobs (x : Side) (p : Parcel) : (s.sendNow x p).blobs = s.blobs := by
  unfold State.sendNow; dsimp only; split <;> rfl
@[simp] theorem State.sendNow_time (x : Side) (p : Parcel) : (s.sendNow x p).time = s.time := by
  unfold State.sendNow; dsimp only; split <;> rfl
@[simp] theorem State.sendNow_merge (x : Side) (p : Parcel) : (s.sendNow x p).merge = s.merge := by
  unfold State.sendNow; dsimp only; split <;> rfl
@[simp] theorem State.sendNow_house (x : Side) (p : Parcel) : (s.sendNow x p).house = s.house := by
  unfold State.sendNow; dsimp only; split <;> rfl
@[simp] theorem State.sendNow_ports (x : Side) (p : Parcel) : (s.sendNow x p).ports = s.ports := by
  unfold State.sendNow; dsimp only; split <;> rfl
@[simp] theorem State.sendNow_casc (x : Side) (p : Parcel) : (s.sendNow x p).casc = s.casc := by
  unfold State.sendNow; dsimp only; split <;> rfl
@[simp] theorem State.sendNow_iz (x : Side) (p : Parcel) : (s.sendNow x p).iz = s.iz := by
  unfold State.sendNow; dsimp only; split <;> rfl
@[simp] theorem State.sendNow_power (x : Side) (p : Parcel) : (s.sendNow x p).power = s.power := by
  unfold State.sendNow; dsimp only; split <;> rfl
@[simp] theorem State.sendNow_faults (x : Side) (p : Parcel) : (s.sendNow x p).faults = s.faults := by
  unfold State.sendNow; dsimp only; split <;> rfl
@[simp] theorem State.sendNow_fuses (x : Side) (p : Parcel) : (s.sendNow x p).fuses = s.fuses := by
  unfold State.sendNow; dsimp only; split <;> rfl
@[simp] theorem State.sendNow_rst (x : Side) (p : Parcel) : (s.sendNow x p).rst = s.rst := by
  unfold State.sendNow; dsimp only; split <;> rfl
@[simp] theorem State.sendNow_hamper (x : Side) (p : Parcel) : (s.sendNow x p).hamper = s.hamper := by
  unfold State.sendNow; dsimp only; split <;> rfl
@[simp] theorem State.sendNow_hmp (x : Side) (p : Parcel) : (s.sendNow x p).hmp = s.hmp := by
  unfold State.sendNow; dsimp only; split <;> rfl
@[simp] theorem State.sendNow_stations (x : Side) (p : Parcel) : (s.sendNow x p).stations = s.stations := by
  unfold State.sendNow; dsimp only; split <;> rfl
@[simp] theorem State.sendNow_freeCount (x : Side) (p : Parcel) : (s.sendNow x p).freeCount = s.freeCount := by
  unfold State.sendNow; dsimp only; split <;> rfl
@[simp] theorem State.sendNow_regs (x : Side) (p : Parcel) : (s.sendNow x p).regs = s.regs := by
  unfold State.sendNow; dsimp only; split <;> rfl
@[simp] theorem State.sendNow_qm (x : Side) (p : Parcel) : (s.sendNow x p).qm = s.qm := by
  unfold State.sendNow; dsimp only; split <;> rfl
@[simp] theorem State.stall_pending (x : Side) (vc : Nat) : (s.stall x vc).pending = s.pending := by
  unfold State.stall; split <;> rfl
@[simp] theorem State.stall_blobs (x : Side) (vc : Nat) : (s.stall x vc).blobs = s.blobs := by
  unfold State.stall; split <;> rfl
@[simp] theorem State.stall_time (x : Side) (vc : Nat) : (s.stall x vc).time = s.time := by
  unfold State.stall; split <;> rfl
@[simp] theorem State.stall_merge (x : Side) (vc : Nat) : (s.stall x vc).merge = s.merge := by
  unfold State.stall; split <;> rfl
@[simp] theorem State.stall_house (x : Side) (vc : Nat) : (s.stall x vc).house = s.house := by
  unfold State.stall; split <;> rfl
@[simp] theorem State.stall_ports (x : Side) (vc : Nat) : (s.stall x vc).ports = s.ports := by
  unfold State.stall; split <;> rfl
@[simp] theorem State.stall_casc (x : Side) (vc : Nat) : (s.stall x vc).casc = s.casc := by
  unfold State.stall; split <;> rfl
@[simp] theorem State.stall_iz (x : Side) (vc : Nat) : (s.stall x vc).iz = s.iz := by
  unfold State.stall; split <;> rfl
@[simp] theorem State.stall_power (x : Side) (vc : Nat) : (s.stall x vc).power = s.power := by
  unfold State.stall; split <;> rfl
@[simp] theorem State.stall_faults (x : Side) (vc : Nat) : (s.stall x vc).faults = s.faults := by
  unfold State.stall; split <;> rfl
@[simp] theorem State.stall_fuses (x : Side) (vc : Nat) : (s.stall x vc).fuses = s.fuses := by
  unfold State.stall; split <;> rfl
@[simp] theorem State.stall_rst (x : Side) (vc : Nat) : (s.stall x vc).rst = s.rst := by
  unfold State.stall; split <;> rfl
@[simp] theorem State.stall_hamper (x : Side) (vc : Nat) : (s.stall x vc).hamper = s.hamper := by
  unfold State.stall; split <;> rfl
@[simp] theorem State.stall_hmp (x : Side) (vc : Nat) : (s.stall x vc).hmp = s.hmp := by
  unfold State.stall; split <;> rfl
@[simp] theorem State.stall_stations (x : Side) (vc : Nat) : (s.stall x vc).stations = s.stations := by
  unfold State.stall; split <;> rfl
@[simp] theorem State.stall_freeCount (x : Side) (vc : Nat) : (s.stall x vc).freeCount = s.freeCount := by
  unfold State.stall; split <;> rfl
@[simp] theorem State.stall_timers (x : Side) (vc : Nat) : (s.stall x vc).timers = s.timers := by
  unfold State.stall; split <;> rfl
@[simp] theorem State.stall_qm (x : Side) (vc : Nat) : (s.stall x vc).qm = s.qm := by
  unfold State.stall; split <;> rfl
@[simp] theorem State.stall_out (x : Side) (vc : Nat) : (s.stall x vc).out = s.out := by
  unfold State.stall; split <;> rfl
@[simp] theorem State.trySend_pending (x : Side) (p : Parcel) : (s.trySend x p).pending = s.pending := by
  unfold State.trySend; dsimp only; repeat' split
  all_goals simp
@[simp] theorem State.trySend_blobs (x : Side) (p : Parcel) : (s.trySend x p).blobs = s.blobs := by
  unfold State.trySend; dsimp only; repeat' split
  all_goals simp
@[simp] theorem State.trySend_time (x : Side) (p : Parcel) : (s.trySend x p).time = s.time := by
  unfold State.trySend; dsimp only; repeat' split
  all_goals simp
@[simp] theorem State.trySend_merge (x : Side) (p : Parcel) : (s.trySend x p).merge = s.merge := by
  unfold State.trySend; dsimp only; repeat' split
  all_goals simp
@[simp] theorem State.trySend_house (x : Side) (p : Parcel) : (s.trySend x p).house = s.house := by
  unfold State.trySend; dsimp only; repeat' split
  all_goals simp
@[simp] theorem State.trySend_ports (x : Side) (p : Parcel) : (s.trySend x p).ports = s.ports := by
  unfold State.trySend; dsimp only; repeat' split
  all_goals simp
@[simp] theorem State.trySend_casc (x : Side) (p : Parcel) : (s.trySend x p).casc = s.casc := by
  unfold State.trySend; dsimp only; repeat' split
  all_goals simp
@[simp] theorem State.trySend_iz (x : Side) (p : Parcel) : (s.trySend x p).iz = s.iz := by
  unfold State.trySend; dsimp only; repeat' split
  all_goals simp
@[simp] theorem State.trySend_power (x : Side) (p : Parcel) : (s.trySend x p).power = s.power := by
  unfold State.trySend; dsimp only; repeat' split
  all_goals simp
@[simp] theorem State.trySend_faults (x : Side) (p : Parcel) : (s.trySend x p).faults = s.faults := by
  unfold State.trySend; dsimp only; repeat' split
  all_goals simp
@[simp] theorem State.trySend_fuses (x : Side) (p : Parcel) : (s.trySend x p).fuses = s.fuses := by
  unfold State.trySend; dsimp only; repeat' split
  all_goals simp
@[simp] theorem State.trySend_rst (x : Side) (p : Parcel) : (s.trySend x p).rst = s.rst := by
  unfold State.trySend; dsimp only; repeat' split
  all_goals simp
@[simp] theorem State.trySend_hamper (x : Side) (p : Parcel) : (s.trySend x p).hamper = s.hamper := by
  unfold State.trySend; dsimp only; repeat' split
  all_goals simp
@[simp] theorem State.trySend_hmp (x : Side) (p : Parcel) : (s.trySend x p).hmp = s.hmp := by
  unfold State.trySend; dsimp only; repeat' split
  all_goals simp
@[simp] theorem State.trySend_stations (x : Side) (p : Parcel) : (s.trySend x p).stations = s.stations := by
  unfold State.trySend; dsimp only; repeat' split
  all_goals simp
@[simp] theorem State.trySend_freeCount (x : Side) (p : Parcel) : (s.trySend x p).freeCount = s.freeCount := by
  unfold State.trySend; dsimp only; repeat' split
  all_goals simp
@[simp] theorem State.trySend_qm (x : Side) (p : Parcel) : (s.trySend x p).qm = s.qm := by
  unfold State.trySend; dsimp only; repeat' split
  all_goals simp
@[simp] theorem State.setFifo_pending (x : Side) (vc : Nat) (l : List HostFrame) : (s.setFifo x vc l).pending = s.pending := (rfl)
@[simp] theorem State.setFifo_regs (x : Side) (vc : Nat) (l : List HostFrame) : (s.setFifo x vc l).regs = s.regs := (rfl)
@[simp] theorem State.setFifo_blobs (x : Side) (vc : Nat) (l : List HostFrame) : (s.setFifo x vc l).blobs = s.blobs := (rfl)
@[simp] theorem State.setFifo_time (x : Side) (vc : Nat) (l : List HostFrame) : (s.setFifo x vc l).time = s.time := (rfl)
@[simp] theorem State.setFifo_timers (x : Side) (vc : Nat) (l : List HostFrame) : (s.setFifo x vc l).timers = s.timers := (rfl)
@[simp] theorem State.setFifo_merge (x : Side) (vc : Nat) (l : List HostFrame) : (s.setFifo x vc l).merge = s.merge := (rfl)
@[simp] theorem State.setFifo_house (x : Side) (vc : Nat) (l : List HostFrame) : (s.setFifo x vc l).house = s.house := (rfl)
@[simp] theorem State.setFifo_ports (x : Side) (vc : Nat) (l : List HostFrame) : (s.setFifo x vc l).ports = s.ports := (rfl)
@[simp] theorem State.setFifo_pf (x : Side) (vc : Nat) (l : List HostFrame) : (s.setFifo x vc l).pf = s.pf := (rfl)
@[simp] theorem State.setFifo_casc (x : Side) (vc : Nat) (l : List HostFrame) : (s.setFifo x vc l).casc = s.casc := (rfl)
@[simp] theorem State.setFifo_iz (x : Side) (vc : Nat) (l : List HostFrame) : (s.setFifo x vc l).iz = s.iz := (rfl)
@[simp] theorem State.setFifo_power (x : Side) (vc : Nat) (l : List HostFrame) : (s.setFifo x vc l).power = s.power := (rfl)
@[simp] theorem State.setFifo_faults (x : Side) (vc : Nat) (l : List HostFrame) : (s.setFifo x vc l).faults = s.faults := (rfl)
@[simp] theorem State.setFifo_fuses (x : Side) (vc : Nat) (l : List HostFrame) : (s.setFifo x vc l).fuses = s.fuses := (rfl)
@[simp] theorem State.setFifo_rst (x : Side) (vc : Nat) (l : List HostFrame) : (s.setFifo x vc l).rst = s.rst := (rfl)
@[simp] theorem State.setFifo_hamper (x : Side) (vc : Nat) (l : List HostFrame) : (s.setFifo x vc l).hamper = s.hamper := (rfl)
@[simp] theorem State.setFifo_hmp (x : Side) (vc : Nat) (l : List HostFrame) : (s.setFifo x vc l).hmp = s.hmp := (rfl)
@[simp] theorem State.setFifo_stations (x : Side) (vc : Nat) (l : List HostFrame) : (s.setFifo x vc l).stations = s.stations := (rfl)
@[simp] theorem State.setFifo_out (x : Side) (vc : Nat) (l : List HostFrame) : (s.setFifo x vc l).out = s.out := (rfl)
@[simp] theorem State.setFifo_freeCount (x : Side) (vc : Nat) (l : List HostFrame) : (s.setFifo x vc l).freeCount = s.freeCount := (rfl)
@[simp] theorem State.drainFifo_pending (x : Side) (vc : Nat) : (s.drainFifo x vc).pending = s.pending := by
  unfold State.drainFifo; refine foldl_keeps State.pending ?_ _ s
  intro s x; dsimp only; repeat' split
  all_goals simp
@[simp] theorem State.drainFifo_blobs (x : Side) (vc : Nat) : (s.drainFifo x vc).blobs = s.blobs := by
  unfold State.drainFifo; refine foldl_keeps State.blobs ?_ _ s
  intro s x; dsimp only; repeat' split
  all_goals simp
@[simp] theorem State.drainFifo_time (x : Side) (vc : Nat) : (s.drainFifo x vc).time = s.time := by
  unfold State.drainFifo; refine foldl_keeps State.time ?_ _ s
  intro s x; dsimp only; repeat' split
  all_goals simp
@[simp] theorem State.drainFifo_merge (x : Side) (vc : Nat) : (s.drainFifo x vc).merge = s.merge := by
  unfold State.drainFifo; refine foldl_keeps State.merge ?_ _ s
  intro s x; dsimp only; repeat' split
  all_goals simp
@[simp] theorem State.drainFifo_house (x : Side) (vc : Nat) : (s.drainFifo x vc).house = s.house := by
  unfold State.drainFifo; refine foldl_keeps State.house ?_ _ s
  intro s x; dsimp only; repeat' split
  all_goals simp
@[simp] theorem State.drainFifo_ports (x : Side) (vc : Nat) : (s.drainFifo x vc).ports = s.ports := by
  unfold State.drainFifo; refine foldl_keeps State.ports ?_ _ s
  intro s x; dsimp only; repeat' split
  all_goals simp
@[simp] theorem State.drainFifo_casc (x : Side) (vc : Nat) : (s.drainFifo x vc).casc = s.casc := by
  unfold State.drainFifo; refine foldl_keeps State.casc ?_ _ s
  intro s x; dsimp only; repeat' split
  all_goals simp
@[simp] theorem State.drainFifo_iz (x : Side) (vc : Nat) : (s.drainFifo x vc).iz = s.iz := by
  unfold State.drainFifo; refine foldl_keeps State.iz ?_ _ s
  intro s x; dsimp only; repeat' split
  all_goals simp
@[simp] theorem State.drainFifo_power (x : Side) (vc : Nat) : (s.drainFifo x vc).power = s.power := by
  unfold State.drainFifo; refine foldl_keeps State.power ?_ _ s
  intro s x; dsimp only; repeat' split
  all_goals simp
@[simp] theorem State.drainFifo_faults (x : Side) (vc : Nat) : (s.drainFifo x vc).faults = s.faults := by
  unfold State.drainFifo; refine foldl_keeps State.faults ?_ _ s
  intro s x; dsimp only; repeat' split
  all_goals simp
@[simp] theorem State.drainFifo_fuses (x : Side) (vc : Nat) : (s.drainFifo x vc).fuses = s.fuses := by
  unfold State.drainFifo; refine foldl_keeps State.fuses ?_ _ s
  intro s x; dsimp only; repeat' split
  all_goals simp
@[simp] theorem State.drainFifo_rst (x : Side) (vc : Nat) : (s.drainFifo x vc).rst = s.rst := by
  unfold State.drainFifo; refine foldl_keeps State.rst ?_ _ s
  intro s x; dsimp only; repeat' split
  all_goals simp
@[simp] theorem State.drainFifo_hamper (x : Side) (vc : Nat) : (s.drainFifo x vc).hamper = s.hamper := by
  unfold State.drainFifo; refine foldl_keeps State.hamper ?_ _ s
  intro s x; dsimp only; repeat' split
  all_goals simp
@[simp] theorem State.drainFifo_hmp (x : Side) (vc : Nat) : (s.drainFifo x vc).hmp = s.hmp := by
  unfold State.drainFifo; refine foldl_keeps State.hmp ?_ _ s
  intro s x; dsimp only; repeat' split
  all_goals simp
@[simp] theorem State.drainFifo_stations (x : Side) (vc : Nat) : (s.drainFifo x vc).stations = s.stations := by
  unfold State.drainFifo; refine foldl_keeps State.stations ?_ _ s
  intro s x; dsimp only; repeat' split
  all_goals simp
@[simp] theorem State.drainFifo_freeCount (x : Side) (vc : Nat) : (s.drainFifo x vc).freeCount = s.freeCount := by
  unfold State.drainFifo; refine foldl_keeps State.freeCount ?_ _ s
  intro s x; dsimp only; repeat' split
  all_goals simp
@[simp] theorem State.drain_pending (x : Side) : (s.drain x).pending = s.pending := by
  unfold State.drain; dsimp only; split
  · rfl
  · rw [foldl_keeps State.pending (by intros; simp), foldl_keeps State.pending (by intros; simp)]; rfl
@[simp] theorem State.drain_blobs (x : Side) : (s.drain x).blobs = s.blobs := by
  unfold State.drain; dsimp only; split
  · rfl
  · rw [foldl_keeps State.blobs (by intros; simp), foldl_keeps State.blobs (by intros; simp)]; rfl
@[simp] theorem State.drain_time (x : Side) : (s.drain x).time = s.time := by
  unfold State.drain; dsimp only; split
  · rfl
  · rw [foldl_keeps State.time (by intros; simp), foldl_keeps State.time (by intros; simp)]; rfl
@[simp] theorem State.drain_merge (x : Side) : (s.drain x).merge = s.merge := by
  unfold State.drain; dsimp only; split
  · rfl
  · rw [foldl_keeps State.merge (by intros; simp), foldl_keeps State.merge (by intros; simp)]; rfl
@[simp] theorem State.drain_house (x : Side) : (s.drain x).house = s.house := by
  unfold State.drain; dsimp only; split
  · rfl
  · rw [foldl_keeps State.house (by intros; simp), foldl_keeps State.house (by intros; simp)]; rfl
@[simp] theorem State.drain_ports (x : Side) : (s.drain x).ports = s.ports := by
  unfold State.drain; dsimp only; split
  · rfl
  · rw [foldl_keeps State.ports (by intros; simp), foldl_keeps State.ports (by intros; simp)]; rfl
@[simp] theorem State.drain_casc (x : Side) : (s.drain x).casc = s.casc := by
  unfold State.drain; dsimp only; split
  · rfl
  · rw [foldl_keeps State.casc (by intros; simp), foldl_keeps State.casc (by intros; simp)]; rfl
@[simp] theorem State.drain_iz (x : Side) : (s.drain x).iz = s.iz := by
  unfold State.drain; dsimp only; split
  · rfl
  · rw [foldl_keeps State.iz (by intros; simp), foldl_keeps State.iz (by intros; simp)]; rfl
@[simp] theorem State.drain_power (x : Side) : (s.drain x).power = s.power := by
  unfold State.drain; dsimp only; split
  · rfl
  · rw [foldl_keeps State.power (by intros; simp), foldl_keeps State.power (by intros; simp)]; rfl
@[simp] theorem State.drain_faults (x : Side) : (s.drain x).faults = s.faults := by
  unfold State.drain; dsimp only; split
  · rfl
  · rw [foldl_keeps State.faults (by intros; simp), foldl_keeps State.faults (by intros; simp)]; rfl
@[simp] theorem State.drain_fuses (x : Side) : (s.drain x).fuses = s.fuses := by
  unfold State.drain; dsimp only; split
  · rfl
  · rw [foldl_keeps State.fuses (by intros; simp), foldl_keeps State.fuses (by intros; simp)]; rfl
@[simp] theorem State.drain_rst (x : Side) : (s.drain x).rst = s.rst := by
  unfold State.drain; dsimp only; split
  · rfl
  · rw [foldl_keeps State.rst (by intros; simp), foldl_keeps State.rst (by intros; simp)]; rfl
@[simp] theorem State.drain_hamper (x : Side) : (s.drain x).hamper = s.hamper := by
  unfold State.drain; dsimp only; split
  · rfl
  · rw [foldl_keeps State.hamper (by intros; simp), foldl_keeps State.hamper (by intros; simp)]; rfl
@[simp] theorem State.drain_hmp (x : Side) : (s.drain x).hmp = s.hmp := by
  unfold State.drain; dsimp only; split
  · rfl
  · rw [foldl_keeps State.hmp (by intros; simp), foldl_keeps State.hmp (by intros; simp)]; rfl
@[simp] theorem State.drain_stations (x : Side) : (s.drain x).stations = s.stations := by
  unfold State.drain; dsimp only; split
  · rfl
  · rw [foldl_keeps State.stations (by intros; simp), foldl_keeps State.stations (by intros; simp)]; rfl
@[simp] theorem State.drain_freeCount (x : Side) : (s.drain x).freeCount = s.freeCount := by
  unfold State.drain; dsimp only; split
  · rfl
  · rw [foldl_keeps State.freeCount (by intros; simp), foldl_keeps State.freeCount (by intros; simp)]; rfl
@[simp] theorem State.send_pending (x : Side) (p : Parcel) : (s.send x p).pending = s.pending := by
  unfold State.send; simp
@[simp] theorem State.send_blobs (x : Side) (p : Parcel) : (s.send x p).blobs = s.blobs := by
  unfold State.send; simp
@[simp] theorem State.send_time (x : Side) (p : Parcel) : (s.send x p).time = s.time := by
  unfold State.send; simp
@[simp] theorem State.send_merge (x : Side) (p : Parcel) : (s.send x p).merge = s.merge := by
  unfold State.send; simp
@[simp] theorem State.send_house (x : Side) (p : Parcel) : (s.send x p).house = s.house := by
  unfold State.send; simp
@[simp] theorem State.send_ports (x : Side) (p : Parcel) : (s.send x p).ports = s.ports := by
  unfold State.send; simp
@[simp] theorem State.send_casc (x : Side) (p : Parcel) : (s.send x p).casc = s.casc := by
  unfold State.send; simp
@[simp] theorem State.send_iz (x : Side) (p : Parcel) : (s.send x p).iz = s.iz := by
  unfold State.send; simp
@[simp] theorem State.send_power (x : Side) (p : Parcel) : (s.send x p).power = s.power := by
  unfold State.send; simp
@[simp] theorem State.send_faults (x : Side) (p : Parcel) : (s.send x p).faults = s.faults := by
  unfold State.send; simp
@[simp] theorem State.send_fuses (x : Side) (p : Parcel) : (s.send x p).fuses = s.fuses := by
  unfold State.send; simp
@[simp] theorem State.send_rst (x : Side) (p : Parcel) : (s.send x p).rst = s.rst := by
  unfold State.send; simp
@[simp] theorem State.send_hamper (x : Side) (p : Parcel) : (s.send x p).hamper = s.hamper := by
  unfold State.send; simp
@[simp] theorem State.send_hmp (x : Side) (p : Parcel) : (s.send x p).hmp = s.hmp := by
  unfold State.send; simp
@[simp] theorem State.send_stations (x : Side) (p : Parcel) : (s.send x p).stations = s.stations := by
  unfold State.send; simp
@[simp] theorem State.send_freeCount (x : Side) (p : Parcel) : (s.send x p).freeCount = s.freeCount := by
  unfold State.send; simp
@[simp] theorem State.sendHost_pending (x : Side) (ty vc : Nat) (b : Bytes) : (s.sendHost x ty vc b).pending = s.pending := by
  unfold State.sendHost; simp
@[simp] theorem State.sendHost_blobs (x : Side) (ty vc : Nat) (b : Bytes) : (s.sendHost x ty vc b).blobs = s.blobs := by
  unfold State.sendHost; simp
@[simp] theorem State.sendHost_time (x : Side) (ty vc : Nat) (b : Bytes) : (s.sendHost x ty vc b).time = s.time := by
  unfold State.sendHost; simp
@[simp] theorem State.sendHost_merge (x : Side) (ty vc : Nat) (b : Bytes) : (s.sendHost x ty vc b).merge = s.merge := by
  unfold State.sendHost; simp
@[simp] theorem State.sendHost_house (x : Side) (ty vc : Nat) (b : Bytes) : (s.sendHost x ty vc b).house = s.house := by
  unfold State.sendHost; simp
@[simp] theorem State.sendHost_ports (x : Side) (ty vc : Nat) (b : Bytes) : (s.sendHost x ty vc b).ports = s.ports := by
  unfold State.sendHost; simp
@[simp] theorem State.sendHost_casc (x : Side) (ty vc : Nat) (b : Bytes) : (s.sendHost x ty vc b).casc = s.casc := by
  unfold State.sendHost; simp
@[simp] theorem State.sendHost_iz (x : Side) (ty vc : Nat) (b : Bytes) : (s.sendHost x ty vc b).iz = s.iz := by
  unfold State.sendHost; simp
@[simp] theorem State.sendHost_power (x : Side) (ty vc : Nat) (b : Bytes) : (s.sendHost x ty vc b).power = s.power := by
  unfold State.sendHost; simp
@[simp] theorem State.sendHost_faults (x : Side) (ty vc : Nat) (b : Bytes) : (s.sendHost x ty vc b).faults = s.faults := by
  unfold State.sendHost; simp
@[simp] theorem State.sendHost_fuses (x : Side) (ty vc : Nat) (b : Bytes) : (s.sendHost x ty vc b).fuses = s.fuses := by
  unfold State.sendHost; simp
@[simp] theorem State.sendHost_rst (x : Side) (ty vc : Nat) (b : Bytes) : (s.sendHost x ty vc b).rst = s.rst := by
  unfold State.sendHost; simp
@[simp] theorem State.sendHost_hamper (x : Side) (ty vc : Nat) (b : Bytes) : (s.sendHost x ty vc b).hamper = s.hamper := by
  unfold State.sendHost; simp
@[simp] theorem State.sendHost_hmp (x : Side) (ty vc : Nat) (b : Bytes) : (s.sendHost x ty vc b).hmp = s.hmp := by
  unfold State.sendHost; simp
@[simp] theorem State.sendHost_stations (x : Side) (ty vc : Nat) (b : Bytes) : (s.sendHost x ty vc b).stations = s.stations := by
  unfold State.sendHost; simp
@[simp] theorem State.sendHost_freeCount (x : Side) (ty vc : Nat) (b : Bytes) : (s.sendHost x ty vc b).freeCount = s.freeCount := by
  unfold State.sendHost; simp

/-- A number that is not the count of credit stalls reads the same after parcels were given to a port. -/
theorem State.rd_stall {q : Obj} {i j : Nat} (x : Side) (vc : Nat) (h : q.key i j ≠ Reg.PF_PORT_CREDIT_STALLS.key x.n 0) :
    (s.stall x vc).rd q i j = s.rd q i j := by
  unfold State.stall; split
  · rfl
  · rw [State.rd_inc_other _ _ h]; rfl

theorem State.rd_trySend {q : Obj} {i j : Nat} (x : Side) (p : Parcel) (h : q.key i j ≠ Reg.PF_PORT_CREDIT_STALLS.key x.n 0) :
    (s.trySend x p).rd q i j = s.rd q i j := by
  unfold State.trySend; dsimp only
  split
  · rfl
  · split
    · exact State.rd_congr (State.sendNow_regs s x p) q i j
    · rw [State.rd_setLink]; exact State.rd_stall s x _ h

theorem State.rd_drainFifo {q : Obj} {i j : Nat} (x : Side) (vc : Nat) (h : q.key i j ≠ Reg.PF_PORT_CREDIT_STALLS.key x.n 0) :
    (s.drainFifo x vc).rd q i j = s.rd q i j := by
  unfold State.drainFifo
  refine foldl_keeps (fun s => s.rd q i j) ?_ _ s
  intro s f
  dsimp only
  split
  · rfl
  · split
    · exact State.rd_congr (by simp) q i j
    · exact State.rd_stall s x _ h

theorem State.rd_drain {q : Obj} {i j : Nat} (x : Side) (h : q.key i j ≠ Reg.PF_PORT_CREDIT_STALLS.key x.n 0) :
    (s.drain x).rd q i j = s.rd q i j := by
  unfold State.drain; dsimp only; split
  · rfl
  · rw [foldl_keeps (fun s => s.rd q i j) (fun s vc => State.rd_drainFifo s x vc h),
      foldl_keeps (fun s => s.rd q i j) (fun s p => State.rd_trySend s x p h)]; rfl

theorem State.rd_send {q : Obj} {i j : Nat} (x : Side) (p : Parcel) (h : q.key i j ≠ Reg.PF_PORT_CREDIT_STALLS.key x.n 0) :
    (s.send x p).rd q i j = s.rd q i j := by
  unfold State.send; rw [State.rd_drain _ x h]; rfl

theorem State.rd_sendHost {q : Obj} {i j : Nat} (x : Side) (ty vc : Nat) (b : Bytes)
    (h : q.key i j ≠ Reg.PF_PORT_CREDIT_STALLS.key x.n 0) : (s.sendHost x ty vc b).rd q i j = s.rd q i j := State.rd_send s x _ h

/-! ## What leaves the block: sending only adds parcels -/

/-- Everything that has left the block stays on record, and what is added are parcels. -/
def OnlyParcels (s t : State) : Prop := ∃ l : List Out, t.out = l ++ s.out ∧ ∀ o ∈ l, ∃ x p, o = Out.parcel x p

theorem OnlyParcels.refl : OnlyParcels s s := ⟨[], rfl, by simp⟩

theorem OnlyParcels.of_eq {s t : State} (h : t.out = s.out) : OnlyParcels s t := ⟨[], by simp [h], by simp⟩

theorem OnlyParcels.trans {s t u : State} (h : OnlyParcels s t) (k : OnlyParcels t u) : OnlyParcels s u := by
  obtain ⟨l, hl, hp⟩ := h
  obtain ⟨m, hm, hq⟩ := k
  refine ⟨m ++ l, by rw [hm, hl, List.append_assoc], fun o ho => ?_⟩
  rcases List.mem_append.mp ho with ho | ho
  · exact hq o ho
  · exact hp o ho

theorem OnlyParcels.foldl {β : Type} {f : State → β → State} (h : ∀ s x, OnlyParcels s (f s x)) (l : List β) (s : State) :
    OnlyParcels s (l.foldl f s) := by
  induction l generalizing s with
  | nil => exact OnlyParcels.refl s
  | cons x l ih => exact (h s x).trans (ih (f s x))

theorem State.sendNow_onlyParcels (x : Side) (p : Parcel) : OnlyParcels s (s.sendNow x p) := by
  refine ⟨[.parcel x { p with lseq := (s.link x).txSeq }], ?_, by simp⟩
  unfold State.sendNow; dsimp only; split <;> rfl

theorem State.trySend_onlyParcels (x : Side) (p : Parcel) : OnlyParcels s (s.trySend x p) := by
  unfold State.trySend; dsimp only
  split
  · exact OnlyParcels.of_eq rfl
  · split
    · exact s.sendNow_onlyParcels x p
    · exact OnlyParcels.of_eq (by simp)

theorem State.drainFifo_onlyParcels (x : Side) (vc : Nat) : OnlyParcels s (s.drainFifo x vc) := by
  unfold State.drainFifo
  refine OnlyParcels.foldl ?_ _ s
  intro s f
  dsimp only
  split
  · exact OnlyParcels.refl s
  · split
    · exact (OnlyParcels.of_eq (t := s.setFifo x vc _) rfl).trans (State.sendNow_onlyParcels _ x _)
    · exact OnlyParcels.of_eq (by simp)

theorem State.drain_onlyParcels (x : Side) : OnlyParcels s (s.drain x) := by
  unfold State.drain; dsimp only; split
  · exact OnlyParcels.refl s
  · exact ((OnlyParcels.of_eq (t := s.setLink x _) rfl).trans (OnlyParcels.foldl (fun s p => s.trySend_onlyParcels x p) _ _)).trans
      (OnlyParcels.foldl (fun s vc => s.drainFifo_onlyParcels x vc) _ _)

theorem State.send_onlyParcels (x : Side) (p : Parcel) : OnlyParcels s (s.send x p) :=
  (OnlyParcels.of_eq (t := s.setLink x _) rfl).trans (State.drain_onlyParcels _ x)

theorem State.sendHost_onlyParcels (x : Side) (ty vc : Nat) (b : Bytes) : OnlyParcels s (s.sendHost x ty vc b) :=
  s.send_onlyParcels x _

/-- What had left the block still has, after parcels were sent. -/
theorem OnlyParcels.mem {s t : State} (h : OnlyParcels s t) {o : Out} (ho : o ∈ s.out) : o ∈ t.out := by
  obtain ⟨l, hl, _⟩ := h
  rw [hl]; exact List.mem_append_right _ ho

/-! ## Records delivered (R44) -/

@[simp] theorem State.deliver_pending (r : Rec) : (s.deliver r).pending = s.pending := by
  unfold State.deliver; dsimp only; repeat' split
  all_goals simp
@[simp] theorem State.deliver_blobs (r : Rec) : (s.deliver r).blobs = s.blobs := by
  unfold State.deliver; dsimp only; repeat' split
  all_goals simp
@[simp] theorem State.deliver_time (r : Rec) : (s.deliver r).time = s.time := by
  unfold State.deliver; dsimp only; repeat' split
  all_goals simp
@[simp] theorem State.deliver_house (r : Rec) : (s.deliver r).house = s.house := by
  unfold State.deliver; dsimp only; repeat' split
  all_goals simp
@[simp] theorem State.deliver_ports (r : Rec) : (s.deliver r).ports = s.ports := by
  unfold State.deliver; dsimp only; repeat' split
  all_goals simp
@[simp] theorem State.deliver_casc (r : Rec) : (s.deliver r).casc = s.casc := by
  unfold State.deliver; dsimp only; repeat' split
  all_goals simp
@[simp] theorem State.deliver_iz (r : Rec) : (s.deliver r).iz = s.iz := by
  unfold State.deliver; dsimp only; repeat' split
  all_goals simp
@[simp] theorem State.deliver_power (r : Rec) : (s.deliver r).power = s.power := by
  unfold State.deliver; dsimp only; repeat' split
  all_goals simp
@[simp] theorem State.deliver_faults (r : Rec) : (s.deliver r).faults = s.faults := by
  unfold State.deliver; dsimp only; repeat' split
  all_goals simp
@[simp] theorem State.deliver_fuses (r : Rec) : (s.deliver r).fuses = s.fuses := by
  unfold State.deliver; dsimp only; repeat' split
  all_goals simp
@[simp] theorem State.deliver_rst (r : Rec) : (s.deliver r).rst = s.rst := by
  unfold State.deliver; dsimp only; repeat' split
  all_goals simp
@[simp] theorem State.deliver_hamper (r : Rec) : (s.deliver r).hamper = s.hamper := by
  unfold State.deliver; dsimp only; repeat' split
  all_goals simp
@[simp] theorem State.deliver_hmp (r : Rec) : (s.deliver r).hmp = s.hmp := by
  unfold State.deliver; dsimp only; repeat' split
  all_goals simp
@[simp] theorem State.deliver_stations (r : Rec) : (s.deliver r).stations = s.stations := by
  unfold State.deliver; dsimp only; repeat' split
  all_goals simp
@[simp] theorem State.deliver_freeCount (r : Rec) : (s.deliver r).freeCount = s.freeCount := by
  unfold State.deliver; dsimp only; repeat' split
  all_goals simp

/-- A record delivered has left the block. -/
theorem State.deliver_event (r : Rec) : Out.event r ∈ (s.deliver r).out := by
  unfold State.deliver; dsimp only
  refine (State.sendHost_onlyParcels _ _ _ _ _).mem ?_
  simp [State.emit]

/-! ## Responses (R431) -/

@[simp] theorem State.reply_pending (r : IzResp) : (s.reply r).pending = s.pending := by
  unfold State.reply; simp
@[simp] theorem State.reply_blobs (r : IzResp) : (s.reply r).blobs = s.blobs := by
  unfold State.reply; simp
@[simp] theorem State.reply_time (r : IzResp) : (s.reply r).time = s.time := by
  unfold State.reply; simp
@[simp] theorem State.reply_merge (r : IzResp) : (s.reply r).merge = s.merge := by
  unfold State.reply; simp
@[simp] theorem State.reply_house (r : IzResp) : (s.reply r).house = s.house := by
  unfold State.reply; simp
@[simp] theorem State.reply_ports (r : IzResp) : (s.reply r).ports = s.ports := by
  unfold State.reply; simp
@[simp] theorem State.reply_casc (r : IzResp) : (s.reply r).casc = s.casc := by
  unfold State.reply; simp
@[simp] theorem State.reply_iz (r : IzResp) : (s.reply r).iz = s.iz := by
  unfold State.reply; simp
@[simp] theorem State.reply_power (r : IzResp) : (s.reply r).power = s.power := by
  unfold State.reply; simp
@[simp] theorem State.reply_faults (r : IzResp) : (s.reply r).faults = s.faults := by
  unfold State.reply; simp
@[simp] theorem State.reply_fuses (r : IzResp) : (s.reply r).fuses = s.fuses := by
  unfold State.reply; simp
@[simp] theorem State.reply_rst (r : IzResp) : (s.reply r).rst = s.rst := by
  unfold State.reply; simp
@[simp] theorem State.reply_hamper (r : IzResp) : (s.reply r).hamper = s.hamper := by
  unfold State.reply; simp
@[simp] theorem State.reply_hmp (r : IzResp) : (s.reply r).hmp = s.hmp := by
  unfold State.reply; simp
@[simp] theorem State.reply_stations (r : IzResp) : (s.reply r).stations = s.stations := by
  unfold State.reply; simp
@[simp] theorem State.reply_freeCount (r : IzResp) : (s.reply r).freeCount = s.freeCount := by
  unfold State.reply; simp
@[simp] theorem State.respond_pending (r : IzResp) : (s.respond r).pending = s.pending := by
  unfold State.respond; dsimp only; repeat' split
  all_goals first | rfl | simp
@[simp] theorem State.respond_blobs (r : IzResp) : (s.respond r).blobs = s.blobs := by
  unfold State.respond; dsimp only; repeat' split
  all_goals first | rfl | simp
@[simp] theorem State.respond_time (r : IzResp) : (s.respond r).time = s.time := by
  unfold State.respond; dsimp only; repeat' split
  all_goals first | rfl | simp
@[simp] theorem State.respond_merge (r : IzResp) : (s.respond r).merge = s.merge := by
  unfold State.respond; dsimp only; repeat' split
  all_goals first | rfl | simp
@[simp] theorem State.respond_house (r : IzResp) : (s.respond r).house = s.house := by
  unfold State.respond; dsimp only; repeat' split
  all_goals first | rfl | simp
@[simp] theorem State.respond_ports (r : IzResp) : (s.respond r).ports = s.ports := by
  unfold State.respond; dsimp only; repeat' split
  all_goals first | rfl | simp
@[simp] theorem State.respond_casc (r : IzResp) : (s.respond r).casc = s.casc := by
  unfold State.respond; dsimp only; repeat' split
  all_goals first | rfl | simp
@[simp] theorem State.respond_power (r : IzResp) : (s.respond r).power = s.power := by
  unfold State.respond; dsimp only; repeat' split
  all_goals first | rfl | simp
@[simp] theorem State.respond_faults (r : IzResp) : (s.respond r).faults = s.faults := by
  unfold State.respond; dsimp only; repeat' split
  all_goals first | rfl | simp
@[simp] theorem State.respond_fuses (r : IzResp) : (s.respond r).fuses = s.fuses := by
  unfold State.respond; dsimp only; repeat' split
  all_goals first | rfl | simp
@[simp] theorem State.respond_rst (r : IzResp) : (s.respond r).rst = s.rst := by
  unfold State.respond; dsimp only; repeat' split
  all_goals first | rfl | simp
@[simp] theorem State.respond_hamper (r : IzResp) : (s.respond r).hamper = s.hamper := by
  unfold State.respond; dsimp only; repeat' split
  all_goals first | rfl | simp
@[simp] theorem State.respond_hmp (r : IzResp) : (s.respond r).hmp = s.hmp := by
  unfold State.respond; dsimp only; repeat' split
  all_goals first | rfl | simp
@[simp] theorem State.respond_stations (r : IzResp) : (s.respond r).stations = s.stations := by
  unfold State.respond; dsimp only; repeat' split
  all_goals first | rfl | simp
@[simp] theorem State.respond_freeCount (r : IzResp) : (s.respond r).freeCount = s.freeCount := by
  unfold State.respond; dsimp only; repeat' split
  all_goals first | rfl | simp

/-- A response put into a parcel has left the block. -/
theorem State.reply_mem (r : IzResp) : Out.reply r ∈ (s.reply r).out := by
  unfold State.reply
  refine (State.sendHost_onlyParcels _ _ _ _ _).mem ?_
  simp [State.emit]

/-- A number that is not a count of credit stalls reads the same after a response. -/
theorem State.rd_reply {q : Obj} {i j : Nat} (r : IzResp) (h : q.key i j ≠ Reg.PF_PORT_CREDIT_STALLS.key r.side.n 0) :
    (s.reply r).rd q i j = s.rd q i j := by
  unfold State.reply; rw [State.rd_sendHost _ _ _ _ _ h]; rfl

theorem State.rd_respond {q : Obj} {i j : Nat} (r : IzResp) (h : q.key i j ≠ Reg.PF_PORT_CREDIT_STALLS.key r.side.n 0) :
    (s.respond r).rd q i j = s.rd q i j := by
  unfold State.respond
  split
  · exact State.rd_reply s r h
  · dsimp only
    split
    · rfl
    · split
      · exact State.rd_reply s r h
      · refine (State.rd_reply _ _ ?_).trans rfl; exact h

/-- A response in a session that is there, or in none, leaves the block: with what the request said and the status. -/
theorem State.respond_mem (r : IzResp) (h : ∀ k, sessionNo r.session = some k → (s.session k).phase ≠ 0) :
    ∃ x, Out.reply x ∈ (s.respond r).out ∧ x.op = r.op ∧ x.status = r.status ∧ x.session = r.session ∧ x.tag = r.tag
      ∧ x.index = r.index ∧ x.sub = r.sub ∧ x.data = r.data := by
  unfold State.respond
  split
  · exact ⟨r, s.reply_mem r, rfl, rfl, rfl, rfl, rfl, rfl, rfl⟩
  · rename_i k hk
    dsimp only
    rw [if_neg (h k hk)]
    split
    · exact ⟨r, s.reply_mem r, rfl, rfl, rfl, rfl, rfl, rfl, rfl⟩
    · exact ⟨_, State.reply_mem _ _, rfl, rfl, rfl, rfl, rfl, rfl, rfl⟩

end Sys2Proof.Machine
end

