-- ==== Sys2Proof/Laws/Lines.lean ====
section
/-! SUPPORT. Operations of the line ports: what each leaves alone, and the counters. -/

namespace Sys2Proof.Machine

set_option linter.unusedTactic false
set_option linter.unreachableTactic false
set_option linter.unnecessarySeqFocus false

variable (s : State)

@[simp] theorem State.cntLine_pending (p : Port) (o : Obj) (n : Int) : (s.cntLine p o n).pending = s.pending := by
  unfold State.cntLine; (try dsimp only); repeat' split
  all_goals first | (simp; done) | rfl
@[simp] theorem State.cntLine_blobs (p : Port) (o : Obj) (n : Int) : (s.cntLine p o n).blobs = s.blobs := by
  unfold State.cntLine; (try dsimp only); repeat' split
  all_goals first | (simp; done) | rfl
@[simp] theorem State.cntLine_time (p : Port) (o : Obj) (n : Int) : (s.cntLine p o n).time = s.time := by
  unfold State.cntLine; (try dsimp only); repeat' split
  all_goals first | (simp; done) | rfl
@[simp] theorem State.cntLine_timers (p : Port) (o : Obj) (n : Int) : (s.cntLine p o n).timers = s.timers := by
  unfold State.cntLine; (try dsimp only); repeat' split
  all_goals first | (simp; done) | rfl
@[simp] theorem State.cntLine_merge (p : Port) (o : Obj) (n : Int) : (s.cntLine p o n).merge = s.merge := by
  unfold State.cntLine; (try dsimp only); repeat' split
  all_goals first | (simp; done) | rfl
@[simp] theorem State.cntLine_house (p : Port) (o : Obj) (n : Int) : (s.cntLine p o n).house = s.house := by
  unfold State.cntLine; (try dsimp only); repeat' split
  all_goals first | (simp; done) | rfl
@[simp] theorem State.cntLine_ports (p : Port) (o : Obj) (n : Int) : (s.cntLine p o n).ports = s.ports := by
  unfold State.cntLine; (try dsimp only); repeat' split
  all_goals first | (simp; done) | rfl
@[simp] theorem State.cntLine_qm (p : Port) (o : Obj) (n : Int) : (s.cntLine p o n).qm = s.qm := by
  unfold State.cntLine; (try dsimp only); repeat' split
  all_goals first | (simp; done) | rfl
@[simp] theorem State.cntLine_pf (p : Port) (o : Obj) (n : Int) : (s.cntLine p o n).pf = s.pf := by
  unfold State.cntLine; (try dsimp only); repeat' split
  all_goals first | (simp; done) | rfl
@[simp] theorem State.cntLine_casc (p : Port) (o : Obj) (n : Int) : (s.cntLine p o n).casc = s.casc := by
  unfold State.cntLine; (try dsimp only); repeat' split
  all_goals first | (simp; done) | rfl
@[simp] theorem State.cntLine_iz (p : Port) (o : Obj) (n : Int) : (s.cntLine p o n).iz = s.iz := by
  unfold State.cntLine; (try dsimp only); repeat' split
  all_goals first | (simp; done) | rfl
@[simp] theorem State.cntLine_power (p : Port) (o : Obj) (n : Int) : (s.cntLine p o n).power = s.power := by
  unfold State.cntLine; (try dsimp only); repeat' split
  all_goals first | (simp; done) | rfl
@[simp] theorem State.cntLine_faults (p : Port) (o : Obj) (n : Int) : (s.cntLine p o n).faults = s.faults := by
  unfold State.cntLine; (try dsimp only); repeat' split
  all_goals first | (simp; done) | rfl
@[simp] theorem State.cntLine_fuses (p : Port) (o : Obj) (n : Int) : (s.cntLine p o n).fuses = s.fuses := by
  unfold State.cntLine; (try dsimp only); repeat' split
  all_goals first | (simp; done) | rfl
@[simp] theorem State.cntLine_rst (p : Port) (o : Obj) (n : Int) : (s.cntLine p o n).rst = s.rst := by
  unfold State.cntLine; (try dsimp only); repeat' split
  all_goals first | (simp; done) | rfl
@[simp] theorem State.cntLine_hamper (p : Port) (o : Obj) (n : Int) : (s.cntLine p o n).hamper = s.hamper := by
  unfold State.cntLine; (try dsimp only); repeat' split
  all_goals first | (simp; done) | rfl
@[simp] theorem State.cntLine_hmp (p : Port) (o : Obj) (n : Int) : (s.cntLine p o n).hmp = s.hmp := by
  unfold State.cntLine; (try dsimp only); repeat' split
  all_goals first | (simp; done) | rfl
@[simp] theorem State.cntLine_stations (p : Port) (o : Obj) (n : Int) : (s.cntLine p o n).stations = s.stations := by
  unfold State.cntLine; (try dsimp only); repeat' split
  all_goals first | (simp; done) | rfl
@[simp] theorem State.cntLine_out (p : Port) (o : Obj) (n : Int) : (s.cntLine p o n).out = s.out := by
  unfold State.cntLine; (try dsimp only); repeat' split
  all_goals first | (simp; done) | rfl
@[simp] theorem State.cntLine_freeCount (p : Port) (o : Obj) (n : Int) : (s.cntLine p o n).freeCount = s.freeCount := by
  unfold State.cntLine; (try dsimp only); repeat' split
  all_goals first | (simp; done) | rfl
@[simp] theorem State.cntSound_pending (p : Port) (o : Obj) (n : Int) : (s.cntSound p o n).pending = s.pending := by
  unfold State.cntSound; (try dsimp only); repeat' split
  all_goals first | (simp; done) | rfl
@[simp] theorem State.cntSound_blobs (p : Port) (o : Obj) (n : Int) : (s.cntSound p o n).blobs = s.blobs := by
  unfold State.cntSound; (try dsimp only); repeat' split
  all_goals first | (simp; done) | rfl
@[simp] theorem State.cntSound_time (p : Port) (o : Obj) (n : Int) : (s.cntSound p o n).time = s.time := by
  unfold State.cntSound; (try dsimp only); repeat' split
  all_goals first | (simp; done) | rfl
@[simp] theorem State.cntSound_timers (p : Port) (o : Obj) (n : Int) : (s.cntSound p o n).timers = s.timers := by
  unfold State.cntSound; (try dsimp only); repeat' split
  all_goals first | (simp; done) | rfl
@[simp] theorem State.cntSound_merge (p : Port) (o : Obj) (n : Int) : (s.cntSound p o n).merge = s.merge := by
  unfold State.cntSound; (try dsimp only); repeat' split
  all_goals first | (simp; done) | rfl
@[simp] theorem State.cntSound_house (p : Port) (o : Obj) (n : Int) : (s.cntSound p o n).house = s.house := by
  unfold State.cntSound; (try dsimp only); repeat' split
  all_goals first | (simp; done) | rfl
@[simp] theorem State.cntSound_ports (p : Port) (o : Obj) (n : Int) : (s.cntSound p o n).ports = s.ports := by
  unfold State.cntSound; (try dsimp only); repeat' split
  all_goals first | (simp; done) | rfl
@[simp] theorem State.cntSound_qm (p : Port) (o : Obj) (n : Int) : (s.cntSound p o n).qm = s.qm := by
  unfold State.cntSound; (try dsimp only); repeat' split
  all_goals first | (simp; done) | rfl
@[simp] theorem State.cntSound_pf (p : Port) (o : Obj) (n : Int) : (s.cntSound p o n).pf = s.pf := by
  unfold State.cntSound; (try dsimp only); repeat' split
  all_goals first | (simp; done) | rfl
@[simp] theorem State.cntSound_casc (p : Port) (o : Obj) (n : Int) : (s.cntSound p o n).casc = s.casc := by
  unfold State.cntSound; (try dsimp only); repeat' split
  all_goals first | (simp; done) | rfl
@[simp] theorem State.cntSound_iz (p : Port) (o : Obj) (n : Int) : (s.cntSound p o n).iz = s.iz := by
  unfold State.cntSound; (try dsimp only); repeat' split
  all_goals first | (simp; done) | rfl
@[simp] theorem State.cntSound_power (p : Port) (o : Obj) (n : Int) : (s.cntSound p o n).power = s.power := by
  unfold State.cntSound; (try dsimp only); repeat' split
  all_goals first | (simp; done) | rfl
@[simp] theorem State.cntSound_faults (p : Port) (o : Obj) (n : Int) : (s.cntSound p o n).faults = s.faults := by
  unfold State.cntSound; (try dsimp only); repeat' split
  all_goals first | (simp; done) | rfl
@[simp] theorem State.cntSound_fuses (p : Port) (o : Obj) (n : Int) : (s.cntSound p o n).fuses = s.fuses := by
  unfold State.cntSound; (try dsimp only); repeat' split
  all_goals first | (simp; done) | rfl
@[simp] theorem State.cntSound_rst (p : Port) (o : Obj) (n : Int) : (s.cntSound p o n).rst = s.rst := by
  unfold State.cntSound; (try dsimp only); repeat' split
  all_goals first | (simp; done) | rfl
@[simp] theorem State.cntSound_hamper (p : Port) (o : Obj) (n : Int) : (s.cntSound p o n).hamper = s.hamper := by
  unfold State.cntSound; (try dsimp only); repeat' split
  all_goals first | (simp; done) | rfl
@[simp] theorem State.cntSound_hmp (p : Port) (o : Obj) (n : Int) : (s.cntSound p o n).hmp = s.hmp := by
  unfold State.cntSound; (try dsimp only); repeat' split
  all_goals first | (simp; done) | rfl
@[simp] theorem State.cntSound_stations (p : Port) (o : Obj) (n : Int) : (s.cntSound p o n).stations = s.stations := by
  unfold State.cntSound; (try dsimp only); repeat' split
  all_goals first | (simp; done) | rfl
@[simp] theorem State.cntSound_out (p : Port) (o : Obj) (n : Int) : (s.cntSound p o n).out = s.out := by
  unfold State.cntSound; (try dsimp only); repeat' split
  all_goals first | (simp; done) | rfl
@[simp] theorem State.cntSound_freeCount (p : Port) (o : Obj) (n : Int) : (s.cntSound p o n).freeCount = s.freeCount := by
  unfold State.cntSound; (try dsimp only); repeat' split
  all_goals first | (simp; done) | rfl
@[simp] theorem State.loseWaiting_pending (p : Port) : (s.loseWaiting p).pending = s.pending := by
  unfold State.loseWaiting; (try dsimp only); repeat' split
  all_goals first | (simp; done) | rfl
@[simp] theorem State.loseWaiting_blobs (p : Port) : (s.loseWaiting p).blobs = s.blobs := by
  unfold State.loseWaiting; (try dsimp only); repeat' split
  all_goals first | (simp; done) | rfl
@[simp] theorem State.loseWaiting_time (p : Port) : (s.loseWaiting p).time = s.time := by
  unfold State.loseWaiting; (try dsimp only); repeat' split
  all_goals first | (simp; done) | rfl
@[simp] theorem State.loseWaiting_timers (p : Port) : (s.loseWaiting p).timers = s.timers := by
  unfold State.loseWaiting; (try dsimp only); repeat' split
  all_goals first | (simp; done) | rfl
@[simp] theorem State.loseWaiting_merge (p : Port) : (s.loseWaiting p).merge = s.merge := by
  unfold State.loseWaiting; (try dsimp only); repeat' split
  all_goals first | (simp; done) | rfl
@[simp] theorem State.loseWaiting_house (p : Port) : (s.loseWaiting p).house = s.house := by
  unfold State.loseWaiting; (try dsimp only); repeat' split
  all_goals first | (simp; done) | rfl
@[simp] theorem State.loseWaiting_qm (p : Port) : (s.loseWaiting p).qm = s.qm := by
  unfold State.loseWaiting; (try dsimp only); repeat' split
  all_goals first | (simp; done) | rfl
@[simp] theorem State.loseWaiting_pf (p : Port) : (s.loseWaiting p).pf = s.pf := by
  unfold State.loseWaiting; (try dsimp only); repeat' split
  all_goals first | (simp; done) | rfl
@[simp] theorem State.loseWaiting_casc (p : Port) : (s.loseWaiting p).casc = s.casc := by
  unfold State.loseWaiting; (try dsimp only); repeat' split
  all_goals first | (simp; done) | rfl
@[simp] theorem State.loseWaiting_iz (p : Port) : (s.loseWaiting p).iz = s.iz := by
  unfold State.loseWaiting; (try dsimp only); repeat' split
  all_goals first | (simp; done) | rfl
@[simp] theorem State.loseWaiting_power (p : Port) : (s.loseWaiting p).power = s.power := by
  unfold State.loseWaiting; (try dsimp only); repeat' split
  all_goals first | (simp; done) | rfl
@[simp] theorem State.loseWaiting_faults (p : Port) : (s.loseWaiting p).faults = s.faults := by
  unfold State.loseWaiting; (try dsimp only); repeat' split
  all_goals first | (simp; done) | rfl
@[simp] theorem State.loseWaiting_fuses (p : Port) : (s.loseWaiting p).fuses = s.fuses := by
  unfold State.loseWaiting; (try dsimp only); repeat' split
  all_goals first | (simp; done) | rfl
@[simp] theorem State.loseWaiting_rst (p : Port) : (s.loseWaiting p).rst = s.rst := by
  unfold State.loseWaiting; (try dsimp only); repeat' split
  all_goals first | (simp; done) | rfl
@[simp] theorem State.loseWaiting_hamper (p : Port) : (s.loseWaiting p).hamper = s.hamper := by
  unfold State.loseWaiting; (try dsimp only); repeat' split
  all_goals first | (simp; done) | rfl
@[simp] theorem State.loseWaiting_hmp (p : Port) : (s.loseWaiting p).hmp = s.hmp := by
  unfold State.loseWaiting; (try dsimp only); repeat' split
  all_goals first | (simp; done) | rfl
@[simp] theorem State.loseWaiting_stations (p : Port) : (s.loseWaiting p).stations = s.stations := by
  unfold State.loseWaiting; (try dsimp only); repeat' split
  all_goals first | (simp; done) | rfl
@[simp] theorem State.loseWaiting_out (p : Port) : (s.loseWaiting p).out = s.out := by
  unfold State.loseWaiting; (try dsimp only); repeat' split
  all_goals first | (simp; done) | rfl
@[simp] theorem State.loseWaiting_freeCount (p : Port) : (s.loseWaiting p).freeCount = s.freeCount := by
  unfold State.loseWaiting; (try dsimp only); repeat' split
  all_goals first | (simp; done) | rfl
@[simp] theorem State.computeLevel_pending (p : Port) : (s.computeLevel p).pending = s.pending := by
  unfold State.computeLevel; (try dsimp only); repeat' split
  all_goals first | (simp; done) | rfl
@[simp] theorem State.computeLevel_blobs (p : Port) : (s.computeLevel p).blobs = s.blobs := by
  unfold State.computeLevel; (try dsimp only); repeat' split
  all_goals first | (simp; done) | rfl
@[simp] theorem State.computeLevel_time (p : Port) : (s.computeLevel p).time = s.time := by
  unfold State.computeLevel; (try dsimp only); repeat' split
  all_goals first | (simp; done) | rfl
@[simp] theorem State.computeLevel_timers (p : Port) : (s.computeLevel p).timers = s.timers := by
  unfold State.computeLevel; (try dsimp only); repeat' split
  all_goals first | (simp; done) | rfl
@[simp] theorem State.computeLevel_merge (p : Port) : (s.computeLevel p).merge = s.merge := by
  unfold State.computeLevel; (try dsimp only); repeat' split
  all_goals first | (simp; done) | rfl
@[simp] theorem State.computeLevel_house (p : Port) : (s.computeLevel p).house = s.house := by
  unfold State.computeLevel; (try dsimp only); repeat' split
  all_goals first | (simp; done) | rfl
@[simp] theorem State.computeLevel_ports (p : Port) : (s.computeLevel p).ports = s.ports := by
  unfold State.computeLevel; (try dsimp only); repeat' split
  all_goals first | (simp; done) | rfl
@[simp] theorem State.computeLevel_qm (p : Port) : (s.computeLevel p).qm = s.qm := by
  unfold State.computeLevel; (try dsimp only); repeat' split
  all_goals first | (simp; done) | rfl
@[simp] theorem State.computeLevel_pf (p : Port) : (s.computeLevel p).pf = s.pf := by
  unfold State.computeLevel; (try dsimp only); repeat' split
  all_goals first | (simp; done) | rfl
@[simp] theorem State.computeLevel_casc (p : Port) : (s.computeLevel p).casc = s.casc := by
  unfold State.computeLevel; (try dsimp only); repeat' split
  all_goals first | (simp; done) | rfl
@[simp] theorem State.computeLevel_iz (p : Port) : (s.computeLevel p).iz = s.iz := by
  unfold State.computeLevel; (try dsimp only); repeat' split
  all_goals first | (simp; done) | rfl
@[simp] theorem State.computeLevel_power (p : Port) : (s.computeLevel p).power = s.power := by
  unfold State.computeLevel; (try dsimp only); repeat' split
  all_goals first | (simp; done) | rfl
@[simp] theorem State.computeLevel_faults (p : Port) : (s.computeLevel p).faults = s.faults := by
  unfold State.computeLevel; (try dsimp only); repeat' split
  all_goals first | (simp; done) | rfl
@[simp] theorem State.computeLevel_fuses (p : Port) : (s.computeLevel p).fuses = s.fuses := by
  unfold State.computeLevel; (try dsimp only); repeat' split
  all_goals first | (simp; done) | rfl
@[simp] theorem State.computeLevel_rst (p : Port) : (s.computeLevel p).rst = s.rst := by
  unfold State.computeLevel; (try dsimp only); repeat' split
  all_goals first | (simp; done) | rfl
@[simp] theorem State.computeLevel_hamper (p : Port) : (s.computeLevel p).hamper = s.hamper := by
  unfold State.computeLevel; (try dsimp only); repeat' split
  all_goals first | (simp; done) | rfl
@[simp] theorem State.computeLevel_hmp (p : Port) : (s.computeLevel p).hmp = s.hmp := by
  unfold State.computeLevel; (try dsimp only); repeat' split
  all_goals first | (simp; done) | rfl
@[simp] theorem State.computeLevel_stations (p : Port) : (s.computeLevel p).stations = s.stations := by
  unfold State.computeLevel; (try dsimp only); repeat' split
  all_goals first | (simp; done) | rfl
@[simp] theorem State.computeLevel_out (p : Port) : (s.computeLevel p).out = s.out := by
  unfold State.computeLevel; (try dsimp only); repeat' split
  all_goals first | (simp; done) | rfl
@[simp] theorem State.computeLevel_freeCount (p : Port) : (s.computeLevel p).freeCount = s.freeCount := by
  unfold State.computeLevel; (try dsimp only); repeat' split
  all_goals first | (simp; done) | rfl
@[simp] theorem State.ecTrain_pending (p : Port) : (s.ecTrain p).pending = s.pending := by
  unfold State.ecTrain; (try dsimp only); repeat' split
  all_goals first | (simp; done) | rfl
@[simp] theorem State.ecTrain_blobs (p : Port) : (s.ecTrain p).blobs = s.blobs := by
  unfold State.ecTrain; (try dsimp only); repeat' split
  all_goals first | (simp; done) | rfl
@[simp] theorem State.ecTrain_time (p : Port) : (s.ecTrain p).time = s.time := by
  unfold State.ecTrain; (try dsimp only); repeat' split
  all_goals first | (simp; done) | rfl
@[simp] theorem State.ecTrain_timers (p : Port) : (s.ecTrain p).timers = s.timers := by
  unfold State.ecTrain; (try dsimp only); repeat' split
  all_goals first | (simp; done) | rfl
@[simp] theorem State.ecTrain_merge (p : Port) : (s.ecTrain p).merge = s.merge := by
  unfold State.ecTrain; (try dsimp only); repeat' split
  all_goals first | (simp; done) | rfl
@[simp] theorem State.ecTrain_house (p : Port) : (s.ecTrain p).house = s.house := by
  unfold State.ecTrain; (try dsimp only); repeat' split
  all_goals first | (simp; done) | rfl
@[simp] theorem State.ecTrain_qm (p : Port) : (s.ecTrain p).qm = s.qm := by
  unfold State.ecTrain; (try dsimp only); repeat' split
  all_goals first | (simp; done) | rfl
@[simp] theorem State.ecTrain_pf (p : Port) : (s.ecTrain p).pf = s.pf := by
  unfold State.ecTrain; (try dsimp only); repeat' split
  all_goals first | (simp; done) | rfl
@[simp] theorem State.ecTrain_casc (p : Port) : (s.ecTrain p).casc = s.casc := by
  unfold State.ecTrain; (try dsimp only); repeat' split
  all_goals first | (simp; done) | rfl
@[simp] theorem State.ecTrain_iz (p : Port) : (s.ecTrain p).iz = s.iz := by
  unfold State.ecTrain; (try dsimp only); repeat' split
  all_goals first | (simp; done) | rfl
@[simp] theorem State.ecTrain_power (p : Port) : (s.ecTrain p).power = s.power := by
  unfold State.ecTrain; (try dsimp only); repeat' split
  all_goals first | (simp; done) | rfl
@[simp] theorem State.ecTrain_faults (p : Port) : (s.ecTrain p).faults = s.faults := by
  unfold State.ecTrain; (try dsimp only); repeat' split
  all_goals first | (simp; done) | rfl
@[simp] theorem State.ecTrain_fuses (p : Port) : (s.ecTrain p).fuses = s.fuses := by
  unfold State.ecTrain; (try dsimp only); repeat' split
  all_goals first | (simp; done) | rfl
@[simp] theorem State.ecTrain_rst (p : Port) : (s.ecTrain p).rst = s.rst := by
  unfold State.ecTrain; (try dsimp only); repeat' split
  all_goals first | (simp; done) | rfl
@[simp] theorem State.ecTrain_hamper (p : Port) : (s.ecTrain p).hamper = s.hamper := by
  unfold State.ecTrain; (try dsimp only); repeat' split
  all_goals first | (simp; done) | rfl
@[simp] theorem State.ecTrain_hmp (p : Port) : (s.ecTrain p).hmp = s.hmp := by
  unfold State.ecTrain; (try dsimp only); repeat' split
  all_goals first | (simp; done) | rfl
@[simp] theorem State.ecTrain_stations (p : Port) : (s.ecTrain p).stations = s.stations := by
  unfold State.ecTrain; (try dsimp only); repeat' split
  all_goals first | (simp; done) | rfl
@[simp] theorem State.ecTrain_out (p : Port) : (s.ecTrain p).out = s.out := by
  unfold State.ecTrain; (try dsimp only); repeat' split
  all_goals first | (simp; done) | rfl
@[simp] theorem State.ecTrain_freeCount (p : Port) : (s.ecTrain p).freeCount = s.freeCount := by
  unfold State.ecTrain; (try dsimp only); repeat' split
  all_goals first | (simp; done) | rfl
@[simp] theorem State.ecClear_pending (p : Port) : (s.ecClear p).pending = s.pending := by
  unfold State.ecClear; (try dsimp only); repeat' split
  all_goals first | (simp; done) | rfl
@[simp] theorem State.ecClear_blobs (p : Port) : (s.ecClear p).blobs = s.blobs := by
  unfold State.ecClear; (try dsimp only); repeat' split
  all_goals first | (simp; done) | rfl
@[simp] theorem State.ecClear_time (p : Port) : (s.ecClear p).time = s.time := by
  unfold State.ecClear; (try dsimp only); repeat' split
  all_goals first | (simp; done) | rfl
@[simp] theorem State.ecClear_timers (p : Port) : (s.ecClear p).timers = s.timers := by
  unfold State.ecClear; (try dsimp only); repeat' split
  all_goals first | (simp; done) | rfl
@[simp] theorem State.ecClear_merge (p : Port) : (s.ecClear p).merge = s.merge := by
  unfold State.ecClear; (try dsimp only); repeat' split
  all_goals first | (simp; done) | rfl
@[simp] theorem State.ecClear_house (p : Port) : (s.ecClear p).house = s.house := by
  unfold State.ecClear; (try dsimp only); repeat' split
  all_goals first | (simp; done) | rfl
@[simp] theorem State.ecClear_qm (p : Port) : (s.ecClear p).qm = s.qm := by
  unfold State.ecClear; (try dsimp only); repeat' split
  all_goals first | (simp; done) | rfl
@[simp] theorem State.ecClear_pf (p : Port) : (s.ecClear p).pf = s.pf := by
  unfold State.ecClear; (try dsimp only); repeat' split
  all_goals first | (simp; done) | rfl
@[simp] theorem State.ecClear_casc (p : Port) : (s.ecClear p).casc = s.casc := by
  unfold State.ecClear; (try dsimp only); repeat' split
  all_goals first | (simp; done) | rfl
@[simp] theorem State.ecClear_iz (p : Port) : (s.ecClear p).iz = s.iz := by
  unfold State.ecClear; (try dsimp only); repeat' split
  all_goals first | (simp; done) | rfl
@[simp] theorem State.ecClear_power (p : Port) : (s.ecClear p).power = s.power := by
  unfold State.ecClear; (try dsimp only); repeat' split
  all_goals first | (simp; done) | rfl
@[simp] theorem State.ecClear_faults (p : Port) : (s.ecClear p).faults = s.faults := by
  unfold State.ecClear; (try dsimp only); repeat' split
  all_goals first | (simp; done) | rfl
@[simp] theorem State.ecClear_fuses (p : Port) : (s.ecClear p).fuses = s.fuses := by
  unfold State.ecClear; (try dsimp only); repeat' split
  all_goals first | (simp; done) | rfl
@[simp] theorem State.ecClear_rst (p : Port) : (s.ecClear p).rst = s.rst := by
  unfold State.ecClear; (try dsimp only); repeat' split
  all_goals first | (simp; done) | rfl
@[simp] theorem State.ecClear_hamper (p : Port) : (s.ecClear p).hamper = s.hamper := by
  unfold State.ecClear; (try dsimp only); repeat' split
  all_goals first | (simp; done) | rfl
@[simp] theorem State.ecClear_hmp (p : Port) : (s.ecClear p).hmp = s.hmp := by
  unfold State.ecClear; (try dsimp only); repeat' split
  all_goals first | (simp; done) | rfl
@[simp] theorem State.ecClear_stations (p : Port) : (s.ecClear p).stations = s.stations := by
  unfold State.ecClear; (try dsimp only); repeat' split
  all_goals first | (simp; done) | rfl
@[simp] theorem State.ecClear_out (p : Port) : (s.ecClear p).out = s.out := by
  unfold State.ecClear; (try dsimp only); repeat' split
  all_goals first | (simp; done) | rfl
@[simp] theorem State.ecClear_freeCount (p : Port) : (s.ecClear p).freeCount = s.freeCount := by
  unfold State.ecClear; (try dsimp only); repeat' split
  all_goals first | (simp; done) | rfl
@[simp] theorem State.eqClear_pending (p : Port) (a : Nat) : (s.eqClear p a).pending = s.pending := by
  unfold State.eqClear; (try dsimp only); repeat' split
  all_goals first | (simp; done) | rfl
@[simp] theorem State.eqClear_time (p : Port) (a : Nat) : (s.eqClear p a).time = s.time := by
  unfold State.eqClear; (try dsimp only); repeat' split
  all_goals first | (simp; done) | rfl
@[simp] theorem State.eqClear_timers (p : Port) (a : Nat) : (s.eqClear p a).timers = s.timers := by
  unfold State.eqClear; (try dsimp only); repeat' split
  all_goals first | (simp; done) | rfl
@[simp] theorem State.eqClear_merge (p : Port) (a : Nat) : (s.eqClear p a).merge = s.merge := by
  unfold State.eqClear; (try dsimp only); repeat' split
  all_goals first | (simp; done) | rfl
@[simp] theorem State.eqClear_house (p : Port) (a : Nat) : (s.eqClear p a).house = s.house := by
  unfold State.eqClear; (try dsimp only); repeat' split
  all_goals first | (simp; done) | rfl
@[simp] theorem State.eqClear_qm (p : Port) (a : Nat) : (s.eqClear p a).qm = s.qm := by
  unfold State.eqClear; (try dsimp only); repeat' split
  all_goals first | (simp; done) | rfl
@[simp] theorem State.eqClear_pf (p : Port) (a : Nat) : (s.eqClear p a).pf = s.pf := by
  unfold State.eqClear; (try dsimp only); repeat' split
  all_goals first | (simp; done) | rfl
@[simp] theorem State.eqClear_casc (p : Port) (a : Nat) : (s.eqClear p a).casc = s.casc := by
  unfold State.eqClear; (try dsimp only); repeat' split
  all_goals first | (simp; done) | rfl
@[simp] theorem State.eqClear_iz (p : Port) (a : Nat) : (s.eqClear p a).iz = s.iz := by
  unfold State.eqClear; (try dsimp only); repeat' split
  all_goals first | (simp; done) | rfl
@[simp] theorem State.eqClear_power (p : Port) (a : Nat) : (s.eqClear p a).power = s.power := by
  unfold State.eqClear; (try dsimp only); repeat' split
  all_goals first | (simp; done) | rfl
@[simp] theorem State.eqClear_faults (p : Port) (a : Nat) : (s.eqClear p a).faults = s.faults := by
  unfold State.eqClear; (try dsimp only); repeat' split
  all_goals first | (simp; done) | rfl
@[simp] theorem State.eqClear_fuses (p : Port) (a : Nat) : (s.eqClear p a).fuses = s.fuses := by
  unfold State.eqClear; (try dsimp only); repeat' split
  all_goals first | (simp; done) | rfl
@[simp] theorem State.eqClear_rst (p : Port) (a : Nat) : (s.eqClear p a).rst = s.rst := by
  unfold State.eqClear; (try dsimp only); repeat' split
  all_goals first | (simp; done) | rfl
@[simp] theorem State.eqClear_hamper (p : Port) (a : Nat) : (s.eqClear p a).hamper = s.hamper := by
  unfold State.eqClear; (try dsimp only); repeat' split
  all_goals first | (simp; done) | rfl
@[simp] theorem State.eqClear_hmp (p : Port) (a : Nat) : (s.eqClear p a).hmp = s.hmp := by
  unfold State.eqClear; (try dsimp only); repeat' split
  all_goals first | (simp; done) | rfl
@[simp] theorem State.eqClear_stations (p : Port) (a : Nat) : (s.eqClear p a).stations = s.stations := by
  unfold State.eqClear; (try dsimp only); repeat' split
  all_goals first | (simp; done) | rfl
@[simp] theorem State.eqClear_out (p : Port) (a : Nat) : (s.eqClear p a).out = s.out := by
  unfold State.eqClear; (try dsimp only); repeat' split
  all_goals first | (simp; done) | rfl
@[simp] theorem State.eqClear_freeCount (p : Port) (a : Nat) : (s.eqClear p a).freeCount = s.freeCount := by
  unfold State.eqClear; (try dsimp only); repeat' split
  all_goals first | (simp; done) | rfl
@[simp] theorem State.setPoints_pending (p : Port) (a : Nat) (w : List (Int × Int)) : (s.setPoints p a w).pending = s.pending := by
  unfold State.setPoints; (try dsimp only); repeat' split
  all_goals first | (simp; done) | rfl
@[simp] theorem State.setPoints_regs (p : Port) (a : Nat) (w : List (Int × Int)) : (s.setPoints p a w).regs = s.regs := by
  unfold State.setPoints; (try dsimp only); repeat' split
  all_goals first | (simp; done) | rfl
@[simp] theorem State.setPoints_time (p : Port) (a : Nat) (w : List (Int × Int)) : (s.setPoints p a w).time = s.time := by
  unfold State.setPoints; (try dsimp only); repeat' split
  all_goals first | (simp; done) | rfl
@[simp] theorem State.setPoints_timers (p : Port) (a : Nat) (w : List (Int × Int)) : (s.setPoints p a w).timers = s.timers := by
  unfold State.setPoints; (try dsimp only); repeat' split
  all_goals first | (simp; done) | rfl
@[simp] theorem State.setPoints_merge (p : Port) (a : Nat) (w : List (Int × Int)) : (s.setPoints p a w).merge = s.merge := by
  unfold State.setPoints; (try dsimp only); repeat' split
  all_goals first | (simp; done) | rfl
@[simp] theorem State.setPoints_house (p : Port) (a : Nat) (w : List (Int × Int)) : (s.setPoints p a w).house = s.house := by
  unfold State.setPoints; (try dsimp only); repeat' split
  all_goals first | (simp; done) | rfl
@[simp] theorem State.setPoints_qm (p : Port) (a : Nat) (w : List (Int × Int)) : (s.setPoints p a w).qm = s.qm := by
  unfold State.setPoints; (try dsimp only); repeat' split
  all_goals first | (simp; done) | rfl
@[simp] theorem State.setPoints_pf (p : Port) (a : Nat) (w : List (Int × Int)) : (s.setPoints p a w).pf = s.pf := by
  unfold State.setPoints; (try dsimp only); repeat' split
  all_goals first | (simp; done) | rfl
@[simp] theorem State.setPoints_casc (p : Port) (a : Nat) (w : List (Int × Int)) : (s.setPoints p a w).casc = s.casc := by
  unfold State.setPoints; (try dsimp only); repeat' split
  all_goals first | (simp; done) | rfl
@[simp] theorem State.setPoints_iz (p : Port) (a : Nat) (w : List (Int × Int)) : (s.setPoints p a w).iz = s.iz := by
  unfold State.setPoints; (try dsimp only); repeat' split
  all_goals first | (simp; done) | rfl
@[simp] theorem State.setPoints_power (p : Port) (a : Nat) (w : List (Int × Int)) : (s.setPoints p a w).power = s.power := by
  unfold State.setPoints; (try dsimp only); repeat' split
  all_goals first | (simp; done) | rfl
@[simp] theorem State.setPoints_faults (p : Port) (a : Nat) (w : List (Int × Int)) : (s.setPoints p a w).faults = s.faults := by
  unfold State.setPoints; (try dsimp only); repeat' split
  all_goals first | (simp; done) | rfl
@[simp] theorem State.setPoints_fuses (p : Port) (a : Nat) (w : List (Int × Int)) : (s.setPoints p a w).fuses = s.fuses := by
  unfold State.setPoints; (try dsimp only); repeat' split
  all_goals first | (simp; done) | rfl
@[simp] theorem State.setPoints_rst (p : Port) (a : Nat) (w : List (Int × Int)) : (s.setPoints p a w).rst = s.rst := by
  unfold State.setPoints; (try dsimp only); repeat' split
  all_goals first | (simp; done) | rfl
@[simp] theorem State.setPoints_hamper (p : Port) (a : Nat) (w : List (Int × Int)) : (s.setPoints p a w).hamper = s.hamper := by
  unfold State.setPoints; (try dsimp only); repeat' split
  all_goals first | (simp; done) | rfl
@[simp] theorem State.setPoints_hmp (p : Port) (a : Nat) (w : List (Int × Int)) : (s.setPoints p a w).hmp = s.hmp := by
  unfold State.setPoints; (try dsimp only); repeat' split
  all_goals first | (simp; done) | rfl
@[simp] theorem State.setPoints_stations (p : Port) (a : Nat) (w : List (Int × Int)) : (s.setPoints p a w).stations = s.stations := by
  unfold State.setPoints; (try dsimp only); repeat' split
  all_goals first | (simp; done) | rfl
@[simp] theorem State.setPoints_out (p : Port) (a : Nat) (w : List (Int × Int)) : (s.setPoints p a w).out = s.out := by
  unfold State.setPoints; (try dsimp only); repeat' split
  all_goals first | (simp; done) | rfl
@[simp] theorem State.setPoints_freeCount (p : Port) (a : Nat) (w : List (Int × Int)) : (s.setPoints p a w).freeCount = s.freeCount := by
  unfold State.setPoints; (try dsimp only); repeat' split
  all_goals first | (simp; done) | rfl
@[simp] theorem State.queueCtl_pending (p : Port) (f : CtlFrame) : (s.queueCtl p f).pending = s.pending := by
  unfold State.queueCtl; (try dsimp only); repeat' split
  all_goals first | (simp; done) | rfl
@[simp] theorem State.queueCtl_regs (p : Port) (f : CtlFrame) : (s.queueCtl p f).regs = s.regs := by
  unfold State.queueCtl; (try dsimp only); repeat' split
  all_goals first | (simp; done) | rfl
@[simp] theorem State.queueCtl_blobs (p : Port) (f : CtlFrame) : (s.queueCtl p f).blobs = s.blobs := by
  unfold State.queueCtl; (try dsimp only); repeat' split
  all_goals first | (simp; done) | rfl
@[simp] theorem State.queueCtl_time (p : Port) (f : CtlFrame) : (s.queueCtl p f).time = s.time := by
  unfold State.queueCtl; (try dsimp only); repeat' split
  all_goals first | (simp; done) | rfl
@[simp] theorem State.queueCtl_timers (p : Port) (f : CtlFrame) : (s.queueCtl p f).timers = s.timers := by
  unfold State.queueCtl; (try dsimp only); repeat' split
  all_goals first | (simp; done) | rfl
@[simp] theorem State.queueCtl_merge (p : Port) (f : CtlFrame) : (s.queueCtl p f).merge = s.merge := by
  unfold State.queueCtl; (try dsimp only); repeat' split
  all_goals first | (simp; done) | rfl
@[simp] theorem State.queueCtl_house (p : Port) (f : CtlFrame) : (s.queueCtl p f).house = s.house := by
  unfold State.queueCtl; (try dsimp only); repeat' split
  all_goals first | (simp; done) | rfl
@[simp] theorem State.queueCtl_qm (p : Port) (f : CtlFrame) : (s.queueCtl p f).qm = s.qm := by
  unfold State.queueCtl; (try dsimp only); repeat' split
  all_goals first | (simp; done) | rfl
@[simp] theorem State.queueCtl_pf (p : Port) (f : CtlFrame) : (s.queueCtl p f).pf = s.pf := by
  unfold State.queueCtl; (try dsimp only); repeat' split
  all_goals first | (simp; done) | rfl
@[simp] theorem State.queueCtl_casc (p : Port) (f : CtlFrame) : (s.queueCtl p f).casc = s.casc := by
  unfold State.queueCtl; (try dsimp only); repeat' split
  all_goals first | (simp; done) | rfl
@[simp] theorem State.queueCtl_iz (p : Port) (f : CtlFrame) : (s.queueCtl p f).iz = s.iz := by
  unfold State.queueCtl; (try dsimp only); repeat' split
  all_goals first | (simp; done) | rfl
@[simp] theorem State.queueCtl_power (p : Port) (f : CtlFrame) : (s.queueCtl p f).power = s.power := by
  unfold State.queueCtl; (try dsimp only); repeat' split
  all_goals first | (simp; done) | rfl
@[simp] theorem State.queueCtl_faults (p : Port) (f : CtlFrame) : (s.queueCtl p f).faults = s.faults := by
  unfold State.queueCtl; (try dsimp only); repeat' split
  all_goals first | (simp; done) | rfl
@[simp] theorem State.queueCtl_fuses (p : Port) (f : CtlFrame) : (s.queueCtl p f).fuses = s.fuses := by
  unfold State.queueCtl; (try dsimp only); repeat' split
  all_goals first | (simp; done) | rfl
@[simp] theorem State.queueCtl_rst (p : Port) (f : CtlFrame) : (s.queueCtl p f).rst = s.rst := by
  unfold State.queueCtl; (try dsimp only); repeat' split
  all_goals first | (simp; done) | rfl
@[simp] theorem State.queueCtl_hamper (p : Port) (f : CtlFrame) : (s.queueCtl p f).hamper = s.hamper := by
  unfold State.queueCtl; (try dsimp only); repeat' split
  all_goals first | (simp; done) | rfl
@[simp] theorem State.queueCtl_hmp (p : Port) (f : CtlFrame) : (s.queueCtl p f).hmp = s.hmp := by
  unfold State.queueCtl; (try dsimp only); repeat' split
  all_goals first | (simp; done) | rfl
@[simp] theorem State.queueCtl_stations (p : Port) (f : CtlFrame) : (s.queueCtl p f).stations = s.stations := by
  unfold State.queueCtl; (try dsimp only); repeat' split
  all_goals first | (simp; done) | rfl
@[simp] theorem State.queueCtl_out (p : Port) (f : CtlFrame) : (s.queueCtl p f).out = s.out := by
  unfold State.queueCtl; (try dsimp only); repeat' split
  all_goals first | (simp; done) | rfl
@[simp] theorem State.queueCtl_freeCount (p : Port) (f : CtlFrame) : (s.queueCtl p f).freeCount = s.freeCount := by
  unfold State.queueCtl; (try dsimp only); repeat' split
  all_goals first | (simp; done) | rfl
@[simp] theorem State.stationRecord_pending (p : Port) (a e r : Nat) : (s.stationRecord p a e r).pending = s.pending := by
  unfold State.stationRecord; (try dsimp only); repeat' split
  all_goals first | (simp; done) | rfl
@[simp] theorem State.stationRecord_regs (p : Port) (a e r : Nat) : (s.stationRecord p a e r).regs = s.regs := by
  unfold State.stationRecord; (try dsimp only); repeat' split
  all_goals first | (simp; done) | rfl
@[simp] theorem State.stationRecord_blobs (p : Port) (a e r : Nat) : (s.stationRecord p a e r).blobs = s.blobs := by
  unfold State.stationRecord; (try dsimp only); repeat' split
  all_goals first | (simp; done) | rfl
@[simp] theorem State.stationRecord_time (p : Port) (a e r : Nat) : (s.stationRecord p a e r).time = s.time := by
  unfold State.stationRecord; (try dsimp only); repeat' split
  all_goals first | (simp; done) | rfl
@[simp] theorem State.stationRecord_timers (p : Port) (a e r : Nat) : (s.stationRecord p a e r).timers = s.timers := by
  unfold State.stationRecord; (try dsimp only); repeat' split
  all_goals first | (simp; done) | rfl
@[simp] theorem State.stationRecord_house (p : Port) (a e r : Nat) : (s.stationRecord p a e r).house = s.house := by
  unfold State.stationRecord; (try dsimp only); repeat' split
  all_goals first | (simp; done) | rfl
@[simp] theorem State.stationRecord_ports (p : Port) (a e r : Nat) : (s.stationRecord p a e r).ports = s.ports := by
  unfold State.stationRecord; (try dsimp only); repeat' split
  all_goals first | (simp; done) | rfl
@[simp] theorem State.stationRecord_qm (p : Port) (a e r : Nat) : (s.stationRecord p a e r).qm = s.qm := by
  unfold State.stationRecord; (try dsimp only); repeat' split
  all_goals first | (simp; done) | rfl
@[simp] theorem State.stationRecord_pf (p : Port) (a e r : Nat) : (s.stationRecord p a e r).pf = s.pf := by
  unfold State.stationRecord; (try dsimp only); repeat' split
  all_goals first | (simp; done) | rfl
@[simp] theorem State.stationRecord_casc (p : Port) (a e r : Nat) : (s.stationRecord p a e r).casc = s.casc := by
  unfold State.stationRecord; (try dsimp only); repeat' split
  all_goals first | (simp; done) | rfl
@[simp] theorem State.stationRecord_iz (p : Port) (a e r : Nat) : (s.stationRecord p a e r).iz = s.iz := by
  unfold State.stationRecord; (try dsimp only); repeat' split
  all_goals first | (simp; done) | rfl
@[simp] theorem State.stationRecord_power (p : Port) (a e r : Nat) : (s.stationRecord p a e r).power = s.power := by
  unfold State.stationRecord; (try dsimp only); repeat' split
  all_goals first | (simp; done) | rfl
@[simp] theorem State.stationRecord_faults (p : Port) (a e r : Nat) : (s.stationRecord p a e r).faults = s.faults := by
  unfold State.stationRecord; (try dsimp only); repeat' split
  all_goals first | (simp; done) | rfl
@[simp] theorem State.stationRecord_fuses (p : Port) (a e r : Nat) : (s.stationRecord p a e r).fuses = s.fuses := by
  unfold State.stationRecord; (try dsimp only); repeat' split
  all_goals first | (simp; done) | rfl
@[simp] theorem State.stationRecord_rst (p : Port) (a e r : Nat) : (s.stationRecord p a e r).rst = s.rst := by
  unfold State.stationRecord; (try dsimp only); repeat' split
  all_goals first | (simp; done) | rfl
@[simp] theorem State.stationRecord_hamper (p : Port) (a e r : Nat) : (s.stationRecord p a e r).hamper = s.hamper := by
  unfold State.stationRecord; (try dsimp only); repeat' split
  all_goals first | (simp; done) | rfl
@[simp] theorem State.stationRecord_hmp (p : Port) (a e r : Nat) : (s.stationRecord p a e r).hmp = s.hmp := by
  unfold State.stationRecord; (try dsimp only); repeat' split
  all_goals first | (simp; done) | rfl
@[simp] theorem State.stationRecord_stations (p : Port) (a e r : Nat) : (s.stationRecord p a e r).stations = s.stations := by
  unfold State.stationRecord; (try dsimp only); repeat' split
  all_goals first | (simp; done) | rfl
@[simp] theorem State.stationRecord_out (p : Port) (a e r : Nat) : (s.stationRecord p a e r).out = s.out := by
  unfold State.stationRecord; (try dsimp only); repeat' split
  all_goals first | (simp; done) | rfl
@[simp] theorem State.stationRecord_freeCount (p : Port) (a e r : Nat) : (s.stationRecord p a e r).freeCount = s.freeCount := by
  unfold State.stationRecord; (try dsimp only); repeat' split
  all_goals first | (simp; done) | rfl
@[simp] theorem State.updateInterval_pending (p : Port) : (s.updateInterval p).pending = s.pending := by
  unfold State.updateInterval; (try dsimp only); repeat' split
  all_goals first | (simp; done) | rfl
@[simp] theorem State.updateInterval_blobs (p : Port) : (s.updateInterval p).blobs = s.blobs := by
  unfold State.updateInterval; (try dsimp only); repeat' split
  all_goals first | (simp; done) | rfl
@[simp] theorem State.updateInterval_time (p : Port) : (s.updateInterval p).time = s.time := by
  unfold State.updateInterval; (try dsimp only); repeat' split
  all_goals first | (simp; done) | rfl
@[simp] theorem State.updateInterval_timers (p : Port) : (s.updateInterval p).timers = s.timers := by
  unfold State.updateInterval; (try dsimp only); repeat' split
  all_goals first | (simp; done) | rfl
@[simp] theorem State.updateInterval_merge (p : Port) : (s.updateInterval p).merge = s.merge := by
  unfold State.updateInterval; (try dsimp only); repeat' split
  all_goals first | (simp; done) | rfl
@[simp] theorem State.updateInterval_house (p : Port) : (s.updateInterval p).house = s.house := by
  unfold State.updateInterval; (try dsimp only); repeat' split
  all_goals first | (simp; done) | rfl
@[simp] theorem State.updateInterval_ports (p : Port) : (s.updateInterval p).ports = s.ports := by
  unfold State.updateInterval; (try dsimp only); repeat' split
  all_goals first | (simp; done) | rfl
@[simp] theorem State.updateInterval_qm (p : Port) : (s.updateInterval p).qm = s.qm := by
  unfold State.updateInterval; (try dsimp only); repeat' split
  all_goals first | (simp; done) | rfl
@[simp] theorem State.updateInterval_pf (p : Port) : (s.updateInterval p).pf = s.pf := by
  unfold State.updateInterval; (try dsimp only); repeat' split
  all_goals first | (simp; done) | rfl
@[simp] theorem State.updateInterval_casc (p : Port) : (s.updateInterval p).casc = s.casc := by
  unfold State.updateInterval; (try dsimp only); repeat' split
  all_goals first | (simp; done) | rfl
@[simp] theorem State.updateInterval_iz (p : Port) : (s.updateInterval p).iz = s.iz := by
  unfold State.updateInterval; (try dsimp only); repeat' split
  all_goals first | (simp; done) | rfl
@[simp] theorem State.updateInterval_power (p : Port) : (s.updateInterval p).power = s.power := by
  unfold State.updateInterval; (try dsimp only); repeat' split
  all_goals first | (simp; done) | rfl
@[simp] theorem State.updateInterval_faults (p : Port) : (s.updateInterval p).faults = s.faults := by
  unfold State.updateInterval; (try dsimp only); repeat' split
  all_goals first | (simp; done) | rfl
@[simp] theorem State.updateInterval_fuses (p : Port) : (s.updateInterval p).fuses = s.fuses := by
  unfold State.updateInterval; (try dsimp only); repeat' split
  all_goals first | (simp; done) | rfl
@[simp] theorem State.updateInterval_rst (p : Port) : (s.updateInterval p).rst = s.rst := by
  unfold State.updateInterval; (try dsimp only); repeat' split
  all_goals first | (simp; done) | rfl
@[simp] theorem State.updateInterval_hamper (p : Port) : (s.updateInterval p).hamper = s.hamper := by
  unfold State.updateInterval; (try dsimp only); repeat' split
  all_goals first | (simp; done) | rfl
@[simp] theorem State.updateInterval_hmp (p : Port) : (s.updateInterval p).hmp = s.hmp := by
  unfold State.updateInterval; (try dsimp only); repeat' split
  all_goals first | (simp; done) | rfl
@[simp] theorem State.updateInterval_stations (p : Port) : (s.updateInterval p).stations = s.stations := by
  unfold State.updateInterval; (try dsimp only); repeat' split
  all_goals first | (simp; done) | rfl
@[simp] theorem State.updateInterval_out (p : Port) : (s.updateInterval p).out = s.out := by
  unfold State.updateInterval; (try dsimp only); repeat' split
  all_goals first | (simp; done) | rfl
@[simp] theorem State.updateInterval_freeCount (p : Port) : (s.updateInterval p).freeCount = s.freeCount := by
  unfold State.updateInterval; (try dsimp only); repeat' split
  all_goals first | (simp; done) | rfl
@[simp] theorem State.suspectBit_pending (p : Port) (k : Nat) (b : Bool) : (s.suspectBit p k b).pending = s.pending := by
  unfold State.suspectBit; (try dsimp only); repeat' split
  all_goals first | (simp; done) | rfl
@[simp] theorem State.suspectBit_blobs (p : Port) (k : Nat) (b : Bool) : (s.suspectBit p k b).blobs = s.blobs := by
  unfold State.suspectBit; (try dsimp only); repeat' split
  all_goals first | (simp; done) | rfl
@[simp] theorem State.suspectBit_time (p : Port) (k : Nat) (b : Bool) : (s.suspectBit p k b).time = s.time := by
  unfold State.suspectBit; (try dsimp only); repeat' split
  all_goals first | (simp; done) | rfl
@[simp] theorem State.suspectBit_timers (p : Port) (k : Nat) (b : Bool) : (s.suspectBit p k b).timers = s.timers := by
  unfold State.suspectBit; (try dsimp only); repeat' split
  all_goals first | (simp; done) | rfl
@[simp] theorem State.suspectBit_merge (p : Port) (k : Nat) (b : Bool) : (s.suspectBit p k b).merge = s.merge := by
  unfold State.suspectBit; (try dsimp only); repeat' split
  all_goals first | (simp; done) | rfl
@[simp] theorem State.suspectBit_house (p : Port) (k : Nat) (b : Bool) : (s.suspectBit p k b).house = s.house := by
  unfold State.suspectBit; (try dsimp only); repeat' split
  all_goals first | (simp; done) | rfl
@[simp] theorem State.suspectBit_ports (p : Port) (k : Nat) (b : Bool) : (s.suspectBit p k b).ports = s.ports := by
  unfold State.suspectBit; (try dsimp only); repeat' split
  all_goals first | (simp; done) | rfl
@[simp] theorem State.suspectBit_qm (p : Port) (k : Nat) (b : Bool) : (s.suspectBit p k b).qm = s.qm := by
  unfold State.suspectBit; (try dsimp only); repeat' split
  all_goals first | (simp; done) | rfl
@[simp] theorem State.suspectBit_pf (p : Port) (k : Nat) (b : Bool) : (s.suspectBit p k b).pf = s.pf := by
  unfold State.suspectBit; (try dsimp only); repeat' split
  all_goals first | (simp; done) | rfl
@[simp] theorem State.suspectBit_casc (p : Port) (k : Nat) (b : Bool) : (s.suspectBit p k b).casc = s.casc := by
  unfold State.suspectBit; (try dsimp only); repeat' split
  all_goals first | (simp; done) | rfl
@[simp] theorem State.suspectBit_iz (p : Port) (k : Nat) (b : Bool) : (s.suspectBit p k b).iz = s.iz := by
  unfold State.suspectBit; (try dsimp only); repeat' split
  all_goals first | (simp; done) | rfl
@[simp] theorem State.suspectBit_power (p : Port) (k : Nat) (b : Bool) : (s.suspectBit p k b).power = s.power := by
  unfold State.suspectBit; (try dsimp only); repeat' split
  all_goals first | (simp; done) | rfl
@[simp] theorem State.suspectBit_faults (p : Port) (k : Nat) (b : Bool) : (s.suspectBit p k b).faults = s.faults := by
  unfold State.suspectBit; (try dsimp only); repeat' split
  all_goals first | (simp; done) | rfl
@[simp] theorem State.suspectBit_fuses (p : Port) (k : Nat) (b : Bool) : (s.suspectBit p k b).fuses = s.fuses := by
  unfold State.suspectBit; (try dsimp only); repeat' split
  all_goals first | (simp; done) | rfl
@[simp] theorem State.suspectBit_rst (p : Port) (k : Nat) (b : Bool) : (s.suspectBit p k b).rst = s.rst := by
  unfold State.suspectBit; (try dsimp only); repeat' split
  all_goals first | (simp; done) | rfl
@[simp] theorem State.suspectBit_hamper (p : Port) (k : Nat) (b : Bool) : (s.suspectBit p k b).hamper = s.hamper := by
  unfold State.suspectBit; (try dsimp only); repeat' split
  all_goals first | (simp; done) | rfl
@[simp] theorem State.suspectBit_hmp (p : Port) (k : Nat) (b : Bool) : (s.suspectBit p k b).hmp = s.hmp := by
  unfold State.suspectBit; (try dsimp only); repeat' split
  all_goals first | (simp; done) | rfl
@[simp] theorem State.suspectBit_stations (p : Port) (k : Nat) (b : Bool) : (s.suspectBit p k b).stations = s.stations := by
  unfold State.suspectBit; (try dsimp only); repeat' split
  all_goals first | (simp; done) | rfl
@[simp] theorem State.suspectBit_out (p : Port) (k : Nat) (b : Bool) : (s.suspectBit p k b).out = s.out := by
  unfold State.suspectBit; (try dsimp only); repeat' split
  all_goals first | (simp; done) | rfl
@[simp] theorem State.suspectBit_freeCount (p : Port) (k : Nat) (b : Bool) : (s.suspectBit p k b).freeCount = s.freeCount := by
  unfold State.suspectBit; (try dsimp only); repeat' split
  all_goals first | (simp; done) | rfl
@[simp] theorem State.calRecord_pending (p : Port) (a b c : Nat) : (s.calRecord p a b c).pending = s.pending := by
  unfold State.calRecord; (try dsimp only); repeat' split
  all_goals first | (simp; done) | rfl
@[simp] theorem State.calRecord_regs (p : Port) (a b c : Nat) : (s.calRecord p a b c).regs = s.regs := by
  unfold State.calRecord; (try dsimp only); repeat' split
  all_goals first | (simp; done) | rfl
@[simp] theorem State.calRecord_blobs (p : Port) (a b c : Nat) : (s.calRecord p a b c).blobs = s.blobs := by
  unfold State.calRecord; (try dsimp only); repeat' split
  all_goals first | (simp; done) | rfl
@[simp] theorem State.calRecord_time (p : Port) (a b c : Nat) : (s.calRecord p a b c).time = s.time := by
  unfold State.calRecord; (try dsimp only); repeat' split
  all_goals first | (simp; done) | rfl
@[simp] theorem State.calRecord_timers (p : Port) (a b c : Nat) : (s.calRecord p a b c).timers = s.timers := by
  unfold State.calRecord; (try dsimp only); repeat' split
  all_goals first | (simp; done) | rfl
@[simp] theorem State.calRecord_house (p : Port) (a b c : Nat) : (s.calRecord p a b c).house = s.house := by
  unfold State.calRecord; (try dsimp only); repeat' split
  all_goals first | (simp; done) | rfl
@[simp] theorem State.calRecord_ports (p : Port) (a b c : Nat) : (s.calRecord p a b c).ports = s.ports := by
  unfold State.calRecord; (try dsimp only); repeat' split
  all_goals first | (simp; done) | rfl
@[simp] theorem State.calRecord_qm (p : Port) (a b c : Nat) : (s.calRecord p a b c).qm = s.qm := by
  unfold State.calRecord; (try dsimp only); repeat' split
  all_goals first | (simp; done) | rfl
@[simp] theorem State.calRecord_pf (p : Port) (a b c : Nat) : (s.calRecord p a b c).pf = s.pf := by
  unfold State.calRecord; (try dsimp only); repeat' split
  all_goals first | (simp; done) | rfl
@[simp] theorem State.calRecord_casc (p : Port) (a b c : Nat) : (s.calRecord p a b c).casc = s.casc := by
  unfold State.calRecord; (try dsimp only); repeat' split
  all_goals first | (simp; done) | rfl
@[simp] theorem State.calRecord_iz (p : Port) (a b c : Nat) : (s.calRecord p a b c).iz = s.iz := by
  unfold State.calRecord; (try dsimp only); repeat' split
  all_goals first | (simp; done) | rfl
@[simp] theorem State.calRecord_power (p : Port) (a b c : Nat) : (s.calRecord p a b c).power = s.power := by
  unfold State.calRecord; (try dsimp only); repeat' split
  all_goals first | (simp; done) | rfl
@[simp] theorem State.calRecord_faults (p : Port) (a b c : Nat) : (s.calRecord p a b c).faults = s.faults := by
  unfold State.calRecord; (try dsimp only); repeat' split
  all_goals first | (simp; done) | rfl
@[simp] theorem State.calRecord_fuses (p : Port) (a b c : Nat) : (s.calRecord p a b c).fuses = s.fuses := by
  unfold State.calRecord; (try dsimp only); repeat' split
  all_goals first | (simp; done) | rfl
@[simp] theorem State.calRecord_rst (p : Port) (a b c : Nat) : (s.calRecord p a b c).rst = s.rst := by
  unfold State.calRecord; (try dsimp only); repeat' split
  all_goals first | (simp; done) | rfl
@[simp] theorem State.calRecord_hamper (p : Port) (a b c : Nat) : (s.calRecord p a b c).hamper = s.hamper := by
  unfold State.calRecord; (try dsimp only); repeat' split
  all_goals first | (simp; done) | rfl
@[simp] theorem State.calRecord_hmp (p : Port) (a b c : Nat) : (s.calRecord p a b c).hmp = s.hmp := by
  unfold State.calRecord; (try dsimp only); repeat' split
  all_goals first | (simp; done) | rfl
@[simp] theorem State.calRecord_stations (p : Port) (a b c : Nat) : (s.calRecord p a b c).stations = s.stations := by
  unfold State.calRecord; (try dsimp only); repeat' split
  all_goals first | (simp; done) | rfl
@[simp] theorem State.calRecord_out (p : Port) (a b c : Nat) : (s.calRecord p a b c).out = s.out := by
  unfold State.calRecord; (try dsimp only); repeat' split
  all_goals first | (simp; done) | rfl
@[simp] theorem State.calRecord_freeCount (p : Port) (a b c : Nat) : (s.calRecord p a b c).freeCount = s.freeCount := by
  unfold State.calRecord; (try dsimp only); repeat' split
  all_goals first | (simp; done) | rfl
@[simp] theorem State.dropReasm_pending (p : Port) (a b : Nat) : (s.dropReasm p a b).pending = s.pending := by
  unfold State.dropReasm; (try dsimp only); repeat' split
  all_goals first | (simp; done) | rfl
@[simp] theorem State.dropReasm_regs (p : Port) (a b : Nat) : (s.dropReasm p a b).regs = s.regs := by
  unfold State.dropReasm; (try dsimp only); repeat' split
  all_goals first | (simp; done) | rfl
@[simp] theorem State.dropReasm_blobs (p : Port) (a b : Nat) : (s.dropReasm p a b).blobs = s.blobs := by
  unfold State.dropReasm; (try dsimp only); repeat' split
  all_goals first | (simp; done) | rfl
@[simp] theorem State.dropReasm_time (p : Port) (a b : Nat) : (s.dropReasm p a b).time = s.time := by
  unfold State.dropReasm; (try dsimp only); repeat' split
  all_goals first | (simp; done) | rfl
@[simp] theorem State.dropReasm_merge (p : Port) (a b : Nat) : (s.dropReasm p a b).merge = s.merge := by
  unfold State.dropReasm; (try dsimp only); repeat' split
  all_goals first | (simp; done) | rfl
@[simp] theorem State.dropReasm_house (p : Port) (a b : Nat) : (s.dropReasm p a b).house = s.house := by
  unfold State.dropReasm; (try dsimp only); repeat' split
  all_goals first | (simp; done) | rfl
@[simp] theorem State.dropReasm_qm (p : Port) (a b : Nat) : (s.dropReasm p a b).qm = s.qm := by
  unfold State.dropReasm; (try dsimp only); repeat' split
  all_goals first | (simp; done) | rfl
@[simp] theorem State.dropReasm_pf (p : Port) (a b : Nat) : (s.dropReasm p a b).pf = s.pf := by
  unfold State.dropReasm; (try dsimp only); repeat' split
  all_goals first | (simp; done) | rfl
@[simp] theorem State.dropReasm_casc (p : Port) (a b : Nat) : (s.dropReasm p a b).casc = s.casc := by
  unfold State.dropReasm; (try dsimp only); repeat' split
  all_goals first | (simp; done) | rfl
@[simp] theorem State.dropReasm_iz (p : Port) (a b : Nat) : (s.dropReasm p a b).iz = s.iz := by
  unfold State.dropReasm; (try dsimp only); repeat' split
  all_goals first | (simp; done) | rfl
@[simp] theorem State.dropReasm_power (p : Port) (a b : Nat) : (s.dropReasm p a b).power = s.power := by
  unfold State.dropReasm; (try dsimp only); repeat' split
  all_goals first | (simp; done) | rfl
@[simp] theorem State.dropReasm_faults (p : Port) (a b : Nat) : (s.dropReasm p a b).faults = s.faults := by
  unfold State.dropReasm; (try dsimp only); repeat' split
  all_goals first | (simp; done) | rfl
@[simp] theorem State.dropReasm_fuses (p : Port) (a b : Nat) : (s.dropReasm p a b).fuses = s.fuses := by
  unfold State.dropReasm; (try dsimp only); repeat' split
  all_goals first | (simp; done) | rfl
@[simp] theorem State.dropReasm_rst (p : Port) (a b : Nat) : (s.dropReasm p a b).rst = s.rst := by
  unfold State.dropReasm; (try dsimp only); repeat' split
  all_goals first | (simp; done) | rfl
@[simp] theorem State.dropReasm_hamper (p : Port) (a b : Nat) : (s.dropReasm p a b).hamper = s.hamper := by
  unfold State.dropReasm; (try dsimp only); repeat' split
  all_goals first | (simp; done) | rfl
@[simp] theorem State.dropReasm_hmp (p : Port) (a b : Nat) : (s.dropReasm p a b).hmp = s.hmp := by
  unfold State.dropReasm; (try dsimp only); repeat' split
  all_goals first | (simp; done) | rfl
@[simp] theorem State.dropReasm_stations (p : Port) (a b : Nat) : (s.dropReasm p a b).stations = s.stations := by
  unfold State.dropReasm; (try dsimp only); repeat' split
  all_goals first | (simp; done) | rfl
@[simp] theorem State.dropReasm_out (p : Port) (a b : Nat) : (s.dropReasm p a b).out = s.out := by
  unfold State.dropReasm; (try dsimp only); repeat' split
  all_goals first | (simp; done) | rfl
@[simp] theorem State.dropReasm_freeCount (p : Port) (a b : Nat) : (s.dropReasm p a b).freeCount = s.freeCount := by
  unfold State.dropReasm; (try dsimp only); repeat' split
  all_goals first | (simp; done) | rfl
@[simp] theorem State.flagCell_pending (p : Port) (a b : Nat) (v : Bool) : (s.flagCell p a b v).pending = s.pending := by
  unfold State.flagCell; (try dsimp only); repeat' split
  all_goals first | (simp; done) | rfl
@[simp] theorem State.flagCell_blobs (p : Port) (a b : Nat) (v : Bool) : (s.flagCell p a b v).blobs = s.blobs := by
  unfold State.flagCell; (try dsimp only); repeat' split
  all_goals first | (simp; done) | rfl
@[simp] theorem State.flagCell_time (p : Port) (a b : Nat) (v : Bool) : (s.flagCell p a b v).time = s.time := by
  unfold State.flagCell; (try dsimp only); repeat' split
  all_goals first | (simp; done) | rfl
@[simp] theorem State.flagCell_timers (p : Port) (a b : Nat) (v : Bool) : (s.flagCell p a b v).timers = s.timers := by
  unfold State.flagCell; (try dsimp only); repeat' split
  all_goals first | (simp; done) | rfl
@[simp] theorem State.flagCell_merge (p : Port) (a b : Nat) (v : Bool) : (s.flagCell p a b v).merge = s.merge := by
  unfold State.flagCell; (try dsimp only); repeat' split
  all_goals first | (simp; done) | rfl
@[simp] theorem State.flagCell_house (p : Port) (a b : Nat) (v : Bool) : (s.flagCell p a b v).house = s.house := by
  unfold State.flagCell; (try dsimp only); repeat' split
  all_goals first | (simp; done) | rfl
@[simp] theorem State.flagCell_ports (p : Port) (a b : Nat) (v : Bool) : (s.flagCell p a b v).ports = s.ports := by
  unfold State.flagCell; (try dsimp only); repeat' split
  all_goals first | (simp; done) | rfl
@[simp] theorem State.flagCell_qm (p : Port) (a b : Nat) (v : Bool) : (s.flagCell p a b v).qm = s.qm := by
  unfold State.flagCell; (try dsimp only); repeat' split
  all_goals first | (simp; done) | rfl
@[simp] theorem State.flagCell_pf (p : Port) (a b : Nat) (v : Bool) : (s.flagCell p a b v).pf = s.pf := by
  unfold State.flagCell; (try dsimp only); repeat' split
  all_goals first | (simp; done) | rfl
@[simp] theorem State.flagCell_casc (p : Port) (a b : Nat) (v : Bool) : (s.flagCell p a b v).casc = s.casc := by
  unfold State.flagCell; (try dsimp only); repeat' split
  all_goals first | (simp; done) | rfl
@[simp] theorem State.flagCell_iz (p : Port) (a b : Nat) (v : Bool) : (s.flagCell p a b v).iz = s.iz := by
  unfold State.flagCell; (try dsimp only); repeat' split
  all_goals first | (simp; done) | rfl
@[simp] theorem State.flagCell_power (p : Port) (a b : Nat) (v : Bool) : (s.flagCell p a b v).power = s.power := by
  unfold State.flagCell; (try dsimp only); repeat' split
  all_goals first | (simp; done) | rfl
@[simp] theorem State.flagCell_faults (p : Port) (a b : Nat) (v : Bool) : (s.flagCell p a b v).faults = s.faults := by
  unfold State.flagCell; (try dsimp only); repeat' split
  all_goals first | (simp; done) | rfl
@[simp] theorem State.flagCell_fuses (p : Port) (a b : Nat) (v : Bool) : (s.flagCell p a b v).fuses = s.fuses := by
  unfold State.flagCell; (try dsimp only); repeat' split
  all_goals first | (simp; done) | rfl
@[simp] theorem State.flagCell_rst (p : Port) (a b : Nat) (v : Bool) : (s.flagCell p a b v).rst = s.rst := by
  unfold State.flagCell; (try dsimp only); repeat' split
  all_goals first | (simp; done) | rfl
@[simp] theorem State.flagCell_hamper (p : Port) (a b : Nat) (v : Bool) : (s.flagCell p a b v).hamper = s.hamper := by
  unfold State.flagCell; (try dsimp only); repeat' split
  all_goals first | (simp; done) | rfl
@[simp] theorem State.flagCell_hmp (p : Port) (a b : Nat) (v : Bool) : (s.flagCell p a b v).hmp = s.hmp := by
  unfold State.flagCell; (try dsimp only); repeat' split
  all_goals first | (simp; done) | rfl
@[simp] theorem State.flagCell_stations (p : Port) (a b : Nat) (v : Bool) : (s.flagCell p a b v).stations = s.stations := by
  unfold State.flagCell; (try dsimp only); repeat' split
  all_goals first | (simp; done) | rfl
@[simp] theorem State.flagCell_out (p : Port) (a b : Nat) (v : Bool) : (s.flagCell p a b v).out = s.out := by
  unfold State.flagCell; (try dsimp only); repeat' split
  all_goals first | (simp; done) | rfl
@[simp] theorem State.flagCell_freeCount (p : Port) (a b : Nat) (v : Bool) : (s.flagCell p a b v).freeCount = s.freeCount := by
  unfold State.flagCell; (try dsimp only); repeat' split
  all_goals first | (simp; done) | rfl
@[simp] theorem State.freeBuffers_pending (n : Nat) : (s.freeBuffers n).pending = s.pending := by
  unfold State.freeBuffers; (try dsimp only); repeat' split
  all_goals first | (simp; done) | rfl
@[simp] theorem State.freeBuffers_regs (n : Nat) : (s.freeBuffers n).regs = s.regs := by
  unfold State.freeBuffers; (try dsimp only); repeat' split
  all_goals first | (simp; done) | rfl
@[simp] theorem State.freeBuffers_blobs (n : Nat) : (s.freeBuffers n).blobs = s.blobs := by
  unfold State.freeBuffers; (try dsimp only); repeat' split
  all_goals first | (simp; done) | rfl
@[simp] theorem State.freeBuffers_time (n : Nat) : (s.freeBuffers n).time = s.time := by
  unfold State.freeBuffers; (try dsimp only); repeat' split
  all_goals first | (simp; done) | rfl
@[simp] theorem State.freeBuffers_timers (n : Nat) : (s.freeBuffers n).timers = s.timers := by
  unfold State.freeBuffers; (try dsimp only); repeat' split
  all_goals first | (simp; done) | rfl
@[simp] theorem State.freeBuffers_merge (n : Nat) : (s.freeBuffers n).merge = s.merge := by
  unfold State.freeBuffers; (try dsimp only); repeat' split
  all_goals first | (simp; done) | rfl
@[simp] theorem State.freeBuffers_house (n : Nat) : (s.freeBuffers n).house = s.house := by
  unfold State.freeBuffers; (try dsimp only); repeat' split
  all_goals first | (simp; done) | rfl
@[simp] theorem State.freeBuffers_ports (n : Nat) : (s.freeBuffers n).ports = s.ports := by
  unfold State.freeBuffers; (try dsimp only); repeat' split
  all_goals first | (simp; done) | rfl
@[simp] theorem State.freeBuffers_pf (n : Nat) : (s.freeBuffers n).pf = s.pf := by
  unfold State.freeBuffers; (try dsimp only); repeat' split
  all_goals first | (simp; done) | rfl
@[simp] theorem State.freeBuffers_casc (n : Nat) : (s.freeBuffers n).casc = s.casc := by
  unfold State.freeBuffers; (try dsimp only); repeat' split
  all_goals first | (simp; done) | rfl
@[simp] theorem State.freeBuffers_iz (n : Nat) : (s.freeBuffers n).iz = s.iz := by
  unfold State.freeBuffers; (try dsimp only); repeat' split
  all_goals first | (simp; done) | rfl
@[simp] theorem State.freeBuffers_power (n : Nat) : (s.freeBuffers n).power = s.power := by
  unfold State.freeBuffers; (try dsimp only); repeat' split
  all_goals first | (simp; done) | rfl
@[simp] theorem State.freeBuffers_faults (n : Nat) : (s.freeBuffers n).faults = s.faults := by
  unfold State.freeBuffers; (try dsimp only); repeat' split
  all_goals first | (simp; done) | rfl
@[simp] theorem State.freeBuffers_fuses (n : Nat) : (s.freeBuffers n).fuses = s.fuses := by
  unfold State.freeBuffers; (try dsimp only); repeat' split
  all_goals first | (simp; done) | rfl
@[simp] theorem State.freeBuffers_rst (n : Nat) : (s.freeBuffers n).rst = s.rst := by
  unfold State.freeBuffers; (try dsimp only); repeat' split
  all_goals first | (simp; done) | rfl
@[simp] theorem State.freeBuffers_hamper (n : Nat) : (s.freeBuffers n).hamper = s.hamper := by
  unfold State.freeBuffers; (try dsimp only); repeat' split
  all_goals first | (simp; done) | rfl
@[simp] theorem State.freeBuffers_hmp (n : Nat) : (s.freeBuffers n).hmp = s.hmp := by
  unfold State.freeBuffers; (try dsimp only); repeat' split
  all_goals first | (simp; done) | rfl
@[simp] theorem State.freeBuffers_stations (n : Nat) : (s.freeBuffers n).stations = s.stations := by
  unfold State.freeBuffers; (try dsimp only); repeat' split
  all_goals first | (simp; done) | rfl
@[simp] theorem State.freeBuffers_out (n : Nat) : (s.freeBuffers n).out = s.out := by
  unfold State.freeBuffers; (try dsimp only); repeat' split
  all_goals first | (simp; done) | rfl
@[simp] theorem State.freeBuffers_freeCount (n : Nat) : (s.freeBuffers n).freeCount = s.freeCount := by
  unfold State.freeBuffers; (try dsimp only); repeat' split
  all_goals first | (simp; done) | rfl
@[simp] theorem State.setQueue_pending (q : Nat) (l : List QFrame) : (s.setQueue q l).pending = s.pending := by
  unfold State.setQueue; (try dsimp only); repeat' split
  all_goals first | (simp; done) | rfl
@[simp] theorem State.setQueue_blobs (q : Nat) (l : List QFrame) : (s.setQueue q l).blobs = s.blobs := by
  unfold State.setQueue; (try dsimp only); repeat' split
  all_goals first | (simp; done) | rfl
@[simp] theorem State.setQueue_time (q : Nat) (l : List QFrame) : (s.setQueue q l).time = s.time := by
  unfold State.setQueue; (try dsimp only); repeat' split
  all_goals first | (simp; done) | rfl
@[simp] theorem State.setQueue_timers (q : Nat) (l : List QFrame) : (s.setQueue q l).timers = s.timers := by
  unfold State.setQueue; (try dsimp only); repeat' split
  all_goals first | (simp; done) | rfl
@[simp] theorem State.setQueue_merge (q : Nat) (l : List QFrame) : (s.setQueue q l).merge = s.merge := by
  unfold State.setQueue; (try dsimp only); repeat' split
  all_goals first | (simp; done) | rfl
@[simp] theorem State.setQueue_house (q : Nat) (l : List QFrame) : (s.setQueue q l).house = s.house := by
  unfold State.setQueue; (try dsimp only); repeat' split
  all_goals first | (simp; done) | rfl
@[simp] theorem State.setQueue_ports (q : Nat) (l : List QFrame) : (s.setQueue q l).ports = s.ports := by
  unfold State.setQueue; (try dsimp only); repeat' split
  all_goals first | (simp; done) | rfl
@[simp] theorem State.setQueue_pf (q : Nat) (l : List QFrame) : (s.setQueue q l).pf = s.pf := by
  unfold State.setQueue; (try dsimp only); repeat' split
  all_goals first | (simp; done) | rfl
@[simp] theorem State.setQueue_casc (q : Nat) (l : List QFrame) : (s.setQueue q l).casc = s.casc := by
  unfold State.setQueue; (try dsimp only); repeat' split
  all_goals first | (simp; done) | rfl
@[simp] theorem State.setQueue_iz (q : Nat) (l : List QFrame) : (s.setQueue q l).iz = s.iz := by
  unfold State.setQueue; (try dsimp only); repeat' split
  all_goals first | (simp; done) | rfl
@[simp] theorem State.setQueue_power (q : Nat) (l : List QFrame) : (s.setQueue q l).power = s.power := by
  unfold State.setQueue; (try dsimp only); repeat' split
  all_goals first | (simp; done) | rfl
@[simp] theorem State.setQueue_faults (q : Nat) (l : List QFrame) : (s.setQueue q l).faults = s.faults := by
  unfold State.setQueue; (try dsimp only); repeat' split
  all_goals first | (simp; done) | rfl
@[simp] theorem State.setQueue_fuses (q : Nat) (l : List QFrame) : (s.setQueue q l).fuses = s.fuses := by
  unfold State.setQueue; (try dsimp only); repeat' split
  all_goals first | (simp; done) | rfl
@[simp] theorem State.setQueue_rst (q : Nat) (l : List QFrame) : (s.setQueue q l).rst = s.rst := by
  unfold State.setQueue; (try dsimp only); repeat' split
  all_goals first | (simp; done) | rfl
@[simp] theorem State.setQueue_hamper (q : Nat) (l : List QFrame) : (s.setQueue q l).hamper = s.hamper := by
  unfold State.setQueue; (try dsimp only); repeat' split
  all_goals first | (simp; done) | rfl
@[simp] theorem State.setQueue_hmp (q : Nat) (l : List QFrame) : (s.setQueue q l).hmp = s.hmp := by
  unfold State.setQueue; (try dsimp only); repeat' split
  all_goals first | (simp; done) | rfl
@[simp] theorem State.setQueue_stations (q : Nat) (l : List QFrame) : (s.setQueue q l).stations = s.stations := by
  unfold State.setQueue; (try dsimp only); repeat' split
  all_goals first | (simp; done) | rfl
@[simp] theorem State.setQueue_out (q : Nat) (l : List QFrame) : (s.setQueue q l).out = s.out := by
  unfold State.setQueue; (try dsimp only); repeat' split
  all_goals first | (simp; done) | rfl
@[simp] theorem State.setQueue_freeCount (q : Nat) (l : List QFrame) : (s.setQueue q l).freeCount = s.freeCount := by
  unfold State.setQueue; (try dsimp only); repeat' split
  all_goals first | (simp; done) | rfl
@[simp] theorem State.setFlowState_pending (f : Nat) (b : Bytes) : (s.setFlowState f b).pending = s.pending := by
  unfold State.setFlowState; (try dsimp only); repeat' split
  all_goals first | (simp; done) | rfl
@[simp] theorem State.setFlowState_regs (f : Nat) (b : Bytes) : (s.setFlowState f b).regs = s.regs := by
  unfold State.setFlowState; (try dsimp only); repeat' split
  all_goals first | (simp; done) | rfl
@[simp] theorem State.setFlowState_time (f : Nat) (b : Bytes) : (s.setFlowState f b).time = s.time := by
  unfold State.setFlowState; (try dsimp only); repeat' split
  all_goals first | (simp; done) | rfl
@[simp] theorem State.setFlowState_timers (f : Nat) (b : Bytes) : (s.setFlowState f b).timers = s.timers := by
  unfold State.setFlowState; (try dsimp only); repeat' split
  all_goals first | (simp; done) | rfl
@[simp] theorem State.setFlowState_merge (f : Nat) (b : Bytes) : (s.setFlowState f b).merge = s.merge := by
  unfold State.setFlowState; (try dsimp only); repeat' split
  all_goals first | (simp; done) | rfl
@[simp] theorem State.setFlowState_house (f : Nat) (b : Bytes) : (s.setFlowState f b).house = s.house := by
  unfold State.setFlowState; (try dsimp only); repeat' split
  all_goals first | (simp; done) | rfl
@[simp] theorem State.setFlowState_ports (f : Nat) (b : Bytes) : (s.setFlowState f b).ports = s.ports := by
  unfold State.setFlowState; (try dsimp only); repeat' split
  all_goals first | (simp; done) | rfl
@[simp] theorem State.setFlowState_pf (f : Nat) (b : Bytes) : (s.setFlowState f b).pf = s.pf := by
  unfold State.setFlowState; (try dsimp only); repeat' split
  all_goals first | (simp; done) | rfl
@[simp] theorem State.setFlowState_casc (f : Nat) (b : Bytes) : (s.setFlowState f b).casc = s.casc := by
  unfold State.setFlowState; (try dsimp only); repeat' split
  all_goals first | (simp; done) | rfl
@[simp] theorem State.setFlowState_iz (f : Nat) (b : Bytes) : (s.setFlowState f b).iz = s.iz := by
  unfold State.setFlowState; (try dsimp only); repeat' split
  all_goals first | (simp; done) | rfl
@[simp] theorem State.setFlowState_power (f : Nat) (b : Bytes) : (s.setFlowState f b).power = s.power := by
  unfold State.setFlowState; (try dsimp only); repeat' split
  all_goals first | (simp; done) | rfl
@[simp] theorem State.setFlowState_faults (f : Nat) (b : Bytes) : (s.setFlowState f b).faults = s.faults := by
  unfold State.setFlowState; (try dsimp only); repeat' split
  all_goals first | (simp; done) | rfl
@[simp] theorem State.setFlowState_fuses (f : Nat) (b : Bytes) : (s.setFlowState f b).fuses = s.fuses := by
  unfold State.setFlowState; (try dsimp only); repeat' split
  all_goals first | (simp; done) | rfl
@[simp] theorem State.setFlowState_rst (f : Nat) (b : Bytes) : (s.setFlowState f b).rst = s.rst := by
  unfold State.setFlowState; (try dsimp only); repeat' split
  all_goals first | (simp; done) | rfl
@[simp] theorem State.setFlowState_hamper (f : Nat) (b : Bytes) : (s.setFlowState f b).hamper = s.hamper := by
  unfold State.setFlowState; (try dsimp only); repeat' split
  all_goals first | (simp; done) | rfl
@[simp] theorem State.setFlowState_hmp (f : Nat) (b : Bytes) : (s.setFlowState f b).hmp = s.hmp := by
  unfold State.setFlowState; (try dsimp only); repeat' split
  all_goals first | (simp; done) | rfl
@[simp] theorem State.setFlowState_stations (f : Nat) (b : Bytes) : (s.setFlowState f b).stations = s.stations := by
  unfold State.setFlowState; (try dsimp only); repeat' split
  all_goals first | (simp; done) | rfl
@[simp] theorem State.setFlowState_out (f : Nat) (b : Bytes) : (s.setFlowState f b).out = s.out := by
  unfold State.setFlowState; (try dsimp only); repeat' split
  all_goals first | (simp; done) | rfl
@[simp] theorem State.setFlowState_freeCount (f : Nat) (b : Bytes) : (s.setFlowState f b).freeCount = s.freeCount := by
  unfold State.setFlowState; (try dsimp only); repeat' split
  all_goals first | (simp; done) | rfl
@[simp] theorem State.bumpFlow_pending (f i n k : Nat) : (s.bumpFlow f i n k).pending = s.pending := by
  unfold State.bumpFlow; (try dsimp only); repeat' split
  all_goals first | (simp; done) | rfl
@[simp] theorem State.bumpFlow_regs (f i n k : Nat) : (s.bumpFlow f i n k).regs = s.regs := by
  unfold State.bumpFlow; (try dsimp only); repeat' split
  all_goals first | (simp; done) | rfl
@[simp] theorem State.bumpFlow_time (f i n k : Nat) : (s.bumpFlow f i n k).time = s.time := by
  unfold State.bumpFlow; (try dsimp only); repeat' split
  all_goals first | (simp; done) | rfl
@[simp] theorem State.bumpFlow_timers (f i n k : Nat) : (s.bumpFlow f i n k).timers = s.timers := by
  unfold State.bumpFlow; (try dsimp only); repeat' split
  all_goals first | (simp; done) | rfl
@[simp] theorem State.bumpFlow_merge (f i n k : Nat) : (s.bumpFlow f i n k).merge = s.merge := by
  unfold State.bumpFlow; (try dsimp only); repeat' split
  all_goals first | (simp; done) | rfl
@[simp] theorem State.bumpFlow_house (f i n k : Nat) : (s.bumpFlow f i n k).house = s.house := by
  unfold State.bumpFlow; (try dsimp only); repeat' split
  all_goals first | (simp; done) | rfl
@[simp] theorem State.bumpFlow_ports (f i n k : Nat) : (s.bumpFlow f i n k).ports = s.ports := by
  unfold State.bumpFlow; (try dsimp only); repeat' split
  all_goals first | (simp; done) | rfl
@[simp] theorem State.bumpFlow_pf (f i n k : Nat) : (s.bumpFlow f i n k).pf = s.pf := by
  unfold State.bumpFlow; (try dsimp only); repeat' split
  all_goals first | (simp; done) | rfl
@[simp] theorem State.bumpFlow_casc (f i n k : Nat) : (s.bumpFlow f i n k).casc = s.casc := by
  unfold State.bumpFlow; (try dsimp only); repeat' split
  all_goals first | (simp; done) | rfl
@[simp] theorem State.bumpFlow_iz (f i n k : Nat) : (s.bumpFlow f i n k).iz = s.iz := by
  unfold State.bumpFlow; (try dsimp only); repeat' split
  all_goals first | (simp; done) | rfl
@[simp] theorem State.bumpFlow_power (f i n k : Nat) : (s.bumpFlow f i n k).power = s.power := by
  unfold State.bumpFlow; (try dsimp only); repeat' split
  all_goals first | (simp; done) | rfl
@[simp] theorem State.bumpFlow_faults (f i n k : Nat) : (s.bumpFlow f i n k).faults = s.faults := by
  unfold State.bumpFlow; (try dsimp only); repeat' split
  all_goals first | (simp; done) | rfl
@[simp] theorem State.bumpFlow_fuses (f i n k : Nat) : (s.bumpFlow f i n k).fuses = s.fuses := by
  unfold State.bumpFlow; (try dsimp only); repeat' split
  all_goals first | (simp; done) | rfl
@[simp] theorem State.bumpFlow_rst (f i n k : Nat) : (s.bumpFlow f i n k).rst = s.rst := by
  unfold State.bumpFlow; (try dsimp only); repeat' split
  all_goals first | (simp; done) | rfl
@[simp] theorem State.bumpFlow_hamper (f i n k : Nat) : (s.bumpFlow f i n k).hamper = s.hamper := by
  unfold State.bumpFlow; (try dsimp only); repeat' split
  all_goals first | (simp; done) | rfl
@[simp] theorem State.bumpFlow_hmp (f i n k : Nat) : (s.bumpFlow f i n k).hmp = s.hmp := by
  unfold State.bumpFlow; (try dsimp only); repeat' split
  all_goals first | (simp; done) | rfl
@[simp] theorem State.bumpFlow_stations (f i n k : Nat) : (s.bumpFlow f i n k).stations = s.stations := by
  unfold State.bumpFlow; (try dsimp only); repeat' split
  all_goals first | (simp; done) | rfl
@[simp] theorem State.bumpFlow_out (f i n k : Nat) : (s.bumpFlow f i n k).out = s.out := by
  unfold State.bumpFlow; (try dsimp only); repeat' split
  all_goals first | (simp; done) | rfl
@[simp] theorem State.bumpFlow_freeCount (f i n k : Nat) : (s.bumpFlow f i n k).freeCount = s.freeCount := by
  unfold State.bumpFlow; (try dsimp only); repeat' split
  all_goals first | (simp; done) | rfl
@[simp] theorem State.downDrop_pending (f : Nat) : (s.downDrop f).pending = s.pending := by
  unfold State.downDrop; (try dsimp only); repeat' split
  all_goals first | (simp; done) | rfl
@[simp] theorem State.downDrop_regs (f : Nat) : (s.downDrop f).regs = s.regs := by
  unfold State.downDrop; (try dsimp only); repeat' split
  all_goals first | (simp; done) | rfl
@[simp] theorem State.downDrop_time (f : Nat) : (s.downDrop f).time = s.time := by
  unfold State.downDrop; (try dsimp only); repeat' split
  all_goals first | (simp; done) | rfl
@[simp] theorem State.downDrop_timers (f : Nat) : (s.downDrop f).timers = s.timers := by
  unfold State.downDrop; (try dsimp only); repeat' split
  all_goals first | (simp; done) | rfl
@[simp] theorem State.downDrop_merge (f : Nat) : (s.downDrop f).merge = s.merge := by
  unfold State.downDrop; (try dsimp only); repeat' split
  all_goals first | (simp; done) | rfl
@[simp] theorem State.downDrop_house (f : Nat) : (s.downDrop f).house = s.house := by
  unfold State.downDrop; (try dsimp only); repeat' split
  all_goals first | (simp; done) | rfl
@[simp] theorem State.downDrop_ports (f : Nat) : (s.downDrop f).ports = s.ports := by
  unfold State.downDrop; (try dsimp only); repeat' split
  all_goals first | (simp; done) | rfl
@[simp] theorem State.downDrop_pf (f : Nat) : (s.downDrop f).pf = s.pf := by
  unfold State.downDrop; (try dsimp only); repeat' split
  all_goals first | (simp; done) | rfl
@[simp] theorem State.downDrop_casc (f : Nat) : (s.downDrop f).casc = s.casc := by
  unfold State.downDrop; (try dsimp only); repeat' split
  all_goals first | (simp; done) | rfl
@[simp] theorem State.downDrop_iz (f : Nat) : (s.downDrop f).iz = s.iz := by
  unfold State.downDrop; (try dsimp only); repeat' split
  all_goals first | (simp; done) | rfl
@[simp] theorem State.downDrop_power (f : Nat) : (s.downDrop f).power = s.power := by
  unfold State.downDrop; (try dsimp only); repeat' split
  all_goals first | (simp; done) | rfl
@[simp] theorem State.downDrop_faults (f : Nat) : (s.downDrop f).faults = s.faults := by
  unfold State.downDrop; (try dsimp only); repeat' split
  all_goals first | (simp; done) | rfl
@[simp] theorem State.downDrop_fuses (f : Nat) : (s.downDrop f).fuses = s.fuses := by
  unfold State.downDrop; (try dsimp only); repeat' split
  all_goals first | (simp; done) | rfl
@[simp] theorem State.downDrop_rst (f : Nat) : (s.downDrop f).rst = s.rst := by
  unfold State.downDrop; (try dsimp only); repeat' split
  all_goals first | (simp; done) | rfl
@[simp] theorem State.downDrop_hamper (f : Nat) : (s.downDrop f).hamper = s.hamper := by
  unfold State.downDrop; (try dsimp only); repeat' split
  all_goals first | (simp; done) | rfl
@[simp] theorem State.downDrop_hmp (f : Nat) : (s.downDrop f).hmp = s.hmp := by
  unfold State.downDrop; (try dsimp only); repeat' split
  all_goals first | (simp; done) | rfl
@[simp] theorem State.downDrop_stations (f : Nat) : (s.downDrop f).stations = s.stations := by
  unfold State.downDrop; (try dsimp only); repeat' split
  all_goals first | (simp; done) | rfl
@[simp] theorem State.downDrop_out (f : Nat) : (s.downDrop f).out = s.out := by
  unfold State.downDrop; (try dsimp only); repeat' split
  all_goals first | (simp; done) | rfl
@[simp] theorem State.downDrop_freeCount (f : Nat) : (s.downDrop f).freeCount = s.freeCount := by
  unfold State.downDrop; (try dsimp only); repeat' split
  all_goals first | (simp; done) | rfl
@[simp] theorem State.upDrop_pending (f : Nat) : (s.upDrop f).pending = s.pending := by
  unfold State.upDrop; (try dsimp only); repeat' split
  all_goals first | (simp; done) | rfl
@[simp] theorem State.upDrop_regs (f : Nat) : (s.upDrop f).regs = s.regs := by
  unfold State.upDrop; (try dsimp only); repeat' split
  all_goals first | (simp; done) | rfl
@[simp] theorem State.upDrop_time (f : Nat) : (s.upDrop f).time = s.time := by
  unfold State.upDrop; (try dsimp only); repeat' split
  all_goals first | (simp; done) | rfl
@[simp] theorem State.upDrop_timers (f : Nat) : (s.upDrop f).timers = s.timers := by
  unfold State.upDrop; (try dsimp only); repeat' split
  all_goals first | (simp; done) | rfl
@[simp] theorem State.upDrop_merge (f : Nat) : (s.upDrop f).merge = s.merge := by
  unfold State.upDrop; (try dsimp only); repeat' split
  all_goals first | (simp; done) | rfl
@[simp] theorem State.upDrop_house (f : Nat) : (s.upDrop f).house = s.house := by
  unfold State.upDrop; (try dsimp only); repeat' split
  all_goals first | (simp; done) | rfl
@[simp] theorem State.upDrop_ports (f : Nat) : (s.upDrop f).ports = s.ports := by
  unfold State.upDrop; (try dsimp only); repeat' split
  all_goals first | (simp; done) | rfl
@[simp] theorem State.upDrop_pf (f : Nat) : (s.upDrop f).pf = s.pf := by
  unfold State.upDrop; (try dsimp only); repeat' split
  all_goals first | (simp; done) | rfl
@[simp] theorem State.upDrop_casc (f : Nat) : (s.upDrop f).casc = s.casc := by
  unfold State.upDrop; (try dsimp only); repeat' split
  all_goals first | (simp; done) | rfl
@[simp] theorem State.upDrop_iz (f : Nat) : (s.upDrop f).iz = s.iz := by
  unfold State.upDrop; (try dsimp only); repeat' split
  all_goals first | (simp; done) | rfl
@[simp] theorem State.upDrop_power (f : Nat) : (s.upDrop f).power = s.power := by
  unfold State.upDrop; (try dsimp only); repeat' split
  all_goals first | (simp; done) | rfl
@[simp] theorem State.upDrop_faults (f : Nat) : (s.upDrop f).faults = s.faults := by
  unfold State.upDrop; (try dsimp only); repeat' split
  all_goals first | (simp; done) | rfl
@[simp] theorem State.upDrop_fuses (f : Nat) : (s.upDrop f).fuses = s.fuses := by
  unfold State.upDrop; (try dsimp only); repeat' split
  all_goals first | (simp; done) | rfl
@[simp] theorem State.upDrop_rst (f : Nat) : (s.upDrop f).rst = s.rst := by
  unfold State.upDrop; (try dsimp only); repeat' split
  all_goals first | (simp; done) | rfl
@[simp] theorem State.upDrop_hamper (f : Nat) : (s.upDrop f).hamper = s.hamper := by
  unfold State.upDrop; (try dsimp only); repeat' split
  all_goals first | (simp; done) | rfl
@[simp] theorem State.upDrop_hmp (f : Nat) : (s.upDrop f).hmp = s.hmp := by
  unfold State.upDrop; (try dsimp only); repeat' split
  all_goals first | (simp; done) | rfl
@[simp] theorem State.upDrop_stations (f : Nat) : (s.upDrop f).stations = s.stations := by
  unfold State.upDrop; (try dsimp only); repeat' split
  all_goals first | (simp; done) | rfl
@[simp] theorem State.upDrop_out (f : Nat) : (s.upDrop f).out = s.out := by
  unfold State.upDrop; (try dsimp only); repeat' split
  all_goals first | (simp; done) | rfl
@[simp] theorem State.upDrop_freeCount (f : Nat) : (s.upDrop f).freeCount = s.freeCount := by
  unfold State.upDrop; (try dsimp only); repeat' split
  all_goals first | (simp; done) | rfl
@[simp] theorem State.flushQueue_pending (q : Nat) : (s.flushQueue q).pending = s.pending := by
  unfold State.flushQueue; (try dsimp only); repeat' split
  all_goals first
    | rfl
    | (simp; done)
    | (refine (foldl_keeps State.pending ?_ _ _).trans ?_
       · intros; (try dsimp only); (repeat' split) <;> simp
       first | rfl | (simp; done))
    | ((try simp); refine (foldl_keeps State.pending ?_ _ _).trans ?_
       · intros; (try dsimp only); (repeat' split) <;> simp
       first
         | rfl
         | (simp; done)
         | ((try simp); refine (foldl_keeps State.pending ?_ _ _).trans ?_
            · intros; (try dsimp only); (repeat' split) <;> simp
            first | rfl | simp))
@[simp] theorem State.flushQueue_time (q : Nat) : (s.flushQueue q).time = s.time := by
  unfold State.flushQueue; (try dsimp only); repeat' split
  all_goals first
    | rfl
    | (simp; done)
    | (refine (foldl_keeps State.time ?_ _ _).trans ?_
       · intros; (try dsimp only); (repeat' split) <;> simp
       first | rfl | (simp; done))
    | ((try simp); refine (foldl_keeps State.time ?_ _ _).trans ?_
       · intros; (try dsimp only); (repeat' split) <;> simp
       first
         | rfl
         | (simp; done)
         | ((try simp); refine (foldl_keeps State.time ?_ _ _).trans ?_
            · intros; (try dsimp only); (repeat' split) <;> simp
            first | rfl | simp))
@[simp] theorem State.flushQueue_timers (q : Nat) : (s.flushQueue q).timers = s.timers := by
  unfold State.flushQueue; (try dsimp only); repeat' split
  all_goals first
    | rfl
    | (simp; done)
    | (refine (foldl_keeps State.timers ?_ _ _).trans ?_
       · intros; (try dsimp only); (repeat' split) <;> simp
       first | rfl | (simp; done))
    | ((try simp); refine (foldl_keeps State.timers ?_ _ _).trans ?_
       · intros; (try dsimp only); (repeat' split) <;> simp
       first
         | rfl
         | (simp; done)
         | ((try simp); refine (foldl_keeps State.timers ?_ _ _).trans ?_
            · intros; (try dsimp only); (repeat' split) <;> simp
            first | rfl | simp))
@[simp] theorem State.flushQueue_merge (q : Nat) : (s.flushQueue q).merge = s.merge := by
  unfold State.flushQueue; (try dsimp only); repeat' split
  all_goals first
    | rfl
    | (simp; done)
    | (refine (foldl_keeps State.merge ?_ _ _).trans ?_
       · intros; (try dsimp only); (repeat' split) <;> simp
       first | rfl | (simp; done))
    | ((try simp); refine (foldl_keeps State.merge ?_ _ _).trans ?_
       · intros; (try dsimp only); (repeat' split) <;> simp
       first
         | rfl
         | (simp; done)
         | ((try simp); refine (foldl_keeps State.merge ?_ _ _).trans ?_
            · intros; (try dsimp only); (repeat' split) <;> simp
            first | rfl | simp))
@[simp] theorem State.flushQueue_house (q : Nat) : (s.flushQueue q).house = s.house := by
  unfold State.flushQueue; (try dsimp only); repeat' split
  all_goals first
    | rfl
    | (simp; done)
    | (refine (foldl_keeps State.house ?_ _ _).trans ?_
       · intros; (try dsimp only); (repeat' split) <;> simp
       first | rfl | (simp; done))
    | ((try simp); refine (foldl_keeps State.house ?_ _ _).trans ?_
       · intros; (try dsimp only); (repeat' split) <;> simp
       first
         | rfl
         | (simp; done)
         | ((try simp); refine (foldl_keeps State.house ?_ _ _).trans ?_
            · intros; (try dsimp only); (repeat' split) <;> simp
            first | rfl | simp))
@[simp] theorem State.flushQueue_ports (q : Nat) : (s.flushQueue q).ports = s.ports := by
  unfold State.flushQueue; (try dsimp only); repeat' split
  all_goals first
    | rfl
    | (simp; done)
    | (refine (foldl_keeps State.ports ?_ _ _).trans ?_
       · intros; (try dsimp only); (repeat' split) <;> simp
       first | rfl | (simp; done))
    | ((try simp); refine (foldl_keeps State.ports ?_ _ _).trans ?_
       · intros; (try dsimp only); (repeat' split) <;> simp
       first
         | rfl
         | (simp; done)
         | ((try simp); refine (foldl_keeps State.ports ?_ _ _).trans ?_
            · intros; (try dsimp only); (repeat' split) <;> simp
            first | rfl | simp))
@[simp] theorem State.flushQueue_pf (q : Nat) : (s.flushQueue q).pf = s.pf := by
  unfold State.flushQueue; (try dsimp only); repeat' split
  all_goals first
    | rfl
    | (simp; done)
    | (refine (foldl_keeps State.pf ?_ _ _).trans ?_
       · intros; (try dsimp only); (repeat' split) <;> simp
       first | rfl | (simp; done))
    | ((try simp); refine (foldl_keeps State.pf ?_ _ _).trans ?_
       · intros; (try dsimp only); (repeat' split) <;> simp
       first
         | rfl
         | (simp; done)
         | ((try simp); refine (foldl_keeps State.pf ?_ _ _).trans ?_
            · intros; (try dsimp only); (repeat' split) <;> simp
            first | rfl | simp))
@[simp] theorem State.flushQueue_casc (q : Nat) : (s.flushQueue q).casc = s.casc := by
  unfold State.flushQueue; (try dsimp only); repeat' split
  all_goals first
    | rfl
    | (simp; done)
    | (refine (foldl_keeps State.casc ?_ _ _).trans ?_
       · intros; (try dsimp only); (repeat' split) <;> simp
       first | rfl | (simp; done))
    | ((try simp); refine (foldl_keeps State.casc ?_ _ _).trans ?_
       · intros; (try dsimp only); (repeat' split) <;> simp
       first
         | rfl
         | (simp; done)
         | ((try simp); refine (foldl_keeps State.casc ?_ _ _).trans ?_
            · intros; (try dsimp only); (repeat' split) <;> simp
            first | rfl | simp))
@[simp] theorem State.flushQueue_iz (q : Nat) : (s.flushQueue q).iz = s.iz := by
  unfold State.flushQueue; (try dsimp only); repeat' split
  all_goals first
    | rfl
    | (simp; done)
    | (refine (foldl_keeps State.iz ?_ _ _).trans ?_
       · intros; (try dsimp only); (repeat' split) <;> simp
       first | rfl | (simp; done))
    | ((try simp); refine (foldl_keeps State.iz ?_ _ _).trans ?_
       · intros; (try dsimp only); (repeat' split) <;> simp
       first
         | rfl
         | (simp; done)
         | ((try simp); refine (foldl_keeps State.iz ?_ _ _).trans ?_
            · intros; (try dsimp only); (repeat' split) <;> simp
            first | rfl | simp))
@[simp] theorem State.flushQueue_power (q : Nat) : (s.flushQueue q).power = s.power := by
  unfold State.flushQueue; (try dsimp only); repeat' split
  all_goals first
    | rfl
    | (simp; done)
    | (refine (foldl_keeps State.power ?_ _ _).trans ?_
       · intros; (try dsimp only); (repeat' split) <;> simp
       first | rfl | (simp; done))
    | ((try simp); refine (foldl_keeps State.power ?_ _ _).trans ?_
       · intros; (try dsimp only); (repeat' split) <;> simp
       first
         | rfl
         | (simp; done)
         | ((try simp); refine (foldl_keeps State.power ?_ _ _).trans ?_
            · intros; (try dsimp only); (repeat' split) <;> simp
            first | rfl | simp))
@[simp] theorem State.flushQueue_faults (q : Nat) : (s.flushQueue q).faults = s.faults := by
  unfold State.flushQueue; (try dsimp only); repeat' split
  all_goals first
    | rfl
    | (simp; done)
    | (refine (foldl_keeps State.faults ?_ _ _).trans ?_
       · intros; (try dsimp only); (repeat' split) <;> simp
       first | rfl | (simp; done))
    | ((try simp); refine (foldl_keeps State.faults ?_ _ _).trans ?_
       · intros; (try dsimp only); (repeat' split) <;> simp
       first
         | rfl
         | (simp; done)
         | ((try simp); refine (foldl_keeps State.faults ?_ _ _).trans ?_
            · intros; (try dsimp only); (repeat' split) <;> simp
            first | rfl | simp))
@[simp] theorem State.flushQueue_fuses (q : Nat) : (s.flushQueue q).fuses = s.fuses := by
  unfold State.flushQueue; (try dsimp only); repeat' split
  all_goals first
    | rfl
    | (simp; done)
    | (refine (foldl_keeps State.fuses ?_ _ _).trans ?_
       · intros; (try dsimp only); (repeat' split) <;> simp
       first | rfl | (simp; done))
    | ((try simp); refine (foldl_keeps State.fuses ?_ _ _).trans ?_
       · intros; (try dsimp only); (repeat' split) <;> simp
       first
         | rfl
         | (simp; done)
         | ((try simp); refine (foldl_keeps State.fuses ?_ _ _).trans ?_
            · intros; (try dsimp only); (repeat' split) <;> simp
            first | rfl | simp))
@[simp] theorem State.flushQueue_rst (q : Nat) : (s.flushQueue q).rst = s.rst := by
  unfold State.flushQueue; (try dsimp only); repeat' split
  all_goals first
    | rfl
    | (simp; done)
    | (refine (foldl_keeps State.rst ?_ _ _).trans ?_
       · intros; (try dsimp only); (repeat' split) <;> simp
       first | rfl | (simp; done))
    | ((try simp); refine (foldl_keeps State.rst ?_ _ _).trans ?_
       · intros; (try dsimp only); (repeat' split) <;> simp
       first
         | rfl
         | (simp; done)
         | ((try simp); refine (foldl_keeps State.rst ?_ _ _).trans ?_
            · intros; (try dsimp only); (repeat' split) <;> simp
            first | rfl | simp))
@[simp] theorem State.flushQueue_hamper (q : Nat) : (s.flushQueue q).hamper = s.hamper := by
  unfold State.flushQueue; (try dsimp only); repeat' split
  all_goals first
    | rfl
    | (simp; done)
    | (refine (foldl_keeps State.hamper ?_ _ _).trans ?_
       · intros; (try dsimp only); (repeat' split) <;> simp
       first | rfl | (simp; done))
    | ((try simp); refine (foldl_keeps State.hamper ?_ _ _).trans ?_
       · intros; (try dsimp only); (repeat' split) <;> simp
       first
         | rfl
         | (simp; done)
         | ((try simp); refine (foldl_keeps State.hamper ?_ _ _).trans ?_
            · intros; (try dsimp only); (repeat' split) <;> simp
            first | rfl | simp))
@[simp] theorem State.flushQueue_hmp (q : Nat) : (s.flushQueue q).hmp = s.hmp := by
  unfold State.flushQueue; (try dsimp only); repeat' split
  all_goals first
    | rfl
    | (simp; done)
    | (refine (foldl_keeps State.hmp ?_ _ _).trans ?_
       · intros; (try dsimp only); (repeat' split) <;> simp
       first | rfl | (simp; done))
    | ((try simp); refine (foldl_keeps State.hmp ?_ _ _).trans ?_
       · intros; (try dsimp only); (repeat' split) <;> simp
       first
         | rfl
         | (simp; done)
         | ((try simp); refine (foldl_keeps State.hmp ?_ _ _).trans ?_
            · intros; (try dsimp only); (repeat' split) <;> simp
            first | rfl | simp))
@[simp] theorem State.flushQueue_stations (q : Nat) : (s.flushQueue q).stations = s.stations := by
  unfold State.flushQueue; (try dsimp only); repeat' split
  all_goals first
    | rfl
    | (simp; done)
    | (refine (foldl_keeps State.stations ?_ _ _).trans ?_
       · intros; (try dsimp only); (repeat' split) <;> simp
       first | rfl | (simp; done))
    | ((try simp); refine (foldl_keeps State.stations ?_ _ _).trans ?_
       · intros; (try dsimp only); (repeat' split) <;> simp
       first
         | rfl
         | (simp; done)
         | ((try simp); refine (foldl_keeps State.stations ?_ _ _).trans ?_
            · intros; (try dsimp only); (repeat' split) <;> simp
            first | rfl | simp))
@[simp] theorem State.flushQueue_out (q : Nat) : (s.flushQueue q).out = s.out := by
  unfold State.flushQueue; (try dsimp only); repeat' split
  all_goals first
    | rfl
    | (simp; done)
    | (refine (foldl_keeps State.out ?_ _ _).trans ?_
       · intros; (try dsimp only); (repeat' split) <;> simp
       first | rfl | (simp; done))
    | ((try simp); refine (foldl_keeps State.out ?_ _ _).trans ?_
       · intros; (try dsimp only); (repeat' split) <;> simp
       first
         | rfl
         | (simp; done)
         | ((try simp); refine (foldl_keeps State.out ?_ _ _).trans ?_
            · intros; (try dsimp only); (repeat' split) <;> simp
            first | rfl | simp))
@[simp] theorem State.flushQueue_freeCount (q : Nat) : (s.flushQueue q).freeCount = s.freeCount := by
  unfold State.flushQueue; (try dsimp only); repeat' split
  all_goals first
    | rfl
    | (simp; done)
    | (refine (foldl_keeps State.freeCount ?_ _ _).trans ?_
       · intros; (try dsimp only); (repeat' split) <;> simp
       first | rfl | (simp; done))
    | ((try simp); refine (foldl_keeps State.freeCount ?_ _ _).trans ?_
       · intros; (try dsimp only); (repeat' split) <;> simp
       first
         | rfl
         | (simp; done)
         | ((try simp); refine (foldl_keeps State.freeCount ?_ _ _).trans ?_
            · intros; (try dsimp only); (repeat' split) <;> simp
            first | rfl | simp))
@[simp] theorem State.flushPort_pending (p : Port) : (s.flushPort p).pending = s.pending := by
  unfold State.flushPort
  exact foldl_keeps State.pending (fun s i => by split <;> simp) _ s
@[simp] theorem State.flushPort_time (p : Port) : (s.flushPort p).time = s.time := by
  unfold State.flushPort
  exact foldl_keeps State.time (fun s i => by split <;> simp) _ s
@[simp] theorem State.flushPort_timers (p : Port) : (s.flushPort p).timers = s.timers := by
  unfold State.flushPort
  exact foldl_keeps State.timers (fun s i => by split <;> simp) _ s
@[simp] theorem State.flushPort_merge (p : Port) : (s.flushPort p).merge = s.merge := by
  unfold State.flushPort
  exact foldl_keeps State.merge (fun s i => by split <;> simp) _ s
@[simp] theorem State.flushPort_house (p : Port) : (s.flushPort p).house = s.house := by
  unfold State.flushPort
  exact foldl_keeps State.house (fun s i => by split <;> simp) _ s
@[simp] theorem State.flushPort_ports (p : Port) : (s.flushPort p).ports = s.ports := by
  unfold State.flushPort
  exact foldl_keeps State.ports (fun s i => by split <;> simp) _ s
@[simp] theorem State.flushPort_pf (p : Port) : (s.flushPort p).pf = s.pf := by
  unfold State.flushPort
  exact foldl_keeps State.pf (fun s i => by split <;> simp) _ s
@[simp] theorem State.flushPort_casc (p : Port) : (s.flushPort p).casc = s.casc := by
  unfold State.flushPort
  exact foldl_keeps State.casc (fun s i => by split <;> simp) _ s
@[simp] theorem State.flushPort_iz (p : Port) : (s.flushPort p).iz = s.iz := by
  unfold State.flushPort
  exact foldl_keeps State.iz (fun s i => by split <;> simp) _ s
@[simp] theorem State.flushPort_power (p : Port) : (s.flushPort p).power = s.power := by
  unfold State.flushPort
  exact foldl_keeps State.power (fun s i => by split <;> simp) _ s
@[simp] theorem State.flushPort_faults (p : Port) : (s.flushPort p).faults = s.faults := by
  unfold State.flushPort
  exact foldl_keeps State.faults (fun s i => by split <;> simp) _ s
@[simp] theorem State.flushPort_fuses (p : Port) : (s.flushPort p).fuses = s.fuses := by
  unfold State.flushPort
  exact foldl_keeps State.fuses (fun s i => by split <;> simp) _ s
@[simp] theorem State.flushPort_rst (p : Port) : (s.flushPort p).rst = s.rst := by
  unfold State.flushPort
  exact foldl_keeps State.rst (fun s i => by split <;> simp) _ s
@[simp] theorem State.flushPort_hamper (p : Port) : (s.flushPort p).hamper = s.hamper := by
  unfold State.flushPort
  exact foldl_keeps State.hamper (fun s i => by split <;> simp) _ s
@[simp] theorem State.flushPort_hmp (p : Port) : (s.flushPort p).hmp = s.hmp := by
  unfold State.flushPort
  exact foldl_keeps State.hmp (fun s i => by split <;> simp) _ s
@[simp] theorem State.flushPort_stations (p : Port) : (s.flushPort p).stations = s.stations := by
  unfold State.flushPort
  exact foldl_keeps State.stations (fun s i => by split <;> simp) _ s
@[simp] theorem State.flushPort_out (p : Port) : (s.flushPort p).out = s.out := by
  unfold State.flushPort
  exact foldl_keeps State.out (fun s i => by split <;> simp) _ s
@[simp] theorem State.flushPort_freeCount (p : Port) : (s.flushPort p).freeCount = s.freeCount := by
  unfold State.flushPort
  exact foldl_keeps State.freeCount (fun s i => by split <;> simp) _ s
@[simp] theorem State.answerProxy_pending (p : Port) (x : Proxy) (n : Nat) (b : Bytes) : (s.answerProxy p x n b).pending = s.pending := by
  unfold State.answerProxy; (try dsimp only); repeat' split
  all_goals first | (simp; done) | rfl
@[simp] theorem State.answerProxy_blobs (p : Port) (x : Proxy) (n : Nat) (b : Bytes) : (s.answerProxy p x n b).blobs = s.blobs := by
  unfold State.answerProxy; (try dsimp only); repeat' split
  all_goals first | (simp; done) | rfl
@[simp] theorem State.answerProxy_time (p : Port) (x : Proxy) (n : Nat) (b : Bytes) : (s.answerProxy p x n b).time = s.time := by
  unfold State.answerProxy; (try dsimp only); repeat' split
  all_goals first | (simp; done) | rfl
@[simp] theorem State.answerProxy_merge (p : Port) (x : Proxy) (n : Nat) (b : Bytes) : (s.answerProxy p x n b).merge = s.merge := by
  unfold State.answerProxy; (try dsimp only); repeat' split
  all_goals first | (simp; done) | rfl
@[simp] theorem State.answerProxy_house (p : Port) (x : Proxy) (n : Nat) (b : Bytes) : (s.answerProxy p x n b).house = s.house := by
  unfold State.answerProxy; (try dsimp only); repeat' split
  all_goals first | (simp; done) | rfl
@[simp] theorem State.answerProxy_ports (p : Port) (x : Proxy) (n : Nat) (b : Bytes) : (s.answerProxy p x n b).ports = s.ports := by
  unfold State.answerProxy; (try dsimp only); repeat' split
  all_goals first | (simp; done) | rfl
@[simp] theorem State.answerProxy_casc (p : Port) (x : Proxy) (n : Nat) (b : Bytes) : (s.answerProxy p x n b).casc = s.casc := by
  unfold State.answerProxy; (try dsimp only); repeat' split
  all_goals first | (simp; done) | rfl
@[simp] theorem State.answerProxy_power (p : Port) (x : Proxy) (n : Nat) (b : Bytes) : (s.answerProxy p x n b).power = s.power := by
  unfold State.answerProxy; (try dsimp only); repeat' split
  all_goals first | (simp; done) | rfl
@[simp] theorem State.answerProxy_faults (p : Port) (x : Proxy) (n : Nat) (b : Bytes) : (s.answerProxy p x n b).faults = s.faults := by
  unfold State.answerProxy; (try dsimp only); repeat' split
  all_goals first | (simp; done) | rfl
@[simp] theorem State.answerProxy_fuses (p : Port) (x : Proxy) (n : Nat) (b : Bytes) : (s.answerProxy p x n b).fuses = s.fuses := by
  unfold State.answerProxy; (try dsimp only); repeat' split
  all_goals first | (simp; done) | rfl
@[simp] theorem State.answerProxy_rst (p : Port) (x : Proxy) (n : Nat) (b : Bytes) : (s.answerProxy p x n b).rst = s.rst := by
  unfold State.answerProxy; (try dsimp only); repeat' split
  all_goals first | (simp; done) | rfl
@[simp] theorem State.answerProxy_hamper (p : Port) (x : Proxy) (n : Nat) (b : Bytes) : (s.answerProxy p x n b).hamper = s.hamper := by
  unfold State.answerProxy; (try dsimp only); repeat' split
  all_goals first | (simp; done) | rfl
@[simp] theorem State.answerProxy_hmp (p : Port) (x : Proxy) (n : Nat) (b : Bytes) : (s.answerProxy p x n b).hmp = s.hmp := by
  unfold State.answerProxy; (try dsimp only); repeat' split
  all_goals first | (simp; done) | rfl
@[simp] theorem State.answerProxy_stations (p : Port) (x : Proxy) (n : Nat) (b : Bytes) : (s.answerProxy p x n b).stations = s.stations := by
  unfold State.answerProxy; (try dsimp only); repeat' split
  all_goals first | (simp; done) | rfl
@[simp] theorem State.answerProxy_freeCount (p : Port) (x : Proxy) (n : Nat) (b : Bytes) : (s.answerProxy p x n b).freeCount = s.freeCount := by
  unfold State.answerProxy; (try dsimp only); repeat' split
  all_goals first | (simp; done) | rfl
@[simp] theorem State.failProxies_pending (p : Port) (f : Nat → Bool) : (s.failProxies p f).pending = s.pending := by
  unfold State.failProxies; (try dsimp only); repeat' split
  all_goals first
    | rfl
    | (simp; done)
    | (refine (foldl_keeps State.pending ?_ _ _).trans ?_
       · intros; (try dsimp only); (repeat' split) <;> simp
       first | rfl | (simp; done))
    | ((try simp); refine (foldl_keeps State.pending ?_ _ _).trans ?_
       · intros; (try dsimp only); (repeat' split) <;> simp
       first
         | rfl
         | (simp; done)
         | ((try simp); refine (foldl_keeps State.pending ?_ _ _).trans ?_
            · intros; (try dsimp only); (repeat' split) <;> simp
            first | rfl | simp))
@[simp] theorem State.failProxies_blobs (p : Port) (f : Nat → Bool) : (s.failProxies p f).blobs = s.blobs := by
  unfold State.failProxies; (try dsimp only); repeat' split
  all_goals first
    | rfl
    | (simp; done)
    | (refine (foldl_keeps State.blobs ?_ _ _).trans ?_
       · intros; (try dsimp only); (repeat' split) <;> simp
       first | rfl | (simp; done))
    | ((try simp); refine (foldl_keeps State.blobs ?_ _ _).trans ?_
       · intros; (try dsimp only); (repeat' split) <;> simp
       first
         | rfl
         | (simp; done)
         | ((try simp); refine (foldl_keeps State.blobs ?_ _ _).trans ?_
            · intros; (try dsimp only); (repeat' split) <;> simp
            first | rfl | simp))
@[simp] theorem State.failProxies_time (p : Port) (f : Nat → Bool) : (s.failProxies p f).time = s.time := by
  unfold State.failProxies; (try dsimp only); repeat' split
  all_goals first
    | rfl
    | (simp; done)
    | (refine (foldl_keeps State.time ?_ _ _).trans ?_
       · intros; (try dsimp only); (repeat' split) <;> simp
       first | rfl | (simp; done))
    | ((try simp); refine (foldl_keeps State.time ?_ _ _).trans ?_
       · intros; (try dsimp only); (repeat' split) <;> simp
       first
         | rfl
         | (simp; done)
         | ((try simp); refine (foldl_keeps State.time ?_ _ _).trans ?_
            · intros; (try dsimp only); (repeat' split) <;> simp
            first | rfl | simp))
@[simp] theorem State.failProxies_merge (p : Port) (f : Nat → Bool) : (s.failProxies p f).merge = s.merge := by
  unfold State.failProxies; (try dsimp only); repeat' split
  all_goals first
    | rfl
    | (simp; done)
    | (refine (foldl_keeps State.merge ?_ _ _).trans ?_
       · intros; (try dsimp only); (repeat' split) <;> simp
       first | rfl | (simp; done))
    | ((try simp); refine (foldl_keeps State.merge ?_ _ _).trans ?_
       · intros; (try dsimp only); (repeat' split) <;> simp
       first
         | rfl
         | (simp; done)
         | ((try simp); refine (foldl_keeps State.merge ?_ _ _).trans ?_
            · intros; (try dsimp only); (repeat' split) <;> simp
            first | rfl | simp))
@[simp] theorem State.failProxies_house (p : Port) (f : Nat → Bool) : (s.failProxies p f).house = s.house := by
  unfold State.failProxies; (try dsimp only); repeat' split
  all_goals first
    | rfl
    | (simp; done)
    | (refine (foldl_keeps State.house ?_ _ _).trans ?_
       · intros; (try dsimp only); (repeat' split) <;> simp
       first | rfl | (simp; done))
    | ((try simp); refine (foldl_keeps State.house ?_ _ _).trans ?_
       · intros; (try dsimp only); (repeat' split) <;> simp
       first
         | rfl
         | (simp; done)
         | ((try simp); refine (foldl_keeps State.house ?_ _ _).trans ?_
            · intros; (try dsimp only); (repeat' split) <;> simp
            first | rfl | simp))
@[simp] theorem State.failProxies_casc (p : Port) (f : Nat → Bool) : (s.failProxies p f).casc = s.casc := by
  unfold State.failProxies; (try dsimp only); repeat' split
  all_goals first
    | rfl
    | (simp; done)
    | (refine (foldl_keeps State.casc ?_ _ _).trans ?_
       · intros; (try dsimp only); (repeat' split) <;> simp
       first | rfl | (simp; done))
    | ((try simp); refine (foldl_keeps State.casc ?_ _ _).trans ?_
       · intros; (try dsimp only); (repeat' split) <;> simp
       first
         | rfl
         | (simp; done)
         | ((try simp); refine (foldl_keeps State.casc ?_ _ _).trans ?_
            · intros; (try dsimp only); (repeat' split) <;> simp
            first | rfl | simp))
@[simp] theorem State.failProxies_power (p : Port) (f : Nat → Bool) : (s.failProxies p f).power = s.power := by
  unfold State.failProxies; (try dsimp only); repeat' split
  all_goals first
    | rfl
    | (simp; done)
    | (refine (foldl_keeps State.power ?_ _ _).trans ?_
       · intros; (try dsimp only); (repeat' split) <;> simp
       first | rfl | (simp; done))
    | ((try simp); refine (foldl_keeps State.power ?_ _ _).trans ?_
       · intros; (try dsimp only); (repeat' split) <;> simp
       first
         | rfl
         | (simp; done)
         | ((try simp); refine (foldl_keeps State.power ?_ _ _).trans ?_
            · intros; (try dsimp only); (repeat' split) <;> simp
            first | rfl | simp))
@[simp] theorem State.failProxies_faults (p : Port) (f : Nat → Bool) : (s.failProxies p f).faults = s.faults := by
  unfold State.failProxies; (try dsimp only); repeat' split
  all_goals first
    | rfl
    | (simp; done)
    | (refine (foldl_keeps State.faults ?_ _ _).trans ?_
       · intros; (try dsimp only); (repeat' split) <;> simp
       first | rfl | (simp; done))
    | ((try simp); refine (foldl_keeps State.faults ?_ _ _).trans ?_
       · intros; (try dsimp only); (repeat' split) <;> simp
       first
         | rfl
         | (simp; done)
         | ((try simp); refine (foldl_keeps State.faults ?_ _ _).trans ?_
            · intros; (try dsimp only); (repeat' split) <;> simp
            first | rfl | simp))
@[simp] theorem State.failProxies_fuses (p : Port) (f : Nat → Bool) : (s.failProxies p f).fuses = s.fuses := by
  unfold State.failProxies; (try dsimp only); repeat' split
  all_goals first
    | rfl
    | (simp; done)
    | (refine (foldl_keeps State.fuses ?_ _ _).trans ?_
       · intros; (try dsimp only); (repeat' split) <;> simp
       first | rfl | (simp; done))
    | ((try simp); refine (foldl_keeps State.fuses ?_ _ _).trans ?_
       · intros; (try dsimp only); (repeat' split) <;> simp
       first
         | rfl
         | (simp; done)
         | ((try simp); refine (foldl_keeps State.fuses ?_ _ _).trans ?_
            · intros; (try dsimp only); (repeat' split) <;> simp
            first | rfl | simp))
@[simp] theorem State.failProxies_rst (p : Port) (f : Nat → Bool) : (s.failProxies p f).rst = s.rst := by
  unfold State.failProxies; (try dsimp only); repeat' split
  all_goals first
    | rfl
    | (simp; done)
    | (refine (foldl_keeps State.rst ?_ _ _).trans ?_
       · intros; (try dsimp only); (repeat' split) <;> simp
       first | rfl | (simp; done))
    | ((try simp); refine (foldl_keeps State.rst ?_ _ _).trans ?_
       · intros; (try dsimp only); (repeat' split) <;> simp
       first
         | rfl
         | (simp; done)
         | ((try simp); refine (foldl_keeps State.rst ?_ _ _).trans ?_
            · intros; (try dsimp only); (repeat' split) <;> simp
            first | rfl | simp))
@[simp] theorem State.failProxies_hamper (p : Port) (f : Nat → Bool) : (s.failProxies p f).hamper = s.hamper := by
  unfold State.failProxies; (try dsimp only); repeat' split
  all_goals first
    | rfl
    | (simp; done)
    | (refine (foldl_keeps State.hamper ?_ _ _).trans ?_
       · intros; (try dsimp only); (repeat' split) <;> simp
       first | rfl | (simp; done))
    | ((try simp); refine (foldl_keeps State.hamper ?_ _ _).trans ?_
       · intros; (try dsimp only); (repeat' split) <;> simp
       first
         | rfl
         | (simp; done)
         | ((try simp); refine (foldl_keeps State.hamper ?_ _ _).trans ?_
            · intros; (try dsimp only); (repeat' split) <;> simp
            first | rfl | simp))
@[simp] theorem State.failProxies_hmp (p : Port) (f : Nat → Bool) : (s.failProxies p f).hmp = s.hmp := by
  unfold State.failProxies; (try dsimp only); repeat' split
  all_goals first
    | rfl
    | (simp; done)
    | (refine (foldl_keeps State.hmp ?_ _ _).trans ?_
       · intros; (try dsimp only); (repeat' split) <;> simp
       first | rfl | (simp; done))
    | ((try simp); refine (foldl_keeps State.hmp ?_ _ _).trans ?_
       · intros; (try dsimp only); (repeat' split) <;> simp
       first
         | rfl
         | (simp; done)
         | ((try simp); refine (foldl_keeps State.hmp ?_ _ _).trans ?_
            · intros; (try dsimp only); (repeat' split) <;> simp
            first | rfl | simp))
@[simp] theorem State.failProxies_stations (p : Port) (f : Nat → Bool) : (s.failProxies p f).stations = s.stations := by
  unfold State.failProxies; (try dsimp only); repeat' split
  all_goals first
    | rfl
    | (simp; done)
    | (refine (foldl_keeps State.stations ?_ _ _).trans ?_
       · intros; (try dsimp only); (repeat' split) <;> simp
       first | rfl | (simp; done))
    | ((try simp); refine (foldl_keeps State.stations ?_ _ _).trans ?_
       · intros; (try dsimp only); (repeat' split) <;> simp
       first
         | rfl
         | (simp; done)
         | ((try simp); refine (foldl_keeps State.stations ?_ _ _).trans ?_
            · intros; (try dsimp only); (repeat' split) <;> simp
            first | rfl | simp))
@[simp] theorem State.failProxies_freeCount (p : Port) (f : Nat → Bool) : (s.failProxies p f).freeCount = s.freeCount := by
  unfold State.failProxies; (try dsimp only); repeat' split
  all_goals first
    | rfl
    | (simp; done)
    | (refine (foldl_keeps State.freeCount ?_ _ _).trans ?_
       · intros; (try dsimp only); (repeat' split) <;> simp
       first | rfl | (simp; done))
    | ((try simp); refine (foldl_keeps State.freeCount ?_ _ _).trans ?_
       · intros; (try dsimp only); (repeat' split) <;> simp
       first
         | rfl
         | (simp; done)
         | ((try simp); refine (foldl_keeps State.freeCount ?_ _ _).trans ?_
            · intros; (try dsimp only); (repeat' split) <;> simp
            first | rfl | simp))
@[simp] theorem State.freeEngine_pending (p : Port) : (s.freeEngine p).pending = s.pending := by
  unfold State.freeEngine; (try dsimp only); repeat' split
  all_goals first | (simp; done) | rfl
@[simp] theorem State.freeEngine_blobs (p : Port) : (s.freeEngine p).blobs = s.blobs := by
  unfold State.freeEngine; (try dsimp only); repeat' split
  all_goals first | (simp; done) | rfl
@[simp] theorem State.freeEngine_time (p : Port) : (s.freeEngine p).time = s.time := by
  unfold State.freeEngine; (try dsimp only); repeat' split
  all_goals first | (simp; done) | rfl
@[simp] theorem State.freeEngine_timers (p : Port) : (s.freeEngine p).timers = s.timers := by
  unfold State.freeEngine; (try dsimp only); repeat' split
  all_goals first | (simp; done) | rfl
@[simp] theorem State.freeEngine_merge (p : Port) : (s.freeEngine p).merge = s.merge := by
  unfold State.freeEngine; (try dsimp only); repeat' split
  all_goals first | (simp; done) | rfl
@[simp] theorem State.freeEngine_house (p : Port) : (s.freeEngine p).house = s.house := by
  unfold State.freeEngine; (try dsimp only); repeat' split
  all_goals first | (simp; done) | rfl
@[simp] theorem State.freeEngine_qm (p : Port) : (s.freeEngine p).qm = s.qm := by
  unfold State.freeEngine; (try dsimp only); repeat' split
  all_goals first | (simp; done) | rfl
@[simp] theorem State.freeEngine_pf (p : Port) : (s.freeEngine p).pf = s.pf := by
  unfold State.freeEngine; (try dsimp only); repeat' split
  all_goals first | (simp; done) | rfl
@[simp] theorem State.freeEngine_casc (p : Port) : (s.freeEngine p).casc = s.casc := by
  unfold State.freeEngine; (try dsimp only); repeat' split
  all_goals first | (simp; done) | rfl
@[simp] theorem State.freeEngine_iz (p : Port) : (s.freeEngine p).iz = s.iz := by
  unfold State.freeEngine; (try dsimp only); repeat' split
  all_goals first | (simp; done) | rfl
@[simp] theorem State.freeEngine_power (p : Port) : (s.freeEngine p).power = s.power := by
  unfold State.freeEngine; (try dsimp only); repeat' split
  all_goals first | (simp; done) | rfl
@[simp] theorem State.freeEngine_faults (p : Port) : (s.freeEngine p).faults = s.faults := by
  unfold State.freeEngine; (try dsimp only); repeat' split
  all_goals first | (simp; done) | rfl
@[simp] theorem State.freeEngine_fuses (p : Port) : (s.freeEngine p).fuses = s.fuses := by
  unfold State.freeEngine; (try dsimp only); repeat' split
  all_goals first | (simp; done) | rfl
@[simp] theorem State.freeEngine_rst (p : Port) : (s.freeEngine p).rst = s.rst := by
  unfold State.freeEngine; (try dsimp only); repeat' split
  all_goals first | (simp; done) | rfl
@[simp] theorem State.freeEngine_hamper (p : Port) : (s.freeEngine p).hamper = s.hamper := by
  unfold State.freeEngine; (try dsimp only); repeat' split
  all_goals first | (simp; done) | rfl
@[simp] theorem State.freeEngine_hmp (p : Port) : (s.freeEngine p).hmp = s.hmp := by
  unfold State.freeEngine; (try dsimp only); repeat' split
  all_goals first | (simp; done) | rfl
@[simp] theorem State.freeEngine_stations (p : Port) : (s.freeEngine p).stations = s.stations := by
  unfold State.freeEngine; (try dsimp only); repeat' split
  all_goals first | (simp; done) | rfl
@[simp] theorem State.freeEngine_out (p : Port) : (s.freeEngine p).out = s.out := by
  unfold State.freeEngine; (try dsimp only); repeat' split
  all_goals first | (simp; done) | rfl
@[simp] theorem State.freeEngine_freeCount (p : Port) : (s.freeEngine p).freeCount = s.freeCount := by
  unfold State.freeEngine; (try dsimp only); repeat' split
  all_goals first | (simp; done) | rfl
@[simp] theorem State.leaveQuiet_pending (p : Port) : (s.leaveQuiet p).pending = s.pending := by
  unfold State.leaveQuiet; (try dsimp only); repeat' split
  all_goals first
    | rfl
    | (simp; done)
    | (refine (foldl_keeps State.pending ?_ _ _).trans ?_
       · intros; (try dsimp only); (repeat' split) <;> simp
       first | rfl | (simp; done))
    | ((try simp); refine (foldl_keeps State.pending ?_ _ _).trans ?_
       · intros; (try dsimp only); (repeat' split) <;> simp
       first
         | rfl
         | (simp; done)
         | ((try simp); refine (foldl_keeps State.pending ?_ _ _).trans ?_
            · intros; (try dsimp only); (repeat' split) <;> simp
            first | rfl | simp))
@[simp] theorem State.leaveQuiet_blobs (p : Port) : (s.leaveQuiet p).blobs = s.blobs := by
  unfold State.leaveQuiet; (try dsimp only); repeat' split
  all_goals first
    | rfl
    | (simp; done)
    | (refine (foldl_keeps State.blobs ?_ _ _).trans ?_
       · intros; (try dsimp only); (repeat' split) <;> simp
       first | rfl | (simp; done))
    | ((try simp); refine (foldl_keeps State.blobs ?_ _ _).trans ?_
       · intros; (try dsimp only); (repeat' split) <;> simp
       first
         | rfl
         | (simp; done)
         | ((try simp); refine (foldl_keeps State.blobs ?_ _ _).trans ?_
            · intros; (try dsimp only); (repeat' split) <;> simp
            first | rfl | simp))
@[simp] theorem State.leaveQuiet_time (p : Port) : (s.leaveQuiet p).time = s.time := by
  unfold State.leaveQuiet; (try dsimp only); repeat' split
  all_goals first
    | rfl
    | (simp; done)
    | (refine (foldl_keeps State.time ?_ _ _).trans ?_
       · intros; (try dsimp only); (repeat' split) <;> simp
       first | rfl | (simp; done))
    | ((try simp); refine (foldl_keeps State.time ?_ _ _).trans ?_
       · intros; (try dsimp only); (repeat' split) <;> simp
       first
         | rfl
         | (simp; done)
         | ((try simp); refine (foldl_keeps State.time ?_ _ _).trans ?_
            · intros; (try dsimp only); (repeat' split) <;> simp
            first | rfl | simp))
@[simp] theorem State.leaveQuiet_timers (p : Port) : (s.leaveQuiet p).timers = s.timers := by
  unfold State.leaveQuiet; (try dsimp only); repeat' split
  all_goals first
    | rfl
    | (simp; done)
    | (refine (foldl_keeps State.timers ?_ _ _).trans ?_
       · intros; (try dsimp only); (repeat' split) <;> simp
       first | rfl | (simp; done))
    | ((try simp); refine (foldl_keeps State.timers ?_ _ _).trans ?_
       · intros; (try dsimp only); (repeat' split) <;> simp
       first
         | rfl
         | (simp; done)
         | ((try simp); refine (foldl_keeps State.timers ?_ _ _).trans ?_
            · intros; (try dsimp only); (repeat' split) <;> simp
            first | rfl | simp))
@[simp] theorem State.leaveQuiet_merge (p : Port) : (s.leaveQuiet p).merge = s.merge := by
  unfold State.leaveQuiet; (try dsimp only); repeat' split
  all_goals first
    | rfl
    | (simp; done)
    | (refine (foldl_keeps State.merge ?_ _ _).trans ?_
       · intros; (try dsimp only); (repeat' split) <;> simp
       first | rfl | (simp; done))
    | ((try simp); refine (foldl_keeps State.merge ?_ _ _).trans ?_
       · intros; (try dsimp only); (repeat' split) <;> simp
       first
         | rfl
         | (simp; done)
         | ((try simp); refine (foldl_keeps State.merge ?_ _ _).trans ?_
            · intros; (try dsimp only); (repeat' split) <;> simp
            first | rfl | simp))
@[simp] theorem State.leaveQuiet_house (p : Port) : (s.leaveQuiet p).house = s.house := by
  unfold State.leaveQuiet; (try dsimp only); repeat' split
  all_goals first
    | rfl
    | (simp; done)
    | (refine (foldl_keeps State.house ?_ _ _).trans ?_
       · intros; (try dsimp only); (repeat' split) <;> simp
       first | rfl | (simp; done))
    | ((try simp); refine (foldl_keeps State.house ?_ _ _).trans ?_
       · intros; (try dsimp only); (repeat' split) <;> simp
       first
         | rfl
         | (simp; done)
         | ((try simp); refine (foldl_keeps State.house ?_ _ _).trans ?_
            · intros; (try dsimp only); (repeat' split) <;> simp
            first | rfl | simp))
@[simp] theorem State.leaveQuiet_qm (p : Port) : (s.leaveQuiet p).qm = s.qm := by
  unfold State.leaveQuiet; (try dsimp only); repeat' split
  all_goals first
    | rfl
    | (simp; done)
    | (refine (foldl_keeps State.qm ?_ _ _).trans ?_
       · intros; (try dsimp only); (repeat' split) <;> simp
       first | rfl | (simp; done))
    | ((try simp); refine (foldl_keeps State.qm ?_ _ _).trans ?_
       · intros; (try dsimp only); (repeat' split) <;> simp
       first
         | rfl
         | (simp; done)
         | ((try simp); refine (foldl_keeps State.qm ?_ _ _).trans ?_
            · intros; (try dsimp only); (repeat' split) <;> simp
            first | rfl | simp))
@[simp] theorem State.leaveQuiet_pf (p : Port) : (s.leaveQuiet p).pf = s.pf := by
  unfold State.leaveQuiet; (try dsimp only); repeat' split
  all_goals first
    | rfl
    | (simp; done)
    | (refine (foldl_keeps State.pf ?_ _ _).trans ?_
       · intros; (try dsimp only); (repeat' split) <;> simp
       first | rfl | (simp; done))
    | ((try simp); refine (foldl_keeps State.pf ?_ _ _).trans ?_
       · intros; (try dsimp only); (repeat' split) <;> simp
       first
         | rfl
         | (simp; done)
         | ((try simp); refine (foldl_keeps State.pf ?_ _ _).trans ?_
            · intros; (try dsimp only); (repeat' split) <;> simp
            first | rfl | simp))
@[simp] theorem State.leaveQuiet_casc (p : Port) : (s.leaveQuiet p).casc = s.casc := by
  unfold State.leaveQuiet; (try dsimp only); repeat' split
  all_goals first
    | rfl
    | (simp; done)
    | (refine (foldl_keeps State.casc ?_ _ _).trans ?_
       · intros; (try dsimp only); (repeat' split) <;> simp
       first | rfl | (simp; done))
    | ((try simp); refine (foldl_keeps State.casc ?_ _ _).trans ?_
       · intros; (try dsimp only); (repeat' split) <;> simp
       first
         | rfl
         | (simp; done)
         | ((try simp); refine (foldl_keeps State.casc ?_ _ _).trans ?_
            · intros; (try dsimp only); (repeat' split) <;> simp
            first | rfl | simp))
@[simp] theorem State.leaveQuiet_iz (p : Port) : (s.leaveQuiet p).iz = s.iz := by
  unfold State.leaveQuiet; (try dsimp only); repeat' split
  all_goals first
    | rfl
    | (simp; done)
    | (refine (foldl_keeps State.iz ?_ _ _).trans ?_
       · intros; (try dsimp only); (repeat' split) <;> simp
       first | rfl | (simp; done))
    | ((try simp); refine (foldl_keeps State.iz ?_ _ _).trans ?_
       · intros; (try dsimp only); (repeat' split) <;> simp
       first
         | rfl
         | (simp; done)
         | ((try simp); refine (foldl_keeps State.iz ?_ _ _).trans ?_
            · intros; (try dsimp only); (repeat' split) <;> simp
            first | rfl | simp))
@[simp] theorem State.leaveQuiet_power (p : Port) : (s.leaveQuiet p).power = s.power := by
  unfold State.leaveQuiet; (try dsimp only); repeat' split
  all_goals first
    | rfl
    | (simp; done)
    | (refine (foldl_keeps State.power ?_ _ _).trans ?_
       · intros; (try dsimp only); (repeat' split) <;> simp
       first | rfl | (simp; done))
    | ((try simp); refine (foldl_keeps State.power ?_ _ _).trans ?_
       · intros; (try dsimp only); (repeat' split) <;> simp
       first
         | rfl
         | (simp; done)
         | ((try simp); refine (foldl_keeps State.power ?_ _ _).trans ?_
            · intros; (try dsimp only); (repeat' split) <;> simp
            first | rfl | simp))
@[simp] theorem State.leaveQuiet_faults (p : Port) : (s.leaveQuiet p).faults = s.faults := by
  unfold State.leaveQuiet; (try dsimp only); repeat' split
  all_goals first
    | rfl
    | (simp; done)
    | (refine (foldl_keeps State.faults ?_ _ _).trans ?_
       · intros; (try dsimp only); (repeat' split) <;> simp
       first | rfl | (simp; done))
    | ((try simp); refine (foldl_keeps State.faults ?_ _ _).trans ?_
       · intros; (try dsimp only); (repeat' split) <;> simp
       first
         | rfl
         | (simp; done)
         | ((try simp); refine (foldl_keeps State.faults ?_ _ _).trans ?_
            · intros; (try dsimp only); (repeat' split) <;> simp
            first | rfl | simp))
@[simp] theorem State.leaveQuiet_fuses (p : Port) : (s.leaveQuiet p).fuses = s.fuses := by
  unfold State.leaveQuiet; (try dsimp only); repeat' split
  all_goals first
    | rfl
    | (simp; done)
    | (refine (foldl_keeps State.fuses ?_ _ _).trans ?_
       · intros; (try dsimp only); (repeat' split) <;> simp
       first | rfl | (simp; done))
    | ((try simp); refine (foldl_keeps State.fuses ?_ _ _).trans ?_
       · intros; (try dsimp only); (repeat' split) <;> simp
       first
         | rfl
         | (simp; done)
         | ((try simp); refine (foldl_keeps State.fuses ?_ _ _).trans ?_
            · intros; (try dsimp only); (repeat' split) <;> simp
            first | rfl | simp))
@[simp] theorem State.leaveQuiet_rst (p : Port) : (s.leaveQuiet p).rst = s.rst := by
  unfold State.leaveQuiet; (try dsimp only); repeat' split
  all_goals first
    | rfl
    | (simp; done)
    | (refine (foldl_keeps State.rst ?_ _ _).trans ?_
       · intros; (try dsimp only); (repeat' split) <;> simp
       first | rfl | (simp; done))
    | ((try simp); refine (foldl_keeps State.rst ?_ _ _).trans ?_
       · intros; (try dsimp only); (repeat' split) <;> simp
       first
         | rfl
         | (simp; done)
         | ((try simp); refine (foldl_keeps State.rst ?_ _ _).trans ?_
            · intros; (try dsimp only); (repeat' split) <;> simp
            first | rfl | simp))
@[simp] theorem State.leaveQuiet_hamper (p : Port) : (s.leaveQuiet p).hamper = s.hamper := by
  unfold State.leaveQuiet; (try dsimp only); repeat' split
  all_goals first
    | rfl
    | (simp; done)
    | (refine (foldl_keeps State.hamper ?_ _ _).trans ?_
       · intros; (try dsimp only); (repeat' split) <;> simp
       first | rfl | (simp; done))
    | ((try simp); refine (foldl_keeps State.hamper ?_ _ _).trans ?_
       · intros; (try dsimp only); (repeat' split) <;> simp
       first
         | rfl
         | (simp; done)
         | ((try simp); refine (foldl_keeps State.hamper ?_ _ _).trans ?_
            · intros; (try dsimp only); (repeat' split) <;> simp
            first | rfl | simp))
@[simp] theorem State.leaveQuiet_hmp (p : Port) : (s.leaveQuiet p).hmp = s.hmp := by
  unfold State.leaveQuiet; (try dsimp only); repeat' split
  all_goals first
    | rfl
    | (simp; done)
    | (refine (foldl_keeps State.hmp ?_ _ _).trans ?_
       · intros; (try dsimp only); (repeat' split) <;> simp
       first | rfl | (simp; done))
    | ((try simp); refine (foldl_keeps State.hmp ?_ _ _).trans ?_
       · intros; (try dsimp only); (repeat' split) <;> simp
       first
         | rfl
         | (simp; done)
         | ((try simp); refine (foldl_keeps State.hmp ?_ _ _).trans ?_
            · intros; (try dsimp only); (repeat' split) <;> simp
            first | rfl | simp))
@[simp] theorem State.leaveQuiet_stations (p : Port) : (s.leaveQuiet p).stations = s.stations := by
  unfold State.leaveQuiet; (try dsimp only); repeat' split
  all_goals first
    | rfl
    | (simp; done)
    | (refine (foldl_keeps State.stations ?_ _ _).trans ?_
       · intros; (try dsimp only); (repeat' split) <;> simp
       first | rfl | (simp; done))
    | ((try simp); refine (foldl_keeps State.stations ?_ _ _).trans ?_
       · intros; (try dsimp only); (repeat' split) <;> simp
       first
         | rfl
         | (simp; done)
         | ((try simp); refine (foldl_keeps State.stations ?_ _ _).trans ?_
            · intros; (try dsimp only); (repeat' split) <;> simp
            first | rfl | simp))
@[simp] theorem State.leaveQuiet_out (p : Port) : (s.leaveQuiet p).out = s.out := by
  unfold State.leaveQuiet; (try dsimp only); repeat' split
  all_goals first
    | rfl
    | (simp; done)
    | (refine (foldl_keeps State.out ?_ _ _).trans ?_
       · intros; (try dsimp only); (repeat' split) <;> simp
       first | rfl | (simp; done))
    | ((try simp); refine (foldl_keeps State.out ?_ _ _).trans ?_
       · intros; (try dsimp only); (repeat' split) <;> simp
       first
         | rfl
         | (simp; done)
         | ((try simp); refine (foldl_keeps State.out ?_ _ _).trans ?_
            · intros; (try dsimp only); (repeat' split) <;> simp
            first | rfl | simp))
@[simp] theorem State.leaveQuiet_freeCount (p : Port) : (s.leaveQuiet p).freeCount = s.freeCount := by
  unfold State.leaveQuiet; (try dsimp only); repeat' split
  all_goals first
    | rfl
    | (simp; done)
    | (refine (foldl_keeps State.freeCount ?_ _ _).trans ?_
       · intros; (try dsimp only); (repeat' split) <;> simp
       first | rfl | (simp; done))
    | ((try simp); refine (foldl_keeps State.freeCount ?_ _ _).trans ?_
       · intros; (try dsimp only); (repeat' split) <;> simp
       first
         | rfl
         | (simp; done)
         | ((try simp); refine (foldl_keeps State.freeCount ?_ _ _).trans ?_
            · intros; (try dsimp only); (repeat' split) <;> simp
            first | rfl | simp))
@[simp] theorem State.leaving_pending (p : Port) (a b : Int) : (s.leaving p a b).pending = s.pending := by
  unfold State.leaving; (try dsimp only); repeat' split
  all_goals first | (simp; done) | rfl
@[simp] theorem State.leaving_time (p : Port) (a b : Int) : (s.leaving p a b).time = s.time := by
  unfold State.leaving; (try dsimp only); repeat' split
  all_goals first | (simp; done) | rfl
@[simp] theorem State.leaving_merge (p : Port) (a b : Int) : (s.leaving p a b).merge = s.merge := by
  unfold State.leaving; (try dsimp only); repeat' split
  all_goals first | (simp; done) | rfl
@[simp] theorem State.leaving_house (p : Port) (a b : Int) : (s.leaving p a b).house = s.house := by
  unfold State.leaving; (try dsimp only); repeat' split
  all_goals first | (simp; done) | rfl
@[simp] theorem State.leaving_casc (p : Port) (a b : Int) : (s.leaving p a b).casc = s.casc := by
  unfold State.leaving; (try dsimp only); repeat' split
  all_goals first | (simp; done) | rfl
@[simp] theorem State.leaving_power (p : Port) (a b : Int) : (s.leaving p a b).power = s.power := by
  unfold State.leaving; (try dsimp only); repeat' split
  all_goals first | (simp; done) | rfl
@[simp] theorem State.leaving_faults (p : Port) (a b : Int) : (s.leaving p a b).faults = s.faults := by
  unfold State.leaving; (try dsimp only); repeat' split
  all_goals first | (simp; done) | rfl
@[simp] theorem State.leaving_fuses (p : Port) (a b : Int) : (s.leaving p a b).fuses = s.fuses := by
  unfold State.leaving; (try dsimp only); repeat' split
  all_goals first | (simp; done) | rfl
@[simp] theorem State.leaving_rst (p : Port) (a b : Int) : (s.leaving p a b).rst = s.rst := by
  unfold State.leaving; (try dsimp only); repeat' split
  all_goals first | (simp; done) | rfl
@[simp] theorem State.leaving_hamper (p : Port) (a b : Int) : (s.leaving p a b).hamper = s.hamper := by
  unfold State.leaving; (try dsimp only); repeat' split
  all_goals first | (simp; done) | rfl
@[simp] theorem State.leaving_hmp (p : Port) (a b : Int) : (s.leaving p a b).hmp = s.hmp := by
  unfold State.leaving; (try dsimp only); repeat' split
  all_goals first | (simp; done) | rfl
@[simp] theorem State.leaving_stations (p : Port) (a b : Int) : (s.leaving p a b).stations = s.stations := by
  unfold State.leaving; (try dsimp only); repeat' split
  all_goals first | (simp; done) | rfl
@[simp] theorem State.leaving_freeCount (p : Port) (a b : Int) : (s.leaving p a b).freeCount = s.freeCount := by
  unfold State.leaving; (try dsimp only); repeat' split
  all_goals first | (simp; done) | rfl
@[simp] theorem State.entering_pending (p : Port) (a b : Int) : (s.entering p a b).pending = s.pending := by
  unfold State.entering; (try dsimp only); repeat' split
  all_goals first | (simp; done) | rfl
@[simp] theorem State.entering_blobs (p : Port) (a b : Int) : (s.entering p a b).blobs = s.blobs := by
  unfold State.entering; (try dsimp only); repeat' split
  all_goals first | (simp; done) | rfl
@[simp] theorem State.entering_time (p : Port) (a b : Int) : (s.entering p a b).time = s.time := by
  unfold State.entering; (try dsimp only); repeat' split
  all_goals first | (simp; done) | rfl
@[simp] theorem State.entering_merge (p : Port) (a b : Int) : (s.entering p a b).merge = s.merge := by
  unfold State.entering; (try dsimp only); repeat' split
  all_goals first | (simp; done) | rfl
@[simp] theorem State.entering_house (p : Port) (a b : Int) : (s.entering p a b).house = s.house := by
  unfold State.entering; (try dsimp only); repeat' split
  all_goals first | (simp; done) | rfl
@[simp] theorem State.entering_qm (p : Port) (a b : Int) : (s.entering p a b).qm = s.qm := by
  unfold State.entering; (try dsimp only); repeat' split
  all_goals first | (simp; done) | rfl
@[simp] theorem State.entering_pf (p : Port) (a b : Int) : (s.entering p a b).pf = s.pf := by
  unfold State.entering; (try dsimp only); repeat' split
  all_goals first | (simp; done) | rfl
@[simp] theorem State.entering_casc (p : Port) (a b : Int) : (s.entering p a b).casc = s.casc := by
  unfold State.entering; (try dsimp only); repeat' split
  all_goals first | (simp; done) | rfl
@[simp] theorem State.entering_iz (p : Port) (a b : Int) : (s.entering p a b).iz = s.iz := by
  unfold State.entering; (try dsimp only); repeat' split
  all_goals first | (simp; done) | rfl
@[simp] theorem State.entering_power (p : Port) (a b : Int) : (s.entering p a b).power = s.power := by
  unfold State.entering; (try dsimp only); repeat' split
  all_goals first | (simp; done) | rfl
@[simp] theorem State.entering_faults (p : Port) (a b : Int) : (s.entering p a b).faults = s.faults := by
  unfold State.entering; (try dsimp only); repeat' split
  all_goals first | (simp; done) | rfl
@[simp] theorem State.entering_fuses (p : Port) (a b : Int) : (s.entering p a b).fuses = s.fuses := by
  unfold State.entering; (try dsimp only); repeat' split
  all_goals first | (simp; done) | rfl
@[simp] theorem State.entering_rst (p : Port) (a b : Int) : (s.entering p a b).rst = s.rst := by
  unfold State.entering; (try dsimp only); repeat' split
  all_goals first | (simp; done) | rfl
@[simp] theorem State.entering_hamper (p : Port) (a b : Int) : (s.entering p a b).hamper = s.hamper := by
  unfold State.entering; (try dsimp only); repeat' split
  all_goals first | (simp; done) | rfl
@[simp] theorem State.entering_hmp (p : Port) (a b : Int) : (s.entering p a b).hmp = s.hmp := by
  unfold State.entering; (try dsimp only); repeat' split
  all_goals first | (simp; done) | rfl
@[simp] theorem State.entering_stations (p : Port) (a b : Int) : (s.entering p a b).stations = s.stations := by
  unfold State.entering; (try dsimp only); repeat' split
  all_goals first | (simp; done) | rfl
@[simp] theorem State.entering_out (p : Port) (a b : Int) : (s.entering p a b).out = s.out := by
  unfold State.entering; (try dsimp only); repeat' split
  all_goals first | (simp; done) | rfl
@[simp] theorem State.entering_freeCount (p : Port) (a b : Int) : (s.entering p a b).freeCount = s.freeCount := by
  unfold State.entering; (try dsimp only); repeat' split
  all_goals first | (simp; done) | rfl
@[simp] theorem State.toState_pending (p : Port) (n : Int) (c : Nat) : (s.toState p n c).pending = s.pending := by
  unfold State.toState; (try dsimp only); repeat' split
  all_goals first | (simp; done) | rfl
@[simp] theorem State.toState_time (p : Port) (n : Int) (c : Nat) : (s.toState p n c).time = s.time := by
  unfold State.toState; (try dsimp only); repeat' split
  all_goals first | (simp; done) | rfl
@[simp] theorem State.toState_house (p : Port) (n : Int) (c : Nat) : (s.toState p n c).house = s.house := by
  unfold State.toState; (try dsimp only); repeat' split
  all_goals first | (simp; done) | rfl
@[simp] theorem State.toState_casc (p : Port) (n : Int) (c : Nat) : (s.toState p n c).casc = s.casc := by
  unfold State.toState; (try dsimp only); repeat' split
  all_goals first | (simp; done) | rfl
@[simp] theorem State.toState_power (p : Port) (n : Int) (c : Nat) : (s.toState p n c).power = s.power := by
  unfold State.toState; (try dsimp only); repeat' split
  all_goals first | (simp; done) | rfl
@[simp] theorem State.toState_faults (p : Port) (n : Int) (c : Nat) : (s.toState p n c).faults = s.faults := by
  unfold State.toState; (try dsimp only); repeat' split
  all_goals first | (simp; done) | rfl
@[simp] theorem State.toState_fuses (p : Port) (n : Int) (c : Nat) : (s.toState p n c).fuses = s.fuses := by
  unfold State.toState; (try dsimp only); repeat' split
  all_goals first | (simp; done) | rfl
@[simp] theorem State.toState_rst (p : Port) (n : Int) (c : Nat) : (s.toState p n c).rst = s.rst := by
  unfold State.toState; (try dsimp only); repeat' split
  all_goals first | (simp; done) | rfl
@[simp] theorem State.toState_hamper (p : Port) (n : Int) (c : Nat) : (s.toState p n c).hamper = s.hamper := by
  unfold State.toState; (try dsimp only); repeat' split
  all_goals first | (simp; done) | rfl
@[simp] theorem State.toState_hmp (p : Port) (n : Int) (c : Nat) : (s.toState p n c).hmp = s.hmp := by
  unfold State.toState; (try dsimp only); repeat' split
  all_goals first | (simp; done) | rfl
@[simp] theorem State.toState_stations (p : Port) (n : Int) (c : Nat) : (s.toState p n c).stations = s.stations := by
  unfold State.toState; (try dsimp only); repeat' split
  all_goals first | (simp; done) | rfl
@[simp] theorem State.toState_freeCount (p : Port) (n : Int) (c : Nat) : (s.toState p n c).freeCount = s.freeCount := by
  unfold State.toState; (try dsimp only); repeat' split
  all_goals first | (simp; done) | rfl
@[simp] theorem State.freeStation_pending (p : Port) (a r : Nat) : (s.freeStation p a r).pending = s.pending := by
  unfold State.freeStation; (try dsimp only); repeat' split
  all_goals first
    | rfl
    | (simp; done)
    | (refine (foldl_keeps State.pending ?_ _ _).trans ?_
       · intros; (try dsimp only); (repeat' split) <;> simp
       first | rfl | (simp; done))
    | ((try simp); refine (foldl_keeps State.pending ?_ _ _).trans ?_
       · intros; (try dsimp only); (repeat' split) <;> simp
       first
         | rfl
         | (simp; done)
         | ((try simp); refine (foldl_keeps State.pending ?_ _ _).trans ?_
            · intros; (try dsimp only); (repeat' split) <;> simp
            first | rfl | simp))
@[simp] theorem State.freeStation_time (p : Port) (a r : Nat) : (s.freeStation p a r).time = s.time := by
  unfold State.freeStation; (try dsimp only); repeat' split
  all_goals first
    | rfl
    | (simp; done)
    | (refine (foldl_keeps State.time ?_ _ _).trans ?_
       · intros; (try dsimp only); (repeat' split) <;> simp
       first | rfl | (simp; done))
    | ((try simp); refine (foldl_keeps State.time ?_ _ _).trans ?_
       · intros; (try dsimp only); (repeat' split) <;> simp
       first
         | rfl
         | (simp; done)
         | ((try simp); refine (foldl_keeps State.time ?_ _ _).trans ?_
            · intros; (try dsimp only); (repeat' split) <;> simp
            first | rfl | simp))
@[simp] theorem State.freeStation_house (p : Port) (a r : Nat) : (s.freeStation p a r).house = s.house := by
  unfold State.freeStation; (try dsimp only); repeat' split
  all_goals first
    | rfl
    | (simp; done)
    | (refine (foldl_keeps State.house ?_ _ _).trans ?_
       · intros; (try dsimp only); (repeat' split) <;> simp
       first | rfl | (simp; done))
    | ((try simp); refine (foldl_keeps State.house ?_ _ _).trans ?_
       · intros; (try dsimp only); (repeat' split) <;> simp
       first
         | rfl
         | (simp; done)
         | ((try simp); refine (foldl_keeps State.house ?_ _ _).trans ?_
            · intros; (try dsimp only); (repeat' split) <;> simp
            first | rfl | simp))
@[simp] theorem State.freeStation_casc (p : Port) (a r : Nat) : (s.freeStation p a r).casc = s.casc := by
  unfold State.freeStation; (try dsimp only); repeat' split
  all_goals first
    | rfl
    | (simp; done)
    | (refine (foldl_keeps State.casc ?_ _ _).trans ?_
       · intros; (try dsimp only); (repeat' split) <;> simp
       first | rfl | (simp; done))
    | ((try simp); refine (foldl_keeps State.casc ?_ _ _).trans ?_
       · intros; (try dsimp only); (repeat' split) <;> simp
       first
         | rfl
         | (simp; done)
         | ((try simp); refine (foldl_keeps State.casc ?_ _ _).trans ?_
            · intros; (try dsimp only); (repeat' split) <;> simp
            first | rfl | simp))
@[simp] theorem State.freeStation_power (p : Port) (a r : Nat) : (s.freeStation p a r).power = s.power := by
  unfold State.freeStation; (try dsimp only); repeat' split
  all_goals first
    | rfl
    | (simp; done)
    | (refine (foldl_keeps State.power ?_ _ _).trans ?_
       · intros; (try dsimp only); (repeat' split) <;> simp
       first | rfl | (simp; done))
    | ((try simp); refine (foldl_keeps State.power ?_ _ _).trans ?_
       · intros; (try dsimp only); (repeat' split) <;> simp
       first
         | rfl
         | (simp; done)
         | ((try simp); refine (foldl_keeps State.power ?_ _ _).trans ?_
            · intros; (try dsimp only); (repeat' split) <;> simp
            first | rfl | simp))
@[simp] theorem State.freeStation_faults (p : Port) (a r : Nat) : (s.freeStation p a r).faults = s.faults := by
  unfold State.freeStation; (try dsimp only); repeat' split
  all_goals first
    | rfl
    | (simp; done)
    | (refine (foldl_keeps State.faults ?_ _ _).trans ?_
       · intros; (try dsimp only); (repeat' split) <;> simp
       first | rfl | (simp; done))
    | ((try simp); refine (foldl_keeps State.faults ?_ _ _).trans ?_
       · intros; (try dsimp only); (repeat' split) <;> simp
       first
         | rfl
         | (simp; done)
         | ((try simp); refine (foldl_keeps State.faults ?_ _ _).trans ?_
            · intros; (try dsimp only); (repeat' split) <;> simp
            first | rfl | simp))
@[simp] theorem State.freeStation_fuses (p : Port) (a r : Nat) : (s.freeStation p a r).fuses = s.fuses := by
  unfold State.freeStation; (try dsimp only); repeat' split
  all_goals first
    | rfl
    | (simp; done)
    | (refine (foldl_keeps State.fuses ?_ _ _).trans ?_
       · intros; (try dsimp only); (repeat' split) <;> simp
       first | rfl | (simp; done))
    | ((try simp); refine (foldl_keeps State.fuses ?_ _ _).trans ?_
       · intros; (try dsimp only); (repeat' split) <;> simp
       first
         | rfl
         | (simp; done)
         | ((try simp); refine (foldl_keeps State.fuses ?_ _ _).trans ?_
            · intros; (try dsimp only); (repeat' split) <;> simp
            first | rfl | simp))
@[simp] theorem State.freeStation_rst (p : Port) (a r : Nat) : (s.freeStation p a r).rst = s.rst := by
  unfold State.freeStation; (try dsimp only); repeat' split
  all_goals first
    | rfl
    | (simp; done)
    | (refine (foldl_keeps State.rst ?_ _ _).trans ?_
       · intros; (try dsimp only); (repeat' split) <;> simp
       first | rfl | (simp; done))
    | ((try simp); refine (foldl_keeps State.rst ?_ _ _).trans ?_
       · intros; (try dsimp only); (repeat' split) <;> simp
       first
         | rfl
         | (simp; done)
         | ((try simp); refine (foldl_keeps State.rst ?_ _ _).trans ?_
            · intros; (try dsimp only); (repeat' split) <;> simp
            first | rfl | simp))
@[simp] theorem State.freeStation_hamper (p : Port) (a r : Nat) : (s.freeStation p a r).hamper = s.hamper := by
  unfold State.freeStation; (try dsimp only); repeat' split
  all_goals first
    | rfl
    | (simp; done)
    | (refine (foldl_keeps State.hamper ?_ _ _).trans ?_
       · intros; (try dsimp only); (repeat' split) <;> simp
       first | rfl | (simp; done))
    | ((try simp); refine (foldl_keeps State.hamper ?_ _ _).trans ?_
       · intros; (try dsimp only); (repeat' split) <;> simp
       first
         | rfl
         | (simp; done)
         | ((try simp); refine (foldl_keeps State.hamper ?_ _ _).trans ?_
            · intros; (try dsimp only); (repeat' split) <;> simp
            first | rfl | simp))
@[simp] theorem State.freeStation_hmp (p : Port) (a r : Nat) : (s.freeStation p a r).hmp = s.hmp := by
  unfold State.freeStation; (try dsimp only); repeat' split
  all_goals first
    | rfl
    | (simp; done)
    | (refine (foldl_keeps State.hmp ?_ _ _).trans ?_
       · intros; (try dsimp only); (repeat' split) <;> simp
       first | rfl | (simp; done))
    | ((try simp); refine (foldl_keeps State.hmp ?_ _ _).trans ?_
       · intros; (try dsimp only); (repeat' split) <;> simp
       first
         | rfl
         | (simp; done)
         | ((try simp); refine (foldl_keeps State.hmp ?_ _ _).trans ?_
            · intros; (try dsimp only); (repeat' split) <;> simp
            first | rfl | simp))
@[simp] theorem State.freeStation_stations (p : Port) (a r : Nat) : (s.freeStation p a r).stations = s.stations := by
  unfold State.freeStation; (try dsimp only); repeat' split
  all_goals first
    | rfl
    | (simp; done)
    | (refine (foldl_keeps State.stations ?_ _ _).trans ?_
       · intros; (try dsimp only); (repeat' split) <;> simp
       first | rfl | (simp; done))
    | ((try simp); refine (foldl_keeps State.stations ?_ _ _).trans ?_
       · intros; (try dsimp only); (repeat' split) <;> simp
       first
         | rfl
         | (simp; done)
         | ((try simp); refine (foldl_keeps State.stations ?_ _ _).trans ?_
            · intros; (try dsimp only); (repeat' split) <;> simp
            first | rfl | simp))
@[simp] theorem State.freeStation_freeCount (p : Port) (a r : Nat) : (s.freeStation p a r).freeCount = s.freeCount := by
  unfold State.freeStation; (try dsimp only); repeat' split
  all_goals first
    | rfl
    | (simp; done)
    | (refine (foldl_keeps State.freeCount ?_ _ _).trans ?_
       · intros; (try dsimp only); (repeat' split) <;> simp
       first | rfl | (simp; done))
    | ((try simp); refine (foldl_keeps State.freeCount ?_ _ _).trans ?_
       · intros; (try dsimp only); (repeat' split) <;> simp
       first
         | rfl
         | (simp; done)
         | ((try simp); refine (foldl_keeps State.freeCount ?_ _ _).trans ?_
            · intros; (try dsimp only); (repeat' split) <;> simp
            first | rfl | simp))
@[simp] theorem State.freeAll_pending (p : Port) : (s.freeAll p).pending = s.pending := by
  unfold State.freeAll; (try dsimp only); repeat' split
  all_goals first
    | rfl
    | (simp; done)
    | (refine (foldl_keeps State.pending ?_ _ _).trans ?_
       · intros; (try dsimp only); (repeat' split) <;> simp
       first | rfl | (simp; done))
    | ((try simp); refine (foldl_keeps State.pending ?_ _ _).trans ?_
       · intros; (try dsimp only); (repeat' split) <;> simp
       first
         | rfl
         | (simp; done)
         | ((try simp); refine (foldl_keeps State.pending ?_ _ _).trans ?_
            · intros; (try dsimp only); (repeat' split) <;> simp
            first | rfl | simp))
@[simp] theorem State.freeAll_time (p : Port) : (s.freeAll p).time = s.time := by
  unfold State.freeAll; (try dsimp only); repeat' split
  all_goals first
    | rfl
    | (simp; done)
    | (refine (foldl_keeps State.time ?_ _ _).trans ?_
       · intros; (try dsimp only); (repeat' split) <;> simp
       first | rfl | (simp; done))
    | ((try simp); refine (foldl_keeps State.time ?_ _ _).trans ?_
       · intros; (try dsimp only); (repeat' split) <;> simp
       first
         | rfl
         | (simp; done)
         | ((try simp); refine (foldl_keeps State.time ?_ _ _).trans ?_
            · intros; (try dsimp only); (repeat' split) <;> simp
            first | rfl | simp))
@[simp] theorem State.freeAll_house (p : Port) : (s.freeAll p).house = s.house := by
  unfold State.freeAll; (try dsimp only); repeat' split
  all_goals first
    | rfl
    | (simp; done)
    | (refine (foldl_keeps State.house ?_ _ _).trans ?_
       · intros; (try dsimp only); (repeat' split) <;> simp
       first | rfl | (simp; done))
    | ((try simp); refine (foldl_keeps State.house ?_ _ _).trans ?_
       · intros; (try dsimp only); (repeat' split) <;> simp
       first
         | rfl
         | (simp; done)
         | ((try simp); refine (foldl_keeps State.house ?_ _ _).trans ?_
            · intros; (try dsimp only); (repeat' split) <;> simp
            first | rfl | simp))
@[simp] theorem State.freeAll_casc (p : Port) : (s.freeAll p).casc = s.casc := by
  unfold State.freeAll; (try dsimp only); repeat' split
  all_goals first
    | rfl
    | (simp; done)
    | (refine (foldl_keeps State.casc ?_ _ _).trans ?_
       · intros; (try dsimp only); (repeat' split) <;> simp
       first | rfl | (simp; done))
    | ((try simp); refine (foldl_keeps State.casc ?_ _ _).trans ?_
       · intros; (try dsimp only); (repeat' split) <;> simp
       first
         | rfl
         | (simp; done)
         | ((try simp); refine (foldl_keeps State.casc ?_ _ _).trans ?_
            · intros; (try dsimp only); (repeat' split) <;> simp
            first | rfl | simp))
@[simp] theorem State.freeAll_power (p : Port) : (s.freeAll p).power = s.power := by
  unfold State.freeAll; (try dsimp only); repeat' split
  all_goals first
    | rfl
    | (simp; done)
    | (refine (foldl_keeps State.power ?_ _ _).trans ?_
       · intros; (try dsimp only); (repeat' split) <;> simp
       first | rfl | (simp; done))
    | ((try simp); refine (foldl_keeps State.power ?_ _ _).trans ?_
       · intros; (try dsimp only); (repeat' split) <;> simp
       first
         | rfl
         | (simp; done)
         | ((try simp); refine (foldl_keeps State.power ?_ _ _).trans ?_
            · intros; (try dsimp only); (repeat' split) <;> simp
            first | rfl | simp))
@[simp] theorem State.freeAll_faults (p : Port) : (s.freeAll p).faults = s.faults := by
  unfold State.freeAll; (try dsimp only); repeat' split
  all_goals first
    | rfl
    | (simp; done)
    | (refine (foldl_keeps State.faults ?_ _ _).trans ?_
       · intros; (try dsimp only); (repeat' split) <;> simp
       first | rfl | (simp; done))
    | ((try simp); refine (foldl_keeps State.faults ?_ _ _).trans ?_
       · intros; (try dsimp only); (repeat' split) <;> simp
       first
         | rfl
         | (simp; done)
         | ((try simp); refine (foldl_keeps State.faults ?_ _ _).trans ?_
            · intros; (try dsimp only); (repeat' split) <;> simp
            first | rfl | simp))
@[simp] theorem State.freeAll_fuses (p : Port) : (s.freeAll p).fuses = s.fuses := by
  unfold State.freeAll; (try dsimp only); repeat' split
  all_goals first
    | rfl
    | (simp; done)
    | (refine (foldl_keeps State.fuses ?_ _ _).trans ?_
       · intros; (try dsimp only); (repeat' split) <;> simp
       first | rfl | (simp; done))
    | ((try simp); refine (foldl_keeps State.fuses ?_ _ _).trans ?_
       · intros; (try dsimp only); (repeat' split) <;> simp
       first
         | rfl
         | (simp; done)
         | ((try simp); refine (foldl_keeps State.fuses ?_ _ _).trans ?_
            · intros; (try dsimp only); (repeat' split) <;> simp
            first | rfl | simp))
@[simp] theorem State.freeAll_rst (p : Port) : (s.freeAll p).rst = s.rst := by
  unfold State.freeAll; (try dsimp only); repeat' split
  all_goals first
    | rfl
    | (simp; done)
    | (refine (foldl_keeps State.rst ?_ _ _).trans ?_
       · intros; (try dsimp only); (repeat' split) <;> simp
       first | rfl | (simp; done))
    | ((try simp); refine (foldl_keeps State.rst ?_ _ _).trans ?_
       · intros; (try dsimp only); (repeat' split) <;> simp
       first
         | rfl
         | (simp; done)
         | ((try simp); refine (foldl_keeps State.rst ?_ _ _).trans ?_
            · intros; (try dsimp only); (repeat' split) <;> simp
            first | rfl | simp))
@[simp] theorem State.freeAll_hamper (p : Port) : (s.freeAll p).hamper = s.hamper := by
  unfold State.freeAll; (try dsimp only); repeat' split
  all_goals first
    | rfl
    | (simp; done)
    | (refine (foldl_keeps State.hamper ?_ _ _).trans ?_
       · intros; (try dsimp only); (repeat' split) <;> simp
       first | rfl | (simp; done))
    | ((try simp); refine (foldl_keeps State.hamper ?_ _ _).trans ?_
       · intros; (try dsimp only); (repeat' split) <;> simp
       first
         | rfl
         | (simp; done)
         | ((try simp); refine (foldl_keeps State.hamper ?_ _ _).trans ?_
            · intros; (try dsimp only); (repeat' split) <;> simp
            first | rfl | simp))
@[simp] theorem State.freeAll_hmp (p : Port) : (s.freeAll p).hmp = s.hmp := by
  unfold State.freeAll; (try dsimp only); repeat' split
  all_goals first
    | rfl
    | (simp; done)
    | (refine (foldl_keeps State.hmp ?_ _ _).trans ?_
       · intros; (try dsimp only); (repeat' split) <;> simp
       first | rfl | (simp; done))
    | ((try simp); refine (foldl_keeps State.hmp ?_ _ _).trans ?_
       · intros; (try dsimp only); (repeat' split) <;> simp
       first
         | rfl
         | (simp; done)
         | ((try simp); refine (foldl_keeps State.hmp ?_ _ _).trans ?_
            · intros; (try dsimp only); (repeat' split) <;> simp
            first | rfl | simp))
@[simp] theorem State.freeAll_stations (p : Port) : (s.freeAll p).stations = s.stations := by
  unfold State.freeAll; (try dsimp only); repeat' split
  all_goals first
    | rfl
    | (simp; done)
    | (refine (foldl_keeps State.stations ?_ _ _).trans ?_
       · intros; (try dsimp only); (repeat' split) <;> simp
       first | rfl | (simp; done))
    | ((try simp); refine (foldl_keeps State.stations ?_ _ _).trans ?_
       · intros; (try dsimp only); (repeat' split) <;> simp
       first
         | rfl
         | (simp; done)
         | ((try simp); refine (foldl_keeps State.stations ?_ _ _).trans ?_
            · intros; (try dsimp only); (repeat' split) <;> simp
            first | rfl | simp))
@[simp] theorem State.freeAll_freeCount (p : Port) : (s.freeAll p).freeCount = s.freeCount := by
  unfold State.freeAll; (try dsimp only); repeat' split
  all_goals first
    | rfl
    | (simp; done)
    | (refine (foldl_keeps State.freeCount ?_ _ _).trans ?_
       · intros; (try dsimp only); (repeat' split) <;> simp
       first | rfl | (simp; done))
    | ((try simp); refine (foldl_keeps State.freeCount ?_ _ _).trans ?_
       · intros; (try dsimp only); (repeat' split) <;> simp
       first
         | rfl
         | (simp; done)
         | ((try simp); refine (foldl_keeps State.freeCount ?_ _ _).trans ?_
            · intros; (try dsimp only); (repeat' split) <;> simp
            first | rfl | simp))
@[simp] theorem State.fencePort_pending (p : Port) : (s.fencePort p).pending = s.pending := by
  unfold State.fencePort; (try dsimp only); repeat' split
  all_goals first | (simp; done) | rfl
@[simp] theorem State.fencePort_time (p : Port) : (s.fencePort p).time = s.time := by
  unfold State.fencePort; (try dsimp only); repeat' split
  all_goals first | (simp; done) | rfl
@[simp] theorem State.fencePort_house (p : Port) : (s.fencePort p).house = s.house := by
  unfold State.fencePort; (try dsimp only); repeat' split
  all_goals first | (simp; done) | rfl
@[simp] theorem State.fencePort_casc (p : Port) : (s.fencePort p).casc = s.casc := by
  unfold State.fencePort; (try dsimp only); repeat' split
  all_goals first | (simp; done) | rfl
@[simp] theorem State.fencePort_power (p : Port) : (s.fencePort p).power = s.power := by
  unfold State.fencePort; (try dsimp only); repeat' split
  all_goals first | (simp; done) | rfl
@[simp] theorem State.fencePort_faults (p : Port) : (s.fencePort p).faults = s.faults := by
  unfold State.fencePort; (try dsimp only); repeat' split
  all_goals first | (simp; done) | rfl
@[simp] theorem State.fencePort_fuses (p : Port) : (s.fencePort p).fuses = s.fuses := by
  unfold State.fencePort; (try dsimp only); repeat' split
  all_goals first | (simp; done) | rfl
@[simp] theorem State.fencePort_rst (p : Port) : (s.fencePort p).rst = s.rst := by
  unfold State.fencePort; (try dsimp only); repeat' split
  all_goals first | (simp; done) | rfl
@[simp] theorem State.fencePort_hamper (p : Port) : (s.fencePort p).hamper = s.hamper := by
  unfold State.fencePort; (try dsimp only); repeat' split
  all_goals first | (simp; done) | rfl
@[simp] theorem State.fencePort_hmp (p : Port) : (s.fencePort p).hmp = s.hmp := by
  unfold State.fencePort; (try dsimp only); repeat' split
  all_goals first | (simp; done) | rfl
@[simp] theorem State.fencePort_stations (p : Port) : (s.fencePort p).stations = s.stations := by
  unfold State.fencePort; (try dsimp only); repeat' split
  all_goals first | (simp; done) | rfl
@[simp] theorem State.fencePort_freeCount (p : Port) : (s.fencePort p).freeCount = s.freeCount := by
  unfold State.fencePort; (try dsimp only); repeat' split
  all_goals first | (simp; done) | rfl
@[simp] theorem State.park_pending (p : Port) (c : Nat) : (s.park p c).pending = s.pending := by
  unfold State.park; (try dsimp only); repeat' split
  all_goals first | (simp; done) | rfl
@[simp] theorem State.park_time (p : Port) (c : Nat) : (s.park p c).time = s.time := by
  unfold State.park; (try dsimp only); repeat' split
  all_goals first | (simp; done) | rfl
@[simp] theorem State.park_house (p : Port) (c : Nat) : (s.park p c).house = s.house := by
  unfold State.park; (try dsimp only); repeat' split
  all_goals first | (simp; done) | rfl
@[simp] theorem State.park_casc (p : Port) (c : Nat) : (s.park p c).casc = s.casc := by
  unfold State.park; (try dsimp only); repeat' split
  all_goals first | (simp; done) | rfl
@[simp] theorem State.park_power (p : Port) (c : Nat) : (s.park p c).power = s.power := by
  unfold State.park; (try dsimp only); repeat' split
  all_goals first | (simp; done) | rfl
@[simp] theorem State.park_faults (p : Port) (c : Nat) : (s.park p c).faults = s.faults := by
  unfold State.park; (try dsimp only); repeat' split
  all_goals first | (simp; done) | rfl
@[simp] theorem State.park_fuses (p : Port) (c : Nat) : (s.park p c).fuses = s.fuses := by
  unfold State.park; (try dsimp only); repeat' split
  all_goals first | (simp; done) | rfl
@[simp] theorem State.park_rst (p : Port) (c : Nat) : (s.park p c).rst = s.rst := by
  unfold State.park; (try dsimp only); repeat' split
  all_goals first | (simp; done) | rfl
@[simp] theorem State.park_hamper (p : Port) (c : Nat) : (s.park p c).hamper = s.hamper := by
  unfold State.park; (try dsimp only); repeat' split
  all_goals first | (simp; done) | rfl
@[simp] theorem State.park_hmp (p : Port) (c : Nat) : (s.park p c).hmp = s.hmp := by
  unfold State.park; (try dsimp only); repeat' split
  all_goals first | (simp; done) | rfl
@[simp] theorem State.park_stations (p : Port) (c : Nat) : (s.park p c).stations = s.stations := by
  unfold State.park; (try dsimp only); repeat' split
  all_goals first | (simp; done) | rfl
@[simp] theorem State.park_freeCount (p : Port) (c : Nat) : (s.park p c).freeCount = s.freeCount := by
  unfold State.park; (try dsimp only); repeat' split
  all_goals first | (simp; done) | rfl
@[simp] theorem State.settle_pending (p : Port) : (s.settle p).pending = s.pending := by
  unfold State.settle; (try dsimp only); repeat' split
  all_goals first | (simp; done) | rfl
@[simp] theorem State.settle_blobs (p : Port) : (s.settle p).blobs = s.blobs := by
  unfold State.settle; (try dsimp only); repeat' split
  all_goals first | (simp; done) | rfl
@[simp] theorem State.settle_time (p : Port) : (s.settle p).time = s.time := by
  unfold State.settle; (try dsimp only); repeat' split
  all_goals first | (simp; done) | rfl
@[simp] theorem State.settle_timers (p : Port) : (s.settle p).timers = s.timers := by
  unfold State.settle; (try dsimp only); repeat' split
  all_goals first | (simp; done) | rfl
@[simp] theorem State.settle_merge (p : Port) : (s.settle p).merge = s.merge := by
  unfold State.settle; (try dsimp only); repeat' split
  all_goals first | (simp; done) | rfl
@[simp] theorem State.settle_house (p : Port) : (s.settle p).house = s.house := by
  unfold State.settle; (try dsimp only); repeat' split
  all_goals first | (simp; done) | rfl
@[simp] theorem State.settle_pf (p : Port) : (s.settle p).pf = s.pf := by
  unfold State.settle; (try dsimp only); repeat' split
  all_goals first | (simp; done) | rfl
@[simp] theorem State.settle_casc (p : Port) : (s.settle p).casc = s.casc := by
  unfold State.settle; (try dsimp only); repeat' split
  all_goals first | (simp; done) | rfl
@[simp] theorem State.settle_iz (p : Port) : (s.settle p).iz = s.iz := by
  unfold State.settle; (try dsimp only); repeat' split
  all_goals first | (simp; done) | rfl
@[simp] theorem State.settle_power (p : Port) : (s.settle p).power = s.power := by
  unfold State.settle; (try dsimp only); repeat' split
  all_goals first | (simp; done) | rfl
@[simp] theorem State.settle_faults (p : Port) : (s.settle p).faults = s.faults := by
  unfold State.settle; (try dsimp only); repeat' split
  all_goals first | (simp; done) | rfl
@[simp] theorem State.settle_fuses (p : Port) : (s.settle p).fuses = s.fuses := by
  unfold State.settle; (try dsimp only); repeat' split
  all_goals first | (simp; done) | rfl
@[simp] theorem State.settle_rst (p : Port) : (s.settle p).rst = s.rst := by
  unfold State.settle; (try dsimp only); repeat' split
  all_goals first | (simp; done) | rfl
@[simp] theorem State.settle_hamper (p : Port) : (s.settle p).hamper = s.hamper := by
  unfold State.settle; (try dsimp only); repeat' split
  all_goals first | (simp; done) | rfl
@[simp] theorem State.settle_hmp (p : Port) : (s.settle p).hmp = s.hmp := by
  unfold State.settle; (try dsimp only); repeat' split
  all_goals first | (simp; done) | rfl
@[simp] theorem State.settle_stations (p : Port) : (s.settle p).stations = s.stations := by
  unfold State.settle; (try dsimp only); repeat' split
  all_goals first | (simp; done) | rfl
@[simp] theorem State.settle_out (p : Port) : (s.settle p).out = s.out := by
  unfold State.settle; (try dsimp only); repeat' split
  all_goals first | (simp; done) | rfl
@[simp] theorem State.settle_freeCount (p : Port) : (s.settle p).freeCount = s.freeCount := by
  unfold State.settle; (try dsimp only); repeat' split
  all_goals first | (simp; done) | rfl
@[simp] theorem State.ecLeaveCleared_pending (p : Port) : (s.ecLeaveCleared p).pending = s.pending := by
  unfold State.ecLeaveCleared; (try dsimp only); repeat' split
  all_goals first | (simp; done) | rfl
@[simp] theorem State.ecLeaveCleared_blobs (p : Port) : (s.ecLeaveCleared p).blobs = s.blobs := by
  unfold State.ecLeaveCleared; (try dsimp only); repeat' split
  all_goals first | (simp; done) | rfl
@[simp] theorem State.ecLeaveCleared_time (p : Port) : (s.ecLeaveCleared p).time = s.time := by
  unfold State.ecLeaveCleared; (try dsimp only); repeat' split
  all_goals first | (simp; done) | rfl
@[simp] theorem State.ecLeaveCleared_timers (p : Port) : (s.ecLeaveCleared p).timers = s.timers := by
  unfold State.ecLeaveCleared; (try dsimp only); repeat' split
  all_goals first | (simp; done) | rfl
@[simp] theorem State.ecLeaveCleared_merge (p : Port) : (s.ecLeaveCleared p).merge = s.merge := by
  unfold State.ecLeaveCleared; (try dsimp only); repeat' split
  all_goals first | (simp; done) | rfl
@[simp] theorem State.ecLeaveCleared_house (p : Port) : (s.ecLeaveCleared p).house = s.house := by
  unfold State.ecLeaveCleared; (try dsimp only); repeat' split
  all_goals first | (simp; done) | rfl
@[simp] theorem State.ecLeaveCleared_qm (p : Port) : (s.ecLeaveCleared p).qm = s.qm := by
  unfold State.ecLeaveCleared; (try dsimp only); repeat' split
  all_goals first | (simp; done) | rfl
@[simp] theorem State.ecLeaveCleared_pf (p : Port) : (s.ecLeaveCleared p).pf = s.pf := by
  unfold State.ecLeaveCleared; (try dsimp only); repeat' split
  all_goals first | (simp; done) | rfl
@[simp] theorem State.ecLeaveCleared_casc (p : Port) : (s.ecLeaveCleared p).casc = s.casc := by
  unfold State.ecLeaveCleared; (try dsimp only); repeat' split
  all_goals first | (simp; done) | rfl
@[simp] theorem State.ecLeaveCleared_iz (p : Port) : (s.ecLeaveCleared p).iz = s.iz := by
  unfold State.ecLeaveCleared; (try dsimp only); repeat' split
  all_goals first | (simp; done) | rfl
@[simp] theorem State.ecLeaveCleared_power (p : Port) : (s.ecLeaveCleared p).power = s.power := by
  unfold State.ecLeaveCleared; (try dsimp only); repeat' split
  all_goals first | (simp; done) | rfl
@[simp] theorem State.ecLeaveCleared_faults (p : Port) : (s.ecLeaveCleared p).faults = s.faults := by
  unfold State.ecLeaveCleared; (try dsimp only); repeat' split
  all_goals first | (simp; done) | rfl
@[simp] theorem State.ecLeaveCleared_fuses (p : Port) : (s.ecLeaveCleared p).fuses = s.fuses := by
  unfold State.ecLeaveCleared; (try dsimp only); repeat' split
  all_goals first | (simp; done) | rfl
@[simp] theorem State.ecLeaveCleared_rst (p : Port) : (s.ecLeaveCleared p).rst = s.rst := by
  unfold State.ecLeaveCleared; (try dsimp only); repeat' split
  all_goals first | (simp; done) | rfl
@[simp] theorem State.ecLeaveCleared_hamper (p : Port) : (s.ecLeaveCleared p).hamper = s.hamper := by
  unfold State.ecLeaveCleared; (try dsimp only); repeat' split
  all_goals first | (simp; done) | rfl
@[simp] theorem State.ecLeaveCleared_hmp (p : Port) : (s.ecLeaveCleared p).hmp = s.hmp := by
  unfold State.ecLeaveCleared; (try dsimp only); repeat' split
  all_goals first | (simp; done) | rfl
@[simp] theorem State.ecLeaveCleared_stations (p : Port) : (s.ecLeaveCleared p).stations = s.stations := by
  unfold State.ecLeaveCleared; (try dsimp only); repeat' split
  all_goals first | (simp; done) | rfl
@[simp] theorem State.ecLeaveCleared_out (p : Port) : (s.ecLeaveCleared p).out = s.out := by
  unfold State.ecLeaveCleared; (try dsimp only); repeat' split
  all_goals first | (simp; done) | rfl
@[simp] theorem State.ecLeaveCleared_freeCount (p : Port) : (s.ecLeaveCleared p).freeCount = s.freeCount := by
  unfold State.ecLeaveCleared; (try dsimp only); repeat' split
  all_goals first | (simp; done) | rfl
@[simp] theorem State.occupy_pending (p : Port) (d : Stamp) (k : TxKind) : (s.occupy p d k).pending = s.pending := by
  unfold State.occupy; (try dsimp only); repeat' split
  all_goals first | (simp; done) | rfl
@[simp] theorem State.occupy_blobs (p : Port) (d : Stamp) (k : TxKind) : (s.occupy p d k).blobs = s.blobs := by
  unfold State.occupy; (try dsimp only); repeat' split
  all_goals first | (simp; done) | rfl
@[simp] theorem State.occupy_time (p : Port) (d : Stamp) (k : TxKind) : (s.occupy p d k).time = s.time := by
  unfold State.occupy; (try dsimp only); repeat' split
  all_goals first | (simp; done) | rfl
@[simp] theorem State.occupy_timers (p : Port) (d : Stamp) (k : TxKind) : (s.occupy p d k).timers = s.timers := by
  unfold State.occupy; (try dsimp only); repeat' split
  all_goals first | (simp; done) | rfl
@[simp] theorem State.occupy_merge (p : Port) (d : Stamp) (k : TxKind) : (s.occupy p d k).merge = s.merge := by
  unfold State.occupy; (try dsimp only); repeat' split
  all_goals first | (simp; done) | rfl
@[simp] theorem State.occupy_house (p : Port) (d : Stamp) (k : TxKind) : (s.occupy p d k).house = s.house := by
  unfold State.occupy; (try dsimp only); repeat' split
  all_goals first | (simp; done) | rfl
@[simp] theorem State.occupy_pf (p : Port) (d : Stamp) (k : TxKind) : (s.occupy p d k).pf = s.pf := by
  unfold State.occupy; (try dsimp only); repeat' split
  all_goals first | (simp; done) | rfl
@[simp] theorem State.occupy_casc (p : Port) (d : Stamp) (k : TxKind) : (s.occupy p d k).casc = s.casc := by
  unfold State.occupy; (try dsimp only); repeat' split
  all_goals first | (simp; done) | rfl
@[simp] theorem State.occupy_iz (p : Port) (d : Stamp) (k : TxKind) : (s.occupy p d k).iz = s.iz := by
  unfold State.occupy; (try dsimp only); repeat' split
  all_goals first | (simp; done) | rfl
@[simp] theorem State.occupy_power (p : Port) (d : Stamp) (k : TxKind) : (s.occupy p d k).power = s.power := by
  unfold State.occupy; (try dsimp only); repeat' split
  all_goals first | (simp; done) | rfl
@[simp] theorem State.occupy_faults (p : Port) (d : Stamp) (k : TxKind) : (s.occupy p d k).faults = s.faults := by
  unfold State.occupy; (try dsimp only); repeat' split
  all_goals first | (simp; done) | rfl
@[simp] theorem State.occupy_fuses (p : Port) (d : Stamp) (k : TxKind) : (s.occupy p d k).fuses = s.fuses := by
  unfold State.occupy; (try dsimp only); repeat' split
  all_goals first | (simp; done) | rfl
@[simp] theorem State.occupy_rst (p : Port) (d : Stamp) (k : TxKind) : (s.occupy p d k).rst = s.rst := by
  unfold State.occupy; (try dsimp only); repeat' split
  all_goals first | (simp; done) | rfl
@[simp] theorem State.occupy_hamper (p : Port) (d : Stamp) (k : TxKind) : (s.occupy p d k).hamper = s.hamper := by
  unfold State.occupy; (try dsimp only); repeat' split
  all_goals first | (simp; done) | rfl
@[simp] theorem State.occupy_hmp (p : Port) (d : Stamp) (k : TxKind) : (s.occupy p d k).hmp = s.hmp := by
  unfold State.occupy; (try dsimp only); repeat' split
  all_goals first | (simp; done) | rfl
@[simp] theorem State.occupy_stations (p : Port) (d : Stamp) (k : TxKind) : (s.occupy p d k).stations = s.stations := by
  unfold State.occupy; (try dsimp only); repeat' split
  all_goals first | (simp; done) | rfl
@[simp] theorem State.occupy_out (p : Port) (d : Stamp) (k : TxKind) : (s.occupy p d k).out = s.out := by
  unfold State.occupy; (try dsimp only); repeat' split
  all_goals first | (simp; done) | rfl
@[simp] theorem State.occupy_freeCount (p : Port) (d : Stamp) (k : TxKind) : (s.occupy p d k).freeCount = s.freeCount := by
  unfold State.occupy; (try dsimp only); repeat' split
  all_goals first | (simp; done) | rfl
@[simp] theorem State.transmit_pending (p : Port) (d : Stamp) (k : TxKind) (o : Out) (l : List Nat) (b : Bytes) :
    (s.transmit p d k o l b).pending = s.pending := by
  simp [State.transmit]
@[simp] theorem State.transmit_blobs (p : Port) (d : Stamp) (k : TxKind) (o : Out) (l : List Nat) (b : Bytes) :
    (s.transmit p d k o l b).blobs = s.blobs := by
  simp [State.transmit]
@[simp] theorem State.transmit_time (p : Port) (d : Stamp) (k : TxKind) (o : Out) (l : List Nat) (b : Bytes) :
    (s.transmit p d k o l b).time = s.time := by
  simp [State.transmit]
@[simp] theorem State.transmit_timers (p : Port) (d : Stamp) (k : TxKind) (o : Out) (l : List Nat) (b : Bytes) :
    (s.transmit p d k o l b).timers = s.timers := by
  simp [State.transmit]
@[simp] theorem State.transmit_merge (p : Port) (d : Stamp) (k : TxKind) (o : Out) (l : List Nat) (b : Bytes) :
    (s.transmit p d k o l b).merge = s.merge := by
  simp [State.transmit]
@[simp] theorem State.transmit_house (p : Port) (d : Stamp) (k : TxKind) (o : Out) (l : List Nat) (b : Bytes) :
    (s.transmit p d k o l b).house = s.house := by
  simp [State.transmit]
@[simp] theorem State.transmit_pf (p : Port) (d : Stamp) (k : TxKind) (o : Out) (l : List Nat) (b : Bytes) :
    (s.transmit p d k o l b).pf = s.pf := by
  simp [State.transmit]
@[simp] theorem State.transmit_casc (p : Port) (d : Stamp) (k : TxKind) (o : Out) (l : List Nat) (b : Bytes) :
    (s.transmit p d k o l b).casc = s.casc := by
  simp [State.transmit]
@[simp] theorem State.transmit_iz (p : Port) (d : Stamp) (k : TxKind) (o : Out) (l : List Nat) (b : Bytes) :
    (s.transmit p d k o l b).iz = s.iz := by
  simp [State.transmit]
@[simp] theorem State.transmit_power (p : Port) (d : Stamp) (k : TxKind) (o : Out) (l : List Nat) (b : Bytes) :
    (s.transmit p d k o l b).power = s.power := by
  simp [State.transmit]
@[simp] theorem State.transmit_faults (p : Port) (d : Stamp) (k : TxKind) (o : Out) (l : List Nat) (b : Bytes) :
    (s.transmit p d k o l b).faults = s.faults := by
  simp [State.transmit]
@[simp] theorem State.transmit_fuses (p : Port) (d : Stamp) (k : TxKind) (o : Out) (l : List Nat) (b : Bytes) :
    (s.transmit p d k o l b).fuses = s.fuses := by
  simp [State.transmit]
@[simp] theorem State.transmit_rst (p : Port) (d : Stamp) (k : TxKind) (o : Out) (l : List Nat) (b : Bytes) :
    (s.transmit p d k o l b).rst = s.rst := by
  simp [State.transmit]
@[simp] theorem State.transmit_hamper (p : Port) (d : Stamp) (k : TxKind) (o : Out) (l : List Nat) (b : Bytes) :
    (s.transmit p d k o l b).hamper = s.hamper := by
  simp [State.transmit]
@[simp] theorem State.transmit_hmp (p : Port) (d : Stamp) (k : TxKind) (o : Out) (l : List Nat) (b : Bytes) :
    (s.transmit p d k o l b).hmp = s.hmp := by
  simp [State.transmit]
@[simp] theorem State.transmit_stations (p : Port) (d : Stamp) (k : TxKind) (o : Out) (l : List Nat) (b : Bytes) :
    (s.transmit p d k o l b).stations = s.stations := by
  simp [State.transmit]
@[simp] theorem State.transmit_freeCount (p : Port) (d : Stamp) (k : TxKind) (o : Out) (l : List Nat) (b : Bytes) :
    (s.transmit p d k o l b).freeCount = s.freeCount := by
  simp [State.transmit]
/-- What a port sends goes out, behind everything that has gone out. -/
@[simp] theorem State.transmit_out (p : Port) (d : Stamp) (k : TxKind) (o : Out) (l : List Nat) (b : Bytes) :
    (s.transmit p d k o l b).out = o :: s.out := by
  simp [State.transmit, State.emit]
@[simp] theorem State.sendSeeded_pending (p : Port) (n : Nat) (h : Header) (b : Bytes) : (s.sendSeeded p n h b).pending = s.pending := by
  simp [State.sendSeeded]
@[simp] theorem State.sendSeeded_blobs (p : Port) (n : Nat) (h : Header) (b : Bytes) : (s.sendSeeded p n h b).blobs = s.blobs := by
  simp [State.sendSeeded]
@[simp] theorem State.sendSeeded_time (p : Port) (n : Nat) (h : Header) (b : Bytes) : (s.sendSeeded p n h b).time = s.time := by
  simp [State.sendSeeded]
@[simp] theorem State.sendSeeded_timers (p : Port) (n : Nat) (h : Header) (b : Bytes) : (s.sendSeeded p n h b).timers = s.timers := by
  simp [State.sendSeeded]
@[simp] theorem State.sendSeeded_merge (p : Port) (n : Nat) (h : Header) (b : Bytes) : (s.sendSeeded p n h b).merge = s.merge := by
  simp [State.sendSeeded]
@[simp] theorem State.sendSeeded_house (p : Port) (n : Nat) (h : Header) (b : Bytes) : (s.sendSeeded p n h b).house = s.house := by
  simp [State.sendSeeded]
@[simp] theorem State.sendSeeded_pf (p : Port) (n : Nat) (h : Header) (b : Bytes) : (s.sendSeeded p n h b).pf = s.pf := by
  simp [State.sendSeeded]
@[simp] theorem State.sendSeeded_casc (p : Port) (n : Nat) (h : Header) (b : Bytes) : (s.sendSeeded p n h b).casc = s.casc := by
  simp [State.sendSeeded]
@[simp] theorem State.sendSeeded_iz (p : Port) (n : Nat) (h : Header) (b : Bytes) : (s.sendSeeded p n h b).iz = s.iz := by
  simp [State.sendSeeded]
@[simp] theorem State.sendSeeded_power (p : Port) (n : Nat) (h : Header) (b : Bytes) : (s.sendSeeded p n h b).power = s.power := by
  simp [State.sendSeeded]
@[simp] theorem State.sendSeeded_faults (p : Port) (n : Nat) (h : Header) (b : Bytes) : (s.sendSeeded p n h b).faults = s.faults := by
  simp [State.sendSeeded]
@[simp] theorem State.sendSeeded_fuses (p : Port) (n : Nat) (h : Header) (b : Bytes) : (s.sendSeeded p n h b).fuses = s.fuses := by
  simp [State.sendSeeded]
@[simp] theorem State.sendSeeded_rst (p : Port) (n : Nat) (h : Header) (b : Bytes) : (s.sendSeeded p n h b).rst = s.rst := by
  simp [State.sendSeeded]
@[simp] theorem State.sendSeeded_hamper (p : Port) (n : Nat) (h : Header) (b : Bytes) : (s.sendSeeded p n h b).hamper = s.hamper := by
  simp [State.sendSeeded]
@[simp] theorem State.sendSeeded_hmp (p : Port) (n : Nat) (h : Header) (b : Bytes) : (s.sendSeeded p n h b).hmp = s.hmp := by
  simp [State.sendSeeded]
@[simp] theorem State.sendSeeded_stations (p : Port) (n : Nat) (h : Header) (b : Bytes) : (s.sendSeeded p n h b).stations = s.stations := by
  simp [State.sendSeeded]
@[simp] theorem State.sendSeeded_freeCount (p : Port) (n : Nat) (h : Header) (b : Bytes) : (s.sendSeeded p n h b).freeCount = s.freeCount := by
  simp [State.sendSeeded]
@[simp] theorem State.sendFrame_pending (p : Port) (h : Header) (b : Bytes) : (s.sendFrame p h b).pending = s.pending := by
  simp [State.sendFrame, State.seed]
@[simp] theorem State.sendFrame_blobs (p : Port) (h : Header) (b : Bytes) : (s.sendFrame p h b).blobs = s.blobs := by
  simp [State.sendFrame, State.seed]
@[simp] theorem State.sendFrame_time (p : Port) (h : Header) (b : Bytes) : (s.sendFrame p h b).time = s.time := by
  simp [State.sendFrame, State.seed]
@[simp] theorem State.sendFrame_timers (p : Port) (h : Header) (b : Bytes) : (s.sendFrame p h b).timers = s.timers := by
  simp [State.sendFrame, State.seed]
@[simp] theorem State.sendFrame_merge (p : Port) (h : Header) (b : Bytes) : (s.sendFrame p h b).merge = s.merge := by
  simp [State.sendFrame, State.seed]
@[simp] theorem State.sendFrame_house (p : Port) (h : Header) (b : Bytes) : (s.sendFrame p h b).house = s.house := by
  simp [State.sendFrame, State.seed]
@[simp] theorem State.sendFrame_pf (p : Port) (h : Header) (b : Bytes) : (s.sendFrame p h b).pf = s.pf := by
  simp [State.sendFrame, State.seed]
@[simp] theorem State.sendFrame_casc (p : Port) (h : Header) (b : Bytes) : (s.sendFrame p h b).casc = s.casc := by
  simp [State.sendFrame, State.seed]
@[simp] theorem State.sendFrame_iz (p : Port) (h : Header) (b : Bytes) : (s.sendFrame p h b).iz = s.iz := by
  simp [State.sendFrame, State.seed]
@[simp] theorem State.sendFrame_power (p : Port) (h : Header) (b : Bytes) : (s.sendFrame p h b).power = s.power := by
  simp [State.sendFrame, State.seed]
@[simp] theorem State.sendFrame_faults (p : Port) (h : Header) (b : Bytes) : (s.sendFrame p h b).faults = s.faults := by
  simp [State.sendFrame, State.seed]
@[simp] theorem State.sendFrame_fuses (p : Port) (h : Header) (b : Bytes) : (s.sendFrame p h b).fuses = s.fuses := by
  simp [State.sendFrame, State.seed]
@[simp] theorem State.sendFrame_rst (p : Port) (h : Header) (b : Bytes) : (s.sendFrame p h b).rst = s.rst := by
  simp [State.sendFrame, State.seed]
@[simp] theorem State.sendFrame_hamper (p : Port) (h : Header) (b : Bytes) : (s.sendFrame p h b).hamper = s.hamper := by
  simp [State.sendFrame, State.seed]
@[simp] theorem State.sendFrame_hmp (p : Port) (h : Header) (b : Bytes) : (s.sendFrame p h b).hmp = s.hmp := by
  simp [State.sendFrame, State.seed]
@[simp] theorem State.sendFrame_stations (p : Port) (h : Header) (b : Bytes) : (s.sendFrame p h b).stations = s.stations := by
  simp [State.sendFrame, State.seed]

/-- A counter of a port's frame and echo counters goes up by n in SERVICE and QUIET (Tables 3.15, 4.7). -/
theorem State.rd_cntLine_self (p : Port) (o : Obj) (n : Int) (h : s.portState p = stService ∨ s.portState p = stQuiet) :
    (s.cntLine p o n).rd o p = (s.rd o p + n) % 18446744073709551616 := by
  unfold State.cntLine; rw [if_pos h]; simp

theorem State.rd_cntLine_other {o q : Obj} {p : Port} {i j : Nat} (n : Int) (h : q.key i j ≠ o.key p 0) :
    (s.cntLine p o n).rd q i j = s.rd q i j := by
  unfold State.cntLine; split
  · exact s.rd_inc_other n h
  · rfl

/-- A counter of a port's sounding counters goes up by n in DISCOVER, SERVICE and QUIET (Table 6.7). -/
theorem State.rd_cntSound_self (p : Port) (o : Obj) (n : Int)
    (h : s.portState p = stDiscover ∨ s.portState p = stService ∨ s.portState p = stQuiet) :
    (s.cntSound p o n).rd o p = (s.rd o p + n) % 18446744073709551616 := by
  unfold State.cntSound; rw [if_pos h]; simp

theorem State.rd_cntSound_other {o q : Obj} {p : Port} {i j : Nat} (n : Int) (h : q.key i j ≠ o.key p 0) :
    (s.cntSound p o n).rd q i j = s.rd q i j := by
  unfold State.cntSound; split
  · exact s.rd_inc_other n h
  · rfl



/-! ## The state of a port (R206, R207) -/

/-- A fold whose every step over the list keeps g keeps g. -/
theorem foldl_keeps_mem {α β : Type} (g : State → α) {f : State → β → State} (l : List β)
    (h : ∀ s, ∀ x ∈ l, g (f s x) = g s) (s : State) : g (l.foldl f s) = g s := by
  induction l generalizing s with
  | nil => rfl
  | cons x l ih =>
    rw [List.foldl_cons, ih (fun s y hy => h s y (List.mem_cons_of_mem _ hy)), h s x List.mem_cons_self]

theorem mem_registered {p : Port} {a : Nat} (h : a ∈ s.registered p) : a < 255 ∧ 1 ≤ a := by
  have h' := List.mem_of_mem_filter h
  rw [List.mem_iff_getElem] at h'
  obtain ⟨i, hi, rfl⟩ := h'
  simp at hi ⊢
  omega

/-- The keys of a port's state and of another object differ. -/
theorem portState_wr_other {o : Obj} {p : Port} {i e : Nat} (v : Int)
    (h : Reg.LP_STATE_state.key p 0 ≠ o.key i e) : (s.wr o i e v).portState p = s.portState p :=
  s.rd_wr_other v h

theorem State.portState_congr {s t : State} (h : t.regs = s.regs) (p : Port) : t.portState p = s.portState p :=
  State.rd_congr h _ _ _

@[simp] theorem State.portState_disarm (p : Port) (t : Timer) : (s.disarm t).portState p = s.portState p := (rfl)
@[simp] theorem State.portState_arm (p : Port) (t : Timer) (d : Stamp) : (s.arm t d).portState p = s.portState p := (rfl)
@[simp] theorem State.portState_setPort (p q : Port) (f : PortState → PortState) : (s.setPort q f).portState p = s.portState p := (rfl)
@[simp] theorem State.portState_setCal (p q : Port) (f : CalState → CalState) : (s.setCal q f).portState p = s.portState p := (rfl)
@[simp] theorem State.portState_setDc (p q : Port) (f : DcState → DcState) : (s.setDc q f).portState p = s.portState p := (rfl)
@[simp] theorem State.portState_keep (t : State) (p : Port) : (t.keep s).portState p = t.portState p := (rfl)

@[simp] theorem State.portState_answerProxy (p q : Port) (x : Proxy) (n : Nat) (b : Bytes) :
    (s.answerProxy q x n b).portState p = s.portState p := by
  refine State.rd_respond _ _ ?_
  have := p.isLt
  cases x.side <;> simp [Obj.key, Reg.LP_STATE_state, Reg.PF_PORT_CREDIT_STALLS, Side.n] <;> omega

@[simp] theorem State.portState_failProxies (p q : Port) (f : Nat → Bool) :
    (s.failProxies q f).portState p = s.portState p := by
  unfold State.failProxies; dsimp only
  rw [foldl_keeps (fun s => s.portState p) (fun s x => by simp), foldl_keeps (fun s => s.portState p)]
  · rfl
  · intro s x; simp only [State.portState_answerProxy]; rfl

@[simp] theorem State.portState_flushPort (p q : Port) : (s.flushPort q).portState p = s.portState p := by
  unfold State.flushPort
  refine foldl_keeps_mem (fun s => s.portState p) _ ?_ s
  intro s i hi
  have hp := p.isLt
  have hq := q.isLt
  have hi := List.mem_range.mp hi
  split
  · rfl
  · unfold State.flushQueue; dsimp only
    have k1 : Reg.LP_STATE_state.key p 0 ≠ Reg.QUEUE_FLUSHED.key 0 (q.val * 128 + i) := by
      simp [Obj.key, Reg.LP_STATE_state, Reg.QUEUE_FLUSHED]; omega
    have k2 : Reg.LP_STATE_state.key p 0 ≠ Reg.QUEUE_deficit.key 0 (q.val * 128 + i) := by
      simp [Obj.key, Reg.LP_STATE_state, Reg.QUEUE_deficit]; omega
    refine (State.rd_inc_other _ _ k1).trans ?_
    refine (State.portState_congr (State.freeBuffers_regs _ _) p).trans ?_
    unfold State.setQueue; dsimp only
    split
    · refine (State.rd_wr_other _ _ k2).trans ?_
      refine (State.portState_congr (State.setQm_regs _ _) p).trans ?_
      exact foldl_keeps (fun s => s.portState p) (fun s f => State.portState_congr (by simp) p) _ s
    · refine (State.portState_congr (State.setQm_regs _ _) p).trans ?_
      exact foldl_keeps (fun s => s.portState p) (fun s f => State.portState_congr (by simp) p) _ s

@[simp] theorem State.portState_freeEngine (p q : Port) : (s.freeEngine q).portState p = s.portState p := by
  have hp := p.isLt
  have hq := q.isLt
  unfold State.freeEngine
  split
  · rfl
  · refine (State.rd_wr_other _ _ ?_).trans rfl
    simp [Obj.key, Reg.LP_STATE_state, Reg.LR_STATUS_engine]; omega

@[simp] theorem State.portState_leaveQuiet (p q : Port) : (s.leaveQuiet q).portState p = s.portState p := by
  have hp := p.isLt
  have hq := q.isLt
  unfold State.leaveQuiet; dsimp only
  refine (foldl_keeps_mem (fun s => s.portState p) _ ?_ _).trans ?_
  · intro s a ha
    have ha := (mem_registered _ ha).1
    refine (State.portState_congr (State.setEq_regs _ _ _ _) p).trans ?_
    split
    · refine (State.rd_wr_other _ _ ?_).trans rfl
      simp [Obj.key, Reg.LP_STATE_state, Reg.LP_EQ_state]; omega
    · rfl
  · refine (State.portState_congr (State.setEc_regs _ _ _) p).trans ?_
    split
    · refine (State.rd_wr_other _ _ ?_).trans rfl
      simp [Obj.key, Reg.LP_STATE_state, Reg.LP_EC_state]; omega
    · rfl

@[simp] theorem State.portState_leaving (p q : Port) (old new : Int) : (s.leaving q old new).portState p = s.portState p := by
  unfold State.leaving; dsimp only
  repeat' split
  all_goals simp

@[simp] theorem State.portState_entering (p q : Port) (old new : Int) : (s.entering q old new).portState p = s.portState p := by
  have hp := p.isLt
  have hq := q.isLt
  unfold State.entering; dsimp only
  repeat' split
  all_goals first | rfl | skip
  all_goals
    refine (State.portState_congr (State.setCal_regs _ _ _) p).trans ?_
    refine (State.rd_wr_other _ _ (?_ : _ ≠ Reg.LP_CAL_postponements.key q 0)).trans ?_
    · simp [Obj.key, Reg.LP_STATE_state, Reg.LP_CAL_postponements]; omega
    refine (State.rd_wr_other _ _ (?_ : _ ≠ Reg.LP_CAL_phase.key q 0)).trans ?_
    · simp [Obj.key, Reg.LP_STATE_state, Reg.LP_CAL_phase]; omega
    exact State.rd_wr_other _ _ (by simp [Obj.key, Reg.LP_STATE_state, Reg.LP_CAL_CTL_full]; omega)

/-- A port changes state (R207): it is in the new state. -/
@[simp] theorem State.portState_toState (p : Port) (new : Int) (cause : Nat) : (s.toState p new cause).portState p = new := by
  unfold State.toState; dsimp only
  rw [State.portState_entering, State.portState_leaving]
  refine (State.portState_congr (State.issue_regs _ _ _ _) p).trans ?_
  refine (State.rd_wr_other _ _ ?_).trans (State.rd_wr_self _ _ _ _ _)
  simp [Obj.key, Reg.LP_STATE_state, Reg.LP_STATE_stamp]

/-- No other port changes state with it. -/
theorem State.portState_toState_other {p q : Port} (h : q ≠ p) (new : Int) (cause : Nat) :
    (s.toState p new cause).portState q = s.portState q := by
  have hp := p.isLt
  have hq := q.isLt
  have h' : q.val ≠ p.val := fun e => h (Fin.ext e)
  unfold State.toState; dsimp only
  rw [State.portState_entering, State.portState_leaving]
  refine (State.portState_congr (State.issue_regs _ _ _ _) q).trans ?_
  refine (State.rd_wr_other _ _ ?_).trans (State.rd_wr_other _ _ ?_)
  · simp [Obj.key, Reg.LP_STATE_state, Reg.LP_STATE_stamp]; omega
  · simp [Obj.key, Reg.LP_STATE_state]; omega

/-- Its PORT_STATE record is issued, stamped then (R591). -/
theorem State.toState_merge (p : Port) (new : Int) (cause : Nat) :
    (s.toState p new cause).merge = (s.issue (srcLine p) 0x0501
      (be 1 p.val ++ be 1 (s.portState p).toNat ++ be 1 new.toNat ++ be 1 cause)).merge := by
  unfold State.toState; dsimp only
  simp [State.issue, State.issueAt]

end Sys2Proof.Machine
end

