-- ==== Sys2Proof/Machine/Board.lean ====
section
/-! DEFINITION. What the spec gives of the package and of the board round it: the ball grid, the rails, ratings, levels and
loads at the balls, power and thermal figures (R555 to R559, R563, R565, R571 to R575), and the figures that bind receivers,
transmitters and measurements with the conditions they hold under (R100, R149, R305, R312, R589). -/

namespace Sys2Proof.Machine

/-! ## The ball grid (R555 to R558, R575) -/

/-- The letters of the rows A to Y, in order (R555). -/
def rowLetters : List Char := ['A', 'B', 'C', 'D', 'E', 'F', 'G', 'H', 'J', 'K', 'L', 'M', 'N', 'P', 'T', 'U', 'V', 'W', 'Y']

/-- The name of row k, 1 to 45 (R555). -/
def rowName (k : Nat) : List Char :=
  let letter (i : Nat) : Char := rowLetters.getD (i - 1) 'A'
  if k ≤ 19 then [letter k] else if k ≤ 38 then ['A', letter (k - 19)] else ['B', letter (k - 38)]

/-- The control balls of Table 15.3. -/
inductive ControlBall where
  | refclkP
  | refclkN
  | refres
  | refresRtn
  | xlfIn
  | xlfOut
  | porstN
  | wakeN
  | tsync
  | irqN
  | role (i : Nat)
  | devnum (i : Nat)
  | tck
  | tms
  | tdi
  | tdo
  | trstN
  deriving DecidableEq, Repr

/-- The hamper balls of Table 15.4: of an RTD channel IP, IN, UP and UN are 0 to 3. -/
inductive HamperBall where
  | rtd (channel wire : Nat)
  | href
  | flow (i : Nat)
  | tamperN
  | ltx
  | lrx
  | xin
  | xout
  deriving DecidableEq, Repr

/-- The function of a ball (Table 15.1). -/
inductive BallFunction where
  | lpA (port : Nat)
  | lpB (port : Nat)
  | pg (port : Nat)
  | rail (r : Rail)
  | vhmp
  | vss
  | vssa
  | vssh
  | nc
  | porfani (side : Side) (tx : Bool) (lane : Nat) (negative : Bool)
  | control (c : ControlBall)
  | hamper (h : HamperBall)
  deriving DecidableEq, Repr

/-- The line-port, driver and front-end supply balls: columns 7 to 37, odd. -/
def lineBall (row i : Nat) : Option BallFunction :=
  if row = 1 then some (.lpA i)
  else if row = 2 then some (.lpB i)
  else if row = 3 then some (.pg i)
  else if row = 45 then some (.lpA (16 + i))
  else if row = 44 then some (.lpB (16 + i))
  else if row = 43 then some (.pg (16 + i))
  else if row = 4 ∨ row = 42 then some (.rail .vld)
  else if row = 5 ∨ row = 41 then some (.rail .vafe)
  else none

/-- The Porfani balls (Table 15.2). -/
def porfaniBall (row col : Nat) : Option BallFunction :=
  let lane : Option (Nat × Bool) := match row with
    | 10 => some (0, false) | 11 => some (0, true) | 13 => some (1, false) | 14 => some (1, true)
    | 16 => some (2, false) | 17 => some (2, true) | 19 => some (3, false) | 20 => some (3, true)
    | _ => none
  lane.bind fun (k, n) => match col with
    | 1 => some (.porfani .up true k n)
    | 3 => some (.porfani .up false k n)
    | 45 => some (.porfani .down true k n)
    | 43 => some (.porfani .down false k n)
    | _ => none

/-- Column 1 of Table 15.3, rows AG to AW; none is VSS. -/
def controlLeft : List (Option ControlBall) :=
  [some .refclkP, some .refclkN, none, some .xlfIn, some .xlfOut, some .tsync, some (.role 0), some (.devnum 0), some (.devnum 2),
   some .tck, some .tdi, some .trstN]

/-- Column 3 of Table 15.3. -/
def controlRight : List (Option ControlBall) :=
  [some .refres, some .refresRtn, none, some .porstN, some .wakeN, some .irqN, some (.role 1), some (.devnum 1), some (.devnum 3),
   some .tms, some .tdo, none]

/-- Column 43 of Table 15.4. -/
def hamperInner : List HamperBall :=
  [.rtd 3 0, .rtd 3 1, .rtd 3 2, .rtd 3 3, .href, .flow 0, .flow 1, .tamperN, .ltx, .lrx, .xin, .xout]

/-- A control ball of rows AG to AW. -/
def controlBall (i col : Nat) : BallFunction :=
  let signal (l : List (Option ControlBall)) : BallFunction := match l.getD i none with
    | some c => .control c
    | none => .vss
  if col = 1 then signal controlLeft else if col = 2 then .rail .vio else if col = 3 then signal controlRight else .vss

/-- A hamper ball of rows AG to AW. -/
def hamperBall (i col : Nat) : BallFunction :=
  if col = 45 then .hamper (.rtd (i / 4) (i % 4))
  else if col = 43 then .hamper (hamperInner.getD i .href)
  else if i = 0 ∨ i = 3 ∨ i = 7 ∨ i = 10 then .vhmp
  else .vssh

/-- The function of the ball at a row and a column (R556, Tables 15.1 to 15.4). -/
def ballFunction (row col : Nat) : BallFunction :=
  let ground : BallFunction := if row ≤ 6 ∨ 40 ≤ row then .vssa else .vss
  let wide := decide (7 ≤ col ∧ col ≤ 38)
  if 25 ≤ row ∧ row ≤ 38 ∧ (col = 41 ∨ col = 42 ∨ ((row = 25 ∨ row = 38) ∧ 43 ≤ col)) then .nc
  else if 26 ≤ row ∧ row ≤ 37 ∧ col ≤ 4 then controlBall (row - 26) col
  else if 26 ≤ row ∧ row ≤ 37 ∧ 43 ≤ col then hamperBall (row - 26) col
  else if (row = 7 ∨ row = 8 ∨ row = 39) ∧ wide then .rail .vddr
  else if 9 ≤ row ∧ row ≤ 38 ∧ wide then (if (row + col) % 2 = 0 then .rail .vcore else .vss)
  else if 7 ≤ col ∧ col ≤ 37 ∧ col % 2 = 1 ∧ (lineBall row ((col - 7) / 2)).isSome then (lineBall row ((col - 7) / 2)).getD ground
  else (porfaniBall row col).getD ground

/-- How many balls of the grid have a function. -/
def ballCount (f : BallFunction → Bool) : Nat :=
  ((List.range 45).map fun r => ((List.range 45).filter fun c => f (ballFunction (r + 1) (c + 1))).length).sum

/-- A ball lies in the boundary-scan chain (R575). -/
def BallFunction.inChain : BallFunction → Bool
  | .control c => !(c == .refres || c == .refresRtn || c == .xlfIn || c == .xlfOut)
  | .porfani _ _ _ _ => true
  | _ => false

/-- An NC ball, VSSH and VSS are no one net inside the package (R557, R558): the nets a function joins. -/
def BallFunction.net : BallFunction → Option Nat
  | .vss => some 0
  | .vssa => some 1
  | .vssh => some 2
  | .vhmp => some 3
  | .rail .vcore => some 4
  | .rail .vddr => some 5
  | .rail .vafe => some 6
  | .rail .vio => some 7
  | .rail .vld => some 8
  | _ => none

/-- The DC voltage between VSSH and VSS within which the hamper's lane works, V (R558). -/
def laneIsolation : Nat := 50

/-! ## Supplies (R559, R563, R565, Table 15.6) -/

/-- A rail of the board (Table 15.5): nominal voltage in mV, largest current in mA. -/
structure RailSupply where
  nominal : Nat
  current : Nat
  deriving DecidableEq, Repr

/-- Table 15.5. -/
def railSupply : Rail → RailSupply
  | .vcore => ⟨900, 12000⟩
  | .vddr => ⟨1100, 1500⟩
  | .vafe => ⟨1800, 2500⟩
  | .vio => ⟨1800, 300⟩
  | .vld => ⟨12000, 900⟩

/-- VHMP: nominal and operating range in mV, largest current in mA (Table 15.5). -/
def hamperSupply : RailSupply := ⟨1800, 15⟩
def hamperRange : Nat × Nat := (1710, 1890)

/-- The stage of the order in which the board applies the rails (R563); rails of one stage may come in either order. -/
def railStage : Rail → Nat
  | .vio => 0
  | .vcore => 1
  | .vddr | .vafe => 2
  | .vld => 3

/-- A rail may begin to rise: every rail of an earlier stage lies within its range (R563). -/
def mayRise (inRange : Rail → Bool) (r : Rail) : Bool :=
  ([Rail.vio, .vcore, .vddr, .vafe, .vld].filter fun x => decide (railStage x < railStage r)).all inRange

/-- A ramp lasts long enough and not too long, µs (R563). -/
def rampOk (micros : Nat) : Bool := decide (100 ≤ micros ∧ micros ≤ 20000)

/-- WAKE_N may fall in OFF: the rails that the board had removed have lain within their ranges for 1 ms (R565). -/
def mayWakeFromOff (inRangeFor : Rail → Stamp) : Bool :=
  [Rail.vcore, .vddr, .vafe, .vld].all fun r => decide (1000000 ≤ inRangeFor r)

/-- The currents of Table 15.6 in µA: VCORE, VDDR, VAFE, VIO, VLD. -/
def typicalRun : List Nat := [8000000, 900000, 1700000, 100000, 210000]
def maximumRun : List Nat := [12000000, 1500000, 2500000, 100000, 900000]
def typicalSleep : List Nat := [2100000, 50000, 600000, 40000, 2000]
def typicalDeep : List Nat := [300, 1000, 50, 620, 10]

/-- The power of a list of currents at the nominal rails, µW. -/
def nominalPower (currents : List Nat) : Nat :=
  ((currents.zip [Rail.vcore, .vddr, .vafe, .vio, .vld]).map fun x => x.1 * (railSupply x.2).nominal).sum / 1000

/-! ## Ratings, levels and loads (R571 to R573, Tables 15.9 to 15.12) -/

/-- The balls between which a line-port rating holds. -/
inductive PortPair where
  | wireToPg
  | pgToGround
  | wireToWire
  deriving DecidableEq, Repr

/-- Operating and absolute-maximum voltage of a pair, mV either way (Table 15.9). -/
def portRating : PortPair → Nat × Nat
  | .wireToPg | .wireToWire => (14500, 16000)
  | .pgToGround => (5000, 8000)

/-- A voltage is within the operating range of a pair of a port's balls (R571). -/
def ratingOk (x : PortPair) (mv : Int) : Bool := decide (mv.natAbs ≤ (portRating x).1)

/-- The surges a port with the circuit of Table 15.10 withstands, V: each wire to PGn, wire to wire (R572). -/
def surgeLimit : Nat × Nat := (2000, 1000)

/-- The two series resistors of Table 15.10 in mΩ: they stand in series with the output impedance (R88) and in the loop
reading (R307). -/
def seriesResistors : Nat := 2200 + 2200

/-- The wire alone, of a loop reading in mΩ (R572). -/
def wireLoop (loop : Nat) : Nat := loop - seriesResistors

/-- A level at a digital input (Table 15.11): high from 0.65 of VIO, low up to 0.35 of it, in mV; none between. -/
def inputLevel (vio mv : Nat) : Option Bool :=
  if 65 * vio ≤ 100 * mv then some true else if 100 * mv ≤ 35 * vio then some false else none

/-- The internal pull of a control ball: to VIO, to VSS, or none (Table 15.11). -/
def internalPull : ControlBall → Option Bool
  | .wakeN | .tms | .tdi => some true
  | .trstN => some false
  | _ => none

/-- Timing at the balls in ns (Table 15.12): PORST_N after the rails, its pulse, WAKE_N, the 1PPS rise and high time. -/
def porstAfterRails : Stamp := 1000000
def porstPulse : Stamp := 10000
def wakePulse : Stamp := 10000
def ppsRise : Stamp := 10
def ppsHigh : Stamp := 1000

/-- The largest TCK frequency, Hz. -/
def tckLimit : Nat := 25000000

/-- The junction in 0.1 °C at an ambient temperature in 0.1 °C and a power in mW with the reference heatsink: 1.05 K/W
(Table 15.13). -/
def junctionAt (ambient : Int) (milliwatts : Nat) : Int := ambient + roundDiv (105 * milliwatts) 10000

/-! ## Figures and the conditions they hold under -/

/-- The largest relative constellation error of a station's transmitter by bits a point, 0.1 dB (Table 2.10). -/
def stationError (bits : Nat) : Int :=
  if bits = 1 then -120 else if bits = 2 then -150 else if bits = 4 then -210 else if bits = 6 then -270 else -320

/-- The device's, at levels up to −6.0 dBV (R100). -/
def deviceError (level : Int) : Option Int := if level ≤ -60 then some (-360) else none

/-- The other requirements of Table 2.10: frequency after registration in 0.001 ppm, peak output in mV, and how far slots
outside the active allotments lie below the active ones, dB. -/
def stationFrequency : Nat := 2000
def stationPeak : Nat := 8000
def stationSilence : Nat := 30

/-- A station detects a downstream sync run in at least 99 % of cases (R149): SNR in 0.1 dB, carrier offset in 0.001 ppm. -/
def stationDetects (registered : Bool) (snr : Int) (offset : Int) : Bool :=
  decide (150 ≤ snr) && decide (offset.natAbs ≤ if registered then stationFrequency else 50000)

/-- Ten times the density raise of a header in dB (R68, R589): 6 dB for the long form, 3.0 dB for each halving of the
allotments in the grant form. -/
def headerRaise (grantForm : Bool) (g : Nat) : Nat := if grantForm then 30 * Nat.log2 (64 / max 1 g) else 60

/-- The receiver decodes header codewords in at least 99 % of cases (R589): the SNR of the header's points per slot after
equalisation, in 0.1 dB, its raise included. -/
def headerDecodes (snrBeforeRaise : Int) (grantForm : Bool) (g : Nat) : Bool :=
  decide (30 ≤ snrBeforeRaise + headerRaise grantForm g)

/-- How far the reported position of a confirmed event lies at most from its true distance, both in mm (R305). -/
def positionBound (distance : Nat) : Nat := if distance ≤ 2950000 then 500 else 500 + distance * 3 / 10000

/-- The conditions of R305 that the device holds: the last with its R_ref, T_w not held, at least 64 averages. -/
def State.positionHolds (s : State) (p : Port) : Bool :=
  decide (s.rd Reg.LR_VELOCITY_R_ref p ≠ 0) && !s.flag Reg.LR_VELOCITY_held p && decide (64 ≤ s.rd Reg.LR_CTL_averages p)

/-- The accuracy of a reading, in thousandths of it: insulation, loop (R312). -/
def insulationAccuracy : Nat := 50
def loopAccuracy : Nat := 10

/-- The conditions of R312 that the device holds: REFRES accepted, and the result not UNSETTLED. -/
def State.dcHolds (s : State) (p : Port) : Bool :=
  decide (s.rd Reg.CAL_REF_REFRES_state = 1) && !bit (s.rdN Reg.LR_DC_flags p) 3

/-- The conditions of R312 on the line: its capacitance to PGn in nF, what the equipment on it presents in MΩ. -/
def lineAllows (nanofarads megohms : Nat) : Bool := decide (nanofarads ≤ 10000 ∧ 10000 ≤ megohms)

end Sys2Proof.Machine
end

