-- ==== Sys2Proof/Machine/Receiver.lean ====
section
/-! DEFINITION. The receiver's part of the line signal (R72, R77, R159, R182, R183): what stages 8 to 10 of Table 4.1 do with a
symbol's bins and slots, step for step the reverse of the transmitter. A command that receives a frame carries what comes out of
them (`LineRx`). Complex values are pairs of exact numbers. -/

namespace Sys2Proof.Machine

/-- A complex value of exact parts. -/
abbrev Cx := Rat × Rat

/-- The product of two complex values. -/
def Cx.mul (x y : Cx) : Cx := (x.1 * y.1 - x.2 * y.2, x.1 * y.2 + x.2 * y.1)

/-! ## Stage 8: the equaliser (R182, R183) -/

/-- Point p of an equaliser as a complex value: units of 2⁻¹². -/
def pointAt (points : List (Int × Int)) (p : Nat) : Cx :=
  let x := points.getD (p % 256) (0, 0)
  ((x.1 : Rat) / 4096, (x.2 : Rat) / 4096)

/-- The equaliser's value for bin m of an N-point DFT (R182): point p applies to bin p·N/256; a bin between two points takes
the linear interpolation of both, and bins above the last point interpolate towards point 0. -/
def eqAtBin (points : List (Int × Int)) (size m : Nat) : Cx :=
  let step := size / 256
  let p := m / step
  let f : Rat := ((m % step : Nat) : Rat) / (step : Nat)
  let a := pointAt points p
  let b := pointAt points (p + 1)
  (a.1 + (b.1 - a.1) * f, a.2 + (b.2 - a.2) * f)

/-- The frequency of bin m above the centre as a multiple of B/N (R182). -/
def binOffset (size m : Nat) : Int := if 2 * m < size then m else (m : Int) - size

/-- Stage 8: every bin of a symbol times its equaliser value, as the station's equaliser stands at the frame's sync instant
(R183). -/
def equalise (points : List (Int × Int)) (bins : List Cx) : List Cx :=
  bins.zipIdx.map fun (y, m) => Cx.mul y (eqAtBin points bins.length m)

/-! ## Stage 10: pilots, de-interleaving, demapping (R70, R78, R81, R183) -/

/-- The pilots of symbol i: each slot that carries one, with its known value 1 or −1 (R69, R70). -/
def pilotsOf (n i : Nat) (active : List Nat) : List (Nat × Int) :=
  ((List.range n).filter fun k => active.contains (k % 64) && isPilot k i).map fun k =>
    (k, if (pilots n).getD k false then -1 else 1)

/-- The common phase and amplitude of a symbol's pilots (R183): the factor that brings the values received in their slots, on
average, to the values sent; none without pilots. -/
def pilotFactor (known : List (Nat × Int)) (slots : List Cx) : Option Cx :=
  let seen := known.map fun x => (slots.getD x.1 (0, 0), (x.2 : Rat))
  let den := (seen.map fun x => x.1.1 * x.1.1 + x.1.2 * x.1.2).sum
  if known = [] ∨ den = 0 then none
  else some ((seen.map fun x => x.2 * x.1.1).sum / den, -((seen.map fun x => x.2 * x.1.2).sum / den))

/-- The correction each symbol takes (R183): that of its own pilots, or of the last symbol that had pilots. -/
def carried (last : Option Cx) : List (Option Cx) → List (Option Cx)
  | [] => []
  | some c :: l => some c :: carried (some c) l
  | none :: l => last :: carried last l

/-- The slots of the symbols of a frame, each symbol corrected as a whole (R183). -/
def corrected (n : Nat) (active : Nat → List Nat) (symbols : List (List Cx)) : List (List Cx) :=
  let own := symbols.zipIdx.map fun (x, i) => pilotFactor (pilotsOf n i (active i)) x
  List.zipWith (fun x c => match c with | some c => x.map (Cx.mul c) | none => x) symbols (carried none own)

/-- The values of the data slots of symbol i in the order of the coded stream: point j comes from data slot
(143·j + 29·i) mod Q (R81). -/
def deinterleaved {α : Type} (d : α) (n i : Nat) (active : List Nat) (usePilots : Bool) (slots : List α) : List α :=
  let data := (List.range n).filter fun k => active.contains (k % 64) && !(usePilots && isPilot k i)
  (List.range data.length).map fun j => slots.getD (data.getD (interleave data.length i j) n) d

/-- The m bits of a level index in Gray code, first bit most significant (R78). -/
def grayBits (m l : Nat) : List Bool := bitsBe m (l ^^^ (l / 2))

/-- The bits of a point of b bits by its levels, the reverse of `pointOf` (R78). -/
def demapped (b : Nat) (x : Int × Int) : List Bool :=
  if b = 1 then [decide (0 < x.1)]
  else
    let m := b / 2
    let index (v : Int) : Nat := ((v + (2 ^ m - 1)) / 2).toNat
    grayBits m (index x.1) ++ grayBits m (index x.2)

/-! ## Stage 10: decoding (R75 to R77, R73, R113) -/

/-- What the decoder of a codeword is given (R77): the information bits received, the shortened ones as known zeros,
the parity bits received, the punctured ones as erasures. -/
def decoderInput (n k kLast : Nat) (received : List Bool) : List (Option Bool) :=
  (received.take kLast).map some ++ List.replicate (k - kLast) (some false) ++ (received.drop kLast).map some
    ++ List.replicate (n - k - (received.length - kLast)) none

/-- A word agrees with what a decoder was given where it was given a bit. -/
def agrees (word : List Bool) (given : List (Option Bool)) : Bool :=
  (List.zipWith (fun x y => y.all fun b => b == x) word given).all id

/-- The LDPC decoding of a codeword converges to k information bits: with their parity they are a codeword (R75). -/
def converged (n k : Nat) (info : List Bool) : Bool := !(ldpcChecks n k (info ++ ldpcParity n k info)).any id

/-- The bytes of a bit string, most significant bit of each first (R5). -/
def bytesOf : Nat → List Bool → Bytes
  | 0, _ => []
  | n + 1, l => BitVec.ofNat 8 ((l.take 8).foldl (fun a b => a * 2 + b2n b) 0) :: bytesOf n (l.drop 8)

/-- Descrambling (R73): the information bits of a payload and its CRC-32 back from the decoded bits. -/
def descrambled (seed : Nat) (bits : List Bool) : Bytes := bytesOf (bits.length / 8) (scramble seed bits).1

end Sys2Proof.Machine
end

