-- ==== Sys2Proof/Machine/Waveform.lean ====
section
/-! DEFINITION. The line signal as numbers (chapter 02): the complex baseband samples of what the block sends, the receiver's
transform, the real passband signal, the shaping filter, the pre-distorter and the volts at the terminals. The commands move
these as data (`TxFrame`, `Shaping`); this file says what that data stands for on the line, so it is over ℝ and ℂ and no
command evaluates it. -/

namespace Sys2Proof.Machine

open Complex (I)

/-! ## Points and slots (R61, R68, R70, R79) -/

/-- e^(jπ·x). -/
noncomputable def turn (x : ℝ) : ℂ := Complex.exp (I * Real.pi * x)

/-- The value of a slot before scaling: a point of b bits divided by its norm (R79), a pilot ±1 (R70). -/
noncomputable def Slot.value (b : Nat) : Slot → ℂ
  | .zero => 0
  | .pilot minus => if minus then -1 else 1
  | .point i q => ((i : ℂ) + (q : ℂ) * I) / (Real.sqrt (pointNorm b) : ℝ)

/-- The slots of a symbol as X[k], every active one raised alike by the power factor r (R68, R70). -/
noncomputable def slotValues (b r : Nat) (x : List Slot) : List ℂ := x.map fun v => (Real.sqrt r : ℝ) * v.value b

/-! ## The discrete Fresnel transform (R61, R62) -/

/-- The kernel e^(+jπ(n − k)²/N). -/
noncomputable def fresnelKernel (size n k : Nat) : ℂ := turn (((n : ℝ) - k) ^ 2 / size)

/-- Baseband sample s[n] of a symbol: the inverse discrete Fresnel transform of its slots (R61). -/
noncomputable def inverseFresnel (x : List ℂ) (n : Nat) : ℂ :=
  (1 / (Real.sqrt x.length : ℝ)) * turn (-1 / 4) * ∑ k ∈ Finset.range x.length, x.getD k 0 * fresnelKernel x.length n k

/-- The receiver's X̂[k]: the forward discrete Fresnel transform of the samples r of a symbol (R61). -/
noncomputable def forwardFresnel (r : List ℂ) (k : Nat) : ℂ :=
  (1 / (Real.sqrt r.length : ℝ)) * turn (1 / 4)
    * ∑ n ∈ Finset.range r.length, r.getD n 0 * (starRingEnd ℂ) (fresnelKernel r.length n k)

/-- Sample n of a transmitted symbol with its prefix of cp samples (R62). -/
noncomputable def symbolSample (x : List ℂ) (cp n : Nat) : ℂ := inverseFresnel x (prefixed x.length cp n)

/-! ## Transmissions at baseband (R63, R71, R101, R103, R105, R115, R133) -/

/-- Sample n of the sync run (R105): its amplitude A is 1, that of a full-density payload symbol of unit mean power. -/
noncomputable def syncSample (n : Nat) : ℂ := turn ((syncPhase n : ℝ) / 256)

/-- Sample n of the bell (R133), at 0.25 MHz. -/
noncomputable def bellSample (n : Nat) : ℂ := turn ((bellPhase n : ℝ) / 256)

/-- The power factor of a header symbol's slots: density 1/4 in the long form (R68, R71), G of 64 allotments in the grant
form (R115). -/
def TxFrame.headerRaise (f : TxFrame) : Nat := if f.long then 4 else 64 / f.open'.length

/-- Sample n of the header block (R71, R115): symbols of N = 256 and P = 64, BPSK. -/
noncomputable def TxFrame.headerSample (f : TxFrame) (n : Nat) : ℂ :=
  symbolSample (slotValues 1 f.headerRaise (f.headerBlock.getD (n / 320) [])) 64 (n % 320)

/-- Sample n of the payload symbols. -/
noncomputable def TxFrame.payloadSample (f : TxFrame) (n : Nat) : ℂ :=
  let len := f.band.size + f.band.cp
  symbolSample (slotValues (paceBits f.header.pace) f.powerRaise (f.symbols.getD (n / len) [])) f.band.cp (n % len)

/-- Samples of a frame before its payload: sync run and header block in the long form, the header block alone in the grant
form (R103). -/
def TxFrame.lead (f : TxFrame) : Nat := if f.long then 3840 else 320 * f.headerBlock.length

/-- Baseband sample n of a frame (R72 step 7, R101, R103), at its band's rate B, in units of its level: sample 0 is t = 0 of
R63, the first of the sync run or, in the grant form, of the header. -/
noncomputable def TxFrame.sample (f : TxFrame) (n : Nat) : ℂ :=
  if f.lead ≤ n then f.payloadSample (n - f.lead)
  else if f.long then (if n < 2560 then syncSample n else f.headerSample (n - 2560))
  else f.headerSample n

/-- Samples of a frame (R101, R116). -/
def TxFrame.samples (f : TxFrame) : Nat := f.lead + f.symbols.length * (f.band.size + f.band.cp)

/-! ## Passband (R63) -/

/-- A transmission's baseband stream at time t from its first sample: its samples at whole multiples of 1/B, the
interpolation between them (R63). -/
noncomputable def streamAt (samples : Nat → ℂ) (between : ℝ → ℂ) (rate t : ℝ) : ℂ :=
  if t * rate = ⌊t * rate⌋₊ then samples ⌊t * rate⌋₊ else between t

/-- The real passband signal √2·Re{s(t)·e^(j2π·fc·t)} of a stream on a centre in Hz (R63): t = 0 is the first sample of the
transmission, so the carrier restarts at phase 0 with each one, and a positive baseband frequency lies above fc. -/
noncomputable def passband (stream : ℝ → ℂ) (fc t : ℝ) : ℝ := Real.sqrt 2 * (stream t * turn (2 * fc * t)).re

/-! ## Shaping and level (R86, R87, R89, R94) -/

/-- The shaping FIR at sample n of the 25 MS/s passband signal x (R89): tap 63 is the stamp reference, so what the
filter puts out for instant n is centred there. -/
noncomputable def shaped (fir : Bytes) (x : Int → ℝ) (n : Int) : ℝ :=
  ∑ i ∈ Finset.range 127, ((tapsIn 127 fir).getD i 0 : ℝ) / 2 ^ 14 * x (n + 63 - i)

/-- The RMS of the samples 0 to m − 1 of a signal. -/
noncomputable def rms (x : Int → ℝ) (m : Nat) : ℝ := Real.sqrt ((∑ n ∈ Finset.range m, x n ^ 2) / m)

/-- The voltage of a level in 0.1 dB re 1 V RMS (R86). -/
noncomputable def levelVolts (level : Int) : ℝ := (10 : ℝ) ^ ((level : ℝ) / 200)

/-- The pre-distorter at sample n of the 100 MS/s signal x (R94): y[n] = Σ_q Σ_p a[p][q]·x[n−q]·|x[n−q]|^(p−1). Its
coefficients apply in every state of LP_DPD /01 (R95). -/
noncomputable def predistorted (dpd : Bytes) (x : Int → ℝ) (n : Int) : ℝ :=
  ∑ q ∈ Finset.range 4, ∑ p ∈ Finset.range 5,
    ((dpdCoefficients dpd).getD (4 * p + q) 0 : ℝ) * x (n - q) * |x (n - q)| ^ p

/-- What the driver puts across the terminals: ±4.0 V at most (R87). -/
noncomputable def driven (v : ℝ) : ℝ := max (-4) (min 4 v)

/-- The voltage at sample n of 100 MS/s of a transmission whose passband signal at 25 MS/s is x (R72 step 8): shaping
FIR, interpolation (`up`, the implementation's), pre-distortion, level, clipping. The level holds after the FIR,
whatever its gain, so what follows the FIR is taken at an RMS of 1 over the transmission's m samples (R86). -/
noncomputable def lineVolts (x : Shaping) (level : Int) (up : (Int → ℝ) → Int → ℝ) (signal : Int → ℝ) (m : Nat) (n : Int) : ℝ :=
  let y := up (shaped x.fir signal)
  driven (levelVolts level * predistorted x.dpd (fun i => y i / rms y m) n)

/-! ## Terminals (R85) -/

/-- The balls of a port. -/
inductive Ball where
  | lpA
  | lpB
  | pg
  deriving DecidableEq, Repr

/-- The pair between which a port transmits and receives under a wiring mode of LP_TX /05. -/
def terminals (mode : Nat) : Ball × Ball := if mode = 1 then (.lpA, .pg) else if mode = 2 then (.lpB, .pg) else (.lpA, .lpB)

/-- The pair a transmission crosses. -/
def Shaping.terminals (x : Shaping) : Ball × Ball := Machine.terminals x.pair

end Sys2Proof.Machine
end

