-- ==== Sys2Proof/Machine/EchoMath.lean ====
section
/-! DEFINITION. The echo canceller's reference and its adaptation update as numbers (R165, R169, R199), and a sweep's voltage (R262,
R264): what `BlockMeas.ref`, `Config.lmsPower`, `Config.lmsIncrement` and `Config.tapSpectrum` stand for. Over ℝ and ℂ; no
command evaluates it. -/

namespace Sys2Proof.Machine

open Complex (I)

/-! ## The reference (R165) -/

/-- What one output of a port contributes to its own transmitted baseband stream at an instant (R165): every frame,
the bell and the training bursts, before pre-distortion; not the sweeps. `between` is the interpolation, `burst` what
the slots of a burst carry, which the spec leaves open. -/
noncomputable def Out.stream (p : Port) (between : ℝ → ℂ) (burst : Nat → ℂ) (t : ℝ) : Out → ℂ
  | .frame q f => if q = p ∧ (f.start : ℝ) ≤ t ∧ t < f.finish then
      streamAt f.sample between (1 / f.band.ns) (t - f.start) else 0
  | .bell q start _ _ => if q = p ∧ (start : ℝ) ≤ t ∧ t < start + 16384000 then
      streamAt bellSample between (1 / 4000) (t - start) else 0
  | .burst q start b n _ _ =>
    if q = p ∧ (start : ℝ) ≤ t ∧ t < start + (n * (b.size + b.cp) * b.ns : Nat) then
      streamAt burst between (1 / b.ns) (t - start) else 0
  | _ => 0

/-- The reference s of a port at an instant: its own transmitted stream (R165). -/
noncomputable def State.referenceAt (s : State) (p : Port) (between : ℝ → ℂ) (burst : Nat → ℂ) (t : ℝ) : ℂ :=
  (s.out.map fun o => o.stream p between burst t).sum

/-! ## The update (R169) -/

/-- Bin m of the transform of a sequence. -/
noncomputable def dft (x : List ℂ) (m : Nat) : ℂ :=
  ∑ n ∈ Finset.range x.length, x.getD n 0 * turn (-2 * m * n / x.length)

/-- Sample n of the inverse transform of bins. -/
noncomputable def idft (x : List ℂ) (n : Nat) : ℂ :=
  (1 / (x.length : ℝ)) * ∑ m ∈ Finset.range x.length, x.getD m 0 * turn (2 * m * n / x.length)

/-- Step 1: the 2L-point transform of the block's error, the first L points zero. -/
noncomputable def errorBins (l : Nat) (error : List ℂ) (m : Nat) : ℂ := dft (List.replicate l 0 ++ error) m

/-- The running power estimate of s in a bin: p[m] += (|s_f[m]|² − p[m])/16. -/
noncomputable def runningPower (p : ℝ) (sf : ℂ) : ℝ := p + (Complex.normSq sf - p) / 16

/-- Step 2: err_f[m]·conj(s_f[m])/(p[m] + eps). -/
noncomputable def normalised (err sf : ℂ) (p eps : ℝ) : ℂ := err * (starRingEnd ℂ) sf / ((p + eps : ℝ) : ℂ)

/-- Steps 2 and 3: the gradient of a block constrained to its first L time-domain points; p are the power estimates after the
block, ref its 2L reference samples. -/
noncomputable def gradient (l : Nat) (p : Nat → ℝ) (eps : ℝ) (ref error : List ℂ) (d : Nat) : ℂ :=
  if d < l then idft ((List.range (2 * l)).map fun m => normalised (errorBins l error m) (dft ref m) (p m) eps) d else 0

/-- Step 4: the gradient is added to the taps at the step of the present state, h += g·2^−step. -/
noncomputable def lmsUpdated (l step : Nat) (p : Nat → ℝ) (eps : ℝ) (ref error : List ℂ) (h : Nat → ℂ) (d : Nat) : ℂ :=
  h d + gradient l p eps ref error d / (2 ^ step : ℂ)

/-- |H|² of the canceller at point m of the 256-point grid: the DFT of its taps, zero-padded or folded (R199). -/
noncomputable def tapPower (w : List (Int × Int)) (m : Nat) : ℝ :=
  Complex.normSq (dft ((foldTaps w).map fun x => (x.1 : ℂ) + (x.2 : ℂ) * I) m)

/-! ## Stages 4 to 9 of the receive path (R159, R61) -/

/-- Stages 7 and 9 without stage 8 between them are the forward discrete Fresnel transform of R61: the DFT of a symbol's
samples, the chirp phase, the inverse DFT, as the note under R61 gives it. `eq` is what stage 8 does to bin m. -/
noncomputable def receivedSlot (r : List ℂ) (eq : Nat → ℂ) (k : Nat) : ℂ :=
  idft ((List.range r.length).map fun m => dft r m * eq m * turn ((m : ℝ) ^ 2 / r.length)) k

/-! ## Sweeps (R262, R264) -/

/-- Sample n of a band's sweep at 100 MS/s in V, at a peak-to-peak level in 0.1 V (R262). -/
noncomputable def sweepSample (b level n : Nat) : ℝ :=
  let (_, _, m) := sweepBand b
  let taper : ℝ := match sweepTaper b n with | some (x, d) => (1 - Real.cos (Real.pi * x / d)) / 2 | none => 1
  if n < m then (level : ℝ) / 20 * taper * Real.sin (2 * Real.pi * ((sweepPhase b n).1 / (sweepPhase b n).2)) else 0

/-- A sweep at the terminals: through the pre-distorter, past the shaping FIR, the mask and R92 (R264). -/
noncomputable def sweepVolts (x : Shaping) (b level : Nat) (n : Int) : ℝ :=
  predistorted x.dpd (fun i => if 0 ≤ i then sweepSample b level i.toNat else 0) n

/-! ## Compression (R270) -/

/-- Samples of a sweep period, the length K of a record (Table 6.3). -/
def periodSamples (b : Nat) : Nat := if b = 0 then 131072 else if b = 1 then 262144 else 524288

/-- S: the transform of a band's sweep zero-padded to K. -/
noncomputable def sweepBins (b level m : Nat) : ℂ :=
  dft ((List.range (periodSamples b)).map fun n => (sweepSample b level n : ℂ)) m

/-- W at a frequency in kHz: 1 in the middle 90 % of f₁ to f₂, a raised cosine over 5 % at either end, 0 outside. -/
noncomputable def compressWindow (b : Nat) (f : ℝ) : ℝ :=
  let (f1, f2, _) := sweepBand b
  let x := min ((f - f1) / ((f2 : ℝ) - f1)) (((f2 : ℝ) - f) / ((f2 : ℝ) - f1))
  if x < 0 then 0 else if x < 1 / 20 then (1 - Real.cos (20 * Real.pi * x)) / 2 else 1

/-- The frequency of bin m of K bins at 100 MS/s in kHz, without its sign: the profile of a real record is real. -/
noncomputable def binKHz (k m : Nat) : ℝ := (min m (k - m) : Nat) * 100000 / (k : ℝ)

/-- P of a bin: R̄·S*·W/(|S|² + ε), ε = 10⁻³ × max|S|², of the averaged record with bins `r`. -/
noncomputable def compressedBin (b level : Nat) (r : Nat → ℂ) (m : Nat) : ℂ :=
  let k := periodSamples b
  let eps := (Finset.range k).sup' ⟨0, by unfold k periodSamples; split <;> [simp; (split <;> simp)]⟩
    (fun i => Complex.normSq (sweepBins b level i)) / 1000
  r m * (starRingEnd ℂ) (sweepBins b level m) * (compressWindow b (binKHz k m) : ℂ)
    / ((Complex.normSq (sweepBins b level m) + eps : ℝ) : ℂ)

/-- Sample j, at 1.25 ns, of the inverse transform of P zero-padded to 8K bins, the negative frequencies at its end. -/
noncomputable def profileSample (b level : Nat) (r : Nat → ℂ) (j : Nat) : ℂ :=
  let k := periodSamples b
  idft ((List.range (8 * k)).map fun m =>
    if m < k / 2 then compressedBin b level r m else if 8 * k - k / 2 ≤ m then compressedBin b level r (m - 7 * k) else 0) j

/-- The profile p_b of a band's averaged record in V at the terminals: a full reflection of the sweep reads 1 at its
delay. -/
noncomputable def bandProfile (b level : Nat) (record : List ℝ) (j : Nat) : ℝ :=
  (profileSample b level (dft (record.map fun x => (x : ℂ))) j).re / (profileSample b level (sweepBins b level) 0).re

end Sys2Proof.Machine
end

