-- ==== Sys2Proof/Tests/Slice0.lean ====
section
/-! SUPPORT. Tests: the checks of WellFormed refuse, single steps, and for every statement states that meet its hypotheses. -/

namespace Sys2Proof.Tests
open Sys2Proof Sys2Proof.Machine

set_option Elab.async false

/-- A provisioned device that is READY and runs on REFCLK, 1,000 s after power-on. -/
def dev : State :=
  let s : State := { State.reset with
    time := { State.reset.time with now := 1000000000000, mono := 1000000000000 }
    rst := { State.reset.rst with hold := 0, pllLocked := true, dramWiped := true, convDone := true }
    fuses := { State.reset.fuses with lifeCycle := 1 } }
  (s.wr Reg.BOOT_STATE_state 0 0 4).wr Reg.CLOCK_SELECT_in_force 0 0 1

/-- The device with a port in a state. -/
def portIn (p : Port) (st : Int) : State := dev.wr Reg.LP_STATE_state p 0 st

/-- The device with a Porfani port in a state. -/
def pfIn (x : Side) (st : Int) : State := dev.wr Reg.PF_PORT_state x.n 0 st

/-- A header without association, fragment or colour. -/
def hdr (dst src ty len : Nat) : Header := ⟨0, dst, src, ty, 0, len, 0, 0, 1, 0, 0, 0, 0⟩

/-- A frame received without error at the sync instant 10 µs before `dev`'s time. -/
def rx (h : Header) (b : Bytes) (sync : Stamp := 999999990000) : LineRx :=
  { sync := sync, word := h.word, headerOk := true, body := b ++ be 4 (crc32 b), bodyOk := true, level := -300, mer := 300,
    snr := List.replicate 64 200, obs := [] }

/-- A port awaits a frame. -/
def awaiting (s : State) (p : Port) (f : LineRx) : State :=
  s.setPort p fun q => { q with awaited := [⟨f.sync, f.word, true⟩] }

/-- The device with a station in a state, of identity 77 and address 5, anchored now, heard now. -/
def stnIn (u : Nat) (st : Nat) (f : Stn → Stn := id) : State :=
  dev.setStn u fun x => f { x with state := st, caps := be 8 77 ++ List.replicate 12 0, address := 5, anchor := some (1000000000000, 1000000000000), regOpen := true,
                                   lastHeard := 1000000000000, rangingSince := 1000000000000 }

/-- A MGMT request of 12 bytes that reads objects. -/
def mreq : Bytes := [1] ++ be 2 9 ++ List.replicate 9 0

/-- The same, protected under association 15 and a key of 3s with packet number 1. -/
def secReq : Bytes :=
  let h := { hdr 5 0 tyMgmt 26 with sa := 15 }
  be 6 1 ++ ccmEncrypt (List.replicate 16 3) (ccmNonce false h 1) (be 14 h.high) mreq

/-- Station 7 holds a grant, and what it sends of [1, 2, 3] under it. -/
def granted7 : State := stnIn 7 4 fun x =>
  { x with caps := be 8 77 ++ [0, 2] ++ List.replicate 10 0, grants := [⟨1000000000000, 1001000000000, 0, 2 ^ 64 - 1⟩] }
def sent7 : Header × Bytes × Stn := ((granted7.stn 7).compose (hdr 0 5 tyData 3) [1, 2, 3]).getD (hdr 0 0 0 0, [], {})

/-- A slot of the house frame is in progress, and slot 15 under a HOUSE_SLOT15 code. -/
def inSlotN (s : State) (n : Nat) (code : Nat := 0) : State :=
  s.setHouse fun h => { h with frames := 1, slot := n, slot15 := code, slotAt := 999999990000 }
def inSlot15 (s : State) (code : Nat) : State := inSlotN s 15 code

/-- The device in SERVICE on port 31 within its first DOWN window, which ends at an instant. -/
def downIn (finish : Stamp) (f : PortState → PortState := id) : State :=
  (portIn 31 stService).setPort 31 fun q => f { q with winStart := 999000000000, winEnd := finish }

/-- The same at another instant. -/
def atTime (s : State) (t : Stamp) : State := s.setTime fun x => { x with now := t }

/-- A GRANT that confirms station 254, and the instant of it. -/
def granting254 : State := downIn 1001000000000 fun q => { q with confirms := [254] }
def plan254 : GrantPlan := (granting254.grantPlans 31).headD ⟨0, 0, [], 0, [], 0, [], 0⟩

/-- A station to be ranged in the DOWN window in progress, with a DISCOVER window ahead. -/
def ranging31 : State :=
  ((((downIn 1001000000000).wr Reg.ITIN_OP_count 31 0 2).wr Reg.ITIN_OP_windows 31 1 (wDiscover * 2 ^ 56 + 300000 : Nat)).wr
    Reg.LP_STATION_state 31 254 1).setElem 31 254 fun e => { e with toRange := true }

/-- A frame of flow 1,048,321 waits in queue 0 of port 31. -/
def backlogged31 : State :=
  ((downIn 1001000000000).wr Reg.LP_STATION_state 31 254 3).setQm fun m => { m with queues := [(31 * 128, [{ flow := 1048321, colour := 0, data := [1, 2, 3], enqueued := 1000000000000 }])], buffersUsed := 1 }
def picked31 := backlogged31.pick 31 (winMask (backlogged31.curWindow 31)) (backlogged31.downLimit 31)

/-- The same in a DUPLEX window that R179 admits frames in. -/
def duplex31 : State :=
  [(Reg.LP_EC_ERLE, (700 : Int)), (Reg.LP_EC_ERLE_stamp, 999000000000), (Reg.LP_EC_state, (ecTracking : Int)),
    (Reg.LP_HYBRID_source, 1), (Reg.LP_ACCESS_duplex_allowed, 1), (Reg.ITIN_OP_windows, (wDuplex * 2 ^ 56 + 0xFF0000000F4240 : Nat))].foldl
    (fun s x => s.wr x.1 31 0 x.2) (backlogged31.setElem 31 (flowStation 1048321) fun e => { e with duplex := true })
def duplexed31 := (duplex31.pick 31 (winMask (duplex31.curWindow 31)) (duplex31.hardLimit 31)).1

/-- The device with a Porfani port in a state, its link as given. -/
def linkIn (x : Side) (st : Int) (f : PfState → PfState) : State := (pfIn x st).setLink x f

/-- A parcel of link-local traffic with a sequence number. -/
def pcl (lseq : Nat) : Parcel := { type := 0, vc := 1, dir := 0, isLocal := false, devnum := 3, bcast := false, lseq := lseq, payload := [1] }

/-- Both Porfani ports ACTIVE, with strap role and device number; UP's partner is a host adapter. -/
def chain (role : Fin 4) (num : DevNum) : State :=
  ((((pfIn .up pfActive).wr Reg.PF_PORT_state 1 0 pfActive).wrB Reg.PF_PORT_partner 0 0 [6, 0x0F, 0xFC, 0x80, 0, 0, 0]).wr Reg.CASC_acting_role 0 0 0).setRst
    fun r => { r with straps := ⟨role, num⟩ }

/-- The chain with the device as its head. -/
def headChain : State := (chain 1 3).wr Reg.CASC_acting_role 0 0 1

/-- Session 3 is open with the role CONFIGURATOR. -/
def opened (f : Session → Session := id) : State :=
  dev.setSession 2 fun z => f { z with phase := 2, role := 2, key := [1], counter := 5 }

/-- A request of session 3, authentic. -/
def req (op index sub : Nat) (data : Bytes) (f : IzReq → IzReq := id) : IzReq :=
  let q : IzReq := f { side := .up, op := op, session := 3, tag := 9, index := index, sub := sub, element := 0, count := 1, dataLen := data.length,
                       parcelLength := 48 + data.length, offset := 0,
                       rIndex := 0, rSub := 0, rElement := 0, counter := 6, data := data, mac := [] }
  { q with mac := (hmacSha256 [1] (q.header ++ q.data)).take 16 }

/-- A request outside any session, without a MAC. -/
def req0 (op index sub : Nat) (data : Bytes) : IzReq :=
  { side := .up, op := op, session := 0, tag := 9, index := index, sub := sub, element := 0, count := 1, dataLen := data.length,
    parcelLength := 32 + data.length, offset := 0, rIndex := 0, rSub := 0, rElement := 0, counter := 0, data := data, mac := [] }

/-- The state of a request admitted. -/
def admitted (s : State) (r : IzReq) : State :=
  let s := (s.setSession 2 fun z => { z with counter := r.counter }).inc Reg.IZ_CTL_REQUESTS
  (s.wr Reg.IZ_SESSION_last_arrival 0 3 s.now).arm (.session 2) (s.now + s.rd Reg.IZ_CTL_idle_time * nsPerSec)

/-- The device serves a station with a free place in its list of proxies, or with none. -/
def proxied (n : Nat) : State :=
  ((opened.wr Reg.LP_STATE_state 31 0 stService).wr Reg.LP_STATION_state 31 254 4).setPort 31 fun q =>
    { q with proxies := List.replicate n ⟨254, false, 0, 0, 0, [], .up, 3, 0, 1, 0⟩ }

/-- A commit of session 3 is queued. -/
def queued (vs : List (Addr × Bytes)) : State :=
  let s := opened
  { s with iz := { s.iz with queue := [⟨3, .up, 9, 6, vs, 0⟩] } }

/-- The device with its power controller as given. -/
def powered (f : PowerState → PowerState) (s : State := dev) : State := s.setPower f

/-- The device with its hamper powered, as given. -/
def metering (f : Hamper → Hamper := id) : State := dev.setHamper fun h => f { h with powered := true }

/-- A frame of the lane and its request channel, and one of the local port. -/
def lane (type : Nat) (b : Bytes) : Bytes := let x := be 1 type ++ [0] ++ be 2 b.length ++ b; x ++ be 4 (crc32 x)
def loc (cmd : Nat) (b : Bytes) : Bytes := let x := be 1 cmd ++ [0] ++ be 2 b.length ++ b; [0x7E, 0x81] ++ x ++ be 4 (crc32 x)

/-- A configuration record. -/
def config : Bytes := [1, 1, 1, 1, 0, 1, 1, 0, 0, 0, 0, 1, 0, 1, 1, 0, 0, 0, 3, 0xE8, 0, 0, 0x0E, 0x10, 28, 0, 0, 0, 0, 0, 0, 0]

/-- The state an outcome goes on to. -/
def nextOf : Res → State
  | .next t => t
  | _ => State.reset

/-- An outcome is a next state. -/
def goes : Res → Bool
  | .next _ => true
  | _ => false

theorem eq_nextOf {r : Res} (h : goes r = true) : r = .next (nextOf r) := by
  cases r <;> first | rfl | simp [goes] at h

/-- A hamper without power, and one sealed with a valid clock. -/
def config0 : Hamper := State.reset.hamper
def valid : Hamper := { config0 with sealed := true, clockInvalid := false, steps := [] }

theorem ok_of {α : Type} [DecidableEq α] {x : Except Nat α} {v : α}
    (h : (match x with | .ok y => decide (y = v) | .error _ => false) = true) : x = .ok v := by
  cases x <;> simp_all

theorem error_of {α : Type} {x : Except Nat α} {v : Nat}
    (h : (match x with | .ok _ => false | .error y => decide (y = v)) = true) : x = .error v := by
  cases x <;> simp_all

/-- The state in which a request arrives. -/
def arrived (s : State) (r : IzReq) : State := s.arrives r

/-- A request with the MAC of its session is admitted. -/
theorem admits {s u : State} {r : IzReq} (k : SessionNo)
    (h : r.session ≠ 0 ∧ sessionNo r.session = some k ∧ ((arrived s r).session k).phase = 2
      ∧ (arrived s r).passed (.session k.val) = false ∧ r.op ≠ opAuth
      ∧ ((arrived s r).session k).counter < r.counter
      ∧ ((arrived s r).session k).kept.find? (fun x => x.tag == r.tag) = none
      ∧ opReserved r.op = false ∧ r.lengthOk = true)
    (key : Bytes) (hm : r.mac = (hmacSha256 key (r.header ++ r.data)).take 16) (hkey : ((arrived s r).session k).key = key)
    (hu : (let t := ((arrived s r).setSession k fun z => { z with counter := r.counter }).inc Reg.IZ_CTL_REQUESTS
      let t := (t.wr Reg.IZ_SESSION_last_arrival 0 r.session t.now).arm (.session k.val)
        (t.now + t.rd Reg.IZ_CTL_idle_time * nsPerSec)
      t.ready = true ∧ t = u)) : s.admitReq r = .accepted u := by
  subst hkey
  obtain ⟨h0, hk, h1, hp, h2, h3, h4, h5, h6⟩ := h
  obtain ⟨h7, rfl⟩ := hu
  unfold arrived at *
  simp only [State.admitReq, if_neg h0, hk, h1, hp, ← hm, h3, h4, h5, h6, h7]
  simp [h2]

theorem req_mac (op index sub : Nat) (data : Bytes) (f : IzReq → IzReq) :
    (req op index sub data f).mac
      = (hmacSha256 [1] ((req op index sub data f).header ++ (req op index sub data f).data)).take 16 := rfl

theorem staged_bytes (n : Nat) : ((admitted (opened fun z => { z with staged := [(⟨0x1202, 0, 1⟩, List.replicate n 0)] })
    (req opWrite 0x1202 0 [2])).setSession 2 fun z =>
      { z with staged := [(⟨0x1202, 0, 1⟩, List.replicate n 0), (⟨0x1202, 0, 0⟩, [2])] }).stagedBytes = n + 1 := by
  show 0 + (0 + (((List.replicate n (0 : Byte)).length + (1 + 0)) + (0 + (0 + (0 + (0 + (0 + 0))))))) = n + 1
  rw [List.length_replicate]; omega

/-- A request of a session whose COUNTER is not above the last one is discarded. -/
theorem discards {s u : State} {r : IzReq} (k : SessionNo) (h : r.session ≠ 0 ∧ sessionNo r.session = some k
    ∧ r.counter ≤ ((arrived s r).session k).counter) (hu : (arrived s r).inc Reg.IZ_CTL_MAC_FAILS = u) :
    s.admitReq r = .discarded u := by
  obtain ⟨h0, hk, h1⟩ := h
  subst hu
  have : ¬ ((arrived s r).session k).counter < r.counter := by omega
  simp [State.admitReq, arrived, State.macFail, h0, hk] at *
  intros; omega

/-- A request to open a session is admitted. -/
theorem admits_open {s u : State} {r : IzReq} (h : r.session = 0 ∧ r.op = opOpen ∧ r.lengthOk = true)
    (hu : (arrived s r).inc Reg.IZ_CTL_REQUESTS = u) : s.admitReq r = .accepted u := by
  obtain ⟨h0, h1, h2⟩ := h
  subst hu
  simp [State.admitReq, arrived, h0, h1, h2, opReserved]

theorem takes {α β : Type} {x : α × β} {a : α} (h : x.1 = a) : x = (a, x.2) := by
  cases h; rfl

theorem longer {α : Type} (a : α) (l : List α) : a :: l ≠ l := by
  intro h; simpa using congrArg List.length h

theorem steps_bin (x : Int) : x / 2000000000 ≠ (x + 2000000000) / 2000000000 := by omega

/-! ## Commands that cannot be delivered -/

/-- A header whose fields all fit. -/
def goodHdr : Header := hdr 5 254 1 12

theorem test_wf_header : goodHdr.wf = true ∧ { goodHdr with ver := 4 }.wf = false ∧ { goodHdr with dst := 256 }.wf = false
    ∧ { goodHdr with src := 256 }.wf = false ∧ { goodHdr with type := 16 }.wf = false ∧ { goodHdr with pace := 32 }.wf = false
    ∧ { goodHdr with length := 2048 }.wf = false ∧ { goodHdr with colour := 4 }.wf = false
    ∧ { goodHdr with sa := 256 }.wf = false ∧ { goodHdr with seed := 8388608 }.wf = false
    ∧ { goodHdr with tag := 128 }.wf = false ∧ { goodHdr with frag := 4 }.wf = false
    ∧ { goodHdr with fragNo := 32 }.wf = false ∧ { goodHdr with seq := 4096 }.wf = false := by decide

theorem test_wf_frame : (rx goodHdr [1]).wf = true ∧ { rx goodHdr [1] with sync := 1 }.wf = false
    ∧ { rx goodHdr [1] with word := 2 ^ 128 }.wf = false ∧ { rx goodHdr [1] with snr := [1] }.wf = false
    ∧ { rx goodHdr [1] with snr := List.replicate 64 256 }.wf = false := by decide +kernel

theorem test_wf_requests : (req0 1 0 0 []).wf = true ∧ { req0 1 0 0 [] with op := 256 }.wf = false
    ∧ { req0 1 0 0 [] with session := 256 }.wf = false ∧ { req0 1 0 0 [] with tag := 65536 }.wf = false
    ∧ { req0 1 0 0 [] with index := 65536 }.wf = false ∧ { req0 1 0 0 [] with sub := 256 }.wf = false
    ∧ { req0 1 0 0 [] with count := 65536 }.wf = false ∧ { req0 1 0 0 [] with dataLen := 65536 }.wf = false
    ∧ { req0 1 0 0 [] with offset := 2 ^ 32 }.wf = false ∧ { req0 1 0 0 [] with rIndex := 65536 }.wf = false
    ∧ { req0 1 0 0 [] with rSub := 256 }.wf = false ∧ { req0 1 0 0 [] with counter := 2 ^ 64 }.wf = false
    ∧ (req0 1 0 0 (List.replicate 4096 0)).wf = false := by decide +kernel

theorem test_wf_measurements : ({ stamp := 1, snr := 0, power := 0 } : SyncMeas).wf = false := by decide

theorem test_wf_fault : (⟨1, 2, 3, 4, 5⟩ : FaultReport).wf = true ∧ (⟨65536, 2, 3, 4, 5⟩ : FaultReport).wf = false
    ∧ (⟨1, 256, 3, 4, 5⟩ : FaultReport).wf = false ∧ (⟨1, 2, 256, 4, 5⟩ : FaultReport).wf = false
    ∧ (⟨1, 2, 3, 256, 5⟩ : FaultReport).wf = false ∧ (⟨1, 2, 3, 4, 2 ^ 32⟩ : FaultReport).wf = false
    ∧ ({ present := true, crcOk := true, crc := 2 ^ 32, version := 0 } : PatchCheck).wf = false
    ∧ ({ present := true, crcOk := true, crc := 0, version := 2 ^ 32 } : PatchCheck).wf = false
    ∧ ({ recorded := 2 ^ 32, found := 0 } : RomCheck).wf = false ∧ ({ recorded := 0, found := 2 ^ 32 } : RomCheck).wf = false
    ∧ (⟨[], 0, 0⟩ : StationProbe).wf = false ∧ (⟨List.replicate 64 256, 0, 0⟩ : StationProbe).wf = false
    ∧ (⟨List.replicate 64 0, 2 ^ 64, 0⟩ : StationProbe).wf = false
    ∧ (⟨List.replicate 64 0, 0, 2 ^ 64⟩ : StationProbe).wf = false := by decide

theorem test_wf_time_parcel : (⟨0, 0, 255⟩ : TimeParcel).wf = true ∧ (⟨0, 0, 256⟩ : TimeParcel).wf = false
    ∧ (⟨0, 2 ^ 63, 0⟩ : TimeParcel).wf = false ∧ (⟨0, -2 ^ 63 - 1, 0⟩ : TimeParcel).wf = false := by decide

/-- One command too wide for each check that stands in the list of commands itself. -/
theorem test_wf_commands : (Instr.replicaRealign 65536).wf = false ∧ (Instr.eventRecordArrives 65536).wf = false
    ∧ (Instr.dpdTrainingEnd 0 [] 5).wf = false ∧ (Instr.headerDecision 0 (2 ^ 128) true none).wf = false
    ∧ (Instr.grantFormDecode 0 256 0 []).wf = false ∧ (Instr.grantFormDecode 0 0 1 []).wf = false
    ∧ (Instr.reassemblyTimeout 0 256 0).wf = false ∧ (Instr.reassemblyTimeout 0 0 128).wf = false
    ∧ (Instr.mgmtTimeout 0 256).wf = false ∧ (Instr.bellDetect 0 []).wf = false ∧ (Instr.listenEnd 0 []).wf = false
    ∧ (Instr.cellStale 0 163840).wf = false ∧ (Instr.queueFlush 4096).wf = false
    ∧ (Instr.flowCacheFill 1048576).wf = false ∧ (Instr.pfDetectPulse .up 16).wf = false
    ∧ (Instr.pfTrainBlock .up 0 []).wf = false ∧ (Instr.pfLacingDone .up 16 []).wf = false
    ∧ (Instr.pageRetire 2048 (.flowContext 0)).wf = false ∧ (Instr.thermosCheck [8] 0).wf = false
    ∧ (Instr.delayReqRx .up 256 0).wf = false ∧ (Instr.keyLoad (2 ^ 8 * 2 ^ 256)).wf = false ∧ (Instr.keyProg (2 ^ 256)).wf = false
    ∧ (Instr.portEnable 31).wf = true := by decide

theorem test_no_word_spells_a_command : decodeTableWord 16 0 = none ∧ State.reset.withFetchWord 16 0 = State.reset :=
  ⟨rfl, rfl⟩

/-! ## Worked examples -/

/-- The example under R3: the flow of tag 5 from station 17 on port 9. -/
theorem test_flow_number : flowNumber 9 17 5 = 297093 := by decide

/-- The example of chapter 02: 1,200 bytes at pace 14, B = 2 MHz, N = 1024, P = 128. -/
theorem test_coded_bits : codedBits 14 1200 = 19264 ∧ symbolCount ⟨3, 1, 1, 0⟩ 64 14 1200 = 6
    ∧ (⟨3, 1, 1, 0⟩ : Band).cp = 128 ∧ (⟨3, 1, 1, 0⟩ : Band).ns * (1024 + 128) = 576000 := by decide +kernel

/-- The example of chapter 03: 200 bytes at pace 4, B = 1 MHz, N = 1024, P = 64. -/
theorem test_air_time : airLong ⟨2, 1, 0, 0⟩ 4 200 = 33216000 := by decide +kernel

/-- The example under R73: seed 0x7F_FFFF gives eighteen zeros, five ones and a zero first. -/
theorem test_scrambler : (scramble 0x7FFFFF (List.replicate 24 false)).1 = bitsBe 24 0x00003E := by decide +kernel

/-- The example of chapter 10: the header of a READ of the ERLE of port 5. -/
theorem test_request_header : { req0 1 0x214D 2 [] with session := 3, tag := 0x41, counter := 0x105 }.header
      = [1, 0, 0, 3, 0, 0x41, 0x21, 0x4D, 2, 0, 0, 0, 0, 1, 0, 0, 0, 0, 0, 0, 0, 0, 0, 0, 0, 0, 0, 0, 1, 5, 0, 0] := by
  decide +kernel

/-- The example of chapter 08, its colours: meter 4,000, HYBRID, frames F1, F2 and F5. -/
theorem test_meter_colours : meterColour false 1 (2000 * 65536) (4000 * 65536) (1500 * 65536) = 0
    ∧ meterColour true 0 (600 * 65536) (2700 * 65536) (1200 * 65536) = 1
    ∧ meterColour false 0 (300 * 65536) (1100 * 65536) (1400 * 65536) = 2 := by decide

/-- CRC-32 and CRC-32C of the digits 1 to 9, their published check values. -/
theorem test_crc : crc32 [0x31, 0x32, 0x33, 0x34, 0x35, 0x36, 0x37, 0x38, 0x39] = 0xCBF43926
    ∧ crc32c [0x31, 0x32, 0x33, 0x34, 0x35, 0x36, 0x37, 0x38, 0x39] = 0xE3069283
    ∧ crc16 [0x31, 0x32, 0x33, 0x34, 0x35, 0x36, 0x37, 0x38, 0x39] = 0x29B1 := by decide +kernel

/-- Table 2.7: pace 0 at 0.25 MHz carries 1.81 kb/s, pace 23 at 4 MHz 24.7 Mb/s, rounded. -/
theorem test_coded_rate : (let r := codedRate ⟨0, 1, 0, 16⟩ 0 64; r.1 / r.2 = 1809)
    ∧ (let r := codedRate ⟨4, 0, 0, 16⟩ 23 64; r.1 / (r.2 * 10000) = 2470) := by decide +kernel

/-- R376: a parcel of 12 bytes is START with 7 bytes and TERMINATE with 5; a data block outside a parcel is no parcel. -/
theorem test_parcel_blocks : (parcelBlocks (List.replicate 12 9)).map (fun x => uAt x.payload 0 1) = [0x78, 0x85]
    ∧ parcelsOf (dataBlock (List.replicate 8 9) :: parcelBlocks (List.replicate 12 9)) = [List.replicate 12 9]
    ∧ parcelsOf (controlBlock 0x78 [] :: parcelBlocks (List.replicate 12 9)) = [] := by decide +kernel

/-- FIPS 180-4: SHA-256 of abc. -/
theorem test_sha256 : sha256 [0x61, 0x62, 0x63]
    = be 32 0xba7816bf8f01cfea414140de5dae2223b00361a396177a9cb410ff61f20015ad := by decide +kernel

/-- FIPS 197, appendix C.1. -/
theorem test_aes128 : aes128 (be 16 0x000102030405060708090a0b0c0d0e0f) (be 16 0x00112233445566778899aabbccddeeff)
    = be 16 0x69c4e0d86a7b0430d8cdb78070b4c55a := by decide +kernel

/-- RFC 3610, packet vector 1, whose tag and length field are those of R140. -/
theorem test_ccm : ccmEncrypt (be 16 0xC0C1C2C3C4C5C6C7C8C9CACBCCCDCECF) (be 13 0x00000003020100A0A1A2A3A4A5)
    (be 8 0x0001020304050607) (be 23 0x08090A0B0C0D0E0F101112131415161718191A1B1C1D1E)
    = be 31 0x588C979A61C663D2F066D0C2C0F989806D5F6B61DAC38417E8D12CFDF926E0 := by decide +kernel

/-! ## States that meet the hypotheses of the statements -/


theorem witness_EmptyQueueTicks :
    ∃ s : State, s.pending = [] :=
  ⟨dev, by decide +kernel⟩

theorem witness_QueueFirstInFirstOut :
    ∃ s t : State, step s = .next t :=
  ⟨(dev.push .refillTick).push .tamper, nextOf (step ((dev.push .refillTick).push .tamper)), eq_nextOf
    (by decide +kernel)⟩

theorem witness_HamperIsolated :
    ∃ s t : State, step s = .next t ∧ ((∀ i, s.pending.head? = some i → hamperDie i = false)) :=
  ⟨dev.push .refillTick, nextOf (step (dev.push .refillTick)), eq_nextOf (by decide +kernel), by rintro i ⟨⟩; rfl⟩

theorem witness_FusesHold :
    (∃ s t : State, step s = .next t ∧ ((∀ i, s.pending.head? = some i → blowsFuses i = false)))
    ∧ (∃ (s t : State) (role : Nat), step s = .next t ∧ (s.fuses.roleKey role).status ≠ 0) :=
  ⟨⟨dev.push (.keyLoad 7), nextOf (step (dev.push (.keyLoad 7))), eq_nextOf (by decide +kernel), by rintro i ⟨⟩; rfl⟩,
    ⟨{ dev with fuses := { dev.fuses with engineer := ⟨1, 5, 0⟩ }, pending := [.keyProg 5] }, nextOf (step
    { dev with fuses := { dev.fuses with engineer := ⟨1, 5, 0⟩ }, pending := [.keyProg 5] }), 2, eq_nextOf
    (by decide +kernel), by decide +kernel⟩⟩

theorem witness_LifeCycleAscends :
    ∃ s t : State, s.lifeCycleOk = true ∧ step s = .next t :=
  ⟨{ dev with fuses := { dev.fuses with lifeCycle := 0 }, pending := [.lcAdvance] }, nextOf (step
    { dev with fuses := { dev.fuses with lifeCycle := 0 }, pending := [.lcAdvance] }), by decide +kernel, eq_nextOf
    (by decide +kernel)⟩

theorem witness_HamperSealAndCountsHold :
    (∃ s t : State, step s = .next t ∧ s.hamper.sealed = true)
    ∧ (∃ s t : State, step s = .next t ∧ s.hamper.snapCount < 4294967295) :=
  ⟨⟨(metering fun h => { h with sealed := true, config := config }).push .tamper, nextOf (step ((metering fun h =>
    { h with sealed := true, config := config }).push .tamper)), eq_nextOf (by decide +kernel), by decide +kernel⟩,
    ⟨metering.push .vhmpLoss, nextOf (step (metering.push .vhmpLoss)), eq_nextOf (by decide +kernel),
    by decide +kernel⟩⟩

theorem witness_ObjectsKeepForm :
    ∃ s t : State, Store.wf 0 s.regs = true ∧ Store.wf [] s.blobs = true ∧ step s = .next t :=
  ⟨dev.push (.portDisable 31), nextOf (step (dev.push (.portDisable 31))), by decide +kernel, by decide +kernel,
    eq_nextOf (by decide +kernel)⟩

theorem witness_MessagesRoundTrip :
    (∃ h : Header, h.wf = true)
    ∧ (∃ p : Parcel, p.type < 16 ∧ p.vc < 4 ∧ p.dir < 2 ∧ p.devnum < 16 ∧ p.lseq < 4096 ∧ p.payload.length < 4096)
    ∧ (∃ t : Stamp, 0 ≤ t ∧ t < 281474976710656 * nsPerSec)
    ∧ (∃ key : Bytes, key.length = 16)
    ∧ (∃ a b : Bytes, 7 ≤ a.length ∧ 7 ≤ b.length) :=
  ⟨⟨goodHdr, by decide +kernel⟩,
    ⟨⟨15, 3, 1, true, 15, true, 4095, [1]⟩, by decide +kernel⟩,
    ⟨281474976710655 * 1000000000 + 999999999, by decide +kernel⟩,
    ⟨List.replicate 16 7, by decide +kernel⟩,
    ⟨List.replicate 7 1, List.replicate 20 2, by decide +kernel⟩⟩

theorem witness_StationTimeCompletes :
    (∃ (s : State) (sec : Int) (named : Stamp), s.runs = true ∧ s.flag Reg.TSYNC_PPS_IN = true ∧ s.time.tod = some
      (sec, named) ∧ named + 100000000 ≤ s.now ∧ s.rd Reg.TIME_SOURCE ≠ 1)
    ∧ (∃ s : State, s.runs = true ∧ s.passed .todEdge = true)
    ∧ (∃ s : State, s.runs = true ∧ s.passed .sourceLost = true ∧ s.rd Reg.TIME_QUALITY_state = tqLocked)
    ∧ (∃ s : State, s.runs = true ∧ s.flag Reg.TSYNC_OUT = true ∧ s.now % nsPerSec ≤ 8 ∧ s.time.lastSecond ≠ s.now /
      nsPerSec)
    ∧ (∃ s : State, s.runs = true ∧ s.flag Reg.TSYNC_TIMER = true ∧ s.rd Reg.TSYNC_TIMER_AT ≤ s.now ∧ s.now ≤ s.rd
      Reg.TSYNC_TIMER_AT + 8 ∧ s.time.timerFired ≠ some (s.rd Reg.TSYNC_TIMER_AT))
    ∧ (∃ (s : State) (src : Nat), s.runs = true ∧ src ∈ s.time.unaligned ∧ s.stoppedSource src = false)
    ∧ (∃ (s : State) (sec : Int) (named : Stamp), s.runs = true ∧ s.flag Reg.TSYNC_PPS_IN = true ∧ s.time.tod = some
      (sec, named) ∧ named + 100000000 ≤ s.now ∧ s.rd Reg.TIME_SOURCE = 1 ∧ s.rd Reg.TIME_QUALITY_state ≠ tqUnset ∧
      (sec * nsPerSec - (s.now - s.rd Reg.TSYNC_DELAY)).natAbs ≤ 1000000)
    ∧ (∃ (s u : State) (r : IzReq) (x : Obj × Nat × List (Nat × Bytes)), s.takes r = true ∧ writes r 0x1200 = true ∧
      s.admitReq r = .accepted u ∧ u.checkWrite r = .ok x ∧ s.rd Reg.TIME_SOURCE ≠ 2)
    ∧ (∃ (s u : State) (r : IzReq) (x : Obj × Nat × List (Nat × Bytes)), s.takes r = true ∧ writes r 0x1200 = true ∧
      s.admitReq r = .accepted u ∧ u.checkWrite r = .ok x ∧ s.rd Reg.TIME_SOURCE = 2 ∧ s.rd Reg.TIME_QUALITY_state ≠
      tqUnset ∧ (stampOf r.data - s.time.now).natAbs ≤ 1000000)
    ∧ (∃ (s u : State) (r : IzReq) (x : Obj × Nat × List (Nat × Bytes)), s.takes r = true ∧ writes r 0x1204 = true ∧
      s.admitReq r = .accepted u ∧ u.checkWrite r = .ok x)
    ∧ (∃ (s : State) (p : TimeParcel) (off : Int), s.pfRuns = true ∧ s.linkUp s.hostSide = true ∧ s.rd Reg.TIME_SOURCE
      = 0 ∧ s.rd Reg.TIME_QUALITY_state ≠ tqUnset ∧ off = p.origin + roundDiv (p.correction + s.rd
      Reg.PF_PORT_link_delay s.hostSide.n * 65536) 65536 - s.time.now ∧ off.natAbs ≤ 1000000)
    ∧ (∃ s : State, s.pfRuns = true ∧ s.linkUp s.hostSide = true ∧ s.rd Reg.TIME_SOURCE ≠ 0 ∧ s.isHead = false)
    ∧ (∃ s : State, s.pfRuns = true ∧ s.isHead = true ∧ s.rd Reg.TIME_SOURCE ≠ 0 ∧ s.due .timeTx = true ∧ s.pfState
      .down = pfActive ∧ s.partnerRole .down ≠ 3 ∧ (s.link .down).frozen = false ∧ (s.link .down).sendQ = [] ∧ ((∀ vc <
      4, s.fifo .down vc = [])) ∧ (s.link .down).admits
      { bcastCtrl (timePayload s.now 0 (s.rdN Reg.TIME_QUALITY_state)) with type := 4 } = true) :=
  ⟨⟨(dev.wr Reg.TSYNC_PPS_IN 0 0 1).setTime fun f => { f with tod := some (1001, 999900000000) }, 1001, 999900000000,
    by decide +kernel⟩,
    ⟨dev.arm .todEdge 999999999999, by decide +kernel⟩,
    ⟨(dev.arm .sourceLost 999999999999).wr Reg.TIME_QUALITY_state 0 0 1, by decide +kernel⟩,
    ⟨dev.wr Reg.TSYNC_OUT 0 0 1, by decide +kernel⟩,
    ⟨(dev.wr Reg.TSYNC_TIMER 0 0 1).wr Reg.TSYNC_TIMER_AT 0 0 1000000000000, by decide +kernel⟩,
    ⟨dev.setTime fun f => { f with unaligned := [3] }, 3, by decide +kernel⟩,
    ⟨(((dev.wr Reg.TSYNC_PPS_IN 0 0 1).wr Reg.TIME_SOURCE 0 0 1).wr Reg.TIME_QUALITY_state 0 0 3).setTime fun f =>
    { f with now := 999999000000, tod := some (1000, 999800000000) }, 1000, 999800000000, by decide +kernel⟩,
    ⟨opened, admitted (opened) (req opWrite 0x1200 0 (be 6 1000 ++ be 4 1000000)), req opWrite 0x1200 0 (be 6 1000 ++
    be 4 1000000), (Reg.STATION_TIME, 0, [(0, be 6 1000 ++ be 4 1000000)]), by decide +kernel, by decide +kernel,
    admits 2 (by decide +kernel) [1] (req_mac ..) (by decide +kernel) (by decide +kernel), ok_of (by decide +kernel),
    by decide +kernel⟩,
    ⟨((opened.wr Reg.TIME_SOURCE 0 0 2).wr Reg.TIME_QUALITY_state 0 0 tqLocked), admitted (((opened.wr Reg.TIME_SOURCE
    0 0 2).wr Reg.TIME_QUALITY_state 0 0 tqLocked)) (req opWrite 0x1200 0 (be 6 1000 ++ be 4 1000000)), req opWrite
    0x1200 0 (be 6 1000 ++ be 4 1000000), (Reg.STATION_TIME, 0, [(0, be 6 1000 ++ be 4 1000000)]), by decide +kernel,
    by decide +kernel, admits 2 (by decide +kernel) [1] (req_mac ..) (by decide +kernel) (by decide +kernel), ok_of
    (by decide +kernel), by decide +kernel, by decide +kernel, by decide +kernel⟩,
    ⟨opened, admitted (opened) (req opWrite 0x1204 0 (be 6 1001 ++ be 4 0)), req opWrite 0x1204 0 (be 6 1001 ++ be 4
    0), (Reg.TSYNC_TOD, 0, [(0, be 6 1001 ++ be 4 0)]), by decide +kernel, by decide +kernel, admits 2
    (by decide +kernel) [1] (req_mac ..) (by decide +kernel) (by decide +kernel), ok_of (by decide +kernel)⟩,
    ⟨((chain 0 3).wr Reg.TIME_SOURCE 0 0 0).wr Reg.TIME_QUALITY_state 0 0 tqLocked, ⟨1000001000000 - 100, 100 * 65536,
    3⟩, 1000000, by decide +kernel⟩,
    ⟨(chain 0 3).wr Reg.TIME_SOURCE 0 0 1, by decide +kernel⟩,
    ⟨(headChain.wr Reg.TIME_SOURCE 0 0 1).setLink .down fun q => { q with limits := [512, 512, 512, 512] },
    by decide +kernel⟩⟩

theorem witness_RecordsAndHouseFrameComplete :
    (∃ (s : State) (src : Nat) (r : Rec) (rest : List Rec), s.runs = true ∧ takeFirst src s.merge.crossing = some (r,
      rest) ∧ s.now ≤ r.stamp + 64000)
    ∧ (∃ (s : State) (src : Nat) (r : Rec) (rest : List Rec), s.runs = true ∧ takeFirst src s.merge.crossing = some (r,
      rest) ∧ r.stamp + 64000 < s.now)
    ∧ (∃ s u : State, s.runs = true ∧ (s.house.frames = 0 ∨ (s.house.slot = 15 ∧ s.house.slotAt + slotNs ≤
      s.time.mono)) ∧ u = (if s.applyWanted .houseFrame = true then s.applyIsland .houseFrame else s))
    ∧ (∃ s : State, s.runs = true ∧ 0 < s.house.frames ∧ s.house.slot < 15 ∧ s.house.slotAt + slotNs ≤ s.time.mono)
    ∧ (∃ s : State, s.runs = true ∧ 0 < s.house.frames ∧ s.house.slot < 9 ∧ s.house.slotAt + slotNs ≤ s.time.mono)
    ∧ (∃ s : State, s.runs = true ∧ s.house.lent = true)
    ∧ (∃ (s : State) (i : Island), s.runs = true ∧ s.applyWanted i = true ∧ s.applyPoint i = true)
    ∧ (∃ (s : State) (c : Commit) (b : Bytes), s.runs = true ∧ s.steward = true ∧ s.iz.active = some c ∧ s.iz.remaining
      = [.steward] ∧ s.iz.direct = [] ∧ s.iz.queue = [] ∧ c.values = [(Reg.IZ_CTL_idle_time.addr, b)] ∧ s.iz.ramping =
      [] ∧ s.qm.flowWrites = [] ∧ ((∀ p, s.lineOwes p = false))) :=
  ⟨⟨dev.setMerge fun f => { f with crossing := [⟨999999936000, 3, 0x0101, 0, []⟩] }, 3, ⟨999999936000, 3, 0x0101, 0,
    []⟩, [], by decide +kernel⟩,
    ⟨dev.setMerge fun f => { f with crossing := [⟨999999935996, 3, 0x0101, 0, []⟩] }, 3, ⟨999999935996, 3, 0x0101, 0,
    []⟩, [], by decide +kernel⟩,
    ⟨dev, dev, by decide +kernel⟩,
    ⟨dev.setHouse fun f => { f with frames := 1, slot := 14, slot15 := 1, slotAt := 999999937500 }, by decide +kernel⟩,
    ⟨dev.setHouse fun f => { f with frames := 1, slot := 8, slotAt := 999999937500 }, by decide +kernel⟩,
    ⟨dev.setHouse fun f => { f with lent := true }, by decide +kernel⟩,
    ⟨dev.setIz fun f => { f with active := some ⟨1, .up, 1, 1, [], 0⟩, remaining := [.powerController] },
    .powerController, by decide +kernel⟩,
    ⟨dev.setIz fun f =>
    { f with active := some ⟨1, .up, 1, 1, [(Reg.IZ_CTL_idle_time.addr, be 4 900)], 0⟩, remaining := [.steward] }, ⟨1,
    .up, 1, 1, [(Reg.IZ_CTL_idle_time.addr, be 4 900)], 0⟩, be 4 900, by decide +kernel⟩⟩

theorem witness_ReleaseInStampOrder :
    ∃ s : State, s.runs = true ∧ s.releasable ≠ [] :=
  ⟨dev.setMerge fun f => { f with held := [⟨999999936000, 3, 0x0101, 0, []⟩] }, by decide +kernel⟩

theorem witness_TrainingAndRecalibrationComplete :
    (∃ (s : State) (p : Port), s.runs = true ∧ s.rd Reg.LP_DPD_state p ≠ 1 ∧ (s.flag Reg.LP_DPD_train p = true ∨
      (s.port p).dpd.lineDriverCleared = true ∨ s.inStep4 p = true))
    ∧ (∃ (s : State) (p : Port) (coefs : Bytes), s.runs = true ∧ s.rd Reg.LP_DPD_state p = 1 ∧ 80000000 ≤ s.dpdTime p ∧
      coefs.length = 80)
    ∧ (∃ (s : State) (p : Port) (coefs : Bytes), s.runs = true ∧ s.rd Reg.LP_DPD_state p = 1 ∧ 80000000 ≤ s.dpdTime p ∧
      coefs.length = 80)
    ∧ (∃ (s : State) (p : Port), s.runs = true ∧ s.rd Reg.LP_DPD_state p = 1 ∧ s.passed (.dpd p.val) = true ∧ s.dpdTime
      p < 80000000)
    ∧ (∃ (s : State) (p : Port), s.runs = true ∧ s.rd Reg.LP_DPD_state p = 1 ∧ s.passed (.dpd p.val) = true ∧ s.dpdTime
      p < 80000000)
    ∧ (∃ (s : State) (p : Port), s.runs = true ∧ s.reached (.recal p.val) = true ∧ (s.port p).cal.due = false)
    ∧ (∃ (s : State) (p : Port), s.runs = true ∧ s.reached (.recal p.val) = true ∧ (s.port p).cal.due = true)
    ∧ (∃ (s : State) (p : Port), s.runs = true ∧ (s.port p).cal.restored ≠ 0)
    ∧ (∃ (s : State) (p : Port), s.runs = true ∧ (s.port p).cal.waiting = true ∧ s.between p = true ∧ s.rd
      Reg.LP_HYBRID_setting p = (s.port p).hybrid)
    ∧ (∃ (s : State) (p : Port), s.runs = true ∧ (s.port p).cal.waiting = true ∧ s.between p = true ∧ s.rd
      Reg.LP_HYBRID_setting p ≠ (s.port p).hybrid)
    ∧ (∃ s : State, s.runs = true ∧ 2 ≤ s.rd Reg.BOOT_STATE_state ∧ s.due .refres = true)
    ∧ (∃ (s : State) (hz : Nat), s.runs = true ∧ 2 ≤ s.rd Reg.BOOT_STATE_state ∧ (s.due .refclk = true ∨ s.refclkAsked
      = true) ∧ (hz < 24500000 ∨ 25500000 < hz))
    ∧ (∃ (s : State) (hz : Nat), s.runs = true ∧ s.rd Reg.BOOT_STATE_state = 2 ∧ (s.due .refclk = true ∨ s.refclkAsked
      = true) ∧ 24500000 ≤ hz ∧ hz ≤ 25500000)
    ∧ (∃ (s : State) (hz : Nat), s.runs = true ∧ 2 < s.rd Reg.BOOT_STATE_state ∧ (s.due .refclk = true ∨ s.refclkAsked
      = true) ∧ 24500000 ≤ hz ∧ hz ≤ 25500000) :=
  ⟨⟨dev.wr Reg.LP_DPD_train 31 0 1, 31, by decide +kernel⟩,
    ⟨(dev.wr Reg.LP_DPD_state 31 0 1).setPort 31 fun q => { q with dpd := { q.dpd with txTime := 80000000 } }, 31,
    List.replicate 80 1, by decide +kernel⟩,
    ⟨((portIn 31 stCal).wr Reg.LP_DPD_state 31 0 1).setPort 31 fun q =>
    { q with dpd := { q.dpd with txTime := 80000000 }, cal := { q.cal with step := 4 } }, 31, List.replicate 80 1,
    by decide +kernel⟩,
    ⟨(dev.wr Reg.LP_DPD_state 31 0 1).arm (.dpd 31) 999999999999, 31, by decide +kernel⟩,
    ⟨(((portIn 31 stCal).wr Reg.LP_DPD_state 31 0 1).setPort 31 fun q =>
    { q with cal := { q.cal with step := 4 } }).arm (.dpd 31) 999999999999, 31, by decide +kernel⟩,
    ⟨dev.arm (.recal 31) 1000000000000, 31, by decide +kernel⟩,
    ⟨((dev).setCal 31 fun q => { q with due := true }).arm (.recal 31) 1000000000000, 31, by decide +kernel⟩,
    ⟨(dev).setCal 31 fun q => { q with restored := 23 }, 31, by decide +kernel⟩,
    ⟨(dev).setCal 31 fun q => { q with waiting := true }, 31, by decide +kernel⟩,
    ⟨((dev).setCal 31 fun q => { q with waiting := true }).wr Reg.LP_HYBRID_setting 31 0 3276801 |>.wr Reg.LP_EC_state
    31 0 ecTracking, 31, by decide +kernel⟩,
    ⟨dev, by decide +kernel⟩,
    ⟨dev, 25500001, by decide +kernel⟩,
    ⟨dev.wr Reg.BOOT_STATE_state 0 0 2, 24500000, by decide +kernel⟩,
    ⟨dev, 24500000, by decide +kernel⟩⟩

theorem witness_AcquisitionCompletes :
    (∃ (s : State) (p : Port) (r : SyncRun) (y : SyncMeas), s.runs = true ∧ s.hears p = true ∧ (s.port p).cal.runBusy =
      false ∧ oneSync (s.port p).band (5 * s.rd Reg.LP_ACQ_sync_threshold p) r = y ∧ 5 * s.rd Reg.LP_ACQ_sync_threshold
      p ≤ y.snr ∧ (s.port p).sound.blankUntil ≤ y.stamp ∧ (s.port p).detected = [] ∧ (s.port p).resumedAt = none ∧
      (s.port p).held = none)
    ∧ (∃ (s : State) (p : Port) (r : SyncRun) (y : SyncMeas), s.runs = true ∧ s.hears p = true ∧ (s.port p).cal.runBusy
      = false ∧ oneSync (s.port p).band (5 * s.rd Reg.LP_ACQ_sync_threshold p) r = y ∧ 5 * s.rd
      Reg.LP_ACQ_sync_threshold p ≤ y.snr ∧ (s.port p).sound.blankUntil ≤ y.stamp ∧ (s.port p).detected = [] ∧ (s.port
      p).resumedAt = none ∧ (s.port p).held = none)
    ∧ (∃ (s : State) (p : Port) (r : SyncRun) (y : SyncMeas) (h : Held), s.runs = true ∧ s.hears p = true ∧ (s.port
      p).cal.runBusy = false ∧ oneSync (s.port p).band (5 * s.rd Reg.LP_ACQ_sync_threshold p) r = y ∧ 5 * s.rd
      Reg.LP_ACQ_sync_threshold p ≤ y.snr ∧ (s.port p).sound.blankUntil ≤ y.stamp ∧ (s.port p).detected = [] ∧ (s.port
      p).resumedAt = none ∧ (s.port p).held = some h ∧ h.header = none ∧ y.power < h.power + 5 * s.rd
      Reg.LP_ACQ_capture_margin p)
    ∧ (∃ (s : State) (p : Port) (r : SyncRun) (y : SyncMeas) (h : Held), s.runs = true ∧ s.hears p = true ∧ (s.port
      p).cal.runBusy = false ∧ oneSync (s.port p).band (5 * s.rd Reg.LP_ACQ_sync_threshold p) r = y ∧ 5 * s.rd
      Reg.LP_ACQ_sync_threshold p ≤ y.snr ∧ (s.port p).sound.blankUntil ≤ y.stamp ∧ (s.port p).detected = [] ∧ (s.port
      p).resumedAt = none ∧ (s.port p).held = some h ∧ (s.port p).waiting = [] ∧ (h.header = none ∨ y.stamp + 2560 *
      (s.port p).band.ns ≤ h.finish) ∧ h.power + 5 * s.rd Reg.LP_ACQ_capture_margin p ≤ y.power)
    ∧ (∃ (s : State) (p : Port) (word : Nat) (h : Held), s.runs = true ∧ s.hears p = true ∧ (s.port p).held = some h ∧
      h.header = none ∧ checkMatches word = true ∧ (Header.ofWord word).src ≠ 0 ∧ granting (s.windowTypeAt p h.sync) =
      false ∧ headerLegalUp 64 (Header.ofWord word) = true)
    ∧ (∃ (s : State) (p : Port) (word : Nat) (h : Held), s.runs = true ∧ s.hears p = true ∧ (s.port p).held = some h ∧
      h.header = none ∧ checkMatches word = true ∧ (Header.ofWord word).src = 0 ∧ granting (s.windowTypeAt p h.sync) =
      false ∧ headerLegalDown (Header.ofWord word) = true)
    ∧ (∃ (s : State) (p : Port) (word : Nat) (h : Held), s.runs = true ∧ s.hears p = true ∧ (s.port p).held = some h ∧
      h.header = none ∧ checkMatches word = true ∧ (Header.ofWord word).src = 0 ∧ granting (s.windowTypeAt p h.sync) =
      false ∧ headerLegalDown (Header.ofWord word) = true)
    ∧ (∃ (s : State) (p : Port) (word : Nat) (converged : Bool) (h : Held), s.runs = true ∧ s.hears p = true ∧ (s.port
      p).held = some h ∧ h.header = none ∧ (s.port p).waiting = [] ∧ (converged = false ∨ checkMatches word = false))
    ∧ (∃ (s : State) (p : Port) (word : Nat) (h : Held), s.runs = true ∧ s.hears p = true ∧ (s.port p).held = some h ∧
      h.header = none ∧ (s.port p).waiting = [] ∧ checkMatches word = true ∧ (Header.ofWord word).src ≠ 0 ∧ granting
      (s.windowTypeAt p h.sync) = true)
    ∧ (∃ (s : State) (p : Port) (word : Nat) (h : Held), s.runs = true ∧ s.hears p = true ∧ (s.port p).held = some h ∧
      h.header = none ∧ (s.port p).waiting = [] ∧ checkMatches word = true ∧ (Header.ofWord word).src ≠ 0 ∧ granting
      (s.windowTypeAt p h.sync) = false ∧ headerLegalUp 64 (Header.ofWord word) = false)
    ∧ (∃ (s u : State) (p : Port) (a : Nat) (at' : Stamp) (rx : List LineRx) (g : Granted) (n : Nat), s.runs = true ∧
      s.hears p = true ∧ at' ≤ s.now ∧ ((s.port p).grants.find? fun g => g.a == a && decide (g.at' = at')) = some g ∧
      (s.setPort p fun q => { q with grants := q.grants.erase g }).grantFrames p g rx at' 0 = (n, u))
    ∧ (∃ (s : State) (p : Port) (a : Nat) (at' : Stamp) (rx : List LineRx) (g : Granted), s.runs = true ∧ s.hears p =
      true ∧ at' ≤ s.now ∧ ((s.port p).grants.find? fun g => g.a == a && decide (g.at' = at')) = some g ∧ ((∀ f,
      rx.head? = some f → f.headerOk = false ∨ checkMatches f.word = false ∨ (s.port p).band.cp * (s.port p).band.ns <
      (f.sync - at').natAbs)))
    ∧ (∃ (s : State) (p : Port) (src tag : Nat) (d : Stamp), s.runs = true ∧ s.deadline (.reassembly p.val src tag) =
      some d ∧ d < s.now ∧ s.resolvedTo p d = true)
    ∧ (∃ (s : State) (p : Port) (hits : List Bool), (s.runs = true ∨ (s.live = true ∧ s.power.mode = 2 ∧
      s.power.detectors = true)) ∧ hits.length = 16 ∧ 12 ≤ (hits.filter id).length ∧ (s.portState p = stService ∨
      s.portState p = stQuiet ∨ s.portState p = stParked) ∧ (s.port p).sound.blankUntil ≤ s.now ∧ ((s.port
      p).cal.runBusy = false ∨ (s.port p).cal.step ≠ 5)) :=
  ⟨⟨portIn 31 stService, 31, ⟨⟨999999990000, 5 * (portIn 31 stService).rd Reg.LP_ACQ_sync_threshold 31, -300⟩, []⟩,
    ⟨999999990000, 5 * (portIn 31 stService).rd Reg.LP_ACQ_sync_threshold 31, -300⟩, by decide +kernel⟩,
    ⟨portIn 31 stListen, 31, ⟨⟨999999990000, 5 * (portIn 31 stListen).rd Reg.LP_ACQ_sync_threshold 31, -300⟩, []⟩,
    ⟨999999990000, 5 * (portIn 31 stListen).rd Reg.LP_ACQ_sync_threshold 31, -300⟩, by decide +kernel⟩,
    ⟨(portIn 31 stService).setPort 31 fun q => { q with held := some { sync := 999999980000, power := -300 } }, 31,
    ⟨⟨999999990000, 200, -310⟩, []⟩, ⟨999999990000, 200, -310⟩, { sync := 999999980000, power := -300 },
    by decide +kernel⟩,
    ⟨(portIn 31 stService).setPort 31 fun q => { q with held := some { sync := 999999980000, power := -300 } }, 31,
    ⟨⟨999999990000, 200, 100⟩, [⟨999999990003, 5, 900⟩, ⟨999999990003, 150, 90⟩]⟩, ⟨999999990000, 200, 100⟩,
    { sync := 999999980000, power := -300 }, by decide +kernel⟩,
    ⟨(portIn 31 stService).setPort 31 fun q => { q with held := some { sync := 999999990000, power := -300 } }, 31,
    (hdr 0 5 tyData 100).word, { sync := 999999990000, power := -300 }, by decide +kernel⟩,
    ⟨(portIn 31 stService).setPort 31 fun q => { q with held := some { sync := 999999990000, power := -300 } }, 31,
    (hdr 5 0 tyData 100).word, { sync := 999999990000, power := -300 }, by decide +kernel⟩,
    ⟨(portIn 31 stListen).setPort 31 fun q => { q with held := some { sync := 999999990000, power := -300 } }, 31, (hdr
    255 0 tyBeacon 40).word, { sync := 999999990000, power := -300 }, by decide +kernel⟩,
    ⟨(portIn 31 stService).setPort 31 fun q => { q with held := some { sync := 999999990000, power := -300 } }, 31, 0,
    false, { sync := 999999990000, power := -300 }, by decide +kernel⟩,
    ⟨(((portIn 31 stService).wr Reg.ITIN_OP_windows 31 0 (wUpAllot * 2 ^ 56 + 1000 : Nat)).wr Reg.ITIN_OP_windows 31 1
    (wUpAllot * 2 ^ 56 + 1000 : Nat)).setPort 31 fun q =>
    { q with held := some { sync := 999999990000, power := -300 } }, 31, (hdr 0 5 tyData 100).word,
    { sync := 999999990000, power := -300 }, by decide +kernel⟩,
    ⟨(portIn 31 stService).setPort 31 fun q => { q with held := some { sync := 999999990000, power := -300 } }, 31,
    (hdr 3 5 tyData 100).word, { sync := 999999990000, power := -300 }, by decide +kernel⟩,
    ⟨(portIn 31 stService).setPort 31 fun q =>
    { q with grants := [⟨5, 999999990000, 1000000000000, 2 ^ 64 - 1, 0, false, false⟩] }, (((portIn 31
    stService).setPort 31 fun q => { q with grants := [] }).grantFrames 31 ⟨5, 999999990000, 1000000000000, 2 ^ 64 - 1,
    0, false, false⟩ [rx (hdr 0 5 tyData 8) (List.replicate 8 0)] 999999990000 0).2, 31, 5, 999999990000, [rx (hdr 0 5
    tyData 8) (List.replicate 8 0)], ⟨5, 999999990000, 1000000000000, 2 ^ 64 - 1, 0, false, false⟩, 1,
    by decide +kernel⟩,
    ⟨(portIn 31 stService).setPort 31 fun q =>
    { q with grants := [⟨5, 1000000000000, 1000000100000, 2 ^ 64 - 1, 0, false, false⟩] }, 31, 5, 1000000000000, [],
    ⟨5, 1000000000000, 1000000100000, 2 ^ 64 - 1, 0, false, false⟩, by decide +kernel, by decide +kernel,
    by decide +kernel, by decide +kernel, by intro f h; cases h⟩,
    ⟨((portIn 31 stService).arm (.reassembly 31 5 1) 999000000000).setPort 31 fun q =>
    { q with reasm := [⟨5, 1, tyData, 0, 0, 0, 1, []⟩] }, 31, 5, 1, 999000000000, by decide +kernel⟩,
    ⟨portIn 31 stService, 31, List.replicate 12 true ++ List.replicate 4 false, by decide +kernel⟩⟩

theorem witness_UpstreamFramesAndKeysComplete :
    (∃ (s u v : State) (p : Port) (f : LineRx) (plain data : Bytes), s.runs = true ∧ s.hears p = true ∧ s.awaitsType p
      f tyData = true ∧ s.takeRx p f = (some plain, u) ∧ u.portState p = stService ∧ u.fragment p (Header.ofWord
      f.word) f.sync plain = (some data, v))
    ∧ (∃ (s u v : State) (p : Port) (f : LineRx) (plain : Bytes), s.runs = true ∧ s.hears p = true ∧ s.awaitsType p f
      tyData = true ∧ s.takeRx p f = (some plain, u) ∧ u.portState p = stService ∧ u.fragment p (Header.ofWord f.word)
      f.sync plain = (none, v))
    ∧ (∃ (s u : State) (p : Port) (f : LineRx), s.runs = true ∧ s.hears p = true ∧ s.awaitsType p f tyData = true ∧
      s.takeRx p f = (none, u))
    ∧ (∃ (s u v : State) (p : Port) (f : LineRx) (plain b : Bytes) (o : Outstanding) (d : Stamp), s.runs = true ∧
      s.hears p = true ∧ s.awaitsType p f tyMgmt = true ∧ s.takeRx p f = (some plain, u) ∧ u.fragment p (Header.ofWord
      f.word) f.sync plain = (some b, v) ∧ ((Header.ofWord f.word).frag = 0 ∨ mgmtFormat true b = true) ∧ (v.port
      p).outstanding.find? (fun x => x.proxy.a == (Header.ofWord f.word).src && x.reqId == uAt b 1 2) = some o ∧
      v.deadline (.mgmt p.val (Header.ofWord f.word).src) = some d ∧ f.sync ≤ d)
    ∧ (∃ (s u v : State) (p : Port) (f : LineRx) (plain b : Bytes) (o : Outstanding) (d : Stamp), s.runs = true ∧
      s.hears p = true ∧ s.awaitsType p f tyMgmt = true ∧ s.takeRx p f = (some plain, u) ∧ u.fragment p (Header.ofWord
      f.word) f.sync plain = (some b, v) ∧ ((Header.ofWord f.word).frag = 0 ∨ mgmtFormat true b = true) ∧ (v.port
      p).outstanding.find? (fun x => x.proxy.a == (Header.ofWord f.word).src && x.reqId == uAt b 1 2) = some o ∧
      v.deadline (.mgmt p.val (Header.ofWord f.word).src) = some d ∧ d < f.sync ∧ o.attempt = v.rdN
      Reg.LP_ACQ_management_retries p)
    ∧ (∃ (s : State) (p : Port) (a : Nat) (o : Outstanding) (d : Stamp), s.runs = true ∧ ((s.port p).outstanding.find?
      fun x => x.proxy.a == a) = some o ∧ s.deadline (.mgmt p.val a) = some d ∧ d < s.now ∧ s.resolvedTo p d = true ∧
      o.attempt < s.rdN Reg.LP_ACQ_management_retries p)
    ∧ (∃ (s : State) (p : Port) (a : Nat) (o : Outstanding) (d : Stamp), s.runs = true ∧ ((s.port p).outstanding.find?
      fun x => x.proxy.a == a) = some o ∧ s.deadline (.mgmt p.val a) = some d ∧ d < s.now ∧ s.resolvedTo p d = true ∧
      s.rdN Reg.LP_ACQ_management_retries p ≤ o.attempt ∧ ((∀ k, sessionNo o.proxy.session = some k → (s.session
      k).phase ≠ 0)))
    ∧ (∃ (s : State) (p : Port) (a : Nat) (x : Proxy), s.runs = true ∧ s.portState p = stService ∧ ((s.port
      p).proxies.find? fun y => y.a == a) = some x ∧ ((∀ o ∈ (s.port p).outstanding, o.proxy.a ≠ a)))
    ∧ (∃ (s : State) (p : Port) (e : Nat) (key : Bytes), s.runs = true ∧ s.atApplyPoint p = true ∧ e < 256 ∧ key ≠ [] ∧
      (s.iz.keyWrites.find? fun x => x.1 = p.val * 256 + e) = some (p.val * 256 + e, key)) :=
  ⟨⟨awaiting (portIn 31 stService) 31 (rx (hdr 0 5 tyData 20) (List.replicate 20 0)), ((awaiting (portIn 31 stService)
    31 (rx (hdr 0 5 tyData 20) (List.replicate 20 0))).takeRx 31 (rx (hdr 0 5 tyData 20) (List.replicate 20 0))).2,
    (((awaiting (portIn 31 stService) 31 (rx (hdr 0 5 tyData 20) (List.replicate 20 0))).takeRx 31 (rx (hdr 0 5 tyData
    20) (List.replicate 20 0))).2.fragment 31 (hdr 0 5 tyData 20) 999999990000 (List.replicate 20 0)).2, 31, rx (hdr 0
    5 tyData 20) (List.replicate 20 0), List.replicate 20 0, List.replicate 20 0, by decide +kernel, by decide +kernel,
    by decide +kernel, takes (by decide +kernel), by decide +kernel, by decide +kernel⟩,
    ⟨awaiting (portIn 31 stService) 31 (rx { hdr 0 5 tyData 20 with frag := 1 } (List.replicate 20 0)), ((awaiting
    (portIn 31 stService) 31 (rx { hdr 0 5 tyData 20 with frag := 1 } (List.replicate 20 0))).takeRx 31 (rx
    { hdr 0 5 tyData 20 with frag := 1 } (List.replicate 20 0))).2, (((awaiting (portIn 31 stService) 31 (rx
    { hdr 0 5 tyData 20 with frag := 1 } (List.replicate 20 0))).takeRx 31 (rx { hdr 0 5 tyData 20 with frag := 1 }
    (List.replicate 20 0))).2.fragment 31 (Header.ofWord (rx { hdr 0 5 tyData 20 with frag := 1 } (List.replicate 20
    0)).word) 999999990000 (List.replicate 20 0)).2, 31, rx { hdr 0 5 tyData 20 with frag := 1 } (List.replicate 20 0),
    List.replicate 20 0, by decide +kernel, by decide +kernel, by decide +kernel, takes (by decide +kernel),
    by decide +kernel, by decide +kernel⟩,
    ⟨awaiting (portIn 31 stService) 31 (rx (hdr 0 5 tyData 20) (List.replicate 19 0)), ((awaiting (portIn 31 stService)
    31 (rx (hdr 0 5 tyData 20) (List.replicate 19 0))).takeRx 31 (rx (hdr 0 5 tyData 20) (List.replicate 19 0))).2, 31,
    rx (hdr 0 5 tyData 20) (List.replicate 19 0), by decide +kernel, by decide +kernel, by decide +kernel, takes
    (by decide +kernel)⟩,
    ⟨((awaiting (portIn 31 stService) 31 (rx (hdr 0 5 tyMgmt 12) [0x81, 0, 7, 0, 0, 0, 0, 0, 0, 0, 0, 0])).setPort 31
    fun q => { q with outstanding := [⟨⟨5, false, 0, 0, 0, [], .up, 1, 0, 1, 0⟩, 7, 0⟩] }).arm (.mgmt 31 5)
    999999990000, ((((awaiting (portIn 31 stService) 31 (rx (hdr 0 5 tyMgmt 12) [0x81, 0, 7, 0, 0, 0, 0, 0, 0, 0, 0,
    0])).setPort 31 fun q => { q with outstanding := [⟨⟨5, false, 0, 0, 0, [], .up, 1, 0, 1, 0⟩, 7, 0⟩] }).arm (.mgmt
    31 5) 999999990000).takeRx 31 (rx (hdr 0 5 tyMgmt 12) [0x81, 0, 7, 0, 0, 0, 0, 0, 0, 0, 0, 0])).2, (((((awaiting
    (portIn 31 stService) 31 (rx (hdr 0 5 tyMgmt 12) [0x81, 0, 7, 0, 0, 0, 0, 0, 0, 0, 0, 0])).setPort 31 fun q =>
    { q with outstanding := [⟨⟨5, false, 0, 0, 0, [], .up, 1, 0, 1, 0⟩, 7, 0⟩] }).arm (.mgmt 31 5) 999999990000).takeRx
    31 (rx (hdr 0 5 tyMgmt 12) [0x81, 0, 7, 0, 0, 0, 0, 0, 0, 0, 0, 0])).2.fragment 31 (Header.ofWord (rx (hdr 0 5
    tyMgmt 12) [0x81, 0, 7, 0, 0, 0, 0, 0, 0, 0, 0, 0]).word) (rx (hdr 0 5 tyMgmt 12) [0x81, 0, 7, 0, 0, 0, 0, 0, 0, 0,
    0, 0]).sync [0x81, 0, 7, 0, 0, 0, 0, 0, 0, 0, 0, 0]).2, 31, rx (hdr 0 5 tyMgmt 12) [0x81, 0, 7, 0, 0, 0, 0, 0, 0,
    0, 0, 0], [0x81, 0, 7, 0, 0, 0, 0, 0, 0, 0, 0, 0], [0x81, 0, 7, 0, 0, 0, 0, 0, 0, 0, 0, 0], ⟨⟨5, false, 0, 0, 0,
    [], .up, 1, 0, 1, 0⟩, 7, 0⟩, 999999990000, by decide +kernel, by decide +kernel, by decide +kernel, takes
    (by decide +kernel), by decide +kernel, by decide +kernel, by decide +kernel, by decide +kernel,
    by decide +kernel⟩,
    ⟨((awaiting (portIn 31 stService) 31 (rx (hdr 0 5 tyMgmt 12) [0x81, 0, 7, 0, 0, 0, 0, 0, 0, 0, 0, 0])).setPort 31
    fun q =>
    { q with outstanding := [⟨⟨5, false, 0, 0, 0, [], .up, 1, 0, 1, 0⟩, 7, dev.rdN Reg.LP_ACQ_management_retries 31⟩] }).arm
    (.mgmt 31 5) 999999989999, ((((awaiting (portIn 31 stService) 31 (rx (hdr 0 5 tyMgmt 12) [0x81, 0, 7, 0, 0, 0, 0,
    0, 0, 0, 0, 0])).setPort 31 fun q =>
    { q with outstanding := [⟨⟨5, false, 0, 0, 0, [], .up, 1, 0, 1, 0⟩, 7, dev.rdN Reg.LP_ACQ_management_retries 31⟩] }).arm
    (.mgmt 31 5) 999999989999).takeRx 31 (rx (hdr 0 5 tyMgmt 12) [0x81, 0, 7, 0, 0, 0, 0, 0, 0, 0, 0, 0])).2,
    (((((awaiting (portIn 31 stService) 31 (rx (hdr 0 5 tyMgmt 12) [0x81, 0, 7, 0, 0, 0, 0, 0, 0, 0, 0, 0])).setPort 31
    fun q =>
    { q with outstanding := [⟨⟨5, false, 0, 0, 0, [], .up, 1, 0, 1, 0⟩, 7, dev.rdN Reg.LP_ACQ_management_retries 31⟩] }).arm
    (.mgmt 31 5) 999999989999).takeRx 31 (rx (hdr 0 5 tyMgmt 12) [0x81, 0, 7, 0, 0, 0, 0, 0, 0, 0, 0, 0])).2.fragment
    31 (Header.ofWord (rx (hdr 0 5 tyMgmt 12) [0x81, 0, 7, 0, 0, 0, 0, 0, 0, 0, 0, 0]).word) (rx (hdr 0 5 tyMgmt 12)
    [0x81, 0, 7, 0, 0, 0, 0, 0, 0, 0, 0, 0]).sync [0x81, 0, 7, 0, 0, 0, 0, 0, 0, 0, 0, 0]).2, 31, rx (hdr 0 5 tyMgmt
    12) [0x81, 0, 7, 0, 0, 0, 0, 0, 0, 0, 0, 0], [0x81, 0, 7, 0, 0, 0, 0, 0, 0, 0, 0, 0], [0x81, 0, 7, 0, 0, 0, 0, 0,
    0, 0, 0, 0], ⟨⟨5, false, 0, 0, 0, [], .up, 1, 0, 1, 0⟩, 7, dev.rdN Reg.LP_ACQ_management_retries 31⟩, 999999989999,
    by decide +kernel, by decide +kernel, by decide +kernel, takes (by decide +kernel), by decide +kernel,
    by decide +kernel, by decide +kernel, by decide +kernel, by decide +kernel, by decide +kernel⟩,
    ⟨((portIn 31 stService).setPort 31 fun q =>
    { q with outstanding := [⟨⟨5, false, 0, 0, 0, [], .up, 1, 0, 1, 0⟩, 7, 0⟩] }).arm (.mgmt 31 5) 999000000000, 31, 5,
    ⟨⟨5, false, 0, 0, 0, [], .up, 1, 0, 1, 0⟩, 7, 0⟩, 999000000000, by decide +kernel⟩,
    ⟨((portIn 31 stService).setPort 31 fun q =>
    { q with outstanding := [⟨⟨5, false, 0, 0, 0, [], .up, 1, 0, 1, 0⟩, 7, dev.rdN Reg.LP_ACQ_management_retries 31⟩] }).arm
    (.mgmt 31 5) 999000000000, 31, 5, ⟨⟨5, false, 0, 0, 0, [], .up, 1, 0, 1, 0⟩, 7, dev.rdN
    Reg.LP_ACQ_management_retries 31⟩, 999000000000, by decide +kernel⟩,
    ⟨(portIn 31 stService).setPort 31 fun q => { q with proxies := [⟨5, false, 0, 0, 0, [], .up, 1, 0, 1, 0⟩] }, 31, 5,
    ⟨5, false, 0, 0, 0, [], .up, 1, 0, 1, 0⟩, by decide +kernel⟩,
    ⟨dev.setIz fun f => { f with keyWrites := [(8191, List.replicate 16 1)] }, 31, 255, List.replicate 16 1,
    by decide +kernel⟩⟩

theorem witness_CancellerBlockCompletes :
    (∃ (s : State) (p : Port) (b : BlockMeas), s.runs = true ∧ s.onBoundary p = true ∧ s.admissible p = true ∧
      guardPasses (s.port p).ec.residuals (s.blockUse p b).pRes = true ∧ s.rd Reg.LP_EC_state p = ecTracking ∧ (s.port
      p).ec.blocks < 25)
    ∧ (∃ (s : State) (p : Port) (b : BlockMeas), s.runs = true ∧ s.onBoundary p = true ∧ s.admissible p = true ∧
      guardPasses (s.port p).ec.residuals (s.blockUse p b).pRes = true ∧ s.rd Reg.LP_EC_state p = ecTraining ∧
      s.portState p ≠ stQuiet)
    ∧ (∃ (s : State) (p : Port) (b : BlockMeas), s.runs = true ∧ s.onBoundary p = true ∧ s.admissible p = true ∧
      guardPasses (s.port p).ec.residuals (s.blockUse p b).pRes = true ∧ s.rd Reg.LP_EC_state p ≠ ecQuiet ∧ 25 ≤
      (s.port p).ec.blocks)
    ∧ (∃ (s : State) (p : Port) (b : BlockMeas), s.runs = true ∧ s.onBoundary p = true ∧ s.admissible p = true ∧
      guardPasses (s.port p).ec.residuals (s.blockUse p b).pRes = false ∧ s.rd Reg.LP_EC_state p ≠ ecQuiet)
    ∧ (∃ (s : State) (p : Port), s.runs = true ∧ s.onBoundary p = true ∧ s.admissible p = false ∧ s.rd Reg.LP_EC_state
      p ≠ ecQuiet)
    ∧ (∃ (s : State) (p : Port) (b : BlockMeas), s.runs = true ∧ s.onBoundary p = true ∧ s.admissible p = true ∧
      guardPasses (s.port p).ec.residuals (s.blockUse p b).pRes = true ∧ s.rd Reg.LP_EC_state p = ecQuiet ∧ s.portState
      p = stQuiet ∧ (s.port p).ec.retrainScheduled = false ∧ s.refreshBlock p = true ∧ s.time.mono < (s.port
      p).quiet.refresh.2)
    ∧ (∃ (s : State) (p : Port) (w : List (Int × Int)), s.runs = true ∧ s.onBoundary p = true ∧ s.admissible p = false
      ∧ s.rd Reg.LP_EC_state p = ecQuiet ∧ (s.port p).quiet.refresh.2 ≤ s.time.mono ∧ (s.port p).ec.collected ≠ [] ∧
      (s.port p).ec.noiseAt = none ∧ 0 < s.sentInBlock p ∧ 5 * s.rd Reg.LP_QUIET_canceller_gate p ≤ erleOf (s.port
      p).ec.collIn (s.port p).ec.collRes (s.port p).ec.collected.length [] ∧ w = (s.port p).ec.collected.foldl (fun w g
      => leakAll (s.rdN Reg.LP_EC_quiet_leakage p) (addTaps (s.port p).band.taps w g) ((s.port p).ec.snap.getD []))
      (s.port p).ec.taps ∧ ((∀ x, (s.port p).ec.snap = some x → driftOctave (s.port p).band (s.rdN
      Reg.LP_QUIET_drift_limit p) (tapPowers w) (tapPowers x) = none)))
    ∧ (∃ (s : State) (p : Port), s.runs = true ∧ s.onBoundary p = true ∧ s.admissible p = false ∧ s.rd Reg.LP_EC_state
      p = ecQuiet ∧ (s.port p).quiet.refresh.2 ≤ s.time.mono ∧ (s.port p).ec.collected ≠ [] ∧ (s.port p).ec.noiseAt =
      none ∧ 0 < s.sentInBlock p ∧ erleOf (s.port p).ec.collIn (s.port p).ec.collRes (s.port p).ec.collected.length []
      < 5 * s.rd Reg.LP_QUIET_canceller_gate p) :=
  ⟨⟨((dev.wr Reg.ITIN_OP_base 31 0 999999000000).wr Reg.LP_EC_state 31 0 ecTracking).setPort 31 fun q =>
    { q with txSpans := [(999999000000, 1000000000000)], ec := { q.ec with grid := some (1000000000000 - blockNs), blocks := 24 } },
    31, ⟨[(100, 5)], [(1, 2)]⟩, by decide +kernel⟩,
    ⟨((dev.wr Reg.ITIN_OP_base 31 0 999999000000).wr Reg.LP_EC_state 31 0 ecTraining).setPort 31 fun q =>
    { q with txSpans := [(999999000000, 1000000000000)], ec := { q.ec with grid := some (1000000000000 - blockNs) } },
    31, ⟨[(100, 5)], [(1, 2)]⟩, by decide +kernel⟩,
    ⟨((dev.wr Reg.ITIN_OP_base 31 0 999999000000).wr Reg.LP_EC_state 31 0 ecTracking).setPort 31 fun q =>
    { q with txSpans := [(999999000000, 1000000000000)], ec := { q.ec with grid := some (1000000000000 - blockNs), blocks := 25 } },
    31, ⟨[(100, 5)], [(1, 2)]⟩, by decide +kernel⟩,
    ⟨(((portIn 31 stService).wr Reg.ITIN_OP_base 31 0 999999000000).wr Reg.LP_EC_state 31 0 ecTracking).setPort 31 fun
    q =>
    { q with txSpans := [(999999000000, 1000000000000)], ec := { q.ec with grid := some (1000000000000 - blockNs), residuals := List.replicate 16 1 } },
    31, ⟨[(100000, 5)], [(1, 2)]⟩, by decide +kernel⟩,
    ⟨(dev.wr Reg.LP_EC_state 31 0 ecTracking).setEc 31 fun q => { q with grid := some (1000000000000 - blockNs) }, 31,
    by decide +kernel⟩,
    ⟨(((portIn 31 stQuiet).wr Reg.ITIN_OP_base 31 0 999999000000).wr Reg.LP_EC_state 31 0 ecQuiet).setPort 31 fun q =>
    { q with txSpans := [(999999000000, 1000000000000)], quiet := { q.quiet with refresh := (999999000000, 1000000100000) }, ec := { q.ec with grid := some (1000000000000 - blockNs) } },
    31, ⟨[(100, 5)], [(1, 2)]⟩, by decide +kernel⟩,
    ⟨((portIn 31 stQuiet).wr Reg.LP_EC_state 31 0 ecQuiet).setPort 31 fun q =>
    { q with txSpans := [(999999900000, 1000000000000)], quiet := { q.quiet with refresh := (999999000000, 999999900000) }, ec := { q.ec with grid := some (1000000000000 - blockNs), collected := [[(1, 1)]], collIn := 1000000000, collRes := 1 } },
    31, [[(1, 1)]].foldl (fun w g => leakAll (dev.rdN Reg.LP_EC_quiet_leakage 31) (addTaps (dev.port 31).band.taps w g)
    []) [], by decide +kernel, by decide +kernel, by decide +kernel, by decide +kernel, by decide +kernel,
    by decide +kernel, by decide +kernel, by decide +kernel, by decide +kernel, by decide +kernel, by intro x h; cases
    h⟩,
    ⟨((portIn 31 stQuiet).wr Reg.LP_EC_state 31 0 ecQuiet).setPort 31 fun q =>
    { q with txSpans := [(999999900000, 1000000000000)], quiet := { q.quiet with refresh := (999999000000, 999999900000) }, ec := { q.ec with grid := some (1000000000000 - blockNs), collected := [[(1, 1)]], collIn := 10, collRes := 10 } },
    31, by decide +kernel⟩⟩

theorem witness_CancellerDecidesAndPublishes :
    (∃ (s : State) (p : Port), s.runs = true ∧ s.flag Reg.LR_EPM_enable p = true ∧ (s.port p).ec.guardFired = false ∧
      s.rdN Reg.LR_EPM_guard_run p ≤ (s.port p).ec.guardRun ∧ (s.port p).sound.focus = none)
    ∧ (∃ (s : State) (p : Port) (g : Focus), s.runs = true ∧ s.flag Reg.LR_EPM_enable p = true ∧ (s.port
      p).ec.guardFired = false ∧ s.rdN Reg.LR_EPM_guard_run p ≤ (s.port p).ec.guardRun ∧ (s.port p).sound.focus = some
      g)
    ∧ (∃ (s : State) (p : Port) (d : ErleDone) (l : List ErleDone), s.runs = true ∧ (s.port p).ec.erleDone = d :: l ∧
      d.pIn ≠ 0 ∧ (s.port p).ec.erles = [])
    ∧ (∃ (s : State) (p : Port) (d : ErleDone) (l : List ErleDone), s.runs = true ∧ (s.port p).ec.erleDone = d :: l ∧
      d.pIn = 0 ∧ (s.port p).ec.erles = [])
    ∧ (∃ (s : State) (p : Port) (d : ErleDone) (l : List ErleDone) (last : Int) (rest : List Int), s.runs = true ∧
      (s.port p).ec.erleDone = d :: l ∧ d.pIn ≠ 0 ∧ s.rd Reg.LP_EC_state p = ecTraining ∧ (s.port p).ec.retraining =
      false ∧ (s.port p).ec.erles = last :: rest ∧ 400 ≤ last ∧ 400 ≤ erleOf d.pIn d.pRes 26 d.noise)
    ∧ (∃ (s : State) (p : Port) (d : ErleDone) (l : List ErleDone) (last top : Int) (rest : List Int), s.runs = true ∧
      (s.port p).ec.erleDone = d :: l ∧ d.pIn ≠ 0 ∧ s.rd Reg.LP_EC_state p = ecTracking ∧ (s.port p).ec.refMax = some
      top ∧ (s.port p).ec.erles = last :: rest ∧ last < top - 100 ∧ erleOf d.pIn d.pRes 26 d.noise < top - 100)
    ∧ (∃ (s : State) (p : Port), s.runs = true ∧ s.rd Reg.LP_EC_state p = ecTraining ∧ (s.port p).ec.retraining = false
      ∧ 2000000000 ≤ ((s.port p).ec.trainBlocks : Int) * blockNs)
    ∧ (∃ (s : State) (p : Port), s.runs = true ∧ s.flag Reg.LP_EC_retrain p = true)
    ∧ (∃ (s : State) (p : Port) (x : UsedTaps), s.runs = true ∧ s.onBoundary p = true ∧ s.pubDue p = true ∧ (s.port
      p).ec.frozen = false ∧ s.rd Reg.LP_EC_state p ≠ ecCleared ∧ (s.port p).ec.used = some x ∧ x.at' = s.time.mono)
    ∧ (∃ (s : State) (p : Port), s.runs = true ∧ s.onBoundary p = true ∧ s.pubDue p = true ∧ (s.port p).ec.frozen =
      false ∧ s.rd Reg.LP_EC_state p ≠ ecCleared ∧ ((∀ x, (s.port p).ec.used = some x → x.at' ≠ s.time.mono)))
    ∧ (∃ (s : State) (p : Port), s.runs = true ∧ (s.port p).ec.frozen = true ∧ (s.port p).ec.freezeEnd ≤ s.time.mono)
    ∧ (∃ (s : State) (p : Port), s.runs = true ∧ s.rd Reg.LP_HYBRID_setting p ≠ (s.port p).hybrid ∧ s.symbolBoundary p
      = true)
    ∧ (∃ (s : State) (p : Port), s.runs = true ∧ s.portState p = stQuiet ∧ s.rd Reg.LP_EC_state p = ecQuiet ∧
      s.onBoundary p = true ∧ 3 ≤ (s.port p).ec.gateFails)
    ∧ (∃ (s : State) (p : Port) (a : Nat), s.runs = true ∧ s.portState p = stQuiet ∧ 1 ≤ a ∧ a < 255 ∧ s.rd
      Reg.LP_EQ_state p a = ecQuiet ∧ 3 ≤ (s.eq p a).gateFails) :=
  ⟨⟨(dev.wr Reg.LR_EPM_enable 31 0 1).setEc 31 fun q => { q with guardRun := dev.rdN Reg.LR_EPM_guard_run 31 }, 31,
    by decide +kernel⟩,
    ⟨(dev.wr Reg.LR_EPM_enable 31 0 1).setPort 31 fun q =>
    { q with ec := { q.ec with guardRun := dev.rdN Reg.LR_EPM_guard_run 31 }, sound := { q.sound with focus := some { lo := 3, hi := 9 } } },
    31, { lo := 3, hi := 9 }, by decide +kernel⟩,
    ⟨dev.setEc 31 fun q => { q with erleDone := [⟨100, 1, [], 5⟩] }, 31, ⟨100, 1, [], 5⟩, [], by decide +kernel⟩,
    ⟨dev.setEc 31 fun q => { q with erleDone := [⟨0, 1, [], 5⟩] }, 31, ⟨0, 1, [], 5⟩, [], by decide +kernel⟩,
    ⟨((portIn 31 stService).wr Reg.LP_EC_state 31 0 ecTraining).setEc 31 fun q =>
    { q with erleDone := [⟨1000000000, 1, [], 5⟩], erles := [400] }, 31, ⟨1000000000, 1, [], 5⟩, [], 400, [],
    by decide +kernel⟩,
    ⟨((portIn 31 stService).wr Reg.LP_EC_state 31 0 ecTracking).setEc 31 fun q =>
    { q with erleDone := [⟨100, 1, [], 5⟩], erles := [299], refMax := some 400 }, 31, ⟨100, 1, [], 5⟩, [], 299, 400,
    [], by decide +kernel⟩,
    ⟨((portIn 31 stService).wr Reg.LP_EC_state 31 0 ecTraining).setEc 31 fun q => { q with trainBlocks := 1000000 },
    31, by decide +kernel⟩,
    ⟨(dev.wr Reg.LP_EC_retrain 31 0 1).wr Reg.LP_EC_state 31 0 ecTracking, 31, by decide +kernel⟩,
    ⟨(dev.wr Reg.LP_EC_state 31 0 ecTracking).setEc 31 fun q =>
    { q with grid := some (1000000000000 - blockNs), used := some ⟨1000000000000, [(1, 2)], false, false, true⟩ }, 31,
    ⟨1000000000000, [(1, 2)], false, false, true⟩, by decide +kernel⟩,
    ⟨(dev.wr Reg.LP_EC_state 31 0 ecTracking).setEc 31 fun q => { q with grid := some (1000000000000 - blockNs) }, 31,
    by decide +kernel, by decide +kernel, by decide +kernel, by decide +kernel, by decide +kernel, by intro x h; cases
    h⟩,
    ⟨dev.setEc 31 fun q => { q with frozen := true, freezeEnd := 1000000000000 }, 31, by decide +kernel⟩,
    ⟨(dev.wr Reg.LP_EC_state 31 0 ecTracking).wr Reg.LP_HYBRID_setting 31 0 3276801, 31, by decide +kernel⟩,
    ⟨((portIn 31 stQuiet).wr Reg.LP_EC_state 31 0 ecQuiet).setEc 31 fun q =>
    { q with gateFails := 3, snap := some [(1, 0)], grid := some (1000000000000 - blockNs) }, 31, by decide +kernel⟩,
    ⟨((portIn 31 stQuiet).wr Reg.LP_EQ_state 31 254 ecQuiet).setEq 31 254 fun q =>
    { q with gateFails := 3, snap := some [(1, 0)] }, 31, 254, by decide +kernel⟩⟩

theorem witness_PortStatesFollowTable :
    (∃ (s : State) (p : Port), s.runs = true ∧ s.clocked = true ∧ s.operates = true ∧ s.portState p = stDown ∧ s.flag
      Reg.LP_STATE_enable p = true)
    ∧ (∃ (s : State) (p : Port), s.runs = true ∧ s.flag Reg.LP_STATE_enable p = false ∧ s.portState p ≠ stDown ∧
      s.portState p ≠ stFenced ∧ s.atApplyPoint p = true)
    ∧ (∃ (s : State) (p : Port) (energy : Bytes), s.runs = true ∧ s.portState p = stListen ∧ s.reached (.listen p.val)
      = true ∧ energy.length = 64)
    ∧ (∃ (s : State) (p : Port), s.runs = true ∧ s.portState p = stDiscover ∧ s.reached (.discover p.val) = true)
    ∧ (∃ (s : State) (p : Port), s.runs = true ∧ s.flag Reg.LP_STATE_park p = true ∧ stCheck ≤ s.portState p ∧
      s.portState p ≤ stQuiet ∧ s.atApplyPoint p = true)
    ∧ (∃ (s : State) (p : Port), s.runs = true ∧ s.clocked = true ∧ s.portState p = stParked ∧ s.flag Reg.LP_STATE_park
      p = false ∧ p.val ∉ s.power.parked)
    ∧ (∃ (s : State) (p : Port), s.runs = true ∧ s.portState p = stQuiet ∧ (s.port p).quiet.closing = true ∧ (s.port
      p).quiet.lastEnd ≤ s.now) :=
  ⟨⟨(portIn 31 stDown).wr Reg.LP_STATE_enable 31 0 1, 31, by decide +kernel⟩,
    ⟨(portIn 31 stParked).wr Reg.LP_STATE_enable 31 0 0, 31, by decide +kernel⟩,
    ⟨(portIn 31 stListen).arm (.listen 31) 1000000000000, 31, List.replicate 64 9, by decide +kernel⟩,
    ⟨(portIn 31 stDiscover).arm (.discover 31) 1000000000000, 31, by decide +kernel⟩,
    ⟨(portIn 31 stQuiet).wr Reg.LP_STATE_park 31 0 1, 31, by decide +kernel⟩,
    ⟨(portIn 31 stParked).setPort 31 fun q => { q with heldBefore := 6 }, 31, by decide +kernel⟩,
    ⟨(portIn 31 stQuiet).setPort 31 fun q => { q with quiet := { q.quiet with closing := true } }, 31,
    by decide +kernel⟩⟩

theorem witness_PortCommandsComplete :
    (∃ (s : State) (p : Port), s.runs = true ∧ s.portState p = stCheck ∧ s.reached (.check p.val) = true)
    ∧ (∃ (s : State) (p : Port), s.runs = true ∧ (s.port p).quietReq ≠ s.flag Reg.LP_STATE_quiet p ∧ s.atApplyPoint p =
      true)
    ∧ (∃ (s : State) (p : Port), s.runs = true ∧ s.portState p = stQuiet ∧ (s.port p).quiet.next ≤ s.now ∧ (s.port
      p).quiet.closing = false ∧ s.mayTransmit p = true ∧ s.soundOver p (s.now + s.airDown p + 5000000 + s.airUp p) =
      none)
    ∧ (∃ (s : State) (p : Port) (u : Stamp), s.runs = true ∧ s.portState p = stQuiet ∧ (s.port p).quiet.next ≤ s.now ∧
      (s.port p).quiet.closing = false ∧ s.mayTransmit p = true ∧ s.soundOver p (s.now + s.airDown p + 5000000 +
      s.airUp p) = some u)
    ∧ (∃ (s : State) (p : Port), s.runs = true ∧ s.bandObj p ≠ (s.port p).band ∧ s.atApplyPoint p = true ∧ stListen ≤
      s.portState p ∧ s.portState p ≤ stQuiet)
    ∧ (∃ (s : State) (p : Port), s.runs = true ∧ s.bandObj p ≠ (s.port p).band ∧ s.atApplyPoint p = true ∧ (s.portState
      p < stListen ∨ stQuiet < s.portState p)) :=
  ⟨⟨(portIn 31 stCheck).arm (.check 31) 1000000000000, 31, by decide +kernel⟩,
    ⟨dev.wr Reg.LP_STATE_quiet 31 0 1, 31, by decide +kernel⟩,
    ⟨portIn 31 stQuiet, 31, by decide +kernel⟩,
    ⟨((portIn 31 stQuiet).wr Reg.ITIN_OP_windows 31 0 (wSound * 2 ^ 56 + 0xF4240 : Nat)).setPort 31 fun q =>
    { q with winEnd := 1000001000000, quiet := { q.quiet with next := 1000000000000 } }, 31, (((((portIn 31 stQuiet).wr
    Reg.ITIN_OP_windows 31 0 (wSound * 2 ^ 56 + 0xF4240 : Nat)).setPort 31 fun q =>
    { q with winEnd := 1000001000000, quiet := { q.quiet with next := 1000000000000 } })).soundOver 31 (1000000000000 +
    (portIn 31 stQuiet).airDown 31 + 5000000 + (portIn 31 stQuiet).airUp 31)).getD 0, by decide +kernel⟩,
    ⟨(portIn 31 stQuiet).wr Reg.LP_BW 31 0 3, 31, by decide +kernel⟩,
    ⟨(portIn 31 stParked).wr Reg.LP_BW 31 0 3, 31, by decide +kernel⟩⟩

theorem witness_CommandsKeepTheRest :
    (∃ (s t : State) (r : IzReq) (i : Instr), exec i s = .next t ∧ ((i = .izvasRead r ∨ i = .izvasWrite r ∨ i =
      .readStaged r ∨ i = .discardStaged r ∨ i = .openSession r ∨ i = .authSession r ∨ i = .closeSession r ∨ i =
      .commit r)))
    ∧ (∃ (s t : State) (r : IzReq) (i : Instr), exec i s = .next t ∧ ((i = .izvasRead r ∨ i = .izvasWrite r ∨ i =
      .readStaged r ∨ i = .discardStaged r ∨ i = .openSession r ∨ i = .authSession r ∨ i = .closeSession r ∨ i =
      .commit r)))
    ∧ (∃ (i : Instr) (s t : State) (x : Side), exec i s = .next t ∧ (((∃ n, i = .pfDetectPulse x n) ∨ (∃ l b, i =
      .pfTrainBlock x l b) ∨ (∃ l, i = .pfRxReady x l) ∨ i = .pfTrainTimeout x ∨ (∃ l, i = .pfBlockLock x l) ∨ (∃ l k,
      i = .pfLacingDone x l k) ∨ i = .pfLockTimeout x ∨ i = .pfExchangeTimeout x ∨ i = .pfExchangeHoldoffEnd x ∨ (∃ l,
      i = .pfBipCheck x l) ∨ i = .pfIdleEntrySend x ∨ i = .pfIdleEntryRx x ∨ i = .flowCtrlSend x ∨ i = .replayTimeout x
      ∨ i = .delayReqSend x ∨ (∃ a b, i = .delayReqRx x a b) ∨ ∃ a b, i = .delayRespRx x a b)))
    ∧ (∃ (i : Instr) (s t : State) (u : Nat), exec i s = .next t ∧ (((∃ n, i = .stationAnchor u n) ∨ (∃ f, i =
      .stationBeaconRx u f) ∨ i = .stationRegRequestSend u ∨ (∃ n, i = .stationRequestUnanswered u n) ∨ (∃ b, i =
      .stationAssignRx u b) ∨ (∃ b, i = .stationRefuseRx u b) ∨ i = .stationRefuseWaitEnd u ∨ (∃ b, i =
      .stationRangeReqRx u b) ∨ (∃ b, i = .stationAdjRx u b) ∨ (∃ w, i = .stationConfirmSend ⟨u, w⟩) ∨ (∃ f, i =
      .stationConfirmAck u f) ∨ (∃ b, i = .stationReleaseToSearch u b) ∨ (∃ b a, i = .stationRefreshRx u b a) ∨ (∃ w f,
      i = .stationAlignedTx u w f) ∨ i = .stationTLost u ∨ i = .stationRangingWait u ∨ i = .stationBellSend u ∨ (∃ f, i
      = .stationMgmtRequest u f) ∨ ∃ f, i = .stationCommissioningBind u f)))
    ∧ (∃ (i : Instr) (s t : State) (p : Port), exec i s = .next t ∧ ((i = .portEnable p ∨ i = .portDisable p ∨ i =
      .discoverEnd p ∨ i = .portPark p ∨ (∃ e, i = .listenEnd p e) ∨ i = .checkRetry p ∨ i = .quietRequest p))) :=
  ⟨⟨opened, nextOf (exec (.izvasRead (req 1 0x1202 0 [])) opened), req 1 0x1202 0 [], .izvasRead (req 1 0x1202 0 []),
    eq_nextOf (by decide +kernel), .inl rfl⟩,
    ⟨opened, nextOf (exec (.discardStaged (req0 6 0 0 [])) opened), req0 6 0 0 [], .discardStaged (req0 6 0 0 []),
    eq_nextOf (by decide +kernel), .inr (.inr (.inr (.inl rfl)))⟩,
    ⟨.pfTrainTimeout .up, (linkIn .up pfTrain fun q => { q with rate := 1 }).arm (.pfTrain 0) 999999999999, nextOf
    (exec (.pfTrainTimeout .up) ((linkIn .up pfTrain fun q => { q with rate := 1 }).arm (.pfTrain 0) 999999999999)),
    .up, eq_nextOf (by decide +kernel), .inr (.inr (.inr (.inl rfl)))⟩,
    ⟨.stationBellSend 7, stnIn 7 4 fun x => { x with bell := true }, nextOf (exec (.stationBellSend 7) (stnIn 7 4 fun x
    => { x with bell := true })), 7, eq_nextOf (by decide +kernel), by simp⟩,
    ⟨.portDisable 31, portIn 31 stService, nextOf (exec (.portDisable 31) (portIn 31 stService)), 31, eq_nextOf
    (by decide +kernel), .inr (.inl rfl)⟩⟩

theorem witness_RegistrationAndReleaseComplete :
    (∃ (s u : State) (p : Port) (f : LineRx) (b : Bytes) (slot : Stamp) (a : Nat), s.runs = true ∧ s.accessState p =
      true ∧ s.awaitsType p f tyReg = true ∧ (Header.ofWord f.word).src = 255 ∧ s.takeRx p f = (some b, u) ∧ u.steward
      = true ∧ u.requestSlot p f.sync = some slot ∧ u.registration p (slice b 2 20) = .ok a ∧ 1 ≤ a ∧ a < 255)
    ∧ (∃ (s u : State) (p : Port) (f : LineRx) (b : Bytes) (slot : Stamp) (reason : Nat), s.runs = true ∧ s.accessState
      p = true ∧ s.awaitsType p f tyReg = true ∧ (Header.ofWord f.word).src = 255 ∧ s.takeRx p f = (some b, u) ∧
      u.steward = true ∧ u.requestSlot p f.sync = some slot ∧ u.registration p (slice b 2 20) = .error reason)
    ∧ (∃ (s u : State) (p : Port) (f : LineRx) (b : Bytes), s.runs = true ∧ s.accessState p = true ∧ s.awaitsType p f
      tyReg = true ∧ (Header.ofWord f.word).src = 255 ∧ s.takeRx p f = (some b, u) ∧ u.requestSlot p f.sync = none)
    ∧ (∃ (s u : State) (p : Port) (f : LineRx) (b : Bytes), s.runs = true ∧ s.accessState p = true ∧ s.awaitsType p f
      tyReg = true ∧ (Header.ofWord f.word).src ≠ 255 ∧ s.subtypeIs f 3 = true ∧ s.takeRx p f = (some b, u) ∧ u.steward
      = true ∧ u.rd Reg.LP_STATION_state p (Header.ofWord f.word).src ≠ 0 ∧ u.rdN Reg.LP_STATION_identity p
      (Header.ofWord f.word).src = uAt b 2 8)
    ∧ (∃ (s u : State) (p : Port) (f : LineRx) (b : Bytes), s.runs = true ∧ s.accessState p = true ∧ s.awaitsType p f
      tyReg = true ∧ (Header.ofWord f.word).src ≠ 255 ∧ s.subtypeIs f 3 = true ∧ s.takeRx p f = (some b, u) ∧ u.rdN
      Reg.LP_STATION_identity p (Header.ofWord f.word).src ≠ uAt b 2 8)
    ∧ (∃ (s u : State) (p : Port) (f : LineRx) (b : Bytes), s.runs = true ∧ s.accessState p = true ∧ s.awaitsType p f
      tyReg = true ∧ (Header.ofWord f.word).src < 255 ∧ s.subtypeIs f 4 = true ∧ s.takeRx p f = (some b, u) ∧ u.rd
      Reg.LP_STATION_state p (Header.ofWord f.word).src ≠ 0 ∧ u.rdN Reg.LP_STATION_identity p (Header.ofWord
      f.word).src = uAt b 2 8)
    ∧ (∃ (s u : State) (p : Port) (f : LineRx) (b : Bytes), s.runs = true ∧ s.accessState p = true ∧ s.awaitsType p f
      tyReg = true ∧ (Header.ofWord f.word).src ≠ 255 ∧ s.subtypeIs f 4 = true ∧ s.takeRx p f = (some b, u) ∧ u.rdN
      Reg.LP_STATION_identity p (Header.ofWord f.word).src ≠ uAt b 2 8)
    ∧ (∃ (s : State) (p : Port) (a : Nat), s.runs = true ∧ a < 255 ∧ (s.rd Reg.LP_STATION_state p a = 1 ∨ s.rd
      Reg.LP_STATION_state p a = 2) ∧ 6 ≤ (s.elem p a).windows ∧ (s.elem p a).arrived = false)
    ∧ (∃ (s : State) (p : Port) (a : Nat), s.runs = true ∧ a < 255 ∧ s.flag Reg.LP_STATION_release p a = true ∧
      s.atApplyPoint p = true ∧ s.rd Reg.LP_STATION_state p a ≠ 0)
    ∧ (∃ (s : State) (p : Port) (a : Nat), s.runs = true ∧ a < 255 ∧ s.flag Reg.LP_STATION_release p a = true ∧
      s.atApplyPoint p = true ∧ s.rd Reg.LP_STATION_state p a = 0)
    ∧ (∃ (s : State) (p : Port) (a : Nat), s.steward = true ∧ a < 255 ∧ s.rd Reg.LP_STATION_state p a ≠ 0 ∧ (s.elem p
      a).toRange = true ∧ (s.elem p a).outOfRange = true ∧ ((∀ f ∈ (s.port p).ctl, f.dst = a → f.type ≠ tyRange)))
    ∧ (∃ (s : State) (p : Port) (a : Nat), s.steward = true ∧ a < 255 ∧ s.rd Reg.LP_STATION_state p a ≠ 0 ∧ (s.elem p
      a).toRange = true ∧ (s.elem p a).outOfRange = true ∧ ((∀ f ∈ (s.port p).ctl, f.dst = a → f.type ≠ tyRange)))
    ∧ (∃ (s : State) (p : Port) (a : Nat) (at' : Stamp), s.steward = true ∧ a < 255 ∧ s.rd Reg.LP_STATION_state p a ≠ 0
      ∧ (s.elem p a).toRange = true ∧ s.rdN Reg.LP_ACCESS_ranging_attempts p ≤ (s.elem p a).attempts ∧ (s.elem p
      a).rangeAt = some at' ∧ at' + airLong (s.port p).band 0 8 + 1800000 < s.now ∧ ((∀ f ∈ (s.port p).ctl, f.dst = a →
      f.type ≠ tyRange))) :=
  ⟨⟨awaiting (portIn 31 stDiscover) 31 (rx (hdr 0 255 tyReg 22) ([1, 0] ++ be 8 77 ++ [0, 3] ++ List.replicate 10 0)
    1000999950000), ((awaiting (portIn 31 stDiscover) 31 (rx (hdr 0 255 tyReg 22) ([1, 0] ++ be 8 77 ++ [0, 3] ++
    List.replicate 10 0) 1000999950000)).takeRx 31 (rx (hdr 0 255 tyReg 22) ([1, 0] ++ be 8 77 ++ [0, 3] ++
    List.replicate 10 0) 1000999950000)).2, 31, rx (hdr 0 255 tyReg 22) ([1, 0] ++ be 8 77 ++ [0, 3] ++ List.replicate
    10 0) 1000999950000, [1, 0] ++ be 8 77 ++ [0, 3] ++ List.replicate 10 0, 1001000000000, 1, by decide +kernel,
    by decide +kernel, by decide +kernel, by decide +kernel, takes (by decide +kernel), by decide +kernel,
    by decide +kernel, by decide +kernel, by decide +kernel, by decide +kernel⟩,
    ⟨awaiting (portIn 31 stDiscover) 31 (rx (hdr 0 255 tyReg 22) ([1, 0] ++ be 8 77 ++ [1, 3] ++ List.replicate 10 0)
    1000999950000), ((awaiting (portIn 31 stDiscover) 31 (rx (hdr 0 255 tyReg 22) ([1, 0] ++ be 8 77 ++ [1, 3] ++
    List.replicate 10 0) 1000999950000)).takeRx 31 (rx (hdr 0 255 tyReg 22) ([1, 0] ++ be 8 77 ++ [1, 3] ++
    List.replicate 10 0) 1000999950000)).2, 31, rx (hdr 0 255 tyReg 22) ([1, 0] ++ be 8 77 ++ [1, 3] ++ List.replicate
    10 0) 1000999950000, [1, 0] ++ be 8 77 ++ [1, 3] ++ List.replicate 10 0, 1001000000000, 2, by decide +kernel,
    by decide +kernel, by decide +kernel, by decide +kernel, takes (by decide +kernel), by decide +kernel,
    by decide +kernel, by decide +kernel⟩,
    ⟨awaiting (portIn 31 stDiscover) 31 (rx (hdr 0 255 tyReg 22) ([1, 0] ++ be 8 77 ++ [1, 3] ++ List.replicate 10 0)
    1000998950000), ((awaiting (portIn 31 stDiscover) 31 (rx (hdr 0 255 tyReg 22) ([1, 0] ++ be 8 77 ++ [1, 3] ++
    List.replicate 10 0) 1000998950000)).takeRx 31 (rx (hdr 0 255 tyReg 22) ([1, 0] ++ be 8 77 ++ [1, 3] ++
    List.replicate 10 0) 1000998950000)).2, 31, rx (hdr 0 255 tyReg 22) ([1, 0] ++ be 8 77 ++ [1, 3] ++ List.replicate
    10 0) 1000998950000, [1, 0] ++ be 8 77 ++ [1, 3] ++ List.replicate 10 0, by decide +kernel, by decide +kernel,
    by decide +kernel, by decide +kernel, takes (by decide +kernel), by decide +kernel⟩,
    ⟨awaiting (((portIn 31 stService).wr Reg.LP_STATION_state 31 254 2).wr Reg.LP_STATION_identity 31 254 77) 31 (rx
    (hdr 0 254 tyReg 10) (regShort 3 0 77)), ((awaiting (((portIn 31 stService).wr Reg.LP_STATION_state 31 254 2).wr
    Reg.LP_STATION_identity 31 254 77) 31 (rx (hdr 0 254 tyReg 10) (regShort 3 0 77))).takeRx 31 (rx (hdr 0 254 tyReg
    10) (regShort 3 0 77))).2, 31, rx (hdr 0 254 tyReg 10) (regShort 3 0 77), regShort 3 0 77, by decide +kernel,
    by decide +kernel, by decide +kernel, by decide +kernel, by decide +kernel, takes (by decide +kernel),
    by decide +kernel, by decide +kernel, by decide +kernel⟩,
    ⟨awaiting (((portIn 31 stService).wr Reg.LP_STATION_state 31 254 2).wr Reg.LP_STATION_identity 31 254 78) 31 (rx
    (hdr 0 254 tyReg 10) (regShort 3 0 77)), ((awaiting (((portIn 31 stService).wr Reg.LP_STATION_state 31 254 2).wr
    Reg.LP_STATION_identity 31 254 78) 31 (rx (hdr 0 254 tyReg 10) (regShort 3 0 77))).takeRx 31 (rx (hdr 0 254 tyReg
    10) (regShort 3 0 77))).2, 31, rx (hdr 0 254 tyReg 10) (regShort 3 0 77), regShort 3 0 77, by decide +kernel,
    by decide +kernel, by decide +kernel, by decide +kernel, by decide +kernel, takes (by decide +kernel),
    by decide +kernel⟩,
    ⟨awaiting (((portIn 31 stService).wr Reg.LP_STATION_state 31 254 3).wr Reg.LP_STATION_identity 31 254 77) 31 (rx
    (hdr 0 254 tyReg 10) (regShort 4 1 77)), ((awaiting (((portIn 31 stService).wr Reg.LP_STATION_state 31 254 3).wr
    Reg.LP_STATION_identity 31 254 77) 31 (rx (hdr 0 254 tyReg 10) (regShort 4 1 77))).takeRx 31 (rx (hdr 0 254 tyReg
    10) (regShort 4 1 77))).2, 31, rx (hdr 0 254 tyReg 10) (regShort 4 1 77), regShort 4 1 77, by decide +kernel,
    by decide +kernel, by decide +kernel, by decide +kernel, by decide +kernel, takes (by decide +kernel),
    by decide +kernel, by decide +kernel⟩,
    ⟨awaiting (((portIn 31 stService).wr Reg.LP_STATION_state 31 254 3).wr Reg.LP_STATION_identity 31 254 78) 31 (rx
    (hdr 0 254 tyReg 10) (regShort 4 1 77)), ((awaiting (((portIn 31 stService).wr Reg.LP_STATION_state 31 254 3).wr
    Reg.LP_STATION_identity 31 254 78) 31 (rx (hdr 0 254 tyReg 10) (regShort 4 1 77))).takeRx 31 (rx (hdr 0 254 tyReg
    10) (regShort 4 1 77))).2, 31, rx (hdr 0 254 tyReg 10) (regShort 4 1 77), regShort 4 1 77, by decide +kernel,
    by decide +kernel, by decide +kernel, by decide +kernel, by decide +kernel, takes (by decide +kernel),
    by decide +kernel⟩,
    ⟨((portIn 31 stService).wr Reg.LP_STATION_state 31 254 1).setElem 31 254 fun e => { e with windows := 6 }, 31, 254,
    by decide +kernel⟩,
    ⟨((portIn 31 stService).wr Reg.LP_STATION_state 31 254 3).wr Reg.LP_STATION_release 31 254 1, 31, 254,
    by decide +kernel⟩,
    ⟨(portIn 31 stService).wr Reg.LP_STATION_release 31 254 1, 31, 254, by decide +kernel⟩,
    ⟨((portIn 31 stService).wr Reg.LP_STATION_state 31 254 1).setElem 31 254 fun e =>
    { e with toRange := true, outOfRange := true }, 31, 254, by decide +kernel⟩,
    ⟨((portIn 31 stService).wr Reg.LP_STATION_state 31 254 4).setElem 31 254 fun e =>
    { e with toRange := true, outOfRange := true }, 31, 254, by decide +kernel⟩,
    ⟨((portIn 31 stService).wr Reg.LP_STATION_state 31 254 1).setElem 31 254 fun e =>
    { e with toRange := true, attempts := 8, rangeAt := some 900000000000 }, 31, 254, 900000000000, by decide +kernel⟩⟩

theorem witness_RangingAndPaceComplete :
    (∃ (s u : State) (p : Port) (f : LineRx) (b : Bytes) (at' e : Int) (result : Nat), s.runs = true ∧ s.accessState p
      = true ∧ s.awaitsType p f tyRange = true ∧ (Header.ofWord f.word).src < 255 ∧ s.takeRx p f = (some b, u) ∧
      u.steward = true ∧ (u.elem p (Header.ofWord f.word).src).rangeAt = some at' ∧ e = roundDiv (f.sync - at') (u.port
      p).band.ns ∧ (result = (if e.natAbs ≤ 1 then 0 else if (uAt b 2 2 : Int) + e < 0 ∨ ((u.port p).band.maxTa : Int)
      < uAt b 2 2 + e then 2 else 1)) ∧ u.rd Reg.LP_STATION_state p (Header.ofWord f.word).src = 1)
    ∧ (∃ (s u : State) (p : Port) (f : LineRx) (b : Bytes) (at' e : Int), s.runs = true ∧ s.accessState p = true ∧
      s.awaitsType p f tyRange = true ∧ (Header.ofWord f.word).src < 255 ∧ s.takeRx p f = (some b, u) ∧ u.steward =
      true ∧ (u.elem p (Header.ofWord f.word).src).rangeAt = some at' ∧ e = roundDiv (f.sync - at') (u.port p).band.ns
      ∧ e.natAbs ≤ 1 ∧ u.rd Reg.LP_STATION_state p (Header.ofWord f.word).src = 4)
    ∧ (∃ (s : State) (p : Port) (a : Nat), s.steward = true ∧ s.portState p = stService ∧ a < 255 ∧ s.rd
      Reg.LP_STATION_state p a = 3 ∧ s.reached (.probe p.val a) = true)
    ∧ (∃ (s : State) (p : Port) (a : Nat), s.steward = true ∧ s.portState p = stService ∧ a < 255 ∧ s.rd
      Reg.LP_STATION_state p a = 3 ∧ (s.elem p a).failed = true ∧ 2 ≤ ((s.elem p a).failures.filter id).length)
    ∧ (∃ (s : State) (p : Port) (a : Nat) (probe : StationProbe), s.steward = true ∧ s.portState p = stService ∧ a <
      255 ∧ s.rd Reg.LP_STATION_state p a = 3 ∧ (s.elem p a).errorsGrown probe = true)
    ∧ (∃ (s : State) (p : Port) (a : Nat), s.steward = true ∧ s.portState p = stService ∧ a < 255 ∧ s.rd
      Reg.LP_STATION_state p a = 3 ∧ (s.elem p a).ceilingSet = true) :=
  ⟨⟨awaiting (((portIn 31 stService).wr Reg.LP_STATION_state 31 254 1).setElem 31 254 fun e =>
    { e with rangeAt := some 999999986000 }) 31 (rx (hdr 0 254 tyRange 8) ([2, 0] ++ List.replicate 6 0)), ((awaiting
    (((portIn 31 stService).wr Reg.LP_STATION_state 31 254 1).setElem 31 254 fun e =>
    { e with rangeAt := some 999999986000 }) 31 (rx (hdr 0 254 tyRange 8) ([2, 0] ++ List.replicate 6 0))).takeRx 31
    (rx (hdr 0 254 tyRange 8) ([2, 0] ++ List.replicate 6 0))).2, 31, rx (hdr 0 254 tyRange 8) ([2, 0] ++
    List.replicate 6 0), [2, 0] ++ List.replicate 6 0, 999999986000, 1, 0, by decide +kernel, by decide +kernel,
    by decide +kernel, by decide +kernel, takes (by decide +kernel), by decide +kernel, by decide +kernel,
    by decide +kernel, by decide +kernel, by decide +kernel⟩,
    ⟨awaiting (((portIn 31 stService).wr Reg.LP_STATION_state 31 254 4).setElem 31 254 fun e =>
    { e with rangeAt := some 999999986000 }) 31 (rx (hdr 0 254 tyRange 8) ([2, 0] ++ List.replicate 6 0)), ((awaiting
    (((portIn 31 stService).wr Reg.LP_STATION_state 31 254 4).setElem 31 254 fun e =>
    { e with rangeAt := some 999999986000 }) 31 (rx (hdr 0 254 tyRange 8) ([2, 0] ++ List.replicate 6 0))).takeRx 31
    (rx (hdr 0 254 tyRange 8) ([2, 0] ++ List.replicate 6 0))).2, 31, rx (hdr 0 254 tyRange 8) ([2, 0] ++
    List.replicate 6 0), [2, 0] ++ List.replicate 6 0, 999999986000, 1, by decide +kernel, by decide +kernel,
    by decide +kernel, by decide +kernel, takes (by decide +kernel), by decide +kernel, by decide +kernel,
    by decide +kernel, by decide +kernel, by decide +kernel⟩,
    ⟨((portIn 31 stService).wr Reg.LP_STATION_state 31 254 3).arm (.probe 31 254) 1000000000000, 31, 254,
    by decide +kernel⟩,
    ⟨((portIn 31 stService).wr Reg.LP_STATION_state 31 254 3).setElem 31 254 fun e =>
    { e with failed := true, failures := [true, true] }, 31, 254, by decide +kernel⟩,
    ⟨(portIn 31 stService).wr Reg.LP_STATION_state 31 254 3, 31, 254, ⟨List.replicate 64 200, 1024, 2⟩,
    by decide +kernel⟩,
    ⟨((portIn 31 stService).wr Reg.LP_STATION_state 31 254 3).setElem 31 254 fun e => { e with ceilingSet := true },
    31, 254, by decide +kernel⟩⟩

theorem witness_ChosenPaceIsBest :
    (∃ (snr : Option Nat) (g : Nat) (m : Int) (paces ceiling : Nat), ∃ q ∈ paceCandidates paces ceiling g,
      paceQualifies snr g m q = true)
    ∧ (∃ (snr : Option Nat) (g : Nat) (m : Int) (paces ceiling : Nat), ∀ q ∈ paceCandidates paces ceiling g,
      paceQualifies snr g m q = false) :=
  ⟨⟨some 255, 1, 0, 0xFFFFFF, 23, by decide +kernel⟩,
    ⟨none, 1, 0, 0xFFFFFF, 23, by decide +kernel⟩⟩

theorem witness_StationsJoinAndConfirm :
    (∃ body : Bytes, body.length = 40 ∧ uAt body 0 1 = 0 ∧ time80Ok body 11 = true)
    ∧ (∃ body : Bytes, body.length = 40 ∧ uAt body 0 1 = 0 ∧ time80Ok body 11 = true)
    ∧ (∃ (s : State) (u : Nat) (w len : Stamp), (s.stn u).state = snJoin ∧ (s.stn u).waitUntil = none ∧ (s.stn
      u).request = none ∧ (s.stn u).backoff = 0 ∧ (s.stn u).regOpen = true ∧ (s.stn u).discover = some (w, len) ∧
      s.time.mono ≤ (s.stn u).reading ((s.stn u).startFor w) ∧ w ∉ (s.stn u).usedWindows ∧ airLong (s.stn u).band 0 22
      + 500000 ≤ len ∧ slotLength (s.stn u).band ≤ len ∧ ((∀ k ∈ List.range (len / slotLength (s.stn u).band).toNat,
      (s.stn u).slotted ((s.stn u).startFor (w + k * slotLength (s.stn u).band)) = true ∧ (s.stn u).silent ((s.stn
      u).reading ((s.stn u).startFor (w + k * slotLength (s.stn u).band))) ((s.stn u).reading ((s.stn u).startFor (w +
      k * slotLength (s.stn u).band)) + airLong (s.stn u).band 0 22) = true)))
    ∧ (∃ (s : State) (u : Nat) (stamp : Stamp) (r : Stamp × Stamp), (s.stn u).state = snJoin ∧ (s.stn u).request = some
      r ∧ (r.1 < stamp ∨ r.2 + 130000000000 ≤ s.time.mono))
    ∧ (∃ (s : State) (u : Nat) (stamp : Stamp) (r : Stamp × Stamp), (s.stn u).state = snJoin ∧ (s.stn u).request = some
      r ∧ (r.1 < stamp ∨ r.2 + 130000000000 ≤ s.time.mono))
    ∧ (∃ (s : State) (u : Nat) (body : Bytes), body.length = 24 ∧ uAt body 0 1 = 2 ∧ uAt body 21 1 ≤ 23 ∧ (s.stn
      u).state = snJoin ∧ uAt body 1 8 = (s.stn u).uid)
    ∧ (∃ (s : State) (u : Nat) (body : Bytes), body.length = 10 ∧ uAt body 0 1 = 5 ∧ uAt body 1 1 ≤ 4 ∧ (s.stn u).state
      = snJoin ∧ uAt body 2 8 = (s.stn u).uid)
    ∧ (∃ (s : State) (u : Nat) (body : Bytes), body.length = 10 ∧ uAt body 0 1 = 5 ∧ uAt body 1 1 ≤ 4 ∧ (s.stn u).state
      = snJoin ∧ uAt body 2 8 = (s.stn u).uid)
    ∧ (∃ (s : State) (u : Nat) (w : Stamp), (s.stn u).waitUntil = some w ∧ w ≤ s.time.mono)
    ∧ (∃ (s : State) (u : Nat) (body : Bytes), body.length = 12 ∧ uAt body 0 1 = 1 ∧ time80Ok body 2 = true ∧ snRanging
      ≤ (s.stn u).state)
    ∧ (∃ (s : State) (u : Nat) (body : Bytes), body.length = 12 ∧ uAt body 0 1 = 1 ∧ time80Ok body 2 = true ∧ snRanging
      ≤ (s.stn u).state)
    ∧ (∃ (s : State) (u : Nat) (body : Bytes) (e : Stamp), body.length = 8 ∧ uAt body 0 1 = 3 ∧ uAt body 5 1 ≤ 1 ∧
      snRanging ≤ (s.stn u).state ∧ (s.stn u).estimate s.time.mono = some e)
    ∧ (∃ (s : State) (u : Nat) (body : Bytes) (e : Stamp), body.length = 8 ∧ uAt body 0 1 = 3 ∧ uAt body 5 1 ≤ 1 ∧
      snRanging ≤ (s.stn u).state ∧ (s.stn u).estimate s.time.mono = some e)
    ∧ (∃ (s : State) (u : Nat) (body : Bytes) (e : Stamp), body.length = 8 ∧ uAt body 0 1 = 3 ∧ uAt body 5 1 ≤ 1 ∧
      snRanging ≤ (s.stn u).state ∧ (s.stn u).estimate s.time.mono = some e)
    ∧ (∃ (s : State) (u : Nat) (body : Bytes), body.length = 8 ∧ uAt body 0 1 = 3 ∧ uAt body 5 1 = 2 ∧ snRanging ≤
      (s.stn u).state)
    ∧ (∃ (s : State) (u : Nat) (w len : Stamp), (s.stn u).state = snConfirming ∧ (s.stn u).confirms < 4 ∧ (s.stn
      u).window w = some len ∧ s.time.mono ≤ (s.stn u).reading ((s.stn u).startFor w) ∧ w ∉ (s.stn u).usedWindows ∧
      airLong (s.stn u).band 0 10 + 500000 ≤ len ∧ slotLength (s.stn u).band ≤ len ∧ ((∀ k ∈ List.range (len /
      slotLength (s.stn u).band).toNat, (s.stn u).slotted ((s.stn u).startFor (w + k * slotLength (s.stn u).band)) =
      true ∧ (s.stn u).silent ((s.stn u).reading ((s.stn u).startFor (w + k * slotLength (s.stn u).band))) ((s.stn
      u).reading ((s.stn u).startFor (w + k * slotLength (s.stn u).band)) + airLong (s.stn u).band 0 10) = true)))
    ∧ (∃ (s : State) (u : Nat) (w len : Stamp), (s.stn u).state = snConfirming ∧ (s.stn u).confirms < 4 ∧ (s.stn
      u).window w = some len ∧ s.time.mono ≤ (s.stn u).reading ((s.stn u).startFor w) ∧ w ∉ (s.stn u).usedWindows ∧
      airLong (s.stn u).band 0 10 + 500000 ≤ len ∧ slotLength (s.stn u).band ≤ len ∧ ((∀ k ∈ List.range (len /
      slotLength (s.stn u).band).toNat, (s.stn u).slotted ((s.stn u).startFor (w + k * slotLength (s.stn u).band)) =
      true ∧ (s.stn u).silent ((s.stn u).reading ((s.stn u).startFor (w + k * slotLength (s.stn u).band))) ((s.stn
      u).reading ((s.stn u).startFor (w + k * slotLength (s.stn u).band)) + airLong (s.stn u).band 0 10) = true)))
    ∧ (∃ (s : State) (u : Nat), (s.stn u).state = snConfirming ∧ 4 ≤ (s.stn u).confirms)
    ∧ (∃ (s : State) (u : Nat) (f : LineRx) (b : Bytes) (i : Nat), (s.stn u).takes f = true ∧ (Header.ofWord
      f.word).type = tyGrant ∧ (Header.ofWord f.word).sa = 0 ∧ rxPayload f (Header.ofWord f.word) = some b ∧
      (Header.ofWord f.word).frag = 0 ∧ formatOk false (Header.ofWord f.word) b = true ∧ snConfirming ≤ (s.stn u).state
      ∧ i < uAt b 1 1 ∧ uAt b (20 + 20 * i) 1 = (s.stn u).address)
    ∧ (∃ (s : State) (u : Nat) (f : LineRx) (b : Bytes), (s.stn u).takes f = true ∧ (s.stn u).state = snConfirming ∧
      (Header.ofWord f.word).type = tyData ∧ (Header.ofWord f.word).sa = 0 ∧ (s.stn u).security = false ∧ rxPayload f
      (Header.ofWord f.word) = some b ∧ (Header.ofWord f.word).frag = 0 ∧ (Header.ofWord f.word).dst ≠ 255)
    ∧ (∃ (s : State) (u : Nat) (body : Bytes), body.length = 10 ∧ uAt body 0 1 = 4 ∧ uAt body 1 1 ≤ 4 ∧ snRanging ≤
      (s.stn u).state ∧ uAt body 2 8 = (s.stn u).uid) :=
  ⟨⟨[0] ++ List.replicate 35 0 ++ [8] ++ List.replicate 3 0, by decide +kernel⟩,
    ⟨[0] ++ List.replicate 35 0 ++ [8] ++ List.replicate 3 0, by decide +kernel⟩,
    ⟨stnIn 7 snJoin fun x => { x with discover := some (1000100000000, 1000000000) }, 7, 1000100000000, 1000000000,
    by decide +kernel⟩,
    ⟨stnIn 7 snJoin fun x => { x with request := some (1000000000000, 999999000000) }, 7, 1000000000001,
    (1000000000000, 999999000000), by decide +kernel⟩,
    ⟨stnIn 7 snJoin fun x => { x with request := some (1000000000000, 870000000000) }, 7, 0, (1000000000000,
    870000000000), by decide +kernel⟩,
    ⟨stnIn 7 snJoin, 7, [2] ++ be 8 77 ++ [5] ++ be 8 3 ++ be 2 700 ++ [0xFD] ++ [23, 7, 0], by decide +kernel⟩,
    ⟨stnIn 7 snJoin, 7, [5, 4] ++ be 8 77, by decide +kernel⟩,
    ⟨stnIn 7 snJoin, 7, [5, 0] ++ be 8 77, by decide +kernel⟩,
    ⟨stnIn 7 snJoin fun x => { x with waitUntil := some 1000000000000 }, 7, 1000000000000, by decide +kernel⟩,
    ⟨stnIn 7 snRanging, 7, [1, 0] ++ be 6 1000 ++ be 4 999999999, by decide +kernel⟩,
    ⟨stnIn 7 snQuiet, 7, [1, 0] ++ be 6 1000 ++ be 4 999999999, by decide +kernel⟩,
    ⟨stnIn 7 snRanging, 7, [3, 0] ++ beInt 2 (-300) ++ [2] ++ [0, 0, 0], 1000000000000, by decide +kernel⟩,
    ⟨stnIn 7 snRanging, 7, [3, 0] ++ beInt 2 (-300) ++ [2] ++ [1, 0, 0], 1000000000000, by decide +kernel⟩,
    ⟨stnIn 7 snQuiet, 7, [3, 0] ++ beInt 2 (-300) ++ [2] ++ [1, 0, 0], 1000000000000, by decide +kernel⟩,
    ⟨stnIn 7 snQuiet, 7, [3, 0] ++ beInt 2 (-300) ++ [2] ++ [2, 0, 0], by decide +kernel⟩,
    ⟨stnIn 7 snConfirming fun x => { x with confirms := 3, discover := some (1000000000000, 1000000000) }, 7,
    1000000000000, 1000000000, by decide +kernel⟩,
    ⟨stnIn 7 snConfirming fun x => { x with contend := [(1000000000000, 1000000000)] }, 7, 1000000000000, 1000000000,
    by decide +kernel⟩,
    ⟨stnIn 7 snConfirming fun x => { x with confirms := 4 }, 7, by decide +kernel⟩,
    ⟨stnIn 7 snConfirming, 7, rx { hdr 255 0 tyGrant 32 with src := 0 } ([0, 1] ++ be 6 1000 ++ be 4 0 ++ be 4 7000 ++
    be 4 90000 ++ [5, 3] ++ List.replicate 2 0 ++ be 8 3), [0, 1] ++ be 6 1000 ++ be 4 0 ++ be 4 7000 ++ be 4 90000 ++
    [5, 3] ++ List.replicate 2 0 ++ be 8 3, 0, by decide +kernel⟩,
    ⟨stnIn 7 snConfirming, 7, rx (hdr 5 0 tyData 3) [1, 2, 3], [1, 2, 3], by decide +kernel⟩,
    ⟨stnIn 7 snRanging, 7, [4, 4] ++ be 8 77, by decide +kernel⟩⟩

theorem witness_StationServes :
    (∃ (s : State) (u : Nat) (body : Bytes), body.length = 16 ∧ uAt body 0 1 = 0 ∧ time80Ok body 2 = true ∧ ((s.stn
      u).state = snActive ∨ (s.stn u).state = snQuiet))
    ∧ (∃ (s : State) (u : Nat) (body : Bytes), body.length = 16 ∧ uAt body 0 1 = 0 ∧ time80Ok body 2 = true ∧ ((s.stn
      u).state = snActive ∨ (s.stn u).state = snQuiet))
    ∧ (∃ (s : State) (u : Nat) (h : Header) (a : Stamp × Stamp) (target : Stamp), h.type = tyRange ∧ snRanging ≤ (s.stn
      u).state ∧ (s.stn u).anchor = some a ∧ (s.stn u).rangeAt = some target ∧ (a.1 + (s.time.mono - a.2) - ((s.stn
      u).adjusted target).startFor target).natAbs ≤ (s.stn u).band.ns ∧ target - a.1 ≤ (s.stn u).band.reach ∧ (s.stn
      u).silent s.time.mono (s.time.mono + airLong (s.stn u).band 0 8) = true)
    ∧ (∃ (s : State) (u : Nat) (h : Header) (a : Stamp × Stamp) (target : Stamp), h.type = tyRefresh ∧ snRanging ≤
      (s.stn u).state ∧ (s.stn u).anchor = some a ∧ (s.stn u).refreshAt = some target ∧ (a.1 + (s.time.mono - a.2) -
      ((s.stn u).adjusted target).startFor target).natAbs ≤ (s.stn u).band.ns ∧ target - a.1 ≤ (s.stn u).band.reach ∧
      (s.stn u).silent s.time.mono (s.time.mono + airGrant (s.stn u).band (max 1 (popCount 64 (s.stn u).allot)) (s.stn
      u).upPace 16) = true)
    ∧ (∃ (s : State) (u : Nat) (h h' : Header) (body plain : Bytes) (y : Stn) (a : Stamp × Stamp) (g : StnGrant),
      h.type ≤ tyMgmt ∧ (s.stn u).state = snActive ∧ (s.stn u).anchor = some a ∧ (((s.stn u).grants.find? fun g =>
      decide ((a.1 + (s.time.mono - a.2) - ((s.stn u).adjusted g.next).startFor g.next).natAbs ≤ (s.stn u).band.ns ∧
      g.next - a.1 ≤ (s.stn u).band.reach ∧ h.pace ≤ g.pace ∧ paceD h.pace ≤ popCount 64 g.mask)) = some g) ∧ ((s.stn
      u).adjusted g.next).compose h body = some (h', plain, y) ∧ g.next + airGrant (s.stn u).band (max 1 (popCount 64
      g.mask)) h'.pace (plain.length + securityBytes h'.sa) ≤ g.stop ∧ (s.stn u).silent s.time.mono (s.time.mono +
      airGrant (s.stn u).band (max 1 (popCount 64 g.mask)) h'.pace (plain.length + securityBytes h'.sa)) = true)
    ∧ (∃ (s : State) (u : Nat) (w len : Stamp) (h : Header) (a : Stamp × Stamp), h.type = tyReg ∧ ((s.stn u).state =
      snConfirming ∨ (s.stn u).state = snActive) ∧ (s.stn u).anchor = some a ∧ (s.stn u).window w = some len ∧
      s.time.mono ≤ (s.stn u).reading ((s.stn u).startFor w) ∧ w ∉ (s.stn u).usedWindows ∧ airLong (s.stn u).band 0 10
      + 500000 ≤ len ∧ slotLength (s.stn u).band ≤ len ∧ ((∀ k ∈ List.range (len / slotLength (s.stn u).band).toNat,
      (s.stn u).slotted ((s.stn u).startFor (w + k * slotLength (s.stn u).band)) = true ∧ (s.stn u).silent ((s.stn
      u).reading ((s.stn u).startFor (w + k * slotLength (s.stn u).band))) ((s.stn u).reading ((s.stn u).startFor (w +
      k * slotLength (s.stn u).band)) + airLong (s.stn u).band 0 10) = true)))
    ∧ (∃ (s : State) (u : Nat), (s.stn u).state ≠ snSearch ∧ (s.stn u).lastHeard + 150000000000 ≤ s.time.mono)
    ∧ (∃ (s : State) (u : Nat), (s.stn u).state = snRanging ∧ (s.stn u).rangingSince + 130000000000 ≤ s.time.mono)
    ∧ (∃ (s : State) (u : Nat) (a : Stamp × Stamp), (s.stn u).anchor = some a ∧ (s.stn u).bell = true ∧ bit (uAt (s.stn
      u).caps 14 1) 2 = true ∧ ((∀ b, (s.stn u).bellAt = some b → b + 10000000000 ≤ s.time.mono)) ∧ (s.stn u).silent
      s.time.mono (s.time.mono + 16384000) = true ∧ ((s.stn u).state = snSearch ∨ ((s.stn u).state = snQuiet ∧ (s.stn
      u).refreshAt = none ∧ (s.stn u).refreshEnd ≤ a.1 + (s.time.mono - a.2) ∧ a.1 + (s.time.mono - a.2) + (s.stn u).ta
      * ((s.stn u).band.ns : Int) + 16384000 < (s.stn u).nextCycle)))
    ∧ (∃ (s : State) (u : Nat) (f : LineRx) (b r : Bytes), (s.stn u).takes f = true ∧ (Header.ofWord f.word).type =
      tyMgmt ∧ (Header.ofWord f.word).frag = 0 ∧ (Header.ofWord f.word).sa = 0 ∧ (s.stn u).security = false ∧ rxPayload
      f (Header.ofWord f.word) = some b ∧ formatOk false (Header.ofWord f.word) b = true ∧ mgmtFormat false b = true ∧
      (s.stn u).kept = some (uAt b 1 2, r))
    ∧ (∃ (s : State) (u : Nat) (f : LineRx) (b v : Bytes) (status : Nat), (s.stn u).takes f = true ∧ (Header.ofWord
      f.word).type = tyMgmt ∧ (Header.ofWord f.word).frag = 0 ∧ (Header.ofWord f.word).sa = 0 ∧ (s.stn u).security =
      false ∧ rxPayload f (Header.ofWord f.word) = some b ∧ formatOk false (Header.ofWord f.word) b = true ∧ mgmtFormat
      false b = true ∧ ((∀ k, (s.stn u).kept = some k → k.1 ≠ uAt b 1 2)) ∧ Stn.serve
      { (s.stn u).tally (Header.ofWord f.word) true with dsSnr := (List.range 64).map fun g => BitVec.ofNat 8 (f.snr.getD g 255) }
      (decide (uAt b 0 1 = 2)) (uAt b 3 2) (uAt b 5 1) (uAt b 6 3 % 1048576) = (status, v))
    ∧ (∃ (s : State) (u : Nat) (f : LineRx) (b plain : Bytes) (a : StnAssoc), (s.stn u).takes f = true ∧ (Header.ofWord
      f.word).type = tyMgmt ∧ rxPayload f (Header.ofWord f.word) = some b ∧ (Header.ofWord f.word).sa ≠ 0 ∧ ((s.stn
      u).assocs.find? fun x => x.sa == (Header.ofWord f.word).sa) = some a ∧ a.rxPn < uAt b 0 6 ∧ 15 ≤ b.length ∧
      ccmDecrypt a.key (ccmNonce false (Header.ofWord f.word) (uAt b 0 6)) (be 14 (Header.ofWord f.word).high) (b.drop
      6) = some plain)
    ∧ (∃ (s : State) (u : Nat) (f : LineRx) (b : Bytes) (a : StnAssoc), (s.stn u).takes f = true ∧ (Header.ofWord
      f.word).type = tyMgmt ∧ rxPayload f (Header.ofWord f.word) = some b ∧ (Header.ofWord f.word).sa ≠ 0 ∧ ((s.stn
      u).assocs.find? fun x => x.sa == (Header.ofWord f.word).sa) = some a ∧ uAt b 0 6 ≤ a.rxPn)
    ∧ (∃ (s : State) (u : Nat) (f : LineRx) (b plain : Bytes), (s.stn u).takes f = true ∧ (Header.ofWord f.word).sa ≠ 0
      ∧ bit (uAt (s.stn u).caps 14 1) 1 = true ∧ ((∀ a ∈ (s.stn u).assocs, a.sa ≠ (Header.ofWord f.word).sa)) ∧
      rxPayload f (Header.ofWord f.word) = some b ∧ 15 ≤ b.length ∧ ccmDecrypt (s.stn u).commissioning (ccmNonce false
      (Header.ofWord f.word) (uAt b 0 6)) (be 14 (Header.ofWord f.word).high) (b.drop 6) = some plain)
    ∧ (∃ (s : State) (u : Nat) (f : LineRx) (b : Bytes), (s.stn u).takes f = true ∧ (Header.ofWord f.word).sa ≠ 0 ∧ bit
      (uAt (s.stn u).caps 14 1) 1 = true ∧ ((∀ a ∈ (s.stn u).assocs, a.sa ≠ (Header.ofWord f.word).sa)) ∧ rxPayload f
      (Header.ofWord f.word) = some b ∧ (b.length < 15 ∨ ccmDecrypt (s.stn u).commissioning (ccmNonce false
      (Header.ofWord f.word) (uAt b 0 6)) (be 14 (Header.ofWord f.word).high) (b.drop 6) = none)) :=
  ⟨⟨stnIn 7 snActive, 7, [0, 0] ++ be 6 1000 ++ be 4 999999999 ++ be 2 60 ++ [0, 0], by decide +kernel⟩,
    ⟨stnIn 7 snQuiet, 7, [0, 1] ++ be 6 1000 ++ be 4 999999999 ++ be 2 60 ++ [0, 0], by decide +kernel⟩,
    ⟨stnIn 7 snRanging fun x =>
    { x with anchor := some ((x.adjusted 1000000020000).startFor 1000000020000, 1000000000000), rangeAt := some 1000000020000 },
    7, hdr 0 5 tyRange 8, ((stnIn 7 snRanging).stn 7 |>.adjusted 1000000020000 |>.startFor 1000000020000,
    1000000000000), 1000000020000, by decide +kernel⟩,
    ⟨stnIn 7 snQuiet fun x =>
    { x with anchor := some ((x.adjusted 1000000020000).startFor 1000000020000, 1000000000000), refreshAt := some 1000000020000, allot := 3, leaveQuiet := true },
    7, hdr 0 5 tyRefresh 16, ((stnIn 7 snRanging).stn 7 |>.adjusted 1000000020000 |>.startFor 1000000020000,
    1000000000000), 1000000020000, by decide +kernel⟩,
    ⟨granted7, 7, hdr 0 5 tyData 3, sent7.1, [1, 2, 3], sent7.2.1, sent7.2.2, (1000000000000, 1000000000000),
    ⟨1000000000000, 1001000000000, 0, 2 ^ 64 - 1⟩, by decide +kernel⟩,
    ⟨stnIn 7 snActive fun x => { x with discover := some (1000000000000, 1000000000) }, 7, 1000000000000, 1000000000,
    hdr 0 5 tyReg 10, (1000000000000, 1000000000000), by decide +kernel⟩,
    ⟨stnIn 7 snQuiet fun x => { x with lastHeard := 850000000000 }, 7, by decide +kernel⟩,
    ⟨stnIn 7 snRanging fun x => { x with rangingSince := 870000000000 }, 7, by decide +kernel⟩,
    ⟨stnIn 7 snSearch fun x =>
    { x with bell := true, caps := List.replicate 14 0 ++ [4, 0, 0, 0, 0, 0], bellAt := some 990000000000 }, 7,
    (1000000000000, 1000000000000), ⟨by decide +kernel, by decide +kernel, by decide +kernel, fun _ h =>
    Option.some.inj h ▸ by decide +kernel, by decide +kernel, by decide +kernel⟩⟩,
    ⟨stnIn 7 snActive fun x => { x with kept := some (9, [1, 2]) }, 7, rx (hdr 5 0 tyMgmt 12) mreq, mreq, [1, 2],
    by decide +kernel⟩,
    ⟨stnIn 7 snActive, 7, rx (hdr 5 0 tyMgmt 12) mreq, mreq, [], stNoObject, ⟨by decide +kernel, by decide +kernel,
    by decide +kernel, by decide +kernel, by decide +kernel, by decide +kernel, by decide +kernel, by decide +kernel,
    fun _ h => (by cases h), by decide +kernel⟩⟩,
    ⟨stnIn 7 snActive fun x => { x with assocs := [⟨15, List.replicate 16 3, 0, 0⟩] }, 7, rx
    { hdr 5 0 tyMgmt 26 with sa := 15 } secReq, secReq, mreq, ⟨15, List.replicate 16 3, 0, 0⟩, by decide +kernel⟩,
    ⟨stnIn 7 snActive fun x => { x with assocs := [⟨15, List.replicate 16 3, 9, 0⟩] }, 7, rx
    { hdr 5 0 tyMgmt 26 with sa := 15 } secReq, secReq, ⟨15, List.replicate 16 3, 9, 0⟩, by decide +kernel⟩,
    ⟨stnIn 7 snActive fun x =>
    { x with caps := be 8 77 ++ List.replicate 6 0 ++ [2, 0, 0, 0, 0, 0], commissioning := List.replicate 16 3 }, 7, rx
    { hdr 5 0 tyMgmt 26 with sa := 15 } secReq, secReq, mreq, by decide +kernel⟩,
    ⟨stnIn 7 snActive fun x => { x with caps := be 8 77 ++ List.replicate 6 0 ++ [2, 0, 0, 0, 0, 0] }, 7, rx
    { hdr 5 0 tyData 14 with sa := 15 } (List.replicate 14 1), List.replicate 14 1, by decide +kernel⟩⟩

theorem witness_SweepsComplete :
    (∃ (s : State) (p : Port) (b : Nat), s.runs = true ∧ (s.port p).sound.band = some b ∧ (s.port
      p).sound.engine.isSome = true ∧ (s.port p).sound.setup = true ∧ (s.port p).sound.stepEnd ≤ s.now ∧ s.now +
      sweepPeriod b ≤ s.windowLimit p ∧ s.soundBarred p = false)
    ∧ (∃ (s : State) (p : Port) (b : Nat), s.runs = true ∧ (s.port p).sound.band = some b ∧ (s.port
      p).sound.engine.isSome = true ∧ (s.port p).sound.setup = true ∧ (s.port p).sound.stepEnd ≤ s.now ∧ (s.windowLimit
      p < s.now + sweepPeriod b ∨ s.soundBarred p = true))
    ∧ (∃ (s : State) (p : Port) (r : SweepRecord) (b : Nat), s.runs = true ∧ s.portState p = stService ∧ (s.port
      p).sound.band = some b ∧ (s.port p).sound.focusOn = false ∧ (s.port p).sound.engine.isSome = true ∧ (s.port
      p).sound.setup = false ∧ (s.port p).sound.stepEnd ≤ s.now ∧ s.bandFull p b = false ∧ ((s.port p).sound.acc
      b).rejects r (tapsIn 32 (s.calInForce p).ffe) = false)
    ∧ (∃ (s : State) (p : Port) (r : SweepRecord) (b : Nat), s.runs = true ∧ s.portState p = stService ∧ (s.port
      p).sound.band = some b ∧ (s.port p).sound.focusOn = false ∧ (s.port p).sound.engine.isSome = true ∧ (s.port
      p).sound.setup = false ∧ (s.port p).sound.stepEnd ≤ s.now ∧ s.bandFull p b = false ∧ ((s.port p).sound.acc
      b).rejects r (tapsIn 32 (s.calInForce p).ffe) = true)
    ∧ (∃ (s : State) (p : Port) (b : Nat), s.runs = true ∧ (s.port p).sound.band = some b ∧ (s.port p).sound.focusOn =
      false ∧ (s.port p).sound.setup = false ∧ s.bandFull p b = true ∧ s.rdN Reg.LR_CTL_averages p ≤ 2 * ((s.port
      p).sound.acc b).accepted)
    ∧ (∃ (s : State) (p : Port) (b : Nat), s.runs = true ∧ (s.port p).sound.band = some b ∧ (s.port p).sound.focusOn =
      false ∧ (s.port p).sound.setup = false ∧ s.bandFull p b = true ∧ 2 * ((s.port p).sound.acc b).accepted < s.rdN
      Reg.LR_CTL_averages p)
    ∧ (∃ (s : State) (p : Port) (b : Nat) (rest : List Nat), s.runs = true ∧ (s.port p).sound.ready = b :: rest ∧
      s.cellSlot = true ∧ ((∃ x < 3, s.bandEnabled p x = true ∧ bit ((s.port p).sound.done ||| 2 ^ b) x = false)))
    ∧ (∃ (s : State) (p : Port) (b : Nat) (rest : List Nat), s.runs = true ∧ (s.port p).sound.ready = b :: rest ∧
      s.cellSlot = true ∧ s.portState p = stService ∧ (s.port p).sound.capture = none ∧ ((∀ x < 3, s.bandEnabled p x =
      true → bit ((s.port p).sound.done ||| 2 ^ b) x = true)))
    ∧ (∃ (s : State) (p : Port) (cell : Nat), s.runs = true ∧ s.cellSlot = true ∧ cell < s.mapped p ∧ bit (cellFlags
      (s.cell p cell)) 6 = false ∧ s.rd Reg.LR_CTL_stale_time p * nsPerSec ≤ s.now - s.cellStamp p cell) :=
  ⟨⟨(((portIn 31 stService)).setPort 31 fun q =>
    { q with winEnd := 2000000000000, sound := { q.sound with band := some 0, engine := some 3, setup := true, stepEnd := 1000000000000 } }),
    31, 0, by decide +kernel⟩,
    ⟨(((portIn 31 stService)).setPort 31 fun q =>
    { q with winEnd := 1000001000000, sound := { q.sound with band := some 0, engine := some 3, setup := true, stepEnd := 1000000000000 } }),
    31, 0, by decide +kernel⟩,
    ⟨(portIn 31 stService).setPort 31 fun q =>
    { q with sound := { q.sound with band := some 2, engine := some 0, stepEnd := 1000000000000 } }, 31, ⟨false, [1,
    -2]⟩, 2, by decide +kernel⟩,
    ⟨(portIn 31 stService).setPort 31 fun q =>
    { q with sound := { q.sound with band := some 2, engine := some 0, stepEnd := 1000000000000 } }, 31, ⟨true, [1,
    -2]⟩, 2, by decide +kernel⟩,
    ⟨(portIn 31 stService).setPort 31 fun q =>
    { q with sound := { q.sound with band := some 1, mid := { accepted := 64, swept := 65, sum := [3] } } }, 31, 1,
    by decide +kernel⟩,
    ⟨(portIn 31 stService).setPort 31 fun q =>
    { q with sound := { q.sound with band := some 1, mid := { accepted := 1, swept := 200, sum := [3] } } }, 31, 1,
    by decide +kernel⟩,
    ⟨(inSlot15 (portIn 31 stService) 3).setPort 31 fun q =>
    { q with sound := { q.sound with ready := [0, 2], near := { accepted := 0, profile := some [5, 6] } } }, 31, 0,
    [2], by decide +kernel⟩,
    ⟨(inSlot15 (portIn 31 stService) 3).setPort 31 fun q =>
    { q with sound := { q.sound with ready := [0], done := 6, far := { measured := 999000000000 } } }, 31, 0, [],
    by decide +kernel⟩,
    ⟨(inSlot15 (portIn 31 stService) 3).wr Reg.LR_CTL_stale_time 31 0 600, 31, 163839, by decide +kernel⟩⟩

theorem witness_DcMonitorCompletes :
    (∃ (s : State) (p : Port), s.runs = true ∧ s.dcRuns p = true ∧ s.due (.loop p.val) = true ∧ s.portState p ≠
      stCheck)
    ∧ (∃ (s : State) (p : Port), s.runs = true ∧ s.dcRuns p = true ∧ s.due (.loop p.val) = true ∧ s.portState p ≠
      stCheck)
    ∧ (∃ (s : State) (p : Port), s.runs = true ∧ s.dcRuns p = true ∧ s.due (.loop p.val) = true ∧ s.portState p ≠
      stCheck)
    ∧ (∃ (s : State) (p : Port), s.runs = true ∧ s.dcRuns p = true ∧ s.due (.loop p.val) = true ∧ s.portState p ≠
      stCheck ∧ (s.port p).dc.isOpen = some false)
    ∧ (∃ (s : State) (p : Port) (v : Nat), s.runs = true ∧ s.dcRuns p = true ∧ s.due (.loop p.val) = true ∧ s.portState
      p ≠ stCheck ∧ (s.port p).dc.isOpen = some false ∧ 1000 ≤ v ∧ v ≤ 2000000 ∧ ((s.port p).dc.loops.take 16).length =
      16 ∧ ((s.port p).dc.loops.take 16).sum < 20 * ((v : Int) * 16 - ((s.port p).dc.loops.take 16).sum).natAbs)
    ∧ (∃ (s : State) (p : Port) (v : Nat), s.runs = true ∧ s.dcRuns p = true ∧ s.due (.loop p.val) = true ∧ s.portState
      p = stCheck ∧ s.running (.check p.val) = false ∧ (s.port p).dc.insulResult = some true ∧ v ≤ 2000000)
    ∧ (∃ (s : State) (p : Port) (x : Bool), s.runs = true ∧ s.dcRuns p = true ∧ s.due (.loop p.val) = true ∧
      s.portState p = stCheck ∧ s.running (.check p.val) = false ∧ (s.port p).dc.insulResult = some x)
    ∧ (∃ (s : State) (p : Port), s.runs = true ∧ s.dcRuns p = true ∧ (s.port p).dc.measuring = false ∧ s.due
      (.insulation p.val) = true)
    ∧ (∃ (s : State) (p : Port) (m : InsulationMeas), s.runs = true ∧ s.dcRuns p = true ∧ s.portState p ≠ stCheck ∧
      (s.port p).dc.measuring = true ∧ 2 * nsPerSec ≤ s.now - (s.port p).dc.measureStart ∧ (m.settled = true ∨ 60 *
      nsPerSec ≤ s.now - (s.port p).dc.measureStart))
    ∧ (∃ (s : State) (p : Port) (m : InsulationMeas), s.runs = true ∧ s.dcRuns p = true ∧ s.portState p ≠ stCheck ∧
      (s.port p).dc.measuring = true ∧ 2 * nsPerSec ≤ s.now - (s.port p).dc.measureStart ∧ (m.settled = true ∨ 60 *
      nsPerSec ≤ s.now - (s.port p).dc.measureStart))
    ∧ (∃ (s : State) (p : Port) (m : InsulationMeas), s.runs = true ∧ s.dcRuns p = true ∧ s.portState p ≠ stCheck ∧
      (s.port p).dc.measuring = true ∧ (s.port p).dc.isOpen = some false ∧ m.settled = true ∧ 2 * nsPerSec ≤ s.now -
      (s.port p).dc.measureStart ∧ (s.port p).dc.low = false ∧ insulation m.aPlus m.aMinus < s.rdN
      Reg.LR_DC_alarm_level p)
    ∧ (∃ (s : State) (p : Port) (m : InsulationMeas), s.runs = true ∧ s.dcRuns p = true ∧ s.portState p = stCheck ∧
      (s.port p).dc.measuring = true ∧ (s.port p).dc.isOpen = some false ∧ m.settled = true ∧ 2 * nsPerSec ≤ s.now -
      (s.port p).dc.measureStart ∧ (s.port p).dc.loopResult = some true ∧ s.running (.check p.val) = false ∧ s.rdN
      Reg.LP_ACCESS_insulation_floor p ≤ insulation m.aPlus m.aMinus)
    ∧ (∃ plus minus : Int, plus ≤ minus)
    ∧ (∃ plus minus : Int, minus < plus) :=
  ⟨⟨(((portIn 31 stService).wr Reg.LR_DC_enable 31 0 1).arm (.loop 31) 1000000000000), 31, by decide +kernel⟩,
    ⟨(((portIn 31 stService).wr Reg.LR_DC_enable 31 0 1).arm (.loop 31) 1000000000000), 31, by decide +kernel⟩,
    ⟨(((portIn 31 stService).wr Reg.LR_DC_enable 31 0 1).arm (.loop 31) 1000000000000), 31, by decide +kernel⟩,
    ⟨(((portIn 31 stService).wr Reg.LR_DC_enable 31 0 1).arm (.loop 31) 1000000000000).setPort 31 fun q =>
    { q with dc := { q.dc with isOpen := some false } }, 31, by decide +kernel⟩,
    ⟨(((portIn 31 stService).wr Reg.LR_DC_enable 31 0 1).arm (.loop 31) 1000000000000).setPort 31 fun q =>
    { q with dc := { q.dc with isOpen := some false, loops := List.replicate 17 100000 } }, 31, 105001,
    by decide +kernel⟩,
    ⟨(((portIn 31 stCheck).wr Reg.LR_DC_enable 31 0 1).arm (.loop 31) 1000000000000).setPort 31 fun q =>
    { q with dc := { q.dc with insulResult := some true } }, 31, 1000, by decide +kernel⟩,
    ⟨(((portIn 31 stCheck).wr Reg.LR_DC_enable 31 0 1).arm (.loop 31) 1000000000000).setPort 31 fun q =>
    { q with dc := { q.dc with insulResult := some true } }, 31, true, by decide +kernel⟩,
    ⟨(((portIn 31 stQuiet).wr Reg.LR_DC_enable 31 0 1).arm (.insulation 31) 1000000000000), 31, by decide +kernel⟩,
    ⟨(((portIn 31 stService).wr Reg.LR_DC_enable 31 0 1).arm (.loop 31) 1000000000000).setPort 31 fun q =>
    { q with dc := { q.dc with measuring := true, measureStart := 998000000000, isOpen := some false } }, 31, ⟨2000, 0,
    5, 5, true, 9⟩, by decide +kernel⟩,
    ⟨(((portIn 31 stService).wr Reg.LR_DC_enable 31 0 1).arm (.loop 31) 1000000000000).setPort 31 fun q =>
    { q with dc := { q.dc with measuring := true, measureStart := 940000000000, isOpen := some true } }, 31, ⟨2000, 0,
    5, 5, false, 9⟩, by decide +kernel⟩,
    ⟨((((portIn 31 stService).wr Reg.LR_DC_enable 31 0 1).wr Reg.LR_DC_alarm_level 31 0 1000000).arm (.loop 31)
    1000000000000).setPort 31 fun q =>
    { q with dc := { q.dc with measuring := true, measureStart := 998000000000, isOpen := some false } }, 31,
    ⟨200000000, 0, 5, 5, true, 9⟩, by decide +kernel⟩,
    ⟨(((portIn 31 stCheck).wr Reg.LR_DC_enable 31 0 1).arm (.loop 31) 1000000000000).setPort 31 fun q =>
    { q with dc := { q.dc with measuring := true, measureStart := 998000000000, isOpen := some false, loopResult := some true } },
    31, ⟨200000, 0, 5, 5, true, 9⟩, by decide +kernel⟩,
    ⟨5, 5, by decide +kernel⟩,
    ⟨1000000000, 0, by decide +kernel⟩⟩

theorem witness_FocusAndReadoutComplete :
    (∃ (s : State) (p : Port), s.runs = true ∧ s.flag Reg.LR_FOCUS_request p = true ∧ (s.port p).sound.focus = none)
    ∧ (∃ (s : State) (p : Port) (f : Focus), s.runs = true ∧ s.flag Reg.LR_FOCUS_request p = true ∧ (s.port
      p).sound.focus = some f)
    ∧ (∃ (s : State) (p : Port), s.runs = true ∧ (s.port p).sound.focus.isSome = true ∧ s.passed (.focus p.val) = true)
    ∧ (∃ (s : State) (p : Port) (f : Focus), s.runs = true ∧ s.cellSlot = true ∧ (s.port p).sound.focusRun = some f ∧
      f.bands = [] ∧ (s.port p).sound.focusOn = false)
    ∧ (∃ (s : State) (p : Port) (f : Focus), s.runs = true ∧ s.cellSlot = true ∧ (s.port p).sound.focusRun = some f ∧
      f.bands = [] ∧ (s.port p).sound.focusOn = false)
    ∧ (∃ (s : State) (p : Port), s.runs = true ∧ s.flag Reg.LR_READOUT_start p = true ∧ s.inBulk = true ∧ (s.port
      p).sound.readout = none)
    ∧ (∃ (s : State) (p : Port) (content first count pos sent : Nat), s.runs = true ∧ s.inBulk = true ∧ (s.port
      p).sound.readout = some (content, first, count, pos, sent) ∧ s.readoutItems p content first count ≤ sent) :=
  ⟨⟨((portIn 31 stService).wr Reg.LR_FOCUS_request 31 0 1).wr Reg.LR_FOCUS_centre 31 0 163839, 31, by decide +kernel⟩,
    ⟨(((portIn 31 stService).wr Reg.LR_FOCUS_request 31 0 1).wr Reg.LR_FOCUS_centre 31 0 163839).setPort 31 fun q =>
    { q with sound := { q.sound with focus := some { lo := 0, hi := 9 } } }, 31, { lo := 0, hi := 9 },
    by decide +kernel⟩,
    ⟨((portIn 31 stService).arm (.focus 31) 999999999999).setPort 31 fun q =>
    { q with sound := { q.sound with focus := some { lo := 0, hi := 9 } } }, 31, by decide +kernel⟩,
    ⟨(inSlot15 (portIn 31 stService) 3).setPort 31 fun q =>
    { q with sound := { q.sound with focusRun := some { lo := 0, hi := 9 } } }, 31, { lo := 0, hi := 9 },
    by decide +kernel⟩,
    ⟨(inSlot15 (portIn 31 stService) 3).setPort 31 fun q =>
    { q with sound := { q.sound with focusRun := some { lo := 3, hi := 9, profiles := [(0, [700000, 800000])] } } },
    31, { lo := 3, hi := 9, profiles := [(0, [700000, 800000])] }, by decide +kernel⟩,
    ⟨inSlot15 ((portIn 31 stService).wr Reg.LR_READOUT_start 31 0 1) 0, 31, by decide +kernel⟩,
    ⟨(inSlot15 (portIn 31 stService) 0).setPort 31 fun q =>
    { q with sound := { q.sound with readout := some (0, 163839, 5, 0, 1) } }, 31, 0, 163839, 5, 0, 1,
    by decide +kernel⟩⟩

theorem witness_LastCompletes :
    (∃ (s : State) (p : Port), s.runs = true ∧ s.flag Reg.LR_LAST_capture p = true)
    ∧ (∃ (s : State) (p : Port) (c : Capture), s.runs = true ∧ (s.port p).sound.capture = some c ∧ c.left = 0 ∧
      c.columns ≠ [] ∧ c.opened = true)
    ∧ (∃ (s : State) (p : Port) (c : Capture), s.runs = true ∧ (s.port p).sound.capture = some c ∧ c.left = 0 ∧
      c.columns ≠ [] ∧ c.opened = false ∧ s.mapped p ≤ 163840 ∧ ((∀ x ∈ c.loops, ((x * c.columns.length : Nat) -
      (c.loops.sum : Int)).natAbs * 1000 ≤ 8 * c.loops.sum)) ∧ ((∀ i < s.mapped p, spread c.columns.length (c.sums i) ≤
      s.rdN Reg.LR_LAST_stability_limit p * s.rdN Reg.LR_LAST_stability_limit p * c.columns.length * c.columns.length))
      ∧ ((∃ x < 3, s.bandEnabled p x = true ∧ bandLo x < s.mapped p)))
    ∧ (∃ (s : State) (p : Port), s.runs = true ∧ (s.port p).sound.loadCells ≠ [] ∧ ((∀ i ∈ (s.port p).sound.loadCells,
      i < 163840)) ∧ s.lastKeyNow p = s.lastKeyHeld p)
    ∧ (∃ (s : State) (p : Port), s.runs = true ∧ s.lastKeyNow p ≠ s.lastKeyHeld p) :=
  ⟨⟨(portIn 31 stService).wr Reg.LR_LAST_capture 31 0 1, 31, by decide +kernel⟩,
    ⟨((portIn 31 stService).wr Reg.LR_CTL_mapped_length 31 0 3).setPort 31 fun q =>
    { q with sound := { q.sound with capture := some { left := 0, columns := [[1, 2, 3], [1, 2, 3]], loops := [100000, 100100], opened := true } } },
    31, { left := 0, columns := [[1, 2, 3], [1, 2, 3]], loops := [100000, 100100], opened := true },
    by decide +kernel⟩,
    ⟨((portIn 31 stService).wr Reg.LR_CTL_mapped_length 31 0 3).setPort 31 fun q =>
    { q with sound := { q.sound with capture := some { left := 0, columns := [[1, 2, 3], [1, 2, 3]], loops := [100000, 100100], opened := false } } },
    31, { left := 0, columns := [[1, 2, 3], [1, 2, 3]], loops := [100000, 100100], opened := false },
    by decide +kernel⟩,
    ⟨(portIn 31 stService).setPort 31 fun q => { q with sound := { q.sound with loadCells := [0, 163839] } }, 31,
    by decide +kernel⟩,
    ⟨(portIn 31 stService).wr Reg.LP_TX_impedance 31 0 75, 31, by decide +kernel⟩⟩

theorem witness_ItinerariesRunAndSend :
    (∃ (s : State) (p : Port), s.runs = true ∧ s.ready = true ∧ (s.port p).winEnd ≤ s.now ∧ s.switchDue p = false ∧
      s.soundTurn p = true)
    ∧ (∃ i : Nat, i < 256)
    ∧ (∃ (s : State) (p : Port), s.runs = true ∧ s.ready = true ∧ s.switchDue p = true ∧ s.soundTurn p = true)
    ∧ (∃ (s : State) (p : Port), s.runs = true ∧ s.beaconWanted p = true ∧ s.now = s.beaconStart p ∧ (s.port
      p).winStart ≤ s.now ∧ s.mayTransmit p = true ∧ s.carrying p = false)
    ∧ (∃ (s : State) (p : Port), s.runs = true ∧ s.beaconWanted p = true ∧ (s.beaconStart p < s.now ∨ (s.beaconStart p
      = s.now ∧ (s.mayTransmit p = false ∨ s.carrying p = true))))
    ∧ (∃ (s : State) (p : Port) (g : GrantPlan), s.runs = true ∧ (s.grantPlans p).head? = some g ∧ s.now = g.base ∧
      (s.port p).winStart ≤ s.now ∧ s.mayTransmit p = true ∧ s.carrying p = false ∧ g.count ≠ 0)
    ∧ (∃ (s : State) (p : Port) (g : GrantPlan), s.runs = true ∧ (s.grantPlans p).head? = some g ∧ g.base < s.now)
    ∧ (∃ (s : State) (p : Port), s.runs = true ∧ s.now < (s.port p).winEnd ∧ s.mayTransmit p = true ∧ winType
      (s.curWindow p) = wDown ∧ s.carrying p = false ∧ s.accessState p = true ∧ (s.port p).bellDue = true ∧ s.now +
      16384000 ≤ s.downLimit p)
    ∧ (∃ (s : State) (p : Port), s.runs = true ∧ s.now < (s.port p).winEnd ∧ s.mayTransmit p = true ∧ winType
      (s.curWindow p) = wDown ∧ s.carrying p = false ∧ s.accessState p = true ∧ (s.port p).bellDue = false ∧ (s.port
      p).beaconDue = true ∧ s.now + airLong (s.port p).band 0 40 ≤ s.downLimit p)
    ∧ (∃ (s : State) (p : Port) (c : CtlFrame), s.runs = true ∧ s.now < (s.port p).winEnd ∧ s.mayTransmit p = true ∧
      winType (s.curWindow p) = wDown ∧ s.carrying p = false ∧ s.accessState p = true ∧ (s.port p).bellDue = false ∧
      (s.port p).beaconDue = false ∧ (((s.port p).ctl.filter fun f => decide (s.now + s.ctlAir p f ≤ s.downLimit p) &&
      (f.sa == 0 || s.canProtect p f.sa)).find? fun f => f.rank == 0) = some c ∧ c.sa = 0 ∧ c.type = tyReg)
    ∧ (∃ (s : State) (p : Port) (a : Nat) (at' : Stamp), s.runs = true ∧ s.now < (s.port p).winEnd ∧ s.mayTransmit p =
      true ∧ winType (s.curWindow p) = wDown ∧ s.carrying p = false ∧ s.accessState p = true ∧ (s.port p).bellDue =
      false ∧ (s.port p).beaconDue = false ∧ ((∀ f ∈ (s.port p).ctl, f.rank ≠ 0)) ∧ (s.port p).lapsed = false ∧ s.now +
      airLong (s.port p).band 0 12 ≤ s.downLimit p ∧ (s.rangeDue p).head? = some a ∧ s.rangeSlot p = some at')
    ∧ (∃ (s u : State) (p : Port) (q n : Nat) (last : Bool), s.runs = true ∧ s.now < (s.port p).winEnd ∧ s.mayTransmit
      p = true ∧ winType (s.curWindow p) = wDown ∧ s.carrying p = false ∧ s.portState p = stService ∧ (s.port
      p).bellDue = false ∧ (s.port p).beaconDue = false ∧ (s.port p).ctl = [] ∧ s.rangeDue p = [] ∧ s.stopped = false ∧
      s.pick p (winMask (s.curWindow p)) (s.downLimit p) = (some (q, n, last), u) ∧ u.queue q ≠ [])
    ∧ (∃ (s u : State) (p : Port) (q n : Nat) (last : Bool) (f : QFrame), s.runs = true ∧ s.now < (s.port p).winEnd ∧
      s.mayTransmit p = true ∧ winType (s.curWindow p) = wDuplex ∧ s.portState p = stService ∧ (s.port p).duplexBlocked
      = false ∧ s.stopped = false ∧ s.pick p (winMask (s.curWindow p)) (s.hardLimit p) = (some (q, n, last), u) ∧
      (u.queue q).head? = some f ∧ s.duplexAdmitted p = true ∧ flowStation f.flow ≠ 255 ∧ (s.elem p (flowStation
      f.flow)).duplex = true ∧ s.flag Reg.LP_ACCESS_duplex_allowed p = true)
    ∧ (∃ (s u : State) (p : Port) (q n : Nat) (last : Bool), s.runs = true ∧ s.now < (s.port p).winEnd ∧ s.mayTransmit
      p = true ∧ winType (s.curWindow p) = wDuplex ∧ s.portState p = stService ∧ (s.port p).duplexBlocked = false ∧
      s.stopped = false ∧ s.pick p (winMask (s.curWindow p)) (s.hardLimit p) = (some (q, n, last), u) ∧
      s.duplexAdmitted p = false)
    ∧ (∃ (s : State) (p : Port), s.runs = true ∧ s.now < (s.port p).winEnd ∧ s.mayTransmit p = true ∧ winType
      (s.curWindow p) = wQuiet ∧ s.carrying p = false ∧ s.dpdTrains p = true ∧ (s.portState p = stCal ∨ s.portState p =
      stDiscover ∨ s.portState p = stService) ∧ s.now + 8 * ((((s.port p).band.size + (s.port p).band.cp) * (s.port
      p).band.ns : Nat) : Int) ≤ s.windowLimit p) :=
  ⟨⟨portIn 31 stService, 31, by decide +kernel⟩,
    ⟨255, by decide +kernel⟩,
    ⟨((dev.wr Reg.ITIN_CTL_state 31 0 1).wr Reg.ITIN_CTL_switch 31 0 1000000000000), 31, by decide +kernel⟩,
    ⟨downIn (1000000000000 + airLong (dev.port 31).band 0 40 + dev.guardTime 31), 31, by decide +kernel⟩,
    ⟨downIn (999999999999 + airLong (dev.port 31).band 0 40 + dev.guardTime 31), 31, by decide +kernel⟩,
    ⟨atTime granting254 plan254.base, 31, plan254, by decide +kernel⟩,
    ⟨atTime granting254 (plan254.base + 4), 31, (((atTime granting254 (plan254.base + 4)).grantPlans 31).headD ⟨0, 0,
    [], 0, [], 0, [], 0⟩), by decide +kernel⟩,
    ⟨downIn 1001000000000 fun q => { q with bellDue := true, beaconDue := true }, 31, by decide +kernel⟩,
    ⟨downIn 1001000000000 fun q => { q with beaconDue := true }, 31, by decide +kernel⟩,
    ⟨downIn 1001000000000 fun q => { q with ctl := [⟨255, tyReg, 0, 0, regShort 5 2 77, true⟩] }, 31, ⟨255, tyReg, 0,
    0, regShort 5 2 77, true⟩, by decide +kernel⟩,
    ⟨ranging31, 31, 254, (ranging31.rangeSlot 31).getD 0, by decide +kernel⟩,
    ⟨backlogged31, picked31.2, 31, (picked31.1.getD (0, 0, false)).1, (picked31.1.getD (0, 0, false)).2.1,
    (picked31.1.getD (0, 0, false)).2.2, by decide +kernel⟩,
    ⟨duplex31, (duplex31.pick 31 (winMask (duplex31.curWindow 31)) (duplex31.hardLimit 31)).2, 31, (duplexed31.getD (0,
    0, false)).1, (duplexed31.getD (0, 0, false)).2.1, (duplexed31.getD (0, 0, false)).2.2,
    { flow := 1048321, colour := 0, data := [1, 2, 3], enqueued := 1000000000000, judged := true }, by decide +kernel⟩,
    ⟨duplex31.wr Reg.LP_EC_state 31 0 ecTraining, ((duplex31.wr Reg.LP_EC_state 31 0 ecTraining).pick 31 (winMask
    (duplex31.curWindow 31)) (duplex31.hardLimit 31)).2, 31, (duplexed31.getD (0, 0, false)).1, (duplexed31.getD (0, 0,
    false)).2.1, (duplexed31.getD (0, 0, false)).2.2, by decide +kernel⟩,
    ⟨((downIn 1001000000000).wr Reg.ITIN_OP_windows 31 0 (wQuiet * 2 ^ 56 + 1000 : Nat)).wr Reg.LP_DPD_state 31 0
    dpdTraining, 31, by decide +kernel⟩⟩

theorem witness_SwitchInstant :
    ∃ (s : State) (p : Port) (d : Stamp), s.runs = true ∧ s.flag Reg.ITIN_CTL_arm p = true ∧ (s.port p).armedAt = some
      d ∧ 1 ≤ s.rd Reg.ITIN_PEND_cycle p :=
  ⟨(((dev.wr Reg.ITIN_CTL_arm 31 0 1).wr Reg.ITIN_PEND_cycle 31 0 1)).setPort 31 fun q =>
    { q with armedAt := some 999999999999 }, 31, 999999999999, by decide +kernel⟩

theorem witness_QueuesAndFlowsComplete :
    (∃ (s : State) (flow : Nat) (b : Bytes), s.queuesRun = true ∧ flow < 1048576 ∧ b ≠ [] ∧ s.qm.flowWrites.find? (fun
      w => w.1 = flow) = some (flow, b))
    ∧ (∃ (s : State) (flow : Nat) (b : Bytes), s.queuesRun = true ∧ flow < 1048576 ∧ b ≠ [] ∧ s.qm.flowWrites.find?
      (fun w => w.1 = flow) = some (flow, b) ∧ (fcValid (s.rdB Reg.FLOW_control 0 flow) = false ∧ fcValid b = true))
    ∧ (∃ (s : State) (flow : Nat), s.queuesRun = true ∧ s.flowSlot = true ∧ ((∃ w ∈ s.qm.waiters, w.flow = flow)))
    ∧ (∃ (s : State) (flow : Nat), s.queuesRun = true ∧ s.flowSlot = true ∧ ((∃ w ∈ s.qm.waiters, w.flow = flow)))
    ∧ (∃ (s : State) (flow : Nat) (l : CacheLine), s.queuesRun = true ∧ s.flowSlot = true ∧ s.cached flow = some l ∧
      l.modified = true ∧ l.writtenBack + 10000000000 ≤ s.now ∧ l.state ≠ [])
    ∧ (∃ s : State, s.queuesRun = true ∧ s.qm.tickAt < (s.time.mono / 8000).toNat)
    ∧ (∃ (s : State) (w : Waiter), s.queuesRun = true ∧ s.qm.tickAt < (s.time.mono / 8000).toNat ∧ s.qm.arrivals = [(w,
      false)] ∧ s.cached w.flow = none)
    ∧ (∃ (s : State) (w : Waiter) (l : CacheLine), s.queuesRun = true ∧ s.qm.tickAt < (s.time.mono / 8000).toNat ∧
      s.qm.arrivals = [(w, false)] ∧ s.cached w.flow = some l)
    ∧ (∃ s : State, s.queuesRun = true ∧ s.flag Reg.QM_CTL_clear = true ∧ s.qm.clearing = false)
    ∧ (∃ (s : State) (b : Bytes), s.queuesRun = true ∧ (b.length < 17 ∨ 1552 < b.length ∨ uAt b 3 1 % 4 = 3))
    ∧ (∃ (s : State) (b : Bytes), s.queuesRun = true ∧ 17 ≤ b.length ∧ b.length ≤ 1552 ∧ uAt b 3 1 % 4 ≠ 3)
    ∧ (∃ (s : State) (q : Nat) (f : QFrame), s.queuesRun = true ∧ q < 4096 ∧ s.queue q = [f] ∧ s.rd
      Reg.QUEUE_maximum_sojourn 0 q ≠ 0 ∧ f.begun = false ∧ f.enqueued + s.rd Reg.QUEUE_maximum_sojourn 0 q < s.now)
    ∧ (∃ (s : State) (q : Nat) (f : QFrame), s.queuesRun = true ∧ q < 4096 ∧ s.queue q = [f] ∧ (f.begun = true ∨ s.rd
      Reg.QUEUE_maximum_sojourn 0 q = 0 ∨ s.now ≤ f.enqueued + s.rd Reg.QUEUE_maximum_sojourn 0 q) ∧ s.unreachable
      (queuePort q) f = true)
    ∧ (∃ (s : State) (q : Nat), s.queuesRun = true ∧ q < 4096 ∧ (s.flag Reg.QUEUE_flush 0 q = true ∨ s.flag
      Reg.QUEUE_enable 0 q = false)) :=
  ⟨⟨dev.setQm fun m => { m with flowWrites := [(1048575, List.replicate 80 255)] }, 1048575, List.replicate 80 255,
    by decide +kernel⟩,
    ⟨dev.setQm fun m => { m with flowWrites := [(1048575, 0x80 :: List.replicate 79 0)] }, 1048575, 0x80 ::
    List.replicate 79 0, by decide +kernel⟩,
    ⟨inSlotN (dev.setQm fun m =>
    { m with waiters := [.down 7 .up 999999000000 ([0, 0, 7, 2] ++ List.replicate 13 0)] }) 8, 7, by decide +kernel⟩,
    ⟨inSlot15 (dev.setQm fun m =>
    { m with waiters := [.down 7 .up 999999000000 ([0, 0, 7, 2] ++ List.replicate 13 0)] }) 2, 7, by decide +kernel⟩,
    ⟨inSlotN (dev.setQm fun m => { m with cache := [⟨7, true, 990000000000, List.replicate 48 1⟩] }) 9, 7, ⟨7, true,
    990000000000, List.replicate 48 1⟩, by decide +kernel⟩,
    ⟨dev.setQm fun m => { m with tickAt := 124999999 }, by decide +kernel⟩,
    ⟨dev.setQm fun m => { m with tickAt := 124999999, arrivals := [(.down 7 .up 999999000000 [1], false)] }, .down 7
    .up 999999000000 [1], by decide +kernel⟩,
    ⟨(dev.setQm fun m =>
    { m with tickAt := 124999999, cache := [⟨7, false, 0, List.replicate 48 0⟩], arrivals := [(.down 7 .up 999999000000 ([0, 0, 7, 2] ++ List.replicate 13 0), false)] }).wrB
    Reg.FLOW_control 0 7 ([0xC0] ++ List.replicate 15 0), .down 7 .up 999999000000 ([0, 0, 7, 2] ++ List.replicate 13
    0), ⟨7, false, 0, List.replicate 48 0⟩, by decide +kernel⟩,
    ⟨dev.wr Reg.QM_CTL_clear 0 0 1, by decide +kernel⟩,
    ⟨dev, [0, 0, 7, 3] ++ List.replicate 13 0, by decide +kernel⟩,
    ⟨dev, [15, 255, 255, 2] ++ List.replicate 1548 0, by decide +kernel⟩,
    ⟨(dev.setQm fun m =>
    { m with queues := [(4095, [⟨7, 0, [1, 2, 3], 999000000000, 0, 0, 0, 0, false, false, false⟩])], buffersUsed := 1 }).wr
    Reg.QUEUE_maximum_sojourn 0 4095 999999999, 4095, ⟨7, 0, [1, 2, 3], 999000000000, 0, 0, 0, 0, false, false, false⟩,
    by decide +kernel⟩,
    ⟨dev.setQm fun m =>
    { m with queues := [(4095, [⟨7, 0, [1, 2, 3], 999000000000, 0, 0, 0, 0, false, false, false⟩])], buffersUsed := 1 },
    4095, ⟨7, 0, [1, 2, 3], 999000000000, 0, 0, 0, 0, false, false, false⟩, by decide +kernel⟩,
    ⟨(dev.setQm fun m =>
    { m with queues := [(4095, [⟨7, 0, [1, 2, 3], 999000000000, 0, 0, 0, 0, false, false, false⟩, ⟨7, 0, [1, 2, 3], 999000000000, 0, 0, 0, 0, false, false, false⟩])], buffersUsed := 2 }).wr
    Reg.QUEUE_flush 0 4095 1, 4095, by decide +kernel⟩⟩

theorem witness_ShaperCreditMoves :
    ∃ (s : State) (q : Nat), s.queuesRun = true ∧ s.qm.tickAt < (s.time.mono / 8000).toNat ∧ Store.wf 0 s.regs = true ∧
      q < 4096 ∧ s.flag Reg.SHAPER_enable 0 q = true :=
  ⟨(dev.setQm fun m => { m with tickAt := 124999999 }).wr Reg.SHAPER_enable 0 4095 1, 4095, by decide +kernel⟩

theorem witness_QueueManagerAtPL3Discards :
    ∃ s : State, s.runs = true ∧ s.rd Reg.PERF_LEVEL_in_force 0 36 = 3 :=
  ⟨dev.wr Reg.PERF_LEVEL_in_force 0 36 3, by decide +kernel⟩

theorem witness_MeterColours :
    (∃ (s : State) (m : Nat) (host : Bool) (pre length : Nat), m < 65536 ∧ (s.meterFrame m host pre length).1 = 2)
    ∧ (∃ (s : State) (m : Nat) (host : Bool) (pre length : Nat), m < 65536 ∧ (s.meterFrame m host pre length).1 = 0)
    ∧ (∃ (s : State) (m : Nat) (host : Bool) (pre length : Nat), m < 65536 ∧ ((s.meterFrame m host pre length).1 = 1 ∧
      (s.meterFill m).rd Reg.METER_mode 0 m = 2)) :=
  ⟨⟨dev, 65535, true, 0, 65537, by decide +kernel⟩,
    ⟨dev, 65535, true, 0, 65536, by decide +kernel⟩,
    ⟨dev.wr Reg.METER_mode 0 0 2, 0, true, 1, 1, by decide +kernel⟩⟩

theorem witness_LinkBringUpCompletes :
    (∃ (s : State) (x : Side) (sensed : Nat), s.pfRuns = true ∧ s.pfState x = pfDetect ∧ ((x = .up ∨ s.downUsed =
      true)) ∧ s.due (.pfDetect x.n) = true ∧ sensed % 16 ≠ 0)
    ∧ (∃ (s : State) (x : Side) (sensed : Nat), s.pfRuns = true ∧ s.pfState x = pfDetect ∧ ((x = .up ∨ s.downUsed =
      true)) ∧ s.due (.pfDetect x.n) = true ∧ sensed % 16 = 0)
    ∧ (∃ (s : State) (x : Side) (lane : Lane) (block : Bytes) (b1 ffe v ready : Nat), s.pfRuns = true ∧ s.pfState x =
      pfTrain ∧ bit (s.link x).sensed lane.val = true ∧ block.length = 8 ∧ uAt block 0 1 = 0x2D ∧ b1 = uAt block 1 1 ∧
      ffe = s.rdN Reg.PF_LANE_FFE x.n lane.val ∧ v = (s.free 16777216).1 ∧ ready = setBit (s.link x).partnerReady
      lane.val (bit b1 1))
    ∧ (∃ (s : State) (x : Side) (lane : Lane), s.pfRuns = true ∧ s.pfState x = pfTrain ∧ bit (s.link x).sensed lane.val
      = true ∧ (s.link x).sensed ≠ 0)
    ∧ (∃ (s : State) (x : Side) (lane : Lane), s.pfRuns = true ∧ s.pfState x = pfTrain ∧ bit (s.link x).sensed lane.val
      = true ∧ (s.link x).sensed ≠ 0)
    ∧ (∃ (s : State) (x : Side), s.pfRuns = true ∧ s.pfState x = pfTrain ∧ s.passed (.pfTrain x.n) = true)
    ∧ (∃ (s : State) (x : Side), s.pfRuns = true ∧ s.pfState x = pfTrain ∧ s.passed (.pfTrain x.n) = true)
    ∧ (∃ (s : State) (x : Side) (lane : Lane), s.pfRuns = true ∧ s.pfState x = pfLock ∧ bit (s.link x).sensed lane.val
      = true)
    ∧ (∃ (s : State) (x : Side) (laced : Nat) (skews : List Nat), s.pfRuns = true ∧ s.pfState x = pfLock ∧ laced % 16 ≠
      0 ∧ laced % 16 &&& (s.link x).locked = laced % 16 ∧ skewsOk (laced % 16) skews = true)
    ∧ (∃ (s : State) (x : Side) (laced : Nat) (skews : List Nat), s.pfRuns = true ∧ s.pfState x = pfLock ∧ laced % 16 ≠
      0 ∧ laced % 16 &&& (s.link x).locked = laced % 16 ∧ skewsOk (laced % 16) skews = true)
    ∧ (∃ (s : State) (x : Side), s.pfRuns = true ∧ s.pfState x = pfLock ∧ s.passed (.pfLock x.n) = true)
    ∧ (∃ (s : State) (x : Side) (block : Bytes), s.pfRuns = true ∧ s.pfState x = pfExchange ∧ (s.link x).incompatible =
      false ∧ s.running (.pfHoldoff x.n) = false ∧ block.length = 8 ∧ uAt block 0 1 = 0x33 ∧ s.compatible x (block.drop
      1) = false)
    ∧ (∃ (s : State) (x : Side) (block : Bytes), s.pfRuns = true ∧ s.pfState x = pfExchange ∧ (s.link x).incompatible =
      false ∧ s.running (.pfHoldoff x.n) = false ∧ block.length = 8 ∧ uAt block 0 1 = 0x33 ∧ s.compatible x (block.drop
      1) = true ∧ bit (uAt block 4 1) 7 = true ∧ 0 < widthOf (s.rdN Reg.PF_CTL_width_ceiling) (block.drop 1) (field
      (uAt block 2 1) 3 0) ∧ 0 < widthOf (s.rdN Reg.PF_CTL_width_ceiling) (block.drop 1) (s.link x).good)
    ∧ (∃ (s : State) (x : Side) (block : Bytes), s.pfRuns = true ∧ s.pfState x = pfExchange ∧ (s.link x).incompatible =
      false ∧ s.running (.pfHoldoff x.n) = false ∧ block.length = 8 ∧ uAt block 0 1 = 0x33 ∧ s.compatible x (block.drop
      1) = true ∧ (bit (uAt block 4 1) 7 = false ∨ widthOf (s.rdN Reg.PF_CTL_width_ceiling) (block.drop 1) (field (uAt
      block 2 1) 3 0) = 0 ∨ widthOf (s.rdN Reg.PF_CTL_width_ceiling) (block.drop 1) (s.link x).good = 0))
    ∧ (∃ (s : State) (x : Side), s.pfRuns = true ∧ s.pfState x = pfExchange ∧ s.passed (.pfExchange x.n) = true)
    ∧ (∃ (s : State) (x : Side), s.pfRuns = true ∧ s.pfState x = pfExchange ∧ s.reached (.pfHoldoff x.n) = true) :=
  ⟨⟨pfIn .up pfDetect, .up, 31, by decide +kernel⟩,
    ⟨(pfIn .down pfDetect).wr Reg.PF_CTL_DOWN_second_host 0 0 1, .down, 16, by decide +kernel⟩,
    ⟨linkIn .up pfTrain fun q => { q with sensed := 8 }, .up, 3, [0x2D, 0x46, 0, 0, 0, 0, 0, 0], 0x46, (linkIn .up
    pfTrain fun q => { q with sensed := 8 }).rdN Reg.PF_LANE_FFE 0 3, ((linkIn .up pfTrain fun q =>
    { q with sensed := 8 }).free 16777216).1, 8, ⟨by decide +kernel, by decide +kernel, by decide +kernel,
    by decide +kernel, by decide +kernel, by decide +kernel, rfl, rfl, by decide +kernel⟩⟩,
    ⟨linkIn .up pfTrain fun q => { q with sensed := 8, partnerReady := 8 }, .up, 3, by decide +kernel⟩,
    ⟨linkIn .up pfTrain fun q => { q with sensed := 9, partnerReady := 9 }, .up, 3, by decide +kernel⟩,
    ⟨(linkIn .up pfTrain fun q => { q with rate := 1 }).arm (.pfTrain 0) 999999999999, .up, by decide +kernel⟩,
    ⟨(linkIn .up pfTrain fun q => { q with rate := 0 }).arm (.pfTrain 0) 999999999999, .up, by decide +kernel⟩,
    ⟨linkIn .up pfLock fun q => { q with sensed := 8 }, .up, 3, by decide +kernel⟩,
    ⟨linkIn .up pfLock fun q => { q with sensed := 9, locked := 9 }, .up, 9, [48, 0, 0, 0], by decide +kernel⟩,
    ⟨linkIn .up pfLock fun q => { q with sensed := 9, locked := 9 }, .up, 8, [48, 0, 0, 0], by decide +kernel⟩,
    ⟨(linkIn .up pfLock fun q => { q with laced := 8 }).arm (.pfLock 0) 999999999999, .up, by decide +kernel⟩,
    ⟨pfIn .up pfExchange, .up, [0x33, 0, 0x0F, 0xFC, 0, 0, 0, 0], by decide +kernel⟩,
    ⟨linkIn .up pfExchange fun q => { q with laced := 15, sensed := 15 }, .up, [0x33, 6, 0x0F, 0xFC, 0x80, 0, 0, 0],
    by decide +kernel⟩,
    ⟨linkIn .up pfExchange fun q => { q with laced := 15, sensed := 15 }, .up, [0x33, 6, 0x0F, 0xFC, 0, 0, 0, 0],
    by decide +kernel⟩,
    ⟨(pfIn .up pfExchange).arm (.pfExchange 0) 999999999999, .up, by decide +kernel⟩,
    ⟨(pfIn .up pfExchange).arm (.pfHoldoff 0) 1000000000000, .up, by decide +kernel⟩⟩

theorem witness_LinkServiceIdleAndTest :
    (∃ (s : State) (x : Side) (lane : Lane) (block : Bytes), s.pfRuns = true ∧ s.linkUp x = true ∧ bit (s.link x).laced
      lane.val = true ∧ block.length = 8 ∧ uAt block 0 1 = 0x4B ∧ slice block 4 3 = [0xA5, 0x3C, 0x96])
    ∧ (∃ (s : State) (x : Side) (lane : Lane) (block : Bytes), s.pfRuns = true ∧ s.linkUp x = true ∧ bit (s.link
      x).laced lane.val = true ∧ block.length = 8 ∧ uAt block 0 1 = 0x4B ∧ slice block 4 3 = [0xA5, 0x3C, 0x96])
    ∧ (∃ (s : State) (x : Side) (lane : Lane) (block : Bytes), s.pfRuns = true ∧ s.linkUp x = true ∧ bit (s.link
      x).laced lane.val = true ∧ block.length = 8 ∧ uAt block 0 1 = 0x4B ∧ slice block 4 3 = [0xA5, 0x3C, 0x96])
    ∧ (∃ (s : State) (x : Side) (lane : Lane), s.pfRuns = true ∧ s.linkUp x = true ∧ (s.link x).rxIdle = false ∧ bit
      (s.link x).laced lane.val = true ∧ ((s.link x).rxWidth = 1 ∨ setBit (s.link x).laced lane.val false = 0))
    ∧ (∃ (s : State) (x : Side) (lane : Lane), s.pfRuns = true ∧ s.linkUp x = true ∧ (s.link x).rxIdle = false ∧ bit
      (s.link x).laced lane.val = true ∧ (s.link x).rxWidth ≠ 1 ∧ setBit (s.link x).laced lane.val false ≠ 0)
    ∧ (∃ (s : State) (x : Side), s.pfRuns = true ∧ s.linkUp x = true ∧ (s.link x).dropping = false)
    ∧ (∃ (s : State) (x : Side), s.pfRuns = true ∧ (s.link x).dropping = true)
    ∧ (∃ (s : State) (x : Side), s.pfRuns = true ∧ (s.link x).dropping = true ∧ s.passed (.pfWidth x.n) = true ∧
      s.pfState x ≠ pfOff)
    ∧ (∃ (s : State) (x : Side) (lane : Lane), s.pfRuns = true ∧ s.linkUp x = true ∧ s.reached (.pfBip (x.n * 4 +
      lane.val)) = true)
    ∧ (∃ (s : State) (x : Side), s.pfRuns = true ∧ s.linkUp x = true ∧ ((s.flag Reg.PF_PORT_retrain x.n = true ∨ s.rdN
      Reg.PF_CTL_width_ceiling ≠ (s.link x).ceilWidth ∨ s.rdN Reg.PF_CTL_rate_ceiling ≠ (s.link x).ceilRate)))
    ∧ (∃ (s : State) (x : Side), s.pfRuns = true ∧ s.pfState x = pfActive ∧ (s.link x).txIdle = false ∧ s.idleWanted x
      = true)
    ∧ (∃ (s : State) (x : Side), s.pfRuns = true ∧ s.linkUp x = true)
    ∧ (∃ (s : State) (x : Side), s.pfRuns = true ∧ s.pfState x = pfIdle ∧ ((s.linkQuiet x = false ∨ (s.link x).unacked
      = true)))
    ∧ (∃ (s : State) (x : Side), s.pfRuns = true ∧ s.rd Reg.PF_PORT_test x.n ≠ 0 ∧ s.pfState x ≠ pfTest ∧ s.pfState x ≠
      pfOff)
    ∧ (∃ (s : State) (x : Side), s.pfRuns = true ∧ s.pfState x = pfTest ∧ ((s.reached (.pfTest x.n) = true ∨ s.rd
      Reg.PF_PORT_test x.n = 0))) :=
  ⟨⟨linkIn .up pfActive fun q => { q with laced := 8 }, .up, 3, [0x4B, 0, 0x0F, 0, 0xA5, 0x3C, 0x96, 0],
    by decide +kernel⟩,
    ⟨linkIn .up pfActive fun q => { q with laced := 8, rxIdle := true }, .up, 3, [0x4B, 0, 0x0F, 0, 0xA5, 0x3C, 0x96,
    0], by decide +kernel⟩,
    ⟨linkIn .up pfActive fun q => { q with laced := 8, rxIdle := true }, .up, 3, [0x4B, 0, 0x0F, 0, 0xA5, 0x3C, 0x96,
    0], by decide +kernel⟩,
    ⟨linkIn .up pfActive fun q => { q with laced := 8, rxWidth := 1 }, .up, 3, by decide +kernel⟩,
    ⟨linkIn .up pfActive fun q => { q with laced := 12, rxWidth := 2 }, .up, 3, by decide +kernel⟩,
    ⟨linkIn .up pfIdle fun q => { q with laced := 12, rxWidth := 2 }, .up, by decide +kernel⟩,
    ⟨linkIn .up pfExchange fun q => { q with laced := 12, dropping := true }, .up, by decide +kernel⟩,
    ⟨(linkIn .up pfExchange fun q => { q with dropping := true }).arm (.pfWidth 0) 999999999999, .up,
    by decide +kernel⟩,
    ⟨((pfIn .down pfActive).arm (.pfBip 7) 1000000000000).wr Reg.PF_LANE_BIP_ERRORS 1 3 70000, .down, 3,
    by decide +kernel⟩,
    ⟨(pfIn .up pfActive).wr Reg.PF_PORT_retrain 0 0 1, .up, by decide +kernel⟩,
    ⟨(pfIn .up pfActive).wr Reg.PF_CTL_idle_time 0 0 1000, .up, by decide +kernel⟩,
    ⟨pfIn .down pfActive, .down, by decide +kernel⟩,
    ⟨linkIn .up pfIdle fun q => { q with unacked := true, txIdle := true }, .up, by decide +kernel⟩,
    ⟨(pfIn .up pfActive).wr Reg.PF_PORT_test 0 0 1, .up, by decide +kernel⟩,
    ⟨(pfIn .up pfTest).arm (.pfTest 0) 1000000000000, .up, by decide +kernel⟩⟩

theorem witness_SequenceDelayAndParcels :
    (∃ (s : State) (x : Side) (body : Bytes) (l : List Parcel), s.pfRuns = true ∧ s.linkUp x = true ∧ body.length = 12
      ∧ uAt body 0 1 = 1 ∧ bit (uAt body 1 1) 7 = false ∧ (s.link x).sendQ = [] ∧ ((∀ vc < 4, s.fifo x vc = [])) ∧
      acked (uAt body 2 2 % 4096) (s.link x).replay = some l)
    ∧ (∃ (s u : State) (x : Side) (body : Bytes), s.pfRuns = true ∧ s.linkUp x = true ∧ body.length = 12 ∧ uAt body 0 1
      = 1 ∧ acked (uAt body 2 2 % 4096) (s.link x).replay = none ∧ u = s.setLink x (fun q =>
      { q with limits := [uAt body 4 2, uAt body 6 2, uAt body 8 2, uAt body 10 2] }))
    ∧ (∃ (s : State) (x : Side) (l : List Parcel), (s.link x).replay = l ∧ l ≠ [])
    ∧ (∃ (s : State) (x : Side), s.pfRuns = true ∧ s.pfState x = pfActive ∧ (((s.link x).unacked = true ∧ (s.link
      x).lastFlow + 1000 ≤ s.now ∨ (s.link x).lastFlow + 100000 ≤ s.now)))
    ∧ (∃ (s : State) (x : Side), s.pfRuns = true ∧ s.pfState x = pfActive ∧ (s.link x).frozen = false ∧ (s.link
      x).replay ≠ [] ∧ s.passed (.pfReplay x.n) = true)
    ∧ (∃ (s : State) (x : Side), s.pfRuns = true ∧ s.pfState x = pfActive ∧ s.due (.pfDelay x.n) = true)
    ∧ (∃ (s : State) (x : Side), s.pfRuns = true ∧ s.linkUp x = true)
    ∧ (∃ (s : State) (x : Side) (ident turnaround : Nat) (t1 : Stamp) (l : List Int), s.pfRuns = true ∧ s.linkUp x =
      true ∧ (s.link x).delayT1 = some t1 ∧ ident = (s.link x).delayId ∧ (((s.now - t1) * 65536 - turnaround) / 2 ::
      (s.link x).delays).take 8 = l)
    ∧ (∃ (s : State) (x : Side) (raw : Bytes), s.pfRuns = true ∧ s.linkUp x = true ∧ parcelCrcOk raw = false)
    ∧ (∃ (s : State) (x : Side) (raw : Bytes), s.pfRuns = true ∧ s.linkUp x = true ∧ parcelCrcOk raw = false)
    ∧ (∃ (s : State) (x : Side) (raw : Bytes) (q : Parcel), s.pfRuns = true ∧ s.linkUp x = true ∧ parcelCrcOk raw =
      true ∧ Parcel.ofBytes raw = some q ∧ q.isLocal = false ∧ q.lseq = (s.link x).rxSeq)
    ∧ (∃ (s : State) (raw : Bytes) (q : Parcel), s.pfRuns = true ∧ s.linkUp s.hostSide = true ∧ parcelCrcOk raw = true
      ∧ Parcel.ofBytes raw = some q ∧ q.isLocal = false ∧ q.lseq = (s.link s.hostSide).rxSeq ∧ q.legal = true ∧ q.dir =
      1 ∧ q.bcast = false ∧ q.devnum ≠ s.rst.straps.devnum.val ∧ q.ownRow = false ∧ s.isHead = false ∧ s.pfState
      s.hostSide.other = pfIdle ∧ ((s.hostSide.other = .down → s.downUsed = true))) :=
  ⟨⟨linkIn .up pfActive fun q => { q with replay := [pcl 4095, pcl 0] }, .up, [1, 0, 15, 255, 0, 1, 0, 2, 0, 3, 0, 4],
    [pcl 0], by decide +kernel⟩,
    ⟨linkIn .up pfActive fun q => { q with replay := [pcl 4095, pcl 0] }, (linkIn .up pfActive fun q =>
    { q with replay := [pcl 4095, pcl 0] }).setLink .up fun q => { q with limits := [1, 2, 3, 4] }, .up, [1, 128, 15,
    254, 0, 1, 0, 2, 0, 3, 0, 4], by decide +kernel⟩,
    ⟨linkIn .up pfActive fun q => { q with replay := [pcl 4095, pcl 0] }, .up, [pcl 4095, pcl 0], by decide +kernel⟩,
    ⟨pfIn .up pfActive, .up, by decide +kernel⟩,
    ⟨(linkIn .up pfActive fun q => { q with replay := [pcl 4095, pcl 0] }).arm (.pfReplay 0) 999999999999, .up,
    by decide +kernel⟩,
    ⟨(pfIn .up pfActive).arm (.pfDelay 0) 1000000000000, .up, by decide +kernel⟩,
    ⟨pfIn .down pfIdle, .down, by decide +kernel⟩,
    ⟨linkIn .up pfActive fun q => { q with delayId := 65535, delayT1 := some 999999999000, delays := [5, 6] }, .up,
    65535, 6553600, 999999999000, [(1000 * 65536 - 6553600) / 2, 5, 6], by decide +kernel⟩,
    ⟨chain 0 3, .down, [1, 2, 3], by decide +kernel⟩,
    ⟨(chain 0 3).setLink .down fun q => { q with nakSent := true }, .down, [1, 2, 3], by decide +kernel⟩,
    ⟨(chain 0 3).setLink .down fun q => { q with rxSeq := 4095 }, .down, (pcl 4095).bytes, pcl 4095,
    by decide +kernel⟩,
    ⟨((chain 0 5).wr Reg.PF_PORT_state 1 0 pfIdle).wr Reg.CASC_member 0 0 1, ({ pcl 0 with dir := 1, vc := 0 }).bytes,
    { pcl 0 with dir := 1, vc := 0 }, by decide +kernel⟩⟩

theorem witness_CascadeCompletes :
    (∃ s : State, s.pfRuns = true ∧ s.cascRuns = true ∧ s.isHead = true ∧ s.due .probeTx = true)
    ∧ (∃ (s : State) (x : Side) (body : Bytes), s.pfRuns = true ∧ s.cascRuns = true ∧ s.linkUp x = true ∧ probeOk body
      = true ∧ s.isHead = false ∧ s.rd Reg.CASC_head = 255 ∧ field (uAt body 1 1) 3 0 ≠ s.rst.straps.devnum.val)
    ∧ (∃ (s : State) (x : Side) (body : Bytes), s.pfRuns = true ∧ s.cascRuns = true ∧ s.linkUp x = true ∧ probeOk body
      = true ∧ s.isHead = false ∧ s.rd Reg.CASC_head = (field (uAt body 1 1) 3 0 : Nat) ∧ field (uAt body 1 1) 3 0 ≠
      s.rst.straps.devnum.val)
    ∧ (∃ (s : State) (x : Side) (body : Bytes), s.pfRuns = true ∧ s.cascRuns = true ∧ s.linkUp x = true ∧ probeOk body
      = true ∧ s.isHead = false ∧ s.rd Reg.CASC_head = (field (uAt body 1 1) 3 0 : Nat) ∧ field (uAt body 1 1) 3 0 ≠
      s.rst.straps.devnum.val)
    ∧ (∃ (s : State) (x : Side) (body : Bytes), s.pfRuns = true ∧ s.cascRuns = true ∧ s.linkUp x = true ∧ probeOk body
      = true ∧ s.isHead = true ∧ field (uAt body 1 1) 3 0 ≠ s.rst.straps.devnum.val)
    ∧ (∃ (s : State) (x : Side) (body : Bytes), s.pfRuns = true ∧ s.cascRuns = true ∧ s.linkUp x = true ∧ probeOk body
      = true ∧ s.isHead = false ∧ s.passed .headProbe = true ∧ s.rdN Reg.CASC_head ≠ field (uAt body 1 1) 3 0 ∧ field
      (uAt body 1 1) 3 0 ≠ s.rst.straps.devnum.val)
    ∧ (∃ s : State, s.pfRuns = true ∧ s.cascRuns = true ∧ s.mayTakeOver = true ∧ s.casc.managerAt + 3000000 < s.now)
    ∧ (∃ (s : State) (x : Side) (body : Bytes), s.pfRuns = true ∧ s.linkUp x = true ∧ body.length = 4 ∧ uAt body 0 1 =
      9)
    ∧ (∃ (s : State) (x : Side) (body : Bytes), s.pfRuns = true ∧ s.linkUp x = true ∧ body.length = 4 ∧ uAt body 0 1 =
      9)
    ∧ (∃ (s : State) (x : Side) (body : Bytes), s.pfRuns = true ∧ s.linkUp x = true ∧ body.length = 4 ∧ uAt body 0 1 =
      9)
    ∧ (∃ s : State, s.pfRuns = true ∧ s.flag Reg.CASC_hand_over = true ∧ s.isHead = true ∧ s.rst.straps.role.val = 1)
    ∧ (∃ s : State, s.pfRuns = true ∧ s.flag Reg.CASC_hand_over = true ∧ s.isHead = true ∧ s.rst.straps.role.val = 2)
    ∧ (∃ (s : State) (x : Side), s.pfRuns = true ∧ s.linkUp x = true ∧ s.rst.straps.role.val = 1 ∧ s.toAdapter .up =
      true)
    ∧ (∃ (s : State) (x y : Side) (dev hops : Nat), s.pfRuns = true ∧ s.linkUp x = true ∧ s.rst.straps.role.val ≠ 1 ∧
      s.isHead = false ∧ s.casc.other = some (dev, y, hops, 1) ∧ s.running .otherProbe = true)
    ∧ (∃ (s : State) (x : Side), s.pfRuns = true ∧ s.linkUp x = true ∧ s.rst.straps.role.val ≠ 1 ∧ ((s.isHead = true ∨
      s.casc.other = none)) ∧ s.linkUp x.other = false)
    ∧ (∃ s : State, s.pfRuns = true ∧ s.cascRuns = true ∧ s.isHead = false ∧ s.rd Reg.CASC_head ≠ 255 ∧ s.due .statusTx
      = true ∧ s.pfState s.hostSide = pfActive ∧ (s.link s.hostSide).frozen = false ∧ (s.link s.hostSide).sendQ = [] ∧
      ((∀ vc < 4, s.fifo s.hostSide vc = [])) ∧ (s.link s.hostSide).admits (s.upParcel 5 0 (List.replicate 8 0)) =
      true)
    ∧ (∃ s : State, s.pfRuns = true ∧ s.cascRuns = true ∧ s.isHead = false ∧ s.rd Reg.CASC_head ≠ 255 ∧ s.due .statusTx
      = true ∧ s.linkUp s.hostSide = false)
    ∧ (∃ (s : State) (dev : DevNum) (body : Bytes), s.pfRuns = true ∧ s.isHead = true ∧ body.length = 8 ∧ uAt body 0 1
      = 6 ∧ bit (uAt (s.rdB Reg.CASC_topology) (4 * dev.val) 1) 7 = true ∧ field (uAt (s.rdB Reg.CASC_topology) (4 *
      dev.val) 1) 3 0 ≠ uAt body 1 1 % 16 ∧ s.casc.duplicates.contains dev.val = false)
    ∧ (∃ (s : State) (body : Bytes), s.pfRuns = true ∧ s.isHead = true ∧ body.length = 8 ∧ uAt body 0 1 = 6)
    ∧ (∃ (s : State) (dev : DevNum), s.pfRuns = true ∧ s.isHead = true ∧ s.passed (.statusEntry dev.val) = true)
    ∧ (∃ (s : State) (dev : DevNum), s.pfRuns = true ∧ s.isHead = true ∧ s.passed (.statusEntry dev.val) = true) :=
  ⟨⟨(headChain.wr Reg.PF_PORT_state 1 0 pfIdle).wr Reg.CASC_member 0 0 1, by decide +kernel⟩,
    ⟨(chain 0 3).wr Reg.CASC_head 0 0 255, .down, [5, 9, 1, 15, 0, 1, 0, 0], by decide +kernel⟩,
    ⟨(chain 0 3).wr Reg.CASC_head 0 0 9, .down, [5, 9, 1, 15, 0, 1, 0, 0], by decide +kernel⟩,
    ⟨((chain 0 3).wr Reg.CASC_head 0 0 9).wr Reg.PF_PORT_state 1 0 pfIdle, .up, [5, 9, 1, 15, 0, 1, 0, 0],
    by decide +kernel⟩,
    ⟨headChain, .down, [5, 9, 2, 15, 0, 1, 0, 0], by decide +kernel⟩,
    ⟨((chain 0 3).wr Reg.CASC_head 0 0 8).arm .headProbe 999999999999, .down, [5, 9, 1, 15, 0, 1, 0, 0],
    by decide +kernel⟩,
    ⟨chain 2 3, by decide +kernel⟩,
    ⟨chain 2 3, .down, [9, 0, 0, 0], by decide +kernel⟩,
    ⟨(chain 0 3).wr Reg.PF_PORT_state 1 0 pfIdle, .up, [9, 1, 0, 0], by decide +kernel⟩,
    ⟨(chain 0 3).wr Reg.PF_PORT_state 1 0 pfDetect, .up, [9, 1, 0, 0], by decide +kernel⟩,
    ⟨(headChain.wr Reg.CASC_hand_over 0 0 1).wr Reg.PF_PORT_state 1 0 pfIdle, by decide +kernel⟩,
    ⟨(headChain.setRst fun r => { r with straps := ⟨2, 3⟩ }).wr Reg.CASC_hand_over 0 0 1, by decide +kernel⟩,
    ⟨chain 1 3, .down, by decide +kernel⟩,
    ⟨((chain 0 3).setCasc fun c => { c with other := some (15, .down, 4, 1) }).arm .otherProbe 1000000000001, .up,
    .down, 15, 4, by decide +kernel⟩,
    ⟨(chain 0 3).wr Reg.PF_PORT_state 1 0 pfDetect, .up, by decide +kernel⟩,
    ⟨((chain 0 3).wr Reg.CASC_head 0 0 15).setLink .up fun q => { q with limits := [512, 512, 512, 512] },
    by decide +kernel⟩,
    ⟨((chain 0 3).wr Reg.CASC_head 0 0 15).wr Reg.PF_PORT_state 0 0 pfDetect, by decide +kernel⟩,
    ⟨headChain.wrB Reg.CASC_topology 0 0 (patch (headChain.rdB Reg.CASC_topology) 60 [0x84, 0, 0, 0]), 15, [6, 5, 0, 0,
    0, 0, 0, 0], by decide +kernel⟩,
    ⟨headChain, [6, 5, 2, 0, 1, 0, 0, 0], by decide +kernel⟩,
    ⟨(headChain.wrB Reg.CASC_topology 0 0 (patch (headChain.rdB Reg.CASC_topology) 60 [0x84, 2, 0, 0])).arm
    (.statusEntry 15) 999999999999, 15, by decide +kernel⟩,
    ⟨(headChain.wrB Reg.CASC_topology 0 0 (patch (headChain.rdB Reg.CASC_topology) 60 [0x84, 1, 0, 0])).arm
    (.statusEntry 15) 999999999999, 15, by decide +kernel⟩⟩

theorem witness_OnlyAuthenticRequestsExecuted :
    (∃ (s u : State) (r : IzReq), s.admitReq r = .accepted u ∧ r.session ≠ 0)
    ∧ (∃ (s : State) (r : IzReq) (k : SessionNo), r.session ≠ 0 ∧ r.op ≠ opAuth ∧ sessionNo r.session = some k ∧
      (((s.session k).phase ≠ 2 ∨ r.counter ≤ (s.session k).counter ∨ s.passed (.session k.val) = true ∨ r.mac ≠
      (hmacSha256 (s.session k).key (r.header ++ r.data)).take 16)))
    ∧ (∃ (s u : State) (r : IzReq), s.takes r = true ∧ r.op = opRead ∧ isProxy r = false ∧ s.admitReq r = .discarded u) :=
  ⟨⟨opened, admitted (opened) (req opRead 0x1202 0 []), req opRead 0x1202 0 [], admits 2 (by decide +kernel) [1]
    (req_mac ..) (by decide +kernel) (by decide +kernel), by decide +kernel⟩,
    ⟨opened, { req opClose 0 0 [] with counter := 5 }, 2, by decide +kernel⟩,
    ⟨opened, (opened.arrives { req opRead 0x1202 0 [] with counter := 5 }).inc Reg.IZ_CTL_MAC_FAILS,
    { req opRead 0x1202 0 [] with counter := 5 }, ⟨by decide +kernel, by decide +kernel, by decide +kernel, discards 2
    (by decide +kernel) rfl⟩⟩⟩

theorem witness_ReadsAndWritesComplete :
    (∃ (s u : State) (r : IzReq) (o : Obj) (n : Nat), s.takes r = true ∧ r.op = opRead ∧ isProxy r = false ∧ s.admitReq
      r = .accepted u ∧ lookup r.index r.sub = some (o, n))
    ∧ (∃ (s u : State) (r : IzReq) (o : Obj) (n : Nat) (k : SessionNo) (vs : List (Nat × Bytes)) (l : List (Addr ×
      Bytes)), s.takes r = true ∧ r.op = opWrite ∧ isProxy r = false ∧ (ownRows.any (writes r)) = false ∧ s.admitReq r
      = .accepted u ∧ sessionNo r.session = some k ∧ u.checkWrite r = .ok (o, n, vs) ∧ ((o.acc = .rwp ∨ o.acc = .rws))
      ∧ l = vs.foldl (fun l v => stageValue l (⟨r.index, r.sub, v.1⟩, v.2)) (s.session k).staged ∧ (u.setSession k fun
      z => { z with staged := l }).stagedBytes ≤ 67108864)
    ∧ (∃ (s u : State) (r : IzReq) (o : Obj) (n : Nat) (k : SessionNo) (vs : List (Nat × Bytes)) (l : List (Addr ×
      Bytes)), s.takes r = true ∧ r.op = opWrite ∧ isProxy r = false ∧ (ownRows.any (writes r)) = false ∧ s.admitReq r
      = .accepted u ∧ sessionNo r.session = some k ∧ u.checkWrite r = .ok (o, n, vs) ∧ ((o.acc = .rwp ∨ o.acc = .rws))
      ∧ l = vs.foldl (fun l v => stageValue l (⟨r.index, r.sub, v.1⟩, v.2)) (s.session k).staged ∧ 67108864 <
      (u.setSession k fun z => { z with staged := l }).stagedBytes)
    ∧ (∃ (s : State) (r : IzReq) (k : SessionNo) (x : IzResp), s.takes r = true ∧ r.op = opRead ∧ isProxy r = false ∧
      sessionNo r.session = some k ∧ (s.session k).phase = 2 ∧ s.passed (.session k.val) = false ∧ r.mac = (hmacSha256
      (s.session k).key (r.header ++ r.data)).take 16 ∧ (s.session k).counter < r.counter ∧ ((s.session k).kept.find?
      fun y => y.tag == r.tag) = some x ∧ x.session = r.session ∧ x.op ≠ 0x90)
    ∧ (∃ (s u : State) (r : IzReq) (e : Nat), s.takes r = true ∧ r.op = opWrite ∧ isProxy r = false ∧ (ownRows.any
      (writes r)) = false ∧ s.admitReq r = .accepted u ∧ u.checkWrite r = .error e)
    ∧ (∃ (s u : State) (r : IzReq) (o : Obj) (n : Nat) (k : SessionNo) (l : List Bytes), s.takes r = true ∧ r.op =
      opReadStaged ∧ s.admitReq r = .accepted u ∧ lookup r.index r.sub = some (o, n) ∧ sessionNo r.session = some k ∧ 1
      ≤ r.count ∧ ((o.elems = 0 → r.count = 1)) ∧ ((∀ b, o.ty ≠ .blob b)) ∧ (u.session k).find r = some l ∧
      l.flatten.length ≤ 2000)
    ∧ (∃ (s u : State) (r : IzReq) (k : SessionNo), s.takes r = true ∧ r.op = opDiscard ∧ s.admitReq r = .accepted u ∧
      sessionNo r.session = some k) :=
  ⟨⟨opened, admitted (opened) (req opRead 0x1202 0 []), req opRead 0x1202 0 [], Reg.TIME_SOURCE, 0, by decide +kernel,
    by decide +kernel, by decide +kernel, admits 2 (by decide +kernel) [1] (req_mac ..) (by decide +kernel)
    (by decide +kernel), by decide +kernel⟩,
    ⟨opened, admitted (opened) (req opWrite 0x1202 0 [2]), req opWrite 0x1202 0 [2], Reg.TIME_SOURCE, 0, 2, [(0, [2])],
    [(⟨0x1202, 0, 0⟩, [2])], by decide +kernel, by decide +kernel, by decide +kernel, by decide +kernel, admits 2
    (by decide +kernel) [1] (req_mac ..) (by decide +kernel) (by decide +kernel), by decide +kernel, ok_of
    (by decide +kernel), by decide +kernel, by decide +kernel, by decide +kernel⟩,
    ⟨opened fun z => { z with staged := [(⟨0x1202, 0, 1⟩, List.replicate 67108865 0)] }, admitted (opened fun z =>
    { z with staged := [(⟨0x1202, 0, 1⟩, List.replicate 67108865 0)] }) (req opWrite 0x1202 0 [2]), req opWrite 0x1202
    0 [2], Reg.TIME_SOURCE, 0, 2, [(0, [2])], [(⟨0x1202, 0, 1⟩, List.replicate 67108865 0), (⟨0x1202, 0, 0⟩, [2])],
    ⟨by decide +kernel, by decide +kernel, by decide +kernel, by decide +kernel, admits 2 (by decide +kernel) [1]
    (req_mac ..) rfl ⟨by decide +kernel, rfl⟩, by decide +kernel, ok_of (by decide +kernel), by decide +kernel, rfl,
    staged_bytes 67108865 ▸ by decide⟩⟩,
    ⟨opened fun z => { z with kept := [(req opRead 0x1202 0 []).answer stOk [7]] }, req opRead 0x1202 0 [], 2, (req
    opRead 0x1202 0 []).answer stOk [7], by decide +kernel⟩,
    ⟨opened, admitted (opened) (req opWrite 0x1202 0 [3]), req opWrite 0x1202 0 [3], stRange, by decide +kernel,
    by decide +kernel, by decide +kernel, by decide +kernel, admits 2 (by decide +kernel) [1] (req_mac ..)
    (by decide +kernel) (by decide +kernel), error_of (by decide +kernel)⟩,
    ⟨opened fun z => { z with staged := [(⟨0x1202, 0, 0⟩, [2])] }, admitted (opened fun z =>
    { z with staged := [(⟨0x1202, 0, 0⟩, [2])] }) (req opReadStaged 0x1202 0 []), req opReadStaged 0x1202 0 [],
    Reg.TIME_SOURCE, 0, 2, [[2]], by decide +kernel, by decide +kernel, admits 2 (by decide +kernel) [1] (req_mac ..)
    (by decide +kernel) (by decide +kernel), by decide +kernel, by decide +kernel, by decide +kernel,
    by decide +kernel, (by intro b h; cases h), by decide +kernel, by decide +kernel⟩,
    ⟨opened fun z => { z with staged := [(⟨0x1202, 0, 0⟩, [2])] }, admitted (opened fun z =>
    { z with staged := [(⟨0x1202, 0, 0⟩, [2])] }) (req opDiscard 0 0 []), req opDiscard 0 0 [], 2, by decide +kernel,
    by decide +kernel, admits 2 (by decide +kernel) [1] (req_mac ..) (by decide +kernel) (by decide +kernel),
    by decide +kernel⟩⟩

theorem witness_SessionsAndProxiesComplete :
    (∃ (s u : State) (r : IzReq) (k : SessionNo), s.takes r = true ∧ r.op = opOpen ∧ s.admitReq r = .accepted u ∧
      r.data.length = 17 ∧ 1 ≤ uAt r.data 0 1 ∧ uAt r.data 0 1 ≤ 3 ∧ ((List.finRange 8).find? fun k => decide
      ((u.session k).phase = 0)) = some k ∧ (u.fuses.roleKey (uAt r.data 0 1)).status = 1 ∧ u.iz.locked = false)
    ∧ (∃ (s u : State) (r : IzReq), s.takes r = true ∧ r.op = opOpen ∧ s.admitReq r = .accepted u ∧ r.data.length = 17
      ∧ 1 ≤ uAt r.data 0 1 ∧ uAt r.data 0 1 ≤ 3 ∧ ((∀ k : SessionNo, (u.session k).phase ≠ 0)))
    ∧ (∃ (s u : State) (r : IzReq) (k : SessionNo), s.takes r = true ∧ r.op = opOpen ∧ s.admitReq r = .accepted u ∧
      r.data.length = 17 ∧ 1 ≤ uAt r.data 0 1 ∧ uAt r.data 0 1 ≤ 3 ∧ (u.session k).phase = 0 ∧ (((u.fuses.roleKey (uAt
      r.data 0 1)).status ≠ 1 ∨ u.iz.locked = true)))
    ∧ (∃ (s : State) (r : IzReq) (k : SessionNo), s.takes r = true ∧ r.op = opAuth ∧ sessionNo r.session = some k ∧
      (s.session k).phase = 1 ∧ r.counter = 0 ∧ r.mac = [] ∧ s.passed (.auth k.val) = false ∧ r.lengthOk = true ∧
      r.data = hmacSha256 (s.roleKeyBytes (s.session k).role) ([0x49, 0x5A, 0x56, 0x31] ++ s.proofText (s.session k)))
    ∧ (∃ (s : State) (r : IzReq) (k : SessionNo), s.takes r = true ∧ r.op = opAuth ∧ sessionNo r.session = some k ∧
      (s.session k).phase = 1 ∧ r.counter = 0 ∧ r.mac = [] ∧ s.passed (.auth k.val) = false ∧ r.lengthOk = true ∧
      r.data ≠ hmacSha256 (s.roleKeyBytes (s.session k).role) ([0x49, 0x5A, 0x56, 0x31] ++ s.proofText (s.session k)))
    ∧ (∃ (s u : State) (r : IzReq) (k : SessionNo), s.takes r = true ∧ r.op = opClose ∧ s.admitReq r = .accepted u ∧
      sessionNo r.session = some k)
    ∧ (∃ (s : State) (k : SessionNo), s.runs = true ∧ (s.session k).phase = 1 ∧ s.passed (.auth k.val) = true)
    ∧ (∃ s : State, s.runs = true ∧ s.iz.locked = true ∧ s.reached .lockout = true)
    ∧ (∃ (s : State) (k : SessionNo), s.runs = true ∧ (s.session k).phase = 2 ∧ s.passed (.session k.val) = true)
    ∧ (∃ (s u : State) (r : IzReq), s.takes r = true ∧ r.op = opRead ∧ isProxy r = true ∧ s.admitReq r = .accepted u ∧
      u.proxyRefused r false = none ∧ u.stationRefused (Fin.ofNat 32 (r.index - 0x6000)) r.sub = none ∧ (((u.port
      (Fin.ofNat 32 (r.index - 0x6000))).proxies.filter fun x => x.a == r.sub).length + ((u.port (Fin.ofNat 32 (r.index
      - 0x6000))).outstanding.filter fun o => o.proxy.a == r.sub).length < 8))
    ∧ (∃ (s u : State) (r : IzReq), s.takes r = true ∧ r.op = opWrite ∧ isProxy r = true ∧ s.admitReq r = .accepted u ∧
      u.proxyRefused r true = none ∧ u.stationRefused (Fin.ofNat 32 (r.index - 0x6000)) r.sub = none ∧ (((u.port
      (Fin.ofNat 32 (r.index - 0x6000))).proxies.filter fun x => x.a == r.sub).length + ((u.port (Fin.ofNat 32 (r.index
      - 0x6000))).outstanding.filter fun o => o.proxy.a == r.sub).length < 8))
    ∧ (∃ (s u : State) (r : IzReq), s.takes r = true ∧ r.op = opRead ∧ isProxy r = true ∧ s.admitReq r = .accepted u ∧
      u.proxyRefused r false = none ∧ u.stationRefused (Fin.ofNat 32 (r.index - 0x6000)) r.sub = none ∧ (8 ≤ ((u.port
      (Fin.ofNat 32 (r.index - 0x6000))).proxies.filter fun x => x.a == r.sub).length + ((u.port (Fin.ofNat 32 (r.index
      - 0x6000))).outstanding.filter fun o => o.proxy.a == r.sub).length))
    ∧ (∃ (s u : State) (r : IzReq) (e : Nat), s.takes r = true ∧ r.op = opRead ∧ isProxy r = true ∧ s.admitReq r =
      .accepted u ∧ u.proxyRefused r false = none ∧ u.stationRefused (Fin.ofNat 32 (r.index - 0x6000)) r.sub = some e)
    ∧ (∃ (s u : State) (r : IzReq) (e : Nat), s.takes r = true ∧ r.op = opWrite ∧ isProxy r = true ∧ s.admitReq r =
      .accepted u ∧ u.proxyRefused r true = some e) :=
  ⟨⟨({ dev with fuses := { dev.fuses with engineer := { status := 1 } } } : State),
    ((({ dev with fuses := { dev.fuses with engineer := { status := 1 } } } : State)).inc Reg.IZ_CTL_REQUESTS), req0
    opOpen 0 0 ([2] ++ List.replicate 16 7), 0, by decide +kernel, by decide +kernel, admits_open (by decide +kernel)
    (by decide +kernel), by decide +kernel, by decide +kernel, by decide +kernel, by decide +kernel, by decide +kernel,
    by decide +kernel⟩,
    ⟨(List.finRange 8).foldl (fun s k => s.setSession k fun z => { z with phase := 2 }) dev, ((List.finRange 8).foldl
    (fun s k => s.setSession k fun z => { z with phase := 2 }) dev).inc Reg.IZ_CTL_REQUESTS, req0 opOpen 0 0 ([2] ++
    List.replicate 16 7), by decide +kernel, by decide +kernel, admits_open (by decide +kernel) (by decide +kernel),
    by decide +kernel, by decide +kernel, by decide +kernel, by decide +kernel⟩,
    ⟨dev, dev.inc Reg.IZ_CTL_REQUESTS, req0 opOpen 0 0 ([2] ++ List.replicate 16 7), 7, by decide +kernel,
    by decide +kernel, admits_open (by decide +kernel) (by decide +kernel), by decide +kernel, by decide +kernel,
    by decide +kernel, by decide +kernel, by decide +kernel⟩,
    ⟨(dev.setSession 2 fun z => { z with phase := 1, role := 2 }),
    { req0 opAuth 0 0 (hmacSha256 ((dev.setSession 2 fun z => { z with phase := 1, role := 2 }).roleKeyBytes 2) ([0x49, 0x5A, 0x56, 0x31] ++ (dev.setSession 2 fun z => { z with phase := 1, role := 2 }).proofText ((dev.setSession 2 fun z => { z with phase := 1, role := 2 }).session 2))) with session := 3 },
    2, by decide +kernel, rfl, by decide +kernel, by decide +kernel, rfl, rfl, by decide +kernel, by simp
    [IzReq.lengthOk, req0, opAuth], rfl⟩,
    ⟨(dev.setSession 2 fun z => { z with phase := 1, role := 2 }),
    { req0 opAuth 0 0 (1 :: hmacSha256 ((dev.setSession 2 fun z => { z with phase := 1, role := 2 }).roleKeyBytes 2) ([0x49, 0x5A, 0x56, 0x31] ++ (dev.setSession 2 fun z => { z with phase := 1, role := 2 }).proofText ((dev.setSession 2 fun z => { z with phase := 1, role := 2 }).session 2))) with session := 3 },
    2, by decide +kernel, rfl, by decide +kernel, by decide +kernel, rfl, rfl, by decide +kernel, by simp
    [IzReq.lengthOk, req0, opAuth], longer _ _⟩,
    ⟨opened fun z => { z with staged := [(⟨0x1202, 0, 0⟩, [2])] }, admitted (opened fun z =>
    { z with staged := [(⟨0x1202, 0, 0⟩, [2])] }) (req opClose 0 0 []), req opClose 0 0 [], 2, by decide +kernel,
    by decide +kernel, admits 2 (by decide +kernel) [1] (req_mac ..) (by decide +kernel) (by decide +kernel),
    by decide +kernel⟩,
    ⟨(dev.setSession 2 fun z => { z with phase := 1, role := 2 }).arm (.auth 2) 999999999999, 2, by decide +kernel⟩,
    ⟨({ dev with iz := { dev.iz with locked := true, authRun := 3 } } : State).arm .lockout 1000000000000,
    by decide +kernel⟩,
    ⟨opened.arm (.session 2) 999999999999, 2, by decide +kernel⟩,
    ⟨proxied 7, admitted (proxied 7) (req opRead 0x601F 254 []), req opRead 0x601F 254 [], by decide +kernel,
    by decide +kernel, by decide +kernel, admits 2 (by decide +kernel) [1] (req_mac ..) (by decide +kernel)
    (by decide +kernel), by decide +kernel, by decide +kernel, by decide +kernel⟩,
    ⟨proxied 7, admitted (proxied 7) (req opWrite 0x601F 254 [1]), req opWrite 0x601F 254 [1], by decide +kernel,
    by decide +kernel, by decide +kernel, admits 2 (by decide +kernel) [1] (req_mac ..) (by decide +kernel)
    (by decide +kernel), by decide +kernel, by decide +kernel, by decide +kernel⟩,
    ⟨proxied 8, admitted (proxied 8) (req opRead 0x601F 254 []), req opRead 0x601F 254 [], by decide +kernel,
    by decide +kernel, by decide +kernel, admits 2 (by decide +kernel) [1] (req_mac ..) (by decide +kernel)
    (by decide +kernel), by decide +kernel, by decide +kernel, by decide +kernel⟩,
    ⟨(proxied 0).wr Reg.LP_STATION_state 31 254 2, admitted ((proxied 0).wr Reg.LP_STATION_state 31 254 2) (req opRead
    0x601F 254 []), req opRead 0x601F 254 [], stStationUnreachable, by decide +kernel, by decide +kernel,
    by decide +kernel, admits 2 (by decide +kernel) [1] (req_mac ..) (by decide +kernel) (by decide +kernel),
    by decide +kernel, by decide +kernel⟩,
    ⟨(opened fun z => { z with role := 1 }), admitted (opened fun z => { z with role := 1 }) (req opWrite 0x601F 254
    [1]), req opWrite 0x601F 254 [1], stRole, by decide +kernel, by decide +kernel, by decide +kernel, admits 2
    (by decide +kernel) [1] (req_mac ..) (by decide +kernel) (by decide +kernel), by decide +kernel⟩⟩

theorem witness_CommitsComplete :
    (∃ (s u : State) (r : IzReq) (k : SessionNo) (x : Obj × Nat × List (Nat × Bytes)), s.takes r = true ∧ writes r
      0x1010 = true ∧ s.admitReq r = .accepted u ∧ u.checkWrite r = .ok x ∧ sessionNo r.session = some k ∧ uAt r.data 0
      4 = 0xC0DE)
    ∧ (∃ (s u : State) (r : IzReq) (k : SessionNo) (x : Obj × Nat × List (Nat × Bytes)), s.takes r = true ∧ writes r
      0x1010 = true ∧ s.admitReq r = .accepted u ∧ u.checkWrite r = .ok x ∧ sessionNo r.session = some k ∧ uAt r.data 0
      4 ≠ 0xC0DE)
    ∧ (∃ (s : State) (c : Commit) (rest : List Commit) (status : Nat) (report : Bytes) (k : SessionNo), s.steward =
      true ∧ s.refclkAsked = false ∧ s.iz.queue = c :: rest ∧ s.iz.active = none ∧ s.commitRefusal c.values = some
      (status, report) ∧ sessionNo c.session = some k ∧ (s.session k).phase = 2)
    ∧ (∃ (s : State) (c : Commit) (rest : List Commit) (k : SessionNo), s.steward = true ∧ s.refclkAsked = false ∧
      s.iz.queue = c :: rest ∧ s.iz.active = none ∧ s.commitRefusal c.values = none ∧ sessionNo c.session = some k ∧
      (s.session k).phase = 2 ∧ (c.values.filterMap fun v => v.1.island).eraseDups ≠ [])
    ∧ (∃ (s : State) (c : Commit) (rest : List Commit), s.steward = true ∧ s.refclkAsked = false ∧ s.iz.queue = c ::
      rest ∧ s.iz.active = none ∧ s.commitRefusal c.values = none ∧ c.values = []) :=
  ⟨⟨opened fun z => { z with staged := [(⟨0x1202, 0, 0⟩, [2])] }, admitted (opened fun z =>
    { z with staged := [(⟨0x1202, 0, 0⟩, [2])] }) (req opWrite 0x1010 0 [0, 0, 0xC0, 0xDE]), req opWrite 0x1010 0 [0,
    0, 0xC0, 0xDE], 2, (Reg.COMMIT, 0, [(0, [0, 0, 0xC0, 0xDE])]), by decide +kernel, by decide +kernel, admits 2
    (by decide +kernel) [1] (req_mac ..) (by decide +kernel) (by decide +kernel), ok_of (by decide +kernel),
    by decide +kernel, by decide +kernel⟩,
    ⟨opened, admitted opened (req opWrite 0x1010 0 [0, 0, 0xC0, 0xDF]), req opWrite 0x1010 0 [0, 0, 0xC0, 0xDF], 2,
    (Reg.COMMIT, 0, [(0, [0, 0, 0xC0, 0xDF])]), by decide +kernel, by decide +kernel, admits 2 (by decide +kernel) [1]
    (req_mac ..) (by decide +kernel) (by decide +kernel), ok_of (by decide +kernel), by decide +kernel,
    by decide +kernel⟩,
    ⟨queued [(⟨0x2004, 0, 0⟩, [0, 1])], ⟨3, .up, 9, 6, [(⟨0x2004, 0, 0⟩, [0, 1])], 0⟩, [], stRange, (((queued
    [(⟨0x2004, 0, 0⟩, [0, 1])]).commitRefusal [(⟨0x2004, 0, 0⟩, [0, 1])]).getD (0, [])).2, 2, by decide +kernel⟩,
    ⟨queued [(⟨0x1202, 0, 0⟩, [2])], ⟨3, .up, 9, 6, [(⟨0x1202, 0, 0⟩, [2])], 0⟩, [], 2, by decide +kernel⟩,
    ⟨queued [], ⟨3, .up, 9, 6, [], 0⟩, [], by decide +kernel⟩⟩

theorem witness_PowerEntryAndLevels :
    (∃ (s : State) (x : Side), s.runs = true ∧ s.linkUp x = true ∧ s.hostPort x = true ∧ s.steward = true ∧ s.stopped =
      false ∧ s.rd Reg.POWER_TARGET = 1)
    ∧ (∃ (s : State) (x : Side), s.runs = true ∧ s.linkUp x = true ∧ s.hostPort x = true ∧ ((s.steward = false ∨
      s.stopped = true ∨ s.rd Reg.POWER_TARGET = 0)))
    ∧ (∃ (s : State) (x : Side), s.runs = true ∧ s.linkUp x = true ∧ s.hostPort x = true ∧ s.steward = true ∧ s.stopped
      = false ∧ 2 ≤ s.rd Reg.POWER_TARGET)
    ∧ (∃ s : State, s.runs = true ∧ s.power.mode = pmIdle)
    ∧ (∃ (s : State) (m : EntryMeas), s.runs = true ∧ s.stopped = true ∧ s.stepMet m = true ∧ s.power.step ≠ 6 ∧
      s.power.abandon = none)
    ∧ (∃ (s : State) (m : EntryMeas), s.runs = true ∧ s.stopped = true ∧ s.stepMet m = true ∧ s.power.step ≠ 6 ∧
      s.power.abandon = none)
    ∧ (∃ (s : State) (m : EntryMeas), s.runs = true ∧ s.stopped = true ∧ s.stepMet m = true ∧ s.power.step ≠ 6 ∧
      s.power.abandon = none)
    ∧ (∃ s : State, s.runs = true ∧ s.stopped = true ∧ s.power.step = 6 ∧ s.power.abandon = none ∧ (s.power.target = 2
      ∨ s.power.target = 3 ∨ s.power.target = 4))
    ∧ (∃ (s : State) (code detail : Nat), s.runs = true ∧ s.stopped = true ∧ s.power.step = 6 ∧ s.power.abandon = some
      (code, detail) ∧ s.power.stepAt < s.power.abandonAt ∧ (s.power.target = 2 ∨ s.power.target = 3))
    ∧ (∃ (s : State) (m : EntryMeas) (code detail : Nat), s.runs = true ∧ s.stopped = true ∧ s.stepMet m = true ∧
      (s.power.step ≠ 6 ∨ s.power.abandonAt ≤ s.power.stepAt) ∧ s.power.abandon = some (code, detail))
    ∧ (∃ (s : State) (m : EntryMeas) (code detail : Nat), s.runs = true ∧ s.stopped = true ∧ s.stepMet m = true ∧
      (s.power.step ≠ 6 ∨ s.power.abandonAt ≤ s.power.stepAt) ∧ s.power.abandon = some (code, detail))
    ∧ (∃ (s : State) (m : EntryMeas) (code detail : Nat), s.runs = true ∧ s.stopped = true ∧ s.stepRefuser m = some
      (code, detail))
    ∧ (∃ (s : State) (u : PerfUnit), s.runs = true ∧ u.val ∈ s.iz.ramping ∧ (s.power.ramps.all fun r => r.1 != u.val) =
      true ∧ s.levelPoint u.val (s.rd Reg.PERF_LEVEL_requested 0 u.val) = true)
    ∧ (∃ (s : State) (u : PerfUnit) (r : Nat × Nat), s.runs = true ∧ (s.power.ramps.find? fun r => r.1 == u.val) = some
      r) :=
  ⟨⟨(chain 0 3).wr Reg.POWER_TARGET 0 0 1, .up, by decide +kernel⟩,
    ⟨chain 0 3, .up, by decide +kernel⟩,
    ⟨(chain 0 3).wr Reg.POWER_TARGET 0 0 4, .up, by decide +kernel⟩,
    ⟨powered (fun q => { q with mode := 1 }) (dev), by decide +kernel⟩,
    ⟨powered (fun q => { q with mode := 5, step := 5, target := 3 }) (dev), ⟨true, 7⟩, by decide +kernel⟩,
    ⟨powered (fun q => { q with mode := 5, step := 2, target := pmOff }) (dev), ⟨true, 7⟩, by decide +kernel⟩,
    ⟨powered (fun q => { q with mode := 5, step := 3, target := 2 }) (dev), ⟨true, 7⟩, by decide +kernel⟩,
    ⟨powered (fun q => { q with mode := 5, step := 6, target := 4 }) (dev), by decide +kernel⟩,
    ⟨powered (fun q =>
    { q with mode := 5, step := 6, target := 3, abandon := some (1, 0), stepAt := 999999999900, abandonAt := 999999999904 })
    (dev), 1, 0, by decide +kernel⟩,
    ⟨powered (fun q => { q with mode := 5, step := 5, target := 2, before := 1, abandon := some (5, 1) }) (dev), ⟨true,
    7⟩, 5, 1, by decide +kernel⟩,
    ⟨powered (fun q =>
    { q with mode := 5, step := 6, target := 2, stepAt := 999999999900, abandonAt := 999999999900, abandon := some (6, 2) })
    (dev), ⟨true, 7⟩, 6, 2, by decide +kernel⟩,
    ⟨powered (fun q => { q with mode := 5, step := 5, target := 2, before := 1, stepAt := 999996999999 }) (dev),
    ⟨false, 7⟩, 12, 0, by decide +kernel⟩,
    ⟨(({ dev with iz := { dev.iz with ramping := [31] } } : State).wr Reg.PERF_LEVEL_requested 0 31 3).wr
    Reg.PERF_LEVEL_in_force 0 31 1, 31, by decide +kernel⟩,
    ⟨powered (fun q => { q with ramps := [(36, 0)] }) (dev.wr Reg.PERF_LEVEL_in_force 0 36 3), 36, (36, 0),
    by decide +kernel⟩⟩

theorem witness_WakeStepByStep :
    (∃ (s : State) (w : WakeSource), s.live = true ∧ s.armedSource w = true ∧ s.power.mode = pmIdle)
    ∧ (∃ (s : State) (w : WakeSource), s.live = true ∧ s.armedSource w = true ∧ s.power.mode = pmRun)
    ∧ (∃ (s : State) (w : WakeSource), s.live = true ∧ s.armedSource w = true ∧ s.power.mode = pmEntering ∧
      s.power.abandon = none)
    ∧ (∃ (s : State) (w : WakeSource), s.live = true ∧ s.armedSource w = true ∧ (s.power.mode = pmSleep ∨ s.power.mode
      = pmDeep) ∧ s.power.wake = 0)
    ∧ (∃ (s : State) (w : WakeSource), s.live = true ∧ s.armedSource w = true ∧ s.power.mode = pmOff)
    ∧ (∃ s : State, s.live = true ∧ s.power.wake = 1 ∧ s.power.mode = pmSleep ∧ s.power.wakeAt + 30000 ≤ s.now)
    ∧ (∃ s : State, s.live = true ∧ s.power.wake = 1 ∧ s.power.mode = pmDeep ∧ s.power.wakeAt + 250000 ≤ s.now)
    ∧ (∃ (s : State) (failed : List Nat), s.runs = true ∧ s.power.wake = 2 ∧ s.power.slept = pmSleep ∧ s.power.wakeAt +
      830000 ≤ s.now ∧ ((∀ b < 8, b ∉ failed)))
    ∧ (∃ (s : State) (b : Nat), s.runs = true ∧ s.power.wake = 2 ∧ s.power.slept = pmSleep ∧ s.power.wakeAt + 830000 ≤
      s.now ∧ (b = 0 ∨ b = 2 ∨ b = 3))
    ∧ (∃ s : State, s.runs = true ∧ s.rd Reg.CLOCK_SELECT_request = 1 ∧ s.rd Reg.CLOCK_SELECT_in_force = 0 ∧
      s.power.locking = false ∧ s.power.wake ≠ 2 ∧ s.rd Reg.CAL_REF_REFCLK_state = 1)
    ∧ (∃ s : State, s.runs = true ∧ s.power.locking = true ∧ s.power.wake ≠ 3)
    ∧ (∃ s : State, s.runs = true ∧ s.power.locking = true ∧ s.power.wake = 3)
    ∧ (∃ s : State, s.runs = true ∧ s.power.mode = pmRun ∧ s.due .rhoNext = true)
    ∧ (∃ (s : State) (rho : Nat), s.runs = true ∧ s.reached .rhoRecheck = true ∧ ((rho : Int) - s.time.latchRho).natAbs
      * 1000000 ≤ s.time.latchRho)
    ∧ (∃ (s : State) (rho : Nat), s.runs = true ∧ s.reached .rhoRecheck = true ∧ s.time.latchRho < ((rho : Int) -
      s.time.latchRho).natAbs * 1000000)
    ∧ (∃ s : State, s.live = true ∧ s.power.lowPower = true) :=
  ⟨⟨powered (fun q => { q with mode := 1 }) (dev.wr Reg.WAKE_SOURCES_WAKE_N 0 0 1), .wakeN, by decide +kernel⟩,
    ⟨powered (fun q => { q with wakeAt := 999999000000 }) ((dev.wr Reg.WAKE_SOURCES_activity 0 0 4294967295).wr
    Reg.POWER_STATE_wake_cause 0 0 16777216), .activity 31, by decide +kernel⟩,
    ⟨powered (fun q => { q with mode := 5 }) (dev.wr Reg.WAKE_SOURCES_WAKE_N 0 0 1), .wakeN, by decide +kernel⟩,
    ⟨powered (fun q => { q with mode := 3 }) (dev.wr Reg.WAKE_SOURCES_Porfani 0 0 1), .porfani .up, by decide +kernel⟩,
    ⟨powered (fun q => { q with mode := 4 }) (dev), .wakeN, by decide +kernel⟩,
    ⟨powered (fun q => { q with mode := 2, wake := 1, wakeAt := 999999970000 }) (dev), by decide +kernel⟩,
    ⟨powered (fun q => { q with mode := 3, wake := 1, wakeAt := 999999750000 }) (dev), by decide +kernel⟩,
    ⟨powered (fun q => { q with wake := 2, slept := 2, wakeAt := 999999170000 }) (dev.setTime fun x =>
    { x with latchT := 999000000000, latchC := 5, latchRho := 131072000000000 }), [8], by decide +kernel⟩,
    ⟨powered (fun q => { q with wake := 2, slept := 2, wakeAt := 999999170000 }) (dev.setTime fun x =>
    { x with latchT := 999000000000, latchC := 5, latchRho := 131072000000000 }), 3, by decide +kernel⟩,
    ⟨((dev.wr Reg.CLOCK_SELECT_request 0 0 1).wr Reg.CLOCK_SELECT_in_force 0 0 0).wr Reg.CAL_REF_REFCLK_state 0 0 1,
    by decide +kernel⟩,
    ⟨powered (fun q => { q with locking := true, wake := 2 }) (dev), by decide +kernel⟩,
    ⟨powered (fun q => { q with locking := true, wake := 3 }) (dev), by decide +kernel⟩,
    ⟨dev.arm .rhoNext 1000000000000, by decide +kernel⟩,
    ⟨(dev.setTime fun x => { x with latchRho := 131072000000000 }).arm .rhoRecheck 1000000000000, 131072131072000,
    by decide +kernel⟩,
    ⟨(dev.setTime fun x => { x with latchRho := 131072000000000 }).arm .rhoRecheck 1000000000000, 131072131072001,
    by decide +kernel⟩,
    ⟨powered (fun q => { q with lowPower := true, mode := 4 }) (dev), by decide +kernel⟩⟩

theorem witness_FaultsStewardAndFencesComplete :
    (∃ (s : State) (f : FaultReport) (c : Nat), s.live = true ∧ catalogueSeverity f.cls f.code = some c ∧ sourceOf
      f.cls f.code f.source = true)
    ∧ (∃ (s : State) (f : PendFault), s.live = true ∧ s.faults.pending = [f] ∧ f.injected = false ∧ f.severity =
      svNotice ∧ (f.stamp / 16 + 1) * 16 + 2000 ≤ s.now ∧ (s.faults.inject.all fun x => decide (f.stamp / 16 < x.2.2 /
      16)) = true ∧ ((∀ l ∈ s.faults.logged, l.cls ≠ f.report.cls)) ∧ s.isHead = false ∧ s.power.wakeOwed = false)
    ∧ (∃ (s : State) (f : PendFault) (p : Port), s.live = true ∧ s.faults.pending = [f] ∧ f.injected = false ∧
      f.severity = svFence ∧ f.report.source = srcLine p ∧ f.report.cls = clsLine ∧ (f.stamp / 16 + 1) * 16 + 2000 ≤
      s.now ∧ (s.faults.inject.all fun x => decide (f.stamp / 16 < x.2.2 / 16)) = true ∧ ((∀ l ∈ s.faults.logged, l.cls
      ≠ clsLine)))
    ∧ (∃ (s : State) (f : PendFault) (k : Fin 4), s.live = true ∧ s.faults.pending = [f] ∧ f.injected = false ∧
      f.severity = svFence ∧ f.report.source = srcEngine k.val ∧ f.report.cls = clsSounding ∧ (f.stamp / 16 + 1) * 16 +
      2000 ≤ s.now ∧ (s.faults.inject.all fun x => decide (f.stamp / 16 < x.2.2 / 16)) = true ∧ ((∀ l ∈
      s.faults.logged, l.cls ≠ clsSounding)))
    ∧ (∃ (s : State) (f : FaultReport) (acked : Bool), s.live = true ∧ s.faults.resetFault = some f ∧ ((acked = true ∧
      s.recordWaits f = false) ∨ s.reached .faultReset = true))
    ∧ (∃ (s u : State) (r : IzReq) (x : Obj × Nat × List (Nat × Bytes)), s.takes r = true ∧ writes r 0x1402 = true ∧
      s.admitReq r = .accepted u ∧ u.checkWrite r = .ok x)
    ∧ (∃ s : State, s.runs = true ∧ s.passed .watchdog = true)
    ∧ (∃ s : State, s.runs = true ∧ s.faults.stewardDown = true)
    ∧ (∃ s : State, s.runs = true)
    ∧ (∃ s : State, s.runs = true)
    ∧ (∃ (s : State) (page : Nat), s.runs = true ∧ s.inSlot ownScrub = true ∧ page < 2048 ∧ s.faults.retired.contains
      page = false ∧ s.pageDue page = true ∧ s.faults.lost.contains page = false ∧ 0 < s.rd Reg.DRAM_PAGES_spares)
    ∧ (∃ (s : State) (page : Nat), s.runs = true ∧ s.inSlot ownScrub = true ∧ page < 2048 ∧ s.faults.retired.contains
      page = false ∧ s.pageDue page = true ∧ s.faults.lost.contains page = false ∧ s.rd Reg.DRAM_PAGES_spares = 0)
    ∧ (∃ (s : State) (page : Nat), s.runs = true ∧ s.inSlot ownScrub = true ∧ page < 2048 ∧ s.faults.retired.contains
      page = false ∧ s.faults.lost.contains page = true ∧ 0 < s.rd Reg.DRAM_PAGES_spares)
    ∧ (∃ (s : State) (page : Nat), s.runs = true ∧ s.inSlot ownScrub = true ∧ page ∈ s.faults.copying)
    ∧ (∃ (s u : State) (r : IzReq) (x : Obj × Nat × List (Nat × Bytes)), s.takes r = true ∧ writes r 0x1410 = true ∧
      s.admitReq r = .accepted u ∧ u.checkWrite r = .ok x ∧ (catalogueSeverity (uAt r.data 2 1) (uAt r.data 3
      1)).isSome = true ∧ sourceOf (uAt r.data 2 1) (uAt r.data 3 1) (uAt r.data 0 2) = true ∧ 1 ≤ uAt r.data 4 1 ∧ uAt
      r.data 4 1 ≤ 4 ∧ time80Ok r.data 6 = true)
    ∧ (∃ (s : State) (f : FaultReport) (sev : Nat) (w : Stamp), s.live = true ∧ s.faults.inject = some (f, sev, w) ∧ w
      ≤ s.now)
    ∧ (∃ (s : State) (e : FenceElem), s.runs = true ∧ s.flag Reg.FENCE_CTL_clear 0 e.val = true ∧ s.rd
      Reg.FENCE_CTL_state 0 e.val = 1)
    ∧ (∃ (s : State) (e : FenceElem), s.runs = true ∧ s.rd Reg.FENCE_CTL_state 0 e.val = 2 ∧ 32 ≤ e.val ∧ e.val < 36 ∧
      s.reached (.selfTest e.val) = true)
    ∧ (∃ (s : State) (e : FenceElem) (p : Port), s.runs = true ∧ s.rd Reg.FENCE_CTL_state 0 e.val = 2 ∧ e.val = p.val ∧
      s.reached (.selfTest e.val) = true)
    ∧ (∃ (s : State) (e : FenceElem), s.runs = true ∧ s.rd Reg.FENCE_CTL_state 0 e.val = 2 ∧ e.val = 36)
    ∧ (∃ (s : State) (e : FenceElem) (f : FaultReport) (c : Nat), s.runs = true ∧ s.rd Reg.FENCE_CTL_state 0 e.val = 2
      ∧ s.reached (.selfTest e.val) = true ∧ Store.get ⟨0, 0, 0, 0, 0⟩ s.faults.fencedBy e.val = f ∧ catalogueSeverity
      f.cls f.code = some c ∧ sourceOf f.cls f.code f.source = true) :=
  ⟨⟨dev, ⟨0x2F, 0, 0x12, 31, 5⟩, 3, by decide +kernel⟩,
    ⟨(dev).setFaults fun q => { q with pending := [⟨999999997000, ⟨0, 4, 1, 0xFF, 7⟩, 1, false⟩], seq := 4294967295 },
    ⟨999999997000, ⟨0, 4, 1, 0xFF, 7⟩, 1, false⟩, by decide +kernel⟩,
    ⟨(portIn 31 stService).setFaults fun q =>
    { q with pending := [⟨999999997000, ⟨0x2F, 0, 0x10, 0xFF, 7⟩, 3, false⟩] }, ⟨999999997000, ⟨0x2F, 0, 0x10, 0xFF,
    7⟩, 3, false⟩, 31, by decide +kernel⟩,
    ⟨(dev.setSound 31 fun q => { q with engine := some 3 }).setFaults fun q =>
    { q with pending := [⟨999999997000, ⟨0x0B, 1, 1, 0xFF, 7⟩, 3, false⟩] }, ⟨999999997000, ⟨0x0B, 1, 1, 0xFF, 7⟩, 3,
    false⟩, 3, by decide +kernel⟩,
    ⟨(dev).setFaults fun q => { q with resetFault := some ⟨0x40, 5, 4, 0xFF, 7⟩ }, ⟨0x40, 5, 4, 0xFF, 7⟩, true,
    by decide +kernel⟩,
    ⟨(opened).setFaults fun q => { q with logged := [⟨1, 4, 2, false, false, false⟩], seq := 1 }, admitted
    ((opened).setFaults fun q => { q with logged := [⟨1, 4, 2, false, false, false⟩], seq := 1 }) (req opWrite 0x1402 0
    [0, 0, 0, 0x10, 0, 0, 0, 1]), req opWrite 0x1402 0 [0, 0, 0, 0x10, 0, 0, 0, 1], (Reg.FAULT_ACK, 0, [(0, [0, 0, 0,
    0x10, 0, 0, 0, 1])]), by decide +kernel, by decide +kernel, admits 2 (by decide +kernel) [1] (req_mac ..)
    (by decide +kernel) (by decide +kernel), ok_of (by decide +kernel)⟩,
    ⟨dev.arm .watchdog 999999999999, by decide +kernel⟩,
    ⟨(dev).setFaults fun q => { q with stewardDown := true }, by decide +kernel⟩,
    ⟨dev, by decide +kernel⟩,
    ⟨dev, by decide +kernel⟩,
    ⟨(inSlotN dev 12).setFaults fun q => { q with corrected := [(2047, List.replicate 24 1000000000000)] }, 2047,
    by decide +kernel⟩,
    ⟨((inSlotN dev 12).wr Reg.DRAM_PAGES_spares 0 0 0).setFaults fun q =>
    { q with corrected := [(2047, List.replicate 24 1000000000000)] }, 2047, by decide +kernel⟩,
    ⟨(inSlotN dev 12).setFaults fun q => { q with lost := [2047] }, 2047, by decide +kernel⟩,
    ⟨(inSlotN dev 12).setFaults fun q => { q with copying := [2047] }, 2047, by decide +kernel⟩,
    ⟨opened, admitted opened (req opWrite 0x1410 0 (be 2 0x40 ++ [7, 3, 4, 0] ++ be 6 2000 ++ be 4 0)), req opWrite
    0x1410 0 (be 2 0x40 ++ [7, 3, 4, 0] ++ be 6 2000 ++ be 4 0), (Reg.FAULT_INJECT, 0, [(0, (be 2 0x40 ++ [7, 3, 4, 0]
    ++ be 6 2000 ++ be 4 0))]), by decide +kernel, by decide +kernel, admits 2 (by decide +kernel) [1] (req_mac ..)
    (by decide +kernel) (by decide +kernel), ok_of (by decide +kernel), by decide +kernel, by decide +kernel,
    by decide +kernel, by decide +kernel, by decide +kernel⟩,
    ⟨(dev).setFaults fun q => { q with inject := some (⟨0x40, 7, 3, 0xFF, 0⟩, 4, 1000000000000) }, ⟨0x40, 7, 3, 0xFF,
    0⟩, 4, 1000000000000, by decide +kernel⟩,
    ⟨(dev.wr Reg.FENCE_CTL_clear 0 36 1).wr Reg.FENCE_CTL_state 0 36 1, 36, by decide +kernel⟩,
    ⟨(dev.wr Reg.FENCE_CTL_state 0 35 2).arm (.selfTest 35) 1000000000000, 35, by decide +kernel⟩,
    ⟨(dev.wr Reg.FENCE_CTL_state 0 31 2).arm (.selfTest 31) 1000000000000, 31, 31, by decide +kernel⟩,
    ⟨dev.wr Reg.FENCE_CTL_state 0 36 2, 36, by decide +kernel⟩,
    ⟨((dev.wr Reg.FENCE_CTL_state 0 35 2).arm (.selfTest 35) 1000000000000).setFaults fun q =>
    { q with fencedBy := [(35, ⟨0x0B, 1, 1, 0xFF, 7⟩)] }, 35, ⟨0x0B, 1, 1, 0xFF, 7⟩, 3, by decide +kernel⟩⟩

theorem witness_EscalationOneStep :
    (∃ f : PendFault, f.severity ≤ svStation ∧ ((f.injected = false → catalogueSeverity f.report.cls f.report.code =
      some f.severity)))
    ∧ (∃ f : PendFault, f.severity ≤ svStation ∧ ((f.injected = false → catalogueSeverity f.report.cls f.report.code =
      some f.severity)))
    ∧ (∃ f : PendFault, f.severity ≤ svStation ∧ ((f.injected = false → catalogueSeverity f.report.cls f.report.code =
      some f.severity))) :=
  ⟨⟨⟨dev.now, ⟨srcSteward, clsControl, 3, 0xFF, 0⟩, 3, false⟩, by decide +kernel⟩,
    ⟨⟨dev.now, ⟨srcSteward, clsControl, 3, 0xFF, 0⟩, 3, false⟩, by decide +kernel⟩,
    ⟨⟨dev.now, ⟨0x40, clsControl, 3, 0xFF, 0⟩, 4, true⟩, by decide +kernel⟩⟩

theorem witness_CalibrationRuns :
    (∃ s : State, s.runs = true ∧ s.rst.pllLocked = true ∧ s.rd Reg.BOOT_STATE_state = 3 ∧ s.rst.convGroup < 4 ∧ s.rd
      Reg.CAL_REF_REFRES_state ≠ 0 ∧ ((∀ p : Port, 8 * s.rst.convGroup ≤ p.val ∨ (s.port p).cal.converterDone = true)))
    ∧ (∃ (s : State) (p : Port), s.runs = true ∧ s.stopped = false ∧ s.inLinePhase < 8 ∧ s.nextForLine = some p)
    ∧ (∃ (s : State) (p : Port) (a run : CalRun), s.runs = true ∧ (s.port p).cal.runBusy = true ∧ (s.port p).cal.runEnd
      ≤ s.now ∧ (s.port p).cal.step = 1 ∧ run.items.length = 4 ∧ (s.port p).cal.runs = [a] ∧ s.portState p = stCal ∧
      s.rd Reg.CAL_REF_REFRES_state ≠ 2 ∧ runsAgree 1 a run = true)
    ∧ (∃ (s : State) (p : Port) (a b c run : CalRun), s.runs = true ∧ (s.port p).cal.runBusy = true ∧ (s.port
      p).cal.runEnd ≤ s.now ∧ (s.port p).cal.step = 1 ∧ run.items.length = 4 ∧ (s.port p).cal.runs = [a, b] ∧
      s.portState p = stCal ∧ ((runsAgree 1 a run = true ∧ c = a ∨ runsAgree 1 a run = false ∧ runsAgree 1 b run = true
      ∧ c = b)))
    ∧ (∃ (s : State) (p : Port) (a run : CalRun), s.runs = true ∧ (s.port p).cal.runBusy = true ∧ (s.port p).cal.runEnd
      ≤ s.now ∧ (s.port p).cal.step = 3 ∧ run.items.length = 4 ∧ (s.port p).cal.runs = [a] ∧ runsAgree 3 a run = true)
    ∧ (∃ (s : State) (p : Port) (a run : CalRun), s.runs = true ∧ (s.port p).cal.runBusy = true ∧ (s.port p).cal.runEnd
      ≤ s.now ∧ (s.port p).cal.step = 3 ∧ run.items.length = 4 ∧ (s.port p).cal.runs = [a] ∧ runsAgree 3 a run = true)
    ∧ (∃ (s : State) (p : Port) (a run : CalRun), s.runs = true ∧ (s.port p).cal.runBusy = true ∧ (s.port p).cal.runEnd
      ≤ s.now ∧ (s.port p).cal.step = 5 ∧ run.items.length = 4 ∧ (s.port p).cal.runs = [a] ∧ runsAgree 5 a run = true)
    ∧ (∃ (s : State) (p : Port) (a run : CalRun), s.runs = true ∧ (s.port p).cal.runBusy = true ∧ (s.port p).cal.runEnd
      ≤ s.now ∧ (s.port p).cal.step = 1 ∧ run.items.length = 4 ∧ (s.port p).cal.runs = [a] ∧ s.portState p = stCal ∧
      s.rd Reg.CAL_REF_REFRES_state ≠ 2 ∧ runsAgree 1 a run = false)
    ∧ (∃ (s : State) (p : Port) (a b run : CalRun), s.runs = true ∧ (s.port p).cal.runBusy = true ∧ (s.port
      p).cal.runEnd ≤ s.now ∧ (s.port p).cal.step = 1 ∧ run.items.length = 4 ∧ (s.port p).cal.runs = [a, b] ∧
      s.portState p = stCal ∧ runsAgree 1 a run = false ∧ runsAgree 1 b run = false)
    ∧ (∃ (s : State) (p : Port) (a run : CalRun), s.runs = true ∧ (s.port p).cal.runBusy = true ∧ (s.port p).cal.runEnd
      ≤ s.now ∧ (s.port p).cal.step = 1 ∧ run.items.length = 4 ∧ (s.port p).cal.runs = [a] ∧ s.portState p = stCal ∧
      s.rd Reg.CAL_REF_REFRES_state = 2)
    ∧ (∃ (s : State) (p : Port) (level : Option Int), s.runs = true ∧ (s.port p).cal.runBusy = true ∧ (s.port
      p).cal.step = 3 ∧ (level.all fun v => decide (s.rd Reg.LP_CAL_CTL_quiet_level p < v)) = true ∧ s.portState p ≠
      stCal)
    ∧ (∃ (s : State) (p : Port) (level : Option Int), s.runs = true ∧ (s.port p).cal.runBusy = true ∧ (s.port
      p).cal.step = 3 ∧ (level.all fun v => decide (s.rd Reg.LP_CAL_CTL_quiet_level p < v)) = true ∧ s.portState p =
      stCal)
    ∧ (∃ (s : State) (p : Port) (level : Option Int), s.runs = true ∧ (s.port p).cal.runBusy = true ∧ (s.port
      p).cal.step = 3 ∧ (level.all fun v => decide (s.rd Reg.LP_CAL_CTL_quiet_level p < v)) = true ∧ s.portState p =
      stCal)
    ∧ (∃ (s : State) (p : Port), s.runs = true ∧ s.rd Reg.LP_CAL_CTL_request p = 1 ∧ (s.port p).cal.requested = false) :=
  ⟨⟨((dev.wr Reg.BOOT_STATE_state 0 0 3).wr Reg.CAL_REF_REFRES_state 0 0 1), by decide +kernel⟩,
    ⟨(portIn 31 stCal).setCal 31 fun q => { q with full := true }, 31, by decide +kernel⟩,
    ⟨(portIn 31 stCal).setCal 31 fun q =>
    { q with runBusy := true, runEnd := 1000000000000, step := 1, full := true, runs := [⟨[1, 2, 3, 4]⟩] }, 31, ⟨[1, 2,
    3, 4]⟩, ⟨[1, 2, 3, 4]⟩, by decide +kernel⟩,
    ⟨(portIn 31 stCal).setCal 31 fun q =>
    { q with runBusy := true, runEnd := 1000000000000, step := 1, full := true, runs := [⟨[1, 2, 3, 4]⟩, ⟨[100000, 2, 3, 4]⟩] },
    31, ⟨[1, 2, 3, 4]⟩, ⟨[100000, 2, 3, 4]⟩, ⟨[100000, 2, 3, 4]⟩, ⟨[100000, 2, 3, 4]⟩, by decide +kernel⟩,
    ⟨(portIn 31 stCal).setCal 31 fun q =>
    { q with runBusy := true, runEnd := 1000000000000, step := 3, runs := [⟨[60, 1, 2, 300]⟩] }, 31, ⟨[60, 1, 2, 300]⟩,
    ⟨[61, 1, 2, 305]⟩, by decide +kernel⟩,
    ⟨(portIn 31 stService).setCal 31 fun q =>
    { q with runBusy := true, runEnd := 1000000000000, step := 3, runs := [⟨[60, 1, 2, 300]⟩] }, 31, ⟨[60, 1, 2, 300]⟩,
    ⟨[61, 1, 2, 299]⟩, by decide +kernel⟩,
    ⟨(portIn 31 stService).setCal 31 fun q =>
    { q with runBusy := true, runEnd := 1000000000000, step := 5, due := true, runs := [⟨[1, 200000, 3, 4]⟩] }, 31,
    ⟨[1, 200000, 3, 4]⟩, ⟨[1, 200100, 3, 4]⟩, by decide +kernel⟩,
    ⟨(portIn 31 stCal).setCal 31 fun q =>
    { q with runBusy := true, runEnd := 1000000000000, step := 1, full := true, runs := [⟨[1, 2, 3, 4]⟩] }, 31, ⟨[1, 2,
    3, 4]⟩, ⟨[100000, 2, 3, 4]⟩, by decide +kernel⟩,
    ⟨(portIn 31 stCal).setCal 31 fun q =>
    { q with runBusy := true, runEnd := 1000000000000, step := 1, full := true, runs := [⟨[1, 2, 3, 4]⟩, ⟨[100000, 2, 3, 4]⟩] },
    31, ⟨[1, 2, 3, 4]⟩, ⟨[100000, 2, 3, 4]⟩, ⟨[-100000, 2, 3, 4]⟩, by decide +kernel⟩,
    ⟨((portIn 31 stCal).setCal 31 fun q =>
    { q with runBusy := true, runEnd := 1000000000000, step := 1, full := true, runs := [⟨[1, 2, 3, 4]⟩] }).wr
    Reg.CAL_REF_REFRES_state 0 0 2, 31, ⟨[1, 2, 3, 4]⟩, ⟨[1, 2, 3, 4]⟩, by decide +kernel⟩,
    ⟨(portIn 31 stService).setCal 31 fun q => { q with runBusy := true, step := 3, wantHybrid := true }, 31, some 5,
    by decide +kernel⟩,
    ⟨((portIn 31 stCal).setCal 31 fun q => { q with runBusy := true, step := 3 }).wr Reg.LP_CAL_postponements 31 0 2,
    31, none, by decide +kernel⟩,
    ⟨((portIn 31 stCal).setCal 31 fun q => { q with runBusy := true, step := 3 }).wr Reg.LP_CAL_postponements 31 0 1,
    31, none, by decide +kernel⟩,
    ⟨dev.wr Reg.LP_CAL_CTL_request 31 0 1, 31, by decide +kernel⟩⟩

theorem witness_HamperWorksAndAnswers :
    (∃ s : State, s.hamper.powered = false)
    ∧ (∃ s : State, s.hamper.powered = true ∧ s.hamper.legal s.time.mono / 2000000000 ≠ s.hamper.sampleTime /
      2000000000)
    ∧ (∃ s : State, s.hamper.powered = true)
    ∧ (∃ s : State, s.hamper.powered = true)
    ∧ (∃ s : State, s.hamper.powered = true ∧ s.hamper.romAt + 86400000000000 ≤ s.time.mono)
    ∧ (∃ (s : State) (frame b : Bytes), s.hamper.powered = true ∧ framePayload frame 0x81 = some b ∧ b.length = 8)
    ∧ (∃ (s : State) (frame b : Bytes), s.hamper.powered = true ∧ framePayload frame 0x82 = some b ∧ b.length = 5 ∧ 1 ≤
      uAt b 4 1 ∧ uAt b 4 1 ≤ 16)
    ∧ (∃ (s : State) (frame b : Bytes), s.hamper.powered = true ∧ framePayload frame 0x83 = some b ∧ b.length = 10 ∧
      (ofTime80 b).isSome = true)
    ∧ (∃ (s : State) (frame : Bytes), s.hamper.powered = true ∧ localPayload frame 0x01 = some [])
    ∧ (∃ (s : State) (frame b : Bytes), s.hamper.powered = true ∧ localPayload frame 0x02 = some b ∧ b.length = 8)
    ∧ (∃ (s : State) (frame b : Bytes), s.hamper.powered = true ∧ localPayload frame 0x03 = some b ∧ b.length = 5 ∧ 1 ≤
      uAt b 4 1 ∧ uAt b 4 1 ≤ 16)
    ∧ (∃ (s : State) (frame b : Bytes), s.hamper.powered = true ∧ localPayload frame 0x04 = some b ∧ b.length = 10 ∧
      (ofTime80 b).isSome = true ∧ s.hamper.offeredAt ≠ some (s.time.mono / 1000000))
    ∧ (∃ (s : State) (frame b readback : Bytes) (i : Instr) (cmd n : Nat), s.hamper.powered = true ∧ (s.hamper.sealed =
      false ∨ cmd < 16) ∧ s.hamper.offeredAt ≠ some (s.time.mono / 1000000) ∧ ((i = .localReadId frame ∧ cmd = 1 ∧ n =
      0 ∨ i = .localReadRegisters frame ∧ cmd = 2 ∧ n = 8 ∨ i = .localReadLog frame ∧ cmd = 3 ∧ n = 5 ∨ i =
      .localTimeOffer frame ∧ cmd = 4 ∧ n = 10 ∨ i = .writeConfig frame ∧ cmd = 0x10 ∧ n = 32 ∨ i = .programCal frame
      readback ∧ cmd = 0x11 ∧ n = 28 ∨ i = .setClock frame ∧ cmd = 0x12 ∧ n = 10 ∨ i = .sealHamper frame ∧ cmd = 0x13 ∧
      n = 4)) ∧ localPayload frame cmd = some b ∧ b.length ≠ n)
    ∧ (∃ (s : State) (frame b readback : Bytes) (i : Instr) (cmd n : Nat), s.hamper.powered = true ∧ (s.hamper.sealed =
      false ∨ cmd < 16) ∧ s.hamper.offeredAt ≠ some (s.time.mono / 1000000) ∧ ((i = .localReadId frame ∧ cmd = 1 ∧ n =
      0 ∨ i = .localReadRegisters frame ∧ cmd = 2 ∧ n = 8 ∨ i = .localReadLog frame ∧ cmd = 3 ∧ n = 5 ∨ i =
      .localTimeOffer frame ∧ cmd = 4 ∧ n = 10 ∨ i = .writeConfig frame ∧ cmd = 0x10 ∧ n = 32 ∨ i = .programCal frame
      readback ∧ cmd = 0x11 ∧ n = 28 ∨ i = .setClock frame ∧ cmd = 0x12 ∧ n = 10 ∨ i = .sealHamper frame ∧ cmd = 0x13 ∧
      n = 4)) ∧ localPayload frame cmd = some b ∧ b.length ≠ n)
    ∧ (∃ (s : State) (frame b readback : Bytes) (i : Instr) (cmd : Nat), s.hamper.powered = true ∧ s.hamper.sealed =
      true ∧ ((i = .writeConfig frame ∧ cmd = 0x10 ∨ i = .programCal frame readback ∧ cmd = 0x11 ∨ i = .setClock frame
      ∧ cmd = 0x12 ∨ i = .sealHamper frame ∧ cmd = 0x13)) ∧ localPayload frame cmd = some b)
    ∧ (∃ (s : State) (frame b : Bytes), s.hamper.powered = true ∧ s.hamper.sealed = false ∧ localPayload frame 0x10 =
      some b ∧ configOk b = true)
    ∧ (∃ (s : State) (frame b : Bytes) (i : Nat), s.hamper.powered = true ∧ s.hamper.sealed = false ∧ localPayload
      frame 0x11 = some b ∧ b.length = 28 ∧ (([0, 1, 2, 3] : List Nat).find? fun i => !(s.hamper.sets.getD i {}).used)
      = some i ∧ s.hamper.sets.length = 4)
    ∧ (∃ (s : State) (frame b readback : Bytes) (i : Nat), s.hamper.powered = true ∧ s.hamper.sealed = false ∧
      localPayload frame 0x11 = some b ∧ b.length = 28 ∧ readback ≠ b ++ be 4 (crc32 b) ∧ (([0, 1, 2, 3] : List
      Nat).find? fun i => !(s.hamper.sets.getD i {}).used) = some i ∧ s.hamper.sets.length = 4)
    ∧ (∃ (s : State) (frame b : Bytes), s.hamper.powered = true ∧ s.hamper.sealed = false ∧ localPayload frame 0x11 =
      some b ∧ b.length = 28 ∧ ((∀ i < 4, (s.hamper.sets.getD i {}).used = true)))
    ∧ (∃ (s : State) (frame b : Bytes), s.hamper.powered = true ∧ s.hamper.sealed = false ∧ localPayload frame 0x12 =
      some b ∧ b.length = 10 ∧ (ofTime80 b).isSome = true)
    ∧ (∃ (s : State) (frame b : Bytes), s.hamper.powered = true ∧ s.hamper.sealed = false ∧ localPayload frame 0x13 =
      some b ∧ b.length = 4) :=
  ⟨⟨dev, by decide +kernel⟩,
    ⟨metering fun h => { h with pulses := (3, 5), sampleTime := h.legal 1000000000000 + 2000000000 }, rfl, steps_bin
    _⟩,
    ⟨metering, by decide +kernel⟩,
    ⟨metering fun h => { h with pulses := (3, 5) }, by decide +kernel⟩,
    ⟨metering fun h => { h with romAt := 913600000000000 - 1000000000000 * 999 }, by decide +kernel⟩,
    ⟨metering fun h => { h with snapCount := 4294967295 }, lane 0x81 [1, 2, 3, 4, 5, 6, 7, 8], [1, 2, 3, 4, 5, 6, 7,
    8], by decide +kernel⟩,
    ⟨metering, lane 0x82 [0, 0, 0, 0, 16], [0, 0, 0, 0, 16], by decide +kernel⟩,
    ⟨metering fun h => { h with sealed := true }, lane 0x83 (be 6 1000 ++ be 4 999999999), (be 6 1000 ++ be 4
    999999999), by decide +kernel⟩,
    ⟨metering, loc 1 [], by decide +kernel⟩,
    ⟨metering, loc 2 [1, 2, 3, 4, 5, 6, 7, 8], [1, 2, 3, 4, 5, 6, 7, 8], by decide +kernel⟩,
    ⟨metering, loc 3 [0, 0, 0, 0, 16], [0, 0, 0, 0, 16], by decide +kernel⟩,
    ⟨metering, loc 4 (be 6 1000 ++ be 4 999999999), (be 6 1000 ++ be 4 999999999), by decide +kernel⟩,
    ⟨metering, loc 0x10 [1, 2], [1, 2], [], .writeConfig (loc 0x10 [1, 2]), 0x10, 32, by decide +kernel⟩,
    ⟨metering fun h => { h with sealed := true }, loc 1 [9], [9], [], .localReadId (loc 1 [9]), 1, 0,
    by decide +kernel⟩,
    ⟨metering fun h => { h with sealed := true }, loc 0x13 [0, 0, 0, 0], [0, 0, 0, 0], [], .sealHamper (loc 0x13 [0, 0,
    0, 0]), 0x13, by decide +kernel⟩,
    ⟨metering, loc 0x10 config, config, by decide +kernel⟩,
    ⟨metering fun h => { h with sets := [{ used := true }, { used := true }, { used := true }, {}] }, loc 0x11
    (List.replicate 28 9), (List.replicate 28 9), 3, by decide +kernel⟩,
    ⟨metering fun h => { h with sets := [{ used := true }, { used := true }, { used := true }, {}] }, loc 0x11
    (List.replicate 28 9), (List.replicate 28 9), [], 3, by decide +kernel⟩,
    ⟨metering fun h => { h with sets := [{ used := true }, { used := true }, { used := true }, { used := true }] }, loc
    0x11 (List.replicate 28 9), (List.replicate 28 9), by decide +kernel⟩,
    ⟨metering, loc 0x12 (be 6 1000 ++ be 4 999999999), (be 6 1000 ++ be 4 999999999), by decide +kernel⟩,
    ⟨metering fun h =>
    { h with configured := true, clockSet := true, config := config, sets := [{ rows := [1], row7 := crc32 [1], commit := 0xA5, used := true }, {}, {}, {}] },
    loc 0x13 (be 4 (crc32 config)), be 4 (crc32 config), by decide +kernel⟩⟩

theorem witness_TamperIsLogged :
    (∃ s : State, s.hamper.powered = true ∧ s.hamper.tampered = false)
    ∧ (∃ s : State, s.hamper.powered = true ∧ s.hamper.tampered = true) :=
  ⟨⟨metering, by decide +kernel⟩,
    ⟨metering fun h => { h with tampered := true }, by decide +kernel⟩⟩

theorem witness_OffersBounded :
    (∃ h : Hamper, h.sealed = false)
    ∧ (∃ h : Hamper, h.sealed = true ∧ h.clockInvalid = true)
    ∧ (∃ (h : Hamper) (mono t : Stamp), h.sealed = true ∧ h.clockInvalid = false ∧ (t - h.legal mono).natAbs <
      10000000)
    ∧ (∃ (h : Hamper) (mono t : Stamp), h.sealed = true ∧ h.clockInvalid = false ∧ 10000000 ≤ (t - h.legal mono).natAbs
      ∧ h.used (h.legal mono) + (t - h.legal mono).natAbs ≤ 2000000000)
    ∧ (∃ (h : Hamper) (mono t : Stamp), h.sealed = true ∧ h.clockInvalid = false ∧ 10000000 ≤ (t - h.legal mono).natAbs
      ∧ 2000000000 < h.used (h.legal mono) + (t - h.legal mono).natAbs) :=
  ⟨⟨config0, rfl⟩,
    ⟨{ config0 with sealed := true, clockInvalid := true }, rfl, rfl⟩,
    ⟨valid, 1000, valid.legal 1000 + 9999999, rfl, rfl, by omega⟩,
    ⟨valid, 1000, valid.legal 1000 + 2000000000, rfl, rfl, by omega, by simp [valid, Hamper.used]⟩,
    ⟨valid, 1000, valid.legal 1000 + 2000000001, rfl, rfl, by omega, by simp [valid, Hamper.used]⟩⟩

set_option maxRecDepth 40000 in
theorem witness_HamperInterfaceCompletes :
    (∃ (s : State) (frame b : Bytes), s.hmpHears = true ∧ framePayload frame 0x01 = some b ∧ b.length = 40)
    ∧ (∃ (s : State) (frame b : Bytes), s.hmpHears = true ∧ framePayload frame 0x01 = some b ∧ b.length = 40)
    ∧ (∃ (s : State) (frame b : Bytes), s.hmpHears = true ∧ framePayload frame 0x02 = some b ∧ b.length = 456)
    ∧ (∃ (s : State) (frame b : Bytes), s.hmpHears = true ∧ framePayload frame 0x03 = some b ∧ b.length = 16)
    ∧ (∃ (s : State) (frame b : Bytes), s.hmpHears = true ∧ framePayload frame 0x03 = some b ∧ b.length = 16)
    ∧ (∃ (s : State) (frame b : Bytes), s.hmpHears = true ∧ framePayload frame 0x04 = some b ∧ b.length = 8)
    ∧ (∃ (s : State) (frame b : Bytes), s.hmpHears = true ∧ framePayload frame 0x04 = some b ∧ b.length = 8)
    ∧ (∃ (s : State) (frame b : Bytes), s.hmpHears = true ∧ framePayload frame 0x04 = some b ∧ b.length = 8)
    ∧ (∃ (s : State) (frame : Bytes) (i : Instr), s.hmpHears = true ∧ (frame.length < 8 ∨ crc32 (frame.take
      (frame.length - 4)) ≠ uAt frame (frame.length - 4) 4) ∧ (s.faults.laneErrors.filter fun x => decide (s.now - x <
      1000000000)).length < 16 ∧ ((i = .hmpStatusRx frame ∨ i = .hmpSnapshotRx frame ∨ i = .hmpLogRx frame ∨ i =
      .hmpTimeResultRx frame)))
    ∧ (∃ (s : State) (frame : Bytes) (i : Instr), s.hmpHears = true ∧ (frame.length < 8 ∨ crc32 (frame.take
      (frame.length - 4)) ≠ uAt frame (frame.length - 4) 4) ∧ (s.faults.laneErrors.filter fun x => decide (s.now - x <
      1000000000)).length < 16 ∧ ((i = .hmpStatusRx frame ∨ i = .hmpSnapshotRx frame ∨ i = .hmpLogRx frame ∨ i =
      .hmpTimeResultRx frame)))
    ∧ (∃ (s : State) (frame : Bytes), s.hmpHears = true ∧ frame.length < 8 ∧ 16 ≤ (s.faults.laneErrors.filter fun x =>
      decide (s.now - x < 1000000000)).length)
    ∧ (∃ s : State, s.hmpMayRequest = true ∧ s.reached .hmpPoll = true)
    ∧ (∃ s : State, s.hmpMayRequest = true ∧ s.rd Reg.TIME_QUALITY_state = tqLocked ∧ s.rd Reg.HMP_STATUS_interface =
      hmpReceiving ∧ s.rd Reg.HMP_ID_seal = 1 ∧ s.now / 1000000000 % 3600 = 0 ∧ s.now / 1000000000 / 3600 ≠
      s.hmp.lastHour)
    ∧ (∃ s : State, s.runs = true ∧ s.hmp.request ≠ 0 ∧ s.passed .hmpRequest = true)
    ∧ (∃ s : State, s.hmpHears = true ∧ s.passed .laneSilent = true) :=
  ⟨⟨dev.wr Reg.HMP_STATUS_interface 0 0 hmpReceiving, lane 1 (List.replicate 12 0 ++ be 4 5000 ++ List.replicate 24 0),
    (List.replicate 12 0 ++ be 4 5000 ++ List.replicate 24 0), by decide +kernel⟩,
    ⟨dev.wr Reg.HMP_STATUS_interface 0 0 hmpReceiving, lane 1 (List.replicate 20 0 ++ [1] ++ List.replicate 19 0),
    (List.replicate 20 0 ++ [1] ++ List.replicate 19 0), by decide +kernel⟩,
    ⟨dev.wr Reg.HMP_STATUS_interface 0 0 hmpReceiving, lane 2 (be 8 77 ++ List.replicate 447 0 ++ [5]), (be 8 77 ++
    List.replicate 447 0 ++ [5]), by decide +kernel⟩,
    ⟨dev.wr Reg.HMP_STATUS_interface 0 0 hmpReceiving, lane 3 (be 4 4095 ++ List.replicate 12 3), (be 4 4095 ++
    List.replicate 12 3), by decide +kernel⟩,
    ⟨(dev.wr Reg.HMP_STATUS_interface 0 0 hmpReceiving).setHmp fun q => { q with request := 0x82, wantTo := 4095 },
    lane 3 (be 4 4095 ++ List.replicate 12 3), (be 4 4095 ++ List.replicate 12 3), by decide +kernel⟩,
    ⟨dev.wr Reg.HMP_STATUS_interface 0 0 hmpReceiving, lane 4 [2, 0, 0, 0, 0, 0, 0, 9], [2, 0, 0, 0, 0, 0, 0, 9],
    by decide +kernel⟩,
    ⟨dev.wr Reg.HMP_STATUS_interface 0 0 hmpReceiving, lane 4 [3, 0, 0, 0, 0, 0, 0, 9], [3, 0, 0, 0, 0, 0, 0, 9],
    by decide +kernel⟩,
    ⟨dev.wr Reg.HMP_STATUS_interface 0 0 hmpReceiving, lane 4 [0, 0, 0, 0, 0, 0, 0, 9], [0, 0, 0, 0, 0, 0, 0, 9],
    by decide +kernel⟩,
    ⟨dev.wr Reg.HMP_STATUS_interface 0 0 hmpReceiving, [1, 2, 3, 4, 5, 6, 7], .hmpSnapshotRx [1, 2, 3, 4, 5, 6, 7],
    by decide +kernel⟩,
    ⟨dev.wr Reg.HMP_STATUS_interface 0 0 hmpReceiving, [1, 0, 0, 0, 5, 6, 7, 8], .hmpLogRx [1, 0, 0, 0, 5, 6, 7, 8],
    by decide +kernel⟩,
    ⟨(dev.wr Reg.HMP_STATUS_interface 0 0 hmpReceiving).setFaults fun q =>
    { q with laneErrors := List.replicate 16 999500000000 }, [1, 2, 3, 4, 5, 6, 7], by decide +kernel⟩,
    ⟨dev.arm .hmpPoll 1000000000000, by decide +kernel⟩,
    ⟨(((dev.wr Reg.HMP_STATUS_interface 0 0 hmpReceiving).wr Reg.TIME_QUALITY_state 0 0 tqLocked).wr Reg.HMP_ID_seal 0
    0 1).setTime fun x => { x with now := 3600000000000 }, by decide +kernel⟩,
    ⟨(dev.setHmp fun q => { q with request := 0x81 }).arm .hmpRequest 999999999999, by decide +kernel⟩,
    ⟨dev.arm .laneSilent 999999999999, by decide +kernel⟩⟩

theorem witness_HamperLeavesTheDie :
    ∃ (i : Instr) (s t : State), hamperDie i = true ∧ exec i s = .next t :=
  ⟨.tamper, metering, nextOf (exec .tamper metering), rfl, eq_nextOf (by decide +kernel)⟩

theorem witness_ColdResetsNameTheirCause :
    (∃ w : Nat, 10000 ≤ w)
    ∧ (∃ (s : State) (mv : Nat), mv < 1550 ∧ s.heldBy holdVio = false)
    ∧ (∃ (s : State) (r : Rail) (mv limit : Nat), ((r = .vcore ∧ limit = 800 ∨ r = .vddr ∧ limit = 950 ∨ r = .vafe ∧
      limit = 1600)) ∧ mv < limit ∧ s.power.mode ≠ pmOff ∧ s.heldBy holdRails = false)
    ∧ (∃ (s : State) (r : Rail) (mv limit : Nat), ((r = .vcore ∧ limit = 800 ∨ r = .vddr ∧ limit = 950 ∨ r = .vafe ∧
      limit = 1600)) ∧ mv < limit ∧ s.power.mode ≠ pmOff ∧ s.heldBy holdRails = false)
    ∧ (∃ (s : State) (r : Rail) (mv limit : Nat), ((r = .vcore ∧ limit = 800 ∨ r = .vddr ∧ limit = 950 ∨ r = .vafe ∧
      limit = 1600)) ∧ mv < limit ∧ s.power.mode ≠ pmOff ∧ s.heldBy holdRails = false)
    ∧ (∃ s : State, s.live = true ∧ s.reached .hostReset = true)
    ∧ (∃ (s : State) (tj : Int), 1300 ≤ tj ∧ s.heldBy holdJunction = false)
    ∧ (∃ s : State, s.live = true ∧ s.power.lowPower = true)
    ∧ (∃ (w mv limit : Nat) (tj : Int) (r : Rail) (i : Instr), w < 10000 ∧ 1550 ≤ mv ∧ tj < 1300 ∧ ((r.threshold = none
      ∨ r.threshold = some limit ∧ limit ≤ mv)) ∧ ((i = .porstN w ∨ i = .vioLow mv ∨ i = .thermalTrip tj ∨ i =
      .railUndervolt r mv)))
    ∧ (∃ (w mv limit : Nat) (tj : Int) (r : Rail) (i : Instr), w < 10000 ∧ 1550 ≤ mv ∧ tj < 1300 ∧ ((r.threshold = none
      ∨ r.threshold = some limit ∧ limit ≤ mv)) ∧ ((i = .porstN w ∨ i = .vioLow mv ∨ i = .thermalTrip tj ∨ i =
      .railUndervolt r mv))) :=
  ⟨⟨10000, by decide +kernel⟩,
    ⟨dev, 1549, by decide +kernel⟩,
    ⟨dev, .vcore, 799, 800, by decide +kernel⟩,
    ⟨dev, .vddr, 949, 950, by decide +kernel⟩,
    ⟨dev, .vafe, 1599, 1600, by decide +kernel⟩,
    ⟨dev.arm .hostReset 1000000000000, by decide +kernel⟩,
    ⟨dev, 1300, by decide +kernel⟩,
    ⟨powered (fun q => { q with lowPower := true }), by decide +kernel⟩,
    ⟨9999, 1550, 0, 1299, .vio, .porstN 9999, by decide +kernel⟩,
    ⟨9999, 1600, 1600, 1299, .vafe, .railUndervolt .vafe 1600, by decide +kernel⟩⟩

theorem witness_StartUpAndSuppliesComplete :
    (∃ s : State, s.rst.hold ≤ holdShort ∧ s.rst.ballsTaken = false ∧ s.rd Reg.BOOT_STATE_state = 0 ∧ s.rst.releasedAt
      + 5000000 ≤ s.now)
    ∧ (∃ s : State, s.rst.hold ≤ holdShort ∧ s.rst.ballsTaken = false ∧ s.rd Reg.BOOT_STATE_state = 0 ∧
      s.rst.releasedAt + 5000000 ≤ s.now)
    ∧ (∃ s : State, s.runs = true ∧ s.rst.pllLocked = true ∧ s.rst.dramWiped = false ∧ s.rst.convDone = false)
    ∧ (∃ s : State, s.runs = true ∧ s.rst.pllLocked = true ∧ s.rst.dramWiped = false ∧ s.rst.convDone = true ∧ s.rd
      Reg.BOOT_STATE_state = 3)
    ∧ (∃ (s : State) (mv : Nat), 1550 ≤ mv ∧ s.heldBy holdVio = true)
    ∧ (∃ s : State, s.heldBy holdRails = true)
    ∧ (∃ (s : State) (r : Rail) (mv : Nat), s.monitors = true ∧ r.inRange mv = false)
    ∧ (∃ (s : State) (mv : Nat), s.monitors = true ∧ (mv < 11000 ∨ 13200 < mv))
    ∧ (∃ (s : State) (mv : Nat), s.monitors = true ∧ s.power.vldBad = true ∧ 11400 ≤ mv ∧ mv ≤ 12600)
    ∧ (∃ (s : State) (tj : Int), s.runs = true ∧ s.heldBy holdJunction = false ∧ s.power.junction ≤ 1180 ∧ 1180 < tj ∧
      s.power.junction > 1100)
    ∧ (∃ (s : State) (tj : Int), s.runs = true ∧ s.heldBy holdJunction = false ∧ s.power.junction ≤ 1100 ∧ 1100 < tj ∧
      tj ≤ 1180)
    ∧ (∃ (s : State) (tj : Int), s.runs = true ∧ s.heldBy holdJunction = false ∧ tj ≤ 1100)
    ∧ (∃ (s : State) (tj : Int), s.heldBy holdJunction = true ∧ tj < 1000) :=
  ⟨⟨(dev.setRst fun r => { r with hold := holdShort, releasedAt := 999995000000 }).wr Reg.BOOT_STATE_state 0 0 0,
    by decide +kernel⟩,
    ⟨{ (dev.setRst fun r => { r with hold := holdShort, releasedAt := 999995000000 }).wr Reg.BOOT_STATE_state 0 0 0 with fuses := { dev.fuses with lifeCycle := 3 } },
    by decide +kernel⟩,
    ⟨dev.setRst fun r => { r with dramWiped := false, convDone := false }, by decide +kernel⟩,
    ⟨(dev.setRst fun r => { r with dramWiped := false, convDone := true }).wr Reg.BOOT_STATE_state 0 0 3,
    by decide +kernel⟩,
    ⟨dev.setRst fun r => { r with hold := holdVio }, 1550, by decide +kernel⟩,
    ⟨dev.setRst fun r => { r with hold := holdRails }, by decide +kernel⟩,
    ⟨dev, .vafe, 0, by decide +kernel⟩,
    ⟨dev, 13201, by decide +kernel⟩,
    ⟨powered fun q => { q with vldBad := true }, 11400, by decide +kernel⟩,
    ⟨powered fun q => { q with junction := 1180 }, 1181, by decide +kernel⟩,
    ⟨powered fun q => { q with junction := 1100 }, 1180, by decide +kernel⟩,
    ⟨dev, 1100, by decide +kernel⟩,
    ⟨dev.setRst fun r => { r with hold := holdJunction }, 999, by decide +kernel⟩⟩

theorem witness_ResetRequestHonoured :
    (∃ (s u : State) (r : IzReq) (x : Obj × Nat × List (Nat × Bytes)), s.takes r = true ∧ writes r 0x1603 = true ∧
      s.admitReq r = .accepted u ∧ u.checkWrite r = .ok x ∧ uAt r.data 0 4 = 0xB007)
    ∧ (∃ (s u : State) (r : IzReq) (x : Obj × Nat × List (Nat × Bytes)), s.takes r = true ∧ writes r 0x1603 = true ∧
      s.admitReq r = .accepted u ∧ u.checkWrite r = .ok x ∧ uAt r.data 0 4 ≠ 0xB007)
    ∧ (∃ s : State, s.live = true ∧ s.reached .hostReset = true) :=
  ⟨⟨opened, admitted opened (req opWrite 0x1603 0 [0, 0, 0xB0, 7]), req opWrite 0x1603 0 [0, 0, 0xB0, 7],
    (Reg.RESET_REQUEST, 0, [(0, [0, 0, 0xB0, 7])]), by decide +kernel, by decide +kernel, admits 2 (by decide +kernel)
    [1] (req_mac ..) (by decide +kernel) (by decide +kernel), ok_of (by decide +kernel), by decide +kernel⟩,
    ⟨opened, admitted opened (req opWrite 0x1603 0 [0, 0, 0xB0, 8]), req opWrite 0x1603 0 [0, 0, 0xB0, 8],
    (Reg.RESET_REQUEST, 0, [(0, [0, 0, 0xB0, 8])]), by decide +kernel, by decide +kernel, admits 2 (by decide +kernel)
    [1] (req_mac ..) (by decide +kernel) (by decide +kernel), ok_of (by decide +kernel), by decide +kernel⟩,
    ⟨dev.arm .hostReset 1000000000000, by decide +kernel⟩⟩

theorem witness_LifeCycleAndTapComplete :
    (∃ s : State, s.runs = true ∧ s.iz.active = none ∧ s.fuses.lifeCycle < 2 ∧ s.rd Reg.LC_STATE_request = 2)
    ∧ (∃ s : State, s.runs = true ∧ s.iz.active = none ∧ s.fuses.lifeCycle < 2 ∧ s.rd Reg.LC_STATE_request = 2)
    ∧ (∃ s : State, s.runs = true ∧ s.iz.active = none ∧ s.fuses.lifeCycle < 3 ∧ s.rd Reg.LC_STATE_request = 3)
    ∧ (∃ s : State, s.fuses.lifeCycle = 0)
    ∧ (∃ s : State, s.fuses.lifeCycle ≠ 0 ∧ s.rst.ballsTaken = false)
    ∧ (∃ s : State, s.fuses.lifeCycle = 0 ∧ ((s.rst.keyWord = none ∨ s.rst.keyWord.any (fun w => w / 2 ^ 256 == 0 ||
      decide (3 < w / 2 ^ 256)) = true)))
    ∧ (∃ (s : State) (w : Nat), s.fuses.lifeCycle = 0 ∧ s.rst.keyWord = some w ∧ 1 ≤ w / 2 ^ 256 ∧ w / 2 ^ 256 ≤ 3 ∧
      (s.fuses.roleKey (w / 2 ^ 256)).status = 0 ∧ w % 2 ^ 256 = 0)
    ∧ (∃ (s : State) (w role : Nat), s.fuses.lifeCycle = 0 ∧ s.rst.keyWord = some w ∧ w / 2 ^ 256 = role ∧ 1 ≤ role ∧
      role ≤ 3 ∧ (s.fuses.roleKey role).status = 0 ∧ w % 2 ^ 256 ≠ 0)
    ∧ (∃ (s : State) (w role : Nat), s.fuses.lifeCycle = 0 ∧ s.rst.keyWord = some w ∧ w / 2 ^ 256 = role ∧ 1 ≤ role ∧
      role ≤ 3 ∧ (s.fuses.roleKey role).status = 0 ∧ w % 2 ^ 256 ≠ 0)
    ∧ (∃ (s : State) (w : Nat), s.fuses.lifeCycle = 0 ∧ s.rst.keyWord = some w ∧ 1 ≤ w / 2 ^ 256 ∧ w / 2 ^ 256 ≤ 3 ∧
      (s.fuses.roleKey (w / 2 ^ 256)).status ≠ 0)
    ∧ (∃ s : State, s.fuses.lifeCycle ≠ 0)
    ∧ (∃ s : State, s.fuses.lifeCycle = 0 ∧ s.fuses.engineer.status = 1)
    ∧ (∃ s : State, s.fuses.engineer.status ≠ 1 ∨ s.fuses.lifeCycle ≠ 0)
    ∧ (∃ (i : Instr) (s : State) (code : Nat), ((i = .extest ∧ code = tapExtest ∨ i = .samplePreload ∧ code = tapSample
      ∨ i = .extestPulse ∧ code = tapPulse ∨ i = .extestTrain ∧ code = tapTrain ∨ i = .highz ∧ code = tapHighz ∨ i =
      .clampBalls ∧ code = tapClamp ∨ i = .bypass ∧ code = tapBypass)) ∧ s.rst.ballsTaken = false ∧ s.tapAvailable code
      = true)
    ∧ (∃ (i : Instr) (s : State) (code : Nat), ((i = .extest ∧ code = tapExtest ∨ i = .samplePreload ∧ code = tapSample
      ∨ i = .extestPulse ∧ code = tapPulse ∨ i = .extestTrain ∧ code = tapTrain ∨ i = .highz ∧ code = tapHighz ∨ i =
      .clampBalls ∧ code = tapClamp ∨ i = .bypass ∧ code = tapBypass)) ∧ s.rst.ballsTaken = false ∧ s.tapAvailable code
      = true)
    ∧ (∃ (i : Instr) (s : State) (code : Nat), ((i = .extest ∧ code = tapExtest ∨ i = .samplePreload ∧ code = tapSample
      ∨ i = .extestPulse ∧ code = tapPulse ∨ i = .extestTrain ∧ code = tapTrain ∨ i = .highz ∧ code = tapHighz ∨ i =
      .clampBalls ∧ code = tapClamp ∨ i = .bypass ∧ code = tapBypass)) ∧ s.rst.ballsTaken = false ∧ s.tapAvailable code
      = true)
    ∧ (∃ (i : Instr) (s : State) (code : Nat), ((i = .extest ∧ code = tapExtest ∨ i = .samplePreload ∧ code = tapSample
      ∨ i = .extestPulse ∧ code = tapPulse ∨ i = .extestTrain ∧ code = tapTrain ∨ i = .highz ∧ code = tapHighz ∨ i =
      .clampBalls ∧ code = tapClamp ∨ i = .bypass ∧ code = tapBypass)) ∧ s.rst.ballsTaken = false ∧ s.tapAvailable code
      = true)
    ∧ (∃ (i : Instr) (s : State) (code : Nat), ((i = .extest ∧ code = tapExtest ∨ i = .samplePreload ∧ code = tapSample
      ∨ i = .extestPulse ∧ code = tapPulse ∨ i = .extestTrain ∧ code = tapTrain ∨ i = .highz ∧ code = tapHighz ∨ i =
      .clampBalls ∧ code = tapClamp ∨ i = .bypass ∧ code = tapBypass)) ∧ s.rst.ballsTaken = false ∧ s.tapAvailable code
      = true)
    ∧ (∃ (i : Instr) (s : State) (code : Nat), ((i = .extest ∧ code = tapExtest ∨ i = .samplePreload ∧ code = tapSample
      ∨ i = .extestPulse ∧ code = tapPulse ∨ i = .extestTrain ∧ code = tapTrain ∨ i = .highz ∧ code = tapHighz ∨ i =
      .clampBalls ∧ code = tapClamp ∨ i = .bypass ∧ code = tapBypass)) ∧ s.rst.ballsTaken = false ∧ s.tapAvailable code
      = true)
    ∧ (∃ (i : Instr) (s : State) (code : Nat), ((i = .extest ∧ code = tapExtest ∨ i = .samplePreload ∧ code = tapSample
      ∨ i = .extestPulse ∧ code = tapPulse ∨ i = .extestTrain ∧ code = tapTrain ∨ i = .highz ∧ code = tapHighz ∨ i =
      .clampBalls ∧ code = tapClamp ∨ i = .bypass ∧ code = tapBypass)) ∧ s.rst.ballsTaken = false ∧ s.tapAvailable code
      = true)
    ∧ (∃ (i : Instr) (s : State) (code : Nat), ((i = .extest ∧ code = tapExtest ∨ i = .samplePreload ∧ code = tapSample
      ∨ i = .extestPulse ∧ code = tapPulse ∨ i = .extestTrain ∧ code = tapTrain ∨ i = .highz ∧ code = tapHighz ∨ i =
      .clampBalls ∧ code = tapClamp ∨ i = .bypass ∧ code = tapBypass)) ∧ s.rst.ballsTaken = false ∧ s.tapAvailable code
      = false)
    ∧ (∃ (i : Instr) (s : State) (code : Nat), ((i = .extest ∧ code = tapExtest ∨ i = .samplePreload ∧ code = tapSample
      ∨ i = .extestPulse ∧ code = tapPulse ∨ i = .extestTrain ∧ code = tapTrain ∨ i = .highz ∧ code = tapHighz ∨ i =
      .clampBalls ∧ code = tapClamp ∨ i = .bypass ∧ code = tapBypass)) ∧ s.rst.ballsTaken = true ∧ s.rst.instruction ≠
      (if s.tapAvailable code then code else tapBypass))
    ∧ (∃ s : State, s.rst.ballsTaken = true)
    ∧ (∃ s : State, s.rst.ballsTaken = false)
    ∧ (∃ s : State, s.rst.ballsTaken = false)
    ∧ (∃ s : State, s.rst.ballsTaken = true ∧ s.rst.instruction ≠ tapIdcode) :=
  ⟨⟨dev.wr Reg.LC_STATE_request 0 0 2, by decide +kernel⟩,
    ⟨dev.wr Reg.LC_STATE_request 0 0 2, by decide +kernel⟩,
    ⟨{ (dev.wr Reg.LC_STATE_request 0 0 3) with fuses := { dev.fuses with lifeCycle := 2 } }, by decide +kernel⟩,
    ⟨{ dev with fuses := { dev.fuses with lifeCycle := 0 } }, by decide +kernel⟩,
    ⟨dev, by decide +kernel⟩,
    ⟨{ dev with fuses := { dev.fuses with lifeCycle := 0 } }, by decide +kernel⟩,
    ⟨({ dev with fuses := { dev.fuses with lifeCycle := 0 } } : State).setRst fun r =>
    { r with keyWord := some (2 * 2 ^ 256) }, 2 * 2 ^ 256, by decide +kernel⟩,
    ⟨({ dev with fuses := { dev.fuses with lifeCycle := 0 } } : State).setRst fun r =>
    { r with keyWord := some (3 * 2 ^ 256 + 5) }, 3 * 2 ^ 256 + 5, 3, by decide +kernel⟩,
    ⟨({ dev with fuses := { dev.fuses with lifeCycle := 0 } } : State).setRst fun r =>
    { r with keyWord := some (3 * 2 ^ 256 + 5) }, 3 * 2 ^ 256 + 5, 3, by decide +kernel⟩,
    ⟨({ dev with fuses := { dev.fuses with lifeCycle := 0, engineer := { status := 2 } } } : State).setRst fun r =>
    { r with keyWord := some (2 * 2 ^ 256 + 5) }, 2 * 2 ^ 256 + 5, by decide +kernel⟩,
    ⟨dev, by decide +kernel⟩,
    ⟨{ dev with fuses := { dev.fuses with lifeCycle := 0, engineer := { status := 1 } } }, by decide +kernel⟩,
    ⟨dev, by decide +kernel⟩,
    ⟨.extest, { dev with fuses := { dev.fuses with lifeCycle := 0 } }, tapExtest, by decide +kernel⟩,
    ⟨.samplePreload, { dev with fuses := { dev.fuses with lifeCycle := 0 } }, tapSample, by decide +kernel⟩,
    ⟨.extestPulse, { dev with fuses := { dev.fuses with lifeCycle := 0 } }, tapPulse, by decide +kernel⟩,
    ⟨.extestTrain, { dev with fuses := { dev.fuses with lifeCycle := 1 } }, tapTrain, by decide +kernel⟩,
    ⟨.highz, { dev with fuses := { dev.fuses with lifeCycle := 0 } }, tapHighz, by decide +kernel⟩,
    ⟨.clampBalls, { dev with fuses := { dev.fuses with lifeCycle := 0 } }, tapClamp, by decide +kernel⟩,
    ⟨.bypass, { dev with fuses := { dev.fuses with lifeCycle := 3 } }, tapBypass, by decide +kernel⟩,
    ⟨.samplePreload, { dev with fuses := { dev.fuses with lifeCycle := 2, rws := [⟨1, [], crc32 [1]⟩] } }, tapSample,
    by decide +kernel⟩,
    ⟨.highz,
    { dev with fuses := { dev.fuses with lifeCycle := 0 }, rst := { dev.rst with ballsTaken := true, ballsBy := tapClamp, instruction := tapClamp } },
    tapHighz, by decide +kernel⟩,
    ⟨dev.setRst fun r => { r with ballsTaken := true, ballsBy := 4, instruction := tapHighz }, by decide +kernel⟩,
    ⟨dev, by decide +kernel⟩,
    ⟨dev, by decide +kernel⟩,
    ⟨dev.setRst fun r => { r with ballsTaken := true, ballsBy := 4, instruction := tapHighz }, by decide +kernel⟩⟩

end Sys2Proof.Tests
end

section
/-! The event merger's release (R44, R45): the order of `sortRecs`, the records a delivery sends, and MERGE_RELEASE. -/

namespace Sys2Proof.Machine

/-! ## Insertion in delivery order -/

/-- a may leave before b: the lower stamp, or the same stamp and a source that is not higher (R44, R45). -/
def Rec.InOrder (a b : Rec) : Prop := a.stamp < b.stamp ∨ (a.stamp = b.stamp ∧ a.source ≤ b.source)

/-- A record goes before another just when the other may not leave before it. -/
theorem Rec.before_iff_not_inOrder (a b : Rec) : a.before b = true ↔ ¬ b.InOrder a := by
  simp only [Rec.before, Rec.InOrder, Stamp, decide_eq_true_eq]; omega

theorem Rec.inOrder_of_before {a b : Rec} (h : a.before b = true) : a.InOrder b := by
  simp only [Rec.before, Rec.InOrder, Stamp, decide_eq_true_eq] at h ⊢; omega

theorem Rec.before_of_before_of_inOrder {a b c : Rec} (h : a.before b = true) (k : b.InOrder c) :
    a.before c = true := by
  simp only [Rec.before, Rec.InOrder, Stamp, decide_eq_true_eq] at h k ⊢; omega

/-- Where a record lands in an ordered list: behind the records that may leave before it, in front of those it goes
before. The order, the contents and the stability of `sortRecs` all follow from this cut. -/
theorem insertRec_eq_append (r : Rec) {l : List Rec} (h : l.Pairwise Rec.InOrder) :
    ∃ front back, l = front ++ back ∧ insertRec r l = front ++ r :: back
      ∧ (∀ x ∈ front, x.InOrder r) ∧ ∀ x ∈ back, r.before x = true := by
  induction l with
  | nil => exact ⟨[], [], rfl, rfl, by simp, by simp⟩
  | cons x l ih =>
    obtain ⟨hx, hl⟩ := List.pairwise_cons.mp h
    by_cases hr : r.before x = true
    · refine ⟨[], x :: l, rfl, by simp [insertRec, hr], by simp, fun y hy => ?_⟩
      rcases List.mem_cons.mp hy with rfl | hy
      · exact hr
      · exact Rec.before_of_before_of_inOrder hr (hx y hy)
    · obtain ⟨front, back, hcut, hins, hfront, hback⟩ := ih hl
      have hxr : x.InOrder r := not_not.mp (mt (r.before_iff_not_inOrder x).mpr hr)
      exact ⟨x :: front, back, by rw [hcut, List.cons_append], by simp [insertRec, hr, hins],
        List.forall_mem_cons.mpr ⟨hxr, hfront⟩, hback⟩

theorem insertRec_perm (r : Rec) {l : List Rec} (h : l.Pairwise Rec.InOrder) : (insertRec r l).Perm (r :: l) := by
  obtain ⟨front, back, rfl, hins, -, -⟩ := insertRec_eq_append r h
  exact hins ▸ List.perm_middle

theorem insertRec_pairwise (r : Rec) {l : List Rec} (h : l.Pairwise Rec.InOrder) :
    (insertRec r l).Pairwise Rec.InOrder := by
  obtain ⟨front, back, rfl, hins, hfront, hback⟩ := insertRec_eq_append r h
  obtain ⟨hf, hb, hfb⟩ := List.pairwise_append.mp h
  rw [hins, List.pairwise_append, List.pairwise_cons]
  exact ⟨hf, ⟨fun x hx => Rec.inOrder_of_before (hback x hx), hb⟩,
    fun x hx => List.forall_mem_cons.mpr ⟨hfront x hx, hfb x hx⟩⟩

/-! ## Records in delivery order (R45) -/

theorem sortRecs_concat (l : List Rec) (r : Rec) : sortRecs (l ++ [r]) = insertRec r (sortRecs l) := by
  simp [sortRecs, List.foldl_append]

theorem sortRecs_pairwise (l : List Rec) : (sortRecs l).Pairwise Rec.InOrder := by
  induction l using List.reverseRecOn with
  | nil => exact List.Pairwise.nil
  | append_singleton l r ih => exact sortRecs_concat l r ▸ insertRec_pairwise r ih

theorem sortRecs_perm (l : List Rec) : (sortRecs l).Perm l := by
  induction l using List.reverseRecOn with
  | nil => exact List.Perm.nil
  | append_singleton l r ih =>
    rw [sortRecs_concat]
    exact ((insertRec_perm r (sortRecs_pairwise l)).trans (ih.cons r)).trans (List.perm_append_singleton r l).symm

/-- r bears this stamp and this source. -/
def Rec.hasKey (stamp : Stamp) (source : Nat) (r : Rec) : Bool := r.stamp == stamp && r.source == source

/-- A record that goes before another differs from it in stamp or source. -/
theorem Rec.hasKey_eq_false_of_before {stamp : Stamp} {source : Nat} {r x : Rec} (hr : r.hasKey stamp source = true)
    (h : r.before x = true) : x.hasKey stamp source = false := by
  simp only [Rec.hasKey, Rec.before, Stamp, Bool.and_eq_true, beq_iff_eq, decide_eq_true_eq, Bool.and_eq_false_iff,
    beq_eq_false_iff_ne] at hr h ⊢
  omega

/-- A record goes behind the records inserted before it that have its stamp and source. -/
theorem filter_hasKey_insertRec (stamp : Stamp) (source : Nat) (r : Rec) {l : List Rec}
    (h : l.Pairwise Rec.InOrder) :
    (insertRec r l).filter (Rec.hasKey stamp source) = (l ++ [r]).filter (Rec.hasKey stamp source) := by
  obtain ⟨front, back, rfl, hins, -, hback⟩ := insertRec_eq_append r h
  rw [hins]
  by_cases hr : r.hasKey stamp source = true
  · have hnone : back.filter (Rec.hasKey stamp source) = [] := List.filter_eq_nil_iff.mpr fun x hx => by
      simp [Rec.hasKey_eq_false_of_before hr (hback x hx)]
    simp [hr, hnone]
  · simp [hr]

/-- Records of one stamp and one source keep the order in which they came. -/
theorem filter_hasKey_sortRecs (stamp : Stamp) (source : Nat) (l : List Rec) :
    (sortRecs l).filter (Rec.hasKey stamp source) = l.filter (Rec.hasKey stamp source) := by
  induction l using List.reverseRecOn with
  | nil => rfl
  | append_singleton l r ih =>
    rw [sortRecs_concat, filter_hasKey_insertRec stamp source r (sortRecs_pairwise l), List.filter_append, ih,
      ← List.filter_append]

/-! ## The records that leave the block (R44) -/

/-- Parcels sent are no event records. -/
theorem OnlyParcels.eventsOf_eq {s t : State} (h : OnlyParcels s t) : eventsOf t.out = eventsOf s.out := by
  obtain ⟨l, hl, hparcel⟩ := h
  have hnone : eventsOf l = [] := List.filterMap_eq_nil_iff.mpr fun o ho => by
    obtain ⟨x, p, rfl⟩ := hparcel o ho; rfl
  rw [hl, eventsOf, List.filterMap_append]
  exact congrArg (· ++ eventsOf s.out) hnone

@[simp] theorem State.eventsOf_deliver (s : State) (r : Rec) :
    eventsOf (s.deliver r).out = r :: eventsOf s.out := by
  unfold State.deliver
  dsimp only
  rw [(State.sendHost_onlyParcels _ _ _ _ _).eventsOf_eq]
  split_ifs <;> rfl

@[simp] theorem State.deliver_held (s : State) (r : Rec) : (s.deliver r).merge.held = s.merge.held := by
  unfold State.deliver
  dsimp only
  rw [State.sendHost_merge]
  split_ifs <;> rfl

theorem State.eventsOf_deliverAll (s : State) (l : List Rec) :
    eventsOf (s.deliverAll l).out = l.reverse ++ eventsOf s.out := by
  induction l generalizing s with
  | nil => rfl
  | cons r l ih =>
    calc eventsOf ((s.deliver r).deliverAll l).out
        = l.reverse ++ eventsOf (s.deliver r).out := ih (s.deliver r)
      _ = (r :: l).reverse ++ eventsOf s.out := by simp

theorem State.deliverAll_held (s : State) (l : List Rec) : (s.deliverAll l).merge.held = s.merge.held :=
  foldl_keeps (fun s => s.merge.held) State.deliver_held l s

/-! ## MERGE_RELEASE (R44, R45) -/

theorem exec_mergeRelease (s : State) : exec .mergeRelease s = execMergeRelease s := rfl

/-- Settles O14: the records released leave in the order of `sortRecs`, which is ordered, has the same records, and
keeps the order of records equal in stamp and source. -/
theorem releaseInStampOrder : Obligations.ReleaseInStampOrder := by
  intro s hruns hready
  refine ⟨_, (exec_mergeRelease s).trans (guarded_pos s ⟨hruns, hready⟩), ?_, sortRecs s.releasable, ?_,
    sortRecs_perm s.releasable, sortRecs_pairwise s.releasable,
    fun stamp source => filter_hasKey_sortRecs stamp source s.releasable⟩
  · rw [State.keep_merge, State.deliverAll_held, State.setMerge_merge]
  · rw [State.keep_out, State.eventsOf_deliverAll, State.setMerge_out]

end Sys2Proof.Machine
end

section
/-! The arming of an itinerary (R328 to R330): the cycles the switch instant lies after the base, and ITIN_ARM. -/

namespace Sys2Proof.Machine

/-! ## The smallest k of R330 -/

theorem advance_of_le {base d : Int} (cycle : Int) (h : d + 1000000 ≤ base) : advance base cycle d = 0 := if_pos h

theorem advance_of_lt {base d : Int} (cycle : Int) (h : base < d + 1000000) :
    advance base cycle d = (d + 1000000 - base + cycle - 1) / cycle := if_neg (not_le.mpr h)

theorem advance_nonneg {cycle : Int} (base d : Int) (hc : 1 ≤ cycle) : 0 ≤ advance base cycle d := by
  rcases le_or_gt (d + 1000000) base with h | h
  · exact (advance_of_le cycle h).ge
  · rw [advance_of_lt cycle h]
    exact Int.ediv_nonneg (by omega) (by omega)

/-- The base and k cycles lie at least 1 ms after D. -/
theorem le_base_add_advance {cycle : Int} (base d : Int) (hc : 1 ≤ cycle) :
    d + 1000000 ≤ base + advance base cycle d * cycle := by
  rcases le_or_gt (d + 1000000) base with h | h
  · simpa [advance_of_le cycle h] using h
  · have hlt := Int.lt_ediv_add_one_mul_self (d + 1000000 - base + cycle - 1) (by omega : 0 < cycle)
    rw [advance_of_lt cycle h]
    linarith

/-- No smaller k would do: k is 0, or the instant one cycle earlier lies less than 1 ms after D. -/
theorem advance_minimal {cycle : Int} (base d : Int) (hc : 1 ≤ cycle) :
    advance base cycle d = 0 ∨ base + advance base cycle d * cycle - cycle < d + 1000000 := by
  rcases le_or_gt (d + 1000000) base with h | h
  · exact .inl (advance_of_le cycle h)
  · have hle := Int.ediv_mul_le (d + 1000000 - base + cycle - 1) (by omega : cycle ≠ 0)
    rw [advance_of_lt cycle h]
    exact .inr (by linarith)

/-! ## Objects of one index -/

/-- Subindexes of one index keep their values apart. -/
theorem State.rd_wr_sub (s : State) {o q : Obj} (p : Nat) (v : Int) (hi : q.index = o.index) (hstep : q.step = o.step)
    (hs : q.sub ≠ o.sub) : (s.wr o p 0 v).rd q p = s.rd q p := by
  refine State.rd_wr_other s v ?_
  rw [Obj.key, Obj.key, hi, hstep]
  omega

/-! ## ITIN_ARM (R328 to R330) -/

/-- ITIN_CTL of an armed itinerary: its switch instant, and the k cycles by which its base was advanced. -/
def State.armSwitch (s : State) (p : Port) (switch k : Int) : State :=
  ((((s.setPort p fun q => { q with armedAt := none }).wr Reg.ITIN_CTL_switch p 0 switch).wr
    Reg.ITIN_CTL_BASE_ADVANCED p 0 (b2i (decide (k ≠ 0)))).wr Reg.ITIN_CTL_advance p 0 k).wr Reg.ITIN_CTL_state p 0 1

section
variable (s : State) (p : Port) (switch k : Int)

@[simp] theorem State.armedAt_armSwitch : ((s.armSwitch p switch k).port p).armedAt = none := by
  simp [State.armSwitch]

@[simp] theorem State.rd_state_armSwitch : (s.armSwitch p switch k).rd Reg.ITIN_CTL_state p = 1 :=
  State.rd_wr_self _ _ _ _ _

@[simp] theorem State.rd_advance_armSwitch : (s.armSwitch p switch k).rd Reg.ITIN_CTL_advance p = k := by
  simp (disch := decide) only [State.armSwitch, State.rd_wr_sub, State.rd_wr_self]

@[simp] theorem State.rd_baseAdvanced_armSwitch :
    (s.armSwitch p switch k).rd Reg.ITIN_CTL_BASE_ADVANCED p = if k = 0 then 0 else 1 := by
  simp (disch := decide) [State.armSwitch, State.rd_wr_sub, b2i]

@[simp] theorem State.rd_switch_armSwitch : (s.armSwitch p switch k).rd Reg.ITIN_CTL_switch p = switch := by
  simp (disch := decide) only [State.armSwitch, State.rd_wr_sub, State.rd_wr_self]

end

/-- The pending itinerary's base, advanced by the smallest k, is the switch instant. -/
theorem exec_itinArm {s : State} {p : Port} {d base cycle : Int} (hruns : s.runs = true)
    (harm : s.flag Reg.ITIN_CTL_arm p = true) (hd : (s.port p).armedAt = some d)
    (hbase : s.rd Reg.ITIN_PEND_base p = base) (hcycle : s.rd Reg.ITIN_PEND_cycle p = cycle) (hc : 1 ≤ cycle) :
    exec (.itinArm p) s
      = .next ((s.armSwitch p (base + advance base cycle d * cycle) (advance base cycle d)).keep s) := by
  have hexec : exec (.itinArm p) s = execItinArm p s := rfl
  rw [hexec, execItinArm, hd]
  dsimp only
  rw [guarded_pos s ⟨hruns, harm⟩, hbase, hcycle, max_eq_right hc, State.armSwitch]

/-- Settles O33: the three objects written hold `advance`, the smallest number of cycles that takes the base to 1 ms
after the commit, the instant it gives, and whether it is not 0. -/
theorem switchInstant : Obligations.SwitchInstant := by
  intro s p d hruns harm hd hc
  refine ⟨_, exec_itinArm hruns harm hd rfl rfl hc, ?_⟩
  simp only [State.rd_keep, State.port_keep, State.armedAt_armSwitch, State.rd_state_armSwitch,
    State.rd_advance_armSwitch, State.rd_baseAdvanced_armSwitch, State.rd_switch_armSwitch, true_and, and_true]
  exact ⟨advance_nonneg _ d hc, le_base_add_advance _ d hc, advance_minimal _ d hc⟩

end Sys2Proof.Machine
end

section
/-! The credit of a shaper (R363): what the frames taken at a refill tick leave of the shapers' numbers, and
REFILL_TICK. -/

namespace Sys2Proof.Machine

/-! ## A part of a store -/

/-- A write under a key that P leaves out does not change the part of a store under the keys of P. -/
theorem Store.filter_put_other {β : Type} [DecidableEq β] (d : β) {P : Nat → Bool} {k : Nat} (hk : P k = false) (v : β)
    (l : List (Nat × β)) : (Store.put d l k v).filter (fun e => P e.1) = l.filter fun e => P e.1 := by
  have hplace (l : List (Nat × β)) : (Store.place k v l).filter (fun e => P e.1) = l.filter fun e => P e.1 := by
    induction l with
    | nil => simp [Store.place, hk]
    | cons e l ih =>
      unfold Store.place
      split
      · exact List.filter_cons_of_neg (by simp [hk])
      · simp only [List.filter_cons, ih]
  have hfilter : (l.filter fun e => decide (e.1 ≠ k)).filter (fun e => P e.1) = l.filter fun e => P e.1 := by
    rw [List.filter_filter]
    refine List.filter_congr fun e _ => ?_
    have : P e.1 = true → e.1 ≠ k := fun h he => by simp [he, hk] at h
    simpa using this
  unfold Store.put
  dsimp only
  split
  · exact hfilter
  · exact (hplace _).trans hfilter

theorem Store.get_filter {β : Type} (d : β) {P : Nat → Bool} {k : Nat} (hk : P k = true) (l : List (Nat × β)) :
    Store.get d (l.filter fun e => P e.1) k = Store.get d l k := by
  induction l with
  | nil => rfl
  | cons e l ih =>
    by_cases he : P e.1 = true
    · rw [List.filter_cons, if_pos he, Store.get, Store.get, ih]
    · have hne : k ≠ e.1 := fun h => he (h ▸ hk)
      rw [List.filter_cons, if_neg he, ih, Store.get, if_neg hne]

/-- What reads other than the default has an entry. -/
theorem Store.exists_mem_of_get_ne {β : Type} {d : β} {l : List (Nat × β)} {k : Nat} (h : Store.get d l k ≠ d) :
    ∃ e ∈ l, e.1 = k := by
  induction l with
  | nil => exact absurd rfl h
  | cons e l ih =>
    by_cases he : k = e.1
    · exact ⟨e, List.mem_cons_self, he.symm⟩
    · rw [Store.get, if_neg he] at h
      obtain ⟨x, hx, hkey⟩ := ih h
      exact ⟨x, List.mem_cons_of_mem _ hx, hkey⟩

/-! ## Fields of a control part -/

theorem ofBe_lt (b : Bytes) : ofBe b < 256 ^ b.length := by
  induction b using List.reverseRecOn with
  | nil => simp [ofBe]
  | append_singleton b x ih =>
    have hx := x.isLt
    have hcat : ofBe (b ++ [x]) = ofBe b * 256 + x.toNat := by simp [ofBe]
    rw [hcat, List.length_append, List.length_singleton, pow_succ]
    omega

theorem uAt_lt (b : Bytes) (i n : Nat) : uAt b i n < 256 ^ n :=
  (ofBe_lt _).trans_le (Nat.pow_le_pow_right (by decide) (List.length_take_le _ _))

theorem fcQueue_lt (c : Bytes) : fcQueue c < 65536 := uAt_lt c 2 2

theorem fcMeterDown_lt (c : Bytes) : fcMeterDown c < 65536 := uAt_lt c 4 2

theorem fcMeterUp_lt (c : Bytes) : fcMeterUp c < 65536 := uAt_lt c 6 2

/-! ## What the shapers read -/

/-- The key of a number of the shapers (Table 8.3). -/
def ofShaper (k : Nat) : Bool := k / 268435456 == 0x4200

/-- What the shapers read of a state: station time, what the ports send, and the numbers of Table 8.3. -/
def State.shaperView (s : State) : TimeState × Vector PortState 32 × List (Nat × Int) :=
  (s.time, s.ports, s.regs.filter fun e => ofShaper e.1)

theorem ofShaper_key {o : Obj} (hi : o.index = 0x4200) (hs : o.sub < 256) {e : Nat} (he : e < 1048576) :
    ofShaper (o.key 0 e) = true := by
  simp only [ofShaper, Obj.key, beq_iff_eq]
  omega

/-- An element of another index is no number of the shapers. -/
theorem ofShaper_key_other {o : Obj} (hi : o.index ≠ 0x4200) (hs : o.sub < 256) {e : Nat} (he : e < 1048576) :
    ofShaper (o.key 0 e) = false := by
  simp only [ofShaper, Obj.key, beq_eq_false_iff_ne]
  omega

section
variable {s t : State}

theorem State.shaperView_congr (hr : t.regs = s.regs) (ht : t.time = s.time) (hp : t.ports = s.ports) :
    t.shaperView = s.shaperView := by
  rw [State.shaperView, State.shaperView, hr, ht, hp]

theorem State.time_of_shaperView (h : t.shaperView = s.shaperView) : t.time = s.time := congrArg (·.1) h

theorem State.ports_of_shaperView (h : t.shaperView = s.shaperView) : t.ports = s.ports := congrArg (·.2.1) h

theorem State.regs_of_shaperView (h : t.shaperView = s.shaperView) :
    (t.regs.filter fun e => ofShaper e.1) = s.regs.filter fun e => ofShaper e.1 := congrArg (·.2.2) h

theorem State.rd_of_shaperView (h : t.shaperView = s.shaperView) {o : Obj} (hi : o.index = 0x4200) (hs : o.sub < 256)
    {q : Nat} (hq : q < 1048576) : t.rd o 0 q = s.rd o 0 q := by
  have hk := ofShaper_key hi hs hq
  rw [State.rd, State.rd, ← Store.get_filter 0 hk t.regs, State.regs_of_shaperView h, Store.get_filter 0 hk]

theorem State.crossing_of_shaperView (h : t.shaperView = s.shaperView) (q : Nat) : t.crossing q = s.crossing q := by
  have hport : t.port (queuePort q) = s.port (queuePort q) := by
    rw [State.port, State.port, State.ports_of_shaperView h]
  rw [State.crossing, State.crossing, hport, State.now_congr (State.time_of_shaperView h)]

end

section
variable (s : State)

theorem State.shaperView_wr {o : Obj} {p e : Nat} (v : Int) (h : ofShaper (o.key p e) = false) :
    (s.wr o p e v).shaperView = s.shaperView := by
  rw [State.shaperView, State.wr_time, State.wr_ports, State.wr, Store.filter_put_other 0 h, State.shaperView]

theorem State.shaperView_inc {o : Obj} {p e : Nat} (h : ofShaper (o.key p e) = false) :
    (s.inc o p e).shaperView = s.shaperView := State.shaperView_wr s _ h

@[simp] theorem State.shaperView_setQm (f : QmState → QmState) : (s.setQm f).shaperView = s.shaperView := rfl

@[simp] theorem State.shaperView_setIz (f : IzState → IzState) : (s.setIz f).shaperView = s.shaperView := rfl

@[simp] theorem State.shaperView_setLink (x : Side) (f : PfState → PfState) :
    (s.setLink x f).shaperView = s.shaperView := rfl

@[simp] theorem State.shaperView_setFifo (x : Side) (vc : Nat) (l : List HostFrame) :
    (s.setFifo x vc l).shaperView = s.shaperView := rfl

@[simp] theorem State.shaperView_useLine (l : CacheLine) : (s.useLine l).shaperView = s.shaperView := rfl

@[simp] theorem State.shaperView_setFlowState (f : Nat) (b : Bytes) :
    (s.setFlowState f b).shaperView = s.shaperView :=
  State.shaperView_congr (by simp) (by simp) (by simp)

@[simp] theorem State.shaperView_bumpFlow (f i n k : Nat) : (s.bumpFlow f i n k).shaperView = s.shaperView :=
  State.shaperView_setFlowState s _ _

@[simp] theorem State.shaperView_downDrop (f : Nat) : (s.downDrop f).shaperView = s.shaperView :=
  State.shaperView_bumpFlow s _ _ _ _

@[simp] theorem State.shaperView_upDrop (f : Nat) : (s.upDrop f).shaperView = s.shaperView :=
  State.shaperView_bumpFlow s _ _ _ _

/-! ### Sending towards the host -/

@[simp] theorem State.shaperView_sendNow (x : Side) (p : Parcel) : (s.sendNow x p).shaperView = s.shaperView :=
  State.shaperView_congr (by simp) (by simp) (by simp)

@[simp] theorem State.shaperView_stall (x : Side) (vc : Nat) : (s.stall x vc).shaperView = s.shaperView := by
  have hkey : ofShaper (Reg.PF_PORT_CREDIT_STALLS.key x.n 0) = false := by cases x <;> decide
  unfold State.stall
  split
  · rfl
  · rw [State.shaperView_inc _ hkey, State.shaperView_setLink]

@[simp] theorem State.shaperView_trySend (x : Side) (p : Parcel) : (s.trySend x p).shaperView = s.shaperView := by
  unfold State.trySend
  dsimp only
  split_ifs <;> simp

@[simp] theorem State.shaperView_drainFifo (x : Side) (vc : Nat) : (s.drainFifo x vc).shaperView = s.shaperView := by
  unfold State.drainFifo
  refine foldl_keeps State.shaperView (fun s f => ?_) _ s
  dsimp only
  split_ifs <;> simp

@[simp] theorem State.shaperView_drain (x : Side) : (s.drain x).shaperView = s.shaperView := by
  unfold State.drain
  dsimp only
  split
  · rfl
  · rw [foldl_keeps State.shaperView fun s vc => s.shaperView_drainFifo x vc,
      foldl_keeps State.shaperView fun s p => s.shaperView_trySend x p, State.shaperView_setLink]

@[simp] theorem State.shaperView_toHost (vc : Nat) (f : HostFrame) : (s.toHost vc f).shaperView = s.shaperView := by
  have hkey (x : Side) : ofShaper ((hbDropped x).key vc 0) = false := by
    cases x <;> simp only [hbDropped, ofShaper, Obj.key, Reg.HB_VC_UP_DROPPED, Reg.HB_VC_DOWN_DROPPED,
      beq_eq_false_iff_ne] <;> omega
  unfold State.toHost
  dsimp only
  split
  · rw [State.shaperView_inc _ (hkey _), State.shaperView_upDrop]
  · simp

/-! ### Meters and queues -/

theorem State.shaperView_meterFill {m : Nat} (hm : m < 65536) : (s.meterFill m).shaperView = s.shaperView := by
  have hm' : m < 1048576 := by omega
  unfold State.meterFill
  dsimp only
  rw [State.shaperView_setQm, State.shaperView_wr _ _ (ofShaper_key_other (by decide) (by decide) hm'),
    State.shaperView_wr _ _ (ofShaper_key_other (by decide) (by decide) hm')]

theorem State.shaperView_meterFrame {m : Nat} (hm : m < 65536) (host : Bool) (pre length : Nat) :
    (s.meterFrame m host pre length).2.2.shaperView = s.shaperView := by
  have hm' : m < 1048576 := by omega
  have hkey (o : Obj) (hi : o.index = 0x4300) (hs : o.sub < 256) : ofShaper (o.key 0 m) = false :=
    ofShaper_key_other (by omega) hs hm'
  unfold State.meterFrame
  dsimp only
  rw [State.shaperView_inc _ (hkey _ (by split_ifs <;> rfl) (by split_ifs <;> decide))]
  split_ifs <;> simp only [State.shaperView_wr _ _ (hkey Reg.METER_Tc rfl (by decide)),
    State.shaperView_wr _ _ (hkey Reg.METER_Tp rfl (by decide)), State.shaperView_meterFill s hm]

theorem State.shaperView_setQueue {q : Nat} (hq : q < 65536) (l : List QFrame) :
    (s.setQueue q l).shaperView = s.shaperView := by
  unfold State.setQueue
  dsimp only
  split
  · exact State.shaperView_wr _ _ (ofShaper_key_other (by decide) (by decide) (by omega))
  · rfl

theorem State.shaperView_enqueue {q : Nat} (hq : q < 65536) (f : QFrame) :
    (s.enqueue q f).shaperView = s.shaperView := by
  have hq' : q < 1048576 := by omega
  unfold State.enqueue
  dsimp only
  split_ifs
  · rw [State.shaperView_inc _ (ofShaper_key_other (by decide) (by decide) hq'), State.shaperView_downDrop]
  · rw [State.shaperView_inc _ (by decide), State.shaperView_downDrop]
  · rw [State.shaperView_inc _ (ofShaper_key_other (by decide) (by decide) hq'), State.shaperView_setQueue _ hq,
      State.shaperView_setQm]

/-! ### The frames of a refill tick -/

theorem State.shaperView_downFrame (f : Nat) (b : Bytes) : (s.downFrame f b).shaperView = s.shaperView := by
  unfold State.downFrame
  dsimp only
  split
  · exact State.shaperView_inc s (by decide)
  · split
    · split
      · rw [State.shaperView_enqueue _ (fcQueue_lt _), State.shaperView_meterFrame s (fcMeterDown_lt _)]
      · rw [State.shaperView_downDrop, State.shaperView_meterFrame s (fcMeterDown_lt _)]
    · rw [if_pos rfl, State.shaperView_enqueue _ (fcQueue_lt _)]

theorem State.shaperView_upFrame (p : Port) (h : Header) (t : Stamp) (b : Bytes) :
    (s.upFrame p h t b).shaperView = s.shaperView := by
  unfold State.upFrame
  dsimp only
  split
  · exact State.shaperView_inc s (by decide)
  split
  · rw [State.shaperView_inc _ (by decide), State.shaperView_upDrop]
  cases seqCheck (uAt (s.flowState (flowNumber p.val h.src h.tag)) fsUpSeq 2) h.seq with
  | none => exact (State.shaperView_inc _ (by decide)).trans (s.shaperView_upDrop _)
  | some x =>
    dsimp only
    split
    · split
      · rw [State.shaperView_toHost, State.shaperView_meterFrame _ (fcMeterUp_lt _), State.shaperView_setFlowState]
      · rw [State.shaperView_upDrop, State.shaperView_meterFrame _ (fcMeterUp_lt _), State.shaperView_setFlowState]
    · rw [if_pos rfl, State.shaperView_toHost, State.shaperView_setFlowState]

theorem State.shaperView_runWaiter (w : Waiter) : (s.runWaiter w).shaperView = s.shaperView := by
  cases w with
  | down f _ _ b => exact s.shaperView_downFrame f b
  | upFrame p h t b => exact s.shaperView_upFrame p h t b

theorem State.shaperView_toFlow (w : Waiter) : (s.toFlow w).shaperView = s.shaperView := by
  unfold State.toFlow
  dsimp only
  split
  · rw [State.shaperView_runWaiter, State.shaperView_useLine, State.shaperView_inc _ (by decide)]
  · rw [State.shaperView_setQm, State.shaperView_inc _ (by decide)]

/-- The frames taken at a refill tick leave alone what the shapers read. -/
theorem State.shaperView_takeArrivals : s.takeArrivals.shaperView = s.shaperView := by
  unfold State.takeArrivals
  refine foldl_keeps State.shaperView (fun s x => ?_) _ _
  split
  · exact s.shaperView_runWaiter x.1
  · exact s.shaperView_toFlow x.1

end

/-! ## The enabled shapers -/

theorem shaperEnable_key (q : Nat) : Reg.SHAPER_enable.key 0 q = Reg.SHAPER_enable.key 0 0 + q := by
  simp only [Obj.key]; omega

/-- Every entry that counts for `shaped` is one of the shapers' numbers. -/
theorem ofShaper_of_enable_range {k : Nat}
    (h : Reg.SHAPER_enable.key 0 0 ≤ k ∧ k < Reg.SHAPER_enable.key 0 0 + 4096) : ofShaper k = true := by
  obtain ⟨q, rfl⟩ := Nat.exists_eq_add_of_le h.1
  rw [← shaperEnable_key]
  exact ofShaper_key rfl (by decide) (by omega)

theorem State.shaped_of_shaperView {s t : State} (h : t.shaperView = s.shaperView) : t.shaped = s.shaped := by
  have hpart (u : State) : u.shaped = ((u.regs.filter fun e => ofShaper e.1).filter fun e =>
      decide (Reg.SHAPER_enable.key 0 0 ≤ e.1 ∧ e.1 < Reg.SHAPER_enable.key 0 0 + 4096)).map
        fun e => e.1 - Reg.SHAPER_enable.key 0 0 := by
    rw [List.filter_filter]
    refine congrArg (List.map _) (List.filter_congr fun e _ => ?_)
    by_cases he : Reg.SHAPER_enable.key 0 0 ≤ e.1 ∧ e.1 < Reg.SHAPER_enable.key 0 0 + 4096
    · rw [decide_eq_true he, ofShaper_of_enable_range he, Bool.and_true]
    · rw [decide_eq_false he, Bool.false_and]
  rw [hpart, hpart, State.regs_of_shaperView h]

/-- A shaper is among the enabled ones just when its enable object has an entry. -/
theorem State.mem_shaped {s : State} {q : Nat} :
    q ∈ s.shaped ↔ q < 4096 ∧ ∃ e ∈ s.regs, e.1 = Reg.SHAPER_enable.key 0 q := by
  rw [shaperEnable_key, State.shaped]
  generalize Reg.SHAPER_enable.key 0 0 = lo
  simp only [List.mem_map, List.mem_filter, decide_eq_true_eq]
  constructor
  · rintro ⟨e, ⟨he, hlo, hhi⟩, rfl⟩
    exact ⟨by omega, e, he, by omega⟩
  · rintro ⟨hq, e, he, hkey⟩
    exact ⟨e, ⟨he, by omega, by omega⟩, by omega⟩

theorem State.mem_shaped_of_flag {s : State} {q : Nat} (hq : q < 4096) (h : s.flag Reg.SHAPER_enable 0 q = true) :
    q ∈ s.shaped := by
  have hdflt : Reg.SHAPER_enable.dfltAt q = 0 := rfl
  have hread : s.rd Reg.SHAPER_enable 0 q = 1 := of_decide_eq_true h
  rw [State.rd, hdflt, zero_add] at hread
  exact State.mem_shaped.mpr ⟨hq, Store.exists_mem_of_get_ne (d := 0) (by rw [hread]; decide)⟩

/-- A store in canonical form has one entry for a shaper. -/
theorem State.nodup_shaped {s : State} (h : Store.wf 0 s.regs = true) : s.shaped.Nodup := by
  obtain ⟨hsorted, -⟩ := Bool.and_eq_true_iff.mp h
  refine List.pairwise_map.mpr (((of_decide_eq_true hsorted).filter _).imp_of_mem fun {a b} ha _ hab => ?_)
  have hlo := (of_decide_eq_true (List.mem_filter.mp ha).2).1
  omega

/-! ## The credits move (R363) -/

/-- The credit that a refill tick gives a shaper. -/
def State.nextCredit (s : State) (q : Nat) : Int :=
  if s.crossing q then s.rd Reg.SHAPER_credit 0 q - perTick (s.rd Reg.SHAPER_send_slope 0 q)
  else min (s.rd Reg.SHAPER_burst 0 q * 65536)
    (s.rd Reg.SHAPER_credit 0 q + perTick (s.rd Reg.SHAPER_idle_slope 0 q))

theorem State.rd_shape_self (s : State) (q : Nat) : (s.shape q).rd Reg.SHAPER_credit 0 q = s.nextCredit q :=
  State.rd_wr_self s _ _ _ _

/-- The credit of one shaper says nothing about another shaper. -/
theorem State.rd_shape_other (s : State) {o : Obj} (hi : o.index = 0x4200) {r q : Nat} (hr : r < 4096)
    (hq : q < 4096) (hne : q ≠ r) : (s.shape r).rd o 0 q = s.rd o 0 q := by
  refine State.rd_wr_other s _ ?_
  simp only [Obj.key, hi, Reg.SHAPER_credit]
  omega

theorem State.nextCredit_congr {s t : State} {q : Nat} (hcross : t.crossing q = s.crossing q)
    (hrd : ∀ o : Obj, o.index = 0x4200 → o.sub < 256 → t.rd o 0 q = s.rd o 0 q) : t.nextCredit q = s.nextCredit q := by
  rw [State.nextCredit, State.nextCredit, hcross, hrd Reg.SHAPER_credit rfl (by decide),
    hrd Reg.SHAPER_send_slope rfl (by decide), hrd Reg.SHAPER_burst rfl (by decide),
    hrd Reg.SHAPER_idle_slope rfl (by decide)]

theorem State.nextCredit_of_shaperView {s t : State} (h : t.shaperView = s.shaperView) {q : Nat} (hq : q < 4096) :
    t.nextCredit q = s.nextCredit q :=
  State.nextCredit_congr (State.crossing_of_shaperView h q) fun _ hi hs => State.rd_of_shaperView h hi hs (by omega)

theorem State.nextCredit_shape_other (s : State) {r q : Nat} (hr : r < 4096) (hq : q < 4096) (hne : q ≠ r) :
    (s.shape r).nextCredit q = s.nextCredit q :=
  State.nextCredit_congr rfl fun _ hi _ => s.rd_shape_other hi hr hq hne

/-- Each shaper of the list moves once, by what it reads before the list is taken. -/
theorem State.credit_foldl_shape {l : List Nat} (s : State) {q : Nat} (hl : ∀ r ∈ l, r < 4096) (hnodup : l.Nodup)
    (hq : q ∈ l) : (l.foldl State.shape s).rd Reg.SHAPER_credit 0 q = s.nextCredit q := by
  induction l generalizing s with
  | nil => cases hq
  | cons r l ih =>
    obtain ⟨hr, hl'⟩ := List.forall_mem_cons.mp hl
    obtain ⟨hrl, hnodup'⟩ := List.nodup_cons.mp hnodup
    rw [List.foldl_cons]
    rcases List.mem_cons.mp hq with rfl | hql
    · have hrest := foldl_keeps_mem (fun s => s.rd Reg.SHAPER_credit 0 q) l (f := State.shape)
        (fun s x hx => s.rd_shape_other rfl (hl' x hx) hr fun h => hrl (h ▸ hx)) (s.shape q)
      exact hrest.trans (s.rd_shape_self q)
    · rw [ih _ hl' hnodup' hql]
      exact s.nextCredit_shape_other hr (hl' q hql) fun h => hrl (h ▸ hql)

/-! ## REFILL_TICK -/

/-- The state in which the credits move at a refill tick: the frames of the tick are taken and the tick is counted. -/
def State.tickTaken (s : State) : State :=
  (s.takeArrivals.setQm fun m => { m with
    tick := s.takeArrivals.qm.tick + 1, tickAt := (s.time.mono / 8000).toNat }).setIz fun z => { z with tickSeen := true }

theorem State.shaperView_tickTaken (s : State) : s.tickTaken.shaperView = s.shaperView := by
  rw [State.tickTaken, State.shaperView_setIz, State.shaperView_setQm, State.shaperView_takeArrivals]

theorem exec_refillTick {s : State} (hruns : s.queuesRun = true) (htick : s.qm.tickAt < (s.time.mono / 8000).toNat) :
    exec .refillTick s = .next ((s.tickTaken.shaped.foldl State.shape s.tickTaken).keep s) := by
  have hexec : exec .refillTick s = execRefillTick s := rfl
  rw [hexec, execRefillTick]
  exact guarded_pos s ⟨hruns, htick⟩

/-- Settles O35: the frames taken at the tick leave what the shapers read, and each enabled shaper then moves once. -/
theorem shaperCreditMoves : Obligations.ShaperCreditMoves := by
  intro s q hruns htick hwf hq hflag
  refine ⟨_, exec_refillTick hruns htick, ?_⟩
  have hview := s.shaperView_tickTaken
  dsimp only
  rw [State.rd_keep, State.shaped_of_shaperView hview,
    State.credit_foldl_shape _ (fun r hr => (State.mem_shaped.mp hr).1) (State.nodup_shaped hwf)
      (State.mem_shaped_of_flag hq hflag),
    State.nextCredit_of_shaperView hview hq]
  simp [State.nextCredit, State.crossing, perTick]

end Sys2Proof.Machine
end

section
/-! QUEUE MANAGER AT PL3. What a parcel on the host side leaves alone of the state, and a DATA parcel that reaches a queue
manager whose clock is stopped (R457). -/

namespace Sys2Proof.Machine

variable (s : State)

/-! ## A parcel that the device consumes on its host side (R466) -/

theorem State.ite_setPower (c : Prop) [Decidable c] (f : PowerState → PowerState) :
    (if c then s.setPower f else s) = s.setPower (if c then f else id) := by
  split
  · rfl
  · rfl

/-- A happening of R466 reaches the power controller only. -/
theorem State.happens_eq_setPower (code detail : Nat) (t : Stamp) : ∃ f, s.happens code detail t = s.setPower f :=
  ⟨_, s.ite_setPower _ _⟩

theorem State.hostParcel_eq_setPower (x : Side) (type : Nat) : ∃ f, s.hostParcel x type = s.setPower f := by
  unfold State.hostParcel
  split
  · exact s.happens_eq_setPower 5 type s.now
  · exact ⟨id, rfl⟩

@[simp] theorem State.hostParcel_qm (x : Side) (type : Nat) : (s.hostParcel x type).qm = s.qm := by
  obtain ⟨f, hf⟩ := s.hostParcel_eq_setPower x type
  rw [hf, State.setPower_qm]

@[simp] theorem State.rd_hostParcel (x : Side) (type : Nat) (o : Obj) (p e : Nat) :
    (s.hostParcel x type).rd o p e = s.rd o p e := by
  obtain ⟨f, hf⟩ := s.hostParcel_eq_setPower x type
  rw [hf, State.rd_setPower]

/-- The power controller and the objects are none of what a command of the digital die keeps. -/
theorem State.keep_inc_hostParcel (x : Side) (type : Nat) (o : Obj) :
    ((s.hostParcel x type).inc o).keep s = (s.hostParcel x type).inc o := by
  obtain ⟨f, hf⟩ := s.hostParcel_eq_setPower x type
  rw [hf]
  rfl

/-! ## DATA_PARCEL_DOWN at PL3 (R457) -/

theorem State.queuesRun_of_pl3 {s : State} (h : s.rd Reg.PERF_LEVEL_in_force 0 36 = 3) : s.queuesRun = false := by
  simp [State.queuesRun, h]

/-- At PL3 the payload is not looked at: the parcel is counted and goes no further. -/
theorem exec_dataParcelDown_pl3 {s : State} (hruns : s.runs = true) (hlevel : s.rd Reg.PERF_LEVEL_in_force 0 36 = 3)
    (x : Side) (b : Bytes) :
    exec (.dataParcelDown x b) s = .next ((s.hostParcel x 1).inc Reg.QM_CTL_NO_FLOW) := by
  have hexec : exec (.dataParcelDown x b) s = execDataParcelDown x b s := rfl
  have hstopped : (s.hostParcel x 1).queuesRun = false :=
    State.queuesRun_of_pl3 ((s.rd_hostParcel x 1 _ 0 36).trans hlevel)
  rw [hexec, execDataParcelDown, guarded_pos s hruns]
  simp only [hstopped, Bool.not_false, if_true]
  rw [State.keep_inc_hostParcel]

/-- Settles O36: a queue manager whose clock is stopped counts the parcel, and what it holds stays as it is. -/
theorem queueManagerAtPL3Discards : Obligations.QueueManagerAtPL3Discards := by
  intro s x b hruns hlevel
  refine ⟨exec_dataParcelDown_pl3 hruns hlevel x b, ?_⟩
  rw [State.inc_qm, State.hostParcel_qm]

end Sys2Proof.Machine
end

section
/-! ESCALATION. What the collector's judgement of a fault says: when it escalates, and which severity it then logs (R491). -/

namespace Sys2Proof.Machine

variable {s : State} {f : PendFault}

/-! ## The judgement of a fault, field by field -/

theorem State.judge_escalated_iff :
    (s.judge f).escalated = true ↔
      ∃ l ∈ s.faults.logged, l.acked = false ∧ l.cls = f.report.cls ∧ l.injected = f.injected := by
  simp only [State.judge, List.any_eq_true, Bool.and_eq_true, Bool.not_eq_true', beq_iff_eq, and_assoc]

/-- An injected fault brings its severity (R501), a real one has that of the catalogue (R489). -/
theorem State.judge_catalogue
    (h : f.injected = false → catalogueSeverity f.report.cls f.report.code = some f.severity) :
    (s.judge f).catalogue = f.severity := by
  cases hinj : f.injected with
  | true => simp [State.judge, hinj]
  | false => simp [State.judge, hinj, h hinj]

theorem State.judge_logged_of_not_escalated (h : (s.judge f).escalated = false) :
    (s.judge f).logged = f.severity :=
  if_neg (Bool.eq_false_iff.mp h)

theorem State.judge_logged_of_escalated (h : (s.judge f).escalated = true) :
    (s.judge f).logged = max f.severity
      (min ((s.judge f).catalogue + 1) (if s.flag Reg.FAULT_POLICY_reset then svReset else svStation)) :=
  if_pos h

/-! ## One step above the catalogue -/

/-- A severity up to STATION is raised by one under a cap of RESET, and never beyond a cap of STATION. -/
theorem max_min_succ_cap {v : Nat} (h : v ≤ svStation) (reset : Bool) :
    max v (min (v + 1) (if reset then svReset else svStation)) = if reset then v + 1 else min (v + 1) svStation := by
  cases reset with
  | true => simp only [if_true, svReset, svStation] at h ⊢; omega
  | false => simp only [Bool.false_eq_true, if_false, svStation] at h ⊢; omega

/-- Settles O50: the judgement field by field, and the cap of the policy on the severity one step above the catalogue. -/
theorem escalationOneStep : Obligations.EscalationOneStep := by
  intro s f hsev hcat
  refine ⟨State.judge_escalated_iff, State.judge_logged_of_not_escalated, fun hesc => ?_⟩
  rw [State.judge_logged_of_escalated hesc, State.judge_catalogue hcat]
  exact max_min_succ_cap hsev _

end Sys2Proof.Machine
end

section
/-! TAMPER INPUT. Fields read back from encoded bytes, one bit of a word of flags, what a log entry of the hamper leaves
and adds, and the two commands of R545. -/

namespace Sys2Proof.Machine

/-! ## A field read back from its bytes (R4) -/

theorem ofBe_concat (b : Bytes) (x : BitVec 8) : ofBe (b ++ [x]) = ofBe b * 256 + x.toNat := by
  simp [ofBe]

theorem ofBe_cons (x : BitVec 8) (b : Bytes) : ofBe (x :: b) = x.toNat * 256 ^ b.length + ofBe b := by
  induction b using List.reverseRecOn with
  | nil => simp [ofBe]
  | append_singleton b y ih =>
    rw [← List.cons_append, ofBe_concat, ih, ofBe_concat, List.length_append, List.length_singleton, pow_succ]
    ring

theorem ofBe_be (n v : Nat) : ofBe (be n v) = v % 256 ^ n := by
  induction n with
  | zero => rw [pow_zero, Nat.mod_one]; rfl
  | succ n ih =>
    rw [be, ofBe_cons, ih, length_be, BitVec.toNat_ofNat, Nat.mod_pow_succ (b := 256)]
    ring

/-- The field of n bytes that follows a and was written as v. -/
theorem uAt_append_be (a c : Bytes) (n v : Nat) : uAt (a ++ be n v ++ c) a.length n = v % 256 ^ n := by
  have hslice : slice (a ++ be n v ++ c) a.length n = be n v := by simp [slice]
  rw [uAt, hslice, ofBe_be]

/-! ## A bit of a word after a bit is set -/

/-- A bit is as it should be already, or its weight is added, or its weight is taken away. -/
theorem setBit_cases (w i : Nat) (b : Bool) :
    (setBit w i b = w ∧ bit w i = b) ∨ (setBit w i b = 2 ^ i + w ∧ bit w i = false ∧ b = true)
      ∨ (2 ^ i + setBit w i b = w ∧ bit w i = true ∧ b = false) := by
  cases hw : bit w i with
  | false =>
    cases b with
    | false => exact .inl ⟨by simp [setBit, hw], rfl⟩
    | true => exact .inr (.inl ⟨by simp [setBit, hw, Nat.add_comm], rfl, rfl⟩)
  | true =>
    cases b with
    | false =>
      have hle : 2 ^ i ≤ w := Nat.ge_two_pow_of_testBit hw
      exact .inr (.inr ⟨by simp [setBit, hw, Nat.add_sub_cancel' hle], rfl, rfl⟩)
    | true => exact .inl ⟨by simp [setBit, hw], rfl⟩

@[simp] theorem bit_setBit_same (w i : Nat) (b : Bool) : bit (setBit w i b) i = b := by
  obtain ⟨heq, hb⟩ | ⟨heq, hw, rfl⟩ | ⟨heq, hw, rfl⟩ := setBit_cases w i b
  · rw [heq, hb]
  · rw [heq, bit, Nat.testBit_two_pow_add_eq, ← bit, hw, Bool.not_false]
  · rw [← heq, bit, Nat.testBit_two_pow_add_eq] at hw
    simpa [bit] using hw

/-- A weight added or taken away at a higher bit reaches no lower one. -/
theorem bit_setBit_of_lt {i j : Nat} (h : j < i) (w : Nat) (b : Bool) : bit (setBit w i b) j = bit w j := by
  obtain ⟨heq, -⟩ | ⟨heq, -⟩ | ⟨heq, -⟩ := setBit_cases w i b
  · rw [heq]
  · rw [heq, bit, Nat.testBit_two_pow_add_gt h, ← bit]
  · calc bit (setBit w i b) j
      _ = bit (2 ^ i + setBit w i b) j := (Nat.testBit_two_pow_add_gt h _).symm
      _ = bit w j := by rw [heq]

/-! ## The hamper's status flags and its log -/

section
variable (h : Hamper) (mono : Stamp) (code : Nat) (data : Int)

/-- TAMPER_ACTIVE (Table 14.7). -/
@[simp] theorem Hamper.bit_flagWord_tamper : bit h.flagWord 6 = h.tampered := by
  rw [Hamper.flagWord, bit_setBit_of_lt (by decide), bit_setBit_same]

@[simp] theorem Hamper.logEntry_powered : (h.logEntry mono code data).powered = h.powered := (rfl)
@[simp] theorem Hamper.logEntry_sealed : (h.logEntry mono code data).sealed = h.sealed := (rfl)
@[simp] theorem Hamper.logEntry_billing : (h.logEntry mono code data).billing = h.billing := (rfl)
@[simp] theorem Hamper.logEntry_pulses : (h.logEntry mono code data).pulses = h.pulses := (rfl)
@[simp] theorem Hamper.logEntry_tampered : (h.logEntry mono code data).tampered = h.tampered := (rfl)
@[simp] theorem Hamper.logEntry_tamperCount : (h.logEntry mono code data).tamperCount = h.tamperCount := (rfl)
@[simp] theorem Hamper.logEntry_logHead : (h.logEntry mono code data).logHead = h.logHead + 1 := (rfl)

/-- The code of an entry stands behind its SEQ and its second (Table 14.4). -/
theorem Hamper.logEntry_head_code :
    ((h.logEntry mono code data).log.head?.map fun e => uAt e.2 10 2) = some (code % 65536) := by
  have hcode := uAt_append_be (be 4 (h.logHead + 1) ++ beInt 6 (h.legal mono / nsPerSec)) (beInt 4 data) 2 code
  have hlength : (be 4 (h.logHead + 1) ++ beInt 6 (h.legal mono / nsPerSec)).length = 10 := by simp [beInt]
  rw [hlength] at hcode
  exact congrArg some hcode

end

/-! ## TAMPER and TAMPER_END (R545) -/

variable {s : State}

theorem exec_tamper (hpowered : s.hamper.powered = true) (hclear : s.hamper.tampered = false) :
    exec .tamper s = .next ((s.setHamper fun h =>
      { h with tamperCount := (h.tamperCount + 1) % 65536, tampered := true }.logEntry s.time.mono 0x0010
        ((h.tamperCount + 1) % 65536 : Nat)).keepFuses s) := by
  have hexec : exec .tamper s = execTamper s := rfl
  rw [hexec, execTamper]
  exact guardedHamper_pos s ⟨hpowered, by simp [hclear]⟩

theorem exec_tamperEnd (hpowered : s.hamper.powered = true) (hactive : s.hamper.tampered = true) :
    exec .tamperEnd s = .next ((s.setHamper fun h =>
      { h with tampered := false }.logEntry s.time.mono 0x0011 h.tamperCount).keepFuses s) := by
  have hexec : exec .tamperEnd s = execTamperEnd s := rfl
  rw [hexec, execTamperEnd]
  exact guardedHamper_pos s ⟨hpowered, hactive⟩

/-- Settles O53: both commands change the count and the flag and then log one entry, which leaves the metering alone. -/
theorem tamperIsLogged : Obligations.TamperIsLogged := by
  refine ⟨fun s hpowered hclear => ⟨_, exec_tamper hpowered hclear, ?_⟩,
    fun s hpowered hactive => ⟨_, exec_tamperEnd hpowered hactive, ?_⟩⟩
  · simp [Hamper.logEntry_head_code, hpowered]
  · simp [Hamper.logEntry_head_code, hpowered]

end Sys2Proof.Machine
end

section
/-! RESET ON REQUEST. What a request that crosses the balls, its admission and its response leave alone, which requests
are admitted, and the three clauses of R568. -/

namespace Sys2Proof.Machine

/-! ## Sending touches no timer but the port's replay timer (R404) -/

section
variable (s : State) {u : Timer} (x : Side)

theorem State.deadline_sendNow (p : Parcel) (h : u ≠ .pfReplay x.n) : (s.sendNow x p).deadline u = s.deadline u := by
  unfold State.sendNow
  dsimp only
  split
  · exact s.deadline_arm_other _ h
  · rfl

theorem State.deadline_trySend (p : Parcel) (h : u ≠ .pfReplay x.n) : (s.trySend x p).deadline u = s.deadline u := by
  unfold State.trySend
  dsimp only
  split
  · rfl
  · split
    · exact s.deadline_sendNow x p h
    · exact State.deadline_congr (State.stall_timers s x p.vc) u

theorem State.deadline_drainFifo (vc : Nat) (h : u ≠ .pfReplay x.n) : (s.drainFifo x vc).deadline u = s.deadline u := by
  refine foldl_keeps (fun s => s.deadline u) (fun s f => ?_) _ s
  dsimp only
  split
  · rfl
  · split
    · exact State.deadline_sendNow _ x _ h
    · exact State.deadline_congr (State.stall_timers s x vc) u

theorem State.deadline_drain (h : u ≠ .pfReplay x.n) : (s.drain x).deadline u = s.deadline u := by
  unfold State.drain
  dsimp only
  split
  · rfl
  · rw [foldl_keeps (fun s => s.deadline u) (fun s vc => s.deadline_drainFifo x vc h),
      foldl_keeps (fun s => s.deadline u) (fun s p => s.deadline_trySend x p h), State.deadline_setLink]

theorem State.deadline_sendHost (ty vc : Nat) (b : Bytes) (h : u ≠ .pfReplay x.n) :
    (s.sendHost x ty vc b).deadline u = s.deadline u :=
  State.deadline_drain _ x h

theorem State.deadline_reply (y : IzResp) (h : u ≠ .pfReplay y.side.n) : (s.reply y).deadline u = s.deadline u :=
  State.deadline_sendHost _ y.side _ _ _ h

theorem State.deadline_respond (y : IzResp) (h : u ≠ .pfReplay y.side.n) : (s.respond y).deadline u = s.deadline u := by
  unfold State.respond
  split
  · exact s.deadline_reply y h
  · dsimp only
    split
    · rfl
    · split
      · exact s.deadline_reply y h
      · exact State.deadline_reply _ _ h

end

/-! ## What a request and its response leave alone -/

/-- The way of a request through the steward: what a command of the digital die keeps, station time and the planned cold
reset are as before. -/
structure State.Undisturbed (s t : State) : Prop where
  pending : t.pending = s.pending
  fuses : t.fuses = s.fuses
  hamper : t.hamper = s.hamper
  time : t.time = s.time
  hostReset : t.deadline .hostReset = s.deadline .hostReset

namespace State.Undisturbed

variable {s t u : State}

theorem refl : s.Undisturbed s := ⟨rfl, rfl, rfl, rfl, rfl⟩

theorem trans (h : s.Undisturbed t) (k : t.Undisturbed u) : s.Undisturbed u :=
  ⟨k.pending.trans h.pending, k.fuses.trans h.fuses, k.hamper.trans h.hamper, k.time.trans h.time,
    k.hostReset.trans h.hostReset⟩

theorem keep (h : s.Undisturbed t) : t.keep s = t := by
  rw [State.keep, ← h.pending, ← h.fuses, ← h.hamper]

theorem now (h : s.Undisturbed t) : t.now = s.now := State.now_congr h.time

end State.Undisturbed

variable {s u : State} {r : IzReq}

theorem State.undisturbed_arm (s : State) {t : Timer} (d : Stamp) (h : .hostReset ≠ t) : s.Undisturbed (s.arm t d) :=
  ⟨rfl, rfl, rfl, rfl, s.deadline_arm_other d h⟩

theorem State.undisturbed_hostParcel (s : State) (x : Side) (type : Nat) : s.Undisturbed (s.hostParcel x type) := by
  obtain ⟨f, hf⟩ := s.hostParcel_eq_setPower x type
  rw [hf]
  exact ⟨rfl, rfl, rfl, rfl, rfl⟩

theorem State.undisturbed_ungate (s : State) : s.Undisturbed s.ungate := by
  unfold State.ungate
  split
  · exact State.Undisturbed.trans (t := s.setHouse fun fld => { fld with gated := false }) ⟨rfl, rfl, rfl, rfl, rfl⟩
      (State.undisturbed_arm _ _ nofun)
  · exact .refl

theorem State.undisturbed_arrives (s : State) (r : IzReq) : s.Undisturbed (s.arrives r) := by
  have hcrosses : s.Undisturbed (s.hostParcel r.side 0).ungate :=
    (s.undisturbed_hostParcel r.side 0).trans (State.undisturbed_ungate _)
  unfold State.arrives
  dsimp only
  split
  · exact hcrosses
  · exact hcrosses.trans ⟨rfl, rfl, rfl, rfl, rfl⟩

theorem State.undisturbed_respond (s : State) (y : IzResp) : s.Undisturbed (s.respond y) :=
  ⟨s.respond_pending y, s.respond_fuses y, s.respond_hamper y, s.respond_time y, s.deadline_respond y nofun⟩

theorem State.undisturbed_refuseWrite (s : State) (r : IzReq) (status : Nat) : s.Undisturbed (s.refuseWrite r status) :=
  State.Undisturbed.trans (t := s.inc Reg.IZ_CTL_WRITES_REFUSED) ⟨rfl, rfl, rfl, rfl, rfl⟩ (State.undisturbed_respond _ _)

/-! ## Which requests are admitted (R433) -/

/-- A request of session k as its admission leaves the state: COUNTER, REQUESTS, LAST_ARRIVAL and the idle deadline. -/
def State.noted (s : State) (r : IzReq) (k : SessionNo) : State :=
  let t := ((s.arrives r).setSession k fun z => { z with counter := r.counter }).inc Reg.IZ_CTL_REQUESTS
  (t.wr Reg.IZ_SESSION_last_arrival 0 r.session t.now).arm (.session k.val) (t.now + t.rd Reg.IZ_CTL_idle_time * nsPerSec)

/-- An admitted WRITE is one of an authenticated session. -/
theorem State.admitReq_accepted_write (hop : r.op = opWrite) (h : s.admitReq r = .accepted u) :
    ∃ k, sessionNo r.session = some k ∧ ((s.arrives r).session k).phase = 2 ∧ u = s.noted r k := by
  unfold State.admitReq at h
  dsimp only at h
  split at h
  · simp [hop, opWrite, opOpen, opRead] at h
  · split at h
    · cases h
    · rename_i k hk
      split at h
      · rename_i hsession
        split at h
        · cases h
        · split at h
          · cases h
          · split at h
            · cases h
            · cases h
              exact ⟨k, hk, hsession.1, rfl⟩
      · cases h

theorem State.undisturbed_noted (s : State) (r : IzReq) (k : SessionNo) : s.Undisturbed (s.noted r k) := by
  refine (s.undisturbed_arrives r).trans ?_
  refine State.Undisturbed.trans (t := (((s.arrives r).setSession k _).inc Reg.IZ_CTL_REQUESTS).wr _ _ _ _) ?_
    (State.undisturbed_arm _ _ nofun)
  exact ⟨rfl, rfl, rfl, rfl, rfl⟩

theorem State.phase_noted (s : State) (r : IzReq) (k : SessionNo) :
    ((s.noted r k).session k).phase = ((s.arrives r).session k).phase := by
  have hsession : (s.noted r k).session k = ((s.arrives r).setSession k fun z => { z with counter := r.counter }).session k :=
    rfl
  rw [hsession, State.session_setSession_self]

/-- Once a WRITE is admitted its session is there, as `State.respond_mem` asks, and the way to it disturbed nothing. -/
theorem State.admitted_write (hop : r.op = opWrite) (h : s.admitReq r = .accepted u) :
    s.Undisturbed u ∧ ∀ k, sessionNo r.session = some k → (u.session k).phase ≠ 0 := by
  obtain ⟨k, hk, hphase, rfl⟩ := State.admitReq_accepted_write hop h
  refine ⟨s.undisturbed_noted r k, fun j hj => ?_⟩
  obtain rfl : k = j := Option.some.inj (hk.symm.trans hj)
  rw [s.phase_noted r k, hphase]
  decide

/-- The answer to a request in a session that is there carries the status and the TAG of the request. -/
theorem State.answer_mem {s : State} {r : IzReq} {status : Nat}
    (h : ∀ k, sessionNo r.session = some k → (s.session k).phase ≠ 0) :
    ∃ y, Out.reply y ∈ (s.respond (r.answer status)).out ∧ y.status = status ∧ y.tag = r.tag := by
  obtain ⟨y, hout, -, hstatus, -, htag, -⟩ := s.respond_mem (r.answer status) h
  exact ⟨y, hout, hstatus, htag⟩

/-! ## RESET_REQUEST and HOST_RESET (R568) -/

theorem opWrite_of_writes {index : Nat} (h : writes r index = true) : r.op = opWrite := (of_decide_eq_true h).1

theorem exec_resetRequest {x : Obj × Nat × List (Nat × Bytes)} (htakes : s.takes r = true)
    (hwrites : writes r 0x1603 = true) (hadmit : s.admitReq r = .accepted u) (hcheck : u.checkWrite r = .ok x) :
    exec (.resetRequest r) s = .next (State.keep (if uAt r.data 0 4 ≠ 0xB007 then u.refuseWrite r stRange
      else (u.respond (r.answer stOk)).arm .hostReset (u.now + 1000000)) s) := by
  have hexec : exec (.resetRequest r) s = execResetRequest r s := rfl
  rw [hexec, execResetRequest, guarded_pos s ⟨htakes, hwrites⟩, hadmit]
  simp only [Admission.run, hcheck]

theorem exec_hostReset (hlive : s.live = true) (hdue : s.reached .hostReset = true) :
    exec .hostReset s = .next ((s.coldReset causeHost [] holdShort).keep s) := by
  have hexec : exec .hostReset s = execHostReset s := rfl
  rw [hexec, execHostReset]
  exact guarded_pos s ⟨hlive, hdue⟩

/-- A list of lasting holds, or the short hold where there is none, names a hold. -/
theorem headD_holdShort_ne_zero {l : List Nat} (h : ∀ k ∈ l, holdVio ≤ k) : l.headD holdShort ≠ 0 := by
  cases l with
  | nil => decide
  | cons k l =>
    have hk : holdVio ≤ k := h k List.mem_cons_self
    exact Nat.ne_of_gt (Nat.lt_of_lt_of_le (by decide) hk)

theorem State.coldReset_hold_ne_zero (s : State) (cause : Nat) (detail : Bytes) (hold : Nat) :
    (s.coldReset cause detail hold).rst.hold ≠ 0 := by
  refine headD_holdShort_ne_zero fun k hk => ?_
  simpa using (List.mem_filter.mp (List.mem_eraseDups.mp hk)).2

theorem State.coldReset_coldReset (s : State) (cause : Nat) (detail : Bytes) (hold : Nat) :
    ColdReset s (be 1 cause ++ detail) (s.coldReset cause detail hold) :=
  ⟨rfl, rfl, rfl, rfl, rfl, rfl, rfl, s.coldReset_hold_ne_zero cause detail hold, rfl, rfl, rfl, rfl, rfl⟩

/-- Settles O59: an admitted WRITE disturbs neither the planned reset nor what the command keeps, its response leaves the
block, and the reset that comes due is a cold reset of cause HOST. -/
theorem resetRequestHonoured : Obligations.ResetRequestHonoured := by
  refine ⟨fun s u r x htakes hwrites hadmit hcheck hkey => ?_, fun s u r x htakes hwrites hadmit hcheck hkey => ?_,
    fun s hlive hdue => ⟨_, exec_hostReset hlive hdue, rfl, s.coldReset_coldReset causeHost [] holdShort⟩⟩
  · obtain ⟨hway, hphase⟩ := State.admitted_write (opWrite_of_writes hwrites) hadmit
    have hkeep : ((u.respond (r.answer stOk)).arm .hostReset (s.now + 1000000)).keep s
        = (u.respond (r.answer stOk)).arm .hostReset (s.now + 1000000) :=
      congrArg (State.arm · .hostReset (s.now + 1000000)) (hway.trans (u.undisturbed_respond _)).keep
    refine ⟨_, exec_resetRequest htakes hwrites hadmit hcheck, ?_⟩
    rw [if_neg (not_not.mpr hkey), hway.now, hkeep]
    exact ⟨State.deadline_arm_self _ _ _, rfl, State.answer_mem hphase⟩
  · obtain ⟨hway, hphase⟩ := State.admitted_write (opWrite_of_writes hwrites) hadmit
    have hall := hway.trans (u.undisturbed_refuseWrite r stRange)
    refine ⟨_, exec_resetRequest htakes hwrites hadmit hcheck, ?_⟩
    rw [if_pos hkey, hall.keep]
    exact ⟨hall.hostReset, rfl, State.answer_mem (s := u.inc Reg.IZ_CTL_WRITES_REFUSED) hphase⟩

end Sys2Proof.Machine
end

section
/-! Every step of the block: the outcome of each command, its queue, its hamper and its fuses (R528, R544, R579, R580). -/

namespace Sys2Proof.Machine

-- one proof after another, here and in the sections below: side by side, each that waits would hold the stack of a thread
set_option Elab.async false

/-! ## What becomes of the hamper and of the fuses -/

/-- The hamper may become h' (R543, R544, R547): sealed it keeps its seal, its record and its fuse sets; its SEQ and its
SNAP_COUNT do not go back. -/
structure Hamper.Follows (h h' : Hamper) : Prop where
  ofSealed : h.sealed = true → h'.sealed = true ∧ h'.config = h.config ∧ h'.sets = h.sets
  logHead : h.logHead ≤ h'.logHead
  snapCount : h.snapCount < 4294967295 → h.snapCount ≤ h'.snapCount

namespace Hamper.Follows

variable {h h' : Hamper}

/-- A hamper that keeps its seal, its record, its fuse sets and its SNAP_COUNT, and whose log does not go back. -/
theorem of_eq (hsealed : h'.sealed = h.sealed) (hconfig : h'.config = h.config) (hsets : h'.sets = h.sets)
    (hhead : h.logHead ≤ h'.logHead) (hsnap : h'.snapCount = h.snapCount) : h.Follows h' :=
  ⟨fun hs => ⟨hsealed.trans hs, hconfig, hsets⟩, hhead, fun _ => hsnap.ge⟩

theorem refl (h : Hamper) : h.Follows h := of_eq rfl rfl rfl le_rfl rfl

/-- An unsealed hamper may take a record and fuse sets, and seal itself. -/
theorem of_unsealed (hsealed : h.sealed = false) (hhead : h.logHead ≤ h'.logHead) (hsnap : h'.snapCount = h.snapCount) :
    h.Follows h' :=
  ⟨fun hs => absurd hs (by simp [hsealed]), hhead, fun _ => hsnap.ge⟩

end Hamper.Follows

/-- A change of the hamper that keeps its seal, its record, its fuse sets and its SNAP_COUNT, and takes its log forward. -/
structure Hamper.Works (h h' : Hamper) : Prop where
  sealed : h'.sealed = h.sealed
  config : h'.config = h.config
  sets : h'.sets = h.sets
  logHead : h.logHead ≤ h'.logHead
  snapCount : h'.snapCount = h.snapCount

namespace Hamper.Works

variable {h h' h'' : Hamper}

theorem refl (h : Hamper) : h.Works h := ⟨rfl, rfl, rfl, le_rfl, rfl⟩

theorem trans (a : h.Works h') (b : h'.Works h'') : h.Works h'' :=
  ⟨b.sealed.trans a.sealed, b.config.trans a.config, b.sets.trans a.sets, a.logHead.trans b.logHead,
    b.snapCount.trans a.snapCount⟩

theorem follows (a : h.Works h') : h.Follows h' := .of_eq a.sealed a.config a.sets a.logHead a.snapCount

/-- A change of a field that is none of the five. -/
theorem of_kept (hkept : (h'.sealed, h'.config, h'.sets, h'.logHead, h'.snapCount)
    = (h.sealed, h.config, h.sets, h.logHead, h.snapCount)) : h.Works h' := by
  simp only [Prod.mk.injEq] at hkept
  obtain ⟨hsealed, hconfig, hsets, hhead, hsnap⟩ := hkept
  exact ⟨hsealed, hconfig, hsets, hhead.ge, hsnap⟩

theorem logEntry (a : h.Works h') (mono : Stamp) (code : Nat) (data : Int) : h.Works (h'.logEntry mono code data) :=
  a.trans ⟨rfl, rfl, rfl, Nat.le_succ _, rfl⟩

theorem flag (a : h.Works h') (mono : Stamp) (i : Nat) (b : Bool) (on off : Nat) (data : Int) :
    h.Works (h'.flag mono i b on off data) := by
  unfold Hamper.flag
  split
  · exact a
  · exact logEntry (a.trans (of_kept (by rfl))) _ _ _

theorem foldl {β : Type} {f : Hamper → β → Hamper} (hf : ∀ k x, Hamper.Works k (f k x)) (l : List β) (a : h.Works h') :
    h.Works (l.foldl f h') := by
  induction l generalizing h' with
  | nil => exact a
  | cons x l ih => exact ih (a.trans (hf h' x))

theorem measure (a : h.Works h') (mono : Stamp) (m : HamperMeas) : h.Works (h'.measure mono m) :=
  foldl (fun k _ => (refl k).flag mono _ _ _ _ _) _ ((a.flag mono 4 _ _ _ _).trans (of_kept (by rfl)))

theorem addEnergy (a : h.Works h') (p : Nat) (e : Int) : h.Works (h'.addEnergy p e) := by
  unfold Hamper.addEnergy
  dsimp only
  split <;> split <;> exact a.trans (of_kept (by rfl))

theorem samplePath (a : h.Works h') (mono : Stamp) (p : Nat) : h.Works (h'.samplePath mono p) := by
  unfold Hamper.samplePath
  extract_lets n k dv b k' before valid k''
  have hk' : h.Works k' := (a.flag mono (7 + p) _ _ _ _).trans (of_kept (by rfl))
  have hk'' : h.Works k'' := by
    unfold k''
    split
    · exact hk'.addEnergy p _
    · exact hk'
  exact hk''.trans (of_kept (by rfl))

theorem closeOne (a : h.Works h') (mono : Stamp) : h.Works (h'.closeOne mono) :=
  logEntry (a.trans (of_kept (by rfl))) _ _ _

theorem closePeriods (a : h.Works h') (mono : Stamp) : h.Works (h'.closePeriods mono) := by
  unfold Hamper.closePeriods
  split
  · exact a
  · split
    · exact a.trans (of_kept (by rfl))
    · dsimp only
      split
      · exact a
      · exact (foldl (fun k _ => (refl k).closeOne mono) _ a).trans (of_kept (by rfl))

theorem checkRom (a : h.Works h') (mono : Stamp) (rom : RomCheck) : h.Works (h'.checkRom mono rom) := by
  unfold Hamper.checkRom
  dsimp only
  split
  · exact logEntry (a.trans (of_kept (by rfl))) _ _ _
  · exact a.trans (of_kept (by rfl))

theorem save (a : h.Works h') (mono : Stamp) : h.Works (h'.save mono) := a.trans (of_kept (by rfl))

theorem offer (a : h.Works h') (mono t : Stamp) : h.Works (h'.offer mono t).2.2 := by
  unfold Hamper.offer
  dsimp only
  split_ifs
  · exact a
  · exact closePeriods (logEntry (a.trans (of_kept (by rfl))) _ _ _) _
  · exact a
  · exact closePeriods (logEntry (a.trans (of_kept (by rfl))) _ _ _) _
  · exact a.logEntry _ _ _

theorem offered (a : h.Works h') (at' : Option Int) : h.Works { h' with offeredAt := at' } := a.trans (of_kept (by rfl))

end Hamper.Works

section
variable (h : Hamper)

/-- A snapshot counts; the largest count is followed by 0 (R547). -/
theorem Hamper.follows_snapshot (nonce : Bytes) : h.Follows (h.snapshot nonce).2 :=
  ⟨fun hs => ⟨hs, rfl, rfl⟩, le_rfl, fun hn => by
    change h.snapCount ≤ (h.snapCount + 1) % 4294967296
    omega⟩

end

/-- The fuses may become g (R579, R580): the life-cycle state ascends, and a key that was programmed stays or is destroyed. -/
structure Fuses.Follows (f g : Fuses) : Prop where
  lifeCycle : f.lifeCycle ≤ 3 → g.lifeCycle ≤ 3 ∧ f.lifeCycle ≤ g.lifeCycle
  roleKey : ∀ role, (f.roleKey role).status ≠ 0 → g.roleKey role = f.roleKey role ∨ (g.roleKey role).status = 3

namespace Fuses.Follows

variable {f g : Fuses}

theorem refl (f : Fuses) : f.Follows f := ⟨fun h => ⟨h, le_rfl⟩, fun _ _ => .inl rfl⟩

/-- The keys stay and the life-cycle state ascends within Table 15.15. -/
theorem of_roleKey (hlc : f.lifeCycle ≤ 3 → g.lifeCycle ≤ 3 ∧ f.lifeCycle ≤ g.lifeCycle)
    (hkey : ∀ role, g.roleKey role = f.roleKey role) : f.Follows g :=
  ⟨hlc, fun role _ => .inl (hkey role)⟩

end Fuses.Follows

@[simp] theorem Fuses.roleKey_destroyKeys (f : Fuses) (role : Nat) : f.destroyKeys.roleKey role = destroyedKey := by
  simp only [Fuses.roleKey, Fuses.destroyKeys, ite_self]

theorem Fuses.follows_destroyKeys (f : Fuses) : f.Follows f.destroyKeys :=
  ⟨fun h => ⟨h, le_rfl⟩, fun role _ => .inr (by rw [Fuses.roleKey_destroyKeys]; rfl)⟩

@[simp] theorem Fuses.roleKey_setKey_self (f : Fuses) (role : Nat) (k : RoleKey) : (f.setKey role k).roleKey role = k := by
  unfold Fuses.setKey Fuses.roleKey
  split_ifs <;> rfl

/-- A key of another role stays; the roles of R580 are 1 to 3. -/
theorem Fuses.roleKey_setKey_other (f : Fuses) {role other : Nat} (k : RoleKey) (h : f.roleKey other ≠ f.roleKey role) :
    (f.setKey role k).roleKey other = f.roleKey other := by
  unfold Fuses.setKey Fuses.roleKey at *
  split_ifs at * <;> first | rfl | exact absurd rfl h

theorem Fuses.lifeCycle_setKey (f : Fuses) (role : Nat) (k : RoleKey) : (f.setKey role k).lifeCycle = f.lifeCycle := by
  unfold Fuses.setKey
  split_ifs <;> rfl

/-- Only an unprogrammed key is given. -/
theorem Fuses.follows_setKey (f : Fuses) {role : Nat} (k : RoleKey) (h : (f.roleKey role).status = 0) :
    f.Follows (f.setKey role k) :=
  ⟨fun hlc => by rw [f.lifeCycle_setKey]; exact ⟨hlc, le_rfl⟩, fun other hother => .inl <|
    f.roleKey_setKey_other k fun heq => hother (heq ▸ h)⟩

theorem Fuses.follows_program (f : Fuses) (word : Option Nat) (readback : Nat) : f.Follows (f.program word readback).2 := by
  unfold Fuses.program
  cases word with
  | none => exact .refl f
  | some w =>
    dsimp only
    split_ifs with hrole hstatus hkey hread
    · exact .refl f
    · exact .refl f
    · exact .refl f
    · exact f.follows_setKey _ (not_not.mp hstatus)
    · exact f.follows_setKey _ (not_not.mp hstatus)

/-! ## Operations that reach no fuse -/

@[simp] theorem State.freeSession_fuses (s : State) (k : SessionNo) : (s.freeSession k).fuses = s.fuses := by
  unfold State.freeSession
  dsimp only
  split <;> rfl

@[simp] theorem State.freeSessions_fuses (s : State) : s.freeSessions.fuses = s.fuses :=
  foldl_keeps State.fuses State.freeSession_fuses _ s

@[simp] theorem State.leaveBalls_fuses (s : State) : s.leaveBalls.fuses = s.fuses := by
  unfold State.leaveBalls
  split <;> rfl

@[simp] theorem State.tapLoad_fuses (s : State) (code : Nat) : (s.tapLoad code).fuses = s.fuses := by
  unfold State.tapLoad
  dsimp only
  rw [State.setRst_fuses, apply_ite State.fuses, State.leaveBalls_fuses, ite_self]

@[simp] theorem State.patchCheck_fuses (s : State) (c : PatchCheck) : (s.patchCheck c).fuses = s.fuses := by
  unfold State.patchCheck
  dsimp only
  split
  · exact State.raise_fuses _ _ _ _ _ _
  · rfl

@[simp] theorem State.coldReset_fuses (s : State) (cause : Nat) (detail : Bytes) (hold : Nat) :
    (s.coldReset cause detail hold).fuses = s.fuses := rfl

/-- A transition raises the life-cycle state, or leaves it where the fuse set does not read back. -/
theorem State.follows_transition (s : State) {new : Nat} (readback : Bool) (h : s.fuses.lifeCycle < new) :
    s.fuses.Follows (s.transition new readback).fuses := by
  unfold State.transition
  split
  · subst new
    cases readback with
    | false => exact .of_roleKey (fun hlc => ⟨hlc, le_rfl⟩) fun _ => rfl
    | true => exact .of_roleKey (fun _ => ⟨Nat.le_succ 2, h.le⟩) fun _ => rfl
  · refine ⟨fun hlc => ⟨le_rfl, hlc⟩, fun role hrole => .inr ?_⟩
    have hkey := (s.fuses.follows_destroyKeys.roleKey role hrole)
    have : s.fuses.destroyKeys.roleKey role = destroyedKey := s.fuses.roleKey_destroyKeys role
    exact congrArg RoleKey.status this

/-! ## The outcome of every command -/

/-- r is a next state that keeps the queue, the fuses and the hamper of s. -/
def Digital (s : State) (r : Res) : Prop :=
  ∃ t, r = .next t ∧ t.pending = s.pending ∧ t.fuses = s.fuses ∧ t.hamper = s.hamper

theorem Digital.of_ok (s : State) : Digital s (ok s) := ⟨s, rfl, rfl, rfl, rfl⟩

theorem Digital.of_guarded (c : Prop) [Decidable c] (s t : State) : Digital s (guarded c s t) := by
  by_cases h : c
  · exact ⟨_, guarded_pos s h, rfl, rfl, rfl⟩
  · exact ⟨_, guarded_neg s h, rfl, rfl, rfl⟩

/-- r is a next state that keeps the queue and the hamper of s, and whose fuses may follow those of s. -/
def BlowsFuses (s : State) (r : Res) : Prop :=
  ∃ t, r = .next t ∧ t.pending = s.pending ∧ t.hamper = s.hamper ∧ s.fuses.Follows t.fuses

theorem BlowsFuses.of_guardedFuse {c : Prop} [Decidable c] {s t : State} (h : c → s.fuses.Follows t.fuses) :
    BlowsFuses s (guardedFuse c s t) := by
  by_cases hc : c
  · exact ⟨_, guardedFuse_pos s hc, rfl, rfl, h hc⟩
  · exact ⟨_, guardedFuse_neg s hc, rfl, rfl, .refl _⟩

/-- r is a next state that keeps the queue and the fuses of s, and whose hamper may follow that of s. -/
def OfHamper (s : State) (r : Res) : Prop :=
  ∃ t, r = .next t ∧ t.pending = s.pending ∧ t.fuses = s.fuses ∧ s.hamper.Follows t.hamper

theorem OfHamper.of_ok (s : State) : OfHamper s (ok s) := ⟨s, rfl, rfl, rfl, .refl _⟩

theorem OfHamper.of_guardedHamper {c : Prop} [Decidable c] {s t : State} (h : s.hamper.Follows t.hamper) :
    OfHamper s (guardedHamper c s t) := by
  by_cases hc : c
  · exact ⟨_, guardedHamper_pos s hc, rfl, rfl, h⟩
  · exact ⟨_, guardedHamper_neg s hc, rfl, rfl, .refl _⟩

theorem OfHamper.of_localCommand {s : State} {frame : Bytes} {cmd : Nat} {f : Bytes → Hamper → Nat × Bytes × Hamper}
    (h : ∀ b, s.hamper.Follows (f b s.hamper).2.2) : OfHamper s (s.localCommand frame cmd f) := by
  unfold State.localCommand
  split
  · exact .of_ok s
  · exact .of_guardedHamper (h _)

/-- What only an unsealed hamper takes may change its record and its fuse sets. -/
theorem Hamper.follows_unsealedOnly {h : Hamper} {f : Bytes → Hamper → Nat × Bytes × Hamper} {b : Bytes}
    (hf : h.sealed = false → h.Follows (f b h).2.2) : h.Follows (unsealedOnly f b h).2.2 := by
  unfold unsealedOnly
  split
  · exact .refl h
  · exact hf (Bool.not_eq_true _ ▸ ‹_›)

/-- Every command of the digital die that blows no fuse. -/
theorem exec_digital (s : State) (i : Instr) (hdie : hamperDie i = false) (hfuse : blowsFuses i = false) :
    Digital s (exec i s) := by
  cases i
  case hamperStart | hamperSample | flowPulse | tamper | tamperEnd | romCheck | readRegisters | readLog | timeOffer
      | localReadId | localReadRegisters | localReadLog | localTimeOffer | writeConfig | programCal | setClock
      | sealHamper | vhmpLoss => cases hdie
  case fuseLoadDone | lcStateCommit | keyProg | lcAdvance => cases hfuse
  case eventRecordArrives | headerDecision | grantFormDecode | mgmtTimeout | saKeyWrite | erleMeasurementComplete
      | sweepSetupEnd | bandComplete | cellUpdate | focusComplete | lastCaptureEnd | readoutEnd | grantSend | itinArm
      | flowControlWrite | flowWriteback | delayRespRx | commitCheckStart | proxyDispatch | entryRefused
      | faultCycleDecision | faultReset | faultInjectFire | perfLevelRampDone =>
    -- what the command names is not there, or a guard
    dsimp only [exec, execEventRecordArrives, execHeaderDecision, execGrantFormDecode, execMgmtTimeout, execSaKeyWrite,
      execErleMeasurementComplete, execSweepSetupEnd, execBandComplete, execCellUpdate, execFocusComplete,
      execLastCaptureEnd, execReadoutEnd, execGrantSend, execItinArm, execFlowControlWrite, execFlowWriteback,
      execDelayRespRx, execCommitCheckStart, execProxyDispatch, execEntryRefused, execFaultCycleDecision,
      execFaultReset, execFaultInjectFire, execPerfLevelRampDone]
    split
    · exact .of_ok s
    · exact .of_guarded _ _ _
  case quietGateFailCount =>
    dsimp only [exec, execQuietGateFailCount]
    split <;> exact .of_guarded _ _ _
  case paceEvaluation k _ => cases k <;> exact .of_guarded _ _ _
  case sweepRecordEnd =>
    dsimp only [exec, execSweepRecordEnd]
    split
    · exact .of_ok s
    · split
      · split
        · exact .of_ok s
        · exact .of_guarded _ _ _
      · exact .of_guarded _ _ _
  case stationAlignedTx =>
    dsimp only [exec, execStationAlignedTx]
    split
    · exact .of_ok s
    · split
      · split
        · exact .of_ok s
        · exact .of_guarded _ _ _
      · split
        · split
          · exact .of_ok s
          · exact .of_guarded _ _ _
        · split <;> exact .of_guarded _ _ _
  all_goals exact .of_guarded _ _ _

/-- The commands that blow fuses. -/
theorem exec_blowsFuses (s : State) (i : Instr) (h : blowsFuses i = true) : BlowsFuses s (exec i s) := by
  cases i
  case fuseLoadDone straps patch =>
    refine .of_guardedFuse fun _ => ?_
    dsimp only
    rw [State.arm_fuses, State.patchCheck_fuses]
    rw [apply_ite State.fuses, State.raise_fuses, ite_self, apply_ite State.fuses, State.wr_fuses, ite_self]
    change s.fuses.Follows (if s.fuses.lifeCycle = 3 then s.fuses.destroyKeys else s.fuses)
    split
    · exact s.fuses.follows_destroyKeys
    · exact .refl _
  case lcStateCommit readback =>
    refine .of_guardedFuse fun ⟨_, _, hup⟩ => ?_
    have hfollows := State.follows_transition s.freeSessions (new := s.rdN Reg.LC_STATE_request) readback
      (by rwa [State.freeSessions_fuses])
    rwa [State.freeSessions_fuses] at hfollows
  case keyProg readback =>
    refine .of_guardedFuse fun _ => ?_
    dsimp only
    split
    · exact .refl _
    · exact s.fuses.follows_program _ readback
  case lcAdvance =>
    refine .of_guardedFuse fun _ => ?_
    dsimp only
    split
    · rename_i hblank
      rw [State.coldReset_fuses]
      refine .of_roleKey (fun _ => ⟨Nat.le_add_left 1 2, ?_⟩) fun role => ?_
      · rw [State.tapLoad_fuses] at hblank
        exact hblank.1.le.trans (Nat.zero_le _)
      · simp [State.setFuses, Fuses.roleKey]
    · rw [State.tapLoad_fuses]
      exact .refl _
  all_goals cases h

/-- The commands of the hamper die. -/
theorem exec_ofHamper (s : State) (i : Instr) (h : hamperDie i = true) : OfHamper s (exec i s) := by
  have hself : s.hamper.Works s.hamper := .refl _
  cases i
  case hamperStart href rom =>
    refine .of_guardedHamper (Hamper.Works.follows ?_)
    exact Hamper.Works.checkRom (Hamper.Works.flag (Hamper.Works.logEntry (hself.trans (.of_kept (by rfl))) _ _ _) _ _ _ _ _ _) _ _
  case hamperSample m =>
    refine .of_guardedHamper (Hamper.Works.follows ?_)
    exact (((((hself.measure s.time.mono m).samplePath s.time.mono 0).samplePath s.time.mono 1).closePeriods
      s.time.mono).save s.time.mono).trans (.of_kept (by rfl))
  case flowPulse | vhmpLoss => exact .of_guardedHamper (Hamper.Works.follows (.of_kept (by rfl)))
  case tamper | tamperEnd =>
    exact .of_guardedHamper (Hamper.Works.follows (Hamper.Works.logEntry (hself.trans (.of_kept (by rfl))) _ _ _))
  case romCheck rom => exact .of_guardedHamper (hself.checkRom _ rom).follows
  case readRegisters frame =>
    dsimp only [exec, execReadRegisters]
    split
    · exact .of_ok s
    · rename_i b _
      exact .of_guardedHamper (s.hamper.follows_snapshot b)
  case readLog frame =>
    dsimp only [exec, execReadLog]
    split
    · exact .of_ok s
    · exact .of_guardedHamper hself.follows
  case timeOffer frame =>
    dsimp only [exec, execTimeOffer]
    split
    · exact .of_ok s
    · rename_i b _
      exact .of_guardedHamper ((hself.offer s.time.mono (stampOf b)).offered _).follows
  case localReadId frame =>
    dsimp only [exec, execLocalReadId]
    refine .of_localCommand fun b => ?_
    split <;> exact hself.follows
  case localReadRegisters frame =>
    dsimp only [exec, execLocalReadRegisters]
    refine .of_localCommand fun b => ?_
    split
    · exact hself.follows
    · exact Hamper.follows_snapshot _ _
  case localReadLog frame =>
    dsimp only [exec, execLocalReadLog]
    refine .of_localCommand fun b => ?_
    split <;> exact hself.follows
  case localTimeOffer frame =>
    dsimp only [exec, execLocalTimeOffer]
    split
    · exact .of_ok s
    · refine .of_localCommand fun b => ?_
      split
      · exact hself.follows
      · exact (hself.offer s.time.mono (stampOf b)).follows
  case writeConfig frame =>
    dsimp only [exec, execWriteConfig]
    refine .of_localCommand fun b => Hamper.follows_unsealedOnly fun hopen => ?_
    split
    · exact hself.follows
    · exact .of_unsealed hopen (Nat.le_succ _) rfl
  case programCal frame readback =>
    dsimp only [exec, execProgramCal]
    refine .of_localCommand fun b => Hamper.follows_unsealedOnly fun hopen => ?_
    split
    · exact hself.follows
    · split
      · exact hself.follows
      · split <;> exact .of_unsealed hopen (Nat.le_succ _) rfl
  case setClock frame =>
    dsimp only [exec, execSetClock]
    refine .of_localCommand fun b => Hamper.follows_unsealedOnly fun hopen => ?_
    split
    · exact hself.follows
    · exact .of_unsealed hopen (Nat.le_succ _) rfl
  case sealHamper frame =>
    dsimp only [exec, execSealHamper]
    refine .of_localCommand fun b => Hamper.follows_unsealedOnly fun hopen => ?_
    split_ifs
    · exact hself.follows
    · exact .of_unsealed hopen (Nat.le_succ _) rfl
    · exact hself.follows
  all_goals cases h

/-! ## Steps -/

theorem step_of_cons {s : State} {i : Instr} {l : List Instr} (h : s.pending = i :: l) :
    step s = exec i { s with pending := l } := by
  rw [step, h]

theorem step_of_nil {s : State} (h : s.pending = []) : step s = .next s.tick := by
  rw [step, h]

/-- What settling transmissions leaves alone, a tick leaves alone. -/
theorem State.tick_keeps {α : Type} (g : State → α) (htime : ∀ (s : State) f, g (s.setTime f) = g s)
    (hsettle : ∀ (s : State) p, g (s.settle p) = g s) (s : State) : g s.tick = g s :=
  (foldl_keeps g hsettle _ _).trans (htime s _)

@[simp] theorem State.tick_pending (s : State) : s.tick.pending = s.pending :=
  State.tick_keeps _ State.setTime_pending State.settle_pending s
@[simp] theorem State.tick_fuses (s : State) : s.tick.fuses = s.fuses :=
  State.tick_keeps _ State.setTime_fuses State.settle_fuses s
@[simp] theorem State.tick_hamper (s : State) : s.tick.hamper = s.hamper :=
  State.tick_keeps _ State.setTime_hamper State.settle_hamper s
@[simp] theorem State.tick_stations (s : State) : s.tick.stations = s.stations :=
  State.tick_keeps _ State.setTime_stations State.settle_stations s
@[simp] theorem State.tick_out (s : State) : s.tick.out = s.out :=
  State.tick_keeps _ State.setTime_out State.settle_out s

/-- 4 ns pass on the counter that no slew moves. -/
theorem State.tick_mono (s : State) : s.tick.time.mono = s.time.mono + 4 := by
  have htime : s.tick.time = s.time.tick := foldl_keeps State.time State.settle_time _ _
  rw [htime, TimeState.tick]

/-- What a step can do: the queue loses its front, the hamper changes by the commands of its die alone, and the fuses by
those that blow them. -/
theorem step_cases (s : State) : ∃ t, step s = .next t ∧ t.pending = s.pending.tail
    ∧ ((∃ i, s.pending.head? = some i ∧ hamperDie i = true ∧ s.hamper.Follows t.hamper) ∨ t.hamper = s.hamper)
    ∧ ((∃ i, s.pending.head? = some i ∧ blowsFuses i = true ∧ s.fuses.Follows t.fuses) ∨ t.fuses = s.fuses) := by
  cases hq : s.pending with
  | nil => exact ⟨s.tick, step_of_nil hq, by rw [s.tick_pending, hq]; rfl, .inr s.tick_hamper, .inr s.tick_fuses⟩
  | cons i l =>
    rw [step_of_cons hq]
    cases hdie : hamperDie i with
    | true =>
      obtain ⟨t, ht, hpend, hfuses, hhamper⟩ := exec_ofHamper { s with pending := l } i hdie
      exact ⟨t, ht, hpend, .inl ⟨i, rfl, hdie, hhamper⟩, .inr hfuses⟩
    | false =>
      cases hblow : blowsFuses i with
      | true =>
        obtain ⟨t, ht, hpend, hhamper, hfuses⟩ := exec_blowsFuses { s with pending := l } i hblow
        exact ⟨t, ht, hpend, .inr hhamper, .inl ⟨i, rfl, hblow, hfuses⟩⟩
      | false =>
        obtain ⟨t, ht, hpend, hfuses, hhamper⟩ := exec_digital { s with pending := l } i hdie hblow
        exact ⟨t, ht, hpend, .inr hhamper, .inr hfuses⟩

theorem hamper_follows_of_step {s t : State} (h : step s = .next t) : s.hamper.Follows t.hamper := by
  obtain ⟨u, hu, -, hhamper, -⟩ := step_cases s
  cases hu.symm.trans h
  obtain ⟨-, -, -, hfollows⟩ | heq := hhamper
  · exact hfollows
  · exact heq ▸ .refl _

theorem fuses_follow_of_step {s t : State} (h : step s = .next t) : s.fuses.Follows t.fuses := by
  obtain ⟨u, hu, -, -, hfuses⟩ := step_cases s
  cases hu.symm.trans h
  obtain ⟨-, -, -, hfollows⟩ | heq := hfuses
  · exact hfollows
  · exact heq ▸ .refl _

/-- Settles O1: the front of the queue is the command pushed, its rest the queue before. -/
theorem stepRunsFront : Obligations.StepRunsFront := fun i s => step_of_cons (s := s.push i) rfl

/-- Settles O2: with no command waiting a step is a tick, which settles transmissions and moves the clocks alone. -/
theorem emptyQueueTicks : Obligations.EmptyQueueTicks := fun s h =>
  ⟨step_of_nil h, s.tick_mono, s.tick_fuses, s.tick_hamper, s.tick_stations, s.tick_out⟩

/-- Settles O3: a tick finds the queue empty, and every command keeps the rest of it. -/
theorem queueFirstInFirstOut : Obligations.QueueFirstInFirstOut := by
  intro s t h
  obtain ⟨u, hu, hpend, -⟩ := step_cases s
  cases hu.symm.trans h
  exact hpend

/-- Settles O4: a tick and every command answer a next state. -/
theorem everyStepCompletes : Obligations.EveryStepCompletes := fun s =>
  let ⟨t, ht, _⟩ := step_cases s
  ⟨t, ht⟩

/-- Settles O5: a step that changes the hamper runs a command of its die. -/
theorem hamperIsolated : Obligations.HamperIsolated := by
  intro s t h hnone
  obtain ⟨u, hu, -, hhamper, -⟩ := step_cases s
  cases hu.symm.trans h
  obtain ⟨i, hi, hdie, -⟩ | heq := hhamper
  · exact absurd hdie (by simp [hnone i hi])
  · exact heq

/-- Settles O6: a step that changes a fuse runs a command that blows them, and the keys follow R580. -/
theorem fusesHold : Obligations.FusesHold := by
  refine ⟨fun s t h hnone => ?_, fun s t role h hrole => (fuses_follow_of_step h).roleKey role hrole⟩
  obtain ⟨u, hu, -, -, hfuses⟩ := step_cases s
  cases hu.symm.trans h
  obtain ⟨i, hi, hblow, -⟩ | heq := hfuses
  · exact absurd hblow (by simp [hnone i hi])
  · exact heq

/-- The bytes of a number above those kept make no difference. -/
theorem be_mod {n m : Nat} (v : Nat) (h : 256 ^ n ∣ m) : be n (v % m) = be n v := by
  induction n with
  | zero => rfl
  | succ n ih =>
    have hbyte : BitVec.ofNat 8 (v % m / 256 ^ n) = BitVec.ofNat 8 (v / 256 ^ n) := by
      obtain ⟨k, rfl⟩ := h
      refine BitVec.eq_of_toNat_eq ?_
      rw [BitVec.toNat_ofNat, BitVec.toNat_ofNat, pow_succ, mul_assoc, Nat.mod_mul_right_div_self,
        Nat.mod_mul_right_mod]
    rw [be, be, hbyte, ih ((pow_dvd_pow 256 n.le_succ).trans h)]

theorem beInt_natCast (n v : Nat) : beInt n (v : Int) = be n v := by
  have hmod : ((v : Int) % (256 ^ n : Int)).toNat = v % 256 ^ n := by
    rw [← Nat.cast_ofNat, ← Nat.cast_pow, ← Int.natCast_mod, Int.toNat_natCast]
  rw [beInt, hmod, be_mod v dvd_rfl]

/-- Settles O7: LC_STATE /01 is computed from the fuses, and their state ascends within Table 15.15. -/
theorem lifeCycleAscends : Obligations.LifeCycleAscends := by
  refine ⟨fun s => ?_, fun s t hok h => ?_⟩
  · have hread : s.readObject Reg.LC_STATE_state 0 0 = beInt 1 s.fuses.lifeCycle := rfl
    rw [hread, beInt_natCast]
  · obtain ⟨hle, hup⟩ := (fuses_follow_of_step h).lifeCycle (of_decide_eq_true hok)
    exact ⟨decide_eq_true hle, hup⟩

/-- Settles O8: every step takes the hamper to one that may follow it. -/
theorem hamperSealAndCountsHold : Obligations.HamperSealAndCountsHold :=
  ⟨fun _ _ h => (hamper_follows_of_step h).ofSealed,
    fun _ _ h => ⟨(hamper_follows_of_step h).logHead, (hamper_follows_of_step h).snapCount⟩⟩

/-- Settles O10: both stores are empty, so every object reads its default. -/
theorem resetState : Obligations.ResetState := by
  refine ⟨fun o p e => ⟨?_, rfl⟩, ⟨rfl, rfl, rfl, rfl, rfl, rfl, rfl⟩, fun p => rfl, fun x => .inl rfl, fun k => ?_, fun q => rfl⟩
  · exact Int.add_zero _
  · simp [State.session, State.reset]

end Sys2Proof.Machine
end

section
/-! Encoders and decoders (Table 3.1, Table 9.8, R25, R140, R373, R376): each decoder gives back what was encoded. -/

namespace Sys2Proof.Machine

set_option Elab.async false

/-! ## Check sequences -/

theorem crc16_lt (b : Bytes) : crc16 b < 65536 := by
  refine List.foldlRecOn (motive := (· < 65536)) b _ (by decide) fun r hr x _ => ?_
  refine List.foldlRecOn (motive := (· < 65536)) (List.range 8) _ hr fun r _ i _ => ?_
  have hlt : r * 2 % 2 ^ 16 < 2 ^ 16 := Nat.mod_lt _ (by decide)
  dsimp only
  split
  · exact Nat.xor_lt_two_pow hlt (by decide)
  · exact hlt

/-- The two CRCs of 32 bits, whichever their polynomial. -/
theorem crcLsb_lt {poly : Nat} (hpoly : poly < 4294967296) (b : Bytes) :
    b.foldl (crcLsbByte poly) 0xFFFFFFFF ^^^ 0xFFFFFFFF < 4294967296 := by
  refine Nat.xor_lt_two_pow (n := 32)
    (List.foldlRecOn (motive := (· < 4294967296)) b _ (by decide) fun r hr x _ => ?_) (by decide)
  refine List.foldlRecOn (motive := (· < 4294967296)) (List.range 8) _
    (Nat.xor_lt_two_pow (n := 32) hr (by omega)) fun r hr i _ => ?_
  have hlt : r >>> 1 < 2 ^ 32 := by rw [Nat.shiftRight_eq_div_pow]; omega
  split
  · exact Nat.xor_lt_two_pow hlt hpoly
  · exact hlt

theorem crc32c_lt (b : Bytes) : crc32c b < 4294967296 := crcLsb_lt (by decide) b

theorem crc32_lt (b : Bytes) : crc32 b < 4294967296 := crcLsb_lt (by decide) b

/-! ## Line-frame headers (R107, R108) -/

theorem field_eq (w hi lo : Nat) : field w hi lo = w / 2 ^ lo % 2 ^ (hi + 1 - lo) := by
  rw [field, Nat.shiftRight_eq_div_pow]

section
variable (h : Header)

/-- The bits of a header above its CHECK. -/
theorem headerWord_div : h.word / 65536 = h.high := by
  have := crc16_lt (be 14 h.high)
  rw [Header.word]
  omega

theorem headerWord_mod : h.word % 65536 = crc16 (be 14 h.high) := by
  have := crc16_lt (be 14 h.high)
  rw [Header.word]
  omega

theorem checkMatches_headerWord : checkMatches h.word = true := by
  rw [checkMatches, field_eq, Nat.shiftRight_eq_div_pow, beq_iff_eq]
  change crc16 (be 14 (h.word / 65536)) = h.word / 1 % 65536
  rw [headerWord_div, Nat.div_one, headerWord_mod]

theorem headerHigh_lt : h.high < 2 ^ 112 := by
  rw [Header.high]
  omega

theorem headerWord_lt : h.word < 2 ^ 128 := by
  have := headerWord_div h
  have := headerHigh_lt h
  omega

/-- A field of a header word lies in the bits above CHECK. -/
theorem field_headerWord {hi lo : Nat} (hlo : 16 ≤ lo) :
    field h.word hi lo = h.high / 2 ^ (lo - 16) % 2 ^ (hi + 1 - lo) := by
  obtain ⟨k, rfl⟩ := Nat.exists_eq_add_of_le hlo
  rw [field_eq, Nat.add_sub_cancel_left, pow_add, ← Nat.div_div_eq_div_mul]
  change h.word / 65536 / 2 ^ k % _ = _
  rw [headerWord_div]

end

theorem ofWord_headerWord (h : Header) (hwf : h.wf = true) : Header.ofWord h.word = h := by
  obtain ⟨ver, dst, src, type, pace, length, colour, sa, seed, tag, frag, fragNo, seq⟩ := h
  simp only [Header.wf, fits, Bool.and_eq_true, decide_eq_true_eq, Nat.reducePow] at hwf
  simp (disch := decide) only [Header.ofWord, field_headerWord, Header.high, Header.mk.injEq, Nat.reduceSub, Nat.reduceAdd,
    Nat.reducePow]
  refine ⟨?_, ?_, ?_, ?_, ?_, ?_, ?_, ?_, ?_, ?_, ?_, ?_, ?_⟩ <;> omega

/-! ## Parcels (R397, R398) -/

theorem length_parcelHeader (p : Parcel) : p.header.length = 8 := by simp [Parcel.header]

theorem length_parcelBytes (p : Parcel) : p.bytes.length = 12 + p.payload.length := by
  simp [Parcel.bytes, length_parcelHeader]; omega

theorem bit_eq_decide (w i : Nat) : bit w i = decide (w / 2 ^ i % 2 = 1) := Nat.testBit_eq_decide_div_mod_eq

theorem b2n_lt (b : Bool) : b2n b < 2 := by cases b <;> decide

theorem decide_b2n (b : Bool) : decide (b2n b = 1) = b := by cases b <;> rfl

theorem parcelCrcOk_bytes (p : Parcel) : parcelCrcOk p.bytes = true := by
  have hcut : p.bytes.length - 4 = (p.header ++ p.payload).length := by
    rw [length_parcelBytes, List.length_append, length_parcelHeader]; omega
  have htail : uAt p.bytes (p.header ++ p.payload).length 4 = crc32c (p.header ++ p.payload) % 256 ^ 4 := by
    simpa [Parcel.bytes] using uAt_append_be (p.header ++ p.payload) [] 4 (crc32c (p.header ++ p.payload))
  rw [parcelCrcOk, hcut, htail, Nat.mod_eq_of_lt (show _ < 256 ^ 4 from crc32c_lt _), Parcel.bytes, List.take_left, beq_self_eq_true]

theorem Parcel.ofBytes_bytes (p : Parcel) (htype : p.type < 16) (hvc : p.vc < 4) (hdir : p.dir < 2) (hdev : p.devnum < 16)
    (hseq : p.lseq < 4096) (hlen : p.payload.length < 4096) : Parcel.ofBytes p.bytes = some p := by
  have hl := b2n_lt p.isLocal
  have hb := b2n_lt p.bcast
  have hbytes : ∃ c, p.bytes = be 1 (p.type * 16 + p.vc * 4 + p.dir * 2 + b2n p.isLocal)
      ++ (be 1 (p.devnum * 16 + b2n p.bcast * 8) ++ (be 2 p.lseq ++ (be 2 p.payload.length ++ c)))
      ∧ c.drop 2 = p.payload ++ be 4 (crc32c (p.header ++ p.payload)) :=
    ⟨[0, 0] ++ (p.payload ++ be 4 (crc32c (p.header ++ p.payload))), by simp [Parcel.bytes, Parcel.header], rfl⟩
  have hlength := length_parcelBytes p
  obtain ⟨c, hbytes, hc⟩ := hbytes
  have h0 : uAt p.bytes 0 1 = p.type * 16 + p.vc * 4 + p.dir * 2 + b2n p.isLocal := by
    rw [hbytes]
    exact (uAt_append_be [] _ 1 _).trans (Nat.mod_eq_of_lt (by omega))
  have h1 : uAt p.bytes 1 1 = p.devnum * 16 + b2n p.bcast * 8 := by
    rw [hbytes, ← List.append_assoc]
    exact (uAt_append_be (be 1 _) _ 1 _).trans (Nat.mod_eq_of_lt (by omega))
  have h2 : uAt p.bytes 2 2 = p.lseq := by
    rw [hbytes, ← List.append_assoc, ← List.append_assoc]
    exact (uAt_append_be (be 1 _ ++ be 1 _) _ 2 _).trans (Nat.mod_eq_of_lt (by omega))
  have h4 : uAt p.bytes 4 2 = p.payload.length := by
    rw [hbytes, ← List.append_assoc, ← List.append_assoc, ← List.append_assoc]
    exact (uAt_append_be (be 1 _ ++ be 1 _ ++ be 2 _) _ 2 _).trans (Nat.mod_eq_of_lt (by omega))
  have h8 : slice p.bytes 8 p.payload.length = p.payload := by
    have hdrop : p.bytes.drop 8 = c.drop 2 := by rw [hbytes]; rfl
    rw [slice, hdrop, hc, List.take_left]
  rw [Parcel.ofBytes, hlength, Nat.add_sub_cancel_left, h0, h1, h2, h4, h8, if_neg (by omega), Nat.mod_eq_of_lt hseq]
  simp only [bit_eq_decide]
  have e1 : (p.type * 16 + p.vc * 4 + p.dir * 2 + b2n p.isLocal) / 2 ^ 0 % 2 = b2n p.isLocal := by omega
  have e2 : (p.devnum * 16 + b2n p.bcast * 8) / 2 ^ 3 % 2 = b2n p.bcast := by omega
  have e3 : (p.type * 16 + p.vc * 4 + p.dir * 2 + b2n p.isLocal) / 16 = p.type := by omega
  have e4 : (p.type * 16 + p.vc * 4 + p.dir * 2 + b2n p.isLocal) / 4 % 4 = p.vc := by omega
  have e5 : (p.type * 16 + p.vc * 4 + p.dir * 2 + b2n p.isLocal) / 2 % 2 = p.dir := by omega
  have e6 : (p.devnum * 16 + b2n p.bcast * 8) / 16 = p.devnum := by omega
  rw [e1, e2, e3, e4, e5, e6, decide_b2n, decide_b2n]

/-! ## TIME80 (R25) -/

theorem length_timeBytes (t : Stamp) : (timeBytes t).length = 10 := by simp [timeBytes, beInt]

theorem ofTime80_timeBytes {t : Stamp} (h0 : 0 ≤ t) (h : t < 281474976710656 * nsPerSec) : ofTime80 (timeBytes t) = some t := by
  obtain ⟨n, rfl⟩ := Int.eq_ofNat_of_zero_le h0
  have hn : n < 281474976710656 * 1000000000 := by
    have h' : (n : Int) < 281474976710656 * 1000000000 := h
    omega
  have hbytes : timeBytes (n : Int) = be 6 (n / 1000000000) ++ be 4 (n % 1000000000) := by
    rw [timeBytes, ← beInt_natCast, ← beInt_natCast]; rfl
  have hsec : uAt (timeBytes (n : Int)) 0 6 = n / 1000000000 := by
    rw [hbytes, ← List.nil_append (be 6 _)]
    exact (uAt_append_be [] _ 6 _).trans (Nat.mod_eq_of_lt (by omega))
  have hns : uAt (timeBytes (n : Int)) 6 4 = n % 1000000000 := by
    have := uAt_append_be (be 6 (n / 1000000000)) [] 4 (n % 1000000000)
    rw [length_be, List.append_nil] at this
    rw [hbytes, this]
    exact Nat.mod_eq_of_lt (by omega)
  rw [ofTime80, hsec, hns, if_pos (Nat.mod_lt _ (by decide)), nsPerSec]
  have hsum : ((n / 1000000000 : Nat) : Int) * 1000000000 + (n % 1000000000 : Nat) = n := by omega
  exact congrArg some hsum

/-! ## Protected payloads (R140) -/

theorem length_slice_eq {b : Bytes} {i n : Nat} (h : i + n ≤ b.length) : (slice b i n).length = n := by
  rw [slice, List.length_take, List.length_drop]; omega

theorem length_aesNextKey {k : Bytes} (rcon : Byte) (h : k.length = 16) : (aesNextKey k rcon).length = 16 := by
  have hw (i : Nat) (hi : i ≤ 12) : (slice k i 4).length = 4 := length_slice_eq (by omega)
  simp [aesNextKey, hw 0, hw 4, hw 8, hw 12]

theorem length_aes128 {key : Bytes} (block : Bytes) (h : key.length = 16) : (aes128 key block).length = 16 := by
  unfold aes128
  extract_lets x
  have hx : x.2.length = 16 :=
    List.foldlRecOn (motive := fun x : Bytes × Bytes => x.2.length = 16) _ _ h fun y hy rcon _ =>
      length_aesNextKey rcon hy
  rw [length_xorBytes, length_aesShift, length_aesNextKey _ hx, min_self]

theorem length_ccmStreams {key : Bytes} (nonce : Bytes) (n : Nat) (h : key.length = 16) :
    ((List.range n).flatMap fun i => ccmStream key nonce (i + 1)).length = 16 * n := by
  induction n with
  | zero => rfl
  | succ n ih => 
    rw [List.range_succ, List.flatMap_append, List.length_append, ih]
    simp [ccmStream, length_aes128 _ h]; omega

theorem length_ccmCrypt {key : Bytes} (nonce text : Bytes) (h : key.length = 16) :
    (ccmCrypt key nonce text).length = text.length := by
  rw [ccmCrypt, length_xorBytes, length_ccmStreams nonce _ h]; omega

/-- The key stream added twice is gone. -/
theorem ccmCrypt_ccmCrypt {key : Bytes} (nonce text : Bytes) (h : key.length = 16) :
    ccmCrypt key nonce (ccmCrypt key nonce text) = text := by
  have hlen := length_ccmCrypt nonce text h
  rw [ccmCrypt, hlen, ccmCrypt]
  exact xorBytes_cancel _ _ (by rw [length_ccmStreams nonce _ h]; omega)

theorem length_ccmMac {key : Bytes} (nonce aad plain : Bytes) (h : key.length = 16) :
    (ccmMac key nonce aad plain).length = 16 := by
  unfold ccmMac
  exact List.foldlRecOn (motive := fun y : Bytes => y.length = 16) _ _ (List.length_replicate ..) fun y _ b _ =>
    length_aes128 _ h

theorem length_ccmMic {key : Bytes} (nonce aad plain : Bytes) (h : key.length = 16) :
    (ccmMic key nonce aad plain).length = 8 := by
  simp [ccmMic, length_ccmMac _ _ _ h, ccmStream, length_aes128 _ h]

theorem length_ccmEncrypt {key : Bytes} (nonce aad plain : Bytes) (h : key.length = 16) :
    (ccmEncrypt key nonce aad plain).length = plain.length + 8 := by
  rw [ccmEncrypt, List.length_append, length_ccmCrypt nonce plain h, length_ccmMic nonce aad plain h]

theorem ccmDecrypt_ccmEncrypt {key : Bytes} (nonce aad plain : Bytes) (h : key.length = 16) :
    ccmDecrypt key nonce aad (ccmEncrypt key nonce aad plain) = some plain := by
  have hlen := length_ccmEncrypt nonce aad plain h
  have hcut : plain.length = (ccmCrypt key nonce plain).length := (length_ccmCrypt nonce plain h).symm
  rw [ccmDecrypt, hlen, Nat.add_sub_cancel, hcut, ccmEncrypt, List.take_left, List.drop_left]
  simp [ccmCrypt_ccmCrypt nonce plain h]

/-! ## Blocks of a parcel (R376) -/

theorem uAt_controlBlock {v : Nat} (b : Bytes) (h : v < 256) : uAt (controlBlock v b).payload 0 1 = v := by
  have := uAt_append_be [] (b ++ List.replicate (7 - b.length) 0) 1 v
  rw [pow_one, Nat.mod_eq_of_lt h] at this
  simpa [controlBlock] using this

theorem drop_controlBlock (v : Nat) (b : Bytes) :
    (controlBlock v b).payload.drop 1 = b ++ List.replicate (7 - b.length) 0 := by
  simp [controlBlock, be]

/-- A control block of a type of Table 9.2 is well formed. -/
theorem malformed_controlBlock {v : Nat} (b : Bytes) (hv : v < 256) (h : blockTypes.contains v = true) :
    (controlBlock v b).malformed = false := by
  rw [Block.malformed, uAt_controlBlock b hv, h]
  rfl

theorem BlockRx.take_start (l : List Bytes) {b : Bytes} (h : b.length = 7) :
    BlockRx.take ⟨none, l⟩ (controlBlock 0x78 b) = ⟨some b, l⟩ := by
  have hgood := malformed_controlBlock b (show 0x78 < 256 by decide) (by decide)
  rw [BlockRx.take, hgood, if_neg Bool.false_ne_true, uAt_controlBlock b (by decide), drop_controlBlock, h]
  exact (if_pos ⟨rfl, rfl⟩).trans (by rw [List.replicate_zero, List.append_nil])

theorem BlockRx.take_data (pre : Bytes) (l : List Bytes) (b : Bytes) :
    BlockRx.take ⟨some pre, l⟩ (dataBlock b) = ⟨some (pre ++ b), l⟩ := rfl

theorem BlockRx.take_terminate (pre : Bytes) (l : List Bytes) {b : Bytes} (h : b.length < 8) :
    BlockRx.take ⟨some pre, l⟩ (controlBlock (0x80 + b.length) b) = ⟨none, l ++ [pre ++ b]⟩ := by
  have hv : 0x80 + b.length < 256 := by omega
  have htype : blockTypes.contains (0x80 + b.length) = true := by
    simp only [blockTypes, List.contains_eq_mem, List.mem_append, List.mem_map, List.mem_range, decide_eq_true_eq]
    exact .inr ⟨b.length, h, rfl⟩
  rw [BlockRx.take, malformed_controlBlock b hv htype, if_neg Bool.false_ne_true, uAt_controlBlock b hv, drop_controlBlock]
  dsimp only
  rw [if_neg (show ¬ (controlBlock (128 + b.length) b).sync = 1 from (by decide : ¬ 2 = 1)), if_neg (by omega), if_pos (by omega), Nat.add_sub_cancel_left, List.take_left]

/-- The receiver completes the parcel of which it has the front. -/
theorem BlockRx.foldl_bodyBlocks {fuel : Nat} {b : Bytes} (h : b.length < fuel) (pre : Bytes) (l : List Bytes) :
    (bodyBlocks fuel b).foldl BlockRx.take ⟨some pre, l⟩ = ⟨none, l ++ [pre ++ b]⟩ := by
  induction fuel generalizing b pre with
  | zero => omega
  | succ fuel ih =>
    rw [bodyBlocks]
    split
    · rename_i hshort
      exact BlockRx.take_terminate pre l hshort
    · rw [List.foldl_cons, BlockRx.take_data, ih (by rw [List.length_drop]; omega), List.append_assoc,
        List.take_append_drop]

theorem BlockRx.foldl_parcelBlocks {b : Bytes} (h : 7 ≤ b.length) (l : List Bytes) :
    (parcelBlocks b).foldl BlockRx.take ⟨none, l⟩ = ⟨none, l ++ [b]⟩ := by
  rw [parcelBlocks, List.foldl_cons, BlockRx.take_start l (by rw [List.length_take]; omega),
    BlockRx.foldl_bodyBlocks (by rw [List.length_drop]; omega), List.take_append_drop]

/-! ## Lane scrambler (R373) -/

theorem laneDescramble_laneScramble (s : Nat) (l : List Bool) : laneDescramble s (laneScramble s l) = l := by
  induction l generalizing s with
  | nil => rfl
  | cons b l ih =>
    have hbit : ((((b != bit s 57) != bit s 38) != bit s 57) != bit s 38) = b := by
      cases b <;> cases bit s 57 <;> cases bit s 38 <;> rfl
    change (((laneScrambleBit s b).1 != bit s 57) != bit s 38) :: laneDescramble (laneScrambleBit s b).2 (laneScramble (laneScrambleBit s b).2 l) = b :: l
    rw [ih]
    exact congrArg (· :: l) hbit

/-- Settles O11: header, parcel, TIME80, CCM, blocks and lane bits, each from the lemma above that decodes it. -/
theorem messagesRoundTrip : Obligations.MessagesRoundTrip := by
  refine ⟨fun h hwf => ⟨ofWord_headerWord h hwf, checkMatches_headerWord h, headerWord_lt h⟩,
    fun p htype hvc hdir hdev hseq hlen =>
      ⟨p.ofBytes_bytes htype hvc hdir hdev hseq hlen, parcelCrcOk_bytes p, length_parcelBytes p⟩,
    fun t h0 h => ⟨ofTime80_timeBytes h0 h, length_timeBytes t⟩,
    fun key nonce aad plain h => ⟨ccmDecrypt_ccmEncrypt nonce aad plain h, length_ccmEncrypt nonce aad plain h⟩,
    fun a b ha hb => ?_, laneDescramble_laneScramble⟩
  rw [parcelsOf, List.foldl_append, BlockRx.foldl_parcelBlocks ha, BlockRx.foldl_parcelBlocks hb]
  rfl

end Sys2Proof.Machine
end

section
/-! The hamper die (chapter 14): what its commands do, and that they leave the digital die alone. -/

namespace Sys2Proof.Machine

set_option Elab.async false

/-! ## The digital die (R528) -/

/-- r is s but for the hamper and what has left the block. -/
def LeavesDie (s : State) (r : Res) : Prop := ∃ h l, r = .next { s with hamper := h, out := l }

theorem LeavesDie.of_ok (s : State) : LeavesDie s (ok s) := ⟨s.hamper, s.out, rfl⟩

theorem LeavesDie.of_guardedHamper {c : Prop} [Decidable c] {s t : State}
    (h : t = { s with hamper := t.hamper, out := t.out }) : LeavesDie s (guardedHamper c s t) := by
  by_cases hc : c
  · refine ⟨t.hamper, t.out, (guardedHamper_pos s hc).trans ?_⟩
    rw [h]
    rfl
  · exact ⟨s.hamper, s.out, guardedHamper_neg s hc⟩

theorem LeavesDie.of_localCommand (s : State) (frame : Bytes) (cmd : Nat) (f : Bytes → Hamper → Nat × Bytes × Hamper) :
    LeavesDie s (s.localCommand frame cmd f) := by
  unfold State.localCommand
  split
  · exact .of_ok s
  · exact .of_guardedHamper rfl

theorem exec_leavesDie (s : State) (i : Instr) (h : hamperDie i = true) : LeavesDie s (exec i s) := by
  cases i
  case hamperStart | hamperSample | flowPulse | tamper | tamperEnd | romCheck | vhmpLoss => exact .of_guardedHamper rfl
  case readRegisters | readLog | timeOffer =>
    dsimp only [exec, execReadRegisters, execReadLog, execTimeOffer]
    split
    · exact .of_ok s
    · exact .of_guardedHamper rfl
  case localReadId | localReadRegisters | localReadLog | writeConfig | programCal | setClock | sealHamper =>
    dsimp only [exec, execLocalReadId, execLocalReadRegisters, execLocalReadLog, execWriteConfig, execProgramCal,
      execSetClock, execSealHamper]
    exact .of_localCommand s _ _ _
  case localTimeOffer =>
    dsimp only [exec, execLocalTimeOffer]
    split
    · exact .of_ok s
    · exact .of_localCommand s _ _ _
  all_goals cases h

/-- Settles O56: a command of the hamper die ends in a state that differs in the hamper and the channels alone. -/
theorem hamperLeavesTheDie : Obligations.HamperLeavesTheDie := by
  intro i s t hdie h
  obtain ⟨k, l, hexec⟩ := exec_leavesDie s i hdie
  cases hexec.symm.trans h
  exact ⟨rfl, rfl, rfl, rfl, rfl, rfl, rfl, rfl, rfl, rfl, rfl, rfl, rfl, rfl, rfl, rfl, rfl, rfl⟩

/-! ## Time offers (R539 to R541) -/

section
variable (h : Hamper) (mono : Stamp)

theorem Hamper.closeOne_clock : (h.closeOne mono).clock = h.clock := by
  simp only [Hamper.closeOne, Hamper.logEntry]

theorem Hamper.closeOne_clockInvalid : (h.closeOne mono).clockInvalid = h.clockInvalid := by
  simp only [Hamper.closeOne, Hamper.logEntry]

/-- What the close of a period leaves alone, the periods that close leave alone. -/
theorem Hamper.closePeriods_keeps {α : Type} (g : Hamper → α) (hone : ∀ k, g (Hamper.closeOne k mono) = g k)
    (hclosed : ∀ k c, g { k with closedTo := c } = g k) : g (h.closePeriods mono) = g h := by
  have hfold (l : List Nat) (k : Hamper) : g (l.foldl (fun k _ => k.closeOne mono) k) = g k := by
    induction l generalizing k with
    | nil => rfl
    | cons x l ih => rw [List.foldl_cons, ih, hone]
  unfold Hamper.closePeriods
  split
  · rfl
  · split
    · exact hclosed h _
    · dsimp only
      split
      · rfl
      · rw [hclosed, hfold]

@[simp] theorem Hamper.closePeriods_clock : (h.closePeriods mono).clock = h.clock :=
  h.closePeriods_keeps mono Hamper.clock (fun k => k.closeOne_clock mono) fun _ _ => rfl
@[simp] theorem Hamper.closePeriods_clockInvalid : (h.closePeriods mono).clockInvalid = h.clockInvalid :=
  h.closePeriods_keeps mono Hamper.clockInvalid (fun k => k.closeOne_clockInvalid mono) fun _ _ => rfl

end

section
variable {h : Hamper}

theorem Hamper.offer_of_unsealed (hopen : h.sealed = false) (mono t : Stamp) :
    h.offer mono t = (4, t - h.legal mono, h) := by
  simp [Hamper.offer, hopen]

/-- The first offer after a start. -/
theorem Hamper.offer_of_clockInvalid (hsealed : h.sealed = true) (hinvalid : h.clockInvalid = true) (mono t : Stamp) :
    h.offer mono t = (3, t - h.legal mono, Hamper.closePeriods (Hamper.logEntry
      { h.setLegal mono (h.exact mono + (t - h.legal mono)) with clockInvalid := false, steps := [] }
      mono 0x0022 (i32 (roundDiv (t - h.legal mono) 1000000000))) mono) := by
  simp only [Hamper.offer, hsealed, hinvalid, Bool.not_true, Bool.false_eq_true, if_false, if_true]

variable (hsealed : h.sealed = true) (hvalid : h.clockInvalid = false) {mono t : Stamp}
include hsealed hvalid

theorem Hamper.offer_of_small (hsmall : (t - h.legal mono).natAbs < 10000000) :
    h.offer mono t = (0, t - h.legal mono, h) := by
  simp [Hamper.offer, hsealed, hvalid, hsmall]

theorem Hamper.offer_of_within (hlarge : 10000000 ≤ (t - h.legal mono).natAbs)
    (hin : h.used (h.legal mono) + (t - h.legal mono).natAbs ≤ 2000000000) :
    h.offer mono t = (1, t - h.legal mono, Hamper.closePeriods (Hamper.logEntry
      { h.setLegal mono (h.exact mono + (t - h.legal mono)) with
        steps := (h.legal mono, t - h.legal mono) :: h.steps.filter fun x =>
          decide (h.legal mono - 172800000000000 < x.1) }
      mono 0x0020 (roundDiv (t - h.legal mono) 1000000)) mono) := by
  simp only [Hamper.offer, hsealed, hvalid, Bool.not_true, Bool.false_eq_true, if_false, if_neg (not_lt.mpr hlarge),
    if_pos hin]

theorem Hamper.offer_of_beyond (hlarge : 10000000 ≤ (t - h.legal mono).natAbs)
    (hover : 2000000000 < h.used (h.legal mono) + (t - h.legal mono).natAbs) :
    h.offer mono t = (2, t - h.legal mono,
      h.logEntry mono 0x0021 (i32 (roundDiv (t - h.legal mono) 1000000))) := by
  simp only [Hamper.offer, hsealed, hvalid, Bool.not_true, Bool.false_eq_true, if_false, if_neg (not_lt.mpr hlarge),
    if_neg (not_le.mpr hover)]

end

@[simp] theorem Hamper.logEntry_clock (h : Hamper) (mono : Stamp) (code : Nat) (data : Int) :
    (h.logEntry mono code data).clock = h.clock := (rfl)
@[simp] theorem Hamper.logEntry_clockInvalid (h : Hamper) (mono : Stamp) (code : Nat) (data : Int) :
    (h.logEntry mono code data).clockInvalid = h.clockInvalid := (rfl)

theorem Hamper.logHead_le_closePeriods (h : Hamper) (mono : Stamp) : h.logHead ≤ (h.closePeriods mono).logHead :=
  ((Hamper.Works.refl h).closePeriods mono).logHead

/-- Settles O54: the five cases of a decision. -/
theorem offersBounded : Obligations.OffersBounded := by
  refine ⟨fun h mono t hopen => ?_, fun h mono t hsealed hinvalid => ?_, fun h mono t hsealed hvalid hsmall => ?_,
    fun h mono t hsealed hvalid hlarge hin => ?_, fun h mono t hsealed hvalid hlarge hover => ?_⟩
  · rw [Hamper.offer_of_unsealed hopen]
    exact ⟨rfl, rfl⟩
  · rw [Hamper.offer_of_clockInvalid hsealed hinvalid]
    simp [Hamper.setLegal]
  · rw [Hamper.offer_of_small hsealed hvalid hsmall]
    exact ⟨rfl, rfl⟩
  · rw [Hamper.offer_of_within hsealed hvalid hlarge hin]
    refine ⟨rfl, by simp [Hamper.setLegal], lt_of_lt_of_le ?_ (Hamper.logHead_le_closePeriods _ mono)⟩
    rw [Hamper.logEntry_logHead]
    exact Nat.lt_succ_self _
  · rw [Hamper.offer_of_beyond hsealed hvalid hlarge hover]
    simp

end Sys2Proof.Machine
end

section
/-! The hamper at work (R525 to R551): start, samples, pulses, the answers to requests and to the local port. -/

namespace Sys2Proof.Machine

set_option Elab.async false

/-! ## Registers of a path -/

section
variable (b : Billing)

theorem Billing.reg_setReg_other {p r q n : Nat} (v : Nat) (h : 24 * p + r ≠ 24 * q + n) :
    (b.setReg q n v).reg p r = b.reg p r := by
  simp only [Billing.reg, Billing.setReg, List.getD_eq_getElem?_getD, List.getElem?_set_ne (Ne.symm h)]

theorem Billing.reg_setReg_self {p r : Nat} (v : Nat) (h : 24 * p + r < b.registers.length) :
    (b.setReg p r v).reg p r = v := by
  simp [Billing.reg, Billing.setReg, List.getD_eq_getElem?_getD, h]

@[simp] theorem Billing.length_setReg (p r v : Nat) : (b.setReg p r v).registers.length = b.registers.length :=
  List.length_set ..

@[simp] theorem Billing.volume_setReg (p r v : Nat) : (b.setReg p r v).volume = b.volume := rfl

/-- What the registers 4 to 23 of a path leave alone, the close of a period leaves alone (R536). -/
theorem Billing.close_keeps {α : Type} (g : Billing → α) {p : Nat}
    (hset : ∀ (b : Billing) n v, 4 ≤ n → n < 24 → g (b.setReg p n v) = g b) : g (b.close p) = g b := by
  have hfold (first : Nat) (hlo : 4 ≤ first) (hhi : first < 17) (c : Billing) :
      g ((List.range 7).foldl (fun b i => b.setReg p (first + 7 - i) (b.reg p (first + 6 - i))) c) = g c :=
    List.foldlRecOn (motive := fun b => g b = g c) (List.range 7) _ rfl fun b hb i hi => by
      have := List.mem_range.mp hi
      rw [hset _ _ _ (by omega) (by omega), hb]
  unfold Billing.close
  extract_lets shift c
  have hshift (first now : Nat) (hlo : 4 ≤ first) (hhi : first < 17) (c : Billing) : g (shift first now c) = g c := by
    rw [hset _ _ _ (by omega) (by omega), hfold first hlo hhi]
  rw [hset _ _ _ (by omega) (by omega), hset _ _ _ (by omega) (by omega), hset _ _ _ (by omega) (by omega),
    hshift 16 _ (by omega) (by omega), hshift 8 _ (by omega) (by omega)]

end

/-- What the sampling of a path p keeps of the registers and accumulators: their number, the volume, and the operating
times, which registers 2 hold. -/
structure Billing.Times (b c : Billing) : Prop where
  length : c.registers.length = b.registers.length
  volume : c.volume = b.volume
  reg : ∀ p, c.reg p 2 = b.reg p 2

theorem Billing.Times.refl (b : Billing) : b.Times b := ⟨rfl, rfl, fun _ => rfl⟩

theorem Billing.Times.trans {b c d : Billing} (h : b.Times c) (k : c.Times d) : b.Times d :=
  ⟨k.length.trans h.length, k.volume.trans h.volume, fun p => (k.reg p).trans (h.reg p)⟩

theorem Billing.times_close (b : Billing) (p : Nat) : b.Times (b.close p) :=
  ⟨Billing.close_keeps b (fun b => b.registers.length) fun b n v _ _ => b.length_setReg p n v,
    Billing.close_keeps b Billing.volume fun b n v _ _ => b.volume_setReg p n v,
    fun q => Billing.close_keeps b (fun b => b.reg q 2) fun b n v _ _ => b.reg_setReg_other v (by omega)⟩

/-! ## What the parts of a sample reach -/

section
variable (h : Hamper) (mono : Stamp)

theorem Hamper.flag_spec (i : Nat) (b : Bool) (on off : Nat) (data : Int) :
    ∃ f n l, h.flag mono i b on off data = { h with flags := f, logHead := n, log := l } := by
  unfold Hamper.flag
  split
  · exact ⟨h.flags, h.logHead, h.log, rfl⟩
  · exact ⟨_, _, _, rfl⟩

theorem Hamper.measure_spec (m : HamperMeas) :
    ∃ f n l v, h.measure mono m = { h with flags := f, logHead := n, log := l, temps := v } := by
  obtain ⟨f, n, l, hfirst⟩ := h.flag_spec mono 4 (!decide (980000 ≤ m.href ∧ m.href ≤ 1020000)) 0x0032 0x0033 m.href
  unfold Hamper.measure
  extract_lets okRef k temps
  refine List.foldlRecOn (motive := fun x => ∃ f n l v, x = { h with flags := f, logHead := n, log := l, temps := v })
    (List.range 4) _ ?_ fun x hx i _ => ?_
  · have hk : k = _ := hfirst
    exact ⟨f, n, l, temps, by rw [hk]⟩
  obtain ⟨f, n, l, v, rfl⟩ := hx
  obtain ⟨f', n', l', hflag⟩ := Hamper.flag_spec { h with flags := f, logHead := n, log := l, temps := v } mono i
    (temps.getD i none).isNone 0x0030 0x0031 i
  exact ⟨f', n', l', v, hflag⟩

theorem Hamper.addEnergy_spec (p : Nat) (e : Int) :
    ∃ x y, h.addEnergy p e = { h with billing := { h.billing with energy := x, reverse := y } } := by
  unfold Hamper.addEnergy
  dsimp only
  generalize (if h.cooling p = true then decide (e < 0) else decide (0 < e)) = forward
  cases forward with
  | true => exact ⟨_, _, rfl⟩
  | false => exact ⟨_, _, rfl⟩

theorem Hamper.closePeriods_spec :
    ∃ b n l c, h.closePeriods mono = { h with billing := b, logHead := n, log := l, closedTo := c }
      ∧ h.billing.Times b := by
  unfold Hamper.closePeriods
  split
  · exact ⟨h.billing, h.logHead, h.log, h.closedTo, rfl, .refl _⟩
  · split
    · exact ⟨h.billing, h.logHead, h.log, _, rfl, .refl _⟩
    · rename_i c _
      dsimp only
      split
      · exact ⟨h.billing, h.logHead, h.log, h.closedTo, rfl, .refl _⟩
      · have hfold (l : List Nat) : ∃ b n g, l.foldl (fun k _ => k.closeOne mono) h
            = { h with billing := b, logHead := n, log := g } ∧ h.billing.Times b :=
          List.foldlRecOn (motive := fun k => ∃ b n g, k = { h with billing := b, logHead := n, log := g }
            ∧ h.billing.Times b) l _ ⟨h.billing, h.logHead, h.log, rfl, .refl _⟩ fun k hk _ _ => by
              obtain ⟨b, n, g, rfl, hb⟩ := hk
              exact ⟨_, _, _, rfl, hb.trans ((b.times_close 0).trans ((b.close 0).times_close 1))⟩
        obtain ⟨b, n, g, heq, hb⟩ := hfold (List.range (h.boundary mono - c).toNat)
        exact ⟨b, n, g, _, by rw [heq], hb⟩

/-- A sample of path p: its pulses become volume, and 2 s of operating time are counted (R532 to R535). -/
theorem Hamper.samplePath_spec (p : Nat) :
    ∃ b f n l, h.samplePath mono p = { h with billing := b, flags := f, logHead := n, log := l, pulses := setPath h.pulses p 0 }
      ∧ b.volume = setPath h.billing.volume p (ofPath h.billing.volume p + ofPath h.pulses p * h.pulseValue p)
      ∧ b.registers.length = h.billing.registers.length ∧ (∀ q, q ≠ p → b.reg q 2 = h.billing.reg q 2)
      ∧ (24 * p + 2 < h.billing.registers.length → b.reg p 2 = h.billing.reg p 2 + 2) := by
  unfold Hamper.samplePath
  extract_lets n k dv b0 k' before valid k'' b1 power b2 b3 b4
  obtain ⟨f, m, l, hk⟩ : ∃ f n l, k = { h with flags := f, logHead := n, log := l } := h.flag_spec mono _ _ _ _ _
  obtain ⟨x, y, hk''⟩ : ∃ x y, k'' = { k' with billing := { k'.billing with energy := x, reverse := y } } := by
    unfold k''
    split
    · exact k'.addEnergy_spec p _
    · exact ⟨_, _, rfl⟩
  have hb1 : b1.volume = setPath h.billing.volume p (ofPath h.billing.volume p + ofPath h.pulses p * h.pulseValue p)
      ∧ b1.registers = h.billing.registers := by
    unfold b1
    rw [hk'']
    unfold k' dv b0
    rw [hk]
    exact ⟨rfl, rfl⟩
  have hb2 : b2.registers.length = h.billing.registers.length ∧ (∀ q, b2.reg q 2 = h.billing.reg q 2)
      ∧ b2.volume = b1.volume := by
    refine ⟨by simp [b2, hb1.2], fun q => ?_, rfl⟩
    rw [Billing.reg_setReg_other _ _ (by omega), Billing.reg_setReg_other _ _ (by omega),
      Billing.reg_setReg_other _ _ (by omega), Billing.reg, hb1.2, Billing.reg]
  have hb4 : b4.registers.length = b2.registers.length ∧ b4.volume = b2.volume
      ∧ ∀ q, b4.reg q 2 = (b2.setReg p 2 (b2.reg p 2 + 2)).reg q 2 := by
    refine ⟨by simp [b4, b3], rfl, fun q => ?_⟩
    rw [Billing.reg_setReg_other _ _ (by omega), Billing.reg_setReg_other _ _ (by omega),
      Billing.reg_setReg_other _ _ (by omega)]
  refine ⟨b4, f, m, l, ?_, hb4.2.1.trans (hb2.2.2.trans hb1.1), hb4.1.trans hb2.1, fun q hq => ?_, fun hlen => ?_⟩
  · rw [hk'']
    unfold k'
    rw [hk]
  · rw [hb4.2.2, Billing.reg_setReg_other _ _ (by omega), hb2.2.1]
  · rw [hb4.2.2, Billing.reg_setReg_self _ _ (hb2.1 ▸ hlen), hb2.2.1]

end

/-! ## Samples (R533 to R537) -/

/-- The hamper as HAMPER_SAMPLE leaves it, but for the instant of the sample. -/
def Hamper.sampled (h : Hamper) (mono : Stamp) (m : HamperMeas) : Hamper :=
  ((((h.measure mono m).samplePath mono 0).samplePath mono 1).closePeriods mono).save mono

/-- A sample reaches what it measures, the log and the billing, never the legal clock. -/
theorem Hamper.sampled_spec (h : Hamper) (mono : Stamp) (m : HamperMeas) :
    ∃ f n l v b c, h.sampled mono m = { h with
        flags := f, logHead := n, log := l, temps := v, billing := b, closedTo := c, pulses := (0, 0),
        saveCount := h.saveCount + 1, saves := ((h.saveCount + 1, b) :: h.saves).take 64 }
      ∧ b.volume = (h.billing.volume.1 + h.pulses.1 * h.pulseValue 0, h.billing.volume.2 + h.pulses.2 * h.pulseValue 1)
      ∧ (h.billing.registers.length = 48 → ∀ p < 2, b.reg p 2 = h.billing.reg p 2 + 2) := by
  obtain ⟨f0, n0, l0, v, h0⟩ := h.measure_spec mono m
  obtain ⟨b1, f1, n1, l1, h1, hvol1, hlen1, hother1, hself1⟩ := (h.measure mono m).samplePath_spec mono 0
  obtain ⟨b2, f2, n2, l2, h2, hvol2, hlen2, hother2, hself2⟩ :=
    ((h.measure mono m).samplePath mono 0).samplePath_spec mono 1
  obtain ⟨b3, n3, l3, c, h3, hlen3, hvol3, hreg3⟩ :=
    (((h.measure mono m).samplePath mono 0).samplePath mono 1).closePeriods_spec mono
  have hk1 : ((h.measure mono m).samplePath mono 0).billing = b1 := by rw [h1]
  have hk2 : (((h.measure mono m).samplePath mono 0).samplePath mono 1).billing = b2 := by rw [h2]
  have hk0 : (h.measure mono m).billing = h.billing := by rw [h0]
  have hpulses0 : (h.measure mono m).pulses = h.pulses ∧ (h.measure mono m).pulseValue 0 = h.pulseValue 0 := by
    rw [h0]; exact ⟨rfl, rfl⟩
  have hpulses1 : ((h.measure mono m).samplePath mono 0).pulses = (0, h.pulses.2)
      ∧ ((h.measure mono m).samplePath mono 0).pulseValue 1 = h.pulseValue 1 := by
    rw [h1, h0]; exact ⟨rfl, rfl⟩
  rw [hk2] at hlen3 hvol3 hreg3
  rw [hk1] at hvol2 hlen2 hother2 hself2
  rw [hk0] at hvol1 hlen1 hother1 hself1
  refine ⟨f2, n3, l3, v, { b3 with clock := h.legal mono }, c, ?_, ?_, fun hlen p hp => ?_⟩
  · rw [Hamper.sampled, Hamper.save, h3, h2, h1, h0]
    rfl
  · change b3.volume = _
    rw [hvol3, hvol2, hvol1, hpulses1.1, hpulses1.2, hpulses0.1, hpulses0.2]
    rfl
  · change b3.reg p 2 = _
    rw [hreg3]
    obtain rfl | rfl : p = 0 ∨ p = 1 := by omega
    · rw [hother2 0 (by decide), hself1 (by omega)]
    · rw [hself2 (by omega), hother1 1 (by decide)]

theorem exec_hamperSample {s : State} (hpowered : s.hamper.powered = true)
    (hdue : s.hamper.legal s.time.mono / 2000000000 ≠ s.hamper.sampleTime / 2000000000) (m : HamperMeas) :
    ∃ x, exec (.hamperSample m) s = .next { s with
      hamper := { s.hamper.sampled s.time.mono m with sampleTime := (s.hamper.sampled s.time.mono m).legal s.time.mono }
      out := .hamperLane 0x01 x :: s.out } :=
  ⟨_, guardedHamper_pos s ⟨hpowered, hdue⟩⟩

/-! ## Start and supervision (R525, R537, R546) -/

theorem Hamper.checkRom_spec (h : Hamper) (mono : Stamp) (rom : RomCheck) :
    ∃ l, h.checkRom mono rom = { h with
      romCrc := rom.found, romAt := mono, flags := setBit h.flags 11 (decide (rom.recorded ≠ rom.found)),
      logHead := h.logHead + (if rom.recorded = rom.found then 0 else 1), log := l } := by
  unfold Hamper.checkRom
  dsimp only
  by_cases hrom : rom.recorded = rom.found
  · exact ⟨h.log, by simp [hrom]⟩
  · simp only [hrom, ne_eq, not_false_eq_true, decide_true, if_true, if_false]
    exact ⟨_, rfl⟩

theorem exec_romCheck {s : State} (hpowered : s.hamper.powered = true)
    (hdue : s.hamper.romAt + 86400000000000 ≤ s.time.mono) (rom : RomCheck) :
    exec (.romCheck rom) s = .next { s with hamper := s.hamper.checkRom s.time.mono rom } :=
  guardedHamper_pos s ⟨hpowered, hdue⟩

/-! ## Requests and the local port (R529, R547 to R551) -/

/-- A snapshot begins with the identity of the hamper and carries the nonce behind 30 bytes (Table 14.6). -/
theorem Hamper.snapshot_spec (h : Hamper) {nonce : Bytes} (hlen : nonce.length = 8) :
    ∃ x, h.snapshot nonce = (x, { h with snapCount := (h.snapCount + 1) % 4294967296 }) ∧ x.take 8 = be 8 h.id
      ∧ slice x 30 8 = nonce := by
  refine ⟨_, rfl, ?_, ?_⟩
  · simp only [List.append_assoc]
    exact List.take_left' (length_be 8 _)
  · have htake : (nonce ++ List.replicate 8 0).take 8 = nonce := List.take_left' hlen
    rw [htake]
    generalize hhead : be 8 h.id ++ be 4 h.romCrc ++ be 1 (b2n h.sealed) ++ be 1 h.calSet ++ _ ++ _ ++ _ = head
    have hhead30 : head.length = 30 := by simp [← hhead, length_timeBytes]
    simp only [List.append_assoc, slice]
    rw [List.drop_left' hhead30, List.take_left' hlen]

section
variable {s : State} {frame b : Bytes} (hpowered : s.hamper.powered = true)
include hpowered

theorem exec_readRegisters (hframe : framePayload frame 0x81 = some b) (hlen : b.length = 8) :
    exec (.readRegisters frame) s = .next { s with
      hamper := (s.hamper.snapshot b).2, out := .hamperLane 0x02 (s.hamper.snapshot b).1 :: s.out } := by
  dsimp only [exec, execReadRegisters]
  rw [hframe]
  exact guardedHamper_pos s ⟨hpowered, hlen⟩

theorem exec_readLog (hframe : framePayload frame 0x82 = some b) (hlen : b.length = 5) (hlo : 1 ≤ uAt b 4 1)
    (hhi : uAt b 4 1 ≤ 16) :
    exec (.readLog frame) s = .next { s with
      out := .hamperLane 0x03 (s.hamper.entries (uAt b 0 4) (uAt b 4 1)) :: s.out } := by
  dsimp only [exec, execReadLog]
  rw [hframe]
  exact guardedHamper_pos s ⟨hpowered, hlen, hlo, hhi⟩

theorem exec_timeOffer (hframe : framePayload frame 0x83 = some b) (hlen : b.length = 10)
    (htime : (ofTime80 b).isSome = true) :
    exec (.timeOffer frame) s = .next { s with
      hamper := { (s.hamper.offer s.time.mono (stampOf b)).2.2 with offeredAt := some (s.time.mono / 1000000) }
      out := .hamperLane 0x04 (timeResult (s.hamper.offer s.time.mono (stampOf b)).1
          (s.hamper.offer s.time.mono (stampOf b)).2.1) :: s.out } := by
  dsimp only [exec, execTimeOffer]
  rw [hframe]
  exact guardedHamper_pos s ⟨hpowered, hlen, htime⟩

/-- A command of the local port answers what it makes of its payload and of the hamper. -/
theorem State.localCommand_eq {cmd : Nat} (f : Bytes → Hamper → Nat × Bytes × Hamper) {status : Nat} {x : Bytes}
    {k : Hamper} (hpay : localPayload frame cmd = some b) (hf : f b s.hamper = (status, x, k)) :
    s.localCommand frame cmd f
      = .next { s with hamper := k, out := .localPort (cmd + 0x80) status x :: s.out } := by
  unfold State.localCommand
  rw [hpay]
  dsimp only
  rw [guardedHamper_pos s hpowered, hf]
  rfl

theorem State.localCommand_format {cmd : Nat} {f : Bytes → Hamper → Nat × Bytes × Hamper}
    (hpay : localPayload frame cmd = some b) (hf : f b s.hamper = (lpFormat, [], s.hamper)) :
    s.localCommand frame cmd f = .next (s.emit (.localPort (cmd + 0x80) lpFormat [])) :=
  State.localCommand_eq hpowered f hpay hf

/-- A command of the local port completes with what it makes of its payload and of the hamper. -/
theorem State.localCommand_completes {i : Instr} {cmd : Nat} {f : Bytes → Hamper → Nat × Bytes × Hamper} {status : Nat}
    {x : Bytes} {k : Hamper} {P : State → Prop} (hexec : exec i s = s.localCommand frame cmd f)
    (hpay : localPayload frame cmd = some b) (hf : f b s.hamper = (status, x, k))
    (hP : P { s with hamper := k, out := .localPort (cmd + 0x80) status x :: s.out }) : Completes i s P :=
  ⟨_, hexec.trans (State.localCommand_eq hpowered f hpay hf), hP⟩

end

theorem unsealedOnly_of_unsealed (f : Bytes → Hamper → Nat × Bytes × Hamper) (b : Bytes) {h : Hamper}
    (hsealed : h.sealed = false) : unsealedOnly f b h = f b h := by simp [unsealedOnly, hsealed]

theorem unsealedOnly_of_sealed (f : Bytes → Hamper → Nat × Bytes × Hamper) (b : Bytes) {h : Hamper}
    (hsealed : h.sealed = true) : unsealedOnly f b h = (lpSealed, [], h) := by simp [unsealedOnly, hsealed]


/-! ## Start, pulses and fuse sets (R523 to R525, R532, R537) -/

/-- The checks of the reference and of the ROM at a start reach the flags and the log alone (R525, R546). -/
theorem Hamper.startChecks_spec (h : Hamper) (mono : Stamp) (b : Bool) (data : Int) (rom : RomCheck) :
    ∃ f n l, (h.flag mono 4 b 0x0032 0x0033 data).checkRom mono rom
      = { h with romCrc := rom.found, romAt := mono, flags := f, logHead := n, log := l } ∧ h.logHead ≤ n := by
  obtain ⟨f, n, l, hflag⟩ := h.flag_spec mono 4 b 0x0032 0x0033 data
  obtain ⟨l', hrom⟩ := (h.flag mono 4 b 0x0032 0x0033 data).checkRom_spec mono rom
  have hhead := (((Hamper.Works.refl h).flag mono 4 b 0x0032 0x0033 data).checkRom mono rom).logHead
  rw [hrom] at hhead
  rw [hrom, hflag]
  rw [hflag] at hhead
  exact ⟨_, _, l', rfl, hhead⟩

/-- The hamper as a start resumes it, before it checks its reference and its ROM (R525, R537, R541). -/
def Hamper.restarted (h : Hamper) (mono : Stamp) : Hamper :=
  Hamper.logEntry { h with
    powered := true, calSet := h.chooseSet, flags := setBit (setBit 0 5 (h.chooseSet == 255)) 9 h.saves.head?.isNone
    billing := (h.saves.head?.map fun (e : Nat × Billing) => e.2).getD {}, saveCount := (h.saves.head?.map fun (e : Nat × Billing) => e.1).getD 0
    clock := ((h.saves.head?.map fun (e : Nat × Billing) => e.2).getD {}).clock, clockAt := mono, clockInvalid := true, pulses := (0, 0)
    sampleTime := ((h.saves.head?.map fun (e : Nat × Billing) => e.2).getD {}).clock, temps := [none, none, none, none] } mono 0x0001
    ((h.saves.head?.map fun (e : Nat × Billing) => e.1).getD 0 : Nat)

theorem exec_hamperStart {s : State} (hoff : s.hamper.powered = false) (href : Nat) (rom : RomCheck) :
    exec (.hamperStart href rom) s = .next { s with
      hamper := ((s.hamper.restarted s.time.mono).flag s.time.mono 4 (!decide (980000 ≤ href ∧ href ≤ 1020000)) 0x0032 0x0033
        href).checkRom s.time.mono rom } :=
  guardedHamper_pos s (by simp [hoff])

theorem exec_flowPulse {s : State} (hpowered : s.hamper.powered = true) (p : Path) :
    exec (.flowPulse p) s = .next { s with
      hamper := { s.hamper with pulses := setPath s.hamper.pulses p.val (ofPath s.hamper.pulses p.val + 1) } } :=
  guardedHamper_pos s hpowered

theorem CalSet.find?_unused_lt {sets : List CalSet} {i : Nat}
    (h : (([0, 1, 2, 3] : List Nat).find? fun i => !(sets.getD i {}).used) = some i) : i < 4 := by
  have := List.mem_of_find?_eq_some h
  simp at this
  omega

/-- The set PROGRAM_CAL blows from what reads back: its commit field only when the rows read back as requested (R524). -/
def CalSet.blown (readback : Bytes) (fine : Bool) : CalSet where
  rows := readback.take 28
  row7 := uAt readback 28 4
  commit := if fine then 0xA5 else 0
  used := true

/-- A set read back as its rows and their CRC-32 is valid (R524). -/
theorem CalSet.valid_blown {b : Bytes} (hlen : b.length = 28) :
    (CalSet.blown (b ++ be 4 (crc32 b)) true).valid = true ∧ (CalSet.blown (b ++ be 4 (crc32 b)) true).rows = b := by
  have htake : (b ++ be 4 (crc32 b)).take 28 = b := List.take_left' hlen
  have hrow : uAt (b ++ be 4 (crc32 b)) 28 4 = crc32 b := by
    have := uAt_append_be b [] 4 (crc32 b)
    rw [List.append_nil, hlen, Nat.mod_eq_of_lt (show _ < 256 ^ 4 from crc32_lt b)] at this
    exact this
  exact ⟨by simp [CalSet.valid, CalSet.blown, htake, hrow], htake⟩

theorem getD_set_self {sets : List CalSet} {i : Nat} (c : CalSet) (h : i < sets.length) : (sets.set i c).getD i {} = c := by
  simp [List.getD_eq_getElem?_getD, h]

theorem exec_localTimeOffer {s : State} {frame : Bytes} (hoffered : s.hamper.offeredAt ≠ some (s.time.mono / 1000000)) :
    exec (.localTimeOffer frame) s = s.localCommand frame 0x04 fun b h =>
      if b.length ≠ 10 ∨ (ofTime80 b).isNone then (lpFormat, [], h)
      else (lpOk, timeResult (h.offer s.time.mono (stampOf b)).1 (h.offer s.time.mono (stampOf b)).2.1,
        (h.offer s.time.mono (stampOf b)).2.2) :=
  if_neg hoffered

section
variable {s : State} {frame b readback : Bytes} (hpowered : s.hamper.powered = true)
  (hsealed : s.hamper.sealed = false)
include hpowered hsealed

theorem State.unsealedCommand_format {cmd : Nat} {f : Bytes → Hamper → Nat × Bytes × Hamper}
    (hpay : localPayload frame cmd = some b) (hf : f b s.hamper = (lpFormat, [], s.hamper)) :
    s.localCommand frame cmd (unsealedOnly f) = .next (s.emit (.localPort (cmd + 0x80) lpFormat [])) :=
  State.localCommand_format hpowered hpay ((unsealedOnly_of_unsealed f b hsealed).trans hf)

/-- A command only an unsealed hamper takes, at an unsealed hamper: it completes with what it makes of its payload. -/
theorem State.unsealedCommand_completes {i : Instr} {cmd : Nat} {f : Bytes → Hamper → Nat × Bytes × Hamper} {status : Nat}
    {x : Bytes} {k : Hamper} {P : State → Prop} (hexec : exec i s = s.localCommand frame cmd (unsealedOnly f))
    (hpay : localPayload frame cmd = some b) (hf : f b s.hamper = (status, x, k))
    (hP : P { s with hamper := k, out := .localPort (cmd + 0x80) status x :: s.out }) : Completes i s P :=
  State.localCommand_completes hpowered hexec hpay ((unsealedOnly_of_unsealed f b hsealed).trans hf) hP

variable (hpay : localPayload frame 0x11 = some b) (hlen : b.length = 28)
include hpay hlen

theorem exec_programCal_none (hused : ∀ i < 4, (s.hamper.sets.getD i {}).used = true) :
    exec (.programCal frame readback) s = .next (s.emit (.localPort 0x91 lpNoSet [])) := by
  have hfind : (([0, 1, 2, 3] : List Nat).find? fun i => !(s.hamper.sets.getD i {}).used) = none := by
    refine List.find?_eq_none.mpr fun i hi => ?_
    rw [hused i (by simp at hi; omega)]
    decide
  refine State.localCommand_eq hpowered _ hpay ((unsealedOnly_of_unsealed _ b hsealed).trans ?_)
  dsimp only
  rw [if_neg (by simpa using hlen), hfind]

variable {i : Nat} (hfind : (([0, 1, 2, 3] : List Nat).find? fun i => !(s.hamper.sets.getD i {}).used) = some i)
  (hsets : s.hamper.sets.length = 4)
include hfind hsets

theorem completes_programCal_ok : Completes (.programCal frame (b ++ be 4 (crc32 b))) s fun t =>
    (t.hamper.sets.getD i {}).valid = true ∧ (t.hamper.sets.getD i {}).rows = b
      ∧ t.out = .localPort 0x91 lpOk (be 1 i) :: s.out := by
  have hset (c : CalSet) := getD_set_self (sets := s.hamper.sets) c (hsets ▸ CalSet.find?_unused_lt hfind)
  refine State.unsealedCommand_completes hpowered hsealed (rfl : _ = s.localCommand frame 0x11 (unsealedOnly _)) hpay
    (status := lpOk) (x := be 1 i) (k := { s.hamper with sets := s.hamper.sets.set i (.blown (b ++ be 4 (crc32 b)) true) }.logEntry s.time.mono 0x0003 i)
    ?_ ?_
  · dsimp only
    rw [if_neg (by simpa using hlen), hfind]
    simp only [decide_true, if_true, CalSet.blown]
  · dsimp only [Hamper.logEntry]
    rw [hset]
    exact ⟨(CalSet.valid_blown hlen).1, (CalSet.valid_blown hlen).2, rfl⟩

theorem completes_programCal_readback (hback : readback ≠ b ++ be 4 (crc32 b)) :
    Completes (.programCal frame readback) s fun t => (t.hamper.sets.getD i {}).valid = false
      ∧ (t.hamper.sets.getD i {}).used = true ∧ t.out = .localPort 0x91 lpReadback [] :: s.out := by
  have hset (c : CalSet) := getD_set_self (sets := s.hamper.sets) c (hsets ▸ CalSet.find?_unused_lt hfind)
  refine State.unsealedCommand_completes hpowered hsealed (rfl : _ = s.localCommand frame 0x11 (unsealedOnly _)) hpay
    (status := lpReadback) (x := [])
    (k := { s.hamper with sets := s.hamper.sets.set i (.blown readback false) }.logEntry s.time.mono 0x0004 i) ?_ ?_
  · dsimp only
    rw [if_neg (by simpa using hlen), hfind]
    simp only [hback, decide_false, Bool.false_eq_true, if_false, CalSet.blown]
  · dsimp only [Hamper.logEntry]
    rw [hset]
    exact ⟨rfl, rfl, rfl⟩

end

section
variable {s : State} {frame b readback : Bytes} {i : Instr} {cmd n : Nat} (hpowered : s.hamper.powered = true)
include hpowered

/-- A payload that is not of its command's length is answered FORMAT (R551). -/
theorem exec_local_format (hsealed : s.hamper.sealed = false ∨ cmd < 16)
    (hoffered : s.hamper.offeredAt ≠ some (s.time.mono / 1000000))
    (hcases : i = .localReadId frame ∧ cmd = 1 ∧ n = 0 ∨ i = .localReadRegisters frame ∧ cmd = 2 ∧ n = 8
      ∨ i = .localReadLog frame ∧ cmd = 3 ∧ n = 5 ∨ i = .localTimeOffer frame ∧ cmd = 4 ∧ n = 10
      ∨ i = .writeConfig frame ∧ cmd = 0x10 ∧ n = 32 ∨ i = .programCal frame readback ∧ cmd = 0x11 ∧ n = 28
      ∨ i = .setClock frame ∧ cmd = 0x12 ∧ n = 10 ∨ i = .sealHamper frame ∧ cmd = 0x13 ∧ n = 4)
    (hpay : localPayload frame cmd = some b) (hlen : b.length ≠ n) :
    exec i s = .next (s.emit (.localPort (cmd + 0x80) lpFormat [])) := by
  obtain ⟨rfl, rfl, rfl⟩ | ⟨rfl, rfl, rfl⟩ | ⟨rfl, rfl, rfl⟩ | ⟨rfl, rfl, rfl⟩ | ⟨rfl, rfl, rfl⟩ | ⟨rfl, rfl, rfl⟩
    | ⟨rfl, rfl, rfl⟩ | ⟨rfl, rfl, rfl⟩ := hcases
  · dsimp only [exec, execLocalReadId]
    exact State.localCommand_format hpowered hpay (if_pos (by simpa using hlen))
  · dsimp only [exec, execLocalReadRegisters]
    exact State.localCommand_format hpowered hpay (if_pos hlen)
  · dsimp only [exec, execLocalReadLog]
    exact State.localCommand_format hpowered hpay (if_pos (.inl hlen))
  · rw [exec_localTimeOffer hoffered]
    exact State.localCommand_format hpowered hpay (if_pos (.inl hlen))
  all_goals have hopen : s.hamper.sealed = false := hsealed.resolve_right (by decide)
  · dsimp only [exec, execWriteConfig]
    exact State.unsealedCommand_format hpowered hopen hpay (if_pos (by simp [configOk, hlen]))
  · dsimp only [exec, execProgramCal]
    exact State.unsealedCommand_format hpowered hopen hpay (if_pos hlen)
  · dsimp only [exec, execSetClock]
    exact State.unsealedCommand_format hpowered hopen hpay (if_pos (.inl hlen))
  · dsimp only [exec, execSealHamper]
    exact State.unsealedCommand_format hpowered hopen hpay (if_pos hlen)

/-- A sealed hamper answers SEALED to what would configure it (R544). -/
theorem exec_local_sealed (hsealed : s.hamper.sealed = true)
    (hcases : i = .writeConfig frame ∧ cmd = 0x10 ∨ i = .programCal frame readback ∧ cmd = 0x11
      ∨ i = .setClock frame ∧ cmd = 0x12 ∨ i = .sealHamper frame ∧ cmd = 0x13)
    (hpay : localPayload frame cmd = some b) :
    Completes i s fun t => t.hamper = s.hamper ∧ t.out = .localPort (cmd + 0x80) lpSealed [] :: s.out := by
  have hrefused (f : Bytes → Hamper → Nat × Bytes × Hamper) :
      s.localCommand frame cmd (unsealedOnly f) = .next (s.emit (.localPort (cmd + 0x80) lpSealed [])) :=
    State.localCommand_eq hpowered _ hpay (unsealedOnly_of_sealed f b hsealed)
  refine ⟨s.emit (.localPort (cmd + 0x80) lpSealed []), ?_, rfl, rfl⟩
  obtain ⟨rfl, rfl⟩ | ⟨rfl, rfl⟩ | ⟨rfl, rfl⟩ | ⟨rfl, rfl⟩ := hcases
  · dsimp only [exec, execWriteConfig]
    exact hrefused _
  · dsimp only [exec, execProgramCal]
    exact hrefused _
  · dsimp only [exec, execSetClock]
    exact hrefused _
  · dsimp only [exec, execSealHamper]
    exact hrefused _

end

/-! ## The obligation -/

/-- Settles O52: each command by its equation. -/
theorem hamperWorksAndAnswers : Obligations.HamperWorksAndAnswers := by
  refine ⟨fun s href rom hoff => ?_, fun s m hpowered hdue => ?_, fun s p hpowered => ?_, fun s hpowered => ?_,
    fun s rom hpowered hdue => ?_, fun s frame b hpowered hpay hlen => ?_, fun s frame b hpowered hpay hlen hlo hhi => ?_,
    fun s frame b hpowered hpay hlen htime => ?_, fun s frame hpowered hpay => ?_,
    fun s frame b hpowered hpay hlen => ?_, fun s frame b hpowered hpay hlen hlo hhi => ?_,
    fun s frame b hpowered hpay hlen htime hoffered => ?_,
    fun s frame b readback i cmd n hpowered hsealed hoffered hcases hpay hlen => ?_,
    fun s frame b readback i cmd hpowered hsealed hcases hpay => ?_,
    fun s frame b hpowered hsealed hpay hconfig => ?_,
    fun s frame b i hpowered hsealed hpay hlen hfind hsets =>
      completes_programCal_ok hpowered hsealed hpay hlen hfind hsets,
    fun s frame b readback i hpowered hsealed hpay hlen hback hfind hsets =>
      completes_programCal_readback hpowered hsealed hpay hlen hfind hsets hback,
    fun s frame b readback hpowered hsealed hpay hlen hused => exec_programCal_none hpowered hsealed hpay hlen hused,
    fun s frame b hpowered hsealed hpay hlen htime => ?_, fun s frame b hpowered hsealed hpay hlen => ?_⟩
  · obtain ⟨f, n, l, hk, hhead⟩ := (s.hamper.restarted s.time.mono).startChecks_spec s.time.mono
      (!decide (980000 ≤ href ∧ href ≤ 1020000)) href rom
    refine ⟨_, exec_hamperStart hoff href rom, ?_⟩
    rw [hk]
    exact ⟨rfl, rfl, rfl, rfl, rfl, rfl, rfl, rfl, hhead⟩
  · obtain ⟨f, n, l, v, b, c, hk, hvol, hreg⟩ := s.hamper.sampled_spec s.time.mono m
    obtain ⟨x, hx⟩ := exec_hamperSample hpowered hdue m
    refine ⟨_, hx, ?_⟩
    rw [hk]
    exact ⟨rfl, rfl, rfl, congrArg Prod.fst hvol, congrArg Prod.snd hvol, ⟨b, rfl, rfl⟩, hreg, x, rfl⟩
  · refine ⟨_, exec_flowPulse hpowered p, ?_, ?_, rfl⟩
    all_goals
      obtain ⟨p, hp⟩ := p
      obtain rfl | rfl : p = 0 ∨ p = 1 := by omega
      · rfl
      · rfl
  · exact guardedHamper_pos s hpowered
  · obtain ⟨l, hrom⟩ := s.hamper.checkRom_spec s.time.mono rom
    refine ⟨_, exec_romCheck hpowered hdue rom, ?_⟩
    rw [hrom]
    exact ⟨rfl, rfl, bit_setBit_same _ _ _, rfl⟩
  · obtain ⟨x, hsnap, htake, hslice⟩ := s.hamper.snapshot_spec hlen
    refine ⟨_, exec_readRegisters hpowered hpay hlen, ?_⟩
    rw [hsnap]
    exact ⟨rfl, rfl, x, rfl, htake, hslice⟩
  · exact ⟨_, exec_readLog hpowered hpay hlen hlo hhi, rfl, rfl⟩
  · exact ⟨_, exec_timeOffer hpowered hpay hlen htime, rfl, rfl⟩
  · exact State.localCommand_completes hpowered (rfl : _ = execLocalReadId frame s) hpay rfl ⟨rfl, rfl⟩
  · obtain ⟨x, hsnap, htake, hslice⟩ := s.hamper.snapshot_spec hlen
    refine State.localCommand_completes hpowered (rfl : _ = execLocalReadRegisters frame s) hpay (status := lpOk) (x := x)
      (k := { s.hamper with snapCount := (s.hamper.snapCount + 1) % 4294967296 }) ?_ ⟨rfl, rfl, x, rfl, htake, hslice⟩
    dsimp only
    rw [if_neg (by simpa using hlen), hsnap]
  · refine State.localCommand_completes hpowered (rfl : _ = execLocalReadLog frame s) hpay (status := lpOk)
      (x := s.hamper.entries (uAt b 0 4) (uAt b 4 1)) (k := s.hamper) ?_ ⟨rfl, rfl⟩
    exact if_neg (by omega)
  · refine State.localCommand_completes hpowered (exec_localTimeOffer hoffered) hpay (status := lpOk)
      (x := timeResult (s.hamper.offer s.time.mono (stampOf b)).1 (s.hamper.offer s.time.mono (stampOf b)).2.1)
      (k := (s.hamper.offer s.time.mono (stampOf b)).2.2) ?_ ⟨rfl, rfl⟩
    exact if_neg (by simp [hlen, Option.isSome_iff_ne_none.mp htime])
  · exact exec_local_format hpowered hsealed hoffered hcases hpay hlen
  · exact exec_local_sealed hpowered hsealed hcases hpay
  · exact State.unsealedCommand_completes hpowered hsealed (rfl : _ = execWriteConfig frame s) hpay
      (if_neg (by simp [hconfig])) ⟨rfl, rfl, rfl, rfl⟩
  · exact State.unsealedCommand_completes hpowered hsealed (rfl : _ = execSetClock frame s) hpay
      (if_neg (by simp [hlen, Option.isSome_iff_ne_none.mp htime])) ⟨rfl, rfl, rfl, rfl, rfl, rfl, rfl⟩
  · have hready : ((s.hamper.sets.any fun c => c.valid) && s.hamper.configured && s.hamper.clockSet
        && uAt b 0 4 == crc32 s.hamper.config) = true ↔ (∃ c ∈ s.hamper.sets, c.valid = true)
          ∧ s.hamper.configured = true ∧ s.hamper.clockSet = true ∧ uAt b 0 4 = crc32 s.hamper.config := by
      simp [and_assoc]
    by_cases hall : (∃ c ∈ s.hamper.sets, c.valid = true)
          ∧ s.hamper.configured = true ∧ s.hamper.clockSet = true ∧ uAt b 0 4 = crc32 s.hamper.config
    · exact State.unsealedCommand_completes hpowered hsealed (rfl : _ = execSealHamper frame s) hpay
        ((if_neg (by simp [hlen])).trans (if_pos (hready.mpr hall)))
        ⟨iff_of_true rfl hall, rfl, fun h => absurd h (by simp)⟩
    · exact State.unsealedCommand_completes hpowered hsealed (rfl : _ = execSealHamper frame s) hpay
        ((if_neg (by simp [hlen])).trans (if_neg (mt hready.mp hall)))
        ⟨iff_of_false (by simp [hsealed]) hall, by simp [hsealed], fun _ => rfl⟩

end Sys2Proof.Machine
end

section
/-! Objects that are stored apart (R427): what a write of one object leaves of another, whatever their copies and
elements. -/

namespace Sys2Proof.Machine

set_option Elab.async false

/-! ## Objects whose keys never meet -/

/-- The place of an object in the dictionary, its index and subindex read as one number (R427). -/
def Obj.place (o : Obj) : Nat := o.index * 256 + o.sub

/-- The distance of two copies of an object in the dictionary. -/
def Obj.stride (o : Obj) : Nat := o.step / 1048576

/-- No copy of one object is stored where a copy of the other is: their places differ modulo what both strides have in
common, or all copies of one lie before the other. -/
def Obj.apart (o q : Obj) : Bool :=
  o.step % 1048576 == 0 && q.step % 1048576 == 0
    && (o.place % o.stride.gcd q.stride != q.place % o.stride.gcd q.stride
      || decide (o.place + 31 * o.stride < q.place) || decide (q.place + 31 * q.stride < o.place))

theorem Obj.key_div {o : Obj} {p e : Nat} (hstep : o.step % 1048576 = 0) (he : e < 1048576) :
    o.key p e / 1048576 = o.place + p * o.stride := by
  have hkey : o.key p e = e + 1048576 * (o.place + p * o.stride) := by
    have hmul : o.step = 1048576 * o.stride := (Nat.mul_div_cancel' (Nat.dvd_of_mod_eq_zero hstep)).symm
    rw [Obj.key, Obj.place, hmul]
    ring
  rw [hkey, Nat.add_mul_div_left _ _ (by decide), Nat.div_eq_of_lt he, Nat.zero_add]

theorem Obj.key_ne {o q : Obj} {p e i j : Nat} (h : o.apart q = true := by decide) (hp : p < 32 := by omega)
    (he : e < 1048576 := by omega) (hi : i < 32 := by omega) (hj : j < 1048576 := by omega) : o.key p e ≠ q.key i j := by
  simp only [Obj.apart, Bool.and_eq_true, Bool.or_eq_true, beq_iff_eq, bne_iff_ne, decide_eq_true_eq] at h
  obtain ⟨⟨ho, hq⟩, hplaces⟩ := h
  intro hkeys
  have hmeet : o.place + p * o.stride = q.place + i * q.stride := by
    rw [← Obj.key_div ho he, hkeys, Obj.key_div hq hj]
  have hpo : p * o.stride ≤ 31 * o.stride := Nat.mul_le_mul_right _ (by omega)
  have hiq : i * q.stride ≤ 31 * q.stride := Nat.mul_le_mul_right _ (by omega)
  obtain (hmod | hbefore) | hafter := hplaces
  · have hmod' : (o.place + p * o.stride) % o.stride.gcd q.stride = (q.place + i * q.stride) % o.stride.gcd q.stride :=
      congrArg (· % _) hmeet
    rw [Nat.add_mod, Nat.mod_eq_zero_of_dvd (Dvd.dvd.mul_left (Nat.gcd_dvd_left _ _) p), Nat.add_zero, Nat.mod_mod,
      Nat.add_mod, Nat.mod_eq_zero_of_dvd (Dvd.dvd.mul_left (Nat.gcd_dvd_right _ _) i), Nat.add_zero, Nat.mod_mod] at hmod'
    exact hmod hmod'
  · omega
  · omega

theorem Obj.key_ne_of_copy {o : Obj} {p e i j : Nat} (hstep : o.step % 1048576 = 0) (hstride : o.stride ≠ 0) (hpi : p ≠ i)
    (he : e < 1048576) (hj : j < 1048576) : o.key p e ≠ o.key i j := by
  intro hkeys
  have hmeet : o.place + p * o.stride = o.place + i * o.stride := by
    rw [← Obj.key_div hstep he, hkeys, Obj.key_div hstep hj]
  exact hpi (Nat.eq_of_mul_eq_mul_right (Nat.pos_of_ne_zero hstride) (Nat.add_left_cancel hmeet))

/-- t reads as s but for the objects of a list. -/
def State.ReadsBut (l : List Obj) (s t : State) : Prop :=
  ∀ q i j, l.all q.apart = true → i < 32 → j < 1048576 → t.rd q i j = s.rd q i j

namespace State.ReadsBut

variable {l : List Obj} {s t u : State}

theorem rd {q : Obj} {i j : Nat} (a : s.ReadsBut l t) (h : l.all q.apart = true) (hi : i < 32) (hj : j < 1048576) :
    t.rd q i j = s.rd q i j := a q i j h hi hj

theorem of_regs (h : t.regs = s.regs) : s.ReadsBut l t := fun _ _ _ _ _ _ => State.rd_congr h _ _ _

theorem refl (s : State) : s.ReadsBut l s := of_regs rfl

theorem trans (a : s.ReadsBut l t) (b : t.ReadsBut l u) : s.ReadsBut l u :=
  fun _ _ _ h hi hj => (b _ _ _ h hi hj).trans (a _ _ _ h hi hj)

theorem then_regs (a : s.ReadsBut l t) (h : u.regs = t.regs) : s.ReadsBut l u := a.trans (of_regs h)

theorem wr (a : s.ReadsBut l t) {o : Obj} {p e : Nat} (v : Int) (ho : o ∈ l) (hp : p < 32) (he : e < 1048576) :
    s.ReadsBut l (t.wr o p e v) :=
  a.trans fun _ _ _ h hi hj => t.rd_wr_other v (Obj.key_ne (List.all_eq_true.mp h o ho) hi hj hp he)

theorem inc (a : s.ReadsBut l t) {o : Obj} {p e : Nat} (n : Int) (ho : o ∈ l) (hp : p < 32) (he : e < 1048576) :
    s.ReadsBut l (t.inc o p e n) := a.wr _ ho hp he

end State.ReadsBut

end Sys2Proof.Machine
end

section
/-! The interface of the hamper on the digital die (R548 to R550, R554, Table 12.3). -/

namespace Sys2Proof.Machine

set_option Elab.async false

/-! ## Faults that are catalogued -/

/-- A catalogued fault of its source waits for its decision, or for its stamp (R36, R487). -/
theorem State.raise_eq (s : State) {src c k sev : Nat} (u d : Nat) (hsev : catalogueSeverity c k = some sev)
    (hsrc : sourceOf c k src = true) : s.raise src c k u d = { s with faults := s.reported src c k u d sev } := by
  simp only [State.raise, State.raiseAs, hsev, hsrc, if_true, State.reported, State.faultNow, List.contains_iff_mem]

/-! ## Parts of the interface -/

section
variable (s : State)

theorem State.rd_hmpTo_self (new : Int) : (s.hmpTo new).rd Reg.HMP_STATUS_interface = new := by
  unfold State.hmpTo
  split
  · assumption
  · exact s.rd_wr_self _ _ _ _

theorem State.rd_hmpTo_other (new : Int) {q : Obj} {i j : Nat} (h : q.key i j ≠ Reg.HMP_STATUS_interface.key 0 0) :
    (s.hmpTo new).rd q i j = s.rd q i j := by
  unfold State.hmpTo
  split
  · rfl
  · exact s.rd_wr_other new h

/-- A change of the interface's state leaves a part of the state its record leaves. -/
theorem State.hmpTo_keeps {α : Type} (f : State → α) (new : Int) (hwr : f (s.wr Reg.HMP_STATUS_interface 0 0 new) = f s)
    (hissue : ∀ (u : State) b, f (u.issue srcHamper 0x0E01 b) = f u) : f (s.hmpTo new) = f s := by
  unfold State.hmpTo
  split
  · rfl
  · exact (hissue _ _).trans hwr

@[simp] theorem State.hmpTo_hmp (new : Int) : (s.hmpTo new).hmp = s.hmp := s.hmpTo_keeps State.hmp new rfl fun _ _ => rfl
@[simp] theorem State.hmpTo_rst (new : Int) : (s.hmpTo new).rst = s.rst := s.hmpTo_keeps State.rst new rfl fun _ _ => rfl
@[simp] theorem State.hmpTo_power (new : Int) : (s.hmpTo new).power = s.power :=
  s.hmpTo_keeps State.power new rfl fun _ _ => rfl
@[simp] theorem State.hmpTo_faults (new : Int) : (s.hmpTo new).faults = s.faults :=
  s.hmpTo_keeps State.faults new rfl fun _ _ => rfl
@[simp] theorem State.hmpTo_time (new : Int) : (s.hmpTo new).time = s.time :=
  s.hmpTo_keeps State.time new rfl fun _ _ => rfl
@[simp] theorem State.hmpTo_blobs (new : Int) : (s.hmpTo new).blobs = s.blobs :=
  s.hmpTo_keeps State.blobs new rfl fun _ _ => rfl
@[simp] theorem State.hmpTo_timers (new : Int) : (s.hmpTo new).timers = s.timers :=
  s.hmpTo_keeps State.timers new rfl fun _ _ => rfl

theorem State.rd_hmpGood_interface : s.hmpGood.rd Reg.HMP_STATUS_interface = hmpReceiving := State.rd_hmpTo_self ..

theorem State.rd_hmpGood_frames :
    s.hmpGood.rd Reg.HMP_IF_FRAMES = (s.rd Reg.HMP_IF_FRAMES + 1) % 18446744073709551616 := by
  rw [State.hmpGood, State.rd_hmpTo_other _ _ Obj.key_ne]
  exact s.rd_inc_self _ _ _ _

theorem State.rd_hmpGood_other {q : Obj} {i j : Nat} (hframes : q.key i j ≠ Reg.HMP_IF_FRAMES.key 0 0)
    (hinterface : q.key i j ≠ Reg.HMP_STATUS_interface.key 0 0) : s.hmpGood.rd q i j = s.rd q i j := by
  rw [State.hmpGood, State.rd_hmpTo_other _ _ hinterface]
  exact s.rd_inc_other _ hframes

@[simp] theorem State.hmpGood_hmp : s.hmpGood.hmp = s.hmp := State.hmpTo_hmp ..
@[simp] theorem State.hmpGood_rst : s.hmpGood.rst = s.rst := State.hmpTo_rst ..
@[simp] theorem State.hmpGood_power : s.hmpGood.power = s.power := State.hmpTo_power ..
@[simp] theorem State.hmpGood_faults : s.hmpGood.faults = s.faults := State.hmpTo_faults ..
@[simp] theorem State.hmpGood_time : s.hmpGood.time = s.time := State.hmpTo_time ..
@[simp] theorem State.hmpGood_blobs : s.hmpGood.blobs = s.blobs := State.hmpTo_blobs ..
@[simp] theorem State.deadline_hmpGood : s.hmpGood.deadline .laneSilent = some (s.now + 10000000000) := by
  rw [State.hmpGood, State.deadline_congr (State.hmpTo_timers ..), State.deadline_arm_self]

theorem State.hmpSend_spec (type : Nat) (b : Bytes) : s.hmpSend type b = { s with
    hmp := { s.hmp with request := type }, regs := (s.inc Reg.HMP_IF_REQUESTS).regs
    timers := (s.arm .hmpRequest (s.now + 2000000000)).timers, out := .hamperRequest type b :: s.out } := rfl

theorem State.rd_hmpSend_other (type : Nat) (b : Bytes) {q : Obj} {i j : Nat}
    (h : q.key i j ≠ Reg.HMP_IF_REQUESTS.key 0 0) : (s.hmpSend type b).rd q i j = s.rd q i j :=
  State.rd_inc_other _ 1 h

theorem State.deadline_hmpSend_other (type : Nat) (b : Bytes) {t : Timer} (h : t ≠ .hmpRequest) :
    (s.hmpSend type b).deadline t = s.deadline t := State.deadline_arm_other _ _ h

/-- The first entry to ask for: the next one, or the oldest of the ring (R550). -/
def State.logFrom (s : State) : Nat := max (s.hmp.haveTo + 1) (s.rdN Reg.HMP_STATUS_log_head - 4095)

/-- How many entries to ask for (R550). -/
def State.logCount (s : State) : Nat := min 16 (s.rdN Reg.HMP_STATUS_log_head + 1 - s.logFrom)

theorem State.logFrom_eq : s.logFrom = max (s.hmp.haveTo + 1) (s.rdN Reg.HMP_STATUS_log_head - 4095) := (rfl)

theorem State.logCount_eq : s.logCount = min 16 (s.rdN Reg.HMP_STATUS_log_head + 1 - s.logFrom) := (rfl)

theorem State.hmpSend_asks (first last : Nat) (b : Bytes) :
    ((s.setHmp fun fld => { fld with wantFrom := first, wantTo := last }).hmpSend 0x82 b).hmp.request = 0x82
      ∧ ((s.setHmp fun fld => { fld with wantFrom := first, wantTo := last }).hmpSend 0x82 b).hmp.wantFrom = first
      ∧ ((s.setHmp fun fld => { fld with wantFrom := first, wantTo := last }).hmpSend 0x82 b).hmp.wantTo = last
      ∧ ((s.setHmp fun fld => { fld with wantFrom := first, wantTo := last }).hmpSend 0x82 b).out
        = .hamperRequest 0x82 b :: s.out := ⟨rfl, rfl, rfl, rfl⟩

/-- The interface holds less of the log than the hamper has, and may ask (R550). -/
theorem State.hmpNextLog_of_missing (hmay : s.hmpMayRequest = true)
    (hmissing : s.hmp.haveTo < s.rdN Reg.HMP_STATUS_log_head) : s.hmpNextLog
      = (s.setHmp fun fld => { fld with wantFrom := s.logFrom, wantTo := s.logFrom + s.logCount - 1 }).hmpSend 0x82
        (be 4 s.logFrom ++ be 1 s.logCount) := by
  unfold State.hmpNextLog
  exact if_pos ⟨hmay, hmissing⟩

/-- What the interface asks for then. -/
theorem State.hmpNextLog_asks (hmay : s.hmpMayRequest = true) (hmissing : s.hmp.haveTo < s.rdN Reg.HMP_STATUS_log_head) :
    s.hmpNextLog.hmp.request = 0x82
      ∧ s.hmpNextLog.hmp.wantFrom = max (s.hmp.haveTo + 1) (s.rdN Reg.HMP_STATUS_log_head - 4095)
      ∧ s.hmpNextLog.hmp.wantTo = s.hmpNextLog.hmp.wantFrom
        + min 16 (s.rdN Reg.HMP_STATUS_log_head + 1 - s.hmpNextLog.hmp.wantFrom) - 1
      ∧ s.hmpNextLog.out = .hamperRequest 0x82 (be 4 s.hmpNextLog.hmp.wantFrom
          ++ be 1 (min 16 (s.rdN Reg.HMP_STATUS_log_head + 1 - s.hmpNextLog.hmp.wantFrom))) :: s.out := by
  obtain ⟨hrequest, hfrom, hto, hout⟩ := s.hmpSend_asks s.logFrom (s.logFrom + s.logCount - 1)
    (be 4 s.logFrom ++ be 1 s.logCount)
  rw [s.hmpNextLog_of_missing hmay hmissing, hfrom, hto, hout, ← s.logFrom_eq, ← s.logCount_eq]
  exact ⟨hrequest, rfl, rfl, rfl⟩

theorem State.hmpNextLog_of_not (h : ¬ (s.hmpMayRequest = true ∧ s.hmp.haveTo < s.rdN Reg.HMP_STATUS_log_head)) :
    ∃ b, s.hmpNextLog = { s with hmp := { s.hmp with rebuilding := b } } := by
  unfold State.hmpNextLog
  exact ⟨_, if_neg h⟩

/-- t is s but for a request of the interface: the count of requests, its timeout, the interface's part and the output. -/
structure State.Asked (s t : State) : Prop where
  spec : ∃ r l m o, t = { s with regs := r, timers := l, hmp := m, out := o }
  rd : ∀ {q : Obj} {i j : Nat}, q.key i j ≠ Reg.HMP_IF_REQUESTS.key 0 0 → t.rd q i j = s.rd q i j
  deadline : ∀ t' : Timer, t' ≠ .hmpRequest → t.deadline t' = s.deadline t'
  request : t.hmp.request = s.hmp.request ∨ t.hmp.request = 0x82
  haveTo : t.hmp.haveTo = s.hmp.haveTo

theorem State.Asked.rdB {s t : State} (a : s.Asked t) (q : Obj) (i j : Nat) : t.rdB q i j = s.rdB q i j := by
  obtain ⟨r, l, m, o, rfl⟩ := a.spec
  rfl

theorem State.Asked.request_ne {s t : State} (a : s.Asked t) {type : Nat} (h : s.hmp.request ≠ type) (h82 : 0x82 ≠ type) :
    t.hmp.request ≠ type := by
  obtain hkept | hasked := a.request
  · exact hkept ▸ h
  · exact hasked ▸ h82

theorem State.asked_hmpSend (first last : Nat) (b : Bytes) :
    s.Asked ((s.setHmp fun fld => { fld with wantFrom := first, wantTo := last }).hmpSend 0x82 b) where
  spec := ⟨_, _, _, _, State.hmpSend_spec _ _ _⟩
  rd h := by rw [State.rd_hmpSend_other _ _ _ h, State.rd_setHmp]
  deadline t ht := by rw [State.deadline_hmpSend_other _ _ _ ht, State.deadline_setHmp]
  request := .inr rfl
  haveTo := rfl

theorem State.asked_hmpNextLog : s.Asked s.hmpNextLog := by
  by_cases h : s.hmpMayRequest = true ∧ s.hmp.haveTo < s.rdN Reg.HMP_STATUS_log_head
  · rw [s.hmpNextLog_of_missing h.1 h.2]
    exact s.asked_hmpSend _ _ _
  · obtain ⟨b, hb⟩ := s.hmpNextLog_of_not h
    rw [hb]
    exact ⟨⟨_, _, _, _, rfl⟩, fun _ => rfl, fun _ _ => rfl, .inl rfl, rfl⟩

theorem State.hmpAnswered_spec (type : Nat) : ∃ m l, s.hmpAnswered type = { s with hmp := m, timers := l }
    ∧ m.haveTo = s.hmp.haveTo ∧ (type ≠ 0 → m.request ≠ type) := by
  unfold State.hmpAnswered
  split
  · exact ⟨_, _, rfl, rfl, fun h => h.symm⟩
  · exact ⟨s.hmp, s.timers, rfl, rfl, fun _ => ‹_›⟩

variable {s}

/-- A lane frame whose check and type hold does what its payload asks. -/
theorem State.laneFrame_of_payload {frame b : Bytes} {type : Nat} (f : Bytes → State → State) (hhears : s.hmpHears = true)
    (hpay : framePayload frame type = some b) : s.laneFrame frame type f = .next ((f b s).keep s) := by
  have hframe := hpay
  unfold framePayload at hframe
  dsimp only at hframe
  split at hframe
  · obtain ⟨hlen, htype, hn, hcrc⟩ := ‹_ ∧ _›
    unfold State.laneFrame
    rw [guarded_pos s hhears]
    dsimp only
    rw [if_neg (by omega), hpay]
  · cases hframe

/-- A lane frame whose check fails is counted and no more (R548). -/
theorem State.laneFrame_of_bad {frame : Bytes} {type : Nat} (f : Bytes → State → State) (hhears : s.hmpHears = true)
    (hbad : frame.length < 8 ∨ crc32 (frame.take (frame.length - 4)) ≠ uAt frame (frame.length - 4) 4) :
    s.laneFrame frame type f = .next (s.hmpBad.keep s) := by
  unfold State.laneFrame
  rw [guarded_pos s hhears]
  dsimp only
  rw [if_pos]
  obtain hshort | hcrc := hbad
  · exact .inl hshort
  · by_cases hshort : frame.length < 8
    · exact .inl hshort
    · have h4 : frame.length - 8 + 4 = frame.length - 4 := by omega
      exact .inr (.inr (h4 ▸ hcrc))

/-- The interface may ask after a good frame as it might before it (Table 14.10). -/
theorem State.hmpMayRequest_of_receiving {u : State} (hrst : u.rst = s.rst) (hpower : u.power = s.power)
    (hfaults : u.faults = s.faults) (hrequest : u.hmp.request = s.hmp.request)
    (hlevel : u.rd Reg.PERF_LEVEL_in_force 0 36 = s.rd Reg.PERF_LEVEL_in_force 0 36)
    (hreceiving : u.rd Reg.HMP_STATUS_interface = hmpReceiving) (hmay : s.hmpMayRequest = true) :
    u.hmpMayRequest = true := by
  simp only [State.hmpMayRequest, State.hmpHears, State.queuesRun, State.steward, State.stopped, State.runs, State.live,
    State.awake, hrst, hpower, hfaults, hrequest, hlevel, hreceiving] at hmay ⊢
  simp_all [hmpReceiving, hmpFenced, hmpGated]

end

/-! ## Frames of the lane (R550, R554) -/

section
variable (s : State) (b : Bytes)

/-- The objects a STATUS frame is copied to (R550). -/
def State.statusCopied : State :=
  let s := (s.wr Reg.HMP_STATUS_received 0 0 s.now).wr Reg.HMP_STATUS_legal_time 0 0 (stampOf b)
  let s := (s.wr Reg.HMP_STATUS_flags 0 0 (uAt b 10 2)).wr Reg.HMP_STATUS_log_head 0 0 (uAt b 12 4)
  let s := (s.wr Reg.HMP_STATUS_tamper_count 0 0 (uAt b 22 2)).wrB Reg.HMP_STATUS_temperatures 0 0 (slice b 24 16)
  (s.wr Reg.HMP_ID_seal 0 0 (uAt b 20 1)).wr Reg.HMP_ID_calibration_set 0 0 (uAt b 21 1)

/-- The state once a STATUS frame is copied and counted, before its record. -/
def State.statusTaken : State := (s.statusCopied b).hmpGood.setHmp fun fld => { fld with lastFlags := uAt b 10 2 }

/-- What the objects of the interface read once a STATUS frame is copied. -/
theorem State.rd_statusTaken :
    (s.statusTaken b).rd Reg.HMP_STATUS_interface = hmpReceiving ∧ (s.statusTaken b).rd Reg.HMP_STATUS_received = s.now
      ∧ (s.statusTaken b).rd Reg.HMP_STATUS_legal_time = stampOf b
      ∧ (s.statusTaken b).rd Reg.HMP_STATUS_flags = (uAt b 10 2 : Nat)
      ∧ (s.statusTaken b).rd Reg.HMP_STATUS_log_head = (uAt b 12 4 : Nat)
      ∧ (s.statusTaken b).rd Reg.HMP_ID_seal = (uAt b 20 1 : Nat)
      ∧ (s.statusTaken b).rd Reg.HMP_IF_FRAMES = (s.rd Reg.HMP_IF_FRAMES + 1) % 18446744073709551616
      ∧ (s.statusTaken b).rd Reg.PERF_LEVEL_in_force 0 36 = s.rd Reg.PERF_LEVEL_in_force 0 36 := by
  simp only [State.statusTaken, State.rd_setHmp, State.rd_hmpGood_interface, State.rd_hmpGood_frames]
  simp (disch := exact Obj.key_ne) only [State.statusCopied, State.rd_hmpGood_other, State.rd_wr_self, State.rd_wr_other,
    State.rd_wrB, and_self]

theorem State.statusTaken_keeps : (s.statusTaken b).hmp = { s.hmp with lastFlags := uAt b 10 2 }
    ∧ (s.statusTaken b).deadline .laneSilent = some (s.now + 10000000000) ∧ (s.statusTaken b).rst = s.rst
    ∧ (s.statusTaken b).power = s.power ∧ (s.statusTaken b).faults = s.faults := by
  simp [State.statusTaken, State.statusCopied]

/-- A STATUS frame is copied; its record, when its flags changed, reaches the merger alone. -/
theorem exec_hmpStatusRx {frame : Bytes} (hhears : s.hmpHears = true) (hpay : framePayload frame 0x01 = some b)
    (hlen : b.length = 40) : ∃ m, exec (.hmpStatusRx frame) s
      = .next (({ s.statusTaken b with merge := m } : State).hmpNextLog.keep s) := by
  have hrecord (c : Prop) [Decidable c] (u : State) : ∃ m, (if c then u else u.hmpRecord 0) = { u with merge := m } := by
    split
    · exact ⟨u.merge, rfl⟩
    · exact ⟨_, rfl⟩
  obtain ⟨m, hm⟩ := hrecord (s.rd Reg.HMP_STATUS_flags = (s.statusTaken b).rd Reg.HMP_STATUS_flags) (s.statusTaken b)
  refine ⟨m, ?_⟩
  rw [← hm]
  dsimp only [exec, execHmpStatusRx]
  rw [State.laneFrame_of_payload _ hhears hpay, if_neg (not_not.mpr hlen)]
  rfl

end

/-! ## Snapshots, entries and results (R530, R550, R554) -/

/-- A row of values written to the elements of an object reads back. -/
theorem State.rd_foldl_wr (s : State) (o : Obj) (f : Nat → Int) {n i : Nat} (hi : i < n) :
    ((List.range n).foldl (fun s i => s.wr o 0 i (f i)) s).rd o 0 i = f i := by
  induction n with
  | zero => omega
  | succ n ih =>
    rw [List.range_succ, List.foldl_concat]
    by_cases hin : i = n
    · subst hin
      exact State.rd_wr_self ..
    · rw [State.rd_wr_other _ _ (by simp only [Obj.key]; omega), ih (by omega)]

theorem State.rd_foldl_wr_other (s : State) {o q : Obj} (f : Nat → Int) {n p e : Nat}
    (h : ∀ i < n, q.key p e ≠ o.key 0 i) :
    ((List.range n).foldl (fun s i => s.wr o 0 i (f i)) s).rd q p e = s.rd q p e :=
  foldl_keeps_mem (fun s => s.rd q p e) _ (fun t i hi => t.rd_wr_other _ (h i (List.mem_range.mp hi))) s

theorem State.foldl_wr_blobs (s : State) (o : Obj) (f : Nat → Int) (l : List Nat) :
    (l.foldl (fun s i => s.wr o 0 i (f i)) s).blobs = s.blobs := foldl_keeps State.blobs (fun t i => t.wr_blobs o 0 i (f i)) l s

/-- What an answer to a request leaves of the objects, and of what the interface holds of the log (R549). -/
theorem State.hmpAnswered_keeps (s : State) (type : Nat) : (s.hmpAnswered type).regs = s.regs
    ∧ (s.hmpAnswered type).blobs = s.blobs ∧ (s.hmpAnswered type).hmp.haveTo = s.hmp.haveTo
    ∧ (type ≠ 0 → (s.hmpAnswered type).hmp.request ≠ type) := by
  obtain ⟨m, l, heq, hhave, hne⟩ := s.hmpAnswered_spec type
  rw [heq]
  exact ⟨rfl, rfl, hhave, hne⟩

section
variable (s : State) (b : Bytes)

/-- The 48 registers of a snapshot, copied. -/
def State.registersCopied : State :=
  (List.range 48).foldl (fun s i => s.wr Reg.HMP_REGISTERS 0 i (uAt b (40 + 8 * i) 8)) s

theorem State.rd_registersCopied {i : Nat} (hi : i < 48) :
    (s.registersCopied b).rd Reg.HMP_REGISTERS 0 i = (uAt b (40 + 8 * i) 8 : Nat) :=
  State.rd_foldl_wr s Reg.HMP_REGISTERS (fun i => (uAt b (40 + 8 * i) 8 : Nat)) hi

theorem State.rd_received_registersCopied :
    (s.registersCopied b).rd Reg.HMP_SNAPSHOT_received = s.rd Reg.HMP_SNAPSHOT_received :=
  State.rd_foldl_wr_other s _ fun _ _ => Obj.key_ne

theorem State.registersCopied_blobs : (s.registersCopied b).blobs = s.blobs := State.foldl_wr_blobs ..

/-- The state once a snapshot is copied. -/
def State.snapshotTaken : State :=
  let s := ((s.hmpGood.wrB Reg.HMP_SNAPSHOT 0 0 b).wr Reg.HMP_SNAPSHOT_received 0 0 s.now).registersCopied b
  let s := (s.wr Reg.HMP_ID_identity 0 0 (uAt b 0 8)).wr Reg.HMP_ID_firmware 0 0 (uAt b 8 4)
  (s.wr Reg.HMP_ID_seal 0 0 (uAt b 12 1)).wr Reg.HMP_ID_calibration_set 0 0 (uAt b 13 1)

theorem State.rd_snapshotTaken : (s.snapshotTaken b).rd Reg.HMP_SNAPSHOT_received = s.now
    ∧ (∀ i < 48, (s.snapshotTaken b).rd Reg.HMP_REGISTERS 0 i = (uAt b (40 + 8 * i) 8 : Nat))
    ∧ (s.snapshotTaken b).rd Reg.HMP_ID_identity = (uAt b 0 8 : Nat)
    ∧ (s.snapshotTaken b).rd Reg.HMP_ID_firmware = (uAt b 8 4 : Nat) := by
  refine ⟨?_, fun i hi => ?_, ?_, ?_⟩
  · simp (disch := exact Obj.key_ne) only [State.snapshotTaken, State.rd_wr_self, State.rd_wr_other,
      State.rd_received_registersCopied]
  · simp (disch := exact Obj.key_ne) only [State.snapshotTaken, State.rd_wr_other, State.rd_registersCopied _ _ hi]
  all_goals
    simp (disch := exact Obj.key_ne) only [State.snapshotTaken, State.rd_wr_self, State.rd_wr_other]

theorem State.rdB_snapshotTaken (hb : b ≠ []) : (s.snapshotTaken b).rdB Reg.HMP_SNAPSHOT = b := by
  have hblobs : (s.snapshotTaken b).blobs = (s.hmpGood.wrB Reg.HMP_SNAPSHOT 0 0 b).blobs := by
    simp only [State.snapshotTaken, State.wr_blobs, State.registersCopied_blobs]
  rw [State.rdB_congr hblobs, State.rdB_wrB_self _ _ _ _ _ hb]

theorem exec_hmpSnapshotRx {frame : Bytes} (hhears : s.hmpHears = true) (hpay : framePayload frame 0x02 = some b)
    (hlen : b.length = 456) :
    exec (.hmpSnapshotRx frame) s = .next (((s.snapshotTaken b).hmpAnswered 0x81).hmpNextLog.keep s) := by
  dsimp only [exec, execHmpSnapshotRx]
  rw [State.laneFrame_of_payload _ hhears hpay, if_neg (not_not.mpr hlen)]
  rfl

/-- The state once a frame of entries is copied, what the interface holds of the log moved on (R550, R553). -/
def State.logTaken : State :=
  let s := (List.range (b.length / 16)).foldl (fun s i =>
    s.wrB Reg.HMP_LOG 0 (uAt b (16 * i) 4 % 4096) (slice b (16 * i) 16)) s.hmpGood
  if s.hmp.request = 0x82 then (s.setHmp fun fld => { fld with haveTo := s.hmp.wantTo }) else s

theorem exec_hmpLogRx {frame : Bytes} (hhears : s.hmpHears = true) (hpay : framePayload frame 0x03 = some b)
    (hlen : b.length = 16) :
    exec (.hmpLogRx frame) s = .next (((s.logTaken b).hmpAnswered 0x82).hmpNextLog.keep s) := by
  dsimp only [exec, execHmpLogRx]
  rw [State.laneFrame_of_payload _ hhears hpay, if_neg (by simp [hlen])]
  rfl

/-- One entry is copied to the element of its SEQ. -/
theorem State.logTaken_of_one (hlen : b.length = 16) : s.logTaken b
    = if s.hmp.request = 0x82 then ((s.hmpGood.wrB Reg.HMP_LOG 0 (uAt b 0 4 % 4096) b).setHmp fun fld =>
        { fld with haveTo := s.hmp.wantTo }) else s.hmpGood.wrB Reg.HMP_LOG 0 (uAt b 0 4 % 4096) b := by
  have hslice : slice b 0 16 = b := by simp [slice, ← hlen]
  simp [State.logTaken, hlen, hslice]

theorem State.rdB_logTaken (hlen : b.length = 16) : (s.logTaken b).rdB Reg.HMP_LOG 0 (uAt b 0 4 % 4096) = b := by
  rw [State.logTaken_of_one s b hlen]
  have hb : b ≠ [] := by rintro rfl; simp at hlen
  split
  · rw [State.rdB_setHmp, State.rdB_wrB_self _ _ _ _ _ hb]
  · rw [State.rdB_wrB_self _ _ _ _ _ hb]

/-- The state once a result is copied and counted, before its record (Table 14.11). -/
def State.resultTaken : State :=
  let s := s.hmpGood.wrB Reg.HMP_TIME_last 0 0 b
  let s := if uAt b 0 1 = 0 then s.inc Reg.HMP_TIME_AGREED
    else if uAt b 0 1 = 1 ∨ uAt b 0 1 = 3 then s.inc Reg.HMP_TIME_ACCEPTED
    else if uAt b 0 1 = 2 then s.inc Reg.HMP_TIME_REFUSED
    else s
  s.hmpRecord 1 (uAt b 0 1) (sAt b 4 4)

theorem exec_hmpTimeResultRx {frame : Bytes} (hhears : s.hmpHears = true) (hpay : framePayload frame 0x04 = some b)
    (hlen : b.length = 8) :
    exec (.hmpTimeResultRx frame) s = .next (((s.resultTaken b).hmpAnswered 0x83).hmpNextLog.keep s) := by
  dsimp only [exec, execHmpTimeResultRx]
  rw [State.laneFrame_of_payload _ hhears hpay, if_neg (not_not.mpr hlen)]
  rfl

/-- Each result counts in one object. -/
theorem State.rd_resultTaken :
    (s.resultTaken b).rd Reg.HMP_TIME_AGREED = (if uAt b 0 1 = 0 then (s.rd Reg.HMP_TIME_AGREED + 1) % 18446744073709551616
        else s.rd Reg.HMP_TIME_AGREED)
      ∧ (s.resultTaken b).rd Reg.HMP_TIME_ACCEPTED = (if uAt b 0 1 = 1 ∨ uAt b 0 1 = 3 then
          (s.rd Reg.HMP_TIME_ACCEPTED + 1) % 18446744073709551616 else s.rd Reg.HMP_TIME_ACCEPTED)
      ∧ (s.resultTaken b).rd Reg.HMP_TIME_REFUSED = (if uAt b 0 1 = 2 then
          (s.rd Reg.HMP_TIME_REFUSED + 1) % 18446744073709551616 else s.rd Reg.HMP_TIME_REFUSED) := by
  simp only [State.resultTaken, State.hmpRecord, State.rd_issue]
  split_ifs
  all_goals
    simp (disch := exact Obj.key_ne) only [State.rd_inc_self, State.rd_inc_other, State.rd_wrB, State.rd_hmpGood_other,
      and_self]
  all_goals omega

theorem State.rdB_resultTaken (hlen : b.length = 8) : (s.resultTaken b).rdB Reg.HMP_TIME_last = b := by
  have hb : b ≠ [] := by rintro rfl; simp at hlen
  simp only [State.resultTaken, State.hmpRecord, State.rdB_issue]
  split_ifs
  all_goals
    simp only [State.rdB_inc, State.rdB_wrB_self _ _ _ _ _ hb]

/-- At most 16 bad frames in a second are counted only (Table 12.3). -/
theorem State.hmpBad_of_few (hfew : (s.faults.laneErrors.filter fun x => decide (s.now - x < 1000000000)).length < 16) :
    s.hmpBad = (s.inc Reg.HMP_IF_CRC_ERRORS).setFaults fun fld => { fld with
      laneErrors := s.now :: s.faults.laneErrors.filter fun x => decide (s.now - x < 1000000000) } := by
  unfold State.hmpBad
  exact if_neg (Nat.not_lt.mpr hfew)

/-- More of them are a fault. -/
theorem State.hmpBad_of_many (hmany : 16 ≤ (s.faults.laneErrors.filter fun x => decide (s.now - x < 1000000000)).length) :
    s.hmpBad.faults = { s.reported srcHamper clsHamper 0x01 0xFF
      ((s.faults.laneErrors.filter fun x => decide (s.now - x < 1000000000)).length + 1) 2 with laneErrors := [] } := by
  unfold State.hmpBad
  dsimp only
  refine (congrArg State.faults (if_pos (Nat.lt_succ_of_le hmany))).trans ?_
  rw [State.raise_eq _ _ _ (by rfl : _ = some 2) (by rfl)]
  by_cases hstamp : srcHamper ∈ s.time.unaligned
  · simp only [State.reported, State.setFaults, State.inc_time, hstamp, if_true]
    rfl
  · simp only [State.reported, State.setFaults, State.inc_time, hstamp, if_false]
    rfl

theorem exec_hmpTimeOfferSend (hmay : s.hmpMayRequest = true) (hlocked : s.rd Reg.TIME_QUALITY_state = tqLocked)
    (hreceiving : s.rd Reg.HMP_STATUS_interface = hmpReceiving) (hseal : s.rd Reg.HMP_ID_seal = 1)
    (hhour : s.now / 1000000000 % 3600 = 0) (hnew : s.now / 1000000000 / 3600 ≠ s.hmp.lastHour) :
    exec .hmpTimeOfferSend s = .next ((((s.setHmp fun fld => { fld with lastHour := s.now / 1000000000 / 3600 }).hmpSend 0x83
      (timeBytes s.now)).inc Reg.HMP_TIME_OFFERS).keep s) := by
  have hwhole : decide (s.now / nsPerSec % 3600 = 0 ∧ s.now / nsPerSec / 3600 ≠ s.hmp.lastHour) = true :=
    decide_eq_true ⟨hhour, hnew⟩
  refine (guarded_pos s ⟨hmay, hlocked, hreceiving, hseal, .inl hwhole⟩).trans ?_
  dsimp only
  rw [if_pos hwhole]
  rfl

theorem exec_of_bad {frame : Bytes} {i : Instr} (hhears : s.hmpHears = true)
    (hbad : frame.length < 8 ∨ crc32 (frame.take (frame.length - 4)) ≠ uAt frame (frame.length - 4) 4)
    (hi : i = .hmpStatusRx frame ∨ i = .hmpSnapshotRx frame ∨ i = .hmpLogRx frame ∨ i = .hmpTimeResultRx frame) :
    exec i s = .next (s.hmpBad.keep s) := by
  obtain rfl | rfl | rfl | rfl := hi
  · dsimp only [exec, execHmpStatusRx]
    exact State.laneFrame_of_bad _ hhears hbad
  · dsimp only [exec, execHmpSnapshotRx]
    exact State.laneFrame_of_bad _ hhears hbad
  · dsimp only [exec, execHmpLogRx]
    exact State.laneFrame_of_bad _ hhears hbad
  · dsimp only [exec, execHmpTimeResultRx]
    exact State.laneFrame_of_bad _ hhears hbad

end

/-! ## The obligation -/

/-- Settles O55: what each frame, request and timeout of the interface changes. -/
theorem hamperInterfaceCompletes : Obligations.HamperInterfaceCompletes := by
  refine ⟨fun s frame b hhears hpay hlen => ?_, fun s frame b hhears hpay hlen => ?_,
    fun s frame b hhears hpay hlen => ?_, fun s frame b hhears hpay hlen => ?_,
    fun s frame i hhears hbad hfew hi => ?_, fun s frame hhears hshort hmany => ?_,
    fun s hmay hdue => ?_, fun s hmay hlocked hreceiving hseal hhour hnew => ?_,
    fun s hruns hrequest hpassed => ?_, fun s hhears hpassed => ?_⟩
  · obtain ⟨m, hexec⟩ := exec_hmpStatusRx s b hhears hpay hlen
    refine ⟨_, hexec, ?_⟩
    obtain ⟨hinterface, hreceived, hlegal, hflags, hhead, hseal, hframes, hlevel⟩ := s.rd_statusTaken b
    obtain ⟨hhmp, hsilent, hrst, hpower, hfaults⟩ := s.statusTaken_keeps b
    obtain ⟨u, hu⟩ : ∃ u : State, u = { s.statusTaken b with merge := m } := ⟨_, rfl⟩
    have hrd (q : Obj) (i j : Nat) : u.rd q i j = (s.statusTaken b).rd q i j := State.rd_congr (hu ▸ rfl) q i j
    have hdeadline : u.deadline .laneSilent = some (s.now + 10000000000) :=
      (State.deadline_congr (hu ▸ rfl) _).trans hsilent
    have hrequest : u.hmp.request = s.hmp.request := by
      rw [hu]
      change (s.statusTaken b).hmp.request = _
      rw [hhmp]
    have hhave : u.hmp.haveTo = s.hmp.haveTo := by
      rw [hu]
      change (s.statusTaken b).hmp.haveTo = _
      rw [hhmp]
    have hheadN : u.rdN Reg.HMP_STATUS_log_head = uAt b 12 4 := by rw [State.rdN, hrd, hhead, Int.toNat_natCast]
    rw [← hu]
    simp (disch := exact Obj.key_ne) only [State.rd_keep, State.deadline_keep, u.asked_hmpNextLog.rd, hrd, hinterface,
      hreceived, hlegal, hflags, hhead, hseal, hframes, true_and]
    refine ⟨(u.asked_hmpNextLog.deadline _ (by decide)).trans hdeadline, fun hmay hmissing => ?_⟩
    have hmay' : u.hmpMayRequest = true := State.hmpMayRequest_of_receiving (s := s) (by rw [hu]; exact hrst)
      (by rw [hu]; exact hpower) (by rw [hu]; exact hfaults) hrequest
      ((hrd _ _ _).trans hlevel) ((hrd _ _ _).trans hinterface) hmay
    obtain ⟨hasked, hfrom, hto, hout⟩ := u.hmpNextLog_asks hmay' (by rw [hhave, hheadN]; exact hmissing)
    rw [hheadN, hhave] at *
    exact ⟨hasked, hfrom, hto, hout ▸ List.mem_cons_self ..⟩
  · obtain ⟨hreceived, hrow, hid, hfirmware⟩ := s.rd_snapshotTaken b
    refine ⟨_, exec_hmpSnapshotRx s b hhears hpay hlen, ?_⟩
    obtain ⟨hregs, hblobs, -, hanswered⟩ := (s.snapshotTaken b).hmpAnswered_keeps 0x81
    generalize hu : (s.snapshotTaken b).hmpAnswered 0x81 = u at *
    have hrd {q : Obj} {i j : Nat} (h : q.key i j ≠ Reg.HMP_IF_REQUESTS.key 0 0) :
        u.hmpNextLog.rd q i j = (s.snapshotTaken b).rd q i j := (u.asked_hmpNextLog.rd h).trans (State.rd_congr hregs _ _ _)
    refine ⟨?_, (hrd Obj.key_ne).trans hreceived, fun i hi => (hrd Obj.key_ne).trans (hrow i hi),
      (hrd Obj.key_ne).trans hid, (hrd Obj.key_ne).trans hfirmware,
      u.asked_hmpNextLog.request_ne (hanswered (by decide)) (by decide)⟩
    rw [State.rdB_keep, u.asked_hmpNextLog.rdB, State.rdB_congr hblobs,
      s.rdB_snapshotTaken b (by rintro rfl; simp at hlen)]
  · refine ⟨_, exec_hmpLogRx s b hhears hpay hlen, ?_⟩
    obtain ⟨hregs, hblobs, hhave, -⟩ := (s.logTaken b).hmpAnswered_keeps 0x82
    generalize hu : (s.logTaken b).hmpAnswered 0x82 = u at *
    simp (disch := exact Obj.key_ne) only [State.rd_keep, State.rdB_keep, u.asked_hmpNextLog.rd,
      u.asked_hmpNextLog.rdB, State.rd_congr hregs, State.rdB_congr hblobs]
    refine ⟨s.rdB_logTaken b hlen, ?_, fun hasked => ?_⟩
    · rw [State.logTaken_of_one s b hlen]
      split
      · rw [State.rd_setHmp, State.rd_wrB, State.rd_hmpGood_interface]
      · rw [State.rd_wrB, State.rd_hmpGood_interface]
    · rw [State.keep_hmp, u.asked_hmpNextLog.haveTo, hhave, State.logTaken_of_one s b hlen, if_pos hasked]
      rfl
  · refine ⟨_, exec_hmpTimeResultRx s b hhears hpay hlen, ?_⟩
    obtain ⟨hregs, hblobs, -, hanswered⟩ := (s.resultTaken b).hmpAnswered_keeps 0x83
    generalize hu : (s.resultTaken b).hmpAnswered 0x83 = u at *
    have hrd {q : Obj} {i j : Nat} (h : q.key i j ≠ Reg.HMP_IF_REQUESTS.key 0 0) :
        u.hmpNextLog.rd q i j = (s.resultTaken b).rd q i j := (u.asked_hmpNextLog.rd h).trans (State.rd_congr hregs _ _ _)
    obtain ⟨hagreed, haccepted, hrefused⟩ := s.rd_resultTaken b
    simp (disch := exact Obj.key_ne) only [State.rd_keep, State.rdB_keep, hrd, u.asked_hmpNextLog.rdB,
      State.rdB_congr hblobs, hagreed, haccepted, hrefused, s.rdB_resultTaken b hlen, true_and]
    exact ⟨u.asked_hmpNextLog.request_ne (hanswered (by decide)) (by decide), fun h => if_pos h, fun h => if_neg h,
      fun h => if_pos h, fun h h' => if_neg (by omega), fun h => if_pos h, fun h => if_neg h⟩
  · refine ⟨s.hmpBad.keep s, exec_of_bad s hhears hbad hi, ?_⟩
    rw [s.hmpBad_of_few hfew]
    exact ⟨State.rd_inc_self s _ _ _ _, rfl, rfl⟩
  · refine ⟨_, exec_of_bad s hhears (.inl hshort) (.inl rfl), ?_⟩
    exact s.hmpBad_of_many hmany
  · refine ⟨_, guarded_pos s ⟨hmay, hdue⟩, rfl, ?_, ?_, ?_, _, rfl, ?_⟩
    · exact State.deadline_arm_self ..
    · exact (State.deadline_arm_other _ _ (by decide)).trans (State.deadline_arm_self ..)
    · exact State.rd_inc_self ..
    · simp
  · refine ⟨_, exec_hmpTimeOfferSend s hmay hlocked hreceiving hseal hhour hnew, ?_⟩
    refine ⟨?_, ?_, ?_, ?_⟩
    · simp only [State.keep_out, State.inc_out, State.hmpSend_spec, State.setHmp]
    · simp only [State.keep_hmp, State.inc_hmp, State.hmpSend_spec]
    · simp only [State.keep_hmp, State.inc_hmp, State.hmpSend_spec, State.setHmp]
    · rw [State.rd_keep, State.rd_inc_self, State.rd_hmpSend_other _ _ _ Obj.key_ne, State.rd_setHmp]
  · refine ⟨_, guarded_pos s ⟨hruns, hrequest, hpassed⟩, ?_⟩
    rw [State.raise_eq _ _ _ (by rfl : _ = some 1) (by rfl)]
    refine ⟨rfl, ?_, ?_, rfl, rfl⟩
    · exact State.deadline_disarm_self ..
    · exact State.rd_inc_self ..
  · refine ⟨_, guarded_pos s ⟨hhears, hpassed⟩, ?_⟩
    rw [State.raise_eq _ _ _ (by rfl : _ = some 3) (by rfl)]
    refine ⟨State.rd_hmpTo_self .., ?_, ?_⟩
    · exact (State.deadline_congr (State.hmpTo_timers ..) _).trans (State.deadline_disarm_self ..)
    · simp [State.reported, State.faultNow, State.now]

end Sys2Proof.Machine
end

section
/-! Resets, supplies and start-up (chapter 15). -/

namespace Sys2Proof.Machine

set_option Elab.async false

/-! ## Cold resets (R10, R566) and holds (R561, R569) -/

/-- The cold reset, as the commands leave it. -/
theorem State.coldReset_keep (s : State) {cause : Nat} {detail b : Bytes} (hold : Nat) (hb : be 1 cause ++ detail = b) :
    ColdReset s b ((s.coldReset cause detail hold).keep s) := hb ▸ s.coldReset_coldReset cause detail hold

/-- The holds of the islands, the one in force first (R561). -/
theorem State.heldBy_iff_mem (s : State) (k : Nat) : s.heldBy k = true ↔ k ∈ s.rst.hold :: s.rst.alsoHeld := by
  simp only [State.heldBy, Bool.or_eq_true, beq_iff_eq, List.contains_iff_mem, List.mem_cons]
  exact or_congr_left eq_comm

/-- A cold reset that holds the islands by a supply or the junction leaves them held by it. -/
theorem State.heldBy_coldReset (s : State) (cause : Nat) (detail : Bytes) {hold : Nat} (h : holdVio ≤ hold) :
    (s.coldReset cause detail hold).heldBy hold = true := by
  have hmem : hold ∈ ((hold :: s.rst.hold :: s.rst.alsoHeld).filter fun (k : Nat) => decide (holdVio ≤ k)).eraseDups := by
    simp [h]
  rw [State.heldBy_iff_mem]
  simp only [State.coldReset]
  generalize ((hold :: s.rst.hold :: s.rst.alsoHeld).filter fun (k : Nat) => decide (holdVio ≤ k)).eraseDups = holds at *
  cases holds with
  | nil => exact absurd hmem List.not_mem_nil
  | cons k holds => exact hmem

/-- A hold that has ended is in force no more, and the start-up runs from there (R577). -/
theorem State.releaseHold_spec (s : State) {k : Nat} (h : holdVio ≤ k) :
    (s.releaseHold k).heldBy k = false ∧ (s.releaseHold k).rst.releasedAt = s.now := by
  refine ⟨?_, rfl⟩
  have hmem : k ∉ (s.rst.hold :: s.rst.alsoHeld).filter fun (x : Nat) => decide (holdVio ≤ x ∧ x ≠ k) := by simp
  rw [← Bool.not_eq_true, State.heldBy_iff_mem]
  simp only [State.releaseHold, State.setRst]
  generalize (s.rst.hold :: s.rst.alsoHeld).filter (fun (x : Nat) => decide (holdVio ≤ x ∧ x ≠ k)) = holds at *
  cases holds with
  | nil => simp only [holdVio, holdShort] at h ⊢; simp; omega
  | cons x holds => exact hmem

/-- The rails whose loss is a reset, below their thresholds (Table 15.5). -/
theorem Rail.threshold_any {r : Rail} {mv limit : Nat}
    (h : r = .vcore ∧ limit = 800 ∨ r = .vddr ∧ limit = 950 ∨ r = .vafe ∧ limit = 1600) (hlow : mv < limit) :
    (r.threshold.any fun t => decide (mv < t)) = true := by
  obtain ⟨rfl, rfl⟩ | ⟨rfl, rfl⟩ | ⟨rfl, rfl⟩ := h
  all_goals exact decide_eq_true hlow

/-- Settles O57: each cause by the condition it is guarded with. -/
theorem coldResetsNameTheirCause : Obligations.ColdResetsNameTheirCause := by
  refine ⟨fun s w hw => ⟨_, guarded_pos s hw, s.coldReset_keep _ rfl⟩,
    fun s mv hlow hfree => ⟨_, guarded_pos s ⟨hlow, by simp [hfree]⟩, s.coldReset_keep _ rfl⟩,
    fun s r mv limit hr hlow hon hfree =>
      ⟨_, guarded_pos s ⟨hon, by simp [hfree], Rail.threshold_any hr hlow⟩, s.coldReset_keep _ rfl⟩,
    fun s hlive hdue => ⟨_, guarded_pos s ⟨hlive, hdue⟩, s.coldReset_keep _ rfl⟩,
    fun s tj hhot hfree => ⟨_, guarded_pos s ⟨hhot, by simp [hfree]⟩, s.coldReset_keep _ rfl,
      State.heldBy_coldReset _ _ _ (by decide), rfl⟩,
    fun s hlive hlow => ⟨_, guarded_pos s ⟨hlive, hlow⟩, s.coldReset_keep _ rfl⟩,
    fun s w mv limit tj r i hw hmv htj hr hi => ?_⟩
  have hrail : ¬ (r.threshold.any fun t => decide (mv < t)) = true := by
    obtain hnone | ⟨hsome, hge⟩ := hr
    · simp [hnone]
    · simp [hsome, hge]
  obtain rfl | rfl | rfl | rfl := hi
  · exact guarded_neg s (by omega)
  · exact guarded_neg s fun h => absurd h.1 (by omega)
  · exact guarded_neg s fun h => absurd h.1 (by omega)
  · exact guarded_neg s fun h => hrail h.2.2

end Sys2Proof.Machine
end

section
/-! Life cycle, keys and the TAP (R575, R576, R579 to R582). -/

namespace Sys2Proof.Machine

set_option Elab.async false

/-! ## The TAP -/

/-- The instruction a load puts in force: one that is not available acts as BYPASS (R575). -/
def State.tapCode (s : State) (code : Nat) : Nat := if s.tapAvailable code then code else tapBypass

theorem takesBalls_tapCode (s : State) (code : Nat) :
    takesBalls (s.tapCode code) = (s.tapAvailable code && takesBalls code) := by
  unfold State.tapCode
  split
  · simp [*]
  · simp [*, takesBalls, tapBypass, tapExtest, tapPulse, tapTrain, tapHighz, tapClamp]

theorem State.tapCode_of_available {s : State} {code : Nat} (h : s.tapAvailable code = true) : s.tapCode code = code :=
  if_pos h

theorem State.tapCode_of_not {s : State} {code : Nat} (h : s.tapAvailable code = false) : s.tapCode code = tapBypass := by
  simp [State.tapCode, h]

theorem State.tapAvailable_idcode (s : State) : s.tapAvailable tapIdcode = true := by simp [State.tapAvailable]

section
variable (s : State) (code : Nat)

theorem State.tapLoad_rst : (s.tapLoad code).rst.instruction = s.tapCode code
    ∧ (s.tapLoad code).rst.ballsTaken = takesBalls (s.tapCode code) := ⟨rfl, rfl⟩

theorem State.leaveBalls_of_free (h : s.rst.ballsTaken = false) : s.leaveBalls = s := by simp [State.leaveBalls, h]

/-- No ball is taken: a load reaches the TAP alone. -/
theorem State.tapLoad_of_free (h : s.rst.ballsTaken = false) : s.tapLoad code = s.setRst fun r =>
    { r with instruction := s.tapCode code, ballsTaken := takesBalls (s.tapCode code),
             ballsBy := if takesBalls (s.tapCode code) then s.tapCode code else 0 } := by
  unfold State.tapLoad
  dsimp only
  rw [s.leaveBalls_of_free h, ite_self]
  rfl

/-- An instruction that took the balls is left: a cold reset that names it (R576). -/
theorem State.tapLoad_of_taken (h : s.rst.ballsTaken = true) (hother : s.rst.instruction ≠ s.tapCode code) :
    ColdReset s ([8] ++ be 1 s.rst.ballsBy) ((s.tapLoad code).keep s) := by
  unfold State.tapCode at hother
  unfold State.tapLoad
  dsimp only
  rw [if_neg hother, State.leaveBalls, if_pos h]
  exact s.coldReset_coldReset causeJtag (be 1 s.rst.ballsBy) holdShort

/-- What a cold reset keeps and the TAP's own registers do not show, a load keeps. -/
theorem State.tapLoad_keeps {α : Type} (g : State → α) (hset : ∀ (u : State) f, g (u.setRst f) = g u)
    (hreset : ∀ d, g (s.coldReset causeJtag d holdShort) = g s) : g (s.tapLoad code) = g s := by
  have hleave : g s.leaveBalls = g s := by
    unfold State.leaveBalls
    split
    · exact (hset _ _).trans (hreset _)
    · rfl
  unfold State.tapLoad
  exact (hset _ _).trans (by rw [apply_ite g, hleave, ite_self])

theorem State.tapLoad_out : (s.tapLoad code).out = s.out := s.tapLoad_keeps code State.out (fun _ _ => rfl) fun _ => rfl

variable {s code}

/-- The instructions that only load. -/
theorem exec_tap {i : Instr} (h : i = .extest ∧ code = tapExtest ∨ i = .samplePreload ∧ code = tapSample
      ∨ i = .extestPulse ∧ code = tapPulse ∨ i = .extestTrain ∧ code = tapTrain ∨ i = .highz ∧ code = tapHighz
      ∨ i = .clampBalls ∧ code = tapClamp ∨ i = .bypass ∧ code = tapBypass) :
    exec i s = .next ((s.tapLoad code).keep s) := by
  obtain ⟨rfl, rfl⟩ | ⟨rfl, rfl⟩ | ⟨rfl, rfl⟩ | ⟨rfl, rfl⟩ | ⟨rfl, rfl⟩ | ⟨rfl, rfl⟩ | ⟨rfl, rfl⟩ := h
  all_goals exact guarded_pos s trivial

end

/-- The fields of the identification code (R575). -/
theorem State.idcode_fields (s : State) : s.idcode % 2 = 1 ∧ s.idcode / 2 ^ 12 % 2 ^ 16 = 0x9160
    ∧ s.idcode / 2 ^ 28 = s.fuses.dieRevision % 16 := by
  have hmaker : Config.manufacturer % 2048 < 2048 := Nat.mod_lt _ (by decide)
  have hrevision : s.fuses.dieRevision % 16 < 16 := Nat.mod_lt _ (by decide)
  unfold State.idcode
  omega

/-! ## Keys (R580) -/

section
variable {f : Fuses} {word : Option Nat} {w readback : Nat}

theorem Fuses.program_of_no_role
    (h : word = none ∨ word.any (fun w => w / 2 ^ 256 == 0 || decide (3 < w / 2 ^ 256)) = true) :
    f.program word readback = (1, f) := by
  cases word with
  | none => rfl
  | some w =>
    have hrole : w / 2 ^ 256 = 0 ∨ 3 < w / 2 ^ 256 := by simpa using h
    exact if_pos hrole

variable (hlo : 1 ≤ w / 2 ^ 256) (hhi : w / 2 ^ 256 ≤ 3)
include hlo hhi

theorem Fuses.program_of_used (h : (f.roleKey (w / 2 ^ 256)).status ≠ 0) : f.program (some w) readback = (2, f) :=
  (if_neg (by omega)).trans (if_pos h)

theorem Fuses.program_of_zero (h : (f.roleKey (w / 2 ^ 256)).status = 0) (hkey : w % 2 ^ 256 = 0) :
    f.program (some w) readback = (4, f) :=
  (if_neg (by omega)).trans ((if_neg (not_not.mpr h)).trans (if_pos hkey))

theorem Fuses.program_of_key (h : (f.roleKey (w / 2 ^ 256)).status = 0) (hkey : w % 2 ^ 256 ≠ 0) :
    f.program (some w) readback = if readback = w % 2 ^ 256
      then (0, f.setKey (w / 2 ^ 256) { status := 1, key := w % 2 ^ 256, blown := w % 2 ^ 256 })
      else (3, f.setKey (w / 2 ^ 256) { status := 2, key := 0, blown := readback }) :=
  (if_neg (by omega)).trans ((if_neg (not_not.mpr h)).trans (if_neg hkey))

end

/-- KEY_PROG reports a status, and its fuses hold what it made of the key register. -/
theorem exec_keyProg (s : State) (readback : Nat) :
    Completes (.keyProg readback) s fun t =>
      (t.rst.tapStatus, t.fuses)
          = (if s.fuses.lifeCycle ≠ 0 then (5, s.fuses) else s.fuses.program s.rst.keyWord readback)
      ∧ t.out = .tdo t.rst.tapStatus 8 :: s.out :=
  ⟨_, guardedFuse_pos s trivial, rfl, congrArg (_ :: ·) (s.tapLoad_out tapKeyProg)⟩

/-! ## Transitions (R579, R581) -/

section
variable (s : State)

@[simp] theorem State.freeSession_rst (k : SessionNo) : (s.freeSession k).rst = s.rst := by
  unfold State.freeSession
  dsimp only
  split
  · rfl
  · rfl

@[simp] theorem State.freeSession_blobs (k : SessionNo) : (s.freeSession k).blobs = s.blobs := by
  unfold State.freeSession
  dsimp only
  split
  · rfl
  · rfl

/-- Closing a session reaches its own objects and the state of the commit. -/
theorem State.rd_freeSession (k : SessionNo) {q : Obj} {i j : Nat}
    (hstatus : q.key i j ≠ Reg.COMMIT_STATUS_state.key 0 0) (hrole : ∀ n < 9, q.key i j ≠ Reg.IZ_SESSION_role.key 0 n)
    (hopened : ∀ n < 9, q.key i j ≠ Reg.IZ_SESSION_opened.key 0 n)
    (hlast : ∀ n < 9, q.key i j ≠ Reg.IZ_SESSION_last_arrival.key 0 n) : (s.freeSession k).rd q i j = s.rd q i j := by
  have hk : k.val + 1 < 9 := by omega
  unfold State.freeSession
  dsimp only
  rw [State.rd_wr_other _ _ (hlast _ hk), State.rd_wr_other _ _ (hopened _ hk), State.rd_wr_other _ _ (hrole _ hk)]
  simp only [State.rd_disarm, State.rd_setSession, State.rd_setIz]
  split
  · exact State.rd_wr_other _ _ hstatus
  · rfl

@[simp] theorem State.freeSessions_rst : s.freeSessions.rst = s.rst := foldl_keeps State.rst State.freeSession_rst _ s

@[simp] theorem State.freeSessions_blobs : s.freeSessions.blobs = s.blobs :=
  foldl_keeps State.blobs State.freeSession_blobs _ s

theorem State.rdN_freeSessions_jtagPolicy : s.freeSessions.rdN Reg.JTAG_POLICY = s.rdN Reg.JTAG_POLICY :=
  foldl_keeps (fun s => s.rdN Reg.JTAG_POLICY) (fun s k => congrArg Int.toNat (s.rd_freeSession k Obj.key_ne
    (fun _ _ => Obj.key_ne) (fun _ _ => Obj.key_ne) fun _ _ => Obj.key_ne)) _ s

end

/-- A committed transition: the sessions close, the fuses are blown, and the device takes a cold reset (R581). -/
theorem exec_lcStateCommit {s : State} {new : Nat} (readback : Bool) (hruns : s.runs = true) (hidle : s.iz.active = none)
    (hup : s.fuses.lifeCycle < new) (hnew : s.rd Reg.LC_STATE_request = new) :
    Completes (.lcStateCommit readback) s fun t => t.fuses = (s.freeSessions.transition new readback).fuses
      ∧ t.rst.cause = [5] ++ be 1 (s.freeSessions.transition new readback).fuses.lifeCycle ∧ t.regs = [] := by
  have hrequest : s.rdN Reg.LC_STATE_request = new := by rw [State.rdN, hnew, Int.toNat_natCast]
  refine ⟨_, guardedFuse_pos s ⟨hruns, hidle, by rw [hrequest]; exact hup⟩, ?_⟩
  rw [hrequest]
  exact ⟨rfl, rfl, rfl⟩

/-- The fuses of a transition to SERVICE whose set reads back (Table 15.16). -/
theorem State.transition_service (s : State) : (s.transition 2 true).fuses = { s.fuses with
    rws := s.fuses.rws ++ [⟨s.rdN Reg.JTAG_POLICY, s.rdB Reg.INSTALL_TAG,
      crc32 (be 1 (s.rdN Reg.JTAG_POLICY) ++ s.rdB Reg.INSTALL_TAG)⟩], lifeCycle := 2 } := (rfl)

/-- The fuses of one whose set does not: the state stays. -/
theorem State.transition_failed (s : State) : ∃ x, (s.transition 2 false).fuses
    = { s.fuses with rws := s.fuses.rws ++ [x], lifeCycle := s.fuses.lifeCycle } := ⟨_, rfl⟩

/-- The fuses of a transition to RETIRED. -/
theorem State.transition_retired (s : State) (readback : Bool) :
    (s.transition 3 readback).fuses = { s.fuses.destroyKeys with lifeCycle := 3 } := (rfl)

/-- Settles O60: each command by its equation. -/
theorem lifeCycleAndTapComplete : Obligations.LifeCycleAndTapComplete := by
  refine ⟨fun s hruns hidle hlow hnew => ?_, fun s hruns hidle hlow hnew => ?_, fun s readback hruns hidle hlow hnew => ?_,
    fun s word hblank => ?_, fun s word hblank hballs => ?_, fun s readback hblank hnone => ?_,
    fun s w readback hblank hword hlo hhi hfree hzero => ?_,
    fun s w readback role hblank hword hrole hlo hhi hfree hkey => ?_,
    fun s w readback hblank hword hlo hhi hused => ?_, fun s readback hblank => ?_, fun s hblank hkey => ?_,
    fun s hnot => ?_, fun i s code hi hballs havail => ?_, fun i s code hi hballs havail => ?_,
    fun i s code hi hballs hother => ?_, fun s hballs => ?_, fun s hballs => ?_, fun s hballs => ?_,
    fun s hballs hother => ?_⟩
  · obtain ⟨t, ht, hfuses, hcause, hregs⟩ := exec_lcStateCommit true hruns hidle hlow hnew
    rw [State.transition_service, State.freeSessions_fuses, s.rdN_freeSessions_jtagPolicy,
      State.rdB_congr s.freeSessions_blobs] at hfuses
    rw [State.transition_service] at hcause
    exact ⟨t, ht, hfuses ▸ rfl, hcause.trans (rfl : [5] ++ be 1 2 = [5, 2]), hregs, hfuses ▸ rfl⟩
  · obtain ⟨t, ht, hfuses, hcause, hregs⟩ := exec_lcStateCommit false hruns hidle hlow hnew
    obtain ⟨x, hx⟩ := s.freeSessions.transition_failed
    rw [hx, State.freeSessions_fuses] at hfuses hcause
    exact ⟨t, ht, hfuses ▸ rfl, hregs, hcause, by rw [hfuses]; simp⟩
  · obtain ⟨t, ht, hfuses, hcause, -⟩ := exec_lcStateCommit readback hruns hidle hlow hnew
    rw [State.transition_retired] at hfuses hcause
    exact ⟨t, ht, hfuses ▸ rfl, hcause.trans (rfl : [5] ++ be 1 3 = [5, 3]), fun r => by rw [hfuses]; exact s.freeSessions.fuses.roleKey_destroyKeys r⟩
  · have havail : s.tapAvailable tapKeyLoad = true := by simp [State.tapAvailable, hblank, tapKeyLoad, tapIdcode, tapBypass, tapClamp]
    refine ⟨_, guarded_pos s trivial, ?_⟩
    dsimp only
    rw [if_pos havail]
    exact ⟨rfl, (s.tapLoad_rst _).1.trans (State.tapCode_of_available havail), rfl⟩
  · have hnot : s.tapAvailable tapKeyLoad = false := by
      simp [State.tapAvailable, hblank, tapKeyLoad, tapIdcode, tapBypass, tapClamp]
    refine (guarded_pos s trivial).trans ?_
    dsimp only
    rw [if_neg (by simp [hnot]), s.tapLoad_of_free _ hballs, State.tapCode_of_not hnot]
    rfl
  · obtain ⟨t, ht, hprogram, -⟩ := exec_keyProg s readback
    rw [if_neg (not_not.mpr hblank), Fuses.program_of_no_role hnone] at hprogram
    exact ⟨t, ht, congrArg Prod.snd hprogram, congrArg Prod.fst hprogram⟩
  · obtain ⟨t, ht, hprogram, -⟩ := exec_keyProg s readback
    rw [if_neg (not_not.mpr hblank), hword, Fuses.program_of_zero hlo hhi hfree hzero] at hprogram
    exact ⟨t, ht, congrArg Prod.snd hprogram, congrArg Prod.fst hprogram⟩
  · subst hrole
    obtain ⟨t, ht, hprogram, hout⟩ := exec_keyProg s readback
    rw [if_neg (not_not.mpr hblank), hword, Fuses.program_of_key hlo hhi hfree hkey] at hprogram
    refine ⟨t, ht, ?_⟩
    by_cases hback : readback = w % 2 ^ 256
    · rw [if_pos hback, Prod.mk.injEq] at hprogram
      rw [hprogram.2, Fuses.roleKey_setKey_self, if_pos hback, if_pos hback, Fuses.lifeCycle_setKey]
      exact ⟨rfl, fun _ => rfl, hprogram.1, hblank, hout⟩
    · rw [if_neg hback, Prod.mk.injEq] at hprogram
      rw [hprogram.2, Fuses.roleKey_setKey_self, if_neg hback, if_neg hback, Fuses.lifeCycle_setKey]
      exact ⟨rfl, fun h => absurd h hback, hprogram.1, hblank, hout⟩
  · obtain ⟨t, ht, hprogram, -⟩ := exec_keyProg s readback
    rw [if_neg (not_not.mpr hblank), hword, Fuses.program_of_used hlo hhi hused] at hprogram
    exact ⟨t, ht, congrArg Prod.snd hprogram, congrArg Prod.fst hprogram⟩
  · obtain ⟨t, ht, hprogram, -⟩ := exec_keyProg s readback
    rw [if_pos hblank] at hprogram
    exact ⟨t, ht, congrArg Prod.snd hprogram, congrArg Prod.fst hprogram⟩
  · refine ⟨_, guardedFuse_pos s trivial, ?_⟩
    dsimp only
    rw [State.tapLoad_fuses, if_pos ⟨hblank, hkey⟩]
    exact ⟨by simp [State.setFuses], rfl, rfl⟩
  · refine ⟨_, guardedFuse_pos s trivial, ?_⟩
    dsimp only
    rw [State.tapLoad_fuses, if_neg (by omega)]
    refine ⟨by simp, fun hballs => ?_⟩
    rw [s.tapLoad_of_free _ hballs]
    exact ⟨rfl, rfl, rfl⟩
  · rw [exec_tap hi, s.tapLoad_of_free code hballs, State.tapCode_of_available havail]
    rfl
  · rw [exec_tap hi, s.tapLoad_of_free code hballs, State.tapCode_of_not havail]
    rfl
  · exact ⟨_, exec_tap hi, s.tapLoad_of_taken code hballs hother, rfl, takesBalls_tapCode s code⟩
  · have hlive : s.live = false := by simp [State.live, hballs]
    have hruns : s.runs = false := by simp [State.runs, hlive]
    exact ⟨hlive, hruns, by simp [State.steward, hruns]⟩
  · refine ⟨_, guarded_pos s trivial, ?_⟩
    rw [s.tapLoad_of_free _ hballs, State.tapCode_of_available s.tapAvailable_idcode]
    obtain ⟨hodd, hpart, hrevision⟩ := s.idcode_fields
    exact ⟨rfl, rfl, hodd, hpart, hrevision, rfl⟩
  · refine ⟨_, guarded_pos s trivial, ?_⟩
    rw [s.tapLoad_of_free _ hballs, State.tapCode_of_available s.tapAvailable_idcode]
    exact ⟨rfl, rfl, rfl⟩
  · have hcode : s.tapCode tapIdcode = tapIdcode := State.tapCode_of_available s.tapAvailable_idcode
    exact ⟨_, guarded_pos s hballs, (s.tapLoad_rst _).2.trans (by rw [hcode]; rfl), (s.tapLoad_rst _).1.trans hcode,
      s.tapLoad_of_taken _ hballs (hcode ▸ hother)⟩

end Sys2Proof.Machine
end

section
/-! The pace a link takes (R67, R244). -/

namespace Sys2Proof.Machine

set_option Elab.async false

/-- b is the best of l: it has the largest spectral efficiency, and the lowest code of those (R244). -/
def BestOf (l : List Nat) (b : Nat) : Prop := b ∈ l ∧ ∀ q ∈ l, paceEta q < paceEta b ∨ (paceEta q = paceEta b ∧ b ≤ q)

theorem bestPace_concat (l : List Nat) (p : Nat) : bestPace (l ++ [p])
    = match bestPace l with | some x => if paceEta x < paceEta p then some p else some x | none => some p := by
  have hlast : bestPace (l ++ [p]) = match bestPace l with
      | some x => if paceEta x < paceEta p then some p else bestPace l | none => some p :=
    List.foldl_concat ..
  rw [hlast]
  cases bestPace l with
  | none => rfl
  | some x => rfl

/-- Over a list of rising codes the search keeps the best. -/
theorem bestPace_spec (l : List Nat) (hl : l.Pairwise (· < ·)) :
    (l = [] ∧ bestPace l = none) ∨ ∃ b, bestPace l = some b ∧ BestOf l b := by
  induction l using List.reverseRecOn with
  | nil => exact .inl ⟨rfl, rfl⟩
  | append_singleton l p ih =>
    obtain ⟨hl', -, hlast⟩ := List.pairwise_append.mp hl
    have hlt : ∀ q ∈ l, q < p := fun q hq => hlast q hq p (List.mem_singleton_self p)
    right
    rw [bestPace_concat]
    obtain ⟨rfl, hnone⟩ | ⟨b, hb, hmem, hbest⟩ := ih hl'
    · rw [hnone]
      exact ⟨p, rfl, List.mem_singleton_self p, fun q hq => .inr (by rw [List.mem_singleton.mp hq]; exact ⟨rfl, le_rfl⟩)⟩
    · rw [hb]
      dsimp only
      split
      · refine ⟨p, rfl, List.mem_append_right l (List.mem_singleton_self p), fun q hq => ?_⟩
        obtain hq | hq := List.mem_append.mp hq
        · have := hbest q hq
          omega
        · rw [List.mem_singleton.mp hq]
          exact .inr ⟨rfl, le_rfl⟩
      · refine ⟨b, rfl, List.mem_append_left _ hmem, fun q hq => ?_⟩
        obtain hq | hq := List.mem_append.mp hq
        · exact hbest q hq
        · rw [List.mem_singleton.mp hq]
          have := hlt b hmem
          omega

theorem pairwise_paceCandidates (paces ceiling g : Nat) : (paceCandidates paces ceiling g).Pairwise (· < ·) :=
  List.Pairwise.filter _ (List.pairwise_lt_range)

theorem paceD_of_mem_paceCandidates {paces ceiling g q : Nat} (h : q ∈ paceCandidates paces ceiling g) : paceD q ≤ g := by
  simp only [paceCandidates, List.mem_filter, Bool.and_eq_true, decide_eq_true_eq] at h
  exact h.2.2.2

/-- The lowest pace that G allotments allow is one they allow (R67). -/
theorem paceD_lowestPace {g : Nat} (hg : 1 ≤ g) : paceD (lowestPace g) ≤ g := by
  have hlarge : decide (paceD 23 ≤ g) = true := decide_eq_true hg
  obtain ⟨p, hp⟩ : ∃ p, lowest 24 (fun p => decide (paceD p ≤ g)) = some p :=
    Option.isSome_iff_exists.mp (List.find?_isSome.mpr ⟨23, by decide, hlarge⟩)
  have hfits : decide (paceD p ≤ g) = true := List.find?_some (p := fun p => decide (paceD p ≤ g)) hp
  rw [lowestPace, hp]
  exact of_decide_eq_true hfits

section
variable {snr : Option Nat} {g : Nat} {m : Int} {cands : List Nat} (hsorted : cands.Pairwise (· < ·))
include hsorted

/-- A candidate qualifies: the best of those that do is chosen. -/
theorem choosePace_of_qualifies (h : ∃ q ∈ cands, paceQualifies snr g m q = true) :
    BestOf (cands.filter fun p => paceQualifies snr g m p) (choosePace snr g m cands) := by
  obtain ⟨q, hq, hqualifies⟩ := h
  obtain ⟨hnil, -⟩ | ⟨b, hb, hbest⟩ := bestPace_spec (cands.filter fun p => paceQualifies snr g m p) (hsorted.filter _)
  · exact absurd (List.mem_filter.mpr ⟨hq, hqualifies⟩) (hnil ▸ List.not_mem_nil)
  · rwa [choosePace, hb]

omit hsorted in
/-- None does: the fallback is chosen. -/
theorem choosePace_of_none (h : ∀ q ∈ cands, paceQualifies snr g m q = false) :
    choosePace snr g m cands = fallbackPace g cands := by
  have hnil : (cands.filter fun p => paceQualifies snr g m p) = [] := by
    rw [List.filter_eq_nil_iff]
    intro q hq
    simp [h q hq]
  rw [choosePace, hnil]
  rfl

theorem fallbackPace_le (hg : g ≠ 64) {q : Nat} (hq : q ∈ cands) : fallbackPace g cands ∈ cands ∧ fallbackPace g cands ≤ q := by
  cases cands with
  | nil => cases hq
  | cons p l =>
    have hfirst : fallbackPace g (p :: l) = p := if_neg hg
    rw [hfirst]
    refine ⟨List.mem_cons_self, ?_⟩
    obtain rfl | hq := List.mem_cons.mp hq
    · exact le_rfl
    · exact (List.rel_of_pairwise_cons hsorted hq).le

end

/-- Settles O25: the best of the candidates that qualify, or the fallback. -/
theorem chosenPaceIsBest : Obligations.ChosenPaceIsBest := by
  intro snr g m paces ceiling
  have hsorted := pairwise_paceCandidates paces ceiling g
  refine ⟨fun hnone => ?_, fun hsome => ?_, fun q hq hqualifies => ?_⟩
  · rw [choosePace_of_none hnone]
    refine ⟨fun hg => if_pos hg, fun hg q hq => fallbackPace_le hsorted hg hq, fun hg hpos => ?_⟩
    by_cases hnil : paceCandidates paces ceiling g = []
    · rw [hnil]
      exact (congrArg paceD (if_neg hg)).le.trans (paceD_lowestPace hpos)
    · obtain ⟨q, hq⟩ := List.exists_mem_of_ne_nil _ hnil
      exact paceD_of_mem_paceCandidates (fallbackPace_le hsorted hg hq).1
  · obtain ⟨hmem, -⟩ := choosePace_of_qualifies hsorted hsome
    exact List.mem_filter.mp hmem
  · exact (choosePace_of_qualifies hsorted ⟨q, hq, hqualifies⟩).2 q (List.mem_filter.mpr ⟨hq, hqualifies⟩)

end Sys2Proof.Machine
end

section
/-! Station time (R25 to R34, R40, R423): its discipline, its parcels and its writes. -/

namespace Sys2Proof.Machine

set_option Elab.async false

/-! ## Faults that are catalogued -/

/-- The faults once a catalogued one is raised (R487); what `State.reported` asks of the state is its stamp, its faults and
which replicas are aligned. -/
theorem State.raise_reported {s t : State} {src c k sev : Nat} (u d : Nat) (hsev : catalogueSeverity c k = some sev)
    (hsrc : sourceOf c k src = true) (hstamps : t.time.unaligned = s.time.unaligned) (hnow : t.time.now = s.time.now)
    (hfaults : t.faults = s.faults) : (t.raise src c k u d).faults = s.reported src c k u d sev := by
  rw [t.raise_eq u d hsev hsrc]
  simp only [State.reported, State.faultNow, State.now, hstamps, hnow, hfaults]

/-! ## What the way of a request leaves of the objects (R433, R436) -/

theorem Side.n_lt (x : Side) : x.n < 2 := by cases x <;> decide

section
variable (s : State)

@[simp] theorem State.rd_ungate (q : Obj) (i j : Nat) : s.ungate.rd q i j = s.rd q i j := by
  unfold State.ungate
  split
  · rfl
  · rfl

@[simp] theorem State.rd_arrives (r : IzReq) (q : Obj) (i j : Nat) : (s.arrives r).rd q i j = s.rd q i j := by
  unfold State.arrives
  dsimp only
  split
  · rw [State.rd_ungate, State.rd_hostParcel]
  · rw [State.rd_setIz, State.rd_ungate, State.rd_hostParcel]

theorem sessionNo_lt {n : Nat} {k : SessionNo} (h : sessionNo n = some k) : n < 9 := by
  unfold sessionNo at h
  split at h
  · omega
  · cases h

/-- An admitted request leaves every object but REQUESTS and the arrival of its session. -/
theorem State.rd_noted {r : IzReq} {k : SessionNo} {q : Obj} {i j : Nat}
    (hrequests : q.key i j ≠ Reg.IZ_CTL_REQUESTS.key 0 0) (hlast : q.key i j ≠ Reg.IZ_SESSION_last_arrival.key 0 r.session) :
    (s.noted r k).rd q i j = s.rd q i j := by
  unfold State.noted
  dsimp only
  rw [State.rd_arm, State.rd_wr_other _ _ hlast, State.rd_inc_other _ _ hrequests, State.rd_setSession, State.rd_arrives]

/-- What an admitted WRITE leaves of the objects. -/
theorem State.rd_of_admitted_write {s u : State} {r : IzReq} (hop : r.op = opWrite) (h : s.admitReq r = .accepted u) {q : Obj}
    {i j : Nat} (hrequests : q.key i j ≠ Reg.IZ_CTL_REQUESTS.key 0 0)
    (hlast : ∀ n < 9, q.key i j ≠ Reg.IZ_SESSION_last_arrival.key 0 n) : u.rd q i j = s.rd q i j := by
  obtain ⟨k, hk, -, rfl⟩ := State.admitReq_accepted_write hop h
  exact s.rd_noted hrequests (hlast _ (sessionNo_lt hk))

/-- A response leaves every object but the stalls of a Porfani port. -/
theorem State.rd_respond_apart (y : IzResp) {q : Obj} {i j : Nat} (h : q.apart Reg.PF_PORT_CREDIT_STALLS = true)
    (hi : i < 32) (hj : j < 1048576) : (s.respond y).rd q i j = s.rd q i j :=
  s.rd_respond y (Obj.key_ne h hi hj ((Side.n_lt y.side).trans (by decide)) (by decide))

end

/-! ## Discipline (R31, R33, R34) -/

section
variable (s : State)

/-- t slews by off from where the station time of s stands (R31). -/
structure State.Slews (off : Int) (s t : State) : Prop where
  slew : t.time.slew = off
  now : t.time.now = s.time.now
  offset : t.rd Reg.TIME_QUALITY_offset = off
  iz : t.iz = s.iz

theorem State.Slews.quality {off : Int} {s t : State} (h : State.Slews off s t) (q : Int) :
    State.Slews off s (t.quality q) :=
  ⟨h.slew, h.now, (State.rd_wr_other _ _ Obj.key_ne).trans h.offset, h.iz⟩

theorem State.bound_of_locked (h : s.rd Reg.TIME_QUALITY_state = tqLocked) :
    s.bound = ((s.time.offsets.map Int.natAbs).foldl max 0 : Nat) + 8 := by
  simp [State.bound, h, tqLocked, tqUnset]

/-- The bound goes on from its value when TIME_QUALITY leaves LOCKED (R34). -/
theorem State.bound_quality_holdover (h : s.rd Reg.TIME_QUALITY_state = tqLocked) :
    (s.quality tqHoldover).bound = s.bound := by
  have hstate : (s.quality tqHoldover).rd Reg.TIME_QUALITY_state = tqHoldover := State.rd_wr_self ..
  have hbase : ((s.quality tqHoldover).time.boundBase : Int) = s.bound := by
    rw [s.bound_of_locked h]
    simp [State.quality, State.rebound, s.bound_of_locked h]
    omega
  have hspan : (s.quality tqHoldover).now - (s.quality tqHoldover).time.boundAt = 0 := sub_self _
  rw [State.bound, hstate, hspan, hbase]
  simp [tqHoldover, tqUnset, tqLocked]

/-- A small offset slews station time and does not step it (R31). -/
theorem State.discipline_small {off : Int} (hset : s.rd Reg.TIME_QUALITY_state ≠ tqUnset) (hsmall : off.natAbs ≤ 1000000) :
    State.Slews off s (s.discipline off) ∧ (s.discipline off).deadline .sourceLost = some (s.now + 3000000000) := by
  have hslew : ¬ (s.rd Reg.TIME_QUALITY_state = tqUnset ∨ decide (1000000 < off.natAbs) = true) := by
    simp only [decide_eq_true_eq]; omega
  unfold State.discipline
  extract_lets st big u run v begun locked after
  have hbegun : State.Slews off s begun := ⟨rfl, rfl, State.rd_wr_self .., rfl⟩
  have hafter : State.Slews off s after := by
    unfold after
    rw [if_neg hslew]
    split_ifs
    · exact hbegun.quality _
    · exact hbegun.quality _
    · obtain ⟨hslew, hnow, hoff, hiz⟩ := hbegun.quality tqLocked
      exact ⟨hslew, hnow, hoff, hiz⟩
    · exact hbegun
  refine ⟨⟨hafter.slew, hafter.now, hafter.offset, hafter.iz⟩, ?_⟩
  rw [State.deadline_arm_self]
  simp only [State.now, hafter.now]

end

/-! ## Parcels sent at once (R402, R404) -/

section
variable (s : State)

/-- A queue of parcels and of host-bound frames that waits for nothing leaves a drain with nothing to do. -/
theorem State.drainFifo_of_nil {x : Side} {vc : Nat} (h : s.fifo x vc = []) : s.drainFifo x vc = s := by
  rw [State.drainFifo, h]
  rfl

@[simp] theorem State.forward_time (x : Side) (p : Parcel) : (s.forward x p).time = s.time := by
  unfold State.forward
  split
  · rfl
  · exact State.send_time ..

theorem State.rd_forward_apart (x : Side) (p : Parcel) {q : Obj} {i j : Nat} (h : q.apart Reg.PF_PORT_CREDIT_STALLS = true)
    (hi : i < 32) (hj : j < 1048576) : (s.forward x p).rd q i j = s.rd q i j := by
  unfold State.forward
  split
  · rfl
  · exact s.rd_send x _ (Obj.key_ne h hi hj ((Side.n_lt x).trans (by decide)) (by decide))

@[simp] theorem State.link_setLink_self (x : Side) (f : PfState → PfState) : (s.setLink x f).link x = f (s.link x) := by
  simp [State.link, State.setLink]

theorem State.setLink_setLink (x : Side) (f g : PfState → PfState) : (s.setLink x f).setLink x g = s.setLink x (g ∘ f) := by
  simp [State.setLink]

/-- A change of a link that leaves it as it is changes nothing. -/
theorem State.setLink_of_fixed {x : Side} {f : PfState → PfState} (h : f (s.link x) = s.link x) : s.setLink x f = s := by
  have hset : s.pf.set x.fin (f s.pf[x.fin]) = s.pf := by
    rw [show f s.pf[x.fin] = s.pf[x.fin] from h]
    exact Vector.set_getElem_self ..
  rw [State.setLink, hset]

theorem State.sendNow_out (x : Side) (p : Parcel) :
    (s.sendNow x p).out = .parcel x { p with lseq := (s.link x).txSeq } :: s.out := by
  unfold State.sendNow
  dsimp only
  split
  · rfl
  · rfl

/-- An ACTIVE port with nothing waiting sends an admitted parcel at once. -/
theorem State.send_of_idle {x : Side} {p : Parcel} (hactive : s.pfState x = pfActive) (hfrozen : (s.link x).frozen = false)
    (hqueue : (s.link x).sendQ = []) (hfifo : ∀ vc < 4, s.fifo x vc = []) (hadmits : (s.link x).admits p = true) :
    s.send x p = s.sendNow x p := by
  have hidle : (s.setLink x fun q => { q with sendQ := q.sendQ ++ [p] }).setLink x (fun q => { q with sendQ := [] }) = s := by
    rw [State.setLink_setLink]
    refine s.setLink_of_fixed ?_
    rw [Function.comp_apply, ← hqueue]
  have hrun : ¬ ((s.setLink x fun q => { q with sendQ := q.sendQ ++ [p] }).pfState x ≠ pfActive
      ∨ ((s.setLink x fun q => { q with sendQ := q.sendQ ++ [p] }).link x).frozen = true) := by
    rw [State.link_setLink_self, not_or, not_not]
    exact ⟨hactive, by simp [hfrozen]⟩
  have htry : s.trySend x p = s.sendNow x p := by
    rw [State.trySend, hqueue, if_neg (by simp), if_pos hadmits]
  have hkeeps : ∀ l : List Nat, (∀ vc ∈ l, vc < 4) → l.foldl (fun s vc => s.drainFifo x vc) (s.sendNow x p) = s.sendNow x p := by
    intro l hl
    refine List.foldlRecOn (motive := (· = s.sendNow x p)) l _ rfl fun u hu vc hvc => ?_
    rw [hu]
    exact State.drainFifo_of_nil _ ((congrArg (fun m : QmState => Store.get [] m.fifos _) (s.sendNow_qm x p)).trans
      (hfifo vc (hl vc hvc)))
  rw [State.send, State.drain, if_neg hrun]
  dsimp only
  rw [hidle, State.link_setLink_self, hqueue]
  dsimp only [List.nil_append, List.foldl_cons, List.foldl_nil]
  rw [htry]
  exact hkeeps _ fun vc hvc => List.mem_range.mp hvc

end

/-! ## The obligation -/

/-- Realigned islands stamp what they held back. -/
theorem State.foldl_issueAt_unstamped (s : State) (l : List Rec) (h : ∀ r ∈ l, r.source ∉ s.time.unaligned) :
    (l.foldl (fun s r => s.issueAt s.now r.source r.type r.payload r.flags) s).merge.unstamped = s.merge.unstamped := by
  induction l generalizing s with
  | nil => rfl
  | cons r l ih =>
    rw [List.foldl_cons, ih (s.issueAt s.now r.source r.type r.payload r.flags) fun x hx => h x (List.mem_cons_of_mem r hx)]
    have hstamps : s.time.unaligned.contains r.source = false := by
      simpa using h r List.mem_cons_self
    simp only [State.issueAt, hstamps, Bool.false_eq_true, if_false]

/-- A 1PPS edge that takes the second TSYNC_TOD named (R28, R29). -/
def State.edgeTaken (s : State) (sec : Int) : State :=
  ((s.setTime fun fld => { fld with tod := none }).disarm .todEdge).setTime fun fld => { fld with nextSecond := some (sec + 1) }

theorem exec_ppsEdge {s : State} {sec : Int} {named : Stamp} (hruns : s.runs = true) (hin : s.flag Reg.TSYNC_PPS_IN = true)
    (htod : s.time.tod = some (sec, named)) (hlate : named + 100000000 ≤ s.now) : exec .ppsEdge s
      = .next (State.keep (if s.rd Reg.TIME_SOURCE = 1
          then (s.edgeTaken sec).discipline (sec * nsPerSec - (s.now - s.rd Reg.TSYNC_DELAY)) else s.edgeTaken sec) s) := by
  refine (guarded_pos s ⟨hruns, hin⟩).trans ?_
  rw [htod]
  simp only [hlate, if_true, Option.any_some, decide_true]
  rfl

theorem exec_stationTimeWrite {s u : State} {r : IzReq} {x : Obj × Nat × List (Nat × Bytes)} (htakes : s.takes r = true)
    (hwrites : writes r 0x1200 = true) (hadmit : s.admitReq r = .accepted u) (hcheck : u.checkWrite r = .ok x) :
    exec (.stationTimeWrite r) s = .next (State.keep (if u.rd Reg.TIME_SOURCE ≠ 2 then u.refuseWrite r stState
      else (u.discipline (stampOf r.data - u.time.now)).respond (r.answer stOk)) s) := by
  refine (guarded_pos s ⟨htakes, hwrites⟩).trans ?_
  rw [hadmit]
  simp only [Admission.run, hcheck]

theorem exec_tsyncTodWrite {s u : State} {r : IzReq} {x : Obj × Nat × List (Nat × Bytes)} (htakes : s.takes r = true)
    (hwrites : writes r 0x1204 = true) (hadmit : s.admitReq r = .accepted u) (hcheck : u.checkWrite r = .ok x) :
    exec (.tsyncTodWrite r) s = .next (State.keep ((((u.setTime fun fld => { fld with tod := some ((uAt r.data 0 6 : Nat), u.now)
      }).arm .todEdge (u.now + 1500000000)).respond (r.answer stOk))) s) := by
  refine (guarded_pos s ⟨htakes, hwrites⟩).trans ?_
  rw [hadmit]
  simp only [Admission.run, hcheck]
  rfl

/-- What forwarding a TIME parcel leaves of station time and its quality (R423). -/
theorem State.timeForwarded (s : State) (out : Side) (p : Parcel) (c : Prop) [Decidable c] :
    (if c then s.forward out p else s).time = s.time
      ∧ ∀ q : Obj, q.apart Reg.PF_PORT_CREDIT_STALLS = true → (if c then s.forward out p else s).rd q = s.rd q := by
  split
  · exact ⟨s.forward_time out p, fun q h => s.rd_forward_apart out p h (by decide) (by decide)⟩
  · exact ⟨rfl, fun _ _ => rfl⟩

theorem exec_timeParcelReceived {s : State} (p : TimeParcel) (residence : Int) (hruns : s.pfRuns = true)
    (hup : s.linkUp s.hostSide = true) (hhead : ¬ (s.isHead = true ∧ s.rd Reg.TIME_SOURCE ≠ 0)) :
    ∃ u, exec (.timeParcelReceived s.hostSide p residence) s = .next (State.keep (if s.rd Reg.TIME_SOURCE = 0
        then u.discipline (p.origin + roundDiv (p.correction + s.rd Reg.PF_PORT_link_delay s.hostSide.n * 65536) 65536
          - u.time.now) else u) s)
      ∧ u.time = s.time ∧ ∀ q : Obj, q.apart Reg.PF_PORT_CREDIT_STALLS = true → u.rd q = s.rd q :=
  ⟨_, guarded_pos s ⟨hruns, hup, rfl, by simpa [Classical.or_iff_not_imp_left] using hhead⟩, s.timeForwarded ..⟩

/-- Settles O12: each command of the time unit by its equation, an update by the slew of a small offset. -/
theorem stationTimeCompletes : Obligations.StationTimeCompletes := by
  refine ⟨fun s sec named hruns hin htod hlate hother => ?_, fun s hruns hpassed => ?_, fun s hruns hpassed hlocked => ?_,
    fun s hruns hout hsecond hnew => ⟨_, guarded_pos s ⟨hruns, hout, hsecond, hnew⟩, rfl, rfl⟩,
    fun s hruns htimer hlo hhi hnew => ⟨_, guarded_pos s ⟨hruns, htimer, hlo, hhi, hnew⟩, rfl, rfl⟩,
    fun s src hruns hsrc hstopped => ?_, fun s sec named hruns hin htod hlate hsource hset hsmall => ?_,
    fun s u r x htakes hwrites hadmit hcheck hsource => ?_,
    fun s u r x htakes hwrites hadmit hcheck hsource hset hsmall => ?_,
    fun s u r x htakes hwrites hadmit hcheck => ?_,
    fun s p residence off hruns hup hsource hset hoff hsmall => ?_,
    fun s p residence hruns hup hsource hhead => ?_,
    fun s hruns hhead hsource hdue hactive hpartner hfrozen hqueue hfifo hadmits => ?_⟩
  · refine ⟨_, exec_ppsEdge hruns hin htod hlate, ?_⟩
    rw [if_neg hother]
    exact ⟨rfl, rfl, rfl, State.deadline_disarm_self .., rfl⟩
  · refine ⟨_, guarded_pos s ⟨hruns, hpassed⟩, ?_⟩
    rw [State.raise_eq _ _ _ (by rfl : _ = some 1) (by rfl)]
    exact ⟨rfl, State.deadline_disarm_self .., rfl, rfl⟩
  · refine ⟨_, guarded_pos s ⟨hruns, hpassed, hlocked⟩, ?_⟩
    refine ⟨?_, ?_, State.raise_reported _ _ (by rfl) (by rfl) rfl rfl rfl⟩
    · rw [State.rd_keep, State.rd_raise]
      exact State.rd_wr_self ..
    · rw [State.raise_eq _ _ _ (by rfl : _ = some 1) (by rfl)]
      exact State.bound_quality_holdover ((s.setTime fun fld => { fld with goodRun := 0 }).disarm .sourceLost) hlocked
  · refine ⟨_, guarded_pos s ⟨hruns, hsrc, by simp [hstopped]⟩, ?_⟩
    have htime : ∀ (u : State) (l : List Rec), (l.foldl (fun s r => s.issueAt s.now r.source r.type r.payload r.flags) u).time
        = u.time := fun u l => foldl_keeps State.time (fun _ _ => State.issueAt_time ..) l u
    have hregs : ∀ (u : State) (l : List Rec), (l.foldl (fun s r => s.issueAt s.now r.source r.type r.payload r.flags) u).regs
        = u.regs := fun u l => foldl_keeps State.regs (fun _ _ => State.issueAt_regs ..) l u
    dsimp only
    refine ⟨?_, hregs _ _, ?_⟩
    · rw [State.keep_time, htime]
      simp
    · rw [State.keep_merge, State.foldl_issueAt_unstamped]
      · rfl
      · intro r hr
        have hsource : r.source = src := by simpa using (List.mem_filter.mp hr).2
        simp [hsource]
  · refine ⟨_, exec_ppsEdge hruns hin htod hlate, ?_⟩
    rw [if_pos hsource]
    obtain ⟨⟨hslew, hnow, hoff, -⟩, -⟩ := (s.edgeTaken sec).discipline_small hset hsmall
    exact ⟨hslew, hnow, hoff⟩
  · obtain ⟨hway, hphase⟩ := State.admitted_write (opWrite_of_writes hwrites) hadmit
    have hrd := State.rd_of_admitted_write (opWrite_of_writes hwrites) hadmit (q := Reg.TIME_SOURCE) (i := 0) (j := 0)
      Obj.key_ne fun _ _ => Obj.key_ne
    refine ⟨_, exec_stationTimeWrite htakes hwrites hadmit hcheck, ?_⟩
    rw [if_pos (hrd ▸ hsource)]
    refine ⟨?_, ?_, ?_⟩
    · exact ((u.undisturbed_refuseWrite r stState).time).trans hway.time
    · rw [State.rd_keep, State.refuseWrite, State.rd_respond_apart _ _ (by decide) (by decide) (by decide), State.rd_inc_self]
    · exact State.answer_mem (s := u.inc Reg.IZ_CTL_WRITES_REFUSED) hphase
  · obtain ⟨hway, hphase⟩ := State.admitted_write (opWrite_of_writes hwrites) hadmit
    have hrd (q : Obj) (h : q.apart Reg.IZ_CTL_REQUESTS = true) (h' : q.apart Reg.IZ_SESSION_last_arrival = true) :
        u.rd q = s.rd q := State.rd_of_admitted_write (opWrite_of_writes hwrites) hadmit
      (Obj.key_ne h) fun _ _ => Obj.key_ne h'
    refine ⟨_, exec_stationTimeWrite htakes hwrites hadmit hcheck, ?_⟩
    rw [if_neg (not_not.mpr ((hrd Reg.TIME_SOURCE (by decide) (by decide)).trans hsource)), hway.time]
    obtain ⟨⟨hslew, hnow, hoff, hiz⟩, -⟩ := u.discipline_small (off := stampOf r.data - s.time.now)
      ((hrd Reg.TIME_QUALITY_state (by decide) (by decide)).symm ▸ hset) hsmall
    refine ⟨?_, ?_, ?_, ?_⟩
    · rw [State.keep_time, State.respond_time, hslew]
    · rw [State.keep_time, State.respond_time, hnow, hway.time]
    · rw [State.rd_keep, State.rd_respond_apart _ _ (by decide) (by decide) (by decide), hoff]
    · exact State.answer_mem fun k hk => by rw [State.session, hiz]; exact hphase k hk
  · obtain ⟨hway, hphase⟩ := State.admitted_write (opWrite_of_writes hwrites) hadmit
    refine ⟨_, exec_tsyncTodWrite htakes hwrites hadmit hcheck, ?_⟩
    rw [hway.now]
    refine ⟨?_, ?_, ?_, ?_⟩
    · rw [State.keep_time, State.respond_time]
      rfl
    · rw [State.deadline_keep, State.deadline_respond _ (u := .todEdge) _ nofun, State.deadline_arm_self]
    · rw [State.keep_time, State.respond_time]
      change u.time.now = _
      rw [hway.time]
    · exact State.answer_mem (s := State.arm _ _ _) hphase
  · obtain ⟨u, hexec, htime, hrd⟩ := exec_timeParcelReceived p residence hruns hup (by simp [hsource])
    refine ⟨_, hexec, ?_⟩
    rw [if_pos hsource, htime, ← hoff]
    obtain ⟨⟨hslew, hnow, hoffset, -⟩, hlost⟩ := u.discipline_small (hrd Reg.TIME_QUALITY_state (by decide) ▸ hset) hsmall
    exact ⟨hslew, hnow.trans (congrArg TimeState.now htime), hoffset, hlost.trans (by rw [State.now, htime]; rfl)⟩
  · obtain ⟨u, hexec, htime, hrd⟩ := exec_timeParcelReceived p residence hruns hup (by simp [hhead])
    refine ⟨_, hexec, ?_⟩
    rw [if_neg hsource]
    exact ⟨htime, hrd _ (by decide)⟩
  · refine ⟨_, guarded_pos s ⟨hruns, hhead, hsource, hdue⟩, ?_⟩
    have hup : s.linkUp .down = true := by simp [State.linkUp, hactive]
    have hsend := (s.arm .timeTx (s.now + 125000000)).send_of_idle hactive hfrozen hqueue hfifo hadmits
    rw [if_pos ⟨hup, hpartner⟩]
    refine ⟨?_, ?_, ?_⟩
    · refine (congrArg (State.deadline · .timeTx) hsend).trans ?_
      rw [State.deadline_sendNow (u := .timeTx) _ .down _ nofun, State.deadline_arm_self]
    · exact (congrArg State.time hsend).trans (State.sendNow_time ..)
    · exact ⟨_, (congrArg State.out hsend).trans (State.sendNow_out ..), rfl, rfl, rfl⟩

end Sys2Proof.Machine
end

section
/-! THE CANONICAL FORM OF THE OBJECTS. A write keeps it, so each operation does, and each command: one lemma per operation
and per command, in the order of the definitions. -/

namespace Sys2Proof.Machine

set_option Elab.async false

/-! ## What the operations keep -/

/-- The objects and the BLOB objects are held in canonical form: keys rise, and nothing is stored that reads as its
default. -/
structure State.Formed (s : State) : Prop where
  regs : Store.wf 0 s.regs = true
  blobs : Store.wf [] s.blobs = true

theorem State.Formed.of_eq {s t : State} (h : s.Formed) (hr : t.regs = s.regs) (hb : t.blobs = s.blobs) : t.Formed :=
  ⟨hr ▸ h.regs, hb ▸ h.blobs⟩

theorem State.Formed.foldl {α : Type} {f : State → α → State} {s : State} (l : List α) (h : s.Formed)
    (hf : ∀ s a, s.Formed → (f s a).Formed) : (l.foldl f s).Formed := by
  induction l generalizing s with
  | nil => exact h
  | cons a l ih => exact ih (hf s a h)

variable {s : State}

theorem State.wr_formed {o : Obj} {p : Nat} {e : Nat} {v : Int} (hs : s.Formed) : (s.wr o p e v).Formed :=
  ⟨Store.put_wf _ _ _ _ hs.regs, hs.blobs⟩

theorem State.inc_formed {o : Obj} {p : Nat} {e : Nat} {n : Int} (hs : s.Formed) : (s.inc o p e n).Formed := by
  unfold State.inc
  grind [State.wr_formed]

theorem State.wrB_formed {o : Obj} {p : Nat} {e : Nat} {v : Bytes} (hs : s.Formed) : (s.wrB o p e v).Formed :=
  ⟨hs.regs, Store.put_wf _ _ _ _ hs.blobs⟩

theorem State.arm_formed {t : Timer} {deadline : Stamp} (hs : s.Formed) :
    (s.arm t deadline).Formed := hs.of_eq rfl rfl

theorem State.disarm_formed {t : Timer} (hs : s.Formed) : (s.disarm t).Formed := hs.of_eq rfl rfl

theorem State.setTime_formed {f : TimeState → TimeState} (hs : s.Formed) : (s.setTime f).Formed := hs.of_eq rfl rfl

theorem State.setMerge_formed {f : MergeState → MergeState} (hs : s.Formed) :
    (s.setMerge f).Formed := hs.of_eq rfl rfl

theorem State.setHouse_formed {f : HouseState → HouseState} (hs : s.Formed) :
    (s.setHouse f).Formed := hs.of_eq rfl rfl

theorem State.setQm_formed {f : QmState → QmState} (hs : s.Formed) : (s.setQm f).Formed := hs.of_eq rfl rfl

theorem State.setCasc_formed {f : CascState → CascState} (hs : s.Formed) : (s.setCasc f).Formed := hs.of_eq rfl rfl

theorem State.setIz_formed {f : IzState → IzState} (hs : s.Formed) : (s.setIz f).Formed := hs.of_eq rfl rfl

theorem State.setPower_formed {f : PowerState → PowerState} (hs : s.Formed) :
    (s.setPower f).Formed := hs.of_eq rfl rfl

theorem State.setFaults_formed {f : FaultState → FaultState} (hs : s.Formed) :
    (s.setFaults f).Formed := hs.of_eq rfl rfl

theorem State.setFuses_formed {f : Fuses → Fuses} (hs : s.Formed) : (s.setFuses f).Formed := hs.of_eq rfl rfl

theorem State.setRst_formed {f : ResetState → ResetState} (hs : s.Formed) : (s.setRst f).Formed := hs.of_eq rfl rfl

theorem State.setHamper_formed {f : Hamper → Hamper} (hs : s.Formed) : (s.setHamper f).Formed := hs.of_eq rfl rfl

theorem State.setHmp_formed {f : HmpState → HmpState} (hs : s.Formed) : (s.setHmp f).Formed := hs.of_eq rfl rfl

theorem State.setPort_formed {p : Port} {f : PortState → PortState} (hs : s.Formed) :
    (s.setPort p f).Formed := hs.of_eq rfl rfl

theorem State.setEc_formed {p : Port} {f : EcState → EcState} (hs : s.Formed) :
    (s.setEc p f).Formed := hs.of_eq rfl rfl

theorem State.setSound_formed {p : Port} {f : SoundState → SoundState} (hs : s.Formed) :
    (s.setSound p f).Formed := hs.of_eq rfl rfl

theorem State.setDc_formed {p : Port} {f : DcState → DcState} (hs : s.Formed) :
    (s.setDc p f).Formed := hs.of_eq rfl rfl

theorem State.setCal_formed {p : Port} {f : CalState → CalState} (hs : s.Formed) :
    (s.setCal p f).Formed := hs.of_eq rfl rfl

theorem State.setElem_formed {p : Port} {a : Nat} {f : Elem → Elem} (hs : s.Formed) :
    (s.setElem p a f).Formed := hs.of_eq rfl rfl

theorem State.setEq_formed {p : Port} {a : Nat} {f : EqState → EqState} (hs : s.Formed) :
    (s.setEq p a f).Formed := hs.of_eq rfl rfl

theorem State.setLink_formed {x : Side} {f : PfState → PfState} (hs : s.Formed) :
    (s.setLink x f).Formed := hs.of_eq rfl rfl

theorem State.setSession_formed {k : SessionNo} {f : Session → Session} (hs : s.Formed) :
    (s.setSession k f).Formed := hs.of_eq rfl rfl

theorem State.setStn_formed {u : Nat} {f : Stn → Stn} (hs : s.Formed) : (s.setStn u f).Formed := hs.of_eq rfl rfl

theorem State.emit_formed {o : Out} (hs : s.Formed) : (s.emit o).Formed := hs.of_eq rfl rfl

theorem State.free_formed {bound : Nat} (hs : s.Formed) :
    (s.free bound).2.Formed := hs.of_eq (State.free_regs ..) (State.free_blobs ..)

theorem State.freeBytes_formed {n : Nat} (hs : s.Formed) : (s.freeBytes n).2.Formed := hs.of_eq rfl rfl

theorem State.issueAt_formed {t : Stamp} {source type : Nat} {payload : Bytes} {flags : Nat} (hs : s.Formed) :
    (s.issueAt t source type payload flags).Formed := hs.of_eq (State.issueAt_regs ..) (State.issueAt_blobs ..)

theorem State.issue_formed {source type : Nat} {payload : Bytes} (hs : s.Formed) :
    (s.issue source type payload).Formed := hs.of_eq (State.issue_regs ..) (State.issue_blobs ..)

theorem State.raiseAs_formed {r : FaultReport} {sev : Nat} {injected : Bool} (hs : s.Formed) :
    (s.raiseAs r sev injected).Formed := hs.of_eq (State.raiseAs_regs ..) (State.raiseAs_blobs ..)

theorem State.raise_formed {source cls code unit detail : Nat} (hs : s.Formed) :
    (s.raise source cls code unit detail).Formed := hs.of_eq (State.raise_regs ..) (State.raise_blobs ..)

theorem State.raiseLine_formed {p : Port} {code detail : Nat} (hs : s.Formed) :
    (s.raiseLine p code detail).Formed := hs.of_eq (State.raiseLine_regs ..) (State.raiseLine_blobs ..)

theorem State.happens_formed {code detail : Nat} {at' : Stamp} (hs : s.Formed) :
    (s.happens code detail at').Formed := by
  unfold State.happens
  grind [State.setPower_formed]

theorem State.computeLevel_formed {p : Port} (hs : s.Formed) : (s.computeLevel p).Formed := by
  unfold State.computeLevel
  grind [State.wr_formed]

theorem State.afterCommit_formed {code : Int} (hs : s.Formed) : (s.afterCommit code).Formed := by
  unfold State.afterCommit
  grind [State.wr_formed]

theorem State.commitDone_formed (hs : s.Formed) : (s.commitDone).Formed := by
  unfold State.commitDone
  grind [State.Formed.foldl, State.setIz_formed, State.wr_formed, State.afterCommit_formed, State.setPort_formed]

theorem State.pfTo_formed {x : Side} {new : Int} {cause : Nat} (hs : s.Formed) : (s.pfTo x new cause).Formed := by
  unfold State.pfTo
  grind [State.wr_formed, State.issue_formed]

theorem State.sendLocal_formed {x : Side} {payload : Bytes} (hs : s.Formed) :
    (s.sendLocal x payload).Formed := hs.of_eq rfl rfl

theorem State.sendNow_formed {x : Side} {p : Parcel} (hs : s.Formed) :
    (s.sendNow x p).Formed := hs.of_eq (State.sendNow_regs ..) (State.sendNow_blobs ..)

theorem State.stall_formed {x : Side} {vc : Nat} (hs : s.Formed) : (s.stall x vc).Formed := by
  unfold State.stall
  grind [State.setLink_formed, State.inc_formed]

theorem State.trySend_formed {x : Side} {p : Parcel} (hs : s.Formed) : (s.trySend x p).Formed := by
  unfold State.trySend
  grind [State.setLink_formed, State.sendNow_formed, State.stall_formed]

theorem State.setFifo_formed {x : Side} {vc : Nat} {l : List HostFrame} (hs : s.Formed) :
    (s.setFifo x vc l).Formed := hs.of_eq rfl rfl

theorem State.drainFifo_formed {x : Side} {vc : Nat} (hs : s.Formed) : (s.drainFifo x vc).Formed := by
  unfold State.drainFifo
  grind [State.Formed.foldl, State.setFifo_formed, State.sendNow_formed, State.stall_formed]

theorem State.drain_formed {x : Side} (hs : s.Formed) : (s.drain x).Formed := by
  unfold State.drain
  grind [State.Formed.foldl, State.trySend_formed, State.setLink_formed, State.drainFifo_formed]

theorem State.send_formed {x : Side} {p : Parcel} (hs : s.Formed) : (s.send x p).Formed := by
  unfold State.send
  grind [State.setLink_formed, State.drain_formed]

theorem State.sendHost_formed {x : Side} {type vc : Nat} {payload : Bytes} (hs : s.Formed) :
    (s.sendHost x type vc payload).Formed := by
  unfold State.sendHost
  grind [State.send_formed]

theorem State.setFlowState_formed {f : Nat} {b : Bytes} (hs : s.Formed) : (s.setFlowState f b).Formed := by
  unfold State.setFlowState
  grind [State.setQm_formed, State.wrB_formed]

theorem State.bumpFlow_formed {f i n k : Nat} (hs : s.Formed) : (s.bumpFlow f i n k).Formed := by
  unfold State.bumpFlow
  grind [State.setFlowState_formed]

theorem State.downDrop_formed {f : Nat} (hs : s.Formed) : (s.downDrop f).Formed := by
  unfold State.downDrop
  grind [State.bumpFlow_formed]

theorem State.upDrop_formed {f : Nat} (hs : s.Formed) : (s.upDrop f).Formed := by
  unfold State.upDrop
  grind [State.bumpFlow_formed]

theorem State.clearSeq_formed {p : Port} {a : Nat} (hs : s.Formed) : (s.clearSeq p a).Formed := by
  unfold State.clearSeq
  grind [State.Formed.foldl, State.setFlowState_formed]

theorem State.writeBack_formed {l : CacheLine} (hs : s.Formed) : (s.writeBack l).Formed := by
  unfold State.writeBack
  grind [State.wrB_formed, State.setQm_formed]

theorem State.writeBackAll_formed (hs : s.Formed) : (s.writeBackAll).Formed := by
  unfold State.writeBackAll
  grind [State.Formed.foldl, State.writeBack_formed]

theorem State.useLine_formed {l : CacheLine} (hs : s.Formed) : (s.useLine l).Formed := hs.of_eq rfl rfl

theorem State.fill_formed {f : Nat} (hs : s.Formed) : (s.fill f).Formed := by
  unfold State.fill
  grind [State.writeBack_formed, State.setQm_formed, State.useLine_formed]

theorem State.setQueue_formed {q : Nat} {l : List QFrame} (hs : s.Formed) : (s.setQueue q l).Formed := by
  unfold State.setQueue
  grind [State.setQm_formed, State.wr_formed]

theorem State.setHead_formed {q : Nat} {f : QFrame → QFrame} (hs : s.Formed) : (s.setHead q f).Formed := by
  unfold State.setHead
  grind [State.setQueue_formed]

theorem State.freeBuffers_formed {n : Nat} (hs : s.Formed) : (s.freeBuffers n).Formed := hs.of_eq rfl rfl

theorem State.flushQueue_formed {q : Nat} (hs : s.Formed) : (s.flushQueue q).Formed := by
  unfold State.flushQueue
  grind [State.Formed.foldl, State.downDrop_formed, State.setQueue_formed, State.freeBuffers_formed, State.inc_formed]

theorem State.flushPort_formed {p : Port} (hs : s.Formed) : (s.flushPort p).Formed := by
  unfold State.flushPort
  grind [State.Formed.foldl, State.flushQueue_formed]

theorem State.settle_formed {p : Port} (hs : s.Formed) : (s.settle p).Formed := by
  unfold State.settle
  grind [State.setPort_formed, State.freeBuffers_formed, State.inc_formed]

theorem State.reply_formed {r : IzResp} (hs : s.Formed) : (s.reply r).Formed := by
  unfold State.reply
  grind [State.emit_formed, State.sendHost_formed]

theorem State.respond_formed {r : IzResp} (hs : s.Formed) : (s.respond r).Formed := by
  unfold State.respond
  grind [State.reply_formed, State.setSession_formed]

theorem State.answerProxy_formed {p : Port} {q : Proxy} {status : Nat} {data : Bytes} (hs : s.Formed) :
    (s.answerProxy p q status data).Formed := by
  unfold State.answerProxy
  grind [State.respond_formed]

theorem State.failProxies_formed {p : Port} {sel : Nat → Bool} (hs : s.Formed) : (s.failProxies p sel).Formed := by
  unfold State.failProxies
  grind [State.Formed.foldl, State.setPort_formed, State.disarm_formed, State.answerProxy_formed]

theorem State.freeEngine_formed {p : Port} (hs : s.Formed) : (s.freeEngine p).Formed := by
  unfold State.freeEngine
  grind [State.setSound_formed, State.wr_formed]

theorem State.cntLine_formed {p : Port} {o : Obj} {n : Int} (hs : s.Formed) : (s.cntLine p o n).Formed := by
  unfold State.cntLine
  grind [State.inc_formed]

theorem State.cntSound_formed {p : Port} {o : Obj} {n : Int} (hs : s.Formed) : (s.cntSound p o n).Formed := by
  unfold State.cntSound
  grind [State.inc_formed]

theorem State.ecTrain_formed {p : Port} (hs : s.Formed) : (s.ecTrain p).Formed := by
  unfold State.ecTrain
  grind [State.wr_formed, State.setEc_formed]

theorem State.ecClear_formed {p : Port} (hs : s.Formed) : (s.ecClear p).Formed := by
  unfold State.ecClear
  grind [State.wr_formed, State.setEc_formed]

theorem State.ecLeaveCleared_formed {p : Port} (hs : s.Formed) : (s.ecLeaveCleared p).Formed := by
  unfold State.ecLeaveCleared
  grind [State.wr_formed, State.setEc_formed]

theorem State.eqClear_formed {p : Port} {a : Nat} (hs : s.Formed) : (s.eqClear p a).Formed := by
  unfold State.eqClear
  grind [State.wr_formed, State.wrB_formed, State.setEq_formed]

theorem State.setPoints_formed {p : Port} {a : Nat} {w : List (Int × Int)} (hs : s.Formed) :
    (s.setPoints p a w).Formed := by
  unfold State.setPoints
  grind [State.setEq_formed, State.wrB_formed]

theorem State.eqMer_formed {p : Port} {a : Nat} {mer : Int} {snr : List Nat} (hs : s.Formed) :
    (s.eqMer p a mer snr).Formed := by
  unfold State.eqMer
  grind [State.wr_formed, State.wrB_formed]

theorem State.eqTrained_formed {p : Port} {a : Nat} (hs : s.Formed) : (s.eqTrained p a).Formed := by
  unfold State.eqTrained
  grind [State.setEq_formed, State.wr_formed]

theorem State.eqTake_formed {p : Port} {a : Nat} {f : LineRx} {w : List (Int × Int)} (hs : s.Formed) :
    (s.eqTake p a f w).Formed := by
  unfold State.eqTake
  grind [State.setPoints_formed, State.wr_formed]

theorem State.eqFrame_formed {p : Port} {a : Nat} {long : Bool} {f : LineRx} {crcOk : Bool} (hs : s.Formed) :
    (s.eqFrame p a long f crcOk).Formed := by
  unfold State.eqFrame
  grind [State.eqTake_formed, State.setEq_formed, State.wr_formed, State.eqTrained_formed]

theorem State.eqHeard_formed {p : Port} {a : Nat} {long : Bool} {f : LineRx} {crcOk : Bool} (hs : s.Formed) :
    (s.eqHeard p a long f crcOk).Formed := by
  unfold State.eqHeard
  grind [State.eqFrame_formed]

theorem State.quietSnapshot_formed {p : Port} (hs : s.Formed) : (s.quietSnapshot p).Formed := by
  unfold State.quietSnapshot
  grind [State.Formed.foldl, State.wr_formed, State.setEc_formed, State.setEq_formed]

theorem State.leaveQuiet_formed {p : Port} (hs : s.Formed) : (s.leaveQuiet p).Formed := by
  unfold State.leaveQuiet
  grind [State.Formed.foldl, State.wr_formed, State.setEc_formed, State.setEq_formed]

theorem State.flagCell_formed {p : Port} {i b : Nat} {v : Bool} (hs : s.Formed) : (s.flagCell p i b v).Formed := by
  unfold State.flagCell
  grind [State.wr_formed]

theorem State.flagCells_formed {p : Port} {lo hi b : Nat} {v : Bool} (hs : s.Formed) :
    (s.flagCells p lo hi b v).Formed := by
  unfold State.flagCells
  grind [State.Formed.foldl, State.flagCell_formed]

theorem State.requestFocus_formed {p : Port} {lo hi : Nat} (hs : s.Formed) : (s.requestFocus p lo hi).Formed := by
  unfold State.requestFocus
  grind [State.setSound_formed, State.arm_formed, State.wr_formed]

theorem State.focusAbout_formed {p : Port} {centre lo hi : Nat} (hs : s.Formed) :
    (s.focusAbout p centre lo hi).Formed := by
  unfold State.focusAbout
  grind [State.requestFocus_formed]

theorem State.echoAlert_formed {p : Port} {kind tap lo hi delta : Nat} (hs : s.Formed) :
    (s.echoAlert p kind tap lo hi delta).Formed := by
  unfold State.echoAlert
  grind [State.issue_formed, State.cntSound_formed]

theorem State.takeReference_formed {p : Port} {w : List (Int × Int)} (hs : s.Formed) :
    (s.takeReference p w).Formed := by
  unfold State.takeReference
  grind [State.setEc_formed, State.wr_formed]

theorem State.dropReference_formed {p : Port} (hs : s.Formed) : (s.dropReference p).Formed := hs.of_eq rfl rfl

theorem State.alertTaps_formed {p : Port} {w : List (Int × Int)} {deltas : List Nat} {taps : List Nat} (hs :
    s.Formed) : (s.alertTaps p w deltas taps).Formed := by
  unfold State.alertTaps
  grind [State.Formed.foldl, State.echoAlert_formed, State.setSound_formed, State.focusAbout_formed,
    State.takeReference_formed]

theorem State.markCells_formed {p : Port} (hs : s.Formed) : (s.markCells p).Formed := by
  unfold State.markCells
  grind [State.Formed.foldl, State.flagCells_formed, State.setSound_formed]

theorem State.epmCompare_formed {p : Port} {w : List (Int × Int)} (hs : s.Formed) : (s.epmCompare p w).Formed := by
  unfold State.epmCompare
  grind [State.cntSound_formed, State.takeReference_formed, State.dropReference_formed, State.wrB_formed,
    State.alertTaps_formed, State.setEc_formed]

theorem State.publish_formed {p : Port} {drift : Bool} (hs : s.Formed) : (s.publish p drift).Formed := by
  unfold State.publish
  grind [State.wr_formed, State.wrB_formed, State.epmCompare_formed, State.setEc_formed]

theorem State.ecDriftRestore_formed {p : Port} {octave : Nat} (hs : s.Formed) :
    (s.ecDriftRestore p octave).Formed := by
  unfold State.ecDriftRestore
  grind [State.publish_formed, State.setEc_formed, State.wr_formed, State.raiseLine_formed, State.cntLine_formed]

theorem State.eqDriftRestore_formed {p : Port} {a : Nat} (hs : s.Formed) : (s.eqDriftRestore p a).Formed := by
  unfold State.eqDriftRestore
  grind [State.setPoints_formed, State.setEq_formed, State.cntLine_formed]

theorem State.ecTrainingEnds_formed {p : Port} {best : Option Int} (hs : s.Formed) :
    (s.ecTrainingEnds p best).Formed := by
  unfold State.ecTrainingEnds
  grind [State.wr_formed, State.setEc_formed, State.publish_formed]

theorem State.occupy_formed {p : Port} {d : Stamp} {kind : TxKind} (hs : s.Formed) : (s.occupy p d kind).Formed := by
  unfold State.occupy
  grind [State.settle_formed, State.ecLeaveCleared_formed, State.setPort_formed]

theorem State.transmit_formed {p : Port} {d : Stamp} {k : TxKind} {o : Out} {kind : List Nat} {payload : Bytes} (hs :
    s.Formed) : (s.transmit p d k o kind payload).Formed := by
  unfold State.transmit
  grind [State.occupy_formed, State.emit_formed, State.inc_formed]

theorem State.seed_formed (hs : s.Formed) : (s.seed).2.Formed := by
  unfold State.seed
  grind [State.free_formed]

theorem State.sendSeeded_formed {p : Port} {seed : Nat} {h : Header} {payload : Bytes} (hs : s.Formed) :
    (s.sendSeeded p seed h payload).Formed := by
  unfold State.sendSeeded
  grind [State.transmit_formed]

theorem State.sendFrame_formed {p : Port} {h : Header} {payload : Bytes} (hs : s.Formed) :
    (s.sendFrame p h payload).Formed := by
  unfold State.sendFrame
  grind [State.seed_formed, State.sendSeeded_formed]

theorem State.takeSeq_formed {p : Port} {dst tag : Nat} (hs : s.Formed) :
    (s.takeSeq p dst tag).2.Formed := hs.of_eq rfl rfl

theorem State.protect_formed {p : Port} {h : Header} {plain : Bytes} (hs : s.Formed) :
    (s.protect p h plain).2.Formed := by
  unfold State.protect
  grind [State.wr_formed]

theorem State.sendSecured_formed {p : Port} {h : Header} {plain : Bytes} (hs : s.Formed) :
    (s.sendSecured p h plain).Formed := by
  unfold State.sendSecured
  grind [State.sendFrame_formed, State.seed_formed, State.protect_formed, State.sendSeeded_formed]

theorem State.unprotect_formed {p : Port} {h : Header} {payload : Bytes} (hs : s.Formed) :
    (s.unprotect p h payload).2.Formed := by
  unfold State.unprotect
  grind [State.cntLine_formed, State.wr_formed]

theorem State.dropReasm_formed {p : Port} {src tag : Nat} (hs : s.Formed) :
    (s.dropReasm p src tag).Formed := hs.of_eq rfl rfl

theorem State.fragment_formed {p : Port} {h : Header} {stamp : Stamp} {plain : Bytes} (hs : s.Formed) :
    (s.fragment p h stamp plain).2.Formed := by
  unfold State.fragment
  grind [State.cntLine_formed, State.dropReasm_formed, State.setPort_formed, State.arm_formed]

theorem State.resolve_formed {p : Port} {f : LineRx} (hs : s.Formed) : (s.resolve p f).Formed := by
  unfold State.resolve
  grind [State.setPort_formed]

theorem State.receive_formed {p : Port} {h : Header} {f : LineRx} (hs : s.Formed) : (s.receive p h f).2.Formed := by
  unfold State.receive
  grind [State.cntLine_formed, State.unprotect_formed]

theorem State.updateInterval_formed {p : Port} (hs : s.Formed) : (s.updateInterval p).Formed := by
  unfold State.updateInterval
  grind [State.wr_formed]

theorem State.stationRecord_formed {p : Port} {a event reason : Nat} (hs : s.Formed) : (s.stationRecord p a event
    reason).Formed := hs.of_eq (State.stationRecord_regs ..) (State.stationRecord_blobs ..)

theorem State.queueCtl_formed {p : Port} {f : CtlFrame} (hs : s.Formed) : (s.queueCtl p f).Formed := hs.of_eq rfl rfl

theorem State.freeStation_formed {p : Port} {a reason : Nat} (hs : s.Formed) : (s.freeStation p a reason).Formed := by
  unfold State.freeStation
  grind [State.Formed.foldl, State.stationRecord_formed, State.wr_formed, State.wrB_formed, State.setElem_formed,
    State.eqClear_formed, State.failProxies_formed, State.setPort_formed, State.disarm_formed,
    State.updateInterval_formed]

theorem State.freeAll_formed {p : Port} (hs : s.Formed) : (s.freeAll p).Formed := by
  unfold State.freeAll
  grind [State.Formed.foldl, State.freeStation_formed]

theorem State.leaving_formed {p : Port} {old new : Int} (hs : s.Formed) : (s.leaving p old new).Formed := by
  unfold State.leaving
  grind [State.leaveQuiet_formed, State.failProxies_formed, State.flushPort_formed, State.freeEngine_formed,
    State.setPort_formed, State.setCal_formed, State.disarm_formed]

theorem State.entering_formed {p : Port} {old new : Int} (hs : s.Formed) : (s.entering p old new).Formed := by
  unfold State.entering
  grind [State.setDc_formed, State.disarm_formed, State.wr_formed, State.setCal_formed, State.setPort_formed,
    State.arm_formed]

theorem State.toState_formed {p : Port} {new : Int} {cause : Nat} (hs : s.Formed) :
    (s.toState p new cause).Formed := by
  unfold State.toState
  grind [State.wr_formed, State.issue_formed, State.leaving_formed, State.entering_formed]

theorem State.fencePort_formed {p : Port} (hs : s.Formed) : (s.fencePort p).Formed := by
  unfold State.fencePort
  grind [State.freeAll_formed, State.toState_formed]

theorem State.blank_formed {p : Port} {finish : Stamp} (hs : s.Formed) : (s.blank p finish).Formed := by
  unfold State.blank
  grind [State.cntSound_formed, State.setPort_formed, State.setSound_formed, State.setEc_formed]

theorem State.sweptLast_formed {p : Port} (hs : s.Formed) : (s.sweptLast p).Formed := by
  unfold State.sweptLast
  grind [State.setSound_formed, State.setEc_formed]

theorem State.soundIdle_formed {p : Port} (hs : s.Formed) : (s.soundIdle p).Formed := by
  unfold State.soundIdle
  grind [State.setSound_formed, State.sweptLast_formed]

theorem State.startBand_formed {p : Port} {b : Nat} (hs : s.Formed) : (s.startBand p b).Formed := by
  unfold State.startBand
  grind [State.setSound_formed, State.sweptLast_formed, State.wr_formed, State.soundIdle_formed]

theorem State.serveBands_formed {p : Port} (hs : s.Formed) : (s.serveBands p).Formed := by
  unfold State.serveBands
  grind [State.startBand_formed, State.soundIdle_formed]

theorem State.startSweep_formed {p : Port} {b : Nat} (hs : s.Formed) : (s.startSweep p b).Formed := by
  unfold State.startSweep
  grind [State.setSound_formed, State.emit_formed, State.sweptLast_formed, State.soundIdle_formed]

theorem State.focusBand_formed {p : Port} {f : Focus} {limit : Stamp} (hs : s.Formed) {t : State} (ht :
    State.focusBand s p f limit = some t) : t.Formed := by
  unfold State.focusBand at ht
  split at ht
  · cases ht
  · split at ht
    · cases ht
      exact State.wr_formed (State.setSound_formed hs)
    · cases ht

theorem State.focusTaken_formed {p : Port} (hs : s.Formed) : (s.focusTaken p).Formed := by
  unfold State.focusTaken
  grind [State.setSound_formed, State.disarm_formed, State.wr_formed]

theorem State.beginFocus_formed {p : Port} {limit : Stamp} (hs : s.Formed) {t : State} (ht : State.beginFocus s p
    limit = some t) : t.Formed := by
  unfold State.beginFocus at ht
  split at ht
  · cases ht
  · obtain ⟨u, hu, rfl⟩ := Option.map_eq_some_iff.mp ht
    have hformed := State.focusBand_formed hs hu
    split
    · exact State.focusTaken_formed hformed
    · exact hformed

theorem State.assignEngine_formed {p : Port} {k : Fin 4} (hs : s.Formed) : (s.assignEngine p k).Formed := by
  unfold State.assignEngine
  grind [State.setSound_formed, State.wr_formed]

theorem State.tryFocus_formed {p : Port} (hs : s.Formed) : (s.tryFocus p).Formed := by
  unfold State.tryFocus
  split
  · split
    · exact hs
    · rename_i k _
      cases hbegun : ((s.blank p (s.windowLimit p)).assignEngine p k).beginFocus p (s.windowLimit p) with
      | none => exact hs
      | some t => exact State.beginFocus_formed (State.assignEngine_formed (State.blank_formed hs)) hbegun
  · exact hs

theorem State.beginSound_formed {p : Port} (hs : s.Formed) : (s.beginSound p).Formed := by
  unfold State.beginSound
  grind [State.setEc_formed, State.cntSound_formed, State.blank_formed, State.assignEngine_formed,
    State.beginFocus_formed, State.serveBands_formed]

theorem State.focusBandDone_formed {p : Port} {f : Focus} {b : Nat} (hs : s.Formed) :
    (s.focusBandDone p f b).Formed := by
  unfold State.focusBandDone
  grind [State.setSound_formed, State.focusBand_formed, State.serveBands_formed, State.soundIdle_formed,
    State.freeEngine_formed]

theorem State.updateVelocity_formed {p : Port} (hs : s.Formed) : (s.updateVelocity p).Formed := by
  unfold State.updateVelocity
  grind [State.wr_formed]

theorem State.updateTw_formed {p : Port} (hs : s.Formed) : (s.updateTw p).Formed := by
  unfold State.updateTw
  grind [State.wr_formed, State.updateVelocity_formed]

theorem State.project_formed {p : Port} {b : Nat} (hs : s.Formed) : (s.project p b).Formed := by
  unfold State.project
  grind [State.Formed.foldl, State.wr_formed, State.setSound_formed]

theorem State.lastRecord_formed {p : Port} {result fraction : Nat} (hs : s.Formed) :
    (s.lastRecord p result fraction).Formed := by
  unfold State.lastRecord
  grind [State.issue_formed]

theorem State.eventRecord_formed {p : Port} {e : SigEvent} {st : Nat} {measured : Stamp} {origin : Nat} (hs :
    s.Formed) : (s.eventRecord p e st measured origin).Formed := by
  unfold State.eventRecord
  grind [State.issue_formed]

theorem State.siteFlags_formed {p : Port} {e : SigEvent} {v : Bool} (hs : s.Formed) : (s.siteFlags p e v).Formed := by
  unfold State.siteFlags
  grind [State.flagCells_formed]

theorem State.setEvents_formed {p : Port} {l : List SigEvent} (hs : s.Formed) : (s.setEvents p l).Formed := by
  unfold State.setEvents
  grind [State.Formed.foldl, State.siteFlags_formed, State.setSound_formed, State.wr_formed]

theorem State.confirm_formed {p : Port} {e : SigEvent} (hs : s.Formed) : (s.confirm p e).2.Formed := hs.of_eq rfl rfl

theorem State.judgeSite_formed {p : Port} {found : Option SigEvent} {scheduled : Bool} (hs : s.Formed) :
    (s.judgeSite p found scheduled).2.Formed := by
  unfold State.judgeSite
  grind [State.setSound_formed, State.confirm_formed]

theorem State.judgeNew_formed {p : Port} {site : Option Nat} {finds : List SigEvent} (hs : s.Formed) :
    (s.judgeNew p site finds).2.Formed := by
  unfold State.judgeNew
  refine List.foldlRecOn (motive := fun x : List Verdict × State => x.2.Formed) finds _ ?_ fun x hx f _ => ?_
  · dsimp only
    exact State.setSound_formed hs
  · grind [State.confirm_formed, State.setSound_formed]

theorem State.applyVerdicts_formed {p : Port} {vs : List Verdict} {measured : Stamp} {origin : Nat} (hs : s.Formed) :
    (s.applyVerdicts p vs measured origin).Formed := by
  unfold State.applyVerdicts
  grind [State.Formed.foldl, State.eventRecord_formed, State.setEvents_formed]

theorem State.signatures_formed {p : Port} {measured : Stamp} (hs : s.Formed) : (s.signatures p measured).Formed := by
  unfold State.signatures
  grind [State.judgeSite_formed, State.judgeNew_formed, State.applyVerdicts_formed]

theorem State.focusSignatures_formed {p : Port} {lo hi : Nat} {measured : Stamp} (hs : s.Formed) :
    (s.focusSignatures p lo hi measured).Formed := by
  unfold State.focusSignatures
  grind [State.judgeSite_formed, State.applyVerdicts_formed]

theorem State.sign'_formed {p : Port} {x : Option (Nat × Nat) × Stamp} (hs : s.Formed) : (s.sign' p x).Formed := by
  unfold State.sign'
  grind [State.signatures_formed, State.focusSignatures_formed]

theorem State.signOrOwe_formed {p : Port} {x : Option (Nat × Nat) × Stamp} (hs : s.Formed) :
    (s.signOrOwe p x).Formed := by
  unfold State.signOrOwe
  grind [State.setSound_formed, State.sign'_formed]

theorem State.signOwed_formed {p : Port} (hs : s.Formed) : (s.signOwed p).Formed := by
  unfold State.signOwed
  grind [State.Formed.foldl, State.sign'_formed, State.setSound_formed]

theorem State.endEvents_formed {p : Port} (hs : s.Formed) : (s.endEvents p).Formed := by
  unfold State.endEvents
  grind [State.applyVerdicts_formed, State.setSound_formed, State.dropReference_formed]

theorem State.historyStep_formed {p : Port} (hs : s.Formed) : (s.historyStep p).2.Formed := by
  unfold State.historyStep
  grind [State.setSound_formed, State.wr_formed, State.wrB_formed]

theorem State.captureStep_formed {p : Port} (hs : s.Formed) : (s.captureStep p).Formed := hs.of_eq rfl rfl

theorem State.refreshDone_formed {p : Port} (hs : s.Formed) : (s.refreshDone p).Formed := by
  unfold State.refreshDone
  grind [State.Formed.foldl, State.cntSound_formed, State.wr_formed, State.historyStep_formed, State.issue_formed,
    State.setSound_formed, State.captureStep_formed, State.signOrOwe_formed]

theorem State.dcAlarm_formed {p : Port} {kind value : Nat} (hs : s.Formed) : (s.dcAlarm p kind value).Formed := by
  unfold State.dcAlarm
  grind [State.issue_formed]

theorem State.dcFlags_formed {p : Port} {f : Nat → Nat} (hs : s.Formed) : (s.dcFlags p f).Formed := by
  unfold State.dcFlags
  grind [State.wr_formed]

theorem State.dcCheck_formed {p : Port} (hs : s.Formed) : (s.dcCheck p).Formed := by
  unfold State.dcCheck
  grind [State.toState_formed, State.inc_formed, State.raiseLine_formed, State.setDc_formed, State.arm_formed]

theorem State.dpdStart_formed {p : Port} (hs : s.Formed) : (s.dpdStart p).Formed := by
  unfold State.dpdStart
  grind [State.wr_formed, State.setPort_formed, State.arm_formed, State.computeLevel_formed]

theorem State.startRun_formed {p : Port} {step : Nat} (hs : s.Formed) : (s.startRun p step).Formed := hs.of_eq rfl rfl

theorem State.tryRun_formed {p : Port} (hs : s.Formed) : (s.tryRun p).Formed := by
  unfold State.tryRun
  grind [State.startRun_formed, State.wr_formed, State.setCal_formed]

theorem State.calRecord_formed {p : Port} {step result runs : Nat} (hs : s.Formed) :
    (s.calRecord p step result runs).Formed := hs.of_eq (State.calRecord_regs ..) (State.calRecord_blobs ..)

theorem State.meterFill_formed {m : Nat} (hs : s.Formed) : (s.meterFill m).Formed := by
  unfold State.meterFill
  grind [State.wr_formed, State.setQm_formed]

theorem State.meterFrame_formed {m : Nat} {host : Bool} {pre length : Nat} (hs : s.Formed) :
    (s.meterFrame m host pre length).2.2.Formed := by
  unfold State.meterFrame
  grind [State.meterFill_formed, State.wr_formed, State.inc_formed]

theorem State.enqueue_formed {q : Nat} {f : QFrame} (hs : s.Formed) : (s.enqueue q f).Formed := by
  unfold State.enqueue
  grind [State.downDrop_formed, State.inc_formed, State.setQm_formed, State.setQueue_formed]

theorem State.downFrame_formed {f : Nat} {payload : Bytes} (hs : s.Formed) : (s.downFrame f payload).Formed := by
  unfold State.downFrame
  grind [State.inc_formed, State.meterFrame_formed, State.enqueue_formed, State.downDrop_formed]

theorem State.toHost_formed {vc : Nat} {f : HostFrame} (hs : s.Formed) : (s.toHost vc f).Formed := by
  unfold State.toHost
  grind [State.upDrop_formed, State.inc_formed, State.bumpFlow_formed, State.setFifo_formed, State.drain_formed]

theorem State.upFrame_formed {p : Port} {h : Header} {stamp : Stamp} {data : Bytes} (hs : s.Formed) :
    (s.upFrame p h stamp data).Formed := by
  unfold State.upFrame
  grind [State.inc_formed, State.upDrop_formed, State.setFlowState_formed, State.meterFrame_formed,
    State.toHost_formed]

theorem State.runWaiter_formed {w : Waiter} (hs : s.Formed) : (s.runWaiter w).Formed := by
  unfold State.runWaiter
  grind [State.downFrame_formed, State.upFrame_formed]

theorem State.toFlow_formed {w : Waiter} (hs : s.Formed) : (s.toFlow w).Formed := by
  unfold State.toFlow
  grind [State.inc_formed, State.useLine_formed, State.runWaiter_formed, State.setQm_formed]

theorem State.toEngine_formed {w : Waiter} (hs : s.Formed) : (s.toEngine w).Formed := hs.of_eq rfl rfl

theorem State.takeArrivals_formed (hs : s.Formed) : (s.takeArrivals).Formed := by
  unfold State.takeArrivals
  grind [State.Formed.foldl, State.runWaiter_formed, State.toFlow_formed, State.setQm_formed]

theorem State.dropHead_formed {q : Nat} {f : QFrame} {count : State → State} (hs : s.Formed)
    (hcount : ∀ t, t.Formed → (count t).Formed) : (s.dropHead q f count).Formed :=
  hcount _ (State.downDrop_formed (State.freeBuffers_formed (State.setQueue_formed hs)))

theorem State.headCheck_formed {q : Nat} (hs : s.Formed) : (s.headCheck q).Formed := by
  unfold State.headCheck
  grind [State.dropHead_formed, State.inc_formed, State.setHead_formed]

theorem State.headChecks_formed {q : Nat} (hs : s.Formed) : (s.headChecks q).Formed := by
  unfold State.headChecks
  grind [State.Formed.foldl, State.headCheck_formed]

theorem State.pick_formed {p : Port} {mask : Nat} {limit : Stamp} (hs : s.Formed) :
    (s.pick p mask limit).2.Formed := by
  unfold State.pick
  grind [State.Formed.foldl, State.headChecks_formed, State.setHead_formed, State.inc_formed, State.setPort_formed,
    State.wr_formed]

theorem State.sendQueued_formed {p : Port} {q n : Nat} {last : Bool} (hs : s.Formed) :
    (s.sendQueued p q n last).Formed := by
  unfold State.sendQueued
  grind [State.setFlowState_formed, State.sendSecured_formed, State.setPort_formed, State.inc_formed,
    State.setQueue_formed]

theorem State.sendBeacon_formed {p : Port} (hs : s.Formed) : (s.sendBeacon p).Formed := by
  unfold State.sendBeacon
  grind [State.sendFrame_formed, State.setPort_formed]

theorem State.confirmStation_formed {p : Port} {a : Nat} (hs : s.Formed) : (s.confirmStation p a).Formed := by
  unfold State.confirmStation
  grind [State.setPort_formed, State.wr_formed, State.stationRecord_formed, State.clearSeq_formed]

theorem State.grantHandled_formed {p : Port} {g : GrantPlan} (hs : s.Formed) : (s.grantHandled p g).Formed := by
  unfold State.grantHandled
  grind [State.setPort_formed]

theorem State.expectUp_formed {p : Port} {l : List Granted} (hs : s.Formed) :
    (s.expectUp p l).Formed := hs.of_eq rfl rfl

theorem State.sendGrant_formed {p : Port} {g : GrantPlan} (hs : s.Formed) : (s.sendGrant p g).Formed := by
  unfold State.sendGrant
  grind [State.Formed.foldl, State.grantHandled_formed, State.inc_formed, State.sendFrame_formed,
    State.setPort_formed, State.expectUp_formed, State.confirmStation_formed]

theorem State.sendCtl_formed {p : Port} {f : CtlFrame} (hs : s.Formed) : (s.sendCtl p f).Formed := by
  unfold State.sendCtl
  grind [State.setPort_formed, State.takeSeq_formed, State.sendSecured_formed, State.arm_formed,
    State.setElem_formed, State.issue_formed]

theorem State.sendRange_formed {p : Port} {a : Nat} {t : Stamp} (hs : s.Formed) : (s.sendRange p a t).Formed := by
  unfold State.sendRange
  grind [State.sendFrame_formed, State.setElem_formed]

theorem State.sendBurst_formed {p : Port} {limit : Stamp} (hs : s.Formed) : (s.sendBurst p limit).Formed := by
  unfold State.sendBurst
  grind [State.transmit_formed]

theorem State.trainingBurst_formed {p : Port} {limit : Stamp} (hs : s.Formed) : (s.trainingBurst p limit).Formed := by
  unfold State.trainingBurst
  grind [State.sendBurst_formed]

theorem State.sendPicked_formed {p : Port} {limit : Stamp} (hs : s.Formed) :
    (s.sendPicked p limit).2.Formed ∧ ∀ t, (s.sendPicked p limit).1 = some t → t.Formed := by
  unfold State.sendPicked
  grind [State.pick_formed, State.sendQueued_formed]

theorem State.downInstant_formed {p : Port} (hs : s.Formed) : (s.downInstant p).Formed := by
  unfold State.downInstant
  extract_lets limit fits q training due range
  split_ifs
  all_goals grind [State.trainingBurst_formed, State.transmit_formed, State.setPort_formed, State.sendBeacon_formed,
    State.sendCtl_formed, State.sendRange_formed, State.sendPicked_formed, State.sendBurst_formed]

theorem State.duplexInstant_formed {p : Port} (hs : s.Formed) : (s.duplexInstant p).Formed := by
  unfold State.duplexInstant
  grind [State.pick_formed, State.sendQueued_formed, State.setPort_formed, State.cntLine_formed]

theorem State.quietEntry_formed {p : Port} (hs : s.Formed) : (s.quietEntry p).Formed := by
  unfold State.quietEntry
  grind [State.raiseLine_formed, State.setPort_formed, State.toState_formed, State.quietSnapshot_formed,
    State.updateInterval_formed]

theorem State.retrainBegin_formed {p : Port} (hs : s.Formed) : (s.retrainBegin p).Formed := by
  unfold State.retrainBegin
  grind [State.ecTrain_formed, State.setEc_formed]

theorem State.dropAnswers_formed {p : Port} (hs : s.Formed) : (s.dropAnswers p).Formed := by
  unfold State.dropAnswers
  grind [State.Formed.foldl, State.setPort_formed, State.freeStation_formed]

theorem State.endWindow_formed {p : Port} (hs : s.Formed) : (s.endWindow p).Formed := by
  unfold State.endWindow
  grind [State.Formed.foldl, State.freeEngine_formed, State.dropAnswers_formed, State.setElem_formed,
    State.setPort_formed]

theorem State.openWindow_formed {p : Port} (hs : s.Formed) : (s.openWindow p).Formed := by
  unfold State.openWindow
  grind [State.beginSound_formed, State.quietEntry_formed, State.retrainBegin_formed, State.tryFocus_formed,
    State.tryRun_formed]

theorem State.beginWindow_formed {p : Port} {i : Nat} {start finish : Stamp} {counts : Bool} (hs : s.Formed) :
    (s.beginWindow p i start finish counts).Formed := by
  unfold State.beginWindow
  grind [State.endWindow_formed, State.setPort_formed, State.wr_formed, State.inc_formed, State.openWindow_formed]

theorem State.resumeWindow_formed {p : Port} (hs : s.Formed) : (s.resumeWindow p).Formed := by
  unfold State.resumeWindow
  grind [State.beginWindow_formed]

theorem State.itinSwitch_formed {p : Port} {resumed : Bool} (hs : s.Formed) : (s.itinSwitch p resumed).Formed := by
  unfold State.itinSwitch
  grind [State.Formed.foldl, State.setPort_formed, State.wr_formed, State.inc_formed, State.setHead_formed,
    State.headCheck_formed, State.resumeWindow_formed, State.beginWindow_formed]

theorem State.deliver_formed {r : Rec} (hs : s.Formed) : (s.deliver r).Formed := by
  unfold State.deliver
  grind [State.setMerge_formed, State.inc_formed, State.emit_formed, State.sendHost_formed]

theorem State.reach_formed {r : Rec} (hs : s.Formed) : (s.reach r).Formed := by
  unfold State.reach
  grind [State.setMerge_formed]

theorem State.deliverAll_formed {l : List Rec} (hs : s.Formed) : (s.deliverAll l).Formed := by
  unfold State.deliverAll
  grind [State.Formed.foldl, State.deliver_formed]

theorem State.deliverEvery_formed (hs : s.Formed) : (s.deliverEvery).Formed := by
  unfold State.deliverEvery
  grind [State.Formed.foldl, State.reach_formed, State.setMerge_formed, State.deliverAll_formed]

theorem State.rebound_formed (hs : s.Formed) : (s.rebound).Formed := hs.of_eq rfl rfl

theorem State.quality_formed {q : Int} (hs : s.Formed) : (s.quality q).Formed := by
  unfold State.quality
  grind [State.rebound_formed, State.wr_formed]

theorem State.shift_formed {old d : Int} (hs : s.Formed) : (s.shift old d).Formed := by
  unfold State.shift
  exact hs.of_eq rfl rfl

theorem State.portStep_formed {p : Port} (hs : s.Formed) : (s.portStep p).Formed := by
  unfold State.portStep
  grind [State.itinSwitch_formed, State.resumeWindow_formed]

theorem State.timeStep_formed {new : Stamp} {source : Nat} {after : Int} (hs : s.Formed) :
    (s.timeStep new source after).Formed := by
  unfold State.timeStep
  grind [State.Formed.foldl, State.deliverEvery_formed, State.quality_formed, State.setTime_formed,
    State.shift_formed, State.wr_formed, State.issue_formed, State.portStep_formed]

theorem State.discipline_formed {offset : Int} (hs : s.Formed) : (s.discipline offset).Formed := by
  unfold State.discipline
  grind [State.wr_formed, State.setTime_formed, State.timeStep_formed, State.quality_formed, State.arm_formed]

theorem State.pfQuietTimers_formed {x : Side} (hs : s.Formed) : (s.pfQuietTimers x).Formed := by
  unfold State.pfQuietTimers
  grind [State.Formed.foldl, State.disarm_formed]

theorem State.pfReset_formed {x : Side} (hs : s.Formed) : (s.pfReset x).Formed := by
  unfold State.pfReset
  grind [State.pfQuietTimers_formed, State.wr_formed, State.setLink_formed]

theorem State.pfToDetect_formed {x : Side} {cause : Nat} (hs : s.Formed) : (s.pfToDetect x cause).Formed := by
  unfold State.pfToDetect
  grind [State.pfReset_formed, State.pfTo_formed]

theorem State.moveHostSide_formed {old new : Side} (hs : s.Formed) : (s.moveHostSide old new).Formed := by
  unfold State.moveHostSide
  grind [State.Formed.foldl, State.inc_formed, State.setLink_formed, State.disarm_formed, State.setFifo_formed,
    State.drain_formed]

theorem State.setHostSide_formed {x : Side} (hs : s.Formed) : (s.setHostSide x).Formed := by
  unfold State.setHostSide
  grind [State.wr_formed, State.moveHostSide_formed]

theorem State.headRecord_formed {old cause : Nat} (hs : s.Formed) : (s.headRecord old cause).Formed := by
  unfold State.headRecord
  grind [State.issue_formed]

theorem State.adopt_formed {dev : Nat} {x : Side} {hops cause : Nat} (hs : s.Formed) :
    (s.adopt dev x hops cause).Formed := by
  unfold State.adopt
  grind [State.wr_formed, State.setCasc_formed, State.setHostSide_formed, State.inc_formed, State.headRecord_formed,
    State.disarm_formed, State.arm_formed]

theorem State.setTopology_formed {dev : Nat} {e : Bytes} (hs : s.Formed) : (s.setTopology dev e).Formed := by
  unfold State.setTopology
  grind [State.wrB_formed, State.setCasc_formed]

theorem State.ownTopology_formed (hs : s.Formed) : (s.ownTopology).Formed := by
  unfold State.ownTopology
  grind [State.setTopology_formed]

theorem State.becomeHead_formed (hs : s.Formed) : (s.becomeHead).Formed := by
  unfold State.becomeHead
  grind [State.wr_formed, State.wrB_formed, State.setCasc_formed, State.disarm_formed, State.arm_formed,
    State.setHostSide_formed, State.ownTopology_formed]

theorem State.leaveHead_formed (hs : s.Formed) : (s.leaveHead).Formed := by
  unfold State.leaveHead
  grind [State.Formed.foldl, State.wr_formed, State.wrB_formed, State.setCasc_formed, State.disarm_formed,
    State.arm_formed]

theorem State.headRefresh_formed (hs : s.Formed) : (s.headRefresh).Formed := by
  unfold State.headRefresh
  grind [State.leaveHead_formed, State.becomeHead_formed]

theorem State.fullRetrain_formed {x : Side} {cause : Nat} (hs : s.Formed) : (s.fullRetrain x cause).Formed := by
  unfold State.fullRetrain
  grind [State.inc_formed, State.pfToDetect_formed, State.headRefresh_formed]

theorem State.powerRecord_formed {event target step code ports : Nat} (hs : s.Formed) :
    (s.powerRecord event target step code ports).Formed := by
  unfold State.powerRecord
  grind [State.issue_formed]

theorem State.wakeReport_formed (hs : s.Formed) : (s.wakeReport).Formed := by
  unfold State.wakeReport
  grind [State.setPower_formed, State.powerRecord_formed]

theorem State.hostActive_formed {x : Side} (hs : s.Formed) : (s.hostActive x).Formed := by
  unfold State.hostActive
  grind [State.setPower_formed, State.wakeReport_formed]

theorem State.sendCaps_formed {x : Side} (hs : s.Formed) : (s.sendCaps x).Formed := hs.of_eq rfl rfl

theorem State.sendFlow_formed {x : Side} {nak : Bool} (hs : s.Formed) : (s.sendFlow x nak).Formed := by
  unfold State.sendFlow
  grind [State.sendLocal_formed, State.setLink_formed]

theorem State.enterActive_formed {x : Side} {tx rx : Nat} (hs : s.Formed) : (s.enterActive x tx rx).Formed := by
  unfold State.enterActive
  grind [State.Formed.foldl, State.setLink_formed, State.wr_formed, State.disarm_formed, State.pfTo_formed,
    State.sendFlow_formed, State.arm_formed, State.setCasc_formed, State.headRefresh_formed, State.hostActive_formed,
    State.drain_formed]

theorem State.toExchange_formed {x : Side} (hs : s.Formed) : (s.toExchange x).Formed := by
  unfold State.toExchange
  grind [State.setLink_formed, State.disarm_formed, State.pfTo_formed, State.arm_formed, State.sendCaps_formed]

theorem State.fastBurst_formed {x : Side} {lanes : List Nat} (hs : s.Formed) : (s.fastBurst x lanes).Formed := by
  unfold State.fastBurst
  grind [State.Formed.foldl, State.free_formed, State.emit_formed]

theorem State.beginDrop_formed {x : Side} (hs : s.Formed) : (s.beginDrop x).Formed := by
  unfold State.beginDrop
  grind [State.setLink_formed, State.pfTo_formed, State.arm_formed, State.fastBurst_formed, State.sendCaps_formed]

theorem State.resend_formed {x : Side} (hs : s.Formed) : (s.resend x).Formed := by
  unfold State.resend
  grind [State.Formed.foldl, State.emit_formed, State.inc_formed, State.arm_formed]

theorem State.forward_formed {x : Side} {p : Parcel} (hs : s.Formed) : (s.forward x p).Formed := by
  unfold State.forward
  grind [State.send_formed]

theorem State.afterQuiet_formed {p : Port} {a : Nat} (hs : s.Formed) : (s.afterQuiet p a).Formed := by
  unfold State.afterQuiet
  grind [State.queueCtl_formed, State.wr_formed, State.setElem_formed]

theorem State.unpark_formed {p : Port} {cause : Nat} (hs : s.Formed) : (s.unpark p cause).Formed := by
  unfold State.unpark
  grind [State.Formed.foldl, State.ecTrain_formed, State.toState_formed, State.setPort_formed,
    State.afterQuiet_formed, State.setElem_formed]

theorem State.park_formed {p : Port} {cause : Nat} (hs : s.Formed) : (s.park p cause).Formed := by
  unfold State.park
  grind [State.toState_formed]

theorem State.changeBand_formed {p : Port} (hs : s.Formed) : (s.changeBand p).Formed := by
  unfold State.changeBand
  grind [State.freeAll_formed, State.ecClear_formed, State.setPort_formed, State.computeLevel_formed,
    State.toState_formed]

theorem State.lineFollows_formed {p : Port} (hs : s.Formed) : (s.lineFollows p).Formed := by
  unfold State.lineFollows
  grind [State.toState_formed, State.park_formed, State.changeBand_formed]

theorem State.heard_formed {p : Port} {a : Nat} {crcOk : Bool} (hs : s.Formed) : (s.heard p a crcOk).Formed := by
  unfold State.heard
  grind [State.setElem_formed]

theorem State.takeRx_formed {p : Port} {f : LineRx} (hs : s.Formed) : (s.takeRx p f).2.Formed := by
  unfold State.takeRx
  grind [State.resolve_formed, State.heard_formed, State.eqHeard_formed, State.eqMer_formed, State.receive_formed]

theorem State.setPace_formed {p : Port} {a : Nat} {o : Obj} {pace : Nat} (hs : s.Formed) :
    (s.setPace p a o pace).Formed := by
  unfold State.setPace
  grind [State.wr_formed, State.stationRecord_formed, State.inc_formed, State.updateInterval_formed]

theorem State.evalPace_formed {p : Port} {a : Nat} {snr : Option Nat} {g : Nat} {o ceiling : Obj} {t : Timer} {errors
    : Bool} (hs : s.Formed) : (s.evalPace p a snr g o ceiling t errors).Formed := by
  unfold State.evalPace
  grind [State.arm_formed, State.setPace_formed]

theorem State.evalUp_formed {p : Port} {a : Nat} {errors : Bool} (hs : s.Formed) : (s.evalUp p a errors).Formed := by
  unfold State.evalUp
  grind [State.evalPace_formed]

theorem State.evalDown_formed {p : Port} {a : Nat} {errors : Bool} (hs : s.Formed) :
    (s.evalDown p a errors).Formed := by
  unfold State.evalDown
  grind [State.evalPace_formed]

theorem State.assign_formed {p : Port} {a : Nat} {caps : Bytes} {f : LineRx} {slot : Stamp} (hs : s.Formed) :
    (s.assign p a caps f slot).Formed := by
  unfold State.assign
  grind [State.Formed.foldl, State.freeStation_formed, State.free_formed, State.wr_formed, State.wrB_formed,
    State.eqClear_formed, State.setElem_formed, State.updateInterval_formed, State.arm_formed, State.queueCtl_formed]

theorem State.queueAdj_formed {p : Port} {a : Nat} {delta power : Int} {result : Nat} (hs : s.Formed) :
    (s.queueAdj p a delta power result).Formed := by
  unfold State.queueAdj
  grind [State.queueCtl_formed]

theorem State.correct_formed {p : Port} {a : Nat} {delta power : Int} (hs : s.Formed) :
    (s.correct p a delta power).Formed := by
  unfold State.correct
  grind [State.setElem_formed, State.wr_formed, State.queueAdj_formed]

theorem State.misalign_formed {p : Port} {a : Nat} (hs : s.Formed) : (s.misalign p a).Formed := by
  unfold State.misalign
  grind [State.setElem_formed, State.stationRecord_formed, State.raiseLine_formed, State.wr_formed]

theorem State.measured_formed {p : Port} {a : Nat} {e level : Int} (hs : s.Formed) :
    (s.measured p a e level).Formed := by
  unfold State.measured
  grind [State.wr_formed, State.setElem_formed]

theorem State.aligned_formed {p : Port} {a : Nat} {e level : Int} (hs : s.Formed) :
    (s.aligned p a e level).Formed := by
  unfold State.aligned
  grind [State.measured_formed, State.misalign_formed, State.setElem_formed, State.correct_formed]

theorem State.eqRefresh_formed {p : Port} {a : Nat} {f : LineRx} (hs : s.Formed) : (s.eqRefresh p a f).Formed := by
  unfold State.eqRefresh
  grind [State.eqFrame_formed, State.eqTake_formed, State.setEq_formed, State.cntLine_formed,
    State.eqDriftRestore_formed]

theorem State.grantFrame_formed {p : Port} {a : Nat} {f : LineRx} (hs : s.Formed) : (s.grantFrame p a f).Formed := by
  unfold State.grantFrame
  grind [State.eqMer_formed, State.eqRefresh_formed, State.heard_formed, State.receive_formed, State.eqHeard_formed,
    State.setPort_formed]

theorem State.grantFrames_formed {p : Port} {g : Granted} {l : List LineRx} {t : Stamp} {n : Nat} (hs : s.Formed) :
    (s.grantFrames p g l t n).2.Formed := by
  induction l generalizing s t n with
  | nil => exact hs
  | cons f l ih =>
    unfold State.grantFrames
    grind [State.aligned_formed, State.cntLine_formed, State.grantFrame_formed]

theorem State.loseWaiting_formed {p : Port} (hs : s.Formed) : (s.loseWaiting p).Formed := by
  unfold State.loseWaiting
  grind [State.setPort_formed, State.cntLine_formed]

theorem State.acquire_formed {p : Port} {y : SyncMeas} (hs : s.Formed) : (s.acquire p y).Formed := by
  unfold State.acquire
  grind [State.setPort_formed, State.cntLine_formed, State.loseWaiting_formed]

theorem State.reexamine_formed {p : Port} {h : Held} (hs : s.Formed) : (s.reexamine p h).Formed := by
  unfold State.reexamine
  grind [State.Formed.foldl, State.setPort_formed, State.cntLine_formed, State.acquire_formed]

theorem State.foreign_formed {p : Port} {sync : Stamp} {beacon : Option Bytes} (hs : s.Formed) :
    (s.foreign p sync beacon).Formed := by
  unfold State.foreign
  grind [State.issueAt_formed, State.inc_formed, State.raiseLine_formed, State.arm_formed]

theorem State.applyKey_formed {p : Port} {e : Nat} {key : Bytes} (hs : s.Formed) : (s.applyKey p e key).Formed := by
  unfold State.applyKey
  grind [State.setIz_formed, State.wrB_formed, State.wr_formed]

theorem State.answerKeys_formed {p : Port} (hs : s.Formed) : (s.answerKeys p).Formed := by
  unfold State.answerKeys
  grind [State.Formed.foldl, State.setIz_formed, State.respond_formed]

theorem State.release_formed {p : Port} {a reason : Nat} (hs : s.Formed) : (s.release p a reason).Formed := by
  unfold State.release
  grind [State.freeStation_formed, State.queueCtl_formed]

theorem State.beaconHandled_formed {p : Port} (hs : s.Formed) : (s.beaconHandled p).Formed := hs.of_eq rfl rfl

theorem State.scrubSlot_formed (hs : s.Formed) : (s.scrubSlot).Formed := by
  unfold State.scrubSlot
  grind [State.setHouse_formed]

theorem State.calibrationSlot_formed (hs : s.Formed) : (s.calibrationSlot).Formed := hs.of_eq rfl rfl

theorem State.hostParcel_formed {x : Side} {type : Nat} (hs : s.Formed) : (s.hostParcel x type).Formed := by
  unfold State.hostParcel
  grind [State.happens_formed]

theorem State.ungate_formed (hs : s.Formed) : (s.ungate).Formed := by
  unfold State.ungate
  grind [State.setHouse_formed, State.arm_formed]

theorem State.shape_formed {q : Nat} (hs : s.Formed) : (s.shape q).Formed := by
  unfold State.shape
  grind [State.wr_formed]

theorem State.sampleQueue_formed {q : Nat} (hs : s.Formed) : (s.sampleQueue q).Formed := by
  unfold State.sampleQueue
  grind [State.wr_formed, State.inc_formed, State.setQm_formed]

theorem State.sampleSlot_formed (hs : s.Formed) : (s.sampleSlot).Formed := by
  unfold State.sampleSlot
  dsimp only
  split
  · exact State.wr_formed (State.setQm_formed (hs.foldl _ fun _ _ h => State.sampleQueue_formed h))
  · exact hs.foldl _ fun _ _ h => State.sampleQueue_formed h

theorem State.tempRestart_formed {p : Port} (hs : s.Formed) : (s.tempRestart p).Formed := by
  unfold State.tempRestart
  grind [State.Formed.foldl, State.setSound_formed, State.cntSound_formed, State.startBand_formed]

theorem State.sendBulk_formed {p : Port} {offset : Nat} {last : Bool} {b : Bytes} (hs : s.Formed) :
    (s.sendBulk p offset last b).Formed := by
  unfold State.sendBulk
  grind [State.sendHost_formed]

theorem State.streamItems_formed {p : Port} {n : Nat} (hs : s.Formed) : (s.streamItems p n).1.Formed := by
  unfold State.streamItems
  grind [State.Formed.foldl, State.sendBulk_formed, State.setSound_formed]

theorem State.readoutTail_formed {p : Port} (hs : s.Formed) : (s.readoutTail p).Formed := by
  unfold State.readoutTail
  grind [State.sendBulk_formed, State.setSound_formed, State.wr_formed]

theorem State.putObject_formed {o : Obj} {n e : Nat} {b : Bytes} (hs : s.Formed) : (s.putObject o n e b).Formed := by
  unfold State.putObject
  grind [State.wrB_formed, State.wr_formed]

theorem State.arrives_formed {r : IzReq} (hs : s.Formed) : (s.arrives r).Formed := by
  unfold State.arrives
  grind [State.hostParcel_formed, State.ungate_formed, State.setIz_formed]

theorem State.macFail_formed (hs : s.Formed) : (s.macFail).Formed := by
  unfold State.macFail
  grind [State.inc_formed]

/-- The states in an admission are in canonical form. -/
def Admission.Formed : Admission → Prop
  | .discarded s | .answered s | .accepted s => s.Formed

theorem Admission.run_formed {a : Admission} {f : State → State} (ha : a.Formed) (hf : ∀ t, t.Formed → (f t).Formed) :
    (a.run f).Formed := by
  cases a with
  | discarded t => exact ha
  | answered t => exact ha
  | accepted t => exact hf t ha

theorem State.admitReq_formed {r : IzReq} (hs : s.Formed) : (s.admitReq r).Formed := by
  have harrives : (s.arrives r).Formed := State.arrives_formed hs
  unfold State.admitReq
  dsimp only
  grind [Admission.Formed, State.inc_formed, State.macFail_formed, State.respond_formed, State.setSession_formed,
    State.wr_formed, State.arm_formed]

theorem State.readReq_formed {r : IzReq} (hs : s.Formed) : (s.readReq r).Formed := by
  unfold State.readReq
  grind [State.respond_formed]

theorem State.refuseWrite_formed {r : IzReq} {status : Nat} (hs : s.Formed) : (s.refuseWrite r status).Formed := by
  unfold State.refuseWrite
  grind [State.inc_formed, State.respond_formed]

theorem State.stage_formed {r : IzReq} {k : SessionNo} {vs : List (Nat × Bytes)} (hs : s.Formed) :
    (s.stage r k vs).Formed := by
  unfold State.stage
  grind [State.Formed.foldl, State.setSession_formed, State.refuseWrite_formed, State.respond_formed]

theorem State.config_formed {vs : List (Addr × Bytes)} (hs : s.Formed) : (s.config vs).Formed := by
  unfold State.config
  grind [State.Formed.foldl, State.putObject_formed]

theorem State.writeDirect_formed {r : IzReq} {o : Obj} {n : Nat} {vs : List (Nat × Bytes)} (hs : s.Formed) :
    (s.writeDirect r o n vs).Formed := by
  unfold State.writeDirect
  grind [State.setIz_formed]

theorem State.writeReq_formed {r : IzReq} (hs : s.Formed) : (s.writeReq r).Formed := by
  unfold State.writeReq
  split
  · split
    · exact State.stage_formed hs
    · exact State.writeDirect_formed hs
  · exact State.refuseWrite_formed hs
  · exact hs

theorem State.freeSession_formed {k : SessionNo} (hs : s.Formed) : (s.freeSession k).Formed := by
  unfold State.freeSession
  grind [State.wr_formed, State.setIz_formed, State.setSession_formed, State.disarm_formed]

theorem State.freeSessions_formed (hs : s.Formed) : (s.freeSessions).Formed := by
  unfold State.freeSessions
  grind [State.Formed.foldl, State.freeSession_formed]

theorem State.authFailed_formed {k : SessionNo} (hs : s.Formed) : (s.authFailed k).Formed := by
  unfold State.authFailed
  grind [State.freeSession_formed, State.inc_formed, State.setIz_formed, State.arm_formed]

theorem State.proxyReq_formed {r : IzReq} {write : Bool} (hs : s.Formed) : (s.proxyReq r write).Formed := by
  unfold State.proxyReq
  grind [State.refuseWrite_formed, State.respond_formed, State.inc_formed, State.setPort_formed]

theorem State.refuseCommit_formed {c : Commit} {status : Nat} {report : Bytes} (hs : s.Formed) :
    (s.refuseCommit c status report).Formed := by
  unfold State.refuseCommit
  grind [State.Formed.foldl, State.wrB_formed, State.inc_formed, State.afterCommit_formed, State.setSession_formed,
    State.respond_formed]

theorem State.acceptCommit_formed {c : Commit} (hs : s.Formed) : (s.acceptCommit c).Formed := by
  unfold State.acceptCommit
  grind [State.inc_formed, State.respond_formed, State.setIz_formed, State.wr_formed, State.commitDone_formed]

theorem State.loadCell_formed {p : Port} {i : Nat} {w : Nat} (hs : s.Formed) : (s.loadCell p i w).Formed := by
  unfold State.loadCell
  grind [State.wr_formed, State.setSound_formed]

theorem State.applyValue_formed {v : Addr × Bytes} (hs : s.Formed) : (s.applyValue v).Formed := by
  unfold State.applyValue
  grind [State.loadCell_formed, State.setQm_formed, State.putObject_formed]

theorem State.applyLine_formed {p : Port} {vs : List (Addr × Bytes)} (hs : s.Formed) : (s.applyLine p vs).Formed := by
  unfold State.applyLine
  grind [State.Formed.foldl, State.applyKey_formed, State.applyValue_formed, State.ecTrain_formed,
    State.eqClear_formed, State.ecClear_formed, State.computeLevel_formed, State.updateInterval_formed,
    State.setElem_formed, State.setCal_formed, State.setIz_formed]

theorem State.applySounding_formed {p : Port} {vs : List (Addr × Bytes)} (hs : s.Formed) :
    (s.applySounding p vs).Formed := by
  unfold State.applySounding
  grind [State.Formed.foldl, State.applyValue_formed, State.updateTw_formed]

theorem State.applyQueues_formed {vs : List (Addr × Bytes)} (hs : s.Formed) : (s.applyQueues vs).Formed := by
  unfold State.applyQueues
  grind [State.Formed.foldl, State.meterFill_formed, State.applyValue_formed, State.wr_formed]

theorem State.applyTime_formed {vs : List (Addr × Bytes)} (hs : s.Formed) : (s.applyTime vs).Formed := by
  unfold State.applyTime
  grind [State.Formed.foldl, State.applyValue_formed, State.rebound_formed, State.quality_formed]

theorem State.applyPower_formed {vs : List (Addr × Bytes)} (hs : s.Formed) : (s.applyPower vs).Formed := by
  unfold State.applyPower
  grind [State.Formed.foldl, State.applyValue_formed, State.rebound_formed, State.setPower_formed, State.wr_formed,
    State.setIz_formed]

theorem State.applyLinks_formed {vs : List (Addr × Bytes)} (hs : s.Formed) : (s.applyLinks vs).Formed := by
  unfold State.applyLinks
  grind [State.Formed.foldl, State.applyValue_formed, State.pfReset_formed, State.pfTo_formed,
    State.pfToDetect_formed]

theorem State.applyDirect_formed {i : Island} (hs : s.Formed) : (s.applyDirect i).Formed := by
  unfold State.applyDirect
  grind [State.Formed.foldl, State.answerKeys_formed, State.setIz_formed, State.applyValue_formed,
    State.respond_formed]

theorem State.applyIsland_formed {i : Island} (hs : s.Formed) : (s.applyIsland i).Formed := by
  unfold State.applyIsland
  grind [State.Formed.foldl, State.applyLine_formed, State.applySounding_formed, State.applyQueues_formed,
    State.applyTime_formed, State.applyPower_formed, State.applyLinks_formed, State.applyValue_formed,
    State.applyDirect_formed, State.setIz_formed, State.commitDone_formed]

theorem State.bulkSlot_formed {bulk : Nat} (hs : s.Formed) : (s.bulkSlot bulk).Formed := by
  unfold State.bulkSlot
  exact List.foldlRecOn (motive := fun x : State × Nat => x.1.Formed) _ _ hs fun x hx p _ => State.streamItems_formed
    hx

theorem State.beginSlot_formed {slot : Nat} {pending : Bool} {bulk : Nat} (hs : s.Formed) :
    (s.beginSlot slot pending bulk).Formed := by
  unfold State.beginSlot
  extract_lets x1 x2 x3 x4
  have hx3 : x3.Formed := by grind [State.Formed.foldl, State.setHouse_formed, State.scrubSlot_formed,
    State.sampleSlot_formed, State.calibrationSlot_formed, State.markCells_formed, State.bulkSlot_formed]
  have hx4 : x4.Formed := by grind [State.Formed.foldl, State.setHouse_formed, State.scrubSlot_formed,
    State.sampleSlot_formed, State.calibrationSlot_formed, State.markCells_formed, State.bulkSlot_formed]
  grind [State.Formed.foldl, State.setHouse_formed, State.scrubSlot_formed, State.sampleSlot_formed,
    State.calibrationSlot_formed, State.markCells_formed, State.bulkSlot_formed]

theorem State.applyDue_formed {i : Island} (hs : s.Formed) : (s.applyDue i).Formed := by
  unfold State.applyDue
  grind [State.applyIsland_formed]

theorem State.applyAtBoundary_formed {p : Port} (hs : s.Formed) : (s.applyAtBoundary p).Formed := by
  unfold State.applyAtBoundary
  grind [State.applyDue_formed, State.lineFollows_formed, State.commitDone_formed]

theorem State.ecSilent_formed {p : Port} {b : BlockUse} (hs : s.Formed) : (s.ecSilent p b).Formed := by
  unfold State.ecSilent
  grind [State.setEc_formed]

theorem State.ecAdapt_formed {p : Port} {b : BlockUse} (hs : s.Formed) : (s.ecAdapt p b).Formed := by
  unfold State.ecAdapt
  grind [State.setEc_formed]

theorem State.ecUse_formed {p : Port} {b : BlockUse} (hs : s.Formed) : (s.ecUse p b).Formed := by
  unfold State.ecUse
  grind [State.setEc_formed]

theorem State.quietApply_formed {p : Port} (hs : s.Formed) : (s.quietApply p).Formed := by
  unfold State.quietApply
  grind [State.Formed.foldl, State.setEc_formed, State.cntLine_formed, State.ecDriftRestore_formed]

theorem State.ecTake_formed {p : Port} {b : BlockUse} (hs : s.Formed) : (s.ecTake p b).Formed := by
  unfold State.ecTake
  grind [State.ecAdapt_formed, State.ecUse_formed, State.cntLine_formed, State.setEc_formed]

theorem State.blockOver_formed {p : Port} (hs : s.Formed) : (s.blockOver old p).Formed := hs.of_eq rfl rfl

theorem State.erleTaken_formed {p : Port} {v : Int} (hs : s.Formed) : (s.erleTaken p v).Formed := by
  unfold State.erleTaken
  grind [State.setEc_formed, State.ecTrainingEnds_formed, State.ecTrain_formed]

theorem State.nak_formed {x : Side} (hs : s.Formed) : (s.nak x).Formed := by
  unfold State.nak
  grind [State.inc_formed, State.sendFlow_formed, State.setLink_formed]

theorem State.unreachableReply_formed {x : Side} {b : Bytes} (hs : s.Formed) : (s.unreachableReply x b).Formed := by
  unfold State.unreachableReply
  grind [State.reply_formed]

theorem State.route_formed {x : Side} {p : Parcel} (hs : s.Formed) : (s.route x p).Formed := by
  unfold State.route
  grind [State.inc_formed, State.forward_formed, State.happens_formed, State.unreachableReply_formed]

theorem State.probe_formed {x : Side} {body : Bytes} (hs : s.Formed) : (s.probe x body).Formed := by
  unfold State.probe
  grind [State.setCasc_formed, State.arm_formed, State.adopt_formed, State.wr_formed, State.setHostSide_formed,
    State.forward_formed]

theorem State.takeOver_formed {cause : Nat} (hs : s.Formed) : (s.takeOver cause).Formed := by
  unfold State.takeOver
  grind [State.inc_formed, State.becomeHead_formed, State.headRecord_formed]

theorem State.failoverSend_formed {reason : Nat} (hs : s.Formed) : (s.failoverSend reason).Formed := by
  unfold State.failoverSend
  grind [State.send_formed, State.setCasc_formed, State.headRefresh_formed]

theorem State.handBack_formed (hs : s.Formed) : (s.handBack).Formed := by
  unfold State.handBack
  grind [State.adopt_formed]

theorem State.coldReset_formed {cause : Nat} {detail : Bytes} {hold : Nat} : (s.coldReset cause detail hold).Formed :=
  ⟨(by rfl), (by rfl)⟩

theorem State.releaseHold_formed {k : Nat} (hs : s.Formed) : (s.releaseHold k).Formed := hs.of_eq rfl rfl

theorem State.hmpRecord_formed {event : Nat} {result : Nat} {o : Int} (hs : s.Formed) :
    (s.hmpRecord event result o).Formed := by
  unfold State.hmpRecord
  grind [State.issue_formed]

theorem State.hmpTo_formed {new : Int} (hs : s.Formed) : (s.hmpTo new).Formed := by
  unfold State.hmpTo
  grind [State.wr_formed, State.hmpRecord_formed]

theorem State.rebuildMailbox_formed (hs : s.Formed) : (s.rebuildMailbox).Formed := by
  unfold State.rebuildMailbox
  grind [State.setHmp_formed, State.disarm_formed, State.hmpTo_formed, State.arm_formed]

theorem State.powerTo_formed {mode step : Nat} (hs : s.Formed) : (s.powerTo mode step).Formed := by
  unfold State.powerTo
  grind [State.setPower_formed, State.wr_formed]

theorem State.wakeCause_formed {code detail : Nat} (hs : s.Formed) : (s.wakeCause code detail).Formed := by
  unfold State.wakeCause
  grind [State.setPower_formed, State.wr_formed]

theorem State.leaveIdle_formed {code detail : Nat} (hs : s.Formed) : (s.leaveIdle code detail).Formed := by
  unfold State.leaveIdle
  grind [State.powerTo_formed, State.wakeCause_formed, State.ungate_formed]

theorem State.startWake_formed {code detail : Nat} (hs : s.Formed) : (s.startWake code detail).Formed := by
  unfold State.startWake
  grind [State.wakeCause_formed, State.setPower_formed]

theorem State.beginEntry_formed {target : Nat} (hs : s.Formed) : (s.beginEntry target).Formed := by
  unfold State.beginEntry
  grind [State.setPower_formed, State.powerTo_formed, State.powerRecord_formed]

theorem State.stepAction_formed (hs : s.Formed) : (s.stepAction).Formed := by
  unfold State.stepAction
  grind [State.Formed.foldl, State.deliver_formed, State.setMerge_formed, State.park_formed, State.setPower_formed,
    State.writeBackAll_formed]

theorem State.sign_formed (hs : s.Formed) : (s.sign).Formed := by
  unfold State.sign
  grind [State.Formed.foldl, State.free_formed, State.wr_formed]

theorem State.signThermos_formed {m : EntryMeas} (hs : s.Formed) : (s.signThermos m).Formed := by
  unfold State.signThermos
  grind [State.setPower_formed, State.setTime_formed, State.sign_formed, State.wr_formed]

theorem State.unparkParked_formed {cause : Nat} (hs : s.Formed) : (s.unparkParked cause).Formed := by
  unfold State.unparkParked
  grind [State.Formed.foldl, State.unpark_formed, State.setPower_formed]

theorem State.undoEntry_formed {code detail : Nat} (hs : s.Formed) : (s.undoEntry code detail).Formed := by
  unfold State.undoEntry
  grind [State.setPower_formed, State.powerTo_formed, State.unparkParked_formed, State.inc_formed, State.wr_formed,
    State.powerRecord_formed]

theorem State.gate_formed (hs : s.Formed) : (s.gate).Formed := by
  unfold State.gate
  grind [State.inc_formed, State.hmpTo_formed, State.powerTo_formed, State.setPower_formed, State.coldReset_formed,
    State.startWake_formed]

theorem State.alsoWoke_formed {code detail : Nat} (hs : s.Formed) : (s.alsoWoke code detail).Formed := by
  unfold State.alsoWoke
  grind [State.wr_formed]

theorem State.fillBuckets_formed (hs : s.Formed) : (s.fillBuckets).Formed := by
  unfold State.fillBuckets
  grind [State.Formed.foldl, State.wr_formed]

theorem State.restartBands_formed (hs : s.Formed) : (s.restartBands).Formed := by
  unfold State.restartBands
  grind [State.Formed.foldl, State.setSound_formed]

theorem State.deepLosses_formed (hs : s.Formed) : (s.deepLosses).Formed := by
  unfold State.deepLosses
  grind [State.setQm_formed, State.setMerge_formed, State.fillBuckets_formed, State.restartBands_formed]

theorem State.timeRestore_formed {counter : Nat} (hs : s.Formed) : (s.timeRestore counter).Formed := by
  unfold State.timeRestore
  grind [State.setTime_formed, State.wr_formed]

theorem State.bankLost_formed {b : Nat} (hs : s.Formed) : (s.bankLost b).Formed := by
  unfold State.bankLost
  grind [State.Formed.foldl, State.free_formed, State.setTime_formed, State.wr_formed, State.fillBuckets_formed,
    State.restartBands_formed, State.freeSessions_formed]

theorem State.stopStamps_formed {u : Nat} (hs : s.Formed) : (s.stopStamps u).Formed := hs.of_eq rfl rfl

theorem State.faultState_formed (hs : s.Formed) : (s.faultState).Formed := by
  unfold State.faultState
  grind [State.Formed.foldl, State.wr_formed, State.ownTopology_formed]

theorem State.faultInUnit_formed {f : FaultReport} (hs : s.Formed) : (s.faultInUnit f).Formed := by
  unfold State.faultInUnit
  grind [State.Formed.foldl, State.setFaults_formed, State.setSound_formed, State.cntSound_formed]

theorem State.fenceElem_formed {e : Nat} {f : PendFault} {seq : Nat} (hs : s.Formed) :
    (s.fenceElem e f seq).Formed := by
  unfold State.fenceElem
  grind [State.disarm_formed, State.wr_formed, State.inc_formed, State.setFaults_formed]

theorem State.fenceEngine_formed {k : Fin 4} (hs : s.Formed) : (s.fenceEngine k).Formed := by
  unfold State.fenceEngine
  grind [State.Formed.foldl, State.setSound_formed, State.freeEngine_formed]

theorem State.fenceHamper_formed (hs : s.Formed) : (s.fenceHamper).Formed := by
  unfold State.fenceHamper
  grind [State.Formed.foldl, State.setHmp_formed, State.disarm_formed, State.hmpTo_formed]

theorem State.restartSteward_formed {f : PendFault} {seq : Nat} (hs : s.Formed) :
    (s.restartSteward f seq).Formed := by
  unfold State.restartSteward
  grind [State.Formed.foldl, State.setFaults_formed, State.wr_formed, State.setIz_formed, State.setHouse_formed,
    State.setPort_formed, State.disarm_formed]

theorem State.fenceAction_formed {f : PendFault} {seq : Nat} (hs : s.Formed) {t : State} (ht : State.fenceAction s f
    seq = some t) : t.Formed := by
  unfold State.fenceAction at ht
  dsimp only at ht
  grind [State.fencePort_formed, State.fenceElem_formed, State.fenceEngine_formed, State.fenceHamper_formed,
    State.restartSteward_formed, State.inc_formed, State.beginDrop_formed]

theorem State.logFault_formed {all : List Judged} {first : Bool} {j : Judged} (hs : s.Formed) :
    (s.logFault all first j).Formed := by
  unfold State.logFault
  extract_lets f r seq level same allowed suppressed runs fence reaction flags rec' old s₁ s₂ s₃ s₄ entry s₅ s₆ s₇ t₁
    t₂ t₃ t₄
  have h₁ : s₁.Formed := by grind [State.inc_formed]
  have h₂ : s₂.Formed := by grind [State.inc_formed, State.wr_formed, State.wrB_formed]
  have h₃ : s₃.Formed := by grind [State.inc_formed]
  have h₄ : s₄.Formed := by grind [State.inc_formed]
  have h₅ : s₅.Formed := State.setFaults_formed h₄
  have h₆ : s₆.Formed := State.setMerge_formed h₅
  have h₇ : s₇.Formed := by grind [State.setFaults_formed, State.wrB_formed]
  have h₈ : t₁.Formed := by grind [State.happens_formed]
  have h₉ : t₂.Formed := by grind [State.powerTo_formed, State.ungate_formed]
  have h₁₀ : t₃.Formed := by
    cases hfence : t₂.fenceAction f seq with
    | none => grind
    | some u => grind [State.fenceAction_formed]
  have h₁₁ : t₄.Formed := by grind [State.failoverSend_formed]
  grind [State.setFaults_formed, State.arm_formed]

theorem State.patchCheck_formed {c : PatchCheck} (hs : s.Formed) : (s.patchCheck c).Formed := by
  unfold State.patchCheck
  grind [State.setRst_formed, State.raise_formed]

theorem State.regionLost_formed {page : Nat} {region : DramRegion} (hs : s.Formed) :
    (s.regionLost page region).Formed := by
  unfold State.regionLost
  grind [State.Formed.foldl, State.setFaults_formed, State.dropHead_formed, State.flushQueue_formed,
    State.wrB_formed, State.setQm_formed, State.wr_formed]

theorem State.unfence_formed {e : Nat} (hs : s.Formed) : (s.unfence e).Formed := by
  unfold State.unfence
  grind [State.wr_formed, State.setPort_formed, State.setCal_formed, State.ecClear_formed, State.toState_formed,
    State.hmpTo_formed, State.arm_formed]

theorem State.suspectBit_formed {p : Port} {step : Nat} {b : Bool} (hs : s.Formed) :
    (s.suspectBit p step b).Formed := by
  unfold State.suspectBit
  grind [State.wr_formed]

theorem State.setFfe_formed {p : Port} {taps : Bytes} {source : Int} (hs : s.Formed) :
    (s.setFfe p taps source).Formed := by
  unfold State.setFfe
  grind [State.wrB_formed, State.wr_formed, State.setSound_formed]

theorem State.putMeasured_formed {p : Port} {step : Nat} {r : CalRun} (hs : s.Formed) :
    (s.putMeasured p step r).Formed := by
  unfold State.putMeasured
  grind [State.setCal_formed, State.wr_formed, State.wrB_formed, State.setFfe_formed]

theorem State.putDefaults_formed {p : Port} {step : Nat} (hs : s.Formed) : (s.putDefaults p step).Formed := by
  unfold State.putDefaults
  grind [State.Formed.foldl, State.setCal_formed, State.wr_formed, State.wrB_formed, State.setFfe_formed]

theorem State.armRecal_formed {p : Port} (hs : s.Formed) : (s.armRecal p).Formed := hs.of_eq rfl rfl

theorem State.calEnd_formed {p : Port} (hs : s.Formed) : (s.calEnd p).Formed := by
  unfold State.calEnd
  grind [State.setCal_formed, State.wr_formed, State.armRecal_formed]

theorem State.linePhaseEnd_formed {p : Port} (hs : s.Formed) : (s.linePhaseEnd p).Formed := by
  unfold State.linePhaseEnd
  grind [State.calEnd_formed, State.toState_formed]

theorem State.beginStep_formed {p : Port} {step : Nat} (hs : s.Formed) : (s.beginStep p step).Formed := by
  unfold State.beginStep
  grind [State.setCal_formed, State.wr_formed, State.startRun_formed, State.tryRun_formed]

theorem State.startRecord_formed (hs : s.Formed) : (s.startRecord).Formed := by
  unfold State.startRecord
  grind [State.issue_formed]

theorem State.tryReady_formed (hs : s.Formed) : (s.tryReady).Formed := by
  unfold State.tryReady
  grind [State.Formed.foldl, State.wr_formed, State.startRecord_formed, State.setPort_formed,
    State.resumeWindow_formed, State.rebuildMailbox_formed]

theorem State.converterEnd_formed {p : Port} (hs : s.Formed) : (s.converterEnd p).Formed := by
  unfold State.converterEnd
  grind [State.setCal_formed, State.calEnd_formed, State.setRst_formed, State.tryReady_formed]

theorem State.stepDone_formed {p : Port} {step : Nat} (hs : s.Formed) : (s.stepDone p step).Formed := by
  unfold State.stepDone
  grind [State.setCal_formed, State.beginStep_formed, State.converterEnd_formed]

theorem State.stepVerdict_formed {p : Port} {step : Nat} {r : Option CalRun} {runs : Nat} (hs : s.Formed) :
    (s.stepVerdict p step r runs).Formed := by
  unfold State.stepVerdict
  grind [State.putMeasured_formed, State.suspectBit_formed, State.calRecord_formed, State.stepDone_formed,
    State.putDefaults_formed, State.raiseLine_formed]

theorem State.hybridVerdict_formed {p : Port} {r : Option CalRun} {runs : Nat} (hs : s.Formed) :
    (s.hybridVerdict p r runs).Formed := by
  unfold State.hybridVerdict
  grind [State.setCal_formed, State.putMeasured_formed, State.suspectBit_formed, State.calRecord_formed]

theorem State.periodicVerdict_formed {p : Port} {r : Option CalRun} {runs : Nat} (hs : s.Formed) :
    (s.periodicVerdict p r runs).Formed := by
  unfold State.periodicVerdict
  grind [State.setCal_formed, State.armRecal_formed, State.putMeasured_formed, State.suspectBit_formed,
    State.inc_formed, State.wr_formed, State.calRecord_formed, State.raiseLine_formed]

theorem State.calVerdict_formed {p : Port} {step : Nat} {r : Option CalRun} {runs : Nat} (hs : s.Formed) :
    (s.calVerdict p step r runs).Formed := by
  unfold State.calVerdict
  grind [State.periodicVerdict_formed, State.stepVerdict_formed, State.hybridVerdict_formed]

theorem State.nextRun_formed {p : Port} {step : Nat} (hs : s.Formed) : (s.nextRun p step).Formed := by
  unfold State.nextRun
  grind [State.startRun_formed, State.tryRun_formed]

theorem State.hybridDefaulted_formed {p : Port} (hs : s.Formed) : (s.hybridDefaulted p).Formed := by
  unfold State.hybridDefaulted
  grind [State.setCal_formed, State.wr_formed, State.calRecord_formed, State.stepDone_formed]

theorem State.abandonStep_formed {p : Port} (hs : s.Formed) : (s.abandonStep p).Formed := by
  unfold State.abandonStep
  grind [State.setCal_formed, State.calRecord_formed, State.armRecal_formed, State.stepDone_formed]

theorem State.dpdEnd_formed {p : Port} (hs : s.Formed) : (s.dpdEnd p).Formed := hs.of_eq rfl rfl

theorem State.abandonTraining_formed {p : Port} (hs : s.Formed) : (s.abandonTraining p).Formed := by
  unfold State.abandonTraining
  grind [State.wr_formed, State.disarm_formed, State.dpdEnd_formed, State.computeLevel_formed,
    State.calRecord_formed, State.linePhaseEnd_formed]

theorem State.hmpSend_formed {type : Nat} {payload : Bytes} (hs : s.Formed) : (s.hmpSend type payload).Formed := by
  unfold State.hmpSend
  grind [State.setHmp_formed, State.inc_formed, State.arm_formed, State.emit_formed]

theorem State.hmpAnswered_formed {type : Nat} (hs : s.Formed) : (s.hmpAnswered type).Formed := by
  unfold State.hmpAnswered
  grind [State.setHmp_formed, State.disarm_formed]

theorem State.hmpNextLog_formed (hs : s.Formed) : (s.hmpNextLog).Formed := by
  unfold State.hmpNextLog
  grind [State.setHmp_formed, State.hmpSend_formed]

theorem State.hmpBad_formed (hs : s.Formed) : (s.hmpBad).Formed := by
  unfold State.hmpBad
  grind [State.inc_formed, State.setFaults_formed, State.raise_formed]

theorem State.hmpGood_formed (hs : s.Formed) : (s.hmpGood).Formed := by
  unfold State.hmpGood
  grind [State.inc_formed, State.arm_formed, State.hmpTo_formed]

theorem State.railRead_formed {r : Rail} {mv : Nat} (hs : s.Formed) : (s.railRead r mv).Formed := by
  unfold State.railRead
  grind [State.wr_formed]

theorem State.stopDriver_formed {p : Port} (hs : s.Formed) : (s.stopDriver p).Formed := by
  unfold State.stopDriver
  grind [State.setPort_formed, State.setDc_formed, State.disarm_formed, State.setSound_formed, State.soundIdle_formed]

theorem State.junctionRead_formed {tj : Int} (hs : s.Formed) : (s.junctionRead tj).Formed := by
  unfold State.junctionRead
  grind [State.setPower_formed, State.wr_formed]

theorem State.transition_formed {new : Nat} {readback : Bool} (hs : s.Formed) :
    (s.transition new readback).Formed := by
  unfold State.transition
  grind [State.free_formed, State.setFuses_formed]

theorem State.leaveBalls_formed (hs : s.Formed) : (s.leaveBalls).Formed := by
  unfold State.leaveBalls
  grind [State.coldReset_formed, State.setRst_formed]

theorem State.tapLoad_formed {code : Nat} (hs : s.Formed) : (s.tapLoad code).Formed := by
  unfold State.tapLoad
  grind [State.leaveBalls_formed, State.setRst_formed]

theorem State.trained_formed {x : Side} (hs : s.Formed) : (s.trained x).Formed := by
  unfold State.trained
  grind [State.wr_formed, State.disarm_formed, State.pfTo_formed, State.arm_formed]

theorem State.sendStation_formed {u : Nat} {mask : Option Nat} {h : Header} {plain : Bytes} {start : Stamp} {level :
    Int} (hs : s.Formed) : (s.sendStation u mask h plain start level).Formed := by
  unfold State.sendStation
  grind [State.seed_formed, State.protect_formed, State.emit_formed, State.setStn_formed]

theorem State.drawSlot_formed {x : Stn} {w len air : Stamp} (hs : s.Formed) : (s.drawSlot x w len air).2.Formed := by
  unfold State.drawSlot
  grind [State.free_formed]

theorem State.stationResp_formed {u : Nat} {e t : Stamp} (hs : s.Formed) : (s.stationResp u e t).Formed := by
  unfold State.stationResp
  grind [State.setStn_formed, State.sendStation_formed]

theorem State.stationRefresh_formed {u : Nat} {e t : Stamp} (hs : s.Formed) : (s.stationRefresh u e t).Formed := by
  unfold State.stationRefresh
  grind [State.setStn_formed, State.leaveQuiet_formed, State.sendStation_formed]

theorem State.stationGranted_formed {u : Nat} {a : Stamp × Stamp} {e : Stamp} {h : Header} {body : Bytes} (hs :
    s.Formed) : (s.stationGranted u a e h body).Formed := by
  unfold State.stationGranted
  grind [State.reach_formed, State.setStn_formed, State.sendStation_formed]

theorem State.stationSlotted_formed {u : Nat} {w : Stamp} {h : Header} {body : Bytes} (hs : s.Formed) :
    (s.stationSlotted u w h body).Formed := by
  unfold State.stationSlotted
  grind [State.drawSlot_formed, State.setStn_formed, State.sendStation_formed]

theorem State.stationAnswer_formed {u : Nat} {sa : Nat} {b : Bytes} (hs : s.Formed) :
    (s.stationAnswer u sa b).Formed := hs.of_eq rfl rfl

theorem State.stationFragment_formed {u : Nat} {h : Header} {plain : Bytes} (hs : s.Formed) :
    (s.stationFragment u h plain).2.Formed := by
  unfold State.stationFragment
  grind [State.setStn_formed]

theorem State.stationTake_formed {u : Nat} {f : LineRx} {plain : Bytes} (hs : s.Formed) :
    (s.stationTake u f plain).Formed := by
  unfold State.stationTake
  grind [State.setStn_formed, State.stationFragment_formed, State.emit_formed, State.stationAnswer_formed]

theorem State.stationReceive_formed {u : Nat} {f : LineRx} (hs : s.Formed) : (s.stationReceive u f).Formed := by
  unfold State.stationReceive
  grind [State.setStn_formed, State.stationTake_formed]

theorem State.tick_formed (hs : s.Formed) : (s.tick).Formed := by
  unfold State.tick
  grind [State.Formed.foldl, State.settle_formed, State.setTime_formed]

theorem State.push_formed {i : Instr} (hs : s.Formed) : (s.push i).Formed := hs.of_eq rfl rfl

theorem State.withFetchWord_formed {nbits w : Nat} (hs : s.Formed) : (s.withFetchWord nbits w).Formed := by
  unfold State.withFetchWord
  grind [State.push_formed]

/-! ## What the commands keep -/

section

variable {t u : State} {c : Prop} [Decidable c]

theorem ok_formed (hs : s.Formed) (h : ok s = .next u) : u.Formed := by
  cases h
  exact hs

theorem guarded_formed (hs : s.Formed) (ht : t.Formed) (h : guarded c s t = .next u) : u.Formed := by
  cases h
  split
  · exact ht.of_eq rfl rfl
  · exact hs

theorem guardedFuse_formed (hs : s.Formed) (ht : t.Formed) (h : guardedFuse c s t = .next u) : u.Formed := by
  cases h
  split
  · exact ht.of_eq rfl rfl
  · exact hs

theorem guardedHamper_formed (hs : s.Formed) (ht : t.Formed) (h : guardedHamper c s t = .next u) : u.Formed := by
  cases h
  split
  · exact ht.of_eq rfl rfl
  · exact hs

end

theorem execEventRecordArrives_formed {source : Nat} (hs : s.Formed) {t : State} (ht : execEventRecordArrives source
    s = .next t) : t.Formed := by
  unfold execEventRecordArrives at ht
  grind [ok_formed, guarded_formed, State.setMerge_formed, State.reach_formed, State.deliver_formed]

theorem execMergeRelease_formed (hs : s.Formed) {t : State} (ht : execMergeRelease s = .next t) : t.Formed := by
  unfold execMergeRelease at ht
  grind [guarded_formed, State.setMerge_formed, State.deliverAll_formed]

theorem execSyncDetect_formed {p : Port} {y : SyncRun} (hs : s.Formed) {t : State} (ht : execSyncDetect p y s = .next
    t) : t.Formed := by
  unfold execSyncDetect at ht
  grind [guarded_formed, State.cntLine_formed, State.setPort_formed, State.acquire_formed]

theorem execHeaderDecision_formed {p : Port} {word : Nat} {converged : Bool} {beacon : Option Bytes} (hs : s.Formed)
    {t : State} (ht : execHeaderDecision p word converged beacon s = .next t) : t.Formed := by
  unfold execHeaderDecision at ht
  grind [ok_formed, guarded_formed, State.cntLine_formed, State.reexamine_formed, State.foreign_formed,
    State.loseWaiting_formed, State.setPort_formed]

theorem execReassemblyTimeout_formed {p : Port} {src tag : Nat} (hs : s.Formed) {t : State} (ht :
    execReassemblyTimeout p src tag s = .next t) : t.Formed := by
  unfold execReassemblyTimeout at ht
  grind [guarded_formed, State.dropReasm_formed, State.cntLine_formed]

theorem execBellDetect_formed {p : Port} {hits : List Bool} (hs : s.Formed) {t : State} (ht : execBellDetect p hits s
    = .next t) : t.Formed := by
  unfold execBellDetect at ht
  grind [guarded_formed, State.inc_formed]

theorem execSaKeyWrite_formed {p : Port} {e : Nat} (hs : s.Formed) {t : State} (ht : execSaKeyWrite p e s = .next t) :
    t.Formed := by
  unfold execSaKeyWrite at ht
  grind [ok_formed, guarded_formed, State.applyKey_formed, State.answerKeys_formed]

theorem execGrantFormDecode_formed {p : Port} {a : Nat} {at' : Stamp} {rx : List LineRx} (hs : s.Formed) {t : State}
    (ht : execGrantFormDecode p a at' rx s = .next t) : t.Formed := by
  unfold execGrantFormDecode at ht
  grind [ok_formed, guarded_formed, State.setPort_formed, State.grantFrames_formed, State.cntLine_formed]

theorem execDataFrameRx_formed {p : Port} {f : LineRx} (hs : s.Formed) {t : State} (ht : execDataFrameRx p f s =
    .next t) : t.Formed := by
  unfold execDataFrameRx at ht
  grind [guarded_formed, State.takeRx_formed, State.fragment_formed, State.toEngine_formed, State.upFrame_formed]

theorem execMgmtResponseRx_formed {p : Port} {f : LineRx} (hs : s.Formed) {t : State} (ht : execMgmtResponseRx p f s
    = .next t) : t.Formed := by
  unfold execMgmtResponseRx at ht
  grind [guarded_formed, State.takeRx_formed, State.fragment_formed, State.cntLine_formed, State.setPort_formed,
    State.disarm_formed, State.inc_formed, State.answerProxy_formed]

theorem execMgmtTimeout_formed {p : Port} {a : Nat} (hs : s.Formed) {t : State} (ht : execMgmtTimeout p a s = .next
    t) : t.Formed := by
  unfold execMgmtTimeout at ht
  grind [ok_formed, guarded_formed, State.disarm_formed, State.setPort_formed, State.queueCtl_formed,
    State.setElem_formed, State.inc_formed, State.answerProxy_formed]

theorem execProxyDispatch_formed {p : Port} {a : Nat} (hs : s.Formed) {t : State} (ht : execProxyDispatch p a s =
    .next t) : t.Formed := by
  unfold execProxyDispatch at ht
  grind [ok_formed, guarded_formed, State.setElem_formed, State.setPort_formed, State.inc_formed,
    State.queueCtl_formed]

theorem execRegRequestRx_formed {p : Port} {f : LineRx} (hs : s.Formed) {t : State} (ht : execRegRequestRx p f s =
    .next t) : t.Formed := by
  unfold execRegRequestRx at ht
  grind [ok_formed, guarded_formed, State.takeRx_formed, State.inc_formed, State.queueCtl_formed, State.assign_formed]

theorem execRegConfirmRx_formed {p : Port} {f : LineRx} (hs : s.Formed) {t : State} (ht : execRegConfirmRx p f s =
    .next t) : t.Formed := by
  unfold execRegConfirmRx at ht
  grind [guarded_formed, State.takeRx_formed, State.wr_formed, State.setPort_formed]

theorem execStationReleaseRx_formed {p : Port} {f : LineRx} (hs : s.Formed) {t : State} (ht : execStationReleaseRx p
    f s = .next t) : t.Formed := by
  unfold execStationReleaseRx at ht
  grind [guarded_formed, State.takeRx_formed, State.freeStation_formed]

theorem execElementExpire_formed {p : Port} {a : Nat} (hs : s.Formed) {t : State} (ht : execElementExpire p a s =
    .next t) : t.Formed := by
  unfold execElementExpire at ht
  grind [guarded_formed, State.freeStation_formed]

theorem execHostRelease_formed {p : Port} {a : Nat} (hs : s.Formed) {t : State} (ht : execHostRelease p a s = .next
    t) : t.Formed := by
  unfold execHostRelease at ht
  grind [guarded_formed, State.wr_formed, State.release_formed]

theorem execRangeRespRx_formed {p : Port} {f : LineRx} (hs : s.Formed) {t : State} (ht : execRangeRespRx p f s =
    .next t) : t.Formed := by
  unfold execRangeRespRx at ht
  grind [guarded_formed, State.takeRx_formed, State.measured_formed, State.misalign_formed, State.wr_formed,
    State.setElem_formed, State.stationRecord_formed, State.queueAdj_formed]

theorem execRangingAttemptsExhausted_formed {p : Port} {a : Nat} (hs : s.Formed) {t : State} (ht :
    execRangingAttemptsExhausted p a s = .next t) : t.Formed := by
  unfold execRangingAttemptsExhausted at ht
  grind [guarded_formed, State.inc_formed, State.freeStation_formed, State.release_formed]

theorem execPaceEvaluation_formed {p : Port} {a : Nat} {k : PaceTrigger} {probe : StationProbe} (hs : s.Formed) {t :
    State} (ht : execPaceEvaluation p a k probe s = .next t) : t.Formed := by
  unfold execPaceEvaluation at ht
  grind [guarded_formed, State.setElem_formed, State.arm_formed, State.evalUp_formed, State.evalDown_formed,
    State.commitDone_formed]

theorem execBeaconSend_formed {p : Port} (hs : s.Formed) {t : State} (ht : execBeaconSend p s = .next t) :
    t.Formed := by
  unfold execBeaconSend at ht
  grind [guarded_formed, State.sendBeacon_formed, State.beaconHandled_formed, State.inc_formed]

theorem execGrantSend_formed {p : Port} (hs : s.Formed) {t : State} (ht : execGrantSend p s = .next t) :
    t.Formed := by
  unfold execGrantSend at ht
  grind [ok_formed, guarded_formed, State.sendGrant_formed, State.grantHandled_formed]

theorem execDownFreeInstant_formed {p : Port} (hs : s.Formed) {t : State} (ht : execDownFreeInstant p s = .next t) :
    t.Formed := by
  unfold execDownFreeInstant at ht
  grind [guarded_formed, State.downInstant_formed, State.duplexInstant_formed, State.trainingBurst_formed]

theorem execItinArm_formed {p : Port} (hs : s.Formed) {t : State} (ht : execItinArm p s = .next t) : t.Formed := by
  unfold execItinArm at ht
  grind [ok_formed, guarded_formed, State.setPort_formed, State.wr_formed]

theorem execDataParcelDown_formed {side : Side} {payload : Bytes} (hs : s.Formed) {t : State} (ht :
    execDataParcelDown side payload s = .next t) : t.Formed := by
  unfold execDataParcelDown at ht
  grind [guarded_formed, State.hostParcel_formed, State.inc_formed, State.toEngine_formed]

theorem execQueueHeadCheck_formed {q : Nat} (hs : s.Formed) {t : State} (ht : execQueueHeadCheck q s = .next t) :
    t.Formed := by
  unfold execQueueHeadCheck at ht
  grind [guarded_formed, State.headChecks_formed]

theorem execQueueFlush_formed {q : Nat} (hs : s.Formed) {t : State} (ht : execQueueFlush q s = .next t) :
    t.Formed := by
  unfold execQueueFlush at ht
  grind [guarded_formed, State.flushQueue_formed, State.wr_formed]

theorem execFlowControlWrite_formed {flow : Nat} (hs : s.Formed) {t : State} (ht : execFlowControlWrite flow s =
    .next t) : t.Formed := by
  unfold execFlowControlWrite at ht
  grind [ok_formed, guarded_formed, State.setQm_formed, State.wrB_formed, State.setFlowState_formed,
    State.commitDone_formed]

theorem execFlowCacheFill_formed {flow : Nat} (hs : s.Formed) {t : State} (ht : execFlowCacheFill flow s = .next t) :
    t.Formed := by
  unfold execFlowCacheFill at ht
  grind [guarded_formed, State.setQm_formed, State.fill_formed]

theorem execFlowWriteback_formed {flow : Nat} (hs : s.Formed) {t : State} (ht : execFlowWriteback flow s = .next t) :
    t.Formed := by
  unfold execFlowWriteback at ht
  grind [ok_formed, guarded_formed, State.writeBack_formed]

theorem execRefillTick_formed (hs : s.Formed) {t : State} (ht : execRefillTick s = .next t) : t.Formed := by
  unfold execRefillTick at ht
  grind [State.Formed.foldl, guarded_formed, State.takeArrivals_formed, State.setQm_formed, State.setIz_formed,
    State.shape_formed]

theorem execSamplesClear_formed (hs : s.Formed) {t : State} (ht : execSamplesClear s = .next t) : t.Formed := by
  unfold execSamplesClear at ht
  grind [guarded_formed, State.setQm_formed]

theorem execSweepSetupEnd_formed {p : Port} (hs : s.Formed) {t : State} (ht : execSweepSetupEnd p s = .next t) :
    t.Formed := by
  unfold execSweepSetupEnd at ht
  grind [ok_formed, guarded_formed, State.startSweep_formed]

theorem execSweepRecordEnd_formed {p : Port} {r : SweepRecord} (hs : s.Formed) {t : State} (ht : execSweepRecordEnd p
    r s = .next t) : t.Formed := by
  unfold execSweepRecordEnd at ht
  grind [ok_formed, guarded_formed, State.cntSound_formed, State.setSound_formed, State.wr_formed,
    State.focusBandDone_formed, State.startSweep_formed]

theorem execBandComplete_formed {p : Port} (hs : s.Formed) {t : State} (ht : execBandComplete p s = .next t) :
    t.Formed := by
  unfold execBandComplete at ht
  grind [ok_formed, guarded_formed, State.measured_formed, State.setSound_formed, State.serveBands_formed,
    State.startBand_formed]

theorem execCellUpdate_formed {p : Port} (hs : s.Formed) {t : State} (ht : execCellUpdate p s = .next t) :
    t.Formed := by
  unfold execCellUpdate at ht
  grind [ok_formed, guarded_formed, State.project_formed, State.setSound_formed, State.refreshDone_formed]

theorem execCellStale_formed {p : Port} {cell : Nat} (hs : s.Formed) {t : State} (ht : execCellStale p cell s = .next
    t) : t.Formed := by
  unfold execCellStale at ht
  grind [guarded_formed, State.flagCell_formed]

theorem execLoopMeasurement_formed {p : Port} {mohm : Option Nat} (hs : s.Formed) {t : State} (ht :
    execLoopMeasurement p mohm s = .next t) : t.Formed := by
  unfold execLoopMeasurement at ht
  grind [guarded_formed, State.arm_formed, State.wr_formed, State.setDc_formed, State.dcFlags_formed,
    State.dcAlarm_formed, State.setSound_formed, State.updateTw_formed, State.tempRestart_formed,
    State.dcCheck_formed]

theorem execInsulationStart_formed {p : Port} (hs : s.Formed) {t : State} (ht : execInsulationStart p s = .next t) :
    t.Formed := by
  unfold execInsulationStart at ht
  grind [guarded_formed, State.setDc_formed, State.arm_formed]

theorem execInsulationResult_formed {p : Port} {m : InsulationMeas} (hs : s.Formed) {t : State} (ht :
    execInsulationResult p m s = .next t) : t.Formed := by
  unfold execInsulationResult at ht
  grind [guarded_formed, State.wr_formed, State.setDc_formed, State.dcFlags_formed, State.dcAlarm_formed,
    State.dcCheck_formed]

theorem execFocusRequest_formed {p : Port} (hs : s.Formed) {t : State} (ht : execFocusRequest p s = .next t) :
    t.Formed := by
  unfold execFocusRequest at ht
  grind [guarded_formed, State.focusAbout_formed]

theorem execFocusExpire_formed {p : Port} (hs : s.Formed) {t : State} (ht : execFocusExpire p s = .next t) :
    t.Formed := by
  unfold execFocusExpire at ht
  grind [guarded_formed, State.setSound_formed, State.disarm_formed, State.wr_formed, State.cntSound_formed]

theorem execFocusComplete_formed {p : Port} (hs : s.Formed) {t : State} (ht : execFocusComplete p s = .next t) :
    t.Formed := by
  unfold execFocusComplete at ht
  grind [State.Formed.foldl, ok_formed, guarded_formed, State.wr_formed, State.setSound_formed,
    State.cntSound_formed, State.signOrOwe_formed, State.measured_formed]

theorem execLastCaptureStart_formed {p : Port} (hs : s.Formed) {t : State} (ht : execLastCaptureStart p s = .next t) :
    t.Formed := by
  unfold execLastCaptureStart at ht
  grind [guarded_formed, State.wr_formed, State.setSound_formed, State.updateVelocity_formed]

theorem execLastCaptureEnd_formed {p : Port} (hs : s.Formed) {t : State} (ht : execLastCaptureEnd p s = .next t) :
    t.Formed := by
  unfold execLastCaptureEnd at ht
  split at ht
  · exact ok_formed hs ht
  · refine guarded_formed hs ?_ ht
    extract_lets n limit served stable fraction total loopOk s₁ k floor s₂ s₃ s₄
    have h₁ : s₁.Formed := State.wr_formed (State.setSound_formed hs)
    have h₂ : s₂.Formed := h₁.foldl _ fun _ _ h => State.wr_formed h
    have h₃ : s₃.Formed := State.wr_formed (State.wr_formed h₂)
    have h₄ : s₄.Formed := State.wr_formed (State.wr_formed h₃)
    split
    · exact State.updateVelocity_formed (State.lastRecord_formed (State.wr_formed h₁))
    · split
      · exact State.updateVelocity_formed (State.lastRecord_formed (State.wr_formed h₁))
      · exact State.tempRestart_formed (State.updateTw_formed (State.endEvents_formed (State.lastRecord_formed h₄)))

theorem execLastLoad_formed {p : Port} (hs : s.Formed) {t : State} (ht : execLastLoad p s = .next t) : t.Formed := by
  unfold execLastLoad at ht
  grind [State.Formed.foldl, guarded_formed, State.wr_formed, State.setSound_formed, State.lastRecord_formed,
    State.endEvents_formed, State.updateTw_formed, State.tempRestart_formed]

theorem execLastInvalidate_formed {p : Port} (hs : s.Formed) {t : State} (ht : execLastInvalidate p s = .next t) :
    t.Formed := by
  unfold execLastInvalidate at ht
  grind [guarded_formed, State.flagCells_formed, State.wr_formed, State.setSound_formed, State.lastRecord_formed,
    State.endEvents_formed, State.updateTw_formed, State.tempRestart_formed]

theorem execReadoutStart_formed {p : Port} (hs : s.Formed) {t : State} (ht : execReadoutStart p s = .next t) :
    t.Formed := by
  unfold execReadoutStart at ht
  grind [guarded_formed, State.readoutTail_formed, State.wr_formed, State.setSound_formed, State.sendBulk_formed]

theorem execReadoutEnd_formed {p : Port} (hs : s.Formed) {t : State} (ht : execReadoutEnd p s = .next t) :
    t.Formed := by
  unfold execReadoutEnd at ht
  grind [ok_formed, guarded_formed, State.readoutTail_formed]

theorem execIzvasRead_formed {r : IzReq} (hs : s.Formed) {t : State} (ht : execIzvasRead r s = .next t) :
    t.Formed := by
  unfold execIzvasRead at ht
  grind [guarded_formed, Admission.run_formed, State.readReq_formed, State.admitReq_formed]

theorem execIzvasWrite_formed {r : IzReq} (hs : s.Formed) {t : State} (ht : execIzvasWrite r s = .next t) :
    t.Formed := by
  unfold execIzvasWrite at ht
  grind [guarded_formed, Admission.run_formed, State.writeReq_formed, State.admitReq_formed]

theorem execReadStaged_formed {r : IzReq} (hs : s.Formed) {t : State} (ht : execReadStaged r s = .next t) :
    t.Formed := by
  unfold execReadStaged at ht
  refine guarded_formed hs (Admission.run_formed (State.admitReq_formed hs) fun u hu => ?_) ht
  split
  · grind [State.respond_formed]
  · exact State.respond_formed hu

theorem execDiscardStaged_formed {r : IzReq} (hs : s.Formed) {t : State} (ht : execDiscardStaged r s = .next t) :
    t.Formed := by
  unfold execDiscardStaged at ht
  grind [guarded_formed, Admission.run_formed, State.setSession_formed, State.respond_formed, State.admitReq_formed]

theorem execOpenSession_formed {r : IzReq} (hs : s.Formed) {t : State} (ht : execOpenSession r s = .next t) :
    t.Formed := by
  unfold execOpenSession at ht
  grind [guarded_formed, Admission.run_formed, State.respond_formed, State.freeBytes_formed, State.setSession_formed,
    State.arm_formed, State.admitReq_formed]

theorem execAuthSession_formed {r : IzReq} (hs : s.Formed) {t : State} (ht : execAuthSession r s = .next t) :
    t.Formed := by
  unfold execAuthSession at ht
  grind [guarded_formed, State.arrives_formed, State.macFail_formed, State.inc_formed, State.reply_formed,
    State.authFailed_formed, State.setIz_formed, State.disarm_formed, State.setSession_formed, State.arm_formed,
    State.wr_formed, State.respond_formed]

theorem execCloseSession_formed {r : IzReq} (hs : s.Formed) {t : State} (ht : execCloseSession r s = .next t) :
    t.Formed := by
  unfold execCloseSession at ht
  grind [guarded_formed, Admission.run_formed, State.respond_formed, State.freeSession_formed, State.admitReq_formed]

theorem execAuthTimeout_formed {k : SessionNo} (hs : s.Formed) {t : State} (ht : execAuthTimeout k s = .next t) :
    t.Formed := by
  unfold execAuthTimeout at ht
  grind [guarded_formed, State.authFailed_formed]

theorem execAuthLockoutEnd_formed (hs : s.Formed) {t : State} (ht : execAuthLockoutEnd s = .next t) : t.Formed := by
  unfold execAuthLockoutEnd at ht
  grind [guarded_formed, State.setIz_formed, State.disarm_formed]

theorem execSessionIdleTimeout_formed {k : SessionNo} (hs : s.Formed) {t : State} (ht : execSessionIdleTimeout k s =
    .next t) : t.Formed := by
  unfold execSessionIdleTimeout at ht
  grind [guarded_formed, State.freeSession_formed]

theorem execProxyRead_formed {r : IzReq} (hs : s.Formed) {t : State} (ht : execProxyRead r s = .next t) :
    t.Formed := by
  unfold execProxyRead at ht
  grind [guarded_formed, Admission.run_formed, State.proxyReq_formed, State.admitReq_formed]

theorem execProxyWrite_formed {r : IzReq} (hs : s.Formed) {t : State} (ht : execProxyWrite r s = .next t) :
    t.Formed := by
  unfold execProxyWrite at ht
  grind [guarded_formed, Admission.run_formed, State.proxyReq_formed, State.admitReq_formed]

theorem execCommit_formed {r : IzReq} (hs : s.Formed) {t : State} (ht : execCommit r s = .next t) : t.Formed := by
  unfold execCommit at ht
  grind [ok_formed, guarded_formed, Admission.run_formed, State.refuseWrite_formed, State.setSession_formed,
    State.setIz_formed, State.wr_formed, State.admitReq_formed]

theorem execCommitCheckStart_formed (hs : s.Formed) {t : State} (ht : execCommitCheckStart s = .next t) :
    t.Formed := by
  unfold execCommitCheckStart at ht
  grind [ok_formed, guarded_formed, State.setIz_formed, State.wr_formed, State.refuseCommit_formed,
    State.acceptCommit_formed]

theorem execStationTimeWrite_formed {r : IzReq} (hs : s.Formed) {t : State} (ht : execStationTimeWrite r s = .next t)
    : t.Formed := by
  unfold execStationTimeWrite at ht
  grind [ok_formed, guarded_formed, Admission.run_formed, State.refuseWrite_formed, State.discipline_formed,
    State.respond_formed, State.admitReq_formed]

theorem execTsyncTodWrite_formed {r : IzReq} (hs : s.Formed) {t : State} (ht : execTsyncTodWrite r s = .next t) :
    t.Formed := by
  unfold execTsyncTodWrite at ht
  grind [ok_formed, guarded_formed, Admission.run_formed, State.refuseWrite_formed, State.setTime_formed,
    State.arm_formed, State.respond_formed, State.admitReq_formed]

theorem execIslandApply_formed {i : Island} (hs : s.Formed) {t : State} (ht : execIslandApply i s = .next t) :
    t.Formed := by
  unfold execIslandApply at ht
  grind [guarded_formed, State.applyIsland_formed]

theorem execHouseFrameStart_formed {w : HouseWork} (hs : s.Formed) {t : State} (ht : execHouseFrameStart w s = .next
    t) : t.Formed := by
  unfold execHouseFrameStart at ht
  grind [guarded_formed, State.applyIsland_formed, State.setHouse_formed, State.setTime_formed,
    State.beginSlot_formed, State.disarm_formed, State.arm_formed]

theorem execHouseSlotStart_formed {pending : Bool} {bulk : Nat} (hs : s.Formed) {t : State} (ht : execHouseSlotStart
    pending bulk s = .next t) : t.Formed := by
  unfold execHouseSlotStart at ht
  grind [guarded_formed, State.beginSlot_formed]

theorem execSlotReclaim_formed (hs : s.Formed) {t : State} (ht : execSlotReclaim s = .next t) : t.Formed := by
  unfold execSlotReclaim at ht
  grind [guarded_formed, State.setHouse_formed]

theorem execWindowStart_formed {p : Port} (hs : s.Formed) {t : State} (ht : execWindowStart p s = .next t) :
    t.Formed := by
  unfold execWindowStart at ht
  grind [guarded_formed, State.applyAtBoundary_formed, State.beginWindow_formed]

theorem execItinSwitch_formed {p : Port} (hs : s.Formed) {t : State} (ht : execItinSwitch p s = .next t) :
    t.Formed := by
  unfold execItinSwitch at ht
  grind [guarded_formed, State.applyAtBoundary_formed, State.itinSwitch_formed]

theorem execEcBlock_formed {p : Port} {b : BlockMeas} (hs : s.Formed) {t : State} (ht : execEcBlock p b s = .next t) :
    t.Formed := by
  unfold execEcBlock at ht
  grind [guarded_formed, State.ecSilent_formed, State.ecTake_formed, State.blockOver_formed, State.quietApply_formed]

theorem execGuardRun_formed {p : Port} (hs : s.Formed) {t : State} (ht : execGuardRun p s = .next t) : t.Formed := by
  unfold execGuardRun at ht
  grind [guarded_formed, State.setEc_formed, State.echoAlert_formed, State.requestFocus_formed]

theorem execErleMeasurementComplete_formed {p : Port} (hs : s.Formed) {t : State} (ht : execErleMeasurementComplete p
    s = .next t) : t.Formed := by
  unfold execErleMeasurementComplete at ht
  grind [ok_formed, guarded_formed, State.free_formed, State.wr_formed, State.setEc_formed, State.erleTaken_formed]

theorem execEcTrainTimeout_formed {p : Port} (hs : s.Formed) {t : State} (ht : execEcTrainTimeout p s = .next t) :
    t.Formed := by
  unfold execEcTrainTimeout at ht
  grind [guarded_formed, State.cntLine_formed, State.raiseLine_formed, State.ecTrainingEnds_formed]

theorem execEcRetrainRequest_formed {p : Port} (hs : s.Formed) {t : State} (ht : execEcRetrainRequest p s = .next t) :
    t.Formed := by
  unfold execEcRetrainRequest at ht
  grind [guarded_formed, State.ecTrain_formed, State.wr_formed]

theorem execTapPublication_formed {p : Port} (hs : s.Formed) {t : State} (ht : execTapPublication p s = .next t) :
    t.Formed := by
  unfold execTapPublication at ht
  grind [guarded_formed, State.publish_formed]

theorem execSoundFreezeEnd_formed {p : Port} (hs : s.Formed) {t : State} (ht : execSoundFreezeEnd p s = .next t) :
    t.Formed := by
  unfold execSoundFreezeEnd at ht
  grind [guarded_formed, State.setEc_formed]

theorem execHybridApply_formed {p : Port} (hs : s.Formed) {t : State} (ht : execHybridApply p s = .next t) :
    t.Formed := by
  unfold execHybridApply at ht
  grind [guarded_formed, State.setPort_formed, State.ecTrain_formed]

theorem execQuietGateFailCount_formed {p : Port} {a : Nat} (hs : s.Formed) {t : State} (ht : execQuietGateFailCount p
    a s = .next t) : t.Formed := by
  unfold execQuietGateFailCount at ht
  grind [guarded_formed, State.free_formed, State.ecDriftRestore_formed, State.eqDriftRestore_formed]

theorem execParcelForward_formed {x : Side} {raw : Bytes} (hs : s.Formed) {t : State} (ht : execParcelForward x raw s
    = .next t) : t.Formed := by
  unfold execParcelForward at ht
  grind [guarded_formed, State.nak_formed, State.inc_formed, State.setLink_formed, State.route_formed]

theorem execProbeOriginate_formed (hs : s.Formed) {t : State} (ht : execProbeOriginate s = .next t) : t.Formed := by
  unfold execProbeOriginate at ht
  grind [guarded_formed, State.arm_formed, State.send_formed, State.setCasc_formed, State.ownTopology_formed,
    State.wr_formed]

theorem execProbeRx_formed {x : Side} {body : Bytes} (hs : s.Formed) {t : State} (ht : execProbeRx x body s = .next
    t) : t.Formed := by
  unfold execProbeRx at ht
  grind [guarded_formed, State.probe_formed]

theorem execHeadLoss_formed {x : Side} {body : Bytes} (hs : s.Formed) {t : State} (ht : execHeadLoss x body s = .next
    t) : t.Formed := by
  unfold execHeadLoss at ht
  grind [guarded_formed, State.probe_formed]

theorem execStandbyTakeover_formed (hs : s.Formed) {t : State} (ht : execStandbyTakeover s = .next t) : t.Formed := by
  unfold execStandbyTakeover at ht
  grind [guarded_formed, State.takeOver_formed]

theorem execFailover_formed {x : Side} {body : Bytes} (hs : s.Formed) {t : State} (ht : execFailover x body s = .next
    t) : t.Formed := by
  unfold execFailover at ht
  grind [guarded_formed, State.forward_formed, State.takeOver_formed]

theorem execHandOver_formed (hs : s.Formed) {t : State} (ht : execHandOver s = .next t) : t.Formed := by
  unfold execHandOver at ht
  grind [guarded_formed, State.wr_formed, State.send_formed, State.leaveHead_formed, State.handBack_formed,
    State.failoverSend_formed]

theorem execRelinquish_formed {x : Side} (hs : s.Formed) {t : State} (ht : execRelinquish x s = .next t) :
    t.Formed := by
  unfold execRelinquish at ht
  grind [guarded_formed, State.forward_formed, State.setCasc_formed, State.headRefresh_formed, State.handBack_formed]

theorem execStatusSend_formed (hs : s.Formed) {t : State} (ht : execStatusSend s = .next t) : t.Formed := by
  unfold execStatusSend at ht
  grind [guarded_formed, State.arm_formed, State.sendHost_formed]

theorem execStatusRx_formed {dev : DevNum} {body : Bytes} (hs : s.Formed) {t : State} (ht : execStatusRx dev body s =
    .next t) : t.Formed := by
  unfold execStatusRx at ht
  grind [guarded_formed, State.setCasc_formed, State.raise_formed, State.setTopology_formed, State.arm_formed,
    State.wr_formed]

theorem execTopologyEntryAbsent_formed {dev : DevNum} (hs : s.Formed) {t : State} (ht : execTopologyEntryAbsent dev s
    = .next t) : t.Formed := by
  unfold execTopologyEntryAbsent at ht
  grind [guarded_formed, State.setCasc_formed, State.setTopology_formed, State.disarm_formed, State.wr_formed]

theorem execTimeParcelReceived_formed {x : Side} {t : TimeParcel} {residence : Int} (hs : s.Formed) {out : State} (ht
    : execTimeParcelReceived x t residence s = .next out) : out.Formed := by
  unfold execTimeParcelReceived at ht
  grind [guarded_formed, State.forward_formed, State.quality_formed, State.discipline_formed]

theorem execTimeOriginate_formed (hs : s.Formed) {t : State} (ht : execTimeOriginate s = .next t) : t.Formed := by
  unfold execTimeOriginate at ht
  grind [guarded_formed, State.arm_formed, State.send_formed]

theorem execWaitParcel_formed {side : Side} {bcast : Bool} (hs : s.Formed) {t : State} (ht : execWaitParcel side
    bcast s = .next t) : t.Formed := by
  unfold execWaitParcel at ht
  grind [guarded_formed, State.forward_formed, State.powerTo_formed, State.ungate_formed, State.beginEntry_formed]

theorem execWakeParcel_formed (hs : s.Formed) {t : State} (ht : execWakeParcel s = .next t) : t.Formed := by
  unfold execWakeParcel at ht
  grind [guarded_formed, State.leaveIdle_formed]

theorem execEntryStepAdvance_formed {m : EntryMeas} (hs : s.Formed) {t : State} (ht : execEntryStepAdvance m s =
    .next t) : t.Formed := by
  unfold execEntryStepAdvance at ht
  grind [guarded_formed, State.undoEntry_formed, State.gate_formed, State.signThermos_formed, State.powerTo_formed,
    State.stepAction_formed]

theorem execEntryRefused_formed {m : EntryMeas} (hs : s.Formed) {t : State} (ht : execEntryRefused m s = .next t) :
    t.Formed := by
  unfold execEntryRefused at ht
  grind [ok_formed, guarded_formed, State.undoEntry_formed]

theorem execWakeDetect_formed {w : WakeSource} (hs : s.Formed) {t : State} (ht : execWakeDetect w s = .next t) :
    t.Formed := by
  unfold execWakeDetect at ht
  grind [guarded_formed, State.alsoWoke_formed, State.leaveIdle_formed, State.happens_formed, State.coldReset_formed,
    State.startWake_formed]

theorem execWakeClampsRelease_formed (hs : s.Formed) {t : State} (ht : execWakeClampsRelease s = .next t) :
    t.Formed := by
  unfold execWakeClampsRelease at ht
  grind [guarded_formed, State.deepLosses_formed, State.powerTo_formed, State.setPower_formed, State.setTime_formed,
    State.setHouse_formed, State.setQm_formed, State.wr_formed, State.arm_formed]

theorem execThermosCheck_formed {failed : List Nat} {counter : Nat} (hs : s.Formed) {t : State} (ht :
    execThermosCheck failed counter s = .next t) : t.Formed := by
  unfold execThermosCheck at ht
  grind [State.Formed.foldl, guarded_formed, State.timeRestore_formed, State.bankLost_formed, State.inc_formed,
    State.raise_formed, State.setPower_formed, State.fullRetrain_formed, State.rebuildMailbox_formed]

theorem execClockSelect_formed (hs : s.Formed) {t : State} (ht : execClockSelect s = .next t) : t.Formed := by
  unfold execClockSelect at ht
  grind [guarded_formed, State.setPower_formed]

theorem execClockSelected_formed (hs : s.Formed) {t : State} (ht : execClockSelected s = .next t) : t.Formed := by
  unfold execClockSelected at ht
  grind [State.Formed.foldl, guarded_formed, State.rebound_formed, State.setPower_formed, State.setTime_formed,
    State.wr_formed, State.commitDone_formed, State.powerRecord_formed, State.setPort_formed, State.portStep_formed,
    State.unparkParked_formed, State.arm_formed]

theorem execRhoMeasure_formed {rho : Nat} (hs : s.Formed) {t : State} (ht : execRhoMeasure rho s = .next t) :
    t.Formed := by
  unfold execRhoMeasure at ht
  grind [guarded_formed, State.wr_formed, State.arm_formed]

theorem execRhoRecheck_formed {rho : Nat} (hs : s.Formed) {t : State} (ht : execRhoRecheck rho s = .next t) :
    t.Formed := by
  unfold execRhoRecheck at ht
  grind [guarded_formed, State.disarm_formed, State.rebound_formed, State.setTime_formed, State.raise_formed]

theorem execAoBrownout_formed (hs : s.Formed) {t : State} (ht : execAoBrownout s = .next t) : t.Formed := by
  unfold execAoBrownout at ht
  grind [guarded_formed, State.coldReset_formed]

theorem execPerfLevelChange_formed {u : PerfUnit} (hs : s.Formed) {t : State} (ht : execPerfLevelChange u s = .next
    t) : t.Formed := by
  unfold execPerfLevelChange at ht
  grind [guarded_formed, State.setPower_formed, State.wr_formed, State.stopStamps_formed]

theorem execPerfLevelRampDone_formed {u : PerfUnit} (hs : s.Formed) {t : State} (ht : execPerfLevelRampDone u s =
    .next t) : t.Formed := by
  unfold execPerfLevelRampDone at ht
  grind [ok_formed, guarded_formed, State.setPower_formed, State.setIz_formed, State.wr_formed,
    State.commitDone_formed]

theorem execFaultRaise_formed {f : FaultReport} (hs : s.Formed) {t : State} (ht : execFaultRaise f s = .next t) :
    t.Formed := by
  unfold execFaultRaise at ht
  grind [guarded_formed, State.faultInUnit_formed, State.raiseAs_formed]

theorem execFaultCycleDecision_formed (hs : s.Formed) {t : State} (ht : execFaultCycleDecision s = .next t) :
    t.Formed := by
  unfold execFaultCycleDecision at ht
  grind [State.Formed.foldl, ok_formed, guarded_formed, State.setFaults_formed, State.logFault_formed,
    State.faultState_formed, State.wakeReport_formed]

theorem execFaultReset_formed {acked : Bool} (hs : s.Formed) {t : State} (ht : execFaultReset acked s = .next t) :
    t.Formed := by
  unfold execFaultReset at ht
  grind [ok_formed, guarded_formed, State.coldReset_formed]

theorem execFaultAck_formed {r : IzReq} (hs : s.Formed) {t : State} (ht : execFaultAck r s = .next t) : t.Formed := by
  unfold execFaultAck at ht
  grind [ok_formed, guarded_formed, Admission.run_formed, State.refuseWrite_formed, State.setFaults_formed,
    State.wrB_formed, State.wr_formed, State.faultState_formed, State.respond_formed, State.admitReq_formed]

theorem execWatchdogExpiry_formed (hs : s.Formed) {t : State} (ht : execWatchdogExpiry s = .next t) : t.Formed := by
  unfold execWatchdogExpiry at ht
  grind [guarded_formed, State.disarm_formed, State.raise_formed]

theorem execStewardRestartDone_formed {patch : PatchCheck} (hs : s.Formed) {t : State} (ht : execStewardRestartDone
    patch s = .next t) : t.Formed := by
  unfold execStewardRestartDone at ht
  grind [State.Formed.foldl, guarded_formed, State.setFaults_formed, State.signOwed_formed, State.patchCheck_formed,
    State.inc_formed, State.wr_formed, State.issue_formed, State.arm_formed]

theorem execEccWordCorrected_formed {page : Option Nat} (hs : s.Formed) {t : State} (ht : execEccWordCorrected page s
    = .next t) : t.Formed := by
  unfold execEccWordCorrected at ht
  grind [guarded_formed, State.inc_formed, State.setFaults_formed]

theorem execPageRetire_formed {page : Nat} {region : DramRegion} (hs : s.Formed) {t : State} (ht : execPageRetire
    page region s = .next t) : t.Formed := by
  unfold execPageRetire at ht
  grind [guarded_formed, State.regionLost_formed, State.setFaults_formed, State.raise_formed, State.wr_formed,
    State.wrB_formed, State.raiseAs_formed]

theorem execPageCopyDone_formed {page : Nat} (hs : s.Formed) {t : State} (ht : execPageCopyDone page s = .next t) :
    t.Formed := by
  unfold execPageCopyDone at ht
  grind [guarded_formed, State.setFaults_formed]

theorem execFenceClear_formed {e : FenceElem} (hs : s.Formed) {t : State} (ht : execFenceClear e s = .next t) :
    t.Formed := by
  unfold execFenceClear at ht
  grind [guarded_formed, State.wr_formed, State.arm_formed]

theorem execSelfTestDone_formed {e : FenceElem} {passed : Bool} (hs : s.Formed) {t : State} (ht : execSelfTestDone e
    passed s = .next t) : t.Formed := by
  unfold execSelfTestDone at ht
  grind [guarded_formed, State.disarm_formed, State.unfence_formed, State.wr_formed, State.issue_formed,
    State.raiseAs_formed]

theorem execFaultInject_formed {r : IzReq} (hs : s.Formed) {t : State} (ht : execFaultInject r s = .next t) :
    t.Formed := by
  unfold execFaultInject at ht
  grind [ok_formed, guarded_formed, Admission.run_formed, State.refuseWrite_formed, State.setFaults_formed,
    State.wrB_formed, State.wr_formed, State.respond_formed, State.admitReq_formed]

theorem execFaultInjectFire_formed (hs : s.Formed) {t : State} (ht : execFaultInjectFire s = .next t) : t.Formed := by
  unfold execFaultInjectFire at ht
  grind [ok_formed, guarded_formed, State.setFaults_formed, State.wr_formed, State.inc_formed]

theorem execConverterGroupStart_formed (hs : s.Formed) {t : State} (ht : execConverterGroupStart s = .next t) :
    t.Formed := by
  unfold execConverterGroupStart at ht
  grind [State.Formed.foldl, guarded_formed, State.setRst_formed, State.beginStep_formed]

theorem execLinePhaseStart_formed {p : Port} (hs : s.Formed) {t : State} (ht : execLinePhaseStart p s = .next t) :
    t.Formed := by
  unfold execLinePhaseStart at ht
  grind [guarded_formed, State.setCal_formed, State.beginStep_formed]

theorem execCalRunEnd_formed {p : Port} {run : CalRun} (hs : s.Formed) {t : State} (ht : execCalRunEnd p run s =
    .next t) : t.Formed := by
  unfold execCalRunEnd at ht
  grind [guarded_formed, State.setCal_formed, State.calVerdict_formed, State.inc_formed, State.nextRun_formed]

theorem execHybridRunNotQuiet_formed {p : Port} {level : Option Int} (hs : s.Formed) {t : State} (ht :
    execHybridRunNotQuiet p level s = .next t) : t.Formed := by
  unfold execHybridRunNotQuiet at ht
  grind [guarded_formed, State.setCal_formed, State.wr_formed, State.inc_formed, State.calRecord_formed,
    State.hybridDefaulted_formed]

theorem execHybridCalRequest_formed {p : Port} (hs : s.Formed) {t : State} (ht : execHybridCalRequest p s = .next t) :
    t.Formed := by
  unfold execHybridCalRequest at ht
  grind [guarded_formed, State.setCal_formed]

theorem execPeriodicRecalDue_formed {p : Port} (hs : s.Formed) {t : State} (ht : execPeriodicRecalDue p s = .next t) :
    t.Formed := by
  unfold execPeriodicRecalDue at ht
  grind [guarded_formed, State.setCal_formed, State.arm_formed]

theorem execPeriodicOverdue_formed {p : Port} (hs : s.Formed) {t : State} (ht : execPeriodicOverdue p s = .next t) :
    t.Formed := by
  unfold execPeriodicOverdue at ht
  grind [guarded_formed, State.inc_formed, State.arm_formed]

theorem execCalRestore_formed {p : Port} (hs : s.Formed) {t : State} (ht : execCalRestore p s = .next t) :
    t.Formed := by
  unfold execCalRestore at ht
  grind [State.Formed.foldl, guarded_formed, State.setCal_formed, State.wr_formed, State.abandonStep_formed,
    State.abandonTraining_formed, State.ecTrain_formed]

theorem execCorrectionEffect_formed {p : Port} (hs : s.Formed) {t : State} (ht : execCorrectionEffect p s = .next t) :
    t.Formed := by
  unfold execCorrectionEffect at ht
  grind [guarded_formed, State.setCal_formed, State.setPort_formed, State.ecTrain_formed]

theorem execRefresCheck_formed {mohm : Nat} (hs : s.Formed) {t : State} (ht : execRefresCheck mohm s = .next t) :
    t.Formed := by
  unfold execRefresCheck at ht
  grind [guarded_formed, State.wr_formed, State.issue_formed, State.arm_formed]

theorem execRefclkCheck_formed {hz : Nat} (hs : s.Formed) {t : State} (ht : execRefclkCheck hz s = .next t) :
    t.Formed := by
  unfold execRefclkCheck at ht
  grind [guarded_formed, State.wr_formed, State.arm_formed, State.disarm_formed, State.setRst_formed,
    State.pfReset_formed, State.pfTo_formed]

theorem execDpdTrainingStart_formed {p : Port} (hs : s.Formed) {t : State} (ht : execDpdTrainingStart p s = .next t) :
    t.Formed := by
  unfold execDpdTrainingStart at ht
  grind [guarded_formed, State.dpdStart_formed]

theorem execDpdTrainingEnd_formed {p : Port} {coefs : Bytes} {residual : Int} (hs : s.Formed) {t : State} (ht :
    execDpdTrainingEnd p coefs residual s = .next t) : t.Formed := by
  unfold execDpdTrainingEnd at ht
  grind [guarded_formed, State.wr_formed, State.wrB_formed, State.setCal_formed, State.computeLevel_formed,
    State.dpdEnd_formed, State.suspectBit_formed, State.ecTrain_formed, State.calRecord_formed,
    State.linePhaseEnd_formed]

theorem execDpdTimeout_formed {p : Port} (hs : s.Formed) {t : State} (ht : execDpdTimeout p s = .next t) :
    t.Formed := by
  unfold execDpdTimeout at ht
  grind [guarded_formed, State.wr_formed, State.dpdEnd_formed, State.computeLevel_formed, State.raiseLine_formed,
    State.suspectBit_formed, State.calRecord_formed, State.linePhaseEnd_formed]

theorem execHamperSample_formed {m : HamperMeas} (hs : s.Formed) {t : State} (ht : execHamperSample m s = .next t) :
    t.Formed := by
  unfold execHamperSample at ht
  grind [guardedHamper_formed, State.setHamper_formed, State.emit_formed]

theorem execFlowPulse_formed {p : Path} (hs : s.Formed) {t : State} (ht : execFlowPulse p s = .next t) :
    t.Formed := by
  unfold execFlowPulse at ht
  grind [guardedHamper_formed, State.setHamper_formed]

theorem execHamperStart_formed {href : Nat} {rom : RomCheck} (hs : s.Formed) {t : State} (ht : execHamperStart href
    rom s = .next t) : t.Formed := by
  unfold execHamperStart at ht
  grind [guardedHamper_formed, State.setHamper_formed]

theorem execVhmpLoss_formed (hs : s.Formed) {t : State} (ht : execVhmpLoss s = .next t) : t.Formed := by
  unfold execVhmpLoss at ht
  grind [guardedHamper_formed, State.setHamper_formed]

theorem execRomCheck_formed {rom : RomCheck} (hs : s.Formed) {t : State} (ht : execRomCheck rom s = .next t) :
    t.Formed := by
  unfold execRomCheck at ht
  grind [guardedHamper_formed, State.setHamper_formed]

theorem execTamper_formed (hs : s.Formed) {t : State} (ht : execTamper s = .next t) : t.Formed := by
  unfold execTamper at ht
  grind [guardedHamper_formed, State.setHamper_formed]

theorem execTamperEnd_formed (hs : s.Formed) {t : State} (ht : execTamperEnd s = .next t) : t.Formed := by
  unfold execTamperEnd at ht
  grind [guardedHamper_formed, State.setHamper_formed]

theorem execReadRegisters_formed {frame : Bytes} (hs : s.Formed) {t : State} (ht : execReadRegisters frame s = .next
    t) : t.Formed := by
  unfold execReadRegisters at ht
  grind [ok_formed, guardedHamper_formed, State.setHamper_formed, State.emit_formed]

theorem execReadLog_formed {frame : Bytes} (hs : s.Formed) {t : State} (ht : execReadLog frame s = .next t) :
    t.Formed := by
  unfold execReadLog at ht
  grind [ok_formed, guardedHamper_formed, State.emit_formed]

theorem execTimeOffer_formed {frame : Bytes} (hs : s.Formed) {t : State} (ht : execTimeOffer frame s = .next t) :
    t.Formed := by
  unfold execTimeOffer at ht
  grind [ok_formed, guardedHamper_formed, State.setHamper_formed, State.emit_formed]

theorem State.localCommand_formed {frame : Bytes} {cmd : Nat} {f : Bytes → Hamper → Nat × Bytes × Hamper} (hs :
    s.Formed) {t : State} (ht : State.localCommand s frame cmd f = .next t) : t.Formed := by
  unfold State.localCommand at ht
  grind [ok_formed, guardedHamper_formed, State.setHamper_formed, State.emit_formed]

theorem execLocalReadId_formed {frame : Bytes} (hs : s.Formed) {t : State} (ht : execLocalReadId frame s = .next t) :
    t.Formed := by
  unfold execLocalReadId at ht
  grind [State.localCommand_formed, State.config_formed]

theorem execLocalReadRegisters_formed {frame : Bytes} (hs : s.Formed) {t : State} (ht : execLocalReadRegisters frame
    s = .next t) : t.Formed := by
  unfold execLocalReadRegisters at ht
  grind [State.localCommand_formed]

theorem execLocalReadLog_formed {frame : Bytes} (hs : s.Formed) {t : State} (ht : execLocalReadLog frame s = .next t)
    : t.Formed := by
  unfold execLocalReadLog at ht
  grind [State.localCommand_formed]

theorem execLocalTimeOffer_formed {frame : Bytes} (hs : s.Formed) {t : State} (ht : execLocalTimeOffer frame s =
    .next t) : t.Formed := by
  unfold execLocalTimeOffer at ht
  grind [ok_formed, State.localCommand_formed]

theorem execWriteConfig_formed {frame : Bytes} (hs : s.Formed) {t : State} (ht : execWriteConfig frame s = .next t) :
    t.Formed := by
  unfold execWriteConfig at ht
  grind [State.localCommand_formed, State.config_formed]

theorem execProgramCal_formed {frame : Bytes} {readback : Bytes} (hs : s.Formed) {t : State} (ht : execProgramCal
    frame readback s = .next t) : t.Formed := by
  unfold execProgramCal at ht
  grind [State.localCommand_formed]

theorem execSetClock_formed {frame : Bytes} (hs : s.Formed) {t : State} (ht : execSetClock frame s = .next t) :
    t.Formed := by
  unfold execSetClock at ht
  grind [State.localCommand_formed]

theorem execSealHamper_formed {frame : Bytes} (hs : s.Formed) {t : State} (ht : execSealHamper frame s = .next t) :
    t.Formed := by
  unfold execSealHamper at ht
  grind [State.localCommand_formed, State.config_formed]

theorem State.laneFrame_formed {frame : Bytes} {type : Nat} {f : Bytes → State → State} (hs : s.Formed)
    (hf : ∀ b u, u.Formed → (f b u).Formed) {t : State} (ht : State.laneFrame s frame type f = .next t) : t.Formed :=
      by
  unfold State.laneFrame at ht
  grind [guarded_formed, State.hmpBad_formed]

theorem execHmpStatusRx_formed {frame : Bytes} (hs : s.Formed) {t : State} (ht : execHmpStatusRx frame s = .next t) :
    t.Formed := by
  unfold execHmpStatusRx at ht
  grind [State.laneFrame_formed, State.wr_formed, State.wrB_formed, State.hmpGood_formed, State.setHmp_formed,
    State.hmpRecord_formed, State.hmpNextLog_formed]

theorem execHmpSnapshotRx_formed {frame : Bytes} (hs : s.Formed) {t : State} (ht : execHmpSnapshotRx frame s = .next
    t) : t.Formed := by
  unfold execHmpSnapshotRx at ht
  grind [State.Formed.foldl, State.laneFrame_formed, State.hmpGood_formed, State.wrB_formed, State.wr_formed,
    State.hmpAnswered_formed, State.hmpNextLog_formed]

theorem execHmpLogRx_formed {frame : Bytes} (hs : s.Formed) {t : State} (ht : execHmpLogRx frame s = .next t) :
    t.Formed := by
  unfold execHmpLogRx at ht
  grind [State.Formed.foldl, State.laneFrame_formed, State.wrB_formed, State.hmpGood_formed, State.setHmp_formed,
    State.hmpAnswered_formed, State.hmpNextLog_formed]

theorem execHmpTimeResultRx_formed {frame : Bytes} (hs : s.Formed) {t : State} (ht : execHmpTimeResultRx frame s =
    .next t) : t.Formed := by
  unfold execHmpTimeResultRx at ht
  grind [State.laneFrame_formed, State.hmpGood_formed, State.wrB_formed, State.inc_formed, State.hmpRecord_formed,
    State.hmpAnswered_formed, State.hmpNextLog_formed]

theorem execHmpPoll_formed (hs : s.Formed) {t : State} (ht : execHmpPoll s = .next t) : t.Formed := by
  unfold execHmpPoll at ht
  grind [guarded_formed, State.freeBytes_formed, State.hmpSend_formed, State.arm_formed]

theorem execHmpTimeOfferSend_formed (hs : s.Formed) {t : State} (ht : execHmpTimeOfferSend s = .next t) :
    t.Formed := by
  unfold execHmpTimeOfferSend at ht
  grind [guarded_formed, State.setHmp_formed, State.disarm_formed, State.hmpSend_formed, State.inc_formed]

theorem execRequestTimeout_formed (hs : s.Formed) {t : State} (ht : execRequestTimeout s = .next t) : t.Formed := by
  unfold execRequestTimeout at ht
  grind [guarded_formed, State.setHmp_formed, State.disarm_formed, State.inc_formed, State.raise_formed]

theorem execLaneSilent_formed (hs : s.Formed) {t : State} (ht : execLaneSilent s = .next t) : t.Formed := by
  unfold execLaneSilent at ht
  grind [guarded_formed, State.disarm_formed, State.hmpTo_formed, State.raise_formed]

theorem execPorstN_formed {width : Nat} (hs : s.Formed) {t : State} (ht : execPorstN width s = .next t) :
    t.Formed := by
  unfold execPorstN at ht
  grind [guarded_formed, State.coldReset_formed]

theorem execVioLow_formed {mv : Nat} (hs : s.Formed) {t : State} (ht : execVioLow mv s = .next t) : t.Formed := by
  unfold execVioLow at ht
  grind [guarded_formed, State.coldReset_formed]

theorem execVioRestored_formed {mv : Nat} (hs : s.Formed) {t : State} (ht : execVioRestored mv s = .next t) :
    t.Formed := by
  unfold execVioRestored at ht
  grind [guarded_formed, State.releaseHold_formed]

theorem execRailOutOfRange_formed {r : Rail} {mv : Nat} (hs : s.Formed) {t : State} (ht : execRailOutOfRange r mv s =
    .next t) : t.Formed := by
  unfold execRailOutOfRange at ht
  grind [guarded_formed, State.railRead_formed, State.raise_formed]

theorem execRailUndervolt_formed {r : Rail} {mv : Nat} (hs : s.Formed) {t : State} (ht : execRailUndervolt r mv s =
    .next t) : t.Formed := by
  unfold execRailUndervolt at ht
  grind [guarded_formed, State.coldReset_formed]

theorem execRailResetRelease_formed (hs : s.Formed) {t : State} (ht : execRailResetRelease s = .next t) :
    t.Formed := by
  unfold execRailResetRelease at ht
  grind [guarded_formed, State.releaseHold_formed]

theorem execVldOutOfRange_formed {mv : Nat} (hs : s.Formed) {t : State} (ht : execVldOutOfRange mv s = .next t) :
    t.Formed := by
  unfold execVldOutOfRange at ht
  grind [State.Formed.foldl, guarded_formed, State.setPower_formed, State.stopDriver_formed, State.railRead_formed]

theorem execVldRestored_formed {mv : Nat} (hs : s.Formed) {t : State} (ht : execVldRestored mv s = .next t) :
    t.Formed := by
  unfold execVldRestored at ht
  grind [guarded_formed, State.setPower_formed, State.railRead_formed]

theorem execResetRequest_formed {r : IzReq} (hs : s.Formed) {t : State} (ht : execResetRequest r s = .next t) :
    t.Formed := by
  unfold execResetRequest at ht
  grind [ok_formed, guarded_formed, Admission.run_formed, State.refuseWrite_formed, State.respond_formed,
    State.arm_formed, State.admitReq_formed]

theorem execHostReset_formed (hs : s.Formed) {t : State} (ht : execHostReset s = .next t) : t.Formed := by
  unfold execHostReset at ht
  grind [guarded_formed, State.coldReset_formed]

theorem execThermalTrip_formed {tj : Int} (hs : s.Formed) {t : State} (ht : execThermalTrip tj s = .next t) :
    t.Formed := by
  unfold execThermalTrip at ht
  grind [guarded_formed, State.junctionRead_formed, State.coldReset_formed]

theorem execJunctionSample_formed {tj : Int} (hs : s.Formed) {t : State} (ht : execJunctionSample tj s = .next t) :
    t.Formed := by
  unfold execJunctionSample at ht
  grind [guarded_formed, State.setPower_formed, State.releaseHold_formed, State.junctionRead_formed,
    State.raise_formed]

theorem execFuseLoadDone_formed {straps : Straps} {patch : PatchCheck} (hs : s.Formed) {t : State} (ht :
    execFuseLoadDone straps patch s = .next t) : t.Formed := by
  unfold execFuseLoadDone at ht
  grind [guardedFuse_formed, State.setFuses_formed, State.setRst_formed, State.wr_formed, State.raise_formed,
    State.patchCheck_formed, State.arm_formed]

theorem execDramWipeDone_formed (hs : s.Formed) {t : State} (ht : execDramWipeDone s = .next t) : t.Formed := by
  unfold execDramWipeDone at ht
  grind [guarded_formed, State.setRst_formed, State.tryReady_formed]

theorem execLcStateCommit_formed {readback : Bool} (hs : s.Formed) {t : State} (ht : execLcStateCommit readback s =
    .next t) : t.Formed := by
  unfold execLcStateCommit at ht
  grind [guardedFuse_formed, State.freeSessions_formed, State.transition_formed, State.coldReset_formed]

theorem execExtest_formed (hs : s.Formed) {t : State} (ht : execExtest s = .next t) : t.Formed := by
  unfold execExtest at ht
  grind [guarded_formed, State.tapLoad_formed]

theorem execSamplePreload_formed (hs : s.Formed) {t : State} (ht : execSamplePreload s = .next t) : t.Formed := by
  unfold execSamplePreload at ht
  grind [guarded_formed, State.tapLoad_formed]

theorem execExtestPulse_formed (hs : s.Formed) {t : State} (ht : execExtestPulse s = .next t) : t.Formed := by
  unfold execExtestPulse at ht
  grind [guarded_formed, State.tapLoad_formed]

theorem execExtestTrain_formed (hs : s.Formed) {t : State} (ht : execExtestTrain s = .next t) : t.Formed := by
  unfold execExtestTrain at ht
  grind [guarded_formed, State.tapLoad_formed]

theorem execHighz_formed (hs : s.Formed) {t : State} (ht : execHighz s = .next t) : t.Formed := by
  unfold execHighz at ht
  grind [guarded_formed, State.tapLoad_formed]

theorem execClampBalls_formed (hs : s.Formed) {t : State} (ht : execClampBalls s = .next t) : t.Formed := by
  unfold execClampBalls at ht
  grind [guarded_formed, State.tapLoad_formed]

theorem execBypass_formed (hs : s.Formed) {t : State} (ht : execBypass s = .next t) : t.Formed := by
  unfold execBypass at ht
  grind [guarded_formed, State.tapLoad_formed]

theorem execIdcode_formed (hs : s.Formed) {t : State} (ht : execIdcode s = .next t) : t.Formed := by
  unfold execIdcode at ht
  grind [guarded_formed, State.tapLoad_formed, State.emit_formed]

theorem execTrstN_formed (hs : s.Formed) {t : State} (ht : execTrstN s = .next t) : t.Formed := by
  unfold execTrstN at ht
  grind [guarded_formed, State.tapLoad_formed]

theorem execTapLeaveBalls_formed (hs : s.Formed) {t : State} (ht : execTapLeaveBalls s = .next t) : t.Formed := by
  unfold execTapLeaveBalls at ht
  grind [guarded_formed, State.tapLoad_formed]

theorem execKeyLoad_formed {word : Nat} (hs : s.Formed) {t : State} (ht : execKeyLoad word s = .next t) :
    t.Formed := by
  unfold execKeyLoad at ht
  grind [guarded_formed, State.tapLoad_formed, State.setRst_formed]

theorem execKeyProg_formed {readback : Nat} (hs : s.Formed) {t : State} (ht : execKeyProg readback s = .next t) :
    t.Formed := by
  unfold execKeyProg at ht
  grind [guardedFuse_formed, State.tapLoad_formed, State.setFuses_formed, State.setRst_formed, State.emit_formed]

theorem execLcAdvance_formed (hs : s.Formed) {t : State} (ht : execLcAdvance s = .next t) : t.Formed := by
  unfold execLcAdvance at ht
  grind [guardedFuse_formed, State.tapLoad_formed, State.setFuses_formed, State.coldReset_formed]

theorem execPfDetectPulse_formed {x : Side} {sensed : Nat} (hs : s.Formed) {t : State} (ht : execPfDetectPulse x
    sensed s = .next t) : t.Formed := by
  unfold execPfDetectPulse at ht
  grind [guarded_formed, State.emit_formed, State.arm_formed, State.setLink_formed, State.disarm_formed,
    State.pfTo_formed]

theorem execPfTrainBlock_formed {x : Side} {lane : Lane} {block : Bytes} (hs : s.Formed) {t : State} (ht :
    execPfTrainBlock x lane block s = .next t) : t.Formed := by
  unfold execPfTrainBlock at ht
  grind [guarded_formed, State.free_formed, State.wr_formed, State.setLink_formed, State.emit_formed,
    State.trained_formed]

theorem execPfRxReady_formed {x : Side} {lane : Lane} (hs : s.Formed) {t : State} (ht : execPfRxReady x lane s =
    .next t) : t.Formed := by
  unfold execPfRxReady at ht
  grind [guarded_formed, State.setLink_formed, State.trained_formed]

theorem execPfTrainTimeout_formed {x : Side} (hs : s.Formed) {t : State} (ht : execPfTrainTimeout x s = .next t) :
    t.Formed := by
  unfold execPfTrainTimeout at ht
  grind [guarded_formed, State.pfToDetect_formed, State.setLink_formed, State.arm_formed]

theorem execPfBlockLock_formed {x : Side} {lane : Lane} (hs : s.Formed) {t : State} (ht : execPfBlockLock x lane s =
    .next t) : t.Formed := by
  unfold execPfBlockLock at ht
  grind [guarded_formed, State.setLink_formed]

theorem execPfLacingDone_formed {x : Side} {laced : Nat} {skews : List Nat} (hs : s.Formed) {t : State} (ht :
    execPfLacingDone x laced skews s = .next t) : t.Formed := by
  unfold execPfLacingDone at ht
  grind [State.Formed.foldl, guarded_formed, State.wr_formed, State.setLink_formed, State.toExchange_formed]

theorem execPfLockTimeout_formed {x : Side} (hs : s.Formed) {t : State} (ht : execPfLockTimeout x s = .next t) :
    t.Formed := by
  unfold execPfLockTimeout at ht
  grind [guarded_formed, State.pfToDetect_formed, State.toExchange_formed]

theorem execPfCapsRx_formed {x : Side} {block : Bytes} (hs : s.Formed) {t : State} (ht : execPfCapsRx x block s =
    .next t) : t.Formed := by
  unfold execPfCapsRx at ht
  grind [guarded_formed, State.wrB_formed, State.setLink_formed, State.raise_formed, State.pfTo_formed,
    State.disarm_formed, State.arm_formed, State.sendCaps_formed, State.enterActive_formed]

theorem execPfExchangeTimeout_formed {x : Side} (hs : s.Formed) {t : State} (ht : execPfExchangeTimeout x s = .next
    t) : t.Formed := by
  unfold execPfExchangeTimeout at ht
  grind [guarded_formed, State.disarm_formed, State.arm_formed]

theorem execPfExchangeHoldoffEnd_formed {x : Side} (hs : s.Formed) {t : State} (ht : execPfExchangeHoldoffEnd x s =
    .next t) : t.Formed := by
  unfold execPfExchangeHoldoffEnd at ht
  grind [guarded_formed, State.pfToDetect_formed]

theorem execPfEyeletRx_formed {x : Side} {lane : Lane} {block : Bytes} {parity : Nat} {locked : Bool} (hs : s.Formed)
    {t : State} (ht : execPfEyeletRx x lane block parity locked s = .next t) : t.Formed := by
  unfold execPfEyeletRx at ht
  grind [guarded_formed, State.setLink_formed, State.inc_formed, State.fullRetrain_formed]

theorem execPfLockLoss_formed {x : Side} {lane : Lane} (hs : s.Formed) {t : State} (ht : execPfLockLoss x lane s =
    .next t) : t.Formed := by
  unfold execPfLockLoss at ht
  grind [guarded_formed, State.inc_formed, State.setLink_formed, State.fullRetrain_formed, State.sendLocal_formed,
    State.raise_formed, State.beginDrop_formed]

theorem execWidthParcelRx_formed {x : Side} {good : Nat} (hs : s.Formed) {t : State} (ht : execWidthParcelRx x good s
    = .next t) : t.Formed := by
  unfold execWidthParcelRx at ht
  grind [guarded_formed, State.setLink_formed, State.beginDrop_formed]

theorem execPfWidthDropTimeout_formed {x : Side} (hs : s.Formed) {t : State} (ht : execPfWidthDropTimeout x s = .next
    t) : t.Formed := by
  unfold execPfWidthDropTimeout at ht
  grind [guarded_formed, State.raise_formed, State.fullRetrain_formed]

theorem execPfBipCheck_formed {x : Side} {lane : Lane} (hs : s.Formed) {t : State} (ht : execPfBipCheck x lane s =
    .next t) : t.Formed := by
  unfold execPfBipCheck at ht
  grind [guarded_formed, State.setLink_formed, State.arm_formed, State.raise_formed]

theorem execPfRetrainRequest_formed {x : Side} (hs : s.Formed) {t : State} (ht : execPfRetrainRequest x s = .next t) :
    t.Formed := by
  unfold execPfRetrainRequest at ht
  grind [guarded_formed, State.wr_formed, State.fullRetrain_formed]

theorem execPfIdleEntrySend_formed {x : Side} (hs : s.Formed) {t : State} (ht : execPfIdleEntrySend x s = .next t) :
    t.Formed := by
  unfold execPfIdleEntrySend at ht
  grind [State.Formed.foldl, guarded_formed, State.emit_formed, State.inc_formed, State.setLink_formed,
    State.setPower_formed, State.pfTo_formed]

theorem execPfIdleEntryRx_formed {x : Side} (hs : s.Formed) {t : State} (ht : execPfIdleEntryRx x s = .next t) :
    t.Formed := by
  unfold execPfIdleEntryRx at ht
  grind [guarded_formed, State.setLink_formed]

theorem execPfFastExit_formed {x : Side} (hs : s.Formed) {t : State} (ht : execPfFastExit x s = .next t) :
    t.Formed := by
  unfold execPfFastExit at ht
  grind [guarded_formed, State.fastBurst_formed, State.setLink_formed, State.pfTo_formed, State.sendFlow_formed,
    State.hostActive_formed, State.drain_formed]

theorem execPfTestStart_formed {x : Side} (hs : s.Formed) {t : State} (ht : execPfTestStart x s = .next t) :
    t.Formed := by
  unfold execPfTestStart at ht
  grind [guarded_formed, State.pfQuietTimers_formed, State.pfTo_formed, State.arm_formed, State.headRefresh_formed]

theorem execPfTestEnd_formed {x : Side} {prbs : List Nat} (hs : s.Formed) {t : State} (ht : execPfTestEnd x prbs s =
    .next t) : t.Formed := by
  unfold execPfTestEnd at ht
  grind [State.Formed.foldl, guarded_formed, State.inc_formed, State.wr_formed, State.fullRetrain_formed]

theorem execFlowCtrlRx_formed {x : Side} {body : Bytes} (hs : s.Formed) {t : State} (ht : execFlowCtrlRx x body s =
    .next t) : t.Formed := by
  unfold execFlowCtrlRx at ht
  grind [guarded_formed, State.setLink_formed, State.disarm_formed, State.arm_formed, State.resend_formed,
    State.drain_formed]

theorem execFlowCtrlSend_formed {x : Side} (hs : s.Formed) {t : State} (ht : execFlowCtrlSend x s = .next t) :
    t.Formed := by
  unfold execFlowCtrlSend at ht
  grind [guarded_formed, State.sendFlow_formed]

theorem execReplayTimeout_formed {x : Side} (hs : s.Formed) {t : State} (ht : execReplayTimeout x s = .next t) :
    t.Formed := by
  unfold execReplayTimeout at ht
  grind [guarded_formed, State.resend_formed]

theorem execDelayReqSend_formed {x : Side} (hs : s.Formed) {t : State} (ht : execDelayReqSend x s = .next t) :
    t.Formed := by
  unfold execDelayReqSend at ht
  grind [guarded_formed, State.sendLocal_formed, State.setLink_formed, State.arm_formed]

theorem execDelayReqRx_formed {x : Side} {ident turnaround : Nat} (hs : s.Formed) {t : State} (ht : execDelayReqRx x
    ident turnaround s = .next t) : t.Formed := by
  unfold execDelayReqRx at ht
  grind [guarded_formed, State.sendLocal_formed]

theorem execDelayRespRx_formed {x : Side} {ident turnaround : Nat} (hs : s.Formed) {t : State} (ht : execDelayRespRx
    x ident turnaround s = .next t) : t.Formed := by
  unfold execDelayRespRx at ht
  grind [ok_formed, guarded_formed, State.setLink_formed, State.wr_formed]

theorem execPortEnable_formed {p : Port} (hs : s.Formed) {t : State} (ht : execPortEnable p s = .next t) :
    t.Formed := by
  unfold execPortEnable at ht
  grind [guarded_formed, State.toState_formed, State.setPort_formed]

theorem execPortDisable_formed {p : Port} (hs : s.Formed) {t : State} (ht : execPortDisable p s = .next t) :
    t.Formed := by
  unfold execPortDisable at ht
  grind [guarded_formed, State.toState_formed, State.commitDone_formed]

theorem execCheckRetry_formed {p : Port} (hs : s.Formed) {t : State} (ht : execCheckRetry p s = .next t) :
    t.Formed := by
  unfold execCheckRetry at ht
  grind [guarded_formed, State.setDc_formed, State.disarm_formed]

theorem execListenEnd_formed {p : Port} {energy : Bytes} (hs : s.Formed) {t : State} (ht : execListenEnd p energy s =
    .next t) : t.Formed := by
  unfold execListenEnd at ht
  grind [guarded_formed, State.wrB_formed, State.wr_formed, State.toState_formed]

theorem execDiscoverEnd_formed {p : Port} (hs : s.Formed) {t : State} (ht : execDiscoverEnd p s = .next t) :
    t.Formed := by
  unfold execDiscoverEnd at ht
  grind [guarded_formed, State.toState_formed]

theorem execQuietRequest_formed {p : Port} (hs : s.Formed) {t : State} (ht : execQuietRequest p s = .next t) :
    t.Formed := by
  unfold execQuietRequest at ht
  grind [guarded_formed, State.setPort_formed]

theorem execRefreshCycleStart_formed {p : Port} (hs : s.Formed) {t : State} (ht : execRefreshCycleStart p s = .next
    t) : t.Formed := by
  unfold execRefreshCycleStart at ht
  grind [guarded_formed, State.setPort_formed, State.sendFrame_formed, State.expectUp_formed]

theorem execQuietExit_formed {p : Port} (hs : s.Formed) {t : State} (ht : execQuietExit p s = .next t) :
    t.Formed := by
  unfold execQuietExit at ht
  grind [State.Formed.foldl, guarded_formed, State.toState_formed, State.setPort_formed, State.afterQuiet_formed]

theorem execPortPark_formed {p : Port} (hs : s.Formed) {t : State} (ht : execPortPark p s = .next t) : t.Formed := by
  unfold execPortPark at ht
  grind [guarded_formed, State.park_formed, State.commitDone_formed]

theorem execPortUnpark_formed {p : Port} (hs : s.Formed) {t : State} (ht : execPortUnpark p s = .next t) :
    t.Formed := by
  unfold execPortUnpark at ht
  grind [guarded_formed, State.unpark_formed]

theorem execBandChange_formed {p : Port} (hs : s.Formed) {t : State} (ht : execBandChange p s = .next t) :
    t.Formed := by
  unfold execBandChange at ht
  grind [guarded_formed, State.changeBand_formed, State.commitDone_formed]

theorem execStationAnchor_formed {u : Nat} {named : Stamp} (hs : s.Formed) {t : State} (ht : execStationAnchor u
    named s = .next t) : t.Formed := by
  unfold execStationAnchor at ht
  grind [guarded_formed, State.setStn_formed]

theorem execStationBeaconRx_formed {u : Nat} {f : BeaconRx} (hs : s.Formed) {t : State} (ht : execStationBeaconRx u f
    s = .next t) : t.Formed := by
  unfold execStationBeaconRx at ht
  grind [guarded_formed, State.setStn_formed]

theorem execStationRegRequestSend_formed {u : Nat} (hs : s.Formed) {t : State} (ht : execStationRegRequestSend u s =
    .next t) : t.Formed := by
  unfold execStationRegRequestSend at ht
  grind [guarded_formed, State.drawSlot_formed, State.sendStation_formed, State.setStn_formed]

theorem execStationRequestUnanswered_formed {u : Nat} {txStamp : Stamp} (hs : s.Formed) {t : State} (ht :
    execStationRequestUnanswered u txStamp s = .next t) : t.Formed := by
  unfold execStationRequestUnanswered at ht
  grind [guarded_formed, State.free_formed, State.setStn_formed]

theorem execStationAssignRx_formed {u : Nat} {body : Bytes} (hs : s.Formed) {t : State} (ht : execStationAssignRx u
    body s = .next t) : t.Formed := by
  unfold execStationAssignRx at ht
  grind [guarded_formed, State.setStn_formed]

theorem execStationRefuseRx_formed {u : Nat} {body : Bytes} (hs : s.Formed) {t : State} (ht : execStationRefuseRx u
    body s = .next t) : t.Formed := by
  unfold execStationRefuseRx at ht
  grind [guarded_formed, State.setStn_formed]

theorem execStationRefuseWaitEnd_formed {u : Nat} (hs : s.Formed) {t : State} (ht : execStationRefuseWaitEnd u s =
    .next t) : t.Formed := by
  unfold execStationRefuseWaitEnd at ht
  grind [guarded_formed, State.setStn_formed]

theorem execStationRangeReqRx_formed {u : Nat} {body : Bytes} (hs : s.Formed) {t : State} (ht : execStationRangeReqRx
    u body s = .next t) : t.Formed := by
  unfold execStationRangeReqRx at ht
  grind [guarded_formed, State.setStn_formed]

theorem execStationAdjRx_formed {u : Nat} {body : Bytes} (hs : s.Formed) {t : State} (ht : execStationAdjRx u body s
    = .next t) : t.Formed := by
  unfold execStationAdjRx at ht
  grind [guarded_formed, State.setStn_formed]

theorem execStationConfirmSend_formed {w : StationWindow} (hs : s.Formed) {t : State} (ht : execStationConfirmSend w
    s = .next t) : t.Formed := by
  unfold execStationConfirmSend at ht
  grind [guarded_formed, State.setStn_formed, State.drawSlot_formed, State.sendStation_formed]

theorem execStationReleaseToSearch_formed {u : Nat} {body : Bytes} (hs : s.Formed) {t : State} (ht :
    execStationReleaseToSearch u body s = .next t) : t.Formed := by
  unfold execStationReleaseToSearch at ht
  grind [guarded_formed, State.setStn_formed]

theorem execStationRefreshRx_formed {u : Nat} {body : Bytes} {airDown : Int} (hs : s.Formed) {t : State} (ht :
    execStationRefreshRx u body airDown s = .next t) : t.Formed := by
  unfold execStationRefreshRx at ht
  grind [guarded_formed, State.setStn_formed]

theorem execStationAlignedTx_formed {u : Nat} {w : Option Stamp} {f : Unsent} (hs : s.Formed) {t : State} (ht :
    execStationAlignedTx u w f s = .next t) : t.Formed := by
  unfold execStationAlignedTx at ht
  grind [ok_formed, guarded_formed, State.reach_formed, State.stationResp_formed, State.stationRefresh_formed,
    State.stationSlotted_formed, State.stationGranted_formed]

theorem execStationTLost_formed {u : Nat} (hs : s.Formed) {t : State} (ht : execStationTLost u s = .next t) :
    t.Formed := by
  unfold execStationTLost at ht
  grind [guarded_formed, State.setStn_formed]

theorem execStationRangingWait_formed {u : Nat} (hs : s.Formed) {t : State} (ht : execStationRangingWait u s = .next
    t) : t.Formed := by
  unfold execStationRangingWait at ht
  grind [guarded_formed, State.setStn_formed]

theorem execStationBellSend_formed {u : Nat} (hs : s.Formed) {t : State} (ht : execStationBellSend u s = .next t) :
    t.Formed := by
  unfold execStationBellSend at ht
  grind [guarded_formed, State.emit_formed, State.setStn_formed]

theorem execStationConfirmAck_formed {u : Nat} {f : LineRx} (hs : s.Formed) {t : State} (ht : execStationConfirmAck u
    f s = .next t) : t.Formed := by
  unfold execStationConfirmAck at ht
  grind [guarded_formed, State.stationReceive_formed]

theorem execStationMgmtRequest_formed {u : Nat} {f : LineRx} (hs : s.Formed) {t : State} (ht : execStationMgmtRequest
    u f s = .next t) : t.Formed := by
  unfold execStationMgmtRequest at ht
  grind [guarded_formed, State.stationReceive_formed]

theorem execStationCommissioningBind_formed {u : Nat} {f : LineRx} (hs : s.Formed) {t : State} (ht :
    execStationCommissioningBind u f s = .next t) : t.Formed := by
  unfold execStationCommissioningBind at ht
  grind [guarded_formed, State.setStn_formed, State.stationTake_formed]

theorem execPpsEdge_formed (hs : s.Formed) {t : State} (ht : execPpsEdge s = .next t) : t.Formed := by
  unfold execPpsEdge at ht
  grind [guarded_formed, State.setTime_formed, State.disarm_formed, State.discipline_formed]

theorem execTsyncTodNoEdge_formed (hs : s.Formed) {t : State} (ht : execTsyncTodNoEdge s = .next t) : t.Formed := by
  unfold execTsyncTodNoEdge at ht
  grind [guarded_formed, State.setTime_formed, State.disarm_formed, State.raise_formed]

theorem execTimeHoldoverTimeout_formed (hs : s.Formed) {t : State} (ht : execTimeHoldoverTimeout s = .next t) :
    t.Formed := by
  unfold execTimeHoldoverTimeout at ht
  grind [guarded_formed, State.setTime_formed, State.disarm_formed, State.quality_formed, State.raise_formed]

theorem execTsyncOutPulse_formed (hs : s.Formed) {t : State} (ht : execTsyncOutPulse s = .next t) : t.Formed := by
  unfold execTsyncOutPulse at ht
  grind [guarded_formed, State.setTime_formed, State.emit_formed]

theorem execTsyncTimerPulse_formed (hs : s.Formed) {t : State} (ht : execTsyncTimerPulse s = .next t) : t.Formed := by
  unfold execTsyncTimerPulse at ht
  grind [guarded_formed, State.setTime_formed, State.emit_formed]

theorem execReplicaRealign_formed {source : Nat} (hs : s.Formed) {t : State} (ht : execReplicaRealign source s =
    .next t) : t.Formed := by
  unfold execReplicaRealign at ht
  grind [State.Formed.foldl, guarded_formed, State.setTime_formed, State.setMerge_formed, State.setFaults_formed,
    State.issueAt_formed]

/-- A command keeps the canonical form: the dispatch, arm by arm. -/
theorem exec_formed {i : Instr} (hs : s.Formed) {t : State} (ht : exec i s = .next t) : t.Formed :=
  match i with
  | .timeParcelReceived .. => execTimeParcelReceived_formed hs ht
  | .timeOriginate => execTimeOriginate_formed hs ht
  | .ppsEdge => execPpsEdge_formed hs ht
  | .stationTimeWrite .. => execStationTimeWrite_formed hs ht
  | .tsyncTodWrite .. => execTsyncTodWrite_formed hs ht
  | .tsyncTodNoEdge => execTsyncTodNoEdge_formed hs ht
  | .timeHoldoverTimeout => execTimeHoldoverTimeout_formed hs ht
  | .tsyncOutPulse => execTsyncOutPulse_formed hs ht
  | .tsyncTimerPulse => execTsyncTimerPulse_formed hs ht
  | .replicaRealign .. => execReplicaRealign_formed hs ht
  | .eventRecordArrives .. => execEventRecordArrives_formed hs ht
  | .mergeRelease => execMergeRelease_formed hs ht
  | .houseFrameStart .. => execHouseFrameStart_formed hs ht
  | .houseSlotStart .. => execHouseSlotStart_formed hs ht
  | .slotReclaim => execSlotReclaim_formed hs ht
  | .islandApply .. => execIslandApply_formed hs ht
  | .dpdTrainingStart .. => execDpdTrainingStart_formed hs ht
  | .dpdTrainingEnd .. => execDpdTrainingEnd_formed hs ht
  | .dpdTimeout .. => execDpdTimeout_formed hs ht
  | .syncDetect .. => execSyncDetect_formed hs ht
  | .headerDecision .. => execHeaderDecision_formed hs ht
  | .grantFormDecode .. => execGrantFormDecode_formed hs ht
  | .reassemblyTimeout .. => execReassemblyTimeout_formed hs ht
  | .dataFrameRx .. => execDataFrameRx_formed hs ht
  | .mgmtResponseRx .. => execMgmtResponseRx_formed hs ht
  | .mgmtTimeout .. => execMgmtTimeout_formed hs ht
  | .stationMgmtRequest .. => execStationMgmtRequest_formed hs ht
  | .stationCommissioningBind .. => execStationCommissioningBind_formed hs ht
  | .saKeyWrite .. => execSaKeyWrite_formed hs ht
  | .bellDetect .. => execBellDetect_formed hs ht
  | .ecBlock .. => execEcBlock_formed hs ht
  | .guardRun .. => execGuardRun_formed hs ht
  | .erleMeasurementComplete .. => execErleMeasurementComplete_formed hs ht
  | .ecTrainTimeout .. => execEcTrainTimeout_formed hs ht
  | .ecRetrainRequest .. => execEcRetrainRequest_formed hs ht
  | .tapPublication .. => execTapPublication_formed hs ht
  | .soundFreezeEnd .. => execSoundFreezeEnd_formed hs ht
  | .hybridApply .. => execHybridApply_formed hs ht
  | .refreshCycleStart .. => execRefreshCycleStart_formed hs ht
  | .quietGateFailCount .. => execQuietGateFailCount_formed hs ht
  | .portEnable .. => execPortEnable_formed hs ht
  | .portDisable .. => execPortDisable_formed hs ht
  | .checkRetry .. => execCheckRetry_formed hs ht
  | .listenEnd .. => execListenEnd_formed hs ht
  | .discoverEnd .. => execDiscoverEnd_formed hs ht
  | .quietRequest .. => execQuietRequest_formed hs ht
  | .quietExit .. => execQuietExit_formed hs ht
  | .portPark .. => execPortPark_formed hs ht
  | .portUnpark .. => execPortUnpark_formed hs ht
  | .bandChange .. => execBandChange_formed hs ht
  | .beaconSend .. => execBeaconSend_formed hs ht
  | .regRequestRx .. => execRegRequestRx_formed hs ht
  | .regConfirmRx .. => execRegConfirmRx_formed hs ht
  | .elementExpire .. => execElementExpire_formed hs ht
  | .hostRelease .. => execHostRelease_formed hs ht
  | .stationReleaseRx .. => execStationReleaseRx_formed hs ht
  | .rangeRespRx .. => execRangeRespRx_formed hs ht
  | .rangingAttemptsExhausted .. => execRangingAttemptsExhausted_formed hs ht
  | .paceEvaluation .. => execPaceEvaluation_formed hs ht
  | .stationAnchor .. => execStationAnchor_formed hs ht
  | .stationBeaconRx .. => execStationBeaconRx_formed hs ht
  | .stationRegRequestSend .. => execStationRegRequestSend_formed hs ht
  | .stationRequestUnanswered .. => execStationRequestUnanswered_formed hs ht
  | .stationAssignRx .. => execStationAssignRx_formed hs ht
  | .stationRefuseRx .. => execStationRefuseRx_formed hs ht
  | .stationRefuseWaitEnd .. => execStationRefuseWaitEnd_formed hs ht
  | .stationRangeReqRx .. => execStationRangeReqRx_formed hs ht
  | .stationAdjRx .. => execStationAdjRx_formed hs ht
  | .stationConfirmSend .. => execStationConfirmSend_formed hs ht
  | .stationConfirmAck .. => execStationConfirmAck_formed hs ht
  | .stationReleaseToSearch .. => execStationReleaseToSearch_formed hs ht
  | .stationRefreshRx .. => execStationRefreshRx_formed hs ht
  | .stationAlignedTx .. => execStationAlignedTx_formed hs ht
  | .stationTLost .. => execStationTLost_formed hs ht
  | .stationRangingWait .. => execStationRangingWait_formed hs ht
  | .stationBellSend .. => execStationBellSend_formed hs ht
  | .windowStart .. => execWindowStart_formed hs ht
  | .sweepSetupEnd .. => execSweepSetupEnd_formed hs ht
  | .sweepRecordEnd .. => execSweepRecordEnd_formed hs ht
  | .bandComplete .. => execBandComplete_formed hs ht
  | .cellUpdate .. => execCellUpdate_formed hs ht
  | .cellStale .. => execCellStale_formed hs ht
  | .loopMeasurement .. => execLoopMeasurement_formed hs ht
  | .insulationStart .. => execInsulationStart_formed hs ht
  | .insulationResult .. => execInsulationResult_formed hs ht
  | .focusRequest .. => execFocusRequest_formed hs ht
  | .focusExpire .. => execFocusExpire_formed hs ht
  | .focusComplete .. => execFocusComplete_formed hs ht
  | .lastCaptureStart .. => execLastCaptureStart_formed hs ht
  | .lastCaptureEnd .. => execLastCaptureEnd_formed hs ht
  | .lastLoad .. => execLastLoad_formed hs ht
  | .lastInvalidate .. => execLastInvalidate_formed hs ht
  | .readoutStart .. => execReadoutStart_formed hs ht
  | .readoutEnd .. => execReadoutEnd_formed hs ht
  | .grantSend .. => execGrantSend_formed hs ht
  | .downFreeInstant .. => execDownFreeInstant_formed hs ht
  | .itinArm .. => execItinArm_formed hs ht
  | .itinSwitch .. => execItinSwitch_formed hs ht
  | .dataParcelDown .. => execDataParcelDown_formed hs ht
  | .queueHeadCheck .. => execQueueHeadCheck_formed hs ht
  | .queueFlush .. => execQueueFlush_formed hs ht
  | .flowControlWrite .. => execFlowControlWrite_formed hs ht
  | .flowCacheFill .. => execFlowCacheFill_formed hs ht
  | .flowWriteback .. => execFlowWriteback_formed hs ht
  | .refillTick => execRefillTick_formed hs ht
  | .samplesClear => execSamplesClear_formed hs ht
  | .pfDetectPulse .. => execPfDetectPulse_formed hs ht
  | .pfTrainBlock .. => execPfTrainBlock_formed hs ht
  | .pfTrainTimeout .. => execPfTrainTimeout_formed hs ht
  | .pfBlockLock .. => execPfBlockLock_formed hs ht
  | .pfLacingDone .. => execPfLacingDone_formed hs ht
  | .pfLockTimeout .. => execPfLockTimeout_formed hs ht
  | .pfCapsRx .. => execPfCapsRx_formed hs ht
  | .pfExchangeTimeout .. => execPfExchangeTimeout_formed hs ht
  | .pfEyeletRx .. => execPfEyeletRx_formed hs ht
  | .pfLockLoss .. => execPfLockLoss_formed hs ht
  | .widthParcelRx .. => execWidthParcelRx_formed hs ht
  | .pfWidthDropTimeout .. => execPfWidthDropTimeout_formed hs ht
  | .pfRetrainRequest .. => execPfRetrainRequest_formed hs ht
  | .pfIdleEntrySend .. => execPfIdleEntrySend_formed hs ht
  | .pfIdleEntryRx .. => execPfIdleEntryRx_formed hs ht
  | .pfFastExit .. => execPfFastExit_formed hs ht
  | .pfBipCheck .. => execPfBipCheck_formed hs ht
  | .pfTestStart .. => execPfTestStart_formed hs ht
  | .pfTestEnd .. => execPfTestEnd_formed hs ht
  | .parcelForward .. => execParcelForward_formed hs ht
  | .flowCtrlRx .. => execFlowCtrlRx_formed hs ht
  | .flowCtrlSend .. => execFlowCtrlSend_formed hs ht
  | .replayTimeout .. => execReplayTimeout_formed hs ht
  | .delayReqSend .. => execDelayReqSend_formed hs ht
  | .delayReqRx .. => execDelayReqRx_formed hs ht
  | .delayRespRx .. => execDelayRespRx_formed hs ht
  | .probeOriginate => execProbeOriginate_formed hs ht
  | .probeRx .. => execProbeRx_formed hs ht
  | .headLoss .. => execHeadLoss_formed hs ht
  | .statusSend => execStatusSend_formed hs ht
  | .statusRx .. => execStatusRx_formed hs ht
  | .topologyEntryAbsent .. => execTopologyEntryAbsent_formed hs ht
  | .standbyTakeover => execStandbyTakeover_formed hs ht
  | .failover .. => execFailover_formed hs ht
  | .handOver => execHandOver_formed hs ht
  | .relinquish .. => execRelinquish_formed hs ht
  | .waitParcel .. => execWaitParcel_formed hs ht
  | .wakeParcel => execWakeParcel_formed hs ht
  | .izvasRead .. => execIzvasRead_formed hs ht
  | .izvasWrite .. => execIzvasWrite_formed hs ht
  | .readStaged .. => execReadStaged_formed hs ht
  | .discardStaged .. => execDiscardStaged_formed hs ht
  | .openSession .. => execOpenSession_formed hs ht
  | .authSession .. => execAuthSession_formed hs ht
  | .closeSession .. => execCloseSession_formed hs ht
  | .authTimeout .. => execAuthTimeout_formed hs ht
  | .authLockoutEnd => execAuthLockoutEnd_formed hs ht
  | .sessionIdleTimeout .. => execSessionIdleTimeout_formed hs ht
  | .commit .. => execCommit_formed hs ht
  | .commitCheckStart => execCommitCheckStart_formed hs ht
  | .proxyRead .. => execProxyRead_formed hs ht
  | .proxyWrite .. => execProxyWrite_formed hs ht
  | .proxyDispatch .. => execProxyDispatch_formed hs ht
  | .perfLevelChange .. => execPerfLevelChange_formed hs ht
  | .entryStepAdvance .. => execEntryStepAdvance_formed hs ht
  | .entryRefused .. => execEntryRefused_formed hs ht
  | .wakeDetect .. => execWakeDetect_formed hs ht
  | .wakeClampsRelease => execWakeClampsRelease_formed hs ht
  | .thermosCheck .. => execThermosCheck_formed hs ht
  | .clockSelect => execClockSelect_formed hs ht
  | .clockSelected => execClockSelected_formed hs ht
  | .rhoMeasure .. => execRhoMeasure_formed hs ht
  | .rhoRecheck .. => execRhoRecheck_formed hs ht
  | .aoBrownout => execAoBrownout_formed hs ht
  | .faultRaise .. => execFaultRaise_formed hs ht
  | .faultCycleDecision => execFaultCycleDecision_formed hs ht
  | .faultReset .. => execFaultReset_formed hs ht
  | .faultAck .. => execFaultAck_formed hs ht
  | .watchdogExpiry => execWatchdogExpiry_formed hs ht
  | .eccWordCorrected .. => execEccWordCorrected_formed hs ht
  | .pageRetire .. => execPageRetire_formed hs ht
  | .pageCopyDone .. => execPageCopyDone_formed hs ht
  | .fenceClear .. => execFenceClear_formed hs ht
  | .selfTestDone .. => execSelfTestDone_formed hs ht
  | .stewardRestartDone .. => execStewardRestartDone_formed hs ht
  | .faultInject .. => execFaultInject_formed hs ht
  | .faultInjectFire => execFaultInjectFire_formed hs ht
  | .converterGroupStart => execConverterGroupStart_formed hs ht
  | .calRunEnd .. => execCalRunEnd_formed hs ht
  | .linePhaseStart .. => execLinePhaseStart_formed hs ht
  | .hybridRunNotQuiet .. => execHybridRunNotQuiet_formed hs ht
  | .hybridCalRequest .. => execHybridCalRequest_formed hs ht
  | .periodicRecalDue .. => execPeriodicRecalDue_formed hs ht
  | .periodicOverdue .. => execPeriodicOverdue_formed hs ht
  | .calRestore .. => execCalRestore_formed hs ht
  | .correctionEffect .. => execCorrectionEffect_formed hs ht
  | .refresCheck .. => execRefresCheck_formed hs ht
  | .refclkCheck .. => execRefclkCheck_formed hs ht
  | .hamperStart .. => execHamperStart_formed hs ht
  | .hamperSample .. => execHamperSample_formed hs ht
  | .flowPulse .. => execFlowPulse_formed hs ht
  | .tamper => execTamper_formed hs ht
  | .tamperEnd => execTamperEnd_formed hs ht
  | .romCheck .. => execRomCheck_formed hs ht
  | .readRegisters .. => execReadRegisters_formed hs ht
  | .readLog .. => execReadLog_formed hs ht
  | .timeOffer .. => execTimeOffer_formed hs ht
  | .localReadId .. => execLocalReadId_formed hs ht
  | .localReadRegisters .. => execLocalReadRegisters_formed hs ht
  | .localReadLog .. => execLocalReadLog_formed hs ht
  | .localTimeOffer .. => execLocalTimeOffer_formed hs ht
  | .writeConfig .. => execWriteConfig_formed hs ht
  | .programCal .. => execProgramCal_formed hs ht
  | .setClock .. => execSetClock_formed hs ht
  | .sealHamper .. => execSealHamper_formed hs ht
  | .hmpStatusRx .. => execHmpStatusRx_formed hs ht
  | .hmpSnapshotRx .. => execHmpSnapshotRx_formed hs ht
  | .hmpLogRx .. => execHmpLogRx_formed hs ht
  | .hmpTimeResultRx .. => execHmpTimeResultRx_formed hs ht
  | .hmpPoll => execHmpPoll_formed hs ht
  | .hmpTimeOfferSend => execHmpTimeOfferSend_formed hs ht
  | .requestTimeout => execRequestTimeout_formed hs ht
  | .laneSilent => execLaneSilent_formed hs ht
  | .porstN .. => execPorstN_formed hs ht
  | .vioLow .. => execVioLow_formed hs ht
  | .railOutOfRange .. => execRailOutOfRange_formed hs ht
  | .railUndervolt .. => execRailUndervolt_formed hs ht
  | .railResetRelease => execRailResetRelease_formed hs ht
  | .vldOutOfRange .. => execVldOutOfRange_formed hs ht
  | .vldRestored .. => execVldRestored_formed hs ht
  | .resetRequest .. => execResetRequest_formed hs ht
  | .hostReset => execHostReset_formed hs ht
  | .thermalTrip .. => execThermalTrip_formed hs ht
  | .junctionSample .. => execJunctionSample_formed hs ht
  | .fuseLoadDone .. => execFuseLoadDone_formed hs ht
  | .dramWipeDone => execDramWipeDone_formed hs ht
  | .lcStateCommit .. => execLcStateCommit_formed hs ht
  | .extest => execExtest_formed hs ht
  | .idcode => execIdcode_formed hs ht
  | .samplePreload => execSamplePreload_formed hs ht
  | .extestPulse => execExtestPulse_formed hs ht
  | .extestTrain => execExtestTrain_formed hs ht
  | .highz => execHighz_formed hs ht
  | .clampBalls => execClampBalls_formed hs ht
  | .keyLoad .. => execKeyLoad_formed hs ht
  | .keyProg .. => execKeyProg_formed hs ht
  | .lcAdvance => execLcAdvance_formed hs ht
  | .bypass => execBypass_formed hs ht
  | .trstN => execTrstN_formed hs ht
  | .tapLeaveBalls => execTapLeaveBalls_formed hs ht
  | .pfExchangeHoldoffEnd .. => execPfExchangeHoldoffEnd_formed hs ht
  | .pfRxReady .. => execPfRxReady_formed hs ht
  | .vhmpLoss => execVhmpLoss_formed hs ht
  | .vioRestored .. => execVioRestored_formed hs ht
  | .perfLevelRampDone .. => execPerfLevelRampDone_formed hs ht

end Sys2Proof.Machine
end

section
namespace Sys2Proof.Machine

set_option Elab.async false

/-- Settles O9: a step is a command or a tick, and either keeps the canonical form. -/
theorem objectsKeepForm : Obligations.ObjectsKeepForm := by
  intro s t hregs hblobs hstep
  suffices h : t.Formed from ⟨h.regs, h.blobs⟩
  cases hpending : s.pending with
  | nil =>
    rw [step_of_nil hpending, Host.Outcome.next.injEq] at hstep
    have hs : s.Formed := ⟨hregs, hblobs⟩
    exact hstep ▸ State.tick_formed hs
  | cons i l =>
    rw [step_of_cons hpending] at hstep
    have hs : State.Formed { s with pending := l } := ⟨hregs, hblobs⟩
    exact exec_formed hs hstep

end Sys2Proof.Machine
end

section
/-! START-UP AND SUPPLIES (chapter 15). What the windows of the ports spare of the device's control, the drivers at VLD
out of its limits, the fuses and the junction. -/

namespace Sys2Proof.Machine

set_option Elab.async false

/-! ## What the line ports spare -/

/-- What the line ports do spares the control of the device: its objects from SUPPLY_MON on below the line ports, and
what a reset leaves. -/
structure State.Spares (s t : State) : Prop where
  below : ∀ k, 0x1200 * 268435456 ≤ k → k < 0x2000 * 268435456 → Store.get 0 t.regs k = Store.get 0 s.regs k
  rst : t.rst = s.rst

theorem State.Spares.refl (s : State) : s.Spares s := ⟨fun _ _ _ => rfl, rfl⟩

theorem State.Spares.of_eq {s₀ s t : State} (h : s₀.Spares s) (hr : t.regs = s.regs) (hrst : t.rst = s.rst) : s₀.Spares t :=
  ⟨fun k hlo hhi => hr ▸ h.below k hlo hhi, hrst.trans h.rst⟩

theorem State.Spares.foldl {α : Type} {f : State → α → State} {s₀ s : State} (l : List α) (h : s₀.Spares s)
    (hf : ∀ s a, s₀.Spares s → s₀.Spares (f s a)) : s₀.Spares (l.foldl f s) := by
  induction l generalizing s with
  | nil => exact h
  | cons a l ih => exact ih (hf s a h)

/-- A control object reads as before. -/
theorem State.Spares.rd {s t : State} (h : s.Spares t) (o : Obj) {i j : Nat}
    (hlo : 0x1200 * 268435456 ≤ o.key i j := by decide) (hhi : o.key i j < 0x2000 * 268435456 := by decide) :
    t.rd o i j = s.rd o i j := by
  rw [State.rd, State.rd, h.below _ hlo hhi]

theorem Obj.key_line {o : Obj} (h : 0x2000 ≤ o.index) (p e : Nat) : 0x2000 * 268435456 ≤ o.key p e := by
  unfold Obj.key
  omega

variable {s₀ s : State}

theorem State.wr_spares {o : Obj} {p e : Nat} {v : Int} (hs : s₀.Spares s) (ho : 0x2000 ≤ o.index) :
    s₀.Spares (s.wr o p e v) :=
  ⟨fun k hlo hhi => (Store.get_put_other 0 _ _ (hhi.trans_le (Obj.key_line ho p e)).ne).trans (hs.below k hlo hhi), hs.rst⟩

theorem State.inc_spares {o : Obj} {p e : Nat} {n : Int} (hs : s₀.Spares s) (ho : 0x2000 ≤ o.index) :
    s₀.Spares (s.inc o p e n) := State.wr_spares hs ho

theorem State.wrB_spares {o : Obj} {p : Nat} {e : Nat} {v : Bytes} (hs : s₀.Spares s) :
    s₀.Spares (s.wrB o p e v) := hs.of_eq (State.wrB_regs ..) (State.wrB_rst ..)

theorem State.arm_spares {t : Timer} {deadline : Stamp} (hs : s₀.Spares s) :
    s₀.Spares (s.arm t deadline) := hs.of_eq rfl rfl

theorem State.disarm_spares {t : Timer} (hs : s₀.Spares s) : s₀.Spares (s.disarm t) := hs.of_eq rfl rfl

theorem State.setQm_spares {f : QmState → QmState} (hs : s₀.Spares s) : s₀.Spares (s.setQm f) := hs.of_eq rfl rfl

theorem State.setPort_spares {p : Port} {f : PortState → PortState} (hs : s₀.Spares s) :
    s₀.Spares (s.setPort p f) := hs.of_eq rfl rfl

theorem State.setEc_spares {p : Port} {f : EcState → EcState} (hs : s₀.Spares s) :
    s₀.Spares (s.setEc p f) := hs.of_eq rfl rfl

theorem State.setSound_spares {p : Port} {f : SoundState → SoundState} (hs : s₀.Spares s) :
    s₀.Spares (s.setSound p f) := hs.of_eq rfl rfl

theorem State.setDc_spares {p : Port} {f : DcState → DcState} (hs : s₀.Spares s) :
    s₀.Spares (s.setDc p f) := hs.of_eq rfl rfl

theorem State.setCal_spares {p : Port} {f : CalState → CalState} (hs : s₀.Spares s) :
    s₀.Spares (s.setCal p f) := hs.of_eq rfl rfl

theorem State.setElem_spares {p : Port} {a : Nat} {f : Elem → Elem} (hs : s₀.Spares s) :
    s₀.Spares (s.setElem p a f) := hs.of_eq rfl rfl

theorem State.setEq_spares {p : Port} {a : Nat} {f : EqState → EqState} (hs : s₀.Spares s) :
    s₀.Spares (s.setEq p a f) := hs.of_eq rfl rfl

theorem State.setLink_spares {x : Side} {f : PfState → PfState} (hs : s₀.Spares s) :
    s₀.Spares (s.setLink x f) := hs.of_eq rfl rfl

theorem State.setSession_spares {k : SessionNo} {f : Session → Session} (hs : s₀.Spares s) :
    s₀.Spares (s.setSession k f) := hs.of_eq rfl rfl

theorem State.emit_spares {o : Out} (hs : s₀.Spares s) : s₀.Spares (s.emit o) := hs.of_eq rfl rfl

theorem State.issueAt_spares {t : Stamp} {source type : Nat} {payload : Bytes} {flags : Nat} (hs : s₀.Spares s) :
    s₀.Spares (s.issueAt t source type payload flags) := hs.of_eq (State.issueAt_regs ..) (State.issueAt_rst ..)

theorem State.issue_spares {source type : Nat} {payload : Bytes} (hs : s₀.Spares s) :
    s₀.Spares (s.issue source type payload) := hs.of_eq (State.issue_regs ..) (State.issue_rst ..)

theorem State.raiseAs_spares {r : FaultReport} {sev : Nat} {injected : Bool} (hs : s₀.Spares s) :
    s₀.Spares (s.raiseAs r sev injected) := hs.of_eq (State.raiseAs_regs ..) (State.raiseAs_rst ..)

theorem State.raise_spares {source cls code unit detail : Nat} (hs : s₀.Spares s) :
    s₀.Spares (s.raise source cls code unit detail) := hs.of_eq (State.raise_regs ..) (State.raise_rst ..)

theorem State.raiseLine_spares {p : Port} {code detail : Nat} (hs : s₀.Spares s) :
    s₀.Spares (s.raiseLine p code detail) := hs.of_eq (State.raiseLine_regs ..) (State.raiseLine_rst ..)

theorem State.sendNow_spares {x : Side} {p : Parcel} (hs : s₀.Spares s) :
    s₀.Spares (s.sendNow x p) := hs.of_eq (State.sendNow_regs ..) (State.sendNow_rst ..)

theorem State.stall_spares {x : Side} {vc : Nat} (hs : s₀.Spares s) : s₀.Spares (s.stall x vc) := by
  unfold State.stall
  split
  · exact hs
  · have hlink := State.setLink_spares (x := x) (f := fun q => { q with stalled := vc :: q.stalled }) hs
    refine ⟨fun k hlo hhi => ?_, hlink.rst⟩
    refine (Store.get_put_other 0 _ _ (Nat.ne_of_gt (lt_of_lt_of_le ?_ hlo))).trans (hlink.below k hlo hhi)
    cases x <;> decide

theorem State.trySend_spares {x : Side} {p : Parcel} (hs : s₀.Spares s) : s₀.Spares (s.trySend x p) := by
  unfold State.trySend
  grind [State.setLink_spares, State.sendNow_spares, State.stall_spares]

theorem State.setFifo_spares {x : Side} {vc : Nat} {l : List HostFrame} (hs : s₀.Spares s) :
    s₀.Spares (s.setFifo x vc l) := hs.of_eq rfl rfl

theorem State.drainFifo_spares {x : Side} {vc : Nat} (hs : s₀.Spares s) : s₀.Spares (s.drainFifo x vc) := by
  unfold State.drainFifo
  grind [State.Spares.foldl, State.setFifo_spares, State.sendNow_spares, State.stall_spares]

theorem State.drain_spares {x : Side} (hs : s₀.Spares s) : s₀.Spares (s.drain x) := by
  unfold State.drain
  grind [State.Spares.foldl, State.trySend_spares, State.setLink_spares, State.drainFifo_spares]

theorem State.send_spares {x : Side} {p : Parcel} (hs : s₀.Spares s) : s₀.Spares (s.send x p) := by
  unfold State.send
  grind [State.setLink_spares, State.drain_spares]

theorem State.sendHost_spares {x : Side} {type vc : Nat} {payload : Bytes} (hs : s₀.Spares s) :
    s₀.Spares (s.sendHost x type vc payload) := by
  unfold State.sendHost
  grind [State.send_spares]

theorem State.setFlowState_spares {f : Nat} {b : Bytes} (hs : s₀.Spares s) :
    s₀.Spares (s.setFlowState f b) := hs.of_eq (State.setFlowState_regs ..) (State.setFlowState_rst ..)

theorem State.bumpFlow_spares {f i n k : Nat} (hs : s₀.Spares s) :
    s₀.Spares (s.bumpFlow f i n k) := hs.of_eq (State.bumpFlow_regs ..) (State.bumpFlow_rst ..)

theorem State.downDrop_spares {f : Nat} (hs : s₀.Spares s) :
    s₀.Spares (s.downDrop f) := hs.of_eq (State.downDrop_regs ..) (State.downDrop_rst ..)

theorem State.setQueue_spares {q : Nat} {l : List QFrame} (hs : s₀.Spares s) : s₀.Spares (s.setQueue q l) := by
  unfold State.setQueue
  grind [State.setQm_spares, State.wr_spares, Reg.QUEUE_deficit]

theorem State.freeBuffers_spares {n : Nat} (hs : s₀.Spares s) : s₀.Spares (s.freeBuffers n) := hs.of_eq rfl rfl

theorem State.flushQueue_spares {q : Nat} (hs : s₀.Spares s) : s₀.Spares (s.flushQueue q) := by
  unfold State.flushQueue
  grind [State.Spares.foldl, State.downDrop_spares, State.setQueue_spares, State.freeBuffers_spares,
    State.inc_spares, Reg.QUEUE_FLUSHED]

theorem State.flushPort_spares {p : Port} (hs : s₀.Spares s) : s₀.Spares (s.flushPort p) := by
  unfold State.flushPort
  grind [State.Spares.foldl, State.flushQueue_spares]

theorem State.reply_spares {r : IzResp} (hs : s₀.Spares s) : s₀.Spares (s.reply r) := by
  unfold State.reply
  grind [State.emit_spares, State.sendHost_spares]

theorem State.respond_spares {r : IzResp} (hs : s₀.Spares s) : s₀.Spares (s.respond r) := by
  unfold State.respond
  grind [State.reply_spares, State.setSession_spares]

theorem State.answerProxy_spares {p : Port} {q : Proxy} {status : Nat} {data : Bytes} (hs : s₀.Spares s) :
    s₀.Spares (s.answerProxy p q status data) := by
  unfold State.answerProxy
  grind [State.respond_spares]

theorem State.failProxies_spares {p : Port} {sel : Nat → Bool} (hs : s₀.Spares s) :
    s₀.Spares (s.failProxies p sel) := by
  unfold State.failProxies
  grind [State.Spares.foldl, State.setPort_spares, State.disarm_spares, State.answerProxy_spares]

theorem State.freeEngine_spares {p : Port} (hs : s₀.Spares s) : s₀.Spares (s.freeEngine p) := by
  unfold State.freeEngine
  grind [State.setSound_spares, State.wr_spares, Reg.LR_STATUS_engine]

theorem State.cntSound_spares {o : Obj} {p : Port} {n : Int} (hs : s₀.Spares s) (ho : 0x2000 ≤ o.index) :
    s₀.Spares (s.cntSound p o n) := by
  unfold State.cntSound
  split
  · exact State.inc_spares hs ho
  · exact hs

theorem State.ecTrain_spares {p : Port} (hs : s₀.Spares s) : s₀.Spares (s.ecTrain p) := by
  unfold State.ecTrain
  grind [State.wr_spares, State.setEc_spares, Reg.LP_EC_state]

theorem State.eqClear_spares {p : Port} {a : Nat} (hs : s₀.Spares s) : s₀.Spares (s.eqClear p a) := by
  unfold State.eqClear
  grind [State.wr_spares, State.wrB_spares, State.setEq_spares, Reg.LP_EQ_state, Reg.LP_EQ_MER,
    Reg.LP_EQ_allotment_SNR, Reg.LP_EQ_points]

theorem State.quietSnapshot_spares {p : Port} (hs : s₀.Spares s) : s₀.Spares (s.quietSnapshot p) := by
  unfold State.quietSnapshot
  grind [State.Spares.foldl, State.wr_spares, State.setEc_spares, State.setEq_spares, Reg.LP_QUIET_snapshot_stamp,
    Reg.LP_EC_state, Reg.LP_EQ_state]

theorem State.leaveQuiet_spares {p : Port} (hs : s₀.Spares s) : s₀.Spares (s.leaveQuiet p) := by
  unfold State.leaveQuiet
  grind [State.Spares.foldl, State.wr_spares, State.setEc_spares, State.setEq_spares, Reg.LP_EC_state,
    Reg.LP_EQ_state]

theorem State.updateInterval_spares {p : Port} (hs : s₀.Spares s) : s₀.Spares (s.updateInterval p) := by
  unfold State.updateInterval
  grind [State.wr_spares, Reg.LP_QUIET_effective]

theorem State.stationRecord_spares {p : Port} {a event reason : Nat} (hs : s₀.Spares s) : s₀.Spares (s.stationRecord
    p a event reason) := hs.of_eq (State.stationRecord_regs ..) (State.stationRecord_rst ..)

theorem State.freeStation_spares {p : Port} {a reason : Nat} (hs : s₀.Spares s) :
    s₀.Spares (s.freeStation p a reason) := by
  unfold State.freeStation
  split
  · exact hs
  · extract_lets s₁ s₂ s₃ s₄ s₅ s₆
    have h₁ : s₀.Spares s₁ := State.stationRecord_spares hs
    have h₂ : s₀.Spares s₂ := by
      refine List.foldlRecOn (motive := s₀.Spares) _ _ h₁ fun u hu o ho => State.wr_spares hu ?_
      fin_cases ho
      all_goals decide
    have h₃ : s₀.Spares s₃ := State.wrB_spares h₂
    have h₄ : s₀.Spares s₄ := State.failProxies_spares (State.eqClear_spares (State.setElem_spares h₃))
    have h₅ : s₀.Spares s₅ := State.setPort_spares h₄
    have h₆ : s₀.Spares s₆ := h₅.foldl _ fun _ _ h => State.disarm_spares h
    exact State.updateInterval_spares h₆

theorem State.Spares.ite {c : Prop} [Decidable c] {t u : State} (ht : s₀.Spares t) (hu : s₀.Spares u) :
    s₀.Spares (if c then t else u) := by
  split
  · exact ht
  · exact hu

theorem State.leaving_spares {p : Port} {old new : Int} (hs : s₀.Spares s) : s₀.Spares (s.leaving p old new) := by
  unfold State.leaving
  extract_lets quiet proxies flushed freed deaf parked
  have hquiet : s₀.Spares quiet := .ite (State.leaveQuiet_spares hs) hs
  have hproxies : s₀.Spares proxies := .ite (State.failProxies_spares hquiet) hquiet
  have hflushed : s₀.Spares flushed := .ite (State.flushPort_spares hproxies) hproxies
  have hfreed : s₀.Spares freed := .ite hflushed (State.freeEngine_spares hflushed)
  have hdeaf : s₀.Spares deaf := .ite hfreed (State.setPort_spares hfreed)
  have hparked : s₀.Spares parked := .ite (State.setCal_spares hdeaf) hdeaf
  exact State.disarm_spares (State.disarm_spares (State.disarm_spares hparked))

theorem State.entering_spares {p : Port} {old new : Int} (hs : s₀.Spares s) : s₀.Spares (s.entering p old new) := by
  unfold State.entering
  grind [State.setDc_spares, State.disarm_spares, State.wr_spares, State.setCal_spares, State.setPort_spares,
    State.arm_spares, Reg.LP_CAL_CTL_full, Reg.LP_CAL_phase, Reg.LP_CAL_postponements]

theorem State.toState_spares {p : Port} {new : Int} {cause : Nat} (hs : s₀.Spares s) :
    s₀.Spares (s.toState p new cause) := by
  unfold State.toState
  grind [State.wr_spares, State.issue_spares, State.leaving_spares, State.entering_spares, Reg.LP_STATE_state,
    Reg.LP_STATE_stamp]

theorem State.blank_spares {p : Port} {finish : Stamp} (hs : s₀.Spares s) : s₀.Spares (s.blank p finish) := by
  unfold State.blank
  grind [State.cntSound_spares, State.setPort_spares, State.setSound_spares, State.setEc_spares,
    Reg.LR_STATUS_BLANKED]

theorem State.sweptLast_spares {p : Port} (hs : s₀.Spares s) : s₀.Spares (s.sweptLast p) := by
  unfold State.sweptLast
  grind [State.setSound_spares, State.setEc_spares]

theorem State.soundIdle_spares {p : Port} (hs : s₀.Spares s) : s₀.Spares (s.soundIdle p) := by
  unfold State.soundIdle
  grind [State.setSound_spares, State.sweptLast_spares]

theorem State.startBand_spares {p : Port} {b : Nat} (hs : s₀.Spares s) : s₀.Spares (s.startBand p b) := by
  unfold State.startBand
  grind [State.setSound_spares, State.sweptLast_spares, State.wr_spares, State.soundIdle_spares, Reg.LR_STATUS_band,
    Reg.LR_STATUS_accepted]

theorem State.serveBands_spares {p : Port} (hs : s₀.Spares s) : s₀.Spares (s.serveBands p) := by
  unfold State.serveBands
  grind [State.startBand_spares, State.soundIdle_spares]

theorem State.focusBand_spares {p : Port} {f : Focus} {limit : Stamp} (hs : s₀.Spares s) {t : State} (ht :
    State.focusBand s p f limit = some t) : s₀.Spares t := by
  unfold State.focusBand at ht
  split at ht
  · cases ht
  · split at ht
    · cases ht
      exact State.wr_spares (State.setSound_spares hs) (by decide)
    · cases ht

theorem State.focusTaken_spares {p : Port} (hs : s₀.Spares s) : s₀.Spares (s.focusTaken p) := by
  unfold State.focusTaken
  grind [State.setSound_spares, State.disarm_spares, State.wr_spares, Reg.LR_FOCUS_pending, Reg.LR_FOCUS_request]

theorem State.beginFocus_spares {p : Port} {limit : Stamp} (hs : s₀.Spares s) {t : State} (ht : State.beginFocus s p
    limit = some t) : s₀.Spares t := by
  unfold State.beginFocus at ht
  split at ht
  · cases ht
  · obtain ⟨u, hu, rfl⟩ := Option.map_eq_some_iff.mp ht
    have hspares := State.focusBand_spares hs hu
    split
    · exact State.focusTaken_spares hspares
    · exact hspares

theorem State.assignEngine_spares {p : Port} {k : Fin 4} (hs : s₀.Spares s) : s₀.Spares (s.assignEngine p k) := by
  unfold State.assignEngine
  grind [State.setSound_spares, State.wr_spares, Reg.LR_STATUS_engine]

theorem State.tryFocus_spares {p : Port} (hs : s₀.Spares s) : s₀.Spares (s.tryFocus p) := by
  unfold State.tryFocus
  split
  · split
    · exact hs
    · rename_i k _
      cases hbegun : ((s.blank p (s.windowLimit p)).assignEngine p k).beginFocus p (s.windowLimit p) with
      | none => exact hs
      | some t => exact State.beginFocus_spares (State.assignEngine_spares (State.blank_spares hs)) hbegun
  · exact hs

theorem State.beginSound_spares {p : Port} (hs : s₀.Spares s) : s₀.Spares (s.beginSound p) := by
  unfold State.beginSound
  dsimp only
  split
  · split
    · exact State.setEc_spares (State.cntSound_spares hs (by decide))
    · rename_i k _
      have h₁ := State.assignEngine_spares (p := p) (k := k) (State.blank_spares (p := p) (finish := (s.port p).winEnd) hs)
      split
      · exact State.beginFocus_spares h₁ ‹_›
      · exact State.serveBands_spares h₁
  · exact State.setEc_spares (State.cntSound_spares hs (by decide))

theorem State.startRun_spares {p : Port} {step : Nat} (hs : s₀.Spares s) :
    s₀.Spares (s.startRun p step) := hs.of_eq rfl rfl

theorem State.tryRun_spares {p : Port} (hs : s₀.Spares s) : s₀.Spares (s.tryRun p) := by
  unfold State.tryRun
  grind [State.startRun_spares, State.wr_spares, State.setCal_spares, Reg.LP_CAL_CTL_request]

theorem State.quietEntry_spares {p : Port} (hs : s₀.Spares s) : s₀.Spares (s.quietEntry p) := by
  unfold State.quietEntry
  grind [State.raiseLine_spares, State.setPort_spares, State.toState_spares, State.quietSnapshot_spares,
    State.updateInterval_spares]

theorem State.retrainBegin_spares {p : Port} (hs : s₀.Spares s) : s₀.Spares (s.retrainBegin p) := by
  unfold State.retrainBegin
  grind [State.ecTrain_spares, State.setEc_spares]

theorem State.dropAnswers_spares {p : Port} (hs : s₀.Spares s) : s₀.Spares (s.dropAnswers p) := by
  unfold State.dropAnswers
  grind [State.Spares.foldl, State.setPort_spares, State.freeStation_spares]

theorem State.endWindow_spares {p : Port} (hs : s₀.Spares s) : s₀.Spares (s.endWindow p) := by
  unfold State.endWindow
  grind [State.Spares.foldl, State.freeEngine_spares, State.dropAnswers_spares, State.setElem_spares,
    State.setPort_spares]

theorem State.openWindow_spares {p : Port} (hs : s₀.Spares s) : s₀.Spares (s.openWindow p) := by
  unfold State.openWindow
  grind [State.beginSound_spares, State.quietEntry_spares, State.retrainBegin_spares, State.tryFocus_spares,
    State.tryRun_spares]

theorem State.beginWindow_spares {p : Port} {i : Nat} {start finish : Stamp} {counts : Bool} (hs : s₀.Spares s) :
    s₀.Spares (s.beginWindow p i start finish counts) := by
  unfold State.beginWindow
  grind [State.endWindow_spares, State.setPort_spares, State.wr_spares, State.inc_spares, State.openWindow_spares,
    Reg.ITIN_CTL_window, Reg.ITIN_CTL_CYCLES]

theorem State.resumeWindow_spares {p : Port} (hs : s₀.Spares s) : s₀.Spares (s.resumeWindow p) := by
  unfold State.resumeWindow
  grind [State.beginWindow_spares]

theorem State.startRecord_spares (hs : s₀.Spares s) : s₀.Spares (s.startRecord) := by
  unfold State.startRecord
  grind [State.issue_spares]

theorem State.hmpTo_spares {new : Int} (hs : s₀.Spares s) : s₀.Spares (s.hmpTo new) := by
  unfold State.hmpTo
  split
  · exact hs
  · exact State.issue_spares (State.wr_spares hs (by decide))

theorem State.rebuildMailbox_spares (hs : s₀.Spares s) : s₀.Spares s.rebuildMailbox := by
  unfold State.rebuildMailbox
  have hmailbox := State.disarm_spares (t := .hmpRequest) (hs.of_eq (t := s.setHmp fun fld =>
    { fld with request := 0, wantFrom := 0, wantTo := 0, haveTo := 0, rebuilding := true }) rfl rfl)
  dsimp only
  split
  · exact State.hmpTo_spares hmailbox
  · exact State.arm_spares (State.arm_spares (State.hmpTo_spares hmailbox))

end Sys2Proof.Machine
end

section
namespace Sys2Proof.Machine

set_option Elab.async false

/-! ## The drivers at VLD out of its limits (R562) -/

/-- What an update of a port's state keeps of any, it keeps of every port. -/
theorem State.port_setPort_keeps {α : Type} (g : PortState → α) (s : State) (p : Port) (f : PortState → PortState)
    (h : ∀ x, g (f x) = g x) (q : Port) : g ((s.setPort p f).port q) = g (s.port q) := by
  by_cases hq : q = p
  · rw [hq, State.port_setPort_self, h]
  · rw [State.port_setPort_other _ _ hq]

/-- A driver that is stopped ends its transmission and its insulation measurement. -/
def State.driverOff (s : State) (p : Port) : State :=
  let s := s.setPort p fun q => { q with txEnd := min q.txEnd s.now }
  if (s.port p).dc.measuring then (s.setDc p fun q => { q with measuring := false }).disarm (.insulation p.val) else s

/-- What holds of the driver stopped, and is no matter of sounding or the canceller, holds once its sweep is stopped. -/
theorem State.stopDriver_of_driverOff {P : State → Prop} {s : State} {p : Port} (h : P (s.driverOff p))
    (hsound : ∀ t f, P t → P (t.setSound p f)) (hec : ∀ t f, P t → P (t.setEc p f)) : P (s.stopDriver p) := by
  have hidle : ∀ t, P t → P (t.soundIdle p) := by
    intro t ht
    unfold State.soundIdle State.sweptLast
    split
    · exact hsound _ _ ht
    · exact hec _ _ (hsound _ _ (hsound _ _ ht))
  change P (match ((s.driverOff p).port p).sound.sweepEnd with
    | some t => if (s.driverOff p).now < t then
        ((s.driverOff p).setSound p fun q => { q with sweepEnd := some (s.driverOff p).now }).soundIdle p else s.driverOff p
    | none => s.driverOff p)
  split
  · split
    · exact hidle _ (hsound _ _ h)
    · exact h
  · exact h

/-- What stopping a driver leaves of the state. -/
theorem State.stopDriver_keeps {α : Type} (g : State → α) (hport : ∀ (t : State) (q : Port) f, g (t.setPort q f) = g t)
    (hdisarm : ∀ (t : State) (u : Timer), g (t.disarm u) = g t) (s : State) (p : Port) : g (s.stopDriver p) = g s := by
  refine State.stopDriver_of_driverOff (P := fun t => g t = g s) ?_ (fun _ _ h => (hport ..).trans h)
    fun _ _ h => (hport ..).trans h
  unfold State.driverOff
  dsimp only
  split
  · exact (hdisarm ..).trans ((hport ..).trans (hport ..))
  · exact hport ..

/-- The driver of a port is stopped: it measures no insulation and its transmission has ended. -/
def State.driverStopped (s : State) (p : Port) : Prop :=
  (s.port p).dc.measuring = false ∧ (s.port p).txEnd ≤ s.now

/-- An update that leaves the transmission and the DC monitor alone leaves a stopped driver stopped. -/
theorem State.driverStopped_setPort {s : State} {q : Port} (h : s.driverStopped q) (p : Port) {f : PortState → PortState}
    (htx : ∀ x, (f x).txEnd = x.txEnd) (hdc : ∀ x, (f x).dc = x.dc) : (s.setPort p f).driverStopped q := by
  have hdc' := State.port_setPort_keeps PortState.dc s p f hdc q
  have htx' := State.port_setPort_keeps PortState.txEnd s p f htx q
  exact ⟨hdc' ▸ h.1, htx'.trans_le h.2⟩

theorem State.driverStopped_sound {s : State} {p : Port} (q : Port) (h : (s.driverOff p).driverStopped q) :
    (s.stopDriver p).driverStopped q :=
  State.stopDriver_of_driverOff (P := fun t => t.driverStopped q) h
    (fun _ _ h => State.driverStopped_setPort h p (fun _ => rfl) fun _ => rfl)
    fun _ _ h => State.driverStopped_setPort h p (fun _ => rfl) fun _ => rfl

theorem State.driverStopped_stopDriver_self (s : State) (p : Port) : (s.stopDriver p).driverStopped p := by
  refine State.driverStopped_sound p ?_
  unfold State.driverOff
  dsimp only
  split
  · refine ⟨?_, ?_⟩
    · simp [State.setDc]
    · simp [State.setDc, State.now]
  · rename_i hrest
    exact ⟨by simpa using hrest, by simp [State.now]⟩

theorem State.driverStopped_stopDriver {s : State} {q : Port} (h : s.driverStopped q) (p : Port) :
    (s.stopDriver p).driverStopped q := by
  by_cases hq : q = p
  · exact hq ▸ s.driverStopped_stopDriver_self p
  refine State.driverStopped_sound q ?_
  have hoff : (s.driverOff p).port q = s.port q := by
    unfold State.driverOff
    dsimp only
    split
    · rw [State.port_disarm, State.setDc, State.port_setPort_other _ _ hq, State.port_setPort_other _ _ hq]
    · exact State.port_setPort_other _ _ hq
  have hnow : (s.driverOff p).now = s.now := by
    unfold State.driverOff
    dsimp only
    split <;> rfl
  rwa [State.driverStopped, hoff, hnow]

/-- Every driver is stopped, and nothing else is changed but the ports and their timers. -/
theorem State.stopDrivers (s : State) (p : Port) :
    (allPorts.foldl State.stopDriver s).driverStopped p
      ∧ (allPorts.foldl State.stopDriver s).regs = s.regs ∧ (allPorts.foldl State.stopDriver s).power = s.power
      ∧ (allPorts.foldl State.stopDriver s).time = s.time := by
  refine ⟨?_, foldl_keeps State.regs (State.stopDriver_keeps State.regs (fun _ _ _ => rfl) fun _ _ => rfl) _ s,
    foldl_keeps State.power (State.stopDriver_keeps State.power (fun _ _ _ => rfl) fun _ _ => rfl) _ s,
    foldl_keeps State.time (State.stopDriver_keeps State.time (fun _ _ _ => rfl) fun _ _ => rfl) _ s⟩
  have hall : ∀ (l : List Port) (t : State), t.driverStopped p ∨ p ∈ l → (l.foldl State.stopDriver t).driverStopped p := by
    intro l
    induction l with
    | nil => exact fun t h => h.resolve_right List.not_mem_nil
    | cons q l ih =>
      refine fun t h => ih _ ?_
      obtain h | h := h
      · exact .inl (State.driverStopped_stopDriver h q)
      · obtain rfl | h := List.mem_cons.mp h
        · exact .inl (t.driverStopped_stopDriver_self p)
        · exact .inr h
  exact hall _ s (.inr (List.mem_finRange p))

/-! ## The obligation -/

/-- The device becomes ready, and its ports take their windows (R577). -/
theorem State.tryReady_spec {s : State} (hwiped : s.rst.dramWiped = true) (hconv : s.rst.convDone = true)
    (hboot : s.rd Reg.BOOT_STATE_state = 3) :
    s.tryReady.rst = s.rst ∧ s.tryReady.rd Reg.BOOT_STATE_state = 4
      ∧ s.tryReady.rd Reg.BOOT_STATE_ready_time = (s.now - s.rst.releasedAt) / 1000000 % 65536 := by
  rw [State.tryReady, if_pos ⟨hwiped, hconv, hboot⟩]
  dsimp only
  generalize hready : ((s.wr Reg.BOOT_STATE_state 0 0 4).wr Reg.BOOT_STATE_ready_time 0 0
    ((s.now - s.rst.releasedAt) / 1000000 % 65536)).startRecord = t
  have ht : t.rst = s.rst ∧ t.rd Reg.BOOT_STATE_state = 4
      ∧ t.rd Reg.BOOT_STATE_ready_time = (s.now - s.rst.releasedAt) / 1000000 % 65536 := by
    rw [← hready]
    refine ⟨rfl, ?_, State.rd_wr_self ..⟩
    exact (State.rd_wr_other _ _ Obj.key_ne).trans (State.rd_wr_self ..)
  have hports : t.Spares ((allPorts.foldl (fun s (p : Port) =>
      (s.setPort p fun q => { q with started := !s.flag Reg.LP_STATE_enable p }).resumeWindow p) t).rebuildMailbox) :=
    State.rebuildMailbox_spares
      ((State.Spares.refl t).foldl _ fun _ _ h => State.resumeWindow_spares (State.setPort_spares h))
  exact ⟨hports.rst.trans ht.1, (hports.rd _).trans ht.2.1, (hports.rd _).trans ht.2.2⟩

/-- The fuses read and the straps sampled (R577, R583): in RETIRED every role key is destroyed. -/
def State.strapped (s : State) (straps : Straps) : State :=
  let s := s.setFuses fun _ => if s.fuses.lifeCycle = 3 then s.fuses.destroyKeys else s.fuses
  let s := s.setRst fun fld => { fld with hold := 0, straps := straps }
  let s := s.wr Reg.BOOT_STATE_state 0 0 2
  let s := if straps.role.val = 2 then s.wr Reg.CASC_acting_role 0 0 rolePassive else s
  if straps.role.val = 3 then s.raise srcSteward clsControl 0x01 0xFF (straps.role.val * 16 + straps.devnum.val) else s

theorem State.strapped_spec (s : State) (straps : Straps) :
    (s.strapped straps).rst = { s.rst with hold := 0, straps := straps } ∧ (s.strapped straps).time = s.time
      ∧ (s.strapped straps).fuses = (if s.fuses.lifeCycle = 3 then s.fuses.destroyKeys else s.fuses)
      ∧ (s.strapped straps).rd Reg.BOOT_STATE_state = 2
      ∧ (straps.role.val = 2 → (s.strapped straps).rd Reg.CASC_acting_role = rolePassive)
      ∧ (straps.role.val ≠ 3 → (s.strapped straps).faults = s.faults) := by
  unfold State.strapped
  dsimp only
  by_cases hpassive : straps.role.val = 2
  · rw [if_pos hpassive, if_neg (by omega)]
    refine ⟨rfl, rfl, rfl, ?_, fun _ => State.rd_wr_self .., fun _ => rfl⟩
    exact (State.rd_wr_other _ _ Obj.key_ne).trans (State.rd_wr_self ..)
  · rw [if_neg hpassive]
    split
    · refine ⟨State.raise_rst .., State.raise_time .., State.raise_fuses .., ?_, (absurd · hpassive), fun h => absurd ‹_› h⟩
      rw [State.rd_raise]
      exact State.rd_wr_self ..
    · exact ⟨rfl, rfl, rfl, State.rd_wr_self .., (absurd · hpassive), fun _ => rfl⟩

/-- The check of the patch area changes what is noted of it, and the fault log where the check fails (R500). -/
theorem State.patchCheck_spec (s : State) (c : PatchCheck) :
    (s.patchCheck c).rst = { s.rst with patchPresent := c.present && c.crcOk, patchVersion := c.version }
      ∧ (s.patchCheck c).regs = s.regs ∧ (s.patchCheck c).fuses = s.fuses
      ∧ ((c.present && !c.crcOk) = false → (s.patchCheck c).faults = s.faults) := by
  unfold State.patchCheck
  dsimp only
  split
  · rename_i hbad
    refine ⟨State.raise_rst .., State.raise_regs .., State.raise_fuses .., fun h => ?_⟩
    simp [hbad.1] at h
    simp [h] at hbad
  · exact ⟨rfl, rfl, rfl, fun _ => rfl⟩

theorem exec_fuseLoadDone {s : State} {straps : Straps} {patch : PatchCheck} (hhold : s.rst.hold ≤ holdShort)
    (hballs : s.rst.ballsTaken = false) (hboot : s.rd Reg.BOOT_STATE_state = 0) (hdue : s.rst.releasedAt + 5000000 ≤ s.now) :
    exec (.fuseLoadDone straps patch) s = .next ((((s.strapped straps).patchCheck patch).arm .watchdog
      ((s.strapped straps).now + 100000000)).keepHamper s) :=
  guardedFuse_pos s ⟨hhold, by simp [hballs], hboot, hdue⟩

/-- A sample of the junction is measured, and reported where it passes a limit (R570). -/
theorem exec_junctionSample {s : State} {tj : Int} (hruns : s.runs = true) (hfree : s.heldBy holdJunction = false) :
    exec (.junctionSample tj) s = .next (State.keep
        (if s.power.junction ≤ 1180 ∧ 1180 < tj then
          (if s.power.junction ≤ 1100 ∧ 1100 < tj then (s.junctionRead tj).raise srcPower clsPower 0x03 0xFF (tj / 10).toNat
            else s.junctionRead tj).raise srcPower clsPower 0x04 0xFF (tj / 10).toNat
        else if s.power.junction ≤ 1100 ∧ 1100 < tj then (s.junctionRead tj).raise srcPower clsPower 0x03 0xFF (tj / 10).toNat
        else s.junctionRead tj) s)
      ∧ (s.junctionRead tj).power.junction = tj ∧ (s.junctionRead tj).rd Reg.SUPPLY_MON_junction = tj := by
  refine ⟨(guarded_pos s (.inl hruns)).trans ?_, rfl, State.rd_wr_self ..⟩
  rw [if_neg (by simp [hfree])]
  simp only [decide_eq_true_eq]

/-- Settles O58: the fuses by what reading them leaves, readiness by what the ports' windows spare, the drivers by what
stopping them touches, the rest by their conditions. -/
theorem startUpAndSuppliesComplete : Obligations.StartUpAndSuppliesComplete := by
  refine ⟨fun s straps patch hhold hballs hboot hdue => ?_, fun s hruns hpll hwiped hconv => ?_,
    fun s hruns hpll hwiped hconv hboot => ?_, fun s mv hmv hheld => ?_, fun s hheld => ?_, fun s r mv hon hbad => ?_,
    fun s mv hon hbad => ?_, fun s mv hon hbad hlo hhi => ?_, fun s tj hruns hfree hwas hhot hwarm => ?_,
    fun s tj hruns hfree hwas hwarm hcool => ?_, fun s tj hruns hfree hcool => ?_, fun s tj hheld hcool => ?_⟩
  · refine ⟨_, exec_fuseLoadDone hhold hballs hboot hdue, ?_⟩
    obtain ⟨hrst, htime, hfuses, hstate, hrole, hfaults⟩ := s.strapped_spec straps
    obtain ⟨hrst', hregs', hfuses', hfaults'⟩ := (s.strapped straps).patchCheck_spec patch
    rw [State.now_congr htime]
    refine ⟨?_, ?_, ?_, ?_, ?_, fun h => ?_, fun h => ?_, fun h r => ?_, fun h hcheck => ?_⟩
    · exact (State.rd_congr hregs' _ _ _).trans hstate
    · exact congrArg ResetState.straps (hrst'.trans (by rw [hrst]))
    · exact congrArg ResetState.hold (hrst'.trans (by rw [hrst]))
    · exact congrArg ResetState.patchPresent hrst'
    · exact State.deadline_arm_self ..
    · exact (State.rd_congr hregs' _ _ _).trans (hrole h)
    · exact hfuses'.trans (hfuses.trans (if_neg h))
    · exact (congrArg (Fuses.roleKey · r) (hfuses'.trans (hfuses.trans (if_pos h)))).trans (Fuses.roleKey_destroyKeys ..)
    · exact (hfaults' hcheck).trans (hfaults h)
  · refine (guarded_pos s ⟨hruns, hpll, by simp [hwiped]⟩).trans ?_
    rw [State.tryReady, if_neg (by simp [State.setRst, hconv])]
    rfl
  · refine ⟨_, guarded_pos s ⟨hruns, hpll, by simp [hwiped]⟩, ?_⟩
    obtain ⟨hrst, hstate, htime⟩ := State.tryReady_spec (s := s.setRst fun fld => { fld with dramWiped := true }) rfl hconv hboot
    exact ⟨congrArg ResetState.dramWiped hrst, hstate, htime⟩
  · obtain ⟨hfree, hat⟩ := s.releaseHold_spec (k := holdVio) (le_refl _)
    exact ⟨_, guarded_pos s ⟨hmv, hheld⟩, hfree, hat, rfl⟩
  · obtain ⟨hfree, hat⟩ := s.releaseHold_spec (k := holdRails) (by decide)
    exact ⟨_, guarded_pos s hheld, hfree, hat, rfl⟩
  · refine ⟨_, guarded_pos s ⟨hon, by simp [hbad]⟩, ?_, ?_, ?_⟩
    · rw [State.rd_keep, State.rd_raise]
      exact State.rd_wr_self ..
    · exact State.raise_reported _ _ (by rfl) (by rfl) rfl rfl rfl
    · rw [State.raise_eq _ _ _ (by rfl : _ = some 2) (by rfl)]
      rfl
  · refine ⟨_, guarded_pos s ⟨hon, hbad⟩, ?_⟩
    dsimp only
    generalize hread : (s.setPower fun fld => { fld with vldBad := true }).railRead .vld mv = u
    have hstop := u.stopDrivers
    generalize allPorts.foldl (fun s (p : Port) => s.stopDriver p) u = t at hstop
    obtain ⟨-, hregs, hpower, htime⟩ := hstop 0
    have hbad : t.power.vldBad = true := by rw [hpower, ← hread]; rfl
    refine ⟨hbad, (State.rd_congr hregs _ _ _).trans (by rw [← hread]; exact State.rd_wr_self ..), fun p => ?_⟩
    obtain ⟨⟨hdc, htx⟩, -⟩ := hstop p
    refine ⟨?_, ?_, hdc, htx.trans_eq ?_⟩
    · rw [State.mayTransmit, State.keep_power, hbad]
      rfl
    · rw [State.portState_keep, State.portState_congr hregs, ← hread]
      exact State.rd_wr_other _ _ (Obj.key_ne (hj := by decide) (hi := by decide))
    · rw [State.now_congr htime, ← hread]
      rfl
  · refine ⟨_, guarded_pos s ⟨hon, hbad, by simp [Rail.inRange, Rail.range, hlo, hhi]⟩, rfl, State.rd_wr_self .., rfl⟩
  · obtain ⟨hexec, hjunction, hreads⟩ := exec_junctionSample (tj := tj) hruns hfree
    refine ⟨_, hexec, ?_⟩
    rw [if_pos ⟨hwas, hhot⟩, if_neg (by omega)]
    refine ⟨?_, ?_, State.raise_reported _ _ (by rfl) (by rfl) rfl rfl rfl, ?_⟩
    · rw [State.keep_power, State.raise_power]
      exact hjunction
    · rw [State.rd_keep, State.rd_raise]
      exact hreads
    · rw [State.raise_eq _ _ _ (by rfl : _ = some 4) (by rfl)]
      rfl
  · obtain ⟨hexec, hjunction, hreads⟩ := exec_junctionSample (tj := tj) hruns hfree
    refine ⟨_, hexec, ?_⟩
    rw [if_neg (by omega), if_pos ⟨hwas, hwarm⟩]
    refine ⟨?_, ?_, State.raise_reported _ _ (by rfl) (by rfl) rfl rfl rfl, ?_⟩
    · rw [State.keep_power, State.raise_power]
      exact hjunction
    · rw [State.rd_keep, State.rd_raise]
      exact hreads
    · rw [State.raise_eq _ _ _ (by rfl : _ = some 1) (by rfl)]
      rfl
  · obtain ⟨hexec, hjunction, hreads⟩ := exec_junctionSample (tj := tj) hruns hfree
    refine ⟨_, hexec, ?_⟩
    rw [if_neg (by omega), if_neg (by omega)]
    exact ⟨hjunction, hreads, rfl⟩
  · obtain ⟨hfree, hat⟩ := (s.setPower fun fld => { fld with junction := tj }).releaseHold_spec (k := holdJunction) (by decide)
    refine ⟨_, guarded_pos s (.inr hheld), ?_⟩
    rw [if_pos hheld]
    dsimp only
    rw [if_pos hcool]
    exact ⟨hfree, hat⟩

end Sys2Proof.Machine
end

section
/-! WHAT COMMANDS LEAVE ALONE. Requests over Izvas. -/

namespace Sys2Proof.Machine

set_option Elab.async false

/-- What a request over Izvas leaves alone. -/
def State.besides (s : State) :=
  (s.ports, s.blobs, s.stations, s.casc, s.faults, s.hmp, s.rst, s.time, s.merge)

theorem ok_besides {s u : State} (h : ok s = .next u) :
    u.besides = s.besides ∧ u.pending = s.pending ∧ u.fuses = s.fuses ∧ u.hamper = s.hamper := by
  cases h
  exact ⟨rfl, rfl, rfl, rfl⟩

/-- A command of the digital die keeps what its effect keeps, and the queue, the fuses and the hamper. -/
theorem guarded_besides {s t u : State} {c : Prop} [Decidable c] (ht : t.besides = s.besides)
    (h : guarded c s t = .next u) :
    u.besides = s.besides ∧ u.pending = s.pending ∧ u.fuses = s.fuses ∧ u.hamper = s.hamper := by
  cases h
  split
  · exact ⟨ht, rfl, rfl, rfl⟩
  · exact ⟨rfl, rfl, rfl, rfl⟩

variable (s : State)

theorem State.wr_besides (o : Obj) (p : Nat) (e : Nat) (v : Int) : (s.wr o p e v).besides = s.besides := (rfl)

theorem State.inc_besides (o : Obj) (p : Nat) (e : Nat) (n : Int) : (s.inc o p e n).besides = s.besides := by
  simp [State.besides]

theorem State.arm_besides (t : Timer) (deadline : Stamp) : (s.arm t deadline).besides = s.besides := (rfl)

theorem State.disarm_besides (t : Timer) : (s.disarm t).besides = s.besides := (rfl)

theorem State.setHouse_besides (f : HouseState → HouseState) : (s.setHouse f).besides = s.besides := (rfl)

theorem State.setQm_besides (f : QmState → QmState) : (s.setQm f).besides = s.besides := (rfl)

theorem State.setIz_besides (f : IzState → IzState) : (s.setIz f).besides = s.besides := (rfl)

theorem State.setPower_besides (f : PowerState → PowerState) : (s.setPower f).besides = s.besides := (rfl)

theorem State.setLink_besides (x : Side) (f : PfState → PfState) : (s.setLink x f).besides = s.besides := (rfl)

theorem State.setSession_besides (k : SessionNo) (f : Session → Session) :
    (s.setSession k f).besides = s.besides := (rfl)

theorem State.emit_besides (o : Out) : (s.emit o).besides = s.besides := (rfl)

theorem State.freeBytes_besides (n : Nat) : (s.freeBytes n).2.besides = s.besides := (rfl)

theorem State.happens_besides (code detail : Nat) (at' : Stamp) : (s.happens code detail at').besides = s.besides := by
  unfold State.happens
  grind [State.setPower_besides]

theorem State.reply_besides (r : IzResp) : (s.reply r).besides = s.besides := by
  simp [State.besides]

theorem State.respond_besides (r : IzResp) : (s.respond r).besides = s.besides := by
  simp [State.besides]

theorem State.hostParcel_besides (x : Side) (type : Nat) : (s.hostParcel x type).besides = s.besides := by
  unfold State.hostParcel
  grind [State.happens_besides]

theorem State.ungate_besides : (s.ungate).besides = s.besides := by
  unfold State.ungate
  grind [State.setHouse_besides, State.arm_besides]

theorem State.arrives_besides (r : IzReq) : (s.arrives r).besides = s.besides := by
  unfold State.arrives
  grind [State.hostParcel_besides, State.ungate_besides, State.setIz_besides]

theorem State.macFail_besides : (s.macFail).besides = s.besides := by
  unfold State.macFail
  grind [State.inc_besides]

/-- The state an admission leaves, before any execution. -/
def Admission.state : Admission → State
  | .discarded s | .answered s | .accepted s => s

theorem Admission.run_besides (a : Admission) (f : State → State) (hf : ∀ t, (f t).besides = t.besides) :
    (a.run f).besides = a.state.besides := by
  cases a with
  | discarded t => rfl
  | answered t => rfl
  | accepted t => exact hf t

theorem State.admitReq_besides (r : IzReq) : (s.admitReq r).state.besides = s.besides := by
  have harrives := s.arrives_besides r
  unfold State.admitReq
  dsimp only
  grind [Admission.state, State.inc_besides, State.macFail_besides, State.respond_besides, State.setSession_besides,
    State.wr_besides, State.arm_besides]

/-- A guarded command that executes an admitted request. -/
theorem guarded_run_besides {s u : State} {c : Prop} [Decidable c] {r : IzReq} {f : State → State}
    (hf : ∀ t, (f t).besides = t.besides) (h : guarded c s ((s.admitReq r).run f) = .next u) :
    u.besides = s.besides ∧ u.pending = s.pending ∧ u.fuses = s.fuses ∧ u.hamper = s.hamper :=
  guarded_besides (((s.admitReq r).run_besides f hf).trans (s.admitReq_besides r)) h

theorem State.readReq_besides (r : IzReq) : (s.readReq r).besides = s.besides := by
  unfold State.readReq
  grind [State.respond_besides]

theorem State.refuseWrite_besides (r : IzReq) (status : Nat) : (s.refuseWrite r status).besides = s.besides := by
  unfold State.refuseWrite
  grind [State.inc_besides, State.respond_besides]

theorem State.stage_besides (r : IzReq) (k : SessionNo) (vs : List (Nat × Bytes)) :
    (s.stage r k vs).besides = s.besides := by
  unfold State.stage
  grind [State.setSession_besides, State.refuseWrite_besides, State.respond_besides]

theorem State.writeDirect_besides (r : IzReq) (o : Obj) (n : Nat) (vs : List (Nat × Bytes)) :
    (s.writeDirect r o n vs).besides = s.besides := by
  unfold State.writeDirect
  grind [State.setIz_besides]

theorem State.writeReq_besides (r : IzReq) : (s.writeReq r).besides = s.besides := by
  unfold State.writeReq
  split
  · split
    · exact s.stage_besides ..
    · exact s.writeDirect_besides ..
  · exact s.refuseWrite_besides ..
  · rfl

theorem State.freeSession_besides (k : SessionNo) : (s.freeSession k).besides = s.besides := by
  unfold State.freeSession
  grind [State.wr_besides, State.setIz_besides, State.setSession_besides, State.disarm_besides]

theorem State.authFailed_besides (k : SessionNo) : (s.authFailed k).besides = s.besides := by
  unfold State.authFailed
  grind [State.freeSession_besides, State.inc_besides, State.setIz_besides, State.arm_besides]

variable {s}

theorem execIzvasRead_besides {r : IzReq} {t : State} (ht : execIzvasRead r s = .next t) : t.besides = s.besides ∧
    t.pending = s.pending ∧ t.fuses = s.fuses ∧ t.hamper = s.hamper :=
  guarded_run_besides (fun t => t.readReq_besides r) ht

theorem execIzvasWrite_besides {r : IzReq} {t : State} (ht : execIzvasWrite r s = .next t) : t.besides = s.besides ∧
    t.pending = s.pending ∧ t.fuses = s.fuses ∧ t.hamper = s.hamper :=
  guarded_run_besides (fun t => t.writeReq_besides r) ht

theorem execReadStaged_besides {r : IzReq} {t : State} (ht : execReadStaged r s = .next t) : t.besides = s.besides ∧
    t.pending = s.pending ∧ t.fuses = s.fuses ∧ t.hamper = s.hamper := by
  refine guarded_run_besides (fun t => ?_) ht
  split
  · grind [State.respond_besides]
  · exact t.respond_besides _

theorem execDiscardStaged_besides {r : IzReq} {t : State} (ht : execDiscardStaged r s = .next t) :
    t.besides = s.besides ∧
    t.pending = s.pending ∧ t.fuses = s.fuses ∧ t.hamper = s.hamper := by
  refine guarded_run_besides (fun t => ?_) ht
  grind [State.respond_besides, State.setSession_besides]

theorem execOpenSession_besides {r : IzReq} {t : State} (ht : execOpenSession r s = .next t) : t.besides = s.besides ∧
    t.pending = s.pending ∧ t.fuses = s.fuses ∧ t.hamper = s.hamper := by
  refine guarded_run_besides (fun t => ?_) ht
  grind [State.respond_besides, State.setSession_besides, State.arm_besides, State.freeBytes_besides]

theorem execAuthSession_besides {r : IzReq} {t : State} (ht : execAuthSession r s = .next t) : t.besides = s.besides ∧
    t.pending = s.pending ∧ t.fuses = s.fuses ∧ t.hamper = s.hamper := by
  unfold execAuthSession at ht
  grind [guarded_besides, State.arrives_besides, State.macFail_besides, State.inc_besides, State.reply_besides,
    State.authFailed_besides, State.setIz_besides, State.disarm_besides, State.setSession_besides, State.arm_besides,
    State.wr_besides, State.respond_besides]

theorem execCloseSession_besides {r : IzReq} {t : State} (ht : execCloseSession r s = .next t) : t.besides = s.besides ∧
    t.pending = s.pending ∧ t.fuses = s.fuses ∧ t.hamper = s.hamper := by
  refine guarded_run_besides (fun t => ?_) ht
  grind [State.respond_besides, State.freeSession_besides]

theorem execCommit_besides {r : IzReq} {t : State} (ht : execCommit r s = .next t) : t.besides = s.besides ∧
    t.pending = s.pending ∧ t.fuses = s.fuses ∧ t.hamper = s.hamper := by
  refine guarded_run_besides (fun t => ?_) ht
  grind [State.refuseWrite_besides, State.setSession_besides, State.setIz_besides, State.wr_besides]

end Sys2Proof.Machine
end

section
/-! WHAT COMMANDS LEAVE ALONE. The commands of one Porfani port. -/

namespace Sys2Proof.Machine

set_option Elab.async false

/-- What the commands of a Porfani port leave alone. -/
def State.offLink (s : State) (x : Side) :=
  (s.pfState x.other, s.link x.other, s.blobs, s.ports, s.qm, s.casc, s.time, s.house, s.iz, s.rst, s.hmp, s.stations)

theorem ok_offLink (x : Side) {s v : State} (h : ok s = .next v) :
    v.offLink x = s.offLink x ∧ v.pending = s.pending ∧ v.fuses = s.fuses ∧ v.hamper = s.hamper := by
  cases h
  exact ⟨rfl, rfl, rfl, rfl⟩

/-- A command of the digital die keeps what its effect keeps, and the queue, the fuses and the hamper. -/
theorem guarded_offLink (x : Side) {s t v : State} {c : Prop} [Decidable c] (ht : t.offLink x = s.offLink x)
    (h : guarded c s t = .next v) :
    v.offLink x = s.offLink x ∧ v.pending = s.pending ∧ v.fuses = s.fuses ∧ v.hamper = s.hamper := by
  cases h
  split
  · exact ⟨ht, rfl, rfl, rfl⟩
  · exact ⟨rfl, rfl, rfl, rfl⟩

variable (s : State)

/-- The objects of a Porfani port, its state apart. -/
def Side.objects : List Obj :=
  [Reg.PF_PORT_width, Reg.PF_PORT_rate, Reg.PF_PORT_lane_map, Reg.PF_PORT_link_delay, Reg.PF_PORT_REPLAYS,
    Reg.PF_PORT_IDLE_ENTRIES, Reg.PF_LANE_FFE, Reg.PF_LANE_skew]

theorem State.offLink_eq {s t : State} {x : Side} (hstate : t.pfState x.other = s.pfState x.other)
    (hrest : (t.link x.other, t.blobs, t.ports, t.qm, t.casc, t.time, t.house, t.iz, t.rst, t.hmp, t.stations)
      = (s.link x.other, s.blobs, s.ports, s.qm, s.casc, s.time, s.house, s.iz, s.rst, s.hmp, s.stations)) :
    t.offLink x = s.offLink x := by
  rw [State.offLink, State.offLink, hrest, hstate]

theorem State.wr_offLink (x : Side) {o : Obj} {p e : Nat} (v : Int) (ho : o ∈ Side.objects) (hp : p < 32)
    (he : e < 1048576) : (s.wr o p e v).offLink x = s.offLink x := by
  have hx := Side.n_lt x.other
  have hapart : Reg.PF_PORT_state.apart o = true := by
    have hall : ∀ o ∈ Side.objects, Reg.PF_PORT_state.apart o = true := by decide
    exact hall o ho
  exact State.offLink_eq (State.rd_wr_other _ _ (Obj.key_ne hapart)) (by rfl)

theorem State.wr_state_offLink (x : Side) (v : Int) : (s.wr Reg.PF_PORT_state x.n 0 v).offLink x = s.offLink x := by
  refine State.offLink_eq (State.rd_wr_other _ _ ?_) (by rfl)
  cases x <;> decide

theorem State.inc_offLink (x : Side) {o : Obj} {p e : Nat} (n : Int) (ho : o ∈ Side.objects) (hp : p < 32)
    (he : e < 1048576) : (s.inc o p e n).offLink x = s.offLink x :=
  s.wr_offLink x _ ho hp he

theorem State.arm_offLink (x : Side) (t : Timer) (deadline : Stamp) :
    (s.arm t deadline).offLink x = s.offLink x := (rfl)

theorem State.disarm_offLink (x : Side) (t : Timer) : (s.disarm t).offLink x = s.offLink x := (rfl)

theorem State.setPower_offLink (x : Side) (f : PowerState → PowerState) :
    (s.setPower f).offLink x = s.offLink x := (rfl)

theorem State.setLink_offLink (x : Side) (f : PfState → PfState) : (s.setLink x f).offLink x = s.offLink x := by
  refine State.offLink_eq (by rfl) ?_
  have hlink : (s.setLink x f).link x.other = s.link x.other := by
    have hside : x.fin.val ≠ x.other.fin.val := by cases x <;> decide
    simp [State.link, State.setLink, Vector.getElem_set_ne (h := hside)]
  rw [hlink]
  rfl

theorem State.emit_offLink (x : Side) (o : Out) : (s.emit o).offLink x = s.offLink x := (rfl)

theorem State.free_offLink (x : Side) (bound : Nat) : (s.free bound).2.offLink x = s.offLink x := (rfl)

theorem State.issueAt_offLink (x : Side) (t : Stamp) (source type : Nat) (payload : Bytes) (flags : Nat) :
    (s.issueAt t source type payload flags).offLink x = s.offLink x := (rfl)

theorem State.issue_offLink (x : Side) (source type : Nat) (payload : Bytes) :
    (s.issue source type payload).offLink x = s.offLink x := by
  unfold State.issue
  grind [State.issueAt_offLink]

theorem State.raiseAs_offLink (x : Side) (r : FaultReport) (sev : Nat) (injected : Bool) :
    (s.raiseAs r sev injected).offLink x = s.offLink x := by
  unfold State.raiseAs
  split
  · rfl
  · dsimp only
    split <;> rfl

theorem State.raise_offLink (x : Side) (source cls code unit detail : Nat) :
    (s.raise source cls code unit detail).offLink x = s.offLink x := by
  unfold State.raise
  grind [State.raiseAs_offLink]

theorem State.pfTo_offLink (x : Side) (new : Int) (cause : Nat) : (s.pfTo x new cause).offLink x = s.offLink x := by
  unfold State.pfTo
  rw [State.issue_offLink, State.wr_state_offLink]

theorem State.sendLocal_offLink (x : Side) (payload : Bytes) : (s.sendLocal x payload).offLink x = s.offLink x := (rfl)

theorem State.pfQuietTimers_offLink (x : Side) : (s.pfQuietTimers x).offLink x = s.offLink x := by
  unfold State.pfQuietTimers
  exact (foldl_keeps (State.offLink · x) (fun s t => s.disarm_offLink x t) _ _).trans
    (foldl_keeps (State.offLink · x) (fun s t => s.disarm_offLink x t) _ _)

theorem State.pfReset_offLink (x : Side) : (s.pfReset x).offLink x = s.offLink x := by
  have hx := Side.n_lt x
  unfold State.pfReset
  dsimp only
  rw [State.setLink_offLink, State.wr_offLink _ _ _ (by decide) (by omega) (by decide),
    State.wr_offLink _ _ _ (by decide) (by omega) (by decide), State.wr_offLink _ _ _ (by decide) (by omega) (by
      decide),
    State.pfQuietTimers_offLink]

theorem State.pfToDetect_offLink (x : Side) (cause : Nat) : (s.pfToDetect x cause).offLink x = s.offLink x := by
  unfold State.pfToDetect
  grind [State.pfReset_offLink, State.pfTo_offLink]

theorem State.sendCaps_offLink (x : Side) : (s.sendCaps x).offLink x = s.offLink x := (rfl)

theorem State.sendFlow_offLink (x : Side) (nak : Bool) : (s.sendFlow x nak).offLink x = s.offLink x := by
  unfold State.sendFlow
  grind [State.sendLocal_offLink, State.setLink_offLink]

theorem State.toExchange_offLink (x : Side) : (s.toExchange x).offLink x = s.offLink x := by
  unfold State.toExchange
  grind [State.setLink_offLink, State.disarm_offLink, State.pfTo_offLink, State.arm_offLink, State.sendCaps_offLink]

theorem State.resend_offLink (x : Side) : (s.resend x).offLink x = s.offLink x := by
  unfold State.resend
  have hx := Side.n_lt x
  dsimp only
  split
  · rfl
  · rw [State.arm_offLink, State.inc_offLink _ _ _ (by decide) (by omega) (by decide)]
    exact foldl_keeps (State.offLink · x) (f := fun s p => s.emit (.parcel x p)) (fun s _ => s.emit_offLink x _) _ _

theorem State.trained_offLink (x : Side) : (s.trained x).offLink x = s.offLink x := by
  have hx := Side.n_lt x
  unfold State.trained
  dsimp only
  split
  · rw [State.arm_offLink, State.pfTo_offLink, State.disarm_offLink,
      State.wr_offLink _ _ _ (by decide) (by omega) (by decide)]
  · rfl

variable {s}

theorem execPfDetectPulse_offLink {x : Side} {sensed : Nat} {t : State} (ht : execPfDetectPulse x sensed s = .next t)
    : t.offLink x = s.offLink x ∧
    t.pending = s.pending ∧ t.fuses = s.fuses ∧ t.hamper = s.hamper := by
  refine guarded_offLink x ?_ ht
  split
  · rfl
  · rw [State.arm_offLink, State.pfTo_offLink, State.disarm_offLink, State.setLink_offLink, State.arm_offLink,
      State.emit_offLink]

theorem execPfTrainBlock_offLink {x : Side} {lane : Lane} {block : Bytes} {t : State} (ht : execPfTrainBlock x lane
    block s = .next t) : t.offLink x = s.offLink x ∧
    t.pending = s.pending ∧ t.fuses = s.fuses ∧ t.hamper = s.hamper := by
  have hx := Side.n_lt x
  have hlane := lane.isLt
  refine guarded_offLink x ?_ ht
  dsimp only
  rw [State.trained_offLink, State.emit_offLink, State.free_offLink, State.setLink_offLink,
    State.wr_offLink _ _ _ (by decide) (by omega) (by omega)]
  split <;> rfl

theorem execPfRxReady_offLink {x : Side} {lane : Lane} {t : State} (ht : execPfRxReady x lane s = .next t) :
    t.offLink x = s.offLink x ∧
    t.pending = s.pending ∧ t.fuses = s.fuses ∧ t.hamper = s.hamper := by
  unfold execPfRxReady at ht
  grind [guarded_offLink, State.setLink_offLink, State.trained_offLink]

theorem execPfTrainTimeout_offLink {x : Side} {t : State} (ht : execPfTrainTimeout x s = .next t) :
    t.offLink x = s.offLink x ∧
    t.pending = s.pending ∧ t.fuses = s.fuses ∧ t.hamper = s.hamper := by
  refine guarded_offLink x ?_ ht
  split
  · exact s.pfToDetect_offLink ..
  · exact (State.arm_offLink ..).trans (s.setLink_offLink ..)

theorem execPfBlockLock_offLink {x : Side} {lane : Lane} {t : State} (ht : execPfBlockLock x lane s = .next t) :
    t.offLink x = s.offLink x ∧
    t.pending = s.pending ∧ t.fuses = s.fuses ∧ t.hamper = s.hamper := by
  unfold execPfBlockLock at ht
  grind [guarded_offLink, State.setLink_offLink]

theorem execPfLacingDone_offLink {x : Side} {laced : Nat} {skews : List Nat} {t : State} (ht : execPfLacingDone x
    laced skews s = .next t) : t.offLink x = s.offLink x ∧
    t.pending = s.pending ∧ t.fuses = s.fuses ∧ t.hamper = s.hamper := by
  have hx := Side.n_lt x
  refine guarded_offLink x ?_ ht
  dsimp only
  have hskews : ∀ (f : Nat → Int) (l : List Nat), (∀ k ∈ l, k < 4) → ∀ t : State,
      (l.foldl (fun s k => if bit (laced % 16) k then s.wr Reg.PF_LANE_skew x.n k (f k) else s) t).offLink x =
        t.offLink x := by
    intro f l hl t
    refine foldl_keeps_mem (State.offLink · x) l (fun t k hk => ?_) t
    have hlane := hl k hk
    split
    · exact t.wr_offLink x _ (by decide) (by omega) (by omega)
    · rfl
  split
  · exact (State.toExchange_offLink ..).trans ((State.setLink_offLink ..).trans (hskews _ _ (fun k hk =>
    List.mem_range.mp hk) s))
  · exact (State.setLink_offLink ..).trans (hskews _ _ (fun k hk => List.mem_range.mp hk) s)

theorem execPfLockTimeout_offLink {x : Side} {t : State} (ht : execPfLockTimeout x s = .next t) :
    t.offLink x = s.offLink x ∧
    t.pending = s.pending ∧ t.fuses = s.fuses ∧ t.hamper = s.hamper := by
  unfold execPfLockTimeout at ht
  grind [guarded_offLink, State.pfToDetect_offLink, State.toExchange_offLink]

theorem execPfExchangeTimeout_offLink {x : Side} {t : State} (ht : execPfExchangeTimeout x s = .next t) :
    t.offLink x = s.offLink x ∧
    t.pending = s.pending ∧ t.fuses = s.fuses ∧ t.hamper = s.hamper :=
  guarded_offLink x ((State.arm_offLink ..).trans (State.disarm_offLink ..)) ht

theorem execPfExchangeHoldoffEnd_offLink {x : Side} {t : State} (ht : execPfExchangeHoldoffEnd x s = .next t) :
    t.offLink x = s.offLink x ∧
    t.pending = s.pending ∧ t.fuses = s.fuses ∧ t.hamper = s.hamper := by
  unfold execPfExchangeHoldoffEnd at ht
  grind [guarded_offLink, State.pfToDetect_offLink]

theorem execPfBipCheck_offLink {x : Side} {lane : Lane} {t : State} (ht : execPfBipCheck x lane s = .next t) :
    t.offLink x = s.offLink x ∧
    t.pending = s.pending ∧ t.fuses = s.fuses ∧ t.hamper = s.hamper := by
  refine guarded_offLink x ?_ ht
  dsimp only
  split
  · exact (State.raise_offLink ..).trans ((State.arm_offLink ..).trans (State.setLink_offLink ..))
  · exact (State.arm_offLink ..).trans (State.setLink_offLink ..)

theorem execPfIdleEntrySend_offLink {x : Side} {t : State} (ht : execPfIdleEntrySend x s = .next t) :
    t.offLink x = s.offLink x ∧
    t.pending = s.pending ∧ t.fuses = s.fuses ∧ t.hamper = s.hamper := by
  have hx := Side.n_lt x
  refine guarded_offLink x ?_ ht
  dsimp only
  rw [State.pfTo_offLink]
  have hidle : ((((s.emit (.block x ((s.txLanes x).foldl (fun m k => m ||| 2 ^ k) 0) 0x66 (List.replicate 7 0) 16)).inc
      Reg.PF_PORT_IDLE_ENTRIES x.n).setLink x fun q => { q with txIdle := true })).offLink x = s.offLink x := by
    rw [State.setLink_offLink, State.inc_offLink _ _ _ (by decide) (by omega) (by decide), State.emit_offLink]
  split
  · exact (State.setPower_offLink ..).trans hidle
  · exact hidle

theorem execPfIdleEntryRx_offLink {x : Side} {t : State} (ht : execPfIdleEntryRx x s = .next t) :
    t.offLink x = s.offLink x ∧
    t.pending = s.pending ∧ t.fuses = s.fuses ∧ t.hamper = s.hamper := by
  unfold execPfIdleEntryRx at ht
  grind [guarded_offLink, State.setLink_offLink]

theorem execFlowCtrlSend_offLink {x : Side} {t : State} (ht : execFlowCtrlSend x s = .next t) :
    t.offLink x = s.offLink x ∧
    t.pending = s.pending ∧ t.fuses = s.fuses ∧ t.hamper = s.hamper := by
  unfold execFlowCtrlSend at ht
  grind [guarded_offLink, State.sendFlow_offLink]

theorem execReplayTimeout_offLink {x : Side} {t : State} (ht : execReplayTimeout x s = .next t) :
    t.offLink x = s.offLink x ∧
    t.pending = s.pending ∧ t.fuses = s.fuses ∧ t.hamper = s.hamper := by
  unfold execReplayTimeout at ht
  grind [guarded_offLink, State.resend_offLink]

theorem execDelayReqSend_offLink {x : Side} {t : State} (ht : execDelayReqSend x s = .next t) :
    t.offLink x = s.offLink x ∧
    t.pending = s.pending ∧ t.fuses = s.fuses ∧ t.hamper = s.hamper :=
  guarded_offLink x ((State.arm_offLink ..).trans ((State.setLink_offLink ..).trans (State.sendLocal_offLink ..))) ht

theorem execDelayReqRx_offLink {x : Side} {ident turnaround : Nat} {t : State} (ht : execDelayReqRx x ident
    turnaround s = .next t) : t.offLink x = s.offLink x ∧
    t.pending = s.pending ∧ t.fuses = s.fuses ∧ t.hamper = s.hamper := by
  unfold execDelayReqRx at ht
  grind [guarded_offLink, State.sendLocal_offLink]

theorem execDelayRespRx_offLink {x : Side} {ident turnaround : Nat} {t : State} (ht : execDelayRespRx x ident
    turnaround s = .next t) : t.offLink x = s.offLink x ∧
    t.pending = s.pending ∧ t.fuses = s.fuses ∧ t.hamper = s.hamper := by
  have hx := Side.n_lt x
  unfold execDelayRespRx at ht
  split at ht
  · exact ok_offLink x ht
  · refine guarded_offLink x ?_ ht
    dsimp only
    rw [State.wr_offLink _ _ _ (by decide) (by omega) (by decide), State.setLink_offLink]

end Sys2Proof.Machine
end

section
/-! WHAT COMMANDS LEAVE ALONE. The commands of a station. -/

namespace Sys2Proof.Machine

set_option Elab.async false

/-- What the commands of a station leave alone. -/
def State.offStation (s : State) (u : Nat) :=
  ((fun v : {v // v ≠ u} => s.stn v), s.regs, s.blobs, s.time, s.timers, s.merge, s.house, s.ports, s.qm, s.pf,
    s.casc, s.iz,
    s.power, s.faults, s.rst, s.hmp)

theorem ok_offStation (u : Nat) {s v : State} (h : ok s = .next v) :
    v.offStation u = s.offStation u ∧ v.pending = s.pending ∧ v.fuses = s.fuses ∧ v.hamper = s.hamper := by
  cases h
  exact ⟨rfl, rfl, rfl, rfl⟩

/-- A command of the digital die keeps what its effect keeps, and the queue, the fuses and the hamper. -/
theorem guarded_offStation (u : Nat) {s t v : State} {c : Prop} [Decidable c] (ht : t.offStation u = s.offStation u)
    (h : guarded c s t = .next v) :
    v.offStation u = s.offStation u ∧ v.pending = s.pending ∧ v.fuses = s.fuses ∧ v.hamper = s.hamper := by
  cases h
  split
  · exact ⟨ht, rfl, rfl, rfl⟩
  · exact ⟨rfl, rfl, rfl, rfl⟩

variable (s : State)

theorem State.setStn_offStation (u : Nat) (f : Stn → Stn) : (s.setStn u f).offStation u = s.offStation u := by
  have hstn : (fun v : {v // v ≠ u} => (s.setStn u f).stn v) = fun v : {v // v ≠ u} => s.stn v :=
    funext fun v => State.stn_setStn_other _ _ v.2
  exact congrArg (fun g => (g, _)) hstn

theorem State.emit_offStation (u : Nat) (o : Out) : (s.emit o).offStation u = s.offStation u := (rfl)

theorem State.free_offStation (u : Nat) (n : Nat) : (s.free n).2.offStation u = s.offStation u := (rfl)

theorem State.seed_offStation (u : Nat) : (s.seed).2.offStation u = s.offStation u := by
  unfold State.seed
  grind [State.free_offStation]

theorem State.sendStation_offStation (u : Nat) (mask : Option Nat) (h : Header) (plain : Bytes) (start : Stamp)
    (level : Int) : (s.sendStation u mask h plain start level).offStation u = s.offStation u := by
  unfold State.sendStation
  grind [State.seed_offStation, State.emit_offStation, State.setStn_offStation]

theorem State.drawSlot_offStation (u : Nat) (x : Stn) (w len air : Stamp) :
    (s.drawSlot x w len air).2.offStation u = s.offStation u := by
  unfold State.drawSlot
  grind [State.free_offStation]

theorem State.stationResp_offStation (u : Nat) (e t : Stamp) : (s.stationResp u e t).offStation u = s.offStation u := by
  unfold State.stationResp
  grind [State.setStn_offStation, State.sendStation_offStation]

theorem State.stationRefresh_offStation (u : Nat) (e t : Stamp) :
    (s.stationRefresh u e t).offStation u = s.offStation u := by
  unfold State.stationRefresh
  grind [State.setStn_offStation, State.sendStation_offStation]

theorem State.stationGranted_offStation (u : Nat) (a : Stamp × Stamp) (e : Stamp) (h : Header) (body : Bytes) :
    (s.stationGranted u a e h body).offStation u = s.offStation u := by
  unfold State.stationGranted
  grind [State.setStn_offStation, State.sendStation_offStation]

theorem State.stationSlotted_offStation (u : Nat) (w : Stamp) (h : Header) (body : Bytes) :
    (s.stationSlotted u w h body).offStation u = s.offStation u := by
  unfold State.stationSlotted
  grind [State.drawSlot_offStation, State.setStn_offStation, State.sendStation_offStation]

theorem State.stationAnswer_offStation (u : Nat) (sa : Nat) (b : Bytes) :
    (s.stationAnswer u sa b).offStation u = s.offStation u := by
  unfold State.stationAnswer
  grind [State.setStn_offStation]

theorem State.stationFragment_offStation (u : Nat) (h : Header) (plain : Bytes) :
    (s.stationFragment u h plain).2.offStation u = s.offStation u := by
  unfold State.stationFragment
  grind [State.setStn_offStation]

theorem State.stationTake_offStation (u : Nat) (f : LineRx) (plain : Bytes) :
    (s.stationTake u f plain).offStation u = s.offStation u := by
  unfold State.stationTake
  grind [State.setStn_offStation, State.stationFragment_offStation, State.emit_offStation,
    State.stationAnswer_offStation]

theorem State.stationReceive_offStation (u : Nat) (f : LineRx) :
    (s.stationReceive u f).offStation u = s.offStation u := by
  unfold State.stationReceive
  grind [State.setStn_offStation, State.stationTake_offStation]

variable {s}

theorem execStationAnchor_offStation {u : Nat} {named : Stamp} {t : State} (ht : execStationAnchor u named s = .next
    t) : t.offStation u = s.offStation u ∧
    t.pending = s.pending ∧ t.fuses = s.fuses ∧ t.hamper = s.hamper := by
  unfold execStationAnchor at ht
  grind [guarded_offStation, State.setStn_offStation]

theorem execStationBeaconRx_offStation {u : Nat} {f : BeaconRx} {t : State} (ht : execStationBeaconRx u f s = .next
    t) : t.offStation u = s.offStation u ∧
    t.pending = s.pending ∧ t.fuses = s.fuses ∧ t.hamper = s.hamper := by
  unfold execStationBeaconRx at ht
  grind [guarded_offStation, State.setStn_offStation]

theorem execStationRegRequestSend_offStation {u : Nat} {t : State} (ht : execStationRegRequestSend u s = .next t) :
    t.offStation u = s.offStation u ∧
    t.pending = s.pending ∧ t.fuses = s.fuses ∧ t.hamper = s.hamper := by
  refine guarded_offStation u ?_ ht
  dsimp only
  split
  · rfl
  · rename_i w len _
    have hdraw := s.drawSlot_offStation u (s.stn u) w len (airLong (s.stn u).band 0 22)
    generalize s.drawSlot (s.stn u) w len (airLong (s.stn u).band 0 22) = x at hdraw
    obtain ⟨slot, v⟩ := x
    cases slot with
    | none => exact hdraw
    | some t => exact (State.setStn_offStation ..).trans ((State.sendStation_offStation ..).trans hdraw)

theorem execStationRequestUnanswered_offStation {u : Nat} {txStamp : Stamp} {t : State} (ht :
    execStationRequestUnanswered u txStamp s = .next t) : t.offStation u = s.offStation u ∧
    t.pending = s.pending ∧ t.fuses = s.fuses ∧ t.hamper = s.hamper := by
  unfold execStationRequestUnanswered at ht
  grind [guarded_offStation, State.free_offStation, State.setStn_offStation]

theorem execStationAssignRx_offStation {u : Nat} {body : Bytes} {t : State} (ht : execStationAssignRx u body s =
    .next t) : t.offStation u = s.offStation u ∧
    t.pending = s.pending ∧ t.fuses = s.fuses ∧ t.hamper = s.hamper := by
  unfold execStationAssignRx at ht
  grind [guarded_offStation, State.setStn_offStation]

theorem execStationRefuseRx_offStation {u : Nat} {body : Bytes} {t : State} (ht : execStationRefuseRx u body s =
    .next t) : t.offStation u = s.offStation u ∧
    t.pending = s.pending ∧ t.fuses = s.fuses ∧ t.hamper = s.hamper := by
  unfold execStationRefuseRx at ht
  grind [guarded_offStation, State.setStn_offStation]

theorem execStationRefuseWaitEnd_offStation {u : Nat} {t : State} (ht : execStationRefuseWaitEnd u s = .next t) :
    t.offStation u = s.offStation u ∧
    t.pending = s.pending ∧ t.fuses = s.fuses ∧ t.hamper = s.hamper := by
  unfold execStationRefuseWaitEnd at ht
  grind [guarded_offStation, State.setStn_offStation]

theorem execStationRangeReqRx_offStation {u : Nat} {body : Bytes} {t : State} (ht : execStationRangeReqRx u body s =
    .next t) : t.offStation u = s.offStation u ∧
    t.pending = s.pending ∧ t.fuses = s.fuses ∧ t.hamper = s.hamper := by
  unfold execStationRangeReqRx at ht
  grind [guarded_offStation, State.setStn_offStation]

theorem execStationAdjRx_offStation {u : Nat} {body : Bytes} {t : State} (ht : execStationAdjRx u body s = .next t) :
    t.offStation u = s.offStation u ∧
    t.pending = s.pending ∧ t.fuses = s.fuses ∧ t.hamper = s.hamper := by
  unfold execStationAdjRx at ht
  grind [guarded_offStation, State.setStn_offStation]

theorem execStationConfirmSend_offStation {w : StationWindow} {t : State} (ht : execStationConfirmSend w s = .next t) :
    t.offStation w.station = s.offStation w.station ∧
    t.pending = s.pending ∧ t.fuses = s.fuses ∧ t.hamper = s.hamper := by
  refine guarded_offStation w.station ?_ ht
  dsimp only
  split
  · exact State.setStn_offStation ..
  · split
    · rfl
    · rename_i len _
      have hdraw := s.drawSlot_offStation w.station (s.stn w.station) w.window len (airLong (s.stn w.station).band 0 10)
      generalize s.drawSlot (s.stn w.station) w.window len (airLong (s.stn w.station).band 0 10) = x at hdraw
      obtain ⟨slot, v⟩ := x
      cases slot with
      | none => exact hdraw
      | some t =>
        exact (State.setStn_offStation ..).trans ((State.sendStation_offStation ..).trans
          ((State.setStn_offStation ..).trans hdraw))

theorem execStationConfirmAck_offStation {u : Nat} {f : LineRx} {t : State} (ht : execStationConfirmAck u f s = .next
    t) : t.offStation u = s.offStation u ∧
    t.pending = s.pending ∧ t.fuses = s.fuses ∧ t.hamper = s.hamper := by
  unfold execStationConfirmAck at ht
  grind [guarded_offStation, State.stationReceive_offStation]

theorem execStationReleaseToSearch_offStation {u : Nat} {body : Bytes} {t : State} (ht : execStationReleaseToSearch u
    body s = .next t) : t.offStation u = s.offStation u ∧
    t.pending = s.pending ∧ t.fuses = s.fuses ∧ t.hamper = s.hamper := by
  unfold execStationReleaseToSearch at ht
  grind [guarded_offStation, State.setStn_offStation]

theorem execStationRefreshRx_offStation {u : Nat} {body : Bytes} {airDown : Int} {t : State} (ht :
    execStationRefreshRx u body airDown s = .next t) : t.offStation u = s.offStation u ∧
    t.pending = s.pending ∧ t.fuses = s.fuses ∧ t.hamper = s.hamper := by
  unfold execStationRefreshRx at ht
  grind [guarded_offStation, State.setStn_offStation]

theorem execStationAlignedTx_offStation {u : Nat} {w : Option Stamp} {f : Unsent} {t : State} (ht :
    execStationAlignedTx u w f s = .next t) : t.offStation u = s.offStation u ∧
    t.pending = s.pending ∧ t.fuses = s.fuses ∧ t.hamper = s.hamper := by
  unfold execStationAlignedTx at ht
  grind [guarded_offStation, ok_offStation, State.stationResp_offStation, State.stationRefresh_offStation,
    State.stationSlotted_offStation, State.stationGranted_offStation]

theorem execStationTLost_offStation {u : Nat} {t : State} (ht : execStationTLost u s = .next t) :
    t.offStation u = s.offStation u ∧
    t.pending = s.pending ∧ t.fuses = s.fuses ∧ t.hamper = s.hamper := by
  unfold execStationTLost at ht
  grind [guarded_offStation, State.setStn_offStation]

theorem execStationRangingWait_offStation {u : Nat} {t : State} (ht : execStationRangingWait u s = .next t) :
    t.offStation u = s.offStation u ∧
    t.pending = s.pending ∧ t.fuses = s.fuses ∧ t.hamper = s.hamper := by
  unfold execStationRangingWait at ht
  grind [guarded_offStation, State.setStn_offStation]

theorem execStationBellSend_offStation {u : Nat} {t : State} (ht : execStationBellSend u s = .next t) :
    t.offStation u = s.offStation u ∧
    t.pending = s.pending ∧ t.fuses = s.fuses ∧ t.hamper = s.hamper := by
  unfold execStationBellSend at ht
  grind [guarded_offStation, State.emit_offStation, State.setStn_offStation]

theorem execStationMgmtRequest_offStation {u : Nat} {f : LineRx} {t : State} (ht : execStationMgmtRequest u f s =
    .next t) : t.offStation u = s.offStation u ∧
    t.pending = s.pending ∧ t.fuses = s.fuses ∧ t.hamper = s.hamper := by
  unfold execStationMgmtRequest at ht
  grind [guarded_offStation, State.stationReceive_offStation]

theorem execStationCommissioningBind_offStation {u : Nat} {f : LineRx} {t : State} (ht : execStationCommissioningBind
    u f s = .next t) : t.offStation u = s.offStation u ∧
    t.pending = s.pending ∧ t.fuses = s.fuses ∧ t.hamper = s.hamper := by
  unfold execStationCommissioningBind at ht
  grind [guarded_offStation, State.setStn_offStation, State.stationTake_offStation]

end Sys2Proof.Machine
end

section
/-! WHAT COMMANDS LEAVE ALONE. The commands that move one port. -/

namespace Sys2Proof.Machine

set_option Elab.async false

/-- What the commands that move a port leave alone. -/
def State.offPort (s : State) (p : Port) :=
  ((fun q : {q // q ≠ p} => s.portState q), s.time, s.house, s.casc, s.power, s.faults, s.rst, s.hmp, s.stations)

theorem ok_offPort (p : Port) {s v : State} (h : ok s = .next v) :
    v.offPort p = s.offPort p ∧ v.pending = s.pending ∧ v.fuses = s.fuses ∧ v.hamper = s.hamper := by
  cases h
  exact ⟨rfl, rfl, rfl, rfl⟩

/-- A command of the digital die keeps what its effect keeps, and the queue, the fuses and the hamper. -/
theorem guarded_offPort (p : Port) {s t v : State} {c : Prop} [Decidable c] (ht : t.offPort p = s.offPort p)
    (h : guarded c s t = .next v) :
    v.offPort p = s.offPort p ∧ v.pending = s.pending ∧ v.fuses = s.fuses ∧ v.hamper = s.hamper := by
  cases h
  split
  · exact ⟨ht, rfl, rfl, rfl⟩
  · exact ⟨rfl, rfl, rfl, rfl⟩

section
variable (s : State) (p : Port)

theorem State.offPort_eq {s t : State} {p : Port} (hports : ∀ q, q ≠ p → t.portState q = s.portState q)
    (hrest : (t.time, t.house, t.casc, t.power, t.faults, t.rst, t.hmp, t.stations)
      = (s.time, s.house, s.casc, s.power, s.faults, s.rst, s.hmp, s.stations)) : t.offPort p = s.offPort p := by
  rw [State.offPort, State.offPort, hrest]
  exact congrArg (·, _) (funext fun q => hports q q.2)

theorem State.setPort_offPort (q : Port) (f : PortState → PortState) : (s.setPort q f).offPort p = s.offPort p := (rfl)

theorem State.setDc_offPort (q : Port) (f : DcState → DcState) : (s.setDc q f).offPort p = s.offPort p := (rfl)

theorem State.disarm_offPort (u : Timer) : (s.disarm u).offPort p = s.offPort p := (rfl)

theorem State.toState_offPort (new : Int) (cause : Nat) : (s.toState p new cause).offPort p = s.offPort p :=
  State.offPort_eq (fun _ h => s.portState_toState_other h new cause) (by simp)

/-- The end of a commit touches no port state. -/
theorem State.commitDone_offPort : s.commitDone.offPort p = s.offPort p := by
  have hkey (o : Obj) (i : Nat) (q : Port) (h : o.apart Reg.LP_STATE_state = true) (hi : i < 1048576) :
      Reg.LP_STATE_state.key q.val ≠ o.key 0 i := (Obj.key_ne (o := o) h (by decide) hi).symm
  unfold State.commitDone
  split
  · rfl
  · split
    · rfl
    · refine (foldl_keeps (State.offPort · p) (f := fun s p => s.setPort p fun q => { q with armedAt := some s.now })
        (fun _ _ => rfl) _ _).trans (State.offPort_eq (fun q _ => ?_) (by simp [State.afterCommit]))
      have hlt := q.isLt
      unfold State.portState State.afterCommit
      rw [State.rd_wr_other _ _ (hkey _ _ q (by decide) (by decide)), State.rd_wr_other _ _ (hkey _ _ q (by decide)
        (by decide)),
        State.rd_wr_other _ _ (hkey _ _ q (by decide) (by decide))]
      rfl

end

variable {s t : State} {p : Port}

theorem execPortEnable_offPort (ht : execPortEnable p s = .next t) : t.offPort p = s.offPort p ∧
    t.pending = s.pending ∧ t.fuses = s.fuses ∧ t.hamper = s.hamper :=
  guarded_offPort p ((State.setPort_offPort ..).trans (State.toState_offPort ..)) ht

theorem execPortDisable_offPort (ht : execPortDisable p s = .next t) : t.offPort p = s.offPort p ∧
    t.pending = s.pending ∧ t.fuses = s.fuses ∧ t.hamper = s.hamper :=
  guarded_offPort p ((State.commitDone_offPort ..).trans (State.toState_offPort ..)) ht

theorem execDiscoverEnd_offPort (ht : execDiscoverEnd p s = .next t) : t.offPort p = s.offPort p ∧
    t.pending = s.pending ∧ t.fuses = s.fuses ∧ t.hamper = s.hamper :=
  guarded_offPort p (State.toState_offPort ..) ht

theorem execPortPark_offPort (ht : execPortPark p s = .next t) : t.offPort p = s.offPort p ∧
    t.pending = s.pending ∧ t.fuses = s.fuses ∧ t.hamper = s.hamper :=
  guarded_offPort p ((State.commitDone_offPort ..).trans (State.toState_offPort ..)) ht

theorem execListenEnd_offPort {energy : Bytes} (ht : execListenEnd p energy s = .next t) : t.offPort p = s.offPort p ∧
    t.pending = s.pending ∧ t.fuses = s.fuses ∧ t.hamper = s.hamper := by
  refine guarded_offPort p ((State.toState_offPort ..).trans (State.offPort_eq (fun q _ => ?_) (by simp))) ht
  have hq := q.isLt
  have hp := p.isLt
  unfold State.portState
  rw [State.rd_wr_other _ _ Obj.key_ne, State.rd_wrB]

theorem execCheckRetry_offPort (ht : execCheckRetry p s = .next t) : t.offPort p = s.offPort p ∧
    t.pending = s.pending ∧ t.fuses = s.fuses ∧ t.hamper = s.hamper :=
  guarded_offPort p ((State.disarm_offPort ..).trans ((State.disarm_offPort ..).trans ((State.disarm_offPort ..).trans
    (State.setDc_offPort ..)))) ht

theorem execQuietRequest_offPort (ht : execQuietRequest p s = .next t) : t.offPort p = s.offPort p ∧
    t.pending = s.pending ∧ t.fuses = s.fuses ∧ t.hamper = s.hamper :=
  guarded_offPort p (State.setPort_offPort ..) ht

end Sys2Proof.Machine
end

section
namespace Sys2Proof.Machine

set_option Elab.async false

/-- Settles O22: each group of commands by what its operations leave alone. -/
theorem commandsKeepTheRest : Obligations.CommandsKeepTheRest := by
  refine ⟨fun s t r i ht hi => ?_, fun i s t x ht hi => ?_, fun i s t u ht hi => ?_, fun i s t p ht hi => ?_⟩
  · obtain ⟨hrest, hpending, hfuses, hhamper⟩ : t.besides = s.besides ∧ t.pending = s.pending ∧ t.fuses = s.fuses
        ∧ t.hamper = s.hamper := by
      obtain rfl | rfl | rfl | rfl | rfl | rfl | rfl | rfl := hi
      · exact execIzvasRead_besides ht
      · exact execIzvasWrite_besides ht
      · exact execReadStaged_besides ht
      · exact execDiscardStaged_besides ht
      · exact execOpenSession_besides ht
      · exact execAuthSession_besides ht
      · exact execCloseSession_besides ht
      · exact execCommit_besides ht
    simp only [State.besides, Prod.mk.injEq] at hrest
    obtain ⟨hports, hblobs, hstations, hcasc, hfaults, hhmp, hrst, htime, hmerge⟩ := hrest
    exact ⟨hports, hblobs, hstations, hcasc, hfaults, hfuses, hhamper, hhmp, hrst, htime, hmerge, hpending⟩
  · obtain ⟨hrest, hpending, hfuses, hhamper⟩ : t.offLink x = s.offLink x ∧ t.pending = s.pending ∧ t.fuses = s.fuses
        ∧ t.hamper = s.hamper := by
      obtain ⟨n, rfl⟩ | ⟨l, b, rfl⟩ | ⟨l, rfl⟩ | rfl | ⟨l, rfl⟩ | ⟨l, k, rfl⟩ | rfl | rfl | rfl | ⟨l, rfl⟩ | rfl | rfl | rfl
        | rfl | rfl | ⟨a, b, rfl⟩ | ⟨a, b, rfl⟩ := hi
      · exact execPfDetectPulse_offLink ht
      · exact execPfTrainBlock_offLink ht
      · exact execPfRxReady_offLink ht
      · exact execPfTrainTimeout_offLink ht
      · exact execPfBlockLock_offLink ht
      · exact execPfLacingDone_offLink ht
      · exact execPfLockTimeout_offLink ht
      · exact execPfExchangeTimeout_offLink ht
      · exact execPfExchangeHoldoffEnd_offLink ht
      · exact execPfBipCheck_offLink ht
      · exact execPfIdleEntrySend_offLink ht
      · exact execPfIdleEntryRx_offLink ht
      · exact execFlowCtrlSend_offLink ht
      · exact execReplayTimeout_offLink ht
      · exact execDelayReqSend_offLink ht
      · exact execDelayReqRx_offLink ht
      · exact execDelayRespRx_offLink ht
    simp only [State.offLink, Prod.mk.injEq] at hrest
    obtain ⟨hstate, hlink, hblobs, hports, hqm, hcasc, htime, hhouse, hiz, hrst, hhmp, hstations⟩ := hrest
    exact ⟨hstate, hlink, hblobs, hports, hqm, hcasc, htime, hhouse, hiz, hrst, hfuses, hhamper, hhmp, hstations, hpending⟩
  · obtain ⟨hrest, hpending, hfuses, hhamper⟩ : t.offStation u = s.offStation u ∧ t.pending = s.pending
        ∧ t.fuses = s.fuses ∧ t.hamper = s.hamper := by
      obtain ⟨n, rfl⟩ | ⟨f, rfl⟩ | rfl | ⟨n, rfl⟩ | ⟨b, rfl⟩ | ⟨b, rfl⟩ | rfl | ⟨b, rfl⟩ | ⟨b, rfl⟩ | ⟨w, rfl⟩ | ⟨f, rfl⟩
        | ⟨b, rfl⟩ | ⟨b, a, rfl⟩ | ⟨w, f, rfl⟩ | rfl | rfl | rfl | ⟨f, rfl⟩ | ⟨f, rfl⟩ := hi
      · exact execStationAnchor_offStation ht
      · exact execStationBeaconRx_offStation ht
      · exact execStationRegRequestSend_offStation ht
      · exact execStationRequestUnanswered_offStation ht
      · exact execStationAssignRx_offStation ht
      · exact execStationRefuseRx_offStation ht
      · exact execStationRefuseWaitEnd_offStation ht
      · exact execStationRangeReqRx_offStation ht
      · exact execStationAdjRx_offStation ht
      · exact execStationConfirmSend_offStation ht
      · exact execStationConfirmAck_offStation ht
      · exact execStationReleaseToSearch_offStation ht
      · exact execStationRefreshRx_offStation ht
      · exact execStationAlignedTx_offStation ht
      · exact execStationTLost_offStation ht
      · exact execStationRangingWait_offStation ht
      · exact execStationBellSend_offStation ht
      · exact execStationMgmtRequest_offStation ht
      · exact execStationCommissioningBind_offStation ht
    simp only [State.offStation, Prod.mk.injEq] at hrest
    obtain ⟨hstn, hregs, hblobs, htime, htimers, hmerge, hhouse, hports, hqm, hpf, hcasc, hiz, hpower, hfaults, hrst,
      hhmp⟩ := hrest
    exact ⟨fun v hv => congrFun hstn ⟨v, hv⟩, hpending, hregs, hblobs, htime, htimers, hmerge, hhouse, hports, hqm, hpf,
      hcasc, hiz, hpower, hfaults, hfuses, hrst, hhamper, hhmp⟩
  · obtain ⟨hrest, -, hfuses, hhamper⟩ : t.offPort p = s.offPort p ∧ t.pending = s.pending
        ∧ t.fuses = s.fuses ∧ t.hamper = s.hamper := by
      obtain rfl | rfl | rfl | rfl | ⟨e, rfl⟩ | rfl | rfl := hi
      · exact execPortEnable_offPort ht
      · exact execPortDisable_offPort ht
      · exact execDiscoverEnd_offPort ht
      · exact execPortPark_offPort ht
      · exact execListenEnd_offPort ht
      · exact execCheckRetry_offPort ht
      · exact execQuietRequest_offPort ht
    simp only [State.offPort, Prod.mk.injEq] at hrest
    obtain ⟨hstate, htime, hhouse, hcasc, hpower, hfaults, hrst, hhmp, hstations⟩ := hrest
    exact ⟨fun q hq => congrFun hstate ⟨q, hq⟩, htime, hhouse, hcasc, hpower, hfaults, hfuses, hrst, hhamper, hhmp,
      hstations⟩

end Sys2Proof.Machine
end

section
/-! The apply point of a line engine (R48, R145): a write to its keys waits as long as a key counts under its number. -/

namespace Sys2Proof.Machine

set_option Elab.async false

/-- A running device where a write to element 300 of port 0's keys waits, beside a key of port 1, element 44, which counts
under the same number, 300. A port has 256 keys, so no request brings this about; the statement is of every state. -/
def keyOfAnotherPort : State :=
  { State.reset with
    rst := { State.reset.rst with hold := 0, pllLocked := true }
    iz := { State.reset.iz with
      direct := [⟨.lineEngine 0, [(⟨0, 0, 300⟩, [])], ⟨.up, 0, 0, 0, 0, 0, 0, 0, 0, 0, [], 0, [], []⟩⟩]
      keyWrites := [(300, [])] } }

/-- Whether something waits for an island after a command. -/
def Res.applyWanted (i : Island) : Res → Bool
  | .next t => t.applyWanted i
  | _ => false

/-- At its apply point the line engine applies the keys of its own port, so the write goes on waiting. -/
theorem keyOfAnotherPort_waits :
    keyOfAnotherPort.runs = true ∧ keyOfAnotherPort.applyWanted (.lineEngine 0) = true
      ∧ keyOfAnotherPort.applyPoint (.lineEngine 0) = true
      ∧ Res.applyWanted (.lineEngine 0) (exec (.islandApply (.lineEngine 0)) keyOfAnotherPort) = true := by
  decide +kernel

/-- Refutes O13: in `keyOfAnotherPort` the line engine of port 0 is at its apply point, and after it applied what waits
for it something still does. -/
theorem not_recordsAndHouseFrameComplete : ¬ Obligations.RecordsAndHouseFrameComplete := by
  intro h
  obtain ⟨-, -, -, -, -, -, happly, -⟩ := h
  obtain ⟨hruns, hwanted, hpoint, hwaits⟩ := keyOfAnotherPort_waits
  obtain ⟨t, ht, -, -, hdone⟩ := happly keyOfAnotherPort (.lineEngine 0) hruns hwanted hpoint
  rw [ht] at hwaits
  exact Bool.false_ne_true (hdone.symm.trans hwaits)

end Sys2Proof.Machine
end

section
/-! Acquisition, pace and the test of a link: states of the model in which a command has an effect more than is stated of
it. The objects of such a state hold values that no request writes; the statements are of every state. -/

namespace Sys2Proof.Machine

set_option Elab.async false

/-- Whether a command leads to a state with a property. -/
def Res.leads (f : State → Bool) : Res → Bool
  | .next t => f t
  | _ => false

theorem Res.leads_next (f : State → Bool) (t : State) : Res.leads f (.next t) = f t := rfl

/-! ### A false sync (R150, R153) -/

/-- Port 0 serves and holds a frame whose header it has not read; its counter of ignored syncs stands past its range. -/
def pastCounter : State :=
  let s : State := { State.reset with rst := { State.reset.rst with pllLocked := true } }
  (((s.wr Reg.LP_STATE_state 0 0 stService).wr Reg.LP_RX_IGNORED 0 0 18446744073709551616).setPort 0
    fun q => { q with held := some ⟨0, 0, none, 0⟩ })

/-- The port loses no sync, and counting none of them brings the counter back into its range. -/
theorem pastCounter_changes :
    (pastCounter.runs = true ∧ pastCounter.hears 0 = true
      ∧ (pastCounter.port 0).held = some ⟨0, 0, none, 0⟩ ∧ (pastCounter.port 0).waiting = [])
    ∧ Res.leads (fun t => decide (t.regs = (pastCounter.cntLine 0 Reg.LP_RX_FALSE_SYNC).regs))
        (exec (.headerDecision 0 0 false none) pastCounter) = false := by
  decide +kernel

/-- Refutes O16: in `pastCounter` a false sync changes a counter besides its own. -/
theorem not_acquisitionCompletes : ¬ Obligations.AcquisitionCompletes := by
  intro h
  obtain ⟨-, -, -, -, -, hfalse, -⟩ := h
  obtain ⟨⟨hruns, hhears, hheld, hwaiting⟩, hchanges⟩ := pastCounter_changes
  obtain ⟨t, ht, -, -, hregs, -⟩ :=
    hfalse pastCounter 0 0 false none _ hruns hhears hheld rfl hwaiting (.inl rfl)
  rw [ht, Res.leads_next, decide_eq_false_iff_not] at hchanges
  exact hchanges hregs

/-! ### A pace after frame errors (R246) -/

/-- Address 1 of port 0 is active with two failed frames, no pace of its own and the upstream pace 5. -/
def failingStation : State :=
  let s : State := { State.reset with rst := { State.reset.rst with pllLocked := true } }
  ((((s.wr Reg.LP_STATE_state 0 0 stService).wr Reg.LP_STATION_state 0 1 3).wr Reg.LP_STATION_upstream_pace 0 1 5).setElem
    0 1 fun e => { e with paces := 0, failed := true, failures := [true, true] })

/-- An element number beyond every table: the downstream pace under it is stored where the upstream pace of address 1 is. -/
def farElement : Nat := 1048577

theorem failingStation_changes :
    (failingStation.steward = true ∧ failingStation.portState 0 = stService
      ∧ failingStation.rd Reg.LP_STATION_state 0 1 = 3 ∧ (failingStation.elem 0 1).failed = true
      ∧ 2 ≤ ((failingStation.elem 0 1).failures.filter id).length)
    ∧ Res.leads (fun t => decide (t.rd Reg.LP_STATION_downstream_pace 0 farElement
          = failingStation.rd Reg.LP_STATION_downstream_pace 0 farElement))
        (exec (.paceEvaluation 0 1 .upErrors ⟨[], 0, 0⟩) failingStation) = false := by
  decide +kernel

/-- Refutes O24: in `failingStation` the upstream pace that the evaluation changes reads as the downstream pace of an
element number outside the table. -/
theorem not_rangingAndPaceComplete : ¬ Obligations.RangingAndPaceComplete := by
  intro h
  obtain ⟨-, -, -, hup, -⟩ := h
  obtain ⟨⟨hsteward, hport, hactive, hfailed, hfailures⟩, hchanges⟩ := failingStation_changes
  obtain ⟨t, ht, -, -, hdown, -⟩ :=
    hup failingStation 0 1 ⟨[], 0, 0⟩ hsteward hport (by decide) hactive hfailed hfailures
  rw [ht, Res.leads_next, decide_eq_false_iff_not] at hchanges
  exact hchanges (hdown farElement)

/-! ### The test of a link (R393) -/

/-- A manager whose UP port is ACTIVE to a host adapter, and which is not a head yet; its host side is the DOWN port, which
is to be tested and keeps a parcel for replay. -/
def lateHead : State :=
  let s : State := { State.reset with
    rst := { State.reset.rst with pllLocked := true, straps := ⟨1, 0⟩ } }
  (((((s.wr Reg.PF_PORT_state 0 0 pfActive).wrB Reg.PF_PORT_partner 0 0 [6]).wr Reg.CASC_host_side 0 0 1).wr
    Reg.PF_PORT_test 1 0 1).setLink .down fun q => { q with replay := [⟨0, 0, 0, false, 0, false, 0, []⟩] })

theorem lateHead_changes :
    (lateHead.pfRuns = true ∧ lateHead.rd Reg.PF_PORT_test Side.down.n ≠ 0 ∧ lateHead.pfState .down ≠ pfTest
      ∧ lateHead.pfState .down ≠ pfOff)
    ∧ Res.leads (fun t => decide (t.link .down = lateHead.link .down)) (exec (.pfTestStart .down) lateHead) = false := by
  decide +kernel

/-- Refutes O39: in `lateHead` the start of a test makes the manager a head, and what its old host side kept for replay is
lost. -/
theorem not_linkServiceIdleAndTest : ¬ Obligations.LinkServiceIdleAndTest := by
  intro h
  obtain ⟨-, -, -, -, -, -, -, -, -, -, -, htest, -⟩ := h
  obtain ⟨⟨hruns, hsecs, hidle, hon⟩, hchanges⟩ := lateHead_changes
  obtain ⟨t, ht, -, -, hlink⟩ := htest lateHead .down hruns hsecs hidle hon
  rw [ht, Res.leads_next, decide_eq_false_iff_not] at hchanges
  exact hchanges hlink

/-! ### A registration (R223, R230) -/

/-- A REQUEST of the identity 77, sent at the start of the DISCOVER window. -/
def requestFrame : LineRx :=
  let payload := [1, 0] ++ be 8 77 ++ [0, 3] ++ List.replicate 10 0
  ⟨999950000, Header.word ⟨0, 0, 255, 3, 0, 22, 0, 0, 0, 0, 0, 0, 0⟩, true, payload ++ be 4 (crc32 payload), true, 0, 0,
    [], []⟩

/-- Port 0 is in DISCOVER and awaits the payload of that REQUEST. -/
def awaitingRequest : State :=
  let s : State := { State.reset with rst := { State.reset.rst with pllLocked := true } }
  (s.wr Reg.LP_STATE_state 0 0 stDiscover).setPort 0
    fun q => { q with awaited := [⟨requestFrame.sync, requestFrame.word, true⟩] }

theorem awaitingRequest_awaits :
    awaitingRequest.runs = true ∧ awaitingRequest.accessState 0 = true
      ∧ awaitingRequest.awaitsType 0 requestFrame tyReg = true ∧ (Header.ofWord requestFrame.word).src = 255 := by
  decide +kernel

theorem awaitingRequest_taken :
    (awaitingRequest.takeRx 0 requestFrame).1 = some (requestFrame.body.take 22)
      ∧ (awaitingRequest.takeRx 0 requestFrame).2.steward = true
      ∧ (awaitingRequest.takeRx 0 requestFrame).2.requestSlot 0 requestFrame.sync = some 1000000000 := by
  decide +kernel

theorem awaitingRequest_admitted :
    ((awaitingRequest.takeRx 0 requestFrame).2.registration 0 (slice (requestFrame.body.take 22) 2 20)).toOption
      = some 1 := by
  decide +kernel

/-- The identity of address 1, which the registration writes, is read as the state of `farElement`. -/
theorem awaitingRequest_changes :
    Res.leads (fun t => decide (t.rd Reg.LP_STATION_state 0 farElement
        = (awaitingRequest.takeRx 0 requestFrame).2.rd Reg.LP_STATION_state 0 farElement))
      (exec (.regRequestRx 0 requestFrame) awaitingRequest) = false := by
  decide +kernel

/-- Refutes O23: the registration that `awaitingRequest` makes changes what is read as the state of an address outside the
table. -/
theorem not_registrationAndReleaseComplete : ¬ Obligations.RegistrationAndReleaseComplete := by
  intro h
  obtain ⟨hrequest, -⟩ := h
  obtain ⟨hruns, haccess, hawaits, hsrc⟩ := awaitingRequest_awaits
  obtain ⟨hpayload, hsteward, hslot⟩ := awaitingRequest_taken
  have hadmitted : (awaitingRequest.takeRx 0 requestFrame).2.registration 0 (slice (requestFrame.body.take 22) 2 20)
      = .ok 1 := by
    have h1 := awaitingRequest_admitted
    revert h1
    cases (awaitingRequest.takeRx 0 requestFrame).2.registration 0 (slice (requestFrame.body.take 22) 2 20) with
    | error r => intro h1; exact absurd h1 (by simp [Except.toOption])
    | ok a => intro h1; exact congrArg Except.ok (Option.some.inj h1)
  have htaken : awaitingRequest.takeRx 0 requestFrame
      = (some (requestFrame.body.take 22), (awaitingRequest.takeRx 0 requestFrame).2) := by
    generalize awaitingRequest.takeRx 0 requestFrame = x at hpayload
    exact Prod.ext hpayload rfl
  obtain ⟨t, ht, -, -, -, -, -, -, -, -, -, hothers, -⟩ :=
    hrequest awaitingRequest (awaitingRequest.takeRx 0 requestFrame).2 0 requestFrame (requestFrame.body.take 22)
      1000000000 1 hruns haccess hawaits hsrc htaken hsteward hslot hadmitted (by decide) (by decide)
  have hchanges := awaitingRequest_changes
  rw [ht, Res.leads_next, decide_eq_false_iff_not] at hchanges
  exact hchanges (hothers farElement (by unfold farElement; omega))

/-! ### A request of a station (R226) -/

/-- What a station sends in the clear is one frame, and its header states the length of the payload. -/
theorem sendStation_out (s : State) (u : Nat) (mask : Option Nat) {h : Header} (hsa : h.sa = 0) (plain : Bytes)
    (start : Stamp) (level : Int) :
    ∃ f, (s.sendStation u mask h plain start level).out = .stationFrame u f :: s.out
      ∧ f.header.length = plain.length := by
  unfold State.sendStation
  simp only [hsa, ↓reduceIte]
  exact ⟨_, rfl, rfl⟩

@[simp] theorem drawSlot_out (s : State) (x : Stn) (w len air : Stamp) : (s.drawSlot x w len air).2.out = s.out := by
  unfold State.drawSlot
  dsimp only
  split <;> rfl

/-- A REQUEST is 2 bytes longer than the capability block of its station; without a slot for it nothing is sent. -/
theorem stationRegRequestSend_out {s t : State} {u : Nat} (ht : exec (.stationRegRequestSend u) s = .next t) :
    t.out = s.out ∨ ∃ f, t.out = .stationFrame u f :: s.out ∧ f.header.length = 2 + (s.stn u).block.length := by
  dsimp only [exec, execStationRegRequestSend] at ht
  by_cases hc : (s.stn u).state = snJoin ∧ (s.stn u).waitUntil = none ∧ (s.stn u).request = none
      ∧ (s.stn u).backoff = 0 ∧ (s.stn u).regOpen
  · rw [guarded_pos s hc] at ht
    obtain rfl := Host.Outcome.next.inj ht
    cases hdiscover : (s.stn u).discover with
    | none => exact .inl rfl
    | some window =>
      dsimp only
      cases hslot : ((s.drawSlot (s.stn u) window.1 window.2 (airLong (s.stn u).band 0 22)).1) with
      | none => exact .inl (drawSlot_out ..)
      | some start =>
        obtain ⟨f, hf, hlength⟩ := sendStation_out
          (s.drawSlot (s.stn u) window.1 window.2 (airLong (s.stn u).band 0 22)).2 u none
          (h := { upHeader (s.stn u) tyReg 0 with src := 255 }) rfl ([1, 0] ++ (s.stn u).block)
          ((s.stn u).startFor start)
          (min (s.stn u).maxLevel ((s.stn u).maxLevel - 120 + 30 * ((s.stn u).unanswered : Int)))
        exact .inr ⟨f, hf.trans (by rw [drawSlot_out]), hlength.trans (List.length_append ..)⟩
  · rw [guarded_neg s hc] at ht
    exact .inl (congrArg State.out (Host.Outcome.next.inj ht).symm)

/-- Station 0 has joined, its clock reads as its estimate, its one DISCOVER window lies ahead, and its capability block
is empty. -/
def blankStation : State :=
  State.reset.setStn 0 fun x =>
    { x with state := snJoin, caps := [], regOpen := true, anchor := some (0, 0), discover := some (1000000000, 200000000) }

/-- The capability block it sends has 9 bytes. -/
theorem blankStation_requests :
    ((blankStation.stn 0).state = snJoin ∧ (blankStation.stn 0).waitUntil = none ∧ (blankStation.stn 0).request = none
      ∧ (blankStation.stn 0).backoff = 0 ∧ (blankStation.stn 0).regOpen = true
      ∧ (blankStation.stn 0).discover = some (1000000000, 200000000)
      ∧ blankStation.time.mono ≤ (blankStation.stn 0).reading ((blankStation.stn 0).startFor 1000000000)
      ∧ (1000000000 : Stamp) ∉ (blankStation.stn 0).usedWindows
      ∧ airLong (blankStation.stn 0).band 0 22 + 500000 ≤ (200000000 : Stamp)
      ∧ slotLength (blankStation.stn 0).band ≤ (200000000 : Stamp)
      ∧ (∀ k ∈ List.range ((200000000 : Stamp) / slotLength (blankStation.stn 0).band).toNat,
        (blankStation.stn 0).slotted
            ((blankStation.stn 0).startFor ((1000000000 : Stamp) + k * slotLength (blankStation.stn 0).band)) = true
        ∧ (blankStation.stn 0).silent
            ((blankStation.stn 0).reading
              ((blankStation.stn 0).startFor ((1000000000 : Stamp) + k * slotLength (blankStation.stn 0).band)))
            ((blankStation.stn 0).reading
              ((blankStation.stn 0).startFor ((1000000000 : Stamp) + k * slotLength (blankStation.stn 0).band))
                + airLong (blankStation.stn 0).band 0 22) = true))
    ∧ (blankStation.stn 0).block.length = 9 := by
  decide +kernel

/-- Refutes O26: the REQUEST of `blankStation` states a length of 11 bytes. -/
theorem not_stationsJoinAndConfirm : ¬ Obligations.StationsJoinAndConfirm := by
  intro h
  obtain ⟨-, -, hrequest, -⟩ := h
  obtain ⟨⟨hstate, hwait, hnone, hbackoff, hopen, hdiscover, hahead, hunused, hair, hslot, hslots⟩, hblock⟩ :=
    blankStation_requests
  obtain ⟨t, ht, ⟨f, hf, -, -, -, -, hlength, -⟩, -⟩ :=
    hrequest blankStation 0 1000000000 200000000 hstate hwait hnone hbackoff hopen hdiscover hahead hunused hair hslot hslots
  obtain hsame | ⟨g, hg, hshort⟩ := stationRegRequestSend_out ht
  · exact absurd (congrArg List.length (hf.symm.trans hsame)) (by simp)
  · obtain rfl : g = f := by
      have := (List.cons.inj (hg.symm.trans hf)).1
      exact (Out.stationFrame.inj this).2
    omega

end Sys2Proof.Machine
end

section
/-! The cascade and the wake: states of the model in which a command has an effect besides the one stated of it. -/

namespace Sys2Proof.Machine

set_option Elab.async false

/-! ### A PROBE (R408) -/

theorem fifo_congr {s t : State} (h : t.qm = s.qm) (x : Side) (vc : Nat) : t.fifo x vc = s.fifo x vc := by
  unfold State.fifo
  rw [h]

theorem qm_of_links_changed {s t : State} (h : t = { s with
    regs := t.regs, blobs := t.blobs, pf := t.pf, timers := t.timers, casc := t.casc, out := t.out }) : t.qm = s.qm := by
  rw [h]

/-- A head in a cascade whose DOWN port is ACTIVE with credits, and on which a frame still waits for the host. -/
def headWithFrame : State :=
  let s : State := { State.reset with rst := { State.reset.rst with pllLocked := true } }
  ((((((s.wr Reg.CASC_acting_role 0 0 roleHead).wr Reg.CASC_member 0 0 1).wr Reg.PF_PORT_state 1 0 pfActive).arm
    .probeTx 0).setLink .down fun q => { q with limits := [512, 512, 512, 512], used := [0, 0, 0, 0] }).setFifo .down 0
      [⟨0, 0, 0, []⟩])

/-- Sending the PROBE drains the port, so that the frame leaves its FIFO. -/
theorem headWithFrame_changes :
    (headWithFrame.pfRuns = true ∧ headWithFrame.cascRuns = true ∧ headWithFrame.isHead = true
      ∧ headWithFrame.due .probeTx = true)
    ∧ Res.leads (fun t => decide (t.fifo .down 0 = headWithFrame.fifo .down 0)) (exec .probeOriginate headWithFrame)
        = false := by
  decide +kernel

/-- Refutes O41: in `headWithFrame` the PROBE of a head changes a FIFO. -/
theorem not_cascadeCompletes : ¬ Obligations.CascadeCompletes := by
  intro h
  obtain ⟨hprobe, -⟩ := h
  obtain ⟨⟨hruns, hcasc, hhead, hdue⟩, hchanges⟩ := headWithFrame_changes
  obtain ⟨t, ht, -, -, -, -, hrest⟩ := hprobe headWithFrame hruns hcasc hhead hdue
  rw [ht, Res.leads_next, decide_eq_false_iff_not] at hchanges
  exact hchanges (fifo_congr (qm_of_links_changed hrest) .down 0)

/-! ### The thermos check (R483) -/

/-- A device that wakes from SLEEP while the time of its power controller's island is not aligned. -/
def wokenUnaligned : State :=
  let s : State := { State.reset with rst := { State.reset.rst with pllLocked := true } }
  (s.setPower fun fld => { fld with wake := 2, slept := pmSleep, wakeAt := -1000000 }).setTime
    fun fld => { fld with unaligned := [srcPower] }

/-- The fault of a failed bank waits for its stamp, not for its cycle's decision. -/
theorem wokenUnaligned_changes :
    (wokenUnaligned.runs = true ∧ wokenUnaligned.power.wake = 2 ∧ wokenUnaligned.power.slept = pmSleep
      ∧ wokenUnaligned.power.wakeAt + 830000 ≤ wokenUnaligned.now ∧ wokenUnaligned.faults.pending = [])
    ∧ Res.leads (fun t => decide (t.faults.pending = [])) (exec (.thermosCheck [0] 0) wokenUnaligned) = true := by
  decide +kernel

/-- Refutes O47: in `wokenUnaligned` the fault of bank 0 is not among those that wait for a decision. -/
theorem not_wakeStepByStep : ¬ Obligations.WakeStepByStep := by
  intro h
  obtain ⟨-, -, -, -, -, -, -, -, hbank, -⟩ := h
  obtain ⟨⟨hruns, hwake, hslept, hat, hnone⟩, hstill⟩ := wokenUnaligned_changes
  obtain ⟨t, ht, -, -, f, hpending, -⟩ := hbank wokenUnaligned 0 0 hruns hwake hslept hat (.inl rfl)
  rw [ht, Res.leads_next, decide_eq_true_eq, hpending, hnone] at hstill
  exact List.cons_ne_nil _ _ hstill

end Sys2Proof.Machine
end

section
/-! A block at its boundary (R164, R169 to R171, R178, R195 to R199): what each stage of the canceller makes of it. -/

namespace Sys2Proof.Machine

set_option Elab.async false

variable {s : State} {p : Port}

theorem State.cntLine_eq (s : State) (p : Port) (o : Obj) (n : Int) :
    s.cntLine p o n = { s with regs := (s.cntLine p o n).regs } := by
  unfold State.cntLine
  split <;> rfl

/-- The canceller of a port after its change. -/
theorem State.ec_setEc (s : State) (p : Port) (f : EcState → EcState) : ((s.setEc p f).port p).ec = f (s.port p).ec := by
  unfold State.setEc
  rw [State.port_setPort_self]

theorem ecBlock_exec (b : BlockMeas) (hruns : s.runs = true) (hboundary : s.onBoundary p = true) :
    exec (.ecBlock p b) s = .next
      (((((s.ecSilent p (s.blockUse p b)).ecTake p (s.blockUse p b)).blockOver s p).quietApply p).keep s) :=
  guarded_pos s ⟨hruns, hboundary⟩

/-! ### The stages -/

/-- A port that sent in the block adds nothing to the noise. -/
theorem ecSilent_of_sent (b : BlockUse) (h : 0 < s.sentInBlock p) : s.ecSilent p b = s := by
  unfold State.ecSilent
  rw [if_neg]
  rintro ⟨hzero, -⟩
  exact absurd hzero h.ne'

/-- What a silent block adds to the noise (R178). -/
def EcState.noised (b : BlockUse) (now : Stamp) (q : EcState) : EcState :=
  { q with noise := (b.pRes :: q.noise).take 26, noiseAt := some now }

theorem ecSilent_of_silent (b : BlockUse) (h : s.sentInBlock p = 0 ∧ !s.syncInBlock p ∧ !s.upstreamInBlock p) :
    s.ecSilent p b = s.setEc p (EcState.noised b s.now) := if_pos h

theorem sent_of_admissible (h : s.admissible p = true) : 0 < s.sentInBlock p := by
  simp only [State.admissible, Bool.and_eq_true, decide_eq_true_eq] at h
  obtain ⟨⟨⟨⟨⟨hsent, -⟩, -⟩, -⟩, -⟩, -⟩ := h
  exact pos_of_mul_pos_right (lt_of_lt_of_le (by decide) hsent) (by decide)

theorem admissible_setEc {f : EcState → EcState} (hfrozen : ∀ q, (f q).frozen = q.frozen)
    (hend : ∀ q, (f q).freezeEnd = q.freezeEnd) : (s.setEc p f).admissible p = s.admissible p := by
  have hwindow (d : Stamp) : (s.setEc p f).windowTypeAt p ((s.setEc p f).now - d) = s.windowTypeAt p (s.now - d) := by
    unfold State.windowTypeAt State.windowInForce State.setEc
    rw [State.port_setPort_self]
    rfl
  unfold State.admissible State.sentInBlock State.syncInBlock State.upstreamInBlock
  simp only [hwindow]
  unfold State.setEc
  rw [State.port_setPort_self]
  simp only [hfrozen, hend]
  rfl

theorem ecTake_of_used (b : BlockUse) (hadmissible : s.admissible p = true)
    (hguard : guardPasses (s.port p).ec.residuals b.pRes = true) : s.ecTake p b = (s.ecAdapt p b).ecUse p b := by
  unfold State.ecTake
  rw [if_pos hadmissible, if_pos hguard]

theorem ecTake_of_guarded (b : BlockUse) (hadmissible : s.admissible p = true)
    (hguard : guardPasses (s.port p).ec.residuals b.pRes = false) :
    s.ecTake p b = (s.cntLine p Reg.LP_EC_GUARDED).setEc p fun q => { q with guardRun := q.guardRun + 1 } := by
  unfold State.ecTake
  rw [if_pos hadmissible, if_neg (by rw [hguard]; exact Bool.false_ne_true)]

/-- The end of a run of guarded blocks. -/
def EcState.unguarded (q : EcState) : EcState := { q with guardRun := 0, guardFired := false }

theorem ecTake_of_not_admissible (b : BlockUse) (hadmissible : s.admissible p = false) :
    s.ecTake p b = s.setEc p EcState.unguarded := by
  unfold State.ecTake
  rw [if_neg (by rw [hadmissible]; exact Bool.false_ne_true)]
  rfl

/-- What an LMS update does to the canceller (R169). -/
def EcState.adapted (l : Nat) (power : List Nat) (g : List (Int × Int)) (q : EcState) : EcState :=
  { q with taps := addTaps l q.taps g, power := power, updatedSincePub := true, restored := false }

/-- What a collected update does to it (R195). -/
def EcState.collects (power : List Nat) (g : List (Int × Int)) (b : BlockUse) (q : EcState) : EcState :=
  { q with collected := q.collected ++ [g], power := power, collIn := q.collIn + b.pIn, collRes := q.collRes + b.pRes }

/-- The running power estimates after a block. -/
def State.blockPower (s : State) (p : Port) (b : BlockUse) : List Nat := Config.lmsPower (s.port p).ec.power b.ref

/-- The update that a block makes at the step an object gives. -/
def State.blockUpdate (s : State) (p : Port) (b : BlockUse) (o : Obj) : List (Int × Int) :=
  Config.lmsIncrement (s.rdN o p) (s.blockPower p b) b.ref b.error

theorem ecAdapt_of_tracking (b : BlockUse) (h : s.rd Reg.LP_EC_state p = ecTracking) :
    s.ecAdapt p b = s.setEc p
      (EcState.adapted (s.port p).band.taps (s.blockPower p b) (s.blockUpdate p b Reg.LP_EC_tracking_step)) := by
  have htraining : ¬ s.rd Reg.LP_EC_state p = ecTraining := by rw [h]; decide
  unfold State.ecAdapt
  simp only [if_neg htraining, if_pos h]
  rfl

theorem ecAdapt_of_training (b : BlockUse) (h : s.rd Reg.LP_EC_state p = ecTraining) (hport : s.portState p ≠ stQuiet) :
    s.ecAdapt p b = s.setEc p fun q =>
      { EcState.adapted (s.port p).band.taps (s.blockPower p b) (s.blockUpdate p b Reg.LP_EC_training_step) q with
        trainBlocks := q.trainBlocks + 1 } := by
  unfold State.ecAdapt
  rw [if_pos h, if_neg (by simp [hport])]
  rfl

theorem ecAdapt_of_quiet (b : BlockUse) (h : s.rd Reg.LP_EC_state p = ecQuiet) (hport : s.portState p = stQuiet)
    (hretrain : (s.port p).ec.retrainScheduled = false) (hrefresh : s.refreshBlock p = true) :
    s.ecAdapt p b = s.setEc p
      (EcState.collects (s.blockPower p b) (s.blockUpdate p b Reg.LP_EC_quiet_step) b) := by
  have htraining : ¬ s.rd Reg.LP_EC_state p = ecTraining := by rw [h]; decide
  have htracking : ¬ s.rd Reg.LP_EC_state p = ecTracking := by rw [h]; decide
  unfold State.ecAdapt
  rw [if_neg htraining, if_neg htracking, if_pos (by simp [h, hport, hretrain, hrefresh])]
  rfl

/-- What an update leaves of a state, and of the measurement in progress. -/
def State.MeasuresAs (t s : State) (p : Port) : Prop :=
  t = { s with ports := t.ports } ∧ (t.port p).ec.blocks = (s.port p).ec.blocks
    ∧ (t.port p).ec.pIn = (s.port p).ec.pIn ∧ (t.port p).ec.pRes = (s.port p).ec.pRes
    ∧ (t.port p).ec.erleDone = (s.port p).ec.erleDone ∧ t.ecNoise p = s.ecNoise p
    ∧ (t.port p).quiet = (s.port p).quiet

theorem ecNoise_setEc {f : EcState → EcState} (hnoise : ∀ q, (f q).noise = q.noise) (hat : ∀ q, (f q).noiseAt = q.noiseAt) :
    (s.setEc p f).ecNoise p = s.ecNoise p := by
  unfold State.ecNoise
  simp only [State.ec_setEc, hnoise, hat]
  rfl

theorem quiet_setEc (f : EcState → EcState) : ((s.setEc p f).port p).quiet = (s.port p).quiet := by
  unfold State.setEc
  rw [State.port_setPort_self]

theorem measuresAs_setEc {f : EcState → EcState} (hblocks : ∀ q, (f q).blocks = q.blocks)
    (hin : ∀ q, (f q).pIn = q.pIn) (hres : ∀ q, (f q).pRes = q.pRes) (hdone : ∀ q, (f q).erleDone = q.erleDone)
    (hnoise : ∀ q, (f q).noise = q.noise) (hat : ∀ q, (f q).noiseAt = q.noiseAt) : (s.setEc p f).MeasuresAs s p :=
  ⟨rfl, by rw [State.ec_setEc, hblocks], by rw [State.ec_setEc, hin], by rw [State.ec_setEc, hres],
    by rw [State.ec_setEc, hdone], ecNoise_setEc hnoise hat, quiet_setEc f⟩

theorem ecAdapt_measuresAs (b : BlockUse) : (s.ecAdapt p b).MeasuresAs s p := by
  have hself : s.MeasuresAs s p := ⟨rfl, rfl, rfl, rfl, rfl, rfl, rfl⟩
  unfold State.ecAdapt
  dsimp only
  split
  · split
    · exact hself
    · exact measuresAs_setEc (fun _ => rfl) (fun _ => rfl) (fun _ => rfl) (fun _ => rfl) (fun _ => rfl) (fun _ => rfl)
  · split
    · exact measuresAs_setEc (fun _ => rfl) (fun _ => rfl) (fun _ => rfl) (fun _ => rfl) (fun _ => rfl) (fun _ => rfl)
    · split
      · exact measuresAs_setEc (fun _ => rfl) (fun _ => rfl) (fun _ => rfl) (fun _ => rfl) (fun _ => rfl) (fun _ => rfl)
      · exact hself

/-- What a used block does to the measurement in progress before it is complete (R171, R178). -/
def EcState.enters (b : BlockUse) (q : EcState) : EcState :=
  { q with residuals := (b.pRes :: q.residuals).take 16, guardRun := 0, guardFired := false,
           blocks := q.blocks + 1, pIn := q.pIn + b.pIn, pRes := q.pRes + b.pRes }

theorem ecUse_ec (b : BlockUse) (h : (s.port p).ec.blocks < 25) :
    ((s.ecUse p b).port p).ec = (s.port p).ec.enters b := by
  unfold State.ecUse
  rw [State.ec_setEc]
  exact if_pos (Nat.add_lt_add_right h 1)

theorem ecUse_ec_full (b : BlockUse) (h : 25 ≤ (s.port p).ec.blocks) :
    ((s.ecUse p b).port p).ec
      = { (s.port p).ec.enters b with blocks := 0, pIn := 0, pRes := 0, erleDone := (s.port p).ec.erleDone ++
          [⟨(s.port p).ec.pIn + b.pIn, (s.port p).ec.pRes + b.pRes, s.ecNoise p, s.now⟩] } := by
  unfold State.ecUse
  rw [State.ec_setEc]
  exact if_neg (Nat.not_lt.mpr (Nat.add_le_add_right h 1))

/-- A used block leaves the taps and what is collected, whether the measurement completes with it or not. -/
theorem ecUse_keeps {α : Type} (g : EcState → α) (b : BlockUse) (henters : ∀ q : EcState, g (q.enters b) = g q)
    (hdone : ∀ (q : EcState) (l : List ErleDone), g { q with blocks := 0, pIn := 0, pRes := 0, erleDone := l } = g q) :
    g ((s.ecUse p b).port p).ec = g (s.port p).ec := by
  obtain h | h := Nat.lt_or_ge (s.port p).ec.blocks 25
  · rw [ecUse_ec b h, henters]
  · rw [ecUse_ec_full b h, hdone, henters]

/-- The taps kept for a publication are the only part of the canceller that the end of a block sets. -/
theorem blockOver_ec (t s : State) (p : Port) :
    ∃ u, ((t.blockOver s p).port p).ec = { (t.port p).ec with used := some u } := by
  unfold State.blockOver
  rw [State.port_setPort_self]
  exact ⟨_, State.ec_setEc ..⟩

theorem quietApply_of_not_quiet (h : s.rd Reg.LP_EC_state p ≠ ecQuiet) : s.quietApply p = s := by
  unfold State.quietApply
  exact if_pos (.inr (.inl h))

theorem quietApply_before_end (h : s.time.mono < (s.port p).quiet.refresh.2) : s.quietApply p = s := by
  unfold State.quietApply
  exact if_pos (.inr (.inr h))

/-- Collected updates that the gate fails are dropped and their cycle counted (R197). -/
def EcState.gatedOut (cycle : Nat) (q : EcState) : EcState :=
  { q with collected := [], collIn := 0, collRes := 0, gateFails := failRun q.gateFails q.failedCycle cycle
           failedCycle := cycle }

/-- Collected updates that apply give the taps and end the run of failed gates (R195). -/
def EcState.applied (taps : List (Int × Int)) (q : EcState) : EcState :=
  { q with taps := taps, collected := [], collIn := 0, collRes := 0, gateFails := 0, updatedSincePub := true
           restored := false }

/-- The collected updates at the first boundary after the REFRESH: the gate fails them (R197). -/
theorem quietApply_of_gate (hcollected : (s.port p).ec.collected ≠ []) (hstate : s.rd Reg.LP_EC_state p = ecQuiet)
    (hover : (s.port p).quiet.refresh.2 ≤ s.time.mono)
    (hgate : erleOf (s.port p).ec.collIn (s.port p).ec.collRes (s.port p).ec.collected.length (s.ecNoise p)
      < 5 * s.rd Reg.LP_QUIET_canceller_gate p) :
    s.quietApply p = (s.setEc p (EcState.gatedOut (s.port p).quiet.cycle)).cntLine p Reg.LP_QUIET_GATED_OUT
        (s.port p).ec.collected.length := by
  unfold State.quietApply
  rw [if_neg, if_pos hgate]
  · rfl
  rintro (hnone | hother | hbefore)
  · exact hcollected (List.eq_nil_of_length_eq_zero hnone)
  · exact hother hstate
  · exact absurd hbefore (not_lt.mpr hover)

/-- The taps after the collected updates have applied together, with leakage (R195, R197). -/
def State.appliedTaps (s : State) (p : Port) : List (Int × Int) :=
  (s.port p).ec.collected.foldl (fun w g => leakAll (s.rdN Reg.LP_EC_quiet_leakage p)
    (addTaps (s.port p).band.taps w g) ((s.port p).ec.snap.getD [])) (s.port p).ec.taps

/-- They apply when the gate passes and nothing has drifted (R199). -/
theorem quietApply_of_pass (hcollected : (s.port p).ec.collected ≠ []) (hstate : s.rd Reg.LP_EC_state p = ecQuiet)
    (hover : (s.port p).quiet.refresh.2 ≤ s.time.mono)
    (hgate : 5 * s.rd Reg.LP_QUIET_canceller_gate p
      ≤ erleOf (s.port p).ec.collIn (s.port p).ec.collRes (s.port p).ec.collected.length (s.ecNoise p))
    (hdrift : ∀ x, (s.port p).ec.snap = some x → driftOctave (s.port p).band (s.rdN Reg.LP_QUIET_drift_limit p)
      (tapPowers (s.appliedTaps p)) (tapPowers x) = none) :
    s.quietApply p = (s.setEc p (EcState.applied (s.appliedTaps p))).cntLine p Reg.LP_QUIET_APPLIED
        (s.port p).ec.collected.length := by
  have hdue : ¬ ((s.port p).ec.collected.length = 0 ∨ s.rd Reg.LP_EC_state p ≠ ecQuiet
      ∨ s.time.mono < (s.port p).quiet.refresh.2) := by
    rintro (hnone | hother | hbefore)
    · exact hcollected (List.eq_nil_of_length_eq_zero hnone)
    · exact hother hstate
    · exact absurd hbefore (not_lt.mpr hover)
  unfold State.quietApply
  rw [if_neg hdue, if_neg (not_lt.mpr hgate)]
  have hband (f : EcState → EcState) (n : Int) :
      (((s.setEc p f).cntLine p Reg.LP_QUIET_APPLIED n).port p).band = (s.port p).band := by
    rw [State.port_congr (State.cntLine_ports ..)]
    unfold State.setEc
    rw [State.port_setPort_self]
  have hlimit (f : EcState → EcState) (n : Int) : ((s.setEc p f).cntLine p Reg.LP_QUIET_APPLIED n).rdN
      Reg.LP_QUIET_drift_limit p = s.rdN Reg.LP_QUIET_drift_limit p := by
    unfold State.rdN
    rw [State.rd_cntLine_other _ _ Obj.key_ne]
    rfl
  dsimp only
  split
  · rfl
  · next x hx =>
    rw [hband, hlimit]
    have hnone := hdrift x hx
    unfold State.appliedTaps at hnone
    rw [hnone]
    rfl

theorem quiet_blockOver (t s : State) (p : Port) : ((t.blockOver s p).port p).quiet = (t.port p).quiet := by
  unfold State.blockOver
  rw [State.port_setPort_self]
  exact quiet_setEc _

/-! ### The whole block -/

/-- A used block outside the application of collected updates: the canceller as its update and its measurement leave it. -/
theorem ecBlock_used (b : BlockMeas) (hruns : s.runs = true) (hboundary : s.onBoundary p = true)
    (hadmissible : s.admissible p = true) (hguard : guardPasses (s.port p).ec.residuals (s.blockUse p b).pRes = true)
    (hquiet : s.rd Reg.LP_EC_state p ≠ ecQuiet ∨ s.time.mono < (s.port p).quiet.refresh.2) :
    ∃ t u, exec (.ecBlock p b) s = .next t ∧ t = { s with ports := t.ports }
      ∧ (t.port p).ec
        = { (((s.ecAdapt p (s.blockUse p b)).ecUse p (s.blockUse p b)).port p).ec with used := some u } := by
  have hexec := ecBlock_exec b hruns hboundary
  rw [ecSilent_of_sent _ (sent_of_admissible hadmissible), ecTake_of_used _ hadmissible hguard] at hexec
  obtain ⟨hports, -, -, -, -, -, hsame⟩ := ecAdapt_measuresAs (s := s) (p := p) (s.blockUse p b)
  generalize s.ecAdapt p (s.blockUse p b) = a at hexec hports hsame ⊢
  have hregs : a.regs = s.regs := by rw [hports]
  have hover : ((a.ecUse p (s.blockUse p b)).blockOver s p).quietApply p = (a.ecUse p (s.blockUse p b)).blockOver s p := by
    obtain hstate | hbefore := hquiet
    · exact quietApply_of_not_quiet fun h => hstate ((State.rd_congr hregs ..).symm.trans h)
    · refine quietApply_before_end ?_
      rw [quiet_blockOver, show ((a.ecUse p (s.blockUse p b)).port p).quiet = (a.port p).quiet from quiet_setEc _, hsame]
      rw [hports]
      exact hbefore
  rw [hover] at hexec
  obtain ⟨u, hu⟩ := blockOver_ec (a.ecUse p (s.blockUse p b)) s p
  refine ⟨_, u, hexec, ?_, hu⟩
  rw [hports]
  rfl

/-- A block that is not used, outside the application of collected updates. -/
theorem ecBlock_unused (b : BlockMeas) (hruns : s.runs = true) (hboundary : s.onBoundary p = true) {t : State}
    (hstate : t.rd Reg.LP_EC_state p ≠ ecQuiet) (htake : (s.ecSilent p (s.blockUse p b)).ecTake p (s.blockUse p b) = t) :
    ∃ u, exec (.ecBlock p b) s = .next ((t.blockOver s p).keep s)
      ∧ (((t.blockOver s p).keep s).port p).ec = { (t.port p).ec with used := some u } := by
  have hexec := ecBlock_exec b hruns hboundary
  rw [htake, quietApply_of_not_quiet (s := t.blockOver s p) hstate] at hexec
  obtain ⟨u, hu⟩ := blockOver_ec t s p
  exact ⟨u, hexec, hu⟩

/-- A block that is not admitted, as the application of collected updates finds it. -/
def State.blockLeft (s : State) (p : Port) : State := (s.setEc p EcState.unguarded).blockOver s p

theorem blockLeft_eq (s : State) (p : Port) : s.blockLeft p = { s with ports := (s.blockLeft p).ports } := rfl

theorem rd_blockLeft (s : State) (p : Port) (o : Obj) (i j : Nat) : (s.blockLeft p).rd o i j = s.rd o i j := rfl

theorem rdN_blockLeft (s : State) (p : Port) (o : Obj) (i j : Nat) : (s.blockLeft p).rdN o i j = s.rdN o i j := rfl

theorem quiet_blockLeft (s : State) (p : Port) : ((s.blockLeft p).port p).quiet = (s.port p).quiet :=
  (quiet_blockOver ..).trans (quiet_setEc _)

theorem ec_blockLeft (s : State) (p : Port) :
    ∃ u, ((s.blockLeft p).port p).ec = { (s.port p).ec.unguarded with used := some u } := by
  obtain ⟨u, hu⟩ := blockOver_ec (s.setEc p EcState.unguarded) s p
  rw [State.ec_setEc] at hu
  exact ⟨u, hu⟩

theorem band_blockLeft (s : State) (p : Port) : ((s.blockLeft p).port p).band = (s.port p).band := by
  unfold State.blockLeft State.blockOver State.setEc
  rw [State.port_setPort_self, State.port_setPort_self, State.port_setPort_self]

theorem ec_blockLeft_keeps {α : Type} (g : EcState → α) (s : State) (p : Port)
    (h : ∀ (q : EcState) u, g { q.unguarded with used := u } = g q) : g ((s.blockLeft p).port p).ec = g (s.port p).ec := by
  obtain ⟨u, hu⟩ := ec_blockLeft s p
  rw [hu, h]

theorem collected_blockLeft (s : State) (p : Port) : ((s.blockLeft p).port p).ec.collected = (s.port p).ec.collected :=
  ec_blockLeft_keeps EcState.collected s p fun _ _ => rfl

theorem collIn_blockLeft (s : State) (p : Port) : ((s.blockLeft p).port p).ec.collIn = (s.port p).ec.collIn :=
  ec_blockLeft_keeps EcState.collIn s p fun _ _ => rfl

theorem collRes_blockLeft (s : State) (p : Port) : ((s.blockLeft p).port p).ec.collRes = (s.port p).ec.collRes :=
  ec_blockLeft_keeps EcState.collRes s p fun _ _ => rfl

theorem taps_blockLeft (s : State) (p : Port) : ((s.blockLeft p).port p).ec.taps = (s.port p).ec.taps :=
  ec_blockLeft_keeps EcState.taps s p fun _ _ => rfl

theorem snap_blockLeft (s : State) (p : Port) : ((s.blockLeft p).port p).ec.snap = (s.port p).ec.snap :=
  ec_blockLeft_keeps EcState.snap s p fun _ _ => rfl

theorem appliedTaps_blockLeft (s : State) (p : Port) : (s.blockLeft p).appliedTaps p = s.appliedTaps p := by
  unfold State.appliedTaps
  rw [collected_blockLeft, taps_blockLeft, snap_blockLeft, band_blockLeft, rdN_blockLeft]

theorem ecNoise_blockLeft (h : (s.port p).ec.noiseAt = none) : (s.blockLeft p).ecNoise p = [] := by
  obtain ⟨u, hu⟩ := ec_blockLeft s p
  unfold State.ecNoise
  rw [hu]
  dsimp only [EcState.unguarded]
  rw [h]

theorem ecBlock_applies (b : BlockMeas) (hruns : s.runs = true) (hboundary : s.onBoundary p = true)
    (hadmissible : s.admissible p = false) (hsent : 0 < s.sentInBlock p) :
    exec (.ecBlock p b) s = .next (((s.blockLeft p).quietApply p).keep s) := by
  rw [ecBlock_exec b hruns hboundary, ecSilent_of_sent _ hsent, ecTake_of_not_admissible _ hadmissible]
  rfl

theorem State.cntLine_regs_congr {s t : State} (h : t.regs = s.regs) (p : Port) (o : Obj) (n : Int) :
    (t.cntLine p o n).regs = (s.cntLine p o n).regs := by
  unfold State.cntLine State.portState State.inc State.wr
  simp only [State.rd_congr h, h]
  split
  · rfl
  · exact h

/-- The state that counting after a change of the canceller leaves. -/
theorem counted_eq (s : State) (p : Port) (f : EcState → EcState) (o : Obj) (n : Int) :
    (((s.blockLeft p).setEc p f).cntLine p o n).keep s
      = { s with regs := ((((s.blockLeft p).setEc p f).cntLine p o n).keep s).regs
                 ports := ((((s.blockLeft p).setEc p f).cntLine p o n).keep s).ports } := by
  rw [State.cntLine_eq]
  rfl

theorem counted_regs (s : State) (p : Port) (f : EcState → EcState) (o : Obj) (n : Int) :
    ((((s.blockLeft p).setEc p f).cntLine p o n).keep s).regs = (s.cntLine p o n).regs :=
  State.cntLine_regs_congr (s := s) (t := (s.blockLeft p).setEc p f) rfl p o n

theorem counted_ec (s : State) (p : Port) (f : EcState → EcState) (o : Obj) (n : Int) :
    (((((s.blockLeft p).setEc p f).cntLine p o n).keep s).port p).ec = f ((s.blockLeft p).port p).ec := by
  rw [State.port_keep, State.port_congr (State.cntLine_ports ..), State.ec_setEc]

theorem ecBlock_passes (b : BlockMeas) (hruns : s.runs = true) (hboundary : s.onBoundary p = true)
    (hadmissible : s.admissible p = false) (hstate : s.rd Reg.LP_EC_state p = ecQuiet)
    (hover : (s.port p).quiet.refresh.2 ≤ s.time.mono) (hcollected : (s.port p).ec.collected ≠ [])
    (hnone : (s.port p).ec.noiseAt = none) (hsent : 0 < s.sentInBlock p)
    (hgate : 5 * s.rd Reg.LP_QUIET_canceller_gate p
      ≤ erleOf (s.port p).ec.collIn (s.port p).ec.collRes (s.port p).ec.collected.length [])
    (hdrift : ∀ x, (s.port p).ec.snap = some x → driftOctave (s.port p).band (s.rdN Reg.LP_QUIET_drift_limit p)
      (tapPowers (s.appliedTaps p)) (tapPowers x) = none) :
    Completes (.ecBlock p b) s fun t => t = { s with regs := t.regs, ports := t.ports }
      ∧ (t.port p).ec.taps = s.appliedTaps p ∧ (t.port p).ec.collected = [] ∧ (t.port p).ec.gateFails = 0
      ∧ t.regs = (s.cntLine p Reg.LP_QUIET_APPLIED (s.port p).ec.collected.length).regs := by
  have hexec := ecBlock_applies b hruns hboundary hadmissible hsent
  rw [quietApply_of_pass (s := s.blockLeft p) (by rw [collected_blockLeft]; exact hcollected)
    (by rw [rd_blockLeft]; exact hstate) (by rw [quiet_blockLeft]; exact hover)
    (by rw [collected_blockLeft, collIn_blockLeft, collRes_blockLeft, rd_blockLeft, ecNoise_blockLeft hnone]; exact hgate)
    (by rw [appliedTaps_blockLeft, band_blockLeft, snap_blockLeft, rdN_blockLeft]; exact hdrift),
    appliedTaps_blockLeft, collected_blockLeft] at hexec
  refine ⟨_, hexec, counted_eq .., ?_, ?_, ?_, counted_regs ..⟩
  all_goals
    rw [counted_ec]
    rfl

theorem ecBlock_gatedOut (b : BlockMeas) (hruns : s.runs = true) (hboundary : s.onBoundary p = true)
    (hadmissible : s.admissible p = false) (hstate : s.rd Reg.LP_EC_state p = ecQuiet)
    (hover : (s.port p).quiet.refresh.2 ≤ s.time.mono) (hcollected : (s.port p).ec.collected ≠ [])
    (hnone : (s.port p).ec.noiseAt = none) (hsent : 0 < s.sentInBlock p)
    (hgate : erleOf (s.port p).ec.collIn (s.port p).ec.collRes (s.port p).ec.collected.length []
      < 5 * s.rd Reg.LP_QUIET_canceller_gate p) :
    Completes (.ecBlock p b) s fun t => t = { s with regs := t.regs, ports := t.ports }
      ∧ (t.port p).ec.taps = (s.port p).ec.taps ∧ (t.port p).ec.collected = []
      ∧ (t.port p).ec.gateFails = failRun (s.port p).ec.gateFails (s.port p).ec.failedCycle (s.port p).quiet.cycle
      ∧ t.regs = (s.cntLine p Reg.LP_QUIET_GATED_OUT (s.port p).ec.collected.length).regs := by
  have hexec := ecBlock_applies b hruns hboundary hadmissible hsent
  rw [quietApply_of_gate (s := s.blockLeft p) (by rw [collected_blockLeft]; exact hcollected)
    (by rw [rd_blockLeft]; exact hstate) (by rw [quiet_blockLeft]; exact hover)
    (by rw [collected_blockLeft, collIn_blockLeft, collRes_blockLeft, rd_blockLeft, ecNoise_blockLeft hnone]; exact hgate),
    collected_blockLeft, quiet_blockLeft] at hexec
  refine ⟨_, hexec, counted_eq .., ?_, ?_, ?_, counted_regs ..⟩
  · rw [counted_ec]
    exact taps_blockLeft s p
  · rw [counted_ec]
    rfl
  · rw [counted_ec]
    exact ec_blockLeft_keeps (fun q => failRun q.gateFails q.failedCycle (s.port p).quiet.cycle) s p fun _ _ => rfl

/-- Settles O18, stage by stage: `ecBlock_used` for an admitted block that passes the guard, `ecBlock_unused` for one that
does not, `ecBlock_applies` for the first boundary after the REFRESH. -/
theorem cancellerBlockCompletes : Obligations.CancellerBlockCompletes := by
  unfold Obligations.CancellerBlockCompletes
  refine ⟨?_, ?_, ?_, ?_, ?_, ?_, ?_, ?_⟩
  · intro s p b hruns hboundary hadmissible hguard hstate hblocks
    obtain ⟨t, u, hexec, ht, hec⟩ := ecBlock_used b hruns hboundary hadmissible hguard (.inl (by rw [hstate]; decide))
    rw [ecAdapt_of_tracking _ hstate, ecUse_ec _ (by rw [State.ec_setEc]; exact hblocks), State.ec_setEc] at hec
    refine ⟨t, hexec, ht, ?_⟩
    rw [hec]
    exact ⟨rfl, rfl, rfl, rfl, rfl, rfl, rfl⟩
  · intro s p b hruns hboundary hadmissible hguard hstate hport
    obtain ⟨t, u, hexec, ht, hec⟩ := ecBlock_used b hruns hboundary hadmissible hguard (.inl (by rw [hstate]; decide))
    refine ⟨t, hexec, ht, ?_⟩
    rw [hec]
    refine ⟨?_, ?_⟩
    · refine (ecUse_keeps EcState.taps _ (fun _ => rfl) fun _ _ => rfl).trans ?_
      rw [ecAdapt_of_training _ hstate hport, State.ec_setEc]
      rfl
    · refine (ecUse_keeps EcState.trainBlocks _ (fun _ => rfl) fun _ _ => rfl).trans ?_
      rw [ecAdapt_of_training _ hstate hport, State.ec_setEc]
  · intro s p b hruns hboundary hadmissible hguard hstate hblocks
    obtain ⟨t, u, hexec, ht, hec⟩ := ecBlock_used b hruns hboundary hadmissible hguard (.inl hstate)
    obtain ⟨hports, hb, hin, hres, hdone, hnoise, -⟩ := ecAdapt_measuresAs (s := s) (p := p) (s.blockUse p b)
    rw [ecUse_ec_full _ (by rw [hb]; exact hblocks), hdone, hin, hres, hnoise] at hec
    refine ⟨t, hexec, ?_⟩
    dsimp only
    rw [hec]
    refine ⟨rfl, rfl, rfl, ?_⟩
    rw [hports]
    rfl
  · intro s p b hruns hboundary hadmissible hguard hstate
    have hrest : ((s.cntLine p Reg.LP_EC_GUARDED).setEc p fun q => { q with guardRun := q.guardRun + 1 }).rd
        Reg.LP_EC_state p ≠ ecQuiet := by
      rw [State.rd_setEc, State.rd_cntLine_other _ _ Obj.key_ne]
      exact hstate
    obtain ⟨u, hexec, hec⟩ := ecBlock_unused b hruns hboundary hrest (by
      rw [ecSilent_of_sent _ (sent_of_admissible hadmissible), ecTake_of_guarded _ hadmissible hguard])
    rw [State.ec_setEc, State.port_congr (State.cntLine_ports ..)] at hec
    refine ⟨_, hexec, ?_⟩
    dsimp only
    rw [hec]
    refine ⟨?_, rfl, rfl, rfl, rfl, rfl⟩
    rw [State.cntLine_eq]
    rfl
  · intro s p b hruns hboundary hadmissible hstate
    by_cases hsilent : s.sentInBlock p = 0 ∧ !s.syncInBlock p ∧ !s.upstreamInBlock p
    · have hstill : (s.setEc p (EcState.noised (s.blockUse p b) s.now)).admissible p = false := by
        rw [admissible_setEc (f := EcState.noised (s.blockUse p b) s.now) (fun _ => rfl) fun _ => rfl]
        exact hadmissible
      obtain ⟨u, hexec, hec⟩ := ecBlock_unused (t := (s.setEc p (EcState.noised (s.blockUse p b) s.now)).setEc p
          EcState.unguarded) b hruns hboundary hstate (by
        rw [ecSilent_of_silent _ hsilent, ecTake_of_not_admissible _ hstill])
      rw [State.ec_setEc, State.ec_setEc] at hec
      refine ⟨_, hexec, rfl, ?_⟩
      rw [hec]
      exact ⟨rfl, rfl, rfl, rfl, (if_pos (by simpa using hsilent)).symm⟩
    · obtain ⟨u, hexec, hec⟩ := ecBlock_unused (t := s.setEc p EcState.unguarded) b hruns hboundary hstate (by
          rw [show s.ecSilent p (s.blockUse p b) = s from if_neg hsilent, ecTake_of_not_admissible _ hadmissible])
      rw [State.ec_setEc] at hec
      refine ⟨_, hexec, rfl, ?_⟩
      rw [hec]
      exact ⟨rfl, rfl, rfl, rfl, (if_neg (by simpa using hsilent)).symm⟩
  · intro s p b hruns hboundary hadmissible hguard hstate hport hretrain hrefresh hbefore
    obtain ⟨t, u, hexec, ht, hec⟩ := ecBlock_used b hruns hboundary hadmissible hguard (.inr hbefore)
    have hadapt := ecAdapt_of_quiet (s.blockUse p b) hstate hport hretrain hrefresh
    refine ⟨t, hexec, ht, ?_⟩
    rw [hec]
    refine ⟨(ecUse_keeps EcState.taps _ (fun _ => rfl) fun _ _ => rfl).trans ?_,
      (ecUse_keeps EcState.collected _ (fun _ => rfl) fun _ _ => rfl).trans ?_,
      (ecUse_keeps EcState.collIn _ (fun _ => rfl) fun _ _ => rfl).trans ?_,
      (ecUse_keeps EcState.collRes _ (fun _ => rfl) fun _ _ => rfl).trans ?_⟩
    all_goals
      rw [hadapt, State.ec_setEc]
      rfl
  · intro s p b w hruns hboundary hadmissible hstate hover hcollected hnone hsent hgate hw hdrift
    subst hw
    exact ecBlock_passes b hruns hboundary hadmissible hstate hover hcollected hnone hsent hgate hdrift
  · intro s p b hruns hboundary hadmissible hstate hover hcollected hnone hsent hgate
    exact ecBlock_gatedOut b hruns hboundary hadmissible hstate hover hcollected hnone hsent hgate

end Sys2Proof.Machine
end

section
/-! Credits, replay, link delay and parcels in sequence (R402 to R405, R412, R421). -/

namespace Sys2Proof.Machine

set_option Elab.async false

variable {s : State} {x : Side}

/-! ### What sending leaves of the receiver -/

theorem link_setLink_other {x y : Side} (h : y ≠ x) (f : PfState → PfState) : (s.setLink x f).link y = s.link y := by
  have hfin : x.fin.val ≠ y.fin.val := by cases x <;> cases y <;> first | exact absurd rfl h | decide
  simp [State.link, State.setLink, Vector.getElem_set_ne (h := hfin)]

theorem Side.other_ne (x : Side) : x.other ≠ x := by cases x <;> decide

/-- What a port has received and still owes its partner (R403). -/
def PfState.heard (q : PfState) : Nat × Bool × Bool × List Nat := (q.rxSeq, q.unacked, q.nakSent, q.freed)

theorem link_congr {t : State} (h : t.pf = s.pf) (y : Side) : t.link y = s.link y := by
  unfold State.link
  rw [h]

theorem heard_setLink {f : PfState → PfState} (h : ∀ q, (f q).heard = q.heard) (x y : Side) :
    ((s.setLink x f).link y).heard = (s.link y).heard := by
  by_cases hy : y = x
  · subst hy
    rw [State.link_setLink_self, h]
  · rw [link_setLink_other hy]

theorem heard_sendNow (y : Side) (p : Parcel) : ((s.sendNow x p).link y).heard = (s.link y).heard := by
  unfold State.sendNow
  dsimp only
  split
  · rw [link_congr (State.emit_pf ..)]
    refine (heard_setLink ?_ x y).trans rfl
    exact fun _ => rfl
  · rw [link_congr (State.emit_pf ..)]
    refine heard_setLink ?_ x y
    exact fun _ => rfl

theorem heard_stall (y : Side) (vc : Nat) : ((s.stall x vc).link y).heard = (s.link y).heard := by
  unfold State.stall
  split
  · rfl
  · rw [link_congr (State.inc_pf ..)]
    refine heard_setLink ?_ x y
    exact fun _ => rfl

theorem heard_trySend (y : Side) (p : Parcel) : ((s.trySend x p).link y).heard = (s.link y).heard := by
  unfold State.trySend
  dsimp only
  split
  · refine heard_setLink ?_ x y
    exact fun _ => rfl
  · split
    · exact heard_sendNow y p
    · refine (heard_setLink ?_ x y).trans (heard_stall y p.vc)
      exact fun _ => rfl

theorem heard_drainFifo (y : Side) (vc : Nat) : ((s.drainFifo x vc).link y).heard = (s.link y).heard := by
  refine foldl_keeps (fun s => (State.link s y).heard) (fun s f => ?_) _ s
  dsimp only
  split
  · rfl
  · split
    · exact heard_sendNow y _
    · exact heard_stall y vc

theorem heard_drain (y : Side) : ((s.drain x).link y).heard = (s.link y).heard := by
  unfold State.drain
  dsimp only
  split
  · rfl
  · rw [foldl_keeps (fun s => (State.link s y).heard) (fun s vc => heard_drainFifo y vc),
      foldl_keeps (fun s => (State.link s y).heard) (fun s p => heard_trySend y p)]
    refine heard_setLink ?_ x y
    exact fun _ => rfl

theorem heard_send (y : Side) (p : Parcel) : ((s.send x p).link y).heard = (s.link y).heard :=
  (heard_drain y).trans (heard_setLink (f := fun q => { q with sendQ := q.sendQ ++ [p] }) (fun _ => rfl) x y)

theorem heard_forward (y : Side) (p : Parcel) : ((s.forward x p).link y).heard = (s.link y).heard := by
  unfold State.forward
  split
  · rfl
  · exact heard_send y _

theorem heard_happens (y : Side) (code detail : Nat) (at' : Stamp) :
    ((s.happens code detail at').link y).heard = (s.link y).heard := by
  obtain ⟨f, hf⟩ := s.happens_eq_setPower code detail at'
  rw [hf]
  rfl

theorem heard_unreachableReply (y : Side) (b : Bytes) : ((s.unreachableReply x b).link y).heard = (s.link y).heard := by
  unfold State.unreachableReply
  split
  · rfl
  · exact heard_send y _

theorem heard_route (y : Side) (p : Parcel) : ((s.route x p).link y).heard = (s.link y).heard := by
  have hinc (s : State) (o : Obj) (n : Nat) : ((s.inc o n).link y).heard = (s.link y).heard := rfl
  unfold State.route
  grind [heard_forward, heard_happens, heard_unreachableReply]

/-! ### FLOW and replay (R402 to R405) -/

/-- A port on which nothing waits has nothing to drain. -/
theorem drain_of_idle (hqueue : (s.link x).sendQ = []) (hfifo : ∀ vc < 4, s.fifo x vc = []) : s.drain x = s := by
  unfold State.drain
  split
  · rfl
  · have hset : (s.setLink x fun q => { q with sendQ := [] }) = s := by
      refine s.setLink_of_fixed ?_
      rw [← hqueue]
    have hkeeps : ∀ l : List Nat, (∀ vc ∈ l, vc < 4) → l.foldl (fun s vc => s.drainFifo x vc) s = s := by
      intro l hl
      refine List.foldlRecOn (motive := (· = s)) l _ rfl fun u hu vc hvc => ?_
      rw [hu]
      exact s.drainFifo_of_nil (hfifo vc (hl vc hvc))
    dsimp only
    rw [hset, hqueue]
    exact hkeeps _ fun vc hvc => List.mem_range.mp hvc

theorem foldl_emit_parcels (x : Side) (l : List Parcel) (s : State) :
    l.foldl (fun s p => s.emit (.parcel x p)) s = { s with out := (l.map fun q => Out.parcel x q).reverse ++ s.out } := by
  induction l generalizing s with
  | nil => rfl
  | cons p l ih =>
    rw [List.foldl_cons, ih, List.map_cons, List.reverse_cons, List.append_assoc]
    rfl

/-- Resending puts every unacknowledged parcel out again, in order (R404). -/
theorem resend_of_replay (h : (s.link x).replay ≠ []) :
    s.resend x = (({ s with out := ((s.link x).replay.map fun q => Out.parcel x q).reverse ++ s.out } : State).inc
      Reg.PF_PORT_REPLAYS x.n).arm (.pfReplay x.n) (s.now + 20000) := by
  unfold State.resend
  rw [if_neg h, foldl_emit_parcels]

/-- What a FLOW acknowledges leaves the replay buffer. -/
def State.acknowledged (s : State) (x : Side) (limits : List Nat) (l : List Parcel) : State :=
  let u := s.setLink x fun q => { q with limits := limits, replay := l }
  if l = [] then u.disarm (.pfReplay x.n) else u.arm (.pfReplay x.n) (s.now + 20000)

theorem flowCtrlRx_acked {body : Bytes} {l : List Parcel} (hruns : s.pfRuns = true) (hup : s.linkUp x = true)
    (hlength : body.length = 12) (hflow : uAt body 0 1 = 1) (hnak : bit (uAt body 1 1) 7 = false)
    (hacked : acked (uAt body 2 2 % 4096) (s.link x).replay = some l) :
    exec (.flowCtrlRx x body) s = .next (((s.acknowledged x
      [uAt body 4 2, uAt body 6 2, uAt body 8 2, uAt body 10 2] l).drain x).keep s) := by
  refine (guarded_pos s ⟨hruns, hup, hlength, hflow⟩).trans ?_
  dsimp only
  rw [State.link_setLink_self, hacked, if_neg (by rw [hnak]; exact Bool.false_ne_true)]
  dsimp only
  rw [State.setLink_setLink]
  rfl

/-- A change that leaves the queue, the fuses and the hamper is kept whole. -/
theorem keep_of_same {t : State} (hpending : t.pending = s.pending) (hfuses : t.fuses = s.fuses)
    (hhamper : t.hamper = s.hamper) : t.keep s = t := by
  unfold State.keep
  rw [← hpending, ← hfuses, ← hhamper]

theorem resend_held (s : State) (x : Side) :
    (s.resend x).pending = s.pending ∧ (s.resend x).fuses = s.fuses ∧ (s.resend x).hamper = s.hamper := by
  by_cases h : (s.link x).replay = []
  · rw [State.resend, if_pos h]
    exact ⟨rfl, rfl, rfl⟩
  · rw [resend_of_replay h]
    exact ⟨rfl, rfl, rfl⟩

theorem flowCtrlRx_unacked {u : State} {body : Bytes} (hruns : s.pfRuns = true) (hup : s.linkUp x = true)
    (hlength : body.length = 12) (hflow : uAt body 0 1 = 1)
    (hacked : acked (uAt body 2 2 % 4096) (s.link x).replay = none)
    (hu : u = s.setLink x fun q => { q with limits := [uAt body 4 2, uAt body 6 2, uAt body 8 2, uAt body 10 2] }) :
    exec (.flowCtrlRx x body) s = .next ((if bit (uAt body 1 1) 7 = true then u.resend x else u).drain x) := by
  subst hu
  refine (guarded_pos s ⟨hruns, hup, hlength, hflow⟩).trans (congrArg Host.Outcome.next ?_)
  dsimp only
  rw [State.link_setLink_self, hacked]
  have hheld := resend_held (s.setLink x fun q =>
    { q with limits := [uAt body 4 2, uAt body 6 2, uAt body 8 2, uAt body 10 2] }) x
  obtain ⟨hpending, hfuses, hhamper⟩ := hheld
  refine keep_of_same ?_ ?_ ?_
  · rw [State.drain_pending]
    split
    · exact hpending
    · rfl
  · rw [State.drain_fuses]
    split
    · exact hfuses
    · rfl
  · rw [State.drain_hamper]
    split
    · exact hhamper
    · rfl

theorem link_acknowledged (s : State) (x : Side) (limits : List Nat) (l : List Parcel) :
    (s.acknowledged x limits l).link x = { s.link x with limits := limits, replay := l } := by
  unfold State.acknowledged
  dsimp only
  split
  · rw [link_congr (State.disarm_pf ..), State.link_setLink_self]
  · rw [link_congr (State.arm_pf ..), State.link_setLink_self]

theorem deadline_acknowledged (s : State) (x : Side) (limits : List Nat) (l : List Parcel) :
    (s.acknowledged x limits l).deadline (.pfReplay x.n) = if l = [] then none else some (s.now + 20000) := by
  unfold State.acknowledged
  split
  · exact State.deadline_disarm_self ..
  · exact State.deadline_arm_self ..

/-- What an acknowledgement leaves of the device. -/
theorem acknowledged_rest (s : State) (x : Side) (limits : List Nat) (l : List Parcel) :
    (s.acknowledged x limits l).regs = s.regs ∧ (s.acknowledged x limits l).out = s.out
      ∧ (s.acknowledged x limits l).qm = s.qm := by
  unfold State.acknowledged
  split <;> exact ⟨rfl, rfl, rfl⟩

theorem sequenceDelayAndParcels_flow {body : Bytes} {l : List Parcel} (hruns : s.pfRuns = true) (hup : s.linkUp x = true)
    (hlength : body.length = 12) (hflow : uAt body 0 1 = 1) (hnak : bit (uAt body 1 1) 7 = false)
    (hqueue : (s.link x).sendQ = []) (hfifo : ∀ vc < 4, s.fifo x vc = [])
    (hacked : acked (uAt body 2 2 % 4096) (s.link x).replay = some l) :
    Completes (.flowCtrlRx x body) s fun t =>
      (t.link x).limits = [uAt body 4 2, uAt body 6 2, uAt body 8 2, uAt body 10 2] ∧ (t.link x).replay = l
      ∧ t.deadline (.pfReplay x.n) = (if l = [] then none else some (s.now + 20000)) ∧ t.regs = s.regs ∧ t.out = s.out := by
  have hexec := flowCtrlRx_acked hruns hup hlength hflow hnak hacked
  obtain ⟨hregs, hout, hqm⟩ := acknowledged_rest s x [uAt body 4 2, uAt body 6 2, uAt body 8 2, uAt body 10 2] l
  have hlink := link_acknowledged s x [uAt body 4 2, uAt body 6 2, uAt body 8 2, uAt body 10 2] l
  rw [drain_of_idle (by rw [hlink]; exact hqueue) fun vc hvc => (fifo_congr hqm x vc).trans (hfifo vc hvc)] at hexec
  refine ⟨_, hexec, ?_, ?_, deadline_acknowledged .., hregs, hout⟩
  · exact congrArg PfState.limits hlink
  · exact congrArg PfState.replay hlink

/-- A parcel with a bad CRC-32C is counted, and answered once (R403). -/
theorem parcelForward_nak {raw : Bytes} (hruns : s.pfRuns = true) (hup : s.linkUp x = true)
    (hcrc : parcelCrcOk raw = false) : exec (.parcelForward x raw) s = .next ((s.nak x).keep s) := by
  refine (guarded_pos s ⟨hruns, hup⟩).trans ?_
  rw [if_neg (by rw [hcrc]; exact Bool.false_ne_true)]

/-- What the next parcel in sequence leaves of its port before it goes on (R403, R405). -/
def State.taken (s : State) (x : Side) (q : Parcel) : State :=
  s.setLink x fun y => { y with
    rxSeq := (y.rxSeq + 1) % 4096, unacked := true, nakSent := false, lastRx := some s.now
    freed := y.freed.set q.vc ((y.freed.getD q.vc 0 + q.credits) % 65536) }

theorem parcelForward_next {raw : Bytes} {q : Parcel} (hruns : s.pfRuns = true) (hup : s.linkUp x = true)
    (hcrc : parcelCrcOk raw = true) (hparcel : Parcel.ofBytes raw = some q) (hlocal : q.isLocal = false)
    (hseq : q.lseq = (s.link x).rxSeq) : exec (.parcelForward x raw) s = .next
      ((if !q.legal then (s.taken x q).inc Reg.PF_PORT_CRC_ERRORS x.n else (s.taken x q).route x q).keep s) := by
  refine (guarded_pos s ⟨hruns, hup⟩).trans ?_
  rw [if_pos hcrc, hparcel]
  dsimp only
  rw [hlocal, if_neg Bool.false_ne_true, if_neg (not_not.mpr hseq)]
  rfl

theorem sequenceDelayAndParcels_next {raw : Bytes} {q : Parcel} (hruns : s.pfRuns = true) (hup : s.linkUp x = true)
    (hcrc : parcelCrcOk raw = true) (hparcel : Parcel.ofBytes raw = some q) (hlocal : q.isLocal = false)
    (hseq : q.lseq = (s.link x).rxSeq) :
    Completes (.parcelForward x raw) s fun t => (t.link x).rxSeq = ((s.link x).rxSeq + 1) % 4096
      ∧ (t.link x).unacked = true ∧ (t.link x).nakSent = false
      ∧ (t.link x).freed = (s.link x).freed.set q.vc (((s.link x).freed.getD q.vc 0 + q.credits) % 65536) := by
  have hheard : ((if !q.legal then (s.taken x q).inc Reg.PF_PORT_CRC_ERRORS x.n else (s.taken x q).route x q).link x).heard
      = (((s.link x).rxSeq + 1) % 4096, true, false,
        (s.link x).freed.set q.vc (((s.link x).freed.getD q.vc 0 + q.credits) % 65536)) := by
    have htaken : ((s.taken x q).link x).heard = _ := congrArg PfState.heard (State.link_setLink_self ..)
    split
    · exact htaken
    · exact (heard_route x q).trans htaken
  simp only [PfState.heard, Prod.mk.injEq] at hheard
  exact ⟨_, parcelForward_next hruns hup hcrc hparcel hlocal hseq, hheard⟩

/-- A parcel away from the host for another device goes on out of the port away from the host (R412). -/
theorem route_onwards {q : Parcel} (hlegal : q.type = 5 → uAt q.payload 0 1 ≠ 5) (hdir : q.dir = 1) (hbcast : q.bcast = false)
    (hdev : q.devnum ≠ s.rst.straps.devnum.val) (hrow : q.ownRow = false) (hhead : s.isHead = false) :
    s.route s.hostSide q = s.forward s.hostSide.other q := by
  have hhost : s.hostPort s.hostSide = true := by simp [State.hostPort]
  unfold State.route
  rw [if_neg (fun h => hlegal h.1 h.2), if_neg (by rw [hdir]; decide), hhost]
  simp [hbcast, hdev, hrow, hhead]

theorem forward_waiting {y : Side} {q : Parcel} (hidle : s.pfState y = pfIdle) (hused : y = .down → s.downUsed = true) :
    s.forward y q = s.setLink y fun z => { z with sendQ := z.sendQ ++ [{ q with lseq := 0 }] } := by
  have hstate : s.pfState y ≠ pfOff ∧ s.pfState y ≠ pfActive := by
    rw [hidle]
    decide
  unfold State.forward
  rw [if_neg (by
    rintro (hoff | ⟨hdown, hnot⟩)
    · exact hstate.1 hoff
    · rw [hused hdown] at hnot
      exact absurd hnot (by decide))]
  unfold State.send State.drain
  rw [if_pos (.inl hstate.2)]

theorem sequenceDelayAndParcels_onwards {raw : Bytes} {q : Parcel} (hruns : s.pfRuns = true)
    (hup : s.linkUp s.hostSide = true) (hcrc : parcelCrcOk raw = true) (hparcel : Parcel.ofBytes raw = some q)
    (hlocal : q.isLocal = false) (hseq : q.lseq = (s.link s.hostSide).rxSeq) (hlegal : q.legal = true) (hdir : q.dir = 1)
    (hbcast : q.bcast = false) (hdev : q.devnum ≠ s.rst.straps.devnum.val) (hrow : q.ownRow = false)
    (hhead : s.isHead = false) (hidle : s.pfState s.hostSide.other = pfIdle)
    (hused : s.hostSide.other = .down → s.downUsed = true) :
    Completes (.parcelForward s.hostSide raw) s fun t =>
      (t.link s.hostSide.other).sendQ = (s.link s.hostSide.other).sendQ ++ [{ q with lseq := 0 }]
      ∧ t.rd Reg.PF_PORT_MISROUTED s.hostSide.n = s.rd Reg.PF_PORT_MISROUTED s.hostSide.n := by
  have hexec := parcelForward_next hruns hup hcrc hparcel hlocal hseq
  have hctrl : q.type = 5 → uAt q.payload 0 1 ≠ 5 := by
    intro htype hsub
    simp [Parcel.ownRow, htype, hsub] at hrow
  have hroute : (s.taken s.hostSide q).route s.hostSide q
      = (s.taken s.hostSide q).setLink s.hostSide.other fun z => { z with sendQ := z.sendQ ++ [{ q with lseq := 0 }] } :=
    (route_onwards (s := s.taken s.hostSide q) hctrl hdir hbcast hdev hrow hhead).trans (forward_waiting hidle hused)
  rw [hlegal, if_neg (by decide), hroute] at hexec
  refine ⟨_, hexec, ?_, rfl⟩
  rw [link_congr (State.keep_pf ..), State.link_setLink_self]
  unfold State.taken
  rw [link_setLink_other (Side.other_ne _)]

theorem sequenceDelayAndParcels_delay {ident turnaround : Nat} {t1 : Stamp} {l : List Int} (hruns : s.pfRuns = true)
    (hup : s.linkUp x = true) (ht1 : (s.link x).delayT1 = some t1) (hident : ident = (s.link x).delayId)
    (hl : (((s.now - t1) * 65536 - turnaround) / 2 :: (s.link x).delays).take 8 = l) :
    Completes (.delayRespRx x ident turnaround) s fun t => (t.link x).delays = l ∧ (t.link x).delayT1 = none
      ∧ t.rd Reg.PF_PORT_link_delay x.n
          = max 0 (roundDiv (2 * l.sum + s.rd Reg.PF_PORT_asymmetry x.n * 65536 * l.length) (2 * 65536 * l.length))
      ∧ t = { s with regs := t.regs, pf := t.pf } := by
  unfold Completes
  dsimp only [exec, execDelayRespRx]
  rw [ht1]
  dsimp only
  rw [State.link_setLink_self, hl]
  refine ⟨_, guarded_pos s ⟨hruns, hup, hident⟩, ?_, ?_, State.rd_wr_self .., rfl⟩
  · rw [link_congr (State.keep_pf ..), link_congr (State.wr_pf ..), State.link_setLink_self]
    exact hl
  · rw [link_congr (State.keep_pf ..), link_congr (State.wr_pf ..), State.link_setLink_self]

/-- A discarded parcel is counted, and one FLOW with NAK names the last accepted (R403). -/
theorem nak_spec (s : State) (x : Side) :
    ((s.nak x).keep s).rd Reg.PF_PORT_CRC_ERRORS x.n = (s.rd Reg.PF_PORT_CRC_ERRORS x.n + 1) % 18446744073709551616
      ∧ (((s.nak x).keep s).link x).rxSeq = (s.link x).rxSeq ∧ (((s.nak x).keep s).link x).nakSent = true
      ∧ ((s.link x).nakSent = true → ((s.nak x).keep s).out = s.out)
      ∧ ((s.link x).nakSent = false → ∃ q, ((s.nak x).keep s).out = .parcel x q :: s.out ∧ q.isLocal = true
          ∧ q.payload.take 4 = [1, 0x80] ++ be 2 (((s.link x).rxSeq + 4095) % 4096)) := by
  rw [link_congr (State.keep_pf ..), State.rd_keep, State.keep_out]
  unfold State.nak
  by_cases hsent : (s.link x).nakSent = true
  · have hdone : ((s.inc Reg.PF_PORT_CRC_ERRORS x.n).link x).nakSent = true := hsent
    rw [if_pos hdone]
    refine ⟨State.rd_inc_self .., rfl, hsent, fun _ => rfl, fun h => ?_⟩
    rw [hsent] at h
    exact absurd h (by decide)
  · have hdone : ¬ ((s.inc Reg.PF_PORT_CRC_ERRORS x.n).link x).nakSent = true := hsent
    rw [if_neg hdone, State.link_setLink_self]
    refine ⟨State.rd_inc_self .., ?_, rfl, fun h => absurd h hsent, fun _ => ⟨_, rfl, rfl, ?_⟩⟩
    · unfold State.sendFlow
      rw [State.link_setLink_self]
      rfl
    · have hinc : (s.inc Reg.PF_PORT_CRC_ERRORS x.n).link x = s.link x := rfl
      simp [be, b2n, hinc]

/-- Settles O40, by what each command does of its own: a drained port that nothing waits on stays as it is, and what is sent
leaves what a port has received. -/
theorem sequenceDelayAndParcels : Obligations.SequenceDelayAndParcels := by
  unfold Obligations.SequenceDelayAndParcels
  refine ⟨?_, ?_, ?_, ?_, ?_, ?_, ?_, ?_, ?_, ?_, ?_⟩
  · intro s x body l hruns hup hlength hflow hnak hqueue hfifo hacked
    exact sequenceDelayAndParcels_flow hruns hup hlength hflow hnak hqueue hfifo hacked
  · intro s u x body hruns hup hlength hflow hacked hu
    exact flowCtrlRx_unacked hruns hup hlength hflow hacked hu
  · intro s x l hl hne
    subst hl
    rw [resend_of_replay hne]
    refine ⟨rfl, rfl, State.deadline_arm_self .., ?_⟩
    exact State.rd_inc_self ..
  · intro s x hruns hactive hdue
    refine ⟨_, guarded_pos s ⟨hruns, hactive, hdue⟩, ?_⟩
    dsimp only
    rw [link_congr (State.keep_pf ..)]
    unfold State.sendFlow
    dsimp only
    rw [State.link_setLink_self]
    exact ⟨rfl, rfl, rfl, _, rfl, rfl, rfl, rfl⟩
  · intro s x hruns hactive hfrozen hne hpassed
    refine ⟨_, guarded_pos s ⟨hruns, hactive, by simp [hfrozen], hne, hpassed⟩, ?_⟩
    rw [resend_of_replay hne]
    exact ⟨rfl, rfl, State.deadline_arm_self .., State.rd_inc_self .., rfl⟩
  · intro s x hruns hactive hdue
    refine ⟨_, guarded_pos s ⟨hruns, hactive, hdue⟩, ?_⟩
    dsimp only
    rw [link_congr (State.keep_pf ..), link_congr (State.arm_pf ..), State.link_setLink_self]
    exact ⟨rfl, rfl, State.deadline_arm_self .., _, rfl, rfl, rfl⟩
  · intro s x ident turnaround hruns hup
    exact ⟨_, guarded_pos s ⟨hruns, hup⟩, rfl, _, rfl, rfl, rfl⟩
  · intro s x ident turnaround t1 l hruns hup ht1 hident hl
    exact sequenceDelayAndParcels_delay hruns hup ht1 hident hl
  · intro s x raw hruns hup hcrc
    exact ⟨_, parcelForward_nak hruns hup hcrc, nak_spec s x⟩
  · intro s x raw q hruns hup hcrc hparcel hlocal hseq
    exact sequenceDelayAndParcels_next hruns hup hcrc hparcel hlocal hseq
  · intro s raw q hruns hup hcrc hparcel hlocal hseq hlegal hdir hbcast hdev hrow hhead hidle hused
    exact sequenceDelayAndParcels_onwards hruns hup hcrc hparcel hlocal hseq hlegal hdir hbcast hdev hrow hhead hidle hused

end Sys2Proof.Machine
end

section
/-! Izvas at work: which requests are executed, what their way leaves, and what their response carries (R431 to R442). -/

namespace Sys2Proof.Machine

set_option Elab.async false

variable {s u : State} {r : IzReq}

/-! ### The way of a request -/

/-- A request that crosses the balls changes nothing of the dictionary, the ports or what was sent (R436, R460). -/
theorem arrives_spec (s : State) (r : IzReq) : (s.arrives r).ports = s.ports ∧ (s.arrives r).blobs = s.blobs
    ∧ (s.arrives r).out = s.out ∧ (s.arrives r).iz = { s.iz with downAt := (s.arrives r).iz.downAt } := by
  obtain ⟨f, hf⟩ := s.hostParcel_eq_setPower r.side 0
  have hcrosses (t : State) : t.ungate.ports = t.ports ∧ t.ungate.blobs = t.blobs ∧ t.ungate.out = t.out
      ∧ t.ungate.iz = t.iz := by
    unfold State.ungate
    split <;> exact ⟨rfl, rfl, rfl, rfl⟩
  obtain ⟨hports, hblobs, hout, hiz⟩ := hcrosses (s.hostParcel r.side 0)
  rw [hf] at hports hblobs hout hiz
  unfold State.arrives
  dsimp only
  rw [hf]
  split
  · exact ⟨hports, hblobs, hout, by rw [hiz]; rfl⟩
  · exact ⟨hports, hblobs, hout, congrArg (fun z : IzState => { z with downAt := some (s.setPower f).ungate.now }) hiz⟩

theorem session_arrives (s : State) (r : IzReq) (k : SessionNo) : (s.arrives r).session k = s.session k := by
  obtain ⟨-, -, -, hiz⟩ := arrives_spec s r
  unfold State.session
  rw [hiz]

theorem deadline_ungate {t : Timer} (h : t ≠ .watchdog) : s.ungate.deadline t = s.deadline t := by
  unfold State.ungate
  split
  · exact State.deadline_arm_other _ _ h
  · rfl

theorem deadline_arrives {t : Timer} (h : t ≠ .watchdog) : (s.arrives r).deadline t = s.deadline t := by
  obtain ⟨f, hf⟩ := s.hostParcel_eq_setPower r.side 0
  have hcrosses : (s.hostParcel r.side 0).ungate.deadline t = s.deadline t := by
    rw [deadline_ungate h, hf]
    rfl
  unfold State.arrives
  dsimp only
  split
  · exact hcrosses
  · exact hcrosses

theorem passed_arrives {t : Timer} (h : t ≠ .watchdog) : (s.arrives r).passed t = s.passed t := by
  unfold State.passed
  rw [deadline_arrives h, (s.undisturbed_arrives r).now]

/-! ### Admission (R433) -/

/-- The state in which a request is executed: as it arrived, counted, and noted in its session where it has one. -/
theorem admitReq_accepted (h : s.admitReq r = .accepted u) :
    (r.session = 0 ∧ u = (s.arrives r).inc Reg.IZ_CTL_REQUESTS)
      ∨ ∃ k, sessionNo r.session = some k ∧ (s.session k).phase = 2 ∧ u = s.noted r k := by
  unfold State.admitReq at h
  dsimp only at h
  split at h
  · rename_i hzero
    split at h
    · split at h
      · cases h
      · split at h
        · cases h
        · cases h
          exact .inl ⟨hzero, rfl⟩
    · cases h
  · split at h
    · cases h
    · rename_i k hk
      split at h
      · rename_i hsession
        split at h
        · cases h
        · split at h
          · cases h
          · split at h
            · cases h
            · cases h
              exact .inr ⟨k, hk, session_arrives s r k ▸ hsession.1, rfl⟩
      · cases h

/-- What the way of an executed request leaves. -/
structure State.Accepts (s : State) (r : IzReq) (u : State) : Prop where
  undisturbed : s.Undisturbed u
  phase : ∀ k, sessionNo r.session = some k → (u.session k).phase ≠ 0
  session : ∀ k, ∃ c, u.session k = { s.session k with counter := c }
  ports : u.ports = s.ports
  blobs : u.blobs = s.blobs
  out : u.out = s.out
  queue : u.iz.queue = s.iz.queue
  rd : ∀ (q : Obj) (i j : Nat), q.key i j ≠ Reg.IZ_CTL_REQUESTS.key 0 0 →
    (∀ n < 9, q.key i j ≠ Reg.IZ_SESSION_last_arrival.key 0 n) → u.rd q i j = s.rd q i j

theorem sessionNo_zero : sessionNo 0 = none := by decide

theorem session_noted (s : State) (r : IzReq) (k j : SessionNo) :
    ∃ c, (s.noted r k).session j = { s.session j with counter := c } := by
  have hnoted : (s.noted r k).session j = ((s.arrives r).setSession k fun z => { z with counter := r.counter }).session j := rfl
  by_cases h : j = k
  · subst h
    exact ⟨r.counter, by rw [hnoted, State.session_setSession_self, session_arrives]⟩
  · exact ⟨_, by rw [hnoted, State.session_setSession_other _ _ h, session_arrives]⟩

theorem accepts (h : s.admitReq r = .accepted u) : s.Accepts r u := by
  obtain ⟨hports, hblobs, hout, hiz⟩ := arrives_spec s r
  obtain ⟨hzero, rfl⟩ | ⟨k, hk, hphase, rfl⟩ := admitReq_accepted h
  · refine ⟨(s.undisturbed_arrives r).trans ⟨rfl, rfl, rfl, rfl, rfl⟩, fun k hk => ?_,
      fun k => ⟨_, (session_arrives s r k).trans rfl⟩, hports, hblobs, hout, ?_,
      fun q i j hrequests _ => ?_⟩
    · rw [hzero, sessionNo_zero] at hk
      cases hk
    · exact (congrArg IzState.queue hiz).trans rfl
    · rw [State.rd_inc_other _ _ hrequests, State.rd_arrives]
  · refine ⟨s.undisturbed_noted r k, fun j hj => ?_, session_noted s r k, hports, hblobs, hout, (congrArg IzState.queue hiz).trans rfl,
      fun q i j hrequests hlast => s.rd_noted hrequests (hlast _ (sessionNo_lt hk))⟩
    obtain rfl : k = j := Option.some.inj (hk.symm.trans hj)
    rw [s.phase_noted r k, session_arrives, hphase]
    decide

theorem State.Accepts.staged (h : s.Accepts r u) (k : SessionNo) : (u.session k).staged = (s.session k).staged := by
  obtain ⟨c, hc⟩ := h.session k
  rw [hc]

/-! ### Responses -/

/-- A response to a session that is there goes out as it is, under the MAC of the session. -/
theorem respond_sends (y : IzResp) (h : ∀ k, sessionNo y.session = some k → (s.session k).phase ≠ 0) :
    ∃ m, Out.reply { y with mac := m } ∈ (s.respond y).out := by
  unfold State.respond
  split
  · exact ⟨y.mac, s.reply_mem y⟩
  · rename_i k hk
    dsimp only
    rw [if_neg (h k hk)]
    split
    · exact ⟨y.mac, s.reply_mem y⟩
    · exact ⟨_, State.reply_mem _ _⟩

/-- A response keeps itself for repeats and changes nothing else of Izvas. -/
theorem respond_iz (s : State) (y : IzResp) : (s.respond y).iz = { s.iz with sessions := (s.respond y).iz.sessions }
    ∧ ∀ k, ∃ l, (s.respond y).session k = { s.session k with kept := l } := by
  unfold State.respond
  split
  · rw [State.reply_iz]
    exact ⟨rfl, fun k => ⟨_, congrArg (fun z : IzState => z.sessions[k]) (State.reply_iz ..)⟩⟩
  · rename_i j hj
    dsimp only
    split
    · exact ⟨rfl, fun k => ⟨_, rfl⟩⟩
    · split
      · rw [State.reply_iz]
        exact ⟨rfl, fun k => ⟨_, congrArg (fun z : IzState => z.sessions[k]) (State.reply_iz ..)⟩⟩
      · rw [State.reply_iz]
        refine ⟨rfl, fun k => ?_⟩
        have hreply (t : State) (x : IzResp) : (t.reply x).session k = t.session k :=
          congrArg (fun z : IzState => z.sessions[k]) (State.reply_iz ..)
        rw [hreply]
        by_cases h : k = j
        · subst h
          exact ⟨_, State.session_setSession_self ..⟩
        · exact ⟨_, State.session_setSession_other _ _ h⟩

theorem staged_respond (s : State) (y : IzResp) (k : SessionNo) :
    ((s.respond y).session k).staged = (s.session k).staged := by
  obtain ⟨-, h⟩ := respond_iz s y
  obtain ⟨l, hl⟩ := h k
  rw [hl]

/-- The answer to an executed request. -/
theorem answer_sends {status : Nat} {data ext : Bytes}
    (h : ∀ k, sessionNo r.session = some k → (s.session k).phase ≠ 0) :
    ∃ x, Out.reply x ∈ (s.respond (r.answer status data ext)).out ∧ x.status = status ∧ x.data = data ∧ x.ext = ext
      ∧ x.op = r.op + 0x80 ∧ x.session = r.session ∧ x.tag = r.tag := by
  obtain ⟨m, hm⟩ := respond_sends (s := s) (r.answer status data ext) h
  exact ⟨_, hm, rfl, rfl, rfl, rfl, rfl, rfl⟩

theorem State.Accepts.keep_respond (h : s.Accepts r u) (y : IzResp) : (u.respond y).keep s = u.respond y :=
  (h.undisturbed.trans (u.undisturbed_respond y)).keep

theorem State.Accepts.keep_refuseWrite (h : s.Accepts r u) (e : Nat) : (u.refuseWrite r e).keep s = u.refuseWrite r e :=
  (h.undisturbed.trans (u.undisturbed_refuseWrite r e)).keep

/-- What a session stages leaves its number as it was, the block undisturbed. -/
theorem undisturbed_setSession (s : State) (k : SessionNo) (f : Session → Session) : s.Undisturbed (s.setSession k f) :=
  ⟨rfl, rfl, rfl, rfl, rfl⟩

theorem phase_setSession {k : SessionNo} {f : Session → Session} (hf : ∀ z, (f z).phase = z.phase) (j : SessionNo) :
    ((s.setSession k f).session j).phase = (s.session j).phase := by
  by_cases h : j = k
  · subst h
    rw [State.session_setSession_self, hf]
  · rw [State.session_setSession_other _ _ h]

/-- A changed staged set is answered. -/
theorem State.Accepts.restaged (h : s.Accepts r u) (k : SessionNo) (l : List (Addr × Bytes)) :
    let t := (u.setSession k fun z => { z with staged := l }).respond (r.answer stOk)
    t.keep s = t ∧ (t.session k).staged = l ∧ ∃ x, Out.reply x ∈ t.out ∧ x.status = stOk ∧ x.tag = r.tag := by
  dsimp only
  refine ⟨?_, ?_, ?_⟩
  · exact ((h.undisturbed.trans (undisturbed_setSession u k _)).trans (State.undisturbed_respond _ _)).keep
  · rw [staged_respond, State.session_setSession_self]
  · refine State.answer_mem fun j hj => ?_
    rw [phase_setSession (f := fun z => { z with staged := l }) fun _ => rfl]
    exact h.phase j hj

/-! ### A WRITE of parameters (R440, R442) -/

theorem exec_izvasWrite (htakes : s.takes r = true) (hop : r.op = opWrite) (hproxy : isProxy r = false)
    (hrows : ownRows.any (writes r) = false) (hadmit : s.admitReq r = .accepted u) :
    exec (.izvasWrite r) s = .next ((u.writeReq r).keep s) := by
  have hexec : exec (.izvasWrite r) s = execIzvasWrite r s := rfl
  rw [hexec]
  simp only [execIzvasWrite, guarded, ok, hadmit, htakes, hop, hproxy, hrows, Bool.not_false, and_self, if_true,
    Admission.run]

theorem writeReq_stage {o : Obj} {n : Nat} {k : SessionNo} {vs : List (Nat × Bytes)} (hk : sessionNo r.session = some k)
    (hcheck : s.checkWrite r = .ok (o, n, vs)) (hacc : o.acc = .rwp ∨ o.acc = .rws) : s.writeReq r = s.stage r k vs := by
  unfold State.writeReq
  rw [hcheck, hk]
  exact if_pos hacc

theorem writeReq_refused {e : Nat} (hcheck : s.checkWrite r = .error e) : s.writeReq r = s.refuseWrite r e := by
  unfold State.writeReq
  rw [hcheck]

/-! ### A repeat (R438) -/

/-- The state a repeat leaves: its way, and the response kept sent again. -/
theorem admitReq_repeat {k : SessionNo} {x : IzResp} (hk : sessionNo r.session = some k) (hphase : (s.session k).phase = 2)
    (htime : s.passed (.session k.val) = false) (hauth : r.op ≠ opAuth)
    (hmac : r.mac = (hmacSha256 (s.session k).key (r.header ++ r.data)).take 16) (hcounter : (s.session k).counter < r.counter)
    (hkept : ((s.session k).kept.find? fun y => y.tag == r.tag) = some x) :
    s.admitReq r = .answered (((s.noted r k).inc Reg.IZ_CTL_REPEATS).respond { x with side := r.side, counter := r.counter }) := by
  have hne : r.session ≠ 0 := by
    intro h
    rw [h, sessionNo_zero] at hk
    cases hk
  unfold State.admitReq
  dsimp only
  rw [if_neg hne, hk]
  dsimp only
  rw [session_arrives, passed_arrives (t := .session k.val) nofun, if_pos ⟨hphase, by simp [htime], hauth, hmac, hcounter⟩, hkept]
  rfl

/-! ### The obligation -/

/-- Settles O43, by the state a request is executed in and the response that leaves it. -/
theorem readsAndWritesComplete : Obligations.ReadsAndWritesComplete := by
  unfold Obligations.ReadsAndWritesComplete
  refine ⟨?_, ?_, ?_, ?_, ?_, ?_, ?_⟩
  · intro s u r o n htakes hop hproxy hadmit hlookup
    have hway := accepts hadmit
    obtain ⟨x, hx, hstatus, hdata, hext, hop', hsession, htag⟩ := answer_sends (s := u) (r := r)
      (status := (u.readAt o n r).1) (data := (u.readAt o n r).2.1) (ext := (u.readAt o n r).2.2) hway.phase
    refine ⟨_, (guarded_pos s ⟨htakes, .inl ⟨hop, by simp [hproxy]⟩⟩).trans ?_, x, hx, hstatus, hdata, hext, ?_, hsession,
      htag, rfl⟩
    · rw [hadmit, Admission.run, State.readReq, hlookup]
      exact congrArg Host.Outcome.next (hway.keep_respond _)
    · rw [hop', hop]
      rfl
  · intro s u r o n k vs l htakes hop hproxy hrows hadmit hk hcheck hacc hl hfits
    have hway := accepts hadmit
    obtain ⟨hkeep, hstaged, hreply⟩ := hway.restaged k l
    refine ⟨_, (exec_izvasWrite htakes hop hproxy hrows hadmit).trans ?_, hstaged, ?_, ?_, rfl, hreply⟩
    · rw [writeReq_stage hk hcheck hacc, State.stage, hway.staged, ← hl, if_neg (Nat.not_lt.mpr hfits), hkeep]
    · exact (State.respond_ports ..).trans hway.ports
    · exact (State.respond_blobs ..).trans hway.blobs
  · intro s u r o n k vs l htakes hop hproxy hrows hadmit hk hcheck hacc hl hfull
    have hway := accepts hadmit
    refine (exec_izvasWrite htakes hop hproxy hrows hadmit).trans ?_
    rw [writeReq_stage hk hcheck hacc, State.stage, hway.staged, ← hl, if_pos hfull, hway.keep_refuseWrite]
  · intro s r k x htakes hop hproxy hk hphase htime hmac hcounter hkept hsession hopen
    have hadmit := admitReq_repeat hk hphase htime (by rw [hop]; decide) hmac hcounter hkept
    have htag : x.tag = r.tag := by simpa using List.find?_some hkept
    obtain ⟨m, hm⟩ := respond_sends (s := (s.noted r k).inc Reg.IZ_CTL_REPEATS) { x with side := r.side, counter := r.counter }
      (fun j hj => by
        have hj : sessionNo r.session = some j := hsession ▸ hj
        obtain rfl : k = j := Option.some.inj (hk.symm.trans hj)
        have hnoted := s.phase_noted r k
        rw [session_arrives, hphase] at hnoted
        exact hnoted.trans_ne (by decide))
    have hundisturbed : s.Undisturbed ((s.noted r k).inc Reg.IZ_CTL_REPEATS) :=
      (s.undisturbed_noted r k).trans ⟨rfl, rfl, rfl, rfl, rfl⟩
    refine ⟨_, (guarded_pos s ⟨htakes, .inl ⟨hop, by simp [hproxy]⟩⟩).trans (by
      rw [hadmit]
      exact congrArg Host.Outcome.next (hundisturbed.trans (State.undisturbed_respond _ _)).keep), ?_,
      _, hm, htag, rfl, rfl, rfl⟩
    have hlast : ∀ n < 9, Reg.IZ_CTL_REPEATS.key 0 0 ≠ Reg.IZ_SESSION_last_arrival.key 0 n :=
      fun n hn => Obj.key_ne (by decide) (by decide) (by decide) (by decide) (lt_trans hn (by decide))
    rw [State.rd_respond_apart _ _ (by decide) (by decide) (by decide), State.rd_inc_self,
      s.rd_noted Obj.key_ne (hlast _ (sessionNo_lt hk))]
  · intro s u r e htakes hop hproxy hrows hadmit hcheck
    have hway := accepts hadmit
    refine ⟨_, (exec_izvasWrite htakes hop hproxy hrows hadmit).trans (by
      rw [writeReq_refused hcheck, hway.keep_refuseWrite]), ?_, fun k => ?_, rfl, ?_⟩
    · exact (State.rd_respond_apart _ _ (by decide) (by decide) (by decide)).trans (State.rd_inc_self ..)
    · exact (staged_respond ..).trans (hway.staged k)
    · exact State.answer_mem (s := u.inc Reg.IZ_CTL_WRITES_REFUSED) hway.phase
  · intro s u r o n k l htakes hop hadmit hlookup hk hcount hone hty hfind hlength
    have hway := accepts hadmit
    obtain ⟨x, hx, hstatus, hdata, -, -, -, htag⟩ := answer_sends (s := u) (r := r) (status := stOk) (data := l.flatten)
      (ext := []) hway.phase
    refine ⟨_, (guarded_pos s ⟨htakes, hop⟩).trans ?_, staged_respond .., rfl, x, hx, hstatus, hdata, htag⟩
    rw [hadmit, Admission.run, hlookup, hk]
    dsimp only
    rw [if_neg (by omega), hfind]
    dsimp only
    split
    · rename_i b hb
      exact absurd hb (hty b)
    · rw [if_neg (Nat.not_lt.mpr hlength), hway.keep_respond]
  · intro s u r k htakes hop hadmit hk
    obtain ⟨hkeep, hstaged, hreply⟩ := (accepts hadmit).restaged k []
    refine ⟨_, (guarded_pos s ⟨htakes, hop⟩).trans ?_, hstaged, rfl, hreply⟩
    rw [hadmit, Admission.run, hk]
    exact congrArg Host.Outcome.next hkeep

end Sys2Proof.Machine
end

section
/-! Sessions and proxy requests (R434, R435, R450, R451). -/

namespace Sys2Proof.Machine

set_option Elab.async false

variable {s u : State} {r : IzReq} {k : SessionNo}

/-! ### A session that ends (R435) -/

/-- What a session that ends leaves of Izvas: its number free, its commits that have not begun gone. -/
def State.izWithout (s : State) (k : SessionNo) : IzState :=
  { s.iz with queue := s.iz.queue.filter fun c => c.session ≠ k.val + 1, sessions := s.iz.sessions.set k {} }

theorem freeSession_spec (s : State) (k : SessionNo) : (s.freeSession k).iz = s.izWithout k
    ∧ (s.freeSession k).deadline (.session k.val) = none ∧ s.Undisturbed (s.freeSession k)
    ∧ (s.freeSession k).out = s.out := by
  have hdisarm (t : State) :
      ((t.disarm (.auth k.val)).disarm (.session k.val)).deadline .hostReset = t.deadline .hostReset := by
    have hauth : Timer.hostReset ≠ .auth k.val := nofun
    have hsession : Timer.hostReset ≠ .session k.val := nofun
    rw [State.deadline_disarm_other _ hsession, State.deadline_disarm_other _ hauth]
  unfold State.freeSession
  dsimp only
  split
  · exact ⟨rfl, State.deadline_disarm_self .., ⟨rfl, rfl, rfl, rfl, (hdisarm _).trans rfl⟩, rfl⟩
  · exact ⟨rfl, State.deadline_disarm_self .., ⟨rfl, rfl, rfl, rfl, (hdisarm _).trans rfl⟩, rfl⟩

theorem session_freeSession (s : State) (k : SessionNo) : (s.freeSession k).session k = {} := by
  unfold State.session
  rw [(freeSession_spec s k).1]
  simp [State.izWithout]

/-- A failed AUTH (R435): the number is free, the failure counted, and the third in a row refuses OPENs. -/
theorem authFailed_spec (s : State) (k : SessionNo) : ((s.authFailed k).session k).phase = 0
    ∧ (s.authFailed k).iz.authRun = s.iz.authRun + 1
    ∧ (s.authFailed k).rd Reg.IZ_CTL_AUTH_FAILS = (s.rd Reg.IZ_CTL_AUTH_FAILS + 1) % 18446744073709551616
    ∧ (2 ≤ s.iz.authRun → (s.authFailed k).iz.locked = true
        ∧ (s.authFailed k).deadline .lockout = some (s.now + 10000000000))
    ∧ (s.authFailed k).out = s.out ∧ s.Undisturbed (s.authFailed k) := by
  obtain ⟨hiz, -, hundisturbed, hout⟩ := freeSession_spec s k
  have hsession := session_freeSession s k
  have hrun : (s.freeSession k).iz.authRun = s.iz.authRun := (congrArg IzState.authRun hiz).trans rfl
  have hnow : (s.freeSession k).now = s.now := hundisturbed.now
  have hfails : (s.freeSession k).rd Reg.IZ_CTL_AUTH_FAILS = s.rd Reg.IZ_CTL_AUTH_FAILS :=
    s.rd_freeSession k Obj.key_ne (fun n hn => Obj.key_ne (by decide) (by decide) (by decide) (by decide) (by omega))
      (fun n hn => Obj.key_ne (by decide) (by decide) (by decide) (by decide) (by omega))
      (fun n hn => Obj.key_ne (by decide) (by decide) (by decide) (by decide) (by omega))
  unfold State.authFailed
  generalize s.freeSession k = t at *
  dsimp only
  have hcount : (t.inc Reg.IZ_CTL_AUTH_FAILS).rd Reg.IZ_CTL_AUTH_FAILS
      = (s.rd Reg.IZ_CTL_AUTH_FAILS + 1) % 18446744073709551616 := by
    rw [State.rd_inc_self, hfails]
  have hstate : ((t.inc Reg.IZ_CTL_AUTH_FAILS).setIz fun fld =>
      { fld with authRun := (t.inc Reg.IZ_CTL_AUTH_FAILS).iz.authRun + 1 }).iz.authRun = s.iz.authRun + 1 :=
    congrArg (· + 1) hrun
  have hphase : (t.session k).phase = 0 := by rw [hsession]
  split
  · refine ⟨hphase, hstate, hcount, fun _ => ⟨rfl, ?_⟩, hout, hundisturbed.trans ?_⟩
    · rw [State.deadline_arm_self]
      exact congrArg (fun d : Stamp => some (d + 10000000000)) hnow
    · refine State.Undisturbed.trans (t := State.setIz _ _) ?_ (State.undisturbed_arm _ _ nofun)
      exact ⟨rfl, rfl, rfl, rfl, rfl⟩
  · rename_i hfew
    refine ⟨hphase, hstate, hcount, fun hmany => ?_, hout, hundisturbed.trans ⟨rfl, rfl, rfl, rfl, rfl⟩⟩
    rw [hstate] at hfew
    omega

/-! ### OPEN (R434) -/

/-- The session an accepted OPEN allots. -/
def State.opening (s : State) (r : IzReq) (k : SessionNo) : State :=
  ((s.freeBytes 16).2.setSession k fun _ =>
    { phase := 1, role := uAt r.data 0 1, hostNonce := slice r.data 1 16, deviceNonce := (s.freeBytes 16).1 }).arm
      (.auth k.val) ((s.freeBytes 16).2.now + nsPerSec)

theorem exec_openSession (htakes : s.takes r = true) (hop : r.op = opOpen) (hadmit : s.admitReq r = .accepted u)
    (hlength : r.data.length = 17) (hlow : 1 ≤ uAt r.data 0 1) (hhigh : uAt r.data 0 1 ≤ 3) :
    exec (.openSession r) s = .next (State.keep
      (match (List.finRange 8).find? fun k => decide ((u.session k).phase = 0) with
        | none => u.respond (r.answer stBusy)
        | some k =>
          if (u.fuses.roleKey (uAt r.data 0 1)).status ≠ 1 ∨ u.iz.locked then u.respond (r.answer stAuth)
          else (u.opening r k).respond
            { r.answer stOk (be 8 u.fuses.deviceId ++ (u.freeBytes 16).1) with session := k.val + 1 }) s) := by
  refine (guarded_pos s ⟨htakes, hop⟩).trans ?_
  rw [hadmit, Admission.run, if_neg (not_not.mpr hlength), if_neg (by omega)]
  rfl

theorem sessionNo_succ (k : SessionNo) : sessionNo (k.val + 1) = some k := by
  unfold sessionNo
  rw [dif_pos (by omega)]
  rfl

theorem openSession_granted (htakes : s.takes r = true) (hop : r.op = opOpen) (hadmit : s.admitReq r = .accepted u)
    (hlength : r.data.length = 17) (hlow : 1 ≤ uAt r.data 0 1) (hhigh : uAt r.data 0 1 ≤ 3)
    (hfree : ((List.finRange 8).find? fun k => decide ((u.session k).phase = 0)) = some k)
    (hkey : (u.fuses.roleKey (uAt r.data 0 1)).status = 1) (hlocked : u.iz.locked = false) :
    Completes (.openSession r) s fun t => (t.session k).phase = 1 ∧ (t.session k).role = uAt r.data 0 1
      ∧ (t.session k).hostNonce = slice r.data 1 16 ∧ (t.session k).deviceNonce.length = 16
      ∧ t.deadline (.auth k.val) = some (s.now + 1000000000)
      ∧ ∃ x, Out.reply x ∈ t.out ∧ x.status = stOk ∧ x.session = k.val + 1
          ∧ x.data = be 8 s.fuses.deviceId ++ (t.session k).deviceNonce := by
  have hway := accepts hadmit
  have hexec := exec_openSession htakes hop hadmit hlength hlow hhigh
  rw [hfree] at hexec
  dsimp only at hexec
  rw [if_neg (by rw [hkey, hlocked]; decide)] at hexec
  have hsession : (u.opening r k).session k
      = { phase := 1, role := uAt r.data 0 1, hostNonce := slice r.data 1 16, deviceNonce := (u.freeBytes 16).1 } :=
    State.session_setSession_self (u.freeBytes 16).2 k fun _ =>
      { phase := 1, role := uAt r.data 0 1, hostNonce := slice r.data 1 16, deviceNonce := (u.freeBytes 16).1 }
  have hdeadline : (u.opening r k).deadline (.auth k.val) = some (s.now + 1000000000) := by
    unfold State.opening
    rw [State.deadline_arm_self, ← hway.undisturbed.now]
    rfl
  obtain ⟨m, hm⟩ := respond_sends (s := u.opening r k)
    { r.answer stOk (be 8 u.fuses.deviceId ++ (u.freeBytes 16).1) with session := k.val + 1 } (fun j hj => by
      obtain rfl : k = j := Option.some.inj ((sessionNo_succ k).symm.trans hj)
      rw [hsession]
      exact Nat.one_ne_zero)
  obtain ⟨-, hkept⟩ := respond_iz (u.opening r k)
    { r.answer stOk (be 8 u.fuses.deviceId ++ (u.freeBytes 16).1) with session := k.val + 1 }
  obtain ⟨l, hl⟩ := hkept k
  rw [hsession] at hl
  refine ⟨_, hexec, congrArg Session.phase hl, congrArg Session.role hl, congrArg Session.hostNonce hl, ?_, ?_,
    _, hm, rfl, rfl, ?_⟩
  · refine (congrArg (fun z : Session => z.deviceNonce.length) hl).trans ?_
    simp [State.freeBytes]
  · exact (State.deadline_respond (u.opening r k) (u := .auth k.val) _ nofun).trans hdeadline
  · rw [← hway.undisturbed.fuses]
    exact congrArg (be 8 u.fuses.deviceId ++ ·) (congrArg Session.deviceNonce hl).symm

/-! ### AUTH (R433 to R435) -/

/-- An AUTH that is judged: it arrived, and is counted. -/
def State.judged (s : State) (r : IzReq) : State := (s.arrives r).inc Reg.IZ_CTL_REQUESTS

theorem undisturbed_judged (s : State) (r : IzReq) : s.Undisturbed (s.judged r) :=
  (s.undisturbed_arrives r).trans ⟨rfl, rfl, rfl, rfl, rfl⟩

theorem roleKeyBytes_congr {t : State} (h : t.fuses = s.fuses) (role : Nat) : t.roleKeyBytes role = s.roleKeyBytes role := by
  unfold State.roleKeyBytes
  rw [h]

theorem proofText_congr {t : State} (h : t.fuses = s.fuses) (z : Session) : t.proofText z = s.proofText z := by
  unfold State.proofText
  rw [h]

/-- The host's proof, and the device's, under the key of the session's role. -/
def State.proof (s : State) (k : SessionNo) (c : Byte) : Bytes :=
  hmacSha256 (s.roleKeyBytes (s.session k).role) ([0x49, 0x5A, 0x56, c] ++ s.proofText (s.session k))

/-- The key of the session an AUTH opens. -/
def State.sessionKey (s : State) (k : SessionNo) : Bytes :=
  hmacSha256 (s.roleKeyBytes (s.session k).role)
    ([0x49, 0x5A, 0x56, 0x4B] ++ (s.session k).deviceNonce ++ (s.session k).hostNonce)

/-- The session an AUTH with the right proof opens. -/
def State.authenticated (s : State) (k : SessionNo) : State :=
  let t := (s.setIz fun fld => { fld with authRun := 0 }).disarm (.auth k.val)
  let t := (t.setSession k fun y => { y with phase := 2, key := s.sessionKey k, counter := 0 }).arm
    (.session k.val) (t.now + t.rd Reg.IZ_CTL_idle_time * nsPerSec)
  ((t.wr Reg.IZ_SESSION_role 0 (k.val + 1) (s.session k).role).wr Reg.IZ_SESSION_opened 0 (k.val + 1) t.now).wr
    Reg.IZ_SESSION_last_arrival 0 (k.val + 1) t.now

theorem exec_authSession (htakes : s.takes r = true) (hop : r.op = opAuth) (hk : sessionNo r.session = some k)
    (hphase : (s.session k).phase = 1) (hcounter : r.counter = 0) (hmac : r.mac = [])
    (htime : s.passed (.auth k.val) = false) (hform : r.lengthOk = true) :
    exec (.authSession r) s = .next (State.keep
      (if r.data ≠ (s.judged r).proof k 0x31 then ((s.judged r).authFailed k).reply (r.answer stAuth)
      else ((s.judged r).authenticated k).respond (r.answer stOk ((s.judged r).proof k 0x32))) s) := by
  refine (guarded_pos s ⟨htakes, hop⟩).trans ?_
  rw [hk]
  dsimp only
  rw [if_neg (by
    rw [session_arrives, passed_arrives (t := .auth k.val) nofun, hphase, hcounter, hmac, htime]
    simp), if_neg (by rw [hform]; decide)]
  rfl

theorem undisturbed_authenticated (s : State) (k : SessionNo) : s.Undisturbed (s.authenticated k) := by
  have hauth : Timer.hostReset ≠ .auth k.val := nofun
  have hsession : Timer.hostReset ≠ .session k.val := nofun
  refine ⟨rfl, rfl, rfl, rfl, ?_⟩
  exact (State.deadline_arm_other _ _ hsession).trans (State.deadline_disarm_other _ hauth)

theorem session_authenticated (s : State) (k : SessionNo) : (s.authenticated k).session k
    = { s.session k with phase := 2, key := s.sessionKey k, counter := 0 } :=
  State.session_setSession_self ((s.setIz fun fld => { fld with authRun := 0 }).disarm (.auth k.val)) k fun y =>
    { y with phase := 2, key := s.sessionKey k, counter := 0 }

theorem deadline_authenticated (s : State) (k : SessionNo) : (s.authenticated k).deadline (.session k.val)
      = some (s.now + s.rd Reg.IZ_CTL_idle_time * 1000000000)
    ∧ (s.authenticated k).deadline (.auth k.val) = none := by
  have hne : Timer.auth k.val ≠ .session k.val := nofun
  exact ⟨State.deadline_arm_self .., (State.deadline_arm_other _ _ hne).trans (State.deadline_disarm_self ..)⟩

theorem session_judged (s : State) (r : IzReq) (k : SessionNo) : (s.judged r).session k = s.session k :=
  session_arrives s r k

theorem proof_judged (s : State) (r : IzReq) (k : SessionNo) (c : Byte) : (s.judged r).proof k c = s.proof k c := by
  unfold State.proof
  rw [session_judged, roleKeyBytes_congr (undisturbed_judged s r).fuses, proofText_congr (undisturbed_judged s r).fuses]

theorem sessionKey_judged (s : State) (r : IzReq) (k : SessionNo) : (s.judged r).sessionKey k = s.sessionKey k := by
  unfold State.sessionKey
  rw [session_judged, roleKeyBytes_congr (undisturbed_judged s r).fuses]

theorem authSession_opens (htakes : s.takes r = true) (hop : r.op = opAuth) (hk : sessionNo r.session = some k)
    (hphase : (s.session k).phase = 1) (hcounter : r.counter = 0) (hmac : r.mac = [])
    (htime : s.passed (.auth k.val) = false) (hform : r.lengthOk = true) (hproof : r.data = s.proof k 0x31) :
    Completes (.authSession r) s fun t => (t.session k).phase = 2 ∧ (t.session k).counter = 0 ∧ t.iz.authRun = 0
      ∧ (t.session k).key = s.sessionKey k
      ∧ t.deadline (.session k.val) = some (s.now + s.rd Reg.IZ_CTL_idle_time * 1000000000)
      ∧ t.deadline (.auth k.val) = none
      ∧ ∃ x, Out.reply x ∈ t.out ∧ x.status = stOk ∧ x.tag = r.tag ∧ x.data = s.proof k 0x32 := by
  have hexec := exec_authSession htakes hop hk hphase hcounter hmac htime hform
  rw [proof_judged, proof_judged, if_neg (not_not.mpr hproof)] at hexec
  have hsession := session_authenticated (s.judged r) k
  rw [session_judged, sessionKey_judged] at hsession
  obtain ⟨hiz, hkept⟩ := respond_iz ((s.judged r).authenticated k) (r.answer stOk (s.proof k 0x32))
  obtain ⟨l, hl⟩ := hkept k
  rw [hsession] at hl
  obtain ⟨hidle, hauth⟩ := deadline_authenticated (s.judged r) k
  have hrd : (s.judged r).rd Reg.IZ_CTL_idle_time = s.rd Reg.IZ_CTL_idle_time := by
    unfold State.judged
    rw [State.rd_inc_other _ _ Obj.key_ne, State.rd_arrives]
  rw [(undisturbed_judged s r).now, hrd] at hidle
  obtain ⟨x, hx, hstatus, hdata, -, -, -, htag⟩ := answer_sends (s := (s.judged r).authenticated k) (r := r) (status := stOk)
    (data := s.proof k 0x32) (ext := []) (fun j hj => by
      obtain rfl : k = j := Option.some.inj (hk.symm.trans hj)
      rw [hsession]
      exact Nat.succ_ne_zero 1)
  refine ⟨_, hexec, congrArg Session.phase hl, congrArg Session.counter hl, ?_, congrArg Session.key hl, ?_, ?_,
    x, hx, hstatus, htag, hdata⟩
  · exact (congrArg IzState.authRun hiz).trans rfl
  · exact (State.deadline_respond _ (u := .session k.val) _ nofun).trans hidle
  · exact (State.deadline_respond _ (u := .auth k.val) _ nofun).trans hauth

theorem authSession_fails (htakes : s.takes r = true) (hop : r.op = opAuth) (hk : sessionNo r.session = some k)
    (hphase : (s.session k).phase = 1) (hcounter : r.counter = 0) (hmac : r.mac = [])
    (htime : s.passed (.auth k.val) = false) (hform : r.lengthOk = true) (hproof : r.data ≠ s.proof k 0x31) :
    Completes (.authSession r) s fun t => (t.session k).phase = 0 ∧ t.iz.authRun = s.iz.authRun + 1
      ∧ t.rd Reg.IZ_CTL_AUTH_FAILS = (s.rd Reg.IZ_CTL_AUTH_FAILS + 1) % 18446744073709551616
      ∧ (2 ≤ s.iz.authRun → t.iz.locked = true ∧ t.deadline .lockout = some (s.now + 10000000000))
      ∧ ∃ x, Out.reply x ∈ t.out ∧ x.status = stAuth ∧ x.tag = r.tag := by
  have hexec := exec_authSession htakes hop hk hphase hcounter hmac htime hform
  rw [proof_judged, if_pos hproof] at hexec
  obtain ⟨hfree, hrun, hfails, hlock, -, -⟩ := authFailed_spec (s.judged r) k
  obtain ⟨-, -, -, hiz⟩ := arrives_spec s r
  have hrunJudged : (s.judged r).iz.authRun = s.iz.authRun := (congrArg IzState.authRun hiz).trans rfl
  have hfailsJudged : (s.judged r).rd Reg.IZ_CTL_AUTH_FAILS = s.rd Reg.IZ_CTL_AUTH_FAILS := by
    unfold State.judged
    rw [State.rd_inc_other _ _ Obj.key_ne, State.rd_arrives]
  rw [hrunJudged] at hrun hlock
  rw [hfailsJudged] at hfails
  rw [(undisturbed_judged s r).now] at hlock
  generalize (s.judged r).authFailed k = t at *
  have hreply : (t.reply (r.answer stAuth)).iz = t.iz := State.reply_iz ..
  refine ⟨_, hexec, ?_, ?_, ?_, fun h => ?_, r.answer stAuth, State.reply_mem .., rfl, rfl⟩
  · exact (congrArg (fun z : IzState => z.sessions[k].phase) hreply).trans hfree
  · exact (congrArg IzState.authRun hreply).trans hrun
  · refine (State.rd_reply _ _ ?_).trans hfails
    exact Obj.key_ne (by decide) (by decide) (by decide) ((Side.n_lt _).trans (by decide)) (by decide)
  · obtain ⟨hlocked, hdeadline⟩ := hlock h
    exact ⟨(congrArg IzState.locked hreply).trans hlocked,
      (State.deadline_reply _ (u := .lockout) _ nofun).trans hdeadline⟩

/-! ### Proxy requests (R450, R451) -/

/-- The requests a station has queued or outstanding on a port. -/
def State.proxyLoad (s : State) (p : Port) (a : Nat) : Nat :=
  ((s.port p).proxies.filter fun x => x.a == a).length + ((s.port p).outstanding.filter fun o => o.proxy.a == a).length

/-- The proxy request a READ or WRITE of a proxy address asks for. -/
def proxyOf (r : IzReq) (write : Bool) : Proxy :=
  { a := r.sub, write := write, rIndex := r.rIndex, rSub := r.rSub, rElement := r.rElement, data := r.data, side := r.side,
    op := r.op, session := r.session, tag := r.tag, counter := r.counter }

/-- The EXT field of a proxy response (R451). -/
def proxyExtOf (r : IzReq) : Bytes := be 2 r.rIndex ++ be 1 r.rSub ++ be 3 r.rElement

section
variable {write : Bool}

theorem proxyReq_queued (hrefused : s.proxyRefused r write = none)
    (hstation : s.stationRefused (Fin.ofNat 32 (r.index - 0x6000)) r.sub = none)
    (hload : s.proxyLoad (Fin.ofNat 32 (r.index - 0x6000)) r.sub < 8) :
    s.proxyReq r write = s.setPort (Fin.ofNat 32 (r.index - 0x6000)) fun q =>
      { q with proxies := q.proxies ++ [proxyOf r write] } := by
  unfold State.proxyReq
  dsimp only
  rw [hrefused]
  dsimp only
  rw [hstation]
  exact if_neg (Nat.not_le.mpr hload)

theorem proxyReq_busy (hrefused : s.proxyRefused r write = none)
    (hstation : s.stationRefused (Fin.ofNat 32 (r.index - 0x6000)) r.sub = none)
    (hload : 8 ≤ s.proxyLoad (Fin.ofNat 32 (r.index - 0x6000)) r.sub) :
    s.proxyReq r write = (s.inc Reg.PROXY_STATS_BUSY (Fin.ofNat 32 (r.index - 0x6000) : Port)).respond
      (r.answer stBusy [] (proxyExtOf r)) := by
  unfold State.proxyReq
  dsimp only
  rw [hrefused]
  dsimp only
  rw [hstation]
  exact if_pos hload

theorem proxyReq_station {e : Nat} (hrefused : s.proxyRefused r write = none)
    (hstation : s.stationRefused (Fin.ofNat 32 (r.index - 0x6000)) r.sub = some e) :
    s.proxyReq r write = s.respond (r.answer e [] (proxyExtOf r)) := by
  unfold State.proxyReq
  dsimp only
  rw [hrefused]
  dsimp only
  rw [hstation]
  rfl

end

theorem exec_proxyRead (htakes : s.takes r = true) (hop : r.op = opRead) (hproxy : isProxy r = true)
    (hadmit : s.admitReq r = .accepted u) : exec (.proxyRead r) s = .next ((u.proxyReq r false).keep s) := by
  refine (guarded_pos s ⟨htakes, hop, hproxy⟩).trans ?_
  rw [hadmit]
  rfl

theorem exec_proxyWrite (htakes : s.takes r = true) (hop : r.op = opWrite) (hproxy : isProxy r = true)
    (hadmit : s.admitReq r = .accepted u) : exec (.proxyWrite r) s = .next ((u.proxyReq r true).keep s) := by
  refine (guarded_pos s ⟨htakes, hop, hproxy⟩).trans ?_
  rw [hadmit]
  rfl

/-- A queued proxy request waits last on its port, and nothing is answered. -/
theorem State.Accepts.queues (h : s.Accepts r u) (p : Port) (x : Proxy) :
    ((u.setPort p fun q => { q with proxies := q.proxies ++ [x] }).keep s).out = s.out
      ∧ (((u.setPort p fun q => { q with proxies := q.proxies ++ [x] }).keep s).port p).proxies
        = (s.port p).proxies ++ [x] := by
  refine ⟨h.out, ?_⟩
  have hport : u.port p = s.port p := State.port_congr h.ports p
  have hset : (u.setPort p fun q => { q with proxies := q.proxies ++ [x] }).port p
      = { u.port p with proxies := (u.port p).proxies ++ [x] } := State.port_setPort_self ..
  rw [hport] at hset
  exact congrArg PortState.proxies hset

/-! ### The obligation -/

/-- Settles O44, clause by clause: OPEN, AUTH, CLOSE, the timeouts, and what becomes of a proxy request. -/
theorem sessionsAndProxiesComplete : Obligations.SessionsAndProxiesComplete := by
  unfold Obligations.SessionsAndProxiesComplete
  refine ⟨?_, ?_, ?_, ?_, ?_, ?_, ?_, ?_, ?_, ?_, ?_, ?_, ?_, ?_⟩
  · intro s u r k htakes hop hadmit hlength hlow hhigh hfree hkey hlocked
    exact openSession_granted htakes hop hadmit hlength hlow hhigh hfree hkey hlocked
  · intro s u r htakes hop hadmit hlength hlow hhigh hnone
    refine (exec_openSession htakes hop hadmit hlength hlow hhigh).trans ?_
    have hfind : ((List.finRange 8).find? fun k => decide ((u.session k).phase = 0)) = none :=
      List.find?_eq_none.mpr fun k _ => by simpa using hnone k
    rw [hfind]
    exact congrArg Host.Outcome.next ((accepts hadmit).keep_respond _)
  · intro s u r k htakes hop hadmit hlength hlow hhigh hphase hrefused
    refine (exec_openSession htakes hop hadmit hlength hlow hhigh).trans ?_
    obtain ⟨j, hj⟩ : ∃ j, ((List.finRange 8).find? fun k => decide ((u.session k).phase = 0)) = some j :=
      Option.isSome_iff_exists.mp (List.find?_isSome.mpr ⟨k, List.mem_finRange k, decide_eq_true hphase⟩)
    rw [hj]
    dsimp only
    rw [if_pos hrefused]
    exact congrArg Host.Outcome.next ((accepts hadmit).keep_respond _)
  · intro s r k htakes hop hk hphase hcounter hmac htime hform hproof
    exact authSession_opens htakes hop hk hphase hcounter hmac htime hform hproof
  · intro s r k htakes hop hk hphase hcounter hmac htime hform hproof
    exact authSession_fails htakes hop hk hphase hcounter hmac htime hform hproof
  · intro s u r k htakes hop hadmit hk
    have hway := accepts hadmit
    obtain ⟨hiz, hdeadline, hundisturbed, hout⟩ := freeSession_spec (u.respond (r.answer stOk)) k
    have hsession := session_freeSession (u.respond (r.answer stOk)) k
    have hreply := State.answer_mem (s := u) (r := r) (status := stOk) hway.phase
    refine ⟨_, (guarded_pos s ⟨htakes, hop⟩).trans ?_, congrArg Session.phase hsession, congrArg Session.staged hsession, rfl,
      hdeadline, ?_⟩
    · rw [hadmit, Admission.run, hk]
      exact congrArg Host.Outcome.next
        ((hway.undisturbed.trans (u.undisturbed_respond _)).trans hundisturbed).keep
    · rw [hout]
      exact hreply
  · intro s k hruns hphase htime
    obtain ⟨hfree, hrun, hfails, hlock, hout, -⟩ := authFailed_spec s k
    exact ⟨_, guarded_pos s ⟨hruns, hphase, htime⟩, hfree, hrun, hfails, hlock, hout⟩
  · intro s hruns hlocked hdue
    exact ⟨_, guarded_pos s ⟨hruns, hlocked, hdue⟩, rfl, State.deadline_disarm_self .., rfl⟩
  · intro s k hruns hphase htime
    obtain ⟨hiz, -, -, hout⟩ := freeSession_spec s k
    have hsession := session_freeSession s k
    refine ⟨_, guarded_pos s ⟨hruns, hphase, htime⟩, congrArg Session.phase hsession, congrArg Session.staged hsession,
      fun c hc => ?_, hout⟩
    have hqueue : (s.freeSession k).iz.queue = s.iz.queue.filter fun c => c.session ≠ k.val + 1 :=
      (congrArg IzState.queue hiz).trans rfl
    rw [State.keep_iz, hqueue] at hc
    simpa using (List.mem_filter.mp hc).2
  · intro s u r htakes hop hproxy hadmit hrefused hstation hload
    obtain ⟨hout, hproxies⟩ := (accepts hadmit).queues (Fin.ofNat 32 (r.index - 0x6000)) (proxyOf r false)
    refine ⟨_, (exec_proxyRead htakes hop hproxy hadmit).trans (by rw [proxyReq_queued hrefused hstation hload]), hout, _,
      hproxies, rfl, rfl, rfl, rfl, rfl, rfl, rfl, rfl⟩
  · intro s u r htakes hop hproxy hadmit hrefused hstation hload
    obtain ⟨hout, hproxies⟩ := (accepts hadmit).queues (Fin.ofNat 32 (r.index - 0x6000)) (proxyOf r true)
    refine ⟨_, (exec_proxyWrite htakes hop hproxy hadmit).trans (by rw [proxyReq_queued hrefused hstation hload]), hout, _,
      hproxies, rfl, rfl, rfl, rfl, rfl, rfl, rfl, rfl⟩
  · intro s u r htakes hop hproxy hadmit hrefused hstation hload
    have hway := accepts hadmit
    obtain ⟨x, hx, hstatus, -, -, -, -, htag⟩ := answer_sends
      (s := u.inc Reg.PROXY_STATS_BUSY (Fin.ofNat 32 (r.index - 0x6000) : Port)) (r := r)
      (status := stBusy) (data := []) (ext := (proxyExtOf r)) hway.phase
    have hundisturbed : s.Undisturbed (u.inc Reg.PROXY_STATS_BUSY (Fin.ofNat 32 (r.index - 0x6000) : Port)) :=
      hway.undisturbed.trans ⟨rfl, rfl, rfl, rfl, rfl⟩
    refine ⟨_, (exec_proxyRead htakes hop hproxy hadmit).trans (by
      rw [proxyReq_busy hrefused hstation hload, (hundisturbed.trans (State.undisturbed_respond _ _)).keep]), ?_, x, hx,
      hstatus, htag⟩
    rw [State.rd_respond_apart _ _ (by decide) (Fin.isLt _) (by decide), State.rd_inc_self]
  · intro s u r e htakes hop hproxy hadmit hrefused hstation
    have hway := accepts hadmit
    obtain ⟨x, hx, hstatus, -, hext, -, -, htag⟩ := answer_sends (s := u) (r := r) (status := e) (data := [])
      (ext := (proxyExtOf r)) hway.phase
    refine ⟨_, (exec_proxyRead htakes hop hproxy hadmit).trans (by
      rw [proxyReq_station hrefused hstation, hway.keep_respond]), ?_, x, hx, hstatus, htag, hext⟩
    exact (State.respond_ports ..).trans hway.ports
  · intro s u r e htakes hop hproxy hadmit hrefused
    refine (exec_proxyWrite htakes hop hproxy hadmit).trans ?_
    unfold State.proxyReq
    rw [hrefused]
    exact congrArg Host.Outcome.next ((accepts hadmit).keep_refuseWrite e)

end Sys2Proof.Machine
end

section
/-! Commits (R443, R444, R446). -/

namespace Sys2Proof.Machine

set_option Elab.async false

variable {s t u c d : State} {r : IzReq} {k : SessionNo}

/-! ### What the check of a commit reads (R444 to R446) -/

/-- Two states that the check of a commit cannot tell apart: they differ in nothing it reads, the objects up to the number of
the last commit apart. -/
structure State.Alike (s t : State) : Prop where
  ports : t.ports = s.ports
  faults : t.faults = s.faults
  fuses : t.fuses = s.fuses
  power : t.power = s.power
  time : t.time = s.time
  keyFresh : t.iz.keyFresh = s.iz.keyFresh
  keyWrites : t.iz.keyWrites = s.iz.keyWrites
  regs : ∀ key, Reg.COMMIT_STATUS_number.key 0 0 < key → Store.get 0 t.regs key = Store.get 0 s.regs key

namespace State.Alike

theorem rd (h : s.Alike t) {q : Obj} {i j : Nat} (hq : Reg.COMMIT_STATUS_number.key 0 0 < q.key 0 0) :
    t.rd q i j = s.rd q i j := by
  have hkey : q.key 0 0 ≤ q.key i j := by
    unfold Obj.key
    omega
  unfold State.rd
  rw [h.regs _ (lt_of_lt_of_le hq hkey)]

theorem rdN (h : s.Alike t) {q : Obj} {i j : Nat} (hq : Reg.COMMIT_STATUS_number.key 0 0 < q.key 0 0) :
    t.rdN q i j = s.rdN q i j := congrArg Int.toNat (h.rd hq)

theorem flag (h : s.Alike t) {q : Obj} {i j : Nat} (hq : Reg.COMMIT_STATUS_number.key 0 0 < q.key 0 0) :
    t.flag q i j = s.flag q i j := by
  unfold State.flag
  rw [h.rd hq]

theorem port (h : s.Alike t) (p : Port) : t.port p = s.port p := State.port_congr h.ports p

theorem now (h : s.Alike t) : t.now = s.now := State.now_congr h.time

theorem portState (h : s.Alike t) (p : Port) : t.portState p = s.portState p := h.rd (by decide)

theorem wr (h : s.Alike t) (q : Obj) (i j : Nat) (v : Int) : (s.wr q i j v).Alike (t.wr q i j v) := by
  refine ⟨h.ports, h.faults, h.fuses, h.power, h.time, h.keyFresh, h.keyWrites, fun key hkey => ?_⟩
  unfold State.wr
  dsimp only
  by_cases hk : key = q.key i j
  · rw [hk, Store.get_put_same, Store.get_put_same]
  · rw [Store.get_put_other _ _ _ hk, Store.get_put_other _ _ _ hk, h.regs key hkey]

theorem putObject (h : s.Alike t) (o : Obj) (n e : Nat) (b : Bytes) : (s.putObject o n e b).Alike (t.putObject o n e b) := by
  unfold State.putObject
  split
  · exact ⟨h.ports, h.faults, h.fuses, h.power, h.time, h.keyFresh, h.keyWrites, h.regs⟩
  · exact h.wr ..

theorem config (h : s.Alike t) (vs : List (Addr × Bytes)) : (s.config vs).Alike (t.config vs) := by
  unfold State.config
  induction vs generalizing s t with
  | nil => exact h
  | cons v vs ih =>
    rw [List.foldl_cons, List.foldl_cons]
    refine ih ?_
    split
    · exact h.putObject ..
    · exact h

theorem bandObj (h : s.Alike t) (p : Port) : t.bandObj p = s.bandObj p := by
  unfold State.bandObj
  simp (disch := decide) only [h.rdN]

theorem pendWindows (h : s.Alike t) (p : Port) : t.pendWindows p = s.pendWindows p := by
  unfold State.pendWindows
  simp (disch := decide) only [h.rdN]

theorem opWindows (h : s.Alike t) (p : Port) : t.opWindows p = s.opWindows p := by
  unfold State.opWindows
  simp (disch := decide) only [h.rdN]

theorem switchAt (h : s.Alike t) (p : Port) : t.switchAt p = s.switchAt p := by
  unfold State.switchAt
  simp (disch := decide) only [h.rd]

theorem fenceUnacked (h : s.Alike t) (e : Nat) : t.fenceUnacked e = s.fenceUnacked e := by
  unfold State.fenceUnacked
  simp (disch := decide) only [h.rdN, h.faults]

theorem aoBudget (h : s.Alike t) : t.aoBudget = s.aoBudget := by
  unfold State.aoBudget
  simp (disch := decide) only [h.rdN, h.flag]

theorem pendChecked (h : s.Alike t) (vs : List (Addr × Bytes)) (p : Port) :
    Machine.pendChecked t vs p = Machine.pendChecked s vs p := by
  unfold Machine.pendChecked
  simp (disch := decide) only [h.flag]

theorem entryCheck (h : s.Alike t) (p : Port) (w : Nat) : Machine.entryCheck t p w = Machine.entryCheck s p w := by
  unfold Machine.entryCheck
  simp (disch := decide) only [h.rdN]

theorem pendCheck (h : s.Alike t) (p : Port) : Machine.pendCheck t p = Machine.pendCheck s p := by
  unfold Machine.pendCheck
  simp (disch := decide) only [h.rdN, h.rd, h.pendWindows, h.entryCheck]

theorem combination (h : s.Alike t) (sw : List (Port × Option Stamp)) (at' : Stamp) :
    t.combination sw at' = s.combination sw at' := by
  unfold State.combination
  simp (disch := decide) only [h.rd, h.pendWindows, h.opWindows]

end State.Alike

section
variable (hs : s.Alike t) (hc : c.Alike d) (vs : List (Addr × Bytes))
include hs hc

theorem counterCheck_congr : counterCheck t d vs = counterCheck s c vs := by
  unfold counterCheck
  refine congrArg (fun f : Addr × Bytes → Bool => (vs.find? f).map fun v => v.1) (funext fun v => ?_)
  cases lookup v.1.index v.1.sub with
  | none => rfl
  | some x =>
    obtain ⟨o, p⟩ := x
    dsimp only
    by_cases ho : o = Reg.LP_SA_transmit_PN ∨ o = Reg.LP_SA_receive_PN
    · have hbeyond : Reg.COMMIT_STATUS_number.key 0 0 < o.key 0 0 := by
        rcases ho with rfl | rfl <;> decide
      rw [hc.rd hbeyond, hs.rd hbeyond, hs.keyFresh, hs.keyWrites]
    · have hnot : (o == Reg.LP_SA_transmit_PN || o == Reg.LP_SA_receive_PN) = false := by
        simpa using ho
      simp only [hnot, Bool.false_and]

theorem portGone_congr (p : Port) : portGone t d p = portGone s c p := by
  unfold portGone
  simp (disch := decide) only [hc.flag, hs.portState, hs.power]

theorem levelCheck_congr : levelCheck t d = levelCheck s c := by
  unfold levelCheck
  simp (disch := decide) only [hc.rd, portGone_congr hs hc, hc.bandObj]

theorem clockCheck_congr : clockCheck t d vs = clockCheck s c vs := by
  unfold clockCheck
  simp (disch := decide) only [hc.rd, hs.rd]

theorem fenceCheck_congr : fenceCheck t d vs = fenceCheck s c vs := by
  unfold fenceCheck
  simp (disch := decide) only [hc.flag, hs.rd, hs.fenceUnacked]

theorem lifeCheck_congr : lifeCheck t d vs = lifeCheck s c vs := by
  unfold lifeCheck
  simp (disch := decide) only [hc.rdN, hs.fuses]

theorem rangeCheck_congr : rangeCheck t d vs = rangeCheck s c vs := by
  have hband : bandCheck d = bandCheck c := by
    unfold bandCheck
    simp only [hc.bandObj]
  have hmeter : meterCheck d vs = meterCheck c vs := by
    unfold meterCheck
    simp (disch := decide) only [hc.rd]
  unfold rangeCheck
  rw [hband, hmeter, counterCheck_congr hs hc, levelCheck_congr hs hc, clockCheck_congr hs hc, fenceCheck_congr hs hc,
    lifeCheck_congr hs hc]
  simp only [hc.pendChecked, hc.pendCheck]

theorem switchIf_congr (p : Port) : t.switchIf d vs p = s.switchIf c vs p := by
  unfold State.switchIf
  simp (disch := decide) only [hc.rd, hc.flag, hs.port, hs.now, hs.switchAt]

theorem conflictOf_congr : conflictOf t d vs = conflictOf s c vs := by
  have hsound : soundConflict t d vs = soundConflict s c vs := by
    unfold soundConflict
    simp (disch := decide) only [hc.rd, switchIf_congr hs hc, hs.now, hc.combination]
  have hduplex : duplexConflict t d vs = duplexConflict s c vs := by
    unfold duplexConflict
    simp (disch := decide) only [hc.pendChecked, hc.pendWindows, hc.rd, switchIf_congr hs hc, hs.now]
  have htrain : trainConflict t d vs = trainConflict s c vs := by
    unfold trainConflict
    simp (disch := decide) only [hc.flag, hc.opWindows, hc.pendWindows, switchIf_congr hs hc]
  have htsync : tsyncConflict d = tsyncConflict c := by
    unfold tsyncConflict
    simp (disch := decide) only [hc.flag]
  have hdown : downConflict d = downConflict c := by
    unfold downConflict
    simp (disch := decide) only [hc.flag]
  have hbudget : budgetConflict d = budgetConflict c := by
    unfold budgetConflict
    simp (disch := decide) only [hc.aoBudget, hc.rd]
  unfold conflictOf
  rw [hsound, hduplex, htrain, htsync, hdown, hbudget]

end

/-- The check of a commit comes out the same in two states it cannot tell apart. -/
theorem State.Alike.commitRefusal (h : s.Alike t) (vs : List (Addr × Bytes)) : t.commitRefusal vs = s.commitRefusal vs := by
  have hc := h.config vs
  unfold State.commitRefusal
  dsimp only
  rw [rangeCheck_congr h hc, conflictOf_congr h hc]

/-! ### A COMMIT (R443) -/

theorem exec_commit {x : Obj × Nat × List (Nat × Bytes)} (htakes : s.takes r = true) (hwrites : writes r 0x1010 = true)
    (hadmit : s.admitReq r = .accepted u) (hcheck : u.checkWrite r = .ok x) (hk : sessionNo r.session = some k) :
    exec (.commit r) s = .next (State.keep
      (if uAt r.data 0 4 ≠ 0xC0DE then u.refuseWrite r stRange
      else ((((u.setSession k fun z => { z with staged := [] }).setIz fun fld => { fld with
          queue := u.iz.queue ++ [⟨r.session, r.side, r.tag, r.counter, (u.session k).staged, u.now⟩] }).wr
        Reg.COMMIT_STATUS_state 0 0 1).wr Reg.COMMIT_STATUS_session 0 0 r.session)) s) := by
  refine (guarded_pos s ⟨htakes, hwrites⟩).trans ?_
  rw [hadmit, Admission.run, hcheck, hk]
  rfl

/-! ### The check of a commit (R444, R446) -/

/-- The state a commit is checked in: it has left the queue, and its number is taken. -/
def State.checking (s : State) (rest : List Commit) : State :=
  (s.setIz fun fld => { fld with queue := rest }).wr Reg.COMMIT_STATUS_number 0 0
    ((s.rd Reg.COMMIT_STATUS_number + 1) % 4294967296)

theorem alike_checking (s : State) (rest : List Commit) : s.Alike (s.checking rest) := by
  refine ⟨rfl, rfl, rfl, rfl, rfl, rfl, rfl, fun key hkey => ?_⟩
  exact Store.get_put_other _ _ _ (Nat.ne_of_gt hkey)

theorem undisturbed_checking (s : State) (rest : List Commit) : s.Undisturbed (s.checking rest) :=
  ⟨rfl, rfl, rfl, rfl, rfl⟩

theorem exec_commitCheckStart {rest : List Commit} {x : Commit} (hsteward : s.steward = true) (hasked : s.refclkAsked = false)
    (hqueue : s.iz.queue = x :: rest) (hactive : s.iz.active = none) : exec .commitCheckStart s = .next (State.keep
      (match s.commitRefusal x.values with
        | some (status, report) => (s.checking rest).refuseCommit x status report
        | none => (s.checking rest).acceptCommit x) s) := by
  have hexec : exec .commitCheckStart s = execCommitCheckStart s := rfl
  rw [hexec, execCommitCheckStart, hqueue]
  refine (guarded_pos s ⟨hsteward, hactive, by rw [hasked]; rfl⟩).trans ?_
  rw [← (alike_checking s rest).commitRefusal]
  rfl

/-- A refusal carries a report (R446). -/
theorem commitRefusal_report {vs : List (Addr × Bytes)} {status : Nat} {report : Bytes}
    (h : s.commitRefusal vs = some (status, report)) : report ≠ [] := by
  have hne (x : Conflict) : x.report ≠ [] := by
    unfold Conflict.report
    simp
  unfold State.commitRefusal at h
  dsimp only at h
  split at h
  · cases h
    exact hne _
  · obtain ⟨x, -, hx⟩ := Option.map_eq_some_iff.mp h
    cases hx
    exact hne x

/-- What a refused commit leaves before it is answered. -/
def State.refused (s : State) (report : Bytes) : State :=
  ((s.wrB Reg.CONFLICT_REPORT 0 0 report).inc Reg.COMMIT_STATUS_REFUSALS).afterCommit 5

/-- The staged set of a refused commit is staged again, under what has been staged since (R446). -/
def restage (values : List (Addr × Bytes)) (z : Session) : Session :=
  if z.phase = 2 then { z with staged := z.staged.foldl stageValue values } else z

theorem refuseCommit_of_session {x : Commit} {status : Nat} {report : Bytes} (hk : sessionNo x.session = some k) :
    s.refuseCommit x status report
      = ((s.refused report).setSession k (restage x.values)).respond (x.answer status) := by
  unfold State.refuseCommit
  dsimp only
  rw [hk]
  rfl

/-- The state an accepted commit is answered in. -/
theorem acceptCommit_eq (s : State) (x : Commit) : s.acceptCommit x
    = ((((s.inc Reg.COMMIT_STATUS_COMMITS).respond (x.answer stOk)).setIz fun fld => { fld with
        active := some x, remaining := (x.values.filterMap fun v => v.1.island).eraseDups, ramping := []
        acceptedAt := ((s.inc Reg.COMMIT_STATUS_COMMITS).respond (x.answer stOk)).now, tickSeen := false }).wr
      Reg.COMMIT_STATUS_state 0 0 3).commitDone := rfl

theorem commitDone_waits {x : Commit} (hactive : s.iz.active = some x) (hwaits : s.commitWaits x = true) :
    s.commitDone = s := by
  unfold State.commitDone
  rw [hactive]
  exact if_pos hwaits

/-- A commit of an empty set waits for nothing, and is done at once (R443). -/
theorem commitDone_empty {x : Commit} (hactive : s.iz.active = some x) (hempty : x.values = []) :
    s.commitDone = (((s.setIz fun fld => { fld with active := none }).wr Reg.COMMIT_STAMP 0 0 s.now).wr
      Reg.COMMIT_STATUS_applied 0 0 0).afterCommit 4 := by
  have hwaits : s.commitWaits x = false := by
    unfold State.commitWaits
    rw [hempty]
    rfl
  unfold State.commitDone
  rw [hactive]
  dsimp only
  rw [if_neg (by rw [hwaits]; exact Bool.false_ne_true)]
  simp only [hempty, List.length_nil]
  rfl

/-- An accepted commit that touches an island waits for it. -/
theorem acceptCommit_waits {x : Commit} (hislands : (x.values.filterMap fun v => v.1.island).eraseDups ≠ []) :
    s.acceptCommit x = (((s.inc Reg.COMMIT_STATUS_COMMITS).respond (x.answer stOk)).setIz fun fld => { fld with
        active := some x, remaining := (x.values.filterMap fun v => v.1.island).eraseDups, ramping := []
        acceptedAt := ((s.inc Reg.COMMIT_STATUS_COMMITS).respond (x.answer stOk)).now, tickSeen := false }).wr
      Reg.COMMIT_STATUS_state 0 0 3 := by
  have hvalues : x.values ≠ [] := by
    intro h
    rw [h] at hislands
    exact hislands rfl
  rw [acceptCommit_eq]
  refine commitDone_waits (x := x) rfl ?_
  unfold State.commitWaits
  have hremaining : ((((s.inc Reg.COMMIT_STATUS_COMMITS).respond (x.answer stOk)).setIz fun fld => { fld with
        active := some x, remaining := (x.values.filterMap fun v => v.1.island).eraseDups, ramping := []
        acceptedAt := ((s.inc Reg.COMMIT_STATUS_COMMITS).respond (x.answer stOk)).now, tickSeen := false }).wr
      Reg.COMMIT_STATUS_state 0 0 3).iz.remaining = (x.values.filterMap fun v => v.1.island).eraseDups := rfl
  rw [hremaining]
  simp [hvalues, hislands]

/-! ### The obligation -/

theorem commitsComplete_queued {x : Obj × Nat × List (Nat × Bytes)} (htakes : s.takes r = true)
    (hwrites : writes r 0x1010 = true) (hadmit : s.admitReq r = .accepted u) (hcheck : u.checkWrite r = .ok x)
    (hk : sessionNo r.session = some k) (hcode : uAt r.data 0 4 = 0xC0DE) :
    Completes (.commit r) s fun t =>
      t.iz.queue = s.iz.queue ++ [⟨r.session, r.side, r.tag, r.counter, (s.session k).staged, s.now⟩]
      ∧ (t.session k).staged = [] ∧ t.rd Reg.COMMIT_STATUS_state = 1 ∧ t.rd Reg.COMMIT_STATUS_session = r.session
      ∧ t.out = s.out := by
  have hway := accepts hadmit
  have hexec := exec_commit htakes hwrites hadmit hcheck hk
  rw [if_neg (not_not.mpr hcode)] at hexec
  refine ⟨_, hexec, ?_, ?_, ?_, State.rd_wr_self .., hway.out⟩
  · have hqueue : u.iz.queue ++ [⟨r.session, r.side, r.tag, r.counter, (u.session k).staged, u.now⟩]
        = s.iz.queue ++ [⟨r.session, r.side, r.tag, r.counter, (s.session k).staged, s.now⟩] := by
      rw [hway.queue, hway.staged, hway.undisturbed.now]
    exact hqueue
  · exact congrArg Session.staged (State.session_setSession_self u k fun z => { z with staged := [] })
  · rw [State.rd_keep]
    exact (State.rd_wr_other _ _ Obj.key_ne).trans (State.rd_wr_self ..)

theorem commitsComplete_refused {x : Commit} {rest : List Commit} {status : Nat} {report : Bytes}
    (hsteward : s.steward = true) (hasked : s.refclkAsked = false) (hqueue : s.iz.queue = x :: rest)
    (hactive : s.iz.active = none) (hrefusal : s.commitRefusal x.values = some (status, report))
    (hk : sessionNo x.session = some k) (hphase : (s.session k).phase = 2) :
    Completes .commitCheckStart s fun t => t.iz.queue = rest ∧ t.iz.active = none
      ∧ t.rdB Reg.CONFLICT_REPORT = report
      ∧ t.rd Reg.COMMIT_STATUS_REFUSALS = (s.rd Reg.COMMIT_STATUS_REFUSALS + 1) % 18446744073709551616
      ∧ t.rd Reg.COMMIT_STATUS_state = (if rest = [] then 5 else 1)
      ∧ (t.session k).staged = (s.session k).staged.foldl stageValue x.values
      ∧ t.ports = s.ports ∧ ∃ y, Out.reply y ∈ t.out ∧ y.status = status ∧ y.tag = x.tag := by
  have hexec := exec_commitCheckStart hsteward hasked hqueue hactive
  rw [hrefusal] at hexec
  dsimp only at hexec
  rw [refuseCommit_of_session hk] at hexec
  have hsession : (((s.checking rest).refused report).setSession k (restage x.values)).session k
      = restage x.values (s.session k) := State.session_setSession_self ((s.checking rest).refused report) k (restage x.values)
  have hrestaged : restage x.values (s.session k)
      = { s.session k with staged := (s.session k).staged.foldl stageValue x.values } := if_pos hphase
  rw [hrestaged] at hsession
  obtain ⟨hiz, -⟩ := respond_iz (((s.checking rest).refused report).setSession k (restage x.values)) (x.answer status)
  obtain ⟨m, hm⟩ := respond_sends (s := ((s.checking rest).refused report).setSession k (restage x.values)) (x.answer status)
    (fun j hj => by
      obtain rfl : k = j := Option.some.inj (hk.symm.trans hj)
      rw [hsession]
      exact hphase.trans_ne (by decide))
  refine ⟨_, hexec, ?_, ?_, ?_, ?_, ?_, ?_, ?_, _, hm, rfl, rfl⟩
  · exact (congrArg IzState.queue hiz).trans rfl
  · exact (congrArg IzState.active hiz).trans hactive
  · rw [State.rdB_congr (State.keep_blobs ..), State.rdB_congr (State.respond_blobs ..)]
    exact State.rdB_wrB_self _ _ _ _ _ (commitRefusal_report hrefusal)
  · rw [State.rd_keep, State.rd_respond_apart _ _ (by decide) (by decide) (by decide)]
    refine (State.rd_wr_other _ _ Obj.key_ne).trans ((State.rd_inc_self ..).trans ?_)
    exact congrArg (fun v : Int => (v + 1) % 18446744073709551616) (State.rd_wr_other _ _ Obj.key_ne)
  · rw [State.rd_keep, State.rd_respond_apart _ _ (by decide) (by decide) (by decide)]
    exact State.rd_wr_self ..
  · refine (congrArg Session.staged rfl).trans ((staged_respond ..).trans ?_)
    rw [hsession]
  · exact (State.respond_ports ..).trans rfl

theorem commitsComplete_accepted {x : Commit} {rest : List Commit} (hsteward : s.steward = true)
    (hasked : s.refclkAsked = false) (hqueue : s.iz.queue = x :: rest) (hactive : s.iz.active = none)
    (haccepted : s.commitRefusal x.values = none) (hk : sessionNo x.session = some k) (hphase : (s.session k).phase = 2)
    (hislands : (x.values.filterMap fun v => v.1.island).eraseDups ≠ []) :
    Completes .commitCheckStart s fun t => t.iz.queue = rest ∧ t.iz.active = some x
      ∧ t.iz.remaining = (x.values.filterMap fun v => v.1.island).eraseDups ∧ t.iz.acceptedAt = s.now
      ∧ t.rd Reg.COMMIT_STATUS_state = 3
      ∧ t.rd Reg.COMMIT_STATUS_COMMITS = (s.rd Reg.COMMIT_STATUS_COMMITS + 1) % 18446744073709551616
      ∧ ∃ y, Out.reply y ∈ t.out ∧ y.status = stOk ∧ y.tag = x.tag := by
  have hexec := exec_commitCheckStart hsteward hasked hqueue hactive
  rw [haccepted] at hexec
  dsimp only at hexec
  rw [acceptCommit_waits hislands] at hexec
  obtain ⟨hiz, -⟩ := respond_iz ((s.checking rest).inc Reg.COMMIT_STATUS_COMMITS) (x.answer stOk)
  obtain ⟨m, hm⟩ := respond_sends (s := (s.checking rest).inc Reg.COMMIT_STATUS_COMMITS) (x.answer stOk) (fun j hj => by
    obtain rfl : k = j := Option.some.inj (hk.symm.trans hj)
    exact hphase.trans_ne (by decide))
  have hnow := (State.undisturbed_respond ((s.checking rest).inc Reg.COMMIT_STATUS_COMMITS) (x.answer stOk)).now
  have hcount : (((s.checking rest).inc Reg.COMMIT_STATUS_COMMITS).respond (x.answer stOk)).rd Reg.COMMIT_STATUS_COMMITS
      = (s.rd Reg.COMMIT_STATUS_COMMITS + 1) % 18446744073709551616 := by
    rw [State.rd_respond_apart _ _ (by decide) (by decide) (by decide), State.rd_inc_self]
    exact congrArg (fun v : Int => (v + 1) % 18446744073709551616) (State.rd_wr_other _ _ Obj.key_ne)
  generalize ((s.checking rest).inc Reg.COMMIT_STATUS_COMMITS).respond (x.answer stOk) = t at *
  refine ⟨_, hexec, (congrArg IzState.queue hiz).trans rfl, rfl, rfl, hnow.trans rfl, ?_, ?_, _, hm, rfl, rfl⟩
  · rw [State.rd_keep]
    exact State.rd_wr_self ..
  · rw [State.rd_keep]
    exact (State.rd_wr_other _ _ Obj.key_ne).trans hcount

theorem commitsComplete_empty {x : Commit} {rest : List Commit} (hsteward : s.steward = true)
    (hasked : s.refclkAsked = false) (hqueue : s.iz.queue = x :: rest) (hactive : s.iz.active = none)
    (haccepted : s.commitRefusal x.values = none) (hempty : x.values = []) :
    Completes .commitCheckStart s fun t => t.iz.active = none ∧ t.rd Reg.COMMIT_STAMP = s.now
      ∧ t.rd Reg.COMMIT_STATUS_applied = 0 ∧ t.rd Reg.COMMIT_STATUS_state = (if rest = [] then 4 else 1)
      ∧ t.iz.queue = rest ∧ t.ports = s.ports := by
  have hexec := exec_commitCheckStart hsteward hasked hqueue hactive
  rw [haccepted] at hexec
  dsimp only at hexec
  rw [acceptCommit_eq, commitDone_empty (x := x) rfl hempty] at hexec
  obtain ⟨hiz, -⟩ := respond_iz ((s.checking rest).inc Reg.COMMIT_STATUS_COMMITS) (x.answer stOk)
  have hnow := (State.undisturbed_respond ((s.checking rest).inc Reg.COMMIT_STATUS_COMMITS) (x.answer stOk)).now
  have hports := State.respond_ports ((s.checking rest).inc Reg.COMMIT_STATUS_COMMITS) (x.answer stOk)
  generalize ((s.checking rest).inc Reg.COMMIT_STATUS_COMMITS).respond (x.answer stOk) = t at *
  have hrest : t.iz.queue = rest := (congrArg IzState.queue hiz).trans rfl
  refine ⟨_, hexec, rfl, ?_, ?_, ?_, hrest, hports⟩
  · rw [State.rd_keep]
    refine (State.rd_wr_other _ _ Obj.key_ne).trans ((State.rd_wr_other _ _ Obj.key_ne).trans
      ((State.rd_wr_self ..).trans (hnow.trans rfl)))
  · rw [State.rd_keep]
    exact (State.rd_wr_other _ _ Obj.key_ne).trans (State.rd_wr_self ..)
  · rw [State.rd_keep, ← hrest]
    exact State.rd_wr_self ..

/-- Settles O45: taking a commit from the queue and its number leave what its check reads, so it comes out as in the state
before. -/
theorem commitsComplete : Obligations.CommitsComplete := by
  unfold Obligations.CommitsComplete
  refine ⟨?_, ?_, ?_, ?_, ?_⟩
  · intro s u r k x htakes hwrites hadmit hcheck hk hcode
    exact commitsComplete_queued htakes hwrites hadmit hcheck hk hcode
  · intro s u r k x htakes hwrites hadmit hcheck hk hcode
    refine (exec_commit htakes hwrites hadmit hcheck hk).trans ?_
    rw [if_pos hcode, (accepts hadmit).keep_refuseWrite]
  · intro s x rest status report k hsteward hasked hqueue hactive hrefusal hk hphase
    exact commitsComplete_refused hsteward hasked hqueue hactive hrefusal hk hphase
  · intro s x rest k hsteward hasked hqueue hactive haccepted hk hphase hislands
    exact commitsComplete_accepted hsteward hasked hqueue hactive haccepted hk hphase hislands
  · intro s x rest hsteward hasked hqueue hactive haccepted hempty
    exact commitsComplete_empty hsteward hasked hqueue hactive haccepted hempty

end Sys2Proof.Machine
end

section
/-! What the windows and states of the line ports leave: the objects they do not write, and what a port holds of its
window and its calibration. -/

namespace Sys2Proof.Machine

set_option Elab.async false

/-- The objects that the windows and states of the line ports write. -/
def windowObjects : List Obj :=
  [Reg.LP_STATE_state, Reg.LP_STATE_stamp, Reg.LP_CAL_CTL_full, Reg.LP_CAL_CTL_request, Reg.LP_CAL_phase,
    Reg.LP_CAL_postponements, Reg.LP_EC_state, Reg.LP_EQ_state, Reg.LP_EQ_MER, Reg.LP_QUIET_effective,
    Reg.LP_QUIET_snapshot_stamp, Reg.LP_STATION_state, Reg.LP_STATION_identity, Reg.LP_STATION_allotments,
    Reg.LP_STATION_timing_advance, Reg.LP_STATION_level_used, Reg.LP_STATION_received_level,
    Reg.LP_STATION_downstream_pace, Reg.LP_STATION_upstream_pace, Reg.LP_STATION_offset, Reg.LP_STATION_registered,
    Reg.LR_STATUS_engine, Reg.LR_STATUS_band, Reg.LR_STATUS_accepted, Reg.LR_STATUS_BLANKED, Reg.LR_STATUS_SKIPPED,
    Reg.LR_FOCUS_pending, Reg.LR_FOCUS_request, Reg.QUEUE_FLUSHED, Reg.QUEUE_deficit, Reg.PF_PORT_CREDIT_STALLS]

/-- What a port holds of its pre-distorter, its window and its calibration. -/
def PortState.keeping (q : PortState) : DpdState × Nat × Stamp × Stamp × Bool × Nat :=
  (q.dpd, q.winIdx, q.winStart, q.winEnd, q.cal.waiting, q.cal.restored)

/-- What the windows and states of the line ports leave. -/
structure State.Windowed (s t : State) : Prop where
  reads : s.ReadsBut windowObjects t
  keeping : ∀ p, (t.port p).keeping = (s.port p).keeping

theorem mem_windowObjects : Reg.LP_STATE_state ∈ windowObjects ∧ Reg.LP_STATE_stamp ∈ windowObjects
    ∧ Reg.LP_CAL_CTL_full ∈ windowObjects ∧ Reg.LP_CAL_CTL_request ∈ windowObjects ∧ Reg.LP_CAL_phase ∈ windowObjects
    ∧ Reg.LP_CAL_postponements ∈ windowObjects ∧ Reg.LP_EC_state ∈ windowObjects ∧ Reg.LP_QUIET_effective ∈ windowObjects
    ∧ Reg.LR_STATUS_engine ∈ windowObjects ∧ Reg.LR_STATUS_band ∈ windowObjects ∧ Reg.LR_STATUS_accepted ∈ windowObjects
    ∧ Reg.LR_STATUS_BLANKED ∈ windowObjects ∧ Reg.LR_STATUS_SKIPPED ∈ windowObjects ∧ Reg.LR_FOCUS_pending ∈ windowObjects
    ∧ Reg.LR_FOCUS_request ∈ windowObjects := by decide

namespace State.Windowed

variable {s₀ s t : State}

theorem refl (s : State) : s.Windowed s := ⟨.refl s, fun _ => rfl⟩

theorem trans {u : State} (h : s₀.Windowed s) (k : s.Windowed u) : s₀.Windowed u :=
  ⟨h.reads.trans k.reads, fun p => (k.keeping p).trans (h.keeping p)⟩

theorem of_eq (h : s₀.Windowed s) (hr : t.regs = s.regs) (hp : t.ports = s.ports) : s₀.Windowed t :=
  ⟨h.reads.then_regs hr, fun p => (congrArg PortState.keeping (State.port_congr hp p)).trans (h.keeping p)⟩

theorem foldl {α : Type} {f : State → α → State} (l : List α) (h : s₀.Windowed s)
    (hf : ∀ s a, s₀.Windowed s → s₀.Windowed (f s a)) : s₀.Windowed (l.foldl f s) := by
  induction l generalizing s with
  | nil => exact h
  | cons a l ih => exact ih (hf s a h)

/-- An object that the ports' windows and states do not write reads as before. -/
theorem rd (h : s.Windowed t) (q : Obj) {i j : Nat} (hq : windowObjects.all q.apart = true := by decide)
    (hi : i < 32 := by omega) (hj : j < 1048576 := by omega) : t.rd q i j = s.rd q i j := h.reads.rd hq hi hj

end State.Windowed

variable {s₀ s : State}

theorem lt_of_mem_registered {p : Port} {a : Nat} (h : a ∈ s.registered p) : a < 256 := by
  have hrange := (List.mem_filter.mp h).1
  have hlt := List.mem_range.mp (List.mem_of_mem_drop hrange)
  omega

theorem State.wr_windowed {o : Obj} {p : Port} {e : Nat} {v : Int} (hs : s₀.Windowed s) (ho : o ∈ windowObjects)
    (he : e < 1048576 := by decide) : s₀.Windowed (s.wr o p e v) := ⟨hs.reads.wr v ho p.isLt he, hs.keeping⟩

theorem State.wrDevice_windowed {o : Obj} {e : Nat} {v : Int} (hs : s₀.Windowed s) (ho : o ∈ windowObjects)
    (he : e < 1048576) : s₀.Windowed (s.wr o 0 e v) := ⟨hs.reads.wr v ho (by decide) he, hs.keeping⟩

theorem State.wrB_windowed {o : Obj} {p : Nat} {e : Nat} {v : Bytes} (hs : s₀.Windowed s) :
    s₀.Windowed (s.wrB o p e v) := hs.of_eq (State.wrB_regs ..) (State.wrB_ports ..)

theorem State.arm_windowed {t : Timer} {deadline : Stamp} (hs : s₀.Windowed s) :
    s₀.Windowed (s.arm t deadline) := hs.of_eq rfl rfl

theorem State.disarm_windowed {t : Timer} (hs : s₀.Windowed s) : s₀.Windowed (s.disarm t) := hs.of_eq rfl rfl

theorem State.setQm_windowed {f : QmState → QmState} (hs : s₀.Windowed s) : s₀.Windowed (s.setQm f) := hs.of_eq rfl rfl

theorem State.setPort_windowed {p : Port} {f : PortState → PortState} (hs : s₀.Windowed s)
    (hf : (f (s.port p)).keeping = (s.port p).keeping) : s₀.Windowed (s.setPort p f) := by
  refine ⟨hs.reads, fun q => Eq.trans ?_ (hs.keeping q)⟩
  by_cases hq : q = p
  · subst hq
    rw [State.port_setPort_self, hf]
  · rw [State.port_setPort_other _ _ hq]

theorem State.setEc_windowed {p : Port} {f : EcState → EcState} (hs : s₀.Windowed s) :
    s₀.Windowed (s.setEc p f) := State.setPort_windowed hs rfl

theorem State.setSound_windowed {p : Port} {f : SoundState → SoundState} (hs : s₀.Windowed s) :
    s₀.Windowed (s.setSound p f) := State.setPort_windowed hs rfl

theorem State.setDc_windowed {p : Port} {f : DcState → DcState} (hs : s₀.Windowed s) :
    s₀.Windowed (s.setDc p f) := State.setPort_windowed hs rfl

theorem State.setCal_windowed {p : Port} {f : CalState → CalState} (hs : s₀.Windowed s)
    (hwaiting : (f (s.port p).cal).waiting = (s.port p).cal.waiting)
    (hrestored : (f (s.port p).cal).restored = (s.port p).cal.restored) : s₀.Windowed (s.setCal p f) := by
  refine State.setPort_windowed hs ?_
  unfold PortState.keeping
  rw [hwaiting, hrestored]

theorem State.setElem_windowed {p : Port} {a : Nat} {f : Elem → Elem} (hs : s₀.Windowed s) :
    s₀.Windowed (s.setElem p a f) := State.setPort_windowed hs rfl

theorem State.setEq_windowed {p : Port} {a : Nat} {f : EqState → EqState} (hs : s₀.Windowed s) :
    s₀.Windowed (s.setEq p a f) := State.setPort_windowed hs rfl

theorem State.setLink_windowed {x : Side} {f : PfState → PfState} (hs : s₀.Windowed s) :
    s₀.Windowed (s.setLink x f) := hs.of_eq rfl rfl

theorem State.setSession_windowed {k : SessionNo} {f : Session → Session} (hs : s₀.Windowed s) :
    s₀.Windowed (s.setSession k f) := hs.of_eq rfl rfl

theorem State.emit_windowed {o : Out} (hs : s₀.Windowed s) : s₀.Windowed (s.emit o) := hs.of_eq rfl rfl

theorem State.issue_windowed {src ty : Nat} {b : Bytes} (hs : s₀.Windowed s) : s₀.Windowed (s.issue src ty b) := hs.of_eq rfl rfl

theorem State.raise_windowed {source cls code unit detail : Nat} (hs : s₀.Windowed s) :
    s₀.Windowed (s.raise source cls code unit detail) := hs.of_eq (State.raise_regs ..) (State.raise_ports ..)

theorem State.raiseLine_windowed {p : Port} {code detail : Nat} (hs : s₀.Windowed s) :
    s₀.Windowed (s.raiseLine p code detail) := hs.of_eq (State.raiseLine_regs ..) (State.raiseLine_ports ..)

theorem State.sendNow_windowed {x : Side} {p : Parcel} (hs : s₀.Windowed s) :
    s₀.Windowed (s.sendNow x p) := hs.of_eq (State.sendNow_regs ..) (State.sendNow_ports ..)

theorem State.stall_windowed {x : Side} {vc : Nat} (hs : s₀.Windowed s) : s₀.Windowed (s.stall x vc) := by
  unfold State.stall
  split
  · exact hs
  · have hlink := State.setLink_windowed (x := x) (f := fun q => { q with stalled := vc :: q.stalled }) hs
    exact ⟨hlink.reads.wr _ (by decide) ((Side.n_lt x).trans (by decide)) (by decide), hlink.keeping⟩

theorem State.trySend_windowed {x : Side} {p : Parcel} (hs : s₀.Windowed s) : s₀.Windowed (s.trySend x p) := by
  unfold State.trySend
  grind [State.setLink_windowed, State.sendNow_windowed, State.stall_windowed]

theorem State.setFifo_windowed {x : Side} {vc : Nat} {l : List HostFrame} (hs : s₀.Windowed s) :
    s₀.Windowed (s.setFifo x vc l) := hs.of_eq rfl rfl

theorem State.drainFifo_windowed {x : Side} {vc : Nat} (hs : s₀.Windowed s) : s₀.Windowed (s.drainFifo x vc) := by
  unfold State.drainFifo
  grind [State.Windowed.foldl, State.setFifo_windowed, State.sendNow_windowed, State.stall_windowed]

theorem State.drain_windowed {x : Side} (hs : s₀.Windowed s) : s₀.Windowed (s.drain x) := by
  unfold State.drain
  grind [State.Windowed.foldl, State.trySend_windowed, State.setLink_windowed, State.drainFifo_windowed]

theorem State.send_windowed {x : Side} {p : Parcel} (hs : s₀.Windowed s) : s₀.Windowed (s.send x p) := by
  unfold State.send
  grind [State.setLink_windowed, State.drain_windowed]

theorem State.sendHost_windowed {x : Side} {type vc : Nat} {payload : Bytes} (hs : s₀.Windowed s) :
    s₀.Windowed (s.sendHost x type vc payload) := by
  unfold State.sendHost
  grind [State.send_windowed]

theorem State.setFlowState_windowed {f : Nat} {b : Bytes} (hs : s₀.Windowed s) :
    s₀.Windowed (s.setFlowState f b) := hs.of_eq (State.setFlowState_regs ..) (State.setFlowState_ports ..)

theorem State.bumpFlow_windowed {f i n k : Nat} (hs : s₀.Windowed s) :
    s₀.Windowed (s.bumpFlow f i n k) := hs.of_eq (State.bumpFlow_regs ..) (State.bumpFlow_ports ..)

theorem State.downDrop_windowed {f : Nat} (hs : s₀.Windowed s) :
    s₀.Windowed (s.downDrop f) := hs.of_eq (State.downDrop_regs ..) (State.downDrop_ports ..)

theorem State.setQueue_windowed {q : Nat} {l : List QFrame} (hs : s₀.Windowed s) (hq : q < 1048576) :
    s₀.Windowed (s.setQueue q l) := by
  unfold State.setQueue
  dsimp only
  split
  · exact State.wrDevice_windowed (State.setQm_windowed hs) (by decide) hq
  · exact State.setQm_windowed hs

theorem State.freeBuffers_windowed {n : Nat} (hs : s₀.Windowed s) : s₀.Windowed (s.freeBuffers n) := hs.of_eq rfl rfl

theorem State.flushQueue_windowed {q : Nat} (hs : s₀.Windowed s) (hq : q < 1048576) : s₀.Windowed (s.flushQueue q) := by
  unfold State.flushQueue
  have hempty := State.freeBuffers_windowed (n := (s.queue q).length) (State.setQueue_windowed (l := [])
    (hs.foldl (s.queue q) fun _ (f : QFrame) h => State.downDrop_windowed (f := f.flow) h) hq)
  exact State.wrDevice_windowed hempty (by decide) hq

theorem State.flushPort_windowed {p : Port} (hs : s₀.Windowed s) : s₀.Windowed (s.flushPort p) := by
  unfold State.flushPort
  refine List.foldlRecOn (motive := s₀.Windowed) _ _ hs fun u hu i hi => ?_
  split
  · exact hu
  · have hi := List.mem_range.mp hi
    exact State.flushQueue_windowed hu (by omega)

theorem State.reply_windowed {r : IzResp} (hs : s₀.Windowed s) : s₀.Windowed (s.reply r) := by
  unfold State.reply
  grind [State.emit_windowed, State.sendHost_windowed]

theorem State.respond_windowed {r : IzResp} (hs : s₀.Windowed s) : s₀.Windowed (s.respond r) := by
  unfold State.respond
  grind [State.reply_windowed, State.setSession_windowed]

theorem State.answerProxy_windowed {p : Port} {q : Proxy} {status : Nat} {data : Bytes} (hs : s₀.Windowed s) :
    s₀.Windowed (s.answerProxy p q status data) := by
  unfold State.answerProxy
  grind [State.respond_windowed]

theorem State.failProxies_windowed {p : Port} {sel : Nat → Bool} (hs : s₀.Windowed s) :
    s₀.Windowed (s.failProxies p sel) := by
  unfold State.failProxies
  grind [State.Windowed.foldl, State.setPort_windowed, PortState.keeping, State.disarm_windowed, State.answerProxy_windowed]

theorem State.freeEngine_windowed {p : Port} (hs : s₀.Windowed s) : s₀.Windowed (s.freeEngine p) := by
  unfold State.freeEngine
  grind [State.setSound_windowed, State.wr_windowed, mem_windowObjects]

theorem State.cntSound_windowed {o : Obj} {p : Port} {n : Int} (hs : s₀.Windowed s) (ho : o ∈ windowObjects) :
    s₀.Windowed (s.cntSound p o n) := by
  unfold State.cntSound
  split
  · exact State.wr_windowed hs ho
  · exact hs

theorem State.ecTrain_windowed {p : Port} (hs : s₀.Windowed s) : s₀.Windowed (s.ecTrain p) := by
  unfold State.ecTrain
  grind [State.wr_windowed, State.setEc_windowed, mem_windowObjects]

theorem State.eqClear_windowed {p : Port} {a : Nat} (hs : s₀.Windowed s) (ha : a < 1048576) : s₀.Windowed (s.eqClear p a) := by
  unfold State.eqClear
  exact State.setEq_windowed (State.wrB_windowed (State.wrB_windowed (State.wr_windowed (State.wr_windowed hs
    (by decide) ha) (by decide) ha)))

theorem State.quietSnapshot_windowed {p : Port} (hs : s₀.Windowed s) : s₀.Windowed (s.quietSnapshot p) := by
  have hstamp := State.wr_windowed (o := Reg.LP_QUIET_snapshot_stamp) (p := p) (e := 0) (v := s.now) hs (by decide)
  unfold State.quietSnapshot
  refine List.foldlRecOn (motive := s₀.Windowed) _ _ ?_ fun u hu a ha => ?_
  · split
    · exact State.setEc_windowed (State.wr_windowed hstamp (by decide))
    · exact hstamp
  · split
    · exact State.setEq_windowed (State.wr_windowed hu (by decide) ((lt_of_mem_registered ha).trans (by decide)))
    · exact hu

theorem State.leaveQuiet_windowed {p : Port} (hs : s₀.Windowed s) : s₀.Windowed (s.leaveQuiet p) := by
  unfold State.leaveQuiet
  refine List.foldlRecOn (motive := s₀.Windowed) _ _ (State.setEc_windowed ?_) fun u hu a ha => State.setEq_windowed ?_
  · split
    · exact State.wr_windowed hs (by decide)
    · exact hs
  · split
    · exact State.wr_windowed hu (by decide) ((lt_of_mem_registered ha).trans (by decide))
    · exact hu

theorem State.updateInterval_windowed {p : Port} (hs : s₀.Windowed s) : s₀.Windowed (s.updateInterval p) := by
  unfold State.updateInterval
  grind [State.wr_windowed, mem_windowObjects]

theorem State.stationRecord_windowed {p : Port} {a event reason : Nat} (hs : s₀.Windowed s) : s₀.Windowed (s.stationRecord
    p a event reason) := hs.of_eq (State.stationRecord_regs ..) (State.stationRecord_ports ..)

/-- The objects of a station that its release clears. -/
def stationObjects : List Obj :=
  [Reg.LP_STATION_state, Reg.LP_STATION_identity, Reg.LP_STATION_allotments, Reg.LP_STATION_timing_advance,
    Reg.LP_STATION_level_used, Reg.LP_STATION_received_level, Reg.LP_STATION_downstream_pace, Reg.LP_STATION_upstream_pace,
    Reg.LP_STATION_offset, Reg.LP_STATION_registered]

theorem stationObjects_subset : stationObjects ⊆ windowObjects := by decide

theorem State.freeStation_windowed {p : Port} {a reason : Nat} (hs : s₀.Windowed s) (ha : a < 256) :
    s₀.Windowed (s.freeStation p a reason) := by
  have ha : a < 1048576 := ha.trans (by decide)
  unfold State.freeStation
  split
  · exact hs
  · extract_lets s₁ s₂ s₃ s₄ s₅ s₆
    have h₁ : s₀.Windowed s₁ := State.stationRecord_windowed hs
    have h₂ : s₀.Windowed s₂ := by
      exact List.foldlRecOn (motive := s₀.Windowed) stationObjects _ h₁ fun u hu o ho =>
        State.wr_windowed hu (stationObjects_subset ho) ha
    have h₃ : s₀.Windowed s₃ := State.wrB_windowed h₂
    have h₄ : s₀.Windowed s₄ := State.failProxies_windowed (State.eqClear_windowed (State.setElem_windowed h₃) ha)
    have h₅ : s₀.Windowed s₅ := State.setPort_windowed h₄ rfl
    have h₆ : s₀.Windowed s₆ := h₅.foldl _ fun _ _ h => State.disarm_windowed h
    exact State.updateInterval_windowed h₆

theorem State.Windowed.ite {c : Prop} [Decidable c] {t u : State} (ht : s₀.Windowed t) (hu : s₀.Windowed u) :
    s₀.Windowed (if c then t else u) := by
  split
  · exact ht
  · exact hu

theorem State.leaving_windowed {p : Port} {old new : Int} (hs : s₀.Windowed s) : s₀.Windowed (s.leaving p old new) := by
  unfold State.leaving
  extract_lets quiet proxies flushed freed deaf parked
  have hquiet : s₀.Windowed quiet := .ite (State.leaveQuiet_windowed hs) hs
  have hproxies : s₀.Windowed proxies := .ite (State.failProxies_windowed hquiet) hquiet
  have hflushed : s₀.Windowed flushed := .ite (State.flushPort_windowed hproxies) hproxies
  have hfreed : s₀.Windowed freed := .ite hflushed (State.freeEngine_windowed hflushed)
  have hdeaf : s₀.Windowed deaf := .ite hfreed (State.setPort_windowed hfreed rfl)
  have hparked : s₀.Windowed parked := .ite (State.setCal_windowed hdeaf rfl rfl) hdeaf
  exact State.disarm_windowed (State.disarm_windowed (State.disarm_windowed hparked))

theorem State.entering_windowed {p : Port} {old new : Int} (hs : s₀.Windowed s) : s₀.Windowed (s.entering p old new) := by
  unfold State.entering
  grind [State.setDc_windowed, State.disarm_windowed, State.wr_windowed, State.setCal_windowed, State.setPort_windowed, PortState.keeping,
    State.arm_windowed, mem_windowObjects]

theorem State.toState_windowed {p : Port} {new : Int} {cause : Nat} (hs : s₀.Windowed s) :
    s₀.Windowed (s.toState p new cause) := by
  unfold State.toState
  grind [State.wr_windowed, State.issue_windowed, State.leaving_windowed, State.entering_windowed, mem_windowObjects]

theorem State.blank_windowed {p : Port} {finish : Stamp} (hs : s₀.Windowed s) : s₀.Windowed (s.blank p finish) := by
  unfold State.blank
  grind [State.cntSound_windowed, State.setPort_windowed, PortState.keeping, State.setSound_windowed, State.setEc_windowed, mem_windowObjects]

theorem State.sweptLast_windowed {p : Port} (hs : s₀.Windowed s) : s₀.Windowed (s.sweptLast p) := by
  unfold State.sweptLast
  grind [State.setSound_windowed, State.setEc_windowed]

theorem State.soundIdle_windowed {p : Port} (hs : s₀.Windowed s) : s₀.Windowed (s.soundIdle p) := by
  unfold State.soundIdle
  grind [State.setSound_windowed, State.sweptLast_windowed]

theorem State.startBand_windowed {p : Port} {b : Nat} (hs : s₀.Windowed s) : s₀.Windowed (s.startBand p b) := by
  unfold State.startBand
  grind [State.setSound_windowed, State.sweptLast_windowed, State.wr_windowed, State.soundIdle_windowed, mem_windowObjects]

theorem State.serveBands_windowed {p : Port} (hs : s₀.Windowed s) : s₀.Windowed (s.serveBands p) := by
  unfold State.serveBands
  grind [State.startBand_windowed, State.soundIdle_windowed]

theorem State.focusBand_windowed {p : Port} {f : Focus} {limit : Stamp} (hs : s₀.Windowed s) {t : State} (ht :
    State.focusBand s p f limit = some t) : s₀.Windowed t := by
  unfold State.focusBand at ht
  split at ht
  · cases ht
  · split at ht
    · cases ht
      exact State.wr_windowed (State.setSound_windowed hs) (by decide)
    · cases ht

theorem State.focusTaken_windowed {p : Port} (hs : s₀.Windowed s) : s₀.Windowed (s.focusTaken p) := by
  unfold State.focusTaken
  grind [State.setSound_windowed, State.disarm_windowed, State.wr_windowed, mem_windowObjects]

theorem State.beginFocus_windowed {p : Port} {limit : Stamp} (hs : s₀.Windowed s) {t : State} (ht : State.beginFocus s p
    limit = some t) : s₀.Windowed t := by
  unfold State.beginFocus at ht
  split at ht
  · cases ht
  · obtain ⟨u, hu, rfl⟩ := Option.map_eq_some_iff.mp ht
    have hwindowed := State.focusBand_windowed hs hu
    split
    · exact State.focusTaken_windowed hwindowed
    · exact hwindowed

theorem State.assignEngine_windowed {p : Port} {k : Fin 4} (hs : s₀.Windowed s) : s₀.Windowed (s.assignEngine p k) := by
  unfold State.assignEngine
  grind [State.setSound_windowed, State.wr_windowed, mem_windowObjects]

theorem State.tryFocus_windowed {p : Port} (hs : s₀.Windowed s) : s₀.Windowed (s.tryFocus p) := by
  unfold State.tryFocus
  split
  · split
    · exact hs
    · rename_i k _
      cases hbegun : ((s.blank p (s.windowLimit p)).assignEngine p k).beginFocus p (s.windowLimit p) with
      | none => exact hs
      | some t => exact State.beginFocus_windowed (State.assignEngine_windowed (State.blank_windowed hs)) hbegun
  · exact hs

theorem State.beginSound_windowed {p : Port} (hs : s₀.Windowed s) : s₀.Windowed (s.beginSound p) := by
  unfold State.beginSound
  dsimp only
  split
  · split
    · exact State.setEc_windowed (State.cntSound_windowed hs (by decide))
    · rename_i k _
      have h₁ := State.assignEngine_windowed (p := p) (k := k) (State.blank_windowed (p := p) (finish := (s.port p).winEnd) hs)
      split
      · exact State.beginFocus_windowed h₁ ‹_›
      · exact State.serveBands_windowed h₁
  · exact State.setEc_windowed (State.cntSound_windowed hs (by decide))

theorem State.startRun_windowed {p : Port} {step : Nat} (hs : s₀.Windowed s) :
    s₀.Windowed (s.startRun p step) := State.setCal_windowed hs rfl rfl

theorem State.tryRun_windowed {p : Port} (hs : s₀.Windowed s) : s₀.Windowed (s.tryRun p) := by
  unfold State.tryRun
  grind [State.startRun_windowed, State.wr_windowed, State.setCal_windowed, mem_windowObjects]

theorem State.quietEntry_windowed {p : Port} (hs : s₀.Windowed s) : s₀.Windowed (s.quietEntry p) := by
  unfold State.quietEntry
  grind [State.raiseLine_windowed, State.setPort_windowed, PortState.keeping, State.toState_windowed, State.quietSnapshot_windowed,
    State.updateInterval_windowed]

theorem State.retrainBegin_windowed {p : Port} (hs : s₀.Windowed s) : s₀.Windowed (s.retrainBegin p) := by
  unfold State.retrainBegin
  grind [State.ecTrain_windowed, State.setEc_windowed]

theorem State.dropAnswers_windowed {p : Port} (hs : s₀.Windowed s) : s₀.Windowed (s.dropAnswers p) := by
  unfold State.dropAnswers
  refine State.Windowed.foldl _ (State.setPort_windowed hs rfl) fun u f h => ?_
  split
  · exact State.freeStation_windowed h (uAt_lt _ 9 1)
  · exact h

theorem State.endWindow_windowed {p : Port} (hs : s₀.Windowed s) : s₀.Windowed (s.endWindow p) := by
  unfold State.endWindow
  grind [State.Windowed.foldl, State.freeEngine_windowed, State.dropAnswers_windowed, State.setElem_windowed,
    State.setPort_windowed, PortState.keeping]

theorem State.openWindow_windowed {p : Port} (hs : s₀.Windowed s) : s₀.Windowed (s.openWindow p) := by
  unfold State.openWindow
  grind [State.beginSound_windowed, State.quietEntry_windowed, State.retrainBegin_windowed, State.tryFocus_windowed,
    State.tryRun_windowed]

/-! ### A window that begins (R316, R333) -/

/-- The objects that a window that begins writes. -/
def beginObjects : List Obj := Reg.ITIN_CTL_window :: Reg.ITIN_CTL_CYCLES :: windowObjects

theorem State.ReadsBut.mono {l m : List Obj} {s t : State} (h : s.ReadsBut l t) (hlm : l ⊆ m) : s.ReadsBut m t :=
  fun _ _ _ hq hi hj => h.rd (List.all_eq_true.mpr fun o ho => List.all_eq_true.mp hq o (hlm ho)) hi hj

/-- What a port holds of its calibration. -/
def PortState.calKeeping (q : PortState) : Bool × Nat := (q.cal.waiting, q.cal.restored)

theorem calKeeping_of_keeping {q r : PortState} (h : q.keeping = r.keeping) : q.calKeeping = r.calKeeping :=
  congrArg (fun x : DpdState × Nat × Stamp × Stamp × Bool × Nat => x.2.2.2.2) h

/-- The window that begins, before what its type begins. -/
def State.windowed (s : State) (p : Port) (i : Nat) (start finish : Stamp) (counts : Bool) : State :=
  let t := ((s.endWindow p).setPort p fun q => { q with winIdx := i, winStart := start, winEnd := finish }).wr
    Reg.ITIN_CTL_window p 0 i
  if counts then t.inc Reg.ITIN_CTL_CYCLES p else t

theorem beginWindow_eq (s : State) (p : Port) (i : Nat) (start finish : Stamp) (counts : Bool) :
    s.beginWindow p i start finish counts = (s.windowed p i start finish counts).openWindow p := rfl

theorem windowed_spec (s : State) (p : Port) (i : Nat) (start finish : Stamp) (counts : Bool) :
    s.ReadsBut beginObjects (s.windowed p i start finish counts)
      ∧ (∀ q, ((s.windowed p i start finish counts).port q).calKeeping = (s.port q).calKeeping)
      ∧ (((s.windowed p i start finish counts).port p).keeping
        = ((s.port p).dpd, i, start, finish, (s.port p).cal.waiting, (s.port p).cal.restored))
      ∧ (s.windowed p i start finish counts).rd Reg.ITIN_CTL_window p = i
      ∧ (counts = true → (s.windowed p i start finish counts).rd Reg.ITIN_CTL_CYCLES p
        = (s.rd Reg.ITIN_CTL_CYCLES p + 1) % 18446744073709551616) := by
  have hend := State.endWindow_windowed (p := p) (.refl s)
  have hreads := hend.reads.mono (m := beginObjects) (by decide)
  have hcycles : (s.endWindow p).rd Reg.ITIN_CTL_CYCLES p = s.rd Reg.ITIN_CTL_CYCLES p := hend.rd _
  have hcal (q : Port) : (((s.endWindow p).setPort p fun q => { q with winIdx := i, winStart := start, winEnd := finish }).port
      q).calKeeping = (s.port q).calKeeping :=
    (State.port_setPort_keeps PortState.calKeeping _ p (fun q => { q with winIdx := i, winStart := start, winEnd := finish })
      (fun _ => rfl) q).trans (calKeeping_of_keeping (hend.keeping q))
  have hkeeping : (((s.endWindow p).setPort p fun q => { q with winIdx := i, winStart := start, winEnd := finish }).port
      p).keeping = ((s.port p).dpd, i, start, finish, (s.port p).cal.waiting, (s.port p).cal.restored) := by
    rw [State.port_setPort_self]
    have h := calKeeping_of_keeping (hend.keeping p)
    simp only [PortState.calKeeping, Prod.mk.injEq] at h
    have hdpd : ((s.endWindow p).port p).dpd = (s.port p).dpd := congrArg Prod.fst (hend.keeping p)
    simp only [PortState.keeping, h, hdpd]
  have hset := hreads.then_regs (u := (s.endWindow p).setPort p fun q =>
    { q with winIdx := i, winStart := start, winEnd := finish }) rfl
  unfold State.windowed
  dsimp only
  cases counts with
  | true =>
    refine ⟨(hset.wr _ (by decide) p.isLt (by decide)).wr _ (by decide) p.isLt (by decide), hcal, hkeeping, ?_, fun _ => ?_⟩
    · exact (State.rd_wr_other _ _ Obj.key_ne).trans (State.rd_wr_self ..)
    · refine (State.rd_inc_self ..).trans (congrArg (fun v : Int => (v + 1) % 18446744073709551616) ?_)
      exact (State.rd_wr_other _ _ Obj.key_ne).trans hcycles
  | false =>
    exact ⟨hset.wr _ (by decide) p.isLt (by decide), hcal, hkeeping, State.rd_wr_self .., nofun⟩

theorem beginWindow_spec (s : State) (p : Port) (i : Nat) (start finish : Stamp) (counts : Bool) :
    s.ReadsBut beginObjects (s.beginWindow p i start finish counts)
      ∧ (∀ q, ((s.beginWindow p i start finish counts).port q).calKeeping = (s.port q).calKeeping)
      ∧ (((s.beginWindow p i start finish counts).port p).keeping
        = ((s.port p).dpd, i, start, finish, (s.port p).cal.waiting, (s.port p).cal.restored))
      ∧ (s.beginWindow p i start finish counts).rd Reg.ITIN_CTL_window p = i
      ∧ (counts = true → (s.beginWindow p i start finish counts).rd Reg.ITIN_CTL_CYCLES p
        = (s.rd Reg.ITIN_CTL_CYCLES p + 1) % 18446744073709551616) := by
  obtain ⟨hreads, hcal, hkeeping, hwindow, hcycles⟩ := windowed_spec s p i start finish counts
  have hopen := State.openWindow_windowed (p := p) (.refl (s.windowed p i start finish counts))
  rw [beginWindow_eq]
  refine ⟨hreads.trans (hopen.reads.mono (by decide)), fun q => (calKeeping_of_keeping (hopen.keeping q)).trans (hcal q),
    (hopen.keeping p).trans hkeeping, (hopen.rd _).trans hwindow, fun h => (hopen.rd _).trans (hcycles h)⟩

/-! ### The device that becomes ready (R577) -/

/-- The objects that the end of a port's calibration and the device that becomes ready write. -/
def readyObjects : List Obj :=
  Reg.BOOT_STATE_state :: Reg.BOOT_STATE_ready_time :: Reg.HMP_STATUS_interface :: Reg.LP_CAL_calibrated :: beginObjects

/-- What becoming ready leaves: the objects it does not write, and what the ports hold of their calibration. -/
structure State.Readied (s t : State) : Prop where
  reads : s.ReadsBut readyObjects t
  cal : ∀ p, (t.port p).calKeeping = (s.port p).calKeeping

theorem State.Readied.trans {s t u : State} (h : s.Readied t) (k : t.Readied u) : s.Readied u :=
  ⟨h.reads.trans k.reads, fun p => (k.cal p).trans (h.cal p)⟩

theorem State.Windowed.readied {s t : State} (h : s.Windowed t) : s.Readied t :=
  ⟨h.reads.mono (by decide), fun p => calKeeping_of_keeping (h.keeping p)⟩

theorem readied_resumeWindow (s : State) (p : Port) : s.Readied (s.resumeWindow p) := by
  obtain ⟨hreads, hcal, -⟩ := beginWindow_spec s p (s.windowAt p s.now).1 (s.windowAt p s.now).2.1
    (s.windowAt p s.now).2.2 (decide ((s.windowAt p s.now).1 = 0 ∧ (s.windowAt p s.now).2.1 = s.now))
  exact ⟨hreads.mono (by decide), hcal⟩

theorem readied_rebuildMailbox (s : State) : s.Readied s.rebuildMailbox := by
  have hhmp (t : State) (new : Int) (ht : s.Readied t) : s.Readied (t.hmpTo new) := by
    unfold State.hmpTo
    split
    · exact ht
    · exact ⟨ht.reads.wr _ (by decide) (by decide) (by decide), ht.cal⟩
  have hmailbox : s.Readied ((s.setHmp fun fld =>
      { fld with request := 0, wantFrom := 0, wantTo := 0, haveTo := 0, rebuilding := true }).disarm .hmpRequest) :=
    ⟨.of_regs rfl, fun _ => rfl⟩
  unfold State.rebuildMailbox
  dsimp only
  split
  · exact hhmp _ _ hmailbox
  · obtain ⟨hreads, hcal⟩ := hhmp _ hmpWaiting hmailbox
    exact ⟨hreads.then_regs rfl, hcal⟩

theorem State.Readied.wr {s t : State} (h : s.Readied t) {o : Obj} (v : Int) (ho : o ∈ readyObjects) :
    s.Readied (t.wr o 0 0 v) := ⟨h.reads.wr v ho (by decide) (by decide), h.cal⟩

theorem readied_startRecord (s : State) : s.Readied s.startRecord :=
  ⟨.of_regs (State.issue_regs ..), fun p => congrArg PortState.calKeeping (State.port_congr (State.issue_ports ..) p)⟩

theorem readied_setStarted (s : State) (p : Port) (b : Bool) : s.Readied (s.setPort p fun q => { q with started := b }) :=
  ⟨.of_regs rfl, State.port_setPort_keeps PortState.calKeeping s p (fun q => { q with started := b }) fun _ => rfl⟩

theorem readied_tryReady (s : State) : s.Readied s.tryReady := by
  unfold State.tryReady
  split
  · refine State.Readied.trans ?_ (readied_rebuildMailbox _)
    refine List.foldlRecOn (motive := s.Readied) _ _ ?_ fun t ht p _ =>
      ht.trans ((readied_setStarted t p _).trans (readied_resumeWindow _ p))
    refine State.Readied.trans ?_ (readied_startRecord _)
    exact (State.Readied.wr ⟨.refl s, fun _ => rfl⟩ _ (by decide)).wr _ (by decide)
  · exact ⟨.refl s, fun _ => rfl⟩

end Sys2Proof.Machine
end

section
/-! Calibration runs and their agreement (R507 to R512, R515). -/

namespace Sys2Proof.Machine

set_option Elab.async false

variable {s : State} {p : Port}

/-! ### Runs that begin -/

/-- What a run that begins leaves of a calibration. -/
def CalState.standing (q : CalState) : Bool × Bool × Bool × Bool × Bool :=
  (q.placed, q.full, q.waiting, q.wantHybrid, q.due)

/-- What holds of a state, and is no matter of the run in progress, holds once a run was tried. -/
theorem tryRun_closed {P : State → Prop} (h : P s) (hwr : P (s.wr Reg.LP_CAL_CTL_request p 0 0))
    (hset : ∀ t (f : CalState → CalState), (∀ q, (f q).standing = q.standing) → P t → P (t.setCal p f)) : P (s.tryRun p) := by
  have hstart (t : State) (step : Nat) (ht : P t) : P (t.startRun p step) := hset _ _ (fun _ => rfl) ht
  unfold State.tryRun
  dsimp only
  split
  · exact h
  · split
    · split
      · exact hstart _ _ h
      · split
        · exact hstart _ _ h
        · exact h
    · split
      · exact h
      · split
        · split
          · refine hstart _ _ ?_
            split
            · exact h
            · split
              · exact hset _ _ (fun _ => rfl) hwr
              · exact hset _ _ (fun _ => rfl) h
          · exact h
        · split
          · refine hstart _ _ ?_
            split
            · exact h
            · exact hset _ _ (fun _ => rfl) h
          · exact h

/-- In CAL a run that is tried is one of the step in progress. -/
theorem tryRun_inCal (hcal : s.portState p = stCal) :
    s.tryRun p = s ∨ s.tryRun p = s.startRun p (s.port p).cal.step := by
  unfold State.tryRun
  dsimp only
  split
  · exact .inl rfl
  · split
    · exact .inr rfl
    · split
      · next hthree =>
        rw [hthree.1]
        exact .inr rfl
      · exact .inl rfl

/-- What a measurement that goes on has got so far. -/
def CalState.progress (q : CalState) : Nat × List CalRun := (q.step, q.runs)

theorem setCal_cal (s : State) (p : Port) (f : CalState → CalState) : ((s.setCal p f).port p).cal = f (s.port p).cal :=
  congrArg PortState.cal (State.port_setPort_self ..)

theorem tryRun_inCal_progress (hcal : s.portState p = stCal) :
    ((s.tryRun p).port p).cal.progress = (s.port p).cal.progress ∧ (s.tryRun p).regs = s.regs := by
  obtain h | h := tryRun_inCal hcal
  · rw [h]
    exact ⟨rfl, rfl⟩
  · rw [h]
    exact ⟨(congrArg CalState.progress (setCal_cal ..)).trans rfl, rfl⟩

theorem tryRun_standing (s : State) (p : Port) : ((s.tryRun p).port p).cal.standing = (s.port p).cal.standing := by
  refine tryRun_closed (P := fun t => (t.port p).cal.standing = (s.port p).cal.standing) rfl rfl fun t f hf ht => ?_
  rw [setCal_cal, hf, ht]

theorem tryRun_keeps {α : Type} (g : State → α) (hwr : ∀ (t : State) v, g (t.wr Reg.LP_CAL_CTL_request p 0 v) = g t)
    (hset : ∀ (t : State) f, g (t.setCal p f) = g t) (s : State) : g (s.tryRun p) = g s :=
  tryRun_closed (P := fun t => g t = g s) rfl (hwr s 0) fun t f _ ht => (hset t f).trans ht

/-! ### Steps that begin -/

/-- A step that begins: the calibration names it and what it has measured is empty. -/
def State.stepBegun (s : State) (p : Port) (step : Nat) : State :=
  (s.setCal p fun q => { q with step := step, runs := [] }).wr Reg.LP_CAL_phase p 0 (if step ≤ 2 then 2 else (step : Nat))

theorem beginStep_eq (s : State) (p : Port) (step : Nat) : s.beginStep p step
    = if s.portState p = stDown then (s.stepBegun p step).startRun p step else (s.stepBegun p step).tryRun p := by
  have hstate : (s.stepBegun p step).portState p = s.portState p := State.rd_wr_other _ _ Obj.key_ne
  rw [← hstate]
  rfl

theorem portState_stepBegun (s : State) (p q : Port) (step : Nat) : (s.stepBegun p step).portState q = s.portState q :=
  State.rd_wr_other _ _ Obj.key_ne

theorem stepBegun_cal (s : State) (p : Port) (step : Nat) :
    ((s.stepBegun p step).port p).cal = { (s.port p).cal with step := step, runs := [] } :=
  setCal_cal s p fun q => { q with step := step, runs := [] }

theorem beginStep_standing (s : State) (p : Port) (step : Nat) :
    ((s.beginStep p step).port p).cal.standing = (s.port p).cal.standing := by
  have hbegun : ((s.stepBegun p step).port p).cal.standing = (s.port p).cal.standing :=
    (congrArg CalState.standing (stepBegun_cal s p step)).trans rfl
  rw [beginStep_eq]
  split
  · exact ((congrArg CalState.standing (setCal_cal ..)).trans rfl).trans hbegun
  · exact (tryRun_standing ..).trans hbegun

theorem beginStep_phase (s : State) (p : Port) (step : Nat) :
    (s.beginStep p step).rd Reg.LP_CAL_phase p = if step ≤ 2 then (2 : Int) else (step : Nat) := by
  have hbegun : (s.stepBegun p step).rd Reg.LP_CAL_phase p = if step ≤ 2 then (2 : Int) else (step : Nat) := State.rd_wr_self ..
  rw [beginStep_eq]
  split
  · exact hbegun
  · exact (tryRun_keeps (fun t => t.rd Reg.LP_CAL_phase p) (fun _ _ => State.rd_wr_other _ _ Obj.key_ne) (fun _ _ => rfl)
      _).trans hbegun

theorem beginStep_windowed (s : State) (p : Port) (step : Nat) : s.Windowed (s.beginStep p step) := by
  have hbegun : s.Windowed (s.stepBegun p step) :=
    State.wr_windowed (State.setCal_windowed (.refl s) rfl rfl) (by decide)
  rw [beginStep_eq]
  split
  · exact State.startRun_windowed hbegun
  · exact State.tryRun_windowed hbegun

/-- What a step that begins leaves of all but two objects and the ports. -/
theorem beginStep_keeps {α : Type} (g : State → α) (hphase : ∀ (t : State) v, g (t.wr Reg.LP_CAL_phase p 0 v) = g t)
    (hrequest : ∀ (t : State) v, g (t.wr Reg.LP_CAL_CTL_request p 0 v) = g t)
    (hset : ∀ (t : State) f, g (t.setCal p f) = g t) (s : State) (step : Nat) : g (s.beginStep p step) = g s := by
  have hbegun : g (s.stepBegun p step) = g s := (hphase ..).trans (hset ..)
  rw [beginStep_eq]
  split
  · exact (hset ..).trans hbegun
  · exact (tryRun_keeps g hrequest hset _).trans hbegun

theorem beginStep_faults (s : State) (p : Port) (step : Nat) : (s.beginStep p step).faults = s.faults :=
  beginStep_keeps State.faults (fun _ _ => rfl) (fun _ _ => rfl) (fun _ _ => rfl) s step

theorem beginStep_now (s : State) (p : Port) (step : Nat) : (s.beginStep p step).now = s.now :=
  beginStep_keeps State.now (fun _ _ => rfl) (fun _ _ => rfl) (fun _ _ => rfl) s step

theorem beginStep_portState (s : State) (p q : Port) (step : Nat) : (s.beginStep p step).portState q = s.portState q :=
  beginStep_keeps (State.portState · q) (fun _ _ => State.rd_wr_other _ _ Obj.key_ne)
    (fun _ _ => State.rd_wr_other _ _ Obj.key_ne) (fun _ _ => State.portState_congr rfl q) s step

theorem beginStep_rd (s : State) (p : Port) (step : Nat) {o : Obj} (hphase : o.key p 0 ≠ Reg.LP_CAL_phase.key p 0)
    (hrequest : o.key p 0 ≠ Reg.LP_CAL_CTL_request.key p 0) : (s.beginStep p step).rd o p = s.rd o p :=
  beginStep_keeps (State.rd · o p) (fun _ _ => State.rd_wr_other _ _ hphase) (fun _ _ => State.rd_wr_other _ _ hrequest)
    (fun _ _ => rfl) s step

theorem beginStep_rst (s : State) (p : Port) (step : Nat) : (s.beginStep p step).rst = s.rst :=
  beginStep_keeps State.rst (fun _ _ => rfl) (fun _ _ => rfl) (fun _ _ => rfl) s step

theorem beginStep_port_other (s : State) {p q : Port} (hq : q ≠ p) (step : Nat) :
    (s.beginStep p step).port q = s.port q :=
  beginStep_keeps (State.port · q) (fun _ _ => rfl) (fun _ _ => rfl) (fun _ _ => State.port_setPort_other _ _ hq) s step

/-- In CAL the step that begins is in progress, nothing measured yet. -/
theorem beginStep_inCal (hcal : s.portState p = stCal) (step : Nat) :
    ((s.beginStep p step).port p).cal.progress = (step, []) := by
  have hdown : s.portState p ≠ stDown := by
    rw [hcal]
    decide
  rw [beginStep_eq, if_neg hdown,
    (tryRun_inCal_progress (s := s.stepBegun p step) (by rw [portState_stepBegun, hcal])).1, stepBegun_cal]
  rfl

/-- In CAL a step that is done makes way for the next. -/
theorem stepDone_inCal (hcal : s.portState p = stCal) (step : Nat) :
    s.stepDone p step = (s.setCal p fun q => { q with runs := [] }).beginStep p (step + 1) := by
  unfold State.stepDone
  exact if_pos hcal

theorem setCal_readied (s : State) (p : Port) (f : CalState → CalState) (hwaiting : ∀ q, (f q).waiting = q.waiting)
    (hrestored : ∀ q, (f q).restored = q.restored) : s.Readied (s.setCal p f) :=
  (State.setCal_windowed (.refl s) (hwaiting _) (hrestored _)).readied

theorem wrPort_readied {t : State} (h : s.Readied t) {o : Obj} (v : Int) (ho : o ∈ readyObjects) : s.Readied (t.wr o p 0 v) :=
  ⟨h.reads.wr v ho p.isLt (by decide), h.cal⟩

theorem calEnd_readied (s : State) (p : Port) : s.Readied (s.calEnd p) := by
  have hended := setCal_readied s p (fun q => { q with step := 0, runs := [], placed := false, full := false })
    (fun _ => rfl) (fun _ => rfl)
  obtain ⟨hreads, hcal⟩ := wrPort_readied (p := p) (wrPort_readied (p := p) hended 5 (o := Reg.LP_CAL_phase) (by decide))
    s.now (o := Reg.LP_CAL_calibrated) (by decide)
  have hdue := State.Readied.trans ⟨hreads, hcal⟩ (setCal_readied _ p (fun q => { q with due := false }) (fun _ => rfl)
    (fun _ => rfl))
  exact ⟨hdue.reads.then_regs rfl, hdue.cal⟩

theorem converterEnd_readied (s : State) (p : Port) : s.Readied (s.converterEnd p) := by
  have hended := (setCal_readied s p (fun q => { q with converterDone := true }) (fun _ => rfl) (fun _ => rfl)).trans
    (calEnd_readied _ p)
  unfold State.converterEnd
  dsimp only
  split
  · refine State.Readied.trans ?_ (readied_tryReady _)
    exact ⟨hended.reads.then_regs rfl, hended.cal⟩
  · exact hended

/-- A step that is done leaves the objects that no phase of a calibration writes, and what waits to take effect. -/
theorem stepDone_readied (s : State) (p : Port) (step : Nat) : s.Readied (s.stepDone p step) := by
  have hempty := setCal_readied s p (fun q => { q with runs := [] }) (fun _ => rfl) (fun _ => rfl)
  unfold State.stepDone
  dsimp only
  split
  · exact hempty.trans (beginStep_windowed ..).readied
  · split
    · exact hempty.trans (beginStep_windowed ..).readied
    · exact hempty.trans (converterEnd_readied ..)

/-- In CAL a step that is done leaves the objects of the measurements, and the next is in progress. -/
theorem stepDone_inCal_spec (hcal : s.portState p = stCal) (step : Nat) :
    s.Windowed (s.stepDone p step) ∧ ((s.stepDone p step).port p).cal.progress = (step + 1, [])
      ∧ ((s.stepDone p step).port p).cal.standing = (s.port p).cal.standing
      ∧ (s.stepDone p step).rd Reg.LP_CAL_phase p = (if step + 1 ≤ 2 then (2 : Int) else (step + 1 : Nat))
      ∧ (s.stepDone p step).faults = s.faults := by
  have hempty : s.Windowed (s.setCal p fun q => { q with runs := [] }) := State.setCal_windowed (.refl s) rfl rfl
  rw [stepDone_inCal hcal]
  refine ⟨hempty.trans (beginStep_windowed ..), beginStep_inCal (s := s.setCal p fun q => { q with runs := [] }) hcal _,
    (beginStep_standing ..).trans ?_, beginStep_phase ..,
    beginStep_faults ..⟩
  exact (congrArg CalState.standing (setCal_cal s p fun q => { q with runs := [] })).trans rfl

theorem waiting_of_keeping {q r : PortState} (h : q.keeping = r.keeping) : q.cal.waiting = r.cal.waiting :=
  congrArg (fun x : DpdState × Nat × Stamp × Stamp × Bool × Nat => x.2.2.2.2.1) h

/-! ### Runs that end (R506, R509) -/

/-- A run that has ended joins the runs of its measurement. -/
def State.runEnded (s : State) (p : Port) (run : CalRun) : State :=
  s.setCal p fun q => { q with runs := (s.port p).cal.runs ++ [run], runBusy := false, toMove := true }

theorem calRunEnd_suspect {run : CalRun} (hruns : s.runs = true) (hbusy : (s.port p).cal.runBusy = true)
    (hend : (s.port p).cal.runEnd ≤ s.now) (hstep : (s.port p).cal.step = 1) (hlen : run.items.length = 4) {a : CalRun}
    (ha : (s.port p).cal.runs = [a]) (hres : s.rd Reg.CAL_REF_REFRES_state = 2) :
    exec (.calRunEnd p run) s = .next (((s.runEnded p run).calVerdict p 1 none 2).keep s) := by
  have hlen : run.items.length = runItems (s.port p).cal.step := by
    rw [hstep]
    exact hlen
  have hlength : ((s.port p).cal.runs ++ [run]).length = 2 := by
    rw [ha]
    rfl
  refine (guarded_pos s ⟨hruns, hbusy, hend, hlen⟩).trans (congrArg (fun t => Host.Outcome.next (State.keep t s)) ?_)
  exact (if_pos ⟨hstep, hlength, hres⟩).trans (congrArg (fun n => (s.runEnded p run).calVerdict p n none 2) hstep)

theorem calRunEnd_agreed {run r : CalRun} (hruns : s.runs = true) (hbusy : (s.port p).cal.runBusy = true)
    (hend : (s.port p).cal.runEnd ≤ s.now) (hlen : run.items.length = runItems (s.port p).cal.step)
    (hres : ¬((s.port p).cal.step = 1 ∧ ((s.port p).cal.runs ++ [run]).length = 2 ∧ s.rd Reg.CAL_REF_REFRES_state = 2))
    (hverdict : verdict (s.port p).cal.step ((s.port p).cal.runs ++ [run]) = .agreed r) :
    exec (.calRunEnd p run) s = .next (((s.runEnded p run).calVerdict p (s.port p).cal.step (some r)
      ((s.port p).cal.runs ++ [run]).length).keep s) := by
  refine (guarded_pos s ⟨hruns, hbusy, hend, hlen⟩).trans (congrArg (fun t => Host.Outcome.next (State.keep t s)) ?_)
  refine (if_neg hres).trans ?_
  rw [hverdict]
  rfl

theorem calRunEnd_suspected {run : CalRun} (hruns : s.runs = true) (hbusy : (s.port p).cal.runBusy = true)
    (hend : (s.port p).cal.runEnd ≤ s.now) (hlen : run.items.length = runItems (s.port p).cal.step)
    (hthree : ((s.port p).cal.runs ++ [run]).length ≠ 2)
    (hverdict : verdict (s.port p).cal.step ((s.port p).cal.runs ++ [run]) = .suspect) :
    exec (.calRunEnd p run) s = .next (((s.runEnded p run).calVerdict p (s.port p).cal.step none
      ((s.port p).cal.runs ++ [run]).length).keep s) := by
  refine (guarded_pos s ⟨hruns, hbusy, hend, hlen⟩).trans (congrArg (fun t => Host.Outcome.next (State.keep t s)) ?_)
  refine (if_neg fun h => hthree h.2.1).trans ?_
  rw [hverdict]
  rfl

/-! ### What a run measured (R506, R510) -/

/-- The converter values of a run are put, and wait for their instant. -/
theorem putMeasured_converter (s : State) (p : Port) {step : Nat} (hstep : step = 1 ∨ step = 5) (r : CalRun) :
    (s.putMeasured p step r).rd Reg.LP_CAL_CONV_ADC_offset p = r.item 0
      ∧ (s.putMeasured p step r).rd Reg.LP_CAL_CONV_ADC_gain p = r.item 1
      ∧ (s.putMeasured p step r).rd Reg.LP_CAL_CONV_DAC_offset p = r.item 2
      ∧ (s.putMeasured p step r).rd Reg.LP_CAL_CONV_DAC_gain p = r.item 3
      ∧ (s.putMeasured p step r).rd Reg.LP_CAL_converter_source p = calMeasured := by
  unfold State.putMeasured
  dsimp only
  rw [if_pos hstep]
  simp (disch := exact Obj.key_ne) only [State.rd_wr_self, State.rd_wr_other, and_self]

/-- The hybrid codes of a run are put. -/
theorem putMeasured_hybrid (s : State) (p : Port) (r : CalRun) :
    (s.putMeasured p 3 r).rd Reg.LP_HYBRID_setting p
        = r.item 0 % 256 * 65536 + r.item 1 % 256 * 256 + r.item 2 % 256
      ∧ (s.putMeasured p 3 r).rd Reg.LP_HYBRID_rejection p = r.item 3
      ∧ (s.putMeasured p 3 r).rd Reg.LP_HYBRID_source p = calMeasured := by
  unfold State.putMeasured
  dsimp only
  rw [if_neg (by decide), if_neg (by decide)]
  simp (disch := exact Obj.key_ne) only [State.rd_wr_self, State.rd_wr_other, and_self]

/-- What a run measured changes: what waits to take effect, and the values of its step. -/
theorem putMeasured_frame (s : State) (p : Port) {step : Nat} (hstep : step ≠ 2) (r : CalRun) :
    ((s.putMeasured p step r).port p).cal = { (s.port p).cal with waiting := true }
      ∧ (s.putMeasured p step r).faults = s.faults
      ∧ (s.putMeasured p step r).time = s.time
      ∧ (s.putMeasured p step r).timers = s.timers
      ∧ (s.putMeasured p step r).portState p = s.portState p
      ∧ (s.putMeasured p step r).rd Reg.LP_CAL_PERIODIC p = s.rd Reg.LP_CAL_PERIODIC p := by
  have hcal := setCal_cal s p fun q => { q with waiting := true }
  unfold State.putMeasured State.portState
  dsimp only
  split
  · simp (disch := exact Obj.key_ne) only [State.rd_wr_other]
    exact ⟨hcal, rfl, rfl, rfl, rfl, rfl⟩
  · simp (disch := exact Obj.key_ne) only [State.rd_wr_other]
    exact ⟨hcal, rfl, rfl, rfl, rfl, rfl⟩

/-- The bit of a step reads as it was put. -/
theorem bit_suspectBit (s : State) (p : Port) (step : Nat) (b : Bool) :
    bit ((s.suspectBit p step b).rdN Reg.LP_CAL_suspect p) (step - 1) = b := by
  have h : (s.suspectBit p step b).rdN Reg.LP_CAL_suspect p = setBit (s.rdN Reg.LP_CAL_suspect p) (step - 1) b :=
    congrArg Int.toNat (State.rd_wr_self ..)
  rw [h, bit_setBit_same]

/-! ### Verdicts (R509, R510, R515) -/

/-- The agreed values of a step, before the next one begins. -/
def State.stepAgreed (s : State) (p : Port) (step : Nat) (r : CalRun) (n : Nat) : State :=
  ((s.putMeasured p step r).suspectBit p step false).calRecord p step (if n = 3 then 1 else 0) n

/-- A suspect step, before the next one begins. -/
def State.stepSuspect (s : State) (p : Port) (step n : Nat) : State :=
  (((s.putDefaults p step).suspectBit p step true).raiseLine p 0x08 step).calRecord p step 2 n

theorem calVerdict_agreed (hcal : s.portState p = stCal ∨ s.portState p = stDown) {step : Nat} (hstep : step ≠ 5) (r : CalRun)
    (n : Nat) : s.calVerdict p step (some r) n = (s.stepAgreed p step r n).stepDone p step :=
  (if_neg hstep).trans (if_pos hcal)

theorem calVerdict_suspect (hcal : s.portState p = stCal ∨ s.portState p = stDown) {step : Nat} (hstep : step ≠ 5) (n : Nat) :
    s.calVerdict p step none n = (s.stepSuspect p step n).stepDone p step := (if_neg hstep).trans (if_pos hcal)

theorem calVerdict_periodic (s : State) (p : Port) (r : Option CalRun) (n : Nat) :
    s.calVerdict p 5 r n = s.periodicVerdict p r n := if_pos rfl

theorem stepAgreed_regs (s : State) (p : Port) (step : Nat) (r : CalRun) (n : Nat) :
    (s.stepAgreed p step r n).regs = ((s.putMeasured p step r).suspectBit p step false).regs := State.calRecord_regs ..

theorem stepAgreed_rd (s : State) (p : Port) (step : Nat) (r : CalRun) (n : Nat) {o : Obj}
    (h : o.key p 0 ≠ Reg.LP_CAL_suspect.key p 0) : (s.stepAgreed p step r n).rd o p = (s.putMeasured p step r).rd o p :=
  (State.rd_congr (stepAgreed_regs ..) ..).trans (State.rd_wr_other _ _ h)

theorem stepAgreed_frame (s : State) (p : Port) {step : Nat} (hstep : step ≠ 2) (r : CalRun) (n : Nat) :
    ((s.stepAgreed p step r n).port p).cal = { (s.port p).cal with waiting := true }
      ∧ (s.stepAgreed p step r n).faults = s.faults ∧ (s.stepAgreed p step r n).portState p = s.portState p := by
  obtain ⟨hcal, hfaults, -, -, hstate, -⟩ := putMeasured_frame s p hstep r
  refine ⟨hcal, hfaults, ?_⟩
  exact (stepAgreed_rd s p step r n Obj.key_ne).trans hstate

theorem runEnded_regs (s : State) (p : Port) (run : CalRun) : (s.runEnded p run).regs = s.regs := rfl

theorem runEnded_portState (s : State) (p : Port) (run : CalRun) : (s.runEnded p run).portState p = s.portState p :=
  State.portState_congr rfl p

/-- In CAL a pair of converter runs that agree gives the values of its step, and the next step begins. -/
theorem converterAgreed (hcal : s.portState p = stCal) (r : CalRun) (n : Nat) :
    ((s.stepAgreed p 1 r n).stepDone p 1).rd Reg.LP_CAL_CONV_ADC_offset p = r.item 0
      ∧ ((s.stepAgreed p 1 r n).stepDone p 1).rd Reg.LP_CAL_CONV_ADC_gain p = r.item 1
      ∧ ((s.stepAgreed p 1 r n).stepDone p 1).rd Reg.LP_CAL_CONV_DAC_offset p = r.item 2
      ∧ ((s.stepAgreed p 1 r n).stepDone p 1).rd Reg.LP_CAL_CONV_DAC_gain p = r.item 3
      ∧ ((s.stepAgreed p 1 r n).stepDone p 1).rd Reg.LP_CAL_converter_source p = calMeasured
      ∧ (((s.stepAgreed p 1 r n).stepDone p 1).port p).cal.progress = (2, [])
      ∧ (((s.stepAgreed p 1 r n).stepDone p 1).port p).cal.waiting = true
      ∧ bit (((s.stepAgreed p 1 r n).stepDone p 1).rdN Reg.LP_CAL_suspect p) 0 = false
      ∧ ((s.stepAgreed p 1 r n).stepDone p 1).faults = s.faults := by
  obtain ⟨hadcOffset, hadcGain, hdacOffset, hdacGain, hsource⟩ := putMeasured_converter s p (.inl rfl) r
  obtain ⟨hput, hfaults, hstate⟩ := stepAgreed_frame s p (step := 1) (by decide) r n
  obtain ⟨hdone, hprogress, hstanding, -, hfaults'⟩ := stepDone_inCal_spec (s := s.stepAgreed p 1 r n) (hstate.trans hcal) 1
  have hwaiting := waiting_of_keeping (hdone.keeping p)
  rw [hput] at hwaiting
  have hsuspect : ((s.stepAgreed p 1 r n).stepDone p 1).rdN Reg.LP_CAL_suspect p
      = ((s.putMeasured p 1 r).suspectBit p 1 false).rdN Reg.LP_CAL_suspect p :=
    congrArg Int.toNat ((hdone.rd _).trans (State.rd_congr (stepAgreed_regs ..) ..))
  refine ⟨(hdone.rd _).trans ((stepAgreed_rd _ _ _ _ _ Obj.key_ne).trans hadcOffset),
    (hdone.rd _).trans ((stepAgreed_rd _ _ _ _ _ Obj.key_ne).trans hadcGain),
    (hdone.rd _).trans ((stepAgreed_rd _ _ _ _ _ Obj.key_ne).trans hdacOffset),
    (hdone.rd _).trans ((stepAgreed_rd _ _ _ _ _ Obj.key_ne).trans hdacGain),
    (hdone.rd _).trans ((stepAgreed_rd _ _ _ _ _ Obj.key_ne).trans hsource), hprogress, hwaiting, ?_,
    hfaults'.trans hfaults⟩
  rw [hsuspect]
  exact bit_suspectBit _ p 1 false

/-- A suspect converter step: values that the host restored stay, and every other takes its default. -/
theorem putDefaults_converter (s : State) (p : Port) :
    (s.rd Reg.LP_CAL_converter_source p ≠ calHost →
      (s.putDefaults p 1).rd Reg.LP_CAL_CONV_ADC_gain p = Reg.LP_CAL_CONV_ADC_gain.dfltAt 0
        ∧ (s.putDefaults p 1).rd Reg.LP_CAL_converter_source p = calDefault)
      ∧ (s.rd Reg.LP_CAL_converter_source p = calHost →
        (s.putDefaults p 1).rd Reg.LP_CAL_CONV_ADC_gain p = s.rd Reg.LP_CAL_CONV_ADC_gain p
          ∧ (s.putDefaults p 1).rd Reg.LP_CAL_converter_source p = calHost) := by
  unfold State.putDefaults
  dsimp only
  rw [State.rd_congr (State.setCal_regs ..)]
  constructor
  · intro hsource
    rw [if_pos (rfl : (1 : Nat) = 1), if_neg hsource]
    simp (disch := exact Obj.key_ne) only [List.foldl_cons, List.foldl_nil, State.rd_wr_self, State.rd_wr_other, and_self]
  · intro hsource
    rw [if_pos (rfl : (1 : Nat) = 1), if_pos hsource]
    exact ⟨rfl, hsource⟩

/-- What a suspect converter step leaves. -/
theorem putDefaults_frame (s : State) (p : Port) : (s.putDefaults p 1).faults = s.faults ∧ (s.putDefaults p 1).time = s.time
    ∧ (s.putDefaults p 1).portState p = s.portState p := by
  unfold State.putDefaults State.portState
  dsimp only
  rw [if_pos (rfl : (1 : Nat) = 1)]
  split
  · exact ⟨rfl, rfl, rfl⟩
  · simp (disch := exact Obj.key_ne) only [List.foldl_cons, List.foldl_nil, State.rd_wr_other]
    exact ⟨rfl, rfl, rfl⟩

theorem stepSuspect_regs (s : State) (p : Port) (step n : Nat) :
    (s.stepSuspect p step n).regs = ((s.putDefaults p step).suspectBit p step true).regs :=
  (State.calRecord_regs ..).trans (State.raiseLine_regs ..)

theorem stepSuspect_rd (s : State) (p : Port) (step n : Nat) {o : Obj} (h : o.key p 0 ≠ Reg.LP_CAL_suspect.key p 0) :
    (s.stepSuspect p step n).rd o p = (s.putDefaults p step).rd o p :=
  (State.rd_congr (stepSuspect_regs ..) ..).trans (State.rd_wr_other _ _ h)

theorem sourceOf_srcLine (p : Port) (code : Nat) : sourceOf clsLine code (srcLine p) = true := by
  have hlt := p.isLt
  show decide (0x10 ≤ 0x0010 + p.val ∧ 0x0010 + p.val ≤ 0x2F) = true
  rw [decide_eq_true_eq]
  omega

/-- In CAL a suspect converter step is marked and reported, and the next step begins. -/
theorem converterSuspect (hcal : s.portState p = stCal) (n : Nat) :
    bit (((s.stepSuspect p 1 n).stepDone p 1).rdN Reg.LP_CAL_suspect p) 0 = true
      ∧ (((s.stepSuspect p 1 n).stepDone p 1).port p).cal.progress = (2, [])
      ∧ ((s.stepSuspect p 1 n).stepDone p 1).rd Reg.LP_CAL_CONV_ADC_gain p
        = (s.putDefaults p 1).rd Reg.LP_CAL_CONV_ADC_gain p
      ∧ ((s.stepSuspect p 1 n).stepDone p 1).rd Reg.LP_CAL_converter_source p
        = (s.putDefaults p 1).rd Reg.LP_CAL_converter_source p
      ∧ ((s.stepSuspect p 1 n).stepDone p 1).faults = s.reported (srcLine p) clsLine 0x08 p.val 1 1 := by
  obtain ⟨hfaults, htime, hstate⟩ := putDefaults_frame s p
  have hstate' : (s.stepSuspect p 1 n).portState p = stCal :=
    ((stepSuspect_rd s p 1 n Obj.key_ne).trans hstate).trans hcal
  obtain ⟨hdone, hprogress, -, -, hfaults'⟩ := stepDone_inCal_spec hstate' 1
  have hsuspect : ((s.stepSuspect p 1 n).stepDone p 1).rdN Reg.LP_CAL_suspect p
      = ((s.putDefaults p 1).suspectBit p 1 true).rdN Reg.LP_CAL_suspect p :=
    congrArg Int.toNat ((hdone.rd _).trans (State.rd_congr (stepSuspect_regs ..) ..))
  refine ⟨?_, hprogress, (hdone.rd _).trans (stepSuspect_rd _ _ _ _ Obj.key_ne),
    (hdone.rd _).trans (stepSuspect_rd _ _ _ _ Obj.key_ne), hfaults'.trans ?_⟩
  · rw [hsuspect]
    exact bit_suspectBit _ p 1 true
  · exact State.raise_reported (t := (s.putDefaults p 1).suspectBit p 1 true) p.val 1 (by rfl) (sourceOf_srcLine p _)
      (congrArg TimeState.unaligned htime) (congrArg TimeState.now htime) hfaults

/-! ### Agreement (R509) -/

theorem verdict_pair {step : Nat} {a b : CalRun} (h : runsAgree step a b = true) :
    verdict step [a, b] = .agreed (pairResult step a b) := if_pos h

theorem pairResult_item {step i : Nat} (hstep : step ≠ 3) (hi : i < runItems step) (a b : CalRun) :
    (pairResult step a b).item i = roundDiv (a.item i + b.item i) 2 := by
  unfold pairResult
  rw [if_neg hstep]
  simp only [CalRun.item, List.getD_eq_getElem?_getD, List.getElem?_map, List.getElem?_range hi, Option.map_some,
    Option.getD_some]

/-! ### A group of ports (R507) -/

/-- A run of the first step is in progress since the instant given. -/
def CalState.begunAt (q : CalState) (now : Stamp) : Prop := q.step = 1 ∧ q.runBusy = true ∧ q.runEnd = now + 20000000

theorem beginStep_begunAt (hdown : s.portState p = stDown) : ((s.beginStep p 1).port p).cal.begunAt s.now := by
  rw [beginStep_eq, if_pos hdown]
  have hcal := setCal_cal (s.stepBegun p 1) p fun q =>
    { q with step := 1, runBusy := true, runEnd := (s.stepBegun p 1).now + runLength 1 }
  unfold State.startRun CalState.begunAt
  rw [hcal]
  exact ⟨rfl, rfl, rfl⟩

/-- Every port of a group that is DOWN begins its first run at once. -/
theorem foldl_beginStep_begunAt (l : List Port) {now : Stamp} (hnow : s.now = now) (hdown : s.portState p = stDown)
    (hp : p ∈ l ∨ (s.port p).cal.begunAt now) : ((l.foldl (fun s p => s.beginStep p 1) s).port p).cal.begunAt now := by
  induction l generalizing s with
  | nil => exact hp.resolve_left List.not_mem_nil
  | cons q l ih =>
    refine ih (s := s.beginStep q 1) ((beginStep_now ..).trans hnow) ((beginStep_portState ..).trans hdown) ?_
    by_cases hq : p = q
    · subst hq
      rw [← hnow]
      exact .inr (beginStep_begunAt hdown)
    · rw [beginStep_port_other _ hq]
      exact hp.imp_left fun h => (List.mem_cons.mp h).resolve_left hq

/-! ### The hybrid step (R509, R511, R512) -/

/-- A pair of hybrid runs that agree gives the setting, whatever the state of the port. -/
theorem hybridAgreed (s : State) (p : Port) (r : CalRun) (n : Nat) :
    (s.calVerdict p 3 (some r) n).rd Reg.LP_HYBRID_setting p
        = r.item 0 % 256 * 65536 + r.item 1 % 256 * 256 + r.item 2 % 256
      ∧ (s.calVerdict p 3 (some r) n).rd Reg.LP_HYBRID_rejection p = r.item 3
      ∧ (s.calVerdict p 3 (some r) n).rd Reg.LP_HYBRID_source p = calMeasured
      ∧ ((s.calVerdict p 3 (some r) n).port p).cal.waiting = true := by
  by_cases hcal : s.portState p = stCal ∨ s.portState p = stDown
  · obtain ⟨hsetting, hrejection, hsource⟩ := putMeasured_hybrid s p r
    obtain ⟨hput, -, -⟩ := stepAgreed_frame s p (step := 3) (by decide) r n
    obtain ⟨hreads, hkept⟩ := stepDone_readied (s.stepAgreed p 3 r n) p 3
    have hwaiting : (((s.stepAgreed p 3 r n).stepDone p 3).port p).cal.waiting
        = ((s.stepAgreed p 3 r n).port p).cal.waiting := congrArg Prod.fst (hkept p)
    rw [calVerdict_agreed hcal (by decide)]
    refine ⟨(hreads.rd (by decide) p.isLt (by decide)).trans ((stepAgreed_rd _ _ _ _ _ Obj.key_ne).trans hsetting),
      (hreads.rd (by decide) p.isLt (by decide)).trans ((stepAgreed_rd _ _ _ _ _ Obj.key_ne).trans hrejection),
      (hreads.rd (by decide) p.isLt (by decide)).trans ((stepAgreed_rd _ _ _ _ _ Obj.key_ne).trans hsource), ?_⟩
    rw [hwaiting, hput]
  · obtain ⟨t, ht⟩ : ∃ t : State, s.calVerdict p 3 (some r) n = t.stepAgreed p 3 r n :=
      ⟨_, (if_neg (by decide)).trans (if_neg hcal)⟩
    obtain ⟨hsetting, hrejection, hsource⟩ := putMeasured_hybrid t p r
    obtain ⟨hput, -, -⟩ := stepAgreed_frame t p (step := 3) (by decide) r n
    rw [ht]
    refine ⟨(stepAgreed_rd _ _ _ _ _ Obj.key_ne).trans hsetting, (stepAgreed_rd _ _ _ _ _ Obj.key_ne).trans hrejection,
      (stepAgreed_rd _ _ _ _ _ Obj.key_ne).trans hsource, ?_⟩
    rw [hput]

/-- A postponed attempt: its runs are discarded, and the postponement is counted (R511). -/
def State.postponed (s : State) (p : Port) (step : Nat) : State :=
  let u := s.setCal p fun q => { q with runs := [], runBusy := false, step := step }
  ((u.wr Reg.LP_CAL_postponements p 0 (min 255 (s.rd Reg.LP_CAL_postponements p + 1))).inc Reg.LP_CAL_POSTPONED p).calRecord
    p 3 3 ((s.port p).cal.runs.length + 1)

theorem postponed_cal (s : State) (p : Port) (step : Nat) :
    ((s.postponed p step).port p).cal = { (s.port p).cal with runs := [], runBusy := false, step := step } :=
  setCal_cal s p fun q => { q with runs := [], runBusy := false, step := step }

theorem postponed_rd (s : State) (p : Port) (step : Nat) {o : Obj}
    (hpostponements : o.key p 0 ≠ Reg.LP_CAL_postponements.key p 0) (hcount : o.key p 0 ≠ Reg.LP_CAL_POSTPONED.key p 0) :
    (s.postponed p step).rd o p = s.rd o p := by
  unfold State.postponed
  rw [State.rd_congr (State.calRecord_regs ..), State.rd_inc_other _ _ hcount, State.rd_wr_other _ _ hpostponements]
  rfl

theorem postponed_counts (s : State) (p : Port) (step : Nat) :
    (s.postponed p step).rd Reg.LP_CAL_postponements p = min 255 (s.rd Reg.LP_CAL_postponements p + 1)
      ∧ (s.postponed p step).rd Reg.LP_CAL_POSTPONED p = (s.rd Reg.LP_CAL_POSTPONED p + 1) % 18446744073709551616 := by
  unfold State.postponed
  simp (disch := exact Obj.key_ne) only [State.rd_congr (State.calRecord_regs ..), State.rd_inc_self, State.rd_inc_other,
    State.rd_wr_self, State.rd_wr_other, true_and]
  rfl

/-- The values of a hybrid step that was postponed three times in CAL, before step 4 begins (R512). -/
def State.hybridGivenUp (s : State) (p : Port) : State :=
  let u := s.setCal p fun q => { q with waiting := true, wantHybrid := true }
  (((u.wr Reg.LP_HYBRID_setting p 0 (Reg.LP_HYBRID_setting.dfltAt 0)).wr Reg.LP_HYBRID_rejection p 0 0).wr
    Reg.LP_HYBRID_source p 0 calDefault).calRecord p 3 5 0

theorem hybridGivenUp_rd (s : State) (p : Port) {o : Obj} (hsetting : o.key p 0 ≠ Reg.LP_HYBRID_setting.key p 0)
    (hrejection : o.key p 0 ≠ Reg.LP_HYBRID_rejection.key p 0) (hsource : o.key p 0 ≠ Reg.LP_HYBRID_source.key p 0) :
    (s.hybridGivenUp p).rd o p = s.rd o p := by
  unfold State.hybridGivenUp
  rw [State.rd_congr (State.calRecord_regs ..), State.rd_wr_other _ _ hsource, State.rd_wr_other _ _ hrejection,
    State.rd_wr_other _ _ hsetting]
  rfl

theorem hybridGivenUp_values (s : State) (p : Port) :
    (s.hybridGivenUp p).rd Reg.LP_HYBRID_setting p = Reg.LP_HYBRID_setting.dflt
      ∧ (s.hybridGivenUp p).rd Reg.LP_HYBRID_source p = calDefault := by
  unfold State.hybridGivenUp
  simp (disch := exact Obj.key_ne) only [State.rd_congr (State.calRecord_regs ..), State.rd_wr_self, State.rd_wr_other]
  exact ⟨rfl, trivial⟩

/-- In CAL the third postponement leaves the hybrid setting at its default, and step 4 follows (R512). -/
theorem hybridDefaulted_inCal (hcal : s.portState p = stCal) :
    ((s.hybridDefaulted p).port p).cal.progress = (4, [])
      ∧ (s.hybridDefaulted p).rd Reg.LP_CAL_phase p = 4
      ∧ ((s.hybridDefaulted p).port p).cal.wantHybrid = true
      ∧ (s.hybridDefaulted p).rd Reg.LP_HYBRID_setting p = Reg.LP_HYBRID_setting.dflt
      ∧ (s.hybridDefaulted p).rd Reg.LP_HYBRID_source p = calDefault
      ∧ (s.hybridDefaulted p).rd Reg.LP_CAL_postponements p = s.rd Reg.LP_CAL_postponements p
      ∧ (s.hybridDefaulted p).rd Reg.LP_CAL_POSTPONED p = s.rd Reg.LP_CAL_POSTPONED p := by
  have hstate : (s.hybridGivenUp p).portState p = stCal :=
    (hybridGivenUp_rd _ _ Obj.key_ne Obj.key_ne Obj.key_ne).trans hcal
  obtain ⟨hdone, hprogress, hstanding, hphase, -⟩ := stepDone_inCal_spec hstate 3
  obtain ⟨hsetting, hsource⟩ := hybridGivenUp_values s p
  have hpostponements : ((s.hybridGivenUp p).stepDone p 3).rd Reg.LP_CAL_postponements p
      = (s.hybridGivenUp p).rd Reg.LP_CAL_postponements p := by
    rw [stepDone_inCal hstate]
    exact beginStep_rd _ _ _ Obj.key_ne Obj.key_ne
  have hwants : ((s.hybridGivenUp p).port p).cal.wantHybrid = true :=
    congrArg CalState.wantHybrid (setCal_cal s p fun q => { q with waiting := true, wantHybrid := true })
  have hdefaulted : s.hybridDefaulted p = (s.hybridGivenUp p).stepDone p 3 := rfl
  rw [hdefaulted]
  refine ⟨hprogress, hphase, ?_, (hdone.rd _).trans hsetting, (hdone.rd _).trans hsource, hpostponements.trans ?_,
    (hdone.rd _).trans ?_⟩
  · exact (congrArg (fun x : Bool × Bool × Bool × Bool × Bool => x.2.2.2.1) hstanding).trans hwants
  · exact hybridGivenUp_rd _ _ Obj.key_ne Obj.key_ne Obj.key_ne
  · exact hybridGivenUp_rd _ _ Obj.key_ne Obj.key_ne Obj.key_ne

theorem exec_hybridRunNotQuiet {level : Option Int} (hruns : s.runs = true) (hbusy : (s.port p).cal.runBusy = true)
    (hstep : (s.port p).cal.step = 3) (hlevel : (level.all fun v => decide (s.rd Reg.LP_CAL_CTL_quiet_level p < v)) = true) :
    exec (.hybridRunNotQuiet p level) s = .next (State.keep
      (if s.portState p = stCal ∧ 3 ≤ min 255 (s.rd Reg.LP_CAL_postponements p + 1)
        then (s.postponed p (if s.portState p = stCal then 3 else 0)).hybridDefaulted p
        else s.postponed p (if s.portState p = stCal then 3 else 0)) s) := by
  refine (guarded_pos s ⟨hruns, hbusy, hstep, hlevel⟩).trans ?_
  simp only [decide_eq_true_eq]
  rfl

/-! ### Periodic recalibration (R515) -/

theorem armRecal_deadline (s : State) (p : Port) : (s.armRecal p).deadline (.recal p.val)
    = some (s.now + s.rd Reg.LP_CAL_CTL_interval p * nsPerSec) := State.deadline_arm_self ..

/-- A periodic measurement has ended, and the next falls due. -/
def State.recalEnded (s : State) (p : Port) : State := (s.setCal p fun q => { q with step := 0, runs := [] }).armRecal p

theorem recalEnded_regs (s : State) (p : Port) : (s.recalEnded p).regs = s.regs := rfl

theorem recalEnded_now (s : State) (p : Port) : (s.recalEnded p).now = s.now := rfl

theorem recalEnded_deadline (s : State) (p : Port) : (s.recalEnded p).deadline (.recal p.val)
    = some (s.now + s.rd Reg.LP_CAL_CTL_interval p * nsPerSec) := armRecal_deadline ..

theorem armRecal_cal (s : State) (p : Port) : ((s.armRecal p).port p).cal = { (s.port p).cal with due := false } := by
  unfold State.armRecal
  rw [State.port_arm]
  exact setCal_cal s p fun q => { q with due := false }

theorem recalEnded_cal (s : State) (p : Port) :
    ((s.recalEnded p).port p).cal = { (s.port p).cal with step := 0, runs := [], due := false } := by
  unfold State.recalEnded
  rw [armRecal_cal, setCal_cal s p fun q => { q with step := 0, runs := [] }]

/-- A periodic pair is counted. -/
def State.periodicCounted (s : State) (p : Port) (r : CalRun) : State :=
  ((s.putMeasured p 5 r).suspectBit p 5 false).inc Reg.LP_CAL_PERIODIC p

theorem periodicVerdict_agreed (s : State) (p : Port) (r : CalRun) (n : Nat) : s.periodicVerdict p (some r) n
    = (((s.recalEnded p).periodicCounted p r).wr Reg.LP_CAL_periodic_stamp p 0
        ((s.recalEnded p).periodicCounted p r).now).calRecord p 5 (if n = 3 then 1 else 0) n := rfl

theorem periodicCounted_spec (s : State) (p : Port) (r : CalRun) :
    (s.periodicCounted p r).rd Reg.LP_CAL_CONV_ADC_gain p = r.item 1
      ∧ (s.periodicCounted p r).rd Reg.LP_CAL_PERIODIC p = (s.rd Reg.LP_CAL_PERIODIC p + 1) % 18446744073709551616
      ∧ ((s.periodicCounted p r).port p).cal = { (s.port p).cal with waiting := true }
      ∧ (s.periodicCounted p r).now = s.now ∧ (s.periodicCounted p r).timers = s.timers := by
  obtain ⟨hcal, -, htime, htimers, -, hperiodic⟩ := putMeasured_frame s p (step := 5) (by decide) r
  obtain ⟨-, hgain, -⟩ := putMeasured_converter s p (.inr rfl) r
  unfold State.periodicCounted State.suspectBit
  rw [State.inc_timers, State.wr_timers, State.now_congr (State.inc_time ..), State.now_congr (State.wr_time ..),
    State.port_congr (State.inc_ports ..), State.port_wr]
  simp (disch := exact Obj.key_ne) only [State.rd_inc_self, State.rd_wr_other, State.rd_inc_other]
  rw [hperiodic]
  exact ⟨hgain, rfl, hcal, State.now_congr htime, htimers⟩

/-- A periodic pair that agrees gives the converter values, is counted and stamped, and the next falls due. -/
theorem periodicAgreed (s : State) (p : Port) (r : CalRun) (n : Nat) :
    (s.periodicVerdict p (some r) n).rd Reg.LP_CAL_CONV_ADC_gain p = r.item 1
      ∧ (s.periodicVerdict p (some r) n).rd Reg.LP_CAL_PERIODIC p
        = (s.rd Reg.LP_CAL_PERIODIC p + 1) % 18446744073709551616
      ∧ (s.periodicVerdict p (some r) n).rd Reg.LP_CAL_periodic_stamp p = s.now
      ∧ ((s.periodicVerdict p (some r) n).port p).cal.step = 0 ∧ ((s.periodicVerdict p (some r) n).port p).cal.due = false
      ∧ (s.periodicVerdict p (some r) n).deadline (.recal p.val)
        = some (s.now + s.rd Reg.LP_CAL_CTL_interval p * nsPerSec) := by
  obtain ⟨hgain, hperiodic, hcal, hnow, htimers⟩ := periodicCounted_spec (s.recalEnded p) p r
  rw [recalEnded_cal] at hcal
  rw [State.rd_congr (recalEnded_regs ..)] at hperiodic
  rw [recalEnded_now] at hnow
  rw [periodicVerdict_agreed]
  simp (disch := exact Obj.key_ne) only [State.rd_congr (State.calRecord_regs ..), State.rd_wr_self, State.rd_wr_other,
    State.port_congr (State.calRecord_ports ..), State.port_wr, hcal, hnow, hgain, hperiodic,
    State.deadline_congr (State.calRecord_timers ..), State.deadline_congr (State.wr_timers ..),
    State.deadline_congr htimers, recalEnded_deadline, and_self]

/-! ### The obligation -/

/-- A measurement that has not agreed yet goes on (R509). -/
theorem calRunEnd_more {run a : CalRun} (hruns : s.runs = true) (hbusy : (s.port p).cal.runBusy = true)
    (hend : (s.port p).cal.runEnd ≤ s.now) (hstep : (s.port p).cal.step = 1) (hlen : run.items.length = 4)
    (ha : (s.port p).cal.runs = [a]) (hres : s.rd Reg.CAL_REF_REFRES_state ≠ 2) (hdiffer : runsAgree 1 a run = false) :
    exec (.calRunEnd p run) s = .next ((((s.runEnded p run).inc Reg.LP_CAL_THIRD_RUNS p).nextRun p 1).keep s) := by
  have hlen : run.items.length = runItems (s.port p).cal.step := by
    rw [hstep]
    exact hlen
  have hlength : ((s.port p).cal.runs ++ [run]).length = 2 := by
    rw [ha]
    rfl
  have hmore : verdict (s.port p).cal.step ((s.port p).cal.runs ++ [run]) = .more := by
    rw [hstep, ha]
    exact if_neg (by rw [hdiffer]; decide)
  refine (guarded_pos s ⟨hruns, hbusy, hend, hlen⟩).trans (congrArg (fun t => Host.Outcome.next (State.keep t s)) ?_)
  refine (if_neg fun h => hres h.2.2).trans ?_
  rw [hmore]
  refine (congrArg (State.nextRun · p _) (if_pos hlength)).trans ?_
  rw [hstep]
  rfl

theorem runEnded_cal (s : State) (p : Port) (run : CalRun) :
    ((s.runEnded p run).port p).cal
      = { (s.port p).cal with runs := (s.port p).cal.runs ++ [run], runBusy := false, toMove := true } :=
  setCal_cal s p fun q => { q with runs := (s.port p).cal.runs ++ [run], runBusy := false, toMove := true }

/-- A run that ends with a pair or a third run that agrees, in CAL. -/
theorem calRunEnd_converter {run c : CalRun} (hruns : s.runs = true) (hbusy : (s.port p).cal.runBusy = true)
    (hend : (s.port p).cal.runEnd ≤ s.now) (hstep : (s.port p).cal.step = 1) (hlen : run.items.length = 4)
    (hcal : s.portState p = stCal)
    (hres : ¬(((s.port p).cal.runs ++ [run]).length = 2 ∧ s.rd Reg.CAL_REF_REFRES_state = 2))
    (hverdict : verdict 1 ((s.port p).cal.runs ++ [run]) = .agreed (pairResult 1 c run)) :
    Completes (.calRunEnd p run) s fun t =>
      t.rd Reg.LP_CAL_CONV_ADC_offset p = roundDiv (c.item 0 + run.item 0) 2
      ∧ t.rd Reg.LP_CAL_CONV_ADC_gain p = roundDiv (c.item 1 + run.item 1) 2
      ∧ t.rd Reg.LP_CAL_CONV_DAC_offset p = roundDiv (c.item 2 + run.item 2) 2
      ∧ t.rd Reg.LP_CAL_CONV_DAC_gain p = roundDiv (c.item 3 + run.item 3) 2
      ∧ t.rd Reg.LP_CAL_converter_source p = calMeasured ∧ (t.port p).cal.step = 2 ∧ (t.port p).cal.runs = []
      ∧ (t.port p).cal.waiting = true ∧ bit (t.rdN Reg.LP_CAL_suspect p) 0 = false ∧ t.faults = s.faults := by
  have hstate : (s.runEnded p run).portState p = stCal := (runEnded_portState ..).trans hcal
  have hexec := calRunEnd_agreed hruns hbusy hend (r := pairResult 1 c run) (by rw [hstep]; exact hlen)
    (fun h => hres h.2) (by rw [hstep]; exact hverdict)
  rw [hstep, calVerdict_agreed (.inl hstate) (by decide)] at hexec
  obtain ⟨hadcOffset, hadcGain, hdacOffset, hdacGain, hsource, hprogress, hwaiting, hbit, hfaults⟩ :=
    converterAgreed hstate (pairResult 1 c run) ((s.port p).cal.runs ++ [run]).length
  rw [pairResult_item (by decide) (by decide)] at hadcOffset hadcGain hdacOffset hdacGain
  exact ⟨_, hexec, hadcOffset, hadcGain, hdacOffset, hdacGain, hsource, congrArg Prod.fst hprogress,
    congrArg Prod.snd hprogress, hwaiting, hbit, hfaults⟩

theorem pairResult_hybrid (a b : CalRun) : (pairResult 3 a b).item 3 = max (a.item 3) (b.item 3)
    ∧ (a.item 3 < b.item 3 → pairResult 3 a b = b) ∧ (b.item 3 ≤ a.item 3 → pairResult 3 a b = a) := by
  unfold pairResult
  rw [if_pos (rfl : (3 : Nat) = 3)]
  split
  · next h => exact ⟨(max_eq_right h.le).symm, fun _ => rfl, fun h' => absurd h' h.not_ge⟩
  · next h => exact ⟨(max_eq_left (not_lt.mp h)).symm, fun h' => absurd h' h, fun _ => rfl⟩

/-- Settles O51: each command of a calibration is followed from its verdict to the step that comes next. -/
theorem calibrationRuns : Obligations.CalibrationRuns := by
  unfold Obligations.CalibrationRuns
  refine ⟨?groupStart, ?lineStart, ?pair, ?third, ?hybrid, ?periodic, ?more, ?suspect, ?refres, ?quiet, ?quietCal, ?request⟩
  case groupStart =>
    intro s hruns hlocked hboot hgroup hrefres hdone
    have hbefore : (allPorts.all fun (p : Port) => decide (8 * s.rst.convGroup ≤ p.val) || (s.port p).cal.converterDone) = true := by
      rw [List.all_eq_true]
      intro p _
      simpa using hdone p
    refine ⟨_, guarded_pos s ⟨hruns, hlocked, hboot, hgroup, hrefres, hbefore⟩, ?_, fun p hp hdown => ?_⟩
    · exact congrArg ResetState.convGroup (foldl_keeps State.rst (fun _ _ => beginStep_rst ..) _ _)
    · have hmem : p ∈ allPorts.filter fun (p : Port) => decide (p.val / 8 = s.rst.convGroup) :=
        List.mem_filter.mpr ⟨List.mem_finRange p, decide_eq_true hp⟩
      exact foldl_beginStep_begunAt _ (s := s.setRst fun fld => { fld with convGroup := s.rst.convGroup + 1 }) rfl hdown
        (.inl hmem)
  case lineStart =>
    intro s p hruns hstopped hplaces hnext
    refine ⟨_, guarded_pos s ⟨hruns, by rw [hstopped]; rfl, hplaces, hnext⟩, ?_, ?_⟩
    · have hplaced := congrArg CalState.placed (setCal_cal s p fun q => { q with placed := true })
      exact (congrArg Prod.fst (beginStep_standing ..)).trans hplaced
    · refine (beginStep_phase ..).trans ?_
      have hfull : ((s.setCal p fun q => { q with placed := true }).port p).cal.full = (s.port p).cal.full :=
        (congrArg CalState.full (setCal_cal s p fun q => { q with placed := true })).trans rfl
      rw [hfull]
      cases (s.port p).cal.full with
      | true => rfl
      | false => rfl
  case pair =>
    intro s p a run hruns hbusy hend hstep hlen ha hcal hres hagree
    have hverdict : verdict 1 ((s.port p).cal.runs ++ [run]) = .agreed (pairResult 1 a run) := by
      rw [ha]
      exact verdict_pair hagree
    obtain ⟨t, hexec, hadcOffset, hadcGain, -, -, hrest⟩ :=
      calRunEnd_converter hruns hbusy hend hstep hlen hcal (fun h => hres h.2) hverdict
    exact ⟨t, hexec, hadcOffset, hadcGain, hrest⟩
  case third =>
    intro s p a b c run hruns hbusy hend hstep hlen ha hcal hagree
    have hverdict : verdict 1 ((s.port p).cal.runs ++ [run]) = .agreed (pairResult 1 c run) := by
      rw [ha]
      obtain ⟨hfirst, rfl⟩ | ⟨hfirst, hsecond, rfl⟩ := hagree
      · exact if_pos hfirst
      · exact (if_neg (by rw [hfirst]; decide)).trans (if_pos hsecond)
    have hthree : ¬(((s.port p).cal.runs ++ [run]).length = 2 ∧ s.rd Reg.CAL_REF_REFRES_state = 2) := by
      rw [ha]
      exact fun h => absurd (show 3 = 2 from h.1) (by decide)
    obtain ⟨t, hexec, -, -, hdacOffset, hdacGain, hsource, hnext, -, -, -, hfaults⟩ :=
      calRunEnd_converter hruns hbusy hend hstep hlen hcal hthree hverdict
    exact ⟨t, hexec, hdacOffset, hdacGain, hsource, hnext, hfaults⟩
  case hybrid =>
    intro s p a run hruns hbusy hend hstep hlen ha hagree
    have hexec := calRunEnd_agreed hruns hbusy hend (r := pairResult 3 a run) (by rw [hstep]; exact hlen)
      (fun h => absurd (hstep.symm.trans h.1) (by decide)) (by rw [hstep, ha]; exact verdict_pair hagree)
    rw [hstep] at hexec
    obtain ⟨hsetting, hrejection, hsource, hwaiting⟩ :=
      hybridAgreed (s.runEnded p run) p (pairResult 3 a run) ((s.port p).cal.runs ++ [run]).length
    obtain ⟨hmax, hsecond, hfirst⟩ := pairResult_hybrid a run
    refine ⟨_, hexec, hrejection.trans hmax, fun h => hsetting.trans ?_, fun h => hsetting.trans ?_, hsource, hwaiting⟩
    · rw [hsecond h]
    · rw [hfirst h]
  case periodic =>
    intro s p a run hruns hbusy hend hstep hlen ha hagree
    have hexec := calRunEnd_agreed hruns hbusy hend (r := pairResult 5 a run) (by rw [hstep]; exact hlen)
      (fun h => absurd (hstep.symm.trans h.1) (by decide)) (by rw [hstep, ha]; exact verdict_pair hagree)
    rw [hstep, calVerdict_periodic] at hexec
    obtain ⟨hgain, hcount, hstamp, hidle, hdue, hdeadline⟩ :=
      periodicAgreed (s.runEnded p run) p (pairResult 5 a run) ((s.port p).cal.runs ++ [run]).length
    rw [State.rd_congr (runEnded_regs s p run)] at hcount hdeadline
    rw [pairResult_item (by decide) (by decide)] at hgain
    refine ⟨_, hexec, ?_⟩
    simp only [State.rd_keep, State.port_keep, State.deadline_keep]
    exact ⟨hgain, hcount, hstamp, hidle, hdue, hdeadline⟩
  case more =>
    intro s p a run hruns hbusy hend hstep hlen ha hcal hres hdiffer
    have hstate : ((s.runEnded p run).inc Reg.LP_CAL_THIRD_RUNS p).portState p = stCal :=
      (State.rd_inc_other _ _ Obj.key_ne).trans hcal
    obtain ⟨hprogress, hregs⟩ := tryRun_inCal_progress hstate
    have hcount : ((s.runEnded p run).inc Reg.LP_CAL_THIRD_RUNS p).rd Reg.LP_CAL_THIRD_RUNS p
        = (s.rd Reg.LP_CAL_THIRD_RUNS p + 1) % 18446744073709551616 := State.rd_inc_self ..
    rw [← State.rd_congr hregs] at hcount
    have hnext : ((s.runEnded p run).inc Reg.LP_CAL_THIRD_RUNS p).nextRun p 1
        = ((s.runEnded p run).inc Reg.LP_CAL_THIRD_RUNS p).tryRun p := if_neg (by rw [hstate]; decide)
    have hexec := calRunEnd_more hruns hbusy hend hstep hlen ha hres hdiffer
    have hcal' : (((s.runEnded p run).inc Reg.LP_CAL_THIRD_RUNS p).port p).cal.progress = (1, [a, run]) := by
      rw [State.port_congr (State.inc_ports ..), runEnded_cal]
      unfold CalState.progress
      rw [hstep, ha]
      rfl
    rw [hnext] at hexec
    exact ⟨_, hexec, congrArg Prod.snd (hprogress.trans hcal'), congrArg Prod.fst (hprogress.trans hcal'), hcount⟩
  case suspect =>
    intro s p a b run hruns hbusy hend hstep hlen ha hcal hfirst hsecond
    have hverdict : verdict (s.port p).cal.step ((s.port p).cal.runs ++ [run]) = .suspect := by
      rw [hstep, ha]
      exact (if_neg (by rw [hfirst]; decide)).trans (if_neg (by rw [hsecond]; decide))
    have hexec := calRunEnd_suspected hruns hbusy hend (by rw [hstep]; exact hlen) (by rw [ha]; exact (by decide : 3 ≠ 2)) hverdict
    have hstate : (s.runEnded p run).portState p = stCal := (runEnded_portState ..).trans hcal
    rw [hstep, calVerdict_suspect (.inl hstate) (by decide)] at hexec
    obtain ⟨hbit, hprogress, hgain, hsource, hfaults⟩ :=
      converterSuspect hstate ((s.port p).cal.runs ++ [run]).length
    obtain ⟨hdefaults, hhost⟩ := putDefaults_converter (s.runEnded p run) p
    rw [← hgain, ← hsource] at hdefaults hhost
    exact ⟨_, hexec, hbit, congrArg Prod.fst hprogress, hdefaults, hhost, hfaults⟩
  case refres =>
    intro s p a run hruns hbusy hend hstep hlen ha hcal hres
    have hexec := calRunEnd_suspect hruns hbusy hend hstep hlen ha hres
    have hstate : (s.runEnded p run).portState p = stCal := (runEnded_portState ..).trans hcal
    rw [calVerdict_suspect (.inl hstate) (by decide)] at hexec
    obtain ⟨hbit, hprogress, -, -, hfaults⟩ := converterSuspect hstate 2
    exact ⟨_, hexec, hbit, congrArg Prod.fst hprogress, hfaults⟩
  case quiet =>
    intro s p level hruns hbusy hstep hlevel hcal
    have hexec := exec_hybridRunNotQuiet hruns hbusy hstep hlevel
    rw [if_neg (fun h => hcal h.1), if_neg hcal] at hexec
    obtain ⟨hpostponements, hcount⟩ := postponed_counts s p 0
    have hq := postponed_cal s p 0
    refine ⟨_, hexec, ?_⟩
    simp only [State.rd_keep, State.port_keep]
    exact ⟨congrArg CalState.runs hq, congrArg CalState.runBusy hq, hpostponements, hcount,
      congrArg CalState.step hq, (congrArg CalState.wantHybrid hq).trans rfl, postponed_rd _ _ _ Obj.key_ne Obj.key_ne⟩
  case quietCal =>
    intro s p level hruns hbusy hstep hlevel hcal
    have hexec := exec_hybridRunNotQuiet hruns hbusy hstep hlevel
    rw [if_pos hcal] at hexec
    obtain ⟨hpostponements, hcount⟩ := postponed_counts s p 3
    have hq := postponed_cal s p 3
    by_cases hthird : 3 ≤ min 255 (s.rd Reg.LP_CAL_postponements p + 1)
    · rw [if_pos ⟨hcal, hthird⟩] at hexec
      have hstate : (s.postponed p 3).portState p = stCal := (postponed_rd _ _ _ Obj.key_ne Obj.key_ne).trans hcal
      obtain ⟨hprogress, hphase, hwants, hsetting, hsource, hpostponements', hcount'⟩ := hybridDefaulted_inCal hstate
      refine ⟨_, hexec, ?_⟩
      simp only [State.rd_keep, State.port_keep]
      exact ⟨congrArg Prod.snd hprogress, hpostponements'.trans hpostponements, hcount'.trans hcount,
        fun h => by omega, fun _ => ⟨congrArg Prod.fst hprogress, hphase, hwants, hsetting, hsource⟩⟩
    · rw [if_neg fun h => hthird h.2] at hexec
      refine ⟨_, hexec, ?_⟩
      simp only [State.rd_keep, State.port_keep]
      exact ⟨congrArg CalState.runs hq, hpostponements, hcount, fun _ => congrArg CalState.step hq,
        fun h => by omega⟩
  case request =>
    intro s p hruns hasked hrequested
    exact guarded_pos s ⟨hruns, hasked, by rw [hrequested]; rfl⟩

end Sys2Proof.Machine
end

section
/-! What the signature rules leave (R296 to R304): all but the SITE flags of the cells, the events and their records. -/

namespace Sys2Proof.Machine

set_option Elab.async false

/-- A cell but for its SITE flag. -/
def unsited (c : Nat) : Nat := setBit c 4 false

/-- What a port holds beside what the signature rules change. -/
def PortState.unsigned (q : PortState) : PortState :=
  { q with sound := { q.sound with events := [], cands := [], nextId := 0, owed := [] } }

/-- What the signature rules leave: all but objects, ports and records, and of these the objects below the cell map but the
number of events, the cells but for their SITE flags, and the ports but for their events. -/
structure State.Signed (s t : State) : Prop where
  rest : t = { s with regs := t.regs, ports := t.ports, merge := t.merge }
  below : ∀ k < 0x3800 * 268435456, (∀ p : Port, k ≠ Reg.LR_SIG_active_events.key p 0) →
    Store.get 0 t.regs k = Store.get 0 s.regs k
  cells : ∀ (p : Port) (i : Nat), unsited (t.cell p i) = unsited (s.cell p i)
  ports : ∀ p, (t.port p).unsigned = (s.port p).unsigned

namespace State.Signed

variable {s₀ s t : State}

theorem refl (s : State) : s.Signed s := ⟨rfl, fun _ _ _ => rfl, fun _ _ => rfl, fun _ => rfl⟩

theorem trans {u : State} (h : s₀.Signed s) (k : s.Signed u) : s₀.Signed u := by
  refine ⟨?_, fun n hn hk => (k.below n hn hk).trans (h.below n hn hk), fun p i => (k.cells p i).trans (h.cells p i),
    fun p => (k.ports p).trans (h.ports p)⟩
  have hrest := k.rest
  rw [h.rest] at hrest
  exact hrest

theorem foldl {α : Type} {f : State → α → State} (l : List α) (h : s₀.Signed s)
    (hf : ∀ s a, s₀.Signed s → s₀.Signed (f s a)) : s₀.Signed (l.foldl f s) := by
  induction l generalizing s with
  | nil => exact h
  | cons a l ih => exact ih (hf s a h)

/-- An object below the cell map reads as before. -/
theorem rd (h : s.Signed t) (o : Obj) {i j : Nat} (hevents : o.apart Reg.LR_SIG_active_events = true := by decide)
    (hi : i < 32 := by omega) (hj : j < 1048576 := by omega)
    (hbelow : o.key i j < 0x3800 * 268435456 := by simp only [Obj.key]; omega) : t.rd o i j = s.rd o i j := by
  rw [State.rd, State.rd, h.below _ hbelow fun p => Obj.key_ne hevents hi hj p.isLt (by decide)]

end State.Signed

variable {s₀ s : State} {p : Port}

theorem setSound_signed (hs : s₀.Signed s) (f : SoundState → SoundState)
    (hf : ∀ q : PortState, PortState.unsigned { q with sound := f q.sound } = q.unsigned) : s₀.Signed (s.setSound p f) :=
  hs.trans ⟨rfl, fun _ _ _ => rfl, fun _ _ => rfl,
    State.port_setPort_keeps PortState.unsigned s p (fun q => { q with sound := f q.sound }) hf⟩

theorem issue_signed (hs : s₀.Signed s) (src ty : Nat) (b : Bytes) : s₀.Signed (s.issue src ty b) :=
  hs.trans ⟨rfl, fun _ _ _ => rfl, fun _ _ => rfl, fun _ => rfl⟩

theorem key_cellMap_le (p : Port) (i : Nat) : 0x3800 * 268435456 ≤ Reg.CELL_MAP.key p i := by
  simp only [Obj.key, Reg.CELL_MAP]
  omega

theorem unsited_setBit (c : Nat) (b : Bool) : unsited (setBit c 4 b) = unsited c := by
  have hclear (w : Nat) : setBit w 4 false = w - 16 * (w / 16 % 2) := by
    unfold setBit bit
    rw [Nat.testBit_eq_decide_div_mod_eq]
    split
    · next h =>
      have h := of_decide_eq_true h
      simp only [Bool.false_eq_true, if_false]
      omega
    · next h =>
      have h : ¬w / 2 ^ 4 % 2 = 1 := fun hw => h (decide_eq_true hw)
      simp only [Bool.false_eq_true, if_false]
      omega
  unfold unsited
  rw [hclear, hclear]
  obtain ⟨heq, -⟩ | ⟨heq, hbit, -⟩ | ⟨heq, hbit, -⟩ := setBit_cases c 4 b
  · rw [heq]
  · rw [heq]
    rw [bit, Nat.testBit_eq_decide_div_mod_eq, decide_eq_false_iff_not] at hbit
    omega
  · rw [bit, Nat.testBit_eq_decide_div_mod_eq, decide_eq_true_eq] at hbit
    omega

theorem flagCell_signed (hs : s₀.Signed s) (i : Nat) (b : Bool) : s₀.Signed (s.flagCell p i 4 b) := by
  refine hs.trans ⟨rfl, fun k hk _ => ?_, fun q j => ?_, fun _ => rfl⟩
  · exact Store.get_put_other 0 s.regs _ (by have := key_cellMap_le p i; omega)
  · by_cases hkey : Reg.CELL_MAP.key q j = Reg.CELL_MAP.key p i
    · have hread (t : State) : t.cell q j = t.cell p i :=
        congrArg (fun k => Int.toNat (0 + Store.get 0 t.regs k)) hkey
      rw [hread, hread]
      refine (congrArg unsited (congrArg Int.toNat (State.rd_wr_self ..))).trans (unsited_setBit ..)
    · exact congrArg unsited (congrArg Int.toNat (State.rd_wr_other _ _ hkey))

theorem flagCells_signed (hs : s₀.Signed s) (lo hi : Nat) (b : Bool) : s₀.Signed (s.flagCells p lo hi 4 b) :=
  hs.foldl _ fun _ i h => flagCell_signed h i b

theorem eventRecord_signed (hs : s₀.Signed s) (e : SigEvent) (st : Nat) (measured : Stamp) (origin : Nat) :
    s₀.Signed (s.eventRecord p e st measured origin) := by
  unfold State.eventRecord
  dsimp only
  split
  · exact issue_signed hs ..
  · exact issue_signed hs ..

theorem setEvents_signed (hs : s₀.Signed s) (l : List SigEvent) : s₀.Signed (s.setEvents p l) := by
  have hflagged (t : State) (m : List SigEvent) (b : Bool) (ht : s₀.Signed t) :
      s₀.Signed (m.foldl (fun s e => s.siteFlags p e b) t) := ht.foldl m fun _ e h => flagCells_signed h e.start e.finish b
  unfold State.setEvents
  have hset := hflagged _ l true (setSound_signed (p := p) (hflagged s (s.port p).sound.events false hs)
    (fun q => { q with events := l }) fun _ => rfl)
  refine hset.trans ⟨rfl, fun k _ hk => Store.get_put_other 0 _ _ (hk p), fun q i => ?_, fun _ => rfl⟩
  exact congrArg unsited (congrArg Int.toNat (State.rd_wr_other _ _ (by
    have := key_cellMap_le q i
    have hlt : Reg.LR_SIG_active_events.key p 0 < 0x3800 * 268435456 := by
      simp only [Obj.key, Reg.LR_SIG_active_events]
      omega
    omega)))

theorem applyVerdicts_signed (hs : s₀.Signed s) (vs : List Verdict) (measured : Stamp) (origin : Nat) :
    s₀.Signed (s.applyVerdicts p vs measured origin) := by
  unfold State.applyVerdicts
  refine setEvents_signed (hs.foldl _ fun t v ht => ?_) _
  split
  · exact eventRecord_signed ht ..
  · exact ht

theorem confirm_signed (hs : s₀.Signed s) (e : SigEvent) : s₀.Signed (s.confirm p e).2 :=
  setSound_signed (p := p) hs (fun q => { q with nextId := (s.port p).sound.nextId % 65535 + 1 }) fun _ => rfl

theorem setCands_signed (hs : s₀.Signed s) (f : SoundState → List SigEvent) :
    s₀.Signed (s.setSound p fun q => { q with cands := f q }) :=
  setSound_signed (p := p) hs (fun q => { q with cands := f q }) fun _ => rfl

theorem judgeSite_signed (hs : s₀.Signed s) (found : Option SigEvent) (scheduled : Bool) :
    s₀.Signed (s.judgeSite p found scheduled).2 := by
  have hdrop : s₀.Signed (s.setSound p fun q => { q with cands := q.cands.filter fun c => c.kind < 2 }) :=
    setCands_signed hs fun q => q.cands.filter fun c => c.kind < 2
  unfold State.judgeSite
  extract_lets q same drop fresh
  have hfresh : s₀.Signed (fresh s).2 := by
    unfold fresh
    split
    · exact hdrop
    · next f =>
      split
      · exact confirm_signed hdrop f
      · exact setCands_signed (p := p) hdrop fun x => { f with count := 1 } :: x.cands
  split
  · exact hfresh
  · split
    · exact hs
    · split
      · exact hfresh
      · exact hs

theorem judgeNew_signed (hs : s₀.Signed s) (site : Option Nat) (finds : List SigEvent) :
    s₀.Signed (s.judgeNew p site finds).2 := by
  have hkept : s₀.Signed (s.setSound p fun q => { q with cands := q.cands.filter fun c => 2 ≤ c.kind }) :=
    setCands_signed hs fun q => q.cands.filter fun c => 2 ≤ c.kind
  unfold State.judgeNew
  refine List.foldlRecOn (motive := fun acc : List Verdict × State => s₀.Signed acc.2) _ _ hkept fun acc hacc f _ => ?_
  dsimp only
  split
  · exact confirm_signed hacc f
  · exact setCands_signed (p := p) hacc fun q => q.cands ++ [_]

theorem signatures_signed (hs : s₀.Signed s) (measured : Stamp) : s₀.Signed (s.signatures p measured) := by
  unfold State.signatures
  exact applyVerdicts_signed (judgeNew_signed (judgeSite_signed hs ..) ..) ..

theorem focusSignatures_signed (hs : s₀.Signed s) (lo hi : Nat) (measured : Stamp) :
    s₀.Signed (s.focusSignatures p lo hi measured) := by
  unfold State.focusSignatures
  exact applyVerdicts_signed (judgeSite_signed hs ..) ..

theorem sign_signed (hs : s₀.Signed s) (x : Option (Nat × Nat) × Stamp) : s₀.Signed (s.sign' p x) := by
  unfold State.sign'
  split
  · exact signatures_signed hs ..
  · exact focusSignatures_signed hs ..

theorem signOrOwe_signed (hs : s₀.Signed s) (x : Option (Nat × Nat) × Stamp) : s₀.Signed (s.signOrOwe p x) := by
  unfold State.signOrOwe
  split
  · exact setSound_signed (p := p) hs (fun q => { q with owed := q.owed ++ [x] }) fun _ => rfl
  · exact sign_signed hs x

theorem signOwed_signed (hs : s₀.Signed s) : s₀.Signed (s.signOwed p) := by
  unfold State.signOwed
  exact State.Signed.foldl _ (setSound_signed (p := p) hs (fun q => { q with owed := [] }) fun _ => rfl) fun _ x h =>
    sign_signed h x

end Sys2Proof.Machine
end

section
/-! Faults, their cycles and their fences, the steward and the pages of DRAM (R487 to R501). -/

namespace Sys2Proof.Machine

set_option Elab.async false

variable {s : State} {p : Port}

/-! ### What the states of a port leave of it -/

/-- What a port that leaves a state holds on to. -/
def PortState.staying (q : PortState) : Band × Bool := (q.band, q.cal.fenced)

theorem staying_setPort (s : State) (p : Port) (f : PortState → PortState) (h : ∀ x, (f x).staying = x.staying) (q : Port) :
    ((s.setPort p f).port q).staying = (s.port q).staying := State.port_setPort_keeps PortState.staying s p f h q

theorem leaveQuiet_staying (s : State) (p q : Port) : ((s.leaveQuiet p).port q).staying = (s.port q).staying := by
  unfold State.leaveQuiet
  refine (foldl_keeps (fun t => (t.port q).staying) (fun t a => ?_) _ _).trans ?_
  · refine (staying_setPort _ p _ ?_ q).trans ?_
    · exact fun _ => rfl
    · split
      · rfl
      · rfl
  · refine (staying_setPort _ p _ ?_ q).trans ?_
    · exact fun _ => rfl
    · split
      · rfl
      · rfl

theorem failProxies_staying (s : State) (p q : Port) (sel : Nat → Bool) :
    ((s.failProxies p sel).port q).staying = (s.port q).staying := by
  have hanswer (t : State) (x : Proxy) (n : Nat) : ((t.answerProxy p x n).port q).staying = (t.port q).staying :=
    congrArg PortState.staying (State.port_congr (State.answerProxy_ports ..) q)
  unfold State.failProxies
  refine (foldl_keeps (fun t => (t.port q).staying) (fun t x => hanswer t x _) _ _).trans ?_
  refine (foldl_keeps (fun t => (t.port q).staying) (fun t o => ?_) _ _).trans ?_
  · exact hanswer (t.disarm _) _ _
  · exact staying_setPort _ p _ (by exact fun _ => rfl) q

theorem freeEngine_staying (s : State) (p q : Port) : ((s.freeEngine p).port q).staying = (s.port q).staying := by
  unfold State.freeEngine
  split
  · rfl
  · dsimp only
    rw [State.port_wr]
    exact staying_setPort s p _ (by exact fun _ => rfl) q

theorem leaving_staying (s : State) (p q : Port) (old new : Int) :
    ((s.leaving p old new).port q).staying = (s.port q).staying := by
  unfold State.leaving
  extract_lets t₁ t₂ t₃ t₄ t₅ t₆
  have h₁ : (t₁.port q).staying = (s.port q).staying := by
    unfold t₁
    split
    · exact leaveQuiet_staying ..
    · rfl
  have h₂ : (t₂.port q).staying = (t₁.port q).staying := by
    unfold t₂
    split
    · exact failProxies_staying ..
    · rfl
  have h₃ : (t₃.port q).staying = (t₂.port q).staying := by
    unfold t₃
    split
    · exact congrArg PortState.staying (State.port_congr (State.flushPort_ports ..) q)
    · rfl
  have h₄ : (t₄.port q).staying = (t₃.port q).staying := by
    unfold t₄
    split
    · rfl
    · exact freeEngine_staying ..
  have h₅ : (t₅.port q).staying = (t₄.port q).staying := by
    unfold t₅
    split
    · rfl
    · exact staying_setPort _ p _ (by exact fun _ => rfl) q
  have h₆ : (t₆.port q).staying = (t₅.port q).staying := by
    unfold t₆
    split
    · exact staying_setPort _ p _ (by exact fun _ => rfl) q
    · rfl
  exact ((((h₆.trans h₅).trans h₄).trans h₃).trans h₂).trans h₁

/-- A port that changes to any state but CAL holds on to what it stays with. -/
theorem toState_staying (s : State) (p q : Port) {new : Int} (hcal : new ≠ stCal) (cause : Nat) :
    ((s.toState p new cause).port q).staying = (s.port q).staying := by
  have hentering (t : State) (old : Int) : ((t.entering p old new).port q).staying = (t.port q).staying := by
    unfold State.entering
    dsimp only
    rw [if_neg hcal]
    split
    · rw [State.port_disarm, State.port_disarm]
      exact staying_setPort t p _ (by exact fun _ => rfl) q
    · split
      · rw [State.port_arm]
        exact staying_setPort t p _ (by exact fun _ => rfl) q
      · split
        · rfl
        · split
          · exact staying_setPort t p _ (by exact fun _ => rfl) q
          · rfl
  unfold State.toState
  exact (hentering ..).trans (leaving_staying ..)

/-! ### A fault that is logged (R488 to R495) -/

theorem faultState_rd (s : State) {o : Obj} {i j : Nat} (hclasses : o.key i j ≠ Reg.FAULT_STATE_classes.key 0 0)
    (hseverity : o.key i j ≠ Reg.FAULT_STATE_severity.key 0 0) : s.faultState.rd o i j = s.rd o i j := by
  unfold State.faultState
  dsimp only
  split
  · unfold State.ownTopology State.setTopology
    refine (State.rd_congr rfl ..).trans ((State.rd_wr_other _ _ hseverity).trans (State.rd_wr_other _ _ hclasses))
  · exact (State.rd_wr_other _ _ hseverity).trans (State.rd_wr_other _ _ hclasses)

theorem faultState_ports (s : State) : s.faultState.ports = s.ports := by
  unfold State.faultState
  dsimp only
  split
  · rfl
  · rfl

theorem faultState_faults (s : State) : s.faultState.faults = s.faults := by
  unfold State.faultState
  dsimp only
  split
  · rfl
  · rfl

theorem wakeReport_regs (s : State) : s.wakeReport.regs = s.regs := by
  unfold State.wakeReport
  split
  · rfl
  · rfl

theorem wakeReport_ports (s : State) : s.wakeReport.ports = s.ports := by
  unfold State.wakeReport
  split
  · rfl
  · rfl

/-- The number of the next fault of the log. -/
def State.nextSeq (s : State) : Nat := (s.faults.seq + 1) % 4294967296

/-- A real fault is entered: its record, its number and its entry of the log, and the first of a cycle in FIRST_FAULT. -/
def State.enterFault (s : State) (first : Bool) (j : Judged) (r : Rec) : State :=
  let seq := s.nextSeq
  let old := s.faults.logged.any fun l => decide ((l.seq + 256) % 4294967296 = seq) && !l.acked
  let s := if old then s.inc Reg.FAULT_LOG_OVERWRITTEN else s
  let s := (((s.wrB Reg.FAULT_LOG_entry 0 (seq % 256) r.bytes).wr Reg.FAULT_LOG_newest 0 0 seq).inc Reg.FAULT_LOG_LOGGED)
  let s := if j.escalated then s.inc Reg.FAULT_STATE_ESCALATIONS else s
  let s := s.setFaults fun fld => { fld with
    seq := seq
    logged := (s.faults.logged.filter fun l => !(l.acked && decide ((l.seq + 256) % 4294967296 = seq)))
      ++ [⟨seq, j.fault.report.cls, j.logged, false, false, false⟩] }
  let s := s.setMerge fun fld => { fld with crossing := s.merge.crossing ++ [r] }
  if first ∧ s.faults.firstSeq = none then
    (s.setFaults fun fld => { fld with firstSeq := some seq }).wrB Reg.FIRST_FAULT 0 0 r.bytes else s

/-- The record of a real fault as the collector judged it. -/
def Judged.record (j : Judged) (flags seq reaction : Nat) : Rec :=
  { stamp := j.fault.stamp, source := j.fault.report.source, type := 0x0C01, flags := flags,
    payload := be 1 j.fault.report.cls ++ be 1 j.fault.report.code ++ be 1 j.logged ++ be 1 j.catalogue ++ be 4 seq
      ++ be 4 j.fault.report.detail ++ be 1 j.fault.report.unit ++ be 1 reaction ++ [0, 0] }

theorem record_head (j : Judged) (flags seq reaction : Nat) : (j.record flags seq reaction).payload.take 4
    = be 1 j.fault.report.cls ++ be 1 j.fault.report.code ++ be 1 j.logged ++ be 1 j.catalogue := by
  unfold Judged.record
  simp only [List.append_assoc]
  rfl

/-- A real NOTICE is entered, and nothing reacts. -/
theorem logFault_notice {j : Judged} (hinj : j.fault.injected = false) (hlevel : j.logged < svDegrade) (all : List Judged)
    (first : Bool) :
    ∃ flags reaction, s.logFault all first j = s.enterFault first j (j.record flags s.nextSeq reaction) := by
  have hdegrade : ¬svDegrade ≤ j.logged := not_le.mpr hlevel
  have hfence : ¬svFence ≤ j.logged := fun h => hdegrade (le_trans (by decide) h)
  have hstation : ¬svStation ≤ j.logged := fun h => hdegrade (le_trans (by decide) h)
  have hreset : ¬svReset ≤ j.logged := fun h => hdegrade (le_trans (by decide) h)
  unfold State.logFault
  simp only [hinj, Bool.not_false, Bool.true_or, Bool.and_false, Bool.false_and, Bool.false_eq_true, if_false,
    hdegrade, hfence, hstation, hreset, false_and, and_false]
  exact ⟨_, _, rfl⟩

/-- A real fault at FENCE is entered, and the fence action of its unit runs. -/
theorem logFault_fence {j : Judged} (hinj : j.fault.injected = false) (hlevel : j.logged = svFence) (all : List Judged)
    (first : Bool) : ∃ t : State, s.logFault all first j = (t.fenceAction j.fault s.nextSeq).getD t := by
  have hfence : svFence ≤ j.logged := hlevel.ge
  have hdegrade : svDegrade ≤ j.logged := le_trans (by decide) hfence
  have hstation : ¬svStation ≤ j.logged := by
    rw [hlevel]
    decide
  have hreset : ¬svReset ≤ j.logged := by
    rw [hlevel]
    decide
  unfold State.logFault
  simp only [hinj, Bool.not_false, Bool.true_or, Bool.and_false, Bool.false_and, Bool.false_eq_true, if_false,
    hdegrade, hfence, hstation, hreset, false_and, if_true]
  exact ⟨_, rfl⟩

/-- A real fault of a class that the log holds none of is not escalated (R491). -/
theorem judge_first {f : PendFault} (hinj : f.injected = false) (hlogged : ∀ l ∈ s.faults.logged, l.cls ≠ f.report.cls) :
    s.judge f = ⟨f, (catalogueSeverity f.report.cls f.report.code).getD f.severity, f.severity, false⟩ := by
  have hescalated : (s.faults.logged.any fun l => !l.acked && l.cls == f.report.cls && l.injected == f.injected) = false := by
    rw [List.any_eq_false]
    intro l hl
    simp [hlogged l hl]
  unfold State.judge
  rw [hinj] at hescalated
  simp only [hescalated, hinj, Bool.false_eq_true, if_false]

/-- The decision of the only fault that waits (R490). -/
theorem exec_faultCycleDecision {f : PendFault} (hlive : s.live = true) (hpending : s.faults.pending = [f])
    (hdue : (f.stamp / 16 + 1) * 16 + 2000 ≤ s.now)
    (hinject : (s.faults.inject.all fun x => decide (f.stamp / 16 < x.2.2 / 16)) = true) :
    ∃ t, t = s.setFaults (fun fld => { fld with pending := [] })
      ∧ exec .faultCycleDecision s = .next ((t.logFault [t.judge f] true (t.judge f)).faultState.wakeReport.keep s) := by
  have hcycle : s.faultCycle = some (f.stamp / 16) := by
    unfold State.faultCycle
    rw [hpending]
    rfl
  have hmine : s.faults.pending.filter (fun g => decide (g.stamp / 16 = f.stamp / 16)) = [f] := by
    rw [hpending]
    simp
  have hleft : s.faults.pending.filter (fun g => decide (g.stamp / 16 ≠ f.stamp / 16)) = [] := by
    rw [hpending]
    simp
  refine ⟨_, rfl, ?_⟩
  dsimp only [exec, execFaultCycleDecision]
  rw [hcycle]
  refine (guarded_pos s ⟨hlive, hdue, hinject⟩).trans (congrArg (fun t => Host.Outcome.next (State.keep t s)) ?_)
  rw [hmine, hleft]
  rfl

/-! ### The fence of an element (R497) -/

/-- An element that is fenced reads so, with the stamp of its fault and its number. -/
theorem fenceElem_reads (s : State) {e : Nat} (he : e < 37) (f : PendFault) (seq : Nat) :
    (s.fenceElem e f seq).rd Reg.FENCE_CTL_state 0 e = 1 ∧ (s.fenceElem e f seq).rd Reg.FENCE_CTL_stamp 0 e = f.stamp
      ∧ (s.fenceElem e f seq).rd Reg.FENCE_CTL_SEQ 0 e = seq := by
  unfold State.fenceElem
  dsimp only
  simp (disch := exact Obj.key_ne) only [State.rd_congr (State.setFaults_regs ..), State.rd_wr_self, State.rd_wr_other,
    State.rd_inc_other, and_self]

theorem fenceElem_portState (s : State) {e : Nat} (he : e < 37) (f : PendFault) (seq : Nat) (p : Port) :
    (s.fenceElem e f seq).portState p = s.portState p := by
  unfold State.fenceElem State.portState
  dsimp only
  simp (disch := exact Obj.key_ne) only [State.rd_congr (State.setFaults_regs ..), State.rd_wr_other, State.rd_inc_other]
  rfl

theorem fenceElem_ports (s : State) (e : Nat) (f : PendFault) (seq : Nat) : (s.fenceElem e f seq).ports = s.ports := rfl

theorem fencePort_portState (s : State) (p : Port) : (s.fencePort p).portState p = stFenced := by
  unfold State.fencePort
  split
  · assumption
  · exact State.portState_toState ..

/-- What one element of a list brings about, and every other leaves, holds after all of them. -/
theorem foldl_establishes {α : Type} {P : State → Prop} {f : State → α → State} {a : α} (l : List α) (ha : a ∈ l ∨ P s)
    (hstep : ∀ t, P (f t a)) (hkeep : ∀ t b, P t → P (f t b)) : P (l.foldl f s) := by
  induction l generalizing s with
  | nil => exact ha.resolve_left List.not_mem_nil
  | cons b l ih =>
    refine ih ?_
    obtain hmem | hs := ha
    · obtain rfl | hmem := List.mem_cons.mp hmem
      · exact .inr (hstep s)
      · exact .inl hmem
    · exact .inr (hkeep s b hs)

theorem freeEngine_engine (s : State) (p : Port) : ((s.freeEngine p).port p).sound.engine = none := by
  unfold State.freeEngine
  split
  · assumption
  · exact congrArg (fun q : PortState => q.sound.engine) (State.port_setPort_self s p fun q =>
      { q with sound := { q.sound with engine := none, band := none, setup := false, focusOn := false } })

theorem freeEngine_port_other (s : State) {p q : Port} (hq : q ≠ p) : (s.freeEngine p).port q = s.port q := by
  unfold State.freeEngine
  split
  · rfl
  · dsimp only
    rw [State.port_wr]
    exact State.port_setPort_other s _ hq

/-- No port is served by an engine that is fenced. -/
theorem fenceEngine_serves (s : State) (k : Fin 4) (p : Port) : ((s.fenceEngine k).port p).sound.engine ≠ some k := by
  unfold State.fenceEngine
  refine foldl_establishes (P := fun t => (t.port p).sound.engine ≠ some k) (a := p) allPorts (.inl (List.mem_finRange p))
    (fun t => ?_) fun t q ht => ?_
  · split
    · rw [freeEngine_engine]
      nofun
    · assumption
  · by_cases hq : p = q
    · subst hq
      split
      · rw [freeEngine_engine]
        nofun
      · exact ht
    · split
      · rw [freeEngine_port_other _ hq]
        exact (congrArg (fun x : PortState => x.sound.engine ≠ some k) (State.port_setPort_other t _ hq)).mpr ht
      · exact ht

theorem fenceAction_line {f : PendFault} (hsource : f.report.source = srcLine p) (seq : Nat) :
    s.fenceAction f seq = some ((s.fencePort p).fenceElem p.val f seq) := by
  have hlt := p.isLt
  have hvalue : f.report.source = 0x10 + p.val := hsource
  have hsub : f.report.source - 0x10 = p.val := by omega
  have hport : (⟨f.report.source - 0x10, by omega⟩ : Port) = p := Fin.ext hsub
  unfold State.fenceAction
  dsimp only
  rw [dif_pos (by omega), hport, hsub]

theorem fenceAction_engine {f : PendFault} {k : Fin 4} (hsource : f.report.source = srcEngine k.val) (seq : Nat) :
    s.fenceAction f seq = some ((s.fenceEngine k).fenceElem (32 + k.val) f seq) := by
  have hlt := k.isLt
  have hvalue : f.report.source = 0x08 + k.val := hsource
  have hsub : f.report.source - 0x08 = k.val := by omega
  have hengine : (⟨f.report.source - 0x08, by omega⟩ : Fin 4) = k := Fin.ext hsub
  unfold State.fenceAction
  dsimp only
  rw [dif_neg (by omega), dif_pos (by omega), hengine, hsub]

/-- The decision of a real fault of a class that the log holds none of, at FENCE. -/
theorem exec_fenceDecision {f : PendFault} (hlive : s.live = true) (hpending : s.faults.pending = [f])
    (hinj : f.injected = false) (hsev : f.severity = svFence)
    (hdue : (f.stamp / 16 + 1) * 16 + 2000 ≤ s.now)
    (hinject : (s.faults.inject.all fun x => decide (f.stamp / 16 < x.2.2 / 16)) = true)
    (hlogged : ∀ l ∈ s.faults.logged, l.cls ≠ f.report.cls) :
    ∃ t : State, exec .faultCycleDecision s = .next (((t.fenceAction f s.nextSeq).getD t).faultState.wakeReport.keep s) := by
  obtain ⟨u, hu, hexec⟩ := exec_faultCycleDecision hlive hpending hdue hinject
  have hfaults : u.faults = { s.faults with pending := [] } := by
    rw [hu]
    rfl
  have hjudge := judge_first (s := u) hinj (by rw [hfaults]; exact hlogged)
  obtain ⟨t, ht⟩ := logFault_fence (s := u) (j := u.judge f) (by rw [hjudge]; exact hinj) (by rw [hjudge]; exact hsev)
    [u.judge f] true
  have hseq : u.nextSeq = s.nextSeq := by
    unfold State.nextSeq
    rw [hfaults]
  rw [ht, hjudge, hseq] at hexec
  exact ⟨t, hexec⟩

/-- The decision of a real NOTICE of a class that the log holds none of. -/
theorem exec_noticeDecision {f : PendFault} (hlive : s.live = true) (hpending : s.faults.pending = [f])
    (hinj : f.injected = false) (hsev : f.severity = svNotice)
    (hdue : (f.stamp / 16 + 1) * 16 + 2000 ≤ s.now)
    (hinject : (s.faults.inject.all fun x => decide (f.stamp / 16 < x.2.2 / 16)) = true)
    (hlogged : ∀ l ∈ s.faults.logged, l.cls ≠ f.report.cls) :
    ∃ (u : State) (j : Judged) (flags reaction : Nat), u = s.setFaults (fun fld => { fld with pending := [] })
      ∧ j = ⟨f, (catalogueSeverity f.report.cls f.report.code).getD svNotice, svNotice, false⟩
      ∧ exec .faultCycleDecision s
        = .next ((u.enterFault true j (j.record flags s.nextSeq reaction)).faultState.wakeReport.keep s) := by
  obtain ⟨u, hu, hexec⟩ := exec_faultCycleDecision hlive hpending hdue hinject
  have hfaults : u.faults = { s.faults with pending := [] } := by
    rw [hu]
    rfl
  have hjudge := judge_first (s := u) hinj (by rw [hfaults]; exact hlogged)
  rw [hsev] at hjudge
  obtain ⟨flags, reaction, ht⟩ := logFault_notice (s := u) (j := u.judge f) (by rw [hjudge]; exact hinj)
    (by rw [hjudge]; exact (by decide : svNotice < svDegrade)) [u.judge f] true
  have hseq : u.nextSeq = s.nextSeq := by
    unfold State.nextSeq
    rw [hfaults]
  rw [ht, hseq] at hexec
  exact ⟨u, u.judge f, flags, reaction, hu, hjudge, hexec⟩

/-- What a state reads of a fenced element once the cycle is over. -/
theorem cycleEnd_rd (t : State) {o : Obj} {i j : Nat} (hclasses : o.key i j ≠ Reg.FAULT_STATE_classes.key 0 0)
    (hseverity : o.key i j ≠ Reg.FAULT_STATE_severity.key 0 0) : t.faultState.wakeReport.rd o i j = t.rd o i j :=
  (State.rd_congr (wakeReport_regs ..) ..).trans (faultState_rd t hclasses hseverity)

theorem cycleEnd_ports (t : State) : t.faultState.wakeReport.ports = t.ports :=
  (wakeReport_ports ..).trans (faultState_ports t)

/-- What a fault that is entered changes, and what it leaves. -/
theorem enterFault_spec (s : State) (first : Bool) (j : Judged) (r : Rec) :
    (s.enterFault first j r).faults.pending = s.faults.pending ∧ (s.enterFault first j r).faults.seq = s.nextSeq
      ∧ (s.enterFault first j r).faults.logged.getLast?
        = some ⟨s.nextSeq, j.fault.report.cls, j.logged, false, false, false⟩
      ∧ (s.enterFault first j r).merge.crossing = s.merge.crossing ++ [r] ∧ (s.enterFault first j r).ports = s.ports
      ∧ (s.enterFault first j r).power = s.power := by
  unfold State.enterFault
  extract_lets seq old t₁ t₂ t₃ t₄ t₅
  have h₁ : t₁.faults = s.faults ∧ t₁.merge = s.merge ∧ t₁.ports = s.ports ∧ t₁.power = s.power := by
    unfold t₁
    split
    · exact ⟨rfl, rfl, rfl, rfl⟩
    · exact ⟨rfl, rfl, rfl, rfl⟩
  have h₃ : t₃.faults = t₁.faults ∧ t₃.merge = t₁.merge ∧ t₃.ports = t₁.ports ∧ t₃.power = t₁.power := by
    unfold t₃
    split
    · exact ⟨rfl, rfl, rfl, rfl⟩
    · exact ⟨rfl, rfl, rfl, rfl⟩
  obtain ⟨hfaults, hmerge, hports, hpower⟩ := h₁
  rw [hfaults, hmerge, hports, hpower] at h₃
  obtain ⟨hfaults, hmerge, hports, hpower⟩ := h₃
  have hpending : t₅.faults.pending = s.faults.pending :=
    (congrArg FaultState.pending hfaults : t₃.faults.pending = s.faults.pending)
  have hlast : t₅.faults.logged.getLast? = some ⟨s.nextSeq, j.fault.report.cls, j.logged, false, false, false⟩ :=
    List.getLast?_concat ..
  have hcrossing : t₅.merge.crossing = s.merge.crossing ++ [r] := congrArg (fun m : MergeState => m.crossing ++ [r]) hmerge
  split
  · exact ⟨hpending, rfl, hlast, hcrossing, hports, hpower⟩
  · exact ⟨hpending, rfl, hlast, hcrossing, hports, hpower⟩

theorem enterFault_rd (s : State) (first : Bool) (j : Judged) (r : Rec) :
    (s.enterFault first j r).rd Reg.FAULT_LOG_newest = s.nextSeq
      ∧ (s.enterFault first j r).rd Reg.CASC_acting_role = s.rd Reg.CASC_acting_role := by
  unfold State.enterFault
  extract_lets seq old t₁ t₂ t₃ t₄ t₅
  have h₁ : t₁.rd Reg.CASC_acting_role = s.rd Reg.CASC_acting_role := by
    unfold t₁
    split
    · exact State.rd_inc_other _ _ Obj.key_ne
    · rfl
  have h₂ : t₂.rd Reg.FAULT_LOG_newest = s.nextSeq ∧ t₂.rd Reg.CASC_acting_role = t₁.rd Reg.CASC_acting_role :=
    ⟨(State.rd_inc_other _ _ Obj.key_ne).trans (State.rd_wr_self ..),
      (State.rd_inc_other _ _ Obj.key_ne).trans (State.rd_wr_other _ _ Obj.key_ne)⟩
  have h₃ : t₃.rd Reg.FAULT_LOG_newest = t₂.rd Reg.FAULT_LOG_newest
      ∧ t₃.rd Reg.CASC_acting_role = t₂.rd Reg.CASC_acting_role := by
    unfold t₃
    split
    · exact ⟨State.rd_inc_other _ _ Obj.key_ne, State.rd_inc_other _ _ Obj.key_ne⟩
    · exact ⟨rfl, rfl⟩
  have hnewest := h₃.1.trans h₂.1
  have hrole := h₃.2.trans (h₂.2.trans h₁)
  split
  · exact ⟨hnewest, hrole⟩
  · exact ⟨hnewest, hrole⟩

/-- The end of a cycle on a device that is no head and owes no report of a wake. -/
theorem cycleEnd_member (hhead : s.isHead = false) (howed : s.power.wakeOwed = false) :
    s.faultState.wakeReport.faults = s.faults ∧ s.faultState.wakeReport.merge = s.merge
      ∧ s.faultState.wakeReport.power = s.power := by
  have hmember : ∀ v w : Int, ((s.wr Reg.FAULT_STATE_classes 0 0 v).wr Reg.FAULT_STATE_severity 0 0 w).isHead = false := by
    intro v w
    rw [← hhead]
    unfold State.isHead
    simp (disch := exact Obj.key_ne) only [State.rd_wr_other]
  have hstate : s.faultState.faults = s.faults ∧ s.faultState.merge = s.merge ∧ s.faultState.power = s.power := by
    unfold State.faultState
    dsimp only
    rw [hmember, if_neg (by decide)]
    exact ⟨rfl, rfl, rfl⟩
  obtain ⟨hfaults, hmerge, hpower⟩ := hstate
  have hreport : s.faultState.wakeReport = s.faultState := by
    refine if_neg fun h => ?_
    rw [hpower, howed] at h
    exact absurd h.1 (by decide)
  rw [hreport]
  exact ⟨hfaults, hmerge, hpower⟩

/-! ### Pages of DRAM (R498) -/

/-- A cell whose words were lost: LOST is set and BASELINE_VALID clear. -/
def cellLost (c : Nat) : Prop := bit (cellFlags c) 6 = true ∧ bit (cellFlags c) 7 = false

theorem cellFlags_cellOf (b c d : Int) (threshold flags : Nat) : cellFlags (cellOf b c d threshold flags) = flags % 256 := by
  unfold cellFlags cellOf field
  dsimp only
  omega

theorem flagsLost : ∀ w < 256, setBit (setBit w 7 false) 6 true < 256 ∧ bit (setBit (setBit w 7 false) 6 true) 6 = true
    ∧ bit (setBit (setBit w 7 false) 6 true) 7 = false := by decide +kernel

theorem cellLost_flagged (c : Nat) : cellLost (cellOf (cellBaseline c) (cellCurrent c) (cellTrend c) (cellThreshold c)
    (setBit (setBit (cellFlags c) 7 false) 6 true)) := by
  obtain ⟨hlt, hset, hclear⟩ := flagsLost (cellFlags c) (Nat.mod_lt _ (by decide))
  unfold cellLost
  rw [cellFlags_cellOf, Nat.mod_eq_of_lt hlt]
  exact ⟨hset, hclear⟩

theorem cell_wr_self (s : State) (p : Port) (i v : Nat) : (s.wr Reg.CELL_MAP p i (v : Nat)).cell p i = v :=
  congrArg Int.toNat (State.rd_wr_self ..)

/-- The cells of a page of the map are flagged as lost. -/
theorem regionLost_cellMap (s : State) (page first count : Nat) {i : Nat} (hi : i < 163840) (hfirst : first ≤ i)
    (hcount : i < first + count) : cellLost ((s.regionLost page (.cellMap p first count)).cell p i) := by
  have hmem : i ∈ (List.range count).map (· + first) :=
    List.mem_map.mpr ⟨i - first, List.mem_range.mpr (by omega), by omega⟩
  unfold State.regionLost
  refine foldl_establishes (P := fun t => cellLost (t.cell p i)) (a := i) _ (.inl hmem) (fun t => ?_) fun t j ht => ?_
  · rw [if_pos hi]
    exact (congrArg cellLost (cell_wr_self ..)).mpr (cellLost_flagged _)
  · split
    · next hj =>
      by_cases hij : i = j
      · subst hij
        exact (congrArg cellLost (cell_wr_self ..)).mpr (cellLost_flagged _)
      · refine (congrArg cellLost (congrArg Int.toNat (State.rd_wr_other _ _ ?_))).mpr ht
        unfold Obj.key
        omega
    · exact ht

/-! ### The obligation -/

/-- The pages that hold uncorrectable words, with that of a fault (R498). -/
def State.lostPages (s : State) (f : FaultReport) : List Nat :=
  if f.cls = clsMemory ∧ f.code = 0x01 ∧ f.source = srcDram then f.unit :: s.faults.lost.filter fun x => x != f.unit
  else s.faults.lost

/-- What a fault does in its unit: it marks its page, and changes else but the bands of a sounding engine (R489, R498). -/
theorem faultInUnit_spec (s : State) (f : FaultReport) : (s.faultInUnit f).time = s.time
    ∧ (s.faultInUnit f).faults = { s.faults with lost := s.lostPages f }
    ∧ (f.cls ≠ clsSounding → s.faultInUnit f = { s with faults := { s.faults with lost := s.lostPages f } }) := by
  unfold State.faultInUnit State.lostPages
  split
  · exact ⟨rfl, rfl, fun _ => rfl⟩
  · split
    · next h =>
      refine ⟨foldl_keeps State.time (fun t p => ?_) _ _, foldl_keeps State.faults (fun t p => ?_) _ _,
        fun hcls => absurd h.1 hcls⟩
      · split
        · split
          · exact State.cntSound_time ..
          · rfl
        · rfl
      · split
        · split
          · exact State.cntSound_faults ..
          · rfl
        · rfl
    · exact ⟨rfl, rfl, fun _ => rfl⟩

/-- A catalogued fault of its source is raised beside what it does in its unit (R487, R489). -/
theorem faultRaise_spec (f : FaultReport) {c : Nat} (hcat : catalogueSeverity f.cls f.code = some c)
    (hsrc : sourceOf f.cls f.code f.source = true) :
    ((s.faultInUnit f).raiseAs f 0 false).faults
        = { s.reported f.source f.cls f.code f.unit f.detail c with lost := s.lostPages f }
      ∧ (f.cls ≠ clsSounding → (s.faultInUnit f).raiseAs f 0 false
          = { s with faults := ((s.faultInUnit f).raiseAs f 0 false).faults }) := by
  obtain ⟨htime, hfaults, hrest⟩ := faultInUnit_spec s f
  have hraise : (s.faultInUnit f).raiseAs f 0 false
      = { s.faultInUnit f with faults := (s.faultInUnit f).reported f.source f.cls f.code f.unit f.detail c } :=
    State.raise_eq (s.faultInUnit f) f.unit f.detail hcat hsrc
  rw [hraise]
  refine ⟨?_, fun hcls => ?_⟩
  · unfold State.reported State.faultNow
    rw [State.now_congr htime, htime, hfaults]
    split
    · rfl
    · rfl
  · rw [hrest hcls]

/-- An accepted request leaves the fault log (R433). -/
theorem accepted_faults {u : State} {r : IzReq} (h : s.admitReq r = .accepted u) : u.faults = s.faults := by
  have hbesides := s.admitReq_besides r
  rw [h] at hbesides
  exact congrArg (fun x : _ × _ × _ × _ × FaultState × _ => x.2.2.2.2.1) hbesides

/-- The log once the classes of a mask are acknowledged up to a number (R496). -/
def ackedBy (mask upTo : Nat) (f : LoggedFault) : LoggedFault :=
  if bit mask f.cls && serialLe f.seq upTo then { f with acked := true } else f

/-- The state of FAULT_ACK before its answer. -/
def State.faultsAcked (u : State) (mask upTo : Nat) (v : Int) : State :=
  let logged := u.faults.logged.map (ackedBy mask upTo)
  let s := u.setFaults fun fld => { fld with logged := logged }
  let s := if logged.any fun f => f.acked && u.faults.firstSeq == some f.seq then
    (s.setFaults fun fld => { fld with firstSeq := none }).wrB Reg.FIRST_FAULT 0 0 [] else s
  (s.wr Reg.FAULT_ACK 0 0 v).faultState

theorem exec_faultAck {u : State} {r : IzReq} {x : Obj × Nat × List (Nat × Bytes)} (htakes : s.takes r = true)
    (hwrites : writes r 0x1402 = true) (hadmit : s.admitReq r = .accepted u) (hcheck : u.checkWrite r = .ok x) :
    exec (.faultAck r) s = .next (((u.faultsAcked (uAt r.data 3 1) (uAt r.data 4 4)
      (Reg.FAULT_ACK.masked (uAt r.data 0 8))).respond (r.answer stOk)).keep s) := by
  have hexec : exec (.faultAck r) s = execFaultAck r s := rfl
  rw [hexec, execFaultAck, guarded_pos s ⟨htakes, hwrites⟩, hadmit]
  simp only [Admission.run, hcheck]
  rfl

theorem faultsAcked_spec (u : State) (mask upTo : Nat) (v : Int) :
    (u.faultsAcked mask upTo v).faults.logged = u.faults.logged.map (ackedBy mask upTo)
      ∧ (u.faultsAcked mask upTo v).faults.firstSeq
        = (if (u.faults.logged.map (ackedBy mask upTo)).any fun l => l.acked && u.faults.firstSeq == some l.seq then none
          else u.faults.firstSeq)
      ∧ (u.faultsAcked mask upTo v).faults.pending = u.faults.pending ∧ (u.faultsAcked mask upTo v).iz = u.iz := by
  have hiz (t : State) : t.faultState.iz = t.iz := by
    unfold State.faultState
    dsimp only
    split
    · rfl
    · rfl
  unfold State.faultsAcked
  dsimp only
  rw [faultState_faults, hiz]
  split
  · exact ⟨rfl, rfl, rfl, rfl⟩
  · exact ⟨rfl, rfl, rfl, rfl⟩

theorem ackedBy_spec (mask upTo : Nat) (f : LoggedFault) :
    (bit mask f.cls = true → serialLe f.seq upTo = true → (ackedBy mask upTo f).acked = true)
      ∧ ((ackedBy mask upTo f).seq, (ackedBy mask upTo f).cls, (ackedBy mask upTo f).severity, (ackedBy mask upTo f).injected)
        = (f.seq, f.cls, f.severity, f.injected)
      ∧ (bit mask f.cls = false ∨ serialLe f.seq upTo = false → ackedBy mask upTo f = f) := by
  unfold ackedBy
  split
  · next h =>
    rw [Bool.and_eq_true] at h
    refine ⟨fun _ _ => rfl, rfl, fun hnot => ?_⟩
    obtain hnot | hnot := hnot
    · exact absurd (h.1.symm.trans hnot) (by decide)
    · exact absurd (h.2.symm.trans hnot) (by decide)
  · next h =>
    exact ⟨fun hmask hseq => absurd (by rw [hmask, hseq]; rfl) h, rfl, fun _ => rfl⟩

/-- The state of FAULT_INJECT before its answer. -/
def State.injectArmed (u : State) (b : Bytes) : State :=
  let u' := u.setFaults fun fld => { fld with inject := some (⟨uAt b 0 2, uAt b 2 1, uAt b 3 1, injectUnit (uAt b 0 2), 0⟩, uAt b 4 1,
    if stampOf (slice b 6 10) ≤ u.now then (u.now / 16 + 1) * 16 else onGrid (stampOf (slice b 6 10))) }
  (u'.wrB Reg.FAULT_INJECT 0 0 (Reg.FAULT_INJECT.cleared b)).wr Reg.FAULT_INJECT_armed 0 0 1

theorem exec_faultInject {u : State} {r : IzReq} {x : Obj × Nat × List (Nat × Bytes)} (htakes : s.takes r = true)
    (hwrites : writes r 0x1410 = true) (hadmit : s.admitReq r = .accepted u) (hcheck : u.checkWrite r = .ok x)
    (hcat : (catalogueSeverity (uAt r.data 2 1) (uAt r.data 3 1)).isSome = true)
    (hsrc : sourceOf (uAt r.data 2 1) (uAt r.data 3 1) (uAt r.data 0 2) = true) (hlo : 1 ≤ uAt r.data 4 1)
    (hhi : uAt r.data 4 1 ≤ 4) (htime : time80Ok r.data 6 = true) :
    exec (.faultInject r) s = .next (((u.injectArmed r.data).respond (r.answer stOk)).keep s) := by
  have hfits : ((catalogueSeverity (uAt r.data 2 1) (uAt r.data 3 1)).isNone
      || !sourceOf (uAt r.data 2 1) (uAt r.data 3 1) (uAt r.data 0 2)
      || decide (uAt r.data 4 1 < 1 ∨ 4 < uAt r.data 4 1) || !time80Ok r.data 6) = false := by
    have hsev : decide (uAt r.data 4 1 < 1 ∨ 4 < uAt r.data 4 1) = false := decide_eq_false (by omega)
    rw [hsrc, htime, hsev, Option.isNone_eq_false_iff.mpr hcat]
    rfl
  have hexec : exec (.faultInject r) s = execFaultInject r s := rfl
  rw [hexec, execFaultInject, guarded_pos s ⟨htakes, hwrites⟩, hadmit]
  simp only [Admission.run, hcheck, hfits, Bool.false_eq_true, if_false]
  rfl

theorem exec_selfTestPassed {e : FenceElem} (hruns : s.runs = true) (hstate : s.rd Reg.FENCE_CTL_state 0 e.val = 2)
    (hwhen : s.reached (.selfTest e.val) = true ∨ (e.val = 36 ∧ true = true)) :
    ∃ b, exec (.selfTestDone e true) s
      = .next ((((s.disarm (.selfTest e.val)).unfence e.val).issue srcPower 0x0C02 b).keep s) :=
  ⟨_, guarded_pos s ⟨hruns, hstate, hwhen⟩⟩

theorem exec_selfTestFailed {e : FenceElem} (hruns : s.runs = true) (hstate : s.rd Reg.FENCE_CTL_state 0 e.val = 2)
    (hreached : s.reached (.selfTest e.val) = true) :
    ∃ b, exec (.selfTestDone e false) s
      = .next (((((s.disarm (.selfTest e.val)).wr Reg.FENCE_CTL_state 0 e.val 1).issue srcPower 0x0C02 b).raiseAs
        (Store.get ⟨0, 0, 0, 0, 0⟩ s.faults.fencedBy e.val) 0 false).keep s) :=
  ⟨_, guarded_pos s ⟨hruns, hstate, .inl hreached⟩⟩

/-- The signature rules run on what completed while the steward was down (Table 12.6). -/
def State.resumed (s : State) : State :=
  allPorts.foldl (fun s (p : Port) => s.signOwed p) (s.setFaults fun fld => { fld with stewardDown := false })

theorem resumed_signed (s : State) : (s.setFaults fun fld => { fld with stewardDown := false }).Signed s.resumed :=
  (State.Signed.refl _).foldl allPorts fun _ _ h => signOwed_signed h

/-- The check of the patch area reports, and changes else but what it found. -/
theorem patchCheck_spec (s : State) (c : PatchCheck) :
    (s.patchCheck c).regs = s.regs ∧ (s.patchCheck c).time = s.time
      ∧ (s.patchCheck c).faults.stewardDown = s.faults.stewardDown
      ∧ (s.patchCheck c).rst.patchPresent = (c.present && c.crcOk) := by
  unfold State.patchCheck
  dsimp only
  split
  · rw [State.raise_eq _ _ _ (by rfl : _ = some 2) (by rfl)]
    refine ⟨rfl, rfl, ?_, rfl⟩
    unfold State.reported
    split
    · rfl
    · rfl
  · exact ⟨rfl, rfl, rfl, rfl⟩

/-- The steward's restart once it is counted and reported. -/
def State.restartReported (s : State) (c : PatchCheck) : State :=
  let u := (s.resumed.patchCheck c).inc Reg.STEWARD_RESTARTS
  let v := u.wr Reg.STEWARD_last_restart 0 0 s.resumed.now
  v.issue srcPower 0x0C03 (be 1 v.faults.stewardCause ++ [0] ++ be 2 ((s.now - s.faults.stewardAt) / 1000000).toNat
    ++ be 4 v.faults.stewardSeq)

theorem restartReported_frame (s : State) (c : PatchCheck) : (s.restartReported c).time = (s.resumed.patchCheck c).time
    ∧ (s.restartReported c).faults = (s.resumed.patchCheck c).faults ∧ (s.restartReported c).rst = (s.resumed.patchCheck c).rst
    ∧ (s.restartReported c).regs = (((s.resumed.patchCheck c).inc Reg.STEWARD_RESTARTS).wr Reg.STEWARD_last_restart 0 0
      s.resumed.now).regs := by
  unfold State.restartReported
  dsimp only
  rw [State.issue_time, State.issue_faults, State.issue_rst, State.issue_regs, State.wr_time, State.wr_faults,
    State.wr_rst, State.inc_time, State.inc_faults, State.inc_rst]
  exact ⟨rfl, rfl, rfl, rfl⟩

theorem exec_stewardRestartDone (c : PatchCheck) (hruns : s.runs = true) (hdown : s.faults.stewardDown = true) :
    exec (.stewardRestartDone c) s
      = .next (((s.restartReported c).arm .watchdog ((s.restartReported c).now + 100000000)).keep s) := by
  have hexec : exec (.stewardRestartDone c) s = execStewardRestartDone c s := rfl
  rw [hexec, execStewardRestartDone, guarded_pos s ⟨hruns, hdown⟩]
  rfl

/-- A fault that is reported waits, and changes nothing else of what the collector holds. -/
theorem reported_spec (s : State) (src c k u d sev : Nat) : (s.reported src c k u d sev).retired = s.faults.retired
    ∧ (s.reported src c k u d sev).copying = s.faults.copying ∧ (s.reported src c k u d sev).lost = s.faults.lost := by
  unfold State.reported
  split
  · exact ⟨rfl, rfl, rfl⟩
  · exact ⟨rfl, rfl, rfl⟩

theorem reported_pending {s t : State} (htime : t.time = s.time) (hpending : t.faults.pending = s.faults.pending)
    (src c k u d sev : Nat) : (t.reported src c k u d sev).pending = (s.reported src c k u d sev).pending := by
  unfold State.reported State.faultNow
  rw [State.now_congr htime, htime]
  split
  · exact hpending
  · exact congrArg (· ++ _) hpending

/-- A port whose fence is cleared goes to DOWN, with its pre-distorter and its calibration to train in full (R499, R508). -/
def State.portReturned (s : State) (p : Port) : State :=
  (((s.wr Reg.FENCE_CTL_state 0 p.val 0).setPort p fun q => { q with dpd := { q.dpd with lineDriverCleared := true } }).setCal p
    fun q => { q with fenced := true }).ecClear p

theorem unfence_port (s : State) {e : Nat} (he : e = p.val) : s.unfence e = (s.portReturned p).toState p stDown 0 := by
  subst he
  unfold State.unfence
  dsimp only
  rw [dif_pos p.isLt]
  rfl

theorem portReturned_spec (s : State) (p : Port) : (s.portReturned p).rd Reg.FENCE_CTL_state 0 p.val = 0
    ∧ ((s.portReturned p).port p).dpd.lineDriverCleared = true ∧ ((s.portReturned p).port p).cal.fenced = true := by
  have hcleared := State.port_setPort_self (s.wr Reg.FENCE_CTL_state 0 p.val 0) p fun q =>
    { q with dpd := { q.dpd with lineDriverCleared := true } }
  have hfenced := State.port_setPort_self ((s.wr Reg.FENCE_CTL_state 0 p.val 0).setPort p fun q =>
    { q with dpd := { q.dpd with lineDriverCleared := true } }) p fun q => { q with cal := { q.cal with fenced := true } }
  rw [hcleared] at hfenced
  have hport : ∀ t : State, ((t.ecClear p).port p).dpd = (t.port p).dpd ∧ ((t.ecClear p).port p).cal = (t.port p).cal :=
    fun t => ⟨State.port_setPort_keeps PortState.dpd _ p _ (by exact fun _ => rfl) p,
      State.port_setPort_keeps PortState.cal _ p _ (by exact fun _ => rfl) p⟩
  have hclear (t : State) : (t.ecClear p).rd Reg.FENCE_CTL_state 0 p.val = t.rd Reg.FENCE_CTL_state 0 p.val := by
    unfold State.ecClear
    dsimp only
    rw [State.rd_setEc, State.rd_wr_other _ _ Obj.key_ne, State.rd_wr_other _ _ Obj.key_ne]
  have hwritten := State.rd_wr_self s Reg.FENCE_CTL_state 0 p.val 0
  refine ⟨(hclear _).trans hwritten, ?_, ?_⟩
  · exact (congrArg DpdState.lineDriverCleared (hport _).1).trans
      (congrArg (fun q : PortState => q.dpd.lineDriverCleared) hfenced)
  · exact (congrArg CalState.fenced (hport _).2).trans (congrArg (fun q : PortState => q.cal.fenced) hfenced)

/-- A page is retired no more: its words are no longer lost, nor its corrections remembered. -/
def State.pageForgotten (s : State) (page : Nat) : State :=
  s.setFaults fun fld => { fld with
    lost := s.faults.lost.filter fun x => x != page, corrected := Store.put [] s.faults.corrected page [] }

/-- A page that is retired: it is copied to a spare one. -/
def State.pageCopied (s : State) (page : Nat) : State :=
  let u := s.pageForgotten page
  let u := u.setFaults fun fld => { fld with retired := u.faults.retired ++ [page], copying := u.faults.copying ++ [page] }
  let u := (u.wr Reg.DRAM_PAGES_spares 0 0 (s.rdN Reg.DRAM_PAGES_spares - 1 : Nat)).wr Reg.DRAM_PAGES_RETIRED 0 0
    (u.rd Reg.DRAM_PAGES_RETIRED + 1)
  u.wrB Reg.DRAM_PAGES_list 0 0 (patch (u.rdB Reg.DRAM_PAGES_list) (2 * s.faults.retired.length) (be 2 page))

/-- What a page that is retired changes. -/
theorem pageCopied_spec (s : State) (page : Nat) :
    (s.pageCopied page).faults = { s.faults with
        lost := s.faults.lost.filter (fun x => x != page), corrected := Store.put [] s.faults.corrected page []
        retired := s.faults.retired ++ [page], copying := s.faults.copying ++ [page] }
      ∧ (s.pageCopied page).rd Reg.DRAM_PAGES_spares = (s.rdN Reg.DRAM_PAGES_spares - 1 : Nat)
      ∧ (s.pageCopied page).rd Reg.DRAM_PAGES_RETIRED = s.rd Reg.DRAM_PAGES_RETIRED + 1
      ∧ s.pageCopied page = { s with regs := (s.pageCopied page).regs, blobs := (s.pageCopied page).blobs
                                     faults := (s.pageCopied page).faults } := by
  refine ⟨rfl, ?_, ?_, rfl⟩
  · exact (State.rd_wr_other _ _ Obj.key_ne).trans (State.rd_wr_self ..)
  · exact State.rd_wr_self ..

theorem pageCopied_list (s : State) (page : Nat) : (s.pageCopied page).rdB Reg.DRAM_PAGES_list
    = patch (s.rdB Reg.DRAM_PAGES_list) (2 * s.faults.retired.length) (be 2 page) := by
  refine State.rdB_wrB_self _ _ _ _ _ ?_
  unfold patch
  simp [be]

/-- The state in which a page is retired: what it lost is lost. -/
def State.wordsLost (s : State) (page : Nat) (region : DramRegion) : State :=
  if s.faults.lost.contains page then s.regionLost page region else s

theorem exec_pageRetire {page : Nat} {region : DramRegion} (hruns : s.runs = true) (hslot : s.inSlot ownScrub = true)
    (hpage : page < 2048) (hretired : s.faults.retired.contains page = false) (hdue : s.pageDue page = true)
    (hconf : region ≠ .configuration ∨ s.faults.lost.contains page = false)
    (hspares : (s.wordsLost page region).rdN Reg.DRAM_PAGES_spares ≠ 0) :
    exec (.pageRetire page region) s = .next ((((s.wordsLost page region).pageCopied page).raise srcDram clsMemory 0x02 page
      (s.wordsLost page region).faults.retired.length).keep s) := by
  have hsev : (if s.faults.lost.contains page = true ∧ region = .configuration then svStation else 0) = 0 := by
    refine if_neg fun h => ?_
    obtain hregion | hlost := hconf
    · exact hregion h.2
    · exact absurd (h.1.symm.trans hlost) (by decide)
  have hdef : exec (.pageRetire page region) s = execPageRetire page region s := rfl
  rw [hdef, execPageRetire, guarded_pos s ⟨hruns, hslot, hpage, by rw [hretired]; rfl, hdue⟩]
  dsimp only
  rw [hsev]
  exact congrArg (fun t => Host.Outcome.next (State.keep t s)) (if_neg hspares)

/-- A page that is due, with no spare left (R498). -/
theorem exec_pageRetire_noSpare {page : Nat} {region : DramRegion} (hruns : s.runs = true) (hslot : s.inSlot ownScrub = true)
    (hpage : page < 2048) (hretired : s.faults.retired.contains page = false) (hdue : s.pageDue page = true)
    (hspares : (s.wordsLost page region).rdN Reg.DRAM_PAGES_spares = 0) :
    exec (.pageRetire page region) s = .next ((((s.wordsLost page region).pageForgotten page).raise srcDram clsMemory 0x03 page
      0).keep s) := by
  refine (guarded_pos s ⟨hruns, hslot, hpage, by rw [hretired]; rfl, hdue⟩).trans ?_
  exact congrArg (fun t => Host.Outcome.next (State.keep t s)) (if_pos hspares)

theorem pageRetire_spare {page : Nat} {region : DramRegion} (hruns : s.runs = true) (hslot : s.inSlot ownScrub = true)
    (hpage : page < 2048) (hretired : s.faults.retired.contains page = false) (hdue : s.pageDue page = true)
    (hlost : s.faults.lost.contains page = false) (hspares : 0 < s.rd Reg.DRAM_PAGES_spares) :
    Completes (.pageRetire page region) s fun t => t.faults.retired = s.faults.retired ++ [page]
      ∧ page ∈ t.faults.copying ∧ t.rd Reg.DRAM_PAGES_spares = s.rd Reg.DRAM_PAGES_spares - 1
      ∧ t.rd Reg.DRAM_PAGES_RETIRED = s.rd Reg.DRAM_PAGES_RETIRED + 1
      ∧ t.rdB Reg.DRAM_PAGES_list = patch (s.rdB Reg.DRAM_PAGES_list) (2 * s.faults.retired.length) (be 2 page)
      ∧ t.faults.pending = (s.reported srcDram clsMemory 0x02 page s.faults.retired.length 3).pending
      ∧ t = { s with regs := t.regs, blobs := t.blobs, faults := t.faults } := by
  have hwords : s.wordsLost page region = s := if_neg (by rw [hlost]; decide)
  have hspares' : s.rdN Reg.DRAM_PAGES_spares ≠ 0 := by
    unfold State.rdN
    omega
  have hexec := exec_pageRetire hruns hslot hpage hretired hdue (.inr hlost) (by rw [hwords]; exact hspares')
  rw [hwords] at hexec
  obtain ⟨hfaults, hleft, hcount, hrest⟩ := pageCopied_spec s page
  have hlist := pageCopied_list s page
  have hpending := reported_pending (s := s) (t := s.pageCopied page) rfl rfl srcDram clsMemory 0x02 page
    s.faults.retired.length 3
  obtain ⟨u, hu⟩ : ∃ u, u = s.pageCopied page := ⟨_, rfl⟩
  rw [← hu] at hexec hfaults hleft hcount hrest hlist hpending
  obtain ⟨hpages, hcopying, -⟩ := reported_spec u srcDram clsMemory 0x02 page s.faults.retired.length 3
  rw [hfaults] at hpages hcopying
  have hraise := State.raise_eq u page s.faults.retired.length
    (by rfl : catalogueSeverity clsMemory 0x02 = some 3) (by rfl : sourceOf clsMemory 0x02 srcDram = true)
  rw [hraise] at hexec
  refine ⟨_, hexec, hpages, ?_, hleft.trans ?_, hcount, hlist, hpending, ?_⟩
  · rw [State.keep_faults, hcopying]
    exact List.mem_append_right _ (List.mem_singleton_self page)
  · unfold State.rdN
    omega
  · exact congrArg (fun v : State => ({ v with faults := u.reported srcDram clsMemory 0x02 page s.faults.retired.length 3 }
      : State).keep s) hrest

theorem pageRetire_noSpare {page : Nat} {region : DramRegion} (hruns : s.runs = true) (hslot : s.inSlot ownScrub = true)
    (hpage : page < 2048) (hretired : s.faults.retired.contains page = false) (hdue : s.pageDue page = true)
    (hlost : s.faults.lost.contains page = false) (hspares : s.rd Reg.DRAM_PAGES_spares = 0) :
    Completes (.pageRetire page region) s fun t => t.faults.retired = s.faults.retired
      ∧ t.faults.pending = (s.reported srcDram clsMemory 0x03 page 0 4).pending ∧ t = { s with faults := t.faults } := by
  have hwords : s.wordsLost page region = s := if_neg (by rw [hlost]; decide)
  have hspares' : s.rdN Reg.DRAM_PAGES_spares = 0 := by
    unfold State.rdN
    rw [hspares]
    rfl
  have hexec := exec_pageRetire_noSpare hruns hslot hpage hretired hdue (by rw [hwords]; exact hspares')
  rw [hwords, State.raise_eq _ _ _ (by rfl : _ = some 4) (by rfl)] at hexec
  exact ⟨_, hexec, (reported_spec (s.pageForgotten page) ..).1,
    reported_pending (s := s) (t := s.pageForgotten page) rfl rfl .., rfl⟩

theorem dpd_of_keeping {q r : PortState} (h : q.keeping = r.keeping) : q.dpd = r.dpd :=
  congrArg Prod.fst h

theorem fenced_of_staying {q r : PortState} (h : q.staying = r.staying) : q.cal.fenced = r.cal.fenced :=
  congrArg Prod.snd h

theorem cell_congr {s t : State} (h : t.regs = s.regs) (p : Port) (i : Nat) : t.cell p i = s.cell p i :=
  congrArg Int.toNat (State.rd_congr h ..)

/-- What the loss of cells of the map leaves. -/
theorem regionLost_cellMap_frame (s : State) (page first count : Nat) (p : Port) :
    (s.regionLost page (.cellMap p first count)).faults = s.faults
      ∧ (s.regionLost page (.cellMap p first count)).rd Reg.DRAM_PAGES_spares = s.rd Reg.DRAM_PAGES_spares := by
  unfold State.regionLost
  refine ⟨foldl_keeps State.faults (fun t i => ?_) _ s, foldl_keeps (fun t => t.rd Reg.DRAM_PAGES_spares) (fun t i => ?_) _ s⟩
  · by_cases hi : i < 163840
    · rw [if_pos hi, State.wr_faults]
    · exact congrArg State.faults (if_neg hi)
  · by_cases hi : i < 163840
    · exact (congrArg (fun u : State => u.rd Reg.DRAM_PAGES_spares) (if_pos hi)).trans (State.rd_wr_other _ _ Obj.key_ne)
    · exact congrArg (fun u : State => u.rd Reg.DRAM_PAGES_spares) (if_neg hi)

theorem pageCopied_cell (s : State) (page : Nat) (p : Port) {i : Nat} (hi : i < 163840) :
    (s.pageCopied page).cell p i = s.cell p i :=
  congrArg Int.toNat ((State.rd_wr_other _ _ Obj.key_ne).trans (State.rd_wr_other _ _ Obj.key_ne))

theorem pageRetire_lost {page first count : Nat} (hruns : s.runs = true) (hslot : s.inSlot ownScrub = true)
    (hpage : page < 2048) (hretired : s.faults.retired.contains page = false) (hlost : s.faults.lost.contains page = true)
    (hspares : 0 < s.rd Reg.DRAM_PAGES_spares) :
    Completes (.pageRetire page (.cellMap p first count)) s fun t => t.faults.retired = s.faults.retired ++ [page]
      ∧ t.faults.lost.contains page = false
      ∧ ∀ i < first + count, first ≤ i → i < 163840 →
          bit (cellFlags (t.cell p i)) 6 = true ∧ bit (cellFlags (t.cell p i)) 7 = false := by
  obtain ⟨hfaults, hspares'⟩ := regionLost_cellMap_frame s page first count p
  have hwords : s.wordsLost page (.cellMap p first count) = s.regionLost page (.cellMap p first count) := if_pos hlost
  have hdue : s.pageDue page = true := by
    unfold State.pageDue
    rw [hlost]
    rfl
  have hleft : (s.wordsLost page (.cellMap p first count)).rdN Reg.DRAM_PAGES_spares ≠ 0 := by
    unfold State.rdN
    rw [hwords, hspares']
    omega
  have hexec := exec_pageRetire hruns hslot hpage hretired hdue
    (.inl (nofun : DramRegion.cellMap p first count ≠ .configuration)) hleft
  rw [hwords, hfaults] at hexec
  obtain ⟨hcopied, -⟩ := pageCopied_spec (s.regionLost page (.cellMap p first count)) page
  have hcell (i : Nat) (hi : i < 163840) := pageCopied_cell (s.regionLost page (.cellMap p first count)) page p hi
  obtain ⟨u, hu⟩ : ∃ u, u = (s.regionLost page (.cellMap p first count)).pageCopied page := ⟨_, rfl⟩
  rw [← hu] at hexec hcopied hcell
  obtain ⟨hpages, -, hlost'⟩ := reported_spec u srcDram clsMemory 0x02 page s.faults.retired.length 3
  rw [hcopied, hfaults] at hpages hlost'
  refine ⟨_, hexec, ?_, ?_, fun i hlast hfirst hi => ?_⟩
  · rw [State.keep_faults, State.raise_eq _ _ _ (by rfl : _ = some 3) (by rfl)]
    exact hpages
  · rw [State.keep_faults, State.raise_eq _ _ _ (by rfl : _ = some 3) (by rfl)]
    refine (congrArg (List.contains · page) hlost').trans ?_
    simp
  · rw [cell_congr (State.keep_regs ..), cell_congr (State.raise_regs ..), hcell i hi]
    exact regionLost_cellMap s page first count hi hfirst hlast

/-- Settles O49: the collector's decisions, the steward, the pages, the injection and the fences, command by command. -/
theorem faultsStewardAndFencesComplete : Obligations.FaultsStewardAndFencesComplete := by
  unfold Obligations.FaultsStewardAndFencesComplete
  refine ⟨?raise, ?notice, ?fenceLine, ?fenceEngine, ?reset, ?ack, ?watchdog, ?restart, ?sram, ?dram, ?retire, ?noSpare,
    ?lostPage, ?copied, ?inject, ?fire, ?clear, ?engineDone, ?portDone, ?hamperDone, ?failed⟩
  case raise =>
    intro s f c hlive hcat hsrc
    have hsome : (catalogueSeverity f.cls f.code).isSome = true := by
      rw [hcat]
      rfl
    obtain ⟨hfaults, hrest⟩ := faultRaise_spec (s := s) f hcat hsrc
    have hlost := congrArg FaultState.lost hfaults
    refine ⟨_, guarded_pos s ⟨hlive, hsome, hsrc⟩, ?_, hlost, fun hcls => congrArg (State.keep · s) (hrest hcls)⟩
    rw [State.keep_faults, hfaults]
  case notice =>
    intro s f hlive hpending hinj hsev hdue hinject hlogged hhead howed
    obtain ⟨u, j, flags, reaction, hu, hj, hexec⟩ :=
      exec_noticeDecision hlive hpending hinj hsev hdue hinject hlogged
    obtain ⟨hnone, hnext, hlast, hcrossing, hports, hpower⟩ :=
      enterFault_spec u true j (j.record flags s.nextSeq reaction)
    obtain ⟨hnewest, hrole⟩ := enterFault_rd u true j (j.record flags s.nextSeq reaction)
    obtain ⟨v, hv⟩ : ∃ v, v = u.enterFault true j (j.record flags s.nextSeq reaction) := ⟨_, rfl⟩
    rw [← hv] at hexec hnone hnext hlast hcrossing hports hpower hnewest hrole
    have hmember : v.isHead = false := by
      rw [← hhead]
      unfold State.isHead
      rw [hrole, hu]
      rfl
    have howed' : v.power.wakeOwed = false := by
      rw [hpower, hu]
      exact howed
    obtain ⟨hfaults, hmerge, hpower'⟩ := cycleEnd_member hmember howed'
    rw [← hfaults, hu] at hnone hnext hlast
    rw [← hmerge, hu] at hcrossing
    rw [← hpower', hu] at hpower
    rw [← cycleEnd_ports, hu] at hports
    rw [hu] at hnewest
    have hpayload := record_head j flags s.nextSeq reaction
    have hone : be 1 svNotice = [1] := by decide
    rw [hj] at hlast hcrossing hpayload
    dsimp only at hpayload
    rw [hone] at hpayload
    exact ⟨_, hexec, hnone, hnext, (cycleEnd_rd _ Obj.key_ne Obj.key_ne).trans hnewest, hlast,
      ⟨_, hcrossing, rfl, rfl, rfl, hpayload⟩, hports, hpower⟩
  case fenceLine =>
    intro s f p hlive hpending hinj hsev hsource hcls hdue hinject hlogged
    obtain ⟨t, hexec⟩ := exec_fenceDecision hlive hpending hinj hsev hdue hinject (by rw [hcls]; exact hlogged)
    have haction := fenceAction_line (s := t) hsource s.nextSeq
    obtain ⟨hfenced, hstamp, hnumber⟩ := fenceElem_reads (t.fencePort p) (e := p.val) (by omega) f s.nextSeq
    rw [haction] at hexec
    refine ⟨_, hexec, ?_, ?_, ?_, ?_⟩
    · exact (cycleEnd_rd _ Obj.key_ne Obj.key_ne).trans ((fenceElem_portState _ (by omega) f s.nextSeq p).trans
        (fencePort_portState t p))
    · exact (cycleEnd_rd _ Obj.key_ne Obj.key_ne).trans hfenced
    · exact (cycleEnd_rd _ Obj.key_ne Obj.key_ne).trans hstamp
    · exact (cycleEnd_rd _ Obj.key_ne Obj.key_ne).trans hnumber
  case fenceEngine =>
    intro s f k hlive hpending hinj hsev hsource hcls hdue hinject hlogged
    obtain ⟨t, hexec⟩ := exec_fenceDecision hlive hpending hinj hsev hdue hinject (by rw [hcls]; exact hlogged)
    have haction := fenceAction_engine (s := t) hsource s.nextSeq
    obtain ⟨hfenced, hstamp, hnumber⟩ := fenceElem_reads (t.fenceEngine k) (e := 32 + k.val) (by omega) f s.nextSeq
    rw [haction] at hexec
    refine ⟨_, hexec, ?_⟩
    simp only [State.rd_keep, State.port_keep, Option.getD_some]
    refine ⟨?_, ?_, ?_, fun p => ?_⟩
    · exact (cycleEnd_rd _ Obj.key_ne Obj.key_ne).trans hfenced
    · exact (cycleEnd_rd _ Obj.key_ne Obj.key_ne).trans hstamp
    · exact (cycleEnd_rd _ Obj.key_ne Obj.key_ne).trans hnumber
    · have hport := State.port_congr ((cycleEnd_ports ((t.fenceEngine k).fenceElem (32 + k.val) f s.nextSeq)).trans
        (fenceElem_ports ..)) p
      exact (congrArg (fun q : PortState => q.sound.engine ≠ some k) hport).mpr (fenceEngine_serves t k p)
  case reset =>
    intro s f acked hlive hreset hwhen
    have hwhen' : (acked = true ∧ (!s.recordWaits f) = true) ∨ s.reached .faultReset = true :=
      hwhen.imp_left fun h => ⟨h.1, by rw [h.2]; rfl⟩
    unfold Completes
    dsimp only [exec, execFaultReset]
    rw [hreset]
    exact ⟨_, guarded_pos s ⟨hlive, hwhen'⟩, rfl, rfl, rfl, rfl, rfl, rfl⟩
  case ack =>
    intro s u r x htakes hwrites hadmit hcheck
    have hfaults := accepted_faults hadmit
    obtain ⟨hlogged, hfirst, hpending, hiz⟩ :=
      faultsAcked_spec u (uAt r.data 3 1) (uAt r.data 4 4) (Reg.FAULT_ACK.masked (uAt r.data 0 8))
    obtain ⟨y, hy, hstatus, -, -, -, -, htag⟩ := answer_sends (s := u.faultsAcked (uAt r.data 3 1) (uAt r.data 4 4)
      (Reg.FAULT_ACK.masked (uAt r.data 0 8))) (r := r) (status := stOk) (data := []) (ext := [])
      fun k hk => (congrArg (fun z : IzState => (z.sessions.get k).phase ≠ 0) hiz).mpr ((accepts hadmit).phase k hk)
    refine ⟨_, exec_faultAck htakes hwrites hadmit hcheck, ?_⟩
    simp only [State.keep_faults, State.respond_faults, hlogged, hfirst, hpending, hfaults, true_and, List.map_map]
    refine ⟨fun l hl => ?_, ?_, fun l hl hnot => ?_, ⟨y, hy, hstatus, htag⟩⟩
    · obtain ⟨f, -, rfl⟩ := List.mem_map.mp hl
      obtain ⟨hacked, hkept, -⟩ := ackedBy_spec (uAt r.data 3 1) (uAt r.data 4 4) f
      simp only [Prod.mk.injEq] at hkept
      rw [hkept.1, hkept.2.1]
      exact hacked
    · exact List.map_congr_left fun f _ => (ackedBy_spec _ _ f).2.1
    · have hsame := (ackedBy_spec (uAt r.data 3 1) (uAt r.data 4 4) l).2.2 hnot
      exact List.mem_map.mpr ⟨l, hl, hsame⟩
  case watchdog =>
    intro s hruns hpassed
    refine ⟨_, guarded_pos s ⟨hruns, hpassed⟩, ?_, ?_, ?_⟩
    · rw [State.raise_eq _ _ _ (by rfl : _ = some 3) (by rfl)]
      exact State.deadline_disarm_self ..
    · exact State.raise_reported _ _ (by rfl) (by rfl) rfl rfl rfl
    · rw [State.raise_eq _ _ _ (by rfl : _ = some 3) (by rfl)]
      rfl
  case restart =>
    intro s c hruns hdown
    obtain ⟨hregs, htime, hup, hpatch⟩ := patchCheck_spec s.resumed c
    have hsigned := resumed_signed s
    have hresumed : s.resumed.time = s.time ∧ s.resumed.faults.stewardDown = false := by
      rw [hsigned.rest]
      exact ⟨rfl, rfl⟩
    have hcount : ((s.resumed.patchCheck c).inc Reg.STEWARD_RESTARTS).rd Reg.STEWARD_RESTARTS
        = (s.rd Reg.STEWARD_RESTARTS + 1) % 18446744073709551616 := by
      rw [State.rd_inc_self, State.rd_congr hregs, hsigned.rd Reg.STEWARD_RESTARTS (by decide) (by decide) (by decide) (by decide)]
      rfl
    have hstamp := State.rd_wr_self ((s.resumed.patchCheck c).inc Reg.STEWARD_RESTARTS) Reg.STEWARD_last_restart 0 0
      s.resumed.now
    obtain ⟨htime', hfaults, hrst, hregs'⟩ := restartReported_frame s c
    have hnow' : (s.restartReported c).now = s.now := State.now_congr (htime'.trans (htime.trans hresumed.1))
    have hdeadline := State.deadline_arm_self (s.restartReported c) .watchdog ((s.restartReported c).now + 100000000)
    have hnumber : (s.restartReported c).rd Reg.STEWARD_RESTARTS
        = ((s.resumed.patchCheck c).inc Reg.STEWARD_RESTARTS).rd Reg.STEWARD_RESTARTS :=
      (State.rd_congr hregs' ..).trans (State.rd_wr_other _ _ Obj.key_ne)
    refine ⟨_, exec_stewardRestartDone c hruns hdown, ?_, ?_, ?_, ?_, ?_⟩
    · rw [State.keep_faults, State.arm_faults, hfaults, hup, hresumed.2]
    · rw [State.keep_rst, State.arm_rst, hrst, hpatch]
    · rw [State.rd_keep, State.rd_arm, hnumber, hcount]
    · rw [State.rd_keep, State.rd_arm, State.rd_congr hregs']
      exact hstamp.trans (State.now_congr hresumed.1)
    · rw [State.deadline_keep, hdeadline, hnow']
  case sram =>
    intro s hruns
    exact ⟨_, guarded_pos s hruns, rfl, State.rd_inc_self ..⟩
  case dram =>
    intro s n hruns
    refine ⟨_, guarded_pos s hruns, ?_, State.rd_inc_self .., rfl⟩
    have hput := Store.get_put_same ([] : List Stamp) s.faults.corrected n
      (s.now :: (Store.get [] s.faults.corrected n).filter fun t => decide (s.now - t ≤ dayNs))
    exact (congrArg (s.now ∈ ·) hput).mpr (List.mem_cons_self ..)
  case retire => exact fun s page region => pageRetire_spare
  case noSpare => exact fun s page region => pageRetire_noSpare
  case lostPage => exact fun s page first count p => pageRetire_lost
  case copied =>
    intro s page hruns hslot hcopying
    refine ⟨_, guarded_pos s ⟨hruns, hslot, hcopying⟩, ?_, rfl, rfl⟩
    simp
  case inject =>
    intro s u r x htakes hwrites hadmit hcheck hcat hsrc hlo hhi htime
    have hnow : u.now = s.now := (accepts hadmit).undisturbed.now
    obtain ⟨y, hy, hstatus, -⟩ := answer_sends (s := u.injectArmed r.data) (r := r) (status := stOk) (data := []) (ext := [])
      (accepts hadmit).phase
    refine ⟨_, exec_faultInject htakes hwrites hadmit hcheck hcat hsrc hlo hhi htime, ?_, ?_, y, hy, hstatus⟩
    · rw [State.rd_keep, State.rd_respond_apart _ _ (by decide) (by decide) (by decide)]
      exact State.rd_wr_self ..
    · rw [State.keep_faults, State.respond_faults]
      exact ⟨_, _, rfl, rfl, rfl, rfl, by rw [hnow]⟩
  case fire =>
    intro s f sev w hlive hinject hw
    unfold Completes
    dsimp only [exec, execFaultInjectFire]
    rw [hinject]
    refine ⟨_, guarded_pos s ⟨hlive, hw⟩, rfl, ?_, rfl, ?_, rfl⟩
    · exact (State.rd_inc_other _ _ Obj.key_ne).trans (State.rd_wr_self ..)
    · refine (State.rd_inc_self ..).trans (congrArg (fun v : Int => (v + 1) % 18446744073709551616) ?_)
      exact State.rd_wr_other _ _ Obj.key_ne
  case clear =>
    intro s e hruns hclear hstate
    refine ⟨_, guarded_pos s ⟨hruns, hclear, hstate⟩, ?_, ?_, State.deadline_arm_self .., rfl⟩
    · rw [State.rd_keep, State.rd_arm, State.rd_wr_self]
    · rw [State.rd_keep, State.rd_arm, State.rd_wr_other _ _ Obj.key_ne, State.rd_wr_self]
  case engineDone =>
    intro s e hruns hstate hlo hhi hreached
    obtain ⟨b, hexec⟩ := exec_selfTestPassed hruns hstate (.inl hreached)
    have hunfence : (s.disarm (.selfTest e.val)).unfence e.val = (s.disarm (.selfTest e.val)).wr Reg.FENCE_CTL_state 0 e.val 0 :=
      (dif_neg (by omega)).trans (if_pos hhi)
    rw [hunfence] at hexec
    have hcleared := State.rd_wr_self (s.disarm (.selfTest e.val)) Reg.FENCE_CTL_state 0 e.val 0
    exact ⟨_, hexec, hcleared, rfl, State.deadline_disarm_self ..⟩
  case portDone =>
    intro s e p hruns hstate hport hreached
    obtain ⟨b, hexec⟩ := exec_selfTestPassed hruns hstate (.inl hreached)
    rw [unfence_port _ hport, hport] at hexec
    obtain ⟨hclear, hcleared, hfenced⟩ := portReturned_spec (s.disarm (.selfTest p.val)) p
    obtain ⟨u, hu⟩ : ∃ u, u = (s.disarm (.selfTest p.val)).portReturned p := ⟨_, rfl⟩
    rw [← hu] at hexec hclear hcleared hfenced
    have hwindowed := State.toState_windowed (p := p) (new := stDown) (cause := 0) (.refl u)
    have hdpd := dpd_of_keeping (hwindowed.keeping p)
    have hcal := fenced_of_staying (toState_staying u p p (new := stDown) (by decide) 0)
    refine ⟨_, hexec, ?_⟩
    simp only [hport, State.portState_keep, State.rd_keep, State.port_keep, State.portState_congr (State.issue_regs ..),
      State.rd_congr (State.issue_regs ..), State.port_congr (State.issue_ports ..), State.portState_toState, true_and]
    exact ⟨(hwindowed.rd Reg.FENCE_CTL_state).trans hclear, (congrArg DpdState.lineDriverCleared hdpd).trans hcleared, hcal.trans hfenced⟩
  case hamperDone =>
    intro s e hruns hstate helem
    obtain ⟨b, hexec⟩ := exec_selfTestPassed hruns hstate (.inr ⟨helem, rfl⟩)
    have hunfence : (s.disarm (.selfTest e.val)).unfence e.val
        = ((((s.disarm (.selfTest e.val)).wr Reg.FENCE_CTL_state 0 e.val 0).hmpTo hmpWaiting).arm .hmpPoll s.now).arm
          .laneSilent (s.now + 10000000000) :=
      (dif_neg (show ¬e.val < 32 by omega)).trans (if_neg (show ¬e.val < 36 by omega))
    have hdeadline := State.deadline_arm_self ((((s.disarm (.selfTest e.val)).wr Reg.FENCE_CTL_state 0 e.val 0).hmpTo
      hmpWaiting).arm .hmpPoll s.now) .laneSilent (s.now + 10000000000)
    rw [hunfence] at hexec
    refine ⟨_, hexec, ?_, ?_, hdeadline, ?_⟩
    · exact State.rd_hmpTo_self _ hmpWaiting
    · exact (State.rd_hmpTo_other _ hmpWaiting Obj.key_ne).trans (State.rd_wr_self ..)
    · exact State.hmpTo_keeps _ State.ports hmpWaiting rfl fun _ _ => rfl
  case failed =>
    intro s e f c hruns hstate hreached hf hcat hsrc
    obtain ⟨b, hexec⟩ := exec_selfTestFailed hruns hstate hreached
    subst hf
    have hraise := State.raise_eq (((s.disarm (.selfTest e.val)).wr Reg.FENCE_CTL_state 0 e.val 1).issue srcPower 0x0C02 b)
      (Store.get ⟨0, 0, 0, 0, 0⟩ s.faults.fencedBy e.val).unit (Store.get ⟨0, 0, 0, 0, 0⟩ s.faults.fencedBy e.val).detail hcat hsrc
    rw [State.raise] at hraise
    rw [hraise] at hexec
    have hfenced := State.rd_wr_self (s.disarm (.selfTest e.val)) Reg.FENCE_CTL_state 0 e.val 1
    exact ⟨_, hexec, hfenced, rfl, State.deadline_disarm_self .., rfl⟩

end Sys2Proof.Machine
end

section
/-! What a change of a port's state leaves, field by field, and the states of a line port (R206 to R214). -/

namespace Sys2Proof.Machine

set_option Elab.async false

variable {s t : State} {p : Port}

/-! ### The objects that a change of state writes -/

/-- The objects written where a port gives back its engine, its queues and its requests. -/
def releaseObjects : List Obj :=
  [Reg.LR_STATUS_engine, Reg.QUEUE_FLUSHED, Reg.QUEUE_deficit, Reg.PF_PORT_CREDIT_STALLS]

/-- The objects written where a port leaves a state and begins another. -/
def leavingObjects : List Obj :=
  Reg.LP_CAL_CTL_full :: Reg.LP_CAL_phase :: Reg.LP_CAL_postponements :: Reg.LP_EC_state :: Reg.LP_EQ_state :: releaseObjects

theorem State.ReadsBut.foldl {α : Type} {l : List Obj} {f : State → α → State} (xs : List α)
    (hf : ∀ t : State, ∀ x ∈ xs, t.ReadsBut l (f t x)) (s : State) : s.ReadsBut l (xs.foldl f s) :=
  List.foldlRecOn (motive := s.ReadsBut l) xs f (.refl s) fun t ht x hx => ht.trans (hf t x hx)

theorem State.ReadsBut.ite {l : List Obj} {c : Prop} [Decidable c] {u : State} (ht : s.ReadsBut l t) (hu : s.ReadsBut l u) :
    s.ReadsBut l (if c then t else u) := by
  split
  · exact ht
  · exact hu

theorem answerProxy_reads (s : State) (p : Port) (x : Proxy) (status : Nat) (data : Bytes) :
    s.ReadsBut releaseObjects (s.answerProxy p x status data) := fun _ _ _ h hi hj =>
  s.rd_respond_apart _ (List.all_eq_true.mp h _ (by decide)) hi hj

theorem failProxies_reads (s : State) (p : Port) (sel : Nat → Bool) : s.ReadsBut releaseObjects (s.failProxies p sel) := by
  unfold State.failProxies
  refine .trans ?_ (.foldl _ (fun t x _ => answerProxy_reads _ _ _ _ _) _)
  refine .trans ?_ (.foldl _ (fun t o _ => answerProxy_reads (t.disarm _) _ _ _ _) _)
  exact .of_regs (State.setPort_regs ..)

theorem flushQueue_reads (s : State) {q : Nat} (hq : q < 1048576) : s.ReadsBut releaseObjects (s.flushQueue q) := by
  have hdrops : s.ReadsBut releaseObjects ((s.queue q).foldl (fun t f => t.downDrop f.flow) s) :=
    .foldl _ (fun t f _ => .of_regs (State.downDrop_regs ..)) s
  have hempty (t : State) : t.ReadsBut releaseObjects (t.setQueue q []) :=
    (State.ReadsBut.of_regs (State.setQm_regs ..)).wr 0 (by decide) (by decide) hq
  unfold State.flushQueue
  exact ((hdrops.trans (hempty _)).then_regs (State.freeBuffers_regs ..)).inc _ (by decide) (by decide) hq

theorem flushPort_reads (s : State) (p : Port) : s.ReadsBut releaseObjects (s.flushPort p) := by
  unfold State.flushPort
  refine .foldl _ (fun t i hi => .ite (.refl t) (flushQueue_reads t (q := p.val * 128 + i) ?_)) s
  have hi := List.mem_range.mp hi
  omega

theorem freeEngine_reads (s : State) (p : Port) : s.ReadsBut releaseObjects (s.freeEngine p) :=
  .ite (.refl s) ((State.ReadsBut.of_regs (State.setSound_regs ..)).wr _ (by decide) p.isLt (by decide))

theorem leaveQuiet_reads (s : State) (p : Port) : s.ReadsBut leavingObjects (s.leaveQuiet p) := by
  unfold State.leaveQuiet
  refine .trans (.then_regs ?_ (State.setEc_regs ..)) (.foldl _ (fun t a ha => .then_regs ?_ (State.setEq_regs ..)) _)
  · exact .ite (.wr (.refl s) _ (by decide) p.isLt (by decide)) (.refl s)
  · have ha := (mem_registered _ ha).1
    exact .ite (.wr (.refl t) _ (by decide) p.isLt (by omega)) (.refl t)

/-- What a port that leaves a state writes besides what its QUIET ends. -/
theorem leaving_releases (s : State) (p : Port) (old new : Int) :
    (if old = stQuiet ∧ new ≠ stQuiet then s.leaveQuiet p else s).ReadsBut releaseObjects (s.leaving p old new) := by
  unfold State.leaving
  refine .then_regs ?_ rfl
  refine .trans ?_ (.ite (.of_regs (State.setCal_regs ..)) (.refl _))
  refine .trans ?_ (.ite (.refl _) (.of_regs (State.setPort_regs ..)))
  refine .trans ?_ (.ite (.refl _) (freeEngine_reads _ _))
  refine .trans ?_ (.ite (flushPort_reads _ _) (.refl _))
  exact .ite (failProxies_reads _ _ _) (.refl _)

theorem leaving_reads (s : State) (p : Port) (old new : Int) : s.ReadsBut leavingObjects (s.leaving p old new) :=
  .trans (.ite (leaveQuiet_reads _ _) (.refl _)) ((leaving_releases s p old new).mono (List.subset_append_right
    [Reg.LP_CAL_CTL_full, Reg.LP_CAL_phase, Reg.LP_CAL_postponements, Reg.LP_EC_state, Reg.LP_EQ_state] releaseObjects))

theorem entering_reads (s : State) (p : Port) (old new : Int) : s.ReadsBut leavingObjects (s.entering p old new) := by
  unfold State.entering
  refine .ite (.of_regs rfl) (.ite (.then_regs ?_ (State.setCal_regs ..)) (.ite (.of_regs rfl) (.ite (.of_regs rfl)
    (.ite (.of_regs rfl) (.refl s)))))
  exact (((State.ReadsBut.refl s).wr _ (by decide) p.isLt (by decide)).wr _ (by decide) p.isLt (by decide)).wr _ (by decide)
    p.isLt (by decide)

/-- What a port's change of state writes of its state: the new one, stamped (R207). -/
theorem toState_stamp (s : State) (p : Port) (new : Int) (cause : Nat) :
    (s.toState p new cause).rd Reg.LP_STATE_stamp p = s.now := by
  unfold State.toState
  exact ((entering_reads _ _ _ _).rd (by decide) p.isLt (by decide)).trans (((leaving_reads _ _ _ _).rd (by decide) p.isLt
    (by decide)).trans (State.rd_wr_self ..))

/-- Every object but those of a change of state reads as before. -/
theorem rd_toState (s : State) (p : Port) (new : Int) (cause : Nat) {q : Obj} {i j : Nat}
    (h : (Reg.LP_STATE_state :: Reg.LP_STATE_stamp :: leavingObjects).all q.apart = true := by decide)
    (hi : i < 32 := by omega) (hj : j < 1048576 := by omega) : (s.toState p new cause).rd q i j = s.rd q i j := by
  rw [List.all_cons, List.all_cons, Bool.and_eq_true, Bool.and_eq_true] at h
  obtain ⟨hstate, hstamp, hrest⟩ := h
  unfold State.toState
  refine ((entering_reads _ _ _ _).rd hrest hi hj).trans (((leaving_reads _ _ _ _).rd hrest hi hj).trans ?_)
  exact (State.rd_wr_other _ _ (Obj.key_ne hstamp hi hj p.isLt (by decide))).trans
    (State.rd_wr_other _ _ (Obj.key_ne hstate hi hj p.isLt (by decide)))

/-- A port that does not leave QUIET or SERVICE, and goes to DISCOVER or SERVICE, ends its listening and its checks. -/
theorem leaving_ahead (s : State) (p : Port) {old new : Int} (hold : old ≠ stQuiet) (hservice : old ≠ stService)
    (hnew : new = stDiscover ∨ new = stService) :
    s.leaving p old new = ((s.disarm (.listen p.val)).disarm (.discover p.val)).disarm (.check p.val) := by
  unfold State.leaving
  dsimp only
  rw [if_neg (fun h => hold h.1 : ¬(old = stQuiet ∧ new ≠ stQuiet)),
    if_neg (fun h => hservice h.1 : ¬(old = stService ∧ new ≠ stService))]
  obtain rfl | rfl := hnew
  · rfl
  · rfl

/-! ### The queues of a port (R360) -/

theorem queue_congr {s t : State} (h : t.qm = s.qm) (i : Nat) : t.queue i = s.queue i :=
  congrArg (fun q : QmState => Store.get [] q.queues i) h

theorem downDrop_queue (s : State) (f i : Nat) : (s.downDrop f).queue i = s.queue i := by
  unfold State.downDrop State.bumpFlow State.setFlowState
  split
  · rfl
  · rfl

theorem flushQueue_queue (s : State) (q i : Nat) (h : i = q ∨ s.queue i = []) : (s.flushQueue q).queue i = [] := by
  have hdrops : ((s.queue q).foldl (fun t f => t.downDrop f.flow) s).queue i = s.queue i :=
    foldl_keeps (fun t => t.queue i) (fun t (f : QFrame) => downDrop_queue t f.flow i) _ s
  have hset (t : State) : (((t.setQueue q []).freeBuffers (s.queue q).length).inc Reg.QUEUE_FLUSHED 0 q
      (s.queue q).length).queue i = Store.get [] (Store.put [] t.qm.queues q []) i := rfl
  unfold State.flushQueue
  refine (hset _).trans ?_
  by_cases hi : i = q
  · subst hi
    exact Store.get_put_same ..
  · exact (Store.get_put_other _ _ _ hi).trans (hdrops.trans (h.resolve_left hi))

/-- The queues of a port that is flushed are empty. -/
theorem flushPort_queue (s : State) (p : Port) {i : Nat} (hi : i < 128) : (s.flushPort p).queue (p.val * 128 + i) = [] := by
  unfold State.flushPort
  refine foldl_establishes (P := fun t => t.queue (p.val * 128 + i) = []) (a := i) _ (.inl (List.mem_range.mpr hi))
    (fun t => ?_) fun t j ht => ?_
  · split
    · next h => exact h
    · exact flushQueue_queue _ _ _ (.inl rfl)
  · split
    · exact ht
    · exact flushQueue_queue _ _ _ (.inr ht)

theorem leaving_queue (s : State) (p : Port) (old : Int) {i : Nat} (hi : i < 128) :
    (s.leaving p old stDown).queue (p.val * 128 + i) = [] := by
  unfold State.leaving
  extract_lets t₁ t₂ t₃ t₄ t₅ t₆
  have hflushed : t₃.queue (p.val * 128 + i) = [] := by
    unfold t₃
    rw [if_pos (.inl rfl)]
    exact flushPort_queue t₂ p hi
  have hengine : t₄.qm = t₃.qm := by
    unfold t₄
    rw [if_neg (by decide)]
    exact State.freeEngine_qm ..
  have hrest : t₆.qm = t₄.qm := by
    unfold t₆ t₅
    rw [if_pos (.inl rfl), if_neg (by decide), State.setCal_qm, State.setPort_qm]
  have hdisarm (u : State) (a b c : Timer) : (((u.disarm a).disarm b).disarm c).queue = u.queue := rfl
  rw [hdisarm]
  exact (queue_congr (hrest.trans hengine) _).trans hflushed

theorem toState_queue (s : State) (p : Port) (cause : Nat) {i : Nat} (hi : i < 128) :
    (s.toState p stDown cause).queue (p.val * 128 + i) = [] := by
  unfold State.toState
  exact leaving_queue _ _ _ hi

/-! ### The end of a commit -/

/-- A port but for the instant at which its itinerary was armed. -/
def PortState.unarmed (q : PortState) : PortState := { q with armedAt := none }

/-- The objects that the end of a commit writes (R49). -/
def commitObjects : List Obj := [Reg.COMMIT_STAMP, Reg.COMMIT_STATUS_applied, Reg.COMMIT_STATUS_state]

/-- The end of a commit stamps it and fixes D where it arms an itinerary; it does nothing else (R49, R330). -/
theorem commitDone_spec (s : State) : s.ReadsBut commitObjects s.commitDone
    ∧ (∀ q, (s.commitDone.port q).unarmed = (s.port q).unarmed) ∧ s.commitDone.merge = s.merge
    ∧ s.commitDone.qm = s.qm ∧ s.commitDone.out = s.out := by
  unfold State.commitDone
  split
  · exact ⟨.refl s, fun _ => rfl, rfl, rfl, rfl⟩
  · split
    · exact ⟨.refl s, fun _ => rfl, rfl, rfl, rfl⟩
    · next x _ _ =>
      have hwritten : s.ReadsBut commitObjects ((((s.setIz fun fld => { fld with active := none }).wr Reg.COMMIT_STAMP 0 0
          s.now).wr Reg.COMMIT_STATUS_applied 0 0 x.values.length).afterCommit 4) :=
        (((State.ReadsBut.of_regs (State.setIz_regs ..)).wr _ (by decide) (by decide) (by decide)).wr _ (by decide)
          (by decide) (by decide)).wr _ (by decide) (by decide) (by decide)
      have harmed (t : State) (a : Port) (q : Port) :
          ((t.setPort a fun q => { q with armedAt := some t.now }).port q).unarmed = (t.port q).unarmed :=
        State.port_setPort_keeps PortState.unarmed t a _ (by exact fun _ => rfl) q
      refine ⟨hwritten.trans (.foldl _ (fun t a _ => .of_regs (State.setPort_regs ..)) _), fun q => ?_, ?_, ?_, ?_⟩
      · exact foldl_keeps (fun t => (t.port q).unarmed) (fun t a => harmed t a q) _ _
      · exact foldl_keeps State.merge (by exact fun _ _ => rfl) _ _
      · exact foldl_keeps State.qm (by exact fun _ _ => rfl) _ _
      · exact foldl_keeps State.out (by exact fun _ _ => rfl) _ _

theorem commitDone_portState (s : State) (p : Port) : s.commitDone.portState p = s.portState p :=
  (commitDone_spec s).1.rd (by decide) p.isLt (by decide)

/-! ### What QUIET deferred (R242) -/

/-- A port's own part: what is not its stations'. -/
def PortState.central (q : PortState) : PortState := { q with elems := [], ctl := [] }

theorem afterQuiet_spec (s : State) (p : Port) {a : Nat} (ha : a < 1048576) :
    s.ReadsBut [Reg.LP_STATION_state] (s.afterQuiet p a) ∧ ((s.afterQuiet p a).port p).central = (s.port p).central := by
  have hctl (t : State) (f : CtlFrame) : ((t.queueCtl p f).port p).central = (t.port p).central :=
    (congrArg PortState.central (State.port_setPort_self ..)).trans rfl
  unfold State.afterQuiet
  extract_lets e power t₁ t₂
  have h₁ : t₁.regs = s.regs ∧ (t₁.port p).central = (s.port p).central := by
    unfold t₁
    split
    · exact ⟨rfl, hctl ..⟩
    · exact ⟨rfl, rfl⟩
  have h₂ : t₁.ReadsBut [Reg.LP_STATION_state] t₂ ∧ (t₂.port p).central = (t₁.port p).central := by
    unfold t₂
    split
    · exact ⟨.wr (.refl _) _ (by decide) p.isLt ha, rfl⟩
    · exact ⟨.refl _, rfl⟩
  refine ⟨((State.ReadsBut.of_regs h₁.1).trans h₂.1).then_regs (State.setElem_regs ..), Eq.trans ?_ (h₂.2.trans h₁.2)⟩
  exact (congrArg PortState.central (State.port_setPort_self ..)).trans rfl

theorem foldl_afterQuiet_spec (s : State) (p : Port) {f : State → Nat → State} (l : List Nat) (hl : ∀ a ∈ l, a < 255)
    (hf : ∀ t : State, ∀ a < 255, t.ReadsBut [Reg.LP_STATION_state] (f t a) ∧ ((f t a).port p).central = (t.port p).central) :
    s.ReadsBut [Reg.LP_STATION_state] (l.foldl f s) ∧ ((l.foldl f s).port p).central = (s.port p).central :=
  ⟨.foldl l (fun t a ha => (hf t a (hl a ha)).1) s,
    foldl_keeps_mem (fun t => (t.port p).central) l (fun t a ha => (hf t a (hl a ha)).2) s⟩

/-! ### The obligation -/

theorem be_one (v : Nat) : be 1 v = [BitVec.ofNat 8 v] := by simp [be]

theorem issue_merge_congr {s t : State} (hmerge : t.merge = s.merge) (htime : t.time = s.time) (src ty : Nat) (b : Bytes) :
    (t.issue src ty b).merge = (s.issue src ty b).merge := by
  simp [State.issue, State.issueAt, State.now_congr htime, hmerge, htime]

theorem registered_congr {s t : State} {p : Port}
    (h : ∀ a < 255, t.rd Reg.LP_STATION_state p a = s.rd Reg.LP_STATION_state p a) : t.registered p = s.registered p := by
  unfold State.registered State.stationsBy
  refine List.filter_congr fun a ha => ?_
  have ha := List.mem_range.mp (List.mem_of_mem_drop ha)
  rw [h a ha]

theorem toState_registered (s : State) (p q : Port) (new : Int) (cause : Nat) :
    (s.toState p new cause).registered q = s.registered q :=
  registered_congr fun a _ => rd_toState s p new cause

theorem ecTrain_reads (s : State) (p : Port) : s.ReadsBut [Reg.LP_EC_state] (s.ecTrain p) :=
  .ite (.refl s) (.then_regs (.wr (.refl s) _ (by decide) p.isLt (by decide)) (State.setEc_regs ..))

theorem ecTrain_portState (s : State) (p : Port) : (s.ecTrain p).portState p = s.portState p :=
  (ecTrain_reads s p).rd (by decide) p.isLt (by decide)

theorem ecTrain_heldBefore (s : State) (p : Port) : ((s.ecTrain p).port p).heldBefore = (s.port p).heldBefore := by
  unfold State.ecTrain
  split
  · rfl
  · exact State.port_setPort_keeps PortState.heldBefore _ p _ (by exact fun _ => rfl) p

/-- The energy that a survey keeps of 64 readings (R209). -/
theorem survey_take {energy : Bytes} (hlength : energy.length = 64) : (energy ++ List.replicate 64 0xFF).take 64 = energy := by
  rw [← hlength, List.take_left']
  rfl

theorem park_heldBefore (s : State) (p : Port) (cause : Nat) :
    ((s.park p cause).port p).heldBefore = (s.portState p).toNat := by
  have hentering (t : State) (old : Int) : t.entering p old stParked = t.setPort p fun q => { q with heldBefore := old.toNat } :=
    rfl
  unfold State.park State.toState
  rw [hentering, State.port_setPort_self]

theorem toState_ahead (s : State) (p : Port) {new : Int} (cause : Nat) (hold : s.portState p ≠ stQuiet)
    (hservice : s.portState p ≠ stService) (hnew : new = stDiscover ∨ new = stService) :
    ∃ b, s.toState p new cause = (((((((s.wr Reg.LP_STATE_state p 0 new).wr Reg.LP_STATE_stamp p 0 s.now).issue (srcLine p)
      0x0501 b).disarm (.listen p.val)).disarm (.discover p.val)).disarm (.check p.val)).entering p (s.portState p) new) :=
  ⟨_, congrArg (State.entering · p (s.portState p) new) (leaving_ahead _ p hold hservice hnew)⟩

/-- A port that goes to DISCOVER keeps what its survey wrote, and its discover time begins (R207, R209). -/
theorem toDiscover_spec (s : State) (p : Port) (cause : Nat) (hold : s.portState p = stListen) :
    (s.toState p stDiscover cause).blobs = s.blobs
      ∧ (s.toState p stDiscover cause).deadline (.discover p.val)
        = some (s.now + s.rd Reg.LP_ACCESS_discover_time p * 1000000000) := by
  obtain ⟨b, hstate⟩ := toState_ahead s p cause (by rw [hold]; decide) (by rw [hold]; decide) (.inl rfl)
  obtain ⟨u, hu⟩ : ∃ u, u = ((((((s.wr Reg.LP_STATE_state p 0 stDiscover).wr Reg.LP_STATE_stamp p 0 s.now).issue (srcLine p)
    0x0501 b).disarm (.listen p.val)).disarm (.discover p.val)).disarm (.check p.val)) := ⟨_, rfl⟩
  have hblobs : u.blobs = s.blobs := by rw [hu]; rfl
  have hnow : u.now = s.now := by rw [hu]; rfl
  have htime : u.rd Reg.LP_ACCESS_discover_time p = s.rd Reg.LP_ACCESS_discover_time p := by
    rw [hu]
    exact (State.rd_wr_other _ _ Obj.key_ne).trans (State.rd_wr_other _ _ Obj.key_ne)
  have hentering : u.entering p (s.portState p) stDiscover
      = u.arm (.discover p.val) (u.now + u.rd Reg.LP_ACCESS_discover_time p * nsPerSec) := rfl
  rw [hstate, ← hu, hentering, hnow, htime]
  exact ⟨hblobs, State.deadline_arm_self ..⟩

theorem unpark_spec (s : State) (p : Port) (cause : Nat) : ∃ u : State, u.time = s.time
    ∧ u.portState p = s.portState p ∧ u.merge = s.merge ∧ (∀ q, u.registered q = s.registered q)
    ∧ (u.toState p (resumed (s.port p).heldBefore) cause).ReadsBut [Reg.LP_STATION_state] (s.unpark p cause)
    ∧ (s.registered p = [] → (s.unpark p cause).merge = (u.toState p (resumed (s.port p).heldBefore) cause).merge) := by
  have hregistered (q : Port) : (s.ecTrain p).registered q = s.registered q :=
    registered_congr fun a ha => (ecTrain_reads s p).rd (by decide) q.isLt (by omega)
  refine ⟨s.ecTrain p, State.ecTrain_time .., ecTrain_portState s p, State.ecTrain_merge .., hregistered, ?_⟩
  unfold State.unpark
  extract_lets new u v
  split
  · have hreads : u.ReadsBut [Reg.LP_STATION_state] v := .of_regs (State.setPort_regs ..)
    have hv : v.registered p = s.registered p :=
      (registered_congr fun a ha => State.rd_congr (State.setPort_regs ..) ..).trans
        ((toState_registered ..).trans (hregistered p))
    refine ⟨hreads.trans (.foldl _ (fun t a ha => ?_) v), fun hnone => ?_⟩
    · have ha := (mem_registered _ ha).1
      exact (afterQuiet_spec t p (by omega)).1.then_regs (State.setElem_regs ..)
    · rw [hv, hnone]
      rfl
  · exact ⟨.refl _, fun _ => rfl⟩

/-- Settles O20, over every state. -/
theorem portStatesFollowTable : Obligations.PortStatesFollowTable := by
  unfold Obligations.PortStatesFollowTable
  refine ⟨?enable, ?disable, ?listenEnd, ?discoverEnd, ?park, ?unpark, ?quietExit⟩
  case enable =>
    intro s p hruns hclocked hoperates hstate henable
    refine ⟨_, guarded_pos s ⟨hruns, hclocked, hoperates, hstate, henable⟩, ?_, ?_, ?_⟩
    · simp only [State.portState_keep, State.portState_setPort, State.portState_toState]
    · rw [State.rd_keep, State.rd_congr (State.setPort_regs ..), toState_stamp]
    · rw [State.keep_merge, State.setPort_merge, State.toState_merge, hstate, be_one]
      split
      · rfl
      · rfl
  case disable =>
    intro s p hruns hdisable hdown hfenced happly
    obtain ⟨-, -, hmerge, hqm, -⟩ := commitDone_spec (s.toState p stDown 0)
    refine ⟨_, guarded_pos s ⟨hruns, by rw [hdisable]; rfl, hdown, hfenced, happly⟩, ?_, fun i hi => ?_, ?_⟩
    · rw [State.portState_keep, commitDone_portState, State.portState_toState]
    · rw [queue_congr (State.keep_qm ..), queue_congr hqm]
      exact toState_queue s p 0 hi
    · rw [State.keep_merge, hmerge, State.toState_merge]
      rfl
  case listenEnd =>
    intro s p energy hruns hstate hreached hlength
    refine ⟨_, guarded_pos s ⟨hruns, hstate, hreached⟩, ?_⟩
    obtain ⟨u, hu⟩ : ∃ u, u = (s.wrB Reg.LP_SURVEY_energy p 0 ((energy ++ List.replicate 64 0xFF).take 64)).wr
      Reg.LP_SURVEY_stamp p 0 s.now := ⟨_, rfl⟩
    have hlisten : u.portState p = stListen := by
      rw [hu]
      exact (portState_wr_other _ _ Obj.key_ne).trans ((State.portState_congr (State.wrB_regs ..) p).trans hstate)
    have hsurvey : u.rdB Reg.LP_SURVEY_energy p = energy := by
      rw [hu, survey_take hlength]
      exact State.rdB_wrB_self _ _ _ _ _ (by rw [← List.length_pos_iff]; omega)
    have hstamp : u.rd Reg.LP_SURVEY_stamp p = s.now := by
      rw [hu]
      exact State.rd_wr_self ..
    have htime : u.rd Reg.LP_ACCESS_discover_time p = s.rd Reg.LP_ACCESS_discover_time p := by
      rw [hu]
      exact State.rd_wr_other _ _ Obj.key_ne
    have hnow : u.now = s.now := by rw [hu]; rfl
    have hmerge : ∀ b, (u.issue (srcLine p) 0x0501 b).merge = (s.issue (srcLine p) 0x0501 b).merge :=
      fun b => issue_merge_congr (by rw [hu]; rfl) (by rw [hu]; rfl) ..
    obtain ⟨hblobs, hdeadline⟩ := toDiscover_spec u p 2 hlisten
    rw [← hu]
    refine ⟨?_, ?_, ?_, ?_, ?_, ?_⟩
    · rw [State.portState_keep, State.portState_toState]
    · rw [State.rd_keep, toState_stamp, hnow]
    · rw [State.deadline_keep, hdeadline, hnow, htime]
    · exact (State.rdB_congr hblobs ..).trans hsurvey
    · rw [State.rd_keep, rd_toState, hstamp]
    · rw [State.keep_merge, State.toState_merge, hlisten, hmerge, be_one]
      rfl
  case discoverEnd =>
    intro s p hruns hstate hreached
    refine ⟨_, guarded_pos s ⟨hruns, hstate, hreached⟩, ?_, ?_, ?_⟩
    · rw [State.portState_keep, State.portState_toState]
    · exact toState_stamp ..
    · refine (State.toState_merge ..).trans ?_
      rw [hstate, be_one]
      rfl
  case park =>
    intro s p hruns hpark hlo hhi happly
    obtain ⟨-, hport, hmerge, -⟩ := commitDone_spec (s.park p 0)
    refine ⟨_, guarded_pos s ⟨hruns, hpark, hlo, hhi, happly⟩, ?_, ?_, ?_⟩
    · rw [State.portState_keep, commitDone_portState]
      exact State.portState_toState ..
    · rw [State.port_keep]
      exact (congrArg PortState.heldBefore (hport p)).trans (park_heldBefore s p 0)
    · rw [State.keep_merge, hmerge]
      exact State.toState_merge ..
  case unpark =>
    intro s p hruns hclocked hstate hpark hparked
    obtain ⟨u, htime, hold, hmerge, -, hreads, hnone⟩ := unpark_spec s p 0
    refine ⟨_, guarded_pos s ⟨hruns, hclocked, hstate, by rw [hpark]; rfl, hparked⟩, ?_, ?_, fun h => ?_⟩
    · rw [State.portState_keep]
      exact (hreads.rd (by decide) p.isLt (by decide)).trans (State.portState_toState ..)
    · rw [State.rd_keep, hreads.rd (by decide) p.isLt (by decide), toState_stamp, State.now_congr htime]
    · rw [State.keep_merge, hnone h, State.toState_merge, issue_merge_congr hmerge htime, hold, hstate]
      rfl
  case quietExit =>
    intro s p hruns hstate hclosing hend
    refine ⟨_, guarded_pos s ⟨hruns, hstate, hclosing, hend⟩, ?_⟩
    obtain ⟨u, hu⟩ : ∃ u, u = (s.toState p stService 0).setPort p fun q => { q with quiet := {}, grants := [] } := ⟨_, rfl⟩
    obtain ⟨hreads, hcentral⟩ := foldl_afterQuiet_spec u p (f := fun t a => t.afterQuiet p a) (u.registered p)
      (fun a ha => (mem_registered _ ha).1) fun t a ha => afterQuiet_spec t p (by omega)
    have hport : u.port p = { (s.toState p stService 0).port p with quiet := {}, grants := [] } := by
      rw [hu]
      exact State.port_setPort_self ..
    have hregs : u.regs = (s.toState p stService 0).regs := by rw [hu]; rfl
    have hmerge : u.merge = (s.toState p stService 0).merge := by rw [hu]; rfl
    have hregistered : u.registered p = s.registered p :=
      (registered_congr fun a _ => State.rd_congr hregs ..).trans (toState_registered ..)
    dsimp only
    rw [← hu]
    refine ⟨?_, ?_, ?_, ?_, fun h => ?_⟩
    · rw [State.portState_keep]
      exact (hreads.rd (by decide) p.isLt (by decide)).trans ((State.portState_congr hregs p).trans
        (State.portState_toState ..))
    · rw [State.port_keep]
      exact (congrArg PortState.quiet hcentral).trans (congrArg PortState.quiet hport)
    · rw [State.port_keep]
      exact (congrArg PortState.grants hcentral).trans (congrArg PortState.grants hport)
    · rw [State.rd_keep, hreads.rd (by decide) p.isLt (by decide), State.rd_congr hregs, toState_stamp]
    · rw [State.keep_merge, hregistered, h]
      refine hmerge.trans ((State.toState_merge ..).trans ?_)
      rw [hstate, be_one]
      rfl

end Sys2Proof.Machine
end

section
/-! Frames that go out on a line, what is freed with a registration, and the other commands of a line port (R191 to R193,
R207, R208, R212, R213). -/

namespace Sys2Proof.Machine

set_option Elab.async false

variable {s t : State} {p : Port}

/-! ### The frames that have gone out on the lines -/

/-- The frame of an output on a line, with its port. -/
def Out.lineFrame : Out → Option (Port × TxFrame)
  | .frame p f => some (p, f)
  | _ => none

/-- The frames that have gone out on the lines, the latest first. -/
def State.lineFrames (s : State) : List (Port × TxFrame) := s.out.filterMap Out.lineFrame

theorem mem_lineFrames {q : Port} {f : TxFrame} : Out.frame q f ∈ s.out ↔ (q, f) ∈ s.lineFrames := by
  unfold State.lineFrames
  rw [List.mem_filterMap]
  constructor
  · exact fun h => ⟨_, h, rfl⟩
  · rintro ⟨o, ho, hf⟩
    cases o with
    | frame q' f' =>
      cases hf
      exact ho
    | _ => cases hf

theorem lineFrames_congr {s t : State} (h : t.out = s.out) : t.lineFrames = s.lineFrames :=
  congrArg (List.filterMap Out.lineFrame) h

/-- No frame is among the parcels sent. -/
theorem OnlyParcels.lineFrames {s t : State} (h : OnlyParcels s t) : t.lineFrames = s.lineFrames := by
  obtain ⟨l, hout, hparcels⟩ := h
  have hnone : l.filterMap Out.lineFrame = [] := List.filterMap_eq_nil_iff.mpr fun o ho => by
    obtain ⟨x, q, rfl⟩ := hparcels o ho
    rfl
  unfold State.lineFrames
  rw [hout, List.filterMap_append, hnone, List.nil_append]

theorem reply_lineFrames (s : State) (r : IzResp) : (s.reply r).lineFrames = s.lineFrames :=
  (State.sendHost_onlyParcels (s.emit (.reply r)) r.side 0 0 _).lineFrames.trans rfl

theorem respond_lineFrames (s : State) (r : IzResp) : (s.respond r).lineFrames = s.lineFrames := by
  unfold State.respond
  split
  · exact reply_lineFrames ..
  · dsimp only
    split
    · rfl
    · split
      · exact reply_lineFrames ..
      · exact reply_lineFrames (s.setSession _ _) _

theorem failProxies_lineFrames (s : State) (p : Port) (sel : Nat → Bool) : (s.failProxies p sel).lineFrames = s.lineFrames := by
  unfold State.failProxies
  refine (foldl_keeps State.lineFrames (fun t x => respond_lineFrames t _) _ _).trans ?_
  exact foldl_keeps State.lineFrames (fun t o => respond_lineFrames (t.disarm _) _) _ _

theorem leaving_lineFrames (s : State) (p : Port) (old new : Int) : (s.leaving p old new).lineFrames = s.lineFrames := by
  unfold State.leaving
  extract_lets t₁ t₂ t₃ t₄ t₅ t₆
  have h₁ : t₁.lineFrames = s.lineFrames := by
    unfold t₁
    split
    · exact lineFrames_congr (State.leaveQuiet_out s p)
    · rfl
  have h₂ : t₂.lineFrames = t₁.lineFrames := by
    unfold t₂
    split
    · exact failProxies_lineFrames t₁ p _
    · rfl
  have h₃ : t₃.lineFrames = t₂.lineFrames := by
    unfold t₃
    split
    · exact lineFrames_congr (State.flushPort_out t₂ p)
    · rfl
  have h₄ : t₄.lineFrames = t₃.lineFrames := by
    unfold t₄
    split
    · rfl
    · exact lineFrames_congr (State.freeEngine_out t₃ p)
  have h₅ : t₅.lineFrames = t₄.lineFrames := by
    unfold t₅
    split
    · rfl
    · rfl
  have h₆ : t₆.lineFrames = t₅.lineFrames := by
    unfold t₆
    split
    · rfl
    · rfl
  have h₇ : (((t₆.disarm (.listen p.val)).disarm (.discover p.val)).disarm (.check p.val)).lineFrames = t₆.lineFrames := rfl
  rw [h₇, h₆, h₅, h₄, h₃, h₂, h₁]

/-- No frame goes out with a change of a port's state (R207). -/
theorem toState_lineFrames (s : State) (p : Port) (new : Int) (cause : Nat) :
    (s.toState p new cause).lineFrames = s.lineFrames := by
  unfold State.toState
  dsimp only
  rw [lineFrames_congr (State.entering_out ..), leaving_lineFrames]
  rfl

theorem freeStation_lineFrames (s : State) (p : Port) (a reason : Nat) :
    (s.freeStation p a reason).lineFrames = s.lineFrames := by
  unfold State.freeStation
  split
  · rfl
  · extract_lets t₁ t₂ t₃ t₄ t₅ t₆
    have h₂ : t₂.lineFrames = s.lineFrames := foldl_keeps State.lineFrames (by exact fun _ _ => rfl) _ t₁
    have h₄ : t₄.lineFrames = t₃.lineFrames :=
      (failProxies_lineFrames ..).trans (lineFrames_congr ((State.eqClear_out ..).trans (State.setElem_out ..)))
    have h₃ : t₃.lineFrames = t₂.lineFrames := lineFrames_congr (State.wrB_out ..)
    have h₆ : t₆.lineFrames = t₅.lineFrames := foldl_keeps State.lineFrames (by exact fun _ _ => rfl) _ t₅
    have h₅ : t₅.lineFrames = t₄.lineFrames := lineFrames_congr (State.setPort_out ..)
    rw [lineFrames_congr (State.updateInterval_out ..), h₆, h₅, h₄, h₃, h₂]

theorem freeAll_lineFrames (s : State) (p : Port) : (s.freeAll p).lineFrames = s.lineFrames := by
  unfold State.freeAll
  exact foldl_keeps State.lineFrames (fun t a => freeStation_lineFrames t p a 0) _ s

/-! ### Registrations that are freed (R213, R235) -/

/-- The fields of an element that are cleared with its registration, its state apart. -/
def freedFields : List Obj :=
  [Reg.LP_STATION_identity, Reg.LP_STATION_allotments, Reg.LP_STATION_timing_advance, Reg.LP_STATION_level_used,
    Reg.LP_STATION_received_level, Reg.LP_STATION_downstream_pace, Reg.LP_STATION_upstream_pace, Reg.LP_STATION_offset,
    Reg.LP_STATION_registered]

/-- The objects written with a registration's end, its state apart. -/
def freedObjects : List Obj :=
  Reg.LP_EQ_state :: Reg.LP_EQ_MER :: Reg.LP_QUIET_effective :: (freedFields ++ releaseObjects)

theorem eqClear_reads (s : State) (p : Port) {a : Nat} (ha : a < 1048576) : s.ReadsBut freedObjects (s.eqClear p a) := by
  unfold State.eqClear
  refine .then_regs ?_ ((State.setEq_regs ..).trans ((State.wrB_regs ..).trans (State.wrB_regs ..)))
  exact ((State.ReadsBut.refl s).wr _ (by decide) p.isLt ha).wr _ (by decide) p.isLt ha

/-- A registration that ends sets the state of its element to 0 and writes its own objects else (R213, R235). -/
theorem freeStation_reads (s : State) (p : Port) {a : Nat} (ha : a < 1048576) (reason : Nat)
    (hstate : s.rd Reg.LP_STATION_state p a ≠ 0) :
    (s.wr Reg.LP_STATION_state p a 0).ReadsBut freedObjects (s.freeStation p a reason) := by
  unfold State.freeStation
  rw [if_neg hstate]
  extract_lets t₁ t₂ t₃ t₄ t₅ t₆
  have hrecord : (s.wr Reg.LP_STATION_state p a 0).ReadsBut freedObjects (t₁.wr Reg.LP_STATION_state p a 0) := .of_regs rfl
  have hfold : t₂ = freedFields.foldl (fun t o => t.wr o p a 0) (t₁.wr Reg.LP_STATION_state p a 0) := List.foldl_cons ..
  have hfields : (s.wr Reg.LP_STATION_state p a 0).ReadsBut freedObjects t₂ := by
    rw [hfold]
    refine hrecord.trans (.foldl freedFields (fun t o ho => ?_) _)
    exact .wr (.refl t) _ (List.mem_cons_of_mem _ (List.mem_cons_of_mem _ (List.mem_cons_of_mem _
      (List.mem_append_left _ ho)))) p.isLt ha
  have hcleared : t₃.ReadsBut freedObjects ((t₃.setElem p a fun _ => {}).eqClear p a) :=
    (State.ReadsBut.of_regs (State.setElem_regs ..)).trans (eqClear_reads _ p ha)
  have hrelease : releaseObjects ⊆ freedObjects := by decide
  have hproxies : t₃.ReadsBut freedObjects t₄ := hcleared.trans (State.ReadsBut.mono (failProxies_reads _ _ _) hrelease)
  have hdisarmed : t₄.ReadsBut freedObjects t₆ :=
    (State.ReadsBut.of_regs (State.setPort_regs ..)).trans (.foldl _ (fun t x _ => .of_regs (State.disarm_regs ..)) t₅)
  unfold State.updateInterval
  exact (((hfields.then_regs (State.wrB_regs ..)).trans hproxies).trans hdisarmed).wr _ (by decide) p.isLt (by decide)

/-- What frees registrations leaves free those that are. -/
theorem freeStation_free (s : State) (p : Port) {a b : Nat} (ha : a < 255) (hb : b < 255) (reason : Nat)
    (h : a = b ∨ s.rd Reg.LP_STATION_state p a = 0) : (s.freeStation p b reason).rd Reg.LP_STATION_state p a = 0 := by
  by_cases hstate : s.rd Reg.LP_STATION_state p b = 0
  · unfold State.freeStation
    rw [if_pos hstate]
    obtain rfl | h := h
    · exact hstate
    · exact h
  · refine ((freeStation_reads s p (by omega) reason hstate).rd (by decide) p.isLt (by omega)).trans ?_
    by_cases hab : a = b
    · subst hab
      exact State.rd_wr_self ..
    · refine (State.rd_wr_other _ _ ?_).trans (h.resolve_left hab)
      unfold Obj.key
      omega

/-- The registrations of a port are all free once they are freed (R213). -/
theorem freeAll_free (s : State) (p : Port) {a : Nat} (hlo : 1 ≤ a) (hhi : a < 255) :
    (s.freeAll p).rd Reg.LP_STATION_state p a = 0 := by
  have hmem : a ∈ s.registered p ∨ s.rd Reg.LP_STATION_state p a = 0 := by
    by_cases h : s.rd Reg.LP_STATION_state p a = 0
    · exact .inr h
    · refine .inl (List.mem_filter.mpr ⟨?_, by simpa using h⟩)
      rw [List.range_eq_range', List.drop_range']
      exact List.mem_range'_1.mpr ⟨hlo, hhi⟩
  have hkeep (l : List Nat) (hl : ∀ b ∈ l, b < 255) : ∀ t : State, a ∈ l ∨ t.rd Reg.LP_STATION_state p a = 0 →
      (l.foldl (fun t b => t.freeStation p b 0) t).rd Reg.LP_STATION_state p a = 0 := by
    induction l with
    | nil => exact fun t h => h.resolve_left List.not_mem_nil
    | cons b l ih =>
      intro t h
      refine ih (fun c hc => hl c (List.mem_cons_of_mem _ hc)) _ ?_
      by_cases hab : a = b ∨ t.rd Reg.LP_STATION_state p a = 0
      · exact .inr (freeStation_free t p hhi (hl b List.mem_cons_self) 0 hab)
      · rw [not_or] at hab
        exact .inl ((List.mem_cons.mp (h.resolve_right hab.2)).resolve_left hab.1)
  exact hkeep _ (fun b hb => (mem_registered _ hb).1) s hmem

/-- Every object but those of the registrations reads as before once they are freed. -/
theorem freeAll_reads (s : State) (p : Port) : s.ReadsBut (Reg.LP_STATION_state :: freedObjects) (s.freeAll p) := by
  unfold State.freeAll
  refine .foldl _ (fun t a ha => ?_) s
  have ha := (mem_registered _ ha).1
  by_cases hstate : t.rd Reg.LP_STATION_state p a = 0
  · unfold State.freeStation
    rw [if_pos hstate]
    exact .refl t
  · exact .trans (.wr (.refl t) _ List.mem_cons_self p.isLt (by omega))
      ((freeStation_reads t p (by omega) 0 hstate).mono (List.subset_cons_self ..))

/-! ### Frames sent (R101, R107) -/

/-- What a port holds besides its transmission on the line. -/
def PortState.unsent (q : PortState) : PortState :=
  { q with txStart := 0, txEnd := 0, txKind := .frame, txSpans := [], txQueue := none, txLast := false, dpd := {}, ec := {} }

theorem quiet_of_unsent {q r : PortState} (h : q.unsent = r.unsent) : q.quiet = r.quiet := by
  have hquiet := congrArg PortState.quiet h
  exact hquiet

/-- The objects of a transmission that have copies per port. -/
def sentObjects : List Obj := [Reg.LP_EC_state, Reg.LP_TX_clips]

theorem settle_unsent (s : State) (p q : Port) : ((s.settle p).port q).unsent = (s.port q).unsent := by
  unfold State.settle
  split
  · rfl
  · split
    · rfl
    · dsimp only
      split
      · rw [State.port_congr ((State.inc_ports ..).trans (State.freeBuffers_ports ..)) q]
        exact State.port_setPort_keeps PortState.unsent s p _ (by exact fun _ => rfl) q
      · exact State.port_setPort_keeps PortState.unsent s p _ (by exact fun _ => rfl) q

theorem ecLeaveCleared_unsent (s : State) (p q : Port) : ((s.ecLeaveCleared p).port q).unsent = (s.port q).unsent := by
  unfold State.ecLeaveCleared
  split
  · exact State.port_setPort_keeps PortState.unsent _ p _ (by exact fun _ => rfl) q
  · rfl

theorem occupy_unsent (s : State) (p q : Port) (d : Stamp) (kind : TxKind) :
    ((s.occupy p d kind).port q).unsent = (s.port q).unsent := by
  unfold State.occupy
  dsimp only
  refine (State.port_setPort_keeps PortState.unsent _ p _ (by exact fun _ => rfl) q).trans ?_
  rw [ecLeaveCleared_unsent, settle_unsent]

theorem sendFrame_unsent (s : State) (p q : Port) (h : Header) (b : Bytes) :
    ((s.sendFrame p h b).port q).unsent = (s.port q).unsent := by
  unfold State.sendFrame State.sendSeeded State.transmit
  dsimp only
  rw [State.port_inc]
  exact occupy_unsent ..

/-- An object that is not of the queues reads as before, whatever queue's transmission ended. -/
theorem settle_rd (s : State) (p : Port) {o : Obj} {i j : Nat} (hlow : o.key i j < 0x4100 * 268435456) :
    (s.settle p).rd o i j = s.rd o i j := by
  unfold State.settle
  split
  · rfl
  · next k hk =>
    split
    · rfl
    · dsimp only
      split
      · refine State.rd_inc_other _ _ ?_
        unfold Obj.key at hlow ⊢
        simp only [Reg.QUEUE_SENT]
        omega
      · rfl

theorem occupy_rd (s : State) (p : Port) (d : Stamp) (kind : TxKind) {o : Obj} {i j : Nat} (hec : o.apart Reg.LP_EC_state = true)
    (hi : i < 32) (hj : j < 1048576) (hlow : o.key i j < 0x4100 * 268435456) : (s.occupy p d kind).rd o i j = s.rd o i j := by
  have hleave : ((s.settle p).ecLeaveCleared p).rd o i j = (s.settle p).rd o i j := by
    unfold State.ecLeaveCleared
    split
    · exact (State.rd_congr (State.setEc_regs ..) ..).trans
        (State.rd_wr_other _ _ (Obj.key_ne hec hi hj p.isLt (by decide)))
    · rfl
  exact hleave.trans (settle_rd s p hlow)

theorem transmit_rd (s : State) (p : Port) (d : Stamp) (kind : TxKind) (x : Out) (l : List Nat) (b : Bytes) {o : Obj} {i j : Nat}
    (ho : sentObjects.all o.apart = true) (hi : i < 32) (hj : j < 1048576) (hlow : o.key i j < 0x4100 * 268435456) :
    (s.transmit p d kind x l b).rd o i j = s.rd o i j := by
  have hec := List.all_eq_true.mp ho _ List.mem_cons_self
  have hclips := List.all_eq_true.mp ho _ (List.mem_cons_of_mem _ List.mem_cons_self)
  exact (State.rd_inc_other _ _ (Obj.key_ne hclips hi hj p.isLt (by decide))).trans (occupy_rd s p d kind hec hi hj hlow)

theorem sendFrame_rd (s : State) (p : Port) (h : Header) (b : Bytes) {o : Obj} {i j : Nat}
    (ho : sentObjects.all o.apart = true) (hi : i < 32) (hj : j < 1048576) (hlow : o.key i j < 0x4100 * 268435456) :
    (s.sendFrame p h b).rd o i j = s.rd o i j := by
  unfold State.sendFrame State.sendSeeded
  exact transmit_rd s.seed.2 p _ _ _ _ _ ho hi hj hlow

theorem sendFrame_registered (s : State) (p q : Port) (h : Header) (b : Bytes) :
    (s.sendFrame p h b).registered q = s.registered q := by
  refine registered_congr fun a ha => sendFrame_rd s p h b (by decide) q.isLt (by omega) ?_
  have hq := q.isLt
  simp only [Obj.key, Reg.LP_STATION_state]
  omega

/-- The frame that goes out: it starts now, at the level in use (R101, R107). -/
theorem sendFrame_sends (s : State) (p : Port) (h : Header) (b : Bytes) :
    ∃ f, (s.sendFrame p h b).out = .frame p f :: s.out ∧ f.start = s.now ∧ f.long = true ∧ f.header.type = h.type
      ∧ f.header.dst = h.dst ∧ f.header.src = h.src ∧ f.level = s.rd Reg.LP_TX_effective p ∧ f.payload = b :=
  ⟨_, State.transmit_out .., rfl, rfl, rfl, rfl, rfl, rfl, rfl⟩

/-! ### A change of the band (R213) -/

/-- A cleared canceller stays so where its port goes back to LISTEN. -/
theorem toListen_cleared (s : State) (p : Port) (cause : Nat) (h : s.rd Reg.LP_EC_state p = ecCleared) :
    (s.toState p stListen cause).rd Reg.LP_EC_state p = ecCleared := by
  obtain ⟨u, hu⟩ : ∃ u, u = ((s.wr Reg.LP_STATE_state p 0 stListen).wr Reg.LP_STATE_stamp p 0 s.now).issue (srcLine p) 0x0501
    (be 1 p.val ++ be 1 (s.portState p).toNat ++ be 1 stListen.toNat ++ be 1 cause) := ⟨_, rfl⟩
  have hread : u.rd Reg.LP_EC_state p = ecCleared := by
    rw [hu]
    exact (State.rd_wr_other _ _ Obj.key_ne).trans ((State.rd_wr_other _ _ Obj.key_ne).trans h)
  have hquiet : (u.leaveQuiet p).rd Reg.LP_EC_state p = ecCleared := by
    unfold State.leaveQuiet
    rw [if_neg (by rw [hread]; decide)]
    refine (foldl_keeps_mem (fun t => t.rd Reg.LP_EC_state p) _ (fun t a ha => ?_) _).trans hread
    have ha := (mem_registered _ ha).1
    refine (State.rd_congr (State.setEq_regs ..) ..).trans ?_
    split
    · exact State.rd_wr_other _ _ (Obj.key_ne (by decide) p.isLt (by decide) p.isLt (by omega))
    · rfl
  have hentering (t : State) (old : Int) : (t.entering p old stListen).regs = t.regs := rfl
  have hstate : s.toState p stListen cause = (u.leaving p (s.portState p) stListen).entering p (s.portState p) stListen := by
    rw [hu]
    rfl
  rw [hstate, State.rd_congr (hentering ..)]
  refine ((leaving_releases u p _ stListen).rd (by decide) p.isLt (by decide)).trans ?_
  split
  · exact hquiet
  · exact hread

/-- A port whose registrations are freed and whose filters are cleared, in its new band (R213). -/
def State.rebanded (s : State) (p : Port) : State :=
  let t := (s.freeAll p).ecClear p
  (t.setPort p fun q => { q with band := t.bandObj p, held := none, waiting := [], awaited := [], reasm := [],
                                 grants := [] }).computeLevel p

theorem rebanded_spec (s : State) (p : Port) : (s.rebanded p).portState p = s.portState p
    ∧ ((s.rebanded p).port p).band = s.bandObj p ∧ (s.rebanded p).rd Reg.LP_EC_state p = ecCleared
    ∧ (∀ a, 1 ≤ a → a < 255 → (s.rebanded p).rd Reg.LP_STATION_state p a = 0) ∧ (s.rebanded p).lineFrames = s.lineFrames := by
  have hclear (t : State) : t.ReadsBut [Reg.LP_EC_state, Reg.LP_QUIET_retrain_pending] (t.ecClear p) := by
    unfold State.ecClear
    exact .then_regs (((State.ReadsBut.refl t).wr _ (by decide) p.isLt (by decide)).wr _ (by decide) p.isLt (by decide))
      (State.setEc_regs ..)
  obtain ⟨u, hu⟩ : ∃ u, u = (s.freeAll p).ecClear p := ⟨_, rfl⟩
  have hrest (o : Obj) (j : Nat) (ho : (Reg.LP_STATION_state :: freedObjects).all o.apart = true)
      (hec : [Reg.LP_EC_state, Reg.LP_QUIET_retrain_pending].all o.apart = true) (hj : j < 1048576) :
      u.rd o p j = s.rd o p j := by
    rw [hu]
    exact ((hclear _).rd hec p.isLt hj).trans ((freeAll_reads s p).rd ho p.isLt hj)
  have hcompute (v : State) (o : Obj) (j : Nat) (ho : o.apart Reg.LP_TX_effective = true) (hj : j < 1048576) :
      (v.computeLevel p).rd o p j = v.rd o p j := by
    unfold State.computeLevel
    exact State.rd_wr_other _ _ (Obj.key_ne ho p.isLt hj p.isLt (by decide))
  have hlevel (o : Obj) (j : Nat) (ho : o.apart Reg.LP_TX_effective = true) (hj : j < 1048576) :
      (s.rebanded p).rd o p j = u.rd o p j := by
    unfold State.rebanded
    rw [hcompute _ o j ho hj, State.rd_congr (State.setPort_regs ..), hu]
  have hband : u.bandObj p = s.bandObj p := by
    unfold State.bandObj State.rdN
    rw [hrest Reg.LP_BW 0 (by decide) (by decide) (by decide), hrest Reg.LP_N 0 (by decide) (by decide) (by decide),
      hrest Reg.LP_PREFIX 0 (by decide) (by decide) (by decide), hrest Reg.LP_CENTRE 0 (by decide) (by decide) (by decide)]
  refine ⟨?_, ?_, ?_, fun a hlo hhi => ?_, ?_⟩
  · exact (hlevel _ 0 (by decide) (by decide)).trans (hrest _ 0 (by decide) (by decide) (by decide))
  · rw [← hband, hu]
    unfold State.rebanded
    dsimp only
    rw [State.port_congr (State.computeLevel_ports ..), State.port_setPort_self]
  · refine (hlevel _ 0 (by decide) (by decide)).trans ?_
    rw [hu]
    unfold State.ecClear
    rw [State.rd_congr (State.setEc_regs ..), State.rd_wr_other _ _ Obj.key_ne, State.rd_wr_self]
  · refine (hlevel _ a (by decide) (by omega)).trans ?_
    rw [hu]
    exact ((hclear _).rd (by decide) p.isLt (by omega)).trans (freeAll_free s p hlo hhi)
  · refine (lineFrames_congr ((State.computeLevel_out ..).trans (State.setPort_out ..))).trans ?_
    rw [lineFrames_congr (State.ecClear_out ..), freeAll_lineFrames]

/-! ### The obligation -/

theorem changeBand_eq (s : State) (p : Port) : s.changeBand p =
    if stListen ≤ s.portState p ∧ s.portState p ≤ stQuiet then (s.rebanded p).toState p stListen 3
    else if s.portState p = stParked ∧ 4 ≤ ((s.rebanded p).port p).heldBefore ∧ ((s.rebanded p).port p).heldBefore ≤ 6 then
      (s.rebanded p).setPort p fun q => { q with heldBefore := 3 }
    else s.rebanded p := rfl

theorem changeBand_up (s : State) (p : Port) (hlo : stListen ≤ s.portState p) (hhi : s.portState p ≤ stQuiet) :
    s.changeBand p = (s.rebanded p).toState p stListen 3 := by
  rw [changeBand_eq, if_pos ⟨hlo, hhi⟩]

/-- A port that neither listens nor serves takes its band where it is. -/
theorem changeBand_down (s : State) (p : Port) (h : s.portState p < stListen ∨ stQuiet < s.portState p) :
    (s.changeBand p).regs = (s.rebanded p).regs
      ∧ ((s.changeBand p).port p).band = ((s.rebanded p).port p).band := by
  rw [changeBand_eq, if_neg (by omega)]
  split
  · exact ⟨rfl, State.port_setPort_keeps PortState.band _ p _ (by exact fun _ => rfl) p⟩
  · exact ⟨rfl, rfl⟩

theorem bool_not_false {b : Bool} (h : b = false) : (!b) = true := by rw [h]; rfl

/-- Settles O21, over every state. -/
theorem portCommandsComplete : Obligations.PortCommandsComplete := by
  unfold Obligations.PortCommandsComplete
  refine ⟨?checkRetry, ?quietRequest, ?refresh, ?deferred, ?bandUp, ?bandDown⟩
  case checkRetry =>
    intro s p hruns hstate hreached
    refine ⟨_, guarded_pos s ⟨hruns, hstate, hreached⟩, rfl, ?_, ?_, ?_, ?_⟩
    · simp only [State.port_keep, State.port_disarm, State.setDc, State.port_setPort_self]
    · rw [State.deadline_keep, State.deadline_disarm_other _ (by simp), State.deadline_disarm_other _ (by simp),
        State.deadline_disarm_self]
    · rw [State.deadline_keep, State.deadline_disarm_other _ (by simp), State.deadline_disarm_self]
    · rw [State.deadline_keep, State.deadline_disarm_self]
  case quietRequest =>
    intro s p hruns hreq happly
    refine ⟨_, guarded_pos s ⟨hruns, hreq, happly⟩, rfl, ?_, ?_⟩
    · rw [State.port_keep, State.port_setPort_self]
    · rw [State.port_keep, State.port_setPort_self]
  case refresh =>
    intro s p hruns hstate hnext hclosing hmay hover
    unfold Completes
    dsimp only [exec, execRefreshCycleStart]
    rw [guarded_pos s ⟨hruns, hstate, hnext, bool_not_false hclosing, hmay⟩, hover]
    dsimp only
    obtain ⟨f, hout, hstart, hlong, htype, hdst, hsrc, hlevel, hpayload⟩ := sendFrame_sends s p
      (downHeader 255 tyRefresh (s.floorPace p)) ([0] ++ be 1 (b2n (s.port p).quiet.exiting
        + 2 * b2n (s.port p).ec.retrainScheduled) ++ timeBytes s.now ++ be 2 (s.rd Reg.LP_QUIET_effective p).toNat ++ [0, 0])
    obtain ⟨u, hu⟩ : ∃ u, u = s.sendFrame p (downHeader 255 tyRefresh (s.floorPace p)) ([0] ++ be 1
      (b2n (s.port p).quiet.exiting + 2 * b2n (s.port p).ec.retrainScheduled) ++ timeBytes s.now
        ++ be 2 (s.rd Reg.LP_QUIET_effective p).toNat ++ [0, 0]) := ⟨_, rfl⟩
    have hquiet : (u.port p).quiet = (s.port p).quiet := by
      rw [hu]
      exact quiet_of_unsent (sendFrame_unsent ..)
    have hregistered : u.registered p = s.registered p := by rw [hu, sendFrame_registered]
    rw [← hu] at hout ⊢
    have hexpect (l : List Granted) : ((u.expectUp p l).port p).quiet = (u.port p).quiet :=
      State.port_setPort_keeps PortState.quiet u p _ (by exact fun _ => rfl) p
    refine ⟨_, rfl, ⟨f, hout, hstart, hlong, htype, hdst, hsrc, hlevel, hpayload⟩, ?_⟩
    rw [State.port_keep, State.port_setPort_self]
    dsimp only
    rw [hexpect, hquiet, hregistered]
    refine ⟨rfl, rfl, rfl, ?_⟩
    rw [List.map_map]
    rfl
  case deferred =>
    intro s p u hruns hstate hnext hclosing hmay hover
    unfold Completes
    dsimp only [exec, execRefreshCycleStart]
    rw [guarded_pos s ⟨hruns, hstate, hnext, bool_not_false hclosing, hmay⟩, hover]
    refine ⟨_, rfl, rfl, ?_⟩
    rw [State.port_keep, State.port_setPort_self]
  case bandUp =>
    intro s p hruns hband happly hlo hhi
    obtain ⟨-, hnew, hcleared, hfree, hframes⟩ := rebanded_spec s p
    obtain ⟨u, hu⟩ : ∃ u, u = s.rebanded p := ⟨_, rfl⟩
    obtain ⟨hreads, hport, -, -, hout⟩ := commitDone_spec (u.toState p stListen 3)
    have hchange := changeBand_up s p hlo hhi
    rw [← hu] at hnew hcleared hfree hframes hchange
    have hexec : exec (.bandChange p) s = .next ((s.changeBand p).commitDone.keep s) := guarded_pos s ⟨hruns, hband, happly⟩
    rw [hchange] at hexec
    refine ⟨_, hexec, ?_, ?_, ?_, fun a hlo hhi => ?_, fun q f h => ?_⟩
    · rw [State.portState_keep, commitDone_portState, State.portState_toState]
    · rw [State.port_keep]
      refine (congrArg PortState.band (hport p)).trans ((congrArg Prod.fst (toState_staying u p p ?_ 3)).trans hnew)
      decide
    · rw [State.rd_keep, hreads.rd (by decide) p.isLt (by decide), toListen_cleared u p 3 hcleared]
    · rw [State.rd_keep, hreads.rd (by decide) p.isLt (by omega), rd_toState, hfree a hlo hhi]
    · rw [mem_lineFrames, lineFrames_congr (State.keep_out ..), lineFrames_congr hout, toState_lineFrames, hframes] at h
      exact mem_lineFrames.mpr h
  case bandDown =>
    intro s p hruns hband happly hstate
    obtain ⟨hold, hnew, hcleared, hfree, -⟩ := rebanded_spec s p
    obtain ⟨hregs, hkept⟩ := changeBand_down s p hstate
    obtain ⟨hreads, hport, -⟩ := commitDone_spec (s.changeBand p)
    have hexec : exec (.bandChange p) s = .next ((s.changeBand p).commitDone.keep s) := guarded_pos s ⟨hruns, hband, happly⟩
    refine ⟨_, hexec, ?_, ?_, ?_, fun a hlo hhi => ?_⟩
    · rw [State.portState_keep, commitDone_portState, State.portState_congr hregs, hold]
    · rw [State.port_keep]
      exact (congrArg PortState.band (hport p)).trans (hkept.trans hnew)
    · rw [State.rd_keep, hreads.rd (by decide) p.isLt (by decide), State.rd_congr hregs, hcleared]
    · rw [State.rd_keep, hreads.rd (by decide) p.isLt (by omega), State.rd_congr hregs, hfree a hlo hhi]

end Sys2Proof.Machine
end

section
/-! The last (R291, R255): a baseline outside the reflection values is clamped where it is loaded. -/

namespace Sys2Proof.Machine

set_option Elab.async false

/-- Cell 0 of port 0 was written with the BASELINE −32,768, which is no reflection value (R255), and waits to be loaded;
its mapped length is 0. No request writes such a cell; the statement is of every state. -/
def cellBelowRange : State :=
  let s : State := { State.reset with rst := { State.reset.rst with pllLocked := true } }
  let s := (s.wr Reg.CELL_MAP 0 0 (0x8000 * 2 ^ 48)).wr Reg.LR_CTL_mapped_length 0 0 0
  s.setSound 0 fun q => { q with loadCells := [0], lastKey := some (s.lastKeyNow 0) }

/-- Its BASELINE is −32,767 once it is loaded. -/
theorem cellBelowRange_changes :
    (cellBelowRange.runs = true ∧ (cellBelowRange.port 0).sound.loadCells = [0]
      ∧ cellBelowRange.lastKeyNow 0 = cellBelowRange.lastKeyHeld 0)
    ∧ Res.leads (fun t => decide (cellBaseline (t.cell 0 0) = cellBaseline (cellBelowRange.cell 0 0)))
        (exec (.lastLoad 0) cellBelowRange) = false := by
  decide +kernel

/-- Refutes O31: in `cellBelowRange` the load of the cell changes its BASELINE. -/
theorem not_lastCompletes : ¬ Obligations.LastCompletes := by
  intro h
  obtain ⟨-, -, -, hload, -⟩ := h
  obtain ⟨⟨hruns, hcells, hkey⟩, hchanges⟩ := cellBelowRange_changes
  obtain ⟨t, ht, -, -, -, -, -, hbaseline⟩ := hload cellBelowRange 0 hruns (by rw [hcells]; decide)
    (by rw [hcells]; decide) hkey
  obtain ⟨-, -, hkept⟩ := hbaseline 0 (by rw [hcells]; decide)
  rw [ht, Res.leads_next, decide_eq_false_iff_not] at hchanges
  exact hchanges hkept

end Sys2Proof.Machine
end

section
/-! Focused soundings and bulk readouts (R283 to R287, R313, R314). -/

namespace Sys2Proof.Machine

set_option Elab.async false

variable {s t : State} {p : Port}

/-! ### What is sent depends on (R403 to R405) -/

/-- Two states that send alike: their links, queues, time and straps are the same, and the states of their links. -/
structure State.SendsAlike (s t : State) : Prop where
  pf : t.pf = s.pf
  qm : t.qm = s.qm
  time : t.time = s.time
  rst : t.rst = s.rst
  state : ∀ x, t.pfState x = s.pfState x

namespace State.SendsAlike

theorem link (h : s.SendsAlike t) (x : Side) : t.link x = s.link x := link_congr h.pf x

theorem fifo (h : s.SendsAlike t) (x : Side) (vc : Nat) : t.fifo x vc = s.fifo x vc := by
  unfold State.fifo
  rw [h.qm]

theorem setLink (h : s.SendsAlike t) (x : Side) (f : PfState → PfState) : (s.setLink x f).SendsAlike (t.setLink x f) := by
  refine ⟨?_, h.qm, h.time, h.rst, h.state⟩
  have hlink : f t.pf[x.fin] = f s.pf[x.fin] := congrArg f (h.link x)
  unfold State.setLink
  rw [hlink, h.pf]

theorem sendNow (h : s.SendsAlike t) (x : Side) (q : Parcel) : (s.sendNow x q).SendsAlike (t.sendNow x q) := by
  have hsent (u : State) : (u.sendNow x q).pf = (u.setLink x fun y => { y with
      txSeq := (y.txSeq + 1) % 4096, replay := y.replay ++ [{ q with lseq := (u.link x).txSeq }], lastTx := u.now,
      stalled := y.stalled.filter (· ≠ q.vc),
      used := y.used.set q.vc ((y.used.getD q.vc 0 + q.credits) % 65536) }).pf := by
    unfold State.sendNow
    dsimp only
    split
    · rfl
    · rfl
  refine ⟨?_, ?_, ?_, ?_, fun y => ?_⟩
  · rw [hsent, hsent, h.link, State.now_congr h.time]
    exact (h.setLink x _).pf
  · rw [State.sendNow_qm, State.sendNow_qm, h.qm]
  · rw [State.sendNow_time, State.sendNow_time, h.time]
  · rw [State.sendNow_rst, State.sendNow_rst, h.rst]
  · exact (State.rd_congr (State.sendNow_regs ..) ..).trans ((h.state y).trans (State.rd_congr (State.sendNow_regs ..) ..).symm)

theorem stall (h : s.SendsAlike t) (x : Side) (vc : Nat) : (s.stall x vc).SendsAlike (t.stall x vc) := by
  have hstate (u : State) (y : Side) : (u.stall x vc).pfState y = u.pfState y :=
    State.rd_stall u x vc (Obj.key_ne (by decide) ((Side.n_lt y).trans (by decide)) (by decide)
      ((Side.n_lt x).trans (by decide)) (by decide))
  refine ⟨?_, ?_, ?_, ?_, fun y => ?_⟩
  · unfold State.stall
    rw [h.link]
    split
    · exact h.pf
    · rw [State.inc_pf, State.inc_pf]
      exact (h.setLink x _).pf
  · rw [State.stall_qm, State.stall_qm, h.qm]
  · rw [State.stall_time, State.stall_time, h.time]
  · rw [State.stall_rst, State.stall_rst, h.rst]
  · rw [hstate, hstate, h.state]

theorem trySend (h : s.SendsAlike t) (x : Side) (q : Parcel) : (s.trySend x q).SendsAlike (t.trySend x q) := by
  unfold State.trySend
  dsimp only
  rw [h.link]
  split
  · exact h.setLink x _
  · split
    · exact h.sendNow x q
    · exact (h.stall x q.vc).setLink x _

theorem setFifo (h : s.SendsAlike t) (x : Side) (vc : Nat) (l : List HostFrame) :
    (s.setFifo x vc l).SendsAlike (t.setFifo x vc l) := by
  refine ⟨h.pf, ?_, h.time, h.rst, h.state⟩
  unfold State.setFifo State.setQm
  rw [h.qm]

theorem upParcel (h : s.SendsAlike t) (type vc : Nat) (b : Bytes) : t.upParcel type vc b = s.upParcel type vc b := by
  unfold State.upParcel
  rw [h.rst]

theorem drainFifo (h : s.SendsAlike t) (x : Side) (vc : Nat) : (s.drainFifo x vc).SendsAlike (t.drainFifo x vc) := by
  unfold State.drainFifo
  rw [h.fifo]
  refine List.foldl_rel h fun f _ u v huv => ?_
  dsimp only
  rw [huv.link, huv.fifo, huv.upParcel]
  split
  · exact huv
  · split
    · exact (huv.setFifo x vc _).sendNow x _
    · exact huv.stall x vc

theorem drain (h : s.SendsAlike t) (x : Side) : (s.drain x).SendsAlike (t.drain x) := by
  unfold State.drain
  rw [h.state, h.link]
  split
  · exact h
  · refine List.foldl_rel ?_ fun vc _ u v huv => huv.drainFifo x vc
    exact List.foldl_rel (h.setLink x _) fun q _ u v huv => huv.trySend x q

/-- What is sent to the host is queued and sent alike. -/
theorem sendHost (h : s.SendsAlike t) (x : Side) (type vc : Nat) (b : Bytes) :
    (s.sendHost x type vc b).SendsAlike (t.sendHost x type vc b) := by
  unfold State.sendHost State.send
  rw [h.upParcel]
  exact (h.setLink x _).drain x

end State.SendsAlike

/-! ### A focused sounding (R257, R287) -/

theorem cellCurrent_unsited (c : Nat) : cellCurrent (unsited c) = cellCurrent c := by
  have hfield : field (unsited c) 47 32 = field c 47 32 := by
    unfold unsited
    obtain ⟨heq, -⟩ | ⟨-, -, hset⟩ | ⟨heq, hbit, -⟩ := setBit_cases c 4 false
    · rw [heq]
    · exact absurd hset (by decide)
    · unfold field
      rw [bit, Nat.testBit_eq_decide_div_mod_eq, decide_eq_true_eq] at hbit
      omega
  exact congrArg (signed 16) hfield

/-- A cell that a focused sounding writes is written; every other cell, and every object below the map, reads as before. -/
theorem foldl_wr_cell {f : State → Nat → State} (hf : ∀ t i, f t i = t ∨ ∃ v : Int, f t i = t.wr Reg.CELL_MAP p i v) (l : List Nat)
    (s : State) : (l.foldl f s) = { s with regs := (l.foldl f s).regs }
      ∧ ∀ k, (∀ i ∈ l, k ≠ Reg.CELL_MAP.key p i) → Store.get 0 (l.foldl f s).regs k = Store.get 0 s.regs k := by
  induction l generalizing s with
  | nil => exact ⟨rfl, fun _ _ => rfl⟩
  | cons i l ih =>
    obtain ⟨hrest, hkeep⟩ := ih (f s i)
    rw [List.foldl_cons]
    obtain hsame | ⟨v, hwr⟩ := hf s i
    · rw [hsame] at hrest hkeep ⊢
      exact ⟨hrest, fun k hk => hkeep k fun j hj => hk j (List.mem_cons_of_mem _ hj)⟩
    · rw [hwr] at hrest hkeep ⊢
      refine ⟨hrest, fun k hk => (hkeep k fun j hj => hk j (List.mem_cons_of_mem _ hj)).trans ?_⟩
      exact Store.get_put_other _ _ _ (hk i List.mem_cons_self)

theorem rd_cntSound_congr {o : Obj} (hstate : t.portState p = s.portState p) (hread : t.rd o p = s.rd o p) :
    (t.cntSound p o).rd o p = (s.cntSound p o).rd o p := by
  unfold State.cntSound
  rw [hstate]
  split
  · rw [State.rd_inc_self, State.rd_inc_self, hread]
  · exact hread

theorem cntSound_regs (h : t.regs = s.regs) (p : Port) (o : Obj) : (t.cntSound p o).regs = (s.cntSound p o).regs := by
  unfold State.cntSound
  rw [State.portState_congr h]
  split
  · unfold State.inc State.wr
    rw [State.rd_congr h, h]
  · exact h

theorem cntSound_eq (s : State) (p : Port) (o : Obj) : s.cntSound p o = { s with regs := (s.cntSound p o).regs } := by
  unfold State.cntSound
  split
  · rfl
  · rfl

theorem sound_of_unsigned {q r : PortState} (h : q.unsigned = r.unsigned) :
    q.sound.focusRun = r.sound.focusRun ∧ q.sound.updates = r.sound.updates := by
  have hrun := congrArg (fun x : PortState => x.sound.focusRun) h
  have hupdates := congrArg (fun x : PortState => x.sound.updates) h
  exact ⟨hrun, hupdates⟩

/-! ### The obligation -/

/-- What a command reads of the device is sent of it, whatever it wrote of its objects and ports. -/
theorem sendBulk_pf {u : State} (hu : s.SendsAlike u) (hside : u.hostSide = s.hostSide) (offset : Nat) (last : Bool) (b : Bytes) :
    (u.sendBulk p offset last b).pf = (s.sendBulk p offset last b).pf := by
  unfold State.sendBulk
  rw [hside]
  exact (hu.sendHost _ _ _ _).pf

theorem refreshCount_eq (s : State) (p : Port) : s.refreshCount p = be 4 (s.rdN Reg.LR_STATUS_REFRESHES p) := rfl

theorem focusRequest_none (hruns : s.runs = true) (hrequest : s.flag Reg.LR_FOCUS_request p = true)
    (hfocus : (s.port p).sound.focus = none) :
    exec (.focusRequest p) s = .next ((((s.setSound p fun q => { q with focus := some {
          lo := min (s.rdN Reg.LR_FOCUS_centre p) (s.rdN Reg.LR_FOCUS_centre p - s.rdN Reg.LR_FOCUS_half_span p),
          hi := max (s.rdN Reg.LR_FOCUS_centre p)
            (min (s.mapped p - 1) (s.rdN Reg.LR_FOCUS_centre p + s.rdN Reg.LR_FOCUS_half_span p)) } }).arm (.focus p.val)
        (s.now + 10000000000)).wr Reg.LR_FOCUS_pending p 0 1).keep s) := by
  refine (guarded_pos s ⟨hruns, hrequest⟩).trans ?_
  unfold State.focusAbout State.requestFocus
  rw [hfocus]

theorem focusRequest_some {f : Focus} (hruns : s.runs = true) (hrequest : s.flag Reg.LR_FOCUS_request p = true)
    (hfocus : (s.port p).sound.focus = some f) :
    exec (.focusRequest p) s = .next ((s.setSound p fun q => { q with focus := some { f with
          lo := min f.lo (min (s.rdN Reg.LR_FOCUS_centre p) (s.rdN Reg.LR_FOCUS_centre p - s.rdN Reg.LR_FOCUS_half_span p))
          hi := max f.hi (max (s.rdN Reg.LR_FOCUS_centre p)
            (min (s.mapped p - 1) (s.rdN Reg.LR_FOCUS_centre p + s.rdN Reg.LR_FOCUS_half_span p))) } }).keep s) := by
  refine (guarded_pos s ⟨hruns, hrequest⟩).trans ?_
  unfold State.focusAbout State.requestFocus
  rw [hfocus]

theorem readoutTail_none (h : (s.port p).sound.readout = none) : s.readoutTail p = s := by
  unfold State.readoutTail
  rw [h]

theorem mem_span {lo hi i : Nat} (h : i ∈ s.span p lo hi) : lo ≤ i ∧ i ≤ hi := by
  unfold State.span at h
  rw [List.range_eq_range', List.drop_range'] at h
  have h := List.mem_range'_1.mp h
  omega

/-- A focused sounding that is swept writes the cells of its span, one by one. -/
theorem exec_focusComplete {f : Focus} (hruns : s.runs = true) (hslot : s.cellSlot = true)
    (hrun : (s.port p).sound.focusRun = some f) (hbands : f.bands = []) (hoff : (s.port p).sound.focusOn = false) :
    ∃ g : State → Nat → State, (∀ t i, g t i = t ∨ ∃ v : Int, g t i = t.wr Reg.CELL_MAP p i v)
      ∧ exec (.focusComplete p) s = .next ((((((s.span p f.lo f.hi).foldl g s).setSound p fun q =>
          { q with focusRun := none, updates := q.updates ++ [(f.lo, f.hi, ((s.span p f.lo f.hi).foldl g s).now)] }).cntSound p
            Reg.LR_FOCUS_RUNS).signOrOwe p (some (f.lo, f.hi), f.acc.measured)).keep s) := by
  have hexec : exec (.focusComplete p) s = execFocusComplete p s := rfl
  have hguard : s.runs = true ∧ s.cellSlot = true ∧ f.bands = [] ∧ (!(s.port p).sound.focusOn) = true :=
    ⟨hruns, hslot, hbands, by rw [hoff]; rfl⟩
  rw [hexec, execFocusComplete]
  simp only [hrun]
  rw [guarded_pos s hguard]
  refine ⟨_, fun t i => ?_, rfl⟩
  split
  · exact .inl rfl
  · exact .inr ⟨_, rfl⟩

/-- Settles O30, over every state. -/
theorem focusAndReadoutComplete : Obligations.FocusAndReadoutComplete := by
  unfold Obligations.FocusAndReadoutComplete
  refine ⟨?request, ?widen, ?expire, ?complete, ?start, ?finish⟩
  case request =>
    intro s p hruns hrequest hfocus
    refine ⟨_, focusRequest_none hruns hrequest hfocus, ?_, ?_, ?_, rfl⟩
    · rw [State.rd_keep, State.rd_wr_self]
    · rw [State.deadline_keep, State.deadline_wr, State.deadline_arm_self]
    · rw [State.port_keep, State.port_wr, State.port_arm, State.setSound, State.port_setPort_self]
      dsimp only
      rw [Nat.min_eq_right (Nat.sub_le ..)]
  case widen =>
    intro s p f hruns hrequest hfocus
    refine ⟨_, focusRequest_some hruns hrequest hfocus, rfl, ?_, rfl⟩
    rw [State.port_keep, State.setSound, State.port_setPort_self]
    exact ⟨_, rfl, Nat.min_le_left .., Nat.le_max_left .., (Nat.min_le_right ..).trans (Nat.min_le_left ..),
      (Nat.le_max_left ..).trans (Nat.le_max_right ..)⟩
  case expire =>
    intro s p hruns hfocus hpassed
    refine ⟨_, guarded_pos s ⟨hruns, hfocus, hpassed⟩, ?_, ?_, ?_, ?_, ?_, ?_⟩
    · rw [State.port_keep, State.port_congr (State.cntSound_ports ..), State.port_wr, State.port_wr, State.port_disarm,
        State.setSound, State.port_setPort_self]
    · rw [State.rd_keep, State.rd_cntSound_other _ _ Obj.key_ne, State.rd_wr_other _ _ Obj.key_ne, State.rd_wr_self]
    · rw [State.rd_keep, State.rd_cntSound_other _ _ Obj.key_ne, State.rd_wr_self]
    · rw [State.deadline_keep, State.deadline_congr (State.cntSound_timers ..), State.deadline_wr, State.deadline_wr,
        State.deadline_disarm_self]
    · rw [State.keep_regs]
      dsimp only
      refine cntSound_regs (s := (s.wr Reg.LR_FOCUS_pending p 0 0).wr Reg.LR_FOCUS_request p 0 0) ?_ p _
      rfl
    · dsimp only
      unfold State.cntSound
      split
      · rfl
      · rfl
  case complete =>
    intro s p f hruns hslot hrun hbands hoff
    obtain ⟨g, hg, hexec⟩ := exec_focusComplete hruns hslot hrun hbands hoff
    obtain ⟨hrest, hkeep⟩ := foldl_wr_cell hg (s.span p f.lo f.hi) s
    obtain ⟨u, hu⟩ : ∃ u, u = (s.span p f.lo f.hi).foldl g s := ⟨_, rfl⟩
    rw [← hu] at hexec hrest hkeep
    obtain ⟨v, hv⟩ : ∃ v, v = (u.setSound p fun q => { q with focusRun := none, updates := q.updates ++ [(f.lo, f.hi, u.now)] }) :=
      ⟨_, rfl⟩
    rw [← hv] at hexec
    have hports : u.ports = s.ports := by rw [hrest]
    have hnow : u.now = s.now := by rw [hrest]; rfl
    have hsound : (v.port p).sound = { (s.port p).sound with
        focusRun := none, updates := (s.port p).sound.updates ++ [(f.lo, f.hi, s.now)] } := by
      rw [hv, State.setSound, State.port_setPort_self, State.port_congr hports, hnow]
    have hregs : v.regs = u.regs := by rw [hv]; rfl
    have hbelow (o : Obj) (i j : Nat) (h : o.key i j < 0x3800 * 268435456) : v.rd o i j = s.rd o i j := by
      unfold State.rd
      rw [hregs, hkeep _ fun k _ => ?_]
      have := key_cellMap_le p k
      omega
    have hsigned := signOrOwe_signed (p := p) (.refl (v.cntSound p Reg.LR_FOCUS_RUNS)) (some (f.lo, f.hi), f.acc.measured)
    obtain ⟨hrun', hupdates⟩ := sound_of_unsigned (hsigned.ports p)
    have hp := p.isLt
    refine ⟨_, hexec, ?_, ?_, ?_, fun i hi hlt => ?_⟩
    · rw [State.port_keep, hrun', State.port_congr (State.cntSound_ports ..), hsound]
    · rw [State.port_keep, hupdates, State.port_congr (State.cntSound_ports ..), hsound]
    · rw [State.rd_keep, hsigned.rd Reg.LR_FOCUS_RUNS (by decide) hp (by decide) (by simp only [Obj.key, Reg.LR_FOCUS_RUNS]; omega)]
      refine rd_cntSound_congr (hbelow _ _ _ ?_) (hbelow _ _ _ ?_)
      · simp only [Obj.key, Reg.LP_STATE_state]
        omega
      · simp only [Obj.key, Reg.LR_FOCUS_RUNS]
        omega
    · have hcell : (v.cntSound p Reg.LR_FOCUS_RUNS).cell p i = s.cell p i := by
        refine congrArg Int.toNat ((State.rd_cntSound_other _ _ Obj.key_ne).trans ?_)
        unfold State.rd
        rw [hregs, hkeep _ fun k hk => ?_]
        have hk := mem_span hk
        simp only [Obj.key]
        omega
      rw [cell_congr (State.keep_regs ..), ← cellCurrent_unsited, hsigned.cells, cellCurrent_unsited, hcell]
  case start =>
    intro s p hruns hstart hbulk hreadout
    have hcore (u : State) : u.keep s = u.keep s := rfl
    have hexec : exec (.readoutStart p) s = execReadoutStart p s := rfl
    unfold Completes
    rw [hexec, execReadoutStart, guarded_pos s ⟨hruns, hstart, hbulk⟩, readoutTail_none hreadout]
    dsimp only
    obtain ⟨u, hu⟩ : ∃ u, u = ((s.wr Reg.LR_READOUT_start p 0 0).wr Reg.LR_READOUT_state p 0 1).setSound p fun q =>
      { q with readout := some (s.rdN Reg.LR_READOUT_content p, s.rdN Reg.LR_READOUT_first_cell p,
          s.rdN Reg.LR_READOUT_count p, s.rdN Reg.LR_READOUT_snapshot p, 0),
               reading := Store.get [] q.history (s.rdN Reg.LR_READOUT_snapshot p) } := ⟨_, rfl⟩
    rw [← hu]
    have hread (o : Obj) {i : Nat} (hstart : o.apart Reg.LR_READOUT_start = true) (hstate : o.apart Reg.LR_READOUT_state = true)
        (hi : i < 32) : u.rd o i = s.rd o i := by
      rw [hu, State.rd_congr (State.setSound_regs ..), State.rd_wr_other _ _ (Obj.key_ne hstate hi (by decide) p.isLt
        (by decide)), State.rd_wr_other _ _ (Obj.key_ne hstart hi (by decide) p.isLt (by decide))]
    have halike : s.SendsAlike u := by
      refine ⟨?_, ?_, ?_, ?_, fun x => hread _ (by decide) (by decide) ((Side.n_lt x).trans (by decide))⟩
      all_goals
        rw [hu]
        rfl
    have hside : u.hostSide = s.hostSide := by
      unfold State.hostSide
      rw [hread _ (by decide) (by decide) (by decide)]
    have hcount : u.refreshCount p = be 4 (s.rdN Reg.LR_STATUS_REFRESHES p) := by
      rw [refreshCount_eq]
      unfold State.rdN
      rw [hread _ (by decide) (by decide) p.isLt]
    have hsent (b : Bytes) (o : Obj) (ho : o.apart Reg.PF_PORT_CREDIT_STALLS = true) :
        (u.sendBulk p 0 false b).rd o p = u.rd o p :=
      State.rd_sendHost _ _ _ _ _ (Obj.key_ne ho p.isLt (by decide) ((Side.n_lt _).trans (by decide)) (by decide))
    refine ⟨_, rfl, ?_, ?_, ?_, ?_⟩
    · rw [State.rd_keep, hsent _ _ (by decide), hu, State.rd_congr (State.setSound_regs ..), State.rd_wr_self]
    · rw [State.rd_keep, hsent _ _ (by decide), hu, State.rd_congr (State.setSound_regs ..), State.rd_wr_other _ _ Obj.key_ne,
        State.rd_wr_self]
    · rw [State.port_keep, State.sendBulk, State.port_congr (State.sendHost_ports ..), hu, State.setSound,
        State.port_setPort_self]
    · rw [State.keep_pf, sendBulk_pf halike hside, hcount]
  case finish =>
    intro s p content first count pos sent hruns hbulk hreadout hsent
    have hexec : exec (.readoutEnd p) s = execReadoutEnd p s := rfl
    unfold Completes
    rw [hexec, execReadoutEnd]
    simp only [hreadout]
    rw [guarded_pos s ⟨hruns, hbulk, hsent⟩, State.readoutTail]
    simp only [hreadout]
    refine ⟨_, rfl, ?_, ?_, ?_⟩
    · rw [State.rd_keep, State.rd_wr_self]
    · rw [State.port_keep, State.port_wr, State.setSound, State.port_setPort_self]
    · rw [State.keep_pf, State.wr_pf, State.setSound_pf, refreshCount_eq]

end Sys2Proof.Machine
end

section
/-! Sweeps, bands and cells (R255 to R274). -/

namespace Sys2Proof.Machine

set_option Elab.async false

variable {s t : State} {p : Port}

/-! ### Engines that go on or idle (R265, R269) -/

/-- What a port holds of its bands. -/
def SoundState.bands (q : SoundState) : BandAcc × BandAcc × BandAcc × List Nat × Nat :=
  (q.near, q.mid, q.far, q.ready, q.lastBand)

theorem acc_of_bands {q r : SoundState} (h : q.bands = r.bands) (b : Nat) : q.acc b = r.acc b := by
  have hnear := congrArg (fun x => x.1) h
  have hmid := congrArg (fun x => x.2.1) h
  have hfar := congrArg (fun x => x.2.2.1) h
  dsimp only [SoundState.bands] at hnear hmid hfar
  unfold SoundState.acc
  rw [hnear, hmid, hfar]

theorem ready_of_bands {q r : SoundState} (h : q.bands = r.bands) : q.ready = r.ready ∧ q.lastBand = r.lastBand := by
  have hready := congrArg (fun x => x.2.2.2.1) h
  have hlast := congrArg (fun x => x.2.2.2.2) h
  exact ⟨hready, hlast⟩

theorem acc_setAcc (q : SoundState) (b : Nat) (f : BandAcc → BandAcc) : (q.setAcc b f).acc b = f (q.acc b) := by
  unfold SoundState.setAcc SoundState.acc
  split
  · rfl
  · split
    · rfl
    · rfl

theorem setAcc_ready (q : SoundState) (b : Nat) (f : BandAcc → BandAcc) : (q.setAcc b f).ready = q.ready := by
  unfold SoundState.setAcc
  split
  · rfl
  · split
    · rfl
    · rfl

theorem sound_setSound (s : State) (p : Port) (f : SoundState → SoundState) :
    ((s.setSound p f).port p).sound = f (s.port p).sound := congrArg PortState.sound (State.port_setPort_self ..)

/-- The end of a sound interval: its blanking and its freeze end with it (R174, R265). -/
theorem sweptLast_spec (s : State) (p : Port) : s.sweptLast p = { s with ports := (s.sweptLast p).ports }
    ∧ ∃ u, ((s.sweptLast p).port p).sound = { (s.port p).sound with blankUntil := u } := by
  unfold State.sweptLast
  split
  · exact ⟨rfl, _, rfl⟩
  · next finish _ =>
    refine ⟨rfl, finish + 384000, ?_⟩
    dsimp only
    refine (State.port_setPort_keeps PortState.sound _ p _ (by exact fun _ => rfl) p).trans ?_
    rw [sound_setSound]

theorem soundIdle_spec (s : State) (p : Port) : s.soundIdle p = { s with ports := (s.soundIdle p).ports }
    ∧ ∃ u, ((s.soundIdle p).port p).sound
      = { (s.port p).sound with band := none, setup := false, focusOn := false, blankUntil := u } := by
  obtain ⟨hrest, u, hsound⟩ := sweptLast_spec (s.setSound p fun q => { q with band := none, setup := false, focusOn := false }) p
  refine ⟨hrest, u, hsound.trans ?_⟩
  rw [sound_setSound]

/-- A sweep that fits its window goes out at its level (R262, R269). -/
theorem startSweep_fits {b : Nat} (hfits : s.now + sweepPeriod b ≤ s.windowLimit p) (hbarred : s.soundBarred p = false) :
    (s.startSweep p b).out = .sweep p b (s.sweepLevel p b) (s.shaping p) :: s.out
      ∧ (∃ u, ((s.startSweep p b).port p).sound = { (s.port p).sound with
          setup := false, stepEnd := s.now + sweepPeriod b, sweepEnd := some (s.now + sweepLength b), blankUntil := u })
      ∧ s.startSweep p b = { s with ports := (s.startSweep p b).ports, out := (s.startSweep p b).out } := by
  unfold State.startSweep
  rw [if_pos ⟨hfits, by rw [hbarred]; rfl⟩]
  dsimp only
  split
  · obtain ⟨hrest, u, hsound⟩ := sweptLast_spec ((s.setSound p fun q => { q with
      setup := false, stepEnd := s.now + sweepPeriod b, sweepEnd := some (s.now + sweepLength b) }).emit
        (.sweep p b (s.sweepLevel p b) (s.shaping p))) p
    refine ⟨?_, ⟨u, hsound.trans ?_⟩, ?_⟩
    · rw [hrest]
      rfl
    · rw [State.port_emit, sound_setSound]
    · rw [hrest]
      rfl
  · refine ⟨rfl, ⟨(s.port p).sound.blankUntil, ?_⟩, rfl⟩
    rw [State.port_emit, sound_setSound]

theorem startSweep_idles {b : Nat} (h : s.windowLimit p < s.now + sweepPeriod b ∨ s.soundBarred p = true) :
    s.startSweep p b = s.soundIdle p := by
  refine if_neg fun hfits => ?_
  obtain hlate | hbarred := h
  · exact absurd hfits.1 (not_le.mpr hlate)
  · rw [hbarred] at hfits
    exact absurd hfits.2 (by decide)

/-- Whether the next sweep goes out or the engine idles, the bands stay as they are. -/
theorem startSweep_bands (s : State) (p : Port) (b : Nat) :
    ((s.startSweep p b).port p).sound.bands = (s.port p).sound.bands
      ∧ s.startSweep p b = { s with ports := (s.startSweep p b).ports, out := (s.startSweep p b).out } := by
  by_cases h : s.windowLimit p < s.now + sweepPeriod b ∨ s.soundBarred p = true
  · obtain ⟨hrest, u, hsound⟩ := soundIdle_spec s p
    rw [startSweep_idles h, hsound]
    refine ⟨rfl, hrest.trans ?_⟩
    rw [hrest]
  · rw [not_or, Bool.not_eq_true] at h
    obtain ⟨-, ⟨u, hsound⟩, hrest⟩ := startSweep_fits (not_lt.mp h.1) h.2
    exact ⟨by rw [hsound]; rfl, hrest⟩

/-- The band whose setup begins, or the idle engine, keeps the bands as they are. -/
theorem startBand_bands (s : State) (p : Port) (b : Nat) : ((s.startBand p b).port p).sound.bands = (s.port p).sound.bands
    ∧ s.startBand p b = { s with regs := (s.startBand p b).regs, ports := (s.startBand p b).ports } := by
  have hidle : ((s.soundIdle p).port p).sound.bands = (s.port p).sound.bands
      ∧ s.soundIdle p = { s with regs := (s.soundIdle p).regs, ports := (s.soundIdle p).ports } := by
    obtain ⟨hrest, u, hsound⟩ := soundIdle_spec s p
    refine ⟨by rw [hsound]; rfl, hrest.trans ?_⟩
    rw [hrest]
  unfold State.startBand
  dsimp only
  split
  · rw [State.port_wr, State.port_wr]
    split
    · obtain ⟨hrest, u, hsound⟩ := sweptLast_spec (s.setSound p fun q => { q with
        band := some b, setup := true, stepEnd := s.setupFrom p + setupTime, focusOn := false }) p
      refine ⟨?_, ?_⟩
      · rw [hsound, sound_setSound]
        rfl
      · rw [hrest]
        rfl
    · refine ⟨?_, rfl⟩
      rw [sound_setSound]
      rfl
  · exact hidle

theorem serveBands_bands (s : State) (p : Port) : ((s.serveBands p).port p).sound.bands = (s.port p).sound.bands
    ∧ s.serveBands p = { s with regs := (s.serveBands p).regs, ports := (s.serveBands p).ports } := by
  unfold State.serveBands
  split
  · exact startBand_bands s p _
  · obtain ⟨hrest, u, hsound⟩ := soundIdle_spec s p
    refine ⟨by rw [hsound]; rfl, hrest.trans ?_⟩
    rw [hrest]

/-! ### The projection of a band (R271, R272) -/

/-- The projection writes cells of the map, and the stamp of the update; nothing else. -/
theorem project_spec (s : State) (p : Port) (b : Nat) :
    s.project p b = { s with regs := (s.project p b).regs, ports := (s.project p b).ports }
      ∧ (∃ l, ((s.project p b).port p).sound = { (s.port p).sound with updates := l })
      ∧ ∀ k < 0x3800 * 268435456, Store.get 0 (s.project p b).regs k = Store.get 0 s.regs k := by
  unfold State.project
  dsimp only
  split
  · exact ⟨rfl, ⟨_, rfl⟩, fun _ _ => rfl⟩
  · next prof _ =>
    have hcells := foldl_wr_cell (s := s) (p := p) (l := s.span p (bandLo b) (bandHi b)) (f := fun t i =>
      t.wr Reg.CELL_MAP p i (updatedCell (t.cell p i) (projected b prof ((otherBand b i).bind fun o =>
        if t.bandEnabled p o then ((t.port p).sound.acc o).profile else none) ((s.port p).sound.acc b).velocity i)
          (some (s.rdN Reg.LR_SIG_trend_shift p)) : Nat)) fun t i => .inr ⟨_, rfl⟩
    generalize (s.span p (bandLo b) (bandHi b)).foldl _ s = u at hcells ⊢
    obtain ⟨hrest, hkeep⟩ := hcells
    have hports : u.ports = s.ports := by rw [hrest]
    refine ⟨?_, ?_, fun k hk => hkeep k fun i _ => ?_⟩
    · rw [hrest]
      rfl
    · rw [sound_setSound, State.port_congr hports]
      exact ⟨_, rfl⟩
    · have := key_cellMap_le p i
      omega

theorem rd_project (s : State) (p : Port) (b : Nat) {o : Obj} {i j : Nat} (hbelow : o.key i j < 0x3800 * 268435456) :
    (s.project p b).rd o i j = s.rd o i j := by
  unfold State.rd
  rw [(project_spec s p b).2.2 _ hbelow]

/-! ### Records (R266, R267) -/

theorem add_accepted {a : BandAcc} {r : SweepRecord} {taps : List Int} (h : a.rejects r taps = false) (tw : Int) (stamp : Stamp) :
    (a.add r taps tw stamp).accepted = a.accepted + 1 ∧ (a.add r taps tw stamp).swept = a.swept + 1
      ∧ (a.add r taps tw stamp).sum
        = if a.sum = [] then sweepFiltered r taps else List.zipWith (· + ·) a.sum (sweepFiltered r taps) := by
  have hrejects : ({ a with swept := a.swept + 1 } : BandAcc).rejects r taps = false := h
  unfold BandAcc.add
  dsimp only
  rw [hrejects]
  exact ⟨rfl, rfl, rfl⟩

theorem add_rejected {a : BandAcc} {r : SweepRecord} {taps : List Int} (h : a.rejects r taps = true) (tw : Int) (stamp : Stamp) :
    a.add r taps tw stamp = { a with swept := a.swept + 1 } := if_pos h

/-- The sweep counters of a record (R269). -/
def State.sweepCounted (s : State) (p : Port) (rejected : Bool) : State :=
  let s := s.cntSound p Reg.LR_STATUS_SWEEPS
  if rejected then s.cntSound p Reg.LR_STATUS_REJECTED else s

theorem sweepCounted_spec (s : State) (p : Port) (rejected : Bool) (hstate : s.portState p = stService) :
    (s.sweepCounted p rejected).rd Reg.LR_STATUS_SWEEPS p = (s.rd Reg.LR_STATUS_SWEEPS p + 1) % 18446744073709551616
      ∧ (s.sweepCounted p rejected).rd Reg.LR_STATUS_REJECTED p = (if rejected then
          (s.rd Reg.LR_STATUS_REJECTED p + 1) % 18446744073709551616 else s.rd Reg.LR_STATUS_REJECTED p)
      ∧ s.sweepCounted p rejected = { s with regs := (s.sweepCounted p rejected).regs } := by
  have hsweeps := State.rd_cntSound_self s p Reg.LR_STATUS_SWEEPS 1 (.inr (.inl hstate))
  have hother : (s.cntSound p Reg.LR_STATUS_SWEEPS).rd Reg.LR_STATUS_REJECTED p = s.rd Reg.LR_STATUS_REJECTED p :=
    State.rd_cntSound_other _ _ Obj.key_ne
  have hstate' : (s.cntSound p Reg.LR_STATUS_SWEEPS).portState p = stService :=
    (State.rd_cntSound_other _ _ Obj.key_ne).trans hstate
  have hframe := cntSound_eq s p Reg.LR_STATUS_SWEEPS
  unfold State.sweepCounted
  obtain ⟨u, hu⟩ : ∃ u, u = s.cntSound p Reg.LR_STATUS_SWEEPS := ⟨_, rfl⟩
  rw [← hu] at hsweeps hother hstate' hframe ⊢
  cases rejected with
  | false => exact ⟨hsweeps, hother, hframe⟩
  | true =>
    refine ⟨(State.rd_cntSound_other _ _ Obj.key_ne).trans hsweeps, ?_, (cntSound_eq ..).trans ?_⟩
    · rw [if_pos rfl, if_pos rfl, State.rd_cntSound_self _ _ _ _ (.inr (.inl hstate')), hother]
    · rw [if_pos rfl, hframe]

/-- A sweep's record (R266, R267, R269): it is counted and enters its band, and the next sweep follows where the band is
not complete. -/
theorem exec_sweepRecordEnd {r : SweepRecord} {b : Nat} (hruns : s.runs = true) (hband : (s.port p).sound.band = some b)
    (hfocus : (s.port p).sound.focusOn = false) (hengine : (s.port p).sound.engine.isSome = true)
    (hsetup : (s.port p).sound.setup = false) (hend : (s.port p).sound.stepEnd ≤ s.now) (hfull : s.bandFull p b = false) :
    exec (.sweepRecordEnd p r) s = .next (State.keep (
      let a := ((s.port p).sound.acc b).add r (tapsIn 32 (s.calInForce p).ffe) (s.rd Reg.LR_VELOCITY_T_w p)
        (s.port p).sound.stepEnd
      let u := ((s.sweepCounted p (((s.port p).sound.acc b).rejects r (tapsIn 32 (s.calInForce p).ffe))).setSound p fun q =>
        q.setAcc b fun _ => a).wr Reg.LR_STATUS_accepted p 0 a.accepted
      if u.bandFull p b then u else u.startSweep p b) s) := by
  have hexec : exec (.sweepRecordEnd p r) s = execSweepRecordEnd p r s := rfl
  rw [hexec, execSweepRecordEnd]
  simp only [hband]
  rw [if_neg (by rw [hfocus]; decide), guarded_pos s ⟨hruns, hengine, by rw [hsetup]; rfl, hend, by rw [hfull]; rfl⟩]
  rfl

theorem recordEnd_spec {r : SweepRecord} {b : Nat} (hruns : s.runs = true) (hstate : s.portState p = stService)
    (hband : (s.port p).sound.band = some b) (hfocus : (s.port p).sound.focusOn = false)
    (hengine : (s.port p).sound.engine.isSome = true) (hsetup : (s.port p).sound.setup = false)
    (hend : (s.port p).sound.stepEnd ≤ s.now) (hfull : s.bandFull p b = false) :
    Completes (.sweepRecordEnd p r) s fun t =>
      (t.port p).sound.acc b = ((s.port p).sound.acc b).add r (tapsIn 32 (s.calInForce p).ffe) (s.rd Reg.LR_VELOCITY_T_w p)
        (s.port p).sound.stepEnd
      ∧ t.rd Reg.LR_STATUS_SWEEPS p = (s.rd Reg.LR_STATUS_SWEEPS p + 1) % 18446744073709551616
      ∧ t.rd Reg.LR_STATUS_REJECTED p = (if ((s.port p).sound.acc b).rejects r (tapsIn 32 (s.calInForce p).ffe) then
          (s.rd Reg.LR_STATUS_REJECTED p + 1) % 18446744073709551616 else s.rd Reg.LR_STATUS_REJECTED p)
      ∧ t.rd Reg.LR_STATUS_accepted p = (((t.port p).sound.acc b).accepted : Nat)
      ∧ t = { s with regs := t.regs, ports := t.ports, out := t.out } := by
  have hexec := exec_sweepRecordEnd (r := r) hruns hband hfocus hengine hsetup hend hfull
  obtain ⟨hsweeps, hrejected, hframe⟩ :=
    sweepCounted_spec s p (((s.port p).sound.acc b).rejects r (tapsIn 32 (s.calInForce p).ffe)) hstate
  dsimp only at hexec
  obtain ⟨a, ha⟩ : ∃ a, a = ((s.port p).sound.acc b).add r (tapsIn 32 (s.calInForce p).ffe) (s.rd Reg.LR_VELOCITY_T_w p)
    (s.port p).sound.stepEnd := ⟨_, rfl⟩
  obtain ⟨v, hv⟩ : ∃ v, v = s.sweepCounted p (((s.port p).sound.acc b).rejects r (tapsIn 32 (s.calInForce p).ffe)) := ⟨_, rfl⟩
  rw [← hv] at hsweeps hrejected hframe
  rw [← ha, ← hv] at hexec
  rw [← ha]
  obtain ⟨u, hu⟩ : ∃ u, u = (v.setSound p fun q => q.setAcc b fun _ => a).wr Reg.LR_STATUS_accepted p 0 a.accepted := ⟨_, rfl⟩
  rw [← hu] at hexec
  have hacc : (u.port p).sound.acc b = a := by
    rw [hu, State.port_wr, sound_setSound, acc_setAcc]
  have hread (o : Obj) (ho : o.apart Reg.LR_STATUS_accepted = true) : u.rd o p = v.rd o p := by
    rw [hu, State.rd_wr_other _ _ (Obj.key_ne ho p.isLt (by decide) p.isLt (by decide)), State.rd_congr (State.setSound_regs ..)]
  have haccepted : u.rd Reg.LR_STATUS_accepted p = (a.accepted : Nat) := by
    rw [hu, State.rd_wr_self]
  have hrest : u = { s with regs := u.regs, ports := u.ports } := by
    rw [hu, hframe]
    rfl
  obtain ⟨hbands, hnext⟩ := startSweep_bands u p b
  have hlast : ∃ w : State, exec (.sweepRecordEnd p r) s = .next (w.keep s) ∧ (w.port p).sound.acc b = a ∧ w.regs = u.regs
      ∧ w = { s with regs := w.regs, ports := w.ports, out := w.out } := by
    by_cases h : u.bandFull p b = true
    · rw [if_pos h] at hexec
      refine ⟨u, hexec, hacc, rfl, ?_⟩
      exact hrest.trans (by rw [hrest])
    · rw [if_neg h] at hexec
      have hregs : (u.startSweep p b).regs = u.regs := by rw [hnext]
      refine ⟨_, hexec, (acc_of_bands hbands b).trans hacc, hregs, hnext.trans ?_⟩
      rw [hregs]
      rw [hrest]
  obtain ⟨w, hw, hwacc, hregs, hwrest⟩ := hlast
  refine ⟨_, hw, ?_, ?_, ?_, ?_, ?_⟩
  · rw [State.port_keep, hwacc]
  · rw [State.rd_keep, State.rd_congr hregs, hread _ (by decide), hsweeps]
  · rw [State.rd_keep, State.rd_congr hregs, hread _ (by decide), hrejected]
  · rw [State.rd_keep, State.port_keep, State.rd_congr hregs, haccepted, hwacc]
  · rw [hwrest]
    rfl

/-! ### Bands that are complete, and their cells (R257, R267 to R274) -/

/-- A band compressed at the velocity in force (R270, R276). -/
def State.compressed (s : State) (p : Port) (b : Nat) : BandAcc where
  measured := ((s.port p).sound.acc b).measured
  profile := some (Config.compress b (s.sweepLevel p b) ((s.port p).sound.acc b).accepted ((s.port p).sound.acc b).sum)
  velocity := s.velocity p

theorem exec_bandComplete {b : Nat} (hruns : s.runs = true) (hband : (s.port p).sound.band = some b)
    (hfocus : (s.port p).sound.focusOn = false) (hsetup : (s.port p).sound.setup = false) (hfull : s.bandFull p b = true) :
    exec (.bandComplete p) s = .next (State.keep (
      if s.rdN Reg.LR_CTL_averages p ≤ 2 * ((s.port p).sound.acc b).accepted then
        (s.setSound p fun q => { q.setAcc b fun _ => s.compressed p b with ready := q.ready ++ [b], lastBand := b }).serveBands p
      else (s.setSound p fun q => q.setAcc b BandAcc.restart).startBand p b) s) := by
  have hexec : exec (.bandComplete p) s = execBandComplete p s := rfl
  rw [hexec, execBandComplete]
  simp only [hband]
  rw [guarded_pos s ⟨hruns, by rw [hfocus]; rfl, by rw [hsetup]; rfl, hfull⟩]
  rfl

/-- A profile that waits is projected in a slot of the cell map (R257). -/
theorem exec_cellUpdate {b : Nat} {rest : List Nat} (hruns : s.runs = true) (hready : (s.port p).sound.ready = b :: rest)
    (hslot : s.cellSlot = true) : exec (.cellUpdate p) s = .next (State.keep (
      let u := (s.project p b).setSound p fun q => { q with ready := rest, done := q.done ||| 2 ^ b }
      if [0, 1, 2].all fun b => !u.bandEnabled p b || bit (u.port p).sound.done b then u.refreshDone p else u) s) := by
  have hexec : exec (.cellUpdate p) s = execCellUpdate p s := rfl
  rw [hexec, execCellUpdate]
  simp only [hready]
  rw [guarded_pos s ⟨hruns, hslot⟩]

/-- The state after the projection of a band. -/
def State.projected' (s : State) (p : Port) (b : Nat) (rest : List Nat) : State :=
  (s.project p b).setSound p fun q => { q with ready := rest, done := q.done ||| 2 ^ b }

theorem projected'_spec (s : State) (p : Port) (b : Nat) (rest : List Nat) :
    (s.projected' p b rest).regs = (s.project p b).regs
      ∧ (∃ l, ((s.projected' p b rest).port p).sound
        = { (s.port p).sound with ready := rest, done := (s.port p).sound.done ||| 2 ^ b, updates := l })
      ∧ (∀ x, (s.projected' p b rest).bandEnabled p x = s.bandEnabled p x)
      ∧ s.projected' p b rest = { s with regs := (s.projected' p b rest).regs, ports := (s.projected' p b rest).ports } := by
  obtain ⟨hrest, ⟨l, hsound⟩, -⟩ := project_spec s p b
  have hbands : (s.projected' p b rest).rd Reg.LR_CTL_bands p = s.rd Reg.LR_CTL_bands p := by
    refine (State.rd_congr (State.setSound_regs ..) ..).trans (rd_project s p b ?_)
    have := p.isLt
    simp only [Obj.key, Reg.LR_CTL_bands]
    omega
  refine ⟨rfl, ⟨l, ?_⟩, fun x => ?_, ?_⟩
  · unfold State.projected'
    rw [sound_setSound, hsound]
  · unfold State.bandEnabled State.rdN
    rw [hbands]
  · unfold State.projected'
    rw [hrest]
    rfl

/-- A history snapshot writes its position and its stamp, and the history (R274). -/
theorem historyStep_spec (s : State) (p : Port) : s.ReadsBut [Reg.LR_HISTORY_newest] (s.historyStep p).2
    ∧ ((s.historyStep p).2.port p).sound.ready = (s.port p).sound.ready
    ∧ ((s.historyStep p).2.port p).sound.capture = (s.port p).sound.capture := by
  unfold State.historyStep
  dsimp only
  split
  · refine ⟨.then_regs ?_ (State.wrB_regs ..), ?_, ?_⟩
    · exact (State.ReadsBut.of_regs (State.setSound_regs ..)).wr _ (by decide) p.isLt (by decide)
    · rw [State.port_wrB, State.port_wr, sound_setSound]
    · rw [State.port_wrB, State.port_wr, sound_setSound]
  · exact ⟨.refl s, rfl, rfl⟩

theorem bands_of_unsigned {q r : PortState} (h : q.unsigned = r.unsigned) :
    q.sound.ready = r.sound.ready ∧ q.sound.done = r.sound.done := by
  have hready := congrArg (fun x : PortState => x.sound.ready) h
  have hdone := congrArg (fun x : PortState => x.sound.done) h
  exact ⟨hready, hdone⟩

theorem refreshDone_eq (s : State) (p : Port) : ∃ b, s.refreshDone p =
    let m := (([0, 1, 2].filter fun x => s.bandEnabled p x).map fun x => ((s.port p).sound.acc x).measured).foldl max 0
    let v := ((((s.cntSound p Reg.LR_STATUS_REFRESHES).wr Reg.LR_STATUS_refresh_stamp p 0 m).historyStep p).2.issue (srcLine p)
      0x0605 b).setSound p fun q => { q with done := 0 }
    (if (v.port p).sound.capture.isSome then v.captureStep p else v).signOrOwe p (none, m) := ⟨_, rfl⟩

theorem exec_sweepSetupEnd {b : Nat} (hruns : s.runs = true) (hband : (s.port p).sound.band = some b)
    (hengine : (s.port p).sound.engine.isSome = true) (hsetup : (s.port p).sound.setup = true)
    (hend : (s.port p).sound.stepEnd ≤ s.now) : exec (.sweepSetupEnd p) s = .next ((s.startSweep p b).keep s) := by
  have hexec : exec (.sweepSetupEnd p) s = execSweepSetupEnd p s := rfl
  rw [hexec, execSweepSetupEnd]
  simp only [hband]
  rw [guarded_pos s ⟨hruns, hengine, hsetup, hend⟩]

/-- The refresh that is done (R274): it is counted and stamped, and its bands begin anew. -/
theorem refreshDone_spec (s : State) (p : Port) (hstate : s.portState p = stService) (hcapture : (s.port p).sound.capture = none) :
    ((s.refreshDone p).port p).sound.ready = (s.port p).sound.ready ∧ ((s.refreshDone p).port p).sound.done = 0
      ∧ (s.refreshDone p).rd Reg.LR_STATUS_REFRESHES p = (s.rd Reg.LR_STATUS_REFRESHES p + 1) % 18446744073709551616
      ∧ (s.refreshDone p).rd Reg.LR_STATUS_refresh_stamp p
        = (([0, 1, 2].filter fun x => s.bandEnabled p x).map fun x => ((s.port p).sound.acc x).measured).foldl max 0 := by
  obtain ⟨m, hm⟩ : ∃ m, m = (([0, 1, 2].filter fun x => s.bandEnabled p x).map fun x =>
    ((s.port p).sound.acc x).measured).foldl max 0 := ⟨_, rfl⟩
  obtain ⟨u, hu⟩ : ∃ u, u = (s.cntSound p Reg.LR_STATUS_REFRESHES).wr Reg.LR_STATUS_refresh_stamp p 0 m := ⟨_, rfl⟩
  have hcount : u.rd Reg.LR_STATUS_REFRESHES p = (s.rd Reg.LR_STATUS_REFRESHES p + 1) % 18446744073709551616 := by
    rw [hu, State.rd_wr_other _ _ Obj.key_ne, State.rd_cntSound_self _ _ _ _ (.inr (.inl hstate))]
  have hstamp : u.rd Reg.LR_STATUS_refresh_stamp p = m := by rw [hu, State.rd_wr_self]
  have hports : u.ports = s.ports := by rw [hu, State.wr_ports, State.cntSound_ports]
  obtain ⟨b, hdone⟩ := refreshDone_eq s p
  dsimp only at hdone
  rw [← hm, ← hu] at hdone
  obtain ⟨hreads, hready, hnone⟩ := historyStep_spec u p
  obtain ⟨v, hv⟩ : ∃ v, v = ((u.historyStep p).2.issue (srcLine p) 0x0605 b).setSound p fun q => { q with done := 0 } := ⟨_, rfl⟩
  have hsound : (v.port p).sound = { ((u.historyStep p).2.port p).sound with done := 0 } := by
    rw [hv, sound_setSound, State.port_congr (State.issue_ports ..)]
  have hcapture' : (v.port p).sound.capture.isSome = false := by
    rw [hsound]
    dsimp only
    rw [hnone, State.port_congr hports, hcapture]
    rfl
  have hread (o : Obj) (ho : o.apart Reg.LR_HISTORY_newest = true) : v.rd o p = u.rd o p := by
    rw [hv, State.rd_congr (State.setSound_regs ..), State.rd_congr (State.issue_regs ..)]
    refine hreads.rd ?_ p.isLt (by decide)
    rw [List.all_cons, ho]
    rfl
  rw [← hv, hcapture', if_neg (by decide)] at hdone
  have hsigned := signOrOwe_signed (p := p) (.refl v) (none, m)
  obtain ⟨hready', hdone'⟩ := bands_of_unsigned (hsigned.ports p)
  have hp := p.isLt
  rw [hdone]
  refine ⟨?_, ?_, ?_, ?_⟩
  · rw [hready', hsound]
    dsimp only
    rw [hready, State.port_congr hports]
  · rw [hdone', hsound]
  · rw [hsigned.rd Reg.LR_STATUS_REFRESHES (by decide) hp (by decide) (by simp only [Obj.key, Reg.LR_STATUS_REFRESHES]; omega),
      hread _ (by decide), hcount]
  · rw [hsigned.rd Reg.LR_STATUS_refresh_stamp (by decide) hp (by decide)
      (by simp only [Obj.key, Reg.LR_STATUS_refresh_stamp]; omega), hread _ (by decide), hstamp, hm]

/-- Settles O28, over every state. -/
theorem sweepsComplete : Obligations.SweepsComplete := by
  unfold Obligations.SweepsComplete
  refine ⟨?setupFits, ?setupIdles, ?accepted, ?rejected, ?complete, ?restart, ?projected, ?refreshed, ?stale⟩
  case setupFits =>
    intro s p b hruns hband hengine hsetup hend hfits hbarred
    obtain ⟨hout, ⟨u, hsound⟩, hrest⟩ := startSweep_fits hfits hbarred
    refine ⟨_, exec_sweepSetupEnd hruns hband hengine hsetup hend, hout, ?_, ?_, ?_, ?_⟩
    · rw [State.port_keep, hsound]
    · rw [State.port_keep, hsound]
    · rw [State.port_keep, hsound]
    · rw [hrest]
      rfl
  case setupIdles =>
    intro s p b hruns hband hengine hsetup hend hidle
    obtain ⟨hrest, u, hsound⟩ := soundIdle_spec s p
    have hexec := exec_sweepSetupEnd hruns hband hengine hsetup hend
    rw [startSweep_idles hidle] at hexec
    refine ⟨_, hexec, ?_, ?_, ?_⟩
    · rw [State.port_keep, hsound]
    · rw [State.port_keep, hsound]
    · rw [hrest]
      rfl
  case accepted =>
    intro s p r b hruns hstate hband hfocus hengine hsetup hend hfull hrejects
    obtain ⟨t, hexec, hacc, hsweeps, hrejected, haccepted, hrest⟩ :=
      recordEnd_spec (r := r) hruns hstate hband hfocus hengine hsetup hend hfull
    obtain ⟨hcount, hswept, hsum⟩ := add_accepted hrejects (s.rd Reg.LR_VELOCITY_T_w p) (s.port p).sound.stepEnd
    rw [hrejects, if_neg (by decide)] at hrejected
    rw [← hacc] at hcount hswept hsum
    exact ⟨t, hexec, hcount, hswept, hsum, hsweeps, hrejected, by rw [haccepted, hcount], hrest⟩
  case rejected =>
    intro s p r b hruns hstate hband hfocus hengine hsetup hend hfull hrejects
    obtain ⟨t, hexec, hacc, hsweeps, hrejected, -, hrest⟩ :=
      recordEnd_spec (r := r) hruns hstate hband hfocus hengine hsetup hend hfull
    rw [hrejects, if_pos rfl] at hrejected
    exact ⟨t, hexec, hacc.trans (add_rejected hrejects ..), hsweeps, hrejected, hrest⟩
  case complete =>
    intro s p b hruns hband hfocus hsetup hfull henough
    have hexec := exec_bandComplete hruns hband hfocus hsetup hfull
    rw [if_pos henough] at hexec
    obtain ⟨u, hu⟩ : ∃ u, u = s.setSound p fun q => { q.setAcc b fun _ => s.compressed p b with ready := q.ready ++ [b], lastBand := b } := ⟨_, rfl⟩
    have hsound := sound_setSound s p fun q => { q.setAcc b fun _ => s.compressed p b with ready := q.ready ++ [b], lastBand := b }
    have hrest : u = { s with ports := u.ports } := by rw [hu]; rfl
    rw [← hu] at hexec hsound
    obtain ⟨hbands, hnext⟩ := serveBands_bands u p
    obtain ⟨hready, hlast⟩ := ready_of_bands hbands
    have hacc : ((u.serveBands p).port p).sound.acc b = s.compressed p b := by
      rw [acc_of_bands hbands b, hsound]
      exact acc_setAcc _ b _
    refine ⟨_, hexec, ?_, ?_, ?_, ?_, ?_, ?_⟩
    · rw [State.port_keep, hready, hsound]
    · rw [State.port_keep, hacc]
      rfl
    · rw [State.port_keep, hacc]
      rfl
    · rw [State.port_keep, hacc]
      rfl
    · rw [State.port_keep, hlast, hsound]
    · rw [hnext, hrest]
      rfl
  case restart =>
    intro s p b hruns hband hfocus hsetup hfull hfew
    have hexec := exec_bandComplete hruns hband hfocus hsetup hfull
    rw [if_neg (by omega)] at hexec
    obtain ⟨u, hu⟩ : ∃ u, u = s.setSound p fun q => q.setAcc b BandAcc.restart := ⟨_, rfl⟩
    have hsound := sound_setSound s p fun q => q.setAcc b BandAcc.restart
    have hrest : u = { s with ports := u.ports } := by rw [hu]; rfl
    rw [← hu] at hexec hsound
    obtain ⟨hbands, hnext⟩ := startBand_bands u p b
    refine ⟨_, hexec, ?_, ?_, ?_⟩
    · rw [State.port_keep, (ready_of_bands hbands).1, hsound, setAcc_ready]
    · rw [State.port_keep, acc_of_bands hbands b, hsound, acc_setAcc]
    · rw [hnext, hrest]
      rfl
  case projected =>
    intro s p b rest hruns hready hslot hmore
    have hexec := exec_cellUpdate hruns hready hslot
    dsimp only at hexec
    obtain ⟨hregs, ⟨l, hsound⟩, hbands, hrest⟩ := projected'_spec s p b rest
    rw [← State.projected'] at hexec
    have hnone : ([0, 1, 2].all fun x => !(s.projected' p b rest).bandEnabled p x
        || bit ((s.projected' p b rest).port p).sound.done x) = false := by
      obtain ⟨x, hx, henabled, hbit⟩ := hmore
      refine List.all_eq_false.mpr ⟨x, by simp only [List.mem_cons, List.not_mem_nil, or_false]; omega, ?_⟩
      rw [hbands, henabled, hsound, hbit]
      decide
    rw [hnone, if_neg (by decide)] at hexec
    refine ⟨_, hexec, ?_, ?_, ?_, ?_⟩
    · rw [State.keep_regs, hregs]
    · rw [State.port_keep, hsound]
    · rw [State.port_keep, hsound]
    · rw [hrest]
      rfl
  case refreshed =>
    intro s p b rest hruns hready hslot hstate hcapture hall
    have hexec := exec_cellUpdate hruns hready hslot
    dsimp only at hexec
    obtain ⟨hregs, ⟨l, hsound⟩, hbands, -⟩ := projected'_spec s p b rest
    rw [← State.projected'] at hexec
    have hdone : ([0, 1, 2].all fun x => !(s.projected' p b rest).bandEnabled p x
        || bit ((s.projected' p b rest).port p).sound.done x) = true := by
      refine List.all_eq_true.mpr fun x hx => ?_
      rw [hbands, hsound]
      cases henabled : s.bandEnabled p x with
      | false => rfl
      | true =>
        rw [hall x (by simp only [List.mem_cons, List.not_mem_nil, or_false] at hx; omega) henabled]
        rfl
    rw [hdone, if_pos rfl] at hexec
    have hp := p.isLt
    have hread (o : Obj) (h : o.key p 0 < 0x3800 * 268435456) : (s.projected' p b rest).rd o p = s.rd o p :=
      (State.rd_congr hregs ..).trans (rd_project s p b h)
    obtain ⟨hready', hdone', hcount, hstamp⟩ := refreshDone_spec (s.projected' p b rest) p
      ((hread _ (by simp only [Obj.key, Reg.LP_STATE_state]; omega)).trans hstate) (by rw [hsound]; exact hcapture)
    refine ⟨_, hexec, ?_, hdone', ?_, ?_⟩
    · rw [State.port_keep, hready', hsound]
    · rw [State.rd_keep, hcount, hread _ (by simp only [Obj.key, Reg.LR_STATUS_REFRESHES]; omega)]
    · rw [State.rd_keep, hstamp]
      simp only [hbands, hsound]
      rfl
  case stale =>
    intro s p cell hruns hslot hmapped hfresh hold
    exact guarded_pos s ⟨hruns, hslot, hmapped, by rw [hfresh]; rfl, hold⟩

end Sys2Proof.Machine
end

section
/-! The DC monitor (R208, R307 to R311). -/

namespace Sys2Proof.Machine

set_option Elab.async false

variable {s t : State} {p : Port}

/-! ### The temperature and the velocity that follow a measurement (R268, R275, R276) -/

/-- The objects written with the wire temperature and the velocity. -/
def tuneObjects : List Obj :=
  [Reg.LR_VELOCITY_T_w, Reg.LR_VELOCITY_held, Reg.LR_VELOCITY_velocity, Reg.LR_STATUS_RESTARTED, Reg.LR_STATUS_band,
    Reg.LR_STATUS_accepted]

/-- What the wire temperature and the bands that start again with it leave. -/
structure State.Tuned (s t : State) : Prop where
  rest : t = { s with regs := t.regs, ports := t.ports }
  reads : s.ReadsBut tuneObjects t
  dc : ∀ q, (t.port q).dc = (s.port q).dc

namespace State.Tuned

theorem refl (s : State) : s.Tuned s := ⟨rfl, .refl s, fun _ => rfl⟩

theorem trans {u : State} (h : s.Tuned t) (k : t.Tuned u) : s.Tuned u := by
  refine ⟨?_, h.reads.trans k.reads, fun q => (k.dc q).trans (h.dc q)⟩
  have hrest := k.rest
  rw [h.rest] at hrest
  exact hrest

theorem of_wr (s : State) (p : Port) {o : Obj} (v : Int) (ho : o ∈ tuneObjects) : s.Tuned (s.wr o p 0 v) :=
  ⟨rfl, (State.ReadsBut.refl s).wr v ho p.isLt (by decide), fun _ => rfl⟩

theorem of_setPort (s : State) (p : Port) (f : PortState → PortState) (h : ∀ x, (f x).dc = x.dc) : s.Tuned (s.setPort p f) :=
  ⟨rfl, .of_regs (State.setPort_regs ..), State.port_setPort_keeps PortState.dc s p f h⟩

theorem rd (h : s.Tuned t) (o : Obj) {i : Nat} (ho : tuneObjects.all o.apart = true := by decide) (hi : i < 32 := by omega) :
    t.rd o i = s.rd o i := h.reads.rd ho hi (by decide)

end State.Tuned

theorem updateTw_tuned (s : State) (p : Port) : s.Tuned (s.updateTw p) := by
  unfold State.updateTw State.updateVelocity
  dsimp only
  refine .trans ?_ (.of_wr _ p _ (by decide))
  split
  · exact .trans (.of_wr s p _ (by decide)) (.of_wr _ p _ (by decide))
  · split
    · exact .of_wr s p _ (by decide)
    · exact .trans (.of_wr s p _ (by decide)) (.of_wr _ p _ (by decide))

theorem sweptLast_tuned (s : State) (p : Port) : s.Tuned (s.sweptLast p) := by
  unfold State.sweptLast
  split
  · exact .refl s
  · exact .trans (.of_setPort s p _ (by exact fun _ => rfl)) (.of_setPort _ p _ (by exact fun _ => rfl))

theorem soundIdle_tuned (s : State) (p : Port) : s.Tuned (s.soundIdle p) :=
  .trans (.of_setPort s p _ (by exact fun _ => rfl)) (sweptLast_tuned ..)

theorem startBand_tuned (s : State) (p : Port) (b : Nat) : s.Tuned (s.startBand p b) := by
  unfold State.startBand
  dsimp only
  split
  · refine .trans ?_ (.trans (.of_wr _ p _ (by decide)) (.of_wr _ p _ (by decide)))
    split
    · exact .trans (.of_setPort s p _ (by exact fun _ => rfl)) (sweptLast_tuned ..)
    · exact .of_setPort s p _ (by exact fun _ => rfl)
  · exact soundIdle_tuned s p

theorem cntSound_tuned (s : State) (p : Port) {o : Obj} (ho : o ∈ tuneObjects) : s.Tuned (s.cntSound p o) := by
  unfold State.cntSound
  split
  · exact .of_wr s p _ ho
  · exact .refl s

theorem tempRestart_tuned (s : State) (p : Port) : s.Tuned (s.tempRestart p) := by
  unfold State.tempRestart
  refine List.foldlRecOn (motive := s.Tuned) _ _ (.refl s) fun u hu b _ => hu.trans ?_
  dsimp only
  split
  · have hrestart : u.Tuned ((u.setSound p fun q => q.setAcc b BandAcc.restart).cntSound p Reg.LR_STATUS_RESTARTED) :=
      .trans (.of_setPort u p _ (by exact fun _ => rfl)) (cntSound_tuned _ p (by decide))
    split
    · exact hrestart.trans (startBand_tuned ..)
    · exact hrestart
  · exact .refl u

/-! ### A loop measurement (R307, R309, R311) -/

/-- Whether a loop reading steps by more than 5 % from the mean of the 16 before (R311). -/
def State.loopSteps (s : State) (p : Port) (value : Nat) (isOpen : Bool) : Bool :=
  let prev := (s.port p).dc.loops.take 16
  !isOpen && decide (prev.length = 16) && decide (prev.sum < 20 * ((value : Int) * 16 - prev.sum).natAbs)

/-- The DC state of a port after a loop reading. -/
def State.loopDc (s : State) (p : Port) (value : Nat) (isOpen : Bool) : DcState :=
  let step := s.loopSteps p value isOpen
  let q := (s.port p).dc
  { q with
    isOpen := some isOpen, loopBelow := !isOpen && decide (value = 0), loopResult := some (!isOpen),
    loops := if isOpen then q.loops else (value :: q.loops).take 17,
    seen := Machine.recent s.now (·.stamp)
      (⟨s.now, isOpen, value, if step then some (decide (value * 16 < ((s.port p).dc.loops.take 16).sum)) else none⟩ :: q.seen) }

/-- A loop reading written and stamped, before its alarms (R307, R309). -/
def State.loopRead (s : State) (p : Port) (value : Nat) (isOpen : Bool) : State :=
  let u := ((s.arm (.loop p.val) (s.now + nsPerSec)).wr Reg.LR_DC_loop p 0 value).wr Reg.LR_DC_loop_stamp p 0 s.now
  (u.setDc p fun _ => s.loopDc p value isOpen).dcFlags p fun f => setBit f 4 isOpen

/-- The alarms of a loop reading (R311), and the capture it fails (R290). -/
def State.loopAlarms (s u : State) (p : Port) (value : Nat) (isOpen : Bool) : State :=
  let u := if (s.port p).dc.isOpen = some (!isOpen) then u.dcAlarm p (if isOpen then 2 else 3) value else u
  let u := if s.loopSteps p value isOpen then u.dcAlarm p 4 value else u
  if isOpen then u.setSound p fun q => { q with capture := q.capture.map fun c => { c with opened := true } } else u

theorem exec_loopMeasurement {mohm : Option Nat} (hruns : s.runs = true) (hdc : s.dcRuns p = true)
    (hdue : s.due (.loop p.val) = true) : exec (.loopMeasurement p mohm) s = .next ((((((s.loopAlarms
      (s.loopRead p (loopReading mohm).1 (loopReading mohm).2) p (loopReading mohm).1 (loopReading mohm).2).updateTw p).tempRestart
        p).dcCheck p)).keep s) :=
  guarded_pos s ⟨hruns, hdc, hdue⟩

/-- The objects of a loop measurement. -/
def loopObjects : List Obj := [Reg.LR_DC_loop, Reg.LR_DC_loop_stamp, Reg.LR_DC_flags]

theorem dc_setDc (s : State) (p : Port) (f : DcState → DcState) : ((s.setDc p f).port p).dc = f (s.port p).dc :=
  congrArg PortState.dc (State.port_setPort_self ..)

/-- What has been read of the loop before any alarm. -/
structure State.LoopRead (s : State) (p : Port) (value : Nat) (isOpen : Bool) (u : State) : Prop where
  reading : u.rd Reg.LR_DC_loop p = (value : Nat)
  stamp : u.rd Reg.LR_DC_loop_stamp p = s.now
  dc : (u.port p).dc = s.loopDc p value isOpen
  next : u.deadline (.loop p.val) = some (s.now + nsPerSec)
  check : u.deadline (.check p.val) = s.deadline (.check p.val)
  reads : s.ReadsBut (loopObjects ++ tuneObjects) u
  rest : u = { s with regs := u.regs, ports := u.ports, timers := u.timers, merge := u.merge }

theorem loopRead_spec (s : State) (p : Port) (value : Nat) (isOpen : Bool) :
    s.LoopRead p value isOpen (s.loopRead p value isOpen) ∧ (s.loopRead p value isOpen).merge = s.merge := by
  unfold State.loopRead State.dcFlags
  dsimp only
  refine ⟨⟨?_, ?_, ?_, ?_, ?_, ?_, rfl⟩, rfl⟩
  · rw [State.rd_wr_other _ _ Obj.key_ne, State.rd_congr (State.setDc_regs ..), State.rd_wr_other _ _ Obj.key_ne, State.rd_wr_self]
  · rw [State.rd_wr_other _ _ Obj.key_ne, State.rd_congr (State.setDc_regs ..), State.rd_wr_self]
  · rw [State.port_wr, dc_setDc]
  · rw [State.deadline_wr, State.deadline_congr (State.setDc_timers ..), State.deadline_wr, State.deadline_wr,
      State.deadline_arm_self]
  · rw [State.deadline_wr, State.deadline_congr (State.setDc_timers ..), State.deadline_wr, State.deadline_wr,
      State.deadline_arm_other _ _ (by simp)]
  · refine .mono (l := loopObjects) (.wr (.then_regs ?_ (State.setDc_regs ..)) _ (by decide) p.isLt (by decide))
      (List.subset_append_left ..)
    exact ((State.ReadsBut.of_regs (State.arm_regs ..)).wr _ (by decide) p.isLt (by decide)).wr _ (by decide) p.isLt (by decide)

/-- Alarms change no object and no DC state. -/
theorem loopAlarms_spec (s u : State) (p : Port) (value : Nat) (isOpen : Bool) :
    s.loopAlarms u p value isOpen = { u with ports := (s.loopAlarms u p value isOpen).ports
                                             merge := (s.loopAlarms u p value isOpen).merge }
      ∧ ((s.loopAlarms u p value isOpen).port p).dc = (u.port p).dc := by
  have hset (v : State) (f : SoundState → SoundState) : ((v.setSound p f).port p).dc = (v.port p).dc :=
    State.port_setPort_keeps PortState.dc v p _ (by exact fun _ => rfl) p
  have halarm (c : Prop) [Decidable c] (v : State) (kind : Nat) :
      (if c then v.dcAlarm p kind value else v) = { v with merge := (if c then v.dcAlarm p kind value else v).merge } := by
    split
    · rfl
    · rfl
  unfold State.loopAlarms
  extract_lets v w
  have hv : v = { u with merge := v.merge } := halarm ..
  have hw : w = { v with merge := w.merge } := halarm ..
  have hports : w.ports = u.ports := by rw [hw, hv]
  split
  · refine ⟨?_, (hset ..).trans (by rw [State.port_congr hports])⟩
    rw [hw, hv]
    rfl
  · refine ⟨?_, by rw [State.port_congr hports]⟩
    rw [hw, hv]

/-- The alarms of a reading that is open, or not, and does not step. -/
theorem loopAlarms_merge (s u : State) (p : Port) (value : Nat) (isOpen : Bool) : (s.loopAlarms u p value isOpen).merge =
    (let v := if (s.port p).dc.isOpen = some (!isOpen) then u.dcAlarm p (if isOpen then 2 else 3) value else u
    if s.loopSteps p value isOpen then v.dcAlarm p 4 value else v).merge := by
  unfold State.loopAlarms
  dsimp only
  split
  · exact State.setSound_merge ..
  · rfl

theorem dcAlarm_alike (hmerge : t.merge = s.merge) (htime : t.time = s.time) (c : Prop) [Decidable c] (kind value : Nat) :
    (if c then t.dcAlarm p kind value else t).merge = (if c then s.dcAlarm p kind value else s).merge
      ∧ (if c then t.dcAlarm p kind value else t).time = (if c then s.dcAlarm p kind value else s).time := by
  split
  · exact ⟨issue_merge_congr hmerge htime .., htime⟩
  · exact ⟨hmerge, htime⟩

/-- A loop measurement before the check of CHECK (R307, R309, R311). -/
theorem loopMeasurement_spec {mohm : Option Nat} (hruns : s.runs = true) (hdc : s.dcRuns p = true)
    (hdue : s.due (.loop p.val) = true) : ∃ u, exec (.loopMeasurement p mohm) s = .next ((u.dcCheck p).keep s)
      ∧ s.LoopRead p (loopReading mohm).1 (loopReading mohm).2 u
      ∧ u.merge = (let v := if (s.port p).dc.isOpen = some (!(loopReading mohm).2) then
            s.dcAlarm p (if (loopReading mohm).2 then 2 else 3) (loopReading mohm).1 else s
          if s.loopSteps p (loopReading mohm).1 (loopReading mohm).2 then v.dcAlarm p 4 (loopReading mohm).1 else v).merge := by
  have hexec := exec_loopMeasurement (mohm := mohm) hruns hdc hdue
  obtain ⟨value, hvalue⟩ : ∃ v, v = (loopReading mohm).1 := ⟨_, rfl⟩
  obtain ⟨isOpen, hopen⟩ : ∃ b, b = (loopReading mohm).2 := ⟨_, rfl⟩
  rw [← hvalue, ← hopen] at hexec ⊢
  obtain ⟨hread, hmerge⟩ := loopRead_spec s p value isOpen
  obtain ⟨u, hu⟩ : ∃ u, u = s.loopRead p value isOpen := ⟨_, rfl⟩
  rw [← hu] at hexec hread hmerge
  obtain ⟨hrest, halarmsDc⟩ := loopAlarms_spec s u p value isOpen
  have halarms := loopAlarms_merge s u p value isOpen
  obtain ⟨v, hv⟩ : ∃ v, v = s.loopAlarms u p value isOpen := ⟨_, rfl⟩
  rw [← hv] at hexec hrest halarmsDc halarms
  have htuned := (updateTw_tuned v p).trans (tempRestart_tuned _ p)
  obtain ⟨w, hw⟩ : ∃ w, w = (v.updateTw p).tempRestart p := ⟨_, rfl⟩
  rw [← hw] at hexec htuned
  have htimers : w.timers = u.timers := by rw [htuned.rest, hrest]
  have hregs : v.regs = u.regs := by rw [hrest]
  have htime : u.time = s.time := by rw [hread.rest]
  have hrest' : v = { s with regs := v.regs, ports := v.ports, timers := v.timers, merge := v.merge } := by
    rw [hrest, hread.rest]
  have hwmerge : w.merge = v.merge := by rw [htuned.rest]
  refine ⟨w, hexec, ⟨?_, ?_, ?_, ?_, ?_, ?_, ?_⟩, ?_⟩
  · rw [htuned.rd Reg.LR_DC_loop (by decide) p.isLt, State.rd_congr hregs, hread.reading]
  · rw [htuned.rd Reg.LR_DC_loop_stamp (by decide) p.isLt, State.rd_congr hregs, hread.stamp]
  · rw [htuned.dc, halarmsDc, hread.dc]
  · rw [State.deadline_congr htimers, hread.next]
  · rw [State.deadline_congr htimers, hread.check]
  · exact (hread.reads.then_regs hregs).trans (htuned.reads.mono (List.subset_append_right ..))
  · have htunedRest := htuned.rest
    rw [hrest'] at htunedRest
    rw [htunedRest]
  · rw [hwmerge, halarms]
    have hfirst := dcAlarm_alike (p := p) hmerge htime ((s.port p).dc.isOpen = some (!isOpen)) (if isOpen then 2 else 3) value
    exact (dcAlarm_alike hfirst.1 hfirst.2 (s.loopSteps p value isOpen = true) 4 value).1

/-- The check of CHECK is not made in another state (R208). -/
theorem dcCheck_elsewhere (h : s.portState p ≠ stCheck) : s.dcCheck p = s := if_pos (.inl h)

/-- Two good results take the port to CAL. -/
theorem dcCheck_good (hstate : s.portState p = stCheck) (hrunning : s.running (.check p.val) = false)
    (hloop : (s.port p).dc.loopResult = some true) (hinsul : (s.port p).dc.insulResult = some true) :
    s.dcCheck p = s.toState p stCal 1 := by
  unfold State.dcCheck
  rw [if_neg (by rw [hrunning]; simp [hstate]), hloop, hinsul]
  dsimp only
  rw [if_pos ⟨rfl, rfl⟩]

/-- A bad result is counted, and both checks are made again 10 s later; the first failure is logged. -/
theorem dcCheck_bad {a b : Bool} (hstate : s.portState p = stCheck) (hrunning : s.running (.check p.val) = false)
    (hloop : (s.port p).dc.loopResult = some a) (hinsul : (s.port p).dc.insulResult = some b) (hbad : ¬(a = true ∧ b = true)) :
    s.dcCheck p = (((if (s.port p).dc.failedOnce then s.inc Reg.LP_STATE_CHECK_FAILS p else
        (s.inc Reg.LP_STATE_CHECK_FAILS p).raiseLine p 0x01
          (min (s.rdN Reg.LR_DC_insulation_A p) (s.rdN Reg.LR_DC_insulation_B p) / 1000)).setDc p fun q =>
        { q with failedOnce := true }).arm (.check p.val) (s.now + 10000000000)) := by
  unfold State.dcCheck
  rw [if_neg (by rw [hrunning]; simp [hstate]), hloop, hinsul]
  dsimp only
  rw [if_neg hbad, State.port_inc]
  obtain ⟨v, hv⟩ : ∃ v, v = if (s.port p).dc.failedOnce then s.inc Reg.LP_STATE_CHECK_FAILS p else
    (s.inc Reg.LP_STATE_CHECK_FAILS p).raiseLine p 0x01
      (min (s.rdN Reg.LR_DC_insulation_A p) (s.rdN Reg.LR_DC_insulation_B p) / 1000) := ⟨_, rfl⟩
  have hnow : v.now = s.now := by
    rw [hv]
    split
    · rfl
    · exact State.now_congr (State.raiseLine_time ..)
  rw [← hv, hnow]

theorem reported_congr (htime : t.time = s.time) (hfaults : t.faults = s.faults) (src c k u d sev : Nat) :
    t.reported src c k u d sev = s.reported src c k u d sev := by
  unfold State.reported State.faultNow
  rw [State.now_congr htime, htime, hfaults]

theorem loopReading_closed {v : Nat} (h : v ≤ 2000000) : (loopReading (some v)).2 = false := by
  unfold loopReading
  dsimp only
  rw [if_neg (by omega)]
  split
  · rfl
  · rfl

theorem loopReading_range {v : Nat} (hlo : 1000 ≤ v) (hhi : v ≤ 2000000) : loopReading (some v) = (v, false) := by
  unfold loopReading
  dsimp only
  rw [if_neg (by omega), if_neg (by omega)]

theorem loopReading_value (mohm : Option Nat) : ((loopReading mohm).1 : Int) = match mohm with
    | none => 0xFFFFFFFF
    | some v => if 2000000 < v then 0xFFFFFFFF else if v < 1000 then 0 else (v : Int) := by
  unfold loopReading
  cases mohm with
  | none => rfl
  | some v =>
    dsimp only
    split_ifs
    · rfl
    · rfl
    · rfl

theorem loopReading_open (mohm : Option Nat) : (loopReading mohm).2 = mohm.all fun v => decide (2000000 < v) := by
  unfold loopReading
  cases mohm with
  | none => rfl
  | some v =>
    dsimp only [Option.all_some]
    split_ifs with h k
    · exact (decide_eq_true h).symm
    · exact (decide_eq_false h).symm
    · exact (decide_eq_false h).symm

theorem loopSteps_open (s : State) (p : Port) (value : Nat) : s.loopSteps p value true = false := rfl

theorem loopSteps_short {value : Nat} {isOpen : Bool} (h : ((s.port p).dc.loops.take 16).length < 16) :
    s.loopSteps p value isOpen = false := by
  unfold State.loopSteps
  dsimp only
  rw [decide_eq_false (by omega), Bool.and_false, Bool.false_and]

theorem loopSteps_closed {value : Nat} (hlen : ((s.port p).dc.loops.take 16).length = 16)
    (h : ((s.port p).dc.loops.take 16).sum < 20 * ((value : Int) * 16 - ((s.port p).dc.loops.take 16).sum).natAbs) :
    s.loopSteps p value false = true := by
  unfold State.loopSteps
  dsimp only
  rw [decide_eq_true hlen, decide_eq_true h]
  rfl

/-! ### An insulation measurement (R307 to R311) -/

/-- The DC state of a port after an insulation measurement with these readings, against the floor of CHECK. -/
def State.insulationDc (s : State) (p : Port) (floor a b : Nat) : DcState :=
  let low := min a b
  let level := s.rdN Reg.LR_DC_alarm_level p
  let q := (s.port p).dc
  let falls := !q.low && decide (low < level)
  let rises := q.low && decide (11 * level < 10 * low)
  { q with
    measuring := false, insulBelow := decide (a = 0 ∨ b = 0),
    insulSeen := Machine.recent s.now (·.1) ((s.now, decide (a = 0 ∨ b = 0)) :: q.insulSeen),
    low := (q.low || falls) && !rises,
    insulResult := some (decide (floor ≤ low)) }

/-- The readings of an insulation measurement: over a closed loop the wires are one node (R308). -/
def State.insulationReadings (s : State) (p : Port) (m : InsulationMeas) : Nat × Nat :=
  let a := insulation m.aPlus m.aMinus
  (a, if decide ((s.port p).dc.isOpen ≠ some true) then a else insulation m.bPlus m.bMinus)

/-- The flags of an insulation measurement that say how it was made (Table 6.6). -/
theorem insulationFlags_bits (f : Nat) (common isOpen below settled : Bool) :
    bit (setBit (setBit (setBit (setBit f 0 common) 2 isOpen) 3 (!settled)) 1 below) 3 = !settled
      ∧ bit (setBit (setBit (setBit (setBit f 0 common) 2 isOpen) 3 (!settled)) 1 below) 0 = common := by
  have hthree (w : Nat) (x : Bool) : bit (setBit w 1 x) 3 = bit w 3 := by
    obtain ⟨heq, -⟩ | ⟨heq, hbit, -⟩ | ⟨heq, hbit, -⟩ := setBit_cases w 1 x
    · rw [heq]
    · rw [heq]
      rw [bit, Nat.testBit_eq_decide_div_mod_eq, decide_eq_false_iff_not] at hbit
      unfold bit
      rw [Nat.testBit_eq_decide_div_mod_eq, Nat.testBit_eq_decide_div_mod_eq]
      refine decide_eq_decide.mpr ?_
      omega
    · rw [bit, Nat.testBit_eq_decide_div_mod_eq, decide_eq_true_eq] at hbit
      unfold bit
      rw [Nat.testBit_eq_decide_div_mod_eq, Nat.testBit_eq_decide_div_mod_eq]
      refine decide_eq_decide.mpr ?_
      omega
  constructor
  · rw [hthree, bit_setBit_same]
  · rw [bit_setBit_of_lt (by decide), bit_setBit_of_lt (by decide), bit_setBit_of_lt (by decide), bit_setBit_same]

/-- The insulation readings written and stamped, before an alarm (R307 to R309). -/
def State.insulationRead (s : State) (p : Port) (m : InsulationMeas) : State :=
  let x := s.insulationReadings p m
  let u := (((s.wr Reg.LR_DC_insulation_A p 0 x.1).wr Reg.LR_DC_insulation_B p 0 x.2).wr Reg.LR_DC_insulation_stamp p 0
    s.now).wr Reg.LR_DC_capacitance p 0 m.capacitance
  (u.setDc p fun _ => s.insulationDc p (u.rdN Reg.LP_ACCESS_insulation_floor p) x.1 x.2).dcFlags p fun f =>
    setBit (setBit (setBit f 0 (decide ((s.port p).dc.isOpen ≠ some true))) 2
      (decide (x.1 = 0xFFFFFFFF ∨ x.2 = 0xFFFFFFFF))) 3 (!m.settled)

/-- The alarm of an insulation reading (R311). -/
def State.insulationAlarm (s u : State) (p : Port) (low : Nat) : State :=
  let level := s.rdN Reg.LR_DC_alarm_level p
  if (!(s.port p).dc.low && decide (low < level)) = true then u.dcAlarm p 0 low
  else if ((s.port p).dc.low && decide (11 * level < 10 * low)) = true then u.dcAlarm p 1 low else u

theorem exec_insulationResult {m : InsulationMeas} (hruns : s.runs = true) (hdc : s.dcRuns p = true)
    (hmeasuring : (s.port p).dc.measuring = true) (hlo : 2 * nsPerSec ≤ s.now - (s.port p).dc.measureStart)
    (hdone : m.settled = true ∨ 60 * nsPerSec ≤ s.now - (s.port p).dc.measureStart) :
    exec (.insulationResult p m) s = .next (((s.insulationAlarm (s.insulationRead p m) p
      (min (s.insulationReadings p m).1 (s.insulationReadings p m).2)).dcCheck p).keep s) := by
  exact guarded_pos s ⟨hruns, hdc, hmeasuring, hlo, hdone⟩

/-- What an insulation measurement has read before any alarm (R307 to R309). -/
structure State.InsulationRead (s : State) (p : Port) (m : InsulationMeas) (u : State) : Prop where
  wireA : u.rd Reg.LR_DC_insulation_A p = insulation m.aPlus m.aMinus
  wireB : u.rd Reg.LR_DC_insulation_B p = (s.insulationReadings p m).2
  stamp : u.rd Reg.LR_DC_insulation_stamp p = s.now
  capacitance : u.rd Reg.LR_DC_capacitance p = m.capacitance
  dc : (u.port p).dc = s.insulationDc p (s.rdN Reg.LP_ACCESS_insulation_floor p) (insulation m.aPlus m.aMinus)
    (s.insulationReadings p m).2
  unsettled : bit (u.rdN Reg.LR_DC_flags p) 3 = !m.settled
  common : bit (u.rdN Reg.LR_DC_flags p) 0 = decide ((s.port p).dc.isOpen ≠ some true)
  state : u.portState p = s.portState p
  rest : u = { s with regs := u.regs, ports := u.ports, merge := u.merge }

theorem insulationRead_spec (s : State) (p : Port) (m : InsulationMeas) :
    s.InsulationRead p m (s.insulationRead p m) ∧ (s.insulationRead p m).merge = s.merge := by
  unfold State.insulationRead State.dcFlags
  dsimp only
  refine ⟨⟨?_, ?_, ?_, ?_, ?_, ?_, ?_, ?_, rfl⟩, rfl⟩
  · rw [State.rd_wr_other _ _ Obj.key_ne, State.rd_congr (State.setDc_regs ..), State.rd_wr_other _ _ Obj.key_ne,
      State.rd_wr_other _ _ Obj.key_ne, State.rd_wr_other _ _ Obj.key_ne, State.rd_wr_self]
    rfl
  · rw [State.rd_wr_other _ _ Obj.key_ne, State.rd_congr (State.setDc_regs ..), State.rd_wr_other _ _ Obj.key_ne,
      State.rd_wr_other _ _ Obj.key_ne, State.rd_wr_self]
  · rw [State.rd_wr_other _ _ Obj.key_ne, State.rd_congr (State.setDc_regs ..), State.rd_wr_other _ _ Obj.key_ne,
      State.rd_wr_self]
  · rw [State.rd_wr_other _ _ Obj.key_ne, State.rd_congr (State.setDc_regs ..), State.rd_wr_self]
  · rw [State.port_wr, dc_setDc]
    rw [State.rdN, State.rd_wr_other _ _ Obj.key_ne, State.rd_wr_other _ _ Obj.key_ne,
      State.rd_wr_other _ _ Obj.key_ne, State.rd_wr_other _ _ Obj.key_ne]
    rfl
  · rw [State.rdN, State.rd_wr_self, Int.toNat_natCast]
    exact (insulationFlags_bits ..).1
  · rw [State.rdN, State.rd_wr_self, Int.toNat_natCast]
    exact (insulationFlags_bits ..).2
  · unfold State.portState
    rw [State.rd_wr_other _ _ Obj.key_ne, State.rd_congr (State.setDc_regs ..), State.rd_wr_other _ _ Obj.key_ne,
      State.rd_wr_other _ _ Obj.key_ne, State.rd_wr_other _ _ Obj.key_ne, State.rd_wr_other _ _ Obj.key_ne]

/-- The alarm of an insulation reading changes nothing but the records. -/
theorem insulationAlarm_spec (s u : State) (p : Port) (low : Nat) :
    s.insulationAlarm u p low = { u with merge := (s.insulationAlarm u p low).merge } := by
  unfold State.insulationAlarm
  dsimp only
  split
  · rfl
  · split
    · rfl
    · rfl

/-- An insulation measurement before the check of CHECK (R307 to R311). -/
theorem insulationResult_spec {m : InsulationMeas} (hruns : s.runs = true) (hdc : s.dcRuns p = true)
    (hmeasuring : (s.port p).dc.measuring = true) (hlo : 2 * nsPerSec ≤ s.now - (s.port p).dc.measureStart)
    (hdone : m.settled = true ∨ 60 * nsPerSec ≤ s.now - (s.port p).dc.measureStart) :
    ∃ u, exec (.insulationResult p m) s = .next ((u.dcCheck p).keep s) ∧ s.InsulationRead p m u
      ∧ ((s.port p).dc.low = false → min (s.insulationReadings p m).1 (s.insulationReadings p m).2
          < s.rdN Reg.LR_DC_alarm_level p → u.merge = (s.dcAlarm p 0
            (min (s.insulationReadings p m).1 (s.insulationReadings p m).2)).merge) := by
  obtain ⟨hread, hmerge⟩ := insulationRead_spec s p m
  have hexec := exec_insulationResult hruns hdc hmeasuring hlo hdone
  obtain ⟨low, hlow⟩ : ∃ low, low = min (s.insulationReadings p m).1 (s.insulationReadings p m).2 := ⟨_, rfl⟩
  obtain ⟨v, hv⟩ : ∃ v, v = s.insulationRead p m := ⟨_, rfl⟩
  rw [← hv] at hread hmerge
  rw [← hv, ← hlow] at hexec
  rw [← hlow]
  have hrest := insulationAlarm_spec s v p low
  have halarm (hnew : (s.port p).dc.low = false) (hbelow : low < s.rdN Reg.LR_DC_alarm_level p) :
      (s.insulationAlarm v p low).merge = (s.dcAlarm p 0 low).merge := by
    unfold State.insulationAlarm
    dsimp only
    rw [if_pos (by rw [hnew, decide_eq_true hbelow]; rfl)]
    exact issue_merge_congr hmerge (by rw [hread.rest]) ..
  obtain ⟨u, hu⟩ : ∃ u, u = s.insulationAlarm v p low := ⟨_, rfl⟩
  rw [← hu] at hexec hrest halarm
  have hregs : u.regs = v.regs := by rw [hrest]
  have hports : u.ports = v.ports := by rw [hrest]
  refine ⟨u, hexec, ⟨?_, ?_, ?_, ?_, ?_, ?_, ?_, ?_, ?_⟩, halarm⟩
  · rw [State.rd_congr hregs, hread.wireA]
  · rw [State.rd_congr hregs, hread.wireB]
  · rw [State.rd_congr hregs, hread.stamp]
  · rw [State.rd_congr hregs, hread.capacitance]
  · rw [State.port_congr hports, hread.dc]
  · rw [State.rdN, State.rd_congr hregs]
    exact hread.unsettled
  · rw [State.rdN, State.rd_congr hregs]
    exact hread.common
  · rw [State.portState_congr hregs, hread.state]
  · rw [hregs, hports]
    rw [hread.rest] at hrest
    exact hrest

theorem insulationReadings_closed {m : InsulationMeas} (h : (s.port p).dc.isOpen ≠ some true) :
    s.insulationReadings p m = (insulation m.aPlus m.aMinus, insulation m.aPlus m.aMinus) := by
  unfold State.insulationReadings
  dsimp only
  rw [if_pos (decide_eq_true h)]

theorem insulationReadings_wireB (s : State) (p : Port) (m : InsulationMeas) : (s.insulationReadings p m).2 =
    if (s.port p).dc.isOpen = some true then insulation m.bPlus m.bMinus else insulation m.aPlus m.aMinus := by
  by_cases h : (s.port p).dc.isOpen = some true
  · unfold State.insulationReadings
    dsimp only
    rw [if_pos h, if_neg (by simp [h])]
  · rw [if_neg h, insulationReadings_closed h]

/-! ### The reported insulation (R307, R309) -/

/-- The quotient a positive current gives, rounded to the nearest ohm (R585). -/
def ohms (i : Int) : Nat := (roundDiv 20000000000000 i.toNat).toNat

theorem insulation_eq {plus minus : Int} (h : minus < plus) : insulation plus minus =
    if ohms (plus - minus) < 10000 then 0 else if 200000000 < ohms (plus - minus) then 0xFFFFFFFF else ohms (plus - minus) := by
  unfold insulation
  dsimp only
  rw [if_neg (by omega)]
  rfl

theorem ohms_eq {i : Int} (h : 0 < i) : (ohms i : Int) = (40000000000000 + i) / (2 * i) := by
  unfold ohms roundDiv
  have hnonneg : 0 ≤ (40000000000000 + i) / (2 * i) := Int.ediv_nonneg (by omega) (by omega)
  rw [if_pos (by decide), Int.toNat_of_nonneg h.le]
  exact Int.toNat_of_nonneg hnonneg

/-- The quotient is within half of its unit. -/
theorem ohms_near {i : Int} (h : 0 < i) : (2 * ((ohms i : Int) * i - 20000000000000)).natAbs ≤ i.natAbs := by
  rw [ohms_eq h]
  have hlow := Int.mul_ediv_add_emod (40000000000000 + i) (2 * i)
  have hmod := Int.emod_nonneg (40000000000000 + i) (b := 2 * i) (by omega)
  have hlt := Int.emod_lt_of_pos (40000000000000 + i) (b := 2 * i) (by omega)
  obtain ⟨r, hr⟩ : ∃ r, r = (40000000000000 + i) / (2 * i) * i := ⟨_, rfl⟩
  have hassoc : 2 * i * ((40000000000000 + i) / (2 * i)) = 2 * r := by
    rw [hr]
    ring
  rw [← hr]
  omega

/-- A larger current gives no larger quotient. -/
theorem ohms_anti {i j : Int} (h : 0 < i) (hij : i ≤ j) : ohms j ≤ ohms i := by
  have hj : 0 < j := by omega
  zify
  rw [ohms_eq h, Int.le_ediv_iff_mul_le (by omega)]
  have hle : (ohms j : Int) * (2 * j) ≤ 40000000000000 + j := by
    rw [ohms_eq hj]
    exact Int.ediv_mul_le _ (by omega)
  obtain hzero | hpos := Nat.eq_zero_or_pos (ohms j)
  · rw [hzero]
    omega
  · have hmul : (2 * (ohms j : Int) - 1) * i ≤ (2 * (ohms j : Int) - 1) * j := mul_le_mul_of_nonneg_left hij (by omega)
    linarith

theorem insulation_anti {plus minus i : Int} (h : minus < plus) (hi : plus ≤ i) : insulation i minus ≤ insulation plus minus := by
  have hle := ohms_anti (i := plus - minus) (j := i - minus) (by omega) (by omega)
  rw [insulation_eq h, insulation_eq (by omega)]
  split_ifs
  all_goals omega

/-! ### The obligation -/

theorem State.LoopRead.state {value : Nat} {isOpen : Bool} {u : State} (h : s.LoopRead p value isOpen u) :
    u.portState p = s.portState p := h.reads.rd (by decide) p.isLt (by decide)

theorem State.LoopRead.running {value : Nat} {isOpen : Bool} {u : State} (h : s.LoopRead p value isOpen u) :
    u.running (.check p.val) = s.running (.check p.val) := by
  unfold State.running
  rw [h.check]

/-- What a bad check of CHECK does (R208). -/
theorem dcCheck_bad_spec {a b : Bool} (hstate : s.portState p = stCheck) (hrunning : s.running (.check p.val) = false)
    (hloop : (s.port p).dc.loopResult = some a) (hinsul : (s.port p).dc.insulResult = some b) (hbad : ¬(a = true ∧ b = true)) :
    (s.dcCheck p).portState p = stCheck
      ∧ (s.dcCheck p).rd Reg.LP_STATE_CHECK_FAILS p = (s.rd Reg.LP_STATE_CHECK_FAILS p + 1) % 18446744073709551616
      ∧ (s.dcCheck p).deadline (.check p.val) = some (s.now + 10000000000) ∧ ((s.dcCheck p).port p).dc.failedOnce = true
      ∧ ((s.port p).dc.failedOnce = true → (s.dcCheck p).faults = s.faults)
      ∧ ((s.port p).dc.failedOnce = false → (s.dcCheck p).faults = s.reported (srcLine p) clsLine 0x01 p.val
          (min (s.rdN Reg.LR_DC_insulation_A p) (s.rdN Reg.LR_DC_insulation_B p) / 1000) 1) := by
  rw [dcCheck_bad hstate hrunning hloop hinsul hbad]
  obtain ⟨d, hd⟩ : ∃ d, d = min (s.rdN Reg.LR_DC_insulation_A p) (s.rdN Reg.LR_DC_insulation_B p) / 1000 := ⟨_, rfl⟩
  rw [← hd]
  obtain ⟨v, hv⟩ : ∃ v, v = if (s.port p).dc.failedOnce then s.inc Reg.LP_STATE_CHECK_FAILS p else
    (s.inc Reg.LP_STATE_CHECK_FAILS p).raiseLine p 0x01 d := ⟨_, rfl⟩
  have hregs : v.regs = (s.inc Reg.LP_STATE_CHECK_FAILS p).regs := by
    rw [hv]
    split
    · rfl
    · exact State.raiseLine_regs ..
  rw [← hv]
  refine ⟨?_, ?_, ?_, ?_, fun honce => ?_, fun honce => ?_⟩
  · rw [State.portState_arm, State.portState_setDc, State.portState_congr hregs, ← hstate]
    exact State.rd_inc_other s 1 Obj.key_ne
  · rw [State.rd_arm, State.rd_congr (State.setDc_regs ..), State.rd_congr hregs, State.rd_inc_self]
  · exact State.deadline_arm_self ..
  · rw [State.port_arm, dc_setDc]
  · rw [State.arm_faults, State.setDc_faults, hv, if_pos honce]
    rfl
  · rw [State.arm_faults, State.setDc_faults, hv, if_neg (by rw [honce]; decide)]
    exact State.raise_reported (t := s.inc Reg.LP_STATE_CHECK_FAILS p) p.val d (by rfl) (sourceOf_srcLine p _) rfl rfl rfl

/-- Settles O29. -/
theorem dcMonitorCompletes : Obligations.DcMonitorCompletes := by
  unfold Obligations.DcMonitorCompletes
  refine ⟨fun s p mohm hruns hdc hdue hstate => ?_, fun s p hruns hdc hdue hstate hclosed => ?_,
    fun s p v hruns hdc hdue hstate hclosed hlo hhi hlen hstep => ?_,
    fun s p v hruns hdc hdue hstate hrunning hinsul hv => ?_, fun s p x hruns hdc hdue hstate hrunning hinsul => ?_,
    fun s p hruns hdc hmeasuring hdue => ?_, fun s p m hruns hdc hstate hmeasuring hlo hdone => ?_,
    fun s p m hruns hdc hstate hmeasuring hclosed hsettled hlo hlow hbelow => ?_,
    fun s p m hruns hdc hstate hmeasuring hclosed hsettled hlo hloop hrunning hfloor => ?_,
    fun plus minus => ⟨fun h => ?_, fun h => ?_, fun i h hi => insulation_anti h hi⟩⟩
  · obtain ⟨u, hexec, hread, hmerge⟩ := loopMeasurement_spec (mohm := mohm) hruns hdc hdue
    rw [dcCheck_elsewhere (by rw [hread.state]; exact hstate)] at hexec
    refine ⟨_, hexec, ?_, ?_, ?_, ?_, ?_, fun hnone hlen => ?_, ?_⟩
    · rw [State.rd_keep, hread.reading]
      exact loopReading_value mohm
    · rw [State.rd_keep, hread.stamp]
    · rw [State.port_keep, hread.dc, ← loopReading_open]
      rfl
    · rw [State.deadline_keep, hread.next]
    · rw [State.portState_keep, hread.state]
    · rw [State.keep_merge, hmerge]
      dsimp only
      rw [if_neg (by rw [loopSteps_short hlen]; decide), if_neg (by rw [hnone]; simp)]
    · have hrest := hread.rest
      rw [hrest]
      rfl
  · obtain ⟨u, hexec, hread, hmerge⟩ := loopMeasurement_spec (mohm := none) hruns hdc hdue
    rw [dcCheck_elsewhere (by rw [hread.state]; exact hstate)] at hexec
    refine ⟨_, hexec, ?_, ?_, ?_⟩
    · rw [State.rd_keep, hread.reading]
      rfl
    · rw [State.port_keep, hread.dc]
      rfl
    · rw [State.keep_merge, hmerge]
      dsimp only
      rw [if_neg (by rw [loopReading_open, Option.all_none, loopSteps_open]; decide), if_pos (by rw [hclosed]; rfl)]
      rfl
  · obtain ⟨u, hexec, hread, hmerge⟩ := loopMeasurement_spec (mohm := some v) hruns hdc hdue
    rw [dcCheck_elsewhere (by rw [hread.state]; exact hstate)] at hexec
    rw [loopReading_range hlo hhi] at hread hmerge
    refine ⟨_, hexec, ?_, ?_⟩
    · rw [State.rd_keep, hread.reading]
    · rw [State.keep_merge, hmerge]
      dsimp only
      rw [if_pos (loopSteps_closed hlen hstep), if_neg (by rw [hclosed]; decide)]
  · obtain ⟨u, hexec, hread, -⟩ := loopMeasurement_spec (mohm := some v) hruns hdc hdue
    rw [dcCheck_good (by rw [hread.state, hstate]) (by rw [hread.running, hrunning])
      (by rw [hread.dc, loopReading_closed hv]; rfl) (by rw [hread.dc]; exact hinsul)] at hexec
    refine ⟨_, hexec, ?_, ?_⟩
    · rw [State.portState_keep, State.portState_toState]
    · rw [State.rd_keep, rd_toState, hread.stamp]
  · obtain ⟨u, hexec, hread, -⟩ := loopMeasurement_spec (mohm := none) hruns hdc hdue
    obtain ⟨hafter, hcount, hcheck, honce, hkept, hraised⟩ := dcCheck_bad_spec (s := u) (p := p) (a := false) (b := x)
      (by rw [hread.state, hstate]) (by rw [hread.running, hrunning]) (by rw [hread.dc]; rfl)
      (by rw [hread.dc]; exact hinsul) (by simp)
    have hnow : u.now = s.now := by rw [hread.rest]; rfl
    have hfaults : u.faults = s.faults := by rw [hread.rest]
    have htime : u.time = s.time := by rw [hread.rest]
    have honceSame : (u.port p).dc.failedOnce = (s.port p).dc.failedOnce := by rw [hread.dc]; rfl
    rw [honceSame] at hkept hraised
    refine ⟨_, hexec, ?_, ?_, ?_, ?_, fun h => ?_, fun h => ?_⟩
    · rw [State.portState_keep, hafter]
    · rw [State.rd_keep, hcount, hread.reads.rd (by decide) p.isLt (by decide)]
    · rw [State.deadline_keep, hcheck, hnow]
    · rw [State.port_keep, honce]
    · rw [State.keep_faults, hkept h, hfaults]
    · rw [State.keep_faults, hraised h, reported_congr htime hfaults, State.rdN, State.rdN, State.rdN, State.rdN,
        hread.reads.rd (by decide) p.isLt (by decide), hread.reads.rd (by decide) p.isLt (by decide)]
  · exact guarded_pos s ⟨hruns, hdc, by rw [hmeasuring]; rfl, hdue⟩
  · obtain ⟨u, hexec, hread, -⟩ := insulationResult_spec hruns hdc hmeasuring hlo hdone
    rw [dcCheck_elsewhere (by rw [hread.state]; exact hstate)] at hexec
    refine ⟨_, hexec, ?_, ?_, ?_, ?_, ?_, ?_, ?_, ?_⟩
    · rw [State.rd_keep, hread.wireA]
    · rw [State.rd_keep, hread.wireB, insulationReadings_wireB]
    · rw [State.rd_keep, hread.stamp]
    · rw [State.rd_keep, hread.capacitance]
    · rw [State.port_keep, hread.dc]
      rfl
    · exact hread.unsettled
    · exact hread.common
    · have hrest := hread.rest
      rw [hrest]
      rfl
  · obtain ⟨u, hexec, hread, hmerge⟩ := insulationResult_spec hruns hdc hmeasuring hlo (.inl hsettled)
    rw [dcCheck_elsewhere (by rw [hread.state]; exact hstate)] at hexec
    rw [insulationReadings_closed (by rw [hclosed]; decide), min_self] at hmerge
    refine ⟨_, hexec, ?_, ?_⟩
    · rw [State.port_keep, hread.dc, insulationReadings_closed (by rw [hclosed]; decide)]
      unfold State.insulationDc
      dsimp only
      rw [hlow, min_self, decide_eq_true hbelow]
      rfl
    · rw [State.keep_merge, hmerge hlow hbelow]
  · obtain ⟨u, hexec, hread, -⟩ := insulationResult_spec hruns hdc hmeasuring hlo (.inl hsettled)
    rw [dcCheck_good (by rw [hread.state, hstate]) ?_ ?_ ?_] at hexec
    · refine ⟨_, hexec, ?_, ?_⟩
      · rw [State.portState_keep, State.portState_toState]
      · rw [State.rd_keep, rd_toState, hread.stamp]
    · rw [hread.rest]
      exact hrunning
    · rw [hread.dc]
      exact hloop
    · rw [hread.dc, insulationReadings_closed (by rw [hclosed]; decide)]
      unfold State.insulationDc
      dsimp only
      rw [min_self, decide_eq_true hfloor]
  · exact if_pos (by omega)
  · rw [insulation_eq h]
    split_ifs
    · exact .inl rfl
    · exact .inr (.inl rfl)
    · exact .inr (.inr ⟨by omega, by omega, ohms_near (by omega)⟩)

end Sys2Proof.Machine
end

section
/-! Entry to a power state step by step, and the performance levels (R459 to R468). -/

namespace Sys2Proof.Machine

set_option Elab.async false

variable {s t : State}

/-! ### The power controller's own operations -/

/-- A state that the steward can read: RUN, IDLE, or entry. -/
theorem powerTo_readable (s : State) {mode : Nat} (step : Nat) (h : mode = pmRun ∨ mode = pmIdle ∨ mode = pmEntering) :
    s.powerTo mode step = ((s.setPower fun fld => { fld with mode := mode, step := step, stepAt := s.now }).wr
      Reg.POWER_STATE_state 0 0 mode).wr Reg.POWER_STATE_step 0 0 step := if_pos h

/-- A state in which nothing can be read. -/
theorem powerTo_gated (s : State) {mode : Nat} (step : Nat) (h : mode = 2 ∨ mode = 3 ∨ mode = 4) :
    s.powerTo mode step = (s.setPower fun fld => { fld with mode := mode, step := step, stepAt := s.now }).wr
      Reg.POWER_STATE_step 0 0 0 := if_neg (by unfold pmRun pmIdle pmEntering; omega)

theorem powerTo_power (s : State) (mode step : Nat) :
    (s.powerTo mode step).power = { s.power with mode := mode, step := step, stepAt := s.now } := by
  unfold State.powerTo
  dsimp only
  split
  · rfl
  · rfl

/-- Going to a state leaves everything but the power controller and its objects. -/
theorem powerTo_rest (s : State) (mode step : Nat) :
    s.powerTo mode step = { s with power := (s.powerTo mode step).power, regs := (s.powerTo mode step).regs } := by
  unfold State.powerTo
  dsimp only
  split
  · rfl
  · rfl

/-- The objects written where the device changes its power state. -/
def powerObjects : List Obj := [Reg.POWER_STATE_state, Reg.POWER_STATE_step]

theorem powerTo_reads (s : State) (mode step : Nat) : s.ReadsBut powerObjects (s.powerTo mode step) := by
  have hset := State.ReadsBut.of_regs (l := powerObjects)
    (State.setPower_regs (s := s) fun fld => { fld with mode := mode, step := step, stepAt := s.now })
  unfold State.powerTo
  exact .ite ((hset.wr _ (by decide) (by decide) (by decide)).wr _ (by decide) (by decide) (by decide))
    (hset.wr _ (by decide) (by decide) (by decide))

theorem ungate_power (s : State) : s.ungate.power = s.power := by
  unfold State.ungate
  split
  · rfl
  · rfl

theorem ungate_rest (s : State) : s.ungate = { s with house := s.ungate.house, timers := s.ungate.timers } := by
  unfold State.ungate
  split
  · rfl
  · rfl

theorem wakeCause_cause (s : State) (code detail : Nat) :
    (s.wakeCause code detail).rd Reg.POWER_STATE_wake_cause = (refuser code 0 detail : Nat) := by
  unfold State.wakeCause
  rw [State.rd_wr_other _ _ Obj.key_ne, State.rd_wr_other _ _ Obj.key_ne, State.rd_wr_self]

theorem wakeCause_power (s : State) (code detail : Nat) :
    (s.wakeCause code detail).power = { s.power with wakeAt := s.now } := rfl

theorem wakeCause_stamp (s : State) (code detail : Nat) :
    (s.wakeCause code detail).rd Reg.POWER_STATE_wake_stamp = s.now := by
  unfold State.wakeCause
  rw [State.rd_wr_other _ _ Obj.key_ne, State.rd_wr_self]
  rfl

/-! ### Ports that are parked and come back (Table 5.2, Table 11.4) -/

theorem unpark_power (s : State) (p : Port) (cause : Nat) : (s.unpark p cause).power = s.power := by
  have hquiet (t : State) (a : Nat) : (t.afterQuiet p a).power = t.power := by
    unfold State.afterQuiet
    extract_lets e power t₁ t₂
    have h₁ : t₁.power = t.power := by
      unfold t₁
      split
      · exact State.queueCtl_power ..
      · rfl
    have h₂ : t₂.power = t₁.power := by
      unfold t₂
      split
      · rfl
      · rfl
    exact h₂.trans h₁
  have hstate : ((s.ecTrain p).toState p (resumed (s.port p).heldBefore) cause).power = s.power := by
    rw [State.toState_power, State.ecTrain_power]
  unfold State.unpark
  dsimp only
  split
  · refine Eq.trans (foldl_keeps State.power ?_ _ _) hstate
    exact fun t a => hquiet t a
  · exact hstate

/-- The objects written where a port leaves PARKED. -/
def resumeObjects : List Obj := Reg.LP_STATION_state :: Reg.LP_STATE_state :: Reg.LP_STATE_stamp :: leavingObjects

theorem unpark_reads (s : State) (p : Port) (cause : Nat) : s.ReadsBut resumeObjects (s.unpark p cause) := by
  intro o i j h hi hj
  unfold resumeObjects at h
  rw [List.all_cons, Bool.and_eq_true] at h
  obtain ⟨hstation, hrest⟩ := h
  have hec : o.apart Reg.LP_EC_state = true := List.all_eq_true.mp hrest _ (by decide)
  unfold State.unpark
  extract_lets new u v
  have hu : u.rd o i j = s.rd o i j := by
    rw [rd_toState _ p new cause hrest hi hj, (ecTrain_reads s p).rd (by rw [List.all_cons, hec]; rfl) hi hj]
  have hread : u.ReadsBut [Reg.LP_STATION_state] (if new = stDiscover ∨ new = stService then
      (v.registered p).foldl (fun s a => (s.afterQuiet p a).setElem p a fun e =>
        { e with toRange := true, rangeAt := none, attempts := 0, outOfRange := false }) v else u) := by
    refine .ite (.trans (.of_regs (State.setPort_regs ..)) (.foldl _ (fun t a ha => ?_) _)) (.refl u)
    have ha := (mem_registered _ ha).1
    exact (afterQuiet_spec t p (by omega)).1.then_regs (State.setElem_regs ..)
  rw [hread.rd (by rw [List.all_cons, hstation]; rfl) hi hj, hu]

/-- What the ports that entry parked do as they leave PARKED. -/
theorem unparkParked_spec (s : State) (cause : Nat) : s.ReadsBut resumeObjects (s.unparkParked cause)
    ∧ (s.unparkParked cause).power = { s.power with parked := [] } := by
  unfold State.unparkParked
  dsimp only
  exact ⟨.trans (.of_regs (State.setPower_regs ..)) (.foldl _ (fun t p _ => unpark_reads t p cause) _),
    foldl_keeps State.power (fun t p => unpark_power t p cause) _ _⟩

/-! ### Steps undone and done (R464 to R467) -/

/-- What an entry undone leaves: the state of before, its abort counted, its refuser kept (R467, R468). -/
theorem undoEntry_spec (s : State) (code detail : Nat) : (s.undoEntry code detail).power = { s.power with
      mode := s.power.before, step := 0, stepAt := s.now, clamped := false, selfRefresh := false, detectors := false,
      parked := [], abandon := none }
    ∧ (s.undoEntry code detail).rd Reg.LAST_REFUSER = (refuser code s.power.step detail : Nat)
    ∧ (s.undoEntry code detail).rd Reg.ENTRY_ABORTS = (s.rd Reg.ENTRY_ABORTS + 1) % 18446744073709551616 := by
  unfold State.undoEntry
  dsimp only
  obtain ⟨u, hu⟩ : ∃ u, u = s.setPower fun fld => { fld with clamped := false, selfRefresh := false, detectors := false } :=
    ⟨_, rfl⟩
  have hpower : u.power = { s.power with clamped := false, selfRefresh := false, detectors := false } := by rw [hu]; rfl
  have hregs : u.regs = s.regs := by rw [hu]; rfl
  have hnow : u.now = s.now := by rw [hu]; rfl
  rw [← hu]
  obtain ⟨hreads, hparked⟩ := unparkParked_spec (u.powerTo u.power.before 0) 4
  have hto := powerTo_power u u.power.before 0
  have hdone := (powerTo_reads u u.power.before 0).mono (List.subset_append_left powerObjects resumeObjects)
    |>.trans (hreads.mono (List.subset_append_right powerObjects resumeObjects))
  obtain ⟨v, hv⟩ : ∃ v, v = (u.powerTo u.power.before 0).unparkParked 4 := ⟨_, rfl⟩
  rw [← hv] at hparked hdone ⊢
  refine ⟨?_, ?_, ?_⟩
  · show { v.power with abandon := none } = _
    rw [hparked, hto, hnow, hpower]
  · exact State.rd_wr_self ..
  · refine (State.rd_wr_other _ _ Obj.key_ne).trans ((State.rd_inc_self ..).trans ?_)
    rw [State.rd_congr (State.setPower_regs ..), hdone.rd (by decide) (by decide) (by decide), State.rd_congr hregs]

/-- The step that begins does what Table 11.4 says, and the controller goes on. -/
theorem stepAction_spec (s : State) : s.stepAction.power.mode = s.power.mode ∧ s.stepAction.power.step = s.power.step
    ∧ s.stepAction.power.target = s.power.target ∧ s.stepAction.power.clamped = s.power.clamped
    ∧ (s.power.step = 4 → s.stepAction.power.selfRefresh = true) := by
  by_cases htwo : s.power.step = 2
  · have hparked : ∃ (u : State) (l : List Nat), u.power = s.power
        ∧ s.stepAction = u.setPower fun fld => { fld with parked := l, detectors := true } := by
      unfold State.stepAction
      rw [if_pos htwo]
      refine ⟨_, _, ?_, rfl⟩
      refine Eq.trans (foldl_keeps State.power ?_ _ _) (Eq.trans (foldl_keeps State.power ?_ _ _) rfl)
      · exact fun t p => State.park_power ..
      · exact fun t r => State.deliver_power ..
    obtain ⟨u, l, hpower, hu⟩ := hparked
    rw [hu, ← hpower]
    exact ⟨rfl, rfl, rfl, rfl, fun h => absurd (hpower ▸ h) (by omega)⟩
  by_cases hthree : s.power.step = 3
  · have hpower : s.stepAction.power = s.power := by
      unfold State.stepAction State.writeBackAll
      rw [if_neg htwo, if_pos hthree]
      refine foldl_keeps State.power ?_ _ _
      exact fun _ _ => rfl
    rw [hpower]
    exact ⟨rfl, rfl, rfl, rfl, fun h => by omega⟩
  by_cases hfour : s.power.step = 4
  · have hpower : s.stepAction.power = { s.power with selfRefresh := true } := by
      unfold State.stepAction
      rw [if_neg htwo, if_neg hthree, if_pos hfour]
      rfl
    rw [hpower]
    exact ⟨rfl, rfl, rfl, rfl, fun _ => rfl⟩
  · have hpower : s.stepAction = s := by
      unfold State.stepAction
      rw [if_neg htwo, if_neg hthree, if_neg hfour]
    rw [hpower]
    exact ⟨rfl, rfl, rfl, rfl, fun h => absurd h hfour⟩

/-- The signatures of the banks leave the time, the power controller and the stamp of entry to be written. -/
theorem sign_spec (s : State) : s.sign.power = s.power ∧ s.sign.time = s.time := by
  unfold State.sign
  constructor
  · refine foldl_keeps State.power ?_ _ _
    exact fun _ _ => rfl
  · refine foldl_keeps State.time ?_ _ _
    exact fun _ _ => rfl

/-- Step 5 before the banks are signed: the clamps engaged, station time, the counter, ρ and the bound latched. -/
def State.latched (s : State) (m : EntryMeas) : State :=
  let s := s.setPower fun fld => { fld with clamped := true }
  s.setTime fun fld => { fld with
    latchT := s.now, latchC := m.counter, latchRho := s.rdN Reg.XLF_RATIO_rho, latchB := s.bound.toNat }

theorem signThermos_off (m : EntryMeas) (h : s.power.target = pmOff) :
    s.signThermos m = s.setPower fun fld => { fld with clamped := true } := if_pos h

theorem signThermos_on (m : EntryMeas) (h : s.power.target ≠ pmOff) :
    s.signThermos m = (s.latched m).sign.wr Reg.POWER_STATE_entry_stamp 0 0 (s.latched m).now := if_neg h

/-- Step 5 ends: the clamps are engaged; but for OFF, station time, the counter and ρ are latched (R480, R484). -/
theorem signThermos_spec (s : State) (m : EntryMeas) :
    (s.signThermos m).power = { s.power with clamped := true } ∧ (s.signThermos m).now = s.now
      ∧ (s.power.target ≠ pmOff → (s.signThermos m).time.latchT = s.now ∧ (s.signThermos m).time.latchC = m.counter
        ∧ (s.signThermos m).time.latchRho = s.rdN Reg.XLF_RATIO_rho
        ∧ (s.signThermos m).rd Reg.POWER_STATE_entry_stamp = s.now) := by
  by_cases hoff : s.power.target = pmOff
  · rw [signThermos_off m hoff]
    exact ⟨rfl, rfl, fun h => absurd hoff h⟩
  · rw [signThermos_on m hoff]
    obtain ⟨hpower, htime⟩ := sign_spec (s.latched m)
    refine ⟨?_, ?_, fun _ => ⟨?_, ?_, ?_, ?_⟩⟩
    · rw [State.wr_power, hpower]
      rfl
    · rw [State.now_wr, State.now_congr htime]
      rfl
    · rw [State.wr_time, htime]
      rfl
    · rw [State.wr_time, htime]
      rfl
    · rw [State.wr_time, htime]
      rfl
    · rw [State.rd_wr_self]
      rfl

/-- Step 6 ends: the device is in its target, and the entry is counted (R466). -/
theorem gate_before_wake (s : State) {target : Nat} (htarget : target = 2 ∨ target = 3 ∨ target = 4) :
    let u := ((s.inc Reg.POWER_STATE_ENTRIES).hmpTo hmpGated).powerTo target 0
    u.power = { s.power with mode := target, step := 0, stepAt := s.now } ∧ u.now = s.now ∧ u.ports = s.ports
      ∧ u.rd Reg.POWER_STATE_ENTRIES = (s.rd Reg.POWER_STATE_ENTRIES + 1) % 18446744073709551616 := by
  dsimp only
  obtain ⟨v, hv⟩ : ∃ v, v = (s.inc Reg.POWER_STATE_ENTRIES).hmpTo hmpGated := ⟨_, rfl⟩
  have hpower : v.power = s.power := by rw [hv, State.hmpTo_power]; rfl
  have hnow : v.now = s.now := by rw [hv, State.now_congr (State.hmpTo_time ..)]; rfl
  have hports : v.ports = s.ports := by
    rw [hv, State.hmpTo_keeps _ State.ports _ rfl fun _ _ => rfl]
    rfl
  have hentries : v.rd Reg.POWER_STATE_ENTRIES = (s.rd Reg.POWER_STATE_ENTRIES + 1) % 18446744073709551616 := by
    rw [hv, State.rd_hmpTo_other _ _ Obj.key_ne, State.rd_inc_self]
  rw [← hv, powerTo_gated v 0 htarget]
  refine ⟨?_, ?_, ?_, ?_⟩
  · show { v.power with mode := target, step := 0, stepAt := v.now } = _
    rw [hpower, hnow]
  · exact hnow
  · exact hports
  · rw [State.rd_wr_other _ _ Obj.key_ne]
    exact hentries

/-- An entry whose sixth step ends with no happening (R464). -/
theorem gate_quiet (htarget : s.power.target = 2 ∨ s.power.target = 3 ∨ s.power.target = 4) (hnone : s.power.abandon = none) :
    s.gate.power = { s.power with
      mode := s.power.target, step := 0, stepAt := s.now, slept := s.power.target,
      lowPower := decide (3 ≤ s.power.target), wake := 0, abandon := none }
    ∧ s.gate.ports = s.ports
    ∧ s.gate.rd Reg.POWER_STATE_ENTRIES = (s.rd Reg.POWER_STATE_ENTRIES + 1) % 18446744073709551616 := by
  obtain ⟨hpower, -, hports, hentries⟩ := gate_before_wake s htarget
  unfold State.gate
  rw [hnone]
  obtain ⟨u, hu⟩ : ∃ u, u = ((s.inc Reg.POWER_STATE_ENTRIES).hmpTo hmpGated).powerTo s.power.target 0 := ⟨_, rfl⟩
  dsimp only at hpower hports hentries ⊢
  rw [← hu] at hpower hports hentries ⊢
  refine ⟨?_, hports, hentries⟩
  rw [State.setPower_power, hpower]

/-- A happening after the begin of step 6 starts an ordinary wake (R466). -/
theorem gate_late {code detail : Nat} (htarget : s.power.target = 2 ∨ s.power.target = 3)
    (hsome : s.power.abandon = some (code, detail)) : s.gate.power = { s.power with
      mode := s.power.target, step := 0, stepAt := s.now, slept := s.power.target, lowPower := false, wake := 1,
      wakeAt := s.now, abandon := none }
    ∧ s.gate.rd Reg.POWER_STATE_wake_cause = (refuser code 0 detail : Nat) := by
  obtain ⟨hpower, hnow, -, -⟩ := gate_before_wake s (target := s.power.target) (by omega)
  unfold State.gate State.startWake
  rw [hsome]
  obtain ⟨u, hu⟩ : ∃ u, u = ((s.inc Reg.POWER_STATE_ENTRIES).hmpTo hmpGated).powerTo s.power.target 0 := ⟨_, rfl⟩
  dsimp only at hpower hnow ⊢
  rw [← hu] at hpower hnow ⊢
  rw [if_neg (by unfold pmOff; omega)]
  refine ⟨?_, wakeCause_cause ..⟩
  rw [State.setPower_power, wakeCause_power, State.setPower_power, hpower, State.now_congr (State.setPower_time ..), hnow]

/-! ### WAIT (R414, R463) -/

/-- What a broadcast WAIT leaves as it is forwarded. -/
theorem waitForward_spec (s : State) (bcast : Bool) :
    let u := if bcast then s.forward s.hostSide.other (bcastCtrl [7, 0, 0, 0]) else s
    u.power = s.power ∧ u.steward = s.steward ∧ u.stopped = s.stopped ∧ u.rd Reg.POWER_TARGET = s.rd Reg.POWER_TARGET
      ∧ u.ports = s.ports ∧ (bcast = false → u = s) := by
  cases bcast with
  | false => exact ⟨rfl, rfl, rfl, rfl, rfl, fun _ => rfl⟩
  | true =>
    dsimp only
    rw [if_pos rfl]
    obtain ⟨q, hq⟩ : ∃ q, q = bcastCtrl [7, 0, 0, 0] := ⟨_, rfl⟩
    rw [← hq]
    have hread := s.rd_forward_apart s.hostSide.other q (q := Reg.POWER_TARGET) (i := 0) (j := 0) (by decide) (by decide)
      (by decide)
    have hkeeps {α : Type} (f : State → α) (h : ∀ x r, f (s.send x r) = f s) : f (s.forward s.hostSide.other q) = f s := by
      unfold State.forward
      split
      · rfl
      · exact h ..
    have hpower := hkeeps State.power fun x r => State.send_power ..
    have hrst := hkeeps State.rst fun x r => State.send_rst ..
    have hfaults := hkeeps State.faults fun x r => State.send_faults ..
    have hports := hkeeps State.ports fun x r => State.send_ports ..
    refine ⟨hpower, ?_, ?_, hread, hports, fun h => absurd h (by decide)⟩
    · unfold State.steward State.runs State.live State.awake
      rw [hpower, hrst, hfaults]
    · unfold State.stopped
      rw [hpower]

theorem stopStamps_unaligned (s : State) (u : Nat) : ∀ src ∈ unitSources u, src ∈ (s.stopStamps u).time.unaligned := by
  intro src hsrc
  show src ∈ s.time.unaligned ++ (unitSources u).filter fun x => decide (x ∉ s.time.unaligned)
  by_cases h : src ∈ s.time.unaligned
  · exact List.mem_append_left _ h
  · exact List.mem_append_right _ (List.mem_filter.mpr ⟨hsrc, decide_eq_true h⟩)

/-- The end of a commit leaves the ramps and the time. -/
theorem commitDone_leaves (s : State) : s.commitDone.iz.ramping = s.iz.ramping ∧ s.commitDone.power = s.power
    ∧ s.commitDone.time = s.time := by
  unfold State.commitDone
  split
  · exact ⟨rfl, rfl, rfl⟩
  · split
    · exact ⟨rfl, rfl, rfl⟩
    · dsimp only
      refine ⟨?_, ?_, ?_⟩
      · refine foldl_keeps (fun t : State => t.iz.ramping) ?_ _ _
        exact fun _ _ => rfl
      · refine foldl_keeps State.power ?_ _ _
        exact fun _ _ => rfl
      · refine foldl_keeps State.time ?_ _ _
        exact fun _ _ => rfl

theorem stepMet_last {m : EntryMeas} (h : s.power.step = 6) : s.stepMet m = true := by
  unfold State.stepMet
  rw [h]
  rfl

/-- The happening of R466 that abandons entry: none whose stamp lies after the begin of step 6. -/
def State.abandoned (s : State) : Option (Nat × Nat) :=
  if decide (s.power.step = 6 ∧ s.power.stepAt < s.power.abandonAt) then none else s.power.abandon

theorem abandoned_of_none (h : s.power.abandon = none) : s.abandoned = none := by
  unfold State.abandoned
  split
  · rfl
  · exact h

theorem abandoned_late (hstep : s.power.step = 6) (hlate : s.power.stepAt < s.power.abandonAt) : s.abandoned = none :=
  if_pos (decide_eq_true ⟨hstep, hlate⟩)

theorem abandoned_early (h : s.power.step ≠ 6 ∨ s.power.abandonAt ≤ s.power.stepAt) : s.abandoned = s.power.abandon :=
  if_neg fun hlate => by
    obtain ⟨hstep, hlate⟩ := of_decide_eq_true hlate
    exact h.elim (fun hother => hother hstep) fun hle => absurd hlate (not_lt.mpr hle)

theorem exec_entry_abandoned {m : EntryMeas} {code detail : Nat} (hruns : s.runs = true) (hstopped : s.stopped = true)
    (hmet : s.stepMet m = true) (h : s.abandoned = some (code, detail)) :
    exec (.entryStepAdvance m) s = .next ((s.undoEntry code detail).keep s) := by
  unfold State.abandoned at h
  refine (guarded_pos s ⟨hruns, hstopped, hmet⟩).trans ?_
  dsimp only
  rw [h]

theorem exec_entry_goes {m : EntryMeas} (hruns : s.runs = true) (hstopped : s.stopped = true) (hmet : s.stepMet m = true)
    (h : s.abandoned = none) : exec (.entryStepAdvance m) s = .next ((if s.power.step = 6 then s.gate else
      let s := if s.power.step = 5 then s.signThermos m else s
      (s.powerTo pmEntering s.nextStep).stepAction).keep s) := by
  unfold State.abandoned at h
  refine (guarded_pos s ⟨hruns, hstopped, hmet⟩).trans ?_
  dsimp only
  rw [h]

theorem exec_entry_last {m : EntryMeas} (hruns : s.runs = true) (hstopped : s.stopped = true) (hstep : s.power.step = 6)
    (h : s.abandoned = none) : exec (.entryStepAdvance m) s = .next (s.gate.keep s) := by
  rw [exec_entry_goes hruns hstopped (stepMet_last hstep) h, if_pos hstep]

/-! ### The obligation -/

/-- Settles O46, over every state. -/
theorem powerEntryAndLevels : Obligations.PowerEntryAndLevels := by
  unfold Obligations.PowerEntryAndLevels
  refine ⟨?idle, ?nothing, ?begin, ?wake, ?advance, ?gate, ?late, ?abandon, ?refused, ?change, ?done⟩
  case idle =>
    intro s x bcast hruns hlink hhost hsteward hstopped htarget
    obtain ⟨hpower, hsteward', hstopped', htarget', -, hsame⟩ := waitForward_spec s bcast
    obtain ⟨u, hu⟩ : ∃ u, u = if bcast then s.forward s.hostSide.other (bcastCtrl [7, 0, 0, 0]) else s := ⟨_, rfl⟩
    have hexec : exec (.waitParcel x bcast) s = .next ((u.powerTo pmIdle 0).keep s) := by
      refine (guarded_pos s ⟨hruns, hlink, hhost⟩).trans ?_
      dsimp only at hsteward' hstopped' htarget' ⊢
      rw [← hu] at hsteward' hstopped' htarget' ⊢
      have hidle : u.rdN Reg.POWER_TARGET = pmIdle := by rw [State.rdN, htarget', htarget]; rfl
      rw [if_neg (by rw [hsteward', hstopped', hsteward, hstopped, hidle]; decide), if_pos hidle]
    refine ⟨_, hexec, ?_, ?_, fun hbcast => ?_⟩
    · rw [State.keep_power, powerTo_power]
    · rw [State.rd_keep, powerTo_readable _ _ (.inr (.inl rfl)), State.rd_wr_other _ _ Obj.key_ne, State.rd_wr_self]
      rfl
    · have hsame := hu.trans (hsame hbcast)
      rw [hsame, powerTo_rest]
      rfl
  case nothing =>
    intro s x hruns hlink hhost hnothing
    have htarget : s.rd Reg.POWER_TARGET = 0 → s.rdN Reg.POWER_TARGET = pmRun := fun h => by
      rw [State.rdN, h]
      rfl
    refine (guarded_pos s ⟨hruns, hlink, hhost⟩).trans ?_
    rw [if_neg Bool.false_ne_true]
    rw [if_pos (hnothing.imp (fun h => by rw [h]; rfl) (.imp id htarget))]
    rfl
  case begin =>
    intro s x bcast hruns hlink hhost hsteward hstopped htarget
    obtain ⟨hpower, hsteward', hstopped', htarget', hports, -⟩ := waitForward_spec s bcast
    obtain ⟨u, hu⟩ : ∃ u, u = if bcast then s.forward s.hostSide.other (bcastCtrl [7, 0, 0, 0]) else s := ⟨_, rfl⟩
    have htargetN : u.rdN Reg.POWER_TARGET = s.rdN Reg.POWER_TARGET := by
      rw [State.rdN, hu, htarget']
      rfl
    have hhigh : 2 ≤ s.rdN Reg.POWER_TARGET := by
      rw [State.rdN]
      omega
    have hexec : exec (.waitParcel x bcast) s = .next ((u.ungate.beginEntry (s.rdN Reg.POWER_TARGET)).keep s) := by
      refine (guarded_pos s ⟨hruns, hlink, hhost⟩).trans ?_
      dsimp only at hsteward' hstopped' ⊢
      rw [← hu] at hsteward' hstopped' ⊢
      rw [htargetN, if_neg (by rw [hsteward', hstopped', hsteward, hstopped]; simp [pmRun]; omega),
        if_neg (by unfold pmIdle; omega)]
    rw [← hu] at hpower hports
    have hpowerGated : u.ungate.power = s.power := (ungate_power u).trans hpower
    have hportsGated : u.ungate.ports = s.ports := by rw [ungate_rest, hports]
    obtain ⟨v, hv⟩ : ∃ v, v = u.ungate := ⟨_, rfl⟩
    rw [← hv] at hexec hpowerGated hportsGated
    obtain ⟨w, hw⟩ : ∃ w, w = v.setPower fun fld => { fld with
      before := v.power.mode, target := s.rdN Reg.POWER_TARGET, abandon := none, idleSent := false, parked := [],
      detectors := false } := ⟨_, rfl⟩
    have hafter : (v.beginEntry (s.rdN Reg.POWER_TARGET)).power = { w.power with mode := 5, step := 1, stepAt := w.now } := by
      rw [hw]
      exact powerTo_power ..
    have hregs : (v.beginEntry (s.rdN Reg.POWER_TARGET)).regs = (w.powerTo pmEntering 1).regs := by
      rw [hw]
      rfl
    refine ⟨_, hexec, ?_, ?_, ?_, ?_, ?_, ?_, ?_⟩
    · rw [State.keep_power, hafter]
      rfl
    · rw [State.keep_power, hafter]
    · rw [State.keep_power, hafter, hw]
      rfl
    · rw [State.keep_power, hafter, hw, ← hpowerGated]
      rfl
    · rw [State.rd_keep, State.rd_congr hregs, powerTo_readable _ _ (.inr (.inr rfl)), State.rd_wr_other _ _ Obj.key_ne,
        State.rd_wr_self]
      rfl
    · rw [State.rd_keep, State.rd_congr hregs, powerTo_readable _ _ (.inr (.inr rfl)), State.rd_wr_self]
      rfl
    · rw [State.keep_ports, ← hportsGated]
      rfl
  case wake =>
    intro s hruns hidle
    obtain ⟨u, hu⟩ : ∃ u, u = (s.powerTo pmRun 0).wakeCause 14 0 := ⟨_, rfl⟩
    have hexec : exec .wakeParcel s = .next (u.ungate.keep s) := by
      rw [hu]
      exact guarded_pos s ⟨hruns, hidle⟩
    have hregs : u.ungate.regs = u.regs := by rw [ungate_rest]
    have hstate : u.rd Reg.POWER_STATE_state = 0 := by
      rw [hu, powerTo_readable _ _ (.inl rfl)]
      unfold State.wakeCause
      rw [State.rd_wr_other _ _ Obj.key_ne, State.rd_wr_other _ _ Obj.key_ne, State.rd_wr_other _ _ Obj.key_ne,
        State.rd_congr (State.setPower_regs ..), State.rd_wr_other _ _ Obj.key_ne, State.rd_wr_self]
      rfl
    refine ⟨_, hexec, ?_, ?_, ?_, ?_, ?_⟩
    · rw [State.keep_power, ungate_power, hu, wakeCause_power, powerTo_power]
    · rw [State.rd_keep, State.rd_congr hregs, hstate]
    · rw [State.rd_keep, State.rd_congr hregs, hu, wakeCause_cause]
      rfl
    · rw [State.rd_keep, State.rd_congr hregs, hu, wakeCause_stamp, powerTo_rest]
      rfl
    · have hrest : u = { s with power := u.power, regs := u.regs } := by
        rw [hu]
        unfold State.wakeCause
        rw [powerTo_rest]
        rfl
      rw [ungate_rest, hrest]
      rfl
  case advance =>
    intro s m hruns hstopped hmet hstep hnone
    obtain ⟨u, hu⟩ : ∃ u, u = if s.power.step = 5 then s.signThermos m else s := ⟨_, rfl⟩
    have hexec : exec (.entryStepAdvance m) s = .next ((u.powerTo pmEntering u.nextStep).stepAction.keep s) := by
      rw [exec_entry_goes hruns hstopped hmet (abandoned_of_none hnone), if_neg hstep, ← hu]
    have hpower : u.power = { s.power with clamped := decide (s.power.step = 5) || s.power.clamped } := by
      rw [hu]
      split
      · next h =>
        rw [(signThermos_spec s m).1, decide_eq_true h]
        rfl
      · next h =>
        rw [decide_eq_false h]
        rfl
    have hnext : u.nextStep = if s.power.step = 2 ∧ s.power.target = pmOff then 5 else s.power.step + 1 := by
      unfold State.nextStep
      rw [hpower]
    obtain ⟨hmode, hstep', htarget, hclamped, hrefresh⟩ := stepAction_spec (u.powerTo pmEntering u.nextStep)
    rw [powerTo_power, hpower] at hmode hstep' htarget hclamped hrefresh
    dsimp only at hmode hstep' htarget hclamped hrefresh
    refine ⟨_, hexec, ?_, ?_, ?_, fun h => ?_, fun h hoff => ?_, fun h => ?_⟩
    · rw [State.keep_power, hmode]
    · rw [State.keep_power, hstep', hnext]
    · rw [State.keep_power, htarget]
    · rw [State.keep_power, hclamped, decide_eq_true h]
      rfl
    · have hsix : u.nextStep = 6 := by rw [hnext, if_neg (by omega), h]
      have hstays : (u.powerTo pmEntering 6).stepAction = u.powerTo pmEntering 6 := by
        unfold State.stepAction
        rw [powerTo_power]
        rfl
      rw [if_pos h] at hu
      obtain ⟨-, -, hlatched⟩ := signThermos_spec s m
      obtain ⟨hT, hC, hrho, hstamp⟩ := hlatched hoff
      rw [← hu] at hT hC hrho hstamp
      have htime : (u.powerTo pmEntering 6).time = u.time := by rw [powerTo_rest]
      rw [hsix, hstays, State.keep_time, htime, State.rd_keep,
        (powerTo_reads u pmEntering 6).rd (by decide) (by decide) (by decide)]
      exact ⟨hT, hC, hrho, hstamp⟩
    · rw [State.keep_power, hrefresh (by rw [hnext, if_neg (by omega), h])]
  case gate =>
    intro s m hruns hstopped hstep hnone htarget
    obtain ⟨hpower, hports, hentries⟩ := gate_quiet htarget hnone
    have hexec := exec_entry_last (m := m) hruns hstopped hstep (abandoned_of_none hnone)
    refine ⟨_, hexec, ?_, ?_, ?_, ?_, ?_, ?_⟩
    · rw [State.keep_power, hpower]
    · rw [State.keep_power, hpower]
    · rw [State.keep_power, hpower]
    · rw [State.keep_power, hpower]
    · rw [State.keep_ports, hports]
    · rw [State.rd_keep, hentries]
  case late =>
    intro s m code detail hruns hstopped hstep hsome hlate htarget
    obtain ⟨hpower, hcause⟩ := gate_late htarget hsome
    have hexec := exec_entry_last (m := m) hruns hstopped hstep (abandoned_late hstep hlate)
    refine ⟨_, hexec, ?_, ?_, ?_, ?_, ?_, ?_, ?_⟩
    · rw [State.keep_power, hpower]
    · rw [State.keep_power, hpower]
    · rw [State.keep_power, hpower]
    · rw [State.keep_power, hpower]
    · rw [State.keep_power, hpower]
    · rw [State.keep_power, hpower]
    · rw [State.rd_keep, hcause]
  case abandon =>
    intro s m code detail hruns hstopped hmet hearly hsome
    obtain ⟨hpower, hrefuser, hcount⟩ := undoEntry_spec s code detail
    refine ⟨_, exec_entry_abandoned hruns hstopped hmet ((abandoned_early hearly).trans hsome), ?_, ?_, ?_, ?_, ?_, ?_⟩
    · rw [State.keep_power, hpower]
    · rw [State.keep_power, hpower]
    · rw [State.keep_power, hpower]
    · rw [State.keep_power, hpower]
    · rw [State.rd_keep, hrefuser]
    · rw [State.rd_keep, hcount]
  case refused =>
    intro s m code detail hruns hstopped hrefuses
    obtain ⟨hpower, hrefuser, hcount⟩ := undoEntry_spec s code detail
    have hexec : exec (.entryRefused m) s = .next ((s.undoEntry code detail).keep s) := by
      have hunfold : exec (.entryRefused m) s = execEntryRefused m s := rfl
      rw [hunfold, execEntryRefused]
      simp only [hrefuses]
      exact guarded_pos s ⟨hruns, hstopped⟩
    refine ⟨_, hexec, ?_, ?_, ?_, ?_, ?_, ?_⟩
    · rw [State.keep_power, hpower]
    · rw [State.keep_power, hpower]
    · rw [State.keep_power, hpower]
    · rw [State.keep_power, hpower]
    · rw [State.rd_keep, hrefuser]
    · rw [State.rd_keep, hcount]
  case change =>
    intro s u hruns hramping hidle hpoint
    obtain ⟨new, hnew⟩ : ∃ new, new = s.rd Reg.PERF_LEVEL_requested 0 u.val := ⟨_, rfl⟩
    obtain ⟨v, hv⟩ : ∃ v, v = s.setPower fun fld => { fld with ramps := s.power.ramps ++ [(u.val, new.toNat)] } := ⟨_, rfl⟩
    have hold : v.rd Reg.PERF_LEVEL_in_force 0 u.val = s.rd Reg.PERF_LEVEL_in_force 0 u.val := by rw [hv]; rfl
    have hexec : exec (.perfLevelChange u) s = .next ((if v.rd Reg.PERF_LEVEL_in_force 0 u.val < new then
        if new = 3 then (v.wr Reg.PERF_LEVEL_in_force 0 u.val new).stopStamps u.val
        else v.wr Reg.PERF_LEVEL_in_force 0 u.val new else v).keep s) := by
      rw [hv, hnew]
      exact guarded_pos s ⟨hruns, hramping, hidle, hpoint⟩
    rw [hold] at hexec
    rw [← hnew]
    by_cases hlower : s.rd Reg.PERF_LEVEL_in_force 0 u.val < new
    · rw [if_pos hlower] at hexec
      by_cases hthree : new = 3
      · rw [if_pos hthree] at hexec
        refine ⟨_, hexec, ?_, ?_, fun _ _ => stopStamps_unaligned _ _, ?_⟩
        · rw [State.keep_power, hv, State.rdN, ← hnew]
          rfl
        · rw [State.rd_keep, max_eq_right hlower.le]
          exact State.rd_wr_self ..
        · rw [hv]
          rfl
      · rw [if_neg hthree] at hexec
        refine ⟨_, hexec, ?_, ?_, fun _ h => absurd h hthree, ?_⟩
        · rw [State.keep_power, hv, State.rdN, ← hnew]
          rfl
        · rw [State.rd_keep, max_eq_right hlower.le]
          exact State.rd_wr_self ..
        · rw [hv]
          rfl
    · rw [if_neg hlower] at hexec
      refine ⟨_, hexec, ?_, ?_, fun h hthree => absurd h (by omega), ?_⟩
      · rw [State.keep_power, hv, State.rdN, ← hnew]
        rfl
      · rw [State.rd_keep, hold, max_eq_left (not_lt.mp hlower)]
      · rw [hv]
        rfl
  case done =>
    intro s u r hruns hfind
    obtain ⟨v, hv⟩ : ∃ v, v = ((s.setPower fun fld => { fld with ramps := s.power.ramps.filter fun x => x.1 != u.val }).setIz
      fun fld => { fld with ramping := s.iz.ramping.filter fun x => x != u.val }).wr Reg.PERF_LEVEL_in_force 0 u.val r.2 :=
      ⟨_, rfl⟩
    have hexec : exec (.perfLevelRampDone u) s = .next (v.commitDone.keep s) := by
      have hunfold : exec (.perfLevelRampDone u) s = execPerfLevelRampDone u s := rfl
      rw [hunfold, execPerfLevelRampDone, hv]
      simp only [hfind]
      exact guarded_pos s hruns
    obtain ⟨hramping, hpower, htime⟩ := commitDone_leaves v
    obtain ⟨hreads, -⟩ := commitDone_spec v
    refine ⟨_, hexec, ?_, ?_, fun x hx => ?_, ?_⟩
    · rw [State.rd_keep, hreads.rd (by decide) (by decide) (by have := u.isLt; omega), hv, State.rd_wr_self]
    · rw [State.keep_iz, hramping, hv]
      simp
    · rw [State.keep_power, hpower, hv] at hx
      have hx := List.of_mem_filter hx
      exact bne_iff_ne.mp hx
    · rw [State.keep_time, htime, hv]
      rfl

end Sys2Proof.Machine
end

section
/-! Frames of stations taken in, proxy requests sent and answered, and keys of associations (R121, R145, R157, R451). -/

namespace Sys2Proof.Machine

set_option Elab.async false

variable {s t u v : State} {p : Port}

theorem queueCtl_port (s : State) (p : Port) (f : CtlFrame) :
    (s.queueCtl p f).port p = { s.port p with ctl := (s.port p).ctl ++ [f] } := State.port_setPort_self ..

/-! ### Responses to proxy requests (R451) -/

theorem rd_answerProxy (s : State) (p : Port) (x : Proxy) (status : Nat) (data : Bytes) {q : Obj} {i j : Nat}
    (h : q.apart Reg.PF_PORT_CREDIT_STALLS = true := by decide) (hi : i < 32 := by omega) (hj : j < 1048576 := by omega) :
    (s.answerProxy p x status data).rd q i j = s.rd q i j := s.rd_respond_apart _ h hi hj

/-- A proxy request of a session that is there is answered with its tag. -/
theorem answerProxy_sends (s : State) (p : Port) (x : Proxy) (status : Nat) (data : Bytes)
    (h : ∀ k, sessionNo x.session = some k → (s.session k).phase ≠ 0) :
    ∃ r, Out.reply r ∈ (s.answerProxy p x status data).out ∧ r.status = status ∧ r.tag = x.tag ∧ r.session = x.session := by
  have hsends (y : IzResp) (hstatus : y.status = status) (htag : y.tag = x.tag) (hsession : y.session = x.session) :
      ∃ r, Out.reply r ∈ (s.respond y).out ∧ r.status = status ∧ r.tag = x.tag ∧ r.session = x.session := by
    obtain ⟨m, hm⟩ := respond_sends (s := s) y fun k hk => h k (hsession ▸ hk)
    exact ⟨_, hm, hstatus, htag, hsession⟩
  exact hsends _ rfl rfl rfl

/-! ### Keys (R145) -/

theorem answerKeys_ports (s : State) (p : Port) : (s.answerKeys p).ports = s.ports := by
  unfold State.answerKeys
  refine Eq.trans (foldl_keeps State.ports ?_ _ _) rfl
  exact fun t d => State.respond_ports ..

theorem answerKeys_blobs (s : State) (p : Port) : (s.answerKeys p).blobs = s.blobs := by
  unfold State.answerKeys
  refine Eq.trans (foldl_keeps State.blobs ?_ _ _) rfl
  exact fun t d => State.respond_blobs ..

theorem answerKeys_reads (s : State) (p : Port) : s.ReadsBut [Reg.PF_PORT_CREDIT_STALLS] (s.answerKeys p) := by
  unfold State.answerKeys
  exact .trans (.of_regs (State.setIz_regs ..)) (.foldl _ (fun t d _ _ _ _ h hi hj =>
    t.rd_respond_apart _ (List.all_eq_true.mp h _ (by decide)) hi hj) _)

/-! ### Frames taken in -/

section
variable {f : LineRx} {plain b : Bytes}

theorem exec_dataFrameRx (hruns : s.runs = true) (hhears : s.hears p = true) (hawaits : s.awaitsType p f tyData = true)
    (htake : s.takeRx p f = (some plain, u)) (hstate : u.portState p = stService) :
    exec (.dataFrameRx p f) s = .next ((match u.fragment p (Header.ofWord f.word) f.sync plain with
      | (some data, v) => v.toEngine (.upFrame p (Header.ofWord f.word) f.sync data)
      | (none, v) => v).keep s) := by
  refine (guarded_pos s ⟨hruns, hhears, hawaits⟩).trans ?_
  rw [htake]
  dsimp only
  rw [if_neg (not_not.mpr hstate)]
  obtain ⟨whole, v⟩ := u.fragment p (Header.ofWord f.word) f.sync plain
  cases whole with
  | none => rfl
  | some data => rfl

/-- A management response that is whole and well formed, to the request outstanding. -/
theorem exec_mgmtResponseRx {o : Outstanding} (hruns : s.runs = true) (hhears : s.hears p = true)
    (hawaits : s.awaitsType p f tyMgmt = true) (htake : s.takeRx p f = (some plain, u))
    (hfragment : u.fragment p (Header.ofWord f.word) f.sync plain = (some b, v))
    (hformat : (Header.ofWord f.word).frag = 0 ∨ mgmtFormat true b = true)
    (hfind : (v.port p).outstanding.find? (fun x => x.proxy.a == (Header.ofWord f.word).src && x.reqId == uAt b 1 2) = some o) :
    exec (.mgmtResponseRx p f) s = .next ((
      if (v.deadline (.mgmt p.val (Header.ofWord f.word).src)).any fun d => decide (f.sync ≤ d) then
        (((v.setPort p fun q => { q with outstanding := q.outstanding.erase o }).disarm
          (.mgmt p.val (Header.ofWord f.word).src)).inc Reg.PROXY_STATS_ANSWERED p).answerProxy p o.proxy (uAt b 9 1) (b.drop 12)
      else if v.running (.mgmt p.val (Header.ofWord f.word).src) ∧ o.attempt = v.rdN Reg.LP_ACQ_management_retries p then
        v.cntLine p Reg.LP_RX_MGMT_LATE
      else v).keep s) := by
  refine (guarded_pos s ⟨hruns, hhears, hawaits⟩).trans ?_
  rw [htake]
  dsimp only
  simp only [hfragment]
  have hgood : ¬((Header.ofWord f.word).frag ≠ 0 ∧ (!mgmtFormat true b) = true) := by
    obtain hwhole | hgood := hformat
    · exact fun h => h.1 hwhole
    · exact fun h => by simp [hgood] at h
  refine (congrArg (fun t => Host.Outcome.next (State.keep t s)) (if_neg hgood)).trans ?_
  rw [hfind]

end

/-! ### Requests repeated, given up and sent (R157, R451) -/

section
variable {a : Nat} {o : Outstanding} {d : Stamp}

theorem exec_mgmtTimeout (hruns : s.runs = true) (hfind : ((s.port p).outstanding.find? fun x => x.proxy.a == a) = some o)
    (hdeadline : s.deadline (.mgmt p.val a) = some d) (hpast : d < s.now) (hresolved : s.resolvedTo p d = true) :
    exec (.mgmtTimeout p a) s = .next ((let t := s.disarm (.mgmt p.val a)
      if o.attempt < t.rdN Reg.LP_ACQ_management_retries p then
        (t.setPort p fun q => { q with outstanding := q.outstanding.map fun x =>
          if x = o then { o with attempt := o.attempt + 1 } else x }).queueCtl p
          (t.mgmtFrame p { o with attempt := o.attempt + 1 })
      else
        (((t.setPort p fun q => { q with outstanding := q.outstanding.erase o }).setElem p a fun e =>
          { e with lateReqs := o.reqId :: e.lateReqs }).inc Reg.PROXY_STATS_TIMEOUTS p).answerProxy p o.proxy stTimeout).keep s) := by
  have hpassed : s.passed (.mgmt p.val a) = true := by
    unfold State.passed
    rw [hdeadline]
    exact decide_eq_true hpast
  have hunfold : exec (.mgmtTimeout p a) s = execMgmtTimeout p a s := rfl
  rw [hunfold, execMgmtTimeout]
  simp only [hfind]
  exact guarded_pos s ⟨hruns, hpassed, by rw [hdeadline]; exact hresolved⟩

end

/-- Settles O17, over every state. -/
theorem upstreamFramesAndKeysComplete : Obligations.UpstreamFramesAndKeysComplete := by
  unfold Obligations.UpstreamFramesAndKeysComplete
  refine ⟨?whole, ?part, ?bad, ?answered, ?late, ?again, ?gone, ?sent, ?key⟩
  case whole =>
    intro s u v p f plain data hruns hhears hawaits htake hstate hfragment
    rw [exec_dataFrameRx hruns hhears hawaits htake hstate, hfragment]
  case part =>
    intro s u v p f plain hruns hhears hawaits htake hstate hfragment
    rw [exec_dataFrameRx hruns hhears hawaits htake hstate, hfragment]
  case bad =>
    intro s u p f hruns hhears hawaits htake
    refine (guarded_pos s ⟨hruns, hhears, hawaits⟩).trans ?_
    rw [htake]
  case answered =>
    intro s u v p f plain b o d hruns hhears hawaits htake hfragment hformat hfind hdeadline hintime
    rw [exec_mgmtResponseRx hruns hhears hawaits htake hfragment hformat hfind, hdeadline,
      if_pos (by exact decide_eq_true hintime)]
  case late =>
    intro s u v p f plain b o d hruns hhears hawaits htake hfragment hformat hfind hdeadline hlate hlast
    have hrunning : v.running (.mgmt p.val (Header.ofWord f.word).src) = true := by
      unfold State.running
      rw [hdeadline]
      rfl
    rw [exec_mgmtResponseRx hruns hhears hawaits htake hfragment hformat hfind, hdeadline,
      if_neg (by simpa using hlate), if_pos ⟨hrunning, hlast⟩]
  case again =>
    intro s p a o d hruns hfind hdeadline hpast hresolved hattempt
    have hexec := exec_mgmtTimeout hruns hfind hdeadline hpast hresolved
    rw [if_pos (by exact hattempt)] at hexec
    have ho : o ∈ (s.port p).outstanding := List.mem_of_find?_eq_some hfind
    refine ⟨_, hexec, ?_, ?_, ?_, rfl⟩
    · rw [State.port_keep, queueCtl_port, State.port_setPort_self]
      rfl
    · rw [State.port_keep, queueCtl_port, State.port_setPort_self]
      exact List.mem_map.mpr ⟨o, ho, if_pos rfl⟩
    · rw [State.deadline_keep, State.deadline_congr (State.queueCtl_timers ..), State.deadline_setPort,
        State.deadline_disarm_self]
  case gone =>
    intro s p a o d hruns hfind hdeadline hpast hresolved hattempt hsession
    have hexec := exec_mgmtTimeout hruns hfind hdeadline hpast hresolved
    rw [if_neg (by exact not_lt.mpr hattempt)] at hexec
    obtain ⟨v, hv⟩ : ∃ v, v = (((s.disarm (.mgmt p.val a)).setPort p fun q => { q with
      outstanding := q.outstanding.erase o }).setElem p a fun e => { e with lateReqs := o.reqId :: e.lateReqs }).inc
      Reg.PROXY_STATS_TIMEOUTS p := ⟨_, rfl⟩
    rw [← hv] at hexec
    refine ⟨_, hexec, ?_, ?_, ?_, ?_⟩
    · rw [State.rd_keep, rd_answerProxy _ _ _ _ _ (by decide) p.isLt, hv, State.rd_inc_self]
      rfl
    · rw [State.port_keep, State.port_congr (State.answerProxy_ports ..), hv, State.port_inc]
      rw [State.setElem, State.port_setPort_self, State.port_setPort_self]
      rfl
    · rw [State.deadline_keep, State.answerProxy, State.deadline_respond _ _ (by simp), hv]
      exact State.deadline_disarm_self ..
    · exact answerProxy_sends v p o.proxy stTimeout [] (by rw [hv]; exact hsession)
  case sent =>
    intro s p a x hruns hstate hfind hfree
    have hnone : (!(s.port p).outstanding.any fun o => o.proxy.a == a) = true := by
      rw [Bool.not_eq_true', List.any_eq_false]
      exact fun o ho => by simpa using hfree o ho
    obtain ⟨o, ho⟩ : ∃ o : Outstanding, o = ⟨x, ((s.elem p a).reqId + 1) % 65536, 0⟩ := ⟨_, rfl⟩
    obtain ⟨v, hv⟩ : ∃ v, v = ((s.setElem p a fun e => { e with
      reqId := o.reqId, lateReqs := e.lateReqs.filter (· ≠ o.reqId) }).setPort p fun q => { q with
      proxies := q.proxies.erase x, outstanding := q.outstanding ++ [o] }) := ⟨_, rfl⟩
    have hexec : exec (.proxyDispatch p a) s = .next (((v.inc Reg.PROXY_STATS_SENT p).queueCtl p (v.mgmtFrame p o)).keep s) := by
      have hunfold : exec (.proxyDispatch p a) s = execProxyDispatch p a s := rfl
      rw [hunfold, execProxyDispatch, hv, ho]
      simp only [hfind]
      exact guarded_pos s ⟨hruns, hstate, hnone⟩
    have hport : v.port p = { (s.setElem p a fun e => { e with
        reqId := o.reqId, lateReqs := e.lateReqs.filter (· ≠ o.reqId) }).port p with
      proxies := (s.port p).proxies.erase x, outstanding := (s.port p).outstanding ++ [o] } := by
      rw [hv, State.port_setPort_self, State.setElem, State.port_setPort_self]
    refine ⟨_, hexec, ?_, ⟨o, ?_, ?_, ?_, ?_⟩, ?_, ?_⟩
    · rw [State.port_keep, queueCtl_port, State.port_inc, hport]
    · rw [ho]
    · rw [ho]
    · rw [ho]
    · rw [State.port_keep, queueCtl_port, State.port_inc, hport]
    · rw [State.port_keep, queueCtl_port, State.port_inc, hport, ← ho, State.setElem, State.port_setPort_self, hv]
      rfl
    · rw [State.rd_keep, State.rd_congr (State.queueCtl_regs ..), State.rd_inc_self, hv]
      rfl
  case key =>
    intro s p e key hruns happly he hkey hfind
    have hexec : exec (.saKeyWrite p e) s = .next (((s.applyKey p e key).answerKeys p).keep s) := by
      have hunfold : exec (.saKeyWrite p e) s = execSaKeyWrite p e s := rfl
      rw [hunfold, execSaKeyWrite]
      simp only [hfind]
      exact guarded_pos s ⟨hruns, happly⟩
    have hreads := answerKeys_reads (s.applyKey p e key) p
    refine ⟨_, hexec, ?_, ?_, ?_, ?_⟩
    · rw [State.rdB_keep, State.rdB_congr (answerKeys_blobs ..)]
      unfold State.applyKey
      dsimp only
      rw [State.rdB_wr, State.rdB_wr, State.rdB_wrB_self _ _ _ _ _ hkey]
    · rw [State.rd_keep, hreads.rd (by decide) p.isLt (by omega)]
      unfold State.applyKey
      dsimp only
      rw [State.rd_wr_other _ _ Obj.key_ne, State.rd_wr_self]
    · rw [State.rd_keep, hreads.rd (by decide) p.isLt (by omega)]
      unfold State.applyKey
      dsimp only
      rw [State.rd_wr_self]
    · rw [State.keep_ports, answerKeys_ports]
      rfl

end Sys2Proof.Machine
end

section
/-! What the canceller decides and publishes (R172 to R178, R200 to R204, R277 to R280). -/

namespace Sys2Proof.Machine

set_option Elab.async false

variable {s t : State} {p : Port}

/-! ### The echo-path monitor's comparison (R277 to R280) -/

/-- A canceller but for the monitor's reference. -/
def EcState.unmonitored (q : EcState) : EcState := { q with refTaps := none, refGen := 0, exceeded := [] }

/-- The objects that the echo-path monitor writes. -/
def monitorObjects : List Obj :=
  [Reg.LR_EPM_IGNORED, Reg.LR_EPM_ALERTS, Reg.LR_EPM_reference_stamp, Reg.LR_EPM_reference_generation, Reg.LR_FOCUS_pending]

/-- What a comparison of the monitor leaves: it writes its own objects, its reference, alerts and focused soundings. -/
structure State.Compares (s : State) (p : Port) (t : State) : Prop where
  rest : t = { s with regs := t.regs, blobs := t.blobs, timers := t.timers, merge := t.merge, ports := t.ports }
  reads : s.ReadsBut monitorObjects t
  published : t.rdB Reg.LP_EC_PUB_taps p = s.rdB Reg.LP_EC_PUB_taps p
  ec : (t.port p).ec.unmonitored = (s.port p).ec.unmonitored

namespace State.Compares

theorem refl (s : State) (p : Port) : s.Compares p s := ⟨rfl, .refl s, rfl, rfl⟩

theorem trans {u : State} (h : s.Compares p t) (k : t.Compares p u) : s.Compares p u := by
  refine ⟨?_, h.reads.trans k.reads, k.published.trans h.published, k.ec.trans h.ec⟩
  have hrest := k.rest
  rw [h.rest] at hrest
  exact hrest

theorem of_wr (s : State) (p : Port) {o : Obj} (v : Int) (ho : o ∈ monitorObjects) : s.Compares p (s.wr o p 0 v) :=
  ⟨rfl, (State.ReadsBut.refl s).wr v ho p.isLt (by decide), rfl, rfl⟩

theorem of_setEc (s : State) (p : Port) {f : EcState → EcState} (h : ∀ q, (f q).unmonitored = q.unmonitored) :
    s.Compares p (s.setEc p f) :=
  ⟨rfl, .of_regs (State.setEc_regs ..), rfl,
    (congrArg (fun q : PortState => q.ec.unmonitored) (State.port_setPort_self ..)).trans (h _)⟩

theorem of_setSound (s : State) (p : Port) (f : SoundState → SoundState) : s.Compares p (s.setSound p f) :=
  ⟨rfl, .of_regs (State.setSound_regs ..), rfl,
    (congrArg (fun q : PortState => q.ec.unmonitored) (State.port_setPort_self ..)).trans rfl⟩

theorem of_issue (s : State) (p : Port) (src ty : Nat) (b : Bytes) : s.Compares p (s.issue src ty b) :=
  ⟨rfl, .of_regs (State.issue_regs ..), rfl, rfl⟩

theorem of_arm (s : State) (p : Port) (x : Timer) (d : Stamp) : s.Compares p (s.arm x d) :=
  ⟨rfl, .of_regs (State.arm_regs ..), rfl, rfl⟩

theorem ite {c : Prop} [Decidable c] {u : State} (ht : s.Compares p t) (hu : s.Compares p u) :
    s.Compares p (if c then t else u) := by
  split
  · exact ht
  · exact hu

theorem cntSound (s : State) (p : Port) {o : Obj} (ho : o ∈ monitorObjects) : s.Compares p (s.cntSound p o) := by
  unfold State.cntSound
  exact .ite (.of_wr s p _ ho) (.refl s p)

theorem rd (h : s.Compares p t) (o : Obj) {i j : Nat} (ho : monitorObjects.all o.apart = true := by decide)
    (hi : i < 32 := by omega) (hj : j < 1048576 := by omega) : t.rd o i j = s.rd o i j := h.reads.rd ho hi hj

end State.Compares

theorem echoAlert_compares (s : State) (p : Port) (kind tap lo hi delta : Nat) :
    s.Compares p (s.echoAlert p kind tap lo hi delta) := by
  unfold State.echoAlert
  exact .trans (.of_issue ..) (.cntSound _ p (by decide))

theorem requestFocus_compares (s : State) (p : Port) (lo hi : Nat) : s.Compares p (s.requestFocus p lo hi) := by
  unfold State.requestFocus
  split
  · exact .of_setSound ..
  · exact .trans (.trans (.of_setSound ..) (.of_arm ..)) (.of_wr _ p _ (by decide))

theorem takeReference_compares (s : State) (p : Port) (w : List (Int × Int)) : s.Compares p (s.takeReference p w) := by
  unfold State.takeReference
  exact .trans (.trans (.of_setEc s p (by exact fun _ => rfl)) (.of_wr _ p (o := Reg.LR_EPM_reference_stamp) _ (by decide)))
    (.of_wr _ p (o := Reg.LR_EPM_reference_generation) _ (by decide))

theorem alertTaps_compares (s : State) (p : Port) (w : List (Int × Int)) (deltas l : List Nat) :
    s.Compares p (s.alertTaps p w deltas l) := by
  unfold State.alertTaps
  refine .trans (List.foldlRecOn (motive := s.Compares p) _ _ (.refl s p) fun u hu x _ => hu.trans ?_) (takeReference_compares ..)
  exact .trans (.trans (echoAlert_compares ..) (.of_setSound ..)) (requestFocus_compares ..)

/-- A comparison of the monitor changes nothing but the monitor (R278, Table 6.4). -/
theorem epmCompare_compares (s : State) (p : Port) (w : List (Int × Int)) : s.Compares p (s.epmCompare p w) := by
  have hclean (u : State) (c : Prop) [Decidable c] : u.Compares p (if c then u.takeReference p w else u) :=
    .ite (takeReference_compares ..) (.refl u p)
  have hprofile (b : Bytes) : s.Compares p (s.wrB Reg.LR_EPM_profile p 0 b) :=
    ⟨rfl, .of_regs (State.wrB_regs ..), State.rdB_wrB_other s b (Obj.key_ne (by decide) p.isLt (by decide) p.isLt), rfl⟩
  have hignored : s.Compares p (s.cntSound p Reg.LR_EPM_IGNORED) := .cntSound s p (by decide)
  unfold State.epmCompare
  extract_lets flags clean q
  refine .ite (.refl s p) ?_
  split
  · exact hignored.trans (hclean ..)
  · refine .ite ((hignored.trans (.of_setEc _ p (by exact fun _ => rfl))).trans (hclean ..)) (.ite hignored ?_)
    extract_lets deltas u above hit
    have hu : s.Compares p u := hprofile _
    refine .ite (.ite hu (hu.trans (alertTaps_compares ..))) (.ite hu ?_)
    exact .ite (hu.trans (.of_setEc u p (by exact fun _ => rfl))) (hu.trans (alertTaps_compares ..))

/-! ### Publication (R175, R176) -/

/-- The objects that a publication writes. -/
def publishObjects : List Obj :=
  Reg.LP_EC_PUB_stamp :: Reg.LP_EC_PUB_generation :: Reg.LP_EC_PUB_flags :: Reg.LP_EC_PUB_state :: Reg.LP_EC_PUB_ERLE
    :: monitorObjects

theorem monitor_publishes : monitorObjects ⊆ publishObjects := fun _ h =>
  List.mem_cons_of_mem _ (List.mem_cons_of_mem _ (List.mem_cons_of_mem _ (List.mem_cons_of_mem _ (List.mem_cons_of_mem _ h))))

/-- A canceller but for what a publication changes. -/
def EcState.unpublished (q : EcState) : EcState := { q.unmonitored with updatedSincePub := false }

theorem unpublished_of_unmonitored {q r : EcState} (h : q.unmonitored = r.unmonitored) : q.unpublished = r.unpublished := by
  unfold EcState.unpublished
  rw [h]

/-- A published tap set (R176), and what its publication leaves. -/
structure State.Publishes (s : State) (p : Port) (w : List (Int × Int)) (t : State) : Prop where
  stamp : t.rd Reg.LP_EC_PUB_stamp p = s.now
  generation : t.rd Reg.LP_EC_PUB_generation p = (s.port p).ec.generation
  state : t.rd Reg.LP_EC_PUB_state p = s.rd Reg.LP_EC_state p
  erle : t.rd Reg.LP_EC_PUB_ERLE p = s.rd Reg.LP_EC_ERLE p
  taps : t.rdB Reg.LP_EC_PUB_taps p = (tapsOf (s.port p).band.taps w).flatMap fun x => be 4 (tapWord x)
  ec : (t.port p).ec.unpublished = (s.port p).ec.unpublished
  reads : s.ReadsBut publishObjects t
  rest : t = { s with regs := t.regs, blobs := t.blobs, timers := t.timers, merge := t.merge, ports := t.ports }

theorem tapBytes_ne_nil (b : Band) (w : List (Int × Int)) : (tapsOf b.taps w).flatMap (fun x => be 4 (tapWord x)) ≠ [] := by
  have hpos : 0 < b.taps := by
    unfold Band.taps
    positivity
  have hfirst : (0 : Nat) ∈ List.range b.taps := List.mem_range.mpr hpos
  intro h
  have hbe := List.flatMap_eq_nil_iff.mp h _ (List.mem_map.mpr ⟨0, hfirst, rfl⟩)
  exact absurd (congrArg List.length hbe) (by simp [be])

/-- What is written of a published set before its ERLE and its taps. -/
def State.pubHead (s : State) (p : Port) (flags : Nat) : State :=
  (((s.wr Reg.LP_EC_PUB_stamp p 0 s.now).wr Reg.LP_EC_PUB_generation p 0 (s.port p).ec.generation).wr
    Reg.LP_EC_PUB_flags p 0 flags).wr Reg.LP_EC_PUB_state p 0 (s.rd Reg.LP_EC_state p)

/-- What is written before the monitor compares the published set. -/
def State.pubWritten (s : State) (p : Port) (flags : Nat) (w : List (Int × Int)) : State :=
  let u := s.pubHead p flags
  (u.wr Reg.LP_EC_PUB_ERLE p 0 (u.rd Reg.LP_EC_ERLE p)).wrB Reg.LP_EC_PUB_taps p 0
    ((tapsOf (s.port p).band.taps w).flatMap fun x => be 4 (tapWord x))

theorem pubHead_spec (s : State) (p : Port) (flags : Nat) : (s.pubHead p flags).rd Reg.LP_EC_PUB_stamp p = s.now
    ∧ (s.pubHead p flags).rd Reg.LP_EC_PUB_generation p = (s.port p).ec.generation
    ∧ (s.pubHead p flags).rd Reg.LP_EC_PUB_state p = s.rd Reg.LP_EC_state p
    ∧ s.ReadsBut publishObjects (s.pubHead p flags) ∧ s.pubHead p flags = { s with regs := (s.pubHead p flags).regs } := by
  refine ⟨?_, ?_, ?_, ?_, rfl⟩
  · unfold State.pubHead
    rw [State.rd_wr_other _ _ Obj.key_ne, State.rd_wr_other _ _ Obj.key_ne, State.rd_wr_other _ _ Obj.key_ne, State.rd_wr_self]
  · unfold State.pubHead
    rw [State.rd_wr_other _ _ Obj.key_ne, State.rd_wr_other _ _ Obj.key_ne, State.rd_wr_self]
  · unfold State.pubHead
    rw [State.rd_wr_self]
  · unfold State.pubHead
    exact ((((State.ReadsBut.refl s).wr _ (by decide) p.isLt (by decide)).wr _ (by decide) p.isLt (by decide)).wr _
      (by decide) p.isLt (by decide)).wr _ (by decide) p.isLt (by decide)

theorem pubWritten_publishes (s : State) (p : Port) (flags : Nat) (w : List (Int × Int)) :
    s.Publishes p w (s.pubWritten p flags w) := by
  obtain ⟨hstamp, hgeneration, hstate, hreads, hrest⟩ := pubHead_spec s p flags
  unfold State.pubWritten
  dsimp only
  generalize s.pubHead p flags = u at hstamp hgeneration hstate hreads hrest ⊢
  have hbytes := tapBytes_ne_nil (s.port p).band w
  refine ⟨?_, ?_, ?_, ?_, State.rdB_wrB_self _ _ _ _ _ hbytes, ?_, ?_, ?_⟩
  · rw [State.rd_congr (State.wrB_regs ..), State.rd_wr_other _ _ Obj.key_ne, hstamp]
  · rw [State.rd_congr (State.wrB_regs ..), State.rd_wr_other _ _ Obj.key_ne, hgeneration]
  · rw [State.rd_congr (State.wrB_regs ..), State.rd_wr_other _ _ Obj.key_ne, hstate]
  · rw [State.rd_congr (State.wrB_regs ..), State.rd_wr_self, hreads.rd (by decide) p.isLt (by decide)]
  · rw [State.port_congr (State.wrB_ports ..), State.port_wr, hrest]
    rfl
  · exact .then_regs (hreads.wr _ (by decide) p.isLt (by decide)) (State.wrB_regs ..)
  · rw [hrest]
    rfl

/-- A publication stores the set as Table 4.5 says, and the monitor compares it. -/
theorem publish_publishes (s : State) (p : Port) (drift : Bool) :
    s.Publishes p (s.setTaps p drift).taps (s.publish p drift) := by
  have hpublish : ∃ (flags : Nat) (b : Bool), s.publish p drift = ((s.pubWritten p flags (s.setTaps p drift).taps).epmCompare p
      (s.setTaps p drift).taps).setEc p fun q => { q with updatedSincePub := b } := ⟨_, _, rfl⟩
  obtain ⟨flags, b, heq⟩ := hpublish
  have hwritten := pubWritten_publishes s p flags (s.setTaps p drift).taps
  have hcompares := epmCompare_compares (s.pubWritten p flags (s.setTaps p drift).taps) p (s.setTaps p drift).taps
  rw [heq]
  generalize s.pubWritten p flags (s.setTaps p drift).taps = u at hwritten hcompares ⊢
  generalize u.epmCompare p (s.setTaps p drift).taps = v at hcompares ⊢
  refine ⟨?_, ?_, ?_, ?_, ?_, ?_, ?_, ?_⟩
  · rw [State.rd_congr (State.setEc_regs ..), hcompares.rd _ (by decide) p.isLt, hwritten.stamp]
  · rw [State.rd_congr (State.setEc_regs ..), hcompares.rd _ (by decide) p.isLt, hwritten.generation]
  · rw [State.rd_congr (State.setEc_regs ..), hcompares.rd _ (by decide) p.isLt, hwritten.state]
  · rw [State.rd_congr (State.setEc_regs ..), hcompares.rd _ (by decide) p.isLt, hwritten.erle]
  · rw [State.rdB_congr (State.setEc_blobs ..), hcompares.published, hwritten.taps]
  · rw [State.ec_setEc]
    exact (unpublished_of_unmonitored hcompares.ec).trans hwritten.ec
  · exact .then_regs (hwritten.reads.trans (hcompares.reads.mono monitor_publishes)) (State.setEc_regs ..)
  · have hrest := hcompares.rest
    rw [hwritten.rest] at hrest
    rw [hrest]
    rfl

theorem ec_of_unpublished {q r : EcState} (h : q.unpublished = r.unpublished) : q.taps = r.taps ∧ q.snap = r.snap := by
  have htaps : q.unpublished.taps = r.unpublished.taps := by rw [h]
  have hsnap : q.unpublished.snap = r.unpublished.snap := by rw [h]
  exact ⟨htaps, hsnap⟩

/-! ### Training begins and ends (R168, R172, R173) -/

/-- The canceller goes to TRAINING, but one that is CLEARED. -/
theorem ecTrain_state (s : State) (p : Port) : (s.ecTrain p).rd Reg.LP_EC_state p =
    if s.rd Reg.LP_EC_state p = ecCleared then ecCleared else ecTraining := by
  unfold State.ecTrain
  split
  · next h => rw [h]
  · rw [State.rd_congr (State.setEc_regs ..), State.rd_wr_self]

/-- Training leaves the taps, and everything but the port and its objects. -/
theorem ecTrain_spec (s : State) (p : Port) : ((s.ecTrain p).port p).ec.taps = (s.port p).ec.taps
    ∧ ((s.ecTrain p).port p).hybrid = (s.port p).hybrid
    ∧ s.ecTrain p = { s with regs := (s.ecTrain p).regs, ports := (s.ecTrain p).ports } := by
  unfold State.ecTrain
  split
  · exact ⟨rfl, rfl, rfl⟩
  · refine ⟨?_, ?_, rfl⟩
    · rw [State.ec_setEc]
      rfl
    · exact (congrArg PortState.hybrid (State.port_setPort_self ..)).trans rfl

/-- The end of a training that no restore has scheduled. -/
theorem ecTrainingEnds_spec (s : State) (p : Port) (best : Option Int) (h : (s.port p).ec.retraining = false) :
    (s.ecTrainingEnds p best).rd Reg.LP_EC_state p = (if s.portState p = stQuiet then ecQuiet else ecTracking)
      ∧ ((s.ecTrainingEnds p best).port p).ec.taps = (s.port p).ec.taps
      ∧ ((s.ecTrainingEnds p best).port p).ec.refMax = best
      ∧ s.ReadsBut [Reg.LP_EC_state] (s.ecTrainingEnds p best) ∧ (s.ecTrainingEnds p best).faults = s.faults := by
  unfold State.ecTrainingEnds
  dsimp only
  rw [h, if_neg Bool.false_ne_true]
  refine ⟨?_, ?_, ?_, ?_, rfl⟩
  · rw [State.rd_congr (State.setEc_regs ..), State.rd_wr_self]
    by_cases hquiet : s.portState p = stQuiet
    · rw [decide_eq_true hquiet, if_pos hquiet]
      rfl
    · rw [decide_eq_false hquiet, if_neg hquiet]
      rfl
  · rw [State.ec_setEc]
    rfl
  · rw [State.ec_setEc]
  · exact .then_regs (.wr (.refl s) _ (by decide) p.isLt (by decide)) (State.setEc_regs ..)

/-! ### ERLE measurements (R172, R173, R178) -/

/-- A measurement written and stamped. -/
def State.erleWritten (s : State) (p : Port) (d : ErleDone) (l : List ErleDone) (v : Int) : State :=
  ((s.wr Reg.LP_EC_ERLE p 0 v).wr Reg.LP_EC_ERLE_stamp p 0 d.stamp).setEc p fun q => { q with erleDone := l }

/-- The state in which a measurement is taken: a free value was drawn where no power entered (log entry 6). -/
def State.erleValue (s : State) (d : ErleDone) : Int × State :=
  if d.pIn = 0 then ((s.free 701).1, (s.free 701).2) else (erleOf d.pIn d.pRes 26 d.noise, s)

theorem exec_erle {d : ErleDone} {l : List ErleDone} (hruns : s.runs = true) (hdone : (s.port p).ec.erleDone = d :: l) :
    exec (.erleMeasurementComplete p) s
      = .next (((((s.erleValue d).2).erleWritten p d l (s.erleValue d).1).erleTaken p (s.erleValue d).1).keep s) := by
  have hunfold : exec (.erleMeasurementComplete p) s = execErleMeasurementComplete p s := rfl
  rw [hunfold, execErleMeasurementComplete]
  simp only [hdone]
  exact guarded_pos s hruns

/-- What a measurement written leaves. -/
theorem erleWritten_spec (s : State) (p : Port) (d : ErleDone) (l : List ErleDone) (v : Int) :
    (s.erleWritten p d l v).rd Reg.LP_EC_ERLE p = v ∧ (s.erleWritten p d l v).rd Reg.LP_EC_ERLE_stamp p = d.stamp
      ∧ ((s.erleWritten p d l v).port p).ec = { (s.port p).ec with erleDone := l }
      ∧ (s.erleWritten p d l v).rd Reg.LP_EC_state p = s.rd Reg.LP_EC_state p
      ∧ (s.erleWritten p d l v).portState p = s.portState p
      ∧ s.erleWritten p d l v = { s with regs := (s.erleWritten p d l v).regs, ports := (s.erleWritten p d l v).ports } := by
  unfold State.erleWritten
  refine ⟨?_, ?_, ?_, ?_, ?_, rfl⟩
  · rw [State.rd_congr (State.setEc_regs ..), State.rd_wr_other _ _ Obj.key_ne, State.rd_wr_self]
  · rw [State.rd_congr (State.setEc_regs ..), State.rd_wr_self]
  · rw [State.ec_setEc]
    rfl
  · rw [State.rd_congr (State.setEc_regs ..), State.rd_wr_other _ _ Obj.key_ne, State.rd_wr_other _ _ Obj.key_ne]
  · unfold State.portState
    rw [State.rd_congr (State.setEc_regs ..), State.rd_wr_other _ _ Obj.key_ne, State.rd_wr_other _ _ Obj.key_ne]

/-- The first measurement in a state ends nothing (R172, R173). -/
theorem erleTaken_first (s : State) (p : Port) (v : Int) (hfirst : (s.port p).ec.erles = []) :
    (s.erleTaken p v).regs = s.regs ∧ ((s.erleTaken p v).port p).ec.erles = [v]
      ∧ ((s.erleTaken p v).port p).ec.taps = (s.port p).ec.taps
      ∧ ((s.erleTaken p v).port p).ec.erleDone = (s.port p).ec.erleDone
      ∧ s.erleTaken p v = { s with regs := (s.erleTaken p v).regs, ports := (s.erleTaken p v).ports } := by
  have hnone (f : Int → Bool) : ¬ (((s.port p).ec.erles.head?).any f = true) := by
    rw [hfirst]
    exact Bool.false_ne_true
  obtain ⟨u, hu⟩ : ∃ u, u = s.setEc p fun q => { q with erles := (v :: q.erles).take 2 } := ⟨_, rfl⟩
  have huec : (u.port p).ec = { (s.port p).ec with erles := [v] } := by
    rw [hu, State.ec_setEc, hfirst]
    rfl
  unfold State.erleTaken
  dsimp only
  rw [← hu]
  by_cases htraining : s.rd Reg.LP_EC_state p = ecTraining
  · rw [if_pos htraining, if_neg fun h => hnone _ h.2, huec, hu]
    exact ⟨rfl, rfl, rfl, rfl, rfl⟩
  · rw [if_neg htraining]
    split
    · rw [if_neg fun h => hnone _ h.2.2, State.ec_setEc, huec, hu]
      exact ⟨rfl, rfl, rfl, rfl, rfl⟩
    · rw [huec, hu]
      exact ⟨rfl, rfl, rfl, rfl, rfl⟩

/-- Two measurements of 40 dB in a row end TRAINING (R172). -/
theorem erleTaken_converged (s : State) (p : Port) {v last : Int} {rest : List Int} (hstate : s.rd Reg.LP_EC_state p = ecTraining)
    (hlast : (s.port p).ec.erles = last :: rest) (h : 400 ≤ last) (hv : 400 ≤ v) : s.erleTaken p v =
      (s.setEc p fun q => { q with erles := (v :: q.erles).take 2 }).ecTrainingEnds p (some v) := by
  unfold State.erleTaken
  dsimp only
  rw [if_pos hstate, hlast, if_pos ⟨hv, decide_eq_true h⟩]

/-- Two measurements in a row more than 10 dB below the maximum return TRACKING to TRAINING (R173). -/
theorem erleTaken_drops (s : State) (p : Port) {v last top : Int} {rest : List Int} (hstate : s.rd Reg.LP_EC_state p = ecTracking)
    (htop : (s.port p).ec.refMax = some top) (hlast : (s.port p).ec.erles = last :: rest) (h : last < top - 100)
    (hv : v < top - 100) : s.erleTaken p v = ((s.setEc p fun q => { q with erles := (v :: q.erles).take 2 }).setEc p
      fun q => { q with refMax := some top }).ecTrain p := by
  have hmax : max v top = top := by omega
  unfold State.erleTaken
  dsimp only
  rw [if_neg (by rw [hstate]; decide), if_pos (.inl hstate), State.ec_setEc]
  dsimp only
  rw [htop, Option.getD_some, hmax, hlast, if_pos ⟨hstate, hv, decide_eq_true h⟩]

/-! ### Alerts of guarded blocks (R280, R283) -/

theorem requestFocus_new {lo hi : Nat} (h : (s.port p).sound.focus = none) : s.requestFocus p lo hi =
    ((s.setSound p fun q => { q with focus := some { lo := lo, hi := hi } }).arm (.focus p.val) (s.now + 10000000000)).wr
      Reg.LR_FOCUS_pending p 0 1 := by
  unfold State.requestFocus
  simp only [h]

theorem requestFocus_wider {lo hi : Nat} {f : Focus} (h : (s.port p).sound.focus = some f) : s.requestFocus p lo hi =
    s.setSound p fun q => { q with focus := some { f with lo := min f.lo lo, hi := max f.hi hi } } := by
  unfold State.requestFocus
  simp only [h]

theorem sound_setEc (s : State) (p : Port) (f : EcState → EcState) : ((s.setEc p f).port p).sound = (s.port p).sound :=
  (congrArg PortState.sound (State.port_setPort_self ..)).trans rfl

theorem ec_setSound (s : State) (p : Port) (f : SoundState → SoundState) : ((s.setSound p f).port p).ec = (s.port p).ec :=
  (congrArg PortState.ec (State.port_setPort_self ..)).trans rfl

/-- The alert of a run of guarded blocks. -/
theorem guardAlert_spec (s : State) (p : Port) :
    let t := (s.setEc p fun q => { q with guardFired := true }).echoAlert p 1 0xFFFF 0 (s.mapped p - 1) 0
    t.merge = (s.echoAlert p 1 0xFFFF 0 (s.mapped p - 1) 0).merge
      ∧ t.rd Reg.LR_EPM_ALERTS p = (s.cntSound p Reg.LR_EPM_ALERTS).rd Reg.LR_EPM_ALERTS p
      ∧ t.ports = (s.setEc p fun q => { q with guardFired := true }).ports ∧ t.time = s.time ∧ t.timers = s.timers := by
  dsimp only
  unfold State.echoAlert
  refine ⟨?_, ?_, ?_, ?_, ?_⟩
  · rw [State.cntSound_merge, State.cntSound_merge, State.ec_setEc]
    rfl
  · exact rd_cntSound_congr rfl rfl
  · rw [State.cntSound_ports]
    rfl
  · rw [State.cntSound_time]
    rfl
  · rw [State.cntSound_timers]
    rfl

/-! ### Equalisers -/

theorem eq_congr (h : t.ports = s.ports) (p : Port) (a : Nat) : t.eq p a = s.eq p a := by
  unfold State.eq
  rw [State.port_congr h]

theorem eq_setEq (s : State) (p : Port) (a : Nat) (f : EqState → EqState) : (s.setEq p a f).eq p a = f (s.eq p a) := by
  unfold State.setEq State.eq
  rw [State.port_setPort_self]
  exact Store.get_put_same ..

/-! ### The obligation -/

/-- Settles O19, over every state. -/
theorem cancellerDecidesAndPublishes : Obligations.CancellerDecidesAndPublishes := by
  unfold Obligations.CancellerDecidesAndPublishes
  refine ⟨?alert, ?widen, ?first, ?free, ?converged, ?drops, ?timeout, ?retrain, ?used, ?live, ?thaw, ?hybrid, ?drift, ?equaliser⟩
  case alert =>
    intro s p hruns henable hfired hrun hfocus
    obtain ⟨u, hu⟩ : ∃ u, u = (s.setEc p fun q => { q with guardFired := true }).echoAlert p 1 0xFFFF 0 (s.mapped p - 1) 0 :=
      ⟨_, rfl⟩
    have hexec : exec (.guardRun p) s = .next ((u.requestFocus p 0 (s.mapped p - 1)).keep s) := by
      rw [hu]
      exact guarded_pos s ⟨hruns, henable, by rw [hfired]; rfl, hrun⟩
    obtain ⟨hmerge, halerts, hports, htime, -⟩ := guardAlert_spec s p
    rw [← hu] at hmerge halerts hports htime
    have hnone : (u.port p).sound.focus = none := by rw [State.port_congr hports, sound_setEc, hfocus]
    have hdone : (u.port p).ec.guardFired = true := by rw [State.port_congr hports, State.ec_setEc]
    rw [requestFocus_new hnone] at hexec
    refine ⟨_, hexec, ?_, ?_, ?_, ⟨{ lo := 0, hi := s.mapped p - 1 }, ?_, rfl, rfl⟩, ?_, ?_⟩
    · rw [State.keep_merge, ← hmerge]
      rfl
    · rw [State.rd_keep, State.rd_wr_other _ _ Obj.key_ne, ← halerts]
      rfl
    · rw [State.port_keep, State.port_wr, State.port_arm, ec_setSound, hdone]
    · rw [State.port_keep, State.port_wr, State.port_arm, sound_setSound]
    · rw [State.rd_keep, State.rd_wr_self]
    · rw [State.deadline_keep, State.deadline_wr, State.deadline_arm_self, State.now_congr htime]
  case widen =>
    intro s p g hruns henable hfired hrun hfocus
    obtain ⟨u, hu⟩ : ∃ u, u = (s.setEc p fun q => { q with guardFired := true }).echoAlert p 1 0xFFFF 0 (s.mapped p - 1) 0 :=
      ⟨_, rfl⟩
    have hexec : exec (.guardRun p) s = .next ((u.requestFocus p 0 (s.mapped p - 1)).keep s) := by
      rw [hu]
      exact guarded_pos s ⟨hruns, henable, by rw [hfired]; rfl, hrun⟩
    obtain ⟨hmerge, -, hports, -, htimers⟩ := guardAlert_spec s p
    rw [← hu] at hmerge hports htimers
    have hsome : (u.port p).sound.focus = some g := by rw [State.port_congr hports, sound_setEc, hfocus]
    have hdone : (u.port p).ec.guardFired = true := by rw [State.port_congr hports, State.ec_setEc]
    rw [requestFocus_wider hsome] at hexec
    refine ⟨_, hexec, ?_, ?_, ?_, ⟨{ g with lo := min g.lo 0, hi := max g.hi (s.mapped p - 1) }, ?_, Nat.min_zero g.lo, rfl⟩⟩
    · rw [State.keep_merge, State.setSound_merge, hmerge]
    · rw [State.port_keep, ec_setSound, hdone]
    · rw [State.keep_timers, State.setSound_timers, htimers]
    · rw [State.port_keep, sound_setSound]
  case first =>
    intro s p d l hruns hdone hin hfirst
    have hexec := exec_erle hruns hdone
    rw [State.erleValue, if_neg hin] at hexec
    obtain ⟨herle, hstamp, hec, hstate, -, hrest⟩ := erleWritten_spec s p d l (erleOf d.pIn d.pRes 26 d.noise)
    generalize erleOf d.pIn d.pRes 26 d.noise = v at hexec herle hstamp hec hstate hrest ⊢
    dsimp only at hexec
    generalize s.erleWritten p d l v = u at hexec herle hstamp hec hstate hrest
    obtain ⟨hregs, herles, htaps, hleft, hafter⟩ := erleTaken_first u p v (by rw [hec]; exact hfirst)
    generalize u.erleTaken p v = w at hexec hregs herles htaps hleft hafter
    refine ⟨_, hexec, ?_, ?_, ?_, ?_, ?_, ?_, ?_⟩
    · rw [State.rd_keep, State.rd_congr hregs, herle]
    · rw [State.rd_keep, State.rd_congr hregs, hstamp]
    · rw [State.port_keep, hleft, hec]
    · rw [State.port_keep, herles]
    · rw [State.rd_keep, State.rd_congr hregs, hstate]
    · rw [State.port_keep, htaps, hec]
    · rw [hrest] at hafter
      rw [hafter]
      rfl
  case free =>
    intro s p d l hruns hdone hin hfirst
    have hexec := exec_erle hruns hdone
    rw [State.erleValue, if_pos hin] at hexec
    dsimp only at hexec
    have hvalue : (s.free 701).1 < 701 := by
      unfold State.free
      exact Nat.mod_lt _ (by decide)
    obtain ⟨herle, hstamp, hec, hstate, -, -⟩ := erleWritten_spec (s.free 701).2 p d l (s.free 701).1
    have hport : ((s.free 701).2.port p).ec = (s.port p).ec := rfl
    have hrd : (s.free 701).2.rd Reg.LP_EC_state p = s.rd Reg.LP_EC_state p := rfl
    rw [hport] at hec
    rw [hrd] at hstate
    generalize (s.free 701).1 = v at hexec herle hstamp hec hstate hvalue
    generalize (s.free 701).2.erleWritten p d l v = u at hexec herle hstamp hec hstate
    obtain ⟨hregs, -, htaps, hleft, -⟩ := erleTaken_first u p v (by rw [hec]; exact hfirst)
    refine ⟨_, hexec, ?_, ?_, ?_, ?_, ?_, ?_⟩
    · rw [State.rd_keep, State.rd_congr hregs, herle]
      exact Int.natCast_nonneg v
    · rw [State.rd_keep, State.rd_congr hregs, herle]
      omega
    · rw [State.rd_keep, State.rd_congr hregs, hstamp]
    · rw [State.port_keep, hleft, hec]
    · rw [State.rd_keep, State.rd_congr hregs, hstate]
    · rw [State.port_keep, htaps, hec]
  case converged =>
    intro s p d l last rest hruns hdone hin hstate hretraining hlast hhigh hv
    have hexec := exec_erle hruns hdone
    rw [State.erleValue, if_neg hin] at hexec
    obtain ⟨herle, -, hec, hkept, hportState, -⟩ := erleWritten_spec s p d l (erleOf d.pIn d.pRes 26 d.noise)
    generalize erleOf d.pIn d.pRes 26 d.noise = v at hexec herle hec hkept hportState hv ⊢
    dsimp only at hexec
    generalize s.erleWritten p d l v = u at hexec herle hec hkept hportState
    rw [erleTaken_converged u p (hkept.trans hstate) (by rw [hec]; exact hlast) hhigh hv] at hexec
    obtain ⟨hafter, htaps, hmax, hreads, -⟩ := ecTrainingEnds_spec (u.setEc p fun q => { q with erles := (v :: q.erles).take 2 }) p
      (some v) (by rw [State.ec_setEc, hec]; exact hretraining)
    refine ⟨_, hexec, ?_, ?_, ?_, ?_⟩
    · rw [State.rd_keep, hafter, State.portState_congr (State.setEc_regs ..), hportState]
    · rw [State.rd_keep, hreads.rd (by decide) p.isLt (by decide), State.rd_congr (State.setEc_regs ..), herle]
    · rw [State.port_keep, htaps, State.ec_setEc, hec]
    · rw [State.port_keep, hmax]
  case drops =>
    intro s p d l last top rest hruns hdone hin hstate htop hlast hlow hv
    have hexec := exec_erle hruns hdone
    rw [State.erleValue, if_neg hin] at hexec
    obtain ⟨herle, -, hec, hkept, -, -⟩ := erleWritten_spec s p d l (erleOf d.pIn d.pRes 26 d.noise)
    generalize erleOf d.pIn d.pRes 26 d.noise = v at hexec herle hec hkept hv ⊢
    dsimp only at hexec
    generalize s.erleWritten p d l v = u at hexec herle hec hkept
    rw [erleTaken_drops u p (hkept.trans hstate) (by rw [hec]; exact htop) (by rw [hec]; exact hlast) hlow hv] at hexec
    obtain ⟨w, hw⟩ : ∃ w, w = (u.setEc p fun q => { q with erles := (v :: q.erles).take 2 }).setEc p
      fun q => { q with refMax := some top } := ⟨_, rfl⟩
    have hregs : w.regs = u.regs := by rw [hw]; rfl
    have hwec : (w.port p).ec.taps = (s.port p).ec.taps := by rw [hw, State.ec_setEc, State.ec_setEc, hec]
    rw [← hw] at hexec
    refine ⟨_, hexec, ?_, ?_, ?_⟩
    · rw [State.rd_keep, ecTrain_state, State.rd_congr hregs, hkept, hstate]
      rfl
    · rw [State.rd_keep, (ecTrain_reads w p).rd (by decide) p.isLt (by decide), State.rd_congr hregs, herle]
    · rw [State.port_keep, (ecTrain_spec w p).1, hwec]
  case timeout =>
    intro s p hruns hstate hretraining hblocks
    obtain ⟨u, hu⟩ : ∃ u, u = s.cntLine p Reg.LP_EC_TRAIN_TIMEOUT := ⟨_, rfl⟩
    obtain ⟨d, hd⟩ : ∃ d, d = (u.rd Reg.LP_EC_ERLE p % 4294967296).toNat := ⟨_, rfl⟩
    have hexec : exec (.ecTrainTimeout p) s = .next (((u.raiseLine p 0x04 d).ecTrainingEnds p (s.port p).ec.erles.head?).keep s) := by
      rw [hd, hu]
      exact guarded_pos s ⟨hruns, hstate, hblocks⟩
    have hports : u.ports = s.ports := by rw [hu, State.cntLine_ports]
    have hreads : s.ReadsBut [Reg.LP_EC_TRAIN_TIMEOUT] u := by
      rw [hu]
      exact .ite (.wr (.refl s) _ (by decide) p.isLt (by decide)) (.refl s)
    have hrest : u = { s with regs := u.regs } := by
      rw [hu]
      unfold State.cntLine
      split
      · rfl
      · rfl
    have hdetail : d = (s.rd Reg.LP_EC_ERLE p % 4294967296).toNat := by
      rw [hd, hreads.rd (by decide) p.isLt (by decide)]
    have hport : ((u.raiseLine p 0x04 d).port p) = s.port p := by
      rw [State.port_congr (State.raiseLine_ports ..), State.port_congr hports]
    obtain ⟨hafter, htaps, -, hends, hfaults⟩ := ecTrainingEnds_spec (u.raiseLine p 0x04 d) p (s.port p).ec.erles.head?
      (by rw [hport]; exact hretraining)
    refine ⟨_, hexec, ?_, ?_, ?_, ?_⟩
    · rw [State.rd_keep, hafter, State.portState_congr (State.raiseLine_regs ..)]
      unfold State.portState
      rw [hreads.rd (by decide) p.isLt (by decide)]
    · rw [State.port_keep, htaps, hport]
    · rw [State.rd_keep, hends.rd (by decide) p.isLt (by decide), State.rd_raiseLine, hu]
    · rw [State.keep_faults, hfaults, ← hdetail]
      exact State.raise_reported (t := u) p.val d (by rfl) (sourceOf_srcLine p _) (by rw [hrest]) (by rw [hrest]) (by rw [hrest])
  case retrain =>
    intro s p hruns hretrain
    obtain ⟨htaps, -, hrest⟩ := ecTrain_spec s p
    have hstate := ecTrain_state s p
    have hexec : exec (.ecRetrainRequest p) s = .next (((s.ecTrain p).wr Reg.LP_EC_retrain p 0 0).keep s) :=
      guarded_pos s ⟨hruns, hretrain⟩
    generalize s.ecTrain p = u at hexec htaps hrest hstate
    refine ⟨_, hexec, ?_, ?_, ?_, ?_⟩
    · rw [State.rd_keep, State.rd_wr_other _ _ Obj.key_ne, hstate]
    · rw [State.rd_keep, State.rd_wr_self]
    · rw [State.port_keep, State.port_wr, htaps]
    · rw [hrest]
      rfl
  case used =>
    intro s p x hruns hboundary hdue hfrozen hcleared hused hat
    have hset : s.setTaps p false = x := by
      unfold State.setTaps
      simp only [hused]
      rw [if_pos ⟨hat, rfl⟩]
    have hpub := publish_publishes s p false
    rw [hset] at hpub
    have hexec : exec (.tapPublication p) s = .next ((s.publish p false).keep s) :=
      guarded_pos s ⟨hruns, hboundary, hdue, by rw [hfrozen]; rfl, hcleared⟩
    generalize s.publish p false = u at hpub hexec
    refine ⟨_, hexec, ?_, ?_, ?_, ?_, ?_, ?_⟩
    · rw [State.rd_keep, hpub.stamp]
    · rw [State.rd_keep, hpub.generation]
    · rw [State.rd_keep, hpub.state]
    · rw [State.rd_keep, hpub.erle]
    · rw [State.rdB_keep, hpub.taps]
    · rw [State.port_keep, (ec_of_unpublished hpub.ec).1]
  case live =>
    intro s p hruns hboundary hdue hfrozen hcleared hused
    have hset : (s.setTaps p false).taps = (s.port p).ec.taps := by
      unfold State.setTaps
      dsimp only
      split
      · next x hx => rw [if_neg fun h => hused x hx h.1]
      · rfl
    have hpub := publish_publishes s p false
    rw [hset] at hpub
    have hexec : exec (.tapPublication p) s = .next ((s.publish p false).keep s) :=
      guarded_pos s ⟨hruns, hboundary, hdue, by rw [hfrozen]; rfl, hcleared⟩
    generalize s.publish p false = u at hpub hexec
    refine ⟨_, hexec, ?_, ?_, ?_, ?_, ?_⟩
    · rw [State.rd_keep, hpub.stamp]
    · rw [State.rd_keep, hpub.generation]
    · rw [State.rd_keep, hpub.state]
    · rw [State.rd_keep, hpub.erle]
    · rw [State.rdB_keep, hpub.taps]
  case thaw =>
    intro s p hruns hfrozen hend
    exact guarded_pos s ⟨hruns, hfrozen, hend⟩
  case hybrid =>
    intro s p hruns hnew hsymbol
    obtain ⟨v, hv⟩ : ∃ v, v = s.setPort p fun q => { q with hybrid := s.rd Reg.LP_HYBRID_setting p } := ⟨_, rfl⟩
    have hexec : exec (.hybridApply p) s = .next ((v.ecTrain p).keep s) := by
      rw [hv]
      exact guarded_pos s ⟨hruns, hnew, hsymbol⟩
    have hport : v.port p = { s.port p with hybrid := s.rd Reg.LP_HYBRID_setting p } := by rw [hv, State.port_setPort_self]
    obtain ⟨htaps, hhybrid, hrest⟩ := ecTrain_spec v p
    refine ⟨_, hexec, ?_, ?_, ?_, ?_⟩
    · rw [State.port_keep, hhybrid, hport]
    · rw [State.rd_keep, ecTrain_state, hv, State.rd_congr (State.setPort_regs ..)]
    · rw [State.port_keep, htaps, hport]
    · rw [hrest, hv]
      rfl
  case drift =>
    intro s p hruns hstate hquiet hboundary hfails
    obtain ⟨o, ho⟩ : ∃ o, o = (s.free 8).1 := ⟨_, rfl⟩
    obtain ⟨u, hu⟩ : ∃ u, u = (s.free 8).2 := ⟨_, rfl⟩
    have hlow : o < 8 := by
      rw [ho]
      exact Nat.mod_lt _ (by decide)
    have hfree : u = { s with freeCount := u.freeCount } := by rw [hu]; rfl
    have hexec : exec (.quietGateFailCount p 0) s = .next ((u.ecDriftRestore p o).keep s) := by
      have hunfold : exec (.quietGateFailCount p 0) s = execQuietGateFailCount p 0 s := rfl
      rw [hunfold, execQuietGateFailCount, if_pos rfl, ho, hu]
      exact guarded_pos s ⟨hruns, hstate, hquiet, hboundary, hfails⟩
    have hpub := publish_publishes u p true
    obtain ⟨htaps, hsnap⟩ := ec_of_unpublished hpub.ec
    have hport : u.port p = s.port p := by rw [hfree]; rfl
    have hregs : u.regs = s.regs := by rw [hfree]
    unfold State.ecDriftRestore at hexec
    dsimp only at hexec
    generalize u.publish p true = v at hexec hpub htaps hsnap
    rw [hport] at htaps hsnap
    have hafter : ((((v.setEc p fun q => { q with
        taps := q.snap.getD q.taps, restored := true, retrainScheduled := true, collected := [], collIn := 0, collRes := 0,
        gateFails := 0 }).wr Reg.LP_QUIET_retrain_pending p 0 1).raiseLine p 0x06 o).portState p) = stQuiet := by
      rw [State.portState_congr (State.raiseLine_regs ..), ← hstate]
      unfold State.portState
      rw [State.rd_wr_other _ _ Obj.key_ne, State.rd_congr (State.setEc_regs ..),
        hpub.reads.rd (by decide) p.isLt (by decide), State.rd_congr hregs]
    refine ⟨_, hexec, ?_, ?_, ?_, ?_, ?_, ?_, o, hlow, ?_⟩
    · rw [State.port_keep, State.port_congr (State.cntLine_ports ..), State.port_congr (State.raiseLine_ports ..), State.port_wr,
        State.ec_setEc, htaps, hsnap]
    · rw [State.port_keep, State.port_congr (State.cntLine_ports ..), State.port_congr (State.raiseLine_ports ..), State.port_wr,
        State.ec_setEc]
    · rw [State.port_keep, State.port_congr (State.cntLine_ports ..), State.port_congr (State.raiseLine_ports ..), State.port_wr,
        State.ec_setEc]
    · rw [State.rd_keep, State.rd_cntLine_other _ _ Obj.key_ne, State.rd_raiseLine, State.rd_wr_self]
    · rw [State.rd_keep, State.rd_cntLine_other _ _ Obj.key_ne, State.rd_raiseLine, State.rd_wr_other _ _ Obj.key_ne,
        State.rd_congr (State.setEc_regs ..), hpub.stamp, hfree]
      rfl
    · rw [State.rd_keep, State.rd_cntLine_self _ _ _ _ (.inr hafter), State.rd_raiseLine, State.rd_wr_other _ _ Obj.key_ne,
        State.rd_congr (State.setEc_regs ..), hpub.reads.rd (by decide) p.isLt (by decide), State.rd_congr hregs]
    · have hrest : v.time = s.time ∧ v.faults = s.faults := by
        rw [hpub.rest, hfree]
        exact ⟨rfl, rfl⟩
      obtain ⟨htime, hfaults⟩ := hrest
      rw [State.keep_faults, State.cntLine_faults]
      refine State.raise_reported p.val o (by rfl) (sourceOf_srcLine p _) ?_ ?_ ?_
      · rw [State.wr_time, State.setEc_time, htime]
      · rw [State.wr_time, State.setEc_time, htime]
      · rw [State.wr_faults, State.setEc_faults, hfaults]
  case equaliser =>
    intro s p a hruns hstate hlow hhigh hquiet hfails
    have hexec : exec (.quietGateFailCount p a) s = .next ((s.eqDriftRestore p a).keep s) := by
      have hunfold : exec (.quietGateFailCount p a) s = execQuietGateFailCount p a s := rfl
      rw [hunfold, execQuietGateFailCount, if_neg (by omega)]
      exact guarded_pos s ⟨hruns, hstate, hquiet, hfails⟩
    unfold State.eqDriftRestore at hexec
    dsimp only at hexec
    obtain ⟨w, hw⟩ : ∃ w, w = (s.eq p a).snap.getD (s.eq p a).points := ⟨_, rfl⟩
    rw [← hw] at hexec ⊢
    have hpoints : (s.setPoints p a w).eq p a = { s.eq p a with points := w } := by
      unfold State.setPoints
      rw [eq_congr (State.wrB_ports ..), eq_setEq]
    refine ⟨_, hexec, ?_, ?_, ?_, ?_⟩
    · rw [eq_congr (State.keep_ports ..), eq_congr (State.cntLine_ports ..), eq_setEq, hpoints]
    · rw [eq_congr (State.keep_ports ..), eq_congr (State.cntLine_ports ..), eq_setEq]
    · rw [eq_congr (State.keep_ports ..), eq_congr (State.cntLine_ports ..), eq_setEq]
    · have hafter : ((s.setPoints p a w).setEq p a fun q => { q with relearn := true, gateFails := 0 }).portState p = stQuiet := by
        rw [State.portState_congr (State.setEq_regs ..), State.portState_congr (State.setPoints_regs ..), hstate]
      rw [State.rd_keep, State.rd_cntLine_self _ _ _ _ (.inr hafter), State.rd_congr (State.setEq_regs ..),
        State.rd_congr (State.setPoints_regs ..)]

end Sys2Proof.Machine
end

section
/-! Bring-up of a Porfani port (R380 to R387). -/

namespace Sys2Proof.Machine

set_option Elab.async false

variable {s t : State} {x : Side}

/-! ### What follows a port's entry to ACTIVE (R402, R408, R418, R477) -/

/-- Whether a port's credits are frozen, and a width drop runs (R394). -/
def PfState.drops (q : PfState) : Bool × Bool := (q.frozen, q.dropping)

/-- The objects that a change of heads, and a port that sends, write. -/
def headObjects : List Obj :=
  [Reg.PF_PORT_CREDIT_STALLS, Reg.PF_PORT_REPLAY_LOST, Reg.CASC_acting_role, Reg.CASC_head, Reg.CASC_hops, Reg.CASC_ring,
    Reg.CASC_host_side]

/-- What a change of heads, and what a port sends, leaves: the states and widths of the ports, and their exchanges. -/
structure State.Heads (s t : State) : Prop where
  reads : s.ReadsBut headObjects t
  drops : ∀ y, (t.link y).drops = (s.link y).drops
  exchange : ∀ n, t.deadline (.pfExchange n) = s.deadline (.pfExchange n)

namespace State.Heads

theorem refl (s : State) : s.Heads s := ⟨.refl s, fun _ => rfl, fun _ => rfl⟩

theorem trans {u : State} (h : s.Heads t) (k : t.Heads u) : s.Heads u :=
  ⟨h.reads.trans k.reads, fun y => (k.drops y).trans (h.drops y), fun n => (k.exchange n).trans (h.exchange n)⟩

theorem of_same (hregs : t.regs = s.regs) (hpf : t.pf = s.pf) (htimers : t.timers = s.timers) : s.Heads t :=
  ⟨.of_regs hregs, fun y => by rw [link_congr hpf], fun _ => State.deadline_congr htimers _⟩

theorem of_wr (s : State) {o : Obj} {p e : Nat} (v : Int) (ho : o ∈ headObjects) (hp : p < 32) (he : e < 1048576) :
    s.Heads (s.wr o p e v) := ⟨(State.ReadsBut.refl s).wr v ho hp he, fun _ => rfl, fun _ => rfl⟩

theorem of_setLink (s : State) (x : Side) {f : PfState → PfState} (h : ∀ q, (f q).drops = q.drops) : s.Heads (s.setLink x f) := by
  refine ⟨.of_regs rfl, fun y => ?_, fun _ => rfl⟩
  by_cases hy : y = x
  · subst hy
    rw [State.link_setLink_self, h]
  · rw [link_setLink_other hy]

theorem of_arm (s : State) {a : Timer} (d : Stamp) (h : ∀ n, .pfExchange n ≠ a) : s.Heads (s.arm a d) :=
  ⟨.of_regs rfl, fun _ => rfl, fun n => State.deadline_arm_other _ _ (h n)⟩

theorem of_disarm (s : State) {a : Timer} (h : ∀ n, .pfExchange n ≠ a) : s.Heads (s.disarm a) :=
  ⟨.of_regs rfl, fun _ => rfl, fun n => State.deadline_disarm_other _ (h n)⟩

theorem foldl {α : Type} {f : State → α → State} (l : List α) (h : ∀ t : State, ∀ a ∈ l, t.Heads (f t a)) (s : State) :
    s.Heads (l.foldl f s) :=
  List.foldlRecOn (motive := s.Heads) l f (.refl s) fun t ht a ha => ht.trans (h t a ha)

theorem ite {c : Prop} [Decidable c] {u : State} (ht : s.Heads t) (hu : s.Heads u) : s.Heads (if c then t else u) := by
  split
  · exact ht
  · exact hu

end State.Heads

theorem side_small (x : Side) : x.n < 32 := (Side.n_lt x).trans (by decide)

theorem emit_heads (s : State) (o : Out) : s.Heads (s.emit o) := .of_same rfl rfl rfl

theorem setFifo_heads (s : State) (x : Side) (vc : Nat) (l : List HostFrame) : s.Heads (s.setFifo x vc l) :=
  .of_same rfl rfl rfl

theorem sendNow_heads (s : State) (x : Side) (p : Parcel) : s.Heads (s.sendNow x p) := by
  unfold State.sendNow
  dsimp only
  refine .trans (.trans ?_ (.of_setLink _ x (by exact fun _ => rfl))) (emit_heads ..)
  exact .ite (.of_arm s _ (by exact fun _ => Timer.noConfusion)) (.refl s)

theorem stall_heads (s : State) (x : Side) (vc : Nat) : s.Heads (s.stall x vc) := by
  unfold State.stall
  exact .ite (.refl s) (.trans (.of_setLink s x (by exact fun _ => rfl)) (.of_wr _ _ (by decide) (side_small x) (by decide)))

theorem trySend_heads (s : State) (x : Side) (p : Parcel) : s.Heads (s.trySend x p) := by
  unfold State.trySend
  dsimp only
  refine .ite (.of_setLink s x (by exact fun _ => rfl)) (.ite (sendNow_heads s x p) ?_)
  exact .trans (stall_heads s x p.vc) (.of_setLink _ x (by exact fun _ => rfl))

theorem drainFifo_heads (s : State) (x : Side) (vc : Nat) : s.Heads (s.drainFifo x vc) := by
  unfold State.drainFifo
  refine .foldl _ ?_ s
  exact fun t f _ => .ite (.refl t) (.ite (.trans (setFifo_heads ..) (sendNow_heads ..)) (stall_heads t x vc))

theorem drain_heads (s : State) (x : Side) : s.Heads (s.drain x) := by
  unfold State.drain
  dsimp only
  refine .ite (.refl s) (.trans (.trans (.of_setLink s x (by exact fun _ => rfl)) (.foldl _ ?_ _)) (.foldl _ ?_ _))
  · exact fun t p _ => trySend_heads t x p
  · exact fun t vc _ => drainFifo_heads t x vc

theorem moveHostSide_heads (s : State) (old new : Side) : s.Heads (s.moveHostSide old new) := by
  have hclear (u : State) (f : PfState → PfState) (h : ∀ q, (f q).drops = q.drops) :
      u.Heads ((u.setLink old f).disarm (.pfReplay old.n)) :=
    .trans (.of_setLink u old h) (.of_disarm _ (by exact fun _ => Timer.noConfusion))
  unfold State.moveHostSide
  dsimp only
  refine .ite (.refl s) (.trans (.trans (.trans (.trans ?_ (hclear _ _ ?_)) (.of_setLink _ new ?_)) (.foldl _ ?_ _)) (drain_heads _ new))
  · exact .of_wr s _ (by decide) (side_small old) (by decide)
  · exact fun _ => rfl
  · exact fun _ => rfl
  · exact fun t vc _ => .trans (setFifo_heads ..) (setFifo_heads ..)

theorem setHostSide_heads (s : State) (y : Side) : s.Heads (s.setHostSide y) := by
  unfold State.setHostSide
  exact .trans (.of_wr s _ (by decide) (by decide) (by decide)) (moveHostSide_heads ..)

theorem wrB_heads (s : State) (o : Obj) (p e : Nat) (b : Bytes) : s.Heads (s.wrB o p e b) := .of_same rfl rfl rfl

theorem setCasc_heads (s : State) (f : CascState → CascState) : s.Heads (s.setCasc f) := .of_same rfl rfl rfl

theorem setPower_heads (s : State) (f : PowerState → PowerState) : s.Heads (s.setPower f) := .of_same rfl rfl rfl

/-- The topology and the part of the cascade that the state holds besides the objects. -/
theorem setTopology_heads (s : State) (dev : Nat) (e : Bytes) : s.Heads (s.setTopology dev e) := .of_same rfl rfl rfl

theorem becomeHead_heads (s : State) : s.Heads s.becomeHead := by
  have hwritten : s.Heads (((s.wr Reg.CASC_acting_role 0 0 roleHead).wr Reg.CASC_head 0 0 s.rst.straps.devnum.val).wr
      Reg.CASC_hops 0 0 0) :=
    .trans (.trans (.of_wr s _ (by decide) (by decide) (by decide)) (.of_wr _ _ (by decide) (by decide) (by decide)))
      (.of_wr _ _ (by decide) (by decide) (by decide))
  have hring (u : State) (f : CascState → CascState) :
      u.Heads (((u.wr Reg.CASC_ring 0 0 0).wrB Reg.CASC_topology 0 0 []).setCasc f) :=
    .trans (.trans (.of_wr u _ (by decide) (by decide) (by decide)) (wrB_heads ..)) (setCasc_heads ..)
  have htimers (u : State) : u.Heads (((u.disarm .headProbe).arm .probeTx u.now).arm .timeTx u.now) :=
    .trans (.trans (.of_disarm u (by exact fun _ => Timer.noConfusion)) (.of_arm _ _ (by exact fun _ => Timer.noConfusion)))
      (.of_arm _ _ (by exact fun _ => Timer.noConfusion))
  unfold State.becomeHead State.ownTopology
  dsimp only
  exact .trans (.trans (.trans (.trans hwritten (hring ..)) (htimers _)) (setHostSide_heads ..)) (setTopology_heads ..)

theorem leaveHead_heads (s : State) : s.Heads s.leaveHead := by
  have hwritten (role : Int) : s.Heads (((s.wr Reg.CASC_acting_role 0 0 role).wr Reg.CASC_head 0 0 255).wr
      Reg.CASC_hops 0 0 255) :=
    .trans (.trans (.of_wr s _ (by decide) (by decide) (by decide)) (.of_wr _ _ (by decide) (by decide) (by decide)))
      (.of_wr _ _ (by decide) (by decide) (by decide))
  have hring (u : State) (f : CascState → CascState) :
      u.Heads ((((u.wr Reg.CASC_ring 0 0 0).wrB Reg.CASC_topology 0 0 []).wr Reg.CASC_host_side 0 0 255).setCasc f) :=
    .trans (.trans (.trans (.of_wr u _ (by decide) (by decide) (by decide)) (wrB_heads ..))
      (.of_wr _ _ (by decide) (by decide) (by decide))) (setCasc_heads ..)
  have htimers (u : State) : u.Heads ((((u.disarm .probeTx).disarm .timeTx).disarm .headProbe)) :=
    .trans (.trans (.of_disarm u (by exact fun _ => Timer.noConfusion)) (.of_disarm _ (by exact fun _ => Timer.noConfusion)))
      (.of_disarm _ (by exact fun _ => Timer.noConfusion))
  unfold State.leaveHead
  dsimp only
  refine .trans (.trans (.trans (.trans (hwritten _) (hring ..)) (htimers _)) (.foldl _ ?_ _)) (.of_arm _ _ ?_)
  · intro t a ha
    obtain ⟨k, -, rfl⟩ := List.mem_map.mp ha
    exact .of_disarm t (by exact fun _ => Timer.noConfusion)
  · exact fun _ => Timer.noConfusion

theorem headRefresh_heads (s : State) : s.Heads s.headRefresh := by
  unfold State.headRefresh
  dsimp only
  exact .ite (.ite (.refl s) (leaveHead_heads s)) (.ite (becomeHead_heads s) (.refl s))

theorem hostActive_heads (s : State) (x : Side) : s.Heads (s.hostActive x) := by
  have hreport (u : State) : u.Heads u.wakeReport := by
    unfold State.wakeReport
    exact .ite (.of_same rfl rfl rfl) (.refl u)
  unfold State.hostActive
  exact .ite (.trans (setPower_heads ..) (hreport _)) (.refl s)

/-! ### A port's change of state (R381) -/

theorem pfState_pfTo (s : State) (x : Side) (new : Int) (cause : Nat) : (s.pfTo x new cause).pfState x = new :=
  State.rd_wr_self ..

theorem rd_pfTo (s : State) (x : Side) (new : Int) (cause : Nat) {q : Obj} {i j : Nat}
    (h : q.apart Reg.PF_PORT_state = true := by decide) (hi : i < 32 := by omega) (hj : j < 1048576 := by omega) :
    (s.pfTo x new cause).rd q i j = s.rd q i j :=
  State.rd_wr_other _ _ (Obj.key_ne h hi hj (side_small x) (by decide))

theorem State.pfState_keep (s u : State) (x : Side) : (u.keep s).pfState x = u.pfState x := by
  unfold State.pfState
  rw [State.rd_keep]

theorem link_pfTo (s : State) (x y : Side) (new : Int) (cause : Nat) : (s.pfTo x new cause).link y = s.link y := rfl

theorem deadline_pfTo (s : State) (x : Side) (new : Int) (cause : Nat) (a : Timer) :
    (s.pfTo x new cause).deadline a = s.deadline a := rfl

theorem out_emit (s : State) (o : Out) : (s.emit o).out = o :: s.out := rfl

theorem out_pfTo (s : State) (x : Side) (new : Int) (cause : Nat) : (s.pfTo x new cause).out = s.out := rfl

theorem pfTo_rest (s : State) (x : Side) (new : Int) (cause : Nat) : s.pfTo x new cause
    = { s with regs := (s.pfTo x new cause).regs, merge := (s.pfTo x new cause).merge } := rfl

/-- The times of a port end with its timers: none of a list of timers runs once each has been disarmed. -/
theorem deadline_disarmed {l : List Timer} {a : Timer} (h : a ∈ l) (s : State) : (l.foldl State.disarm s).deadline a = none := by
  induction l generalizing s with
  | nil => exact absurd h List.not_mem_nil
  | cons b l ih =>
    rw [List.foldl_cons]
    by_cases hmem : a ∈ l
    · exact ih hmem _
    · obtain rfl : a = b := (List.mem_cons.mp h).resolve_right hmem
      refine Eq.trans (foldl_keeps_mem (fun t : State => t.deadline a) l ?_ _) (State.deadline_disarm_self ..)
      exact fun t b hb => State.deadline_disarm_other _ fun hab => hmem (hab ▸ hb)

/-- The timers of a Porfani port's own states. -/
def bringUpTimers (x : Side) : List Timer :=
  [.pfDetect x.n, .pfTrain x.n, .pfLock x.n, .pfExchange x.n, .pfHoldoff x.n, .pfIdle x.n, .pfWidth x.n, .pfTest x.n,
    .pfReplay x.n, .pfDelay x.n]

theorem pfQuietTimers_spec (s : State) (x : Side) : (∀ a ∈ bringUpTimers x, (s.pfQuietTimers x).deadline a = none)
    ∧ s.pfQuietTimers x = { s with timers := (s.pfQuietTimers x).timers } := by
  have hdisarm (l : List Timer) (t : State) : l.foldl State.disarm t = { t with timers := (l.foldl State.disarm t).timers } := by
    induction l generalizing t with
    | nil => rfl
    | cons a l ih =>
      rw [List.foldl_cons, ih]
      rfl
  constructor
  · intro a ha
    unfold State.pfQuietTimers
    refine Eq.trans (foldl_keeps_mem (fun t : State => t.deadline a) _ ?_ _) (deadline_disarmed ha s)
    intro t b hb
    refine State.deadline_disarm_other _ ?_
    obtain ⟨k, -, rfl⟩ := List.mem_map.mp hb
    rintro rfl
    simp [bringUpTimers] at ha
  · unfold State.pfQuietTimers
    rw [hdisarm]
    have hfirst := hdisarm [.pfDetect x.n, .pfTrain x.n, .pfLock x.n, .pfExchange x.n, .pfHoldoff x.n, .pfIdle x.n, .pfWidth x.n,
      .pfTest x.n, .pfReplay x.n, .pfDelay x.n] s
    rw [hfirst]

/-- A port that goes to DETECT: no timer of its states runs, it holds no incompatible partner, and nothing is sent. -/
theorem pfToDetect_spec (s : State) (x : Side) (cause : Nat) : (s.pfToDetect x cause).pfState x = pfDetect
    ∧ (∀ a ∈ bringUpTimers x, (s.pfToDetect x cause).deadline a = none)
    ∧ ((s.pfToDetect x cause).link x).incompatible = false ∧ (s.pfToDetect x cause).out = s.out := by
  obtain ⟨hnone, hrest⟩ := pfQuietTimers_spec s x
  refine ⟨pfState_pfTo .., fun a ha => ?_, ?_, ?_⟩
  · unfold State.pfToDetect
    rw [deadline_pfTo, State.pfReset, State.deadline_setLink, State.deadline_wr, State.deadline_wr, State.deadline_wr, hnone a ha]
  · unfold State.pfToDetect
    rw [link_pfTo, State.pfReset, State.link_setLink_self]
  · unfold State.pfToDetect
    rw [out_pfTo, State.pfReset, State.setLink_out, State.wr_out, State.wr_out, State.wr_out, hrest]

/-! ### The CAPS exchange (R381, R383 to R385) -/

/-- The fields of a block that begins with four bytes. -/
theorem fourBytes_spec (a b c d : Nat) (z : Bytes) : (be 1 a ++ be 1 b ++ be 1 c ++ be 1 d ++ z).length = 4 + z.length
    ∧ uAt (be 1 a ++ be 1 b ++ be 1 c ++ be 1 d ++ z) 0 1 = a % 256
    ∧ uAt (be 1 a ++ be 1 b ++ be 1 c ++ be 1 d ++ z) 1 1 = b % 256
    ∧ uAt (be 1 a ++ be 1 b ++ be 1 c ++ be 1 d ++ z) 2 1 = c % 256
    ∧ uAt (be 1 a ++ be 1 b ++ be 1 c ++ be 1 d ++ z) 3 1 = d % 256 := by
  refine ⟨by simp only [List.length_append, length_be], ?_, ?_, ?_, ?_⟩
  · simpa using uAt_append_be [] (be 1 b ++ be 1 c ++ be 1 d ++ z) 1 a
  · simpa using uAt_append_be (be 1 a) (be 1 c ++ be 1 d ++ z) 1 b
  · simpa using uAt_append_be (be 1 a ++ be 1 b) (be 1 d ++ z) 1 c
  · simpa using uAt_append_be (be 1 a ++ be 1 b ++ be 1 c) z 1 d

/-- A port's CAPS block says whether it has acknowledged. -/
theorem capsBytes_spec (s : State) (x : Side) :
    (s.capsBytes x).length = 7 ∧ bit (uAt (s.capsBytes x) 3 1) 7 = (s.link x).ackSent := by
  unfold State.capsBytes
  dsimp only
  obtain ⟨hlength, -, -, -, hfourth⟩ := fourBytes_spec (x.n * 8 + (if s.rst.straps.role.val = 3 then 0 else s.rst.straps.role.val) * 2
    + b2n (s.flag Reg.PF_CTL_DOWN_second_host)) (s.rst.straps.devnum.val * 16 + (s.link x).good) _ (b2n (s.link x).ackSent * 128) [0, 0, 0]
  refine ⟨hlength, ?_⟩
  rw [hfourth]
  cases (s.link x).ackSent with
  | false => rfl
  | true => rfl

/-- What a port that begins its exchange does. -/
theorem toExchange_spec (s : State) (x : Side) : (s.toExchange x).pfState x = pfExchange
    ∧ ((s.toExchange x).link x).laced = (s.link x).laced
    ∧ (s.toExchange x).deadline (.pfExchange x.n) = some (s.now + 10000000) ∧ (s.toExchange x).deadline (.pfLock x.n) = none
    ∧ (∃ b, (s.toExchange x).out = .block x (s.link x).laced 0x33 b 1 :: s.out ∧ b.length = 7 ∧ bit (uAt b 3 1) 7 = false)
    ∧ s.ReadsBut [Reg.PF_PORT_state] (s.toExchange x) := by
  obtain ⟨u, hu⟩ : ∃ u, u = (s.setLink x fun q => { q with caps := none, ackSent := false, ackSeen := false }).disarm
    (.pfLock x.n) := ⟨_, rfl⟩
  have hexchange : s.toExchange x = ((u.pfTo x pfExchange 0).arm (.pfExchange x.n) (u.now + 10000000)).sendCaps x := by
    rw [hu]
    rfl
  have hlink : u.link x = { s.link x with caps := none, ackSent := false, ackSeen := false } := by
    rw [hu, link_congr (State.disarm_pf ..), State.link_setLink_self]
  have hregs : u.regs = s.regs := by rw [hu]; rfl
  have hnow : u.now = s.now := by rw [hu]; rfl
  have hout : u.out = s.out := by rw [hu]; rfl
  have hlock : u.deadline (.pfLock x.n) = none := by rw [hu, State.deadline_disarm_self]
  obtain ⟨v, hv⟩ : ∃ v, v = (u.pfTo x pfExchange 0).arm (.pfExchange x.n) (u.now + 10000000) := ⟨_, rfl⟩
  have hvlink : v.link x = u.link x := by rw [hv]; rfl
  have hvout : v.out = u.out := by rw [hv]; rfl
  rw [hexchange, ← hv]
  obtain ⟨hlength, hack⟩ := capsBytes_spec v x
  rw [hvlink, hlink] at hack
  refine ⟨?_, ?_, ?_, ?_, ⟨v.capsBytes x, ?_, hlength, hack⟩, ?_⟩
  · rw [hv]
    exact pfState_pfTo u x pfExchange 0
  · unfold State.sendCaps
    rw [link_congr (State.emit_pf ..), hvlink, hlink]
  · rw [hv, ← hnow]
    exact State.deadline_arm_self (u.pfTo x pfExchange 0) ..
  · rw [hv]
    exact (State.deadline_arm_other (u.pfTo x pfExchange 0) _ (by simp)).trans ((deadline_pfTo ..).trans hlock)
  · unfold State.sendCaps
    rw [out_emit, hvlink, hvout, hout, hlink]
  · refine .then_regs (t := u.pfTo x pfExchange 0) (.trans (.of_regs hregs) fun q i j h hi hj => ?_) (by rw [hv]; rfl)
    exact rd_pfTo u x _ _ (List.all_eq_true.mp h _ (by decide)) hi hj

theorem sendFlow_heads (s : State) (x : Side) (nak : Bool) : s.Heads (s.sendFlow x nak) := by
  unfold State.sendFlow
  dsimp only
  exact .trans (emit_heads ..) (.of_setLink _ x (by exact fun _ => rfl))

/-- The link of a port that enters ACTIVE. -/
def PfState.entered (s : State) (x : Side) (tx rx : Nat) (drop : Bool) (q : PfState) : PfState :=
  let q := { q with txWidth := tx, rxWidth := rx, frozen := false, dropping := false, txIdle := false, rxIdle := false, burst := 0,
                    lastTx := s.now }
  if drop then q
  else { q with txSeq := 0, rxSeq := 0, replay := [], used := [0, 0, 0, 0], limits := [0, 0, 0, 0], freed := [0, 0, 0, 0],
                stalled := [], nakSent := false, unacked := false, lastFlow := s.now, delays := [],
                bipBase := (List.range 4).map fun k => s.rdN Reg.PF_LANE_BIP_ERRORS x.n k }

/-- The port ACTIVE, before its partner and the cascade hear of it. -/
def State.activated (s : State) (x : Side) (tx rx : Nat) : State :=
  let q := s.link x
  let s := s.setLink x fun r => r.entered s x tx rx q.dropping
  let s := (s.wr Reg.PF_PORT_width x.n 0 tx).wr Reg.PF_PORT_lane_map x.n 0 (laneMap tx q.partnerGood)
  ((s.disarm (.pfExchange x.n)).disarm (.pfWidth x.n)).pfTo x pfActive (if q.dropping then 1 else 0)

/-- The port ACTIVE, as its partner is told and its delays and parity are measured. -/
def State.announced (s : State) (x : Side) (drop : Bool) : State :=
  let s := if drop then s.sendFlow x true
    else ((List.range 4).map fun k => Timer.pfBip (x.n * 4 + k)).foldl (fun s t => s.arm t (s.now + nsPerSec))
      (s.arm (.pfDelay x.n) s.now)
  if x = .up then s.setCasc fun fld => { fld with managerAt := s.now } else s

theorem enterActive_eq (s : State) (x : Side) (tx rx : Nat) : s.enterActive x tx rx =
    ((((s.activated x tx rx).announced x (s.link x).dropping).headRefresh).hostActive x).drain x := rfl

theorem announced_heads (s : State) (x : Side) (drop : Bool) : s.Heads (s.announced x drop) := by
  have hend (u : State) : u.Heads (if x = .up then u.setCasc fun fld => { fld with managerAt := u.now } else u) :=
    .ite (setCasc_heads ..) (.refl u)
  unfold State.announced
  refine .trans (.ite (sendFlow_heads ..) (.trans (.of_arm s _ ?_) (.foldl _ ?_ _))) (hend _)
  · exact fun _ => Timer.noConfusion
  · intro t a ha
    obtain ⟨k, -, rfl⟩ := List.mem_map.mp ha
    exact .of_arm t _ (by exact fun _ => Timer.noConfusion)

theorem entered_drops (s : State) (x : Side) (tx rx : Nat) (drop : Bool) (q : PfState) :
    (q.entered s x tx rx drop).drops = (false, false) := by
  cases drop with
  | false => rfl
  | true => rfl

theorem activated_spec (s : State) (x : Side) (tx rx : Nat) : (s.activated x tx rx).pfState x = pfActive
    ∧ (s.activated x tx rx).rd Reg.PF_PORT_width x.n = tx ∧ ((s.activated x tx rx).link x).drops = (false, false)
    ∧ (s.activated x tx rx).deadline (.pfExchange x.n) = none := by
  have hsmall := side_small x
  unfold State.activated
  dsimp only
  obtain ⟨u, hu⟩ : ∃ u, u = s.setLink x fun r => r.entered s x tx rx (s.link x).dropping := ⟨_, rfl⟩
  have hlink : u.link x = (s.link x).entered s x tx rx (s.link x).dropping := by rw [hu, State.link_setLink_self]
  rw [← hu]
  refine ⟨pfState_pfTo .., ?_, ?_, ?_⟩
  · rw [rd_pfTo _ _ _ _ (by decide) hsmall, State.rd_disarm, State.rd_disarm, State.rd_wr_other _ _ (Obj.key_ne (by decide) hsmall
      (by decide) hsmall), State.rd_wr_self]
  · rw [link_pfTo, link_congr (State.disarm_pf ..), link_congr (State.disarm_pf ..), link_congr (State.wr_pf ..),
      link_congr (State.wr_pf ..), hlink, entered_drops]
  · rw [deadline_pfTo, State.deadline_disarm_other _ (by simp), State.deadline_disarm_self]

/-- The port enters ACTIVE with its widths, its credits running and no width drop (R385). -/
theorem enterActive_spec (s : State) (x : Side) (tx rx : Nat) : (s.enterActive x tx rx).pfState x = pfActive
    ∧ (s.enterActive x tx rx).rd Reg.PF_PORT_width x.n = tx
    ∧ ((s.enterActive x tx rx).link x).frozen = false ∧ ((s.enterActive x tx rx).link x).dropping = false
    ∧ (s.enterActive x tx rx).deadline (.pfExchange x.n) = none := by
  obtain ⟨hstate, hwidth, hdrops, hexchange⟩ := activated_spec s x tx rx
  rw [enterActive_eq]
  have hheads := (announced_heads (s.activated x tx rx) x (s.link x).dropping).trans ((headRefresh_heads _).trans
    ((hostActive_heads _ x).trans (drain_heads _ x)))
  generalize s.activated x tx rx = u at hstate hwidth hdrops hexchange hheads ⊢
  generalize ((((u.announced x (s.link x).dropping).headRefresh).hostActive x).drain x) = v at hheads
  have hpair := (hheads.drops x).trans hdrops
  refine ⟨?_, ?_, congrArg Prod.fst hpair, congrArg Prod.snd hpair, ?_⟩
  · unfold State.pfState
    rw [hheads.reads.rd (by decide) (side_small x) (by decide)]
    exact hstate
  · rw [hheads.reads.rd (by decide) (side_small x) (by decide), hwidth]
  · rw [hheads.exchange, hexchange]

/-! ### Training (R381, R382) -/

/-- Every sensed lane is ready both ways: the port goes to LOCK. -/
theorem trained_all (h : (s.link x).sensed ≠ 0 ∧ (s.link x).rxReady &&& (s.link x).partnerReady &&& (s.link x).sensed
    = (s.link x).sensed) : s.trained x = ((((s.wr Reg.PF_PORT_rate x.n 0 (s.link x).rate).disarm (.pfTrain x.n)).pfTo x pfLock 0).arm
      (.pfLock x.n) (s.now + 1000000)) := if_pos h

theorem trained_some (h : ¬((s.link x).sensed ≠ 0 ∧ (s.link x).rxReady &&& (s.link x).partnerReady &&& (s.link x).sensed
    = (s.link x).sensed)) : s.trained x = s := if_neg h

/-- A port whose training ends writes its rate and has 1 ms for LOCK. -/
theorem trained_lock (s : State) (x : Side) (hsensed : (s.link x).sensed ≠ 0)
    (hall : (s.link x).rxReady &&& (s.link x).partnerReady &&& (s.link x).sensed = (s.link x).sensed) :
    (s.trained x).rd Reg.PF_PORT_rate x.n = (s.link x).rate ∧ (s.trained x).deadline (.pfLock x.n) = some (s.now + 1000000)
    ∧ (s.trained x).deadline (.pfTrain x.n) = none := by
  rw [trained_all ⟨hsensed, hall⟩]
  refine ⟨?_, ?_, ?_⟩
  · rw [State.rd_arm, rd_pfTo _ _ _ _ (by decide) (side_small x), State.rd_disarm, State.rd_wr_self]
  · rw [State.deadline_arm_self]
  · rw [State.deadline_arm_other _ _ (by simp), deadline_pfTo, State.deadline_disarm_self]

/-- What training ends with, whether or not it ends. -/
theorem trained_spec (s : State) (x : Side) : (s.trained x).pf = s.pf ∧ (s.trained x).out = s.out
    ∧ s.ReadsBut [Reg.PF_PORT_rate, Reg.PF_PORT_state] (s.trained x)
    ∧ (s.pfState x = pfTrain → (s.link x).sensed ≠ 0 → (s.trained x).pfState x =
      if (s.link x).rxReady &&& (s.link x).partnerReady &&& (s.link x).sensed = (s.link x).sensed then pfLock else pfTrain) := by
  by_cases h : (s.link x).sensed ≠ 0 ∧ (s.link x).rxReady &&& (s.link x).partnerReady &&& (s.link x).sensed = (s.link x).sensed
  · rw [trained_all h]
    refine ⟨rfl, rfl, ?_, fun _ _ => ?_⟩
    · have hrate : s.ReadsBut [Reg.PF_PORT_rate, Reg.PF_PORT_state] (s.wr Reg.PF_PORT_rate x.n 0 (s.link x).rate) :=
        (State.ReadsBut.refl s).wr _ (by decide) (side_small x) (by decide)
      generalize s.wr Reg.PF_PORT_rate x.n 0 (s.link x).rate = u at hrate
      have hstate : (u.disarm (.pfTrain x.n)).ReadsBut [Reg.PF_PORT_rate, Reg.PF_PORT_state] ((u.disarm (.pfTrain x.n)).pfTo x pfLock 0) :=
        fun q i j hq hi hj => rd_pfTo _ x _ _ (List.all_eq_true.mp hq _ (by decide)) hi hj
      exact .then_regs ((hrate.then_regs (State.disarm_regs ..)).trans hstate) (State.arm_regs ..)
    · rw [if_pos h.2]
      exact pfState_pfTo ((s.wr Reg.PF_PORT_rate x.n 0 (s.link x).rate).disarm (.pfTrain x.n)) x pfLock 0
  · rw [trained_some h]
    exact ⟨rfl, rfl, .refl s, fun hstate hsensed => by rw [hstate, if_neg fun hall => h ⟨hsensed, hall⟩]⟩

/-- One tap's status takes two bits. -/
theorem ffeStep_status (req code preset : Nat) : (ffeStep req code preset).2 ≤ 3 := by
  unfold ffeStep
  split
  · split
    · exact Nat.le_refl 3
    · exact Nat.le_of_ble_eq_true rfl
  · split
    · exact Nat.le_of_ble_eq_true rfl
    · exact Nat.le_of_ble_eq_true rfl
  · exact Nat.le_of_ble_eq_true rfl
  · exact Nat.zero_le 3

/-- A preset value plays no part where none is asked for. -/
theorem ffeStep_preset {req : Nat} (h : req ≠ 3) (code v w : Nat) : ffeStep req code v = ffeStep req code w := by
  unfold ffeStep
  split
  · rfl
  · rfl
  · exact absurd rfl h
  · rfl

/-- What a TRAIN block answers: its lane, the status of the taps and the lane's RX_READY. -/
theorem trainBytes_spec (requests : Nat) (ready : Bool) {status : Nat} (lane : Lane) (rate : Nat) (hstatus : status ≤ 63) :
    (trainBytes requests ready status lane.val rate).length = 7 ∧ uAt (trainBytes requests ready status lane.val rate) 2 1 = lane.val
    ∧ uAt (trainBytes requests ready status lane.val rate) 1 1 = 4 * status
    ∧ bit (uAt (trainBytes requests ready status lane.val rate) 0 1) 1 = ready := by
  obtain ⟨hlength, hfirst, hsecond, hthird, -⟩ :=
    fourBytes_spec (requests * 4 + b2n ready * 2) (status * 4) lane.val rate [0, 0, 0]
  have hlane : lane.val < 4 := lane.isLt
  unfold trainBytes
  refine ⟨hlength, ?_, ?_, ?_⟩
  · rw [hthird, Nat.mod_eq_of_lt (by omega)]
  · rw [hsecond]
    omega
  · rw [hfirst, bit, Nat.testBit_eq_decide_div_mod_eq]
    cases ready with
    | false => exact decide_eq_false (by rw [show b2n false = 0 from rfl]; omega)
    | true => exact decide_eq_true (by rw [show b2n true = 1 from rfl]; omega)

/-! ### Lacing, and the partner's CAPS -/

/-- The skews of the lanes laced, written. -/
def State.skewed (s : State) (x : Side) (mask : Nat) (skews : List Nat) : State :=
  let late := (((List.range 4).filter fun k => bit mask k).map fun k => skews.getD k 0).foldl max 0
  (List.range 4).foldl (fun s k => if bit mask k then s.wr Reg.PF_LANE_skew x.n k (late - skews.getD k 0 : Nat) else s) s

theorem skewed_spec (s : State) (x : Side) (mask : Nat) (skews : List Nat) :
    s.skewed x mask skews = { s with regs := (s.skewed x mask skews).regs }
    ∧ (∀ k < 4, bit mask k = true → (s.skewed x mask skews).rd Reg.PF_LANE_skew x.n k
        = ((((List.range 4).filter fun j => bit mask j).map fun j => skews.getD j 0).foldl max 0 - skews.getD k 0 : Nat))
    ∧ s.ReadsBut [Reg.PF_LANE_skew] (s.skewed x mask skews) := by
  unfold State.skewed
  dsimp only
  generalize (((List.range 4).filter fun k => bit mask k).map fun k => skews.getD k 0).foldl max 0 = late
  obtain ⟨f, hf⟩ : ∃ f : State → Nat → State, f = fun s k =>
    if bit mask k then s.wr Reg.PF_LANE_skew x.n k (late - skews.getD k 0 : Nat) else s := ⟨_, rfl⟩
  have hset (t : State) {k : Nat} (h : bit mask k = true) : f t k = t.wr Reg.PF_LANE_skew x.n k (late - skews.getD k 0 : Nat) := by
    rw [hf]
    exact if_pos h
  have hunset (t : State) {k : Nat} (h : ¬ bit mask k = true) : f t k = t := by
    rw [hf]
    exact if_neg h
  have hkeeps (l : List Nat) (t : State) (ht : t = { s with regs := t.regs }) : l.foldl f t = { s with regs := (l.foldl f t).regs } := by
    induction l generalizing t with
    | nil => exact ht
    | cons k l ih =>
      refine ih (f t k) ?_
      by_cases h : bit mask k = true
      · rw [hset t h, ht]
        rfl
      · rw [hunset t h]
        exact ht
  rw [← hf]
  refine ⟨?_, fun k hk hbit => ?_, ?_⟩
  · exact hkeeps _ s rfl
  · have hmem : k ∈ List.range 4 := List.mem_range.mpr hk
    refine foldl_establishes (P := fun t => t.rd Reg.PF_LANE_skew x.n k = (late - skews.getD k 0 : Nat)) _ (.inl hmem) ?_ ?_
    · intro t
      rw [hset t hbit, State.rd_wr_self]
    · intro t j ht
      by_cases h : bit mask j = true
      · rw [hset t h]
        by_cases hjk : j = k
        · rw [hjk, State.rd_wr_self]
        · rw [State.rd_wr_other _ _ fun hkeys => hjk (Nat.add_left_cancel (Nat.add_right_cancel hkeys)).symm]
          exact ht
      · rw [hunset t h]
        exact ht
  · refine .foldl _ (fun t k hk => ?_) s
    by_cases h : bit mask k = true
    · rw [hset t h]
      exact (State.ReadsBut.refl t).wr _ (by decide) (side_small x) ((List.mem_range.mp hk).trans (by decide))
    · rw [hunset t h]
      exact .refl t

theorem sourceOf_srcLink (x : Side) : sourceOf clsLink 0x04 (srcLink x) = true := by
  cases x with
  | up => rfl
  | down => rfl

/-- A field of what follows a block's first byte. -/
theorem uAt_drop (b : Bytes) (i : Nat) : uAt (b.drop 1) i 1 = uAt b (i + 1) 1 := by
  unfold uAt slice
  rw [List.drop_drop, Nat.add_comm]

theorem compatible_wrB (s : State) (x : Side) (q : Obj) (i j : Nat) (v caps : Bytes) :
    (s.wrB q i j v).compatible x caps = s.compatible x caps := rfl

/-- A compatible partner's CAPS noted and answered with ACK. -/
def State.capsAnswered (s : State) (x : Side) (caps : Bytes) : State :=
  ((s.wrB Reg.PF_PORT_partner x.n 0 caps).setLink x fun q => { q with
    caps := some caps, ackSent := true, ackSeen := bit (uAt caps 3 1) 7, partnerGood := field (uAt caps 1 1) 3 0 }).sendCaps x

theorem capsAnswered_spec (s : State) (x : Side) (caps : Bytes) :
    (s.capsAnswered x caps).link x = { s.link x with
      caps := some caps, ackSent := true, ackSeen := bit (uAt caps 3 1) 7, partnerGood := field (uAt caps 1 1) 3 0 }
    ∧ (s.capsAnswered x caps).rdN Reg.PF_CTL_width_ceiling = s.rdN Reg.PF_CTL_width_ceiling
    ∧ s.capsAnswered x caps = { s with
        blobs := (s.capsAnswered x caps).blobs, pf := (s.capsAnswered x caps).pf, out := (s.capsAnswered x caps).out }
    ∧ (s.capsAnswered x caps).regs = s.regs
    ∧ ∃ b, (s.capsAnswered x caps).out = .block x (s.link x).laced 0x33 b 1 :: s.out ∧ b.length = 7 ∧ bit (uAt b 3 1) 7 = true := by
  obtain ⟨u, hu⟩ : ∃ u, u = (s.wrB Reg.PF_PORT_partner x.n 0 caps).setLink x fun q => { q with
    caps := some caps, ackSent := true, ackSeen := bit (uAt caps 3 1) 7, partnerGood := field (uAt caps 1 1) 3 0 } := ⟨_, rfl⟩
  have hlink : u.link x = { s.link x with
      caps := some caps, ackSent := true, ackSeen := bit (uAt caps 3 1) 7, partnerGood := field (uAt caps 1 1) 3 0 } := by
    rw [hu, State.link_setLink_self]
    rfl
  have hrest : u = { s with blobs := u.blobs, pf := u.pf } := by rw [hu]; rfl
  have hregs : u.regs = s.regs := by rw [hrest]
  have hout : u.out = s.out := by rw [hrest]
  obtain ⟨hlength, hack⟩ := capsBytes_spec u x
  rw [hlink] at hack
  unfold State.capsAnswered
  rw [← hu]
  unfold State.sendCaps
  refine ⟨?_, ?_, ?_, ?_, u.capsBytes x, ?_, hlength, hack⟩
  · rw [link_congr (State.emit_pf ..), hlink]
  · unfold State.rdN
    rw [State.rd_emit, State.rd_congr hregs]
  · rw [hrest]
    rfl
  · rw [State.emit_regs, hregs]
  · rw [out_emit, hlink, hout]

/-- What a compatible partner's CAPS does. -/
theorem capsRx_accepted {s : State} {x : Side} {block : Bytes} (hruns : s.pfRuns = true) (hstate : s.pfState x = pfExchange)
    (hcompatible : (s.link x).incompatible = false) (hheld : s.running (.pfHoldoff x.n) = false) (hlength : block.length = 8)
    (hkind : uAt block 0 1 = 0x33) (haccepted : s.compatible x (block.drop 1) = true) :
    exec (.pfCapsRx x block) s = .next
      ((if ((s.capsAnswered x (block.drop 1)).link x).ackSeen
          ∧ 0 < widthOf ((s.capsAnswered x (block.drop 1)).rdN Reg.PF_CTL_width_ceiling) (block.drop 1)
            ((s.capsAnswered x (block.drop 1)).link x).partnerGood
          ∧ 0 < widthOf ((s.capsAnswered x (block.drop 1)).rdN Reg.PF_CTL_width_ceiling) (block.drop 1)
            ((s.capsAnswered x (block.drop 1)).link x).good
        then (s.capsAnswered x (block.drop 1)).enterActive x
          (widthOf ((s.capsAnswered x (block.drop 1)).rdN Reg.PF_CTL_width_ceiling) (block.drop 1)
            ((s.capsAnswered x (block.drop 1)).link x).partnerGood)
          (widthOf ((s.capsAnswered x (block.drop 1)).rdN Reg.PF_CTL_width_ceiling) (block.drop 1)
            ((s.capsAnswered x (block.drop 1)).link x).good)
        else s.capsAnswered x (block.drop 1)).keep s) := by
  refine (guarded_pos s ⟨hruns, hstate, by rw [hcompatible]; rfl, by rw [hheld]; rfl, hlength, hkind⟩).trans ?_
  dsimp only
  rw [if_neg (by rw [compatible_wrB, haccepted]; exact Bool.noConfusion)]
  rfl

/-! ### The obligation -/

/-- Settles O38, over every state. -/
theorem linkBringUpCompletes : Obligations.LinkBringUpCompletes := by
  unfold Obligations.LinkBringUpCompletes
  refine ⟨?detect, ?silent, ?train, ?ready, ?slower, ?lock, ?lacing, ?unlaced, ?incompatible, ?active, ?answer, ?exchange, ?holdoff⟩
  case detect =>
    intro s x sensed hruns hstate hside hdue hsensed
    obtain ⟨u, hu⟩ : ∃ u, u = (s.emit (.detectStep x)).arm (.pfDetect x.n) (s.now + 12000000) := ⟨_, rfl⟩
    obtain ⟨v, hv⟩ : ∃ v, v = (u.setLink x fun q => { q with
      sensed := sensed % 16, rate := u.rdN Reg.PF_CTL_rate_ceiling, ceilWidth := u.rdN Reg.PF_CTL_width_ceiling,
      ceilRate := u.rdN Reg.PF_CTL_rate_ceiling }).disarm (.pfDetect x.n) := ⟨_, rfl⟩
    have hexec : exec (.pfDetectPulse x sensed) s = .next (((v.pfTo x pfTrain 0).arm (.pfTrain x.n) (v.now + 500000000)).keep s) := by
      refine (guarded_pos s ⟨hruns, hstate, hside, hdue⟩).trans ?_
      dsimp only
      rw [if_neg hsensed, ← hu, ← hv]
    have hlink : v.link x = { s.link x with
        sensed := sensed % 16, rate := s.rdN Reg.PF_CTL_rate_ceiling, ceilWidth := s.rdN Reg.PF_CTL_width_ceiling,
        ceilRate := s.rdN Reg.PF_CTL_rate_ceiling } := by
      rw [hv, link_congr (State.disarm_pf ..), State.link_setLink_self, hu]
      rfl
    have hnow : v.now = s.now := by rw [hv, hu]; rfl
    have hrest : v = { s with pf := v.pf, timers := v.timers, out := .detectStep x :: s.out } := by rw [hv, hu]; rfl
    have hafter : ((v.pfTo x pfTrain 0).arm (.pfTrain x.n) (v.now + 500000000)).link x = v.link x := rfl
    refine ⟨_, hexec, ?_, ?_, ?_, ?_, ?_, ?_, ?_⟩
    · exact pfState_pfTo v x pfTrain 0
    · rw [link_congr (State.keep_pf ..), hafter, hlink]
    · rw [link_congr (State.keep_pf ..), hafter, hlink]
    · rw [State.deadline_keep, State.deadline_arm_self, hnow]
    · rw [hrest]
      rfl
    · rw [link_congr (State.keep_pf ..), hafter, hlink]
    · rw [hrest]
      rfl
  case silent =>
    intro s x sensed hruns hstate hside hdue hsensed
    refine (guarded_pos s ⟨hruns, hstate, hside, hdue⟩).trans ?_
    dsimp only
    rw [if_pos hsensed]
    rfl
  case train =>
    intro s x lane block b1 ffe v ready hruns hstate hlane hlength hkind hb1 hffe hv hready
    obtain ⟨fresh, u, hfree, hpre, hmain, hpost, hrest⟩ : ∃ fresh u,
        (if field b1 7 6 = 3 ∨ field b1 5 4 = 3 ∨ field b1 3 2 = 3 then s.free 16777216 else (0, s)) = (fresh, u)
        ∧ ffeStep (field b1 7 6) (field ffe 23 16) (fresh / 65536) = ffeStep (field b1 7 6) (field ffe 23 16) (v / 65536)
        ∧ ffeStep (field b1 5 4) (field ffe 15 8) (fresh / 256) = ffeStep (field b1 5 4) (field ffe 15 8) (v / 256)
        ∧ ffeStep (field b1 3 2) (field ffe 7 0) fresh = ffeStep (field b1 3 2) (field ffe 7 0) v
        ∧ u = { s with freeCount := u.freeCount } := by
      by_cases hpreset : field b1 7 6 = 3 ∨ field b1 5 4 = 3 ∨ field b1 3 2 = 3
      · rw [if_pos hpreset]
        exact ⟨v, _, by rw [hv], rfl, rfl, rfl, rfl⟩
      · rw [if_neg hpreset]
        obtain ⟨hpre, hmain, hpost⟩ := not_or.mp hpreset |>.imp_right not_or.mp
        exact ⟨0, s, rfl, ffeStep_preset hpre .., ffeStep_preset hmain .., ffeStep_preset hpost .., rfl⟩
    generalize ffeStep (field b1 7 6) (field ffe 23 16) (v / 65536) = pre at hpre ⊢
    generalize ffeStep (field b1 5 4) (field ffe 15 8) (v / 256) = main at hmain ⊢
    generalize ffeStep (field b1 3 2) (field ffe 7 0) v = post at hpost ⊢
    obtain ⟨w, hw⟩ : ∃ w, w = (u.wr Reg.PF_LANE_FFE x.n lane.val (pre.1 * 65536 + main.1 * 256 + post.1 : Nat)).setLink x fun q =>
      { q with
        partnerReady := setBit q.partnerReady lane.val (bit b1 1),
        laneOf := q.laneOf.set lane.val (field (uAt block 3 1) 1 0) } := ⟨_, rfl⟩
    have hwlink : w.link x = { s.link x with
        partnerReady := ready, laneOf := (s.link x).laneOf.set lane.val (field (uAt block 3 1) 1 0) } := by
      rw [hw, State.link_setLink_self, link_congr (State.wr_pf ..), link_congr (show _ = s.pf by rw [hrest]), hready]
    have hwout : w.out = s.out := by
      rw [hw, State.setLink_out, State.wr_out, hrest]
    have hwffe : w.rd Reg.PF_LANE_FFE x.n lane.val = (pre.1 * 65536 + main.1 * 256 + post.1 : Nat) := by
      rw [hw, State.rd_setLink, State.rd_wr_self]
    have hwstate : w.pfState x = pfTrain := by
      rw [← hstate, hw]
      unfold State.pfState
      rw [State.rd_setLink, State.rd_wr_other _ _ (Obj.key_ne (by decide) (side_small x) (by decide) (side_small x)
        (lane.isLt.trans (by decide))), State.rd_congr (show _ = s.regs by rw [hrest])]
    obtain ⟨y, hy⟩ : ∃ y, y = (w.free 64).2.emit (.block x (2 ^ lane.val) 0x2D
      (trainBytes (w.free 64).1 (bit (w.link x).rxReady lane.val) (pre.2 * 16 + main.2 * 4 + post.2) lane.val (w.link x).rate) 1) :=
      ⟨_, rfl⟩
    have hexec : exec (.pfTrainBlock x lane block) s = .next ((y.trained x).keep s) := by
      refine (guarded_pos s ⟨hruns, hstate, hlane, hlength, hkind⟩).trans ?_
      dsimp only
      rw [← hb1, ← hffe, hfree]
      dsimp only
      rw [hpre, hmain, hpost, hy, hw]
    have hypf : y.pf = w.pf := by rw [hy]; rfl
    have hyregs : y.regs = w.regs := by rw [hy]; rfl
    have hstatus : pre.2 * 16 + main.2 * 4 + post.2 ≤ 63 := by
      have h1 : pre.2 ≤ 3 := by rw [← hpre]; exact ffeStep_status ..
      have h2 : main.2 ≤ 3 := by rw [← hmain]; exact ffeStep_status ..
      have h3 : post.2 ≤ 3 := by rw [← hpost]; exact ffeStep_status ..
      omega
    obtain ⟨hbytes, hname, hstats, hbit⟩ := trainBytes_spec (w.free 64).1 (bit (w.link x).rxReady lane.val) lane (w.link x).rate hstatus
    have hyout : y.out = .block x (2 ^ lane.val) 0x2D (trainBytes (w.free 64).1 (bit (w.link x).rxReady lane.val)
        (pre.2 * 16 + main.2 * 4 + post.2) lane.val (w.link x).rate) 1 :: s.out := by
      rw [← hwout, hy]
      rfl
    generalize trainBytes (w.free 64).1 (bit (w.link x).rxReady lane.val) (pre.2 * 16 + main.2 * 4 + post.2) lane.val (w.link x).rate
      = b at hbytes hname hstats hbit hyout
    have hsensed : (s.link x).sensed ≠ 0 := fun hnone => by
      rw [hnone] at hlane
      exact absurd (hlane.symm.trans (Nat.zero_testBit _)) (by decide)
    have hystate : y.pfState x = pfTrain := by
      rw [← hwstate]
      unfold State.pfState
      rw [State.rd_congr hyregs]
    obtain ⟨htpf, htout, htreads, htstate⟩ := trained_spec y x
    have hafter := htstate hystate (by rw [link_congr hypf, hwlink]; exact hsensed)
    rw [link_congr hypf, hwlink] at hafter
    refine ⟨_, hexec, ?_, ?_, ⟨b, ?_, hbytes, hname, ?_, ?_⟩, ?_⟩
    · unfold State.rdN
      rw [State.rd_keep, htreads.rd (by decide) (side_small x) (lane.isLt.trans (by decide)), State.rd_congr hyregs, hwffe]
      rfl
    · rw [link_congr (State.keep_pf ..), link_congr htpf, link_congr hypf, hwlink]
    · rw [State.keep_out, htout, hyout]
    · exact hstats
    · rw [hbit, hwlink]
    · rw [State.pfState_keep, hafter]
  case ready =>
    intro s x lane hruns hstate hlane hsensed
    obtain ⟨u, hu⟩ : ∃ u, u = s.setLink x fun q => { q with rxReady := setBit q.rxReady lane.val true } := ⟨_, rfl⟩
    have hlink : u.link x = { s.link x with rxReady := setBit (s.link x).rxReady lane.val true } := by
      rw [hu, State.link_setLink_self]
    have hnow : u.now = s.now := by rw [hu]; rfl
    have hbefore : u.pfState x = pfTrain := by rw [hu, ← hstate]; rfl
    have hexec : exec (.pfRxReady x lane) s = .next ((u.trained x).keep s) := by
      rw [hu]
      exact guarded_pos s ⟨hruns, hstate, hlane⟩
    obtain ⟨hpf, -, -, hready⟩ := trained_spec u x
    have hsensed' : (u.link x).sensed ≠ 0 := by rw [hlink]; exact hsensed
    have hafter := hready hbefore hsensed'
    rw [hlink] at hafter
    refine ⟨_, hexec, ?_, ?_, ?_⟩
    · rw [link_congr (State.keep_pf ..), link_congr hpf, hlink]
    · intro hall
      obtain ⟨hrate, hlock, htrain⟩ := trained_lock u x hsensed' (by rw [hlink]; exact hall)
      rw [State.pfState_keep, State.rd_keep, State.deadline_keep, State.deadline_keep, hafter, hrate, hlock, htrain, hlink, hnow]
      exact ⟨if_pos hall, rfl, rfl, rfl⟩
    · intro hsome
      rw [State.pfState_keep, hafter]
      exact if_neg hsome
  case slower =>
    intro s x hruns hstate hpassed
    have hexec : exec (.pfTrainTimeout x) s = .next ((if (s.link x).rate = 0 then s.pfToDetect x 4
        else (s.setLink x fun q => { q with rate := q.rate - 1, rxReady := 0, partnerReady := 0 }).arm (.pfTrain x.n)
          (s.now + 500000000)).keep s) := guarded_pos s ⟨hruns, hstate, hpassed⟩
    refine ⟨_, hexec, fun hslowest => ?_, fun hrate => ?_⟩
    · obtain ⟨hafter, hnone, -, -⟩ := pfToDetect_spec s x 4
      rw [if_pos hslowest, State.pfState_keep, State.deadline_keep, hafter, hnone _ (by simp [bringUpTimers])]
      exact ⟨rfl, rfl⟩
    · rw [if_neg hrate, State.pfState_keep, State.deadline_keep, State.deadline_arm_self, link_congr (State.keep_pf ..),
        link_congr (State.arm_pf ..), State.link_setLink_self]
      exact ⟨hstate, rfl, rfl, rfl⟩
  case lock =>
    intro s x lane hruns hstate hsensed
    exact guarded_pos s ⟨hruns, hstate, hsensed⟩
  case lacing =>
    intro s x laced skews hruns hstate hlaced hlocked hskews
    obtain ⟨u, hu⟩ : ∃ u, u = (s.skewed x (laced % 16) skews).setLink x fun q => { q with laced := laced % 16, skews := skews } :=
      ⟨_, rfl⟩
    have hexec : exec (.pfLacingDone x laced skews) s = .next ((if laced % 16 = (u.link x).sensed then u.toExchange x else u).keep s) := by
      rw [hu]
      exact guarded_pos s ⟨hruns, hstate, hlaced, hlocked, hskews⟩
    obtain ⟨hrest, hlate, hreads⟩ := skewed_spec s x (laced % 16) skews
    have hlink : u.link x = { s.link x with laced := laced % 16, skews := skews } := by
      rw [hu, State.link_setLink_self, link_congr (show _ = s.pf by rw [hrest])]
    have hsensed : (u.link x).sensed = (s.link x).sensed := by rw [hlink]
    have hmask : (u.link x).laced = laced % 16 := by rw [hlink]
    have hregs : u.regs = (s.skewed x (laced % 16) skews).regs := by rw [hu]; rfl
    have hout : u.out = s.out := by rw [hu, State.setLink_out, hrest]
    have hnow : u.now = s.now := by rw [hu, State.now_setLink]; unfold State.now; rw [hrest]
    have hbefore : u.pfState x = pfLock := by
      rw [← hstate]
      unfold State.pfState
      rw [State.rd_congr hregs, hreads.rd (by decide) (side_small x) (by decide)]
    have hwritten (k : Nat) (hk : k < 4) (hbit : bit laced k = true) : u.rdN Reg.PF_LANE_skew x.n k =
        (((List.range 4).filter fun j => bit (laced % 16) j).map fun j => skews.getD j 0).foldl max 0 - skews.getD k 0 := by
      have hbit' : bit (laced % 16) k = true := by
        unfold bit at hbit ⊢
        rw [show (16 : Nat) = 2 ^ 4 from rfl, Nat.testBit_mod_two_pow, decide_eq_true hk, hbit]
        rfl
      unfold State.rdN
      rw [State.rd_congr hregs, hlate k hk hbit']
      rfl
    rw [hsensed] at hexec
    obtain ⟨hexchange, hkept, hdeadline, -, -, hafter⟩ := toExchange_spec u x
    by_cases hall : laced % 16 = (s.link x).sensed
    · rw [if_pos hall] at hexec
      refine ⟨_, hexec, ?_, fun _ => ?_, fun hsome => absurd hall hsome, fun k hk hbit => ?_⟩
      · rw [link_congr (State.keep_pf ..), hkept, hmask]
      · rw [State.pfState_keep, State.deadline_keep, hexchange, hdeadline, hnow]
        exact ⟨rfl, rfl⟩
      · unfold State.rdN
        rw [State.rd_keep, hafter.rd (by decide) (side_small x) (by omega)]
        exact hwritten k hk hbit
    · rw [if_neg hall] at hexec
      refine ⟨_, hexec, ?_, fun hsame => absurd hsame hall, fun _ => ?_, fun k hk hbit => ?_⟩
      · rw [link_congr (State.keep_pf ..), hmask]
      · rw [State.pfState_keep, State.keep_out, hbefore, hout]
        exact ⟨rfl, rfl⟩
      · unfold State.rdN
        rw [State.rd_keep]
        exact hwritten k hk hbit
  case unlaced =>
    intro s x hruns hstate hpassed
    have hexec : exec (.pfLockTimeout x) s = .next ((if (s.link x).laced = 0 then s.pfToDetect x 4 else s.toExchange x).keep s) :=
      guarded_pos s ⟨hruns, hstate, hpassed⟩
    obtain ⟨hdetect, hnone, -, hquiet⟩ := pfToDetect_spec s x 4
    obtain ⟨hexchange, -, hdeadline, hlock, hcaps, -⟩ := toExchange_spec s x
    refine ⟨_, hexec, fun hlaced => ?_, fun hlaced => ?_, ?_⟩
    · rw [if_pos hlaced, State.pfState_keep, State.keep_out, hdetect, hquiet]
      exact ⟨rfl, rfl⟩
    · rw [if_neg hlaced, State.pfState_keep, State.keep_out, State.deadline_keep, hexchange, hdeadline]
      exact ⟨rfl, rfl, hcaps⟩
    · rw [State.deadline_keep]
      by_cases hlaced : (s.link x).laced = 0
      · rw [if_pos hlaced, hnone _ (by simp [bringUpTimers])]
      · rw [if_neg hlaced, hlock]
  case incompatible =>
    intro s x block hruns hstate hcompatible hheld hlength hkind hrefused
    obtain ⟨u, hu⟩ : ∃ u, u = (s.wrB Reg.PF_PORT_partner x.n 0 (block.drop 1)).setLink x fun q =>
      { q with incompatible := true, caps := some (block.drop 1) } := ⟨_, rfl⟩
    obtain ⟨v, hv⟩ : ∃ v, v = u.raise (srcLink x) clsLink 0x04 x.n
      ((s.wrB Reg.PF_PORT_partner x.n 0 (block.drop 1)).partnerRole x * 16 + (s.wrB Reg.PF_PORT_partner x.n 0 (block.drop 1)).partnerDev x) :=
      ⟨_, rfl⟩
    have hexec : exec (.pfCapsRx x block) s = .next
        (((((v.pfTo x pfExchange 5).disarm (.pfExchange x.n)).disarm (.pfWidth x.n)).arm (.pfHoldoff x.n) (v.now + 100000000)).keep s) := by
      refine (guarded_pos s ⟨hruns, hstate, by rw [hcompatible]; rfl, by rw [hheld]; rfl, hlength, hkind⟩).trans ?_
      dsimp only
      rw [if_pos (by rw [compatible_wrB, hrefused]; rfl), hv, hu]
      rfl
    have hcaps : block.drop 1 ≠ [] := List.ne_nil_of_length_pos (by rw [List.length_drop, hlength]; decide)
    have hraise : v = { u with faults := v.faults } := by
      rw [hv, State.raise_eq _ _ _ (rfl : catalogueSeverity clsLink 0x04 = some 2) (sourceOf_srcLink x)]
    have hnow : v.now = s.now := by
      unfold State.now
      rw [hraise, hu]
      rfl
    have hpartner : v.rdB Reg.PF_PORT_partner x.n = block.drop 1 := by
      rw [State.rdB_congr (show _ = u.blobs by rw [hraise]), hu, State.rdB_setLink, State.rdB_wrB_self _ _ _ _ _ hcaps]
    have hlink : v.link x = { s.link x with incompatible := true, caps := some (block.drop 1) } := by
      rw [link_congr (show _ = u.pf by rw [hraise]), hu, State.link_setLink_self]
      rfl
    have hfaults : v.faults = s.reported (srcLink x) clsLink 0x04 x.n
        (field (uAt block 1 1) 2 1 * 16 + field (uAt block 2 1) 7 4) 2 := by
      rw [hv]
      unfold State.partnerRole State.partnerDev
      rw [State.rdB_wrB_self _ _ _ _ _ hcaps, uAt_drop, uAt_drop]
      refine State.raise_reported _ _ (by rfl) (sourceOf_srcLink x) ?_ ?_ ?_
      · rw [hu]; rfl
      · rw [hu]; rfl
      · rw [hu]; rfl
    refine ⟨_, hexec, ?_, ?_, ?_, ?_, ?_, ?_⟩
    · rw [State.pfState_keep]
      exact pfState_pfTo v x pfExchange 5
    · rw [link_congr (State.keep_pf ..), link_congr (State.arm_pf ..), link_congr (State.disarm_pf ..), link_congr (State.disarm_pf ..),
        link_pfTo, hlink]
    · rw [State.deadline_keep, State.deadline_arm_self, hnow]
    · rw [State.deadline_keep, State.deadline_arm_other _ _ (by simp), State.deadline_disarm_other _ (by simp),
        State.deadline_disarm_self]
    · rw [State.rdB_keep, State.rdB_arm, State.rdB_disarm, State.rdB_disarm, State.rdB_congr (show _ = v.blobs by rw [pfTo_rest]), hpartner]
    · rw [State.keep_faults, State.arm_faults, State.disarm_faults, State.disarm_faults, pfTo_rest]
      exact hfaults
  case active =>
    intro s x block hruns hstate hcompatible hheld hlength hkind haccepted hack htx hrx
    obtain ⟨hlink, hceil, -⟩ := capsAnswered_spec s x (block.drop 1)
    have hexec := capsRx_accepted hruns hstate hcompatible hheld hlength hkind haccepted
    rw [uAt_drop] at hlink
    rw [if_pos (by rw [hlink, hceil]; exact ⟨hack, by rw [uAt_drop]; exact htx, hrx⟩)] at hexec
    obtain ⟨hactive, hwidth, hfrozen, hdropping, hexchange⟩ := enterActive_spec (s.capsAnswered x (block.drop 1)) x
      (widthOf ((s.capsAnswered x (block.drop 1)).rdN Reg.PF_CTL_width_ceiling) (block.drop 1)
        ((s.capsAnswered x (block.drop 1)).link x).partnerGood)
      (widthOf ((s.capsAnswered x (block.drop 1)).rdN Reg.PF_CTL_width_ceiling) (block.drop 1)
        ((s.capsAnswered x (block.drop 1)).link x).good)
    refine ⟨_, hexec, ?_, ?_, ?_, ?_, ?_⟩
    · rw [State.pfState_keep, hactive]
    · rw [State.rd_keep, hwidth, hlink, hceil, uAt_drop]
    · rw [link_congr (State.keep_pf ..), hfrozen]
    · rw [link_congr (State.keep_pf ..), hdropping]
    · rw [State.deadline_keep, hexchange]
  case answer =>
    intro s x block hruns hstate hcompatible hheld hlength hkind haccepted hnone
    obtain ⟨hlink, hceil, hrest, hregs, b, hout, hbytes, hbit⟩ := capsAnswered_spec s x (block.drop 1)
    have hexec := capsRx_accepted hruns hstate hcompatible hheld hlength hkind haccepted
    rw [if_neg] at hexec
    · refine ⟨_, hexec, ?_, ?_, ?_, ?_⟩
      · rw [State.pfState_keep, ← hstate]
        unfold State.pfState
        rw [State.rd_congr hregs]
      · rw [link_congr (State.keep_pf ..), hlink]
      · rw [State.keep_out]
        exact ⟨b, hout, hbytes, hbit⟩
      · rw [hrest]
        rfl
    · rw [hlink, hceil, uAt_drop, uAt_drop]
      rintro ⟨hack, htx, hrx⟩
      rcases hnone with hno | hno | hno
      · exact absurd (hack.symm.trans hno) (by decide)
      · exact absurd hno htx.ne'
      · exact absurd hno hrx.ne'
  case exchange =>
    intro s x hruns hstate hpassed
    exact guarded_pos s ⟨hruns, hstate, hpassed⟩
  case holdoff =>
    intro s x hruns hstate hreached
    obtain ⟨hafter, hnone, hincompatible, -⟩ := pfToDetect_spec s x (if (s.link x).incompatible then 5 else 4)
    refine ⟨_, guarded_pos s ⟨hruns, hstate, hreached⟩, ?_, ?_, ?_⟩
    · rw [State.pfState_keep, hafter]
    · rw [State.deadline_keep, hnone _ (by simp [bringUpTimers])]
    · rw [link_congr (State.keep_pf ..), hincompatible]

end Sys2Proof.Machine
end

section
/-! Flow contexts, refill ticks, samples and the frames of queues (R343 to R352, R359, R360, R370). -/

namespace Sys2Proof.Machine

set_option Elab.async false

variable {s t : State}

/-! ### Flow contexts (R343, R349, R350) -/

/-- A find by a key finds the entry of a map that keeps the keys. -/
theorem find_map {α : Type} {P : α → Bool} {f : α → α} (hf : ∀ x, P (f x) = P x) (l : List α) :
    (l.map f).find? P = (l.find? P).map f := by
  rw [List.find?_map]
  exact congrArg (fun Q => (l.find? Q).map f) (funext hf)

theorem cached_flow {f : Nat} {l : CacheLine} (h : s.cached f = some l) : l.flow = f := by
  unfold State.cached at h
  exact beq_iff_eq.mp (List.find?_some (p := fun l : CacheLine => l.flow == f) h)

theorem cached_congr (h : t.qm.cache = s.qm.cache) (f : Nat) : t.cached f = s.cached f := by
  unfold State.cached
  rw [h]

theorem flowState_congr (hcache : t.qm.cache = s.qm.cache) (hblobs : t.blobs = s.blobs) (f : Nat) :
    t.flowState f = s.flowState f := by
  unfold State.flowState
  rw [cached_congr hcache, State.rdB_congr hblobs]

/-- A flow's state part, once set, is what it reads; the context is the only thing that changes. -/
theorem setFlowState_spec (s : State) (f : Nat) (b : Bytes) : (b ≠ [] → (s.setFlowState f b).flowState f = b)
    ∧ s.setFlowState f b = { s with blobs := (s.setFlowState f b).blobs, qm := (s.setFlowState f b).qm }
    ∧ (s.setFlowState f b).qm = { s.qm with cache := (s.setFlowState f b).qm.cache } := by
  unfold State.setFlowState
  cases h : s.cached f with
  | none =>
    refine ⟨fun hb => ?_, rfl, rfl⟩
    dsimp only
    unfold State.flowState
    rw [cached_congr (show _ = s.qm.cache by rw [State.wrB_qm]), h]
    exact State.rdB_wrB_self _ _ _ _ _ hb
  | some l =>
    refine ⟨fun _ => ?_, rfl, rfl⟩
    dsimp only
    unfold State.flowState State.cached
    rw [State.setQm_qm, find_map fun x => ?_]
    · have hfound : s.qm.cache.find? (fun l => l.flow == f) = some l := h
      rw [hfound, Option.map_some, if_pos (cached_flow h)]
    · split
      · rfl
      · rfl

theorem rdB_setFlowState (s : State) (f : Nat) (b : Bytes) {q : Obj} {i j : Nat} (h : q.key i j ≠ Reg.FLOW_state.key 0 f) :
    (s.setFlowState f b).rdB q i j = s.rdB q i j := by
  unfold State.setFlowState
  split
  · rfl
  · exact State.rdB_wrB_other _ _ h

/-- A context used is the one cached. -/
theorem cached_useLine (s : State) (l : CacheLine) : (s.useLine l).cached l.flow = some l :=
  List.find?_cons_of_pos (beq_self_eq_true l.flow)

/-- A context written back stays cached, and reads as it did. -/
theorem writeBack_spec {f : Nat} {l : CacheLine} (h : s.cached f = some l) (hstate : l.state ≠ []) :
    (s.writeBack l).rdB Reg.FLOW_state 0 f = l.state
    ∧ (s.writeBack l).cached f = some { l with modified := false, writtenBack := s.now }
    ∧ (s.writeBack l).flowState f = s.flowState f := by
  have hflow := cached_flow h
  have hcached : (s.writeBack l).cached f = some { l with modified := false, writtenBack := s.now } := by
    have hfound : s.qm.cache.find? (fun l => l.flow == f) = some l := h
    unfold State.writeBack State.cached
    rw [State.setQm_qm, find_map fun x => ?_]
    · rw [State.wrB_qm, hfound, Option.map_some, if_pos rfl]
      rfl
    · split
      · rfl
      · rfl
  refine ⟨?_, hcached, ?_⟩
  · unfold State.writeBack
    rw [State.rdB_setQm, hflow, State.rdB_wrB_self _ _ _ _ _ hstate]
  · unfold State.flowState
    rw [hcached, h]

/-- A context that is filled: another of its set may give way, and it comes into the cache as memory holds it. -/
theorem fill_spec (s : State) (f : Nat) : (s.fill f).cached f = some ⟨f, false, s.now, (s.fill f).rdB Reg.FLOW_state 0 f⟩
    ∧ s.fill f = { s with blobs := (s.fill f).blobs, qm := (s.fill f).qm }
    ∧ (s.fill f).qm = { s.qm with cache := (s.fill f).qm.cache } := by
  have hused (t : State) (hnow : t.now = s.now) (hrest : t = { s with blobs := t.blobs, qm := t.qm })
      (hqm : t.qm = { s.qm with cache := t.qm.cache }) :
      let u := t.useLine { flow := f, modified := false, writtenBack := t.now, state := t.rdB Reg.FLOW_state 0 f }
      u.cached f = some ⟨f, false, s.now, u.rdB Reg.FLOW_state 0 f⟩ ∧ u = { s with blobs := u.blobs, qm := u.qm }
        ∧ u.qm = { s.qm with cache := u.qm.cache } := by
    refine ⟨?_, ?_, ?_⟩
    · rw [← hnow]
      exact cached_useLine ..
    · unfold State.useLine State.setQm
      rw [hrest]
    · unfold State.useLine
      rw [State.setQm_qm, hqm]
  unfold State.fill
  dsimp only
  split
  · exact hused s rfl rfl rfl
  · next l _ =>
    split
    · exact hused _ rfl rfl rfl
    · exact hused _ rfl rfl rfl

/-! ### The frames of a refill tick (R349, R352) -/

/-- What the engine holds besides flows, queues and FIFOs: its tick, the frames that reached it and those that wait, and
the hits of its cache. -/
def State.engine (s : State) : Nat × List (Waiter × Bool) × List Waiter × Int :=
  (s.qm.tick, s.qm.arrivals, s.qm.waiters, s.rd Reg.QM_CTL_CACHE_HITS)

theorem engine_congr (hqm : t.qm.tick = s.qm.tick ∧ t.qm.arrivals = s.qm.arrivals ∧ t.qm.waiters = s.qm.waiters)
    (hregs : t.regs = s.regs) : t.engine = s.engine := by
  obtain ⟨htick, harrivals, hwaiters⟩ := hqm
  unfold State.engine
  rw [htick, harrivals, hwaiters, State.rd_congr hregs]

theorem engine_wr (s : State) {o : Obj} {p e : Nat} (v : Int) (h : Reg.QM_CTL_CACHE_HITS.apart o = true) (hp : p < 32)
    (he : e < 1048576) : (s.wr o p e v).engine = s.engine := by
  unfold State.engine
  rw [State.wr_qm, State.rd_wr_other _ _ (Obj.key_ne h (by decide) (by decide) hp he)]

theorem engine_inc (s : State) {o : Obj} {p e : Nat} (n : Int) (h : Reg.QM_CTL_CACHE_HITS.apart o = true) (hp : p < 32)
    (he : e < 1048576) : (s.inc o p e n).engine = s.engine := engine_wr s _ h hp he

theorem engine_setFlowState (s : State) (f : Nat) (b : Bytes) : (s.setFlowState f b).engine = s.engine := by
  obtain ⟨-, hrest, hqm⟩ := setFlowState_spec s f b
  exact engine_congr (by rw [hqm]; exact ⟨rfl, rfl, rfl⟩) (by rw [hrest])

theorem engine_downDrop (s : State) (f : Nat) : (s.downDrop f).engine = s.engine := engine_setFlowState ..

theorem engine_upDrop (s : State) (f : Nat) : (s.upDrop f).engine = s.engine := engine_setFlowState ..

theorem engine_bumpFlow (s : State) (f i n k : Nat) : (s.bumpFlow f i n k).engine = s.engine := engine_setFlowState ..

theorem engine_useLine (s : State) (l : CacheLine) : (s.useLine l).engine = s.engine := rfl

theorem engine_sendNow (s : State) (x : Side) (p : Parcel) : (s.sendNow x p).engine = s.engine :=
  engine_congr (by rw [State.sendNow_qm]; exact ⟨rfl, rfl, rfl⟩) (State.sendNow_regs ..)

theorem engine_stall (s : State) (x : Side) (vc : Nat) : (s.stall x vc).engine = s.engine := by
  unfold State.stall
  split
  · rfl
  · rw [engine_inc _ _ (by decide) (side_small x) (by decide)]
    rfl

theorem engine_trySend (s : State) (x : Side) (p : Parcel) : (s.trySend x p).engine = s.engine := by
  unfold State.trySend
  dsimp only
  split
  · rfl
  · split
    · exact engine_sendNow ..
    · exact engine_stall ..

theorem engine_drainFifo (s : State) (x : Side) (vc : Nat) : (s.drainFifo x vc).engine = s.engine := by
  unfold State.drainFifo
  refine foldl_keeps State.engine (fun t f => ?_) _ s
  dsimp only
  split
  · rfl
  · split
    · exact engine_sendNow ..
    · exact engine_stall ..

theorem engine_drain (s : State) (x : Side) : (s.drain x).engine = s.engine := by
  unfold State.drain
  dsimp only
  split
  · rfl
  · rw [foldl_keeps State.engine fun t vc => engine_drainFifo t x vc, foldl_keeps State.engine fun t p => engine_trySend t x p]
    rfl

theorem engine_toHost (s : State) {vc : Nat} (hvc : vc < 4) (f : HostFrame) : (s.toHost vc f).engine = s.engine := by
  have hcount (t : State) (x : Side) : (t.inc (hbDropped x) vc).engine = t.engine := by
    cases x with
    | up => exact engine_inc t _ (by decide) (by omega) (by decide)
    | down => exact engine_inc t _ (by decide) (by omega) (by decide)
  unfold State.toHost
  dsimp only
  split
  · exact (hcount ..).trans (engine_upDrop ..)
  · rw [engine_drain]
    exact (engine_bumpFlow ..).trans (engine_bumpFlow ..)

theorem engine_meterFill (s : State) {m : Nat} (hm : m < 1048576) : (s.meterFill m).engine = s.engine := by
  unfold State.meterFill
  dsimp only
  have hticks (t : State) (l : List (Nat × Nat)) : (t.setQm fun m => { m with meterTick := l }).engine = t.engine := rfl
  rw [hticks, engine_wr _ _ (by decide) (by decide) hm, engine_wr _ _ (by decide) (by decide) hm]

theorem engine_meterFrame (s : State) {m : Nat} (hm : m < 1048576) (host : Bool) (pre length : Nat) :
    (s.meterFrame m host pre length).2.2.engine = s.engine := by
  have hcount (t : State) (col : Nat) :
      (t.inc (if col = 0 then Reg.METER_GREEN else if col = 1 then Reg.METER_YELLOW else Reg.METER_RED) 0 m).engine = t.engine := by
    split
    · exact engine_inc _ _ (by decide) (by decide) hm
    · split
      · exact engine_inc _ _ (by decide) (by decide) hm
      · exact engine_inc _ _ (by decide) (by decide) hm
  unfold State.meterFrame
  dsimp only
  rw [hcount]
  split
  · rw [engine_wr _ _ (by decide) (by decide) hm]
    split
    · exact engine_meterFill s hm
    · exact (engine_wr _ _ (by decide) (by decide) hm).trans (engine_meterFill s hm)
  · split
    · exact engine_meterFill s hm
    · exact (engine_wr _ _ (by decide) (by decide) hm).trans (engine_meterFill s hm)

theorem engine_setQueue (s : State) {q : Nat} (hq : q < 1048576) (l : List QFrame) : (s.setQueue q l).engine = s.engine := by
  unfold State.setQueue
  dsimp only
  split
  · exact (engine_wr _ _ (by decide) (by decide) hq).trans rfl
  · rfl

theorem engine_enqueue (s : State) {q : Nat} (hq : q < 1048576) (f : QFrame) : (s.enqueue q f).engine = s.engine := by
  unfold State.enqueue
  dsimp only
  split
  · exact (engine_inc _ _ (by decide) (by decide) hq).trans (engine_downDrop ..)
  · split
    · exact (engine_inc _ _ (by decide) (by decide) (by decide)).trans (engine_downDrop ..)
    · exact (engine_inc _ _ (by decide) (by decide) hq).trans ((engine_setQueue _ hq _).trans rfl)

theorem engine_downFrame (s : State) (f : Nat) (b : Bytes) : (s.downFrame f b).engine = s.engine := by
  have hqueue (c : Bytes) : fcQueue c < 1048576 := (fcQueue_lt c).trans (by decide)
  have hmeter (c : Bytes) : fcMeterDown c < 1048576 := (fcMeterDown_lt c).trans (by decide)
  unfold State.downFrame
  dsimp only
  split
  · exact engine_inc _ _ (by decide) (by decide) (by decide)
  · split
    · split
      · exact (engine_enqueue _ (hqueue _) _).trans (engine_meterFrame s (hmeter _) ..)
      · exact (engine_downDrop ..).trans (engine_meterFrame s (hmeter _) ..)
    · rw [if_pos rfl]
      exact engine_enqueue s (hqueue _) _

theorem engine_upFrame (s : State) (p : Port) (h : Header) (stamp : Stamp) (b : Bytes) : (s.upFrame p h stamp b).engine = s.engine := by
  have hmeter (c : Bytes) : fcMeterUp c < 1048576 := (fcMeterUp_lt c).trans (by decide)
  have hchannel (c : Bytes) : fcUpVc c < 4 := Nat.mod_lt _ (by decide)
  unfold State.upFrame
  dsimp only
  split
  · exact engine_inc _ _ (by decide) (by decide) (by decide)
  · split
    · exact (engine_inc _ _ (by decide) (by decide) (by decide)).trans (engine_upDrop ..)
    · split
      · exact (engine_inc _ _ (by decide) (by decide) (by decide)).trans (engine_upDrop ..)
      · split
        · split
          · exact (engine_toHost _ (hchannel _) _).trans ((engine_meterFrame _ (hmeter _) ..).trans (engine_setFlowState ..))
          · exact (engine_upDrop ..).trans ((engine_meterFrame _ (hmeter _) ..).trans (engine_setFlowState ..))
        · rw [if_pos rfl]
          exact (engine_toHost _ (hchannel _) _).trans (engine_setFlowState ..)

theorem engine_runWaiter (s : State) (w : Waiter) : (s.runWaiter w).engine = s.engine := by
  cases w with
  | down f x stamp b => exact engine_downFrame ..
  | upFrame p h stamp b => exact engine_upFrame ..

/-- The frames taken leave the tick, and none arrives while they are. -/
theorem takeArrivals_spec (s : State) : s.takeArrivals.qm.tick = s.qm.tick ∧ s.takeArrivals.qm.arrivals = [] := by
  have hrun (t : State) (w : Waiter) : ((t.runWaiter w).qm.tick, (t.runWaiter w).qm.arrivals) = (t.qm.tick, t.qm.arrivals) :=
    congrArg (fun x => (x.1, x.2.1)) (engine_runWaiter t w)
  have htaken : (s.takeArrivals.qm.tick, s.takeArrivals.qm.arrivals) = (s.qm.tick, []) := by
    unfold State.takeArrivals
    refine Eq.trans (foldl_keeps (fun t : State => (t.qm.tick, t.qm.arrivals)) (fun t x => ?_) _ _) rfl
    split
    · exact hrun ..
    · unfold State.toFlow
      split
      · exact (hrun ..).trans rfl
      · rfl
  exact ⟨congrArg Prod.fst htaken, congrArg Prod.snd htaken⟩

/-- The credits that move at a tick are the only numbers that change. -/
theorem shaped_spec (l : List Nat) (hl : ∀ q ∈ l, q < 4096) (s : State) :
    s.ReadsBut [Reg.SHAPER_credit] (l.foldl State.shape s)
    ∧ l.foldl State.shape s = { s with regs := (l.foldl State.shape s).regs } := by
  refine ⟨.foldl l (fun t q hq => (State.ReadsBut.refl t).wr _ (by decide) (by decide) ((hl q hq).trans (by decide))) s, ?_⟩
  clear hl
  induction l generalizing s with
  | nil => rfl
  | cons q l ih =>
    rw [List.foldl_cons, ih]
    rfl

/-- What a refill tick leaves: the frames taken, the tick counted, the credits moved. -/
theorem refillTick_spec {s : State} (hruns : s.queuesRun = true) (htick : s.qm.tickAt < (s.time.mono / 8000).toNat) :
    ∃ t, exec .refillTick s = .next t ∧ t.qm = { s.takeArrivals.qm with
        tick := s.qm.tick + 1, tickAt := (s.time.mono / 8000).toNat }
      ∧ s.takeArrivals.ReadsBut [Reg.SHAPER_credit] t ∧ t.ports = s.takeArrivals.ports ∧ t.out = s.takeArrivals.out
      ∧ t.blobs = s.takeArrivals.blobs ∧ t.time = s.time := by
  obtain ⟨htaken, -⟩ := takeArrivals_spec s
  have htime := State.time_of_shaperView s.shaperView_takeArrivals
  obtain ⟨hreads, hrest⟩ := shaped_spec s.tickTaken.shaped (fun q hq => (State.mem_shaped.mp hq).1) s.tickTaken
  refine ⟨_, exec_refillTick hruns htick, ?_, ?_, ?_, ?_, ?_, ?_⟩
  · rw [State.keep_qm, hrest]
    unfold State.tickTaken
    rw [State.setIz_qm, State.setQm_qm, htaken]
  · refine .then_regs (.trans (.of_regs ?_) hreads) (State.keep_regs ..)
    rfl
  · rw [State.keep_ports, hrest]
    rfl
  · rw [State.keep_out, hrest]
    rfl
  · rw [State.keep_blobs, hrest]
    rfl
  · rw [State.keep_time, hrest, ← htime]
    rfl

/-- One frame that arrived is taken alone. -/
theorem takeArrivals_single {w : Waiter} (h : s.qm.arrivals = [(w, false)]) :
    s.takeArrivals = (s.setQm fun m => { m with arrivals := [] }).toFlow w := by
  unfold State.takeArrivals
  rw [h, List.mergeSort_singleton]
  rfl

/-! ### Heads and flushes (R359, R360) -/

theorem downDrop_spec (s : State) (f : Nat) :
    s.downDrop f = { s with blobs := (s.downDrop f).blobs, qm := (s.downDrop f).qm }
    ∧ (s.downDrop f).qm = { s.qm with cache := (s.downDrop f).qm.cache } :=
  ⟨(setFlowState_spec ..).2.1, (setFlowState_spec ..).2.2⟩

theorem headChecks_single {q : Nat} {f : QFrame} (h : s.queue q = [f]) : s.headChecks q = s.headCheck q := by
  unfold State.headChecks
  rw [h]
  show (if (s.queue q).head? = some f then s.headCheck q else s) = s.headCheck q
  rw [if_pos (by rw [h]; rfl)]

/-- The only frame of a queue is dropped: its buffer is free, and one count goes up. -/
theorem dropHead_spec {q : Nat} {f : QFrame} {o : Obj} (hq : q < 1048576) (h : s.queue q = [f])
    (ho : o.apart Reg.QUEUE_deficit = true) : let t := s.dropHead q f (·.inc o 0 q)
    t.queue q = [] ∧ t.rd o 0 q = (s.rd o 0 q + 1) % 18446744073709551616 ∧ t.qm.buffersUsed = s.qm.buffersUsed - 1
      ∧ t = { s with regs := t.regs, blobs := t.blobs, qm := t.qm } := by
  obtain ⟨u, hu⟩ : ∃ u, u = (s.setQueue q []).freeBuffers 1 := ⟨_, rfl⟩
  have hdrop : s.dropHead q f (·.inc o 0 q) = (u.downDrop f.flow).inc o 0 q := by
    unfold State.dropHead
    rw [h, hu]
    rfl
  have hurest : u = { s with regs := u.regs, qm := u.qm } := by
    rw [hu]
    rfl
  have huqueue : u.queue q = [] := by
    rw [hu]
    show Store.get [] (Store.put [] s.qm.queues q []) q = []
    exact Store.get_put_same ..
  have hubuffers : u.qm.buffersUsed = s.qm.buffersUsed - 1 := by
    rw [hu]
    rfl
  have huread : u.rd o 0 q = s.rd o 0 q := by
    rw [hu]
    exact State.rd_wr_other (s.setQm fun m => { m with queues := Store.put [] s.qm.queues q [] }) 0
      (Obj.key_ne ho (by decide) hq (by decide) hq)
  obtain ⟨hrest, hqm⟩ := downDrop_spec u f.flow
  dsimp only
  rw [hdrop]
  refine ⟨?_, ?_, ?_, ?_⟩
  · rw [queue_congr (State.inc_qm ..), downDrop_queue, huqueue]
  · rw [State.rd_inc_self, State.rd_congr (State.downDrop_regs ..), huread]
  · rw [State.inc_qm, hqm, hubuffers]
  · unfold State.inc State.wr
    rw [hrest, hurest]

/-- A queue that is flushed is empty, and each of its frames is counted and its buffer free. -/
theorem flushQueue_spec (s : State) {q : Nat} (hq : q < 1048576) : (s.flushQueue q).queue q = []
    ∧ (s.flushQueue q).rd Reg.QUEUE_FLUSHED 0 q
      = (s.rd Reg.QUEUE_FLUSHED 0 q + (s.queue q).length) % 18446744073709551616
    ∧ (s.flushQueue q).qm.buffersUsed = s.qm.buffersUsed - (s.queue q).length
    ∧ s.flushQueue q = { s with
        regs := (s.flushQueue q).regs, blobs := (s.flushQueue q).blobs, qm := (s.flushQueue q).qm } := by
  have hdrops (l : List QFrame) (t : State) :
      let u := l.foldl (fun t f => t.downDrop f.flow) t
      u = { t with blobs := u.blobs, qm := u.qm } ∧ u.qm = { t.qm with cache := u.qm.cache } := by
    induction l generalizing t with
    | nil => exact ⟨rfl, rfl⟩
    | cons f l ih =>
      obtain ⟨hrest, hqm⟩ := ih (t.downDrop f.flow)
      obtain ⟨hrest', hqm'⟩ := downDrop_spec t f.flow
      dsimp only at hrest hqm ⊢
      rw [List.foldl_cons]
      constructor
      · rw [hrest, hrest']
      · rw [hqm, hqm']
  obtain ⟨hrest, hqm⟩ := hdrops (s.queue q) s
  obtain ⟨u, hu⟩ : ∃ u, u = (s.queue q).foldl (fun t f => t.downDrop f.flow) s := ⟨_, rfl⟩
  dsimp only at hrest hqm
  rw [← hu] at hrest hqm
  have hflush : s.flushQueue q = ((u.setQueue q []).freeBuffers (s.queue q).length).inc Reg.QUEUE_FLUSHED 0 q (s.queue q).length := by
    rw [hu]
    rfl
  rw [hflush]
  refine ⟨?_, ?_, ?_, ?_⟩
  · rw [← hflush]
    exact flushQueue_queue s q q (.inl rfl)
  · rw [State.rd_inc_self, State.rd_congr (State.freeBuffers_regs ..)]
    unfold State.setQueue
    dsimp only
    rw [if_pos rfl, State.rd_wr_other _ _ (Obj.key_ne (by decide) (by decide) hq (by decide) hq), State.rd_setQm,
      State.rd_congr (show u.regs = s.regs by rw [hrest])]
  · show u.qm.buffersUsed - (s.queue q).length = _
    rw [hqm]
  · unfold State.inc State.freeBuffers State.setQueue State.wr State.setQm
    rw [hrest]
    rfl

theorem commitDone_blobs (s : State) : s.commitDone.blobs = s.blobs := by
  unfold State.commitDone
  split
  · rfl
  · split
    · rfl
    · exact foldl_keeps State.blobs (by exact fun _ _ => rfl) _ _

theorem runs_of_queuesRun (h : s.queuesRun = true) : s.runs = true := by
  unfold State.queuesRun at h
  exact (Bool.and_eq_true_iff.mp h).1

theorem happens_mode (s : State) (code detail : Nat) (at' : Stamp) : (s.happens code detail at').power.mode = s.power.mode := by
  unfold State.happens
  extract_lets first
  split
  · rfl
  · rfl

/-- A parcel on the host side does not stop the queue manager. -/
theorem queuesRun_hostParcel (s : State) (x : Side) (type : Nat) : (s.hostParcel x type).queuesRun = s.queuesRun := by
  have hmode : (s.hostParcel x type).power.mode = s.power.mode := by
    unfold State.hostParcel
    split
    · exact happens_mode ..
    · rfl
  have hrst : (s.hostParcel x type).rst = s.rst := by
    obtain ⟨f, hf⟩ := s.hostParcel_eq_setPower x type
    rw [hf, State.setPower_rst]
  unfold State.queuesRun State.runs State.live State.awake
  rw [hmode, hrst, State.rd_hostParcel]

/-! ### The obligation -/

/-- Settles O34, over every state: what the frames of a tick leave of the engine carries the clauses of REFILL_TICK. -/
theorem queuesAndFlowsComplete : Obligations.QueuesAndFlowsComplete := by
  unfold Obligations.QueuesAndFlowsComplete
  refine ⟨?control, ?fill, ?back, ?tick, ?miss, ?hit, ?clear, ?malformed, ?reaches, ?aged, ?unreached, ?flush⟩
  case control =>
    intro s flow b hruns hflow hb hwrite
    obtain ⟨u, hu⟩ : ∃ u, u = (s.setQm fun m => { m with flowWrites := s.qm.flowWrites.filter fun x => x.1 ≠ flow }).wrB
      Reg.FLOW_control 0 flow b := ⟨_, rfl⟩
    obtain ⟨v, hv⟩ : ∃ v, v = if (!fcValid (s.rdB Reg.FLOW_control 0 flow) && fcValid b) = true
      then u.setFlowState flow (List.replicate 48 0) else u := ⟨_, rfl⟩
    have hexec : exec (.flowControlWrite flow) s = .next (v.commitDone.keep s) := by
      have hunfold : exec (.flowControlWrite flow) s = execFlowControlWrite flow s := rfl
      rw [hunfold, execFlowControlWrite, hwrite]
      dsimp only
      rw [guarded_pos s hruns, hv, hu]
    obtain ⟨hset, -, hsetqm⟩ := setFlowState_spec u flow (List.replicate 48 0)
    obtain ⟨-, -, -, hqm, -⟩ := commitDone_spec v
    have hblobs := commitDone_blobs v
    have hucontrol : u.rdB Reg.FLOW_control 0 flow = b := by
      rw [hu, State.rdB_wrB_self _ _ _ _ _ hb]
    have hkeys : Reg.FLOW_control.key 0 flow ≠ Reg.FLOW_state.key 0 flow :=
      Obj.key_ne (by decide) (by decide) hflow (by decide) hflow
    have hustate : u.flowState flow = s.flowState flow := by
      unfold State.flowState
      rw [cached_congr (show u.qm.cache = s.qm.cache by rw [hu]; rfl), hu, State.rdB_wrB_other _ _ hkeys.symm, State.rdB_setQm]
    have huwrites : u.qm.flowWrites = s.qm.flowWrites.filter fun x => x.1 ≠ flow := by
      rw [hu]
      rfl
    have hvcontrol : v.rdB Reg.FLOW_control 0 flow = b := by
      rw [hv]
      split
      · rw [rdB_setFlowState _ _ _ hkeys, hucontrol]
      · exact hucontrol
    have hvwrites : v.qm.flowWrites = s.qm.flowWrites.filter fun x => x.1 ≠ flow := by
      rw [hv]
      split
      · rw [hsetqm, huwrites]
      · exact huwrites
    have hafter : (v.commitDone.keep s).flowState flow = v.flowState flow :=
      flowState_congr (by rw [State.keep_qm, hqm]) (by rw [State.keep_blobs, hblobs]) flow
    refine ⟨_, hexec, ?_, ?_, fun hinvalid hvalid => ?_, fun hsame => ?_⟩
    · rw [State.rdB_keep, State.rdB_congr hblobs, hvcontrol]
    · rw [State.keep_qm, hqm, hvwrites]
      intro w hw
      exact of_decide_eq_true (List.mem_filter.mp hw).2
    · rw [hafter, hv, if_pos (by rw [hinvalid, hvalid]; rfl)]
      exact hset (by decide)
    · rw [hafter, hv, if_neg, hustate]
      obtain h | h := hsame
      · rw [h]
        exact Bool.noConfusion
      · rw [h, Bool.and_false]
        exact Bool.noConfusion
  case fill =>
    intro s flow hruns hslot hwaits
    obtain ⟨u, hu⟩ : ∃ u, u = s.setQm fun m => { m with
      waiters := s.qm.waiters.filter fun w => w.flow != flow
      arrivals := s.qm.arrivals ++ (s.qm.waiters.filter fun w => w.flow == flow).map fun w => (w, true) } := ⟨_, rfl⟩
    have hexec : exec (.flowCacheFill flow) s = .next ((u.fill flow).keep s) := by
      obtain ⟨w, hw, hmine⟩ := hwaits
      rw [hu]
      exact guarded_pos s ⟨hruns, hslot, List.any_eq_true.mpr ⟨w, hw, beq_iff_eq.mpr hmine⟩⟩
    obtain ⟨hcached, hrest, hqm⟩ := fill_spec u flow
    have hurest : u = { s with qm := u.qm } := by rw [hu]; rfl
    have hunow : u.now = s.now := by rw [hu]; rfl
    refine ⟨_, hexec, ?_, ?_, ?_, ?_⟩
    · rw [State.keep_qm, hqm, hu]
      rfl
    · rw [State.keep_qm, hqm, hu]
      rfl
    · rw [cached_congr (show _ = (u.fill flow).qm.cache by rw [State.keep_qm]), hcached, hunow, State.rdB_keep]
    · rw [hrest, hurest]
      rfl
  case back =>
    intro s flow l hruns hslot hcached hmodified hdue hstate
    have hexec : exec (.flowWriteback flow) s = .next ((s.writeBack l).keep s) := by
      have hunfold : exec (.flowWriteback flow) s = execFlowWriteback flow s := rfl
      rw [hunfold, execFlowWriteback, hcached]
      exact guarded_pos s ⟨hruns, hslot, hmodified, hdue⟩
    obtain ⟨hread, hafter, hsame⟩ := writeBack_spec hcached hstate
    refine ⟨_, hexec, ?_, ?_, ?_, rfl⟩
    · rw [State.rdB_keep, hread]
    · exact hafter
    · exact hsame
  case tick =>
    intro s hruns htick
    obtain ⟨-, harrivals⟩ := takeArrivals_spec s
    obtain ⟨t, hexec, hqm, -, hports, hout, hblobs, htime⟩ := refillTick_spec hruns htick
    refine ⟨t, hexec, ?_, ?_, ?_, ?_, hports, hout, hblobs, htime⟩
    · rw [hqm]
    · rw [hqm]
    · rw [hqm, harrivals]
    · rw [hqm]
  case miss =>
    intro s w hruns htick harrived hmissing
    obtain ⟨t, hexec, hqm, hreads, -⟩ := refillTick_spec hruns htick
    have htaken : s.takeArrivals = ((s.setQm fun m => { m with arrivals := [] }).inc Reg.QM_CTL_CACHE_MISSES).setQm fun m =>
        { m with waiters := m.waiters ++ [w] } := by
      rw [takeArrivals_single harrived, State.toFlow, cached_congr (s := s) (t := s.setQm fun m => { m with arrivals := [] }) rfl, hmissing]
      rfl
    refine ⟨t, hexec, ?_, ?_⟩
    · rw [hqm, htaken]
      rfl
    · rw [hreads.rd (by decide) (by decide) (by decide), htaken, State.rd_setQm, State.rd_inc_self, State.rd_setQm]
  case hit =>
    intro s w l hruns htick harrived hcached
    obtain ⟨t, hexec, hqm, hreads, -⟩ := refillTick_spec hruns htick
    obtain ⟨u, hu⟩ : ∃ u, u = ((s.setQm fun m => { m with arrivals := [] }).inc Reg.QM_CTL_CACHE_HITS).useLine l := ⟨_, rfl⟩
    have htaken : s.takeArrivals = u.runWaiter w := by
      rw [takeArrivals_single harrived, State.toFlow, cached_congr (s := s) (t := s.setQm fun m => { m with arrivals := [] }) rfl, hcached, hu]
    have hengine := engine_runWaiter u w
    rw [← htaken] at hengine
    have hwaiters : s.takeArrivals.qm.waiters = u.qm.waiters := congrArg (fun x => x.2.2.1) hengine
    have hhits : s.takeArrivals.rd Reg.QM_CTL_CACHE_HITS = u.rd Reg.QM_CTL_CACHE_HITS := congrArg (fun x => x.2.2.2) hengine
    refine ⟨t, hexec, ?_, ?_, ?_⟩
    · rw [hqm]
      show s.takeArrivals.qm.waiters = _
      rw [hwaiters, hu]
      rfl
    · rw [hreads.rd (by decide) (by decide) (by decide), hhits, hu]
      exact State.rd_inc_self (s.setQm fun m => { m with arrivals := [] }) ..
    · rw [hqm, ← hu, ← htaken]
  case clear =>
    intro s hruns hasked hidle
    exact guarded_pos s ⟨hruns, hasked, by rw [hidle]; rfl⟩
  case malformed =>
    intro s x b hruns hbad
    refine ⟨?_, by rw [State.inc_qm, State.hostParcel_qm]⟩
    have hunfold : exec (.dataParcelDown x b) s = execDataParcelDown x b s := rfl
    rw [hunfold, execDataParcelDown, guarded_pos s (runs_of_queuesRun hruns)]
    dsimp only
    rw [queuesRun_hostParcel, hruns, if_neg (by decide), if_pos hbad, State.keep_inc_hostParcel]
  case reaches =>
    intro s x b hruns hshort hlong hpriority
    have hunfold : exec (.dataParcelDown x b) s = execDataParcelDown x b s := rfl
    rw [hunfold, execDataParcelDown, guarded_pos s (runs_of_queuesRun hruns)]
    dsimp only
    rw [queuesRun_hostParcel, hruns, if_neg (by decide), if_neg (by omega), State.toEngine, State.hostParcel_qm]
    obtain ⟨f, hf⟩ := s.hostParcel_eq_setPower x 1
    rw [hf]
    rfl
  case aged =>
    intro s q f hruns hq hqueue hage hbegun hold
    have hexec : exec (.queueHeadCheck q) s = .next ((s.dropHead q f (·.inc Reg.QUEUE_AGED 0 q)).keep s) := by
      refine (guarded_pos s ⟨hruns, hq⟩).trans ?_
      rw [headChecks_single hqueue, State.headCheck, hqueue]
      dsimp only
      rw [if_pos ⟨hage, by rw [hbegun]; rfl, hold⟩]
    obtain ⟨hempty, hcount, hbuffers, hrest⟩ := dropHead_spec (o := Reg.QUEUE_AGED) (hq.trans (by decide)) hqueue (by decide)
    refine ⟨_, hexec, ?_, ?_, ?_, ?_⟩
    · rw [queue_congr (State.keep_qm ..), hempty]
    · rw [State.rd_keep, hcount]
    · rw [State.keep_qm, hbuffers]
    · rw [hrest]
      rfl
  case unreached =>
    intro s q f hruns hq hqueue hyoung hunreachable
    have hexec : exec (.queueHeadCheck q) s = .next ((s.dropHead q f (·.inc Reg.QUEUE_UNREACHABLE 0 q)).keep s) := by
      refine (guarded_pos s ⟨hruns, hq⟩).trans ?_
      rw [headChecks_single hqueue, State.headCheck, hqueue]
      dsimp only
      rw [if_neg, if_pos hunreachable]
      rintro ⟨hage, hbegun, hold⟩
      obtain h | h | h := hyoung
      · rw [h] at hbegun
        exact absurd hbegun (by decide)
      · exact hage h
      · exact absurd hold (not_lt.mpr h)
    obtain ⟨hempty, hcount, hbuffers, hrest⟩ :=
      dropHead_spec (o := Reg.QUEUE_UNREACHABLE) (hq.trans (by decide)) hqueue (by decide)
    refine ⟨_, hexec, ?_, ?_, ?_, ?_⟩
    · rw [queue_congr (State.keep_qm ..), hempty]
    · rw [State.rd_keep, hcount]
    · rw [State.keep_qm, hbuffers]
    · rw [hrest]
      rfl
  case flush =>
    intro s q hruns hq hasked
    have hexec : exec (.queueFlush q) s = .next (((s.flushQueue q).wr Reg.QUEUE_flush 0 q 0).keep s) := by
      refine guarded_pos s ⟨hruns, hq, hasked.imp_right fun h => ?_⟩
      rw [h]
      rfl
    have hq' : q < 1048576 := hq.trans (by decide)
    obtain ⟨hempty, hcount, hbuffers, hrest⟩ := flushQueue_spec s hq'
    refine ⟨_, hexec, ?_, ?_, ?_, ?_, ?_⟩
    · rw [queue_congr (State.keep_qm ..), queue_congr (State.wr_qm ..), hempty]
    · rw [State.rd_keep, State.rd_wr_self]
    · rw [State.rd_keep, State.rd_wr_other _ _ (Obj.key_ne (by decide) (by decide) hq' (by decide) hq'), hcount]
    · rw [State.keep_qm, State.wr_qm, hbuffers]
    · unfold State.wr
      rw [hrest]
      rfl

end Sys2Proof.Machine
end

section
/-! A station that is registered (R121 to R125, R133, R139 to R146, R191, R217 to R222, R237, R249, R250). -/

namespace Sys2Proof.Machine

set_option Elab.async false

variable {s : State} {x : Stn} {u : Nat}

theorem stn_keep (s t : State) (u : Nat) : (t.keep s).stn u = t.stn u := rfl

/-! ### Sending (R217, R238) -/

/-- Corrections change the timing advance and the level (R238). -/
theorem adjusted_eq (x : Stn) (target : Stamp) : x.adjusted target = { x with
    adjust := (x.adjusted target).adjust, ta := (x.adjusted target).ta, level := (x.adjusted target).level } := by
  have hfold (l : List (Stamp × Int × Int)) (y : Stn) (hy : y = { x with adjust := y.adjust, ta := y.ta, level := y.level }) :
      let z := l.foldl (fun (x : Stn) a => { x with
        ta := clamp 0 x.band.maxTa (x.ta + a.2.1), level := clamp (-400) x.maxLevel (x.level + a.2.2) }) y
      z = { x with adjust := z.adjust, ta := z.ta, level := z.level } := by
    induction l generalizing y with
    | nil => exact hy
    | cons a l ih =>
      refine ih _ ?_
      rw [hy]
  exact hfold _ _ rfl

/-- Protection takes a packet number of the station's associations (R142). -/
theorem protect_eq (x : Stn) (h : Header) (plain : Bytes) :
    (x.protect h plain).2 = { x with assocs := (x.protect h plain).2.assocs } := by
  unfold Stn.protect
  split
  · rfl
  · rfl

theorem protect_congr {x y : Stn} (h : y.assocs = x.assocs) (g : Header) (plain : Bytes) :
    (y.protect g plain).1 = (x.protect g plain).1 := by
  unfold Stn.protect
  rw [h]
  split
  · rfl
  · rfl

/-- What a frame of a station is, and what sending it changes. -/
theorem sendStation_spec (s : State) (u : Nat) (mask : Option Nat) (h : Header) (plain : Bytes) (start : Stamp) (level : Int) :
    let t := s.sendStation u mask h plain start level
    (∃ f, t.out = .stationFrame u f :: s.out ∧ f.start = start ∧ f.long = mask.isNone ∧ f.allot = mask.getD (2 ^ 64 - 1)
      ∧ f.level = level ∧ f.header = { h with seed := f.header.seed, length := plain.length + securityBytes h.sa }
      ∧ (h.sa = 0 → f.payload = plain) ∧ (h.sa ≠ 0 → f.payload = ((s.stn u).protect f.header plain).1))
    ∧ t.stn u = { s.stn u with sends := (t.stn u).sends, assocs := (t.stn u).assocs }
    ∧ t = { s with stations := t.stations, out := t.out, freeCount := t.freeCount } := by
  have hseed : s.seed.2.stn u = s.stn u := rfl
  unfold State.sendStation
  dsimp only
  by_cases hsa : h.sa = 0
  · rw [if_pos hsa]
    refine ⟨⟨_, rfl, rfl, rfl, rfl, rfl, rfl, fun _ => rfl, fun hne => absurd hsa hne⟩, ?_, rfl⟩
    rw [State.stn_setStn_self]
    rfl
  · rw [if_neg hsa]
    refine ⟨⟨_, rfl, rfl, rfl, rfl, rfl, rfl, fun hz => absurd hz hsa, fun _ => rfl⟩, ?_, rfl⟩
    rw [State.stn_setStn_self, protect_eq, hseed]

/-- The clock reading at which the estimate reads what it reads now. -/
theorem reading_now {a : Stamp × Stamp} (h : x.anchor = some a) (now : Stamp) : x.reading (a.1 + (now - a.2)) = now := by
  unfold Stn.reading
  rw [h]
  show (a.2 + (a.1 + (now - a.2) - a.1) : Int) = now
  ring

/-- A composed frame takes its SEQ, its place in its set and a response: the grants stay (R112, R137). -/
theorem compose_grants {h h' : Header} {body plain : Bytes} {y : Stn} (hcompose : x.compose h body = some (h', plain, y)) :
    y.grants = x.grants := by
  unfold Stn.compose at hcompose
  extract_lets sets seq send at hcompose
  have hsend (sa : Nat) (p : Bytes) (z : Stn) (h : send sa p z = some (h', plain, y)) : y.grants = z.grants := by
    unfold send at h
    extract_lets n g at h
    split at h
    · exact absurd h.symm (Option.some_ne_none _)
    · split at h
      · obtain ⟨-, -, rfl⟩ := Option.some.inj h
        rfl
      · split at h
        · exact absurd h.symm (Option.some_ne_none _)
        · split at h
          · exact absurd h.symm (Option.some_ne_none _)
          · obtain ⟨-, -, rfl⟩ := Option.some.inj h
            rfl
  split at hcompose
  · exact absurd hcompose.symm (Option.some_ne_none _)
  · split at hcompose
    · exact hsend _ _ _ hcompose
    · split at hcompose
      · exact absurd hcompose.symm (Option.some_ne_none _)
      · extract_lets whole at hcompose
        split at hcompose
        · exact absurd hcompose.symm (Option.some_ne_none _)
        · exact (hsend _ _ _ hcompose).trans rfl

/-! ### Access slots (R221, R222) -/

theorem slotLength_pos (b : Band) : 0 < slotLength b := by
  have hair : 0 ≤ airLong b 0 22 := Int.natCast_nonneg _
  unfold slotLength
  omega

theorem free_lt (s : State) {n : Nat} (h : 0 < n) : (s.free n).1 < n := by
  unfold State.free
  dsimp only
  rw [if_neg h.ne']
  exact Nat.mod_lt _ h

/-- A slot is drawn among those that the frame fits, when each of them keeps the class and the silence of R218 and R134. -/
theorem drawSlot_spec {w len air : Stamp} (hahead : s.time.mono ≤ x.reading (x.startFor w)) (hunused : w ∉ x.usedWindows)
    (hair : air + 500000 ≤ len) (hlen : slotLength x.band ≤ len)
    (hslots : ∀ k : Nat, k ∈ List.range (len / slotLength x.band).toNat →
      x.slotted (x.startFor (w + k * slotLength x.band)) = true
      ∧ x.silent (x.reading (x.startFor (w + k * slotLength x.band)))
          (x.reading (x.startFor (w + k * slotLength x.band)) + air) = true) :
    ∃ k : Nat, k ∈ List.range (len / slotLength x.band).toNat ∧ ∃ t, s.drawSlot x w len air = (some (w + k * slotLength x.band), t)
      ∧ (k : Int) * slotLength x.band + air + 500000 ≤ len ∧ t = { s with freeCount := t.freeCount } := by
  obtain ⟨slots, hs⟩ : ∃ l : List Nat, l = (List.range (len / slotLength x.band).toNat).filter fun (k : Nat) =>
    decide ((k : Int) * slotLength x.band + air + 500000 ≤ len) := ⟨_, rfl⟩
  have hpos := slotLength_pos x.band
  have hone : 1 ≤ len / slotLength x.band := (Int.le_ediv_iff_mul_le hpos).mpr (by rw [one_mul]; exact hlen)
  have hcount : 0 < (len / slotLength x.band).toNat :=
    Int.lt_toNat.mpr (lt_of_lt_of_le Int.zero_lt_one hone)
  have hfirst : 0 ∈ slots := by
    rw [hs]
    refine List.mem_filter.mpr ⟨List.mem_range.mpr hcount, decide_eq_true ?_⟩
    rw [Int.natCast_zero, zero_mul, zero_add]
    exact hair
  have hlt := free_lt s (List.length_pos_of_mem hfirst)
  obtain ⟨k, hk⟩ : ∃ k, k = slots.getD (s.free slots.length).1 0 := ⟨_, rfl⟩
  have hmem : k ∈ slots := by
    rw [hk, List.getD_eq_getElem _ _ hlt]
    exact List.getElem_mem hlt
  rw [hs] at hmem
  obtain ⟨hrange, hfits⟩ := List.mem_filter.mp hmem
  obtain ⟨hslotted, hsilent⟩ := hslots k hrange
  refine ⟨k, hrange, (s.free slots.length).2, ?_, of_decide_eq_true hfits, rfl⟩
  unfold State.drawSlot
  dsimp only
  rw [← hs, if_neg, ← hk, hslotted, hsilent]
  · rfl
  · rintro (h | h | h)
    · exact absurd h (not_lt.mpr hahead)
    · exact hunused (List.contains_iff_mem.mp h)
    · rw [h] at hfirst
      exact absurd hfirst List.not_mem_nil

/-! ### Receiving (R121, R138, R143, R144) -/

/-- What receiving changes at most: what the station is, but for its associations, and what leaves the block. -/
def State.Receives (u : Nat) (s t : State) : Prop :=
  (t.stn u).assocs = (s.stn u).assocs ∧ t = { s with stations := t.stations, out := t.out }

namespace State.Receives

variable {t v : State}

theorem refl (s : State) : s.Receives u s := ⟨rfl, rfl⟩

theorem trans (a : s.Receives u t) (b : t.Receives u v) : s.Receives u v := by
  obtain ⟨hassocs, hrest⟩ := a
  obtain ⟨hassocs', hrest'⟩ := b
  refine ⟨hassocs'.trans hassocs, ?_⟩
  rw [hrest'] 
  rw [hrest]

theorem setStn (s : State) {f : Stn → Stn} (h : ∀ x, (f x).assocs = x.assocs) : s.Receives u (s.setStn u f) :=
  ⟨by rw [State.stn_setStn_self, h], rfl⟩

theorem emit (s : State) (o : Out) : s.Receives u (s.emit o) := ⟨rfl, rfl⟩

end State.Receives

theorem toActive_assocs (x : Stn) : x.toActive.assocs = x.assocs := rfl

/-- A station that hears a frame and measures its SNR. -/
def Stn.heard (x : Stn) (clock : Stamp) (f : LineRx) : Stn :=
  let x := x.hear clock
  { (if (Header.ofWord f.word).dst = 255 then x else x.toActive) with
      dsSnr := (List.range 64).map fun g => BitVec.ofNat 8 (f.snr.getD g 255) }

/-- Hearing a frame touches the state of a station and its clock's readings only. -/
theorem heard_eq (x : Stn) (clock : Stamp) (f : LineRx) : x.heard clock f = { x with
    lastHeard := clock, refreshAt := (x.heard clock f).refreshAt, state := (x.heard clock f).state
    dsSnr := (List.range 64).map fun g => BitVec.ofNat 8 (f.snr.getD g 255) } := by
  unfold Stn.heard
  dsimp only
  split
  · rfl
  · rfl

theorem granted_assocs (x : Stn) (clock : Stamp) (b : Bytes) : (x.granted clock b).assocs = x.assocs := by
  unfold Stn.granted
  dsimp only
  split
  · rfl
  · rfl

theorem stationFragment_receives (s : State) (u : Nat) (h : Header) (plain : Bytes) :
    s.Receives u (s.stationFragment u h plain).2 := .setStn s (by exact fun _ => rfl)

/-- A whole frame completes at once; of the station only its reassemblies change (R138). -/
theorem stationFragment_whole (s : State) (u : Nat) {h : Header} (plain : Bytes) (hfrag : h.frag = 0) :
    ∃ g : Stn → List (Reasm × Stamp), s.stationFragment u h plain = (some plain, s.setStn u fun x => { x with reasm := g x }) := by
  unfold State.stationFragment reassemble
  dsimp only
  rw [if_pos hfrag]
  exact ⟨_, rfl⟩

theorem stationAnswer_receives (s : State) (u sa : Nat) (b : Bytes) : s.Receives u (s.stationAnswer u sa b) :=
  .setStn s (by exact fun _ => rfl)

/-- A frame that breaks no condition of R121, taken in. -/
theorem stationTake_formed {f : LineRx} {plain : Bytes}
    (h : ¬((Header.ofWord f.word).frag = 0 ∧ (!formatOk false (Header.ofWord f.word) plain) = true)) :
    s.stationTake u f plain = (let v := s.setStn u fun x => x.heard s.time.mono f
      if (Header.ofWord f.word).type = tyGrant then v.setStn u fun x => x.granted v.time.mono plain
      else match v.stationFragment u (Header.ofWord f.word) plain with
        | (some b, v) =>
          if (Header.ofWord f.word).type = tyData then v.emit (.stationData u (Header.ofWord f.word).dst (Header.ofWord f.word).tag b)
          else if mgmtFormat false b then v.stationAnswer u (Header.ofWord f.word).sa b else v
        | (none, v) => v) := if_neg h

/-- A frame taken in leaves a station's associations. -/
theorem stationTake_receives (s : State) (u : Nat) (f : LineRx) (plain : Bytes) : s.Receives u (s.stationTake u f plain) := by
  by_cases hbad : (Header.ofWord f.word).frag = 0 ∧ (!formatOk false (Header.ofWord f.word) plain) = true
  · unfold State.stationTake
    dsimp only
    rw [if_pos hbad]
    exact .refl s
  · rw [stationTake_formed hbad]
    dsimp only
    have hheard : s.Receives u (s.setStn u fun x => x.heard s.time.mono f) := .setStn s fun x => by rw [heard_eq]
    obtain ⟨v, hv⟩ : ∃ v, v = s.setStn u fun x => x.heard s.time.mono f := ⟨_, rfl⟩
    rw [← hv] at hheard ⊢
    refine hheard.trans ?_
    split
    · exact .setStn v fun x => granted_assocs ..
    · have hfragment := stationFragment_receives v u (Header.ofWord f.word) plain
      generalize v.stationFragment u (Header.ofWord f.word) plain = r at hfragment ⊢
      obtain ⟨_ | b, w⟩ := r
      · exact hfragment
      · refine State.Receives.trans hfragment ?_
        dsimp only
        split
        · exact .emit w _
        · split
          · exact stationAnswer_receives w ..
          · exact .refl w

/-- A whole MGMT request that is taken in is answered by the station that has heard it (R124, R251). -/
theorem stationTake_request {f : LineRx} {b : Bytes} (htype : (Header.ofWord f.word).type = tyMgmt)
    (hfrag : (Header.ofWord f.word).frag = 0) (hformat : formatOk false (Header.ofWord f.word) b = true)
    (hmgmt : mgmtFormat false b = true) : ∃ g : Stn → List (Reasm × Stamp),
      s.stationTake u f b = ((s.setStn u fun x => x.heard s.time.mono f).setStn u fun x => { x with reasm := g x }).stationAnswer u
        (Header.ofWord f.word).sa b := by
  obtain ⟨g, hg⟩ := stationFragment_whole (s.setStn u fun x => x.heard s.time.mono f) u b hfrag
  refine ⟨g, ?_⟩
  rw [stationTake_formed (by rw [hformat]; exact fun h => absurd h.2 (by decide))]
  dsimp only
  rw [if_neg (by rw [htype]; decide), hg]
  dsimp only
  rw [if_neg (by rw [htype]; decide), if_pos hmgmt]

/-- The response to a request, which is kept (R124, R125). -/
def Stn.answer (x : Stn) (b : Bytes) : Bytes :=
  let r := x.serve (decide (uAt b 0 1 = 2)) (uAt b 3 2) (uAt b 5 1) (uAt b 6 3 % 1048576)
  ((x.kept.filter fun k => k.1 == uAt b 1 2).map (·.2)).getD
    (be 1 (uAt b 0 1 + 0x80) ++ slice b 1 8 ++ be 1 r.1 ++ be 2 r.2.length ++ r.2)

theorem stationAnswer_eq (s : State) (u sa : Nat) (b : Bytes) : s.stationAnswer u sa b = s.setStn u fun x => { x with
    kept := some (uAt b 1 2, (s.stn u).answer b), answers := x.answers ++ [⟨sa, (s.stn u).answer b, false⟩] } := rfl

/-- What an answer depends on. -/
theorem answer_congr {x y : Stn} (hkept : y.kept = x.kept) (hserve : ∀ w i j e, y.serve w i j e = x.serve w i j e) (b : Bytes) :
    y.answer b = x.answer b := by
  unfold Stn.answer
  rw [hkept, hserve]

/-- The counts of a station's frames touch nothing else (Table 5.7). -/
theorem tally_eq (x : Stn) (h : Header) (ok : Bool) :
    x.tally h ok = { x with dsFrames := (x.tally h ok).dsFrames, dsErrors := (x.tally h ok).dsErrors } := by
  unfold Stn.tally
  split
  · rfl
  · rfl

/-- An unprotected frame that is received (R114). -/
theorem stationReceive_open {f : LineRx} {b : Bytes} (hb : rxPayload f (Header.ofWord f.word) = some b)
    (hsa : (Header.ofWord f.word).sa = 0) (hopen : (s.stn u).security = false) :
    s.stationReceive u f = (s.setStn u fun x => x.tally (Header.ofWord f.word) true).stationTake u f b := by
  unfold State.stationReceive
  dsimp only
  rw [hb]
  dsimp only
  rw [if_pos hsa, hopen, if_neg (by exact fun h => absurd h.1 (by decide))]
  rfl

/-- A protected frame of an association that the station holds (R143, R144). -/
theorem stationReceive_secured {f : LineRx} {b : Bytes} {a : StnAssoc} (hb : rxPayload f (Header.ofWord f.word) = some b)
    (hsa : (Header.ofWord f.word).sa ≠ 0)
    (ha : ((s.stn u).assocs.find? fun x => x.sa == (Header.ofWord f.word).sa) = some a) :
    s.stationReceive u f = if uAt b 0 6 ≤ a.rxPn ∨ b.length < 15 then s.setStn u fun x => x.tally (Header.ofWord f.word) true
      else match ccmDecrypt a.key (ccmNonce false (Header.ofWord f.word) (uAt b 0 6)) (be 14 (Header.ofWord f.word).high)
          (b.drop 6) with
        | none => s.setStn u fun x => x.tally (Header.ofWord f.word) true
        | some plain => ((s.setStn u fun x => x.tally (Header.ofWord f.word) true).setStn u fun x => { x with
            assocs := x.assocs.map fun y => if y.sa = (Header.ofWord f.word).sa then { y with rxPn := uAt b 0 6 } else y }).stationTake
              u f plain := by
  unfold State.stationReceive
  dsimp only
  rw [hb]
  dsimp only
  rw [if_neg hsa, ha]
  rfl

theorem unbound_open (x : Stn) {h : Header} (hsa : h.sa = 0) : x.unbound h = false := by
  unfold Stn.unbound
  rw [hsa]
  rfl

/-- An unprotected MGMT request, whole and well-formed, is answered (R124, R125). -/
theorem mgmtRequest_open {f : LineRx} {b : Bytes} (htakes : (s.stn u).takes f = true) (htype : (Header.ofWord f.word).type = tyMgmt)
    (hfrag : (Header.ofWord f.word).frag = 0) (hsa : (Header.ofWord f.word).sa = 0) (hopen : (s.stn u).security = false)
    (hb : rxPayload f (Header.ofWord f.word) = some b) (hformat : formatOk false (Header.ofWord f.word) b = true)
    (hmgmt : mgmtFormat false b = true) : ∃ t, exec (.stationMgmtRequest u f) s = .next t
      ∧ ((t.stn u).answers = (s.stn u).answers
          ++ [⟨0, (((s.stn u).tally (Header.ofWord f.word) true).heard s.time.mono f).answer b, false⟩]
        ∧ (t.stn u).kept = some (uAt b 1 2, (((s.stn u).tally (Header.ofWord f.word) true).heard s.time.mono f).answer b)
        ∧ (t.stn u).lastHeard = s.time.mono)
      ∧ t = { s with stations := t.stations } := by
  obtain ⟨g, hg⟩ := stationTake_request (s := s.setStn u fun x => x.tally (Header.ofWord f.word) true) (u := u) htype hfrag hformat hmgmt
  obtain ⟨y, hy⟩ : ∃ y, y = ((s.stn u).tally (Header.ofWord f.word) true).heard s.time.mono f := ⟨_, rfl⟩
  obtain ⟨v, hv⟩ : ∃ v, v = (((s.setStn u fun x => x.tally (Header.ofWord f.word) true).setStn u fun x =>
    x.heard s.time.mono f).setStn u fun x => { x with reasm := g x }) := ⟨_, rfl⟩
  have hstn : v.stn u = { y with reasm := g y } := by
    rw [hv, State.stn_setStn_self, State.stn_setStn_self, State.stn_setStn_self, hy]
  have hvrest : v = { s with stations := v.stations } := by
    rw [hv]
    rfl
  have hanswer : (v.stn u).answer b = y.answer b := by
    rw [hstn]
    exact answer_congr rfl (fun _ _ _ _ => rfl) b
  have hanswers : y.answers = (s.stn u).answers := by rw [hy, heard_eq, tally_eq]
  have hheard : y.lastHeard = s.time.mono := by rw [hy, heard_eq]
  have hexec : exec (.stationMgmtRequest u f) s = .next ((v.stationAnswer u 0 b).keep s) := by
    refine (guarded_pos s ⟨htakes, htype, by rw [unbound_open _ hsa]; rfl⟩).trans ?_
    rw [stationReceive_open hb hsa hopen, hg, hsa, hv]
    rfl
  rw [stationAnswer_eq, hanswer] at hexec
  rw [← hy]
  refine ⟨_, hexec, ⟨?_, ?_, ?_⟩, ?_⟩
  · rw [stn_keep, State.stn_setStn_self, hstn, ← hanswers]
  · rw [stn_keep, State.stn_setStn_self]
  · rw [stn_keep, State.stn_setStn_self, hstn, ← hheard]
  · rw [hvrest]
    rfl

theorem unbound_held {x : Stn} {h : Header} {a : StnAssoc} (ha : (x.assocs.find? fun y => y.sa == h.sa) = some a) :
    x.unbound h = false := by
  have hany : (x.assocs.any fun y => y.sa == h.sa) = true :=
    List.any_eq_true.mpr ⟨a, List.mem_of_find?_eq_some ha, List.find?_some (p := fun y : StnAssoc => y.sa == h.sa) ha⟩
  unfold Stn.unbound
  rw [hany, Bool.not_true, Bool.and_false]

theorem unbound_new {x : Stn} {h : Header} (hsa : h.sa ≠ 0) (hnone : ∀ a ∈ x.assocs, a.sa ≠ h.sa) : x.unbound h = true := by
  have hany : (x.assocs.any fun y => y.sa == h.sa) = false :=
    List.any_eq_false.mpr fun a ha heq => hnone a ha (beq_iff_eq.mp heq)
  unfold Stn.unbound
  rw [hany, bne_iff_ne.mpr hsa]
  rfl

/-! ### The obligation -/

/-- Settles O27, over every state. -/
theorem stationServes : Obligations.StationServes := by
  unfold Obligations.StationServes
  refine ⟨?refresh, ?resp, ?answer, ?grant, ?release, ?lost, ?wait, ?bell, ?repeated, ?request, ?secured, ?replayed, ?bind,
    ?unbound⟩
  case refresh =>
    intro s u body air hlength hkind htime hstate
    exact guarded_pos s ⟨hlength, hkind, htime, hstate⟩
  case resp =>
    intro s u w h body a target htype hjoined hanchor hrange hontime hreach hsilent
    obtain ⟨v, hv⟩ : ∃ v, v = s.setStn u fun _ => { (s.stn u).adjusted target with rangeAt := none } := ⟨_, rfl⟩
    have hexec : exec (.stationAlignedTx u w ⟨h, body⟩) s = .next ((s.stationResp u (a.1 + (s.time.mono - a.2)) target).keep s) := by
      have hunfold : exec (.stationAlignedTx u w ⟨h, body⟩) s = execStationAlignedTx u w ⟨h, body⟩ s := rfl
      rw [hunfold, execStationAlignedTx, hanchor]
      dsimp only
      rw [if_pos htype, hrange]
      refine guarded_pos s ⟨decide_eq_true hjoined, ?_⟩
      rw [hsilent, Bool.and_true]
      exact decide_eq_true ⟨hontime, hreach⟩
    have hstn : v.stn u = { (s.stn u).adjusted target with rangeAt := none } := by rw [hv, State.stn_setStn_self]
    have hvrest : v = { s with stations := v.stations } := by rw [hv]; rfl
    have hvout : v.out = s.out := by rw [hvrest]
    obtain ⟨⟨f, hout, hstart, hlong, -, hlevel, hheader, hpayload, -⟩, hafter, hrest⟩ := sendStation_spec v u none
      (upHeader ((s.stn u).adjusted target) tyRange 0)
      ([2, 0] ++ be 2 ((s.stn u).adjusted target).ta.toNat ++ beInt 2 ((s.stn u).adjusted target).level ++ [0, 0])
      (a.1 + (s.time.mono - a.2)) ((s.stn u).adjusted target).level
    have hresp : s.stationResp u (a.1 + (s.time.mono - a.2)) target = v.sendStation u none
      (upHeader ((s.stn u).adjusted target) tyRange 0)
      ([2, 0] ++ be 2 ((s.stn u).adjusted target).ta.toNat ++ beInt 2 ((s.stn u).adjusted target).level ++ [0, 0])
      (a.1 + (s.time.mono - a.2)) ((s.stn u).adjusted target).level := by rw [hv]; rfl
    dsimp only at hout hafter hrest
    rw [← hresp] at hout hafter hrest
    have haddress : ((s.stn u).adjusted target).address = (s.stn u).address := by rw [adjusted_eq]
    have hstate : ((s.stn u).adjusted target).state = (s.stn u).state := by rw [adjusted_eq]
    rw [hstn] at hafter
    refine ⟨_, hexec, ⟨f, ?_, ?_, hstart, ?_, ?_, ?_, hpayload rfl, hlevel⟩, ?_, ?_, ?_⟩
    · rw [State.keep_out, hout, hvout]
    · rw [hlong]; rfl
    · rw [hheader]; rfl
    · rw [hheader]; exact haddress
    · rw [hheader]; rfl
    · rw [stn_keep, hafter]
    · rw [stn_keep, hafter, ← hstate]
    · rw [hrest, hvrest]
      rfl
  case answer =>
    intro s u w h body a target htype hjoined hanchor hrefresh hontime hreach hsilent
    obtain ⟨y, hy⟩ : ∃ y, y = (s.stn u).adjusted target := ⟨_, rfl⟩
    have hkeeps := adjusted_eq (s.stn u) target
    rw [← hy] at hkeeps
    obtain ⟨v, hv⟩ : ∃ v, v = s.setStn u fun _ => { y with
      refreshAt := none, leaveQuiet := false
      refreshEnd := (a.1 + (s.time.mono - a.2)) + airGrant y.band (max 1 (popCount 64 y.allot)) y.upPace 16
      state := if y.leaveQuiet then snActive else y.state } := ⟨_, rfl⟩
    have hexec : exec (.stationAlignedTx u w ⟨h, body⟩) s = .next
        ((s.stationRefresh u (a.1 + (s.time.mono - a.2)) target).keep s) := by
      have hunfold : exec (.stationAlignedTx u w ⟨h, body⟩) s = execStationAlignedTx u w ⟨h, body⟩ s := rfl
      rw [hunfold, execStationAlignedTx, hanchor]
      dsimp only
      rw [if_neg (by rw [htype]; decide), if_pos htype, hrefresh]
      refine guarded_pos s ⟨decide_eq_true hjoined, ?_⟩
      rw [hsilent, Bool.and_true]
      exact decide_eq_true ⟨hontime, hreach⟩
    have hstn : v.stn u = { y with
        refreshAt := none, leaveQuiet := false
        refreshEnd := (a.1 + (s.time.mono - a.2)) + airGrant y.band (max 1 (popCount 64 y.allot)) y.upPace 16
        state := if y.leaveQuiet then snActive else y.state } := by rw [hv, State.stn_setStn_self]
    have hvrest : v = { s with stations := v.stations } := by rw [hv]; rfl
    have hvout : v.out = s.out := by rw [hvrest]
    obtain ⟨⟨f, hout, hstart, hlong, hallot, hlevel, hheader, hpayload, -⟩, hafter, hrest⟩ := sendStation_spec v u (some y.allot)
      (upHeader y tyRefresh y.upPace) ([0, 0] ++ timeBytes (a.1 + (s.time.mono - a.2)) ++ be 2 y.interval ++ [0, 0])
      (a.1 + (s.time.mono - a.2)) y.level
    have hsends : s.stationRefresh u (a.1 + (s.time.mono - a.2)) target = v.sendStation u (some y.allot)
      (upHeader y tyRefresh y.upPace) ([0, 0] ++ timeBytes (a.1 + (s.time.mono - a.2)) ++ be 2 y.interval ++ [0, 0])
      (a.1 + (s.time.mono - a.2)) y.level := by rw [hv, hy]; rfl
    dsimp only at hout hafter hrest
    rw [← hsends] at hout hafter hrest
    rw [hstn] at hafter
    have hallot' : y.allot = (s.stn u).allot := by rw [hkeeps]
    have hpace : y.upPace = (s.stn u).upPace := by rw [hkeeps]
    have haddress : y.address = (s.stn u).address := by rw [hkeeps]
    have hinterval : y.interval = (s.stn u).interval := by rw [hkeeps]
    have hleaves : y.leaveQuiet = (s.stn u).leaveQuiet := by rw [hkeeps]
    have hstate : y.state = (s.stn u).state := by rw [hkeeps]
    rw [← hy, ← hallot', ← hpace, ← haddress, ← hinterval, ← hleaves, ← hstate]
    refine ⟨_, hexec, ⟨f, ?_, ?_, ?_, hstart, ?_, ?_, ?_, ?_, hpayload rfl, hlevel⟩, ?_, ?_, ?_⟩
    · rw [State.keep_out, hout, hvout]
    · rw [hlong]; rfl
    · rw [hallot]; rfl
    · rw [hheader]; rfl
    · rw [hheader]; rfl
    · rw [hheader]; rfl
    · rw [hheader]; rfl
    · rw [stn_keep, hafter]
    · rw [stn_keep, hafter]
    · rw [hrest, hvrest]
      rfl
  case grant =>
    intro s u h h' body plain y a g htype hstate hanchor hgrant hcompose hfits hsilent
    obtain ⟨e, he⟩ : ∃ e, e = a.1 + (s.time.mono - a.2) := ⟨_, rfl⟩
    have hreading : (s.stn u).reading e = s.time.mono := by rw [he]; exact reading_now hanchor _
    have hgrants : y.grants = (s.stn u).grants := by rw [compose_grants hcompose, adjusted_eq]
    have hmem : g ∈ y.grants := by
      rw [hgrants]
      exact List.mem_of_find?_eq_some hgrant
    rw [← he] at hgrant ⊢
    obtain ⟨air, hair⟩ : ∃ air, air = airGrant (s.stn u).band (max 1 (popCount 64 g.mask)) h'.pace
      (plain.length + securityBytes h'.sa) := ⟨_, rfl⟩
    rw [← hair] at hfits hsilent ⊢
    obtain ⟨v, hv⟩ : ∃ v, v = s.setStn u fun _ => { y with
      grants := y.grants.map fun r => if r = g then { g with next := g.next + air } else r } := ⟨_, rfl⟩
    have hexec : exec (.stationAlignedTx u none ⟨h, body⟩) s = .next
        ((v.sendStation u (some g.mask) h' plain e y.level).keep s) := by
      have hunfold : exec (.stationAlignedTx u none ⟨h, body⟩) s = execStationAlignedTx u none ⟨h, body⟩ s := rfl
      have hdata : h.type ≠ tyRange ∧ h.type ≠ tyRefresh := by
        constructor
        · intro heq
          rw [heq] at htype
          exact absurd htype (by decide)
        · intro heq
          rw [heq] at htype
          exact absurd htype (by decide)
      rw [hunfold, execStationAlignedTx, hanchor]
      dsimp only
      rw [if_neg hdata.1, if_neg hdata.2, guarded_pos s ⟨hstate, htype⟩, ← he]
      unfold State.stationGranted
      dsimp only
      rw [hgrant]
      dsimp only
      rw [hcompose]
      dsimp only
      rw [← hair, if_neg, hv]
      rw [hreading, hsilent]
      rintro (hlate | hbusy)
      · exact absurd hlate (not_lt.mpr hfits)
      · exact absurd hbusy (by decide)
    have hstn : v.stn u = { y with grants := y.grants.map fun r => if r = g then { g with next := g.next + air } else r } := by
      rw [hv, State.stn_setStn_self]
    have hvrest : v = { s with stations := v.stations } := by rw [hv]; rfl
    have hvout : v.out = s.out := by rw [hvrest]
    obtain ⟨⟨f, hout, hstart, hlong, hallot, hlevel, hheader, hpayload, hsecured⟩, hafter, hrest⟩ :=
      sendStation_spec v u (some g.mask) h' plain e y.level
    dsimp only at hout hafter hrest
    refine ⟨_, hexec, ⟨f, ?_, ?_, ?_, hstart, hheader, hlevel, hpayload, fun hsa => ?_⟩, ?_, ?_⟩
    · rw [State.keep_out, hout, hvout]
    · rw [hlong]; rfl
    · rw [hallot]; rfl
    · rw [hsecured hsa, hstn]
      exact protect_congr (by exact rfl) ..
    · rw [stn_keep, hafter, hstn]
      exact List.mem_map.mpr ⟨g, hmem, if_pos rfl⟩
    · rw [hrest, hvrest]
      rfl
  case release =>
    intro s u w len h body a htype hserving hanchor hwindow hahead hunused hair hlen hslots
    obtain ⟨k, hk, v, hdraw, hfits, hvrest⟩ := drawSlot_spec (s := s) hahead hunused hair hlen hslots
    obtain ⟨at', hat⟩ : ∃ t, t = w + (k : Int) * slotLength (s.stn u).band := ⟨_, rfl⟩
    obtain ⟨plain, hplain⟩ : ∃ b, b = regShort 4 (uAt body 1 1 % 5) (s.stn u).uid := ⟨_, rfl⟩
    obtain ⟨y, hy⟩ : ∃ y, y = (s.stn u).adjusted at' := ⟨_, rfl⟩
    have hlength : plain.length = 10 := by
      rw [hplain]
      unfold regShort
      rw [List.length_append, List.length_append, length_be, length_be, length_be]
    obtain ⟨z, hz⟩ : ∃ z, z = (v.setStn u fun _ => y).sendStation u none (upHeader (s.stn u) tyReg 0) plain (y.startFor at') y.level :=
      ⟨_, rfl⟩
    have hexec : exec (.stationAlignedTx u (some w) ⟨h, body⟩) s = .next
        ((z.setStn u fun x => (x.uses w z.time.mono).search).keep s) := by
      have hunfold : exec (.stationAlignedTx u (some w) ⟨h, body⟩) s = execStationAlignedTx u (some w) ⟨h, body⟩ s := rfl
      rw [hunfold, execStationAlignedTx, hanchor]
      dsimp only
      rw [if_neg (by rw [htype]; decide), if_neg (by rw [htype]; decide), guarded_pos s ⟨hserving, .inr htype⟩]
      unfold State.stationSlotted
      dsimp only
      rw [hwindow, if_pos htype, ← hplain]
      dsimp only
      rw [hlength]
      have hdraw' : s.drawSlot (s.stn u) w len (airLong (s.stn u).band (upHeader (s.stn u) tyReg 0).pace
        (10 + securityBytes (upHeader (s.stn u) tyReg 0).sa)) = (some at', v) := by rw [hat]; exact hdraw
      rw [hdraw']
      dsimp only
      rw [if_neg (fun hother => hother.1 rfl), ← hy, hz]
      rfl
    have hsends := sendStation_spec (v.setStn u fun _ => y) u none (upHeader (s.stn u) tyReg 0) plain (y.startFor at') y.level
    dsimp only at hsends
    rw [← hz] at hsends
    obtain ⟨⟨f, hout, hstart, hlong, -, hlevel, hheader, hpayload, -⟩, hafter, hrest⟩ := hsends
    have hvout : (v.setStn u fun _ => y).out = s.out := by rw [State.setStn_out, hvrest]
    refine ⟨_, hexec, ⟨f, ?_, ?_, ?_, ?_, ?_, k, hk, ?_, ?_, hfits⟩, ?_, ?_, ?_⟩
    · rw [State.keep_out, State.setStn_out, hout, hvout]
    · rw [hlong]; rfl
    · rw [hheader]; rfl
    · rw [hheader]; rfl
    · rw [hpayload rfl, hplain]; rfl
    · rw [hstart, hy, hat]
    · rw [hlevel, hy, hat]
    · rw [stn_keep, State.stn_setStn_self]; rfl
    · rw [stn_keep, State.stn_setStn_self]; rfl
    · rw [hrest, hvrest]
      rfl
  case lost =>
    intro s u hstate hsilent
    exact guarded_pos s ⟨hstate, hsilent⟩
  case wait =>
    intro s u hstate hsilent
    exact guarded_pos s ⟨hstate, hsilent⟩
  case bell =>
    intro s u a hanchor hbell hcaps hlast hsilent hstate
    have hestimate : ((s.stn u).estimate s.time.mono).getD 0 = a.1 + (s.time.mono - a.2) := by
      unfold Stn.estimate
      rw [hanchor]
      rfl
    have hrung : (s.stn u).bellAt.all (fun t => decide (t + 10000000000 ≤ s.time.mono)) = true := by
      cases hat : (s.stn u).bellAt with
      | none => rfl
      | some b => exact decide_eq_true (hlast b hat)
    have hquiet : (s.stn u).state = snQuiet → (s.stn u).refreshEnd ≤ a.1 + (s.time.mono - a.2) ∧ (s.stn u).refreshAt = none
        ∧ a.1 + (s.time.mono - a.2) + (s.stn u).ta * ((s.stn u).band.ns : Int) + 16384000 < (s.stn u).nextCycle := by
      intro hq
      obtain hsearch | ⟨-, hanswered, hend, hnext⟩ := hstate
      · exact absurd (hsearch.symm.trans hq) (by decide)
      · exact ⟨hend, hanswered, hnext⟩
    have hexec : exec (.stationBellSend u) s = .next
        (((s.emit (.stationBell u (a.1 + (s.time.mono - a.2)) (s.stn u).level)).setStn u fun x => { x with
          bellAt := some s.time.mono
          sends := (s.time.mono, s.time.mono + 16384000) :: x.sends.filter fun t => decide (s.time.mono < t.2) }).keep s) := by
      have hunfold : exec (.stationBellSend u) s = execStationBellSend u s := rfl
      rw [hunfold, execStationBellSend]
      rw [hestimate]
      exact guarded_pos s ⟨hstate.symm.imp_left (·.1), hbell, hcaps, hrung, hsilent, hquiet⟩
    refine ⟨_, hexec, rfl, ?_, ?_, ?_, rfl⟩
    · rw [stn_keep, State.stn_setStn_self]
    · rw [stn_keep, State.stn_setStn_self]
      rfl
    · rw [stn_keep, State.stn_setStn_self]
      exact List.mem_cons_self
  case repeated =>
    intro s u f b r htakes htype hfrag hsa hopen hb hformat hmgmt hkept
    obtain ⟨v, hexec, hstn, hrest⟩ := mgmtRequest_open htakes htype hfrag hsa hopen hb hformat hmgmt
    have hanswer : (((s.stn u).tally (Header.ofWord f.word) true).heard s.time.mono f).answer b = r := by
      unfold Stn.answer
      rw [heard_eq, tally_eq]
      dsimp only
      rw [hkept, Option.filter_some_pos (p := fun k : Nat × Bytes => k.1 == uAt b 1 2) (beq_self_eq_true _)]
      rfl
    obtain ⟨hanswers, hkeeps, hheard⟩ := hstn
    rw [hanswer] at hanswers hkeeps
    refine ⟨v, hexec, hanswers, ?_, hheard, hrest⟩
    rw [hkeeps, hkept]
  case request =>
    intro s u f b v status htakes htype hfrag hsa hopen hb hformat hmgmt hnew hserve
    obtain ⟨w, hexec, hstn, hrest⟩ := mgmtRequest_open htakes htype hfrag hsa hopen hb hformat hmgmt
    have hanswer : (((s.stn u).tally (Header.ofWord f.word) true).heard s.time.mono f).answer b
        = be 1 (uAt b 0 1 + 0x80) ++ slice b 1 8 ++ be 1 status ++ be 2 v.length ++ v := by
      have hserved : (((s.stn u).tally (Header.ofWord f.word) true).heard s.time.mono f).serve (decide (uAt b 0 1 = 2)) (uAt b 3 2)
          (uAt b 5 1) (uAt b 6 3 % 1048576) = (status, v) := by
        rw [← hserve, heard_eq]
        rfl
      have hnone : ((((s.stn u).tally (Header.ofWord f.word) true).heard s.time.mono f).kept.filter fun k => k.1 == uAt b 1 2) = none := by
        rw [heard_eq, tally_eq]
        dsimp only
        cases hkept : (s.stn u).kept with
        | none => rfl
        | some k => exact Option.filter_some_neg (beq_eq_false_iff_ne.mpr (hnew k hkept))
      unfold Stn.answer
      dsimp only
      rw [hserved, hnone]
      rfl
    obtain ⟨hanswers, hkeeps, -⟩ := hstn
    rw [hanswer] at hanswers hkeeps
    exact ⟨w, hexec, hanswers, hkeeps, hrest⟩
  case secured =>
    intro s u f b plain a htakes htype hb hsa ha hpn hlength hplain
    have hmine : a.sa = (Header.ofWord f.word).sa :=
      beq_iff_eq.mp (List.find?_some (p := fun x : StnAssoc => x.sa == (Header.ofWord f.word).sa) ha)
    refine (guarded_pos s ⟨htakes, htype, by rw [unbound_held ha]; rfl⟩).trans ?_
    rw [stationReceive_secured hb hsa ha, if_neg (by omega), hplain, ← hmine]
    dsimp only
    rw [(stationTake_receives ..).2]
    rfl
  case replayed =>
    intro s u f b a htakes htype hb hsa ha hpn
    refine (guarded_pos s ⟨htakes, htype, by rw [unbound_held ha]; rfl⟩).trans ?_
    rw [stationReceive_secured hb hsa ha, if_pos (.inl hpn)]
    rfl
  case bind =>
    intro s u f b plain htakes hsa hbinds hnone hb hlength hplain
    obtain ⟨v, hv⟩ : ∃ v, v = (s.setStn u fun x => x.tally (Header.ofWord f.word) true).setStn u fun x =>
      { x with assocs := ⟨(Header.ofWord f.word).sa, x.commissioning, uAt b 0 6, 0⟩ :: x.assocs } := ⟨_, rfl⟩
    obtain ⟨hassocs, hrest⟩ := stationTake_receives v u f plain
    have hexec : exec (.stationCommissioningBind u f) s = .next (v.stationTake u f plain) := by
      refine (guarded_pos s ⟨htakes, unbound_new hsa hnone, hbinds⟩).trans ?_
      dsimp only
      rw [hb]
      dsimp only
      rw [if_neg (by omega), hplain]
      dsimp only
      rw [show (some b).isSome = true from rfl, ← hv, hrest, hv]
      rfl
    refine ⟨_, hexec, ?_, by rw [hv]⟩
    rw [hassocs, hv, State.stn_setStn_self, State.stn_setStn_self, tally_eq]
  case unbound =>
    intro s u f b htakes hsa hbinds hnone hb hbad
    refine (guarded_pos s ⟨htakes, unbound_new hsa hnone, hbinds⟩).trans ?_
    dsimp only
    rw [hb]
    dsimp only
    have hfails : (if b.length < 15 then none else ccmDecrypt (s.stn u).commissioning
        (ccmNonce false (Header.ofWord f.word) (uAt b 0 6)) (be 14 (Header.ofWord f.word).high) (b.drop 6)) = none := by
      obtain hshort | hmic := hbad
      · exact if_pos hshort
      · rw [hmic]
        exact ite_self _
    rw [hfails]
    rfl

end Sys2Proof.Machine
end

section
/-! A GRANT that confirms a station whose address lies outside the table of stations (R234, R321 to R323). -/

namespace Sys2Proof.Machine

set_option Elab.async false

/-- An element number of LP_STATION state whose key is that of GRANT_OMITTED of ITIN_CTL. -/
def omittedElement : Nat := 2227488948224

/-- What is read as the state of that element is the count of omitted grants. -/
theorem rd_omittedElement (s : State) :
    s.rd Reg.LP_STATION_state (0 : Port) omittedElement = s.rd Reg.ITIN_CTL_GRANT_OMITTED (0 : Port) := by
  have hkeys : Reg.LP_STATION_state.key 0 omittedElement = Reg.ITIN_CTL_GRANT_OMITTED.key 0 0 := by decide
  unfold State.rd
  exact congrArg (fun k => (0 : Int) + Store.get 0 s.regs k) hkeys

/-- Port 0 serves, in a DOWN window, and a CONFIRM of that element number awaits its acknowledgement; two grants were
omitted before. -/
def confirmsOutside : State :=
  let s : State := { State.reset with
    time := { State.reset.time with now := 1000000000000, mono := 1000000000000 }
    rst := { State.reset.rst with pllLocked := true } }
  let s := (s.wr Reg.LP_STATE_state 0 0 stService).wr Reg.ITIN_CTL_GRANT_OMITTED 0 0 2
  s.setPort 0 fun q => { q with winStart := 999000000000, winEnd := 1001000000000, confirms := [omittedElement] }

/-- The GRANT planned for that acknowledgement. -/
def planOutside : GrantPlan := (confirmsOutside.grantPlans 0).headD ⟨0, 0, [], 0, [], 0, [], 0⟩

/-- The instant of that GRANT. -/
def grantsOutside : State := confirmsOutside.setTime fun x => { x with now := planOutside.base }

theorem grantsOutside_planned : grantsOutside.runs = true ∧ (grantsOutside.grantPlans 0).head? = some planOutside
    ∧ grantsOutside.now = planOutside.base ∧ (grantsOutside.port 0).winStart ≤ grantsOutside.now
    ∧ grantsOutside.mayTransmit 0 = true ∧ grantsOutside.carrying 0 = false ∧ planOutside.count ≠ 0 := by
  decide +kernel

theorem planOutside_confirms : planOutside.confirmed = [omittedElement] ∧ planOutside.grants = [] ∧ planOutside.omitted = 0
    ∧ grantsOutside.rd Reg.ITIN_CTL_GRANT_OMITTED (0 : Port) = 2 := by
  decide +kernel

/-- A station that awaits its CONFIRM becomes ACTIVE: of the objects nothing else changes (R234). -/
theorem confirmStation_regs {s : State} {p : Port} {a : Nat} (h : s.rd Reg.LP_STATION_state p a = 2) :
    (s.confirmStation p a).regs = (s.wr Reg.LP_STATION_state p a 3).regs := by
  unfold State.confirmStation
  dsimp only
  rw [State.rd_setPort, if_pos h]
  have hcleared (t : State) : (t.clearSeq p a).regs = t.regs := by
    unfold State.clearSeq
    refine foldl_keeps State.regs (fun u tag => ?_) _ _
    dsimp only
    split
    · rfl
    · exact State.setFlowState_regs ..
  rw [hcleared, State.stationRecord_regs]
  rfl

theorem rd_grantHandled (s : State) (p : Port) (g : GrantPlan) (q : Obj) (i j : Nat) :
    (s.grantHandled p g).rd q i j = s.rd q i j := rfl

/-- The GRANT confirms the station of that element number, whose state is the count of omitted grants. -/
theorem sendGrant_outside : (grantsOutside.sendGrant 0 planOutside).rd Reg.ITIN_CTL_GRANT_OMITTED (0 : Port) = 3 := by
  obtain ⟨-, -, -, -, -, -, hcount⟩ := grantsOutside_planned
  obtain ⟨hconfirmed, hgrants, homitted, hbefore⟩ := planOutside_confirms
  generalize planOutside = g at hcount hconfirmed hgrants homitted
  obtain ⟨u, hu⟩ : ∃ u, u = (grantsOutside.grantHandled 0 g).inc Reg.ITIN_CTL_GRANT_OMITTED (0 : Port) 0 g.omitted := ⟨_, rfl⟩
  obtain ⟨v, hv⟩ : ∃ v, v = ((u.sendFrame 0 (downHeader 255 tyGrant (u.floorPace 0)) g.payload).setPort 0 fun q =>
    { q with lapsed := false, grants := q.grants ++ g.grants }).expectUp 0 g.grants := ⟨_, rfl⟩
  have hnamed : g.confirmed ++ (u.port 0).confirms.filter (fun a => g.grants.any fun x => x.a == a) = [omittedElement] := by
    rw [hconfirmed, hgrants]
    exact congrArg ([omittedElement] ++ ·) (List.filter_eq_nil_iff.mpr fun a _ => Bool.false_ne_true)
  have hsent : grantsOutside.sendGrant 0 g = v.confirmStation 0 omittedElement := by
    have hunfold : grantsOutside.sendGrant 0 g = if g.count = 0 then u else
        (g.confirmed ++ (u.port 0).confirms.filter fun a => g.grants.any fun x => x.a == a).foldl
          (fun s a => s.confirmStation 0 a) v := by
      rw [hv, hu]
      rfl
    rw [hunfold, if_neg hcount, hnamed]
    rfl
  have hcounted : u.rd Reg.ITIN_CTL_GRANT_OMITTED (0 : Port) = 2 := by
    rw [hu, State.rd_inc_self, homitted, rd_grantHandled, hbefore]
    rfl
  have hwaits : v.rd Reg.LP_STATION_state (0 : Port) omittedElement = 2 := by
    rw [rd_omittedElement, hv]
    unfold State.expectUp
    rw [State.rd_setPort, State.rd_setPort, sendFrame_rd _ _ _ _ (by decide) (by decide) (by decide) (by decide), hcounted]
  rw [hsent, State.rd_congr (confirmStation_regs hwaits), ← rd_omittedElement, State.rd_wr_self]

/-- Refutes O32: the GRANT of `grantsOutside` omits nothing, and the count of omitted grants goes from 2 to 3. -/
theorem not_itinerariesRunAndSend : ¬ Obligations.ItinerariesRunAndSend := by
  intro h
  obtain ⟨-, -, -, -, -, hgrant, -⟩ := h
  obtain ⟨hruns, hplan, hnow, hstart, hfree, hidle, hcount⟩ := grantsOutside_planned
  obtain ⟨-, -, homitted, hbefore⟩ := planOutside_confirms
  obtain ⟨t, ht, -, -, -, hafter⟩ := hgrant grantsOutside 0 planOutside hruns hplan hnow hstart hfree hidle hcount
  have hexec : exec (.grantSend 0) grantsOutside = .next ((grantsOutside.sendGrant 0 planOutside).keep grantsOutside) := by
    have hunfold : exec (.grantSend 0) grantsOutside = execGrantSend 0 grantsOutside := rfl
    rw [hunfold, execGrantSend, hplan]
    dsimp only
    rw [guarded_pos _ ⟨hruns, hnow.ge⟩, if_pos ⟨hnow, hstart, hfree, by rw [hidle]; rfl⟩]
  have hsame := Host.Outcome.next.inj (ht.symm.trans hexec)
  rw [hsame, State.rd_keep, sendGrant_outside, hbefore, homitted] at hafter
  exact absurd hafter (by decide)

end Sys2Proof.Machine
end

section
/-! Training of the pre-distorter, recalibration, restored values and the references (R95 to R99, R513 to R522). -/

namespace Sys2Proof.Machine

set_option Elab.async false

variable {s t u : State} {p : Port}

/-! ### The end of the line phase (R508, R513) -/

/-- What the end of the line phase writes. -/
def lineEndObjects : List Obj :=
  Reg.LP_CAL_phase :: Reg.LP_CAL_calibrated :: Reg.LP_STATE_state :: Reg.LP_STATE_stamp :: releaseObjects

theorem calEnd_reads (s : State) (p : Port) : s.ReadsBut lineEndObjects (s.calEnd p) := by
  unfold State.calEnd State.armRecal
  exact (((State.ReadsBut.of_regs (State.setCal_regs s p _)).wr _ (by decide) p.isLt (by decide)).wr _ (by decide) p.isLt
    (by decide)).then_regs rfl

theorem calEnd_deadline (s : State) (p : Port) {a : Timer} (h : a ≠ .recal p.val) : (s.calEnd p).deadline a = s.deadline a := by
  unfold State.calEnd State.armRecal
  rw [State.deadline_arm_other _ _ h]
  rfl

theorem calEnd_rest (s : State) (p : Port) : s.calEnd p
    = { s with regs := (s.calEnd p).regs, ports := (s.calEnd p).ports, timers := (s.calEnd p).timers } := rfl

theorem freeEngine_rest (s : State) (p : Port) :
    s.freeEngine p = { s with regs := (s.freeEngine p).regs, ports := (s.freeEngine p).ports } := by
  unfold State.freeEngine
  split
  · rfl
  · rfl

/-- A port that leaves CAL for LISTEN gives its engine back and ends its checks. -/
theorem leaving_calForListen (s : State) (p : Port) : s.leaving p stCal stListen
    = (((s.freeEngine p).disarm (.listen p.val)).disarm (.discover p.val)).disarm (.check p.val) := rfl

/-- What a port leaves as it was when it goes from CAL to LISTEN. -/
theorem toListen_spec (h : s.portState p = stCal) (cause : Nat) : s.ReadsBut lineEndObjects (s.toState p stListen cause)
    ∧ (s.toState p stListen cause).deadline (.dpd p.val) = s.deadline (.dpd p.val)
    ∧ (s.toState p stListen cause).blobs = s.blobs ∧ (s.toState p stListen cause).faults = s.faults := by
  have hstamped : s.ReadsBut lineEndObjects ((s.wr Reg.LP_STATE_state p 0 stListen).wr Reg.LP_STATE_stamp p 0 s.now) :=
    ((State.ReadsBut.refl s).wr _ (by decide) p.isLt (by decide)).wr _ (by decide) p.isLt (by decide)
  unfold State.toState
  dsimp only
  rw [h, leaving_calForListen]
  obtain ⟨v, hv⟩ : ∃ v, v = ((s.wr Reg.LP_STATE_state p 0 stListen).wr Reg.LP_STATE_stamp p 0 s.now).issue (srcLine p) 0x0501
    (be 1 p.val ++ be 1 stCal.toNat ++ be 1 stListen.toNat ++ be 1 cause) := ⟨_, rfl⟩
  rw [← hv]
  have hvrest : v = { s with regs := v.regs, merge := v.merge } := by
    rw [hv]
    rfl
  have hfree := freeEngine_rest v p
  refine ⟨?_, ?_, ?_, ?_⟩
  · have hreads : s.ReadsBut lineEndObjects v := hstamped.then_regs (by rw [hv, State.issue_regs])
    exact (hreads.trans ((freeEngine_reads v p).mono (by decide))).then_regs rfl
  · have hentering (w : State) : (w.entering p stCal stListen).deadline (.dpd p.val) = w.deadline (.dpd p.val) :=
      State.deadline_arm_other _ _ (by simp)
    rw [hentering, State.deadline_disarm_other _ (by simp), State.deadline_disarm_other _ (by simp),
      State.deadline_disarm_other _ (by simp), State.deadline_congr (show _ = s.timers by rw [hfree, hvrest])]
  · have hentering (w : State) : (w.entering p stCal stListen).blobs = w.blobs := rfl
    rw [hentering, State.disarm_blobs, State.disarm_blobs, State.disarm_blobs, hfree, hvrest]
  · have hentering (w : State) : (w.entering p stCal stListen).faults = w.faults := rfl
    rw [hentering, State.disarm_faults, State.disarm_faults, State.disarm_faults, hfree, hvrest]

/-- The end of the line phase of a port in CAL. -/
theorem linePhaseEnd_spec (h : s.portState p = stCal) : (s.linePhaseEnd p).portState p = stListen
    ∧ s.ReadsBut lineEndObjects (s.linePhaseEnd p) ∧ (s.linePhaseEnd p).deadline (.dpd p.val) = s.deadline (.dpd p.val)
    ∧ (s.linePhaseEnd p).blobs = s.blobs ∧ (s.linePhaseEnd p).faults = s.faults := by
  have hcal : (s.calEnd p).portState p = stCal := by
    rw [← h]
    unfold State.portState State.calEnd State.armRecal
    rw [State.rd_arm, State.rd_congr (State.setCal_regs ..), State.rd_wr_other _ _ Obj.key_ne, State.rd_wr_other _ _ Obj.key_ne,
      State.rd_congr (State.setCal_regs ..)]
  have hrest := calEnd_rest s p
  have hreads := calEnd_reads s p
  have hdeadline := calEnd_deadline s p (a := .dpd p.val) (by simp)
  unfold State.linePhaseEnd
  generalize s.calEnd p = u at *
  obtain ⟨hlisten, htimer, hblobs, hfaults⟩ := toListen_spec hcal 8
  refine ⟨State.portState_toState .., hreads.trans hlisten, htimer.trans hdeadline, ?_, ?_⟩
  · rw [hblobs, hrest]
  · rw [hfaults, hrest]

theorem linePhaseEnd_readied (s : State) (p : Port) : s.Readied (s.linePhaseEnd p) :=
  (calEnd_readied s p).trans (State.toState_windowed (.refl _)).readied

/-- Step 4 of a calibration ends the line phase; in service the port stays in its state. -/
theorem stepFourEnd_spec (hrecord : t.ReadsBut [Reg.LP_CAL_suspect] u)
    (hrest : u = { t with regs := u.regs, merge := u.merge }) :
    (if t.inStep4 p then u.linePhaseEnd p else t).portState p = (if t.inStep4 p = true then stListen else t.portState p)
      ∧ t.ReadsBut (Reg.LP_CAL_suspect :: lineEndObjects) (if t.inStep4 p then u.linePhaseEnd p else t)
      ∧ (if t.inStep4 p then u.linePhaseEnd p else t).deadline (.dpd p.val) = t.deadline (.dpd p.val)
      ∧ (if t.inStep4 p then u.linePhaseEnd p else t).blobs = t.blobs
      ∧ (if t.inStep4 p then u.linePhaseEnd p else t).faults = t.faults := by
  by_cases hstep : t.inStep4 p = true
  · have hcal : u.portState p = stCal := by
      unfold State.portState
      rw [hrecord.rd (by decide) p.isLt (by decide)]
      exact (of_decide_eq_true hstep).1
    obtain ⟨hlisten, hreads, hdeadline, hblobs, hfaults⟩ := linePhaseEnd_spec hcal
    rw [if_pos hstep, if_pos hstep]
    refine ⟨hlisten, (hrecord.mono (by decide)).trans (hreads.mono (by decide)), ?_, ?_, ?_⟩
    · rw [hdeadline, State.deadline_congr (show _ = t.timers by rw [hrest])]
    · rw [hblobs, hrest]
    · rw [hfaults, hrest]
  · rw [if_neg hstep, if_neg hstep]
    exact ⟨rfl, .refl t, rfl, rfl, rfl⟩

theorem inStep4_congr (hstate : t.portState p = s.portState p) (hstep : (t.port p).cal.step = (s.port p).cal.step) :
    t.inStep4 p = s.inStep4 p := by
  unfold State.inStep4
  rw [hstate, hstep]

/-! ### Training of the pre-distorter ends (R99, R204) -/

/-- The pre-distorter is frozen with the coefficients measured, and its time limit ends. -/
def State.dpdTrained (s : State) (p : Port) (coefs : Bytes) (residual : Int) : State :=
  let s := (s.wr Reg.LP_DPD_state p 0 dpdFrozen).wrB Reg.LP_DPD_coefficients p 0 coefs
  let s := ((s.wr Reg.LP_DPD_stamp p 0 s.now).wr Reg.LP_DPD_residual p 0 residual).wr Reg.LP_DPD_train p 0 0
  let s := (s.setCal p fun q => { q with waiting := true }).computeLevel p
  (s.dpdEnd p).suspectBit p 4 false

/-- The pre-distorter is in its state of before, and its time limit ends. -/
def State.dpdGivenUp (s : State) (p : Port) : State :=
  let s := (s.wr Reg.LP_DPD_state p 0 (s.port p).dpd.before).wr Reg.LP_DPD_train p 0 0
  (s.dpdEnd p).computeLevel p

theorem dpdEnd_deadline (s : State) (p : Port) : (s.dpdEnd p).deadline (.dpd p.val) = none := State.deadline_disarm_self ..

theorem dpdEnd_cal (s : State) (p : Port) : ((s.dpdEnd p).port p).cal = (s.port p).cal :=
  (congrArg PortState.cal (State.port_setPort_self ..)).trans rfl

theorem suspectBit_reads (s : State) (p : Port) (step : Nat) (b : Bool) :
    s.ReadsBut [Reg.LP_CAL_suspect] (s.suspectBit p step b) := (State.ReadsBut.refl s).wr _ (by decide) p.isLt (by decide)

theorem dpdTrained_reads (s : State) (p : Port) (coefs : Bytes) (residual : Int) : s.ReadsBut
    [Reg.LP_DPD_state, Reg.LP_DPD_stamp, Reg.LP_DPD_residual, Reg.LP_DPD_train, Reg.LP_TX_effective, Reg.LP_CAL_suspect]
    (s.dpdTrained p coefs residual) := by
  have hfrozen := (State.ReadsBut.refl s).wr (l := [Reg.LP_DPD_state, Reg.LP_DPD_stamp, Reg.LP_DPD_residual, Reg.LP_DPD_train,
    Reg.LP_TX_effective, Reg.LP_CAL_suspect]) (o := Reg.LP_DPD_state) (e := 0) dpdFrozen (by decide) p.isLt (by decide)
  have hstamped := (hfrozen.then_regs (State.wrB_regs _ Reg.LP_DPD_coefficients p 0 coefs)).wr (o := Reg.LP_DPD_stamp) (e := 0)
    s.now (by decide) p.isLt (by decide)
  have hcleared := (hstamped.wr (o := Reg.LP_DPD_residual) (e := 0) residual (by decide) p.isLt (by decide)).wr
    (o := Reg.LP_DPD_train) (e := 0) 0 (by decide) p.isLt (by decide)
  exact (((hcleared.then_regs rfl).wr _ (by decide) p.isLt (by decide)).then_regs rfl).wr _ (by decide) p.isLt (by decide)

theorem dpdTrained_spec (s : State) (p : Port) {coefs : Bytes} (residual : Int) (hcoefs : coefs ≠ []) :
    (s.dpdTrained p coefs residual).rd Reg.LP_DPD_state p = 2
      ∧ (s.dpdTrained p coefs residual).rdB Reg.LP_DPD_coefficients p = coefs
      ∧ (s.dpdTrained p coefs residual).rd Reg.LP_DPD_stamp p = s.now
      ∧ (s.dpdTrained p coefs residual).rd Reg.LP_DPD_residual p = residual
      ∧ (s.dpdTrained p coefs residual).rd Reg.LP_DPD_train p = 0
      ∧ (s.dpdTrained p coefs residual).deadline (.dpd p.val) = none
      ∧ ((s.dpdTrained p coefs residual).port p).cal.step = (s.port p).cal.step := by
  obtain ⟨v, hv⟩ : ∃ v, v = (s.wr Reg.LP_DPD_state p 0 dpdFrozen).wrB Reg.LP_DPD_coefficients p 0 coefs := ⟨_, rfl⟩
  have hstate : v.rd Reg.LP_DPD_state p = 2 := by
    rw [hv, State.rd_congr (State.wrB_regs ..), State.rd_wr_self]
    rfl
  have hcoefficients : v.rdB Reg.LP_DPD_coefficients p = coefs := by
    rw [hv]
    exact State.rdB_wrB_self _ _ _ _ _ hcoefs
  have hnow : v.now = s.now := by
    rw [hv]
    rfl
  have hport : v.port p = s.port p := by
    rw [hv]
    rfl
  obtain ⟨w, hw⟩ : ∃ w, w = ((v.wr Reg.LP_DPD_stamp p 0 v.now).wr Reg.LP_DPD_residual p 0 residual).wr Reg.LP_DPD_train p 0 0 :=
    ⟨_, rfl⟩
  obtain ⟨x, hx⟩ : ∃ x, x = w.setCal p fun q => { q with waiting := true } := ⟨_, rfl⟩
  have hend (y : State) (o : Obj) : (y.dpdEnd p).rd o p = y.rd o p := rfl
  have htrained : s.dpdTrained p coefs residual = ((x.computeLevel p).dpdEnd p).suspectBit p 4 false := by
    rw [hx, hw, hv]
    rfl
  have hreads {o : Obj} (ho : [Reg.LP_TX_effective, Reg.LP_CAL_suspect].all o.apart = true) :
      (s.dpdTrained p coefs residual).rd o p = w.rd o p := by
    have hlevel := (State.ReadsBut.refl x).wr (l := [Reg.LP_TX_effective, Reg.LP_CAL_suspect]) (o := Reg.LP_TX_effective) (e := 0)
      (x.levelInUse p) (by decide) p.isLt (by decide)
    have hsuspect := (suspectBit_reads ((x.computeLevel p).dpdEnd p) p 4 false).mono
      (m := [Reg.LP_TX_effective, Reg.LP_CAL_suspect]) (by decide)
    rw [htrained, hsuspect.rd ho p.isLt (by decide), hend]
    unfold State.computeLevel
    rw [hlevel.rd ho p.isLt (by decide), hx, State.rd_congr (State.setCal_regs ..)]
  refine ⟨?_, ?_, ?_, ?_, ?_, ?_, ?_⟩
  · rw [hreads (by decide), hw, State.rd_wr_other _ _ Obj.key_ne, State.rd_wr_other _ _ Obj.key_ne,
      State.rd_wr_other _ _ Obj.key_ne, hstate]
  · rw [State.rdB_congr (show _ = v.blobs by rw [htrained, hx, hw]; rfl), hcoefficients]
  · rw [hreads (by decide), hw, State.rd_wr_other _ _ Obj.key_ne, State.rd_wr_other _ _ Obj.key_ne, State.rd_wr_self, hnow]
  · rw [hreads (by decide), hw, State.rd_wr_other _ _ Obj.key_ne, State.rd_wr_self]
  · rw [hreads (by decide), hw, State.rd_wr_self]
  · rw [htrained, State.suspectBit, State.deadline_wr, dpdEnd_deadline]
  · rw [htrained, State.suspectBit, State.port_wr, dpdEnd_cal, State.computeLevel, State.port_wr, hx, setCal_cal, hw,
      State.port_wr, State.port_wr, State.port_wr, hport]

theorem dpdGivenUp_spec (s : State) (p : Port) : (s.dpdGivenUp p).rd Reg.LP_DPD_state p = (s.port p).dpd.before
    ∧ (s.dpdGivenUp p).rd Reg.LP_DPD_train p = 0 ∧ (s.dpdGivenUp p).deadline (.dpd p.val) = none
    ∧ (s.dpdGivenUp p).portState p = s.portState p ∧ ((s.dpdGivenUp p).port p).cal.step = (s.port p).cal.step
    ∧ s.dpdGivenUp p = { s with
        regs := (s.dpdGivenUp p).regs, ports := (s.dpdGivenUp p).ports, timers := (s.dpdGivenUp p).timers } := by
  have hend (u : State) (o : Obj) : (u.dpdEnd p).rd o p = u.rd o p := rfl
  unfold State.dpdGivenUp State.computeLevel State.portState
  dsimp only
  refine ⟨?_, ?_, ?_, ?_, ?_, rfl⟩
  · simp (disch := exact Obj.key_ne) only [State.rd_wr_self, State.rd_wr_other, hend]
  · simp (disch := exact Obj.key_ne) only [State.rd_wr_self, State.rd_wr_other, hend]
  · rw [State.deadline_wr, dpdEnd_deadline]
  · simp (disch := exact Obj.key_ne) only [State.rd_wr_other, hend]
  · rw [State.port_wr, dpdEnd_cal]
    rfl

/-! ### Restored values (R204, R518) -/

/-- The objects that the abandoning of a training and of a step write. -/
def abandonObjects : List Obj := Reg.LP_DPD_state :: Reg.LP_DPD_train :: Reg.LP_TX_effective :: readyObjects

/-- The values the host restored have HOST as their source. -/
def State.markHost (s : State) (p : Port) (bits : Nat) : State :=
  [(0, Reg.LP_CAL_converter_source), (1, Reg.LP_CAL_linearity_source), (2, Reg.LP_HYBRID_source),
    (4, Reg.LP_CAL_FFE_source)].foldl (fun s x => if bit bits x.1 then s.wr x.2 p 0 calHost else s) s

theorem rd_markIf_self (s : State) (p : Port) (o : Obj) (b : Bool) :
    (if b then s.wr o p 0 calHost else s).rd o p = (if b then calHost else s.rd o p) := by
  split
  · exact State.rd_wr_self ..
  · rfl

theorem rd_markIf_other (s : State) (p : Port) {o q : Obj} (b : Bool) (h : q.apart o = true) :
    (if b then s.wr o p 0 calHost else s).rd q p = s.rd q p := by
  split
  · exact State.rd_wr_other _ _ (Obj.key_ne h p.isLt (by decide) p.isLt (by decide))
  · rfl

theorem markHost_spec (s : State) (p : Port) (bits : Nat) :
    (s.markHost p bits).rd Reg.LP_CAL_converter_source p
        = (if bit bits 0 then calHost else s.rd Reg.LP_CAL_converter_source p)
      ∧ (s.markHost p bits).rd Reg.LP_CAL_linearity_source p
        = (if bit bits 1 then calHost else s.rd Reg.LP_CAL_linearity_source p)
      ∧ (s.markHost p bits).rd Reg.LP_HYBRID_source p = (if bit bits 2 then calHost else s.rd Reg.LP_HYBRID_source p)
      ∧ (s.markHost p bits).rd Reg.LP_CAL_FFE_source p = (if bit bits 4 then calHost else s.rd Reg.LP_CAL_FFE_source p)
      ∧ (s.markHost p bits).rd Reg.LP_DPD_state p = s.rd Reg.LP_DPD_state p
      ∧ (s.markHost p bits).rd Reg.LP_DPD_train p = s.rd Reg.LP_DPD_train p
      ∧ (s.markHost p bits).ports = s.ports := by
  have hports (u : State) (o : Obj) (b : Bool) : (if b then u.wr o p 0 calHost else u).ports = u.ports := by
    split
    · rfl
    · rfl
  unfold State.markHost
  simp only [List.foldl_cons, List.foldl_nil]
  refine ⟨?_, ?_, ?_, ?_, ?_, ?_, ?_⟩
  · rw [rd_markIf_other _ _ _ (by decide), rd_markIf_other _ _ _ (by decide), rd_markIf_other _ _ _ (by decide), rd_markIf_self]
  · rw [rd_markIf_other _ _ _ (by decide), rd_markIf_other _ _ _ (by decide), rd_markIf_self, rd_markIf_other _ _ _ (by decide)]
  · rw [rd_markIf_other _ _ _ (by decide), rd_markIf_self, rd_markIf_other _ _ _ (by decide), rd_markIf_other _ _ _ (by decide)]
  · rw [rd_markIf_self, rd_markIf_other _ _ _ (by decide), rd_markIf_other _ _ _ (by decide), rd_markIf_other _ _ _ (by decide)]
  · rw [rd_markIf_other _ _ _ (by decide), rd_markIf_other _ _ _ (by decide), rd_markIf_other _ _ _ (by decide),
      rd_markIf_other _ _ _ (by decide)]
  · rw [rd_markIf_other _ _ _ (by decide), rd_markIf_other _ _ _ (by decide), rd_markIf_other _ _ _ (by decide),
      rd_markIf_other _ _ _ (by decide)]
  · simp only [hports]

/-- A step that is abandoned leaves the objects that no phase of a calibration writes, and what waits to take effect. -/
theorem abandonStep_readied (s : State) (p : Port) : s.Readied (s.abandonStep p) := by
  have hrecorded : s.Readied ((s.setCal p fun q => { q with runs := [], runBusy := false }).calRecord p (s.port p).cal.step 4
      ((s.port p).cal.runs.length + b2n (s.port p).cal.runBusy)) := by
    obtain ⟨hreads, hcal⟩ := setCal_readied s p (fun q => { q with runs := [], runBusy := false }) (fun _ => rfl) (fun _ => rfl)
    exact ⟨hreads.then_regs (State.calRecord_regs ..), fun q =>
      (congrArg PortState.calKeeping (State.port_congr (State.calRecord_ports ..) q)).trans (hcal q)⟩
  unfold State.abandonStep
  dsimp only
  split
  · obtain ⟨hreads, hcal⟩ := (hrecorded.trans (setCal_readied _ p (fun q => { q with step := 0 }) (fun _ => rfl)
      (fun _ => rfl))).trans (setCal_readied _ p (fun q => { q with due := false }) (fun _ => rfl) (fun _ => rfl))
    exact ⟨hreads.then_regs rfl, hcal⟩
  · split
    · exact hrecorded.trans (stepDone_readied ..)
    · exact hrecorded.trans (setCal_readied _ p (fun q => { q with step := 0, requested := false, wantHybrid := false })
        (fun _ => rfl) (fun _ => rfl))

/-- The coefficients that the host restored are FROZEN, and their training is abandoned. -/
theorem abandonTraining_spec (s : State) (p : Port) : (s.abandonTraining p).rd Reg.LP_DPD_state p = 2
    ∧ (s.abandonTraining p).rd Reg.LP_DPD_train p = 0 ∧ s.ReadsBut abandonObjects (s.abandonTraining p)
    ∧ ((s.abandonTraining p).port p).calKeeping = (s.port p).calKeeping := by
  obtain ⟨u, hu⟩ : ∃ u, u = ((s.wr Reg.LP_DPD_state p 0 dpdFrozen).wr Reg.LP_DPD_train p 0 0).disarm (.dpd p.val) := ⟨_, rfl⟩
  have hstate : u.rd Reg.LP_DPD_state p = 2 := by
    rw [hu, State.rd_disarm, State.rd_wr_other _ _ Obj.key_ne, State.rd_wr_self]
    rfl
  have htrain : u.rd Reg.LP_DPD_train p = 0 := by
    rw [hu, State.rd_disarm, State.rd_wr_self]
  have hreads : s.ReadsBut abandonObjects u := by
    rw [hu]
    refine .then_regs ?_ (State.disarm_regs ..)
    exact ((State.ReadsBut.refl s).wr _ (by decide) p.isLt (by decide)).wr _ (by decide) p.isLt (by decide)
  have hport : u.port p = s.port p := by
    rw [hu]
    rfl
  -- what follows an abandoned training leaves the state and the request of the pre-distorter
  have hended (v : State) (hv : u.ReadsBut (Reg.LP_TX_effective :: readyObjects) v)
      (hcal : (v.port p).calKeeping = (u.port p).calKeeping) : v.rd Reg.LP_DPD_state p = 2 ∧ v.rd Reg.LP_DPD_train p = 0
        ∧ s.ReadsBut abandonObjects v ∧ (v.port p).calKeeping = (s.port p).calKeeping := by
    refine ⟨?_, ?_, hreads.trans (hv.mono (by decide)), ?_⟩
    · rw [hv.rd (by decide) p.isLt (by decide), hstate]
    · rw [hv.rd (by decide) p.isLt (by decide), htrain]
    · rw [hcal, hport]
  have hrecorded : u.ReadsBut (Reg.LP_TX_effective :: readyObjects) (((u.dpdEnd p).computeLevel p).calRecord p 4 4 0) :=
    ((State.ReadsBut.of_regs rfl).wr _ (by decide) p.isLt (by decide)).then_regs (State.calRecord_regs ..)
  have hkept : ((((u.dpdEnd p).computeLevel p).calRecord p 4 4 0).port p).calKeeping = (u.port p).calKeeping := by
    unfold PortState.calKeeping
    rw [State.port_congr (State.calRecord_ports ..), State.computeLevel, State.port_wr, dpdEnd_cal]
  unfold State.abandonTraining
  dsimp only
  rw [← hu]
  split
  · split
    · obtain ⟨hline, hlineCal⟩ := linePhaseEnd_readied (((u.dpdEnd p).computeLevel p).calRecord p 4 4 0) p
      exact hended _ (hrecorded.trans (hline.mono (by decide))) ((hlineCal p).trans hkept)
    · exact hended _ hrecorded hkept
  · exact hended u (.refl u) rfl

theorem ecTrain_calKeeping (s : State) (p : Port) : ((s.ecTrain p).port p).calKeeping = (s.port p).calKeeping :=
  calKeeping_of_keeping ((State.ecTrain_windowed (.refl s)).keeping p)

theorem ecTrain_cal (s : State) (p : Port) : ((s.ecTrain p).port p).cal = (s.port p).cal := by
  unfold State.ecTrain
  split
  · rfl
  · exact State.port_setPort_keeps PortState.cal _ p _ (by exact fun _ => rfl) p

/-! ### The Porfani ports once the PLLs lock (R570, R577) -/

theorem refclk_pfReset (s : State) (x : Side) : (s.pfReset x).deadline .refclk = s.deadline .refclk
    ∧ (s.pfReset x).rst = s.rst
    ∧ s.ReadsBut [Reg.PF_PORT_width, Reg.PF_PORT_rate, Reg.PF_PORT_lane_map] (s.pfReset x) := by
  obtain ⟨-, hrest⟩ := pfQuietTimers_spec s x
  have hdeadline : (s.pfQuietTimers x).deadline .refclk = s.deadline .refclk := by
    unfold State.pfQuietTimers
    refine (foldl_keeps_mem (fun u : State => u.deadline .refclk) _ ?_ _).trans
      (foldl_keeps_mem (fun u : State => u.deadline .refclk) _ ?_ _)
    · intro u a ha
      obtain ⟨k, -, rfl⟩ := List.mem_map.mp ha
      exact State.deadline_disarm_other _ (by simp)
    · intro u a ha
      refine State.deadline_disarm_other _ ?_
      rintro rfl
      simp at ha
  unfold State.pfReset
  dsimp only
  generalize s.pfQuietTimers x = u at hrest hdeadline
  refine ⟨hdeadline, ?_, ?_⟩
  · rw [State.setLink_rst, State.wr_rst, State.wr_rst, State.wr_rst, hrest]
  · have hregs : s.ReadsBut [Reg.PF_PORT_width, Reg.PF_PORT_rate, Reg.PF_PORT_lane_map] u := .of_regs (by rw [hrest])
    refine .then_regs ?_ (State.setLink_regs ..)
    exact ((hregs.wr _ (by decide) (side_small x) (by decide)).wr _ (by decide) (side_small x) (by decide)).wr _ (by decide)
      (side_small x) (by decide)

/-- An accepted REFCLK at start-up: the PLLs have locked, REFCLK is selected, and the Porfani ports begin. -/
def State.pllsLock (s : State) : State :=
  let s := s.setRst fun fld => { fld with pllLocked := true }
  let s := ((s.wr Reg.BOOT_STATE_state 0 0 3).wr Reg.CLOCK_SELECT_request 0 0 1).wr Reg.CLOCK_SELECT_in_force 0 0 1
  let s := s.pfReset .up
  if s.downUsed then s.pfReset .down else s.pfTo .down pfOff 0

/-- The objects of a Porfani port that its reset and its state write. -/
def pfStartObjects : List Obj := [Reg.PF_PORT_width, Reg.PF_PORT_rate, Reg.PF_PORT_lane_map, Reg.PF_PORT_state]

theorem pllsLock_spec (s : State) : s.pllsLock.rst.pllLocked = true ∧ s.pllsLock.deadline .refclk = s.deadline .refclk
    ∧ s.pllsLock.rd Reg.BOOT_STATE_state = 3 ∧ s.pllsLock.rd Reg.CLOCK_SELECT_in_force = 1
    ∧ s.ReadsBut (Reg.BOOT_STATE_state :: Reg.CLOCK_SELECT_request :: Reg.CLOCK_SELECT_in_force :: pfStartObjects) s.pllsLock := by
  obtain ⟨u, hu⟩ : ∃ u, u = (((s.setRst fun fld => { fld with pllLocked := true }).wr Reg.BOOT_STATE_state 0 0 3).wr
    Reg.CLOCK_SELECT_request 0 0 1).wr Reg.CLOCK_SELECT_in_force 0 0 1 := ⟨_, rfl⟩
  have hlocked : u.rst.pllLocked = true := by
    rw [hu]
    rfl
  have htimer : u.deadline .refclk = s.deadline .refclk := by
    rw [hu]
    rfl
  have hboot : u.rd Reg.BOOT_STATE_state = 3 := by
    rw [hu, State.rd_wr_other _ _ Obj.key_ne, State.rd_wr_other _ _ Obj.key_ne, State.rd_wr_self]
  have hselect : u.rd Reg.CLOCK_SELECT_in_force = 1 := by
    rw [hu, State.rd_wr_self]
  have hwritten : s.ReadsBut (Reg.BOOT_STATE_state :: Reg.CLOCK_SELECT_request :: Reg.CLOCK_SELECT_in_force :: pfStartObjects)
      u := by
    rw [hu]
    exact (((State.ReadsBut.of_regs (State.setRst_regs s _)).wr _ (by decide) (by decide) (by decide)).wr _ (by decide)
      (by decide) (by decide)).wr _ (by decide) (by decide) (by decide)
  -- the port away from the host is reset where it is used, and off where it is not
  have hports : s.pllsLock.deadline .refclk = u.deadline .refclk ∧ s.pllsLock.rst = u.rst
      ∧ u.ReadsBut pfStartObjects s.pllsLock := by
    obtain ⟨hupTimer, hupRst, hup⟩ := refclk_pfReset u .up
    obtain ⟨hdownTimer, hdownRst, hdown⟩ := refclk_pfReset (u.pfReset .up) .down
    unfold State.pllsLock
    dsimp only
    rw [← hu]
    split
    · exact ⟨hdownTimer.trans hupTimer, hdownRst.trans hupRst, (hup.mono (by decide)).trans (hdown.mono (by decide))⟩
    · refine ⟨(deadline_pfTo ..).trans hupTimer, ?_, (hup.mono (by decide)).trans fun q i j hq hi hj => ?_⟩
      · rw [pfTo_rest, hupRst]
      · exact rd_pfTo _ .down _ _ (List.all_eq_true.mp hq _ (by decide)) hi hj
  obtain ⟨hportsTimer, hrst, hreads⟩ := hports
  refine ⟨?_, hportsTimer.trans htimer, ?_, ?_, hwritten.trans (hreads.mono (by decide))⟩
  · rw [hrst, hlocked]
  · rw [hreads.rd (by decide) (by decide) (by decide), hboot]
  · rw [hreads.rd (by decide) (by decide) (by decide), hselect]

/-- REFCLK measured: its state, its value and its stamp. -/
def State.refclkTaken (s : State) (hz : Nat) : State :=
  ((s.wr Reg.CAL_REF_REFCLK_state 0 0 (if decide (24500000 ≤ hz ∧ hz ≤ 25500000) then 1 else 2)).wr Reg.CAL_REF_REFCLK_value 0 0
    hz).wr Reg.CAL_REF_REFCLK_stamp 0 0 s.now

theorem refclkTaken_spec (s : State) (hz : Nat) : (s.refclkTaken hz).rd Reg.CAL_REF_REFCLK_state
      = (if decide (24500000 ≤ hz ∧ hz ≤ 25500000) then 1 else 2)
    ∧ (s.refclkTaken hz).rd Reg.CAL_REF_REFCLK_value = hz ∧ (s.refclkTaken hz).rd Reg.CAL_REF_REFCLK_stamp = s.now
    ∧ (s.refclkTaken hz).rd Reg.BOOT_STATE_state = s.rd Reg.BOOT_STATE_state := by
  unfold State.refclkTaken
  refine ⟨?_, ?_, ?_, ?_⟩
  · rw [State.rd_wr_other _ _ Obj.key_ne, State.rd_wr_other _ _ Obj.key_ne, State.rd_wr_self]
  · rw [State.rd_wr_other _ _ Obj.key_ne, State.rd_wr_self]
  · rw [State.rd_wr_self]
  · rw [State.rd_wr_other _ _ Obj.key_ne, State.rd_wr_other _ _ Obj.key_ne, State.rd_wr_other _ _ Obj.key_ne]

/-- What a check of REFCLK does once it is due (R522). -/
theorem exec_refclkCheck (hz : Nat) (hruns : s.runs = true) (hboot : 2 ≤ s.rd Reg.BOOT_STATE_state)
    (hdue : s.due .refclk = true ∨ s.refclkAsked = true) : exec (.refclkCheck hz) s =
      .next ((if !decide (24500000 ≤ hz ∧ hz ≤ 25500000) then
          (s.refclkTaken hz).arm .refclk ((s.refclkTaken hz).now + nsPerSec)
        else if ((s.refclkTaken hz).disarm .refclk).rd Reg.BOOT_STATE_state ≠ 2 then (s.refclkTaken hz).disarm .refclk
        else ((s.refclkTaken hz).disarm .refclk).pllsLock).keep s) := guarded_pos s ⟨hruns, hboot, hdue⟩

/-- Settles O15: training of the pre-distorter, recalibration, restored values and the references complete. -/
theorem trainingAndRecalibrationComplete : Obligations.TrainingAndRecalibrationComplete := by
  unfold Obligations.TrainingAndRecalibrationComplete
  refine ⟨?start, ?trained, ?timeout, ?due, ?overdue, ?restore, ?effect, ?retrains, ?refres, ?refused, ?locks, ?accepted⟩
  case start =>
    intro s p hruns hstate hasked
    have hidle : s.dpdTrains p = false := decide_eq_false hstate
    refine ⟨(s.dpdStart p).keep s, guarded_pos s ⟨hruns, by rw [hidle]; rfl, hasked⟩, ?_, ?_, ?_, ?_, ?_, ?_, ?_⟩
    · rw [State.rd_keep, State.dpdStart, State.computeLevel, State.rd_wr_other _ _ Obj.key_ne, State.rd_arm, State.rd_setPort,
        State.rd_wr_self]
      rfl
    · rw [State.port_keep, State.dpdStart, State.computeLevel, State.port_wr, State.port_arm, State.port_setPort_self]
    · rw [State.port_keep, State.dpdStart, State.computeLevel, State.port_wr, State.port_arm, State.port_setPort_self]
      refine if_neg fun h => hstate ?_
      unfold State.rdN at h
      omega
    · rw [State.deadline_keep, State.dpdStart, State.computeLevel, State.deadline_wr, State.deadline_arm_self]
      rfl
    · rfl
    · rfl
    · rfl
  case trained =>
    intro s p coefs residual hruns hstate htime hlength
    have htrains : s.dpdTrains p = true := decide_eq_true hstate
    have hcoefs : coefs ≠ [] := by
      rintro rfl
      simp at hlength
    obtain ⟨hfrozen, hcoefficients, hstamp, hresidual, hasked, htimer, hstep⟩ := dpdTrained_spec s p residual hcoefs
    have hreads := dpdTrained_reads s p coefs residual
    have hexec : exec (.dpdTrainingEnd p coefs residual) s = .next ((if ((s.dpdTrained p coefs residual).ecTrain p).inStep4 p
        then (((s.dpdTrained p coefs residual).ecTrain p).calRecord p 4 0 0).linePhaseEnd p
        else (s.dpdTrained p coefs residual).ecTrain p).keep s) := guarded_pos s ⟨hruns, htrains, htime, hlength⟩
    generalize s.dpdTrained p coefs residual = v at *
    have htrain := ecTrain_reads v p
    obtain ⟨-, -, hrest⟩ := ecTrain_spec v p
    have hcanceller := ecTrain_state v p
    have hkeptStep : ((v.ecTrain p).port p).cal.step = (s.port p).cal.step := by
      rw [ecTrain_cal, hstep]
    have hportState : (v.ecTrain p).portState p = s.portState p := by
      unfold State.portState
      rw [htrain.rd (by decide) p.isLt (by decide), hreads.rd (by decide) p.isLt (by decide)]
    have hstep4 := inStep4_congr hportState hkeptStep
    generalize v.ecTrain p = x at *
    have hrecord : x.ReadsBut [Reg.LP_CAL_suspect] (x.calRecord p 4 0 0) := .of_regs (State.calRecord_regs ..)
    obtain ⟨hafter, hend, hdeadline, hblobs, -⟩ := stepFourEnd_spec (p := p) hrecord rfl
    generalize (if x.inStep4 p then (x.calRecord p 4 0 0).linePhaseEnd p else x) = y at *
    refine ⟨_, hexec, ?_, ?_, ?_, ?_, ?_, ?_, fun huncleared => ?_, ?_⟩
    · rw [State.rd_keep, hend.rd (by decide) p.isLt (by decide), htrain.rd (by decide) p.isLt (by decide), hfrozen]
    · rw [State.rdB_keep, State.rdB_congr hblobs, State.rdB_congr (show _ = v.blobs by rw [hrest]), hcoefficients]
    · rw [State.rd_keep, hend.rd (by decide) p.isLt (by decide), htrain.rd (by decide) p.isLt (by decide), hstamp]
    · rw [State.rd_keep, hend.rd (by decide) p.isLt (by decide), htrain.rd (by decide) p.isLt (by decide), hresidual]
    · rw [State.rd_keep, hend.rd (by decide) p.isLt (by decide), htrain.rd (by decide) p.isLt (by decide), hasked]
    · rw [State.deadline_keep, hdeadline, State.deadline_congr (show _ = v.timers by rw [hrest]), htimer]
    · rw [State.rd_keep, hend.rd (by decide) p.isLt (by decide), hcanceller, if_neg]
      rwa [hreads.rd (by decide) p.isLt (by decide)]
    · rw [State.portState_keep, hafter, hstep4, hportState]
  case timeout =>
    intro s p hruns hstate hpassed htime
    have htrains : s.dpdTrains p = true := decide_eq_true hstate
    obtain ⟨hbefore, hasked, htimer, hkeptState, hstep, hrest⟩ := dpdGivenUp_spec s p
    have hexec : exec (.dpdTimeout p) s = .next ((if ((s.dpdGivenUp p).raiseLine p 0x03 0).inStep4 p
        then ((((s.dpdGivenUp p).raiseLine p 0x03 0).suspectBit p 4 true).calRecord p 4 2 0).linePhaseEnd p
        else (s.dpdGivenUp p).raiseLine p 0x03 0).keep s) := guarded_pos s ⟨hruns, htrains, hpassed, htime⟩
    generalize s.dpdGivenUp p = v at *
    have hfaults : (v.raiseLine p 0x03 0).faults = s.reported (srcLine p) clsLine 0x03 p.val 0 1 :=
      State.raise_reported (t := v) p.val 0 (by rfl) (sourceOf_srcLine p _) (by rw [hrest]) (by rw [hrest]) (by rw [hrest])
    have hportState : (v.raiseLine p 0x03 0).portState p = s.portState p := by
      rw [State.portState_congr (State.raiseLine_regs ..), hkeptState]
    have hstep4 := inStep4_congr hportState (by rw [State.port_congr (State.raiseLine_ports ..), hstep])
    have hraised (q : Obj) : (v.raiseLine p 0x03 0).rd q p = v.rd q p := State.rd_raiseLine ..
    have hraisedBlobs := State.raiseLine_blobs v p 0x03 0
    have hraisedTimers := State.raiseLine_timers v p 0x03 0
    generalize v.raiseLine p 0x03 0 = x at *
    have hrecord : x.ReadsBut [Reg.LP_CAL_suspect] ((x.suspectBit p 4 true).calRecord p 4 2 0) :=
      (suspectBit_reads x p 4 true).then_regs (State.calRecord_regs ..)
    obtain ⟨hafter, hend, hdeadline, hblobs, hkeptFaults⟩ := stepFourEnd_spec (p := p) hrecord rfl
    generalize (if x.inStep4 p then ((x.suspectBit p 4 true).calRecord p 4 2 0).linePhaseEnd p else x) = y at *
    refine ⟨_, hexec, ?_, ?_, ?_, ?_, ?_, ?_⟩
    · rw [State.rd_keep, hend.rd (by decide) p.isLt (by decide), hraised, hbefore]
    · rw [State.rd_keep, hend.rd (by decide) p.isLt (by decide), hraised, hasked]
    · rw [State.rdB_keep, State.rdB_congr hblobs, State.rdB_congr hraisedBlobs, State.rdB_congr (show _ = s.blobs by rw [hrest])]
    · rw [State.deadline_keep, hdeadline, State.deadline_congr hraisedTimers, htimer]
    · rw [State.keep_faults, hkeptFaults, hfaults]
    · rw [State.portState_keep, hafter, hstep4, hportState]
  case due =>
    intro s p hruns hreached hdue
    refine ⟨_, guarded_pos s ⟨hruns, hreached, by rw [hdue]; rfl⟩, rfl, ?_, ?_⟩
    · rw [State.port_keep, State.port_arm, setCal_cal]
    · rw [State.deadline_keep, State.deadline_arm_self]
      rfl
  case overdue =>
    intro s p hruns hreached hdue
    refine ⟨_, guarded_pos s ⟨hruns, hreached, hdue⟩, rfl, ?_, ?_⟩
    · rw [State.rd_keep, State.rd_arm, State.rd_inc_self]
    · rw [State.deadline_keep, State.deadline_arm_self]
      have hinterval : (s.inc Reg.LP_CAL_OVERDUE p).rd Reg.LP_CAL_CTL_interval p = s.rd Reg.LP_CAL_CTL_interval p :=
        State.rd_inc_other _ _ Obj.key_ne
      have hnow : (s.inc Reg.LP_CAL_OVERDUE p).now = s.now := rfl
      rw [nsPerSec]
  case restore =>
    intro s p hruns hrestored
    obtain ⟨bits, hbits⟩ : ∃ bits, bits = (s.port p).cal.restored := ⟨_, rfl⟩
    rw [← hbits] at hrestored ⊢
    obtain ⟨u, hu⟩ : ∃ u, u = s.setCal p fun q => { q with restored := 0, waiting := true } := ⟨_, rfl⟩
    have hexec : exec (.calRestore p) s = .next ((if bit bits 3
        then (((if (u.markHost p bits).restoreHits p bits then (u.markHost p bits).abandonStep p else u.markHost p bits
          ).abandonTraining p).ecTrain p)
        else (if (u.markHost p bits).restoreHits p bits then (u.markHost p bits).abandonStep p else u.markHost p bits
          )).keep s) := by
      have hunfold : exec (.calRestore p) s = execCalRestore p s := rfl
      rw [hunfold, execCalRestore, hu, ← hbits]
      exact guarded_pos s ⟨hruns, hrestored⟩
    have hrd (o : Obj) : u.rd o p = s.rd o p := by
      rw [hu]
      rfl
    have hcleared : (u.port p).cal.restored = 0 := by
      rw [hu, setCal_cal]
    obtain ⟨hconverter, hlinearity, hhybrid, hffe, hdpd, htrain, hports⟩ := markHost_spec u p bits
    simp only [hrd] at hconverter hlinearity hhybrid hffe hdpd htrain
    generalize u.markHost p bits = v at *
    have hstep : v.Readied (if v.restoreHits p bits then v.abandonStep p else v) := by
      split
      · exact abandonStep_readied v p
      · exact ⟨.refl v, fun _ => rfl⟩
    generalize (if v.restoreHits p bits then v.abandonStep p else v) = w at *
    obtain ⟨hreads, hcal⟩ := hstep
    have hwcal : (w.port p).calKeeping.2 = 0 := by
      rw [hcal, State.port_congr hports]
      exact hcleared
    -- the coefficients of the pre-distorter apart, what follows writes no source
    have hrest (y : State) (hy : w.ReadsBut (Reg.LP_EC_state :: abandonObjects) y)
        (hkeeping : (y.port p).calKeeping = (w.port p).calKeeping) (hdpdState : y.rd Reg.LP_DPD_state p
          = (if bit bits 3 then 2 else s.rd Reg.LP_DPD_state p)) (hdpdTrain : y.rd Reg.LP_DPD_train p
          = (if bit bits 3 then 0 else s.rd Reg.LP_DPD_train p)) :
        ((y.keep s).port p).cal.restored = 0
          ∧ (y.keep s).rd Reg.LP_CAL_converter_source p = (if bit bits 0 then calHost else s.rd Reg.LP_CAL_converter_source p)
          ∧ (y.keep s).rd Reg.LP_CAL_linearity_source p = (if bit bits 1 then calHost else s.rd Reg.LP_CAL_linearity_source p)
          ∧ (y.keep s).rd Reg.LP_HYBRID_source p = (if bit bits 2 then calHost else s.rd Reg.LP_HYBRID_source p)
          ∧ (y.keep s).rd Reg.LP_CAL_FFE_source p = (if bit bits 4 then calHost else s.rd Reg.LP_CAL_FFE_source p)
          ∧ (y.keep s).rd Reg.LP_DPD_state p = (if bit bits 3 then 2 else s.rd Reg.LP_DPD_state p)
          ∧ (y.keep s).rd Reg.LP_DPD_train p = (if bit bits 3 then 0 else s.rd Reg.LP_DPD_train p) := by
      refine ⟨?_, ?_, ?_, ?_, ?_, ?_, ?_⟩
      · rw [State.port_keep]
        exact (congrArg Prod.snd hkeeping).trans hwcal
      · rw [State.rd_keep, hy.rd (by decide) p.isLt (by decide), hreads.rd (by decide) p.isLt (by decide), hconverter]
      · rw [State.rd_keep, hy.rd (by decide) p.isLt (by decide), hreads.rd (by decide) p.isLt (by decide), hlinearity]
      · rw [State.rd_keep, hy.rd (by decide) p.isLt (by decide), hreads.rd (by decide) p.isLt (by decide), hhybrid]
      · rw [State.rd_keep, hy.rd (by decide) p.isLt (by decide), hreads.rd (by decide) p.isLt (by decide), hffe]
      · rw [State.rd_keep, hdpdState]
      · rw [State.rd_keep, hdpdTrain]
    by_cases hthree : bit bits 3 = true
    · rw [if_pos hthree] at hexec
      obtain ⟨hfrozen, hasked, habandoned, hkeeping⟩ := abandonTraining_spec w p
      have hcanceller := ecTrain_reads (w.abandonTraining p) p
      refine ⟨_, hexec, hrest _ ?_ ?_ ?_ ?_⟩
      · exact (habandoned.mono (by decide)).trans (hcanceller.mono (by decide))
      · rw [ecTrain_calKeeping, hkeeping]
      · rw [if_pos hthree, hcanceller.rd (by decide) p.isLt (by decide), hfrozen]
      · rw [if_pos hthree, hcanceller.rd (by decide) p.isLt (by decide), hasked]
    · rw [if_neg hthree] at hexec
      refine ⟨_, hexec, hrest w (.refl w) rfl ?_ ?_⟩
      · rw [if_neg hthree, hreads.rd (by decide) p.isLt (by decide), hdpd]
      · rw [if_neg hthree, hreads.rd (by decide) p.isLt (by decide), htrain]
  case effect =>
    intro s p hruns hwaiting hbetween hsame
    obtain ⟨u, hu⟩ : ∃ u, u = s.setCal p fun q => { q with waiting := false, inForce := some (s.calValues p) } := ⟨_, rfl⟩
    have hexec : exec (.correctionEffect p) s = .next ((if u.rd Reg.LP_HYBRID_setting p = (u.port p).hybrid then u
        else (u.setPort p fun q => { q with hybrid := u.rd Reg.LP_HYBRID_setting p }).ecTrain p).keep s) := by
      rw [hu]
      exact guarded_pos s ⟨hruns, hwaiting, hbetween⟩
    have hhybrid : (u.port p).hybrid = (s.port p).hybrid := by
      rw [hu]
      exact State.port_setPort_keeps PortState.hybrid _ p _ (by exact fun _ => rfl) p
    have hkept : u.rd Reg.LP_HYBRID_setting p = s.rd Reg.LP_HYBRID_setting p := by
      rw [hu]
      rfl
    rw [hexec, hkept, hhybrid, if_pos hsame, hu]
    rfl
  case retrains =>
    intro s p hruns hwaiting hbetween hnew
    obtain ⟨u, hu⟩ : ∃ u, u = s.setCal p fun q => { q with waiting := false, inForce := some (s.calValues p) } := ⟨_, rfl⟩
    have hexec : exec (.correctionEffect p) s = .next ((if u.rd Reg.LP_HYBRID_setting p = (u.port p).hybrid then u
        else (u.setPort p fun q => { q with hybrid := u.rd Reg.LP_HYBRID_setting p }).ecTrain p).keep s) := by
      rw [hu]
      exact guarded_pos s ⟨hruns, hwaiting, hbetween⟩
    have hport : u.port p = { s.port p with
        cal := { (s.port p).cal with waiting := false, inForce := some (s.calValues p) } } := by
      rw [hu]
      exact State.port_setPort_self ..
    have hregs : u.regs = s.regs := by rw [hu, State.setCal_regs]
    rw [State.rd_congr hregs, if_neg (by rwa [hport])] at hexec
    obtain ⟨w, hw⟩ : ∃ w, w = u.setPort p fun q => { q with hybrid := s.rd Reg.LP_HYBRID_setting p } := ⟨_, rfl⟩
    rw [← hw] at hexec
    have hwport : w.port p = { u.port p with hybrid := s.rd Reg.LP_HYBRID_setting p } := by
      rw [hw, State.port_setPort_self]
    obtain ⟨htaps, hset, -⟩ := ecTrain_spec w p
    have hcal := ecTrain_cal w p
    refine ⟨_, hexec, ?_, ?_, ?_, ?_, ?_⟩
    · rw [State.port_keep, hcal, hwport, hport]
    · rw [State.port_keep, hcal, hwport, hport]
    · rw [State.port_keep, hset, hwport]
    · rw [State.port_keep, htaps, hwport, hport]
    · rw [State.rd_keep, ecTrain_state, State.rd_congr (show _ = s.regs by rw [hw, State.setPort_regs, hregs])]
  case refres =>
    intro s mohm hruns hboot hdue
    obtain ⟨new, hnew⟩ : ∃ new : Int, new = if 1960000 ≤ mohm ∧ mohm ≤ 2040000 then 1 else 2 := ⟨_, rfl⟩
    obtain ⟨u, hu⟩ : ∃ u, u = ((s.wr Reg.CAL_REF_REFRES_state 0 0 new).wr Reg.CAL_REF_REFRES_value 0 0 mohm).wr
      Reg.CAL_REF_REFRES_stamp 0 0 s.now := ⟨_, rfl⟩
    obtain ⟨v, hv⟩ : ∃ v, v = if decide (s.rd Reg.CAL_REF_REFRES_state ≠ new) then
      u.issue srcSteward 0x0D01 ([0xFF, 0] ++ be 1 (if new = 1 then 6 else 2) ++ [0, 0, 0, 0, 0]) else u := ⟨_, rfl⟩
    have hexec : exec (.refresCheck mohm) s = .next ((v.arm .refres (v.now + 900000000000)).keep s) := by
      rw [hv, hu, hnew]
      exact guarded_pos s ⟨hruns, hboot, hdue⟩
    have hrest : v = { u with merge := v.merge } := by
      rw [hv]
      split
      · rfl
      · rfl
    have hregs : v.regs = u.regs := by rw [hrest]
    have hnow : v.now = s.now := by
      rw [hrest, hu]
      rfl
    refine ⟨_, hexec, ?_, ?_, ?_, ?_, ?_, ?_⟩
    · rw [State.rd_keep, State.rd_arm, State.rd_congr hregs, hu, State.rd_wr_other _ _ Obj.key_ne, State.rd_wr_self]
    · rw [State.rd_keep, State.rd_arm, State.rd_congr hregs, hu, State.rd_wr_self]
    · rw [State.rd_keep, State.rd_arm, State.rd_congr hregs, hu, State.rd_wr_other _ _ Obj.key_ne,
        State.rd_wr_other _ _ Obj.key_ne, State.rd_wr_self, hnew]
    · rw [State.deadline_keep, State.deadline_arm_self, hnow]
    · rw [State.keep_ports, State.arm_ports, hrest, hu]
      rfl
    · rw [State.keep_out, State.arm_out, hrest, hu]
      rfl
  case refused =>
    intro s hz hruns hboot hdue hout
    have hbad : decide (24500000 ≤ hz ∧ hz ≤ 25500000) = false := decide_eq_false (by omega)
    have hexec := exec_refclkCheck hz hruns hboot hdue
    rw [if_pos (by rw [hbad]; rfl)] at hexec
    obtain ⟨hstate, hvalue, hstamp, hkept⟩ := refclkTaken_spec s hz
    refine ⟨_, hexec, rfl, ?_, ?_, ?_, ?_, ?_⟩
    · rw [State.rd_keep, State.rd_arm, hstate, hbad]
      rfl
    · rw [State.rd_keep, State.rd_arm, hvalue]
    · rw [State.rd_keep, State.rd_arm, hstamp]
    · rw [State.deadline_keep, State.deadline_arm_self]
      rfl
    · rw [State.rd_keep, State.rd_arm, hkept]
  case locks =>
    intro s hz hruns hboot hdue hlow hhigh
    have hgood : decide (24500000 ≤ hz ∧ hz ≤ 25500000) = true := decide_eq_true ⟨hlow, hhigh⟩
    obtain ⟨hstate, hvalue, hstamp, hkept⟩ := refclkTaken_spec s hz
    have hstart : ¬((s.refclkTaken hz).disarm .refclk).rd Reg.BOOT_STATE_state ≠ 2 := by
      rw [State.rd_disarm, hkept, hboot]
      exact fun h => h rfl
    have hexec := exec_refclkCheck hz hruns hboot.ge hdue
    rw [if_neg (by rw [hgood]; decide), if_neg hstart] at hexec
    obtain ⟨hlocked, htimer, hready, hselected, hreads⟩ := pllsLock_spec ((s.refclkTaken hz).disarm .refclk)
    refine ⟨_, hexec, ?_, ?_, ?_, ?_, ?_, ?_, ?_⟩
    · rw [State.rd_keep, hreads.rd (by decide) (by decide) (by decide), State.rd_disarm, hstate, hgood]
      rfl
    · rw [State.rd_keep, hreads.rd (by decide) (by decide) (by decide), State.rd_disarm, hvalue]
    · rw [State.rd_keep, hreads.rd (by decide) (by decide) (by decide), State.rd_disarm, hstamp]
    · rw [State.keep_rst, hlocked]
    · rw [State.rd_keep, hready]
    · rw [State.rd_keep, hselected]
    · rw [State.deadline_keep, htimer, State.deadline_disarm_self]
  case accepted =>
    intro s hz hruns hboot hdue hlow hhigh
    have hgood : decide (24500000 ≤ hz ∧ hz ≤ 25500000) = true := decide_eq_true ⟨hlow, hhigh⟩
    obtain ⟨hstate, hvalue, hstamp, hkept⟩ := refclkTaken_spec s hz
    have hrunning : ((s.refclkTaken hz).disarm .refclk).rd Reg.BOOT_STATE_state ≠ 2 := by
      rw [State.rd_disarm, hkept]
      exact hboot.ne'
    have hexec := exec_refclkCheck hz hruns hboot.le hdue
    rw [if_neg (by rw [hgood]; decide), if_pos hrunning] at hexec
    refine ⟨_, hexec, rfl, ?_, ?_, ?_, ?_, ?_⟩
    · rw [State.rd_keep, State.rd_disarm, hstate, hgood]
      rfl
    · rw [State.rd_keep, State.rd_disarm, hvalue]
    · rw [State.rd_keep, State.rd_disarm, hstamp]
    · rw [State.deadline_keep, State.deadline_disarm_self]
    · rw [State.rd_keep, State.rd_disarm, hkept]

end Sys2Proof.Machine
end
